-- ==== Sys2Proof/Word.lean ====
section
/-! DEFINITION. The word types of the module and their plainest arithmetic. -/

namespace Sys2Proof

/-- One byte. -/
abbrev Byte := BitVec 8

/-- A register of BAR0: 32 bits (R6). -/
abbrev Word := BitVec 32

/-- A scalar register of a task context: 64 bits (R348). -/
abbrev DWord := BitVec 64

/-- A vector register of a task context: 512 bits (R348). -/
abbrev Vec := BitVec 512

/-- The larger of two naturals, by name. -/
abbrev natMax (a b : Nat) : Nat := if a ≤ b then b else a

/-- `v` held between `lo` and `hi`. -/
abbrev clampNat (lo hi v : Nat) : Nat := if v < lo then lo else if hi < v then hi else v

/-- `v + 1`, saturating at `top`. -/
abbrev satInc (top v : Nat) : Nat := if v < top then v + 1 else top

end Sys2Proof
end

