-- ==== Sys2Proof/Tab.lean ====
section
/-! DEFINITION. Tables keyed by a natural number, in one canonical form: keys strictly rising and no entry equal to what
an unlisted key reads as. Memory, registers and every numbered set of instances are such tables. -/

namespace Sys2Proof

/-- A table from keys to values; an unlisted key reads as the default its reader names. -/
abbrev Tab (α : Type) := List (Nat × α)

/-- The value at key `k`, or `d k` where the table lists none. -/
def Tab.get {α : Type} (d : Nat → α) : Tab α → Nat → α
  | [], k => d k
  | (j, v) :: t, k => if j = k then v else Tab.get d t k

/-- Every entry of key `k` removed. -/
def Tab.del {α : Type} : Tab α → Nat → Tab α
  | [], _ => []
  | (j, v) :: t, k => if j = k then Tab.del t k else (j, v) :: Tab.del t k

/-- An entry inserted at its place by key. -/
def Tab.ins {α : Type} : Tab α → Nat → α → Tab α
  | [], k, v => [(k, v)]
  | (j, w) :: t, k, v => if k < j then (k, v) :: (j, w) :: t else (j, w) :: Tab.ins t k v

/-- The table with `v` at key `k`; a value equal to the default is not listed. -/
def Tab.set {α : Type} [DecidableEq α] (d : Nat → α) (t : Tab α) (k : Nat) (v : α) : Tab α :=
  if v = d k then Tab.del t k else Tab.ins (Tab.del t k) k v

/-- The canonical form: keys strictly rising, no entry equal to the default of its key. -/
abbrev Tab.wf {α : Type} (d : Nat → α) (t : Tab α) : Prop :=
  t.Pairwise (fun a b => a.1 < b.1) ∧ ∀ p ∈ t, p.2 ≠ d p.1

/-- The value stored at key `k`, where there is one. -/
def Tab.find {α : Type} : Tab α → Nat → Option α
  | [], _ => none
  | (j, v) :: t, k => if j = k then some v else Tab.find t k

/-- The table with an entry `v` at key `k`, whatever `v` is. -/
def Tab.put {α : Type} (t : Tab α) (k : Nat) (v : α) : Tab α := Tab.ins (Tab.del t k) k v

end Sys2Proof
end

