-- ==== Sys2Proof/Parts/Common.lean ====
section
/-! DEFINITION. What several parts of the state share: status codes, short times, records, modes. -/

namespace Sys2Proof

/-- The status codes (*Status codes*, R502). -/
inductive Status where
  | ok | abandoned | drained | checkFail | checkFailClean | headerFail | lookbackExpired | settling
  | ranging | calDisagree | calWindow | noParent | replay | authFail | denied | unitRetired
  | overrun | breakHeld | absent | foldback | transient | lasting | ledgerReturned | limit
  deriving DecidableEq, Repr, Inhabited

/-- Compass short time: the low 32 bits of the seconds and the nanoseconds (R9). -/
structure Stamp where
  s : Nat := 0
  ns : Nat := 0
  deriving DecidableEq, Repr, Inhabited

/-- A completion or event record (*Record layout*, R499). The phase bit P is added when the record is posted. -/
structure Rec where
  event : Bool
  status : Status
  id : Nat
  page : Nat
  flags : Nat := 0
  t : Stamp := {}
  data : BitVec 128 := 0
  deriving DecidableEq, Repr, Inhabited

/-- The operating modes (*Operating modes*). -/
inductive Mode where
  | off | rest | watch | serve | surge | ember
  deriving DecidableEq, Repr, Inhabited

/-- Who makes a register access: the host, the pack in a resident slot (R34 to R36), or the debug port through its TAP (*Debug
levels*). -/
inductive Who where
  | host
  | pack (slot : Nat)
  | tap
  deriving DecidableEq, Repr, Inhabited

/-- Where a host command came from: a queue pair with its command identifier, or a head-end datagram (R506). -/
inductive Src where
  | queue (pair cid : Nat)
  | headend (port ref : Nat)
  | none
  deriving DecidableEq, Repr, Inhabited

/-- The sequence state of a node (R257, R259): the next transmit value, the committed transmit checkpoint, H, T_H, the
delivered window (bit i: H − i), the committed receive checkpoint, and whether a checkpoint of either side waits to
land. -/
structure SeqState where
  tx : Nat := 1
  ctx : Nat := 0
  h : Nat := 0
  th : Stamp := {}
  win : BitVec 4096 := 0
  crx : Nat := 0
  ckTx : Bool := false
  ckRx : Bool := false
  deriving DecidableEq, Repr, Inhabited

end Sys2Proof
end

