-- ==== Sys2Proof/Parts/Air.lean ====
section
/-! DEFINITION. What native frames carry: management messages, frames waiting or on the line, received frames as a command
names them (chapters 04, 05, 08, 09). -/

namespace Sys2Proof

/-- The management messages the module sends (*Management messages*), with the fields the model keeps. -/
inductive Mgmt where
  | assocResp (eui nm saddr result : Nat)
  | keyConfirmAck (epoch bctr : Nat) (gkph : Bool)
  | toneMap (tmid : Nat) (withdraw : Bool)
  | allocGrant (gid : Nat)
  | allocEnd (gid : Nat)
  | rendezvousSet (pexp phase sidx outPexp outPhase outSidx g outG waddr : Nat)
  | groupKey (gkph : Bool) (actb : Nat)
  | routeSet (rid : Nat) (relays : List Nat)
  | leave (reason : Nat)
  | handoverNotice (target switchB : Nat)
  | rangeReq (n : Nat)
  deriving DecidableEq, Repr

/-- An entry of an acknowledgement frame: sequence number, HARQ process, result, transmission number. -/
structure AckEntry where
  seq : Nat
  harq : Nat
  result : Nat
  txn : Nat
  deriving DecidableEq, Repr

/-- *Network beacon body*: `btime` is the Compass time of the first preamble sample as (seconds, nanoseconds), `pend` the sleep indexes set in PEND. -/
structure BeaconBody where
  bnum : Nat
  btime : Nat × Nat
  ivl : Nat
  flags : Nat
  epoch : Nat
  ver : Nat
  tpart : Nat × Nat × Nat
  pend : List Nat
  entries : List Nat
  deriving DecidableEq, Repr

/-- The content of a frame the module sends. -/
inductive Body where
  | data (svc len : Nat)
  | tokens (lids : List Nat)
  | ack (h : Nat) (dmap : BitVec 32) (entries : List AckEntry)
  | mgmt (m : Mgmt)
  | stream
  | netBeacon (b : BeaconBody)
  | discBeacon (bnum : Nat) (btime : Nat × Nat) (ivl : Nat) (entries : List Nat)
  | sounding (req nsnd : Nat)
  | wakeTiming
  | wakePattern (addr : Nat)
  | empty
  deriving DecidableEq, Repr

/-- Where a frame stands: waiting for an allocation, scheduled, on the line, or sent and waiting for its acknowledgement. -/
inductive FrameState where
  | waiting | scheduled | running | sent
  deriving DecidableEq, Repr, Inhabited

/-- A frame the module sends: its group, destination (0xFFFF broadcast), content, sequence number once it has one,
whether it asks for an acknowledgement, its transmission number, how often its data has been sent again as a new frame
(R280), the sequence number of the first frame of its data, the command that asked for it, its ports and path and start
slot once scheduled, when the module accepted it, its prefix, carrier groups, tone map and payload symbols once scheduled, its HARQ process, and which
draw of payload bytes it carries (log entry 183). -/
structure Frame where
  id : Nat
  fg : Nat
  dst : Nat
  body : Body
  seq : Option Nat := none
  ackReq : Bool := false
  txn : Nat := 0
  resent : Nat := 0
  firstSeq : Option Nat := none
  src : Src := .none
  ports : List Nat := []
  path : Nat := 1
  cycle : Nat := 0
  slot : Nat := 0
  mcs : Nat := 0
  state : FrameState := .waiting
  relay : List Nat := []
  since : Stamp := {}
  cp : Bool := false
  cgFirst : Nat := 0
  cgLast : Nat := 61
  tmid : Nat := 0
  nsym : Nat := 0
  harq : Nat := 0
  text : Nat := 0
  deriving DecidableEq, Repr

/-- The measurement of one carrier in one slot, in 1/32 dB, averaged in linear power over the frame's symbols of that slot (R177). -/
structure Meas where
  slot : Nat
  carrier : Nat
  snr : Int
  deriving DecidableEq, Repr

/-- The header fields of a frame inside a relay frame (R277), as its 12 bytes give them. -/
structure InnerHdr where
  cls : Nat := 0
  ftype : Nat := 0
  src : Nat := 0
  dst : Nat := 0
  seq : Nat := 0
  len : Nat := 0
  deriving DecidableEq, Repr

/-- A packet of a stream frame (R264): SEQ, LEN, the codewords it lies in, and its first bit counted from the end of the pointer of the first. -/
structure Packet where
  seq : Nat
  len : Nat
  first : Nat
  last : Nat
  ofs : Nat
  deriving DecidableEq, Repr

/-- What a reception read and measured of a frame, before any check: the sync word heard; the header fields and its CRC as decoded (R113); the soft
values of each payload symbol before erasure, in filling order, for a robust mode by data-carrier index (R129, R361); for each symbol the samples of
its window above the impulse threshold (R130) and its deviating pilots (R131); the header SNR in 1/32 dB; the measurements of R177 to R179; the pairs
sounded; the header of the frame inside a relay frame; the L port with the highest preamble power (1 to 3); the sender's frequency offset in 10⁻⁹; the
content of an acknowledgement frame; the packets of a stream frame. Of a standard-mode frame: its own checks, its end, the EUI-64 of a device whose join it completes (R220, R222). -/
structure RxFrame where
  word : BitVec 64 := 0
  hcrc : Nat := 0
  cls : Nat := 0
  ftype : Nat := 0
  cp : Bool := false
  src : Nat := 0
  dst : Nat := 0
  seq : Nat := 0
  cgFirst : Nat := 13
  cgLast : Nat := 60
  mcs : Nat := 5
  tmid : Nat := 0
  nsym : Nat := 0
  len : Nat := 0
  harq : Nat := 0
  txn : Nat := 0
  sec : Bool := true
  stream : Bool := false
  ackReq : Bool := false
  soft : List (List Int) := []
  hits : List Nat := []
  devs : List Nat := []
  svc : Nat := 0
  snr : Int := 0
  nsnd : Nat := 0
  req : Nat := 0
  txp : Nat := 0
  threePhase : Bool := false
  meas : List Meas := []
  mimo : List (Nat × Int × Int) := []
  zcofs : Option Int := none
  inner : Option InnerHdr := none
  port : Option Nat := none
  ppm : Int := 0
  acks : List AckEntry := []
  ackH : Nat := 0
  dmap : BitVec 32 := 0
  packets : List Packet := []
  stdHdr : Bool := true
  stdClean : Bool := true
  stdTag : Bool := true
  stdCrc : Bool := true
  joins : Option Nat := none
  fin : Stamp := {}
  deriving DecidableEq, Repr

end Sys2Proof
end

