-- ==== Sys2Proof/Parts/Rx.lean ====
section
/-! DEFINITION. Detections, receptions, rescans, HARQ buffers (chapters 04 and 05), channel records, tone maps and bands
(chapters 06 and 07). -/

namespace Sys2Proof

/-- What opened a reception: a live detection, a cleaned-span search after reception `of`, rescan `id`, or the allocation of the stream of
`src` (R132). -/
inductive Origin where
  | live | cleaned (of : Nat) | rescan (id : Nat) | stream (src : Nat)
  deriving DecidableEq, Repr

/-- The start RECEPTION_OPEN names: the oldest queued detection, what rescan `id` has found as (start, metric, power), or where the
allocation of a stream puts its next frame (R132). -/
inductive Found where
  | queued | rescan (id : Nat) (start : Stamp) (metric power : Nat) | stream (src : Nat) (start : Stamp)
  deriving DecidableEq, Repr

/-- A detection (R146): the feeder group 0 to 7 or 8 + line link, its start, metric, power, origin, the input or group of the detector that
reports it, and whether it is of a standard mode. -/
structure Detn where
  fg : Nat
  start : Stamp
  metric : Nat
  power : Nat
  origin : Origin := .live
  det : Nat := 0
  std : Bool := false
  deriving DecidableEq, Repr

/-- What a reception waits for: nothing, the next block (R142), the end of a dominant reception (R157), or a receive
checkpoint (R259). -/
inductive RxWait where
  | none | ring | held (by_ : Nat) | checkpoint (f : RxFrame)
  deriving DecidableEq, Repr

/-- An open reception (R151): `cleaned` counts the dominant frames cancelled from it, `eng` is the engine of its task, `need` the time up to which it needs samples, in ns (R142), `above` are the open
dominant receptions whose frames are erased from it (R158) and `spans` the spans of those that have ended, in ns, `eps` is the frozen estimate of ε in 10⁻⁹ (R110). -/
structure Recep where
  id : Nat
  fg : Nat
  start : Stamp
  metric : Nat
  power : Nat
  origin : Origin
  std : Bool
  wait : RxWait := .none
  cleaned : Nat := 0
  eng : Nat := 0
  need : Nat := 0
  above : List Nat := []
  spans : List (Nat × Nat) := []
  eps : Int := 0
  deriving DecidableEq, Repr

/-- An entry of a deferred list (R154): start, SRC, and the missing tone map or, without one, the session key. -/
structure Deferred where
  start : Stamp
  src : Nat
  tmid : Option Nat
  deriving DecidableEq, Repr

/-- A rescan, waiting or running (R163, R164): its group, node (0xFFFF: every tracked neighbour), window, whether only the
deferred list is retried, whether the host asked for it, and the frames found. -/
structure Rescan where
  id : Nat
  fg : Nat
  src : Nat
  t0 : Stamp
  t1 : Stamp
  deferredOnly : Bool := false
  host : Bool := false
  running : Bool := false
  found : Nat := 0
  deriving DecidableEq, Repr

/-- A HARQ buffer (R135, R168): the frame's SEQ and code rate, the line times of its first and latest transmission, how many were combined, and the
8-bit soft value of each codeword bit. -/
structure Harq where
  seq : Nat
  rate : Nat
  first : Stamp
  last : Stamp
  parts : Nat
  soft : List Int := []
  deriving DecidableEq, Repr

/-- What is kept of the stream of a node (R126, R127, R132): the group it is heard in, the header of its last stream frame, when that frame started
and ended in ns, its frozen ε, and the soft values of the super-blocks received, by their number modulo 512. -/
structure StreamRx where
  fg : Nat
  last : RxFrame
  start : Nat
  fin : Nat
  eps : Int
  blocks : List (Nat × List Int) := []
  deriving DecidableEq, Repr

/-- *Erasure defaults*, which the FLP pack configures: the impulse threshold in dB, the blanked samples a window may hold, the step threshold in dB
and in 0.01 rad, the share of pilots in %. -/
structure ErasureCfg where
  impulseDb : Nat := 14
  limit : Nat := 32
  stepDb : Nat := 3
  stepRad : Nat := 35
  share : Nat := 50
  deriving DecidableEq, Repr

/-- Reception: detections queued by group, the last detections of each detector with the time until which their starts are ignored, open receptions,
deferred lists, rescans, spans covered by OK or REPLAY receptions, HARQ buffers by SRC × 16 + HARQ_ID, end counts by (late, group, status), the erasure
settings, the receive states of the sources on line links by link × 65 536 + SRC (R136, R208), and the streams received by SRC. -/
structure Rx where
  queued : Tab (List Detn) := []
  holdoff : List (Nat × Stamp × Nat) := []
  open_ : List Recep := []
  nextId : Nat := 0
  deferred : Tab (List Deferred) := []
  rescans : List Rescan := []
  nextRescan : Nat := 0
  covered : List (Nat × Stamp × Stamp) := []
  harq : Tab (Option Harq) := []
  ends : Tab Nat := []
  hostRescan : Option Nat := none
  erasure : ErasureCfg := {}
  lineSeq : Tab SeqState := []
  streams : Tab (Option StreamRx) := []
  deriving DecidableEq, Repr

/-- A tone map (R187): identifier, two streams, rate code, covered groups, loading codes by key slot × 1024 + carrier
(+ 16384 for stream 1), issue time, replacement time once retired, and the slots whose ERAS lay above ERASE when it was issued (R189). -/
structure ToneMap where
  tmid : Nat
  two : Bool
  rate : Nat
  cgFirst : Nat
  cgLast : Nat
  codes : Tab Nat
  issued : Stamp
  retired : Option Stamp := none
  erased : List Nat := []
  deriving DecidableEq, Repr

/-- A channel record (*Channel record layout*), with slot-table entries by slot × 1024 + carrier as (LOAD, SNR in 1/32 dB), the MIMO
estimate by carrier × 16 + entry, the strongest rows of the last refreshes, the second of each slot's last update or halving
and since when it has been unconfident (key 12 is the MIMO estimate), the beacons left of a release (R197), the groups in which its last OK receptions ended first, and whether a sounding has asked for a map (R189) (log entry 41). -/
structure ChanRec where
  saddr : Nat
  fg : Nat
  txp0 : Nat := 0
  txp1 : Nat := 0
  two : Bool := false
  pinned : Bool := false
  mstamp : Nat := 0
  mconf : Nat := 0
  mexp : Int := 0
  stamp : Tab Nat := []
  conf : Tab Nat := []
  eras : Tab Nat := []
  slots : Tab (Nat × Int) := []
  mimo : Tab (Int × Int) := []
  dlsum : Tab Nat := []
  dstamp : Nat := 0
  strongest : List Nat := []
  aged : Tab Nat := []
  weakSince : Tab Nat := []
  releasing : Option Nat := none
  firsts : List Nat := []
  asked : Bool := false
  deriving DecidableEq, Repr

/-- Channel records by index, uplink maps held by short address (newest first), downlink maps, the free TMID values of each
address in the order they became free, the nodes that wait for a record being released, those from which an uplink sounding
is still to be requested (R183), whether every map is suspended (R199), line links with FLP-B maps, and the bands and notches in force. -/
structure Maps where
  recs : Tab (Option ChanRec) := []
  ul : Tab (List ToneMap) := []
  dl : Tab (Option ToneMap) := []
  tmids : Tab (List Nat) := []
  wanting : List Nat := []
  soundings : List Nat := []
  suspended : Bool := false
  bbMaps : List Nat := []
  bands : Tab (BitVec 32) := []
  notches : Tab (BitVec 32) := []
  deriving DecidableEq, Repr

end Sys2Proof
end

