-- ==== Sys2Proof/Parts/Macs.lean ====
section
/-! DEFINITION. Medium access (chapter 08) and the token ledger (chapter 09). -/

namespace Sys2Proof

/-- The states of a node in the node table (MAC_NODEINFO.STATE, without free and quarantined). -/
inductive NodeState where
  | associating | active | absent | handing | standard
  deriving DecidableEq, Repr, Inhabited

/-- A rendezvous schedule (R265). -/
structure Rdv where
  pexp : Nat
  phase : Nat
  sidx : Nat
  outPexp : Nat
  outPhase : Nat
  outSidx : Nat
  deriving DecidableEq, Repr

/-- A grant (R248); of a stream also its realised span in thousandths of a cycle, fixed when it is set up (R128). -/
structure Grant where
  gid : Nat
  kind : Nat
  cgFirst : Nat
  cgLast : Nat
  slot : Nat
  cper : Nat
  cph : Nat
  nsymMax : Nat
  fromB : Nat
  toB : Nat
  strm : Nat
  span : Nat := 0
  deriving DecidableEq, Repr

/-- An association in progress (R252, R255): its nonces, the beacon number of ASSOC_RESP, and what ASSOC_REQ said. -/
structure Joining where
  nn : Nat
  nm : Nat
  bnum : Nat
  fg : Nat
  cap : Nat
  drift : Nat
  zcofs : Int
  deriving DecidableEq, Repr

/-- A node (R233 to R278): EUI-64, state, group, CAP, drift, ZCOFS and whether one was reported, the nonces (NN, NM) of its session key while it has one,
the association in progress, sequence state, missed
check-ins, whether the check-in of this interval is met, last OK line time and header SNR, rendezvous, wake address,
grants, route (relays in downward order) with its end-to-end failures, neighbours it reported (as a relay), beacon intervals in ABSENT, votes for the phases and the phase
found, whether mains is present there, whether this superframe holds a scheduled check-in and whether the one before passed
unmet, whether frames go by three-phase MCS 0 (R277), the routes
that failed, the beacon intervals in ABSENT at the last repeated wake pattern, the header SNR
of the last 16 OK receptions, and the second since which this module has owned it (R411). -/
structure Node where
  eui : Nat
  state : NodeState
  fg : Nat
  cap : Nat := 0
  drift : Nat := 0
  zcofs : Int := 0
  zcSet : Bool := false
  sess : Option (Nat × Nat) := none
  assoc : Option Joining := none
  seq : SeqState := {}
  miss : Nat := 0
  met : Bool := false
  lastOk : Stamp := {}
  snr : Int := 0
  rdv : Option Rdv := none
  waddr : Nat := 0
  grants : List Grant := []
  route : List Nat := []
  fails : Nat := 0
  heard : List (Nat × Nat) := []
  absentFor : Nat := 0
  votes : List Nat := [3, 3, 3]
  phase : Nat := 3
  mains : Bool := true
  sched : Bool := false
  owed : Bool := false
  robust : Bool := false
  tried : List (List Nat) := []
  woken : Nat := 0
  snrs : List Int := []
  since : Nat := 0
  deriving DecidableEq, Repr

/-- The states of a ledger entry (R282). -/
inductive LState where
  | queued | sent | acked | confirmed | returned
  deriving DecidableEq, Repr, Inhabited

/-- A ledger entry (*Ledger entries*). -/
structure LEntry where
  lseq : Nat
  gaddr : Nat
  token : Nat
  href : Nat
  deadline : Nat
  want : Bool
  state : LState
  reason : Nat := 0
  delivery : Nat := 0
  mcode : Nat := 0
  ackedAt : Nat := 0
  sentAt : Nat := 0
  deriving DecidableEq, Repr

/-- An outgoing handover (R278): the node and its EUI-64, the target module, when it was decided, when OFFER left, whether the
release record was submitted after ACCEPT with the address there, whether it has landed, the command to complete, and the nonces of the session key under which the node's frames are
still opened. -/
structure HandOut where
  saddr : Nat
  eui : Nat
  target : Nat
  begun : Stamp := {}
  offered : Option Stamp := none
  committed : Option Nat := none
  landed : Bool := false
  src : Src := .none
  sess : Nat × Nat := (0, 0)
  deriving DecidableEq, Repr

/-- An incoming handover: EUI, giving module, the address assigned here, the node, tone maps and ledger entries as offered with the
next LSEQ, frames forwarded by the giver that wait as (service, SEQ, length, line time), since when it is pending, whether the pending record landed, whether A was asked, and whether the owner record was
submitted. -/
structure HandIn where
  eui : Nat
  giver : Nat
  saddr : Nat
  node : Node
  maps : List ToneMap := []
  entries : List (Nat × LEntry) := []
  lseq : Nat := 1
  traffic : List (Nat × Nat × Nat × Stamp) := []
  since : Stamp := {}
  pending : Bool := false
  queried : Bool := false
  owner : Bool := false
  deriving DecidableEq, Repr

/-- A received frame that waits for a frame-buffer descriptor, and since when (R297). -/
structure FbdWait where
  src : Nat
  line : Stamp
  seq : Nat
  len : Nat
  svc : Nat
  fg : Nat
  ackReq : Bool
  harq : Nat
  txn : Nat
  since : Stamp := {}
  deriving DecidableEq, Repr

/-- The MAC: nodes by short address; quarantined addresses with their EUI-64, group and beacon intervals left; provisioned EUI-64s
and whether the wrapped key is held; EUI-64s denied with the second of the record; the broadcast counter and its
checkpoint; BNUM checkpoints and those of the Guyline links' LSEQ; the group key, its phase, the key that follows and a change under way with the activation beacon per
group (1 once activated); MAPRESET beacons left per group; intervals in force, cycle of the next beacon, start times of the last two superframes and number of the last discovery beacon per group; the map entries of the superframe, MAPVER and TPART per group; acknowledgement entries due per node; parent tracking;
handovers and decisions that wait; descriptors held by the host and by transmissions; frames waiting for one. -/
structure Mac where
  nodes : Tab (Option Node) := []
  quar : Tab (Option (Nat × Nat × Nat)) := []
  prov : Tab (Option Bool) := []
  denied : List (Nat × Nat) := []
  bctr : Nat := 1
  bctrC : Nat := 0
  bnumC : Tab Nat := []
  glC : Tab Nat := []
  epochC : Nat := 0
  restart : Bool := true
  ckBcast : Bool := false
  ckGl : Bool := false
  gkey : Option Nat := none
  gkph : Bool := false
  gnext : Nat := 0
  roll : Option (Tab Nat) := none
  mapReset : Tab Nat := []
  ivl : Tab Nat := []
  beaconAt : Tab (Option Nat) := []
  supers : Tab (List Stamp) := []
  disc : Tab Nat := []
  entries : Tab (List Nat) := []
  mapVer : Tab Nat := []
  tpart : Tab (Nat × Nat × Nat) := []
  ckBnum : Bool := false
  acks : Tab (List AckEntry) := []
  discLimit : Tab Bool := []
  misses : Nat := 0
  cand : Nat := 0
  candMisses : Nat := 0
  window : Nat := 50
  handOut : List HandOut := []
  handIn : List HandIn := []
  handWait : List (Nat × Nat × Src) := []
  hostFbds : List Nat := []
  txFbds : Nat := 0
  fbdWait : List FbdWait := []
  fbdEvtSec : Option Nat := none
  deriving DecidableEq, Repr

/-- A trigger of ledger transitions (R285). -/
inductive LTrigger where
  | submit (src : Src) (gaddr token href deadline : Nat) (want : Bool)
  | cancel (src : Src) (lid : Nat)
  | stage (lid : Nat)
  | report (lid result cres mcode : Nat)
  | deadline (lid : Nat)
  | released (gaddr : Nat)
  | confirmTimeout (lid : Nat)
  | release (src : Src) (lid : Nat)
  deriving DecidableEq, Repr

/-- A transition of the batch in flight: the entry as it will be, none once it is released, the entry as it
was, and the completion it owes. -/
structure LTrans where
  lid : Nat
  old : Option LEntry
  entry : Option LEntry
  src : Src := .none
  deriving DecidableEq, Repr

/-- The ledger: held entries by LID, acceptances so far, next LSEQ by global address, the counters of R289 that are not counts
of held entries, triggers waiting for the next batch, the batch in flight with the owner of the MAC's page that formed it (slot + 1), and whether no new one forms
since an outgoing pack keeps the ledger to its end (R292) (log entry 32). -/
structure Ledger where
  entries : Tab (Option LEntry) := []
  accepted : Nat := 0
  lseq : Tab Nat := []
  acc : Nat := 0
  confirmed : Nat := 0
  returned : Nat := 0
  waiting : List LTrigger := []
  batch : Option (List LTrans) := none
  pack : Nat := 0
  hold : Bool := false
  deriving DecidableEq, Repr

end Sys2Proof
end

