-- ==== Sys2Proof/Parts/Guy.lean ====
section
/-! DEFINITION. Guyline (chapter 15): messages, frames, links. Times of links are in nanoseconds. -/

namespace Sys2Proof

/-- What a Guyline frame carries (*Control messages*, node traffic, time records), with the fields the model keeps. `answer` is
A's answer to QUERY: whether its release record was committed. -/
inductive GMsg where
  | hello (gnid l nonce : Nat) (root joined : Bool)
  | joinReq (index : Nat) (parent : Nat)
  | joinAck (index : Nat) (ancestors : List Nat) (members : Nat)
  | joinRefuse (index : Nat) (st : Status) (dup : Bool)
  | leave
  | route (added removed : List Nat) (l : Nat)
  | offer (node : Node) (maps : List ToneMap) (entries : List (Nat × LEntry)) (lseq : Nat)
  | accept (eui saddr : Nat)
  | commit (eui : Nat) (seq : SeqState)
  | abort (eui : Nat)
  | query (eui : Nat)
  | answer (eui : Nat) (released : Bool)
  | snr (reports : List (Nat × Int))
  | ack (mseq : Nat)
  | traffic (eui svc seq len : Nat) (line : Stamp)
  | time (t : Stamp) (locked : Bool) (e : Nat) (exch : Option Stamp)
  | lineBeacon (windows : List (Nat × Nat × Nat))
  deriving DecidableEq, Repr

/-- A received OFFER (R278): the giving module, its message number, the node with its keys, counters and schedules, uplink maps, ledger
entries with the next LSEQ, the group in which the node is heard here, and whether R382 would take its classes. -/
structure Offer where
  giver : Nat
  mseq : Nat
  node : Node
  maps : List ToneMap
  entries : List (Nat × LEntry)
  lseq : Nat
  fg : Nat
  admitted : Bool
  deriving DecidableEq, Repr

/-- A Guyline frame (*Guyline frame*): TYPE, HOPS, SRC, DST, LSEQ, the number of a control message, its content. -/
structure GFrame where
  typ : Nat
  hops : Nat := 0
  src : Nat
  dst : Nat
  lseq : Nat := 0
  mseq : Option Nat := none
  msg : GMsg
  deriving DecidableEq, Repr

/-- A control message not acknowledged yet (R425): on one link, or routed; since when, and when it was last sent. -/
structure GSend where
  mseq : Nat
  link : Option Nat
  dst : Nat
  msg : GMsg
  since : Stamp
  last : Stamp
  deriving DecidableEq, Repr

/-- A module at the far end of a link as its HELLO gave it: index, network, L, whether it is root, whether it is root or PARENTED,
whether it is a child of this module, and the nonce of its last HELLO. -/
structure GPeer where
  index : Nat
  gnid : Nat
  l : Nat
  root : Bool := false
  joined : Bool := false
  child : Bool := false
  nonce : Nat := 0
  deriving DecidableEq, Repr

/-- Guyline. `out` lists the frames that left, by link; `states` are the link states of GL_LINK; `peers` are by link, several on a
line link; routes map an index to the child link plus one; held frames wait for a route (R424), `lost` are the indices that had
none; at the root `parents` maps an index to its parent plus one; `cand` counts candidates tried, in the order of R427; `asked` is
the link a JOIN_REQ went out on; `reqs` are the JOIN_REQs forwarded from below with their links; `limited` says that the failure
of every candidate under R419 has been posted; `heard` are the reports of R411 as (module, node, mean SNR in 1/32 dB); `netKey` says that
the wrapped network key is held (R417); `keys` are the link keys by link × 1 024 + the index of the far end, derived at join (R417) and zeroised in D3 (R460), `nonces` those of the last
HELLO sent on each link; `exch` is when the last TIME frame of a child came on a link and `beacons` counts the parent's on a line link (R426);
`credits` are the credits of 256 bytes held on each SerDes link and `queued` the frames that wait on it for some, in their order (R414). -/
structure Guyline where
  out : List (Nat × GFrame) := []
  unacked : List GSend := []
  nextMseq : Nat := 0
  seen : List (Nat × Nat) := []
  lseq : Tab Nat := []
  states : Tab Nat := []
  peers : List (Nat × GPeer) := []
  routes : Tab Nat := []
  held : List (GFrame × Stamp) := []
  lost : List Nat := []
  ancestors : List Nat := []
  members : List Nat := []
  parents : Tab Nat := []
  parentNow : Option Nat := none
  lNs : Nat := 0
  cand : Nat := 0
  asked : Option Nat := none
  reqs : List (Nat × Nat) := []
  retryAt : Option Stamp := none
  limited : Bool := false
  heard : List (Nat × Nat × Int) := []
  netKey : Bool := false
  keys : Tab (Option (List (BitVec 8))) := []
  nonces : Tab Nat := []
  exch : Tab (Option Stamp) := []
  beacons : Nat := 0
  credits : Tab Nat := []
  queued : Tab (List GFrame) := []
  deriving DecidableEq, Repr

end Sys2Proof
end

