-- ==== Sys2Proof/Parts/Programs.lean ====
section
/-! DEFINITION. Engines, task contexts, tasks, handles, calls, packs and check units (chapters 13 and 22). -/

namespace Sys2Proof

/-- The role Pitch gives an engine (R391). Whether it is on is its domain's state; a retired engine is in the list of
retired units. -/
inductive EngRole where
  | inService | spare
  deriving DecidableEq, Repr, Inhabited

/-- What a context waits for (R364 to R372, R27). -/
inductive Wait where
  | running
  | tag
  | fence (stores calls : Bool)
  | push (h : Nat) (msg : BitVec 512)
  | pop (h d : Nat)
  | task (d id : Nat)
  | call (d ticket : Nat)
  | time (goal : Stamp)
  | slot (d fg cycle slot : Nat)
  deriving DecidableEq, Repr, Inhabited

/-- A register of a context, for the record of results not yet there (R350). -/
inductive CtxReg where
  | s (n : Nat) | v (n : Nat) | p (n : Nat) | a (n : Nat)
  deriving DecidableEq, Repr

/-- A task context (R348, *Registers of a context*): the bound task, the program counter as a byte offset into the task's
code handle, the registers, ASAT, what it waits for, the registers whose result is not there yet, the stores not yet
acknowledged, the tickets of outstanding calls with their final status once there is one, the debug halt, the level that made it and the single step (R461), and
whether the last instruction was a YIELD (R366). An accumulator packs 16 lanes
of a 48-bit real part (low) and a 48-bit imaginary part. -/
structure Ctx where
  task : Option Nat := none
  pc : Nat := 0
  s : Tab (BitVec 64) := []
  v : Tab (BitVec 512) := []
  p : Tab (BitVec 64) := []
  a : Tab (BitVec 1536) := []
  asat : Bool := false
  wait : Wait := .running
  busy : List CtxReg := []
  stores : Nat := 0
  tickets : List (Nat × Option Nat) := []
  halted : Bool := false
  haltAt : Nat := 0
  stepOne : Bool := false
  yielded : Bool := false
  deriving DecidableEq, Repr, Inhabited

/-- A task (R365): its pack slot, priority, task entry, parent, the context it is bound to as engine × 4 + context, its code
handle and scratch size, whether it lives, and its end status. -/
structure Task where
  slot : Nat
  prio : Nat
  entry : Nat
  parent : Nat
  place : Nat
  code : Nat
  scratch : Nat
  live : Bool := true
  endStatus : Nat := 0
  deriving DecidableEq, Repr

/-- The kind of a handle. -/
inductive HKind where
  | data | queue | code
  deriving DecidableEq, Repr, Inhabited

/-- Where Pitch has placed a handle (R385). -/
inductive Place where
  | store (eng : Nat) | canteen (bank : Nat) | stack (n : Nat) | mirrored (n m : Nat)
  deriving DecidableEq, Repr, Inhabited

/-- A handle (R351, R352): its size, kind and placement, the places of its extents after the first (R385), its latency class, whether it is mirrored and demoted (R388), the
packs that hold it with their rights (bit 0 read, bit 1 write), whether a host-readable register publishes it, the owning
slot and declaration, and its initial data. -/
structure Handle where
  size : Nat
  kind : HKind := .data
  place : Place := .stack 0
  more : List Place := []
  latency : Nat := 0
  mirror : Bool := false
  demoted : Bool := false
  holders : List (Nat × Nat) := []
  hostRead : Bool := false
  hostWrite : Bool := false
  slot : Nat := 16
  decl : Nat := 0
  name : Nat := 0
  exported : Bool := false
  initData : List (Nat × BitVec 8) := []
  deriving DecidableEq, Repr

/-- A call descriptor as the unit copied it (*Call descriptor*, R367). -/
structure CallDesc where
  inH : Nat
  outH : Nat
  inOfs : Nat
  outOfs : Nat
  inLen : Nat
  outLen : Nat
  op : Nat
  flags : Nat
  param : List (BitVec 8)
  deriving DecidableEq, Repr

/-- An accelerator call in progress: the unit field (0 XF, 1 FEC, 2 CRY, 3 CHK), the instance that serves it, the context
and ticket that wait for it, the caller's pack slot, and the descriptor. `discard` is set when the calling task has ended. -/
structure Call where
  id : Nat
  unit : Nat
  inst : Nat
  place : Nat
  ticket : Nat
  slot : Nat
  desc : CallDesc
  discard : Bool := false
  deriving DecidableEq, Repr

/-- The state of a resident slot (ENG_PACKINFO.STATE). -/
inductive SlotState where
  | free | loading | resident | outgoing | incoming | unloading
  deriving DecidableEq, Repr, Inhabited

/-- A task entry of a pack (*Pack tables*). -/
structure TaskEntry where
  code : Nat
  prio : Nat
  maxInst : Nat
  entryOfs : Nat
  scratch : Nat
  deriving DecidableEq, Repr

/-- A handle declaration of a pack image (*Pack tables*): size, kind, rights, latency class, MIRROR, EXPORT, IMPORT, name, and the bytes
its segments fill as (offset, byte), and whether one of them is a constant segment. -/
structure Decl where
  size : Nat
  kind : HKind := .data
  rights : Nat := 3
  latency : Nat := 0
  mirror : Bool := false
  isExport : Bool := false
  isImport : Bool := false
  name : Nat := 0
  init : List (Nat × BitVec 8) := []
  const : Bool := false
  deriving DecidableEq, Repr

/-- A signed image as the security controller reads it (R374, R375): whether its layout is that of *Pack header* and the tables that
follow, the signer and whether the signature verifies, the header fields, the measurement, the declarations, the task entries, the
resource needs (owned pages, contexts, MiB, FEC in Mb/s, XF in M complex samples/s), and whether it is the host-service pack (R496). -/
structure PackImage where
  formatOk : Bool := true
  signer : Nat := 0
  sigOk : Bool := true
  sealedImg : Bool := false
  replaceable : Bool := false
  ember : Bool := false
  cls : Nat := 1
  rollback : Nat := 0
  version : Nat := 0
  name : Nat := 0
  meas : BitVec 384 := 0
  decls : List Decl := []
  entries : List TaskEntry := []
  pages : List (Nat × Nat) := []
  contexts : Nat := 0
  memMib : Nat := 0
  fec : Nat := 0
  xf : Nat := 0
  hostService : Bool := false
  deriving DecidableEq, Repr, Inhabited

/-- A resident pack: its image, the handle value of each declaration, and the BAR0 pages it owns. -/
structure Pack where
  state : SlotState := .free
  image : PackImage := {}
  decls : List Nat := []
  pages : List Nat := []
  deriving DecidableEq, Repr, Inhabited

/-- The programs: engine roles, contexts by engine × 4 + context, tasks by number, handles by value, the messages waiting in
queue handles, calls, packs by slot, and the numbers given next. -/
structure Programs where
  roles : Tab EngRole := []
  ctxs : Tab Ctx := []
  tasks : Tab Task := []
  nextTask : Nat := 1
  handles : Tab Handle := []
  nextHandle : Nat := 1
  queues : Tab (List (BitVec 512)) := []
  calls : List Call := []
  nextCall : Nat := 0
  packs : Tab Pack := []
  deriving DecidableEq, Repr

/-- The write of a check unit's register (R526, R527). -/
inductive ChkOp where
  | data8 | data16 | data32 | init | stateLo | stateHi | cfg
  | polyLo | polyHi | initLo | initHi | xorLo | xorHi
  deriving DecidableEq, Repr

/-- A check unit (R525 to R532): the running value, the mark of a shadow mismatch, the writes that wait for the end of an
XCHK call in the order they came, and whether such writes go before the next call (R529). -/
structure ChkUnit where
  run : BitVec 64 := 0xFFFFFFFF
  scerr : Bool := false
  writes : List (ChkOp × BitVec 32) := []
  yielding : Bool := false
  deriving DecidableEq, Repr, Inhabited

/-- What the machine around it shows while a register write takes effect: the image a STAGE chunk completes and whether a SWITCH comes up
(R463), the bins of a sweep and whether its port folded back (R306), a shadow mismatch (R531), the row and the follow-on unit of an
injection (R467), and the offset of a Compass source that takes over (R433) (log entries 19, 148). -/
structure WriteEnv where
  image : PackImage := {}
  ready : Bool := true
  bins : List (Int × Int) := []
  folded : Bool := false
  mismatch : Bool := false
  row : Nat := 0
  next : Option Nat := none
  offset : Int := 0
  deriving DecidableEq, Repr

end Sys2Proof
end

