-- ==== Sys2Proof/Parts/Records.lean ====
section
/-! DEFINITION. The payloads of journal records (chapter 19). -/

namespace Sys2Proof

/-- What a self-test takes: a unit by its REL_UNITSEL value, one row of memory, or a neutral port (*Self-tests*). -/
inductive TestUnit where
  | unit (sel : Nat)
  | hbmRow (pc row : Nat)
  | canRow (bank row : Nat)
  | np (n : Nat)
  | stop (n : Nat)
  deriving DecidableEq, Repr

/-- A ledger entry as a ledger-transitions record carries it (*Ledger entry*). -/
structure LedgerLine where
  lid : Nat
  lseq : Nat
  gaddr : Nat
  newState : Nat
  reason : Nat := 0
  delivery : Nat := 0
  flags : Nat := 0
  href : Nat := 0
  deadline : Nat := 0
  token : Nat := 0
  mcode : Nat := 0
  deriving DecidableEq, Repr

/-- A service class (*Service class record*, R381). -/
structure SvcClass where
  prio : Nat := 1
  persist : Nat := 1
  latUl : Nat := 0
  latDl : Nat := 0
  rate : Nat := 0
  deriving DecidableEq, Repr, Inhabited

/-- Whose flows an assignment names: one node by its global address, or every node of a feeder group; one service code, or
every one (R381, CLASS_ASSIGN). -/
structure FlowSel where
  gaddr : Nat
  group : Option Nat
  svc : Option Nat
  deriving DecidableEq, Repr

/-- What the lifecycle record holds (R449): the lifecycle state, the owner keys by slot, the KEK by a number that stands for its value,
and the wrapped Guyline network key (empty: none). The rollback mirror repeats the fuses. -/
structure LcRec where
  lc : Nat := 0
  keys : Tab (Option Nat) := []
  kek : Option Nat := none
  net : List (BitVec 8) := []
  deriving DecidableEq, Repr

/-- The payload of a journal record, by kind (*Record kinds*). -/
inductive Payload where
  | registers (pairs : List (Nat × BitVec 32))
  | baseline (port : Nat) (handle : Nat)
  | classes (set : Tab SvcClass) (assigns : List (FlowSel × Nat))
  | calibration (set target refCnt cnt : Nat) (coefs : List Int)
  | checkpoint (epoch bcast : Nat) (bnum guyline : List Nat) (nodes : List (Nat × Nat × Nat))
  | ledger (lines : List LedgerLine)
  | retirement (sel det : Nat) (t : Stamp)
  | lifecycle (r : LcRec)
  | ownership (state partner : Nat)
  | classState (bytes : List (BitVec 8))
  deriving DecidableEq, Repr

end Sys2Proof
end

