-- ==== Sys2Proof/Syntax.lean ====
section
/-! DEFINITION. The commands the module takes, with their operands. What a command's operands carry is what the outside
world puts into it: a value written, a message received, a measurement, an outcome of a computation the spec leaves to a
named standard. -/

namespace Sys2Proof

/-- A command in a submission queue: its opcode, its identifier and whether a reserved byte is not 0 (R498). The body comes
with the command that starts it. -/
structure Sqe where
  op : Nat
  cid : Nat
  badReserved : Bool := false
  deriving DecidableEq, Repr

/-- Raw fields of an Idnas instruction of format R (R357); `ty` is fn[7:6], the element type of vector rows. -/
structure FmtR where
  d : BitVec 5
  a : BitVec 5
  b : BitVec 5
  pg : BitVec 3
  ty : BitVec 2
  deriving DecidableEq, Repr

/-- Raw fields of format I. -/
structure FmtI where
  d : BitVec 5
  a : BitVec 5
  imm : BitVec 16
  deriving DecidableEq, Repr

/-- Raw fields of format E: those of format I and the extension word. -/
structure FmtE where
  d : BitVec 5
  a : BitVec 5
  imm : BitVec 16
  ext : BitVec 32
  deriving DecidableEq, Repr

/-- Raw fields of format M. -/
structure FmtM where
  d : BitVec 5
  h : BitVec 5
  o : BitVec 5
  pg : BitVec 3
  w : BitVec 2
  disp : BitVec 6
  deriving DecidableEq, Repr

/-- Raw fields of format B. -/
structure FmtB where
  a : BitVec 5
  disp : BitVec 21
  deriving DecidableEq, Repr

/-- Raw fields of format A. -/
structure FmtA where
  d : BitVec 5
  h : BitVec 5
  o : BitVec 5
  unit : BitVec 3
  fn : BitVec 8
  deriving DecidableEq, Repr

/-- The carrier groups and the prefix the scheduler gives a frame's payload (R103): `cp` is the long prefix. -/
structure FrameForm where
  cgFirst : Nat
  cgLast : Nat
  cp : Bool
  deriving DecidableEq, Repr

/-- The mains as a tracker finds them when it locks: their frequency in mHz and the phase in units of 2⁻¹⁶ of a cycle (R87). -/
structure Mains where
  mhz : Nat
  phase : Nat
  deriving DecidableEq, Repr

/-- The reference a tracker returns to and the roles that are valid references then (R92). -/
structure RefBack where
  role : Nat
  valid : List Nat
  deriving DecidableEq, Repr

/-- Where a reception runs: the engine Pitch places its task on, and the receptions whose signals lie under it. -/
structure RecepPlace where
  eng : Nat
  under : List Nat
  deriving DecidableEq, Repr

/-- The superframe a beacon announces in a feeder group: its map entries and its time-partition period (R228, R246). -/
structure BeaconPlan where
  fg : Nat
  entries : List Nat
  tpart : Nat × Nat × Nat
  deriving DecidableEq, Repr

/-- What a HELLO says of its sender: whether it is root and whether it has joined (R419), and its nonce (R417). -/
structure Standing where
  root : Bool
  joined : Bool
  nonce : Nat
  deriving DecidableEq, Repr


/-- The commands: one constructor per row of the table of operations and events, in its order. Constructors beginning with
`i` are Idnas instructions; their operands are the engine, the context and the raw fields of the format (R357). -/
inductive Instr where
  /-- VIN_START (R65): VIN rises past the start monitor and the module runs the start-up sequence to REST. -/
  | vinStart (vin : Nat) (pfHigh : Bool) (sigA : Bool) (sigB : Bool)
  /-- LOW_SUPPLY_TRIP (R41): VIN falls through the low-supply monitor and the module goes to OFF with every output inert. -/
  | lowSupplyTrip (vin : Nat) (started : Bool)
  /-- RST_N_ASSERT (R67): RST_n held low for 10 µs switches off all switched domains and makes outputs inert while the Groundsheet stays powered. -/
  | rstNAssert (started : Bool)
  /-- RST_N_RELEASE (R67): Release of RST_n runs steps 4 to 7 of start-up and reaches REST. -/
  | rstNRelease (sigA : Bool) (sigB : Bool)
  /-- PERST_N_RISE (R50): A rising PERST_n with PERST_EN moves the module to SERVE powering only the PCIE domain, core region and one Canteen bank. -/
  | perstNRise
  /-- PERST_N_ASSERT (R495): Assertion of PERST_n disables every queue pair and clears every window. -/
  | perstNAssert
  /-- WAKE (R49): A wake from an enabled source asserts WAKE_OUT, sets its PWR_STAT bit and moves to the mode in TARGET. -/
  | wake (source : Nat)
  /-- WATCH_TIMEOUT (R52): WATCH_S seconds pass in WATCH without a wake and the module returns to REST. -/
  | watchTimeout
  /-- MODE_REQ_SERVE (R46): A write of PWR_MODE.REQ = SERVE requests SERVE, refused or held as R46 and R47 state. -/
  | modeReqServe (who : Who)
  /-- MODE_REQ_SURGE (R46): A write of PWR_MODE.REQ = SURGE requests SURGE. -/
  | modeReqSurge (who : Who)
  /-- MODE_REQ_REST (R46): A write of PWR_MODE.REQ = REST drains every unit and enters REST, or leaves EMBER for REST after the checkpoint. -/
  | modeReqRest (who : Who)
  /-- MODE_REQ_WATCH (R46): A write of PWR_MODE.REQ = WATCH drains every unit outside WATCH and enters WATCH. -/
  | modeReqWatch (who : Who)
  /-- MODE_TRANSITION_COMPLETE (R46): A mode transition completes and any held request is acted on. -/
  | modeTransitionComplete (vin : Nat) (pfHigh : Bool) (power : List Nat) (keep : List Nat)
  /-- MODE_DRAIN_FORCED_DISABLE (R45): A unit that has not reported DRAINED within 100 ms of a transition to REST or WATCH is disabled by force. -/
  | modeDrainForcedDisable (unit : Nat)
  /-- PWR_CAP_WRITE (R56): A write of PWR_CAP stores the cap, clamps it, and takes effect within 2 ms; below 76 W in SURGE it returns to SERVE. -/
  | pwrCapWrite (who : Who) (value : Word)
  /-- POWER_CAP_CONTROL (R54): Demand would pass PWR_CAP and Pitch lowers core voltage, HBM step, switches off idle domains or refuses new work. -/
  | powerCapControl (demand : Nat) (vcore : Nat) (idle : List Nat)
  /-- PWR_STAT_CLEAR (R49): A W1C write of PWR_STAT clears bits and releases WAKE_OUT when all wake bits are clear. -/
  | pwrStatClear (who : Who) (value : Word)
  /-- PWR_FAIL_ASSERT (R57): PWR_FAIL_n held low for 10 µs with PF_EN is latched as an EMBER trigger. -/
  | pwrFailAssert (keep : List Nat)
  /-- VIN_EMBER_CROSS (R57): VIN_SENSE falls below VIN_EMBER for 100 µs with VE_EN and is latched as an EMBER trigger. -/
  | vinEmberCross (vin : Nat) (keep : List Nat)
  /-- EMBER_EXIT (R63): Every enabled trigger clear for 100 ms returns the module from EMBER to its previous mode. -/
  | emberExit (vin : Nat) (pfHigh : Bool)
  /-- EMBER_MAX_S_EXPIRE (R47): PWR_EMBER.MAX_S elapses with AFTER = 1 and the module goes from EMBER to REST. -/
  | emberMaxSExpire
  /-- PORT_CFG_WRITE (R69): A write of LP_CFG or NP_CFG sets role, group, path or EN, refused for duplicates or while enabled. -/
  | portCfgWrite (port : Nat) (who : Who) (value : Word)
  /-- PORT_DISABLE (R93): EN = 0 on a port starts the drain: transmission mutes at the end of its symbol and the port stops. -/
  | portDisable (port : Nat) (who : Who) (value : Word)
  /-- PORT_FORCED_DISABLE (R94): A forced disable mutes the DAC, releases PA_EN_n within 1 µs and stops sampling. -/
  | portForcedDisable (port : Nat)
  /-- TXPATH_CHANGE_APPLY (R217): A pending TXPATH change takes effect when no transmission is in progress on the port. -/
  | txpathChangeApply (port : Nat)
  /-- FRAME_SCHEDULE (R556): A frame is scheduled on a port and refused with DENIED when the port cannot transmit it. -/
  | frameSchedule (frame : Nat) (ports : List Nat) (path : Nat) (cycle : Nat) (slot : Nat) (mcs : Nat) (form : FrameForm)
  /-- FRAME_NOT_STAGED (R25): The first two symbols are not staged one slot before the start boundary and the frame is rescheduled. -/
  | frameNotStaged (frame : Nat)
  /-- TX_FRAME_START (R101): At the slot boundary the staged frame is interpolated and released to the DAC. -/
  | txFrameStart (frame : Nat)
  /-- TX_FRAME_END (R85): The last sample of a frame leaves and the frame completes, posting FOLDBACK once if folded back. -/
  | txFrameEnd (frame : Nat)
  /-- PA_EN_RELEASE (R73): PA_EN_n is released TRAIL microseconds after the last sample unless another frame follows. -/
  | paEnRelease (port : Nat)
  /-- STAGING_UNDERRUN (R26): The staging buffer empties during a frame; the port mutes and the frame ends ABANDONED. -/
  | stagingUnderrun (port : Nat)
  /-- FOLDBACK_TRIGGER (R84): Four ISENSE samples above LIM lower every port of the fold-back set by one step. -/
  | foldbackTrigger (port : Nat) (mv : Nat)
  /-- FOLDBACK_FURTHER_STEP (R84): 100 µs after a step the condition still holds and the set takes a further step. -/
  | foldbackFurtherStep (port : Nat) (mv : Nat)
  /-- OVERCURRENT_MUTE (R86): ISENSE above ABS for 50 µs mutes the fold-back set and ends the frame ABANDONED. -/
  | overcurrentMute (port : Nat) (mv : Nat)
  /-- AGC_LOWER (R78): Four of 64 narrow samples above 90 % lower the narrow-path gain by one step. -/
  | agcLower (input : Nat)
  /-- AGC_RAISE (R78): No sample above −12 dBFS for 2^RAISE cycles raises the gain by one step. -/
  | agcRaise (input : Nat)
  /-- OWN_TX_SUPPRESS_END (R80): 50 µs after a group's transmission ends, AGC and preamble detectors resume. -/
  | ownTxSuppressEnd (fg : Nat)
  /-- OVERLOAD_WINDOW_END (R82): At the end of each 1 s window with more than half its runs clipped, a LIMIT event and detection follow. -/
  | overloadWindowEnd (input : Nat) (sec : Nat)
  /-- RING_BLOCK_WRITE (R139): A 2.048 ms block of samples and its descriptor are written to a look-back ring. -/
  | ringBlockWrite (input : Nat) (wide : Bool) (sec : Nat) (ns : Nat) (adc : List (Nat × Int))
  /-- TRACKER_LOCK (R88): The zero-crossing tracker locks within 16 cycles of a valid mains component. -/
  | trackerLock (fg : Nat) (valid : List Nat) (found : Mains)
  /-- PHASE_ZERO (R89): At each phase-0 instant the cycle count increases by one. -/
  | phaseZero (fg : Nat) (error : Option Int) (mhz : Option Nat) (refs : Option (Nat × Nat))
  /-- TRACKER_HOLDOVER (R90): The tracker loses its fundamental and enters holdover, setting HOLD and LOST. -/
  | trackerHoldover (fg : Nat)
  /-- TRACKER_RELOCK (R91): After holdover the tracker relocks and slews or steps the phase error. -/
  | trackerRelock (fg : Nat) (valid : List Nat) (error : Int)
  /-- ZC_OFS_WRITE (R87): A write of LP_ZCCFG.OFS while locked is removed as a phase error. -/
  | zcOfsWrite (fg : Nat) (who : Who) (value : Word)
  /-- TRACKER_REF_SWITCH (R92): The reference port is lost and the tracker moves to L2 or L3, setting SWITCHED. -/
  | trackerRefSwitch (fg : Nat) (valid : List Nat)
  /-- TRACKER_REF_RETURN (R92): L1 valid and locked for 16 cycles returns the tracker to L1. -/
  | trackerRefReturn (fg : Nat) (back : RefBack)
  /-- SLOT_BOUNDARY (R99): The tracker phase crosses a twelfth of a cycle and a new cycle slot begins. -/
  | slotBoundary (fg : Nat)
  /-- LP_ZCPHASE_READ (R89): A read of LP_ZCPHASE latches the cycle count into LP_ZCCYC_LO and HI. -/
  | lpZcphaseRead (fg : Nat) (ofs : Nat) (who : Who)
  /-- LP_ISENSE_READ (R74): A read of LP_ISENSE returns and clears PEAK. -/
  | lpIsenseRead (port : Nat) (mv : Nat) (who : Who)
  /-- PREAMBLE_DETECTION (R146): A detector's preamble correlation passes DET_THR and a detection is reported. -/
  | preambleDetection (det : Nat) (fg : Nat) (start : Stamp) (metric : Nat) (power : Nat) (std : Bool)
  /-- RECEPTION_OPEN (R151): A reception slot becomes free and a queued detection or rescan start opens a reception. -/
  | receptionOpen (fg : Nat) (found : Found) (place : RecepPlace)
  /-- RING_WAIT_RESUME (R142): A reception waiting at the write position resumes when the next block is written. -/
  | ringWaitResume (rec : Nat) (again : Bool)
  /-- RECEPTION_END (R137): A reception completes decoding and ends with one status. -/
  | receptionEnd (rec : Nat) (f : RxFrame)
  /-- CHECKPOINT_WAIT_RESUME (R259): A frame waiting for a receive checkpoint is judged again once the checkpoint lands. -/
  | checkpointWaitResume (rec : Nat)
  /-- SIC_RESUME (R157): The dominant reception ends and the weaker resumes on a cancelled copy or with erasures. -/
  | sicResume (rec : Nat) (next : Option Nat) (found : List (Stamp × Nat × Nat))
  /-- INPUT_LOST_IN_RECEPTION (R153): An input drains during a reception, which continues on the others or ends ABANDONED. -/
  | inputLostInReception (fg : Nat)
  /-- HARQ_BUFFER_EXPIRE (R135): A HARQ buffer 30 s old in line time is discarded. -/
  | harqBufferExpire (src : Nat) (harq : Nat)
  /-- RESCAN_TRIGGER (R163): A rescan trigger queues a rescan of a group, refused when 64 wait. -/
  | rescanTrigger (fg : Nat) (src : Nat) (t0 : Stamp) (t1 : Stamp) (deferredOnly : Bool)
  /-- MDM_RESCAN_GO (R163): A host write of MDM_RESCAN.GO triggers a rescan from now − BACK_S. -/
  | mdmRescanGo (who : Who) (value : Word)
  /-- RESCAN_START (R164): A waiting rescan starts when fewer than four run in its group. -/
  | rescanStart (id : Nat)
  /-- RESCAN_END (R166): A rescan ends and posts OK or LOOKBACK_EXPIRED with its findings. -/
  | rescanEnd (id : Nat) (expired : Bool)
  /-- RING_DEPTH_CHANGE (R143): A write of MDM_RINGCFG sets the requested depth and Pitch applies it. -/
  | ringDepthChange (who : Who) (value : Word)
  /-- CONFIDENCE_HALVING (R178): 2^HALF seconds without update halve a slot's confidence. -/
  | confidenceHalving (index : Nat) (slot : Nat)
  /-- BROADCAST_SOUNDING (R183): Every BCAST_IVL beacon intervals the module sends a broadcast downlink sounding. -/
  | broadcastSounding (fg : Nat)
  /-- UPLINK_SOUNDING_REQUEST (R183): The module sends a unicast sounding requesting an uplink sounding. -/
  | uplinkSoundingRequest (saddr : Nat)
  /-- STALE_SLOT_TIMEOUT (R183): A slot unconfident for STALE_S seconds triggers a sounding request. -/
  | staleSlotTimeout (index : Nat) (slot : Nat)
  /-- UPLINK_MAP_ISSUE (R189): The module issues a new uplink tone map. -/
  | uplinkMapIssue (saddr : Nat)
  /-- RETIRED_MAP_EXPIRE (R190): A retired uplink map is discarded once the ring depth has passed since its replacement. -/
  | retiredMapExpire (saddr : Nat) (tmid : Nat)
  /-- TONE_MAP (R188): A TONE_MAP message from a node installs a downlink map, discarding maps with code 7. -/
  | toneMap (saddr : Nat) (tmid : Nat) (withdraw : Bool) (two : Bool) (rate : Nat) (cgFirst : Nat) (cgLast : Nat) (codes : List (Nat × Nat))
  /-- CHANNEL_REPORT (R192): A CHANNEL_REPORT enters DLSUM and PAIRS and may clear MIMO rows. -/
  | channelReport (saddr : Nat) (cgFirst : Nat) (cgLast : Nat) (pair0 : Nat) (pair1 : Nat) (two : Bool) (snr : List Nat)
  /-- RECORD_RELEASE_COMPLETE (R197): A released record becomes free once withdrawal is acknowledged or three beacons pass. -/
  | recordReleaseComplete (index : Nat) (acked : Bool)
  /-- MAP_PIN (R197): MDM_MAPCMD OP 1 pins the record of SADDR. -/
  | mapPin (who : Who)
  /-- MAP_UNPIN (R197): MDM_MAPCMD OP 2 unpins the record of SADDR. -/
  | mapUnpin (who : Who)
  /-- MAP_RELEASE (R197): MDM_MAPCMD OP 3 releases the record of SADDR. -/
  | mapRelease (who : Who)
  /-- MAP_REQUEST_SOUNDING (R183): MDM_MAPCMD OP 4 requests a sounding from SADDR. -/
  | mapRequestSounding (who : Who)
  /-- NOTCH_WRITE (R205): A write of MDM_BBNOTCH_n is refused if it leaves too few sync bits or carriers. -/
  | notchWrite (n : Nat) (who : Who) (value : Word)
  /-- NOTCH_APPLY (R214): A notch change takes effect at the next frame start and withdraws FLP-B tone maps. -/
  | notchApply
  /-- BANDCFG_WRITE (R226): A write of MDM_BANDCFG is accepted or refused against profile, band and mask. -/
  | bandcfgWrite (fg : Nat) (who : Who) (value : Word)
  /-- BAND_CHANGE_APPLY (R226): An accepted band change takes effect at the next frame start and withdraws FLP-A maps. -/
  | bandChangeApply (fg : Nat)
  /-- REFLECTOMETRY_SWEEP (R306): A due sweep is sent and recorded on a port, or skipped. -/
  | reflectometrySweep (port : Nat) (bins : List (Int × Int)) (full : Bool) (folded : Bool)
  /-- NETWORK_BEACON (R237): A network beacon is sent at the slot 0 boundary IVL cycles after the previous one. -/
  | networkBeacon (plan : BeaconPlan)
  /-- DISCOVERY_BEACON (R243): A discovery beacon follows the network beacon in discovery superframes. -/
  | discoveryBeacon (fg : Nat)
  /-- MAC_BCNCFG_WRITE (R240): A write of MAC_BCNCFG is refused when the beacon span would exceed IVL. -/
  | macBcncfgWrite (fg : Nat) (who : Who) (value : Word)
  /-- ASSOC_REQ (R252): An ASSOC_REQ from a provisioned EUI-64 gets a provisional address and ASSOC_RESP. -/
  | assocReq (fg : Nat) (eui : Nat) (nn : Nat) (cap : Nat) (drift : Nat) (zcofs : Int)
  /-- ASSOC_TIMEOUT (R252): No KEY_CONFIRM within 8 beacon intervals releases the provisional address. -/
  | assocTimeout (saddr : Nat)
  /-- KEY_CONFIRM (R254): A valid KEY_CONFIRM completes association and KEY_CONFIRM_ACK is sent. -/
  | keyConfirm (saddr : Nat) (fg : Nat) (nn : Nat) (nm : Nat)
  /-- QUARANTINE_EXPIRE (R235): A quarantined address becomes free after 16 × QUAR beacon intervals. -/
  | quarantineExpire (saddr : Nat)
  /-- UPLINK_ACK_SEND (R251): The module acknowledges uplink frames within ACK_WIN cycles. -/
  | uplinkAckSend (saddr : Nat)
  /-- ACK_TIMEOUT (R251): No acknowledgement by the window end counts the transmission NACKed. -/
  | ackTimeout (frame : Nat)
  /-- GROUP_KEY_CHANGE (R245): MAC_NODECMD OP 4 starts a group-key change with GROUP_KEY messages. -/
  | groupKeyChange (who : Who)
  /-- GROUP_KEY_ACTIVATE (R245): At the activation beacon the new group key takes effect and GKPH toggles. -/
  | groupKeyActivate (fg : Nat)
  /-- NODE_RELEASE (R235): MAC_NODECMD OP 1 releases the node's address. -/
  | nodeRelease (who : Who)
  /-- NODE_WAKE (R269): MAC_NODECMD OP 2 sends a wake pattern to the node. -/
  | nodeWake (who : Who)
  /-- NODE_FORCE_REASSOC (R235): MAC_NODECMD OP 3 sends LEAVE reason 1. -/
  | nodeForceReassoc (who : Who)
  /-- RENDEZVOUS_REQ (R265): A RENDEZVOUS_REQ gets a RENDEZVOUS_SET with period, phase, sleep index and guard. -/
  | rendezvousReq (saddr : Nat) (drift : Nat) (pexp : Nat) (outPexp : Nat)
  /-- CHECKIN (R272): An OK reception within a check-in superframe meets the check-in and resets the miss count. -/
  | checkin (saddr : Nat) (line : Stamp) (zcofs : Int) (mains : Bool)
  /-- CHECKIN_MISSED (R272): A scheduled check-in passes unmet; the count rises and after three the node is ABSENT. -/
  | checkinMissed (saddr : Nat)
  /-- ABSENT_WAKE_REPEAT (R269): Every 16 beacon intervals an ABSENT node is sent a wake pattern. -/
  | absentWakeRepeat (saddr : Nat)
  /-- ABSENT_RELEASE (R235): ABSENT_REL intervals in ABSENT release the node's address. -/
  | absentRelease (saddr : Nat)
  /-- WAKE_PATTERN_DETECT (R270): A wake pattern for the module's address is accepted on an L port. -/
  | wakePatternDetect (port : Nat) (chips : Word)
  /-- WAKE_ANNOUNCE (R271): A wake-announce frame from a woken node is answered with a wake-timing frame. -/
  | wakeAnnounce (saddr : Nat) (line : Stamp) (zcofs : Int) (mains : Bool)
  /-- ALLOC_REQ (R248): An ALLOC_REQ is answered with an ALLOC_GRANT for scheduled cells. -/
  | allocReq (saddr : Nat) (gid : Nat) (kind : Nat) (span : Nat) (cgFirst : Nat) (cgLast : Nat) (slot : Nat) (cper : Nat) (cph : Nat) (nsymMax : Nat) (fromB : Nat) (toB : Nat)
  /-- ALLOC_END (R248): An ALLOC_END ends a grant. -/
  | allocEnd (saddr : Nat) (gid : Nat) (own : Bool)
  /-- LEAVE (R235): A LEAVE message releases the node's address. -/
  | leave (saddr : Nat) (reason : Nat)
  /-- MGMT_INVALID (R279): A management message of undefined MTYPE or wrong length is refused or dropped. -/
  | mgmtInvalid (saddr : Nat) (seq : Nat) (harq : Nat) (txn : Nat) (sec : Bool) (ackReq : Bool)
  /-- NEIGHBOUR_REPORT (R276): A relay's NEIGHBOUR_REPORT updates route choice and ROUTE_SET is sent. -/
  | neighbourReport (saddr : Nat) (heard : List (Nat × Nat))
  /-- ROUTE_FAILURE (R277): After 3 end-to-end failures the module tries the next route or three-phase MCS 0. -/
  | routeFailure (saddr : Nat)
  /-- PARENT_BEACON (R275): A parent line-link beacon is received and the miss count reset. -/
  | parentBeacon (link : Nat) (index : Nat) (offset : Int)
  /-- PARENT_BEACON_MISS (R275): An expected parent beacon is missed, leading to NO_PARENT and candidate search. -/
  | parentBeaconMiss
  /-- HANDOVER_DECISION (R278): Pitch decides to hand a node to another module and A stops new frames to it. -/
  | handoverDecision (saddr : Nat) (target : Nat)
  /-- OFFER (R278): A sends OFFER once HARQ processes finish, and B answers ACCEPT after committing a pending record. -/
  | offer (saddr : Nat) (incoming : Option Offer)
  /-- ACCEPT (R278): On ACCEPT, A commits its release record and sends COMMIT and HANDOVER_NOTICE. -/
  | accept (src : Nat) (mseq : Nat) (eui : Nat) (saddr : Nat)
  /-- COMMIT (R278): On COMMIT, B commits its owner record and serves the node. -/
  | commit (src : Nat) (mseq : Nat) (eui : Nat) (seq : SeqState)
  /-- ABORT (R278): An ABORT or refusal ends a handover and A resumes service. -/
  | abort (src : Nat) (mseq : Nat) (eui : Nat)
  /-- HANDOVER_ACCEPT_TIMEOUT (R278): No ACCEPT within 1 s aborts the handover. -/
  | handoverAcceptTimeout (saddr : Nat)
  /-- PENDING_RECORD_TIMEOUT (R278): B discards a pending record without COMMIT after 10 s and a QUERY answer. -/
  | pendingRecordTimeout (eui : Nat) (answer : Option Bool)
  /-- LEDGER_SUBMIT (R282): LEDGER_SUBMIT queues a token entry and completes with its LID once QUEUED lands. -/
  | ledgerSubmit (src : Src) (gaddr : Nat) (token : Nat) (href : Nat) (deadline : Nat) (want : Bool)
  /-- LEDGER_CANCEL (R285): LEDGER_CANCEL returns a QUEUED entry with reason CANCELLED. -/
  | ledgerCancel (src : Src) (lid : Nat)
  /-- LEDGER_QUERY (R283): LEDGER_QUERY returns an entry's state, reason, DELIVERY, MCODE and LSEQ. -/
  | ledgerQuery (src : Src) (lid : Nat)
  /-- LEDGER_RELEASE (R290): LEDGER_RELEASE releases a terminal entry. -/
  | ledgerRelease (src : Src) (lid : Nat)
  /-- LEDGER_NEXT (R295): LEDGER_NEXT returns the next held LID. -/
  | ledgerNext (src : Src) (lid : Nat)
  /-- LEDGER_BATCH_LANDED (R288): A ledger batch's commit lands and its transitions and records take effect. -/
  | ledgerBatchLanded
  /-- LEDGER_RESEND (R286): A SENT entry is sent again every RETRY beacon intervals. -/
  | ledgerResend (lid : Nat) (due : Bool)
  /-- LEDGER_REPORT (R285): A LEDGER_REPORT from a node triggers ACKED, CONFIRMED or RETURNED transitions. -/
  | ledgerReport (node : Nat) (entries : List (Nat × Nat × Nat × Nat))
  /-- LEDGER_DEADLINE (R284): An entry's deadline passes and it is RETURNED. -/
  | ledgerDeadline (lid : Nat)
  /-- LEDGER_CONFIRM_TIMEOUT (R282): No meter outcome within CONF_S of ACKED returns the entry CONFIRM_TIMEOUT. -/
  | ledgerConfirmTimeout (lid : Nat)
  /-- MAC_LDG_ACC_READ (R289): A read of MAC_LDG_ACC latches all six ledger counters outside any commit window. -/
  | macLdgAccRead (who : Who)
  /-- FBD_WAIT_TIMEOUT (R297): A received frame without a descriptor for 50 ms is dropped and NACKed. -/
  | fbdWaitTimeout (src : Nat) (seq : Nat)
  /-- FBD_RETURN_TAKE (R296): The host-service pack takes a returned descriptor from the return ring. -/
  | fbdReturnTake
  /-- SWEEP_NOW (R306): MDM_FMCMD OP 1 sweeps a port now. -/
  | sweepNow (who : Who) (bins : List (Int × Int)) (folded : Bool)
  /-- BASELINE_TAKE (R304): MDM_FMCMD OP 2 takes a baseline of 16 sweeps and commits it. -/
  | baselineTake (who : Who)
  /-- RANGING_SET (R310): MDM_FMCMD OP 3 runs a set of 16 ranging exchanges. -/
  | rangingSet (who : Who)
  /-- EVIDENCE_RELEASE (R299): MDM_FMCMD OP 4 releases an evidence handle. -/
  | evidenceRelease (who : Who)
  /-- RANGE_RESP (R309): A RANGE_RESP gives τ for one exchange. -/
  | rangeResp (saddr : Nat) (rid : Nat) (turn : Nat) (req : Stamp) (ack : Stamp) (eps : Int)
  /-- BALANCE_POINT_CHANGE (R311): The balance pack switches the crosspoint to the next point. -/
  | balancePointChange (pair : Nat)
  /-- BALANCE_DWELL_END (R311): A dwell of DWELL cycles ends and yields one power sample. -/
  | balanceDwellEnd (pair : Nat) (sum : Int) (n : Nat)
  /-- METER_READ (R312): A METER_READ payload records a node's register readings. -/
  | meterRead (saddr : Nat) (regs : List (Nat × Nat × Nat))
  /-- BALANCE_INTERVAL_END (R313): At the end of each interval a balance record is written and BALANCE_GAP may be posted. -/
  | balanceIntervalEnd (energies : List (Nat × Int × Int))
  /-- GS_CFG_WRITE (R325): A write of GS_CFG stages a channel change for the next output-sample boundary. -/
  | gsCfgWrite (channel : Nat) (who : Who) (value : Word)
  /-- GS_XPT_WRITE (R315): A write of GS_XPT is refused on a second driving role or staged. -/
  | gsXptWrite (channel : Nat) (who : Who) (value : Word)
  /-- SOURCE_WRITE (R318): A write of GS_IEX_n, GS_VEX or GS_BIAS changes a source at once. -/
  | sourceWrite (role : Nat) (who : Who) (value : Word)
  /-- GS_RET_WRITE (R320): A write of GS_RET changes return roles at once. -/
  | gsRetWrite (who : Who) (value : Word)
  /-- GS_CHANGE_APPLY (R325): Staged changes apply at an output-sample boundary and start SETTLING. -/
  | gsChangeApply (channel : Nat)
  /-- LINGO (R330): GS_CMD.LINGO brings the staged coefficients into force at the next boundary. -/
  | lingo (channel : Nat) (who : Who)
  /-- CHARGE_RESET (R317): GS_CMD.RESET resets the charge amplifier at the next boundary. -/
  | chargeReset (channel : Nat) (who : Who)
  /-- GS_SAMPLE_OUTPUT (R333): A channel writes one sample record per output sample into its ring. -/
  | gsSampleOutput (channel : Nat) (t : Stamp) (raw : Nat) (overload : Bool) (faults : Nat) (cjt : Nat)
  /-- GS_CHANNEL_DRAIN (R335): EN = 0 or a domain drain stops the channel and turns sources off. -/
  | gsChannelDrain (channel : Nat)
  /-- CAL_GO (R338): CAL_CMD.GO queues a calibration or refuses it. -/
  | calGo (who : Who) (value : Word)
  /-- CALIBRATION_START (R344): A calibration reaches the head and starts at its boundary. -/
  | calibrationStart
  /-- CAL_MEASURE_DONE (R339): Measurements A and B end and the agreement and window tests decide. -/
  | calMeasureDone (meas : List (Int × Int))
  /-- CAL_COMMIT_LANDED (R342): The calibration-set record lands; counts rise and REF sets come into force. -/
  | calCommitLanded
  /-- CAL_TARGET_RETURN (R341): A calibrated target returns to service at its boundary under the new or old set. -/
  | calTargetReturn
  /-- CAL_ABANDON (R347): EMBER entry or a drain of the target abandons a calibration. -/
  | calAbandon
  /-- CAL_LAST_S_READ (R342): A read of CAL_LAST_S_n latches CAL_LAST_NS_n. -/
  | calLastSRead (set : Nat) (who : Who)
  /-- NOP (R359): Does nothing for one step. -/
  | iNop (k : Nat) (f : FmtR)
  /-- YIELD (R366): Leaves issue to other contexts and offers a migration point. -/
  | iYield (k : Nat) (f : FmtR)
  /-- END (R365): Ends the task with the status in s[a]. -/
  | iEnd (k : Nat) (f : FmtR)
  /-- FENCE (R356): Waits for the context's own stores, calls or both. -/
  | iFence (k : Nat) (f : FmtR)
  /-- RET (R359): Jumps to the offset in s31. -/
  | iRet (k : Nat) (f : FmtR)
  /-- JR (R359): Jumps to the offset in s[a]. -/
  | iJr (k : Nat) (f : FmtR)
  /-- RDCTX (R362): Reads task ID, slot, priority and ASAT, clearing ASAT. -/
  | iRdctx (k : Nat) (f : FmtR)
  /-- BR (R359): Branches unconditionally. -/
  | iBr (k : Nat) (f : FmtB)
  /-- BZ (R359): Branches when s[a] is 0. -/
  | iBz (k : Nat) (f : FmtB)
  /-- BNZ (R359): Branches when s[a] is not 0. -/
  | iBnz (k : Nat) (f : FmtB)
  /-- CALL (R359): Writes the return offset to s31 and branches. -/
  | iCall (k : Nat) (f : FmtB)
  /-- ADD (R359): Scalar addition modulo 2^64. -/
  | iAdd (k : Nat) (f : FmtR)
  /-- SUB (R359): Scalar subtraction modulo 2^64. -/
  | iSub (k : Nat) (f : FmtR)
  /-- AND (R359): Scalar bitwise AND. -/
  | iAnd (k : Nat) (f : FmtR)
  /-- OR (R359): Scalar bitwise OR. -/
  | iOr (k : Nat) (f : FmtR)
  /-- XOR (R359): Scalar bitwise XOR. -/
  | iXor (k : Nat) (f : FmtR)
  /-- SHL (R359): Shifts s[a] left by s[b][5:0]. -/
  | iShl (k : Nat) (f : FmtR)
  /-- SHR (R359): Shifts s[a] right logically by s[b][5:0]. -/
  | iShr (k : Nat) (f : FmtR)
  /-- SRA (R359): Shifts s[a] right arithmetically by s[b][5:0]. -/
  | iSra (k : Nat) (f : FmtR)
  /-- MUL (R359): Low 64 bits of the product. -/
  | iMul (k : Nat) (f : FmtR)
  /-- MULHU (R359): High 64 bits of the unsigned product. -/
  | iMulhu (k : Nat) (f : FmtR)
  /-- MIN (R359): Signed minimum. -/
  | iMin (k : Nat) (f : FmtR)
  /-- MAX (R359): Signed maximum. -/
  | iMax (k : Nat) (f : FmtR)
  /-- SLT (R359): Sets 1 when s[a] < s[b] signed. -/
  | iSlt (k : Nat) (f : FmtR)
  /-- SLTU (R359): Sets 1 when s[a] < s[b] unsigned. -/
  | iSltu (k : Nat) (f : FmtR)
  /-- POPC (R359): Counts ones in s[a]. -/
  | iPopc (k : Nat) (f : FmtR)
  /-- CLZ (R359): Counts leading zeros of s[a]. -/
  | iClz (k : Nat) (f : FmtR)
  /-- ADDI (R358): Adds a sign-extended immediate. -/
  | iAddi (k : Nat) (f : FmtI)
  /-- ANDI (R358): ANDs a zero-extended immediate. -/
  | iAndi (k : Nat) (f : FmtI)
  /-- ORI (R358): ORs a zero-extended immediate. -/
  | iOri (k : Nat) (f : FmtI)
  /-- XORI (R358): XORs a zero-extended immediate. -/
  | iXori (k : Nat) (f : FmtI)
  /-- SHLI (R358): Shifts left by imm16[5:0]. -/
  | iShli (k : Nat) (f : FmtI)
  /-- SHRI (R358): Shifts right logically by imm16[5:0]. -/
  | iShri (k : Nat) (f : FmtI)
  /-- SRAI (R358): Shifts right arithmetically by imm16[5:0]. -/
  | iSrai (k : Nat) (f : FmtI)
  /-- LI (R359): Loads the sign-extended extension word. -/
  | iLi (k : Nat) (f : FmtE)
  /-- LIH (R359): Loads the extension word into bits 63:32. -/
  | iLih (k : Nat) (f : FmtE)
  /-- HGET (R351): Reads the handle value of a declaration, or 0xFFFF_FFFF when not held. -/
  | iHget (k : Nat) (f : FmtI)
  /-- LDS (R352): Scalar load from a handle and offset. -/
  | iLds (k : Nat) (f : FmtM)
  /-- STS (R352): Scalar store to a handle and offset. -/
  | iSts (k : Nat) (f : FmtM)
  /-- LDV (R352): 64-byte vector load. -/
  | iLdv (k : Nat) (f : FmtM)
  /-- STV (R352): Predicated 64-byte vector store. -/
  | iStv (k : Nat) (f : FmtM)
  /-- VADD (R360): Saturating vector addition. -/
  | iVadd (k : Nat) (f : FmtR)
  /-- VSUB (R360): Saturating vector subtraction. -/
  | iVsub (k : Nat) (f : FmtR)
  /-- VMUL (R360): Rounded complex or Q15 vector multiply. -/
  | iVmul (k : Nat) (f : FmtR)
  /-- VCONJ (R360): Saturating complex conjugate. -/
  | iVconj (k : Nat) (f : FmtR)
  /-- VMAG2 (R359): Squared magnitude of C16 lanes into H16. -/
  | iVmag2 (k : Nat) (f : FmtR)
  /-- VMIN (R359): Lane-wise minimum. -/
  | iVmin (k : Nat) (f : FmtR)
  /-- VMAX (R359): Lane-wise maximum. -/
  | iVmax (k : Nat) (f : FmtR)
  /-- VABS (R360): Saturating lane-wise absolute value. -/
  | iVabs (k : Nat) (f : FmtR)
  /-- VSEL (R359): Selects lanes by predicate. -/
  | iVsel (k : Nat) (f : FmtR)
  /-- VSHRI (R360): Rounding arithmetic right shift of lanes. -/
  | iVshri (k : Nat) (f : FmtR)
  /-- VPERM (R359): Permutes lanes by index vector. -/
  | iVperm (k : Nat) (f : FmtR)
  /-- VCMPGT (R359): Sets predicate bits where lanes compare greater. -/
  | iVcmpgt (k : Nat) (f : FmtR)
  /-- VCMPEQ (R359): Sets predicate bits where lanes compare equal. -/
  | iVcmpeq (k : Nat) (f : FmtR)
  /-- VAND (R359): Bitwise vector AND. -/
  | iVand (k : Nat) (f : FmtR)
  /-- VXOR (R359): Bitwise vector XOR. -/
  | iVxor (k : Nat) (f : FmtR)
  /-- VSPLAT (R359): Copies s[a] into every lane. -/
  | iVsplat (k : Nat) (f : FmtR)
  /-- VEXT (R359): Extracts one lane into a scalar. -/
  | iVext (k : Nat) (f : FmtR)
  /-- VDEMAP (R363): Demaps one bit level into soft values. -/
  | iVdemap (k : Nat) (f : FmtR)
  /-- CMAC (R362): Accumulates 16 complex products. -/
  | iCmac (k : Nat) (f : FmtR)
  /-- CMACC (R362): Accumulates 16 conjugate complex products. -/
  | iCmacc (k : Nat) (f : FmtR)
  /-- CMUL (R362): Sets the accumulator to 16 complex products. -/
  | iCmul (k : Nat) (f : FmtR)
  /-- ACLR (R359): Clears an accumulator. -/
  | iAclr (k : Nat) (f : FmtR)
  /-- ARND (R360): Rounds and saturates an accumulator into a vector. -/
  | iArnd (k : Nat) (f : FmtR)
  /-- AREDUCE (R359): Sums accumulator lanes into lane 0. -/
  | iAreduce (k : Nat) (f : FmtR)
  /-- PAND (R359): Predicate AND. -/
  | iPand (k : Nat) (f : FmtR)
  /-- POR (R359): Predicate OR. -/
  | iPor (k : Nat) (f : FmtR)
  /-- PXOR (R359): Predicate XOR. -/
  | iPxor (k : Nat) (f : FmtR)
  /-- PNOT (R359): Predicate NOT. -/
  | iPnot (k : Nat) (f : FmtR)
  /-- PSET (R359): Sets a predicate from a scalar. -/
  | iPset (k : Nat) (f : FmtR)
  /-- PGET (R359): Reads a predicate into a scalar. -/
  | iPget (k : Nat) (f : FmtR)
  /-- QPUSH (R364): Appends a message to a queue, waiting while it is full. -/
  | iQpush (k : Nat) (f : FmtR)
  /-- QPOP (R364): Removes the oldest message, waiting while the queue is empty. -/
  | iQpop (k : Nat) (f : FmtR)
  /-- QTPUSH (R364): Tries to push without waiting. -/
  | iQtpush (k : Nat) (f : FmtR)
  /-- QTPOP (R364): Tries to pop without waiting. -/
  | iQtpop (k : Nat) (f : FmtR)
  /-- QLEN (R364): Reads the number of messages waiting. -/
  | iQlen (k : Nat) (f : FmtR)
  /-- QUEUE_WAIT_RESUME (R364): A task waiting in QPUSH or QPOP resumes when room or a message appears. -/
  | queueWaitResume (k : Nat)
  /-- SPAWN (R365): Starts a task at a task entry and returns its ID or 0. -/
  | iSpawn (k : Nat) (f : FmtR)
  /-- TWAIT (R365): Waits for a task of the same pack to end. -/
  | iTwait (k : Nat) (f : FmtR)
  /-- TWAIT_RESUME (R365): A waited-on task ends and TWAIT returns its status. -/
  | twaitResume (k : Nat)
  /-- XFFT (R367): Issues a call to a transform unit. -/
  | iXfft (k : Nat) (f : FmtA)
  /-- XFEC (R367): Issues a call to an FEC cluster. -/
  | iXfec (k : Nat) (f : FmtA)
  /-- XCRY (R367): Issues a call to an inline crypto unit. -/
  | iXcry (k : Nat) (f : FmtA)
  /-- XCHK (R528): Issues a call to a check unit. -/
  | iXchk (k : Nat) (f : FmtA)
  /-- AWAIT (R367): Waits for a call ticket and returns its status. -/
  | iAwait (k : Nat) (f : FmtR)
  /-- APOLL (R367): Returns a call's status without waiting. -/
  | iApoll (k : Nat) (f : FmtR)
  /-- XF_FFT (R369): A transform unit completes an FFT call. -/
  | xfFft (call : Nat)
  /-- XF_IFFT (R369): A transform unit completes an IFFT call. -/
  | xfIfft (call : Nat)
  /-- LDPC_DECODE (R369): An FEC cluster completes an LDPC decode call. -/
  | ldpcDecode (call : Nat)
  /-- LDPC_ENCODE (R369): An FEC cluster completes an LDPC encode call. -/
  | ldpcEncode (call : Nat)
  /-- VITERBI_DECODE (R369): An FEC cluster completes a Viterbi decode call. -/
  | viterbiDecode (call : Nat)
  /-- CONVOLUTIONAL_ENCODE (R369): An FEC cluster completes a convolutional encode call. -/
  | convolutionalEncode (call : Nat)
  /-- REED_SOLOMON_DECODE (R369): An FEC cluster completes a Reed-Solomon decode call. -/
  | reedSolomonDecode (call : Nat)
  /-- REED_SOLOMON_ENCODE (R369): An FEC cluster completes a Reed-Solomon encode call. -/
  | reedSolomonEncode (call : Nat)
  /-- GCM_ENCRYPT (R369): A CRY unit completes AES-256-GCM encryption. -/
  | gcmEncrypt (call : Nat)
  /-- GCM_DECRYPT (R369): A CRY unit completes AES-256-GCM decryption and verification. -/
  | gcmDecrypt (call : Nat)
  /-- CCM_ENCRYPT (R369): A CRY unit completes AES-128-CCM encryption. -/
  | ccmEncrypt (call : Nat)
  /-- CCM_DECRYPT (R369): A CRY unit completes AES-128-CCM decryption and verification. -/
  | ccmDecrypt (call : Nat)
  /-- CHK_FEED (R528): A check unit completes feeding an XCHK call's bytes and writes its values. -/
  | chkFeed (call : Nat) (mismatch : Option Nat)
  /-- UGET (R370): Reads a unit register into s[d] with status. -/
  | iUget (k : Nat) (f : FmtI)
  /-- UPUT (R370): Writes a unit register and returns status. -/
  | iUput (k : Nat) (f : FmtR) (env : WriteEnv)
  /-- TNOW (R371): Reads the Compass short time. -/
  | iTnow (k : Nat) (f : FmtR)
  /-- ZCRD (R372): Reads a feeder group's tracker. -/
  | iZcrd (k : Nat) (f : FmtR)
  /-- TWAITT (R371): Waits until Compass short time reaches s[a]. -/
  | iTwaitt (k : Nat) (f : FmtR)
  /-- TWAITT_EXPIRE (R371): The awaited Compass time arrives and the task resumes. -/
  | twaittExpire (k : Nat)
  /-- WSLOT (R372): Waits for a tracker to reach a cycle and slot boundary. -/
  | iWslot (k : Nat) (f : FmtR)
  /-- WSLOT_RETURN (R372): The awaited slot boundary arrives or is stepped over and WSLOT returns. -/
  | wslotReturn (k : Nat)
  /-- TASK_MIGRATE (R366): Pitch moves a task at a migration point to another engine. -/
  | taskMigrate (k : Nat) (target : Nat)
  /-- TAG_WAIT_RESUME (R27): An initiator waiting for a fabric tag proceeds when one of its own returns. -/
  | tagWaitResume (init : Nat)
  /-- PSEUDO_CHANNEL_ADMIT (R29): A transaction waiting at a memory stop is admitted oldest first when a slot frees. -/
  | pseudoChannelAdmit (pc : Nat)
  /-- CREDIT_RETURN (R30): A receiver frees a buffer and returns a credit to its sender. -/
  | creditReturn (link : Nat)
  /-- LINK_HANDSHAKE_TIMEOUT (R18): A link handshake open for 10 µs is a detected error. -/
  | linkHandshakeTimeout (link : Nat) (unit : Option Nat)
  /-- PACK_LOAD (R376): PACK_LOAD verifies an image, admits its needs and makes it resident, or starts a live replacement. -/
  | packLoad (src : Src) (image : PackImage) (repl : Nat) (placed : Bool) (power : List Nat)
  /-- PACK_UNLOAD (R34): PACK_UNLOAD drains a pack's tasks and returns its units to the host. -/
  | packUnload (src : Src) (slot : Nat)
  /-- REPL_OUTGOING_ENDED (R394): The last outgoing task ends and ownership passes to the incoming pack. -/
  | replOutgoingEnded
  /-- REPL_TIME_LIMIT (R395): Outgoing tasks still live LIMIT_S after step 3 are ended ABANDONED. -/
  | replTimeLimit
  /-- REPL_ABORT (R395): PIT_REPLCFG.ABORT rolls back the running replacement. -/
  | replAbort (value : Word)
  /-- CLASS_SET (R382): CLASS_SET sets a service class if it can be admitted. -/
  | classSet (src : Src) (cls : Nat) (prio : Nat) (persist : Nat) (byte3 : Nat) (latUl : Nat) (latDl : Nat) (rate : Nat) (met : Bool) (power : List Nat)
  /-- CLASS_ASSIGN (R382): CLASS_ASSIGN assigns flows to a class if it can be admitted. -/
  | classAssign (src : Src) (gaddr : Nat) (group : Option Nat) (svc : Option Nat) (cls : Nat) (met : Bool) (power : List Nat)
  /-- PLACEMENT_REPORT (R384): PLACEMENT_REPORT writes the placement report to a handle. -/
  | placementReport (src : Src) (handle : Nat) (ofs : Nat) (len : Nat)
  /-- OWNER_SET (R412): OWNER_SET moves or pins a node to a module. -/
  | ownerSet (src : Src) (gaddr : Nat) (module : Nat) (pin : Bool)
  /-- PIT_DRAIN (R399): PIT_DRAIN.GO drains the unit of INDEX or refuses it. -/
  | pitDrain (value : Word)
  /-- PIT_FORCED_DISABLE (R398): PIT_DRAIN.GO with FORCE disables the unit by force. -/
  | pitForcedDisable (value : Word)
  /-- PIT_RESTORE (R398): PIT_DRAIN.GO with RESTORE returns the unit to service once DRAINED. -/
  | pitRestore (value : Word)
  /-- UNIT_DRAINED (R396): A draining unit's work ends; tags and credits are audited, DRAINED is posted and the domain switches off. -/
  | unitDrained (unit : Nat)
  /-- DRAIN_BOUND_EXPIRE (R396): Work still in flight at the drain bound ends ABANDONED. -/
  | drainBoundExpire (unit : Nat)
  /-- SPARE_TARGET_WRITE (R391): A write of PIT_SPARECFG.TARGET moves engines between service and the spare pool. -/
  | spareTargetWrite (value : Word)
  /-- PAGE_MIGRATE (R389): Pitch migrates a 4 KiB page of a handle. -/
  | pageMigrate (handle : Nat) (page : Nat) (target : Place) (last : Bool)
  /-- HBM_STEP_CHANGE (R401): Pitch raises or lowers a stack's data-rate step and retrains it. -/
  | hbmStepChange (stack : Nat) (step : Nat)
  /-- SCRUB_PASS (R404): A stack reads every location within SCRUB_H hours. -/
  | scrubPass (stack : Nat)
  /-- MEMORY_ECC_ERROR (R403): A memory ECC error is corrected and counted, or recovered from the mirror, or faults the load. -/
  | memoryEccError (unit : TestUnit) (uncorrectable : Bool) (second : Bool) (load : Option Nat)
  /-- SNR_REPORT (R411): Every 16 beacon intervals modules exchange mean header SNR of nodes they hear. -/
  | snrReport (received : Option (Nat × Nat)) (reports : List (Nat × Int))
  /-- GL_JOIN (R419): GL_CFG.EN = 1 brings up links and starts joining. -/
  | glJoin (who : Who) (value : Word)
  /-- GL_LEAVE (R423): GL_CFG.EN = 0 sends LEAVE and drains the GL domains. -/
  | glLeave (who : Who) (value : Word)
  /-- HELLO (R419): A HELLO is received and the module sends JOIN_REQ to its first passing candidate. -/
  | hello (link : Nat) (index : Nat) (gnid : Nat) (l : Nat) (standing : Standing) (credits : Nat)
  /-- JOIN_REQ (R421): A JOIN_REQ is checked at the root and answered JOIN_ACK or JOIN_REFUSE. -/
  | joinReq (link : Nat) (src : Nat) (mseq : Nat) (index : Nat) (parent : Nat)
  /-- JOIN_ACK (R419): A JOIN_ACK makes the module PARENTED and derives the link key. -/
  | joinAck (link : Nat) (src : Nat) (mseq : Nat) (index : Nat) (ancestors : List Nat) (members : Nat)
  /-- JOIN_REFUSE (R421): A JOIN_REFUSE is posted and a retry scheduled. -/
  | joinRefuse (link : Nat) (src : Nat) (mseq : Nat) (index : Nat) (st : Status) (dup : Bool)
  /-- JOIN_RETRY (R421): 10 s after a refusal the module tries to join again. -/
  | joinRetry
  /-- GUYLINE_LEAVE (R423): A LEAVE message puts its receiving children into NO_PARENT. -/
  | guylineLeave (link : Nat) (src : Nat) (mseq : Nat)
  /-- ROUTE (R420): A ROUTE message updates routes and L; descendants breaking the bound leave. -/
  | route (link : Nat) (src : Nat) (mseq : Nat) (added : List Nat) (removed : List Nat) (l : Nat)
  /-- GUYLINE_FRAME_FORWARD (R424): A Guyline frame is received and forwarded on its route, or held. -/
  | guylineFrameForward (link : Nat) (f : GFrame) (tagOk : Bool)
  /-- ROUTE_HOLD_TIMEOUT (R424): A frame without a route for 100 ms is dropped. -/
  | routeHoldTimeout
  /-- CONTROL_REPEAT (R425): An unacknowledged control message is repeated every 10 ms for up to 1 s. -/
  | controlRepeat (mseq : Nat)
  /-- GUYLINE_ACK (R425): An ACK ends repetition of a control message. -/
  | guylineAck (mseq : Nat)
  /-- LINE_LINK_BEACON (R415): The parent sends a line-link beacon granting windows at every multiple of PERIOD. -/
  | lineLinkBeacon (link : Nat) (windows : List (Nat × Nat × Nat))
  /-- TIME_FRAME_SEND (R426): The parent sends a TIME frame every 62.5 ms on each SerDes child link. -/
  | timeFrameSend
  /-- TIME_FRAME (R426): A child receives a TIME frame and updates its estimate of the parent's time. -/
  | timeFrame (link : Nat) (locked : Bool) (e : Nat) (offset : Int)
  /-- SERDES_LOSS (R427): Block lock lost for 10 µs or three missed HELLOs put the module into NO_PARENT. -/
  | serdesLoss (link : Nat)
  /-- FRAM_SECONDS_WRITE (R432): Compass writes its seconds to ferroelectric RAM every second. -/
  | framSecondsWrite
  /-- SOURCE_QUALIFY (R433): A source qualifies after QUAL_S seconds and may take over. -/
  | sourceQualify (src : Nat) (offsetNs : Int) (tai : Bool)
  /-- SOURCE_LOST (R433): The followed source is lost and Compass changes source or enters holdover or free-run. -/
  | sourceLost (src : Nat) (offsetNs : Int)
  /-- COMPASS_STEP (R440): A forward step takes effect at the next ring block boundary. -/
  | compassStep
  /-- CMP_SET_STEP (R438): CMP_SETHI.STEP steps Compass to a whole second, or is refused if earlier. -/
  | cmpSetStep (value : Word)
  /-- CMP_SET_PPS (R435): CMP_SETHI.PPS gives the time of the next PPS_IN edge. -/
  | cmpSetPps (value : Word)
  /-- PPS_IN_EDGE (R435): A PPS_IN rising edge is timestamped as a whole second. -/
  | ppsInEdge
  /-- PPS_SET_TIMEOUT (R435): No PPS_IN edge within 2 s of a PPS set sets RESULT 3. -/
  | ppsSetTimeout
  /-- PTP_MESSAGE (R434): A PTP event message is timestamped and used as a source measurement. -/
  | ptpMessage (port : Nat) (offsetNs : Int) (taiUtc : Option Nat)
  /-- HOLDOVER_LIMIT (R443): The error bound E passes LIMIT_US and HOLDLIM is set with a LIMIT event. -/
  | holdoverLimit
  /-- PPS_OUT_PULSE (R445): PPS_OUT rises at each whole second for WIDTH ms. -/
  | ppsOutPulse (level : Bool)
  /-- CMP_SHORT_S_READ (R430): A read of CMP_SHORT_S latches CMP_NS and CMP_SEC_HI. -/
  | cmpShortSRead
  /-- CMP_ZCT_S_READ (R446): A read of CMP_ZCT_S latches CMP_ZCT_NS. -/
  | cmpZctSRead
  /-- MDM_OLDEST_S_READ (R406): A read of MDM_OLDEST_S latches MDM_OLDEST_NS. -/
  | mdmOldestSRead (who : Who)
  /-- SYS_TAG_FREE_READ (R27): A read of SYS_TAG_FREE returns LOW and resets it to FREE. -/
  | sysTagFreeRead (who : Who)
  /-- PROVISION (R453): PROVISION fills owner slots and enters PROVISIONED. -/
  | provision
  /-- KEY_IMPORT (R452): KEY_IMPORT derives and decrypts a new KEK. -/
  | keyImport
  /-- LIFECYCLE (R458): LIFECYCLE moves to a later lifecycle state, zeroising keys as the transition requires. -/
  | lifecycle
  /-- UNLOCK (R459): UNLOCK raises the debug level to D3 until UNTIL. -/
  | unlock
  /-- ATTEST (R457): ATTEST writes a signed attestation report. -/
  | attest
  /-- ROLLBACK (R455): ROLLBACK raises a class's rollback counter. -/
  | rollback
  /-- REVOKE (R453): REVOKE revokes an owner slot. -/
  | revoke
  /-- STAGE (R463): STAGE writes image data to the inactive bank and verifies it on completion. -/
  | stage (image : PackImage)
  /-- SWITCH (R463): SWITCH restarts the security controller on the staged bank. -/
  | switch (ready : Bool)
  /-- SWITCH_READY_TIMEOUT (R463): The new program not ready within 50 ms restarts the old bank and SWITCH ends ABANDONED. -/
  | switchReadyTimeout
  /-- CHALLENGE (R450): CHALLENGE issues a fresh 32-byte challenge. -/
  | challenge
  /-- CERTS (R447): CERTS returns the two certificates. -/
  | certs
  /-- UNLOCK_EXPIRE (R459): At UNTIL the level leaves D3 and the unlock is consumed. -/
  | unlockExpire
  /-- DBG_LEVEL_WRITE (R459): A write of DBG_LEVEL.REQ sets the level or is refused. -/
  | dbgLevelWrite (value : Word)
  /-- TAMPER_ACTIVATION (R462): An enabled tamper input activates, latches and performs its action. -/
  | tamperActivation (input : Nat) (levels : Nat)
  /-- DBG_HALT (R461): DBG_ENGCTL OP 1 halts the selected task. -/
  | dbgHalt (who : Who)
  /-- DBG_STEP (R461): DBG_ENGCTL OP 2 steps one instruction. -/
  | dbgStep (who : Who)
  /-- DBG_RESUME (R461): DBG_ENGCTL OP 3 resumes the task. -/
  | dbgResume (who : Who)
  /-- DETECTION (R466): A detector fires, counts, posts an event and takes its row's action. -/
  | detection (code : Nat) (sel : Nat) (target : Option TestUnit) (next : Option Nat)
  /-- INJECT_REPORTING (R467): REL_INJ class 1 posts an INJECTED detection record only. -/
  | injectReporting (who : Who) (value : Word)
  /-- INJECT_FUNCTIONAL (R467): REL_INJ class 2 corrupts the injection point once. -/
  | injectFunctional (who : Who) (value : Word) (row : Nat) (next : Option Nat)
  /-- INJECT_DESTRUCTIVE (R467): REL_INJ class 3 makes the self-test fail and retires the unit. -/
  | injectDestructive (who : Who) (value : Word) (row : Nat) (next : Option Nat)
  /-- SELF_TEST_START (R469): A queued self-test starts when fewer than 8 run. -/
  | selfTestStart
  /-- SELF_TEST_DONE (R470): Runs A and B end with outcome TRANSIENT or LASTING. -/
  | selfTestDone (target : TestUnit) (lasting : Bool) (spareRow : Bool)
  /-- UNIT_RETIRE (R472): A LASTING unit is disabled, the retirement committed and UNIT_RETIRED posted. -/
  | unitRetire
  /-- REL_SELF_TEST (R475): REL_CMD OP 1 queues a self-test of the selected unit. -/
  | relSelfTest (who : Who)
  /-- REL_RETIRE (R475): REL_CMD OP 2 retires the selected unit through the drain rule. -/
  | relRetire (who : Who)
  /-- EXCURSION_START (R478): An excursion begins and ENV_EV is set with a LIMIT event. -/
  | excursionStart
  /-- EXCURSION_END (R478): The excursion ends and ENV reads 0. -/
  | excursionEnd
  /-- EXCURSION_RETEST (R479): A held unit is retested after CLEAR_S seconds within specification. -/
  | excursionRetest (target : TestUnit)
  /-- RECORD_SUBMIT (R483): A record is submitted to Bedroll and waits by priority. -/
  | recordSubmit (kind : Nat) (key : Nat) (key2 : Nat) (payload : Payload) (pieces : Nat)
  /-- PIECE_PROGRAMMED (R482): A 16 KiB piece is programmed and verified. -/
  | pieceProgrammed
  /-- COMMIT_LANDED (R482): A record's commit record lands in ferroelectric RAM. -/
  | commitLanded
  /-- PIECE_FAIL (R484): A piece fails to program and its segment is marked bad. -/
  | pieceFail
  /-- COMPACTION_START (R488): Compaction chooses a victim segment and copies its live records. -/
  | compactionStart
  /-- COMPACTION_ERASE (R488): After all copies land the victim is erased. -/
  | compactionErase
  /-- REFRESH_TRIGGER (R489): An aged or error-prone segment is compacted at once. -/
  | refreshTrigger (seg : Nat) (age : Nat) (corrected : Nat)
  /-- RECORD_CHECK_FAIL (R492): A record fails every check on read and is handled by kind. -/
  | recordCheckFail (rseq : Nat)
  /-- BED_SAVE (R554): BED_CMD OP 1 saves the journaled registers as configuration subkind 0. -/
  | bedSave (value : Word)
  /-- BED_RESUME_HELD (R492): BED_CMD OP 2 resumes held ledger entries. -/
  | bedResumeHeld (value : Word)
  /-- QUEUE_ENABLE (R497): HST_QCFG.EN = 1 enables a queue pair. -/
  | queueEnable (pair : Nat) (value : Word)
  /-- QUEUE_DISABLE (R497): HST_QCFG.EN = 0 stops fetching on a queue pair. -/
  | queueDisable (pair : Nat) (value : Word)
  /-- SQ_DOORBELL (R497): A write of HST_SQT makes the module fetch and start commands. -/
  | sqDoorbell (pair : Nat) (tail : Nat) (cmds : List Sqe)
  /-- CQ_HEAD_WRITE (R497): A write of HST_CQH frees completion queue slots. -/
  | cqHeadWrite (pair : Nat) (head : Nat)
  /-- NOP_COMMAND (R496): NOP completes OK. -/
  | nopCommand (src : Src)
  /-- FRAME_SEND (R280): FRAME_SEND sends a frame to a node in class BASIC or ACKNOWLEDGED. -/
  | frameSend (src : Src) (gaddr : Nat) (svc : Nat) (dclass : Nat) (len : Nat)
  /-- NODE_PROVISION (R252): NODE_PROVISION stores a node's wrapped pre-shared key. -/
  | nodeProvision (src : Src) (eui : Nat) (wrapped : List (BitVec 8))
  /-- NODE_REMOVE (R235): NODE_REMOVE releases the node's address. -/
  | nodeRemove (src : Src) (eui : Nat)
  /-- NETKEY_SET (R417): NETKEY_SET stores the wrapped Guyline network key. -/
  | netkeySet (src : Src) (wrapped : List (BitVec 8))
  /-- COMPLETION_POST (R499): A completion record is posted when its queue has room. -/
  | completionPost (pair : Nat)
  /-- EVENT_POST (R501): An event record is posted or held until a host path is powered. -/
  | eventPost
  /-- EVENT_DROP_TIMEOUT (R501): An event unposted for 10 ms because its queue stays full is dropped. -/
  | eventDropTimeout
  /-- FBDRET_WRITE (R500): A write of HST_FBDRET returns a descriptor to the return ring. -/
  | fbdretWrite (index : Nat)
  /-- BAR2_ACCESS (R504): A BAR2 window access reads or writes a mapped handle. -/
  | bar2Access (ofs : Nat) (bytes : Nat) (data : Option DWord)
  /-- HEADEND_DATAGRAM (R506): A UDP datagram from the head-end is served as FRAME_SEND or dropped. -/
  | headendDatagram (port : Nat) (home : Bool) (typ : Nat) (gaddr : Nat) (svc : Nat) (dclass : Nat) (ref : Nat) (len : Nat)
  /-- TP_CHAR_RECEIVED (R510): A character completes and is stored in the receive FIFO with its flags. -/
  | tpCharReceived (port : Nat) (data : Nat) (bit : Bool) (stop : Bool)
  /-- TP_RXD_READ (R510): A read of TP_RXD removes the oldest FIFO entry. -/
  | tpRxdRead (port : Nat) (who : Who)
  /-- TP_TXD_WRITE (R518): A write of TP_TXD queues a character or sets TXOVF. -/
  | tpTxdWrite (port : Nat) (who : Who) (value : Word)
  /-- TP_CHAR_SENT (R518): The transmit shifter completes a character and takes the next. -/
  | tpCharSent (port : Nat)
  /-- TP_RXFLUSH (R512): TP_CMD.RXFLUSH empties the receive FIFO. -/
  | tpRxflush (port : Nat) (who : Who)
  /-- TP_TXFLUSH (R518): TP_CMD.TXFLUSH discards waiting transmit entries. -/
  | tpTxflush (port : Nat) (who : Who)
  /-- TP_BREAK (R518): TP_CMD.BREAK sends a break after the character in the shifter. -/
  | tpBreak (port : Nat) (who : Who)
  /-- TP_RESUME (R519): TP_CMD.RESUME clears TXOFF. -/
  | tpResume (port : Nat) (who : Who)
  /-- TP_RATE_CHANGE_APPLY (R521): A rate or format change takes effect at the next character boundary. -/
  | tpRateChangeApply (port : Nat) (tx : Bool)
  /-- TP_BREAK_HELD (R522): RXD low for BRK_HOLD character times enters break held. -/
  | tpBreakHeld (port : Nat)
  /-- TP_BREAK_HELD_EXIT (R522): RXD high for one character time leaves break held. -/
  | tpBreakHeldExit (port : Nat)
  /-- TP_SYNC_CHAR (R523): In synchronous mode a character is sent and one received. -/
  | tpSyncChar (port : Nat) (data : Nat)
  /-- TP_DISABLE (R524): TP_CFG.EN = 0 drains the port. -/
  | tpDisable (port : Nat) (who : Who) (value : Word)
  /-- CHK_INIT (R527): CHK_CMD.INIT loads INIT and clears SCERR. -/
  | chkInit (unit : Nat) (who : Who) (value : Word)
  /-- CHK_DATA8 (R526): A write of CHK_DATA8 feeds one byte. -/
  | chkData8 (unit : Nat) (who : Who) (value : Word) (mismatch : Bool)
  /-- CHK_DATA16 (R526): A write of CHK_DATA16 feeds two bytes. -/
  | chkData16 (unit : Nat) (who : Who) (value : Word) (mismatch : Bool)
  /-- CHK_DATA32 (R526): A write of CHK_DATA32 feeds four bytes. -/
  | chkData32 (unit : Nat) (who : Who) (value : Word) (mismatch : Bool)
  /-- CHK_STATE_WRITE (R527): A write of CHK_STATE_LO or HI replaces half the running value. -/
  | chkStateWrite (unit : Nat) (hi : Bool) (who : Who) (value : Word)
  /-- CHK_CFG_WRITE (R527): A write of CHK_CFG, POLY, INIT or XOR applies to the next byte and masks on width change. -/
  | chkCfgWrite (unit : Nat) (op : ChkOp) (who : Who) (value : Word)
  /-- CHK_STATE_LO_READ (R527): A read of CHK_STATE_LO latches CHK_STATE_HI. -/
  | chkStateLoRead (unit : Nat) (who : Who)
  /-- CHK_RESULT_LO_READ (R525): A read of CHK_RESULT_LO latches CHK_RESULT_HI. -/
  | chkResultLoRead (unit : Nat) (who : Who)
  /-- CHK_HOST_WRITE_RESUME (R529): A host write held during an XCHK call takes effect after its last byte. -/
  | chkHostWriteResume (unit : Nat) (mismatch : Bool)
  /-- CHK_HOSTMASK_WRITE (R530): A write of CHK_HOSTMASK lends check units to the host. -/
  | chkHostmaskWrite (who : Who) (value : Word)
  /-- REGISTER_WRITE (R37): A write to a register without behaviour of its own is checked for ownership and stored. -/
  | registerWrite (who : Who) (ofs : Nat) (value : Word) (env : WriteEnv)
  /-- HANDOVER_QUERY (R278): Module A receives B's QUERY about a pending handover and answers whether its release record was committed. -/
  | handoverQuery (src : Nat) (mseq : Nat) (eui : Nat)
  /-- HELLO_KEEPALIVE (R425): Every 100 µs each SerDes link sends a HELLO as keep-alive. -/
  | helloKeepalive
  /-- SERDES_BLOCK_LOCK (R427): A SerDes lane reaches or regains block lock, its link comes up and HELLOs are exchanged. -/
  | serdesBlockLock (link : Nat)
  /-- TRANSACTION_RESPONSE (R354): The response of a fabric transaction arrives, completing the load or acknowledging the store and returning the tag. -/
  | transactionResponse (id : Nat) (memError : Bool)
  /-- HBM_TRAINING_COMPLETE (R50): A stack finishes training or retraining and starts serving transactions. -/
  | hbmTrainingComplete (stack : Nat)
  /-- COALESCING_TIMEOUT (R503): The coalescing delay of a completion queue expires and its MSI-X vector is raised. -/
  | coalescingTimeout (pair : Nat)
  /-- RANGING_EXCHANGE_TIMEOUT (R310): A ranging exchange without its acknowledgement or RANGE_RESP within 8 beacon intervals is dropped, and the set may complete. -/
  | rangingExchangeTimeout (saddr : Nat) (rid : Nat)
  /-- ETH_PORT_DISABLE (R396): A write of ETH_CFG.EN = 0 drains the Ethernet port, and EN = 1 returns it to service. -/
  | ethPortDisable (port : Nat) (who : Who) (value : Word)
  /-- MEMORY_RESERVE_WRITE (R408): A write of PIT_MEMRES changes the memory reserve intent and may let shrunk rings and buffers grow back. -/
  | memoryReserveWrite (value : Word)
  deriving DecidableEq, Repr

end Sys2Proof
end

