-- ==== Sys2Proof/Config.lean ====
section
/-! DEFINITION. What an implementation fixes and the free values: constants without a body, so that nothing in Lean can
evaluate one or prove a value of it. A statement that mentions one holds whatever it is. -/

namespace Sys2Proof.Config

/-- The n-th free value of `w` bits: a value the spec leaves open, drawn when it is needed (log entry 1). -/
opaque freeBits (w : Nat) (n : Nat) : BitVec w

/-- The n-th free natural: a quantity the spec leaves open (log entry 1). -/
opaque freeNat (n : Nat) : Nat

/-- Pitch's choice of a place for handle `h` at the n-th free draw, where several serve (R353, R387; log entry 94). -/
opaque placement (n h : Nat) : Nat

/-- The n-th free choice between two allowed behaviours (log entry 1). -/
opaque freeBool (n : Nat) : Bool

/-- The counts of a detector's metric that lie in `db` decibels (R146, R163) (log entry 201). -/
opaque metricOf (db : Nat) : Nat

/-- The n-th stretch of time that passes while no command waits, in nanoseconds (log entry 5). -/
opaque elapsedNs (n : Nat) : Nat

/-- SYS_ID.GRADE is 0x01 for ordering code SX, 0x00 for SC (per device) (log entry 3). -/
opaque gradeSX : Bool

/-- SYS_ID.STEPPING of this die (per die) (log entry 3). -/
opaque stepping : BitVec 8

/-- The MAC address of ETH_n, fixed at manufacture (R505) (log entry 3). -/
opaque ethMac (n : Nat) : BitVec 48

/-- DEVID, 48 bytes: the SHA-384 digest of the identity key (per device) (log entry 3). -/
opaque devId : List Byte

/-- The device and transport-key certificates, DER, one after the other (*Security commands*, per device) (log entry 3). -/
opaque certs : List Byte

/-- Whether a signature (R, S: 96 bytes) over bytes verifies under the key of a signer: Ketidon's (none) or the owner key of a number (log entry 23). -/
opaque verify (key : Option Nat) (bytes sig : List Byte) : Bool

/-- The signature of IDK over bytes, 96 bytes (R457) (log entry 23). -/
opaque sign (bytes : List Byte) : List Byte

/-- The KEK that KEY_IMPORT finds in EPH, CT and TAG under a challenge, where the tag is right (R452) (log entry 23). -/
opaque importKek (challenge : BitVec 256) (param : List Byte) : Option Nat

/-- The 48-byte measurement and the rollback level of what was installed at manufacture, the sealed firmware (0) and the boot pack (1) (log entry 3). -/
opaque factoryMeas (which : Nat) : BitVec 384
opaque factoryRollback (which : Nat) : Nat

/-- A byte whose contents the spec leaves open: evidence and the trace buffer (log entry 88). -/
opaque openByte (n h ofs : Nat) : Byte

/-- The number of the Ridge link between two stops, which the spec leaves open (log entry 12). -/
opaque linkNo (a b : Nat) : Nat

/-- Whether block or buffer `i` lay on the lost part of a stack at the n-th free draw (R406) (log entry 93). -/
opaque lostPart (n i : Nat) : Bool

/-- The version of the running security-controller program as manufactured (SEC_SCVER, per device) (log entry 3). -/
opaque scVersion : BitVec 32

/-- Journal segments free and bad before the first record (BED_SEGS, per device) (log entry 3). -/
opaque bedFree : Nat
opaque bedBad : Nat

/-- The highest erase count before the first erase (BED_WEAR, per device) (log entry 3). -/
opaque bedWear : Nat

/-- FFT and IFFT of C16 vectors (R369): the input bytes, the parameters and the direction to the output bytes and whether a
value saturated. The spec names the operation and its parameters and does not state the rounding inside. -/
opaque fft (inverse : Bool) (n count shift : Nat) (input : List Byte) : List Byte × Bool

/-- LDPC decoding of 1 944-bit codewords (R122, R369): output bytes and, per codeword, the status byte. -/
opaque ldpcDecode (rate ncw maxIt : Nat) (input : List Byte) : List Byte × List Byte

/-- LDPC encoding (IEEE 802.11-2020 clause 19, R122, R369). -/
opaque ldpcEncode (rate ncw : Nat) (input : List Byte) : List Byte

/-- Viterbi decoding of the constraint-length-7 code under a puncturing (R369). -/
opaque viterbi (punct len : Nat) (input : List Byte) : List Byte

/-- Puncturing of the convolutional coder's output, as the standard-mode packs define it (R369). -/
opaque puncture (punct : Nat) (bits : List Bool) : List Bool

/-- Whether the bits of a byte are taken most significant first where the spec says bits and not in which order. -/
opaque bitsMsbFirst : Bool

/-- Reed-Solomon decoding over GF(256) (R369): output bytes and whether every block was corrected. -/
opaque rsDecode (n k blocks : Nat) (input : List Byte) : List Byte × Bool

/-- Reed-Solomon encoding over GF(256) (R369). -/
opaque rsEncode (n k blocks : Nat) (input : List Byte) : List Byte

/-- AES-256-GCM and AES-128-CCM encryption: key bytes, nonce, additional data, text and tag length to text and tag (log entry 23). -/
opaque gcmSeal (key nonce aad text : List Byte) (tagLen : Nat) : List Byte
opaque ccmSeal (key nonce aad text : List Byte) (tagLen : Nat) : List Byte

/-- Decryption and verification: the text where the tag is right, none where it is wrong (log entry 23). -/
opaque gcmOpen (key nonce aad text : List Byte) (tagLen : Nat) : Option (List Byte)
opaque ccmOpen (key nonce aad text : List Byte) (tagLen : Nat) : Option (List Byte)

/-- Unwrapping of a 40-byte wrapped key under the key-encryption key (R448): the key where the check passes (log entry 23). -/
opaque unwrap (kek : Nat) (wrapped : List Byte) : Option (List Byte)

/-- A key-derivation output (HKDF-SHA-384) from a secret, a label and a context (log entry 23). -/
opaque derive (secret : BitVec 128) (label : Nat) (ctx : BitVec 128) : BitVec 128

/-- The status code of the event record of a detection (R466 names the record's content and not its status), by detector (log entry 147). -/
opaque detectionStatus (det : Nat) : Nat

/-- Whether the i-th rounding of the n-th free draw goes up, where the spec gives a result in coarse units and no rounding (log entry 42). -/
opaque roundUp (n i : Nat) : Bool

/-- The code rate whose thresholds give the LOAD codes of channel records (R172 names the rule and not the rate) (log entry 43). -/
opaque recordRate : Nat

/-- The SNR correction of stream `i` in 1/32 dB, 10 log10(2σi² / (σ0² + σ1²)), of a 2 × 4 channel matrix given as its eight
complex gains (R186). The spec states the formula and not its rounding (log entry 43). -/
opaque streamSnr (gains : List (Int × Int)) (i : Nat) : Int

/-- What a standard curve gives before it is clamped, in 2^-100 °C (R331): from LIN, MODE, the range, RAW, the source current in 10 µA and the temperature
of TSRC in binary32. The spec gives the curves and not every rounding on the way (log entry 80). -/
opaque gsCurve (lin mode range raw current : Nat) (temp : BitVec 32) : Int

/-- VALUE of a sample with the polynomial (R329), from the coefficients in force (log entry 80). -/
opaque gsPoly (coefs : List (BitVec 32)) (mode range raw : Nat) (temp : BitVec 32) : BitVec 32

/-- The max-log soft value of bit `j` of an axis of `bits` bits at the equalised coordinate `y`, unit amplitude 8 192, times a Q8 scale
(R363). The spec names the rule and not the unit of the soft value or its rounding (log entry 138). -/
opaque softValue (bits j : Nat) (y scale : Int) : Int

/-- Narrow sample `k` of a block at 0 dB, two 16-bit axes, from the input, the block's start and the ADC codes of its wide samples: the high-pass
of 1.5 kHz and the decimation to an analytic signal, whose coefficients the spec does not give (R76) (log entry 176). -/
opaque narrowFilter (input : Nat) (t0 : Stamp) (adc : List (Nat × Int)) (k : Nat) : Int × Int

/-- A narrow sample whose value after the digital gain does not fit 16 bits (R76) (log entry 176). -/
opaque narrowOver (x : Int) : Int

/-- What the FEC makes of the 1 944 soft values of a codeword in a reception: its information bits, and whether every syndrome is clean after the last
iteration (R122, R137, R361) (log entry 182). -/
opaque ldpcWord (rate : Nat) (soft : List Int) : List Bool × Bool

/-- The parity bits of a codeword (IEEE 802.11-2020 clause 19, R122) (log entry 182). -/
opaque ldpcParity (rate : Nat) (info : List Bool) : List Bool

/-- The session key of a node: HKDF-SHA-384 of its pre-shared key under the nonces NN and NM (R253) (log entry 23). -/
opaque sessionKey (eui nn nm netid saddr : Nat) : List Byte

/-- The n-th group key (R245) (log entry 23). -/
opaque groupKey (n : Nat) : List Byte

/-- HKDF-SHA-384 of input keying material with a salt and an info string, 32 bytes (R417) (log entry 23). -/
opaque hkdf (ikm salt info : List Byte) : List Byte

/-- Byte `i` of the payload the n-th accepted frame carries: what the host gave, which no command names (log entry 183). -/
opaque payloadByte (n i : Nat) : Byte

/-- The residual |ε| in 10⁻⁹ and the timing error in ns that acquisition leaves, at the n-th draw, within a bound (R112, R207) (log entry 184). -/
opaque residual (n : Nat) : Int
opaque timingError (n : Nat) : Int

/-- Payload bytes of a Guyline message by its code and what its length depends on (R414 to R417 name the messages and not their lengths) (log entry
193). -/
opaque glBytes (code n : Nat) : Nat

end Sys2Proof.Config
end

