-- ==== Sys2Proof/Regs.lean ====
section
/-! DEFINITION. The names of the module's registers, one constructor per register name of the chapters, and the shape of a
register field. -/

namespace Sys2Proof

/-- A register name; an instance number tells the copies of a repeated block apart. -/
inductive Reg where
  | SYS_ID
  | SYS_TAG_FREE
  | SYS_OWN_SEL
  | SYS_OWN
  | PWR_MODE
  | PWR_CAP
  | PWR_MEAS
  | PWR_EMBER
  | PWR_WAKECFG
  | PWR_STAT
  | PWR_DOM_SEL
  | PWR_DOM
  | LP_CFG
  | LP_TXCFG
  | LP_FBCFG
  | LP_RXCFG
  | LP_STAT
  | LP_ISENSE
  | LP_OVLCNT
  | LP_FBCNT
  | NP_CFG
  | NP_RXCFG
  | NP_STAT
  | NP_OVLCNT
  | LP_ZCCFG
  | LP_ZCSTAT
  | LP_ZCPHASE
  | LP_ZCCYC_LO
  | LP_ZCCYC_HI
  | LP_ZCFREQ
  | LP_ZCREF
  | MDM_DETCFG
  | MDM_DETSTAT
  | MDM_DETDROP
  | MDM_RINGCFG
  | MDM_RINGSTAT
  | MDM_OLDEST_S
  | MDM_OLDEST_NS
  | MDM_RESCAN
  | MDM_RESCAN_STAT
  | MDM_END_SEL
  | MDM_END_CNT
  | MDM_EVTCFG
  | MDM_MAPCFG
  | MDM_SNDCFG
  | MDM_MAPSTAT
  | MDM_MAPEVICT
  | MDM_MAPSEL
  | MDM_MAPINFO
  | MDM_MAPHANDLE
  | MDM_MAPCMD
  | MDM_BANDCFG
  | MDM_BANDSTAT
  | MDM_BBCFG
  | MDM_BBNOTCH
  | MDM_BBSTAT
  | MAC_NETCFG
  | MAC_SEED_LO
  | MAC_SEED_HI
  | MAC_ACKCFG
  | MAC_CHKCFG
  | MAC_SLEEPCFG
  | MAC_WAKECFG
  | MAC_WAKEADDR
  | MAC_PARENT
  | MAC_STAT
  | MAC_COUNT
  | MAC_NODESEL
  | MAC_NODEINFO
  | MAC_NODETX
  | MAC_NODERX
  | MAC_NODECMD
  | MAC_BCNCFG
  | MAC_BNUM
  | MAC_LDGCFG
  | MAC_LDGSTAT
  | MAC_LDG_ACC
  | MAC_LDG_Q
  | MAC_LDG_S
  | MAC_LDG_A
  | MAC_LDG_C
  | MAC_LDG_R
  | MAC_FBD
  | MDM_FMCFG
  | MDM_FMPORT
  | MDM_FMSTAT
  | MDM_FMSKIP
  | MDM_FMCMD
  | MDM_FMARG
  | MDM_BALCFG
  | MDM_BALCH
  | MDM_BALPT
  | MDM_BALVS
  | MDM_BALIS
  | GS_CFG
  | GS_XPT
  | GS_CMD
  | GS_STAT
  | GS_RINGH
  | GS_WIDX
  | GS_COEF
  | GS_IEX
  | GS_VEX
  | GS_BIAS
  | GS_ARCFG
  | GS_CJT
  | GS_XSTAT
  | GS_RET
  | CAL_CMD
  | CAL_STAT
  | CAL_TOL
  | CAL_REFV
  | CAL_CNT
  | CAL_LAST_S
  | CAL_LAST_NS
  | CAL_SEL
  | CAL_INFO
  | CAL_INFO_S
  | ENG_STAT
  | ENG_FAULT
  | ENG_PACKSEL
  | ENG_PACKINFO
  | ENG_PACKVER
  | ENG_SLOTS
  | PIT_STAT
  | PIT_EVT
  | PIT_SPARECFG
  | PIT_MEMRES
  | PIT_MEMCOM
  | PIT_MEMRSV
  | PIT_MEMFREE
  | PIT_MIGCFG
  | PIT_REPLCFG
  | PIT_DRAIN
  | PIT_OWNCFG
  | MEM_CFG
  | MEM_STAT
  | MEM_CE
  | MEM_UE
  | MEM_CAN
  | MEM_CAN_CE
  | MEM_CAN_UE
  | GL_CFG
  | GL_PARENT
  | GL_LATB
  | GL_LCFG
  | GL_SEED_LO
  | GL_SEED_HI
  | GL_STAT
  | GL_LROOT
  | GL_MEMBERS
  | GL_LINKSEL
  | GL_LINK
  | GL_EVT
  | GL_DROP
  | CMP_SHORT_S
  | CMP_NS
  | CMP_SEC_HI
  | CMP_STAT
  | CMP_SRCCFG
  | CMP_OFFSET
  | CMP_HOLDEST
  | CMP_HOLD
  | CMP_SETLO
  | CMP_SETHI
  | CMP_PPSOUT
  | CMP_UTC
  | CMP_ZCSEL
  | CMP_ZCT_S
  | CMP_ZCT_NS
  | SEC_STAT
  | SEC_CMD
  | SEC_XFER_LEN
  | SEC_NONCE
  | SEC_RBSEL
  | SEC_RB
  | SEC_TAMPCFG
  | SEC_TAMPSTAT
  | SEC_TAMPT
  | SEC_SCVER
  | DBG_LEVEL
  | DBG_ENGSEL
  | DBG_ENGCTL
  | DBG_ENGPC
  | DBG_TRACE
  | DBG_TRACEH
  | REL_CFG
  | REL_STAT
  | REL_DETSEL
  | REL_DETCNT
  | REL_DETINJ
  | REL_UNITSEL
  | REL_UNIT
  | REL_INJ
  | REL_CMD
  | REL_TEMP
  | REL_RETCNT
  | BED_CFG
  | BED_STAT
  | BED_SEGS
  | BED_WEAR
  | BED_RATE
  | BED_CMD
  | HST_STAT
  | HST_EVTQ
  | HST_FBDRET
  | HST_EVLOST
  | HST_FBH
  | HST_SCRH
  | HST_IRQCFG
  | HST_QCFG
  | HST_SQB_LO
  | HST_SQB_HI
  | HST_CQB_LO
  | HST_CQB_HI
  | HST_SQT
  | HST_CQH
  | HST_WINH
  | HST_WINO
  | HST_WINC
  | ETH_CFG
  | ETH_IP
  | ETH_HEIP
  | ETH_UDP
  | ETH_MAC_LO
  | ETH_MAC_HI
  | ETH_DROP
  | ETH_STAT
  | TP_CFG
  | TP_BAUD
  | TP_ADDR
  | TP_FLOW
  | TP_TXD
  | TP_RXD
  | TP_STAT
  | TP_CMD
  | TP_OVRCNT
  | CHK_CFG
  | CHK_POLY_LO
  | CHK_POLY_HI
  | CHK_INIT_LO
  | CHK_INIT_HI
  | CHK_XOR_LO
  | CHK_XOR_HI
  | CHK_STATE_LO
  | CHK_STATE_HI
  | CHK_RESULT_LO
  | CHK_RESULT_HI
  | CHK_DATA8
  | CHK_DATA16
  | CHK_DATA32
  | CHK_CMD
  | CHK_STAT
  | CHK_HOSTMASK
  deriving DecidableEq, Repr

/-- A field of a register: its lowest bit and its width. -/
structure Fld where
  reg : Reg
  lo : Nat
  width : Nat
  deriving DecidableEq, Repr

end Sys2Proof
end

