-- ==== Sys2Proof/Machine/RegMap.lean ====
section
/-! DEFINITION. The register map of BAR0 (R6, R33, *BAR0 block map*): for every register its offset, the stride and the
number of its instances, its reset value, which bits a write stores and which bits a one clears; and every field. -/

namespace Sys2Proof

/-- Offset in BAR0 of instance 0. -/
def Reg.base : Reg → Nat
  | .SYS_ID => 0x00000000
  | .SYS_TAG_FREE => 0x00000010
  | .SYS_OWN_SEL => 0x00000020
  | .SYS_OWN => 0x00000024
  | .PWR_MODE => 0x00100000
  | .PWR_CAP => 0x00100004
  | .PWR_MEAS => 0x00100008
  | .PWR_EMBER => 0x0010000C
  | .PWR_WAKECFG => 0x00100010
  | .PWR_STAT => 0x00100014
  | .PWR_DOM_SEL => 0x00100020
  | .PWR_DOM => 0x00100024
  | .LP_CFG => 0x00800000
  | .LP_TXCFG => 0x00800004
  | .LP_FBCFG => 0x00800008
  | .LP_RXCFG => 0x0080000C
  | .LP_STAT => 0x00800010
  | .LP_ISENSE => 0x00800014
  | .LP_OVLCNT => 0x00800018
  | .LP_FBCNT => 0x0080001C
  | .NP_CFG => 0x00860000
  | .NP_RXCFG => 0x0086000C
  | .NP_STAT => 0x00860010
  | .NP_OVLCNT => 0x00860018
  | .LP_ZCCFG => 0x00880000
  | .LP_ZCSTAT => 0x00880004
  | .LP_ZCPHASE => 0x00880008
  | .LP_ZCCYC_LO => 0x0088000C
  | .LP_ZCCYC_HI => 0x00880010
  | .LP_ZCFREQ => 0x00880014
  | .LP_ZCREF => 0x00880018
  | .MDM_DETCFG => 0x00A00000
  | .MDM_DETSTAT => 0x00A00004
  | .MDM_DETDROP => 0x00A00008
  | .MDM_RINGCFG => 0x00A01000
  | .MDM_RINGSTAT => 0x00A01004
  | .MDM_OLDEST_S => 0x00A01008
  | .MDM_OLDEST_NS => 0x00A0100C
  | .MDM_RESCAN => 0x00A01020
  | .MDM_RESCAN_STAT => 0x00A01024
  | .MDM_END_SEL => 0x00A01030
  | .MDM_END_CNT => 0x00A01034
  | .MDM_EVTCFG => 0x00A01040
  | .MDM_MAPCFG => 0x00A02000
  | .MDM_SNDCFG => 0x00A02004
  | .MDM_MAPSTAT => 0x00A02008
  | .MDM_MAPEVICT => 0x00A0200C
  | .MDM_MAPSEL => 0x00A02010
  | .MDM_MAPINFO => 0x00A02014
  | .MDM_MAPHANDLE => 0x00A02018
  | .MDM_MAPCMD => 0x00A0201C
  | .MDM_BANDCFG => 0x00A03000
  | .MDM_BANDSTAT => 0x00A03004
  | .MDM_BBCFG => 0x00A04000
  | .MDM_BBNOTCH => 0x00A05800
  | .MDM_BBSTAT => 0x00A05840
  | .MAC_NETCFG => 0x00C00000
  | .MAC_SEED_LO => 0x00C00004
  | .MAC_SEED_HI => 0x00C00008
  | .MAC_ACKCFG => 0x00C0000C
  | .MAC_CHKCFG => 0x00C00010
  | .MAC_SLEEPCFG => 0x00C00014
  | .MAC_WAKECFG => 0x00C00018
  | .MAC_WAKEADDR => 0x00C0001C
  | .MAC_PARENT => 0x00C00020
  | .MAC_STAT => 0x00C00024
  | .MAC_COUNT => 0x00C00028
  | .MAC_NODESEL => 0x00C00040
  | .MAC_NODEINFO => 0x00C00044
  | .MAC_NODETX => 0x00C00048
  | .MAC_NODERX => 0x00C0004C
  | .MAC_NODECMD => 0x00C00054
  | .MAC_BCNCFG => 0x00C00100
  | .MAC_BNUM => 0x00C00104
  | .MAC_LDGCFG => 0x00C01000
  | .MAC_LDGSTAT => 0x00C01004
  | .MAC_LDG_ACC => 0x00C01010
  | .MAC_LDG_Q => 0x00C01014
  | .MAC_LDG_S => 0x00C01018
  | .MAC_LDG_A => 0x00C0101C
  | .MAC_LDG_C => 0x00C01020
  | .MAC_LDG_R => 0x00C01024
  | .MAC_FBD => 0x00C01030
  | .MDM_FMCFG => 0x00A06000
  | .MDM_FMPORT => 0x00A06004
  | .MDM_FMSTAT => 0x00A06008
  | .MDM_FMSKIP => 0x00A0600C
  | .MDM_FMCMD => 0x00A06010
  | .MDM_FMARG => 0x00A06014
  | .MDM_BALCFG => 0x00A06020
  | .MDM_BALCH => 0x00A06024
  | .MDM_BALPT => 0x00A06040
  | .MDM_BALVS => 0x00A060A0
  | .MDM_BALIS => 0x00A06100
  | .GS_CFG => 0x00E00000
  | .GS_XPT => 0x00E00004
  | .GS_CMD => 0x00E00008
  | .GS_STAT => 0x00E0000C
  | .GS_RINGH => 0x00E00010
  | .GS_WIDX => 0x00E00014
  | .GS_COEF => 0x00E00040
  | .GS_IEX => 0x00E00800
  | .GS_VEX => 0x00E00808
  | .GS_BIAS => 0x00E0080C
  | .GS_ARCFG => 0x00E00810
  | .GS_CJT => 0x00E00814
  | .GS_XSTAT => 0x00E00818
  | .GS_RET => 0x00E0081C
  | .CAL_CMD => 0x00F00000
  | .CAL_STAT => 0x00F00004
  | .CAL_TOL => 0x00F00008
  | .CAL_REFV => 0x00F0000C
  | .CAL_CNT => 0x00F00010
  | .CAL_LAST_S => 0x00F00014
  | .CAL_LAST_NS => 0x00F00018
  | .CAL_SEL => 0x00F00040
  | .CAL_INFO => 0x00F00044
  | .CAL_INFO_S => 0x00F00048
  | .ENG_STAT => 0x00400000
  | .ENG_FAULT => 0x00400004
  | .ENG_PACKSEL => 0x00500000
  | .ENG_PACKINFO => 0x00500004
  | .ENG_PACKVER => 0x00500008
  | .ENG_SLOTS => 0x0050000C
  | .PIT_STAT => 0x00300000
  | .PIT_EVT => 0x00300004
  | .PIT_SPARECFG => 0x00300008
  | .PIT_MEMRES => 0x0030000C
  | .PIT_MEMCOM => 0x00300010
  | .PIT_MEMRSV => 0x00300014
  | .PIT_MEMFREE => 0x00300018
  | .PIT_MIGCFG => 0x00300020
  | .PIT_REPLCFG => 0x00300024
  | .PIT_DRAIN => 0x00300030
  | .PIT_OWNCFG => 0x00300040
  | .MEM_CFG => 0x00600000
  | .MEM_STAT => 0x00600004
  | .MEM_CE => 0x00600008
  | .MEM_UE => 0x0060000C
  | .MEM_CAN => 0x00601000
  | .MEM_CAN_CE => 0x00601004
  | .MEM_CAN_UE => 0x00601008
  | .GL_CFG => 0x01300000
  | .GL_PARENT => 0x01300004
  | .GL_LATB => 0x01300008
  | .GL_LCFG => 0x0130000C
  | .GL_SEED_LO => 0x01300010
  | .GL_SEED_HI => 0x01300014
  | .GL_STAT => 0x01300020
  | .GL_LROOT => 0x01300024
  | .GL_MEMBERS => 0x01300028
  | .GL_LINKSEL => 0x01300030
  | .GL_LINK => 0x01300034
  | .GL_EVT => 0x01300040
  | .GL_DROP => 0x01300044
  | .CMP_SHORT_S => 0x01200000
  | .CMP_NS => 0x01200004
  | .CMP_SEC_HI => 0x01200008
  | .CMP_STAT => 0x01200010
  | .CMP_SRCCFG => 0x01200014
  | .CMP_OFFSET => 0x01200018
  | .CMP_HOLDEST => 0x01200024
  | .CMP_HOLD => 0x01200020
  | .CMP_SETLO => 0x01200030
  | .CMP_SETHI => 0x01200034
  | .CMP_PPSOUT => 0x01200040
  | .CMP_UTC => 0x01200044
  | .CMP_ZCSEL => 0x01200050
  | .CMP_ZCT_S => 0x01200054
  | .CMP_ZCT_NS => 0x01200058
  | .SEC_STAT => 0x00200000
  | .SEC_CMD => 0x00200004
  | .SEC_XFER_LEN => 0x00200008
  | .SEC_NONCE => 0x00200010
  | .SEC_RBSEL => 0x00200030
  | .SEC_RB => 0x00200034
  | .SEC_TAMPCFG => 0x00200040
  | .SEC_TAMPSTAT => 0x00200044
  | .SEC_TAMPT => 0x00200048
  | .SEC_SCVER => 0x0020004C
  | .DBG_LEVEL => 0x01800000
  | .DBG_ENGSEL => 0x01800010
  | .DBG_ENGCTL => 0x01800014
  | .DBG_ENGPC => 0x01800018
  | .DBG_TRACE => 0x01800020
  | .DBG_TRACEH => 0x01800024
  | .REL_CFG => 0x01700000
  | .REL_STAT => 0x01700004
  | .REL_DETSEL => 0x01700010
  | .REL_DETCNT => 0x01700014
  | .REL_DETINJ => 0x01700018
  | .REL_UNITSEL => 0x01700020
  | .REL_UNIT => 0x01700024
  | .REL_INJ => 0x01700030
  | .REL_CMD => 0x01700034
  | .REL_TEMP => 0x01700040
  | .REL_RETCNT => 0x01700044
  | .BED_CFG => 0x01600000
  | .BED_STAT => 0x01600004
  | .BED_SEGS => 0x01600008
  | .BED_WEAR => 0x0160000C
  | .BED_RATE => 0x01600010
  | .BED_CMD => 0x01600014
  | .HST_STAT => 0x01400000
  | .HST_EVTQ => 0x01400004
  | .HST_FBDRET => 0x01400008
  | .HST_EVLOST => 0x0140000C
  | .HST_FBH => 0x01400010
  | .HST_SCRH => 0x01400014
  | .HST_IRQCFG => 0x01400020
  | .HST_QCFG => 0x01410000
  | .HST_SQB_LO => 0x01410004
  | .HST_SQB_HI => 0x01410008
  | .HST_CQB_LO => 0x0141000C
  | .HST_CQB_HI => 0x01410010
  | .HST_SQT => 0x01410014
  | .HST_CQH => 0x01410018
  | .HST_WINH => 0x01420000
  | .HST_WINO => 0x01420004
  | .HST_WINC => 0x01420008
  | .ETH_CFG => 0x01500000
  | .ETH_IP => 0x01500004
  | .ETH_HEIP => 0x01500008
  | .ETH_UDP => 0x0150000C
  | .ETH_MAC_LO => 0x01500010
  | .ETH_MAC_HI => 0x01500014
  | .ETH_DROP => 0x01500018
  | .ETH_STAT => 0x0150001C
  | .TP_CFG => 0x01000000
  | .TP_BAUD => 0x01000004
  | .TP_ADDR => 0x01000008
  | .TP_FLOW => 0x0100000C
  | .TP_TXD => 0x01000010
  | .TP_RXD => 0x01000014
  | .TP_STAT => 0x01000018
  | .TP_CMD => 0x0100001C
  | .TP_OVRCNT => 0x01000020
  | .CHK_CFG => 0x01100000
  | .CHK_POLY_LO => 0x01100004
  | .CHK_POLY_HI => 0x01100008
  | .CHK_INIT_LO => 0x0110000C
  | .CHK_INIT_HI => 0x01100010
  | .CHK_XOR_LO => 0x01100014
  | .CHK_XOR_HI => 0x01100018
  | .CHK_STATE_LO => 0x0110001C
  | .CHK_STATE_HI => 0x01100020
  | .CHK_RESULT_LO => 0x01100024
  | .CHK_RESULT_HI => 0x01100028
  | .CHK_DATA8 => 0x01100030
  | .CHK_DATA16 => 0x01100034
  | .CHK_DATA32 => 0x01100038
  | .CHK_CMD => 0x0110003C
  | .CHK_STAT => 0x01100040
  | .CHK_HOSTMASK => 0x01101000

/-- Number of instances. -/
def Reg.count : Reg → Nat
  | .LP_CFG => 24
  | .LP_TXCFG => 24
  | .LP_FBCFG => 24
  | .LP_RXCFG => 24
  | .LP_STAT => 24
  | .LP_ISENSE => 24
  | .LP_OVLCNT => 24
  | .LP_FBCNT => 24
  | .NP_CFG => 8
  | .NP_RXCFG => 8
  | .NP_STAT => 8
  | .NP_OVLCNT => 8
  | .LP_ZCCFG => 8
  | .LP_ZCSTAT => 8
  | .LP_ZCPHASE => 8
  | .LP_ZCCYC_LO => 8
  | .LP_ZCCYC_HI => 8
  | .LP_ZCFREQ => 8
  | .LP_ZCREF => 8
  | .MDM_DETCFG => 8
  | .MDM_DETSTAT => 8
  | .MDM_DETDROP => 8
  | .MDM_BANDCFG => 8
  | .MDM_BANDSTAT => 8
  | .MDM_BBCFG => 24
  | .MDM_BBNOTCH => 16
  | .MAC_BCNCFG => 8
  | .MAC_BNUM => 8
  | .MDM_BALPT => 24
  | .MDM_BALVS => 24
  | .MDM_BALIS => 24
  | .GS_CFG => 4
  | .GS_XPT => 4
  | .GS_CMD => 4
  | .GS_STAT => 4
  | .GS_RINGH => 4
  | .GS_WIDX => 4
  | .GS_COEF => 72
  | .GS_IEX => 2
  | .CAL_CNT => 3
  | .CAL_LAST_S => 3
  | .CAL_LAST_NS => 3
  | .ENG_STAT => 128
  | .ENG_FAULT => 128
  | .MEM_CFG => 4
  | .MEM_STAT => 4
  | .MEM_CE => 4
  | .MEM_UE => 4
  | .SEC_NONCE => 8
  | .HST_QCFG => 64
  | .HST_SQB_LO => 64
  | .HST_SQB_HI => 64
  | .HST_CQB_LO => 64
  | .HST_CQB_HI => 64
  | .HST_SQT => 64
  | .HST_CQH => 64
  | .HST_WINH => 16
  | .HST_WINO => 16
  | .HST_WINC => 16
  | .ETH_CFG => 2
  | .ETH_IP => 2
  | .ETH_HEIP => 2
  | .ETH_UDP => 2
  | .ETH_MAC_LO => 2
  | .ETH_MAC_HI => 2
  | .ETH_DROP => 2
  | .ETH_STAT => 2
  | .TP_CFG => 8
  | .TP_BAUD => 8
  | .TP_ADDR => 8
  | .TP_FLOW => 8
  | .TP_TXD => 8
  | .TP_RXD => 8
  | .TP_STAT => 8
  | .TP_CMD => 8
  | .TP_OVRCNT => 8
  | .CHK_CFG => 16
  | .CHK_POLY_LO => 16
  | .CHK_POLY_HI => 16
  | .CHK_INIT_LO => 16
  | .CHK_INIT_HI => 16
  | .CHK_XOR_LO => 16
  | .CHK_XOR_HI => 16
  | .CHK_STATE_LO => 16
  | .CHK_STATE_HI => 16
  | .CHK_RESULT_LO => 16
  | .CHK_RESULT_HI => 16
  | .CHK_DATA8 => 16
  | .CHK_DATA16 => 16
  | .CHK_DATA32 => 16
  | .CHK_CMD => 16
  | .CHK_STAT => 16
  | _ => 1

/-- Distance between neighbouring instances; the coefficient registers and the instance-less ones do without. -/
def Reg.stride : Reg → Nat
  | .LP_CFG => 0x4000
  | .LP_TXCFG => 0x4000
  | .LP_FBCFG => 0x4000
  | .LP_RXCFG => 0x4000
  | .LP_STAT => 0x4000
  | .LP_ISENSE => 0x4000
  | .LP_OVLCNT => 0x4000
  | .LP_FBCNT => 0x4000
  | .NP_CFG => 0x4000
  | .NP_RXCFG => 0x4000
  | .NP_STAT => 0x4000
  | .NP_OVLCNT => 0x4000
  | .LP_ZCCFG => 0x1000
  | .LP_ZCSTAT => 0x1000
  | .LP_ZCPHASE => 0x1000
  | .LP_ZCCYC_LO => 0x1000
  | .LP_ZCCYC_HI => 0x1000
  | .LP_ZCFREQ => 0x1000
  | .LP_ZCREF => 0x1000
  | .MDM_DETCFG => 0x100
  | .MDM_DETSTAT => 0x100
  | .MDM_DETDROP => 0x100
  | .MDM_BANDCFG => 0x100
  | .MDM_BANDSTAT => 0x100
  | .MDM_BBCFG => 0x100
  | .MDM_BBNOTCH => 0x4
  | .MAC_BCNCFG => 0x100
  | .MAC_BNUM => 0x100
  | .MDM_BALPT => 0x4
  | .MDM_BALVS => 0x4
  | .MDM_BALIS => 0x4
  | .GS_CFG => 0x100
  | .GS_XPT => 0x100
  | .GS_CMD => 0x100
  | .GS_STAT => 0x100
  | .GS_RINGH => 0x100
  | .GS_WIDX => 0x100
  | .GS_COEF => 0x4
  | .GS_IEX => 0x4
  | .CAL_CNT => 0x10
  | .CAL_LAST_S => 0x10
  | .CAL_LAST_NS => 0x10
  | .ENG_STAT => 0x1000
  | .ENG_FAULT => 0x1000
  | .MEM_CFG => 0x100
  | .MEM_STAT => 0x100
  | .MEM_CE => 0x100
  | .MEM_UE => 0x100
  | .SEC_NONCE => 0x4
  | .HST_QCFG => 0x40
  | .HST_SQB_LO => 0x40
  | .HST_SQB_HI => 0x40
  | .HST_CQB_LO => 0x40
  | .HST_CQB_HI => 0x40
  | .HST_SQT => 0x40
  | .HST_CQH => 0x40
  | .HST_WINH => 0x10
  | .HST_WINO => 0x10
  | .HST_WINC => 0x10
  | .ETH_CFG => 0x1000
  | .ETH_IP => 0x1000
  | .ETH_HEIP => 0x1000
  | .ETH_UDP => 0x1000
  | .ETH_MAC_LO => 0x1000
  | .ETH_MAC_HI => 0x1000
  | .ETH_DROP => 0x1000
  | .ETH_STAT => 0x1000
  | .TP_CFG => 0x1000
  | .TP_BAUD => 0x1000
  | .TP_ADDR => 0x1000
  | .TP_FLOW => 0x1000
  | .TP_TXD => 0x1000
  | .TP_RXD => 0x1000
  | .TP_STAT => 0x1000
  | .TP_CMD => 0x1000
  | .TP_OVRCNT => 0x1000
  | .CHK_CFG => 0x100
  | .CHK_POLY_LO => 0x100
  | .CHK_POLY_HI => 0x100
  | .CHK_INIT_LO => 0x100
  | .CHK_INIT_HI => 0x100
  | .CHK_XOR_LO => 0x100
  | .CHK_XOR_HI => 0x100
  | .CHK_STATE_LO => 0x100
  | .CHK_STATE_HI => 0x100
  | .CHK_RESULT_LO => 0x100
  | .CHK_RESULT_HI => 0x100
  | .CHK_DATA8 => 0x100
  | .CHK_DATA16 => 0x100
  | .CHK_DATA32 => 0x100
  | .CHK_CMD => 0x100
  | .CHK_STAT => 0x100
  | _ => 0x0

/-- The reset value each chapter states, the same for every instance; per-port values are in `Reg.reset`. A register whose reset is per device is composed when it is read and stores 0. -/
def Reg.resetWord : Reg → Nat
  | .SYS_TAG_FREE => 0x10001000
  | .PWR_MODE => 0x00000001
  | .PWR_CAP => 0x00000030
  | .PWR_EMBER => 0x0000016D
  | .PWR_WAKECFG => 0x00000100
  | .LP_TXCFG => 0x000A1400
  | .LP_FBCFG => 0x03B65320
  | .LP_RXCFG => 0x00000601
  | .NP_RXCFG => 0x00000601
  | .LP_ZCREF => 0xAAAB5555
  | .MDM_DETCFG => 0x03103556
  | .MDM_RINGCFG => 0x0014083C
  | .MDM_RESCAN => 0x003CFFFF
  | .MDM_EVTCFG => 0x00000040
  | .MDM_MAPCFG => 0x02410726
  | .MDM_SNDCFG => 0x001E4108
  | .MDM_BANDCFG => 0x3D0C001F
  | .MDM_BANDSTAT => 0x00000002
  | .MDM_BBCFG => 0x00000601
  | .MDM_BBSTAT => 0x00400D47
  | .MAC_ACKCFG => 0x00008308
  | .MAC_CHKCFG => 0x10000010
  | .MAC_SLEEPCFG => 0x008403E8
  | .MAC_WAKECFG => 0x00FA00C8
  | .MAC_BCNCFG => 0xBC0D1040
  | .MAC_LDGCFG => 0x03844000
  | .MAC_FBD => 0x00040000
  | .MDM_FMCFG => 0x80108600
  | .MDM_BALCFG => 0x0F320014
  | .MDM_BALVS => 0x3F800000
  | .MDM_BALIS => 0x3F800000
  | .GS_CFG => 0x000F6600
  | .GS_IEX => 0x00000001
  | .GS_ARCFG => 0x00000008
  | .CAL_TOL => 0x0A053214
  | .CAL_REFV => 0x002625A0
  | .ENG_SLOTS => 0x00100000
  | .PIT_SPARECFG => 0x00000010
  | .PIT_MIGCFG => 0x00000010
  | .PIT_REPLCFG => 0x0000003C
  | .PIT_OWNCFG => 0x003C0601
  | .MEM_CFG => 0x00001802
  | .GL_LATB => 0x00004E20
  | .GL_LCFG => 0x00000003
  | .CMP_SRCCFG => 0x0A0A4321
  | .CMP_HOLDEST => 0xFFFFFFFF
  | .CMP_HOLD => 0x000001F4
  | .CMP_PPSOUT => 0x00000064
  | .CMP_UTC => 0x00000025
  | .REL_CFG => 0x00103C18
  | .BED_CFG => 0x016D0019
  | .ETH_CFG => 0x00000002
  | .ETH_UDP => 0x4A384A38
  | .TP_CFG => 0x001000C0
  | .TP_BAUD => 0x0022B900
  | .TP_ADDR => 0x0000FF00
  | .TP_FLOW => 0x10301311
  | .TP_STAT => 0x00080000
  | .CHK_CFG => 0x00000320
  | .CHK_POLY_LO => 0x1EDC6F41
  | .CHK_INIT_LO => 0xFFFFFFFF
  | .CHK_XOR_LO => 0xFFFFFFFF
  | .CHK_STATE_LO => 0xFFFFFFFF
  | _ => 0x00000000

/-- The bits a write stores (access RW and RWO, R8). -/
def Reg.storeMask : Reg → Nat
  | .SYS_OWN_SEL => 0x00003FFF
  | .PWR_MODE => 0x00000700
  | .PWR_CAP => 0x0000007F
  | .PWR_EMBER => 0xFFFF0F7F
  | .PWR_WAKECFG => 0xFF0303FF
  | .PWR_DOM_SEL => 0x000000FF
  | .LP_CFG => 0x00030771
  | .LP_TXCFG => 0x00FFFFFF
  | .LP_FBCFG => 0x03FFF3FF
  | .LP_RXCFG => 0x00001F0F
  | .NP_CFG => 0x00000771
  | .NP_RXCFG => 0x00001F0F
  | .LP_ZCCFG => 0x0001FFFF
  | .MDM_DETCFG => 0x033F7FFF
  | .MDM_RINGCFG => 0x00FF0F3F
  | .MDM_RESCAN => 0x073FFFFF
  | .MDM_END_SEL => 0x0000171F
  | .MDM_EVTCFG => 0x00FFFFFF
  | .MDM_MAPCFG => 0xFFFFFF7F
  | .MDM_SNDCFG => 0x00FFF3FF
  | .MDM_MAPSEL => 0x0000FFFF
  | .MDM_MAPCMD => 0x00000007
  | .MDM_BANDCFG => 0x3F3FFF7F
  | .MDM_BBCFG => 0x00000F31
  | .MDM_BBNOTCH => 0x81FF01FF
  | .MAC_NETCFG => 0x3FFFFFFF
  | .MAC_SEED_LO => 0xFFFFFFFF
  | .MAC_SEED_HI => 0xFFFFFFFF
  | .MAC_ACKCFG => 0x0000FF0F
  | .MAC_CHKCFG => 0xFFFFFFFF
  | .MAC_SLEEPCFG => 0x00FFFFFF
  | .MAC_WAKECFG => 0xFFFF07FF
  | .MAC_WAKEADDR => 0x0000FFFF
  | .MAC_PARENT => 0xFFFFFFFF
  | .MAC_NODESEL => 0x0000FFFF
  | .MAC_NODECMD => 0x00000007
  | .MAC_BCNCFG => 0xBF3FFFFF
  | .MAC_LDGCFG => 0xFFFFF300
  | .MDM_FMCFG => 0xFFFFCF00
  | .MDM_FMPORT => 0x00FFFFFF
  | .MDM_FMCMD => 0x00000007
  | .MDM_FMARG => 0xFFFFFFFF
  | .MDM_BALCFG => 0xFFFF00FF
  | .MDM_BALCH => 0x1F1F1F1F
  | .MDM_BALPT => 0xFFFFFF37
  | .MDM_BALVS => 0xFFFFFFFF
  | .MDM_BALIS => 0xFFFFFFFF
  | .GS_CFG => 0xFF7FFFFF
  | .GS_XPT => 0x00073F3F
  | .GS_COEF => 0xFFFFFFFF
  | .GS_IEX => 0x801F00FF
  | .GS_VEX => 0x801F0001
  | .GS_BIAS => 0xFFFFFFFF
  | .GS_ARCFG => 0x000000FF
  | .GS_RET => 0xFFFFFFFF
  | .CAL_CMD => 0x0000031F
  | .CAL_TOL => 0xFFFFFFFF
  | .CAL_REFV => 0x007FFFFF
  | .CAL_SEL => 0x0000031F
  | .ENG_PACKSEL => 0x0000000F
  | .PIT_SPARECFG => 0x0000001F
  | .PIT_MEMRES => 0x0000FFFF
  | .PIT_MIGCFG => 0x000000FF
  | .PIT_REPLCFG => 0x0000FFFF
  | .PIT_DRAIN => 0x600000FF
  | .PIT_OWNCFG => 0x00FF0F01
  | .MEM_CFG => 0x0000FF33
  | .GL_CFG => 0xC0FF03FF
  | .GL_PARENT => 0x000003FF
  | .GL_LATB => 0x00FFFFFF
  | .GL_LCFG => 0x00000003
  | .GL_SEED_LO => 0xFFFFFFFF
  | .GL_SEED_HI => 0xFFFFFFFF
  | .GL_LINKSEL => 0x00000007
  | .CMP_SRCCFG => 0xFFFF7777
  | .CMP_HOLD => 0x0000FFFF
  | .CMP_SETLO => 0xFFFFFFFF
  | .CMP_SETHI => 0x0000FFFF
  | .CMP_PPSOUT => 0x800000FF
  | .CMP_UTC => 0x0000FFFF
  | .CMP_ZCSEL => 0x00000007
  | .SEC_CMD => 0x000000FF
  | .SEC_XFER_LEN => 0x0001FFFF
  | .SEC_RBSEL => 0x0000000F
  | .SEC_TAMPCFG => 0x0000FFFF
  | .DBG_LEVEL => 0x00000003
  | .DBG_ENGSEL => 0x0000037F
  | .DBG_ENGCTL => 0x00000007
  | .DBG_TRACE => 0x00000001
  | .REL_CFG => 0x00FFFFFF
  | .REL_DETSEL => 0x0000001F
  | .REL_UNITSEL => 0x000007FF
  | .REL_INJ => 0x031F07FF
  | .REL_CMD => 0x00000007
  | .BED_CFG => 0xFFFF007F
  | .BED_CMD => 0x00000007
  | .HST_EVTQ => 0x0000003F
  | .HST_IRQCFG => 0x00001F1F
  | .HST_QCFG => 0x80FFF0FF
  | .HST_SQB_LO => 0xFFFFF000
  | .HST_SQB_HI => 0xFFFFFFFF
  | .HST_CQB_LO => 0xFFFFF000
  | .HST_CQB_HI => 0xFFFFFFFF
  | .HST_SQT => 0xFFFFFFFF
  | .HST_CQH => 0xFFFFFFFF
  | .HST_WINH => 0xFFFFFFFF
  | .HST_WINO => 0xFFFFFFFF
  | .HST_WINC => 0x800000FF
  | .ETH_CFG => 0x0000FFFF
  | .ETH_IP => 0xFFFFFFFF
  | .ETH_HEIP => 0xFFFFFFFF
  | .ETH_UDP => 0xFFFFFFFF
  | .TP_CFG => 0x03FFFFFF
  | .TP_BAUD => 0xFFFFFF00
  | .TP_ADDR => 0x0007FFFF
  | .TP_FLOW => 0x3F3FFFFF
  | .CHK_CFG => 0x0000037F
  | .CHK_POLY_LO => 0xFFFFFFFF
  | .CHK_POLY_HI => 0xFFFFFFFF
  | .CHK_INIT_LO => 0xFFFFFFFF
  | .CHK_INIT_HI => 0xFFFFFFFF
  | .CHK_XOR_LO => 0xFFFFFFFF
  | .CHK_XOR_HI => 0xFFFFFFFF
  | .CHK_STATE_LO => 0xFFFFFFFF
  | .CHK_STATE_HI => 0xFFFFFFFF
  | .CHK_HOSTMASK => 0x0000FFFF
  | _ => 0x00000000

/-- The bits that a written one clears (access W1C, R8). -/
def Reg.w1cMask : Reg → Nat
  | .PWR_STAT => 0x000003E7
  | .LP_STAT => 0x001F0000
  | .NP_STAT => 0x00010000
  | .LP_ZCSTAT => 0x00000700
  | .MDM_DETSTAT => 0x10000000
  | .MDM_RESCAN_STAT => 0x00000004
  | .MDM_BANDSTAT => 0x00000004
  | .MDM_BBSTAT => 0x80000000
  | .MAC_STAT => 0x000C0000
  | .MAC_FBD => 0x80000000
  | .MDM_FMSTAT => 0x80000000
  | .GS_STAT => 0x00010000
  | .GS_XSTAT => 0x0000001D
  | .ENG_FAULT => 0x80000000
  | .PIT_EVT => 0x000003FF
  | .GL_EVT => 0x0000001F
  | .CMP_STAT => 0x000F0000
  | .SEC_TAMPSTAT => 0x0000000F
  | .DBG_LEVEL => 0x00020000
  | .REL_STAT => 0x0000000F
  | .BED_STAT => 0x00000007
  | .HST_STAT => 0x0000001C
  | .TP_STAT => 0x1F000000
  | _ => 0x00000000

/-- Registers 0 to 31 of the declaration. -/
def Reg.all0 : List Reg :=
  [.SYS_ID, .SYS_TAG_FREE, .SYS_OWN_SEL, .SYS_OWN, .PWR_MODE, .PWR_CAP, .PWR_MEAS, .PWR_EMBER, .PWR_WAKECFG, .PWR_STAT, .PWR_DOM_SEL, .PWR_DOM, .LP_CFG, .LP_TXCFG, .LP_FBCFG, .LP_RXCFG, .LP_STAT, .LP_ISENSE, .LP_OVLCNT, .LP_FBCNT, .NP_CFG, .NP_RXCFG, .NP_STAT, .NP_OVLCNT, .LP_ZCCFG, .LP_ZCSTAT, .LP_ZCPHASE, .LP_ZCCYC_LO, .LP_ZCCYC_HI, .LP_ZCFREQ, .LP_ZCREF, .MDM_DETCFG]

/-- Registers 32 to 63 of the declaration. -/
def Reg.all1 : List Reg :=
  [.MDM_DETSTAT, .MDM_DETDROP, .MDM_RINGCFG, .MDM_RINGSTAT, .MDM_OLDEST_S, .MDM_OLDEST_NS, .MDM_RESCAN, .MDM_RESCAN_STAT, .MDM_END_SEL, .MDM_END_CNT, .MDM_EVTCFG, .MDM_MAPCFG, .MDM_SNDCFG, .MDM_MAPSTAT, .MDM_MAPEVICT, .MDM_MAPSEL, .MDM_MAPINFO, .MDM_MAPHANDLE, .MDM_MAPCMD, .MDM_BANDCFG, .MDM_BANDSTAT, .MDM_BBCFG, .MDM_BBNOTCH, .MDM_BBSTAT, .MAC_NETCFG, .MAC_SEED_LO, .MAC_SEED_HI, .MAC_ACKCFG, .MAC_CHKCFG, .MAC_SLEEPCFG, .MAC_WAKECFG, .MAC_WAKEADDR]

/-- Registers 64 to 95 of the declaration. -/
def Reg.all2 : List Reg :=
  [.MAC_PARENT, .MAC_STAT, .MAC_COUNT, .MAC_NODESEL, .MAC_NODEINFO, .MAC_NODETX, .MAC_NODERX, .MAC_NODECMD, .MAC_BCNCFG, .MAC_BNUM, .MAC_LDGCFG, .MAC_LDGSTAT, .MAC_LDG_ACC, .MAC_LDG_Q, .MAC_LDG_S, .MAC_LDG_A, .MAC_LDG_C, .MAC_LDG_R, .MAC_FBD, .MDM_FMCFG, .MDM_FMPORT, .MDM_FMSTAT, .MDM_FMSKIP, .MDM_FMCMD, .MDM_FMARG, .MDM_BALCFG, .MDM_BALCH, .MDM_BALPT, .MDM_BALVS, .MDM_BALIS, .GS_CFG, .GS_XPT]

/-- Registers 96 to 127 of the declaration. -/
def Reg.all3 : List Reg :=
  [.GS_CMD, .GS_STAT, .GS_RINGH, .GS_WIDX, .GS_COEF, .GS_IEX, .GS_VEX, .GS_BIAS, .GS_ARCFG, .GS_CJT, .GS_XSTAT, .GS_RET, .CAL_CMD, .CAL_STAT, .CAL_TOL, .CAL_REFV, .CAL_CNT, .CAL_LAST_S, .CAL_LAST_NS, .CAL_SEL, .CAL_INFO, .CAL_INFO_S, .ENG_STAT, .ENG_FAULT, .ENG_PACKSEL, .ENG_PACKINFO, .ENG_PACKVER, .ENG_SLOTS, .PIT_STAT, .PIT_EVT, .PIT_SPARECFG, .PIT_MEMRES]

/-- Registers 128 to 159 of the declaration. -/
def Reg.all4 : List Reg :=
  [.PIT_MEMCOM, .PIT_MEMRSV, .PIT_MEMFREE, .PIT_MIGCFG, .PIT_REPLCFG, .PIT_DRAIN, .PIT_OWNCFG, .MEM_CFG, .MEM_STAT, .MEM_CE, .MEM_UE, .MEM_CAN, .MEM_CAN_CE, .MEM_CAN_UE, .GL_CFG, .GL_PARENT, .GL_LATB, .GL_LCFG, .GL_SEED_LO, .GL_SEED_HI, .GL_STAT, .GL_LROOT, .GL_MEMBERS, .GL_LINKSEL, .GL_LINK, .GL_EVT, .GL_DROP, .CMP_SHORT_S, .CMP_NS, .CMP_SEC_HI, .CMP_STAT, .CMP_SRCCFG]

/-- Registers 160 to 191 of the declaration. -/
def Reg.all5 : List Reg :=
  [.CMP_OFFSET, .CMP_HOLDEST, .CMP_HOLD, .CMP_SETLO, .CMP_SETHI, .CMP_PPSOUT, .CMP_UTC, .CMP_ZCSEL, .CMP_ZCT_S, .CMP_ZCT_NS, .SEC_STAT, .SEC_CMD, .SEC_XFER_LEN, .SEC_NONCE, .SEC_RBSEL, .SEC_RB, .SEC_TAMPCFG, .SEC_TAMPSTAT, .SEC_TAMPT, .SEC_SCVER, .DBG_LEVEL, .DBG_ENGSEL, .DBG_ENGCTL, .DBG_ENGPC, .DBG_TRACE, .DBG_TRACEH, .REL_CFG, .REL_STAT, .REL_DETSEL, .REL_DETCNT, .REL_DETINJ, .REL_UNITSEL]

/-- Registers 192 to 223 of the declaration. -/
def Reg.all6 : List Reg :=
  [.REL_UNIT, .REL_INJ, .REL_CMD, .REL_TEMP, .REL_RETCNT, .BED_CFG, .BED_STAT, .BED_SEGS, .BED_WEAR, .BED_RATE, .BED_CMD, .HST_STAT, .HST_EVTQ, .HST_FBDRET, .HST_EVLOST, .HST_FBH, .HST_SCRH, .HST_IRQCFG, .HST_QCFG, .HST_SQB_LO, .HST_SQB_HI, .HST_CQB_LO, .HST_CQB_HI, .HST_SQT, .HST_CQH, .HST_WINH, .HST_WINO, .HST_WINC, .ETH_CFG, .ETH_IP, .ETH_HEIP, .ETH_UDP]

/-- Registers 224 to 253 of the declaration. -/
def Reg.all7 : List Reg :=
  [.ETH_MAC_LO, .ETH_MAC_HI, .ETH_DROP, .ETH_STAT, .TP_CFG, .TP_BAUD, .TP_ADDR, .TP_FLOW, .TP_TXD, .TP_RXD, .TP_STAT, .TP_CMD, .TP_OVRCNT, .CHK_CFG, .CHK_POLY_LO, .CHK_POLY_HI, .CHK_INIT_LO, .CHK_INIT_HI, .CHK_XOR_LO, .CHK_XOR_HI, .CHK_STATE_LO, .CHK_STATE_HI, .CHK_RESULT_LO, .CHK_RESULT_HI, .CHK_DATA8, .CHK_DATA16, .CHK_DATA32, .CHK_CMD, .CHK_STAT, .CHK_HOSTMASK]

/-- Every register, in the order of the declaration. -/
def Reg.all : List Reg :=
  Reg.all0 ++ Reg.all1 ++ Reg.all2 ++ Reg.all3 ++ Reg.all4 ++ Reg.all5 ++ Reg.all6 ++ Reg.all7

/-- Offset of instance `i`. The coefficients GS_COEF_k repeat per channel: instance 18 × channel + k. -/
def Reg.addr (r : Reg) (i : Nat) : Nat :=
  match r with
  | .GS_COEF => Reg.base .GS_COEF + 0x100 * (i / 18) + 4 * (i % 18)
  | r => r.base + r.stride * i

/-- The reset value of instance `i`; LP_CFG and NP_CFG by R70 (log entry 153). -/
def Reg.reset (r : Reg) (i : Nat) : Word :=
  match r with
  | .LP_CFG => BitVec.ofNat 32 ((i / 3) * 0x100 + (i % 3 + 1) * 0x10)
  | .NP_CFG => BitVec.ofNat 32 (i * 0x100 + 0x10)
  | r => BitVec.ofNat 32 r.resetWord

/-- The key of instance `i` of a register in the register table: the instance above, the register's number below. -/
def Reg.key (r : Reg) (i : Nat) : Nat := i * 1024 + r.ctorIdx

/-- The register with number `n`, by the order of the declaration. -/
def Reg.ofIdx (n : Nat) : Reg := Reg.all.getD n .SYS_ID

/-- What an unlisted key of the register table reads as: the reset value (log entry 153). -/
def regDefault (k : Nat) : Word := (Reg.ofIdx (k % 1024)).reset (k / 1024)

/-- Whether offset `a` is instance `i` of `r`, by the register's range. -/
def Reg.instanceAt (r : Reg) (a : Nat) : Option Nat :=
  match r with
  | .GS_COEF =>
    let ch := (a - 0x00E00000) / 0x100
    let k := ((a - 0x00E00000) % 0x100 - 0x40) / 4
    if 0x00E00040 ≤ a ∧ ch < 4 ∧ k < 18 ∧ Reg.addr .GS_COEF (18 * ch + k) = a then some (18 * ch + k) else none
  | r =>
    if r.stride = 0 then (if a = r.base then some 0 else none)
    else if r.base ≤ a ∧ (a - r.base) % r.stride = 0 ∧ (a - r.base) / r.stride < r.count then some ((a - r.base) / r.stride)
    else none

/-- The register and instance at offset `a` among `rs`. -/
def Reg.findIn (a : Nat) : List Reg → Option (Reg × Nat)
  | [] => none
  | r :: rs => match r.instanceAt a with
    | some i => some (r, i)
    | none => Reg.findIn a rs

/-- The register and instance at offset `a` of BAR0; none where the space is reserved (R33). -/
def Reg.at (a : Nat) : Option (Reg × Nat) := Reg.findIn a Reg.all

namespace F

/-- SYS_ID PART: bits 31:16. -/
abbrev SYS_ID_PART : Fld := ⟨.SYS_ID, 16, 16⟩
/-- SYS_ID GRADE: bits 15:8. -/
abbrev SYS_ID_GRADE : Fld := ⟨.SYS_ID, 8, 8⟩
/-- SYS_ID STEPPING: bits 7:0. -/
abbrev SYS_ID_STEPPING : Fld := ⟨.SYS_ID, 0, 8⟩
/-- SYS_TAG_FREE LOW: bits 28:16. -/
abbrev SYS_TAG_FREE_LOW : Fld := ⟨.SYS_TAG_FREE, 16, 13⟩
/-- SYS_TAG_FREE FREE: bits 12:0. -/
abbrev SYS_TAG_FREE_FREE : Fld := ⟨.SYS_TAG_FREE, 0, 13⟩
/-- SYS_OWN_SEL PAGE: bits 13:0. -/
abbrev SYS_OWN_SEL_PAGE : Fld := ⟨.SYS_OWN_SEL, 0, 14⟩
/-- SYS_OWN DRAINING: bits 10:10. -/
abbrev SYS_OWN_DRAINING : Fld := ⟨.SYS_OWN, 10, 1⟩
/-- SYS_OWN RETIRED: bits 9:9. -/
abbrev SYS_OWN_RETIRED : Fld := ⟨.SYS_OWN, 9, 1⟩
/-- SYS_OWN POWERED: bits 8:8. -/
abbrev SYS_OWN_POWERED : Fld := ⟨.SYS_OWN, 8, 1⟩
/-- SYS_OWN OWNER: bits 4:0. -/
abbrev SYS_OWN_OWNER : Fld := ⟨.SYS_OWN, 0, 5⟩
/-- PWR_MODE CAUSE: bits 19:16. -/
abbrev PWR_MODE_CAUSE : Fld := ⟨.PWR_MODE, 16, 4⟩
/-- PWR_MODE BUSY: bits 11:11. -/
abbrev PWR_MODE_BUSY : Fld := ⟨.PWR_MODE, 11, 1⟩
/-- PWR_MODE REQ: bits 10:8. -/
abbrev PWR_MODE_REQ : Fld := ⟨.PWR_MODE, 8, 3⟩
/-- PWR_MODE CUR: bits 2:0. -/
abbrev PWR_MODE_CUR : Fld := ⟨.PWR_MODE, 0, 3⟩
/-- PWR_CAP WATTS: bits 6:0. -/
abbrev PWR_CAP_WATTS : Fld := ⟨.PWR_CAP, 0, 7⟩
/-- PWR_MEAS PIN: bits 26:16. -/
abbrev PWR_MEAS_PIN : Fld := ⟨.PWR_MEAS, 16, 11⟩
/-- PWR_MEAS VIN: bits 12:0. -/
abbrev PWR_MEAS_VIN : Fld := ⟨.PWR_MEAS, 0, 13⟩
/-- PWR_EMBER MAX_S: bits 31:16. -/
abbrev PWR_EMBER_MAX_S : Fld := ⟨.PWR_EMBER, 16, 16⟩
/-- PWR_EMBER LINK: bits 11:10. -/
abbrev PWR_EMBER_LINK : Fld := ⟨.PWR_EMBER, 10, 2⟩
/-- PWR_EMBER AFTER: bits 9:9. -/
abbrev PWR_EMBER_AFTER : Fld := ⟨.PWR_EMBER, 9, 1⟩
/-- PWR_EMBER PF_EN: bits 8:8. -/
abbrev PWR_EMBER_PF_EN : Fld := ⟨.PWR_EMBER, 8, 1⟩
/-- PWR_EMBER VE_EN: bits 6:6. -/
abbrev PWR_EMBER_VE_EN : Fld := ⟨.PWR_EMBER, 6, 1⟩
/-- PWR_EMBER VIN_EMBER: bits 5:0. -/
abbrev PWR_EMBER_VIN_EMBER : Fld := ⟨.PWR_EMBER, 0, 6⟩
/-- PWR_WAKECFG WATCH_S: bits 31:24. -/
abbrev PWR_WAKECFG_WATCH_S : Fld := ⟨.PWR_WAKECFG, 24, 8⟩
/-- PWR_WAKECFG TARGET: bits 17:16. -/
abbrev PWR_WAKECFG_TARGET : Fld := ⟨.PWR_WAKECFG, 16, 2⟩
/-- PWR_WAKECFG LAN_EN: bits 9:9. -/
abbrev PWR_WAKECFG_LAN_EN : Fld := ⟨.PWR_WAKECFG, 9, 1⟩
/-- PWR_WAKECFG PERST_EN: bits 8:8. -/
abbrev PWR_WAKECFG_PERST_EN : Fld := ⟨.PWR_WAKECFG, 8, 1⟩
/-- PWR_WAKECFG TP_EN: bits 7:0. -/
abbrev PWR_WAKECFG_TP_EN : Fld := ⟨.PWR_WAKECFG, 0, 8⟩
/-- PWR_STAT PF_LEVEL: bits 31:31. -/
abbrev PWR_STAT_PF_LEVEL : Fld := ⟨.PWR_STAT, 31, 1⟩
/-- PWR_STAT BOOT_FAIL: bits 10:10. -/
abbrev PWR_STAT_BOOT_FAIL : Fld := ⟨.PWR_STAT, 10, 1⟩
/-- PWR_STAT REFUSED: bits 9:9. -/
abbrev PWR_STAT_REFUSED : Fld := ⟨.PWR_STAT, 9, 1⟩
/-- PWR_STAT CAP_SHORT: bits 8:8. -/
abbrev PWR_STAT_CAP_SHORT : Fld := ⟨.PWR_STAT, 8, 1⟩
/-- PWR_STAT PF: bits 7:7. -/
abbrev PWR_STAT_PF : Fld := ⟨.PWR_STAT, 7, 1⟩
/-- PWR_STAT EMBER_OUT: bits 6:6. -/
abbrev PWR_STAT_EMBER_OUT : Fld := ⟨.PWR_STAT, 6, 1⟩
/-- PWR_STAT EMBER_IN: bits 5:5. -/
abbrev PWR_STAT_EMBER_IN : Fld := ⟨.PWR_STAT, 5, 1⟩
/-- PWR_STAT WAKE_PERST: bits 2:2. -/
abbrev PWR_STAT_WAKE_PERST : Fld := ⟨.PWR_STAT, 2, 1⟩
/-- PWR_STAT WAKE_LAN: bits 1:1. -/
abbrev PWR_STAT_WAKE_LAN : Fld := ⟨.PWR_STAT, 1, 1⟩
/-- PWR_STAT WAKE_TP: bits 0:0. -/
abbrev PWR_STAT_WAKE_TP : Fld := ⟨.PWR_STAT, 0, 1⟩
/-- PWR_DOM_SEL INDEX: bits 7:0. -/
abbrev PWR_DOM_SEL_INDEX : Fld := ⟨.PWR_DOM_SEL, 0, 8⟩
/-- PWR_DOM STATE: bits 17:16. -/
abbrev PWR_DOM_STATE : Fld := ⟨.PWR_DOM, 16, 2⟩
/-- PWR_DOM VCORE: bits 9:0. -/
abbrev PWR_DOM_VCORE : Fld := ⟨.PWR_DOM, 0, 10⟩
/-- LP_CFG TXPATH: bits 17:16. -/
abbrev LP_CFG_TXPATH : Fld := ⟨.LP_CFG, 16, 2⟩
/-- LP_CFG FG: bits 10:8. -/
abbrev LP_CFG_FG : Fld := ⟨.LP_CFG, 8, 3⟩
/-- LP_CFG ROLE: bits 6:4. -/
abbrev LP_CFG_ROLE : Fld := ⟨.LP_CFG, 4, 3⟩
/-- LP_CFG EN: bits 0:0. -/
abbrev LP_CFG_EN : Fld := ⟨.LP_CFG, 0, 1⟩
/-- LP_TXCFG TRAIL: bits 23:16. -/
abbrev LP_TXCFG_TRAIL : Fld := ⟨.LP_TXCFG, 16, 8⟩
/-- LP_TXCFG LEAD: bits 15:8. -/
abbrev LP_TXCFG_LEAD : Fld := ⟨.LP_TXCFG, 8, 8⟩
/-- LP_TXCFG ATTEN: bits 7:0. -/
abbrev LP_TXCFG_ATTEN : Fld := ⟨.LP_TXCFG, 0, 8⟩
/-- LP_FBCFG ABS: bits 25:16. -/
abbrev LP_FBCFG_ABS : Fld := ⟨.LP_FBCFG, 16, 10⟩
/-- LP_FBCFG FLOOR: bits 15:14. -/
abbrev LP_FBCFG_FLOOR : Fld := ⟨.LP_FBCFG, 14, 2⟩
/-- LP_FBCFG STEP: bits 13:12. -/
abbrev LP_FBCFG_STEP : Fld := ⟨.LP_FBCFG, 12, 2⟩
/-- LP_FBCFG LIM: bits 9:0. -/
abbrev LP_FBCFG_LIM : Fld := ⟨.LP_FBCFG, 0, 10⟩
/-- LP_RXCFG WIDE_REC: bits 12:12. -/
abbrev LP_RXCFG_WIDE_REC : Fld := ⟨.LP_RXCFG, 12, 1⟩
/-- LP_RXCFG RAISE: bits 11:8. -/
abbrev LP_RXCFG_RAISE : Fld := ⟨.LP_RXCFG, 8, 4⟩
/-- LP_RXCFG GAIN: bits 3:1. -/
abbrev LP_RXCFG_GAIN : Fld := ⟨.LP_RXCFG, 1, 3⟩
/-- LP_RXCFG AGC: bits 0:0. -/
abbrev LP_RXCFG_AGC : Fld := ⟨.LP_RXCFG, 0, 1⟩
/-- LP_STAT LATE: bits 20:20. -/
abbrev LP_STAT_LATE : Fld := ⟨.LP_STAT, 20, 1⟩
/-- LP_STAT UNDERRUN: bits 19:19. -/
abbrev LP_STAT_UNDERRUN : Fld := ⟨.LP_STAT, 19, 1⟩
/-- LP_STAT OC: bits 18:18. -/
abbrev LP_STAT_OC : Fld := ⟨.LP_STAT, 18, 1⟩
/-- LP_STAT FBK: bits 17:17. -/
abbrev LP_STAT_FBK : Fld := ⟨.LP_STAT, 17, 1⟩
/-- LP_STAT OVL: bits 16:16. -/
abbrev LP_STAT_OVL : Fld := ⟨.LP_STAT, 16, 1⟩
/-- LP_STAT FB_DB: bits 15:8. -/
abbrev LP_STAT_FB_DB : Fld := ⟨.LP_STAT, 8, 8⟩
/-- LP_STAT GAIN: bits 6:4. -/
abbrev LP_STAT_GAIN : Fld := ⟨.LP_STAT, 4, 3⟩
/-- LP_STAT PA: bits 2:2. -/
abbrev LP_STAT_PA : Fld := ⟨.LP_STAT, 2, 1⟩
/-- LP_STAT STATE: bits 1:0. -/
abbrev LP_STAT_STATE : Fld := ⟨.LP_STAT, 0, 2⟩
/-- LP_ISENSE PEAK: bits 25:16. -/
abbrev LP_ISENSE_PEAK : Fld := ⟨.LP_ISENSE, 16, 10⟩
/-- LP_ISENSE NOW: bits 9:0. -/
abbrev LP_ISENSE_NOW : Fld := ⟨.LP_ISENSE, 0, 10⟩
/-- LP_OVLCNT COUNT: bits 31:0. -/
abbrev LP_OVLCNT_COUNT : Fld := ⟨.LP_OVLCNT, 0, 32⟩
/-- LP_FBCNT COUNT: bits 31:0. -/
abbrev LP_FBCNT_COUNT : Fld := ⟨.LP_FBCNT, 0, 32⟩
/-- NP_CFG FG: bits 10:8. -/
abbrev NP_CFG_FG : Fld := ⟨.NP_CFG, 8, 3⟩
/-- NP_CFG ROLE: bits 6:4. -/
abbrev NP_CFG_ROLE : Fld := ⟨.NP_CFG, 4, 3⟩
/-- NP_CFG EN: bits 0:0. -/
abbrev NP_CFG_EN : Fld := ⟨.NP_CFG, 0, 1⟩
/-- NP_RXCFG WIDE_REC: bits 12:12. -/
abbrev NP_RXCFG_WIDE_REC : Fld := ⟨.NP_RXCFG, 12, 1⟩
/-- NP_RXCFG RAISE: bits 11:8. -/
abbrev NP_RXCFG_RAISE : Fld := ⟨.NP_RXCFG, 8, 4⟩
/-- NP_RXCFG GAIN: bits 3:1. -/
abbrev NP_RXCFG_GAIN : Fld := ⟨.NP_RXCFG, 1, 3⟩
/-- NP_RXCFG AGC: bits 0:0. -/
abbrev NP_RXCFG_AGC : Fld := ⟨.NP_RXCFG, 0, 1⟩
/-- NP_STAT OVL: bits 16:16. -/
abbrev NP_STAT_OVL : Fld := ⟨.NP_STAT, 16, 1⟩
/-- NP_STAT GAIN: bits 6:4. -/
abbrev NP_STAT_GAIN : Fld := ⟨.NP_STAT, 4, 3⟩
/-- NP_STAT STATE: bits 1:0. -/
abbrev NP_STAT_STATE : Fld := ⟨.NP_STAT, 0, 2⟩
/-- NP_OVLCNT COUNT: bits 31:0. -/
abbrev NP_OVLCNT_COUNT : Fld := ⟨.NP_OVLCNT, 0, 32⟩
/-- LP_ZCCFG FIXED: bits 16:16. -/
abbrev LP_ZCCFG_FIXED : Fld := ⟨.LP_ZCCFG, 16, 1⟩
/-- LP_ZCCFG OFS: bits 15:0. -/
abbrev LP_ZCCFG_OFS : Fld := ⟨.LP_ZCCFG, 0, 16⟩
/-- LP_ZCSTAT LOST: bits 10:10. -/
abbrev LP_ZCSTAT_LOST : Fld := ⟨.LP_ZCSTAT, 10, 1⟩
/-- LP_ZCSTAT SWITCHED: bits 9:9. -/
abbrev LP_ZCSTAT_SWITCHED : Fld := ⟨.LP_ZCSTAT, 9, 1⟩
/-- LP_ZCSTAT STEPPED: bits 8:8. -/
abbrev LP_ZCSTAT_STEPPED : Fld := ⟨.LP_ZCSTAT, 8, 1⟩
/-- LP_ZCSTAT REF: bits 3:2. -/
abbrev LP_ZCSTAT_REF : Fld := ⟨.LP_ZCSTAT, 2, 2⟩
/-- LP_ZCSTAT HOLD: bits 1:1. -/
abbrev LP_ZCSTAT_HOLD : Fld := ⟨.LP_ZCSTAT, 1, 1⟩
/-- LP_ZCSTAT LOCK: bits 0:0. -/
abbrev LP_ZCSTAT_LOCK : Fld := ⟨.LP_ZCSTAT, 0, 1⟩
/-- LP_ZCPHASE PHASE: bits 15:0. -/
abbrev LP_ZCPHASE_PHASE : Fld := ⟨.LP_ZCPHASE, 0, 16⟩
/-- LP_ZCCYC_LO CYC: bits 31:0. -/
abbrev LP_ZCCYC_LO_CYC : Fld := ⟨.LP_ZCCYC_LO, 0, 32⟩
/-- LP_ZCCYC_HI CYC: bits 31:0. -/
abbrev LP_ZCCYC_HI_CYC : Fld := ⟨.LP_ZCCYC_HI, 0, 32⟩
/-- LP_ZCFREQ MHZ: bits 16:0. -/
abbrev LP_ZCFREQ_MHZ : Fld := ⟨.LP_ZCFREQ, 0, 17⟩
/-- LP_ZCREF L3: bits 31:16. -/
abbrev LP_ZCREF_L3 : Fld := ⟨.LP_ZCREF, 16, 16⟩
/-- LP_ZCREF L2: bits 15:0. -/
abbrev LP_ZCREF_L2 : Fld := ⟨.LP_ZCREF, 0, 16⟩
/-- MDM_DETCFG SIC_MAX: bits 25:24. -/
abbrev MDM_DETCFG_SIC_MAX : Fld := ⟨.MDM_DETCFG, 24, 2⟩
/-- MDM_DETCFG RESV: bits 21:16. -/
abbrev MDM_DETCFG_RESV : Fld := ⟨.MDM_DETCFG, 16, 6⟩
/-- MDM_DETCFG RESCAN_DROP: bits 14:12. -/
abbrev MDM_DETCFG_RESCAN_DROP : Fld := ⟨.MDM_DETCFG, 12, 3⟩
/-- MDM_DETCFG DET_THR: bits 11:8. -/
abbrev MDM_DETCFG_DET_THR : Fld := ⟨.MDM_DETCFG, 8, 4⟩
/-- MDM_DETCFG MIN_TOL: bits 7:4. -/
abbrev MDM_DETCFG_MIN_TOL : Fld := ⟨.MDM_DETCFG, 4, 4⟩
/-- MDM_DETCFG SYNC_TOL: bits 3:0. -/
abbrev MDM_DETCFG_SYNC_TOL : Fld := ⟨.MDM_DETCFG, 0, 4⟩
/-- MDM_DETSTAT DROP: bits 28:28. -/
abbrev MDM_DETSTAT_DROP : Fld := ⟨.MDM_DETSTAT, 28, 1⟩
/-- MDM_DETSTAT RESCANS: bits 26:24. -/
abbrev MDM_DETSTAT_RESCANS : Fld := ⟨.MDM_DETSTAT, 24, 3⟩
/-- MDM_DETSTAT DEFERRED: bits 20:10. -/
abbrev MDM_DETSTAT_DEFERRED : Fld := ⟨.MDM_DETSTAT, 10, 11⟩
/-- MDM_DETSTAT OPEN: bits 6:0. -/
abbrev MDM_DETSTAT_OPEN : Fld := ⟨.MDM_DETSTAT, 0, 7⟩
/-- MDM_DETDROP COUNT: bits 31:0. -/
abbrev MDM_DETDROP_COUNT : Fld := ⟨.MDM_DETDROP, 0, 32⟩
/-- MDM_RINGCFG EMBER_DS: bits 23:16. -/
abbrev MDM_RINGCFG_EMBER_DS : Fld := ⟨.MDM_RINGCFG, 16, 8⟩
/-- MDM_RINGCFG WIDE_S: bits 11:8. -/
abbrev MDM_RINGCFG_WIDE_S : Fld := ⟨.MDM_RINGCFG, 8, 4⟩
/-- MDM_RINGCFG NARROW_S: bits 5:0. -/
abbrev MDM_RINGCFG_NARROW_S : Fld := ⟨.MDM_RINGCFG, 0, 6⟩
/-- MDM_RINGSTAT NARROW_DS: bits 25:16. -/
abbrev MDM_RINGSTAT_NARROW_DS : Fld := ⟨.MDM_RINGSTAT, 16, 10⟩
/-- MDM_RINGSTAT WIDE_DS: bits 6:0. -/
abbrev MDM_RINGSTAT_WIDE_DS : Fld := ⟨.MDM_RINGSTAT, 0, 7⟩
/-- MDM_OLDEST_S TIME: bits 31:0. -/
abbrev MDM_OLDEST_S_TIME : Fld := ⟨.MDM_OLDEST_S, 0, 32⟩
/-- MDM_OLDEST_NS TIME: bits 31:0. -/
abbrev MDM_OLDEST_NS_TIME : Fld := ⟨.MDM_OLDEST_NS, 0, 32⟩
/-- MDM_RESCAN GO: bits 31:31. -/
abbrev MDM_RESCAN_GO : Fld := ⟨.MDM_RESCAN, 31, 1⟩
/-- MDM_RESCAN FG: bits 26:24. -/
abbrev MDM_RESCAN_FG : Fld := ⟨.MDM_RESCAN, 24, 3⟩
/-- MDM_RESCAN BACK_S: bits 21:16. -/
abbrev MDM_RESCAN_BACK_S : Fld := ⟨.MDM_RESCAN, 16, 6⟩
/-- MDM_RESCAN SRC: bits 15:0. -/
abbrev MDM_RESCAN_SRC : Fld := ⟨.MDM_RESCAN, 0, 16⟩
/-- MDM_RESCAN_STAT FOUND: bits 23:8. -/
abbrev MDM_RESCAN_STAT_FOUND : Fld := ⟨.MDM_RESCAN_STAT, 8, 16⟩
/-- MDM_RESCAN_STAT EXPIRED: bits 3:3. -/
abbrev MDM_RESCAN_STAT_EXPIRED : Fld := ⟨.MDM_RESCAN_STAT, 3, 1⟩
/-- MDM_RESCAN_STAT REFUSED: bits 2:2. -/
abbrev MDM_RESCAN_STAT_REFUSED : Fld := ⟨.MDM_RESCAN_STAT, 2, 1⟩
/-- MDM_RESCAN_STAT STATE: bits 1:0. -/
abbrev MDM_RESCAN_STAT_STATE : Fld := ⟨.MDM_RESCAN_STAT, 0, 2⟩
/-- MDM_END_SEL LATE: bits 12:12. -/
abbrev MDM_END_SEL_LATE : Fld := ⟨.MDM_END_SEL, 12, 1⟩
/-- MDM_END_SEL FG: bits 10:8. -/
abbrev MDM_END_SEL_FG : Fld := ⟨.MDM_END_SEL, 8, 3⟩
/-- MDM_END_SEL CODE: bits 4:0. -/
abbrev MDM_END_SEL_CODE : Fld := ⟨.MDM_END_SEL, 0, 5⟩
/-- MDM_END_CNT COUNT: bits 31:0. -/
abbrev MDM_END_CNT_COUNT : Fld := ⟨.MDM_END_CNT, 0, 32⟩
/-- MDM_EVTCFG EVT: bits 23:0. -/
abbrev MDM_EVTCFG_EVT : Fld := ⟨.MDM_EVTCFG, 0, 24⟩
/-- MDM_MAPCFG ERASE: bits 31:28. -/
abbrev MDM_MAPCFG_ERASE : Fld := ⟨.MDM_MAPCFG, 28, 4⟩
/-- MDM_MAPCFG MINIVL: bits 27:24. -/
abbrev MDM_MAPCFG_MINIVL : Fld := ⟨.MDM_MAPCFG, 24, 4⟩
/-- MDM_MAPCFG HYST: bits 23:20. -/
abbrev MDM_MAPCFG_HYST : Fld := ⟨.MDM_MAPCFG, 20, 4⟩
/-- MDM_MAPCFG CONF_MIN: bits 19:12. -/
abbrev MDM_MAPCFG_CONF_MIN : Fld := ⟨.MDM_MAPCFG, 12, 8⟩
/-- MDM_MAPCFG HALF: bits 11:8. -/
abbrev MDM_MAPCFG_HALF : Fld := ⟨.MDM_MAPCFG, 8, 4⟩
/-- MDM_MAPCFG AVG: bits 6:4. -/
abbrev MDM_MAPCFG_AVG : Fld := ⟨.MDM_MAPCFG, 4, 3⟩
/-- MDM_MAPCFG MARGIN: bits 3:0. -/
abbrev MDM_MAPCFG_MARGIN : Fld := ⟨.MDM_MAPCFG, 0, 4⟩
/-- MDM_SNDCFG STALE_S: bits 23:16. -/
abbrev MDM_SNDCFG_STALE_S : Fld := ⟨.MDM_SNDCFG, 16, 8⟩
/-- MDM_SNDCFG MCS: bits 15:12. -/
abbrev MDM_SNDCFG_MCS : Fld := ⟨.MDM_SNDCFG, 12, 4⟩
/-- MDM_SNDCFG HITS: bits 9:8. -/
abbrev MDM_SNDCFG_HITS : Fld := ⟨.MDM_SNDCFG, 8, 2⟩
/-- MDM_SNDCFG BCAST_IVL: bits 7:0. -/
abbrev MDM_SNDCFG_BCAST_IVL : Fld := ⟨.MDM_SNDCFG, 0, 8⟩
/-- MDM_MAPSTAT PINNED: bits 30:16. -/
abbrev MDM_MAPSTAT_PINNED : Fld := ⟨.MDM_MAPSTAT, 16, 15⟩
/-- MDM_MAPSTAT IN_USE: bits 14:0. -/
abbrev MDM_MAPSTAT_IN_USE : Fld := ⟨.MDM_MAPSTAT, 0, 15⟩
/-- MDM_MAPEVICT COUNT: bits 31:0. -/
abbrev MDM_MAPEVICT_COUNT : Fld := ⟨.MDM_MAPEVICT, 0, 32⟩
/-- MDM_MAPSEL SADDR: bits 15:0. -/
abbrev MDM_MAPSEL_SADDR : Fld := ⟨.MDM_MAPSEL, 0, 16⟩
/-- MDM_MAPINFO PINNED: bits 30:30. -/
abbrev MDM_MAPINFO_PINNED : Fld := ⟨.MDM_MAPINFO, 30, 1⟩
/-- MDM_MAPINFO DL_TMID: bits 29:26. -/
abbrev MDM_MAPINFO_DL_TMID : Fld := ⟨.MDM_MAPINFO, 26, 4⟩
/-- MDM_MAPINFO UL_TMID: bits 25:22. -/
abbrev MDM_MAPINFO_UL_TMID : Fld := ⟨.MDM_MAPINFO, 22, 4⟩
/-- MDM_MAPINFO FG: bits 18:16. -/
abbrev MDM_MAPINFO_FG : Fld := ⟨.MDM_MAPINFO, 16, 3⟩
/-- MDM_MAPINFO TRACKED: bits 15:15. -/
abbrev MDM_MAPINFO_TRACKED : Fld := ⟨.MDM_MAPINFO, 15, 1⟩
/-- MDM_MAPINFO INDEX: bits 14:0. -/
abbrev MDM_MAPINFO_INDEX : Fld := ⟨.MDM_MAPINFO, 0, 15⟩
/-- MDM_MAPHANDLE HANDLE: bits 31:0. -/
abbrev MDM_MAPHANDLE_HANDLE : Fld := ⟨.MDM_MAPHANDLE, 0, 32⟩
/-- MDM_MAPCMD GO: bits 31:31. -/
abbrev MDM_MAPCMD_GO : Fld := ⟨.MDM_MAPCMD, 31, 1⟩
/-- MDM_MAPCMD RESULT: bits 9:8. -/
abbrev MDM_MAPCMD_RESULT : Fld := ⟨.MDM_MAPCMD, 8, 2⟩
/-- MDM_MAPCMD OP: bits 2:0. -/
abbrev MDM_MAPCMD_OP : Fld := ⟨.MDM_MAPCMD, 0, 3⟩
/-- MDM_BANDCFG CG_HI: bits 29:24. -/
abbrev MDM_BANDCFG_CG_HI : Fld := ⟨.MDM_BANDCFG, 24, 6⟩
/-- MDM_BANDCFG CG_LO: bits 21:16. -/
abbrev MDM_BANDCFG_CG_LO : Fld := ⟨.MDM_BANDCFG, 16, 6⟩
/-- MDM_BANDCFG TSHARE: bits 15:14. -/
abbrev MDM_BANDCFG_TSHARE : Fld := ⟨.MDM_BANDCFG, 14, 2⟩
/-- MDM_BANDCFG PART: bits 13:12. -/
abbrev MDM_BANDCFG_PART : Fld := ⟨.MDM_BANDCFG, 12, 2⟩
/-- MDM_BANDCFG STDBAND: bits 11:8. -/
abbrev MDM_BANDCFG_STDBAND : Fld := ⟨.MDM_BANDCFG, 8, 4⟩
/-- MDM_BANDCFG STD: bits 6:4. -/
abbrev MDM_BANDCFG_STD : Fld := ⟨.MDM_BANDCFG, 4, 3⟩
/-- MDM_BANDCFG PROFILE: bits 3:0. -/
abbrev MDM_BANDCFG_PROFILE : Fld := ⟨.MDM_BANDCFG, 0, 4⟩
/-- MDM_BANDSTAT MASK_HI: bits 29:24. -/
abbrev MDM_BANDSTAT_MASK_HI : Fld := ⟨.MDM_BANDSTAT, 24, 6⟩
/-- MDM_BANDSTAT MASK_LO: bits 21:16. -/
abbrev MDM_BANDSTAT_MASK_LO : Fld := ⟨.MDM_BANDSTAT, 16, 6⟩
/-- MDM_BANDSTAT REFUSED: bits 2:2. -/
abbrev MDM_BANDSTAT_REFUSED : Fld := ⟨.MDM_BANDSTAT, 2, 1⟩
/-- MDM_BANDSTAT TX_OFF: bits 1:1. -/
abbrev MDM_BANDSTAT_TX_OFF : Fld := ⟨.MDM_BANDSTAT, 1, 1⟩
/-- MDM_BANDSTAT FLPA: bits 0:0. -/
abbrev MDM_BANDSTAT_FLPA : Fld := ⟨.MDM_BANDSTAT, 0, 1⟩
/-- MDM_BBCFG SYNC_TOL: bits 11:8. -/
abbrev MDM_BBCFG_SYNC_TOL : Fld := ⟨.MDM_BBCFG, 8, 4⟩
/-- MDM_BBCFG LINK: bits 5:4. -/
abbrev MDM_BBCFG_LINK : Fld := ⟨.MDM_BBCFG, 4, 2⟩
/-- MDM_BBCFG CP: bits 0:0. -/
abbrev MDM_BBCFG_CP : Fld := ⟨.MDM_BBCFG, 0, 1⟩
/-- MDM_BBNOTCH EN: bits 31:31. -/
abbrev MDM_BBNOTCH_EN : Fld := ⟨.MDM_BBNOTCH, 31, 1⟩
/-- MDM_BBNOTCH LAST: bits 24:16. -/
abbrev MDM_BBNOTCH_LAST : Fld := ⟨.MDM_BBNOTCH, 16, 9⟩
/-- MDM_BBNOTCH FIRST: bits 8:0. -/
abbrev MDM_BBNOTCH_FIRST : Fld := ⟨.MDM_BBNOTCH, 0, 9⟩
/-- MDM_BBSTAT REFUSED: bits 31:31. -/
abbrev MDM_BBSTAT_REFUSED : Fld := ⟨.MDM_BBSTAT, 31, 1⟩
/-- MDM_BBSTAT SYNCBITS: bits 22:16. -/
abbrev MDM_BBSTAT_SYNCBITS : Fld := ⟨.MDM_BBSTAT, 16, 7⟩
/-- MDM_BBSTAT DATA: bits 11:0. -/
abbrev MDM_BBSTAT_DATA : Fld := ⟨.MDM_BBSTAT, 0, 12⟩
/-- MAC_NETCFG NETNUM: bits 29:0. -/
abbrev MAC_NETCFG_NETNUM : Fld := ⟨.MAC_NETCFG, 0, 30⟩
/-- MAC_SEED_LO SEED: bits 31:0. -/
abbrev MAC_SEED_LO_SEED : Fld := ⟨.MAC_SEED_LO, 0, 32⟩
/-- MAC_SEED_HI SEED: bits 31:0. -/
abbrev MAC_SEED_HI_SEED : Fld := ⟨.MAC_SEED_HI, 0, 32⟩
/-- MAC_ACKCFG CW_MAX: bits 15:12. -/
abbrev MAC_ACKCFG_CW_MAX : Fld := ⟨.MAC_ACKCFG, 12, 4⟩
/-- MAC_ACKCFG CW_MIN: bits 11:8. -/
abbrev MAC_ACKCFG_CW_MIN : Fld := ⟨.MAC_ACKCFG, 8, 4⟩
/-- MAC_ACKCFG ACK_WIN: bits 3:0. -/
abbrev MAC_ACKCFG_ACK_WIN : Fld := ⟨.MAC_ACKCFG, 0, 4⟩
/-- MAC_CHKCFG QUAR: bits 31:24. -/
abbrev MAC_CHKCFG_QUAR : Fld := ⟨.MAC_CHKCFG, 24, 8⟩
/-- MAC_CHKCFG ABSENT_REL: bits 23:8. -/
abbrev MAC_CHKCFG_ABSENT_REL : Fld := ⟨.MAC_CHKCFG, 8, 16⟩
/-- MAC_CHKCFG CHECKIN_IVL: bits 7:0. -/
abbrev MAC_CHKCFG_CHECKIN_IVL : Fld := ⟨.MAC_CHKCFG, 0, 8⟩
/-- MAC_SLEEPCFG WAKE_REP: bits 23:20. -/
abbrev MAC_SLEEPCFG_WAKE_REP : Fld := ⟨.MAC_SLEEPCFG, 20, 4⟩
/-- MAC_SLEEPCFG MAPRESET_N: bits 19:16. -/
abbrev MAC_SLEEPCFG_MAPRESET_N : Fld := ⟨.MAC_SLEEPCFG, 16, 4⟩
/-- MAC_SLEEPCFG SCHED_PPM: bits 15:0. -/
abbrev MAC_SLEEPCFG_SCHED_PPM : Fld := ⟨.MAC_SLEEPCFG, 0, 16⟩
/-- MAC_WAKECFG PORT: bits 31:27. -/
abbrev MAC_WAKECFG_PORT : Fld := ⟨.MAC_WAKECFG, 27, 5⟩
/-- MAC_WAKECFG F1: bits 26:16. -/
abbrev MAC_WAKECFG_F1 : Fld := ⟨.MAC_WAKECFG, 16, 11⟩
/-- MAC_WAKECFG F0: bits 10:0. -/
abbrev MAC_WAKECFG_F0 : Fld := ⟨.MAC_WAKECFG, 0, 11⟩
/-- MAC_WAKEADDR ADDR: bits 15:0. -/
abbrev MAC_WAKEADDR_ADDR : Fld := ⟨.MAC_WAKEADDR, 0, 16⟩
/-- MAC_PARENT NALT: bits 31:30. -/
abbrev MAC_PARENT_NALT : Fld := ⟨.MAC_PARENT, 30, 2⟩
/-- MAC_PARENT ALT2: bits 29:20. -/
abbrev MAC_PARENT_ALT2 : Fld := ⟨.MAC_PARENT, 20, 10⟩
/-- MAC_PARENT ALT1: bits 19:10. -/
abbrev MAC_PARENT_ALT1 : Fld := ⟨.MAC_PARENT, 10, 10⟩
/-- MAC_PARENT ALT0: bits 9:0. -/
abbrev MAC_PARENT_ALT0 : Fld := ⟨.MAC_PARENT, 0, 10⟩
/-- MAC_STAT EPOCH: bits 31:24. -/
abbrev MAC_STAT_EPOCH : Fld := ⟨.MAC_STAT, 24, 8⟩
/-- MAC_STAT ASSOC_DENIED: bits 19:19. -/
abbrev MAC_STAT_ASSOC_DENIED : Fld := ⟨.MAC_STAT, 19, 1⟩
/-- MAC_STAT NOPARENT_EV: bits 18:18. -/
abbrev MAC_STAT_NOPARENT_EV : Fld := ⟨.MAC_STAT, 18, 1⟩
/-- MAC_STAT NOPARENT: bits 17:17. -/
abbrev MAC_STAT_NOPARENT : Fld := ⟨.MAC_STAT, 17, 1⟩
/-- MAC_STAT ABSENT: bits 16:0. -/
abbrev MAC_STAT_ABSENT : Fld := ⟨.MAC_STAT, 0, 17⟩
/-- MAC_COUNT ASSOC: bits 16:0. -/
abbrev MAC_COUNT_ASSOC : Fld := ⟨.MAC_COUNT, 0, 17⟩
/-- MAC_NODESEL SADDR: bits 15:0. -/
abbrev MAC_NODESEL_SADDR : Fld := ⟨.MAC_NODESEL, 0, 16⟩
/-- MAC_NODEINFO SLEEPY: bits 10:10. -/
abbrev MAC_NODEINFO_SLEEPY : Fld := ⟨.MAC_NODEINFO, 10, 1⟩
/-- MAC_NODEINFO RELAY: bits 9:9. -/
abbrev MAC_NODEINFO_RELAY : Fld := ⟨.MAC_NODEINFO, 9, 1⟩
/-- MAC_NODEINFO FG: bits 7:5. -/
abbrev MAC_NODEINFO_FG : Fld := ⟨.MAC_NODEINFO, 5, 3⟩
/-- MAC_NODEINFO STATE: bits 2:0. -/
abbrev MAC_NODEINFO_STATE : Fld := ⟨.MAC_NODEINFO, 0, 3⟩
/-- MAC_NODETX VALUE: bits 31:0. -/
abbrev MAC_NODETX_VALUE : Fld := ⟨.MAC_NODETX, 0, 32⟩
/-- MAC_NODERX VALUE: bits 31:0. -/
abbrev MAC_NODERX_VALUE : Fld := ⟨.MAC_NODERX, 0, 32⟩
/-- MAC_NODECMD GO: bits 31:31. -/
abbrev MAC_NODECMD_GO : Fld := ⟨.MAC_NODECMD, 31, 1⟩
/-- MAC_NODECMD RESULT: bits 9:8. -/
abbrev MAC_NODECMD_RESULT : Fld := ⟨.MAC_NODECMD, 8, 2⟩
/-- MAC_NODECMD OP: bits 2:0. -/
abbrev MAC_NODECMD_OP : Fld := ⟨.MAC_NODECMD, 0, 3⟩
/-- MAC_BCNCFG ASSOC_OPEN: bits 31:31. -/
abbrev MAC_BCNCFG_ASSOC_OPEN : Fld := ⟨.MAC_BCNCFG, 31, 1⟩
/-- MAC_BCNCFG BCG_LAST: bits 29:24. -/
abbrev MAC_BCNCFG_BCG_LAST : Fld := ⟨.MAC_BCNCFG, 24, 6⟩
/-- MAC_BCNCFG BCG_FIRST: bits 21:16. -/
abbrev MAC_BCNCFG_BCG_FIRST : Fld := ⟨.MAC_BCNCFG, 16, 6⟩
/-- MAC_BCNCFG DISC_IVL: bits 15:8. -/
abbrev MAC_BCNCFG_DISC_IVL : Fld := ⟨.MAC_BCNCFG, 8, 8⟩
/-- MAC_BCNCFG IVL: bits 7:0. -/
abbrev MAC_BCNCFG_IVL : Fld := ⟨.MAC_BCNCFG, 0, 8⟩
/-- MAC_BNUM BNUM: bits 31:0. -/
abbrev MAC_BNUM_BNUM : Fld := ⟨.MAC_BNUM, 0, 32⟩
/-- MAC_LDGCFG CONF_S: bits 31:16. -/
abbrev MAC_LDGCFG_CONF_S : Fld := ⟨.MAC_LDGCFG, 16, 16⟩
/-- MAC_LDGCFG RETRY: bits 15:12. -/
abbrev MAC_LDGCFG_RETRY : Fld := ⟨.MAC_LDGCFG, 12, 4⟩
/-- MAC_LDGCFG EVT_ACKED: bits 9:9. -/
abbrev MAC_LDGCFG_EVT_ACKED : Fld := ⟨.MAC_LDGCFG, 9, 1⟩
/-- MAC_LDGCFG EVT_SENT: bits 8:8. -/
abbrev MAC_LDGCFG_EVT_SENT : Fld := ⟨.MAC_LDGCFG, 8, 1⟩
/-- MAC_LDGSTAT WINDOW: bits 31:31. -/
abbrev MAC_LDGSTAT_WINDOW : Fld := ⟨.MAC_LDGSTAT, 31, 1⟩
/-- MAC_LDGSTAT FULL: bits 30:30. -/
abbrev MAC_LDGSTAT_FULL : Fld := ⟨.MAC_LDGSTAT, 30, 1⟩
/-- MAC_LDGSTAT HELD: bits 19:0. -/
abbrev MAC_LDGSTAT_HELD : Fld := ⟨.MAC_LDGSTAT, 0, 20⟩
/-- MAC_LDG_ACC COUNT: bits 31:0. -/
abbrev MAC_LDG_ACC_COUNT : Fld := ⟨.MAC_LDG_ACC, 0, 32⟩
/-- MAC_LDG_Q COUNT: bits 31:0. -/
abbrev MAC_LDG_Q_COUNT : Fld := ⟨.MAC_LDG_Q, 0, 32⟩
/-- MAC_LDG_S COUNT: bits 31:0. -/
abbrev MAC_LDG_S_COUNT : Fld := ⟨.MAC_LDG_S, 0, 32⟩
/-- MAC_LDG_A COUNT: bits 31:0. -/
abbrev MAC_LDG_A_COUNT : Fld := ⟨.MAC_LDG_A, 0, 32⟩
/-- MAC_LDG_C COUNT: bits 31:0. -/
abbrev MAC_LDG_C_COUNT : Fld := ⟨.MAC_LDG_C, 0, 32⟩
/-- MAC_LDG_R COUNT: bits 31:0. -/
abbrev MAC_LDG_R_COUNT : Fld := ⟨.MAC_LDG_R, 0, 32⟩
/-- MAC_FBD DROP: bits 31:31. -/
abbrev MAC_FBD_DROP : Fld := ⟨.MAC_FBD, 31, 1⟩
/-- MAC_FBD FREE: bits 18:0. -/
abbrev MAC_FBD_FREE : Fld := ⟨.MAC_FBD, 0, 19⟩
/-- MDM_FMCFG VF: bits 31:24. -/
abbrev MDM_FMCFG_VF : Fld := ⟨.MDM_FMCFG, 24, 8⟩
/-- MDM_FMCFG SW_IVL: bits 23:16. -/
abbrev MDM_FMCFG_SW_IVL : Fld := ⟨.MDM_FMCFG, 16, 8⟩
/-- MDM_FMCFG NSW: bits 15:14. -/
abbrev MDM_FMCFG_NSW : Fld := ⟨.MDM_FMCFG, 14, 2⟩
/-- MDM_FMCFG THR: bits 11:8. -/
abbrev MDM_FMCFG_THR : Fld := ⟨.MDM_FMCFG, 8, 4⟩
/-- MDM_FMPORT SWEEP_EN: bits 23:0. -/
abbrev MDM_FMPORT_SWEEP_EN : Fld := ⟨.MDM_FMPORT, 0, 24⟩
/-- MDM_FMSTAT EV_LOST: bits 31:31. -/
abbrev MDM_FMSTAT_EV_LOST : Fld := ⟨.MDM_FMSTAT, 31, 1⟩
/-- MDM_FMSTAT EV_HELD: bits 12:0. -/
abbrev MDM_FMSTAT_EV_HELD : Fld := ⟨.MDM_FMSTAT, 0, 13⟩
/-- MDM_FMSKIP COUNT: bits 31:0. -/
abbrev MDM_FMSKIP_COUNT : Fld := ⟨.MDM_FMSKIP, 0, 32⟩
/-- MDM_FMCMD GO: bits 31:31. -/
abbrev MDM_FMCMD_GO : Fld := ⟨.MDM_FMCMD, 31, 1⟩
/-- MDM_FMCMD RESULT: bits 9:8. -/
abbrev MDM_FMCMD_RESULT : Fld := ⟨.MDM_FMCMD, 8, 2⟩
/-- MDM_FMCMD OP: bits 2:0. -/
abbrev MDM_FMCMD_OP : Fld := ⟨.MDM_FMCMD, 0, 3⟩
/-- MDM_FMARG ARG: bits 31:0. -/
abbrev MDM_FMARG_ARG : Fld := ⟨.MDM_FMARG, 0, 32⟩
/-- MDM_BALCFG MINUTES: bits 31:24. -/
abbrev MDM_BALCFG_MINUTES : Fld := ⟨.MDM_BALCFG, 24, 8⟩
/-- MDM_BALCFG DWELL: bits 23:16. -/
abbrev MDM_BALCFG_DWELL : Fld := ⟨.MDM_BALCFG, 16, 8⟩
/-- MDM_BALCFG THR: bits 7:0. -/
abbrev MDM_BALCFG_THR : Fld := ⟨.MDM_BALCFG, 0, 8⟩
/-- MDM_BALCH CH3: bits 31:24. -/
abbrev MDM_BALCH_CH3 : Fld := ⟨.MDM_BALCH, 24, 8⟩
/-- MDM_BALCH CH2: bits 23:16. -/
abbrev MDM_BALCH_CH2 : Fld := ⟨.MDM_BALCH, 16, 8⟩
/-- MDM_BALCH CH1: bits 15:8. -/
abbrev MDM_BALCH_CH1 : Fld := ⟨.MDM_BALCH, 8, 8⟩
/-- MDM_BALCH CH0: bits 7:0. -/
abbrev MDM_BALCH_CH0 : Fld := ⟨.MDM_BALCH, 0, 8⟩
/-- MDM_BALPT EN: bits 31:31. -/
abbrev MDM_BALPT_EN : Fld := ⟨.MDM_BALPT, 31, 1⟩
/-- MDM_BALPT VN_AG: bits 30:30. -/
abbrev MDM_BALPT_VN_AG : Fld := ⟨.MDM_BALPT, 30, 1⟩
/-- MDM_BALPT VP: bits 29:25. -/
abbrev MDM_BALPT_VP : Fld := ⟨.MDM_BALPT, 25, 5⟩
/-- MDM_BALPT VN: bits 24:20. -/
abbrev MDM_BALPT_VN : Fld := ⟨.MDM_BALPT, 20, 5⟩
/-- MDM_BALPT IP: bits 19:15. -/
abbrev MDM_BALPT_IP : Fld := ⟨.MDM_BALPT, 15, 5⟩
/-- MDM_BALPT IN: bits 14:10. -/
abbrev MDM_BALPT_IN : Fld := ⟨.MDM_BALPT, 10, 5⟩
/-- MDM_BALPT IN_AG: bits 9:9. -/
abbrev MDM_BALPT_IN_AG : Fld := ⟨.MDM_BALPT, 9, 1⟩
/-- MDM_BALPT PAIR: bits 8:8. -/
abbrev MDM_BALPT_PAIR : Fld := ⟨.MDM_BALPT, 8, 1⟩
/-- MDM_BALPT PHASE: bits 5:4. -/
abbrev MDM_BALPT_PHASE : Fld := ⟨.MDM_BALPT, 4, 2⟩
/-- MDM_BALPT FG: bits 2:0. -/
abbrev MDM_BALPT_FG : Fld := ⟨.MDM_BALPT, 0, 3⟩
/-- MDM_BALVS SCALE: bits 31:0. -/
abbrev MDM_BALVS_SCALE : Fld := ⟨.MDM_BALVS, 0, 32⟩
/-- MDM_BALIS SCALE: bits 31:0. -/
abbrev MDM_BALIS_SCALE : Fld := ⟨.MDM_BALIS, 0, 32⟩
/-- GS_CFG TSRC: bits 31:29. -/
abbrev GS_CFG_TSRC : Fld := ⟨.GS_CFG, 29, 3⟩
/-- GS_CFG LIN: bits 28:24. -/
abbrev GS_CFG_LIN : Fld := ⟨.GS_CFG, 24, 5⟩
/-- GS_CFG NFG: bits 22:20. -/
abbrev GS_CFG_NFG : Fld := ⟨.GS_CFG, 20, 3⟩
/-- GS_CFG NHARM: bits 19:16. -/
abbrev GS_CFG_NHARM : Fld := ⟨.GS_CFG, 16, 4⟩
/-- GS_CFG NOTCH: bits 15:14. -/
abbrev GS_CFG_NOTCH : Fld := ⟨.GS_CFG, 14, 2⟩
/-- GS_CFG FILT: bits 13:12. -/
abbrev GS_CFG_FILT : Fld := ⟨.GS_CFG, 12, 2⟩
/-- GS_CFG RATE: bits 11:8. -/
abbrev GS_CFG_RATE : Fld := ⟨.GS_CFG, 8, 4⟩
/-- GS_CFG MAINS: bits 7:7. -/
abbrev GS_CFG_MAINS : Fld := ⟨.GS_CFG, 7, 1⟩
/-- GS_CFG RANGE: bits 6:4. -/
abbrev GS_CFG_RANGE : Fld := ⟨.GS_CFG, 4, 3⟩
/-- GS_CFG AUTORST: bits 3:3. -/
abbrev GS_CFG_AUTORST : Fld := ⟨.GS_CFG, 3, 1⟩
/-- GS_CFG AUTORANGE: bits 2:2. -/
abbrev GS_CFG_AUTORANGE : Fld := ⟨.GS_CFG, 2, 1⟩
/-- GS_CFG MODE: bits 1:1. -/
abbrev GS_CFG_MODE : Fld := ⟨.GS_CFG, 1, 1⟩
/-- GS_CFG EN: bits 0:0. -/
abbrev GS_CFG_EN : Fld := ⟨.GS_CFG, 0, 1⟩
/-- GS_XPT SRC: bits 18:16. -/
abbrev GS_XPT_SRC : Fld := ⟨.GS_XPT, 16, 3⟩
/-- GS_XPT NEN: bits 13:13. -/
abbrev GS_XPT_NEN : Fld := ⟨.GS_XPT, 13, 1⟩
/-- GS_XPT NPIN: bits 12:8. -/
abbrev GS_XPT_NPIN : Fld := ⟨.GS_XPT, 8, 5⟩
/-- GS_XPT PEN: bits 5:5. -/
abbrev GS_XPT_PEN : Fld := ⟨.GS_XPT, 5, 1⟩
/-- GS_XPT PPIN: bits 4:0. -/
abbrev GS_XPT_PPIN : Fld := ⟨.GS_XPT, 0, 5⟩
/-- GS_CMD LINGO: bits 1:1. -/
abbrev GS_CMD_LINGO : Fld := ⟨.GS_CMD, 1, 1⟩
/-- GS_CMD RESET: bits 0:0. -/
abbrev GS_CMD_RESET : Fld := ⟨.GS_CMD, 0, 1⟩
/-- GS_STAT OVL: bits 16:16. -/
abbrev GS_STAT_OVL : Fld := ⟨.GS_STAT, 16, 1⟩
/-- GS_STAT RANGE: bits 11:8. -/
abbrev GS_STAT_RANGE : Fld := ⟨.GS_STAT, 8, 4⟩
/-- GS_STAT STATUS: bits 7:0. -/
abbrev GS_STAT_STATUS : Fld := ⟨.GS_STAT, 0, 8⟩
/-- GS_RINGH VALUE: bits 31:0. -/
abbrev GS_RINGH_VALUE : Fld := ⟨.GS_RINGH, 0, 32⟩
/-- GS_WIDX VALUE: bits 31:0. -/
abbrev GS_WIDX_VALUE : Fld := ⟨.GS_WIDX, 0, 32⟩
/-- GS_COEF COEF: bits 31:0. -/
abbrev GS_COEF_COEF : Fld := ⟨.GS_COEF, 0, 32⟩
/-- GS_IEX EN: bits 31:31. -/
abbrev GS_IEX_EN : Fld := ⟨.GS_IEX, 31, 1⟩
/-- GS_IEX PIN: bits 20:16. -/
abbrev GS_IEX_PIN : Fld := ⟨.GS_IEX, 16, 5⟩
/-- GS_IEX MAG: bits 7:0. -/
abbrev GS_IEX_MAG : Fld := ⟨.GS_IEX, 0, 8⟩
/-- GS_VEX EN: bits 31:31. -/
abbrev GS_VEX_EN : Fld := ⟨.GS_VEX, 31, 1⟩
/-- GS_VEX PIN: bits 20:16. -/
abbrev GS_VEX_PIN : Fld := ⟨.GS_VEX, 16, 5⟩
/-- GS_VEX LEVEL: bits 0:0. -/
abbrev GS_VEX_LEVEL : Fld := ⟨.GS_VEX, 0, 1⟩
/-- GS_BIAS PINS: bits 31:0. -/
abbrev GS_BIAS_PINS : Fld := ⟨.GS_BIAS, 0, 32⟩
/-- GS_ARCFG HOLD: bits 7:0. -/
abbrev GS_ARCFG_HOLD : Fld := ⟨.GS_ARCFG, 0, 8⟩
/-- GS_CJT TEMP: bits 15:0. -/
abbrev GS_CJT_TEMP : Fld := ⟨.GS_CJT, 0, 16⟩
/-- GS_XSTAT VX_FAULT: bits 4:4. -/
abbrev GS_XSTAT_VX_FAULT : Fld := ⟨.GS_XSTAT, 4, 1⟩
/-- GS_XSTAT IB_FAULT: bits 3:3. -/
abbrev GS_XSTAT_IB_FAULT : Fld := ⟨.GS_XSTAT, 3, 1⟩
/-- GS_XSTAT IA_FAULT: bits 2:2. -/
abbrev GS_XSTAT_IA_FAULT : Fld := ⟨.GS_XSTAT, 2, 1⟩
/-- GS_XSTAT REFUSED: bits 0:0. -/
abbrev GS_XSTAT_REFUSED : Fld := ⟨.GS_XSTAT, 0, 1⟩
/-- GS_RET PINS: bits 31:0. -/
abbrev GS_RET_PINS : Fld := ⟨.GS_RET, 0, 32⟩
/-- CAL_CMD GO: bits 31:31. -/
abbrev CAL_CMD_GO : Fld := ⟨.CAL_CMD, 31, 1⟩
/-- CAL_CMD SET: bits 9:8. -/
abbrev CAL_CMD_SET : Fld := ⟨.CAL_CMD, 8, 2⟩
/-- CAL_CMD TARGET: bits 4:0. -/
abbrev CAL_CMD_TARGET : Fld := ⟨.CAL_CMD, 0, 5⟩
/-- CAL_STAT BUSY: bits 31:31. -/
abbrev CAL_STAT_BUSY : Fld := ⟨.CAL_STAT, 31, 1⟩
/-- CAL_STAT QUEUED: bits 27:24. -/
abbrev CAL_STAT_QUEUED : Fld := ⟨.CAL_STAT, 24, 4⟩
/-- CAL_STAT RESULT: bits 23:16. -/
abbrev CAL_STAT_RESULT : Fld := ⟨.CAL_STAT, 16, 8⟩
/-- CAL_STAT SET: bits 9:8. -/
abbrev CAL_STAT_SET : Fld := ⟨.CAL_STAT, 8, 2⟩
/-- CAL_STAT TARGET: bits 4:0. -/
abbrev CAL_STAT_TARGET : Fld := ⟨.CAL_STAT, 0, 5⟩
/-- CAL_TOL PHASE: bits 31:24. -/
abbrev CAL_TOL_PHASE : Fld := ⟨.CAL_TOL, 24, 8⟩
/-- CAL_TOL LP: bits 23:16. -/
abbrev CAL_TOL_LP : Fld := ⟨.CAL_TOL, 16, 8⟩
/-- CAL_TOL GS: bits 15:8. -/
abbrev CAL_TOL_GS : Fld := ⟨.CAL_TOL, 8, 8⟩
/-- CAL_TOL REF: bits 7:0. -/
abbrev CAL_TOL_REF : Fld := ⟨.CAL_TOL, 0, 8⟩
/-- CAL_REFV UV: bits 22:0. -/
abbrev CAL_REFV_UV : Fld := ⟨.CAL_REFV, 0, 23⟩
/-- CAL_CNT VALUE: bits 31:0. -/
abbrev CAL_CNT_VALUE : Fld := ⟨.CAL_CNT, 0, 32⟩
/-- CAL_LAST_S VALUE: bits 31:0. -/
abbrev CAL_LAST_S_VALUE : Fld := ⟨.CAL_LAST_S, 0, 32⟩
/-- CAL_LAST_NS VALUE: bits 31:0. -/
abbrev CAL_LAST_NS_VALUE : Fld := ⟨.CAL_LAST_NS, 0, 32⟩
/-- CAL_SEL SET: bits 9:8. -/
abbrev CAL_SEL_SET : Fld := ⟨.CAL_SEL, 8, 2⟩
/-- CAL_SEL TARGET: bits 4:0. -/
abbrev CAL_SEL_TARGET : Fld := ⟨.CAL_SEL, 0, 5⟩
/-- CAL_INFO VALUE: bits 31:0. -/
abbrev CAL_INFO_VALUE : Fld := ⟨.CAL_INFO, 0, 32⟩
/-- CAL_INFO_S VALUE: bits 31:0. -/
abbrev CAL_INFO_S_VALUE : Fld := ⟨.CAL_INFO_S, 0, 32⟩
/-- ENG_STAT CLUSTER: bits 18:16. -/
abbrev ENG_STAT_CLUSTER : Fld := ⟨.ENG_STAT, 16, 3⟩
/-- ENG_STAT TAGS: bits 12:8. -/
abbrev ENG_STAT_TAGS : Fld := ⟨.ENG_STAT, 8, 5⟩
/-- ENG_STAT CTX: bits 7:4. -/
abbrev ENG_STAT_CTX : Fld := ⟨.ENG_STAT, 4, 4⟩
/-- ENG_STAT STATE: bits 2:0. -/
abbrev ENG_STAT_STATE : Fld := ⟨.ENG_STAT, 0, 3⟩
/-- ENG_FAULT VALID: bits 31:31. -/
abbrev ENG_FAULT_VALID : Fld := ⟨.ENG_FAULT, 31, 1⟩
/-- ENG_FAULT CAUSE: bits 26:24. -/
abbrev ENG_FAULT_CAUSE : Fld := ⟨.ENG_FAULT, 24, 3⟩
/-- ENG_FAULT CTX: bits 21:20. -/
abbrev ENG_FAULT_CTX : Fld := ⟨.ENG_FAULT, 20, 2⟩
/-- ENG_FAULT SLOT: bits 19:16. -/
abbrev ENG_FAULT_SLOT : Fld := ⟨.ENG_FAULT, 16, 4⟩
/-- ENG_FAULT TASK: bits 15:0. -/
abbrev ENG_FAULT_TASK : Fld := ⟨.ENG_FAULT, 0, 16⟩
/-- ENG_PACKSEL SLOT: bits 3:0. -/
abbrev ENG_PACKSEL_SLOT : Fld := ⟨.ENG_PACKSEL, 0, 4⟩
/-- ENG_PACKINFO STATE: bits 31:28. -/
abbrev ENG_PACKINFO_STATE : Fld := ⟨.ENG_PACKINFO, 28, 4⟩
/-- ENG_PACKINFO SEALED: bits 27:27. -/
abbrev ENG_PACKINFO_SEALED : Fld := ⟨.ENG_PACKINFO, 27, 1⟩
/-- ENG_PACKINFO REPLACEABLE: bits 26:26. -/
abbrev ENG_PACKINFO_REPLACEABLE : Fld := ⟨.ENG_PACKINFO, 26, 1⟩
/-- ENG_PACKINFO EMBER: bits 25:25. -/
abbrev ENG_PACKINFO_EMBER : Fld := ⟨.ENG_PACKINFO, 25, 1⟩
/-- ENG_PACKINFO ROLLBACK: bits 23:16. -/
abbrev ENG_PACKINFO_ROLLBACK : Fld := ⟨.ENG_PACKINFO, 16, 8⟩
/-- ENG_PACKINFO CLASS: bits 15:0. -/
abbrev ENG_PACKINFO_CLASS : Fld := ⟨.ENG_PACKINFO, 0, 16⟩
/-- ENG_PACKVER VERSION: bits 31:0. -/
abbrev ENG_PACKVER_VERSION : Fld := ⟨.ENG_PACKVER, 0, 32⟩
/-- ENG_SLOTS FREE: bits 20:16. -/
abbrev ENG_SLOTS_FREE : Fld := ⟨.ENG_SLOTS, 16, 5⟩
/-- ENG_SLOTS OCCUPIED: bits 4:0. -/
abbrev ENG_SLOTS_OCCUPIED : Fld := ⟨.ENG_SLOTS, 0, 5⟩
/-- PIT_STAT REPL: bits 29:29. -/
abbrev PIT_STAT_REPL : Fld := ⟨.PIT_STAT, 29, 1⟩
/-- PIT_STAT SHRINK: bits 28:28. -/
abbrev PIT_STAT_SHRINK : Fld := ⟨.PIT_STAT, 28, 1⟩
/-- PIT_STAT STACKS: bits 27:24. -/
abbrev PIT_STAT_STACKS : Fld := ⟨.PIT_STAT, 24, 4⟩
/-- PIT_STAT RETIRED: bits 23:16. -/
abbrev PIT_STAT_RETIRED : Fld := ⟨.PIT_STAT, 16, 8⟩
/-- PIT_STAT SPARE: bits 15:8. -/
abbrev PIT_STAT_SPARE : Fld := ⟨.PIT_STAT, 8, 8⟩
/-- PIT_STAT IN_SERVICE: bits 7:0. -/
abbrev PIT_STAT_IN_SERVICE : Fld := ⟨.PIT_STAT, 0, 8⟩
/-- PIT_EVT PACK_RESTART: bits 9:9. -/
abbrev PIT_EVT_PACK_RESTART : Fld := ⟨.PIT_EVT, 9, 1⟩
/-- PIT_EVT REPL_ABORTED: bits 8:8. -/
abbrev PIT_EVT_REPL_ABORTED : Fld := ⟨.PIT_EVT, 8, 1⟩
/-- PIT_EVT REPL_DONE: bits 7:7. -/
abbrev PIT_EVT_REPL_DONE : Fld := ⟨.PIT_EVT, 7, 1⟩
/-- PIT_EVT RESERVE_SHORT: bits 6:6. -/
abbrev PIT_EVT_RESERVE_SHORT : Fld := ⟨.PIT_EVT, 6, 1⟩
/-- PIT_EVT SHRUNK: bits 5:5. -/
abbrev PIT_EVT_SHRUNK : Fld := ⟨.PIT_EVT, 5, 1⟩
/-- PIT_EVT STACK_LOST: bits 4:4. -/
abbrev PIT_EVT_STACK_LOST : Fld := ⟨.PIT_EVT, 4, 1⟩
/-- PIT_EVT DEMOTED: bits 3:3. -/
abbrev PIT_EVT_DEMOTED : Fld := ⟨.PIT_EVT, 3, 1⟩
/-- PIT_EVT SPARE_EMPTY: bits 2:2. -/
abbrev PIT_EVT_SPARE_EMPTY : Fld := ⟨.PIT_EVT, 2, 1⟩
/-- PIT_EVT LATE: bits 1:1. -/
abbrev PIT_EVT_LATE : Fld := ⟨.PIT_EVT, 1, 1⟩
/-- PIT_EVT REFUSED: bits 0:0. -/
abbrev PIT_EVT_REFUSED : Fld := ⟨.PIT_EVT, 0, 1⟩
/-- PIT_SPARECFG TARGET: bits 4:0. -/
abbrev PIT_SPARECFG_TARGET : Fld := ⟨.PIT_SPARECFG, 0, 5⟩
/-- PIT_MEMRES MIB: bits 15:0. -/
abbrev PIT_MEMRES_MIB : Fld := ⟨.PIT_MEMRES, 0, 16⟩
/-- PIT_MEMCOM MIB: bits 31:0. -/
abbrev PIT_MEMCOM_MIB : Fld := ⟨.PIT_MEMCOM, 0, 32⟩
/-- PIT_MEMRSV MIB: bits 31:0. -/
abbrev PIT_MEMRSV_MIB : Fld := ⟨.PIT_MEMRSV, 0, 32⟩
/-- PIT_MEMFREE MIB: bits 31:0. -/
abbrev PIT_MEMFREE_MIB : Fld := ⟨.PIT_MEMFREE, 0, 32⟩
/-- PIT_MIGCFG GBPS: bits 7:0. -/
abbrev PIT_MIGCFG_GBPS : Fld := ⟨.PIT_MIGCFG, 0, 8⟩
/-- PIT_REPLCFG ABORT: bits 31:31. -/
abbrev PIT_REPLCFG_ABORT : Fld := ⟨.PIT_REPLCFG, 31, 1⟩
/-- PIT_REPLCFG LIMIT_S: bits 15:0. -/
abbrev PIT_REPLCFG_LIMIT_S : Fld := ⟨.PIT_REPLCFG, 0, 16⟩
/-- PIT_DRAIN GO: bits 31:31. -/
abbrev PIT_DRAIN_GO : Fld := ⟨.PIT_DRAIN, 31, 1⟩
/-- PIT_DRAIN FORCE: bits 30:30. -/
abbrev PIT_DRAIN_FORCE : Fld := ⟨.PIT_DRAIN, 30, 1⟩
/-- PIT_DRAIN RESTORE: bits 29:29. -/
abbrev PIT_DRAIN_RESTORE : Fld := ⟨.PIT_DRAIN, 29, 1⟩
/-- PIT_DRAIN RESULT: bits 25:24. -/
abbrev PIT_DRAIN_RESULT : Fld := ⟨.PIT_DRAIN, 24, 2⟩
/-- PIT_DRAIN INDEX: bits 7:0. -/
abbrev PIT_DRAIN_INDEX : Fld := ⟨.PIT_DRAIN, 0, 8⟩
/-- PIT_OWNCFG DWELL: bits 23:16. -/
abbrev PIT_OWNCFG_DWELL : Fld := ⟨.PIT_OWNCFG, 16, 8⟩
/-- PIT_OWNCFG HYST: bits 11:8. -/
abbrev PIT_OWNCFG_HYST : Fld := ⟨.PIT_OWNCFG, 8, 4⟩
/-- PIT_OWNCFG AUTO: bits 0:0. -/
abbrev PIT_OWNCFG_AUTO : Fld := ⟨.PIT_OWNCFG, 0, 1⟩
/-- MEM_CFG SCRUB_H: bits 15:8. -/
abbrev MEM_CFG_SCRUB_H : Fld := ⟨.MEM_CFG, 8, 8⟩
/-- MEM_CFG MINSTEP: bits 5:4. -/
abbrev MEM_CFG_MINSTEP : Fld := ⟨.MEM_CFG, 4, 2⟩
/-- MEM_CFG MAXSTEP: bits 1:0. -/
abbrev MEM_CFG_MAXSTEP : Fld := ⟨.MEM_CFG, 0, 2⟩
/-- MEM_STAT BW: bits 31:16. -/
abbrev MEM_STAT_BW : Fld := ⟨.MEM_STAT, 16, 16⟩
/-- MEM_STAT PC_RET: bits 13:8. -/
abbrev MEM_STAT_PC_RET : Fld := ⟨.MEM_STAT, 8, 6⟩
/-- MEM_STAT STEP: bits 5:4. -/
abbrev MEM_STAT_STEP : Fld := ⟨.MEM_STAT, 4, 2⟩
/-- MEM_STAT STATE: bits 2:0. -/
abbrev MEM_STAT_STATE : Fld := ⟨.MEM_STAT, 0, 3⟩
/-- MEM_CE COUNT: bits 31:0. -/
abbrev MEM_CE_COUNT : Fld := ⟨.MEM_CE, 0, 32⟩
/-- MEM_UE COUNT: bits 31:0. -/
abbrev MEM_UE_COUNT : Fld := ⟨.MEM_UE, 0, 32⟩
/-- MEM_CAN RETIRED: bits 15:8. -/
abbrev MEM_CAN_RETIRED : Fld := ⟨.MEM_CAN, 8, 8⟩
/-- MEM_CAN SERVING: bits 7:0. -/
abbrev MEM_CAN_SERVING : Fld := ⟨.MEM_CAN, 0, 8⟩
/-- MEM_CAN_CE COUNT: bits 31:0. -/
abbrev MEM_CAN_CE_COUNT : Fld := ⟨.MEM_CAN_CE, 0, 32⟩
/-- MEM_CAN_UE COUNT: bits 31:0. -/
abbrev MEM_CAN_UE_COUNT : Fld := ⟨.MEM_CAN_UE, 0, 32⟩
/-- GL_CFG EN: bits 31:31. -/
abbrev GL_CFG_EN : Fld := ⟨.GL_CFG, 31, 1⟩
/-- GL_CFG ROOT: bits 30:30. -/
abbrev GL_CFG_ROOT : Fld := ⟨.GL_CFG, 30, 1⟩
/-- GL_CFG LANES: bits 23:20. -/
abbrev GL_CFG_LANES : Fld := ⟨.GL_CFG, 20, 4⟩
/-- GL_CFG LLINKS: bits 19:16. -/
abbrev GL_CFG_LLINKS : Fld := ⟨.GL_CFG, 16, 4⟩
/-- GL_CFG INDEX: bits 9:0. -/
abbrev GL_CFG_INDEX : Fld := ⟨.GL_CFG, 0, 10⟩
/-- GL_PARENT IDX: bits 9:0. -/
abbrev GL_PARENT_IDX : Fld := ⟨.GL_PARENT, 0, 10⟩
/-- GL_LATB US: bits 23:0. -/
abbrev GL_LATB_US : Fld := ⟨.GL_LATB, 0, 24⟩
/-- GL_LCFG PERIOD: bits 1:0. -/
abbrev GL_LCFG_PERIOD : Fld := ⟨.GL_LCFG, 0, 2⟩
/-- GL_SEED_LO SEED: bits 31:0. -/
abbrev GL_SEED_LO_SEED : Fld := ⟨.GL_SEED_LO, 0, 32⟩
/-- GL_SEED_HI SEED: bits 31:0. -/
abbrev GL_SEED_HI_SEED : Fld := ⟨.GL_SEED_HI, 0, 32⟩
/-- GL_STAT STATE: bits 31:30. -/
abbrev GL_STAT_STATE : Fld := ⟨.GL_STAT, 30, 2⟩
/-- GL_STAT PARENT: bits 25:16. -/
abbrev GL_STAT_PARENT : Fld := ⟨.GL_STAT, 16, 10⟩
/-- GL_STAT PLINK: bits 14:12. -/
abbrev GL_STAT_PLINK : Fld := ⟨.GL_STAT, 12, 3⟩
/-- GL_STAT DEPTH: bits 9:0. -/
abbrev GL_STAT_DEPTH : Fld := ⟨.GL_STAT, 0, 10⟩
/-- GL_LROOT VALUE: bits 31:0. -/
abbrev GL_LROOT_VALUE : Fld := ⟨.GL_LROOT, 0, 32⟩
/-- GL_MEMBERS VALUE: bits 31:0. -/
abbrev GL_MEMBERS_VALUE : Fld := ⟨.GL_MEMBERS, 0, 32⟩
/-- GL_LINKSEL LINK: bits 2:0. -/
abbrev GL_LINKSEL_LINK : Fld := ⟨.GL_LINKSEL, 0, 3⟩
/-- GL_LINK PEER: bits 25:16. -/
abbrev GL_LINK_PEER : Fld := ⟨.GL_LINK, 16, 10⟩
/-- GL_LINK STATE: bits 2:0. -/
abbrev GL_LINK_STATE : Fld := ⟨.GL_LINK, 0, 3⟩
/-- GL_EVT BOUND: bits 4:4. -/
abbrev GL_EVT_BOUND : Fld := ⟨.GL_EVT, 4, 1⟩
/-- GL_EVT DUP_INDEX: bits 3:3. -/
abbrev GL_EVT_DUP_INDEX : Fld := ⟨.GL_EVT, 3, 1⟩
/-- GL_EVT LINK_DOWN: bits 2:2. -/
abbrev GL_EVT_LINK_DOWN : Fld := ⟨.GL_EVT, 2, 1⟩
/-- GL_EVT HEALED: bits 1:1. -/
abbrev GL_EVT_HEALED : Fld := ⟨.GL_EVT, 1, 1⟩
/-- GL_EVT REFUSED: bits 0:0. -/
abbrev GL_EVT_REFUSED : Fld := ⟨.GL_EVT, 0, 1⟩
/-- GL_DROP COUNT: bits 31:0. -/
abbrev GL_DROP_COUNT : Fld := ⟨.GL_DROP, 0, 32⟩
/-- CMP_SHORT_S VALUE: bits 31:0. -/
abbrev CMP_SHORT_S_VALUE : Fld := ⟨.CMP_SHORT_S, 0, 32⟩
/-- CMP_NS VALUE: bits 31:0. -/
abbrev CMP_NS_VALUE : Fld := ⟨.CMP_NS, 0, 32⟩
/-- CMP_SEC_HI VALUE: bits 31:0. -/
abbrev CMP_SEC_HI_VALUE : Fld := ⟨.CMP_SEC_HI, 0, 32⟩
/-- CMP_STAT REFUSED: bits 19:19. -/
abbrev CMP_STAT_REFUSED : Fld := ⟨.CMP_STAT, 19, 1⟩
/-- CMP_STAT HOLDLIM: bits 18:18. -/
abbrev CMP_STAT_HOLDLIM : Fld := ⟨.CMP_STAT, 18, 1⟩
/-- CMP_STAT SRCCHG: bits 17:17. -/
abbrev CMP_STAT_SRCCHG : Fld := ⟨.CMP_STAT, 17, 1⟩
/-- CMP_STAT STEPPED: bits 16:16. -/
abbrev CMP_STAT_STEPPED : Fld := ⟨.CMP_STAT, 16, 1⟩
/-- CMP_STAT TIME_SET: bits 8:8. -/
abbrev CMP_STAT_TIME_SET : Fld := ⟨.CMP_STAT, 8, 1⟩
/-- CMP_STAT SRC: bits 6:4. -/
abbrev CMP_STAT_SRC : Fld := ⟨.CMP_STAT, 4, 3⟩
/-- CMP_STAT PARENT_HOLD: bits 3:3. -/
abbrev CMP_STAT_PARENT_HOLD : Fld := ⟨.CMP_STAT, 3, 1⟩
/-- CMP_STAT STATE: bits 1:0. -/
abbrev CMP_STAT_STATE : Fld := ⟨.CMP_STAT, 0, 2⟩
/-- CMP_SRCCFG STEP_MS: bits 31:24. -/
abbrev CMP_SRCCFG_STEP_MS : Fld := ⟨.CMP_SRCCFG, 24, 8⟩
/-- CMP_SRCCFG QUAL_S: bits 23:16. -/
abbrev CMP_SRCCFG_QUAL_S : Fld := ⟨.CMP_SRCCFG, 16, 8⟩
/-- CMP_SRCCFG PRIO3: bits 14:12. -/
abbrev CMP_SRCCFG_PRIO3 : Fld := ⟨.CMP_SRCCFG, 12, 3⟩
/-- CMP_SRCCFG PRIO2: bits 10:8. -/
abbrev CMP_SRCCFG_PRIO2 : Fld := ⟨.CMP_SRCCFG, 8, 3⟩
/-- CMP_SRCCFG PRIO1: bits 6:4. -/
abbrev CMP_SRCCFG_PRIO1 : Fld := ⟨.CMP_SRCCFG, 4, 3⟩
/-- CMP_SRCCFG PRIO0: bits 2:0. -/
abbrev CMP_SRCCFG_PRIO0 : Fld := ⟨.CMP_SRCCFG, 0, 3⟩
/-- CMP_OFFSET VALUE: bits 31:0. -/
abbrev CMP_OFFSET_VALUE : Fld := ⟨.CMP_OFFSET, 0, 32⟩
/-- CMP_HOLDEST VALUE: bits 31:0. -/
abbrev CMP_HOLDEST_VALUE : Fld := ⟨.CMP_HOLDEST, 0, 32⟩
/-- CMP_HOLD LIMIT_US: bits 15:0. -/
abbrev CMP_HOLD_LIMIT_US : Fld := ⟨.CMP_HOLD, 0, 16⟩
/-- CMP_SETLO SEC_LO: bits 31:0. -/
abbrev CMP_SETLO_SEC_LO : Fld := ⟨.CMP_SETLO, 0, 32⟩
/-- CMP_SETHI STEP: bits 31:31. -/
abbrev CMP_SETHI_STEP : Fld := ⟨.CMP_SETHI, 31, 1⟩
/-- CMP_SETHI PPS: bits 30:30. -/
abbrev CMP_SETHI_PPS : Fld := ⟨.CMP_SETHI, 30, 1⟩
/-- CMP_SETHI RESULT: bits 25:24. -/
abbrev CMP_SETHI_RESULT : Fld := ⟨.CMP_SETHI, 24, 2⟩
/-- CMP_SETHI SEC_HI: bits 15:0. -/
abbrev CMP_SETHI_SEC_HI : Fld := ⟨.CMP_SETHI, 0, 16⟩
/-- CMP_PPSOUT EN: bits 31:31. -/
abbrev CMP_PPSOUT_EN : Fld := ⟨.CMP_PPSOUT, 31, 1⟩
/-- CMP_PPSOUT WIDTH: bits 7:0. -/
abbrev CMP_PPSOUT_WIDTH : Fld := ⟨.CMP_PPSOUT, 0, 8⟩
/-- CMP_UTC TAI_UTC: bits 15:0. -/
abbrev CMP_UTC_TAI_UTC : Fld := ⟨.CMP_UTC, 0, 16⟩
/-- CMP_ZCSEL FG: bits 2:0. -/
abbrev CMP_ZCSEL_FG : Fld := ⟨.CMP_ZCSEL, 0, 3⟩
/-- CMP_ZCT_S VALUE: bits 31:0. -/
abbrev CMP_ZCT_S_VALUE : Fld := ⟨.CMP_ZCT_S, 0, 32⟩
/-- CMP_ZCT_NS VALUE: bits 31:0. -/
abbrev CMP_ZCT_NS_VALUE : Fld := ⟨.CMP_ZCT_NS, 0, 32⟩
/-- SEC_STAT BUSY: bits 31:31. -/
abbrev SEC_STAT_BUSY : Fld := ⟨.SEC_STAT, 31, 1⟩
/-- SEC_STAT STAGED: bits 30:30. -/
abbrev SEC_STAT_STAGED : Fld := ⟨.SEC_STAT, 30, 1⟩
/-- SEC_STAT BANK: bits 29:29. -/
abbrev SEC_STAT_BANK : Fld := ⟨.SEC_STAT, 29, 1⟩
/-- SEC_STAT KEK: bits 28:28. -/
abbrev SEC_STAT_KEK : Fld := ⟨.SEC_STAT, 28, 1⟩
/-- SEC_STAT REVOKED: bits 27:24. -/
abbrev SEC_STAT_REVOKED : Fld := ⟨.SEC_STAT, 24, 4⟩
/-- SEC_STAT ACTIVE: bits 23:20. -/
abbrev SEC_STAT_ACTIVE : Fld := ⟨.SEC_STAT, 20, 4⟩
/-- SEC_STAT LEVEL: bits 9:8. -/
abbrev SEC_STAT_LEVEL : Fld := ⟨.SEC_STAT, 8, 2⟩
/-- SEC_STAT LC: bits 2:0. -/
abbrev SEC_STAT_LC : Fld := ⟨.SEC_STAT, 0, 3⟩
/-- SEC_CMD GO: bits 31:31. -/
abbrev SEC_CMD_GO : Fld := ⟨.SEC_CMD, 31, 1⟩
/-- SEC_CMD RESULT: bits 23:16. -/
abbrev SEC_CMD_RESULT : Fld := ⟨.SEC_CMD, 16, 8⟩
/-- SEC_CMD OP: bits 7:0. -/
abbrev SEC_CMD_OP : Fld := ⟨.SEC_CMD, 0, 8⟩
/-- SEC_XFER_LEN BYTES: bits 16:0. -/
abbrev SEC_XFER_LEN_BYTES : Fld := ⟨.SEC_XFER_LEN, 0, 17⟩
/-- SEC_NONCE BYTES: bits 31:0. -/
abbrev SEC_NONCE_BYTES : Fld := ⟨.SEC_NONCE, 0, 32⟩
/-- SEC_RBSEL VALUE: bits 31:0. -/
abbrev SEC_RBSEL_VALUE : Fld := ⟨.SEC_RBSEL, 0, 32⟩
/-- SEC_RB VALUE: bits 31:0. -/
abbrev SEC_RB_VALUE : Fld := ⟨.SEC_RB, 0, 32⟩
/-- SEC_TAMPCFG IN0: bits 3:0. -/
abbrev SEC_TAMPCFG_IN0 : Fld := ⟨.SEC_TAMPCFG, 0, 4⟩
/-- SEC_TAMPCFG IN1: bits 7:4. -/
abbrev SEC_TAMPCFG_IN1 : Fld := ⟨.SEC_TAMPCFG, 4, 4⟩
/-- SEC_TAMPCFG IN2: bits 11:8. -/
abbrev SEC_TAMPCFG_IN2 : Fld := ⟨.SEC_TAMPCFG, 8, 4⟩
/-- SEC_TAMPCFG IN3: bits 15:12. -/
abbrev SEC_TAMPCFG_IN3 : Fld := ⟨.SEC_TAMPCFG, 12, 4⟩
/-- SEC_TAMPSTAT ACTIVE: bits 11:8. -/
abbrev SEC_TAMPSTAT_ACTIVE : Fld := ⟨.SEC_TAMPSTAT, 8, 4⟩
/-- SEC_TAMPSTAT LATCHED: bits 3:0. -/
abbrev SEC_TAMPSTAT_LATCHED : Fld := ⟨.SEC_TAMPSTAT, 0, 4⟩
/-- SEC_TAMPT VALUE: bits 31:0. -/
abbrev SEC_TAMPT_VALUE : Fld := ⟨.SEC_TAMPT, 0, 32⟩
/-- SEC_SCVER VALUE: bits 31:0. -/
abbrev SEC_SCVER_VALUE : Fld := ⟨.SEC_SCVER, 0, 32⟩
/-- DBG_LEVEL REFUSED: bits 17:17. -/
abbrev DBG_LEVEL_REFUSED : Fld := ⟨.DBG_LEVEL, 17, 1⟩
/-- DBG_LEVEL UNLOCKED: bits 16:16. -/
abbrev DBG_LEVEL_UNLOCKED : Fld := ⟨.DBG_LEVEL, 16, 1⟩
/-- DBG_LEVEL INFORCE: bits 9:8. -/
abbrev DBG_LEVEL_INFORCE : Fld := ⟨.DBG_LEVEL, 8, 2⟩
/-- DBG_LEVEL REQ: bits 1:0. -/
abbrev DBG_LEVEL_REQ : Fld := ⟨.DBG_LEVEL, 0, 2⟩
/-- DBG_ENGSEL CTX: bits 9:8. -/
abbrev DBG_ENGSEL_CTX : Fld := ⟨.DBG_ENGSEL, 8, 2⟩
/-- DBG_ENGSEL ENG: bits 6:0. -/
abbrev DBG_ENGSEL_ENG : Fld := ⟨.DBG_ENGSEL, 0, 7⟩
/-- DBG_ENGCTL GO: bits 31:31. -/
abbrev DBG_ENGCTL_GO : Fld := ⟨.DBG_ENGCTL, 31, 1⟩
/-- DBG_ENGCTL RESULT: bits 9:8. -/
abbrev DBG_ENGCTL_RESULT : Fld := ⟨.DBG_ENGCTL, 8, 2⟩
/-- DBG_ENGCTL OP: bits 2:0. -/
abbrev DBG_ENGCTL_OP : Fld := ⟨.DBG_ENGCTL, 0, 3⟩
/-- DBG_ENGPC OFS: bits 31:0. -/
abbrev DBG_ENGPC_OFS : Fld := ⟨.DBG_ENGPC, 0, 32⟩
/-- DBG_TRACE VALUE: bits 31:0. -/
abbrev DBG_TRACE_VALUE : Fld := ⟨.DBG_TRACE, 0, 32⟩
/-- DBG_TRACEH VALUE: bits 31:0. -/
abbrev DBG_TRACEH_VALUE : Fld := ⟨.DBG_TRACEH, 0, 32⟩
/-- REL_CFG TRANS_MAX: bits 23:16. -/
abbrev REL_CFG_TRANS_MAX : Fld := ⟨.REL_CFG, 16, 8⟩
/-- REL_CFG CLEAR_S: bits 15:8. -/
abbrev REL_CFG_CLEAR_S : Fld := ⟨.REL_CFG, 8, 8⟩
/-- REL_CFG CE_WIN: bits 7:0. -/
abbrev REL_CFG_CE_WIN : Fld := ⟨.REL_CFG, 0, 8⟩
/-- REL_STAT ENV: bits 31:31. -/
abbrev REL_STAT_ENV : Fld := ⟨.REL_STAT, 31, 1⟩
/-- REL_STAT MINSET: bits 30:30. -/
abbrev REL_STAT_MINSET : Fld := ⟨.REL_STAT, 30, 1⟩
/-- REL_STAT BELOW_MIN: bits 29:29. -/
abbrev REL_STAT_BELOW_MIN : Fld := ⟨.REL_STAT, 29, 1⟩
/-- REL_STAT QUEUED: bits 23:16. -/
abbrev REL_STAT_QUEUED : Fld := ⟨.REL_STAT, 16, 8⟩
/-- REL_STAT RUNNING: bits 11:8. -/
abbrev REL_STAT_RUNNING : Fld := ⟨.REL_STAT, 8, 4⟩
/-- REL_STAT QFULL: bits 3:3. -/
abbrev REL_STAT_QFULL : Fld := ⟨.REL_STAT, 3, 1⟩
/-- REL_STAT FLAKY: bits 2:2. -/
abbrev REL_STAT_FLAKY : Fld := ⟨.REL_STAT, 2, 1⟩
/-- REL_STAT RETIRED_EV: bits 1:1. -/
abbrev REL_STAT_RETIRED_EV : Fld := ⟨.REL_STAT, 1, 1⟩
/-- REL_STAT ENV_EV: bits 0:0. -/
abbrev REL_STAT_ENV_EV : Fld := ⟨.REL_STAT, 0, 1⟩
/-- REL_DETSEL DET: bits 4:0. -/
abbrev REL_DETSEL_DET : Fld := ⟨.REL_DETSEL, 0, 5⟩
/-- REL_DETCNT COUNT: bits 31:0. -/
abbrev REL_DETCNT_COUNT : Fld := ⟨.REL_DETCNT, 0, 32⟩
/-- REL_DETINJ COUNT: bits 31:0. -/
abbrev REL_DETINJ_COUNT : Fld := ⟨.REL_DETINJ, 0, 32⟩
/-- REL_UNITSEL KIND: bits 10:8. -/
abbrev REL_UNITSEL_KIND : Fld := ⟨.REL_UNITSEL, 8, 3⟩
/-- REL_UNITSEL INSTANCE: bits 7:0. -/
abbrev REL_UNITSEL_INSTANCE : Fld := ⟨.REL_UNITSEL, 0, 8⟩
/-- REL_UNIT STATE: bits 31:29. -/
abbrev REL_UNIT_STATE : Fld := ⟨.REL_UNIT, 29, 3⟩
/-- REL_UNIT CAUSE: bits 28:24. -/
abbrev REL_UNIT_CAUSE : Fld := ⟨.REL_UNIT, 24, 5⟩
/-- REL_UNIT TRANS24: bits 23:16. -/
abbrev REL_UNIT_TRANS24 : Fld := ⟨.REL_UNIT, 16, 8⟩
/-- REL_UNIT TRANS: bits 15:0. -/
abbrev REL_UNIT_TRANS : Fld := ⟨.REL_UNIT, 0, 16⟩
/-- REL_INJ GO: bits 31:31. -/
abbrev REL_INJ_GO : Fld := ⟨.REL_INJ, 31, 1⟩
/-- REL_INJ RESULT: bits 29:28. -/
abbrev REL_INJ_RESULT : Fld := ⟨.REL_INJ, 28, 2⟩
/-- REL_INJ CLASS: bits 25:24. -/
abbrev REL_INJ_CLASS : Fld := ⟨.REL_INJ, 24, 2⟩
/-- REL_INJ DET: bits 20:16. -/
abbrev REL_INJ_DET : Fld := ⟨.REL_INJ, 16, 5⟩
/-- REL_INJ KIND: bits 10:8. -/
abbrev REL_INJ_KIND : Fld := ⟨.REL_INJ, 8, 3⟩
/-- REL_INJ INSTANCE: bits 7:0. -/
abbrev REL_INJ_INSTANCE : Fld := ⟨.REL_INJ, 0, 8⟩
/-- REL_CMD GO: bits 31:31. -/
abbrev REL_CMD_GO : Fld := ⟨.REL_CMD, 31, 1⟩
/-- REL_CMD RESULT: bits 9:8. -/
abbrev REL_CMD_RESULT : Fld := ⟨.REL_CMD, 8, 2⟩
/-- REL_CMD OP: bits 2:0. -/
abbrev REL_CMD_OP : Fld := ⟨.REL_CMD, 0, 3⟩
/-- REL_TEMP SENSOR: bits 20:16. -/
abbrev REL_TEMP_SENSOR : Fld := ⟨.REL_TEMP, 16, 5⟩
/-- REL_TEMP TJ: bits 15:0. -/
abbrev REL_TEMP_TJ : Fld := ⟨.REL_TEMP, 0, 16⟩
/-- REL_RETCNT COUNT: bits 31:0. -/
abbrev REL_RETCNT_COUNT : Fld := ⟨.REL_RETCNT, 0, 32⟩
/-- BED_CFG REFRESH_D: bits 31:16. -/
abbrev BED_CFG_REFRESH_D : Fld := ⟨.BED_CFG, 16, 16⟩
/-- BED_CFG FREE_MIN: bits 6:0. -/
abbrev BED_CFG_FREE_MIN : Fld := ⟨.BED_CFG, 0, 7⟩
/-- BED_STAT COMPACT: bits 31:31. -/
abbrev BED_STAT_COMPACT : Fld := ⟨.BED_STAT, 31, 1⟩
/-- BED_STAT HOLD: bits 30:30. -/
abbrev BED_STAT_HOLD : Fld := ⟨.BED_STAT, 30, 1⟩
/-- BED_STAT WAITING: bits 15:8. -/
abbrev BED_STAT_WAITING : Fld := ⟨.BED_STAT, 8, 8⟩
/-- BED_STAT BADSEG: bits 2:2. -/
abbrev BED_STAT_BADSEG : Fld := ⟨.BED_STAT, 2, 1⟩
/-- BED_STAT LOST: bits 1:1. -/
abbrev BED_STAT_LOST : Fld := ⟨.BED_STAT, 1, 1⟩
/-- BED_STAT REFUSED: bits 0:0. -/
abbrev BED_STAT_REFUSED : Fld := ⟨.BED_STAT, 0, 1⟩
/-- BED_SEGS BAD: bits 29:16. -/
abbrev BED_SEGS_BAD : Fld := ⟨.BED_SEGS, 16, 14⟩
/-- BED_SEGS FREE: bits 13:0. -/
abbrev BED_SEGS_FREE : Fld := ⟨.BED_SEGS, 0, 14⟩
/-- BED_WEAR MAXERASE: bits 19:0. -/
abbrev BED_WEAR_MAXERASE : Fld := ⟨.BED_WEAR, 0, 20⟩
/-- BED_RATE KBPM: bits 15:0. -/
abbrev BED_RATE_KBPM : Fld := ⟨.BED_RATE, 0, 16⟩
/-- BED_CMD GO: bits 31:31. -/
abbrev BED_CMD_GO : Fld := ⟨.BED_CMD, 31, 1⟩
/-- BED_CMD RESULT: bits 9:8. -/
abbrev BED_CMD_RESULT : Fld := ⟨.BED_CMD, 8, 2⟩
/-- BED_CMD OP: bits 2:0. -/
abbrev BED_CMD_OP : Fld := ⟨.BED_CMD, 0, 3⟩
/-- HST_STAT RETBAD: bits 4:4. -/
abbrev HST_STAT_RETBAD : Fld := ⟨.HST_STAT, 4, 1⟩
/-- HST_STAT RETFULL: bits 3:3. -/
abbrev HST_STAT_RETFULL : Fld := ⟨.HST_STAT, 3, 1⟩
/-- HST_STAT EVLOST: bits 2:2. -/
abbrev HST_STAT_EVLOST : Fld := ⟨.HST_STAT, 2, 1⟩
/-- HST_STAT BOOTSRV: bits 1:1. -/
abbrev HST_STAT_BOOTSRV : Fld := ⟨.HST_STAT, 1, 1⟩
/-- HST_STAT READY: bits 0:0. -/
abbrev HST_STAT_READY : Fld := ⟨.HST_STAT, 0, 1⟩
/-- HST_EVTQ PAIR: bits 5:0. -/
abbrev HST_EVTQ_PAIR : Fld := ⟨.HST_EVTQ, 0, 6⟩
/-- HST_FBDRET VALUE: bits 31:0. -/
abbrev HST_FBDRET_VALUE : Fld := ⟨.HST_FBDRET, 0, 32⟩
/-- HST_EVLOST VALUE: bits 31:0. -/
abbrev HST_EVLOST_VALUE : Fld := ⟨.HST_EVLOST, 0, 32⟩
/-- HST_FBH VALUE: bits 31:0. -/
abbrev HST_FBH_VALUE : Fld := ⟨.HST_FBH, 0, 32⟩
/-- HST_SCRH VALUE: bits 31:0. -/
abbrev HST_SCRH_VALUE : Fld := ⟨.HST_SCRH, 0, 32⟩
/-- HST_IRQCFG IRQ1: bits 12:8. -/
abbrev HST_IRQCFG_IRQ1 : Fld := ⟨.HST_IRQCFG, 8, 5⟩
/-- HST_IRQCFG IRQ0: bits 4:0. -/
abbrev HST_IRQCFG_IRQ0 : Fld := ⟨.HST_IRQCFG, 0, 5⟩
/-- HST_QCFG EN: bits 31:31. -/
abbrev HST_QCFG_EN : Fld := ⟨.HST_QCFG, 31, 1⟩
/-- HST_QCFG BUSY: bits 30:30. -/
abbrev HST_QCFG_BUSY : Fld := ⟨.HST_QCFG, 30, 1⟩
/-- HST_QCFG VEC: bits 23:16. -/
abbrev HST_QCFG_VEC : Fld := ⟨.HST_QCFG, 16, 8⟩
/-- HST_QCFG COAL: bits 15:12. -/
abbrev HST_QCFG_COAL : Fld := ⟨.HST_QCFG, 12, 4⟩
/-- HST_QCFG CQSZ: bits 7:4. -/
abbrev HST_QCFG_CQSZ : Fld := ⟨.HST_QCFG, 4, 4⟩
/-- HST_QCFG SQSZ: bits 3:0. -/
abbrev HST_QCFG_SQSZ : Fld := ⟨.HST_QCFG, 0, 4⟩
/-- HST_SQB_LO VALUE: bits 31:0. -/
abbrev HST_SQB_LO_VALUE : Fld := ⟨.HST_SQB_LO, 0, 32⟩
/-- HST_SQB_HI VALUE: bits 31:0. -/
abbrev HST_SQB_HI_VALUE : Fld := ⟨.HST_SQB_HI, 0, 32⟩
/-- HST_CQB_LO VALUE: bits 31:0. -/
abbrev HST_CQB_LO_VALUE : Fld := ⟨.HST_CQB_LO, 0, 32⟩
/-- HST_CQB_HI VALUE: bits 31:0. -/
abbrev HST_CQB_HI_VALUE : Fld := ⟨.HST_CQB_HI, 0, 32⟩
/-- HST_SQT VALUE: bits 31:0. -/
abbrev HST_SQT_VALUE : Fld := ⟨.HST_SQT, 0, 32⟩
/-- HST_CQH VALUE: bits 31:0. -/
abbrev HST_CQH_VALUE : Fld := ⟨.HST_CQH, 0, 32⟩
/-- HST_WINH VALUE: bits 31:0. -/
abbrev HST_WINH_VALUE : Fld := ⟨.HST_WINH, 0, 32⟩
/-- HST_WINO VALUE: bits 31:0. -/
abbrev HST_WINO_VALUE : Fld := ⟨.HST_WINO, 0, 32⟩
/-- HST_WINC VALUE: bits 31:0. -/
abbrev HST_WINC_VALUE : Fld := ⟨.HST_WINC, 0, 32⟩
/-- ETH_CFG DOMAIN: bits 15:8. -/
abbrev ETH_CFG_DOMAIN : Fld := ⟨.ETH_CFG, 8, 8⟩
/-- ETH_CFG EVT: bits 7:7. -/
abbrev ETH_CFG_EVT : Fld := ⟨.ETH_CFG, 7, 1⟩
/-- ETH_CFG UPL: bits 6:6. -/
abbrev ETH_CFG_UPL : Fld := ⟨.ETH_CFG, 6, 1⟩
/-- ETH_CFG HE: bits 5:5. -/
abbrev ETH_CFG_HE : Fld := ⟨.ETH_CFG, 5, 1⟩
/-- ETH_CFG DELAY: bits 4:4. -/
abbrev ETH_CFG_DELAY : Fld := ⟨.ETH_CFG, 4, 1⟩
/-- ETH_CFG PTPT: bits 3:2. -/
abbrev ETH_CFG_PTPT : Fld := ⟨.ETH_CFG, 2, 2⟩
/-- ETH_CFG PTP: bits 1:1. -/
abbrev ETH_CFG_PTP : Fld := ⟨.ETH_CFG, 1, 1⟩
/-- ETH_CFG EN: bits 0:0. -/
abbrev ETH_CFG_EN : Fld := ⟨.ETH_CFG, 0, 1⟩
/-- ETH_IP VALUE: bits 31:0. -/
abbrev ETH_IP_VALUE : Fld := ⟨.ETH_IP, 0, 32⟩
/-- ETH_HEIP VALUE: bits 31:0. -/
abbrev ETH_HEIP_VALUE : Fld := ⟨.ETH_HEIP, 0, 32⟩
/-- ETH_UDP VALUE: bits 31:0. -/
abbrev ETH_UDP_VALUE : Fld := ⟨.ETH_UDP, 0, 32⟩
/-- ETH_MAC_LO VALUE: bits 31:0. -/
abbrev ETH_MAC_LO_VALUE : Fld := ⟨.ETH_MAC_LO, 0, 32⟩
/-- ETH_MAC_HI VALUE: bits 31:0. -/
abbrev ETH_MAC_HI_VALUE : Fld := ⟨.ETH_MAC_HI, 0, 32⟩
/-- ETH_DROP VALUE: bits 31:0. -/
abbrev ETH_DROP_VALUE : Fld := ⟨.ETH_DROP, 0, 32⟩
/-- ETH_STAT PTPQ: bits 1:1. -/
abbrev ETH_STAT_PTPQ : Fld := ⟨.ETH_STAT, 1, 1⟩
/-- ETH_STAT LINK: bits 0:0. -/
abbrev ETH_STAT_LINK : Fld := ⟨.ETH_STAT, 0, 1⟩
/-- TP_CFG SLOWRATE: bits 25:24. -/
abbrev TP_CFG_SLOWRATE : Fld := ⟨.TP_CFG, 24, 2⟩
/-- TP_CFG BRK_HOLD: bits 23:16. -/
abbrev TP_CFG_BRK_HOLD : Fld := ⟨.TP_CFG, 16, 8⟩
/-- TP_CFG STRIP: bits 15:15. -/
abbrev TP_CFG_STRIP : Fld := ⟨.TP_CFG, 15, 1⟩
/-- TP_CFG FLOW: bits 14:14. -/
abbrev TP_CFG_FLOW : Fld := ⟨.TP_CFG, 14, 1⟩
/-- TP_CFG CLKRUN: bits 13:13. -/
abbrev TP_CFG_CLKRUN : Fld := ⟨.TP_CFG, 13, 1⟩
/-- TP_CFG CPOL: bits 12:12. -/
abbrev TP_CFG_CPOL : Fld := ⟨.TP_CFG, 12, 1⟩
/-- TP_CFG STOP: bits 11:11. -/
abbrev TP_CFG_STOP : Fld := ⟨.TP_CFG, 11, 1⟩
/-- TP_CFG PARITY: bits 10:8. -/
abbrev TP_CFG_PARITY : Fld := ⟨.TP_CFG, 8, 3⟩
/-- TP_CFG DBITS: bits 7:6. -/
abbrev TP_CFG_DBITS : Fld := ⟨.TP_CFG, 6, 2⟩
/-- TP_CFG MODE: bits 5:4. -/
abbrev TP_CFG_MODE : Fld := ⟨.TP_CFG, 4, 2⟩
/-- TP_CFG OVS: bits 3:2. -/
abbrev TP_CFG_OVS : Fld := ⟨.TP_CFG, 2, 2⟩
/-- TP_CFG SLOW: bits 1:1. -/
abbrev TP_CFG_SLOW : Fld := ⟨.TP_CFG, 1, 1⟩
/-- TP_CFG EN: bits 0:0. -/
abbrev TP_CFG_EN : Fld := ⟨.TP_CFG, 0, 1⟩
/-- TP_BAUD DIV: bits 31:16. -/
abbrev TP_BAUD_DIV : Fld := ⟨.TP_BAUD, 16, 16⟩
/-- TP_BAUD FRAC: bits 15:8. -/
abbrev TP_BAUD_FRAC : Fld := ⟨.TP_BAUD, 8, 8⟩
/-- TP_ADDR KEEPADDR: bits 18:18. -/
abbrev TP_ADDR_KEEPADDR : Fld := ⟨.TP_ADDR, 18, 1⟩
/-- TP_ADDR MATCH_EN: bits 17:17. -/
abbrev TP_ADDR_MATCH_EN : Fld := ⟨.TP_ADDR, 17, 1⟩
/-- TP_ADDR MUTE: bits 16:16. -/
abbrev TP_ADDR_MUTE : Fld := ⟨.TP_ADDR, 16, 1⟩
/-- TP_ADDR MASK: bits 15:8. -/
abbrev TP_ADDR_MASK : Fld := ⟨.TP_ADDR, 8, 8⟩
/-- TP_ADDR ADDR: bits 7:0. -/
abbrev TP_ADDR_ADDR : Fld := ⟨.TP_ADDR, 0, 8⟩
/-- TP_FLOW LO: bits 29:24. -/
abbrev TP_FLOW_LO : Fld := ⟨.TP_FLOW, 24, 6⟩
/-- TP_FLOW HI: bits 21:16. -/
abbrev TP_FLOW_HI : Fld := ⟨.TP_FLOW, 16, 6⟩
/-- TP_FLOW XOFF: bits 15:8. -/
abbrev TP_FLOW_XOFF : Fld := ⟨.TP_FLOW, 8, 8⟩
/-- TP_FLOW XON: bits 7:0. -/
abbrev TP_FLOW_XON : Fld := ⟨.TP_FLOW, 0, 8⟩
/-- TP_TXD ADDR: bits 8:8. -/
abbrev TP_TXD_ADDR : Fld := ⟨.TP_TXD, 8, 1⟩
/-- TP_TXD DATA: bits 7:0. -/
abbrev TP_TXD_DATA : Fld := ⟨.TP_TXD, 0, 8⟩
/-- TP_RXD VALID: bits 31:31. -/
abbrev TP_RXD_VALID : Fld := ⟨.TP_RXD, 31, 1⟩
/-- TP_RXD OVR: bits 13:13. -/
abbrev TP_RXD_OVR : Fld := ⟨.TP_RXD, 13, 1⟩
/-- TP_RXD BRK: bits 12:12. -/
abbrev TP_RXD_BRK : Fld := ⟨.TP_RXD, 12, 1⟩
/-- TP_RXD PE: bits 11:11. -/
abbrev TP_RXD_PE : Fld := ⟨.TP_RXD, 11, 1⟩
/-- TP_RXD FE: bits 10:10. -/
abbrev TP_RXD_FE : Fld := ⟨.TP_RXD, 10, 1⟩
/-- TP_RXD ADDR: bits 8:8. -/
abbrev TP_RXD_ADDR : Fld := ⟨.TP_RXD, 8, 1⟩
/-- TP_RXD DATA: bits 7:0. -/
abbrev TP_RXD_DATA : Fld := ⟨.TP_RXD, 0, 8⟩
/-- TP_STAT MATCH: bits 28:28. -/
abbrev TP_STAT_MATCH : Fld := ⟨.TP_STAT, 28, 1⟩
/-- TP_STAT HELD_EV: bits 27:27. -/
abbrev TP_STAT_HELD_EV : Fld := ⟨.TP_STAT, 27, 1⟩
/-- TP_STAT BRK: bits 26:26. -/
abbrev TP_STAT_BRK : Fld := ⟨.TP_STAT, 26, 1⟩
/-- TP_STAT TXOVF: bits 25:25. -/
abbrev TP_STAT_TXOVF : Fld := ⟨.TP_STAT, 25, 1⟩
/-- TP_STAT OVR: bits 24:24. -/
abbrev TP_STAT_OVR : Fld := ⟨.TP_STAT, 24, 1⟩
/-- TP_STAT LINE: bits 19:19. -/
abbrev TP_STAT_LINE : Fld := ⟨.TP_STAT, 19, 1⟩
/-- TP_STAT HELD: bits 18:18. -/
abbrev TP_STAT_HELD : Fld := ⟨.TP_STAT, 18, 1⟩
/-- TP_STAT TXOFF: bits 17:17. -/
abbrev TP_STAT_TXOFF : Fld := ⟨.TP_STAT, 17, 1⟩
/-- TP_STAT MUTED: bits 16:16. -/
abbrev TP_STAT_MUTED : Fld := ⟨.TP_STAT, 16, 1⟩
/-- TP_STAT TXLVL: bits 14:8. -/
abbrev TP_STAT_TXLVL : Fld := ⟨.TP_STAT, 8, 7⟩
/-- TP_STAT RXLVL: bits 6:0. -/
abbrev TP_STAT_RXLVL : Fld := ⟨.TP_STAT, 0, 7⟩
/-- TP_CMD RESUME: bits 3:3. -/
abbrev TP_CMD_RESUME : Fld := ⟨.TP_CMD, 3, 1⟩
/-- TP_CMD BREAK: bits 2:2. -/
abbrev TP_CMD_BREAK : Fld := ⟨.TP_CMD, 2, 1⟩
/-- TP_CMD RXFLUSH: bits 1:1. -/
abbrev TP_CMD_RXFLUSH : Fld := ⟨.TP_CMD, 1, 1⟩
/-- TP_CMD TXFLUSH: bits 0:0. -/
abbrev TP_CMD_TXFLUSH : Fld := ⟨.TP_CMD, 0, 1⟩
/-- TP_OVRCNT COUNT: bits 31:0. -/
abbrev TP_OVRCNT_COUNT : Fld := ⟨.TP_OVRCNT, 0, 32⟩
/-- CHK_CFG REFOUT: bits 9:9. -/
abbrev CHK_CFG_REFOUT : Fld := ⟨.CHK_CFG, 9, 1⟩
/-- CHK_CFG REFIN: bits 8:8. -/
abbrev CHK_CFG_REFIN : Fld := ⟨.CHK_CFG, 8, 1⟩
/-- CHK_CFG WIDTH: bits 6:0. -/
abbrev CHK_CFG_WIDTH : Fld := ⟨.CHK_CFG, 0, 7⟩
/-- CHK_POLY_LO VALUE: bits 31:0. -/
abbrev CHK_POLY_LO_VALUE : Fld := ⟨.CHK_POLY_LO, 0, 32⟩
/-- CHK_POLY_HI VALUE: bits 31:0. -/
abbrev CHK_POLY_HI_VALUE : Fld := ⟨.CHK_POLY_HI, 0, 32⟩
/-- CHK_INIT_LO VALUE: bits 31:0. -/
abbrev CHK_INIT_LO_VALUE : Fld := ⟨.CHK_INIT_LO, 0, 32⟩
/-- CHK_INIT_HI VALUE: bits 31:0. -/
abbrev CHK_INIT_HI_VALUE : Fld := ⟨.CHK_INIT_HI, 0, 32⟩
/-- CHK_XOR_LO VALUE: bits 31:0. -/
abbrev CHK_XOR_LO_VALUE : Fld := ⟨.CHK_XOR_LO, 0, 32⟩
/-- CHK_XOR_HI VALUE: bits 31:0. -/
abbrev CHK_XOR_HI_VALUE : Fld := ⟨.CHK_XOR_HI, 0, 32⟩
/-- CHK_STATE_LO VALUE: bits 31:0. -/
abbrev CHK_STATE_LO_VALUE : Fld := ⟨.CHK_STATE_LO, 0, 32⟩
/-- CHK_STATE_HI VALUE: bits 31:0. -/
abbrev CHK_STATE_HI_VALUE : Fld := ⟨.CHK_STATE_HI, 0, 32⟩
/-- CHK_RESULT_LO VALUE: bits 31:0. -/
abbrev CHK_RESULT_LO_VALUE : Fld := ⟨.CHK_RESULT_LO, 0, 32⟩
/-- CHK_RESULT_HI VALUE: bits 31:0. -/
abbrev CHK_RESULT_HI_VALUE : Fld := ⟨.CHK_RESULT_HI, 0, 32⟩
/-- CHK_DATA8 DATA: bits 31:0. -/
abbrev CHK_DATA8_DATA : Fld := ⟨.CHK_DATA8, 0, 32⟩
/-- CHK_DATA16 DATA: bits 31:0. -/
abbrev CHK_DATA16_DATA : Fld := ⟨.CHK_DATA16, 0, 32⟩
/-- CHK_DATA32 DATA: bits 31:0. -/
abbrev CHK_DATA32_DATA : Fld := ⟨.CHK_DATA32, 0, 32⟩
/-- CHK_CMD INIT: bits 0:0. -/
abbrev CHK_CMD_INIT : Fld := ⟨.CHK_CMD, 0, 1⟩
/-- CHK_STAT SCERR: bits 1:1. -/
abbrev CHK_STAT_SCERR : Fld := ⟨.CHK_STAT, 1, 1⟩
/-- CHK_STAT BUSY: bits 0:0. -/
abbrev CHK_STAT_BUSY : Fld := ⟨.CHK_STAT, 0, 1⟩
/-- CHK_HOSTMASK HOST: bits 15:0. -/
abbrev CHK_HOSTMASK_HOST : Fld := ⟨.CHK_HOSTMASK, 0, 16⟩

end F

end Sys2Proof
end

