-- ==== Sys2Proof/Parts/Clock.lean ====
section
/-! DEFINITION. Compass (chapter 16). -/

namespace Sys2Proof

/-- The states of Compass (*Compass states*). -/
inductive CmpState where
  | freerun | acquiring | locked | holdover
  deriving DecidableEq, Repr, Inhabited

/-- Compass (R430 to R446). `sec`, `ns`, `sub` are the counter: 48 bits of seconds, nanoseconds, and a 16-bit fraction of
one. `qualified` is by source code 1 to 4; `offsetNs` is the last measured offset, `e0` and `eSince` give E in holdover and
free-run (R442), both in ns of the counter; a pending step is by a number of ns or to a whole second; `framSec` is the ferroelectric RAM's copy; `zct` are the stamps of the trackers' phase-0 instants (log entry 20);
`valid` is when the valid measurements of a source began, in ns of the counter (R433). -/
structure Compass where
  running : Bool := true
  sec : Nat := 0
  ns : Nat := 0
  sub : Nat := 0
  state : CmpState := .freerun
  src : Nat := 0
  timeSet : Bool := false
  qualified : Tab Bool := []
  offsetNs : Int := 0
  e0 : Nat := 0
  eSince : Nat := 0
  overLimit : Bool := false
  hasParent : Bool := false
  parentHold : Bool := false
  parentE : Nat := 0
  parentLine : Bool := false
  stepBy : Option Nat := none
  stepTo : Option Nat := none
  ppsSet : Option Nat := none
  ppsDated : Bool := false
  framSec : Nat := 0
  zct : Tab Stamp := []
  valid : Tab (Option Nat) := []
  deriving DecidableEq, Repr

end Sys2Proof
end

