-- ==== Sys2Proof/Parts/Feeder.lean ====
section
/-! DEFINITION. Feeder mapping (chapter 10): findings and their evidence, sweeps, ranging, energy balance. -/

namespace Sys2Proof

/-- A baseline of a port (R304): by bin the sums of the real and imaginary parts and of the squared magnitudes over 16 sweeps. -/
structure Baseline where
  sums : List (Int × Int) := []
  squares : List Int := []
  deriving DecidableEq, Repr, Inhabited

/-- A feature of a port (R305): first bin, level, kind, sweeps in a row with and without it, and whether it was posted. -/
structure Feature where
  bin : Nat
  level : Nat
  kind : Nat
  seen : Nat := 1
  absent : Nat := 0
  posted : Bool := false
  deriving DecidableEq, Repr

/-- One ranging exchange (R309, R310): request times and starts, the acknowledgement's line time and ε in 10⁻⁹, and TURN. -/
structure Exchange where
  rid : Nat
  begun : Nat
  req : Option Stamp := none
  ack : Option (Stamp × Int) := none
  turn : Option Nat := none
  deriving DecidableEq, Repr

/-- A ranging set: the node, exchanges still to start, in progress, and complete with 2τ in 10⁻⁹ ns and TURN scaled out. -/
structure RangeSet where
  saddr : Nat
  left : Nat := 16
  open_ : List Exchange := []
  done : List (Exchange × Int) := []
  deriving DecidableEq, Repr

/-- A dwell of a balance point: the mean of v × i over its samples, as a sum and a count (R311). -/
structure Dwell where
  sum : Int
  n : Nat
  deriving DecidableEq, Repr

/-- A balance record (R313), in mWh: feeder energy and its uncertainty, dwells × DWELL cycles measured and
the cycles of the interval (their quotient is the coverage), the meter sum. -/
structure BalRecord where
  point : Nat
  feeder : Int
  unc : Int
  coverage : Nat
  meters : Int
  counted : List Nat
  missing : List Nat
  unassigned : List Nat
  cycles : Nat := 0
  deriving DecidableEq, Repr

/-- What evidence holds (*Finding codes*): of an echo the baseline, the confirming profiles, the differential profile (scaled by 16) and the features with their distances in nm. -/
inductive Finding where
  | echo (port : Nat) (base : Baseline) (profiles : List (List (Int × Int))) (diff : List (Int × Int)) (features : List (Feature × Nat))
  | votes (saddr : Nat) (votes : List Nat)
  | group (saddr old new : Nat) (firsts : List Nat)
  | distance (set : RangeSet)
  | balance (r : BalRecord)
  deriving DecidableEq, Repr

/-- Evidence held behind a handle. -/
structure Evid where
  handle : Nat
  code : Nat
  found : Finding
  deriving DecidableEq, Repr

/-- Feeder mapping: evidence oldest first; by port baselines, sweeps collected for a baseline being taken, features, the
beacon number of the last sweep; by group the port that swept last; ranging sets; meter readings by node as (channel, register,
time); the minute of each node's last PHASE_VOTES and the preamble ports of its last 16 OK receptions; by pair of the balance the
point in turn and whether a dwell may start; dwells by point and the last balance record of each; the start of the interval; baseline records in flight; whether
evidence was lost at the last loss of memory; the last three profiles of each port. -/
structure Fm where
  evid : List Evid := []
  baselines : Tab (Option Baseline) := []
  taking : Tab (Option (List (List (Int × Int)))) := []
  features : Tab (List Feature) := []
  swept : Tab Nat := []
  turn : Tab Nat := []
  sets : List RangeSet := []
  nextRid : Nat := 0
  readings : Tab (List (Nat × Nat × Nat)) := []
  posted : Tab Nat := []
  ports : Tab (List Nat) := []
  point : Tab (Option Nat) := []
  dwells : Tab (List Dwell) := []
  records : Tab (Option BalRecord) := []
  began : Stamp := {}
  evLost : Bool := false
  profiles : Tab (List (List (Int × Int))) := []
  spoiled : List Nat := []
  deriving DecidableEq, Repr

end Sys2Proof
end

