-- ==== Sys2Proof/Parts/Grid.lean ====
section
/-! DEFINITION. Grid sense (chapter 11) and calibration (chapter 12). -/

namespace Sys2Proof

/-- A grid-sense channel beyond its registers (R316 to R335): whether it converts; GS_CFG, GS_XPT, the range and the coefficients in
force; what waits for the next boundary (a range, a source change, a reset, new coefficients); samples that still carry SETTLING and
RANGING; consecutive clean samples above 90 % and below the raise threshold; the record index; the last clean VALUE and whether the
latest sample was clean; the second of the last LIMIT record; whether a calibration holds it. -/
structure GsCh where
  on : Bool := false
  cfg : BitVec 32 := 0
  xpt : BitVec 32 := 0
  range : Nat := 0
  coefs : List (BitVec 32) := []
  rangeTo : Option Nat := none
  srcMoved : Bool := false
  reset : Bool := false
  lingo : Bool := false
  settle : Nat := 0
  ranging : Nat := 0
  high : Nat := 0
  low : Nat := 0
  idx : Nat := 0
  lastValue : Option (BitVec 32) := none
  lastClean : Bool := false
  evtSec : Option Nat := none
  cal : Bool := false
  deriving DecidableEq, Repr, Inhabited

/-- What a calibration coefficient is, which decides its tolerance and window (R339). -/
inductive CalKind where
  | vref | tone | offset | gain | isenseOffset | amplitude | phase | gsOffset | gsGain
  deriving DecidableEq, Repr

/-- Where a running calibration stands: measuring, waiting for its commit, or waiting to return its target. -/
inductive CalPhase where
  | measuring | committing | returning
  deriving DecidableEq, Repr

/-- A running calibration: set and target, the REF count at measurement (R337), the candidate coefficients, whether they were
accepted, whether Pitch switched the GS domain on for it. -/
structure CalRun where
  set : Nat
  target : Nat
  phase : CalPhase := .measuring
  refCnt : Nat := 0
  coefs : List Int := []
  accepted : Bool := false
  powered : Bool := false
  deriving DecidableEq, Repr

/-- The coefficients of a target in force: twice the mean of A and B, in the units of the measurement; and the REF count. -/
structure CalSet where
  coefs : List Int
  refCnt : Nat
  deriving DecidableEq, Repr

/-- Calibration: the queue, the run, the sets in force by set × 32 + target (a target not listed holds factory coefficients), and the
nanoseconds of the last commit by set, and its seconds by set × 32 + target. -/
structure Cal where
  queue : List (Nat × Nat) := []
  run : Option CalRun := none
  sets : Tab (Option CalSet) := []
  lastNs : Tab Nat := []
  infoS : Tab Nat := []
  deriving DecidableEq, Repr

end Sys2Proof
end

