-- ==== Sys2Proof/Parts/Hosts.lean ====
section
/-! DEFINITION. The host interfaces (chapter 20): queue pairs, records, the event store, the descriptor return ring,
interrupts, Ethernet. -/

namespace Sys2Proof

/-- A queue pair (R496, R497). `submitted` are commands in host memory up to the tail, not yet fetched; `fetched` are
fetched and not started; `running` are started and not ended; `sqTail` is the slot after the last command the host has added; `phase` is the P of the
next record. -/
structure QPair where
  submitted : List Sqe := []
  fetched : List Sqe := []
  running : List Nat := []
  sqTail : Nat := 0
  cqTail : Nat := 0
  phase : Bool := true
  deriving DecidableEq, Repr, Inhabited

/-- A datagram that left an Ethernet port towards the head-end (R506). -/
structure Datagram where
  port : Nat
  typ : Nat
  gaddr : Nat := 0
  svc : Nat := 0
  dclass : Nat := 0
  ref : Nat := 0
  len : Nat := 0
  record : Option Rec := none
  deriving DecidableEq, Repr

/-- The host interface. `cq` is what the module has written into the completion queues, by pair × 65536 + slot; `msix`
counts how often each vector was raised, `msixTable` holds the words the host wrote into the MSI-X table (log entry 156); `readData` is the value the last register or window read returned. -/
structure Hosts where
  pairs : Tab QPair := []
  comps : List (Nat × Rec) := []
  raised : List Rec := []
  held : List Rec := []
  cq : Tab (Option Rec) := []
  retRing : List Nat := []
  ready : Bool := false
  coalescing : Tab Bool := []
  msix : Tab Nat := []
  msixTable : Tab (BitVec 32) := []
  irq1 : Bool := false
  outbox : List Datagram := []
  readData : BitVec 64 := 0
  deriving DecidableEq, Repr

/-- An Ethernet port: whether the link is up and whether it is draining. -/
structure EthPort where
  link : Bool := false
  draining : Bool := false
  deriving DecidableEq, Repr, Inhabited

end Sys2Proof
end

