-- ==== Sys2Proof/Parts/Lines.lean ====
section
/-! DEFINITION. Line and neutral ports, zero-crossing trackers, look-back rings (chapters 03 and 05). -/

namespace Sys2Proof

/-- A port beyond its registers: the TXPATH in force (R217), whether a calibration or a self-test holds it out of service (R344,
R470), whether a forced disable has stopped it (R94), the samples its staging buffer holds and the factor island 5 interpolates them by
(R24), when its last sample left (R73), and its clipped runs by the second of Compass time they fell in (R82). Inputs 0 to 23 are line
ports, 24 to 31 neutral ports. -/
structure Port where
  path : Nat := 0
  out : Bool := false
  stopped : Bool := false
  staged : Nat := 0
  interp : Nat := 0
  endedAt : Stamp := {}
  runs : Tab Nat := []
  deriving DecidableEq, Repr, Inhabited

/-- A zero-crossing tracker beyond its registers (R87 to R92, R555): whether it has locked since start-up or RST_n, the cycle
count, the slot in force, the phase error still to slew out and the one to step out at the next phase-0 instant (1/65 536
cycle), consecutive cycles with a large error, when holdover began, and its phase-0 instants, newest first, as (ns of Compass short time,
phase the cycle starts at), by which the slot of a past instant is found (R99, R100). -/
structure Tracker where
  everLocked : Bool := false
  cyc : Nat := 0
  slot : Nat := 0
  slew : Int := 0
  step : Option Int := none
  large : Nat := 0
  holdSince : Stamp := {}
  zeros : List (Nat × Nat) := []
  deriving DecidableEq, Repr, Inhabited

/-- A mark run of a block (MARKS): first and last position, overload or own transmission. -/
structure Mark where
  first : Nat
  last : Nat
  overload : Bool
  deriving DecidableEq, Repr

/-- A block: its descriptor (*Block descriptor*), with `gains` as (sample offset, new gain code), and the 14-bit ADC codes of its 262 144
wide samples in runs of equal codes, (count, code); the codes give the samples of a wide and of a narrow block (R76, R138). -/
structure Block where
  t0 : Stamp
  gen : Nat
  gain0 : Nat := 0
  allOvl : Bool := false
  allOwn : Bool := false
  invalid : Bool := false
  gains : List (Nat × Nat) := []
  marks : List Mark := []
  adc : List (Nat × Int) := []
  deriving DecidableEq, Repr

/-- A look-back ring: the retained blocks, oldest first, the count of blocks written since it was last emptied, the gain changes of the
block being filled with their times, the gain in force at the end of the last block, and when it was last emptied in ns. -/
structure Ring where
  blocks : List Block := []
  gen : Nat := 0
  gains : List (Stamp × Nat) := []
  code : Nat := 0
  since : Nat := 0
  deriving DecidableEq, Repr, Inhabited

/-- A span in which a feeder group transmits or has just transmitted (R80): from, and until once it is over, in ns. -/
structure OwnSpan where
  fg : Nat
  since : Nat
  until_ : Option Nat := none
  deriving DecidableEq, Repr

/-- Ports, trackers, rings (narrow by input, wide by input + 32), frames, the groups whose AGC and detectors are held by an own
transmission (R80), and the spans that mark ring samples as own transmission. -/
structure Lines where
  ports : Tab Port := []
  trackers : Tab Tracker := []
  rings : Tab Ring := []
  frames : List Frame := []
  nextFrame : Nat := 0
  ownTx : List Nat := []
  ownSpans : List OwnSpan := []
  deriving DecidableEq, Repr

end Sys2Proof
end

