-- ==== Sys2Proof/Parts/Places.lean ====
section
/-! DEFINITION. Pitch's intents and the memory (chapter 14). -/

namespace Sys2Proof

/-- A live replacement (R394): the outgoing and incoming slots, the command that started it, the second of step 3. -/
structure Repl where
  outgoing : Nat
  incoming : Nat
  src : Src
  since : Nat := 0
  deriving DecidableEq, Repr

/-- The state of a stack (MEM_STAT.STATE, without the off and retired states that the domain and the retirements give). -/
inductive StackState where
  | off | training | serving | changing
  deriving DecidableEq, Repr, Inhabited

/-- Memory and Pitch: classes, assignments newest first, late counts by class (uplink, downlink), pins of nodes to modules,
the replacement, stacks with their steps, pseudo-channels retired per stack, memory in MiB, ring depths in force in 0.1 s,
HARQ MiB, whether shrunk, pages migrated, scrubs of each stack, and the ceiling the power cap gives its step (R401). -/
structure Places where
  classes : Tab SvcClass := []
  assigns : List (FlowSel × Nat) := []
  late : Tab (Nat × Nat) := []
  pins : Tab (Option Nat) := []
  repl : Option Repl := none
  hbm : Tab StackState := []
  steps : Tab Nat := []
  pcRetired : Tab Nat := []
  packMib : Nat := 0
  reserve : Nat := 0
  wideDs : Nat := 0
  narrowDs : Nat := 0
  harqMib : Nat := 0
  shrunk : Bool := false
  migrations : Nat := 0
  scrubs : Tab Nat := []
  capSteps : Tab Nat := []
  deriving DecidableEq, Repr

end Sys2Proof
end

