-- ==== Sys2Proof/Parts/Rely.lean ====
section
/-! DEFINITION. Reliability (chapter 18) and Bedroll (chapter 19). -/

namespace Sys2Proof

/-- A self-test, queued or running: its unit, the detector that asked for it, whether a destructive injection makes it
report failure (R467), and the unit to test next should a link pass (R470). -/
structure SelfTest where
  target : TestUnit
  det : Nat
  destructive : Bool := false
  injected : Bool := false
  thenUnit : Option Nat := none
  deriving DecidableEq, Repr

/-- The state of a unit as REL_UNIT reports it. -/
inductive UnitState where
  | inUse | queued | underTest | held
  deriving DecidableEq, Repr, Inhabited

/-- The reliability record of one unit (REL_UNIT): state, detector of the last self-test, the seconds of the TRANSIENT outcomes that may
lie in the last 24 h, newest first, and the outcomes since start-up. -/
structure UnitRel where
  state : UnitState := .inUse
  cause : Nat := 0
  times : List Nat := []
  trans : Nat := 0
  deriving DecidableEq, Repr, Inhabited

/-- The reliability controller. `retired` lists REL_UNITSEL values (0x800 + n for a neutral port); `ceRows` are the rows with a
corrected error inside CE_WIN; `excursion` says that one lasts and `envSince` when the last one ended (R479); `injections` are the
functional injections that wait for their point to be used, by detector and target (R467). -/
structure Rely where
  detCnt : Tab Nat := []
  detInj : Tab Nat := []
  units : Tab UnitRel := []
  queue : List SelfTest := []
  running : List SelfTest := []
  retired : List Nat := []
  held : List SelfTest := []
  ceRows : List TestUnit := []
  excursion : Bool := false
  envSince : Option Nat := none
  qfullSec : Option Nat := none
  injections : List (Nat × Nat) := []
  deriving DecidableEq, Repr

/-- A journal record (*Record header*): its kind, its keys, its sequence number, its time and its payload; `copy` is set by
compaction; `spots` are the segment and the first page of each copy, on die 0 and, of a mirrored record, on die 1, once it is committed. -/
structure JRec where
  kind : Nat
  key : Nat := 0
  key2 : Nat := 0
  rseq : Nat := 0
  t : Stamp := {}
  copy : Bool := false
  payload : Payload
  pieces : Nat := 1
  spots : List (Nat × Nat) := []
  deriving DecidableEq, Repr

/-- A submitted record: its priority (R483), the pieces programmed so far, and whether a preemption or a bad segment makes
it start again. -/
structure Waiting where
  record : JRec
  prio : Nat
  done : Nat := 0
  deriving DecidableEq, Repr

/-- The state of a segment (STATE of the segment table). -/
inductive SegState where
  | free | opened | closed | erasing | bad
  deriving DecidableEq, Repr, Inhabited

/-- A journal segment: state, erase count, whether it holds a live record, days since sealing. -/
structure Seg where
  state : SegState := .free
  pages : Nat := 0
  erases : Nat := 0
  live : Bool := false
  age : Nat := 0
  deriving DecidableEq, Repr, Inhabited

/-- Bedroll (R480 to R492): the committed records, the waiting ones in order of submission, the segment being programmed on
each die, the victim of a running compaction with the copies still to land, held ledger ranges, the second of the last
save, and the KB programmed by second (BED_RATE). -/
structure Bed where
  records : List JRec := []
  waiting : List Waiting := []
  rseq : Nat := 1
  segs : Tab Seg := []
  openSegs : Tab Nat := []
  victim : Option Nat := none
  copies : Nat := 0
  heldRanges : List (Nat × Nat) := []
  lastSave : Option Nat := none
  rateLog : List (Nat × Nat) := []
  deriving DecidableEq, Repr

end Sys2Proof
end

