-- ==== Sys2Proof/Parts/Sec.lean ====
section
/-! DEFINITION. Security (chapter 17): lifecycle, keys, boot banks, the command in progress. -/

namespace Sys2Proof

/-- What a boot bank holds (R463): nothing, the boot pack of manufacture, or a verified image. -/
inductive Bank where
  | empty
  | factory
  | image (rollback version : Nat) (meas : BitVec 384)
  deriving DecidableEq, Repr

/-- What keeps the security controller busy: the lifecycle record of a command, by RSEQ (R449), or a restart (R463). -/
inductive SecJob where
  | record (rseq : Nat)
  | restart
  deriving DecidableEq, Repr

/-- What landed records hold while no recovery has applied them (R66): retirements, the MAC, the ledger, calibration with its registers,
baselines. -/
structure Shelf where
  retired : List Nat := []
  mac : Mac := {}
  ldg : Ledger := {}
  cal : Cal := {}
  fm : Fm := {}
  calRegs : Tab (BitVec 32) := []
  deriving DecidableEq, Repr

/-- The security controller. `fuse` is the lifecycle state the fuses record (R458), `revoked` the revocation marks by slot, `rb` the
rollback counters by class (R454), `lcRec` the newest landed lifecycle record (R449); `kek` and `swk` are in the key store, by numbers
that stand for the keys; `challenge` is the one held (R450); `unlock` is UNTIL while an unlock is in force (R459); `bankB` says which
bank runs, `banks` what each holds (0 A, 1 B); `owes` are commands completed when the lifecycle record of an RSEQ lands; `xfer` is the
SEC_XFER window; `shelf` is what a failed boot has left unapplied (log entries 20, 102); `caches` are the keys the CRY units cache, by unit (R263). -/
structure Sec where
  fuse : Nat := 0
  revoked : Tab Bool := []
  rb : Tab Nat := []
  lcRec : LcRec := {}
  kek : Option Nat := none
  swk : Option Nat := none
  challenge : Option (BitVec 256) := none
  unlock : Option Nat := none
  bankB : Bool := false
  banks : Tab Bank := []
  staged : Bool := false
  job : Option SecJob := none
  owes : List (Nat × Src) := []
  xfer : Tab (BitVec 8) := []
  shelf : Option Shelf := none
  caches : Tab (List (List (BitVec 8))) := []
  deriving DecidableEq, Repr

end Sys2Proof
end

