-- ==== Sys2Proof/Parts/Trail.lean ====
section
/-! DEFINITION. Trail ports (chapter 21). -/

namespace Sys2Proof

/-- What the transmit shifter holds: a character with its address bit, or a break. -/
inductive TpShift where
  | char (data : Nat)
  | brk
  deriving DecidableEq, Repr

/-- What TXD does: high impedance, a level, or a character on its way. -/
inductive TxLevel where
  | highZ
  | low
  | high
  | sending (data : Nat)
  deriving DecidableEq, Repr

/-- What CLK does: high impedance, running, or at rest at a level. -/
inductive ClkLevel where
  | highZ
  | running
  | rest (level : Bool)
  deriving DecidableEq, Repr

/-- A Trail port beyond its registers: TP_CFG and TP_BAUD as in force in the receiver and in the transmitter (R521), the receive FIFO
as TP_RXD lays an entry out, the transmit FIFO, the shifter, a break asked for, a flow-control character to send (R519), whether XOFF
stopped the transmitter, break held (R522), the level of RXD, when RXD fell before the last break, and the second of the last OVERRUN record. -/
structure TPort where
  rxCfg : Word := 0x001000C0
  rxBaud : Word := 0x0022B900
  txCfg : Word := 0x001000C0
  txBaud : Word := 0x0022B900
  rx : List Nat := []
  tx : List Nat := []
  shifter : Option TpShift := none
  brkWait : Bool := false
  flowOut : Option Nat := none
  txOff : Bool := false
  held : Bool := false
  line : Bool := true
  fell : Option Nat := none
  ovrSec : Option Nat := none
  deriving DecidableEq, Repr, Inhabited

end Sys2Proof
end

