-- ==== Sys2Proof/Parts/Units.lean ====
section
/-! DEFINITION. The supply, the pins, the modes, the switched domains, the drains and the fabric books (chapters 01, 02, 14). -/

namespace Sys2Proof

/-- Levels of the pins that no unit of its own holds. `perstN`, `rstN`, `pwrFailN` are the active-low inputs; `tamper` has
one bit per TAMPER_n level (pulled up, R462); `clamped` says that the power-on clamps or a reset hold every output inert (R41, R67, R540) (log entries 20, 96). -/
structure Pins where
  vinMv : Nat := 5000
  perstN : Bool := false
  rstN : Bool := true
  pwrFailN : Bool := true
  tamper : Nat := 15
  wakeOut : Bool := false
  ppsOut : Bool := false
  clamped : Bool := false
  deriving DecidableEq, Repr

/-- The state of a switched domain (PWR_DOM.STATE). -/
inductive DomState where
  | off | switchingOn | on | switchingOff
  deriving DecidableEq, Repr, Inhabited

/-- A running mode transition: where to and the code of PWR_MODE.CAUSE. -/
structure Transition where
  target : Mode
  cause : Nat
  deriving DecidableEq, Repr

/-- What EMBER remembers (R57 to R63): whether the checkpoint of step 4 has landed, the mode to return to, the entry time, and the cause
of a trigger held until SERVE is reached (R58). -/
structure Ember where
  checkpoint : Bool := false
  prev : Mode := .serve
  entry : Stamp := {}
  held : Option Nat := none
  deriving DecidableEq, Repr

/-- The mode controller. `heldReq` is the request that waits for a transition to complete (R46); `stack` is the EMBER stack (R64); `admits` is
false while Pitch refuses new work to keep the cap (R54); `perst` says that a rising edge of PERST_n waits for REST (R51), `heldWake` is the
cause of a wake that came while a transition ran; `watchSince` is the
second the time of R52 counts from (log entries 20, 21). -/
structure Power where
  mode : Mode := .rest
  trans : Option Transition := none
  heldReq : Option Mode := none
  doms : Tab DomState := []
  coreOn : Bool := false
  vcoreMv : Nat := 700
  admits : Bool := true
  ember : Ember := {}
  stack : Option Nat := none
  perst : Bool := false
  heldWake : Option Nat := none
  watchSince : Nat := 0
  deriving DecidableEq, Repr

/-- Why a unit drains: a host request, the power cap, a mode transition, EMBER entry, a self-test, a retirement, the spare pool, or a
register of the unit itself. -/
inductive DrainWhy where
  | host | cap | mode | ember | test | retire | spare | config
  deriving DecidableEq, Repr

/-- A drain in progress (R396): why, whether work was abandoned, whether a return to service waits for it (R398), and the detector
code a retirement gives its record (R480). -/
structure Drain where
  why : DrainWhy
  abandoned : Bool := false
  restore : Bool := false
  det : Nat := 0
  deriving DecidableEq, Repr

/-- The drain book: drains in progress by domain index, the unit pages with an owner other than their default (R34), and the
domain of the last PIT_DRAIN request while it runs (R399). -/
structure Units where
  drains : Tab (Option Drain) := []
  out : Tab Bool := []
  owners : Tab Nat := []
  hostDrain : Option Nat := none
  deriving DecidableEq, Repr

/-- What a fabric transaction does when its response arrives (R354), for task `task` on context `k`. The value of a load was
sampled when it issued; `copy` is the pseudo-channel of the second copy a store has still to write (R386). -/
inductive TxnKind where
  | loadScalar (k task d : Nat) (val : BitVec 64) (h : Nat)
  | loadVector (k task d : Nat) (val : BitVec 512) (h : Nat)
  | store (k task : Nat) (copy : Option Nat)
  | queueOp (k task : Nat)
  | call (k task ticket : Nat)
  | other
  deriving DecidableEq, Repr

/-- A fabric transaction: its number, its initiator (numbered in the order of *Fabric tag quotas*), the pseudo-channel it goes to, if it
goes to a stack, and whether that pseudo-channel has admitted it (R29); the transfers of its request and of its response, one to four; the
request channels its request has still to cross, the transfers sent on the first of them and the channel whose buffers hold the rest (R30);
the response channels its response crosses; what it is for. -/
structure Txn where
  id : Nat
  init : Nat
  pc : Option Nat
  admitted : Bool
  reqN : Nat
  respN : Nat
  left : List Nat
  moved : Nat
  back : Option Nat
  resp : List Nat
  kind : TxnKind
  deriving DecidableEq, Repr

/-- The fabric books (R27 to R32): tags held by initiator, contexts waiting for a tag with their initiator, oldest first, buffers
occupied and returns in flight by channel of a directed link (the credits its sender does not hold), transactions in flight oldest first,
pseudo-channel slots occupied. -/
structure Fabric where
  held : Tab Nat := []
  waiting : List (Nat × Nat) := []
  flight : List Txn := []
  occupied : Tab Nat := []
  returning : Tab Nat := []
  pcBusy : Tab Nat := []
  nextId : Nat := 0
  deriving DecidableEq, Repr

end Sys2Proof
end

