-- ==== Sys2Proof/Machine/State.lean ====
section
/-! DEFINITION. The state of the module as plain data, what can stop a step, and the state after reset. -/

namespace Sys2Proof.Machine

open Sys2Proof

/-- The module. `regs` holds every register of BAR0 by name and number; the other fields hold what the rules give the
module beside its registers; `free` counts the free values drawn; `pending` is the queue of waiting commands. -/
structure State where
  pins : Pins := {}
  pwr : Power := {}
  units : Units := {}
  fab : Fabric := {}
  regs : Tab Word := []
  mem : List Host.Cell := []
  hst : Hosts := {}
  eth : Tab EthPort := []
  cmp : Compass := {}
  rel : Rely := {}
  bed : Bed := {}
  prog : Programs := {}
  plc : Places := {}
  chk : Tab ChkUnit := []
  lin : Lines := {}
  rx : Rx := {}
  maps : Maps := {}
  mac : Mac := {}
  ldg : Ledger := {}
  gl : Guyline := {}
  fm : Fm := {}
  gs : Tab GsCh := []
  cal : Cal := {}
  sec : Sec := {}
  tp : Tab TPort := []
  free : Nat := 0
  pending : List Instr := []
  deriving DecidableEq, Repr

/-- Why a step stops with a fault. No command of the table makes the module stop: a task fault, a detected error or a
refused write is an effect on the state. -/
inductive Fault where
  deriving DecidableEq, Repr

/-- Why a command has no meaning. -/
inductive Refusal where
  /-- Raised by the dispatch for a command not modelled yet; safe, since nothing can be proved about such a command. -/
  | notModelled (mnemonic : String)
  deriving DecidableEq, Repr

/-- The module right after reset: REST, reached with an empty journal, every register at its stated reset value, the host
interface idle, no command waiting (log entry 20). -/
def State.reset : State := {}

end Sys2Proof.Machine
end

