-- ==== Sys2Proof/Machine/Ops.lean ====
section
/-! DEFINITION. The named operations every command is written with: registers and their fields, short time, event records,
completions, free values, detections, drains and journal submissions. -/

namespace Sys2Proof

/-- The order of short times. -/
def Stamp.le (a b : Stamp) : Bool := a.s < b.s || (a.s == b.s && a.ns ≤ b.ns)

/-- The code of a status (*Status codes*). -/
def Status.code : Status → Nat
  | .ok => 0x00 | .abandoned => 0x01 | .drained => 0x02 | .checkFail => 0x03
  | .checkFailClean => 0x04 | .headerFail => 0x05 | .lookbackExpired => 0x06 | .settling => 0x07
  | .ranging => 0x08 | .calDisagree => 0x09 | .calWindow => 0x0A | .noParent => 0x0B
  | .replay => 0x0C | .authFail => 0x0D | .denied => 0x0E | .unitRetired => 0x0F
  | .overrun => 0x10 | .breakHeld => 0x11 | .absent => 0x12 | .foldback => 0x13
  | .transient => 0x14 | .lasting => 0x15 | .ledgerReturned => 0x16 | .limit => 0x17

/-- Every status, by code. -/
def Status.all : List Status :=
  [.ok, .abandoned, .drained, .checkFail, .checkFailClean, .headerFail, .lookbackExpired, .settling,
   .ranging, .calDisagree, .calWindow, .noParent, .replay, .authFail, .denied, .unitRetired,
   .overrun, .breakHeld, .absent, .foldback, .transient, .lasting, .ledgerReturned, .limit]

/-- The status of a code; a code that is not used (R502) wraps. -/
def Status.ofCode (n : Nat) : Status := Status.all.getD (n % 24) .ok

end Sys2Proof

namespace Sys2Proof.Machine

open Sys2Proof

/-! ## Registers -/

/-- The stored word of instance `i` of register `r`. -/
def State.reg (s : State) (r : Reg) (i : Nat) : Word := Tab.get regDefault s.regs (r.key i)

/-- `s` with `w` stored in instance `i` of register `r`. -/
def State.setReg (s : State) (r : Reg) (i : Nat) (w : Word) : State :=
  { s with regs := Tab.set regDefault s.regs (r.key i) w }

/-- `w` with bits `lo` to `lo + width - 1` replaced by the low bits of `v`. -/
def putBits (w : Word) (lo width v : Nat) : Word :=
  BitVec.ofNat 32 (w.toNat % 2 ^ lo + (v % 2 ^ width) * 2 ^ lo + w.toNat / 2 ^ (lo + width) * 2 ^ (lo + width))

/-- Bits `lo` to `lo + width - 1` of `w`. -/
def getBits (w : Word) (lo width : Nat) : Nat := w.toNat / 2 ^ lo % 2 ^ width

/-- The value of a field. -/
def State.fld (s : State) (f : Fld) (i : Nat) : Nat := getBits (s.reg f.reg i) f.lo f.width

/-- Whether a one-bit field is 1. -/
def State.flag (s : State) (f : Fld) (i : Nat) : Bool := s.fld f i != 0

/-- `s` with a field replaced. -/
def State.setFld (s : State) (f : Fld) (i v : Nat) : State :=
  s.setReg f.reg i (putBits (s.reg f.reg i) f.lo f.width v)

/-- A field counted up by `n`, saturating at its greatest value. -/
def State.bumpFld (s : State) (f : Fld) (i n : Nat) : State :=
  s.setFld f i (min (s.fld f i + n) (2 ^ f.width - 1))

/-! ## Pages of register blocks (BAR0 offset shifted right by 12) -/

def pageSys : Nat := 0x0000
def pagePwr : Nat := 0x0100
def pageSec : Nat := 0x0200
def pagePit : Nat := 0x0300
def pageEng (n : Nat) : Nat := 0x0400 + n
def pagePacks : Nat := 0x0500
def pageMem : Nat := 0x0600
def pageCan : Nat := 0x0601
def pageLp (p : Nat) : Nat := 0x0800 + 4 * p
def pageNp (n : Nat) : Nat := 0x0860 + 4 * n
def pageZc (g : Nat) : Nat := 0x0880 + g
def pageMdm : Nat := 0x0A00
def pageRing : Nat := 0x0A01
def pageMap : Nat := 0x0A02
def pageBand : Nat := 0x0A03
def pageBb (p : Nat) : Nat := 0x0A04 + (0x100 * p) / 0x1000
def pageNotch : Nat := 0x0A05
def pageFm : Nat := 0x0A06
def pageMac : Nat := 0x0C00
def pageLedger : Nat := 0x0C01
def pageGs : Nat := 0x0E00
def pageCal : Nat := 0x0F00
def pageTp (n : Nat) : Nat := 0x1000 + n
def pageChk : Nat := 0x1100
def pageCmp : Nat := 0x1200
def pageGl : Nat := 0x1300
def pageHst : Nat := 0x1400
def pageEth (n : Nat) : Nat := 0x1500 + n
def pageBed : Nat := 0x1600
def pageRel : Nat := 0x1700
def pageDbg : Nat := 0x1800

/-- The page of input `p`: line port 0 to 23, or neutral port 24 to 31. -/
def pagePort (p : Nat) : Nat := if p < 24 then pageLp p else pageNp (p - 24)

/-! ## Domain indexes (*Domain index*) -/

def domEng (n : Nat) : Nat := n
def domFec (n : Nat) : Nat := 128 + n
def domXf (n : Nat) : Nat := 136 + n
def domMem (n : Nat) : Nat := 140 + n
def domCan (n : Nat) : Nat := 144 + n
def domLps (n : Nat) : Nat := 152 + n
def domGs : Nat := 176
def domLan : Nat := 177
def domPcie : Nat := 178
def domEth (n : Nat) : Nat := 179 + n
def domGl (n : Nat) : Nat := 181 + n
def domTp (n : Nat) : Nat := 185 + n
def domChk : Nat := 193
def domCry (n : Nat) : Nat := 194 + n

/-- The number of switched domains. -/
def domCount : Nat := 198

/-- The first index and the number of the group of like units that index `i` belongs to (*Domain index*). -/
def domKind (i : Nat) : Nat × Nat :=
  if i < 128 then (0, 128) else if i < 136 then (128, 8) else if i < 140 then (136, 4) else if i < 144 then (140, 4)
  else if i < 152 then (144, 8) else if i < 176 then (152, 24) else if i < 179 then (i, 1) else if i < 181 then (179, 2)
  else if i < 185 then (181, 4) else if i < 193 then (185, 8) else if i < 194 then (193, 1) else (194, 4)

/-- The page of the register block of the unit of domain `i`; none for FEC, XF, CRY and LAN (R557). -/
def domPage (i : Nat) : Option Nat :=
  if i < 128 then some (pageEng i) else if i < 140 then none else if i < 144 then some pageMem
  else if i < 152 then some pageCan else if i < 176 then some (pageLp (i - 152)) else if i = 176 then some pageGs
  else if i = 177 then none else if i = 178 then some pageHst else if i < 181 then some (pageEth (i - 179))
  else if i < 185 then some pageGl else if i < 193 then some (pageTp (i - 185)) else if i = 193 then some pageChk
  else none

/-! ## Short time -/

/-- The Compass short time now (R9). -/
def State.now (s : State) : Stamp := ⟨s.cmp.sec % 2 ^ 32, s.cmp.ns⟩

/-- A short time in nanoseconds. -/
def stampNs (a : Stamp) : Nat := a.s * 1000000000 + a.ns

/-- The short time `ns` nanoseconds after second 0. -/
def nsStamp (n : Nat) : Stamp := ⟨n / 1000000000 % 2 ^ 32, n % 1000000000⟩

/-! ## Free values -/

/-- `s` after a free value was drawn (log entry 1). -/
def State.drew (s : State) : State := { s with free := s.free + 1 }

/-- The next free natural below `n`. -/
def State.pickNat (s : State) (n : Nat) : Nat := Config.freeNat s.free % n

/-- The element of a list that a free number picks; none of an empty list. -/
def pickFrom {α : Type} (l : List α) (n : Nat) : Option α := l[n % l.length]?

/-! ## Records -/

/-- Fields packed little-endian from byte 0 of DATA: (bytes, value) pairs (R499). -/
def packData : List (Nat × Nat) → Nat
  | [] => 0
  | (n, v) :: t => v % 256 ^ n + 256 ^ n * packData t

/-- The 16 DATA bytes of a record. -/
def dataOf (fields : List (Nat × Nat)) : BitVec 128 := BitVec.ofNat 128 (packData fields)

/-- An event record raised by the block at `page` (R499, *Event types*). It waits to be posted or held (R501). -/
def State.eventAs (s : State) (evt : Nat) (st : Status) (page : Nat) (fields : List (Nat × Nat)) (flags : Nat) : State :=
  { s with hst := { s.hst with raised := s.hst.raised ++
      [{ event := true, status := st, id := evt, page := page, flags := flags, t := s.now, data := dataOf fields }] } }

/-- A unit event (EVT 0) without flags (log entry 47). -/
def State.event (s : State) (st : Status) (page : Nat) (fields : List (Nat × Nat)) : State :=
  s.eventAs 0 st page fields 0

/-- The fields that name the unit of REL_UNITSEL value `sel` in a record: its page and first DATA bytes (R557) (log entry 38). -/
def unitNaming (sel : Nat) : Nat × List (Nat × Nat) :=
  if sel / 256 = 8 then (pageNp (sel % 256), [(4, sel % 256)])
  else if sel / 256 % 8 = 0 then
    match domPage (sel % 256) with
    | some p => (p, [(4, sel % 256)])
    | none => (pageRel, [(4, sel)])
  else (pageRel, [(4, sel)])

/-- A unit event that names the unit of REL_UNITSEL value `sel`. -/
def State.unitEvent (s : State) (st : Status) (sel : Nat) (rest : List (Nat × Nat)) : State :=
  s.event st (unitNaming sel).1 ((unitNaming sel).2 ++ rest)

/-- The completion of a host command: a record for its queue unless the pair is disabled (R497), a TYPE 2 datagram for a
head-end request (R506). -/
def State.completeAs (s : State) (src : Src) (st : Status) (fields : List (Nat × Nat)) (flags : Nat) : State :=
  match src with
  | .none => s
  | .queue q cid =>
    let r : Rec := { event := false, status := st, id := cid, page := pageHst, flags := flags, t := s.now,
                     data := dataOf fields }
    let pair := Tab.get (fun _ => {}) s.hst.pairs q
    let hst := { s.hst with pairs := Tab.set (fun _ => {}) s.hst.pairs q { pair with running := pair.running.erase cid } }
    if s.flag F.HST_QCFG_EN q then { s with hst := { hst with comps := hst.comps ++ [(q, r)] } } else { s with hst := hst }
  | .headend port ref =>
    let r : Rec := { event := false, status := st, id := 0, page := pageHst, flags := flags, t := s.now,
                     data := dataOf fields }
    { s with hst := { s.hst with outbox := s.hst.outbox ++ [{ port := port, typ := 2, ref := ref, record := some r }] } }

/-- A completion without flags. -/
def State.complete (s : State) (src : Src) (st : Status) (fields : List (Nat × Nat)) : State :=
  s.completeAs src st fields 0

/-! ## Domains, drains and retirements -/

/-- The state of domain `i`. -/
def State.dom (s : State) (i : Nat) : DomState := Tab.get (fun _ => .off) s.pwr.doms i

/-- `s` with domain `i` in state `d`. -/
def State.setDom (s : State) (i : Nat) (d : DomState) : State :=
  { s with pwr := { s.pwr with doms := Tab.set (fun _ => .off) s.pwr.doms i d } }

/-- Whether the unit of REL_UNITSEL value `sel` is retired (R472). -/
def State.isRetired (s : State) (sel : Nat) : Bool := s.rel.retired.contains sel

/-- The drain of domain `i`, while it drains (R396). -/
def State.drain (s : State) (i : Nat) : Option Drain := Tab.get (fun _ => none) s.units.drains i

/-- Whether domain `i` drains. -/
def State.draining (s : State) (i : Nat) : Bool := (s.drain i).isSome

/-- `s` with the drain of domain `i` replaced. -/
def State.setDrain (s : State) (i : Nat) (d : Option Drain) : State :=
  { s with units := { s.units with drains := Tab.set (fun _ => none) s.units.drains i d } }

/-- Step 1 of the drain rule (R396): the unit enters DRAINING. A unit that is off or already drains is left as it is
(R398). -/
def State.startDrain (s : State) (i : Nat) (why : DrainWhy) : State :=
  if s.dom i = .on ∧ s.draining i = false then s.setDrain i (some { why := why }) else s

/-- Drains started on every domain of a list. -/
def State.startDrains (s : State) (why : DrainWhy) : List Nat → State
  | [] => s
  | i :: t => (s.startDrain i why).startDrains why t

/-- Whether a unit of domain `i` takes new work: on, not draining, not out of service. -/
def State.serves (s : State) (i : Nat) : Bool :=
  s.dom i = .on && !s.draining i && !s.isRetired i && !(Tab.get (fun _ => false) s.units.out i)

/-- `s` with domain `i` taken out of service or returned, its power unchanged (R344, R470). -/
def State.setOut (s : State) (i : Nat) (b : Bool) : State :=
  { s with units := { s.units with out := Tab.set (fun _ => false) s.units.out i b } }

/-! ## Ownership (R34) -/

/-- The owner of a page nobody has taken: the sealed firmware for PIT and SEC, the host for the rest. -/
def ownerDefault (page : Nat) : Nat := if page / 256 = 2 ∨ page / 256 = 3 then 0x1E else 0

/-- The owner of the unit at `page`, coded as SYS_OWN.OWNER. -/
def State.owner (s : State) (page : Nat) : Nat := Tab.get ownerDefault s.units.owners page

/-- `s` with the pages of a list given to `who`. -/
def State.setOwners (s : State) (who : Nat) : List Nat → State
  | [] => s
  | p :: t => { s with units := { s.units with owners := Tab.set ownerDefault s.units.owners p who } }.setOwners who t

/-- `s` with the pages of a list returned to their default owner. -/
def State.returnPages (s : State) : List Nat → State
  | [] => s
  | p :: t =>
    { s with units := { s.units with owners := Tab.set ownerDefault s.units.owners p (ownerDefault p) } }.returnPages t

/-! ## Interrupts (R503) -/

/-- Whether the completion queue of some enabled pair holds an unread record. -/
def State.unread (s : State) : Bool :=
  s.hst.pairs.any fun p => s.flag F.HST_QCFG_EN p.1 && (p.2.cqTail != (s.reg .HST_CQH p.1).toNat)

/-- The level of the sources selected by mask `m` (HST_IRQCFG). -/
def State.irqLevel (s : State) (m : Nat) : Bool :=
  (m.testBit 0 && s.unread) || (m.testBit 1 && (s.reg .PWR_STAT 0 != 0 || !s.pins.pwrFailN)) ||
  (m.testBit 2 && (s.reg .REL_STAT 0).toNat % 16 != 0) || (m.testBit 3 && s.pwr.mode == .ember) ||
  (m.testBit 4 && s.fld F.SEC_TAMPSTAT_LATCHED 0 != 0)

/-- IRQ_0 asserted. -/
def State.irq0 (s : State) : Bool := s.irqLevel (s.fld F.HST_IRQCFG_IRQ0 0)

/-- IRQ_1 asserted. -/
def State.irq1 (s : State) : Bool := s.irqLevel (s.fld F.HST_IRQCFG_IRQ1 0)

/-- MSI-X vector `v` raised once more. -/
def State.msix (s : State) (v : Nat) : State :=
  { s with hst := { s.hst with msix := Tab.set (fun _ => 0) s.hst.msix v (Tab.get (fun _ => 0) s.hst.msix v + 1) } }

/-- Vector 255 raised when the level of the IRQ_1 sources has risen since it was last looked at (R503) (log entry 143). -/
def State.noteIrq1 (s : State) : State :=
  if s.irq1 = s.hst.irq1 then s
  else if s.irq1 then { s.msix 255 with hst := { (s.msix 255).hst with irq1 := true } }
  else { s with hst := { s.hst with irq1 := false } }

/-- A table of counts with the one at key `k` raised by one, saturating at `top`. -/
def countUp (t : Tab Nat) (k top : Nat) : Tab Nat :=
  Tab.set (fun _ => 0) t k (min (Tab.get (fun _ => 0) t k + 1) top)

/-! ## Minimal service (R477) -/

/-- Whether minimal service is in force (R477). -/
def State.minimal (s : State) : Bool := s.flag F.REL_STAT_MINSET 0

/-- Whether a group runs FLP-A: available there (R145, R227), and not in minimal service (R477). -/
def State.runsFlpa (s : State) (fg : Nat) : Bool := s.flag F.MDM_BANDSTAT_FLPA fg && !s.minimal

/-! ## Self-tests and detections (R466, R469) -/

/-- The reliability state of the unit of REL_UNITSEL value `sel`. -/
def State.unitRel (s : State) (sel : Nat) : UnitRel := Tab.get (fun _ => {}) s.rel.units sel

/-- `s` with the reliability state of a unit replaced. -/
def State.setUnitRel (s : State) (sel : Nat) (u : UnitRel) : State :=
  { s with rel := { s.rel with units := Tab.set (fun _ => {}) s.rel.units sel u } }

/-- The REL_UNITSEL value that a test target stands under; 0x800 + n for a neutral port,
0x900 + n for a stop (log entry 38). -/
def testSel : TestUnit → Nat
  | .unit sel => sel
  | .hbmRow pc _ => 0x200 + pc
  | .canRow b _ => domCan b
  | .np n => 0x800 + n
  | .stop n => 0x900 + n

/-- Whether a test target is queued, under test or held for a retest. -/
def State.inTest (s : State) (u : TestUnit) : Bool :=
  s.rel.queue.any (fun t => t.target = u) || s.rel.running.any (fun t => t.target = u) || s.rel.held.any (fun t => t.target = u)

/-- A self-test queued (R469): not again while queued or under test; a full queue of 64 sets QFULL and posts LIMIT at most
once a second. -/
def State.queueTest (s : State) (t : SelfTest) : State :=
  if s.inTest t.target || s.isRetired (testSel t.target) then s
  else if 64 ≤ s.rel.queue.length then
    let s1 := (s.setFld F.REL_STAT_QFULL 0 1).noteIrq1
    if s.rel.qfullSec = some s.cmp.sec then s1
    else ({ s1 with rel := { s1.rel with qfullSec := some s.cmp.sec } }).event .limit pageRel []
  else
    let s1 := { s with rel := { s.rel with queue := s.rel.queue ++ [t] } }
    match t.target with
    | .unit sel => s1.setUnitRel sel { s1.unitRel sel with state := .queued }
    | _ => s1

/-- A detection counted in REL_DETCNT (R466). -/
def State.bumpDetection (s : State) (code : Nat) : State :=
  { s with rel := { s.rel with detCnt := countUp s.rel.detCnt code 0xFFFFFFFF } }

/-- An injected detection counted in REL_DETINJ and posted with INJECTED (R467, R468). -/
def State.countInjected (s : State) (code sel : Nat) : State :=
  let s1 := { s with rel := { s.rel with detInj := countUp s.rel.detInj code 0xFFFFFFFF } }
  s1.eventAs 0 (Status.ofCode (Config.detectionStatus code)) (unitNaming sel).1 ((unitNaming sel).2 ++ [(4, code)]) 2

/-- A detection counted and posted (R466): REL_DETCNT of its code, an event record naming the detector and the unit (log entry 147). -/
def State.countDetection (s : State) (code sel : Nat) : State :=
  (s.bumpDetection code).unitEvent (Status.ofCode (Config.detectionStatus code)) sel [(4, code)]

/-- A detection counted and posted by the block at `page`, for a source that REL_UNITSEL does not select. -/
def State.countDetectionAt (s : State) (code page subject : Nat) : State :=
  (s.bumpDetection code).event (Status.ofCode (Config.detectionStatus code)) page [(4, subject), (4, code)]

/-- A detection whose action is the self-test of a unit (*Detectors*). -/
def State.detectTest (s : State) (code sel : Nat) (target : TestUnit) (andThen : Option Nat) : State :=
  (s.countDetection code sel).queueTest { target := target, det := code, thenUnit := andThen }

/-! ## Journal submissions (R483) -/

/-- The priority of a record kind; compaction copies have 7 (R483). -/
def recPrio (kind : Nat) : Nat :=
  if kind = 6 then 1 else if kind = 4 then 2 else if kind = 3 then 3 else if kind = 7 ∨ kind = 5 then 4
  else if kind = 2 then 5 else 6

/-- A record submitted to Bedroll: it takes the next sequence number and waits (R480, R483). -/
def State.submit (s : State) (kind key key2 : Nat) (payload : Payload) (pieces : Nat) : State :=
  let r : JRec := { kind := kind, key := key, key2 := key2, rseq := s.bed.rseq, t := s.now, payload := payload,
                    pieces := pieces }
  { s with bed := { s.bed with rseq := s.bed.rseq + 1,
                               waiting := s.bed.waiting ++ [{ record := r, prio := recPrio kind }] } }

end Sys2Proof.Machine
end

