-- ==== Sys2Proof/Machine/Access.lean ====
section
/-! DEFINITION. Register access (R33 to R39): where a register block lies, whether it can be reached, who may write it, and
the bytes behind handles. -/

namespace Sys2Proof.Machine

open Sys2Proof

/-- Where a register block lies: in the Groundsheet, in the core region (R39), in a switched domain, or in the slice that carries a neutral
port (R71). -/
inductive Home where
  | ground | core | dom (i : Nat) | np (n : Nat)
  deriving DecidableEq, Repr

/-- The home of the block at BAR0 offset `a` (*BAR0 block map*, *Domain index*, R39, R71). -/
def homeAt (a : Nat) : Home :=
  let page := a / 0x1000
  let block := a / 0x100000
  if block = 1 ∨ block = 2 ∨ block = 0x12 ∨ block = 0x16 then .ground
  else if 0x400 ≤ page ∧ page < 0x480 then .dom (domEng (page - 0x400))
  else if page = 0x600 then .dom (domMem (a % 0x1000 / 0x100))
  else if 0x800 ≤ page ∧ page < 0x860 then .dom (domLps ((page - 0x800) / 4))
  else if 0x860 ≤ page ∧ page < 0x880 then .np ((page - 0x860) / 4)
  else if block = 0xE then .dom domGs
  else if block = 0x10 then .dom (domTp (page - 0x1000))
  else if block = 0x11 then .dom domChk
  else if block = 0x15 then .dom (domEth (page - 0x1500))
  else .core

/-- Whether a block is powered (R38, R39). -/
def State.homeOn (s : State) : Home → Bool
  | .ground => s.pwr.mode != .off
  | .core => s.pwr.coreOn
  | .dom i => s.dom i = .on && !s.isRetired i
  | .np n => s.dom (domLps (3 * n)) = .on && !s.isRetired (testSel (.np n))

/-- The debug level in force (DBG_LEVEL.INFORCE). -/
def State.level (s : State) : Nat := s.fld F.DBG_LEVEL_INFORCE 0

/-- Whether the host's registers accesses reach the module: the PCIE domain is on (R48). -/
def State.hostPath (s : State) : Bool := s.dom domPcie = .on

/-- Whether the pack in `slot` may write the unit at `page`: it owns it, or a live replacement lets both packs write (R34,
R36). -/
def State.packOwns (s : State) (slot page : Nat) : Bool :=
  s.owner page = slot + 1 ||
  (match s.plc.repl with
   | none => false
   | some r => (slot = r.outgoing || slot = r.incoming) && (s.owner page = r.outgoing + 1 || s.owner page = r.incoming + 1))

/-- The page of the unit that holds offset `a`: the check units and CHK_HOSTMASK are one unit (R530). -/
def unitPage (a : Nat) : Nat := if a / 0x100000 = 0x11 then pageChk else a / 0x1000

/-- The windows of BAR0 that hold no register and are not reserved: SEC_XFER, and the MSI-X table with its pending-bit array (R494). -/
def windowAt (a : Nat) : Bool := decide (0x210000 ≤ a ∧ a < 0x220000) || decide (0x1480000 ≤ a ∧ a < 0x1482000)

/-- Whether a check unit is lent to the host (R530). -/
def State.chkLent (s : State) (n : Nat) : Bool := (s.fld F.CHK_HOSTMASK_HOST 0).testBit n

/-- What a write meets: it takes effect, it is discarded with an event record of status DENIED (R35, R38), it is refused
to the pack with status DENIED (R36), or it never arrives (R48). -/
inductive Gate where
  | pass | deny | refuse | lost
  deriving DecidableEq, Repr

/-- Whether the block at offset `a` can be reached: with BOOT_FAIL only SYS, PWR and SEC are (R66). -/
def State.bootReach (s : State) (a : Nat) : Bool := s.fld F.PWR_STAT_BOOT_FAIL 0 == 0 || decide (a / 0x100000 < 3)

/-- The judgement of a write to instance `i` of register `r` (R34 to R39, R66, *Debug levels*): at D0 and D1 the host writes no
register of a pack-owned unit (R35), the check units lent to it apart (R530) (log entry 157). -/
def State.gate (s : State) (who : Who) (r : Reg) (i : Nat) : Gate :=
  let a := r.addr i
  let page := unitPage a
  let lent : Bool := a / 0x1000 = 0x1100 && s.chkLent i
  if s.bootReach a = false then .lost
  else match who with
  | .host =>
    if s.hostPath = false then .lost
    else if s.homeOn (homeAt a) = false then .deny
    else if 1 ≤ s.owner page ∧ s.owner page ≤ 16 ∧ s.level < 2 ∧ lent = false then .deny
    else .pass
  | .pack slot =>
    if s.packOwns slot page = false then .refuse
    else if s.homeOn (homeAt a) = false then .deny
    else .pass
  | .tap =>
    if s.pwr.coreOn = false ∨ s.level < 3 then .lost
    else if s.homeOn (homeAt a) = false then .deny
    else .pass

/-- Whether a read of a register returns its value: the host's where the path and the block are powered, a pack's where it
owns the unit or the block is SYS, PWR or CMP, the TAP's from level D1 (R36, R38, R48, *Debug levels*); else it returns 0 (log entry 150). -/
def State.readable (s : State) (who : Who) (r : Reg) (i : Nat) : Bool :=
  let a := r.addr i
  s.homeOn (homeAt a) && s.bootReach a &&
  match who with
  | .host => s.hostPath
  | .tap => s.pwr.coreOn && decide (1 ≤ s.level)
  | .pack slot => s.packOwns slot (unitPage a) || [0, 1, 0x12].contains (a / 0x100000)

/-- A register write under its judgement: the effect `f`, or the event record naming the unit, or nothing. -/
def State.gated (s : State) (who : Who) (r : Reg) (i : Nat) (f : State → State) : State :=
  match s.gate who r i with
  | .pass => f s
  | .deny => s.event .denied (unitPage (r.addr i)) []
  | .refuse => s
  | .lost => s

/-- The stored word after a plain write: the RW and RWO bits taken from `w`, the W1C bits cleared where `w` has ones, every
other bit kept (R7, R8) (log entry 144). -/
def plainWrite (r : Reg) (old w : Word) : Word :=
  let m := BitVec.ofNat 32 r.storeMask
  let c := BitVec.ofNat 32 r.w1cMask
  (w &&& m) ||| (old &&& ~~~m &&& ~~~(w &&& c))

/-- A plain write of instance `i` of register `r`. -/
def State.store (s : State) (r : Reg) (i : Nat) (w : Word) : State := s.setReg r i (plainWrite r (s.reg r i) w)

/-! ## Memory behind handles -/

/-- What a byte nothing has written reads as (log entry 2). -/
def memDefault (_ : Nat) : Byte := 0

/-- The key of byte `ofs` of the memory object `obj`: a handle value, or 2 ^ 32 + task number for the scratch of a task. -/
def memKey (obj ofs : Nat) : Nat := obj * 2 ^ 40 + ofs % 2 ^ 40

/-- One byte of an object (log entry 2). -/
def State.byte (s : State) (obj ofs : Nat) : Byte := Tab.get memDefault s.mem (memKey obj ofs)

/-- `s` with one byte of an object replaced. -/
def State.setByte (s : State) (obj ofs : Nat) (b : Byte) : State :=
  { s with mem := Tab.set memDefault s.mem (memKey obj ofs) b }

/-- `n` bytes of an object from `ofs`. -/
def State.bytes (s : State) (obj ofs : Nat) : Nat → List Byte
  | 0 => []
  | n + 1 => s.byte obj ofs :: s.bytes obj (ofs + 1) n

/-- `s` with the bytes of an object from `ofs` replaced. -/
def State.setBytes (s : State) (obj ofs : Nat) : List Byte → State
  | [] => s
  | b :: t => (s.setByte obj ofs b).setBytes obj (ofs + 1) t

/-- The number a little-endian byte list stands for. -/
def leNat : List Byte → Nat
  | [] => 0
  | b :: t => b.toNat + 256 * leNat t

/-- The `n` little-endian bytes of a number. -/
def natLe : Nat → Nat → List Byte
  | 0, _ => []
  | n + 1, v => BitVec.ofNat 8 v :: natLe n (v / 256)

/-- The handle of value `h`, where one exists. -/
def State.handle (s : State) (h : Nat) : Option Handle := Tab.find s.prog.handles h

/-- The value returned to the host by a read. -/
def State.returns (s : State) (v : BitVec 64) : State := { s with hst := { s.hst with readData := v } }

end Sys2Proof.Machine
end

