-- ==== Sys2Proof/Machine/CompassUnit.lean ====
section
/-! DEFINITION. Compass (chapter 16): the counter, its sources, setting and stepping, holdover, the PPS pins. -/

namespace Sys2Proof.Machine

open Sys2Proof

/-- The counter in nanoseconds. -/
def State.cmpNs (s : State) : Nat := s.cmp.sec * 1000000000 + s.cmp.ns

/-- `s` with the counter at `t` nanoseconds; its seconds have 48 bits (R9). -/
def State.setCmpNs (s : State) (t : Nat) : State :=
  { s with cmp := { s.cmp with sec := t / 1000000000 % 2 ^ 48, ns := t % 1000000000 } }

/-- The accuracy of a source in nanoseconds (*Source accuracy*, R442): 40 for PTP, 10 for PPS_IN, for a Guyline parent 5 on a
SerDes link or 500 on a line link plus the parent's E. -/
def State.srcAccuracy (s : State) (src : Nat) : Nat :=
  if src = 1 ∨ src = 2 then 40 else if src = 3 then 10
  else if src = 4 then (if s.cmp.parentLine then 500 else 5) + s.cmp.parentE else 0

/-- The error bound E in nanoseconds; none while TIME_SET = 0 (R442). -/
def State.errorBound (s : State) : Option Nat :=
  if s.cmp.timeSet = false then none
  else match s.cmp.state with
    | .locked => some (s.srcAccuracy s.cmp.src)
    | .acquiring => some (s.srcAccuracy s.cmp.src + s.cmp.offsetNs.natAbs)
    | .holdover => some (s.cmp.e0 + 50 * (s.cmpNs - s.cmp.eSince) / 1000000000)
    | .freerun => some (s.cmp.e0 + 1000 * (s.cmpNs - s.cmp.eSince) / 1000000000)

/-- CMP_HOLDEST: E, or 0xFFFFFFFF when it is unknown or saturates. -/
def State.holdest (s : State) : Nat :=
  match s.errorBound with
  | none => 0xFFFFFFFF
  | some e => min e 0xFFFFFFFF

/-- CMP_OFFSET: the offset in two's complement ns, saturating. -/
def offsetWord (o : Int) : Word := BitVec.ofInt 32 (if o < -2147483648 then -2147483648 else if 2147483647 < o then 2147483647 else o)

/-- Whether source `src` is qualified. -/
def State.qualified (s : State) (src : Nat) : Bool := Tab.get (fun _ => false) s.cmp.qualified src

/-- `s` with source `src` qualified or not. -/
def State.setQualified (s : State) (src : Nat) (b : Bool) : State :=
  { s with cmp := { s.cmp with qualified := Tab.set (fun _ => false) s.cmp.qualified src b } }

/-- The qualified source that stands highest in PRIO0 to PRIO3; 0 when none is (R433). -/
def State.bestSource (s : State) : Nat :=
  let prio := [s.fld F.CMP_SRCCFG_PRIO0 0, s.fld F.CMP_SRCCFG_PRIO1 0, s.fld F.CMP_SRCCFG_PRIO2 0, s.fld F.CMP_SRCCFG_PRIO3 0]
  (prio.find? fun p => p != 0 && s.qualified p).getD 0

/-- HOLDLIM may be set again once E stands at or below the limit (R443; log entry 8). -/
def State.relaxLimit (s : State) : State :=
  match s.errorBound with
  | none => s
  | some e => if e ≤ 1000 * s.fld F.CMP_HOLD_LIMIT_US 0 then { s with cmp := { s.cmp with overLimit := false } } else s

/-- A change of the followed source: SRCCHG and an event record of status OK from CMP (R433). -/
def State.noteSourceChange (s : State) : State := (s.setFld F.CMP_STAT_SRCCHG 0 1).event .ok pageCmp []

/-- A measurement of the followed source (R437, R438): the offset is removed by a step at the next ring block boundary or by
slewing; a large backward offset is slewed with REFUSED and a LIMIT event. Compass is LOCKED when the offset lies within the
source's accuracy. -/
def State.measure (s : State) (o : Int) : State :=
  let limit : Int := 1000000 * (s.fld F.CMP_SRCCFG_STEP_MS 0 : Nat)
  let first := !s.cmp.timeSet
  let step : Bool := (first && decide (1000 < o)) || (!first && decide (limit < o))
  let refused : Bool := !first && decide (o < -limit)
  let locked : Bool := o.natAbs ≤ s.srcAccuracy s.cmp.src
  let s1 := { s with cmp := { s.cmp with
    offsetNs := o, timeSet := true, stepBy := if step then some o.toNat else s.cmp.stepBy,
    state := if locked then .locked else .acquiring } }
  let s2 := if refused then (s1.setFld F.CMP_STAT_REFUSED 0 1).event .limit pageCmp [] else s1
  s2.relaxLimit

/-- The best qualified source followed; `o` is the offset of a source that takes over (R433). -/
def State.follow (s : State) (o : Int) : State :=
  let b := s.bestSource
  if b = s.cmp.src then s
  else if b = 0 then
    let e := (s.errorBound).getD 0
    let st : CmpState := match s.cmp.state with
      | .locked => .holdover
      | .holdover => .holdover
      | _ => .freerun
    { s with cmp := { s.cmp with src := 0, state := st, e0 := e, eSince := s.cmpNs } }.noteSourceChange
  else ({ s with cmp := { s.cmp with src := b } }.measure o).noteSourceChange

/-- FRAM_SECONDS_WRITE (R432): the seconds of the counter go to the ferroelectric RAM. -/
def framSecondsWrite (s : State) : State :=
  if s.cmp.running then { s with cmp := { s.cmp with framSec := s.cmp.sec } } else s

/-- Whether a source may qualify now: PTP needs its port in service with PTP enabled and announces of the PTP timescale
(R434); PPS_IN with TIME_SET = 0 needs a host write of the time (R435); the Guyline parent needs a parent. -/
def State.mayQualify (s : State) (src : Nat) (tai : Bool) : Bool :=
  s.cmp.running &&
  (((src == 1 || src == 2) && tai && s.serves (domEth (src - 1)) && s.flag F.ETH_CFG_EN (src - 1) &&
      s.flag F.ETH_CFG_PTP (src - 1)) ||
   (src == 3 && (s.cmp.timeSet || s.cmp.ppsDated)) || (src == 4 && s.cmp.hasParent))

/-- A valid measurement of a source: its qualification time runs from the first (R433). -/
def State.noteValid (s : State) (src : Nat) : State :=
  if (Tab.get (fun _ => none) s.cmp.valid src).isSome then s
  else { s with cmp := { s.cmp with valid := Tab.set (fun _ => none) s.cmp.valid src (some s.cmpNs) } }

/-- Whether a source has given valid measurements for QUAL_S seconds (R433). -/
def State.longValid (s : State) (src : Nat) : Bool :=
  match Tab.get (fun _ => none) s.cmp.valid src with
  | none => false
  | some t => decide (t + s.fld F.CMP_SRCCFG_QUAL_S 0 * 1000000000 ≤ s.cmpNs)

/-- SOURCE_QUALIFY (R433, R437): a source qualifies after QUAL_S seconds of valid measurements and takes over when it stands higher than the followed
one. -/
def sourceQualify (src : Nat) (offsetNs : Int) (tai : Bool) (s : State) : State :=
  if s.mayQualify src tai && s.longValid src then (s.setQualified src true).follow offsetNs else s

/-- SOURCE_LOST (R433): the next qualified source, whose offset is given, takes over, or Compass enters HOLDOVER or FREERUN. -/
def sourceLost (src : Nat) (offsetNs : Int) (s : State) : State :=
  let s1 := { s with cmp := { s.cmp with valid := Tab.set (fun _ => none) s.cmp.valid src none } }
  (s1.setQualified src false).follow offsetNs

/-- COMPASS_STEP (R440): the pending forward step takes effect at a block boundary; never backwards (R430). -/
def compassStep (s : State) : State :=
  let clear := { s with cmp := { s.cmp with stepBy := none, stepTo := none } }
  let size := match s.cmp.stepBy, s.cmp.stepTo with
    | some d, _ => some d
    | none, some t => if s.cmpNs < t * 1000000000 then some (t * 1000000000 - s.cmpNs) else none
    | none, none => none
  match size with
  | none => clear
  | some d =>
    let s1 := (clear.setCmpNs (s.cmpNs + d)).setFld F.CMP_STAT_STEPPED 0 1
    ({ s1 with cmp := { s1.cmp with timeSet := true, offsetNs := 0,
                                    eSince := if s1.cmp.state = CmpState.freerun then s.cmpNs + d else s1.cmp.eSince } }).event .ok pageCmp [(8, d)]

/-- `c` set at a time: in FREERUN E grows from 0 from then on, in HOLDOVER it keeps its start (R442) (log entry 160). -/
def setBound (c : Compass) (ns : Nat) : Compass := if c.state = CmpState.freerun then { c with e0 := 0, eSince := ns } else c

/-- The seconds a write of CMP_SETHI gives, with CMP_SETLO (R435, R438). -/
def State.setSeconds (s : State) (value : Word) : Nat := getBits value 0 16 * 2 ^ 32 + (s.reg .CMP_SETLO 0).toNat

/-- CMP_SET_STEP (R437, R438): STEP = 1 steps Compass forward to a whole second; with TIME_SET = 1 an earlier time is
refused with RESULT 2 and a DENIED event, with TIME_SET = 0 it is slewed to (log entry 9). -/
def State.setStepBy (s : State) (who : Who) (value : Word) : State :=
  s.gated who .CMP_SETHI 0 fun s =>
    let s1 := s.setFld F.CMP_SETHI_SEC_HI 0 (getBits value 0 16)
    let t := s.setSeconds value
    if t * 1000000000 < s.cmpNs ∧ s.cmp.timeSet = true then
      ((s1.setFld F.CMP_SETHI_RESULT 0 2).setFld F.CMP_STAT_REFUSED 0 1).event .denied pageCmp []
    else
      let s2 := s1.setFld F.CMP_SETHI_RESULT 0 0
      if s.cmpNs + 1000 < t * 1000000000 then { s2 with cmp := { setBound s2.cmp (t * 1000000000) with stepTo := some t, timeSet := true } }
      else { s2 with cmp := { setBound s2.cmp s.cmpNs with timeSet := true, offsetNs := (t * 1000000000 : Nat) - (s.cmpNs : Int) } }

def cmpSetStep (value : Word) (s : State) : State := s.setStepBy .host value

/-- CMP_SET_PPS (R435): the time of the next PPS_IN edge. -/
def State.setPpsBy (s : State) (who : Who) (value : Word) : State :=
  s.gated who .CMP_SETHI 0 fun s =>
    let s1 := (s.setFld F.CMP_SETHI_SEC_HI 0 (getBits value 0 16)).setFld F.CMP_SETHI_RESULT 0 1
    { s1 with cmp := { s1.cmp with ppsSet := some (s.setSeconds value), ppsDated := true } }

def cmpSetPps (value : Word) (s : State) : State := s.setPpsBy .host value

/-- PPS_IN_EDGE (R435, R437): the edge falls on the second the host gave, or on the nearest whole second. It measures while PPS_IN is followed;
with no source followed and TIME_SET = 0 the dated edge sets the counter. -/
def ppsInEdge (s : State) : State :=
  if s.cmp.running = false then s
  else
    let near := (s.cmpNs + 500000000) / 1000000000
    let t := s.cmp.ppsSet.getD near
    let o : Int := (t * 1000000000 : Nat) - (s.cmpNs : Int)
    let s1 := if s.cmp.ppsSet.isSome then
        { s.setFld F.CMP_SETHI_RESULT 0 0 with cmp := { s.cmp with ppsSet := none } } else s
    let s1 := s1.noteValid 3
    if s.cmp.src = 3 then s1.measure o
    else if s.cmp.timeSet = false ∧ s.cmp.ppsSet.isSome = true then
      { s1 with cmp := { setBound s1.cmp s.cmpNs with timeSet := true, offsetNs := o, stepBy := if 1000 < o then some o.toNat else s1.cmp.stepBy } }
    else s1

/-- PPS_SET_TIMEOUT (R435): no edge within 2 s of a PPS set. -/
def ppsSetTimeout (s : State) : State :=
  if s.cmp.ppsSet.isSome then { s.setFld F.CMP_SETHI_RESULT 0 3 with cmp := { s.cmp with ppsSet := none } } else s

/-- PTP_MESSAGE (R434): a timestamped event message of a port is a valid measurement, which counts while that port is followed; CMP_UTC takes
the announced TAI − UTC. -/
def ptpMessage (port : Nat) (offsetNs : Int) (taiUtc : Option Nat) (s : State) : State :=
  if s.serves (domEth port) && s.flag F.ETH_CFG_EN port && s.flag F.ETH_CFG_PTP port then
    let s0 := s.noteValid (port + 1)
    if s.cmp.src = port + 1 then
      let s1 := s0.measure offsetNs
      match taiUtc with
      | none => s1
      | some u => s1.setFld F.CMP_UTC_TAI_UTC 0 u
    else s0
  else s

/-- HOLDOVER_LIMIT (R443): a known E exceeds LIMIT_US; the event is detection 11 (log entry 8). -/
def holdoverLimit (s : State) : State :=
  match s.errorBound with
  | none => s
  | some e =>
    if 1000 * s.fld F.CMP_HOLD_LIMIT_US 0 < e ∧ s.cmp.overLimit = false then
      let s1 := s.setFld F.CMP_STAT_HOLDLIM 0 1
      let s2 := { s1 with cmp := { s1.cmp with overLimit := true } }.bumpDetection 11
      s2.event .limit pageCmp [(4, 0), (4, 11)]
    else s

/-- Whether Compass stands within 10 ns of an instant of its second. -/
def State.nearNs (s : State) (t : Nat) : Bool := decide ((s.cmp.ns + 10 + 1000000000 - t % 1000000000) % 1000000000 ≤ 20)

/-- PPS_OUT_PULSE (R445): with EN = 1 PPS_OUT rises within 10 ns of a whole second and falls WIDTH ms later. -/
def ppsOutPulse (level : Bool) (s : State) : State :=
  if s.nearNs (if level then 0 else 1000000 * s.fld F.CMP_PPSOUT_WIDTH 0) && s.flag F.CMP_PPSOUT_EN 0 && s.pwr.mode != .off && !s.pins.clamped then { s with pins := { s.pins with ppsOut := level } } else s

/-- CMP_SHORT_S_READ (R430): a read latches CMP_NS and CMP_SEC_HI. -/
def cmpShortSRead (s : State) : State :=
  if s.hostPath then
    ((s.setReg .CMP_NS 0 (BitVec.ofNat 32 s.cmp.ns)).setReg .CMP_SEC_HI 0 (BitVec.ofNat 32 (s.cmp.sec / 2 ^ 32))).returns
      (BitVec.ofNat 64 (s.cmp.sec % 2 ^ 32))
  else s

/-- The stamp of the tracker CMP_ZCSEL selects (R446). -/
def State.zctStamp (s : State) : Stamp := Tab.get (fun _ => {}) s.cmp.zct (s.fld F.CMP_ZCSEL_FG 0)

/-- CMP_ZCT_S_READ (R446): a read latches CMP_ZCT_NS. -/
def cmpZctSRead (s : State) : State :=
  if s.hostPath then
    (s.setReg .CMP_ZCT_NS 0 (BitVec.ofNat 32 s.zctStamp.ns)).returns (BitVec.ofNat 64 s.zctStamp.s)
  else s

/-- What passes on an empty queue: Compass counts on by a free stretch of time (log entry 5). -/
def idle (s : State) : State :=
  if s.cmp.running then (s.setCmpNs (s.cmpNs + Config.elapsedNs s.free)).drew else s

/-! ## Meanings -/

def execFramSecondsWrite (s : State) : Host.Outcome State Fault Refusal := .next (framSecondsWrite s)

def execSourceQualify (src : Nat) (offsetNs : Int) (tai : Bool) (s : State) : Host.Outcome State Fault Refusal :=
  .next (sourceQualify src offsetNs tai s)

def execSourceLost (src : Nat) (offsetNs : Int) (s : State) : Host.Outcome State Fault Refusal :=
  .next (sourceLost src offsetNs s)

def execCompassStep (s : State) : Host.Outcome State Fault Refusal := .next (compassStep s)

def execCmpSetStep (value : Word) (s : State) : Host.Outcome State Fault Refusal := .next (cmpSetStep value s)

def execCmpSetPps (value : Word) (s : State) : Host.Outcome State Fault Refusal := .next (cmpSetPps value s)

def execPpsInEdge (s : State) : Host.Outcome State Fault Refusal := .next (ppsInEdge s)

def execPpsSetTimeout (s : State) : Host.Outcome State Fault Refusal := .next (ppsSetTimeout s)

def execPtpMessage (port : Nat) (offsetNs : Int) (taiUtc : Option Nat) (s : State) : Host.Outcome State Fault Refusal :=
  .next (ptpMessage port offsetNs taiUtc s)

def execHoldoverLimit (s : State) : Host.Outcome State Fault Refusal := .next (holdoverLimit s)

def execPpsOutPulse (level : Bool) (s : State) : Host.Outcome State Fault Refusal := .next (ppsOutPulse level s)

def execCmpShortSRead (s : State) : Host.Outcome State Fault Refusal := .next (cmpShortSRead s)

def execCmpZctSRead (s : State) : Host.Outcome State Fault Refusal := .next (cmpZctSRead s)

end Sys2Proof.Machine
end

