-- ==== Sys2Proof/Machine/Region.lean ====
section
/-! DEFINITION. What lies behind a handle for a program or a window: the channel records as their handle shows them (R171 to R173), contents the
spec leaves open, and the handles that units provide to the packs that own them (R351, R352). -/

namespace Sys2Proof.Machine

open Sys2Proof

/-! ## Channel records -/

/-- An integer as the natural of its `w`-bit two's complement. -/
def intBits (w : Nat) (x : Int) : Nat := (BitVec.ofInt w x).toNat

/-- The key of slot-table entry (j, k), and of MIMO entry (t, r) of carrier k. -/
def slotKey (j k : Nat) : Nat := j * 1024 + k
def mimoKey (k t r : Nat) : Nat := k * 16 + 4 * t + r

/-- A slot-table entry; (7, 0) was never measured (R172). -/
def recSlot (r : ChanRec) (j k : Nat) : Nat × Int := Tab.get (fun _ => (7, 0)) r.slots (slotKey j k)
def recConf (r : ChanRec) (j : Nat) : Nat := Tab.get (fun _ => 0) r.conf j
def recEras (r : ChanRec) (j : Nat) : Nat := Tab.get (fun _ => 0) r.eras j
def recGain (r : ChanRec) (k t i : Nat) : Int × Int := Tab.get (fun _ => (0, 0)) r.mimo (mimoKey k t i)

/-- A channel record by index. -/
def State.chanRec (s : State) (i : Nat) : Option ChanRec := Tab.get (fun _ => none) s.maps.recs i

/-- The uplink maps held for an address, newest first, and its downlink map. -/
def State.ulMaps (s : State) (a : Nat) : List ToneMap := Tab.get (fun _ => []) s.maps.ul a
def State.dlMap (s : State) (a : Nat) : Option ToneMap := Tab.get (fun _ => none) s.maps.dl a

/-- The uplink map in force. -/
def State.ulForce (s : State) (a : Nat) : Option ToneMap :=
  match s.ulMaps a with
  | [] => none
  | m :: _ => if m.retired.isNone then some m else none

/-! ## The record region -/

/-- Byte `n` of a number, least significant first. -/
def byteOf (v n : Nat) : Nat := v / 256 ^ n % 256

/-- Byte `o` of the header of a channel record (*Channel record header*). -/
def State.headByte (s : State) (r : ChanRec) (o : Nat) : Nat :=
  let tmid : Option ToneMap → Nat := fun m => match m with
    | none => 0
    | some x => 128 + x.tmid % 16
  if o < 2 then byteOf r.saddr o
  else if o = 2 then r.fg % 8
  else if o = 3 then r.txp0 % 4 + r.txp1 % 4 * 4 + (if r.two then 16 else 0) + (if r.pinned then 32 else 0)
  else if o < 8 then byteOf r.mstamp (o - 4)
  else if o = 8 then r.mconf % 256
  else if o = 9 then intBits 8 r.mexp
  else if o = 10 then tmid (s.ulForce r.saddr)
  else if o = 11 then tmid (s.dlMap r.saddr)
  else if o < 60 then byteOf (Tab.get (fun _ => 0) r.stamp ((o - 12) / 4)) ((o - 12) % 4)
  else if o < 72 then recConf r (o - 60) % 256
  else if o < 84 then recEras r (o - 72) % 256
  else if o < 828 then Tab.get (fun _ => 255) r.dlsum (o - 84) % 256
  else if o < 832 then byteOf r.dstamp (o - 828)
  else 0

/-- A slot-table entry (R172): LOAD in bits 15:13, SNR below. -/
def slotWord (e : Nat × Int) : Nat := e.1 % 8 * 2 ^ 13 + intBits 13 e.2

/-- A MIMO entry (R173): real part in the low half. -/
def gainWord (g : Int × Int) : Nat := intBits 16 g.1 + 2 ^ 16 * intBits 16 g.2

/-- Byte `o` of the record region; a record not in use reads 0 (log entry 137). -/
def State.regionByte (s : State) (o : Nat) : Nat :=
  match s.chanRec (o / 72448) with
  | none => 0
  | some r =>
    let q := o % 72448
    if q < 1024 then s.headByte r q
    else if q < 24832 then
      let e := (q - 1024) / 2
      byteOf (slotWord (recSlot r (e / 992) (e % 992 + 7))) (q % 2)
    else
      let e := (q - 24832) / 4
      byteOf (gainWord (recGain r (e / 12 + 7) (e % 12 / 4) (e % 4))) (q % 4)

/-- `n` bytes of the record region. -/
def State.regionBytes (s : State) (o : Nat) : Nat → List Byte
  | 0 => []
  | n + 1 => BitVec.ofNat 8 (s.regionByte o) :: s.regionBytes (o + 1) n

/-! ## Handles -/

/-- Whether the bytes behind a handle are left open by the spec: evidence (R299) and the trace buffer (log entry 88). -/
def State.openContents (s : State) (h : Nat) : Bool :=
  (s.fm.evid.any fun e => e.handle == h) || (h != 0 && h == (s.reg .DBG_TRACEH 0).toNat)

/-- `n` bytes whose contents the spec leaves open (log entry 88). -/
def State.openBytes (s : State) (h o : Nat) : Nat → List Byte
  | 0 => []
  | n + 1 => Config.openByte s.free h o :: s.openBytes h (o + 1) n

/-- `n` bytes of an object as a reader sees them: the record region, contents left open, or memory. -/
def State.peek (s : State) (h o n : Nat) : List Byte :=
  if h ≠ 0 ∧ h = (s.reg .MDM_MAPHANDLE 0).toNat then s.regionBytes o n
  else if s.openContents h then s.openBytes h o n
  else s.bytes h o n

/-- The rights of a pack on a handle that a unit it owns provides (R351, R352): the channel records, evidence and sample rings may be read
(log entry 159). -/
def State.moduleRights (s : State) (slot h : Nat) : Nat :=
  if h ≠ 0 ∧ ((h = (s.reg .MDM_MAPHANDLE 0).toNat ∧ s.packOwns slot pageMdm = true) ∨
      ((s.fm.evid.any fun e => e.handle == h) = true ∧ s.packOwns slot pageFm = true) ∨
      (((List.range 32).any fun n => (s.reg .GS_RINGH n).toNat == h) = true ∧ s.packOwns slot pageGs = true)) then 1 else 0

end Sys2Proof.Machine
end

