-- ==== Sys2Proof/Machine/Operands.lean ====
section
/-! DEFINITION. Operands of Idnas instructions (R348 to R358): the registers of a context, lanes of vectors and accumulators,
handles and offsets, field checks. -/

namespace Sys2Proof.Machine

open Sys2Proof

/-- Context `k` (engine × 4 + context). -/
def State.ctx (s : State) (k : Nat) : Ctx := Tab.get (fun _ => {}) s.prog.ctxs k

/-- `s` with context `k` replaced. -/
def State.setCtx (s : State) (k : Nat) (c : Ctx) : State :=
  { s with prog := { s.prog with ctxs := Tab.set (fun _ => {}) s.prog.ctxs k c } }

/-- The task of number `t`, where one has existed. -/
def State.task (s : State) (t : Nat) : Option Task := Tab.find s.prog.tasks t

/-- `s` with task `t` replaced. -/
def State.setTask (s : State) (t : Nat) (x : Task) : State :=
  { s with prog := { s.prog with tasks := Tab.put s.prog.tasks t x } }

/-- Scalar register `n`; s0 reads 0. -/
def State.sr (s : State) (k n : Nat) : DWord := if n = 0 then 0 else Tab.get (fun _ => 0) (s.ctx k).s n

/-- `s` with scalar register `n` written; a write to s0 is discarded. -/
def State.setSr (s : State) (k n : Nat) (v : DWord) : State :=
  if n = 0 then s else s.setCtx k { s.ctx k with s := Tab.set (fun _ => 0) (s.ctx k).s n v }

/-- Vector register `n`. -/
def State.vr (s : State) (k n : Nat) : Vec := Tab.get (fun _ => 0) (s.ctx k).v n

/-- `s` with vector register `n` written. -/
def State.setVr (s : State) (k n : Nat) (v : Vec) : State :=
  s.setCtx k { s.ctx k with v := Tab.set (fun _ => 0) (s.ctx k).v n v }

/-- Predicate register `n`; p0 reads all ones. -/
def State.pr (s : State) (k n : Nat) : DWord := if n = 0 then BitVec.allOnes 64 else Tab.get (fun _ => 0) (s.ctx k).p n

/-- `s` with predicate register `n` written; a write to p0 is discarded. -/
def State.setPr (s : State) (k n : Nat) (v : DWord) : State :=
  if n = 0 then s else s.setCtx k { s.ctx k with p := Tab.set (fun _ => 0) (s.ctx k).p n v }

/-- Accumulator `n`. -/
def State.ar (s : State) (k n : Nat) : BitVec 1536 := Tab.get (fun _ => 0) (s.ctx k).a n

/-- `s` with accumulator `n` written. -/
def State.setAr (s : State) (k n : Nat) (v : BitVec 1536) : State :=
  s.setCtx k { s.ctx k with a := Tab.set (fun _ => 0) (s.ctx k).a n v }

/-! ## Lanes -/

/-- Bits in a lane of element type `ty`: 0 C16 (real and imaginary part together), 1 H16, 2 S8. -/
def laneBits (ty : Nat) : Nat := if ty = 0 then 32 else if ty = 1 then 16 else 8

/-- Lanes of element type `ty` in a vector. -/
def laneCount (ty : Nat) : Nat := 512 / laneBits ty

/-- Lane `i` of width `w` as a natural. -/
def laneNat {n : Nat} (v : BitVec n) (w i : Nat) : Nat := v.toNat / 2 ^ (w * i) % 2 ^ w

/-- Lane `i` of width `w` in two's complement. -/
def laneInt {n : Nat} (v : BitVec n) (w i : Nat) : Int := (BitVec.ofNat w (laneNat v w i)).toInt

/-- The bit string whose `count` lanes of width `w` are given by `f`, lane 0 lowest. -/
def lanesNat (w : Nat) (f : Nat → Nat) : Nat → Nat
  | 0 => 0
  | n + 1 => lanesNat w f n + (f n % 2 ^ w) * 2 ^ (w * n)

/-- A vector of `count` lanes. -/
def buildVec (w count : Nat) (f : Nat → Nat) : Vec := BitVec.ofNat 512 (lanesNat w f count)

/-- The lanes of `new` where predicate bits are 1, of `old` where they are 0 (R359). -/
def mergeLanes (ty : Nat) (p : DWord) (old new : Vec) : Vec :=
  let w := laneBits ty
  buildVec w (laneCount ty) fun i => if p.getLsbD i then laneNat new w i else laneNat old w i

/-! ## Memory operands -/

/-- The effective offset of format M: s[o] + disp × size, modulo 2^40 (R358) (log entry 28). -/
def effOffset (base : DWord) (disp size : Nat) : Nat := (base.toNat + disp * size) % 2 ^ 40

/-- What a handle value names for the task of a context: its object, size, kind, rights (bit 0 read, bit 1 write), whether it
lies in the engine's local store, whether it is mirrored, and the places of its extents. -/
structure Target where
  obj : Nat
  size : Nat
  kind : HKind
  rights : Nat
  isLocal : Bool
  mirror : Bool
  spots : List Place
  deriving DecidableEq, Repr

/-- The rights a pack holds on a handle; 0 when it does not hold it. -/
def rightsOf (x : Handle) (slot : Nat) : Nat := ((x.holders.find? fun p => p.1 == slot).map Prod.snd).getD 0

/-- The object of the scratch of task `t`. -/
def scratchObj (t : Nat) : Nat := 2 ^ 32 + t

/-- The pseudo-channel of an offset in a handle on stack `n`: 256-byte interleave over 32 (R385). -/
def pcOf (n ofs : Nat) : Nat := n * 32 + ofs / 256 % 32

/-- The pseudo-channel of an offset at a placement, that of the first copy of a mirrored one: where both lie in the one stack left they take its halves
(R385, R409). -/
def Place.pc (ofs : Nat) : Place → Option Nat
  | .stack n => some (pcOf n ofs)
  | .mirrored n m => some (if n = m then n * 32 + ofs / 256 % 16 else pcOf n ofs)
  | _ => none

/-- The pseudo-channel of the second copy (R386, R409). -/
def Place.copy (ofs : Nat) : Place → Option Nat
  | .mirrored n m => some (if n = m then n * 32 + 16 + ofs / 256 % 16 else pcOf m ofs)
  | _ => none

/-- The stack a placement lies on. -/
def Place.onStack : Place → Option Nat
  | .stack n => some n
  | .mirrored n _ => some n
  | _ => none

/-- The stop of a placement: CS_n for the local store of an engine, MS_n for Canteen banks and stacks (*Stops and the units attached to
them*). -/
def Place.stop : Place → Nat
  | .store e => e / 16
  | .canteen b => 8 + b / 2
  | .stack n => 8 + n
  | .mirrored n _ => 8 + n

/-- The places of a handle, extent by extent: one GiB each (R385). -/
def Handle.spots (x : Handle) : List Place := x.place :: x.more

/-- The place of an offset in a target. -/
def Target.spot (y : Target) (ofs : Nat) : Place := y.spots.getD (ofs / 2 ^ 30) (y.spots.headD (.store 0))

/-- Handle value `h` as the task of context `k` sees it (R351, R352). -/
def State.target (s : State) (k t : Nat) (x : Task) (h : Nat) : Option Target :=
  if h = 0 then some ⟨scratchObj t, x.scratch, .data, 3, true, false, []⟩
  else match s.handle h with
    | none => none
    | some y =>
      let rights := rightsOf y x.slot ||| s.moduleRights x.slot h
      if rights = 0 then none
      else some ⟨h, y.size, y.kind, rights, y.place == .store (k / 4), y.mirror, Handle.spots y⟩

end Sys2Proof.Machine
end

