-- ==== Sys2Proof/Machine/Fabric.lean ====
section
/-! DEFINITION. The Ridge fabric (chapter 01): tags and their quotas, credits, pseudo-channel slots. -/

namespace Sys2Proof.Machine

open Sys2Proof

/-- The tag quota of initiator `i` (*Fabric tag quotas*): engines 0 to 127, FEC 128 to 135, XF 136 to 139, CRY 140 to 143,
PCI Express 144, Pitch 145, line-port slices 146, Ethernet and Guyline 147. -/
def tagQuota (i : Nat) : Nat :=
  if i < 128 then 24 else if i < 136 then 32 else if i < 140 then 32 else if i < 144 then 16
  else if i = 144 then 256 else if i = 145 then 128 else if i = 146 then 128 else if i = 147 then 64 else 0

/-- The domain whose retirement removes the quota of initiator `i` from the book (R472). -/
def tagDomain (i : Nat) : Option Nat :=
  if i < 140 then some i else if i < 144 then some (domCry (i - 140)) else none

/-- The tags of the book: 4 096 less the quotas of retired initiators (R27, R472). -/
def State.tagTotal (s : State) : Nat :=
  4096 - (((List.range 144).filter fun i => match tagDomain i with
    | some d => s.isRetired d
    | none => false).map tagQuota).sum

/-- Tags held by initiator `i`. -/
def State.tagsHeld (s : State) (i : Nat) : Nat := Tab.get (fun _ => 0) s.fab.held i

/-- Fabric tags free now (SYS_TAG_FREE.FREE). -/
def State.tagsFree (s : State) : Nat := s.tagTotal - (s.fab.held.map Prod.snd).sum

/-- Whether initiator `i` has a tag of its quota left (R27). -/
def State.hasTag (s : State) (i : Nat) : Bool := s.tagsHeld i < tagQuota i

/-- The low-water mark of SYS_TAG_FREE lowered to the tags free now. -/
def State.noteLow (s : State) : State :=
  if s.tagsFree < s.fld F.SYS_TAG_FREE_LOW 0 then s.setFld F.SYS_TAG_FREE_LOW 0 s.tagsFree else s

/-- `s` with the tags of initiator `i` replaced, the low-water mark of SYS_TAG_FREE kept. -/
def State.setTags (s : State) (i n : Nat) : State :=
  { s with fab := { s.fab with held := Tab.set (fun _ => 0) s.fab.held i n } }.noteLow

/-- Transactions admitted to pseudo-channel `p` (R29). -/
def State.pcBusy (s : State) (p : Nat) : Nat := Tab.get (fun _ => 0) s.fab.pcBusy p

/-- `s` with the occupation of pseudo-channel `p` replaced. -/
def State.setPcBusy (s : State) (p n : Nat) : State :=
  { s with fab := { s.fab with pcBusy := Tab.set (fun _ => 0) s.fab.pcBusy p n } }

/-- The key of a channel (0 request, 1 response) of the directed link from stop `a` to stop `b`; stops are numbered CS_0 to
CS_7, MS_0 to MS_3, SS_0 to SS_3. -/
def linkKey (a b ch : Nat) : Nat := (a * 16 + b) * 2 + ch

/-- The credits of a channel (R30). -/
def linkCredits : Nat := 8

/-- Buffers of a link channel that hold a transfer, and credits on their way back to its sender. -/
def State.occupied (s : State) (l : Nat) : Nat := Tab.get (fun _ => 0) s.fab.occupied l
def State.returning (s : State) (l : Nat) : Nat := Tab.get (fun _ => 0) s.fab.returning l

/-- Credits the sender of a link channel holds: those neither occupied nor returning (R32). -/
def State.creditsHeld (s : State) (l : Nat) : Nat := linkCredits - (s.occupied l + s.returning l)

/-- Credits of a link channel that its sender does not hold. -/
def State.creditsUsed (s : State) (l : Nat) : Nat := s.occupied l + s.returning l

/-- `n` transfers sent on a channel, as far as the sender holds credits: each takes a credit and a buffer. -/
def State.sendOn (s : State) (l n : Nat) : State :=
  { s with fab := { s.fab with occupied := Tab.set (fun _ => 0) s.fab.occupied l (s.occupied l + min n (s.creditsHeld l)) } }

/-- `n` buffers of a channel freed: their credits return to the sender (R30). -/
def State.freeBufs (s : State) (l n : Nat) : State :=
  { s with fab := { s.fab with
      occupied := Tab.set (fun _ => 0) s.fab.occupied l (s.occupied l - min n (s.occupied l)),
      returning := Tab.set (fun _ => 0) s.fab.returning l (s.returning l + min n (s.occupied l)) } }

/-- The buffers of the channel a transfer comes from freed, where it comes from one. -/
def State.freeBack (s : State) (l : Option Nat) (n : Nat) : State :=
  match l with
  | none => s
  | some l => s.freeBufs l n

/-- Whether the link between two stops carries no transfers: it is retired, or under test (R470, R473). -/
def State.linkOut (s : State) (a b : Nat) : Bool :=
  let n := 0x100 + Config.linkNo (min a b) (max a b) % 120
  s.isRetired n || s.rel.running.any fun t => t.target == TestUnit.unit n

/-- The Ridge links of a stop, as REL_UNITSEL names them. -/
def stopLinks (a : Nat) : List Nat :=
  ((List.range 16).filter fun b => b != a).map fun b => 0x100 + Config.linkNo (min a b) (max a b) % 120

/-- The stop a transfer from stop `a` to stop `b` goes to first: `b`, or a third stop where their link carries no transfers (R473). -/
def State.firstStop (s : State) (a b : Nat) : Nat :=
  if s.linkOut a b then
    (pickFrom ((List.range 16).filter fun c => c != a && c != b && !s.linkOut a c && !s.linkOut c b)
      (Config.placement s.free s.fab.nextId)).getD b
  else b

/-- The channels from stop `a` to stop `b`: one link, or two through a third stop; none within one stop (R30, R473). -/
def State.links (s : State) (a b ch : Nat) : List Nat :=
  if a = b then []
  else
    let c := s.firstStop a b
    if c = b then [linkKey a b ch] else [linkKey a c ch, linkKey c b ch]

/-- The stop of initiator `i`: CS_n for engines and FEC_n, SS_0 for XF and the line-port slices, SS_1 for CRY, SS_2 for Pitch, SS_3 for
PCI Express, Ethernet and Guyline (*Stops and the units attached to them*). -/
def initStop (i : Nat) : Nat :=
  if i < 128 then i / 16 else if i < 136 then i - 128 else if i < 140 then 12 else if i < 144 then 13
  else if i = 145 then 14 else if i = 146 then 12 else 15

/-- Whether a stack takes transactions: it serves, and is not being retrained (R402). -/
def State.stackOpen (s : State) (n : Nat) : Bool := Tab.get (fun _ => .off) s.plc.hbm n = .serving

/-- Whether the request of a transaction has reached its stop. -/
def Txn.arrived (x : Txn) : Bool := x.left.isEmpty

/-- The oldest transaction that waits at its memory stop for pseudo-channel `p`. -/
def State.oldestWaiting (s : State) (p : Nat) : Option Txn :=
  s.fab.flight.find? fun x => x.pc == some p && Txn.arrived x && !x.admitted

/-- Whether a transaction that reaches its stop is admitted as it comes: its pseudo-channel has a slot, its stack takes transactions, and no
older one waits there (R29); one that goes to no stack needs no slot. -/
def State.slotFree (s : State) : Option Nat → Bool
  | none => true
  | some p => s.pcBusy p < 32 && s.stackOpen (p / 32) && (s.oldestWaiting p).isNone

/-- `s` with a slot of the pseudo-channel taken where a transaction is admitted. -/
def State.takeSlot (s : State) (pc : Option Nat) : State :=
  match pc with
  | none => s
  | some p => if s.slotFree (some p) then s.setPcBusy p (s.pcBusy p + 1) else s

/-- The request of a transaction moved on as far as credits allow: on the first channel it has still to cross it sends the transfers that
find a credit and frees the buffers they leave; when the last has been sent, the next channel follows; at its stop the buffers are freed
and a slot is taken where one is free (R29, R30; log entry 161). -/
def State.push (s : State) (x : Txn) : List Nat → State × Txn
  | [] =>
    let s1 := s.freeBack x.back x.reqN
    (s1.takeSlot x.pc, { x with left := [], moved := 0, back := none, admitted := s1.slotFree x.pc })
  | l :: t =>
    let n := min (s.creditsHeld l) (x.reqN - x.moved)
    let s1 := (s.sendOn l n).freeBack x.back n
    if x.moved + n < x.reqN then (s1, { x with left := l :: t, moved := x.moved + n })
    else s1.push { x with moved := 0, back := some l } t

/-- A transaction put in flight: the initiator draws a tag and the request moves on as far as credits allow (R27, R30). `a` is the stop it
goes to, `reqN` and `respN` its transfers. -/
def State.startTxn (s : State) (init : Nat) (pc : Option Nat) (a reqN respN : Nat) (kind : TxnKind) : State :=
  let s1 := s.setTags init (s.tagsHeld init + 1)
  let left := s.links (initStop init) a 0
  let r := s1.push { id := s.fab.nextId, init := init, pc := pc, admitted := false, reqN := reqN, respN := respN, left := left,
                     moved := 0, back := none, resp := s.links a (initStop init) 1, kind := kind } left
  { r.1 with fab := { r.1.fab with nextId := s.fab.nextId + 1, flight := r.1.fab.flight ++ [r.2] } }

/-- The buffers the request of a transaction occupies freed. -/
def State.freeRequest (s : State) (x : Txn) : State :=
  match x.left with
  | [] => s
  | l :: _ => (s.freeBufs l x.moved).freeBack x.back (x.reqN - x.moved)

/-- A transaction ended: its tag returns to its initiator's quota, its slot is freed and the credits of the buffers it occupies return to
their links (R31). -/
def State.land (s : State) (x : Txn) : State :=
  let s1 := (s.setTags x.init (s.tagsHeld x.init - 1)).freeRequest x
  let s2 := match x.pc with
    | some p => if x.admitted then s1.setPcBusy p (s1.pcBusy p - 1) else s1
    | none => s1
  { s2 with fab := { s2.fab with flight := s2.fab.flight.filter fun y => y.id != x.id } }

/-- The transactions of a list that initiator `i` drew abandoned: their tags and credits return (R31). -/
def State.landAll (s : State) (i : Nat) : List Txn → State
  | [] => s
  | x :: t => (if x.init = i then s.land x else s).landAll i t

/-- Whether the response of a transaction finds the credits it needs on every channel it crosses; it waits behind no request (R19, R30). -/
def State.mayAnswer (s : State) (x : Txn) : Bool := x.resp.all fun l => decide (x.respN ≤ s.creditsHeld l)

/-- The response crosses its channels: each transfer takes a credit and a buffer on each, which is freed as the transfer moves on (R30). The
initiator has room for all of it (R28). -/
def State.respond (s : State) (n : Nat) : List Nat → State
  | [] => s
  | l :: t => ((s.sendOn l n).freeBufs l n).respond n t

/-- A transaction of initiator `i` that begins and ends within one command: a tag is drawn and returned, which the low-water mark of
SYS_TAG_FREE sees (R27; log entry 162). -/
def State.touchTag (s : State) (i : Nat) : State :=
  if s.hasTag i then (s.setTags i (s.tagsHeld i + 1)).setTags i (s.tagsHeld i) else s

/-! ## The books (R31, R32) -/

/-- The buffers of channel `l` that the transactions in flight occupy. -/
def State.bufsOf (s : State) (l : Nat) : Nat :=
  (s.fab.flight.map fun x =>
    (if x.left.head? = some l then x.moved else 0) + (if x.back = some l ∧ x.left ≠ [] then x.reqN - x.moved else 0)).sum

/-- The tags that the transactions of initiator `i` hold. -/
def State.tagsOf (s : State) (i : Nat) : Nat := (s.fab.flight.filter fun x => x.init == i).length

/-- The slots of pseudo-channel `p` that admitted transactions occupy. -/
def State.pcSlots (s : State) (p : Nat) : Nat := (s.fab.flight.filter fun x => x.pc == some p && x.admitted).length

/-- Whether the tag book of initiator `i` balances: it holds the tags of its transactions, within its quota (R32). -/
def State.tagBook (s : State) (i : Nat) : Bool := s.tagsHeld i == s.tagsOf i && decide (s.tagsHeld i ≤ tagQuota i)

/-- Whether the credit book of a link channel balances (R32). -/
def State.creditBook (s : State) (l : Nat) : Bool := s.occupied l == s.bufsOf l && decide (s.creditsUsed l ≤ linkCredits)

/-- Whether the slot book of a pseudo-channel balances (R32). -/
def State.slotBook (s : State) (p : Nat) : Bool := s.pcBusy p == s.pcSlots p && decide (s.pcBusy p ≤ 32)

/-- The link channels and pseudo-channels some book says something about. -/
def State.openLinks (s : State) : List Nat :=
  s.fab.occupied.map Prod.fst ++ s.fab.returning.map Prod.fst ++ s.fab.flight.flatMap fun x => x.left ++ x.back.toList

/-- Whether every book of the fabric balances (R32). -/
def State.booksBalance (s : State) : Bool :=
  ((s.fab.held.map Prod.fst ++ s.fab.flight.map Txn.init).all s.tagBook) && s.openLinks.all s.creditBook &&
  (s.fab.pcBusy.map Prod.fst ++ s.fab.flight.filterMap Txn.pc).all s.slotBook

/-- The books of a list of initiators recounted: each holds the tags of its transactions in flight. -/
def State.recountTags (s : State) : List Nat → State
  | [] => s
  | i :: t => (s.setTags i (s.tagsOf i)).recountTags t

/-- The buffers of a list of channels recounted; the credits in flight are back with their senders. -/
def State.recountLinks (s : State) : List Nat → State
  | [] => s
  | l :: t =>
    { s with fab := { s.fab with
        occupied := Tab.set (fun _ => 0) s.fab.occupied l (min linkCredits (s.bufsOf l)),
        returning := Tab.set (fun _ => 0) s.fab.returning l 0 } }.recountLinks t

/-- The slots of a list of pseudo-channels recounted. -/
def State.recountSlots (s : State) : List Nat → State
  | [] => s
  | p :: t => (s.setPcBusy p (min 32 (s.pcSlots p))).recountSlots t

/-- The books recounted to their totals (R466 row 14). -/
def State.recount (s : State) : State :=
  ((s.recountTags (List.range 148)).recountLinks s.openLinks).recountSlots (s.fab.pcBusy.map Prod.fst)

/-- The initiator that is the unit of domain `i`. -/
def domInit (i : Nat) : Option Nat :=
  if i < 140 then some i else if 194 ≤ i ∧ i < 198 then some (i - 54) else if i = domPcie then some 144 else none

/-- Pitch's audit of the tag and credit books of the unit of domain `i` as it reports DRAINED: a discrepancy is a detected error (R31). -/
def State.audit (s : State) (i : Nat) : State :=
  match domInit i with
  | none => s
  | some n =>
    if s.tagsHeld n = s.tagsOf n ∧ s.openLinks.all s.creditBook = true then s
    else s.recount.detectTest 14 i (.unit i) none

/-- TAG_WAIT_RESUME (R27): the initiator's oldest waiting context proceeds when a tag of its quota is free; its instruction
issues again. -/
def tagWaitResume (init : Nat) (s : State) : State :=
  if s.hasTag init = false then s
  else match s.fab.waiting.find? fun p => p.1 == init with
    | none => s
    | some (_, k) =>
      let s1 := { s with fab := { s.fab with waiting := s.fab.waiting.erase (init, k) } }
      s1.setCtx k { s1.ctx k with wait := .running }

/-- A transaction in flight replaced by its number. -/
def State.setTxn (s : State) (x : Txn) : State :=
  { s with fab := { s.fab with flight := s.fab.flight.map fun y => if y.id = x.id then x else y } }

/-- PSEUDO_CHANNEL_ADMIT (R29): the oldest transaction that waits at its memory stop is admitted when a slot is free. -/
def pseudoChannelAdmit (pc : Nat) (s : State) : State :=
  if s.pcBusy pc < 32 ∧ s.stackOpen (pc / 32) = true then
    match s.oldestWaiting pc with
    | none => s
    | some x => (s.setTxn { x with admitted := true }).setPcBusy pc (s.pcBusy pc + 1)
  else s

/-- The requests of a list that wait on channel `l` moved on, oldest first, while its sender holds a credit. -/
def State.pushWaiting (s : State) (l : Nat) : List Txn → State
  | [] => s
  | x :: t =>
    (if x.left.head? = some l then
      let r := s.push x x.left
      r.1.setTxn r.2
     else s).pushWaiting l t

/-- CREDIT_RETURN (R30): a credit on its way reaches the sender of its channel, whose waiting requests move on oldest first. -/
def creditReturn (link : Nat) (s : State) : State :=
  if s.returning link = 0 then s
  else
    let s1 := { s with fab := { s.fab with returning := Tab.set (fun _ => 0) s.fab.returning link (s.returning link - 1) } }
    s1.pushWaiting link s1.fab.flight

/-- The REL_UNITSEL value of a Ridge link (KIND 1). -/
def selLink (l : Nat) : Nat := 0x100 + l

/-- LINK_HANDSHAKE_TIMEOUT (R18): detection 4; the link is tested, then the unit that did not answer. -/
def linkHandshakeTimeout (link : Nat) (unit : Option Nat) (s : State) : State :=
  s.detectTest 4 (selLink link) (.unit (selLink link)) unit

/-- SYS_TAG_FREE_READ (R27): the read returns LOW and FREE, and sets LOW to FREE. -/
def sysTagFreeRead (who : Who) (s : State) : State :=
  if s.readable who .SYS_TAG_FREE 0 = false then s.returns 0
  else (s.setFld F.SYS_TAG_FREE_LOW 0 s.tagsFree).returns
    (BitVec.ofNat 64 (s.fld F.SYS_TAG_FREE_LOW 0 * 2 ^ 16 + s.tagsFree))

/-! ## Meanings -/

def execTagWaitResume (init : Nat) (s : State) : Host.Outcome State Fault Refusal := .next (tagWaitResume init s)

def execPseudoChannelAdmit (pc : Nat) (s : State) : Host.Outcome State Fault Refusal := .next (pseudoChannelAdmit pc s)

def execCreditReturn (link : Nat) (s : State) : Host.Outcome State Fault Refusal := .next (creditReturn link s)

def execLinkHandshakeTimeout (link : Nat) (unit : Option Nat) (s : State) : Host.Outcome State Fault Refusal :=
  .next (linkHandshakeTimeout link unit s)

def execSysTagFreeRead (who : Who) (s : State) : Host.Outcome State Fault Refusal := .next (sysTagFreeRead who s)

end Sys2Proof.Machine
end

