-- ==== Sys2Proof/Machine/Bedroll.lean ====
section
/-! DEFINITION. Bedroll (chapter 19): submission, programming and commitment of records, segments, compaction, saving the
journaled registers. What a landed record brings about is in `Machine.Landing`. -/

namespace Sys2Proof.Machine

open Sys2Proof

/-- The journal's segments. -/
def segCount : Nat := 16112

/-- Segment `k`. -/
def State.seg (s : State) (k : Nat) : Seg := Tab.get (fun _ => {}) s.bed.segs k

/-- `s` with segment `k` replaced. -/
def State.setSeg (s : State) (k : Nat) (x : Seg) : State :=
  { s with bed := { s.bed with segs := Tab.set (fun _ => {}) s.bed.segs k x } }

/-- Whether records of a kind are mirrored on both dies (*Record kinds*). -/
def recMirrored (kind : Nat) : Bool := 3 ≤ kind && kind ≤ 8

/-- The waiting record that is wholly programmed and awaits its commit record. -/
def State.programmed (s : State) : Option Waiting := s.bed.waiting.find? fun w => w.record.pieces ≤ w.done

/-- The first waiting record of the best priority (R483) (log entry 24). -/
def bestWaiting : List Waiting → Option Waiting
  | [] => none
  | w :: t => match bestWaiting t with
    | none => some w
    | some v => if w.prio ≤ v.prio then some w else some v

/-- A waiting record replaced, by its sequence number and copy mark. -/
def replaceWaiting (w : Waiting) : List Waiting → List Waiting
  | [] => []
  | x :: t => if x.record.rseq = w.record.rseq ∧ x.record.copy = w.record.copy then w :: t else x :: replaceWaiting w t

/-- Every waiting record but `w` set back to its first piece: a preempted record is programmed again (R482, R483). -/
def setBack (w : Waiting) (ws : List Waiting) : List Waiting :=
  ws.map fun x => if x.record.rseq = w.record.rseq ∧ x.record.copy = w.record.copy then x else { x with done := 0 }

/-- The die of a segment: which of the two a block lies on is the model's choice (log entry 207). -/
def dieOf (k : Nat) : Nat := k % 2

/-- The dies a record of a kind is programmed on (R481). -/
def diesOf (kind : Nat) : List Nat := if recMirrored kind then [0, 1] else [0]

/-- The payload bytes of a record, where *Record kinds* gives them (R480); a wrapped lifecycle record and what the spec gives no format fill their
pieces (log entry 207). -/
def payloadLen : Payload → Option Nat
  | .registers pairs => some (8 * pairs.length)
  | .calibration _ _ _ _ coefs => some (8 + 4 * coefs.length)
  | .checkpoint _ _ _ _ nodes => some (128 + 16 * nodes.length)
  | .ledger lines => some (48 * lines.length)
  | .retirement _ _ _ => some 12
  | .classState bytes => some bytes.length
  | .baseline _ _ => none
  | .classes _ _ => none
  | .lifecycle _ => none
  | .ownership _ _ => none

/-- The 4 KiB pages a record takes: its 48-byte header and its payload, padded to whole pages, in its pieces of 16 KiB (R480, R482). -/
def recPages (r : JRec) : Nat :=
  match payloadLen r.payload with
  | some n => min (4 * r.pieces) (max (4 * r.pieces - 3) ((48 + n + 4095) / 4096))
  | none => 4 * r.pieces

/-- RECORD_SUBMIT (R480, R483): a record of a payload of at most 64 KiB waits by its priority. -/
def recordSubmit (kind key key2 : Nat) (payload : Payload) (pieces : Nat) (s : State) : State :=
  if 1 ≤ kind ∧ kind ≤ 8 ∧ 1 ≤ pieces ∧ pieces ≤ 5 then s.submit kind key key2 payload pieces else s

/-- The first free segment of a die, of index `k` or above, that nothing has been recorded of. -/
def firstUntouched (t : Tab Seg) (die : Nat) : Nat → Nat → Option Nat
  | 0, _ => none
  | n + 1, k => if dieOf k = die ∧ (Tab.find t k).isNone then some k else firstUntouched t die n (k + 1)

/-- The listed free segment of a die with the fewest erases. -/
def leastErased (die : Nat) : Tab Seg → Option (Nat × Nat)
  | [] => none
  | (k, x) :: t =>
    if dieOf k = die ∧ x.state = .free then
      match leastErased die t with
      | none => some (k, x.erases)
      | some (j, e) => if x.erases ≤ e then some (k, x.erases) else some (j, e)
    else leastErased die t

/-- The free segment the next open one of a die is placed on: the fewest erases (*Endurance*). -/
def State.freshSeg (s : State) (die : Nat) : Nat :=
  match firstUntouched s.bed.segs die segCount 0 with
  | some k => k
  | none => match leastErased die s.bed.segs with
    | some (k, _) => k
    | none => die

/-- The open segment of a die (R482). -/
def State.openSeg (s : State) (die : Nat) : Nat := Tab.get (fun d => d) s.bed.openSegs die

/-- A new segment of a die opened on free space. -/
def State.openFresh (s : State) (die : Nat) : State :=
  let k := s.freshSeg die
  let s1 := s.setSeg k { s.seg k with state := .opened, pages := 0 }
  { s1 with bed := { s1.bed with openSegs := Tab.set (fun d => d) s1.bed.openSegs die k } }

/-- Room made for `n` pages on a die: the open segment is sealed when its 63 record pages cannot take them. -/
def State.roomFor (s : State) (die n : Nat) : State :=
  let k := s.openSeg die
  let x := s.seg k
  if x.state = .opened ∧ x.pages + n ≤ 63 then s
  else if x.state = .opened then (s.setSeg k { x with state := .closed }).openFresh die
  else s.openFresh die

/-- `n` pages taken on each die of a list, one after the other. -/
def State.takePages (s : State) (n : Nat) : List Nat → State
  | [] => s
  | d :: t =>
    let s1 := s.roomFor d n
    let k := s1.openSeg d
    (s1.setSeg k { s1.seg k with pages := (s1.seg k).pages + n }).takePages n t

/-- The pages of preempted records that stay unused: the pieces they had programmed (R482). -/
def State.wastePages (s : State) (w : Waiting) : List Waiting → State
  | [] => s
  | x :: t =>
    (if 0 < x.done ∧ ¬(x.record.rseq = w.record.rseq ∧ x.record.copy = w.record.copy) then
      s.takePages (4 * x.done) (diesOf x.record.kind) else s).wastePages w t

/-- PIECE_PROGRAMMED (R482, R483, R487): one more piece of the best waiting record is programmed and verified, on both dies where it is mirrored; a
record it preempts starts again in fresh pages. Nothing else is programmed while a wholly programmed record awaits its commit record (log entry 24). -/
def pieceProgrammed (s : State) : State :=
  if s.programmed.isSome then s
  else match bestWaiting s.bed.waiting with
    | none => s
    | some w =>
      let kb := 4 * min 4 (recPages w.record - 4 * w.done) * (diesOf w.record.kind).length
      let s1 := s.wastePages w s.bed.waiting
      { s1 with bed := { s1.bed with
          waiting := replaceWaiting { w with done := w.done + 1 } (setBack w s.bed.waiting),
          rateLog := if w.record.copy then s.bed.rateLog else (s.cmp.sec, kb) :: s.bed.rateLog } }

/-- Whether a committed record is live among `rs` (*Record kinds*). -/
def isLive (rs : List JRec) (r : JRec) : Bool :=
  let later := rs.filter fun x => x.kind == r.kind && r.rseq < x.rseq
  match r.kind with
  | 5 => true
  | 6 => later.isEmpty
  | 3 => later.isEmpty || (match r.payload with
    | .checkpoint _ _ _ _ nodes => nodes.any fun n => !(later.any fun x => match x.payload with
        | .checkpoint _ _ _ _ l => l.any fun m => m.1 == n.1
        | _ => false)
    | _ => false)
  | 4 => match r.payload with
    | .ledger lines => lines.any fun l => l.newState != 6 && !(later.any fun x => match x.payload with
        | .ledger ls => ls.any fun m => m.lid == l.lid
        | _ => false)
    | _ => true
  | _ => !(later.any fun x => x.key == r.key)

/-- The live records of segment `k`. -/
def State.liveIn (s : State) (k : Nat) : List JRec :=
  s.bed.records.filter fun r => r.spots.any (fun p => p.1 == k) && isLive s.bed.records r

/-- LIVE of every segment looked at again: it holds a live record. -/
def State.markLive (s : State) : State :=
  { s with bed := { s.bed with segs := s.bed.segs.map fun p => (p.1, { p.2 with live := !(s.liveIn p.1).isEmpty }) } }

/-- The segment and page at which the next record of a die starts, once there is room for it. -/
def State.spotOn (s : State) (die : Nat) : Nat × Nat := (s.openSeg die, (s.seg (s.openSeg die)).pages)

/-- A record of `n` pages given its place on each die of a list: contiguous pages of the open segment (R482). -/
def State.placeRecord (s : State) (n : Nat) : List Nat → State × List (Nat × Nat)
  | [] => (s, [])
  | d :: t =>
    let s1 := s.roomFor d n
    let rest := (s1.takePages n [d]).placeRecord n t
    (rest.1, s1.spotOn d :: rest.2)

/-- The wholly programmed record committed (R481, R482): its commit record names its copies. A copy made by compaction stands for the record of its
RSEQ from then on (R488). -/
def State.commit (s : State) (w : Waiting) : State :=
  let p := s.placeRecord (recPages w.record) (diesOf w.record.kind)
  { p.1 with bed := { p.1.bed with
      records := (p.1.bed.records.filter fun x : JRec => x.rseq != w.record.rseq) ++ [{ w.record with spots := p.2 }],
      waiting := p.1.bed.waiting.filter fun x => !(x.record.rseq == w.record.rseq && x.record.copy == w.record.copy),
      copies := if w.record.copy then p.1.bed.copies - 1 else p.1.bed.copies } }.markLive

/-- PIECE_FAIL (R484): the segment is marked bad, the record is programmed again in a fresh one, detection 9. Which copy of a mirrored record failed
is open; the pieces of the other are left unused (log entry 207). -/
def pieceFail (s : State) : State :=
  match s.programmed.orElse (fun _ => bestWaiting s.bed.waiting) with
  | none => s
  | some w =>
    let dies := diesOf w.record.kind
    let d := (pickFrom dies (Config.freeNat s.free)).getD 0
    let k := s.openSeg d
    let s1 := ((s.drew.setSeg k { s.seg k with state := .bad }).openFresh d).takePages (4 * w.done) (dies.filter fun x => x != d)
    let s2 := { s1 with bed := { s1.bed with waiting := replaceWaiting { w with done := 0 } s1.bed.waiting } }
    (s2.setFld F.BED_STAT_BADSEG 0 1).countDetectionAt 9 pageBed k

/-- The pages the live records of segment `k` take. -/
def State.liveSize (s : State) (k : Nat) : Nat := ((s.liveIn k).map recPages).sum

/-- The sealed segment with the fewest live bytes, the oldest among equals (R488). -/
def State.bestVictim (s : State) : List (Nat × Seg) → Option Nat
  | [] => none
  | (k, x) :: t => if x.state != .closed then s.bestVictim t
    else match s.bestVictim t with
      | none => some k
      | some j =>
        if s.liveSize k < s.liveSize j ∨ (s.liveSize k = s.liveSize j ∧ (s.seg j).age ≤ x.age) then some k else some j

/-- Journal segments that are not free, and those with a live record. -/
def State.segsUsed (s : State) : Nat := (s.bed.segs.filter fun p => p.2.state != .free).length

def State.segsLive (s : State) : Nat := (s.bed.segs.filter fun p => p.2.live).length

/-- Free journal segments (BED_SEGS.FREE). -/
def State.segsFree (s : State) : Nat := Config.bedFree - s.segsUsed

/-- Whether compaction is due (R488): free segments below FREE_MIN % of the journal, or more than 1 536 live ones. -/
def State.compactionDue (s : State) : Bool :=
  s.segsFree * 100 < s.fld F.BED_CFG_FREE_MIN 0 * segCount || 1536 < s.segsLive

/-- Copies of records submitted at priority 7, each with its own sequence number and COPY set (R488). -/
def State.submitCopies (s : State) : List JRec → State
  | [] => s
  | r :: t =>
    State.submitCopies { s with bed := { s.bed with
      copies := s.bed.copies + 1,
      waiting := s.bed.waiting ++ [{ record := { r with copy := true }, prio := 7 }] } } t

/-- A segment compacted: its live records are copied, and it is erased once every copy has landed (R488). -/
def State.compact (s : State) (k : Nat) : State :=
  let s1 := s.submitCopies (s.liveIn k)
  { s1 with bed := { s1.bed with victim := some k } }

/-- Whether compaction may start: SERVE or SURGE, none running (R488, R490). -/
def State.mayCompact (s : State) : Bool := (s.pwr.mode == .serve || s.pwr.mode == .surge) && s.bed.victim.isNone

/-- COMPACTION_START (R488). -/
def compactionStart (s : State) : State :=
  if s.mayCompact && s.compactionDue then
    match s.bestVictim s.bed.segs with
    | none => s
    | some k => s.compact k
  else s

/-- A record without its copies in segment `k`; none where it has no other. -/
def JRec.without (k : Nat) (r : JRec) : Option JRec :=
  let left := r.spots.filter fun p => p.1 != k
  if left.isEmpty then none else some { r with spots := left }

/-- COMPACTION_ERASE (R488, R490): after every copy has landed, in SERVE or SURGE, the victim is erased and free again. -/
def compactionErase (s : State) : State :=
  match s.bed.victim with
  | none => s
  | some k =>
    if s.bed.copies = 0 ∧ (s.pwr.mode = .serve ∨ s.pwr.mode = .surge) then
      let s1 := s.setSeg k { erases := (s.seg k).erases + 1 }
      { s1 with bed := { s1.bed with victim := none, records := s1.bed.records.filterMap (JRec.without k) } }
    else s

/-- REFRESH_TRIGGER (R489): a sealed segment that reached its refresh age, or gave a read with more than 24 corrected bits,
is compacted at once. -/
def refreshTrigger (seg age corrected : Nat) (s : State) : State :=
  if (s.seg seg).state = .closed ∧ (s.fld F.BED_CFG_REFRESH_D 0 ≤ age ∨ 24 < corrected) ∧ s.mayCompact = true then
    (s.setSeg seg { s.seg seg with age := age }).compact seg
  else s

/-- The journaled registers with their numbers (*Journaled registers*, R554). -/
def journaled : List (Reg × Nat) :=
  [(.PWR_CAP, 0), (.PWR_EMBER, 0), (.PWR_WAKECFG, 0)] ++
  (List.range 8).flatMap (fun n => [(Reg.TP_CFG, n), (Reg.TP_BAUD, n), (Reg.TP_ADDR, n), (Reg.TP_FLOW, n)]) ++
  [(.MAC_WAKECFG, 0), (.MAC_WAKEADDR, 0), (.CMP_SRCCFG, 0), (.CMP_HOLD, 0), (.CMP_PPSOUT, 0), (.CMP_UTC, 0),
   (.SEC_TAMPCFG, 0), (.HST_IRQCFG, 0), (.REL_CFG, 0), (.BED_CFG, 0)]

/-- The register image of a save: the RW and RWO fields of each journaled register, by BAR0 offset (R554). -/
def State.regImage (s : State) : List (Nat × Word) :=
  journaled.map fun p => (p.1.addr p.2, s.reg p.1 p.2 &&& BitVec.ofNat 32 p.1.storeMask)

/-- BED_SAVE (R487, R554): BED_CMD OP 1 records the journaled registers; refused in EMBER, and with LIMIT within 60 s of the
save before. -/
def State.bedSaveBy (s : State) (who : Who) (value : Word) : State :=
  s.gated who .BED_CMD 0 fun s =>
    let s1 := s.setFld F.BED_CMD_OP 0 (getBits value 0 3)
    if s.pwr.mode = .ember then s1.setFld F.BED_CMD_RESULT 0 2
    else if (match s.bed.lastSave with | none => false | some t => s.cmp.sec < t + 60) then
      (s1.setFld F.BED_CMD_RESULT 0 3).setFld F.BED_STAT_REFUSED 0 1
    else
      let s2 := (s1.setFld F.BED_CMD_RESULT 0 1).submit 1 0 0 (.registers s.regImage) 1
      { s2 with bed := { s2.bed with lastSave := some s.cmp.sec } }

def bedSave (value : Word) (s : State) : State := s.bedSaveBy .host value

/-- BED_RESUME_HELD (R492): BED_CMD OP 2 resumes held ledger entries; refused in EMBER. -/
def State.bedResumeBy (s : State) (who : Who) (value : Word) : State :=
  s.gated who .BED_CMD 0 fun s =>
    let s1 := s.setFld F.BED_CMD_OP 0 (getBits value 0 3)
    if s.pwr.mode = .ember then s1.setFld F.BED_CMD_RESULT 0 2
    else { (s1.setFld F.BED_CMD_RESULT 0 0) with bed := { s1.bed with heldRanges := [] } }

def bedResumeHeld (value : Word) (s : State) : State := s.bedResumeBy .host value

/-- Whether ledger entry `lid` is held (R492). -/
def State.lidHeld (s : State) (lid : Nat) : Bool := s.bed.heldRanges.any fun r => r.1 ≤ lid && lid ≤ r.2

/-! ## Meanings -/

def execRecordSubmit (kind key key2 : Nat) (payload : Payload) (pieces : Nat) (s : State) :
    Host.Outcome State Fault Refusal := .next (recordSubmit kind key key2 payload pieces s)

def execPieceProgrammed (s : State) : Host.Outcome State Fault Refusal := .next (pieceProgrammed s)

def execPieceFail (s : State) : Host.Outcome State Fault Refusal := .next (pieceFail s)

def execCompactionStart (s : State) : Host.Outcome State Fault Refusal := .next (compactionStart s)

def execCompactionErase (s : State) : Host.Outcome State Fault Refusal := .next (compactionErase s)

def execRefreshTrigger (seg age corrected : Nat) (s : State) : Host.Outcome State Fault Refusal :=
  .next (refreshTrigger seg age corrected s)

def execBedSave (value : Word) (s : State) : Host.Outcome State Fault Refusal := .next (bedSave value s)

def execBedResumeHeld (value : Word) (s : State) : Host.Outcome State Fault Refusal := .next (bedResumeHeld value s)

end Sys2Proof.Machine
end

