-- ==== Sys2Proof/Machine/HostUnit.lean ====
section
/-! DEFINITION. Host interfaces (chapter 20): queue pairs, records, interrupts, BAR2 windows, the descriptor return ring,
Ethernet port service. -/

namespace Sys2Proof.Machine

open Sys2Proof

/-- Queue pair `q`. -/
def State.pair (s : State) (q : Nat) : QPair := Tab.get (fun _ => {}) s.hst.pairs q

/-- `s` with queue pair `q` replaced. -/
def State.setPair (s : State) (q : Nat) (p : QPair) : State :=
  { s with hst := { s.hst with pairs := Tab.set (fun _ => {}) s.hst.pairs q p } }

/-- Records of a completion queue (HST_QCFG.CQSZ). -/
def State.cqSize (s : State) (q : Nat) : Nat := 2 ^ (s.fld F.HST_QCFG_CQSZ q + 1)

/-- Whether a completion queue has no free slot: the next tail is the head the host wrote (R497; log entry 7). -/
def State.cqFull (s : State) (q : Nat) : Bool :=
  ((s.pair q).cqTail + 1) % s.cqSize q == (s.reg .HST_CQH q).toNat % s.cqSize q

/-- The opcodes of *Command opcodes*. -/
def listedOps : List Nat :=
  [0x00, 0x10, 0x20, 0x21, 0x22, 0x30, 0x31, 0x40, 0x41, 0x42, 0x43, 0x44, 0x50, 0x51, 0x52, 0x53]

/-- The opcodes the boot server serves (R496). -/
def bootOps : List Nat := [0x00, 0x30, 0x31]

/-- Whether a fetched command is refused at once: an unlisted opcode, a reserved byte that is not 0 (R498), or an opcode the
boot server does not serve (R496). -/
def State.sqeDenied (s : State) (c : Sqe) : Bool :=
  c.badReserved || !(if s.hst.ready then listedOps else bootOps).contains c.op

/-- Commands fetched from a submission queue, in order: a refused one completes with DENIED, the others wait to start. -/
def State.fetch (s : State) (q : Nat) : List Sqe → State
  | [] => s
  | c :: t =>
    if s.sqeDenied c then (s.complete (.queue q c.cid) .denied []).fetch q t
    else (s.setPair q { s.pair q with fetched := (s.pair q).fetched ++ [c] }).fetch q t

/-- Whether a queue pair is served: by the host-service pack, or pair 0 by the boot server (R496). -/
def State.served (s : State) (q : Nat) : Bool := s.flag F.HST_QCFG_EN q && (s.hst.ready || q == 0)

/-- The commands submitted on a served pair fetched. -/
def State.fetchPair (s : State) (q : Nat) : State :=
  if s.served q then (s.setPair q { s.pair q with submitted := [] }).fetch q (s.pair q).submitted else s

/-- The commands submitted on the pairs of a list fetched, pair by pair. -/
def State.fetchPairs (s : State) : List Nat → State
  | [] => s
  | q :: t => (s.fetchPair q).fetchPairs t

/-- Whether the command of a source is next to start: at the front of what its queue has fetched (R497) (log entry 39). -/
def State.starts (s : State) (src : Src) (op : Nat) : Bool :=
  match src with
  | .queue q cid => (s.pair q).fetched.head? == some { op := op, cid := cid }
  | .headend _ _ => op == 0x10
  | .none => false

/-- `s` with the command of a source started (log entry 39). -/
def State.start (s : State) (src : Src) : State :=
  match src with
  | .queue q cid =>
    s.setPair q { s.pair q with fetched := (s.pair q).fetched.drop 1, running := cid :: (s.pair q).running }
  | _ => s

/-- A record written to the completion queue of pair `q`: P in bit 0 of FLAGS, the tail moved on, P toggled on each pass,
the MSI-X vector raised or its coalescing delay started (R499, R503). -/
def State.post (s : State) (q : Nat) (r : Rec) : State :=
  let p := s.pair q
  let size := s.cqSize q
  let tail := (p.cqTail + 1) % size
  let r1 := { r with flags := r.flags / 2 * 2 + (if p.phase then 1 else 0) }
  let s1 := s.setPair q { p with cqTail := tail, phase := if tail = 0 then !p.phase else p.phase }
  let s2 := { s1 with hst := { s1.hst with cq := Tab.set (fun _ => none) s1.hst.cq (q * 65536 + p.cqTail) (some r1) } }
  let s3 := if s.fld F.HST_QCFG_COAL q = 0 then s2.msix (s.fld F.HST_QCFG_VEC q)
    else { s2 with hst := { s2.hst with coalescing := Tab.set (fun _ => false) s2.hst.coalescing q true } }
  s3.noteIrq1

/-- QUEUE_ENABLE (R497): a write of HST_QCFG with EN = 1; VEC 255 is stored as 254. A pair newly enabled starts with empty
queues and P = 1. -/
def queueEnable (pair : Nat) (value : Word) (s : State) : State :=
  s.gated .host .HST_QCFG pair fun s =>
    let w := plainWrite .HST_QCFG (s.reg .HST_QCFG pair) value
    let s1 := s.setReg .HST_QCFG pair (if getBits w 16 8 = 255 then putBits w 16 8 254 else w)
    let s2 := s1.setFld F.HST_QCFG_EN pair 1
    if s.flag F.HST_QCFG_EN pair then s2
    else (s2.setPair pair { running := (s.pair pair).running, fetched := (s.pair pair).fetched }).noteIrq1

/-- The completion records waiting for pair `q` discarded. -/
def dropComps (q : Nat) : List (Nat × Rec) → List (Nat × Rec)
  | [] => []
  | c :: t => if c.1 = q then dropComps q t else c :: dropComps q t

/-- A queue pair disabled (R497): nothing more is fetched, and completion records that arrive are discarded. -/
def State.disablePair (s : State) (q : Nat) : State :=
  let s1 := (s.setFld F.HST_QCFG_EN q 0).setPair q { s.pair q with submitted := [] }
  { s1 with hst := { s1.hst with comps := dropComps q s1.hst.comps,
                                 coalescing := Tab.set (fun _ => false) s1.hst.coalescing q false } }

/-- QUEUE_DISABLE (R497): a write of HST_QCFG with EN = 0. -/
def queueDisable (pair : Nat) (value : Word) (s : State) : State :=
  s.gated .host .HST_QCFG pair fun s =>
    let w := plainWrite .HST_QCFG (s.reg .HST_QCFG pair) value
    ((s.setReg .HST_QCFG pair (if getBits w 16 8 = 255 then putBits w 16 8 254 else w)).disablePair pair).noteIrq1

/-- The commands between the last tail of a submission queue and a new one (HST_QCFG.SQSZ). -/
def State.sqAdded (s : State) (q tail : Nat) : Nat :=
  let size := 2 ^ (s.fld F.HST_QCFG_SQSZ q + 1)
  (tail % size + size - (s.pair q).sqTail % size) % size

/-- SQ_DOORBELL (R497): the new tail is stored, and the commands up to it are fetched when the pair is served; `cmds` are what stands in host memory
from the last tail on. -/
def sqDoorbell (pair tail : Nat) (cmds : List Sqe) (s : State) : State :=
  s.gated .host .HST_SQT pair fun s =>
    let s1 := s.setReg .HST_SQT pair (BitVec.ofNat 32 tail)
    if s.flag F.HST_QCFG_EN pair then
      (s1.setPair pair { s1.pair pair with submitted := (s1.pair pair).submitted ++ cmds.take (s1.sqAdded pair tail), sqTail := tail }).fetchPair pair
    else s1

/-- CQ_HEAD_WRITE (R497): the new head frees completion queue slots. -/
def cqHeadWrite (pair head : Nat) (s : State) : State :=
  s.gated .host .HST_CQH pair fun s => (s.setReg .HST_CQH pair (BitVec.ofNat 32 head)).noteIrq1

/-- NOP_COMMAND (R496): completes OK. -/
def nopCommand (src : Src) (s : State) : State :=
  if s.starts src 0x00 then (s.start src).complete src .ok [] else s

/-- The first completion record waiting for pair `q`. -/
def firstComp (q : Nat) : List (Nat × Rec) → Option Rec
  | [] => none
  | c :: t => if c.1 = q then some c.2 else firstComp q t

/-- The waiting completion records without the first of pair `q`. -/
def dropFirstComp (q : Nat) : List (Nat × Rec) → List (Nat × Rec)
  | [] => []
  | c :: t => if c.1 = q then t else c :: dropFirstComp q t

/-- COMPLETION_POST (R499): the oldest completion record of a pair is posted when its queue has room (log entry 7). -/
def completionPost (pair : Nat) (s : State) : State :=
  match firstComp pair s.hst.comps with
  | none => s
  | some r =>
    let s1 := { s with hst := { s.hst with comps := dropFirstComp pair s.hst.comps } }
    if s.flag F.HST_QCFG_EN pair = false then s1
    else if s.cqFull pair then s
    else s1.post pair r

/-- One more event record dropped (R501). -/
def State.eventLost (s : State) : State := (s.bumpFld F.HST_EVLOST_VALUE 0 1).setFld F.HST_STAT_EVLOST 0 1

/-- Whether event records can be posted: the host path is powered and the pair named in HST_EVTQ is enabled (R501). -/
def State.canPost (s : State) : Bool := s.hostPath && s.flag F.HST_QCFG_EN (s.fld F.HST_EVTQ_PAIR 0)

/-- The Ethernet ports that send event records to the head-end: EVT and HE set, in service (R506). -/
def State.eventPorts (s : State) : List Nat :=
  [0, 1].filter fun n => s.flag F.ETH_CFG_EVT n && s.flag F.ETH_CFG_HE n && s.flag F.ETH_CFG_EN n && s.serves (domEth n)

/-- An event record sent to the head-end as TYPE 2 datagrams (R506). -/
def State.mirrorEvent (s : State) (r : Rec) : State :=
  { s with hst := { s.hst with outbox := s.hst.outbox ++
      (s.eventPorts.map fun n => { port := n, typ := 2, record := some r }) } }

/-- EVENT_POST (R501): the oldest event record is posted, held ones first; without a host path it moves to the store of 64
in the Groundsheet, which drops its oldest record when it is full (log entry 7). -/
def eventPost (s : State) : State :=
  if s.canPost then
    let q := s.fld F.HST_EVTQ_PAIR 0
    if s.cqFull q then s
    else match s.hst.held, s.hst.raised with
      | r :: t, _ => { s with hst := { s.hst with held := t } }.post q r
      | [], r :: t => ({ s with hst := { s.hst with raised := t } }.mirrorEvent r).post q r
      | [], [] => s
  else match s.hst.raised with
    | [] => s
    | r :: t =>
      let s1 := { s with hst := { s.hst with raised := t } }.mirrorEvent r
      if s.hst.held.length < 64 then { s1 with hst := { s1.hst with held := s1.hst.held ++ [r] } }
      else { s1 with hst := { s1.hst with held := s1.hst.held.drop 1 ++ [r] } }.eventLost

/-- EVENT_DROP_TIMEOUT (R501): posting is possible, the queue has stayed full for 10 ms, and the oldest event is dropped. -/
def eventDropTimeout (s : State) : State :=
  if s.canPost && s.cqFull (s.fld F.HST_EVTQ_PAIR 0) then
    match s.hst.held, s.hst.raised with
    | _ :: t, _ => { s with hst := { s.hst with held := t } }.eventLost
    | [], _ :: t => { s with hst := { s.hst with raised := t } }.eventLost
    | [], [] => s
  else s

/-- FBDRET_WRITE (R500): a returned index enters the return ring of 4 096 entries; a full ring discards it. -/
def fbdretWrite (index : Nat) (s : State) : State :=
  s.gated .host .HST_FBDRET 0 fun s =>
    if s.hst.retRing.length < 4096 then { s with hst := { s.hst with retRing := s.hst.retRing ++ [index] } }
    else s.setFld F.HST_STAT_RETFULL 0 1

/-- Whether the host may read a handle through a window: published ones and the host scratch, at D2 also handles of unsealed
packs, at D3 every handle (R504). -/
def State.hostMayRead (s : State) (x : Handle) : Bool :=
  x.hostRead || x.hostWrite || s.level == 3 ||
  (s.level == 2 && x.slot < 16 && !(Tab.get (fun _ => {}) s.prog.packs x.slot).image.sealedImg)

/-- Whether the host may write a handle through a window: the host scratch, at D3 every handle (R504). -/
def State.hostMayWrite (s : State) (x : Handle) : Bool := x.hostWrite || s.level == 3

/-- COALESCING_TIMEOUT (R503): the delay of a completion queue expires and its vector is raised. -/
def coalescingTimeout (pair : Nat) (s : State) : State :=
  if Tab.get (fun _ => false) s.hst.coalescing pair then
    { s with hst := { s.hst with coalescing := Tab.set (fun _ => false) s.hst.coalescing pair false } }.msix
      (s.fld F.HST_QCFG_VEC pair)
  else s

/-- The stored form of ETH_CFG: DOMAIN above 127 as 127, PTPT 3 as 1. -/
def ethCfgForm (w : Word) : Word :=
  let w1 := if 127 < getBits w 8 8 then putBits w 8 8 127 else w
  if getBits w1 2 2 = 3 then putBits w1 2 2 1 else w1

/-- ETH_PORT_DISABLE (R396): a write of ETH_CFG; EN = 0 drains the port, EN = 1 returns it to service, at once or, while it
drains, when it has drained (R398). -/
def ethPortDisable (port : Nat) (who : Who) (value : Word) (s : State) : State :=
  s.gated who .ETH_CFG port fun s =>
    let s1 := s.setReg .ETH_CFG port (ethCfgForm (plainWrite .ETH_CFG (s.reg .ETH_CFG port) value))
    if s1.flag F.ETH_CFG_EN port then
      match s1.drain (domEth port) with
      | some d => s1.setDrain (domEth port) (some { d with restore := true })
      | none => s1.setOut (domEth port) false
    else if s.flag F.ETH_CFG_EN port then s1.startDrain (domEth port) .config
    else s1

/-- Every pair of a list disabled. -/
def State.disablePairs (s : State) : List Nat → State
  | [] => s
  | q :: t => (s.disablePair q).disablePairs t

/-- Every window of a list cleared. -/
def State.clearWindows (s : State) : List Nat → State
  | [] => s
  | n :: t => (((s.setReg .HST_WINH n 0).setReg .HST_WINO n 0).setReg .HST_WINC n 0).clearWindows t

/-- PERST_N_ASSERT (R495): every queue pair is disabled and every window is cleared; fetched commands run on and their
completions are discarded. -/
def perstNAssert (s : State) : State :=
  (({ s with pins := { s.pins with perstN := false } }.disablePairs (List.range 64)).clearWindows (List.range 16)).noteIrq1

/-! ## Meanings -/

def execPerstNAssert (s : State) : Host.Outcome State Fault Refusal := .next (perstNAssert s)

def execQueueEnable (pair : Nat) (value : Word) (s : State) : Host.Outcome State Fault Refusal :=
  .next (queueEnable pair value s)

def execQueueDisable (pair : Nat) (value : Word) (s : State) : Host.Outcome State Fault Refusal :=
  .next (queueDisable pair value s)

def execSqDoorbell (pair : Nat) (tail : Nat) (cmds : List Sqe) (s : State) : Host.Outcome State Fault Refusal :=
  .next (sqDoorbell pair tail cmds s)

def execCqHeadWrite (pair : Nat) (head : Nat) (s : State) : Host.Outcome State Fault Refusal :=
  .next (cqHeadWrite pair head s)

def execNopCommand (src : Src) (s : State) : Host.Outcome State Fault Refusal := .next (nopCommand src s)

def execCompletionPost (pair : Nat) (s : State) : Host.Outcome State Fault Refusal := .next (completionPost pair s)

def execEventPost (s : State) : Host.Outcome State Fault Refusal := .next (eventPost s)

def execEventDropTimeout (s : State) : Host.Outcome State Fault Refusal := .next (eventDropTimeout s)

def execFbdretWrite (index : Nat) (s : State) : Host.Outcome State Fault Refusal := .next (fbdretWrite index s)

def execCoalescingTimeout (pair : Nat) (s : State) : Host.Outcome State Fault Refusal := .next (coalescingTimeout pair s)

def execEthPortDisable (port : Nat) (who : Who) (value : Word) (s : State) : Host.Outcome State Fault Refusal :=
  .next (ethPortDisable port who value s)

end Sys2Proof.Machine
end

