-- ==== Sys2Proof/Machine/Ports.lean ====
section
/-! DEFINITION. Line and neutral ports (chapter 03): configuration, transmission, fold-back, gain, overload, the end of a
frame. Input `p` is line port `p` below 24 and neutral port `p - 24` from 24 on. -/

namespace Sys2Proof.Machine

open Sys2Proof

/-! ## Ports and groups -/

/-- The register and instance that hold the configuration, the receive settings, the status and the overload count. -/
def cfgReg (p : Nat) : Reg × Nat := if p < 24 then (.LP_CFG, p) else (.NP_CFG, p - 24)
def rxReg (p : Nat) : Reg × Nat := if p < 24 then (.LP_RXCFG, p) else (.NP_RXCFG, p - 24)
def statReg (p : Nat) : Reg × Nat := if p < 24 then (.LP_STAT, p) else (.NP_STAT, p - 24)
def ovlReg (p : Nat) : Reg × Nat := if p < 24 then (.LP_OVLCNT, p) else (.NP_OVLCNT, p - 24)

/-- Instance number of input `p` among its kind. -/
def portNo (p : Nat) : Nat := if p < 24 then p else p - 24

/-- The domain that holds input `p` (R71). -/
def portDom (p : Nat) : Nat := if p < 24 then domLps p else domLps (3 * (p - 24))

/-- The self-test target of input `p`. -/
def portTarget (p : Nat) : TestUnit := if p < 24 then .unit (domLps p) else .np (p - 24)

def State.portCfg (s : State) (p : Nat) : Word := s.reg (cfgReg p).1 (cfgReg p).2
def State.portRx (s : State) (p : Nat) : Word := s.reg (rxReg p).1 (rxReg p).2
def State.portStat (s : State) (p : Nat) : Word := s.reg (statReg p).1 (statReg p).2

/-- EN, ROLE and FG of input `p`. -/
def State.portEn (s : State) (p : Nat) : Bool := getBits (s.portCfg p) 0 1 == 1
def State.portRole (s : State) (p : Nat) : Nat := getBits (s.portCfg p) 4 3
def State.portFg (s : State) (p : Nat) : Nat := getBits (s.portCfg p) 8 3

/-- `s` with a status field of input `p` replaced; both status registers have one layout. -/
def State.setPortStat (s : State) (p lo width v : Nat) : State :=
  s.setReg (statReg p).1 (statReg p).2 (putBits (s.portStat p) lo width v)

/-- What port `p` holds beyond its registers. -/
def State.port (s : State) (p : Nat) : Port := Tab.get (fun _ => {}) s.lin.ports p

def State.setPort (s : State) (p : Nat) (x : Port) : State :=
  { s with lin := { s.lin with ports := Tab.set (fun _ => {}) s.lin.ports p x } }

/-- Whether input `p` is retired: its domain, or the neutral port itself. -/
def State.portRetired (s : State) (p : Nat) : Bool := if p < 24 then s.isRetired (domLps p) else s.isRetired (0x800 + (p - 24))

/-- The unit whose drain an EN = 0 of input `p` starts: the slice, or the neutral port itself, numbered as in a retirement list (R93). -/
def portUnit (p : Nat) : Nat := if p < 24 then domLps p else 0x800 + (p - 24)

/-- Whether input `p` records: enabled, powered, not draining, not out of service, not stopped by force. -/
def State.portOn (s : State) (p : Nat) : Bool :=
  s.portEn p && s.dom (portDom p) == .on && !s.draining (portUnit p) && !(s.port p).out && !(s.port p).stopped && !s.portRetired p &&
  !(Tab.get (fun _ => false) s.units.out (portDom p) && p < 24)

/-- Whether a running calibration has taken input `p` out of service (R345). -/
def State.calibrating (s : State) (p : Nat) : Bool :=
  match s.cal.run with
  | none => false
  | some r => r.set == 1 && r.target == p

/-- Whether a calibration holds input `p` from new transmissions: it runs, or its request is at the head of the queue (R344). -/
def State.calHolds (s : State) (p : Nat) : Bool := s.calibrating p || (s.cal.run.isNone && s.cal.queue.head? == some (1, p))

/-- Whether input `p` belongs to feeder group `g`: an L role or N in that group. -/
def State.inGroup (s : State) (g p : Nat) : Bool :=
  s.portFg p == g && (if p < 24 then 1 ≤ s.portRole p && s.portRole p ≤ 3 else s.portRole p == 1)

/-- The inputs that record in a group, and its transmitting ports. -/
def State.groupInputs (s : State) (g : Nat) : List Nat := (List.range 32).filter fun p => s.inGroup g p && s.portOn p

def State.groupPorts (s : State) (g : Nat) : List Nat := (List.range 24).filter fun p => s.inGroup g p && s.portOn p

/-- The port of role `r` (1 to 3) of a group, where one records. -/
def State.phasePort (s : State) (g r : Nat) : Option Nat := (s.groupPorts g).find? fun p => s.portRole p == r

/-- An event record naming input `p`. -/
def State.portEvent (s : State) (st : Status) (p : Nat) (rest : List (Nat × Nat)) : State :=
  s.event st (pagePort p) ((4, portNo p) :: rest)

/-! ## Frames on ports -/

/-- Whether a frame is on the line at port `p`. -/
def State.onAir (s : State) (p : Nat) : Bool := s.lin.frames.any fun f => f.state == .running && f.ports.contains p

/-- A frame by number. -/
def State.frame (s : State) (id : Nat) : Option Frame := s.lin.frames.find? fun f => f.id == id

/-- `s` with a frame replaced by number. -/
def State.setFrame (s : State) (f : Frame) : State :=
  { s with lin := { s.lin with frames := s.lin.frames.map fun g => if g.id = f.id then f else g } }

/-- PA_EN_n of every port of a list asserted (`true`) or released. -/
def State.setPa (s : State) (on : Bool) : List Nat → State
  | [] => s
  | p :: t => (s.setPortStat p 2 1 (if on then 1 else 0)).setPa on t

/-- A status field of every port of a list replaced. -/
def State.setStats (s : State) (lo width v : Nat) : List Nat → State
  | [] => s
  | p :: t => (s.setPortStat p lo width v).setStats lo width v t

/-- The end of a frame with a status (R280, R296): it leaves and its descriptor is free. Its command completes with the SEQ of
the first frame, for data split over several frames (R124) with the last of them, or with the first that does not end OK (log entry 56). -/
def State.endFrame (s : State) (f : Frame) (st : Status) : State :=
  let rest := s.lin.frames.filter fun g => g.id != f.id
  let mine : Frame → Bool := fun g => f.src != Src.none && g.src == f.src
  let more := st == Status.ok && rest.any mine
  let left := rest.map fun g => if !more && mine g then { g with src := .none } else g
  let s1 := { s with lin := { s.lin with frames := left }, mac := { s.mac with txFbds := s.mac.txFbds - 1 } }
  if more then s1 else s1.complete f.src st [(4, f.firstSeq.getD 0)]

/-- The frames scheduled or running on port `p`. -/
def State.framesOn (s : State) (p : Nat) : List Frame :=
  s.lin.frames.filter fun f => (f.state == .running || f.state == .scheduled) && f.ports.contains p

/-- The ports joined with port `p` by running frames: a fold-back set (R83, R229). -/
def State.foldSet (s : State) (ps : List Nat) : Nat → List Nat
  | 0 => ps
  | n + 1 =>
    let more := (s.lin.frames.filter fun f => f.state == .running && f.ports.any ps.contains).flatMap fun f => f.ports
    s.foldSet ((List.range 24).filter fun p => ps.contains p || more.contains p) n

/-- FB_DB of port `p`. -/
def State.foldDb (s : State) (p : Nat) : Nat := s.fld F.LP_STAT_FB_DB p

/-- The level of a fold-back set: every port of a set stands at one level (R84). -/
def State.setDb (s : State) (ps : List Nat) : Nat := ps.foldl (fun m p => max m (s.foldDb p)) 0

/-- One FBK bit and one count of LP_FBCNT for every port of a list. -/
def State.noteFold (s : State) : List Nat → State
  | [] => s
  | p :: t => ((s.setPortStat p 17 1 1).bumpFld F.LP_FBCNT_COUNT p 1).noteFold t

/-- The end of a folded-back frame, however it ends (R85): one event record naming the ports of its set and the deepest level. FBK and
LP_FBCNT move on every port of the frame, and UNIT is the page of its first port (log entry 169). -/
def State.foldReport (s : State) (f : Frame) : State :=
  let set := s.foldSet f.ports 3
  if s.setDb f.ports = 0 then s
  else (s.noteFold f.ports).event .foldback (pageLp (f.ports.headD 0)) [(4, set.foldl (fun m p => m ||| 2 ^ p) 0), (1, s.setDb set)]

/-- The last sample of the ports of a list has left: their staging buffers are empty. -/
def State.portsEnd (s : State) : List Nat → State
  | [] => s
  | p :: t => (s.setPort p { s.port p with staged := 0, endedAt := s.now }).portsEnd t

/-- A running frame leaves the line: its fold-back is reported, its ports note the time. -/
def State.leaveLine (s : State) (f : Frame) : State :=
  if f.state = .running then (s.foldReport f).portsEnd f.ports else s

/-- Every frame of a list ended with a status; one on the line leaves it. -/
def State.endFrames (s : State) (st : Status) : List Frame → State
  | [] => s
  | f :: t => ((s.leaveLine f).endFrame f st).endFrames st t

/-- The transmission of port `p` cut off: its frames end with ABANDONED (R93, R94). -/
def State.cutPort (s : State) (p : Nat) : State := s.endFrames .abandoned (s.framesOn p)

/-- Port `p` muted at once with PA_EN_n released (R94). -/
def State.mutePort (s : State) (p : Nat) : State := (s.cutPort p).setPa false [p]

/-- The step and the floor of a fold-back set in dB: the smallest STEP, the shallowest FLOOR (R84). -/
def State.foldStep (s : State) (ps : List Nat) : Nat := ps.foldl (fun m p => min m (3 * (s.fld F.LP_FBCFG_STEP p + 1))) 12
def State.foldFloor (s : State) (ps : List Nat) : Nat := ps.foldl (fun m p => min m (12 + 6 * s.fld F.LP_FBCFG_FLOOR p)) 30

/-- A reading of ISENSE at port `p`: NOW, and PEAK where it is higher. -/
def State.sense (s : State) (p mv : Nat) : State :=
  let s1 := s.setFld F.LP_ISENSE_NOW p mv
  s1.setFld F.LP_ISENSE_PEAK p (max (s1.fld F.LP_ISENSE_PEAK p) mv)

/-- One fold-back step of the set of port `p` (R84): no deeper than its floor. -/
def State.foldBack (s : State) (p mv : Nat) : State :=
  let s1 := s.sense p mv
  if s1.onAir p && decide (s1.fld F.LP_FBCFG_LIM p < mv) then
    let set := s1.foldSet [p] 3
    s1.setStats 8 8 (min (s1.setDb set + s1.foldStep set) (max (s1.setDb set) (s1.foldFloor set))) set
  else s1

/-- FOLDBACK_TRIGGER (R84): four consecutive samples above LIM lower the whole set. -/
def foldbackTrigger (port mv : Nat) (s : State) : State := if port < 24 then s.foldBack port mv else s

/-- FOLDBACK_FURTHER_STEP (R84): 100 µs after a step the condition still holds. -/
def foldbackFurtherStep (port mv : Nat) (s : State) : State :=
  if decide (port < 24) && s.foldDb port != 0 then s.foldBack port mv else s

/-- The frames that run on any port of a list. -/
def State.runningOn (s : State) (ps : List Nat) : List Frame :=
  s.lin.frames.filter fun f => f.state == .running && f.ports.any ps.contains

/-- OVERCURRENT_MUTE (R86): every port of the fold-back set mutes and releases PA_EN_n, the frames end with ABANDONED, OC is set on every
port of the set (log entry 170), detection 6. -/
def overcurrentMute (port mv : Nat) (s : State) : State :=
  let s1 := s.sense port mv
  if decide (port < 24) && s1.onAir port && decide (s1.fld F.LP_FBCFG_ABS port < mv) then
    let set := s1.foldSet [port] 3
    let s2 := ((s1.endFrames .abandoned (s1.runningOn set)).setPa false set).setStats 18 1 1 set
    s2.detectTest 6 (domLps port) (.unit (domLps port)) none
  else s1

/-- STAGING_UNDERRUN (R26): the port mutes at the end of the last complete symbol, the frame ends with ABANDONED,
detection 15. -/
def stagingUnderrun (port : Nat) (s : State) : State :=
  if s.onAir port then
    let s1 := s.endFrames .abandoned (s.runningOn [port])
    (s1.setPortStat port 19 1 1).countDetection 15 (domLps port)
  else s

/-- One cycle of a group in ns, at its frequency in mHz. -/
def State.cycleNs (s : State) (fg : Nat) : Nat := 10 ^ 12 / max (s.fld F.LP_ZCFREQ_MHZ fg) 1

/-- When a scheduled frame starts, in ns: the boundary of its slot, counted from the group's last phase-0 instant. -/
def State.startNs (s : State) (f : Frame) : Nat :=
  let t : Tracker := Tab.get (fun _ => {}) s.lin.trackers f.fg
  let z := stampNs (Tab.get (fun _ => {}) s.cmp.zct f.fg)
  z + (12 * (f.cycle - t.cyc) + f.slot) * s.cycleNs f.fg / 12

/-- Whether the next frame on port `p` starts within LEAD + TRAIL of the end of the last one (R73): PA_EN_n then stays asserted and the
DAC holds 0 V. -/
def State.gapHeld (s : State) (p : Nat) : Bool :=
  let gap := 1000 * (s.fld F.LP_TXCFG_LEAD p + s.fld F.LP_TXCFG_TRAIL p)
  s.lin.frames.any fun f => f.state == .scheduled && f.ports.contains p && decide (s.startNs f ≤ stampNs (s.port p).endedAt + gap)

/-- PA_EN_RELEASE (R73): TRAIL µs after the last sample, unless a frame runs on the port or starts within LEAD + TRAIL. -/
def paEnRelease (port : Nat) (s : State) : State := if s.onAir port || s.gapHeld port then s else s.setPa false [port]

/-! ## Configuration -/

/-- Whether another port already has the group role of a configuration word (R68). -/
def State.roleClash (s : State) (p : Nat) (w : Word) : Bool :=
  let role := getBits w 4 3
  if p < 24 then
    decide (1 ≤ role ∧ role ≤ 3) &&
      (List.range 24).any fun q => q != p && s.portRole q == role && s.portFg q == getBits w 8 3
  else role == 1 && ((List.range 8).any fun n => n + 24 != p && s.portRole (n + 24) == 1 && s.portFg (n + 24) == getBits w 8 3)

/-- The stored form of LP_CFG and NP_CFG: TXPATH 3 as 0, an undefined ROLE as NONE. -/
def portCfgForm (p : Nat) (w : Word) : Word :=
  if p < 24 then
    let w1 := if getBits w 16 2 = 3 then putBits w 16 2 0 else w
    if 4 < getBits w1 4 3 then putBits w1 4 3 0 else w1
  else if 1 < getBits w 4 3 then putBits w 4 3 0 else w

/-- Whether role and group differ between two configuration words. -/
def roleMoved (a b : Word) : Bool := getBits a 4 3 != getBits b 4 3 || getBits a 8 3 != getBits b 8 3

/-- The ports of role MV assigned to line link `l`. -/
def State.linkPorts (s : State) (l : Nat) : List Nat :=
  (List.range 24).filter fun p => s.portRole p == 4 && s.fld F.MDM_BBCFG_LINK p == l

/-- What a write stores in LP_CFG or NP_CFG and how many refusals it meets: ROLE and FG as one under R68 and R69, EN under R215. What the
write says of the fields that are not refused is stored (log entry 171). -/
def State.portCfgStored (s : State) (p : Nat) (value : Word) : Word × Nat :=
  let old := s.portCfg p
  let w := portCfgForm p (plainWrite (cfgReg p).1 old value)
  let bad := roleMoved old w && (getBits old 0 1 == 1 || s.roleClash p w)
  let w1 := if bad then putBits (putBits w 4 3 (getBits old 4 3)) 8 3 (getBits old 8 3) else w
  let mv := decide (p < 24) && getBits w1 4 3 == 4 && getBits w1 0 1 == 1 && getBits old 0 1 == 0 &&
    (getBits w1 16 2 != 2 || getBits (s.portRx p) 12 1 == 0)
  let w2 := if mv then putBits w1 0 1 0 else w1
  (w2, (if bad then 1 else 0) + (if mv then 1 else 0))

/-- An event record of status DENIED naming input `p`, `n` times. -/
def State.portDenied (s : State) (p : Nat) : Nat → State
  | 0 => s
  | n + 1 => (s.portEvent .denied p []).portDenied p n

/-- Input `p` back in service. A slice that a neutral port kept on stays on; a neutral port's slice is powered up, out of service itself,
where a mode that has it left it off (R71). -/
def State.portBack (s : State) (p : Nat) : State :=
  if p < 24 then (s.setOut (domLps p) false).setPort p { s.port p with path := s.fld F.LP_CFG_TXPATH p, stopped := false }
  else
    let s1 := s.setPort p { s.port p with stopped := false }
    let on := s.pwr.mode == .serve || s.pwr.mode == .surge
    if on && s.dom (portDom p) != .on then (s1.setDom (portDom p) .on).setOut (portDom p) true else s1

/-- The effect of EN changing on input `p`: the drain of the port (R93), or the return to service, which waits for a drain in progress
(R398). -/
def State.portEnabled (s : State) (p : Nat) (was : Bool) : State :=
  if s.portEn p then
    if was then s
    else match s.drain (portUnit p) with
      | some d => s.setDrain (portUnit p) (some { d with restore := true })
      | none => s.portBack p
  else if was && s.dom (portDom p) == .on then (s.cutPort p).startDrain (portUnit p) .config
  else s

/-- A write of LP_CFG or NP_CFG. A TXPATH of a port that is not enabled is in force at once; on an enabled port it waits for
the end of a transmission (R217). -/
def State.writePortCfg (s : State) (p : Nat) (who : Who) (value : Word) : State :=
  s.gated who (cfgReg p).1 (cfgReg p).2 fun s =>
    let r := s.portCfgStored p value
    let was := s.portEn p
    let s1 := (s.setReg (cfgReg p).1 (cfgReg p).2 r.1).portDenied p r.2
    let s2 := if decide (p < 24) && (!was || !s1.onAir p) then s1.setPort p { s1.port p with path := s1.fld F.LP_CFG_TXPATH p }
      else s1
    s2.portEnabled p was

/-- PORT_CFG_WRITE (R68, R69, R215, R217). -/
def portCfgWrite (port : Nat) (who : Who) (value : Word) (s : State) : State := s.writePortCfg port who value

/-- PORT_DISABLE (R93): a write with EN = 0. -/
def portDisable (port : Nat) (who : Who) (value : Word) (s : State) : State :=
  s.writePortCfg port who (putBits value 0 1 0)

/-- The forced disable of input `p` (R94, R398): muted and stopped at once; it reports DRAINED later. -/
def State.forcePort (s : State) (p : Nat) : State :=
  let s1 := s.mutePort p
  let s2 := if p < 24 then s1 else s1.setPort p { s1.port p with stopped := true }
  if s2.dom (portDom p) = .on then
    s2.setDrain (portUnit p) (some { why := ((s2.drain (portUnit p)).map Drain.why).getD (if p < 24 then .host else .config), abandoned := true,
                                     restore := ((s2.drain (portUnit p)).map Drain.restore).getD false })
  else s2

/-- PORT_FORCED_DISABLE (R94). -/
def portForcedDisable (port : Nat) (s : State) : State := s.forcePort port

/-- TXPATH_CHANGE_APPLY (R217): no transmission is in progress on the port and its new path comes into force. -/
def txpathChangeApply (port : Nat) (s : State) : State :=
  if decide (port < 24) && !s.onAir port then s.setPort port { s.port port with path := s.fld F.LP_CFG_TXPATH port } else s

/-! ## Receive gain and overload -/

/-- Whether the AGC of input `p` is frozen: a port of its group transmits or has just done so (R80). -/
def State.agcFrozen (s : State) (p : Nat) : Bool := s.lin.ownTx.contains (s.portFg p) && s.inGroup (s.portFg p) p

/-- The narrow-path gain in force of input `p`. -/
def State.gain (s : State) (p : Nat) : Nat := getBits (s.portStat p) 4 3

/-- A look-back ring: narrow of input `r`, or wide of input `r - 32`. -/
def State.ring (s : State) (r : Nat) : Ring := Tab.get (fun _ => {}) s.lin.rings r

def State.setRing (s : State) (r : Nat) (x : Ring) : State :=
  { s with lin := { s.lin with rings := Tab.set (fun _ => {}) s.lin.rings r x } }

/-- A short time in ns as seconds and nanoseconds. -/
def stampOf (n : Nat) : Stamp := ⟨n / 10 ^ 9, n % 10 ^ 9⟩

/-- The first narrow-sample boundary at or after a time: a multiple of 500 ns (R79). -/
def sampleAfter (t : Stamp) : Stamp := stampOf ((stampNs t + 499) / 500 * 500)

/-- A gain change of input `p`, in force from the next narrow sample, with its entry in the gain log (R79) (log entry 146). -/
def State.setGain (s : State) (p code : Nat) : State :=
  let s1 := s.setPortStat p 4 3 code
  s1.setRing p { s1.ring p with gains := (s1.ring p).gains ++ [(sampleAfter s1.now, code)] }

/-- Whether the AGC of input `p` may act. -/
def State.agcActs (s : State) (p : Nat) : Bool := s.portOn p && getBits (s.portRx p) 0 1 == 1 && !s.agcFrozen p

/-- AGC_LOWER (R78). -/
def agcLower (input : Nat) (s : State) : State :=
  if s.agcActs input && s.gain input != 0 then s.setGain input (s.gain input - 1) else s

/-- AGC_RAISE (R78). -/
def agcRaise (input : Nat) (s : State) : State :=
  if s.agcActs input && decide (s.gain input < 6) then s.setGain input (s.gain input + 1) else s

/-- OWN_TX_SUPPRESS_END (R80): 50 µs after the last transmission of the group; the span of own-transmission samples ends. -/
def ownTxSuppressEnd (fg : Nat) (s : State) : State :=
  if (s.groupPorts fg).any s.onAir then s
  else
    let close : OwnSpan → OwnSpan := fun o => if o.fg = fg ∧ o.until_ = none then { o with until_ := some (stampNs s.now) } else o
    { s with lin := { s.lin with ownTx := s.lin.ownTx.filter fun g => g != fg, ownSpans := s.lin.ownSpans.map close } }

/-! ## Converter overload (R81, R82) -/

/-- Whether an ADC code lies at either end of its 14-bit range (R81). -/
def clipped (c : Int) : Bool := decide (c ≤ -8192) || decide (8191 ≤ c)

/-- The runs of 64 wide samples of a block, as first and last, that hold a clipped sample, from codes in runs that start at wide sample
`pos`; neighbouring stretches are joined. -/
def clippedUnits : Nat → List (Nat × Int) → List (Nat × Nat)
  | _, [] => []
  | pos, (n, c) :: t =>
    let rest := clippedUnits (pos + n) t
    if n = 0 ∨ clipped c = false ∨ 262144 ≤ pos then rest
    else
      let a := pos / 64
      let b := min 4095 ((pos + n - 1) / 64)
      match rest with
      | [] => [(a, b)]
      | (x, y) :: u => if x ≤ b + 1 then (a, max b y) :: u else (a, b) :: rest

/-- How many units of a list of runs lie before unit `u`. -/
def unitsBefore (u : Nat) (l : List (Nat × Nat)) : Nat := (l.map fun r => min u (r.2 + 1) - min u r.1).sum

/-- The clipped runs of a block counted (R82): OVLCNT, STAT.OVL, and by the second of Compass time they fell in. -/
def State.noteClipped (s : State) (p : Nat) (t0 : Stamp) (runs : List (Nat × Nat)) : State :=
  let all := unitsBefore 4096 runs
  if all = 0 then s
  else
    let c := (s.reg (ovlReg p).1 (ovlReg p).2).toNat + all
    let s1 := (s.setReg (ovlReg p).1 (ovlReg p).2 (BitVec.ofNat 32 (min c 0xFFFFFFFF))).setPortStat p 16 1 1
    let old := unitsBefore ((10 ^ 9 - t0.ns + 499) / 500) runs
    let add : Nat → Nat → Tab Nat → Tab Nat := fun sec n l => if n = 0 then l else Tab.set (fun _ => 0) l sec (Tab.get (fun _ => 0) l sec + n)
    s1.setPort p { s1.port p with runs := add (t0.s + 1) (all - old) (add t0.s old (s1.port p).runs) }

/-- Runs of 64 wide samples in a window of 1 s. -/
def runsPerWindow : Nat := 2000000

/-- OVERLOAD_WINDOW_END (R82): the window of second `sec` is over and its samples are recorded; more than half of its runs clipped give one
event record of status LIMIT and one detection 5. -/
def overloadWindowEnd (input sec : Nat) (s : State) : State :=
  let n := Tab.get (fun _ => 0) (s.port input).runs sec
  let recorded := match (s.ring input).blocks.getLast? with
    | none => true
    | some b => !s.portOn input || decide ((sec + 1) * 10 ^ 9 ≤ stampNs b.t0 + 2048000)
  if decide (input < 32) && decide (n ≠ 0) && decide (sec < s.now.s) && recorded then
    let s1 := s.setPort input { s.port input with runs := Tab.set (fun _ => 0) (s.port input).runs sec 0 }
    if runsPerWindow < 2 * n then
      let s2 := (s1.portEvent .limit input []).countDetectionAt 5 (pagePort input) (portNo input)
      s2.queueTest { target := portTarget input, det := 5 }
    else s1
  else s

/-- LP_ISENSE_READ (R74): a read returns NOW and PEAK and clears PEAK; `mv` is the latest reading. -/
def lpIsenseRead (port mv : Nat) (who : Who) (s : State) : State :=
  if s.readable who .LP_ISENSE port then
    let s1 := s.sense port mv
    (s1.setFld F.LP_ISENSE_PEAK port 0).returns ((s1.reg .LP_ISENSE port).setWidth 64)
  else s.returns 0

/-! ## Meanings -/

def execPortCfgWrite (port : Nat) (who : Who) (value : Word) (s : State) : Host.Outcome State Fault Refusal :=
  .next (portCfgWrite port who value s)

def execPortDisable (port : Nat) (who : Who) (value : Word) (s : State) : Host.Outcome State Fault Refusal :=
  .next (portDisable port who value s)

def execPortForcedDisable (port : Nat) (s : State) : Host.Outcome State Fault Refusal := .next (portForcedDisable port s)

def execTxpathChangeApply (port : Nat) (s : State) : Host.Outcome State Fault Refusal := .next (txpathChangeApply port s)

def execPaEnRelease (port : Nat) (s : State) : Host.Outcome State Fault Refusal := .next (paEnRelease port s)

def execStagingUnderrun (port : Nat) (s : State) : Host.Outcome State Fault Refusal := .next (stagingUnderrun port s)

def execFoldbackTrigger (port : Nat) (mv : Nat) (s : State) : Host.Outcome State Fault Refusal :=
  .next (foldbackTrigger port mv s)

def execFoldbackFurtherStep (port : Nat) (mv : Nat) (s : State) : Host.Outcome State Fault Refusal :=
  .next (foldbackFurtherStep port mv s)

def execOvercurrentMute (port : Nat) (mv : Nat) (s : State) : Host.Outcome State Fault Refusal :=
  .next (overcurrentMute port mv s)

def execAgcLower (input : Nat) (s : State) : Host.Outcome State Fault Refusal := .next (agcLower input s)

def execAgcRaise (input : Nat) (s : State) : Host.Outcome State Fault Refusal := .next (agcRaise input s)

def execOwnTxSuppressEnd (fg : Nat) (s : State) : Host.Outcome State Fault Refusal := .next (ownTxSuppressEnd fg s)

def execOverloadWindowEnd (input : Nat) (sec : Nat) (s : State) : Host.Outcome State Fault Refusal :=
  .next (overloadWindowEnd input sec s)

def execLpIsenseRead (port : Nat) (mv : Nat) (who : Who) (s : State) : Host.Outcome State Fault Refusal :=
  .next (lpIsenseRead port mv who s)

end Sys2Proof.Machine
end

