-- ==== Sys2Proof/Machine/MacBase.lean ====
section
/-! DEFINITION. The ground of medium access (chapter 08): the node table, frames to be sent, sequence numbers and their
checkpoints (R257, R259). -/

namespace Sys2Proof.Machine

open Sys2Proof

/-! ## The node table -/

/-- The node of a short address. -/
def State.node (s : State) (a : Nat) : Option Node := Tab.get (fun _ => none) s.mac.nodes a

/-- `s` with the node of a short address replaced or removed. -/
def State.setNode (s : State) (a : Nat) (n : Option Node) : State :=
  { s with mac := { s.mac with nodes := Tab.set (fun _ => none) s.mac.nodes a n } }

/-- Whether a node's key confirmation has completed. -/
def isAssociated (n : Node) : Bool := n.state == .active || n.state == .absent || n.state == .handing

/-- Whether short address `a` is an associated node. -/
def State.associated (s : State) (a : Nat) : Bool :=
  match s.node a with
  | none => false
  | some n => isAssociated n

/-- The associated nodes' short addresses. -/
def State.nodeAddrs (s : State) : List Nat :=
  (s.mac.nodes.filter fun p => match p.2 with
    | none => false
    | some n => isAssociated n).map Prod.fst

/-- The short address of an EUI-64, where the node table has it. -/
def State.addrOf (s : State) (eui : Nat) : Option Nat :=
  (s.mac.nodes.find? fun p => match p.2 with
    | none => false
    | some n => n.eui == eui).map Prod.fst

/-- CAP bits of a node. -/
def nodeRelay (n : Node) : Bool := n.cap.testBit 0
def nodeSleepy (n : Node) : Bool := n.cap.testBit 1 || !n.mains
def nodeStreams (n : Node) : Bool := n.cap.testBit 3

/-- The module's index and a global node address on this module (R416). -/
def State.moduleIndex (s : State) : Nat := s.fld F.GL_CFG_INDEX 0

def State.globalAddr (s : State) (a : Nat) : Nat := s.moduleIndex * 2 ^ 16 + a

/-- The short address on this module that a global address names. -/
def State.localAddr (s : State) (g : Nat) : Option Nat :=
  if g / 2 ^ 16 % 2 ^ 10 = s.moduleIndex then some (g % 2 ^ 16) else none

/-- HOLD of LP_ZCSTAT. -/
def State.zcHold (s : State) (g : Nat) : Bool := s.flag F.LP_ZCSTAT_HOLD g

/-- Whether a node is due at a beacon, on the schedule in use: that for outages while the tracker is in holdover (R267). -/
def State.dueAt (s : State) (n : Node) (bnum : Nat) : Bool :=
  match n.rdv with
  | none => false
  | some r =>
    if s.zcHold n.fg then bnum % 2 ^ r.outPexp == r.outPhase else bnum % 2 ^ r.pexp == r.phase

/-! ## Addresses (R234, R235) -/

/-- The quarantine of an address: EUI-64, group, beacon intervals left. -/
def State.quarantine (s : State) (a : Nat) : Option (Nat × Nat × Nat) := Tab.get (fun _ => none) s.mac.quar a

def State.setQuar (s : State) (a : Nat) (q : Option (Nat × Nat × Nat)) : State :=
  { s with mac := { s.mac with quar := Tab.set (fun _ => none) s.mac.quar a q } }

/-- Whether a short address is free: no node, no quarantine, not given to a node that is being handed in. -/
def State.addrFree (s : State) (a : Nat) : Bool :=
  (s.node a).isNone && (s.quarantine a).isNone && !s.mac.handIn.any fun h => h.saddr == a

/-- The lowest free address from `a` on, and the highest at or below `a`, with fuel. -/
def State.lowestFree (s : State) (a : Nat) : Nat → Option Nat
  | 0 => none
  | n + 1 => if s.addrFree a then some a else s.lowestFree (a + 1) n

def State.highestFree (s : State) (a : Nat) : Nat → Option Nat
  | 0 => none
  | n + 1 => if s.addrFree a then some a else s.highestFree (a - 1) n

/-- An address for a native node (R234). -/
def State.freeAddr (s : State) : Option Nat :=
  match s.lowestFree 0x8000 0x7FFE with
  | some a => some a
  | none => s.highestFree 0x7FFF 0x7FFF

/-- The address in quarantine of an EUI-64. -/
def State.quarOf (s : State) (eui : Nat) : Option Nat :=
  (s.mac.quar.find? fun p => match p.2 with
    | none => false
    | some q => q.1 == eui).map Prod.fst

/-! ## Standard-mode devices (R221 to R223, R234) -/

/-- Standard-mode devices of the module, and those of a group. -/
def State.stdNodes (s : State) : List Node :=
  (s.mac.nodes.filterMap Prod.snd).filter fun n => n.state == .standard

def State.stdIn (s : State) (fg : Nat) : Nat := (s.stdNodes.filter fun n => n.fg == fg).length

/-- A free address of 0x0001 to 0x7FFF: which of them is open (log entry 194). -/
def State.freeStd (s : State) : Option Nat :=
  let k := s.pickNat 0x7FFF
  match s.lowestFree (k + 1) (0x7FFF - k) with
  | some a => some a
  | none => s.lowestFree 1 k

/-- The address a joining standard-mode device gets: its address in quarantine, else a free one. -/
def State.stdAddr (s : State) (eui : Nat) : Option Nat :=
  match s.quarOf eui with
  | some a => if a ≤ 0x7FFF then some a else s.freeStd
  | none => s.freeStd

/-- A standard-mode device whose join its pack has accepted (R222, R234): known by its EUI-64 it keeps its address; at most 4 096 a group and 16 384 a
module, 256 in minimal service (R477). -/
def State.joinStandard (s : State) (fg eui : Nat) : State :=
  match s.addrOf eui with
  | some a => match s.node a with
    | none => s
    | some n => if n.state = .standard then s.setNode a (some { n with fg := fg }) else s
  | none =>
    if 4096 ≤ s.stdIn fg ∨ (if s.minimal then 256 else 16384) ≤ s.stdNodes.length then s
    else match s.stdAddr eui with
      | none => s
      | some a => (s.drew.setNode a (some { eui := eui, state := .standard, fg := fg })).setQuar a none

/-! ## Frames to be sent -/

/-- Free frame-buffer descriptors (R296): those neither with the host, in the return ring, nor with a transmission. -/
def State.fbdFree (s : State) : Nat := 262144 - s.mac.hostFbds.length - s.mac.txFbds

/-- A frame placed in a buffer, waiting for an allocation. -/
def State.addFrame (s : State) (f : Frame) : State :=
  { s with
    lin := { s.lin with nextFrame := s.lin.nextFrame + 1, frames := s.lin.frames ++ [{ f with id := s.lin.nextFrame, text := s.lin.nextFrame }] }
    mac := { s.mac with txFbds := s.mac.txFbds + 1 } }

/-- A frame to a node, along its route. -/
def State.sendTo (s : State) (a : Nat) (body : Body) (ackReq : Bool) (src : Src) : State :=
  match s.node a with
  | none => s
  | some n => s.addFrame { id := 0, fg := n.fg, dst := a, body := body, ackReq := ackReq, src := src, relay := n.route,
                            since := s.now }

/-- A management message to a node. -/
def State.sendMgmt (s : State) (a : Nat) (m : Mgmt) : State := s.sendTo a (.mgmt m) true .none

/-- A broadcast frame of a group. -/
def State.broadcast (s : State) (fg : Nat) (body : Body) : State := s.addFrame { id := 0, fg := fg, dst := 0xFFFF, body := body }

/-- A management message to every node of a list. -/
def State.sendAll (s : State) (m : Mgmt) : List Nat → State
  | [] => s
  | a :: t => (s.sendMgmt a m).sendAll m t

/-! ## Sequence numbers (R257, R259, R261) -/

/-- The BNUM checkpoints of the eight groups. -/
def State.bnumCs (s : State) : List Nat := (List.range 8).map fun g => Tab.get (fun _ => 0) s.mac.bnumC g

/-- The LSEQ checkpoints of the eight Guyline links. -/
def State.glCs (s : State) : List Nat := (List.range 8).map fun l => Tab.get (fun _ => 0) s.mac.glC l

/-- EPOCH (MAC_STAT.EPOCH). -/
def State.epoch (s : State) : Nat := s.fld F.MAC_STAT_EPOCH 0

/-- A sequence checkpoint submitted: the prefix values and entries (SADDR, TX C, RX C), keys first and last SADDR. -/
def State.checkpoint (s : State) (bcast : Nat) (bnum : List Nat) (nodes : List (Nat × Nat × Nat)) : State :=
  s.submit 3 ((nodes.head?.map Prod.fst).getD 0) ((nodes.getLast?.map Prod.fst).getD 0)
    (.checkpoint s.epoch bcast bnum s.glCs nodes) 1

/-- The distance a counter may run beyond its checkpoint, and where the next checkpoint starts (R259). -/
def seqSpan : Nat := 2 ^ 16
def seqMark : Nat := 2 ^ 16 - 256

/-- A checkpoint of a node's transmit side started when its counter has reached C + 2^16 − 256. -/
def State.ckTx (s : State) (a : Nat) : State :=
  match s.node a with
  | none => s
  | some n =>
    if n.seq.ctx + seqMark ≤ n.seq.tx ∧ n.seq.ckTx = false then
      (s.checkpoint s.mac.bctrC s.bnumCs [(a, n.seq.ctx + seqSpan, n.seq.crx)]).setNode a
        (some { n with seq := { n.seq with ckTx := true } })
    else s

/-- A checkpoint of a node's receive side up to `v` (R259). -/
def State.ckRx (s : State) (a v : Nat) : State :=
  match s.node a with
  | none => s
  | some n =>
    if n.seq.ckRx then s
    else (s.checkpoint s.mac.bctrC s.bnumCs [(a, n.seq.ctx, max n.seq.crx (max v n.seq.h))]).setNode a
      (some { n with seq := { n.seq with ckRx := true } })

/-- A checkpoint of the broadcast counter started in the same way. -/
def State.ckBcast (s : State) : State :=
  if s.mac.bctrC + seqMark ≤ s.mac.bctr ∧ s.mac.ckBcast = false then
    let s1 := s.checkpoint (s.mac.bctrC + seqSpan) s.bnumCs []
    { s1 with mac := { s1.mac with ckBcast := true } }
  else s

/-- The next transmit value towards `dst`, where it may be used (R259): the node's own counter or the broadcast counter (log entry 59). -/
def State.usable (s : State) (dst : Nat) : Option Nat :=
  if dst = 0xFFFF then (if s.mac.bctr < s.mac.bctrC + seqSpan then some s.mac.bctr else none)
  else match s.node dst with
    | none => none
    | some n => if n.seq.tx < n.seq.ctx + seqSpan then some n.seq.tx else none

/-- `s` after the next transmit value towards `dst` was taken, with the checkpoint this may start. -/
def State.takeSeq (s : State) (dst : Nat) : State :=
  if dst = 0xFFFF then { s with mac := { s.mac with bctr := s.mac.bctr + 1 } }.ckBcast
  else match s.node dst with
    | none => s
    | some n => (s.setNode dst (some { n with seq := { n.seq with tx := n.seq.tx + 1 } })).ckTx dst

/-- Serial-number comparison of two 32-bit sequence numbers: `a` is newer than `b` (R257). -/
def seqNewer (a b : Nat) : Bool := let d := (a + 2 ^ 32 - b % 2 ^ 32) % 2 ^ 32; 0 < d && d < 2 ^ 31

/-- How far `a` lies below `h`. -/
def seqBelow (a h : Nat) : Nat := (h + 2 ^ 32 - a % 2 ^ 32) % 2 ^ 32

/-- Checkpoint entries of every associated node: the next unused transmit value and H (R259). -/
def State.allEntries (s : State) : List (Nat × Nat × Nat) :=
  s.nodeAddrs.filterMap fun a => (s.node a).map fun n => (a, max n.seq.ctx n.seq.tx, max n.seq.crx n.seq.h)

/-- A list cut into runs of at most `n`, with fuel. -/
def chunks {α : Type} (n : Nat) : Nat → List α → List (List α)
  | 0, _ => []
  | _, [] => []
  | k + 1, l => l.take n :: chunks n k (l.drop n)

/-- One checkpoint record for each run of entries. -/
def State.checkpoints (s : State) (bcast : Nat) (bnum : List Nat) : List (List (Nat × Nat × Nat)) → State
  | [] => s
  | e :: t => (s.checkpoint bcast bnum e).checkpoints bcast bnum t

/-- Every counter checkpointed, one record for each 1 013 associated nodes (R259, R485). -/
def State.checkpointAll (s : State) : State :=
  let entries := s.allEntries
  let bnum := (List.range 8).map fun g => max (Tab.get (fun _ => 0) s.mac.bnumC g) ((s.reg .MAC_BNUM g).toNat + 1)
  let runs := if entries.isEmpty then [[]] else chunks 1013 65 entries
  s.checkpoints (max s.mac.bctrC s.mac.bctr) bnum runs

/-! ## Latency bounds (R381, R383) -/

/-- The class of the flow of a node under a service code (R381): by the newest assignment that names it, else class 0. -/
def State.flowClass (s : State) (gaddr fg : Nat) (svc : Nat) : Nat :=
  ((s.plc.assigns.find? fun p => (match p.1.group with
    | some g => g == fg
    | none => p.1.gaddr == gaddr) && (match p.1.svc with
    | some c => c == svc
    | none => true)).map Prod.snd).getD 0

/-- A missed latency bound of class `c` counted (R383): PIT_EVT.LATE and the count that the next placement report gives. -/
def State.countLate (s : State) (c : Nat) (up : Bool) : State :=
  let n := Tab.get (fun _ => (0, 0)) s.plc.late c
  { s.setFld F.PIT_EVT_LATE 0 1 with
    plc := { s.plc with late := Tab.set (fun _ => (0, 0)) s.plc.late c (if up then (n.1 + 1, n.2) else (n.1, n.2 + 1)) } }

/-- Whether more than `us` microseconds lie between two times; 0 is no bound. -/
def beyond (us : Nat) (a b : Stamp) : Bool := us != 0 && decide (stampNs a + 1000 * us < stampNs b)

/-- LAT_UL judged for a frame of address `a` whose last sample came at `fin` (R383) (log entry 133). -/
def State.judgeUp (s : State) (a fg svc : Nat) (fin : Stamp) : State :=
  let c := s.flowClass (s.globalAddr a) fg svc
  if beyond (Tab.get (fun _ => ({} : SvcClass)) s.plc.classes c).latUl fin s.now then s.countLate c true else s

/-- LAT_DL judged when the first frame of a downlink command goes on the line (R383). Whether the MAC could have granted an
allocation at acceptance is a free value (log entry 134). -/
def State.judgeDown (s : State) (f : Frame) : State :=
  match f.body with
  | .data svc _ =>
    let c := s.flowClass (s.globalAddr f.dst) f.fg svc
    if f.src ≠ .none ∧ f.txn = 0 ∧ f.resent = 0 ∧ f.firstSeq.getD (f.seq.getD 0) = f.seq.getD 0 ∧
        beyond (Tab.get (fun _ => ({} : SvcClass)) s.plc.classes c).latDl f.since s.now = true then
      if Config.freeBool s.free then s.drew.countLate c false else s.drew
    else s
  | _ => s

end Sys2Proof.Machine
end

