-- ==== Sys2Proof/Machine/LedgerUnit.lean ====
section
/-! DEFINITION. The token ledger (chapter 09, R282 to R295): triggers, batches, transitions, commands. -/

namespace Sys2Proof.Machine

open Sys2Proof

/-! ## Entries -/

/-- Entry `lid` as the last committed batch left it. -/
def State.entry (s : State) (lid : Nat) : Option LEntry := Tab.get (fun _ => none) s.ldg.entries lid

/-- `s` with an entry replaced or released. -/
def State.setEntry (s : State) (lid : Nat) (e : Option LEntry) : State :=
  { s with ldg := { s.ldg with entries := Tab.set (fun _ => none) s.ldg.entries lid e } }

/-- Whether a state is terminal (R282). -/
def isTerminal (e : LEntry) : Bool := e.state == .confirmed || e.state == .returned

/-- Entries held (R290). -/
def State.ledgerHeld (s : State) : Nat := s.ldg.entries.length

/-- Entries held in a state. -/
def State.countState (s : State) (st : LState) : Nat :=
  (s.ldg.entries.filter fun p => match p.2 with
    | none => false
    | some e => e.state == st).length

/-- Entry `lid` inside a batch: its last transition there, or what was committed. -/
def State.seen (s : State) (b : List LTrans) (lid : Nat) : Option LEntry :=
  match b.reverse.find? fun t => t.lid == lid with
  | some t => t.entry
  | none => s.entry lid

/-- The LID of the held or batched entry with a host reference (R294). -/
def State.lidOfHref (s : State) (b : List LTrans) (href : Nat) : Option Nat :=
  match b.find? fun t => match t.entry with
    | none => false
    | some e => e.href == href with
  | some t => some t.lid
  | none => (s.ldg.entries.find? fun p => match p.2 with
    | none => false
    | some e => e.href == href).map Prod.fst

/-- The LID with a node's LSEQ, the open entry first. -/
def State.lidOfSeq (s : State) (gaddr lseq : Nat) : Option Nat :=
  let has : Bool → Nat × Option LEntry → Bool := fun wantOpen p => match p.2 with
    | none => false
    | some e => e.gaddr == gaddr && e.lseq == lseq && (!wantOpen || !isTerminal e)
  match s.ldg.entries.find? (has true) with
  | some p => some p.1
  | none => (s.ldg.entries.find? (has false)).map Prod.fst

/-! ## Judging triggers (R282, R285) -/

/-- A RETURNED entry (*Return reasons*). -/
def returnedAs (e : LEntry) (reason delivery : Nat) : LEntry :=
  { e with state := .returned, reason := reason, delivery := delivery }

/-- The next state of an entry under a trigger; none where it changes nothing (*Ledger transitions*) (log entry 33). -/
def ledgerStep (e : LEntry) (now : Nat) : LTrigger → Option LEntry
  | .submit _ _ _ _ _ _ => none
  | .cancel _ _ => if e.state = .queued then some (returnedAs e 1 0) else none
  | .stage _ => if e.state = .queued then some { e with state := .sent } else none
  | .report _ result cres mcode =>
    let e1 := { e with mcode := mcode }
    if e.state = .sent ∧ result = 2 then some (returnedAs e1 5 2)
    else if e.state = .sent ∨ e.state = .acked then
      if cres = 2 then some (returnedAs e1 6 2)
      else if cres = 1 ∨ (cres = 3 ∧ result < 2) then some { e1 with state := .confirmed }
      else if e.state = .sent ∧ cres = 0 ∧ result < 2 then some { e1 with state := .acked, ackedAt := now }
      else none
    else none
  | .deadline _ =>
    if e.state = .queued then some (returnedAs e 2 0) else if e.state = .sent then some (returnedAs e 4 1) else none
  | .released _ =>
    if e.state = .queued then some (returnedAs e 3 0) else if e.state = .sent then some (returnedAs e 3 1) else none
  | .confirmTimeout _ => if e.state = .acked then some (returnedAs e 7 3) else none
  | .release _ _ => none

/-- The event record of a report judged against a terminal entry (R285): flag LATE_REPORT. -/
def State.lateReport (s : State) (e : Option LEntry) (lid result : Nat) : State :=
  match e with
  | none => s
  | some x => if isTerminal x ∧ result < 2 then s.eventAs 0 .ok pageLedger [(4, lid)] 4 else s

/-- A LEDGER_SUBMIT judged (R281, R290, R294). -/
def State.judgeSubmit (s : State) (b : List LTrans) (src : Src) (gaddr token href deadline : Nat) (want : Bool) :
    State × List LTrans :=
  match s.lidOfHref b href with
  | some lid => (s.completeAs src .ok [(8, lid)] 8, b)
  | none =>
    let node := (s.localAddr gaddr).map s.associated
    if node ≠ some true then (s.complete src .denied [], b)
    else if 524288 ≤ s.ledgerHeld + (b.filter fun t => t.old.isNone).length then (s.complete src .limit [], b)
    else
      let n := s.ldg.accepted + 1
      let lid := s.moduleIndex * 2 ^ 54 + n
      let lseq := Tab.get (fun _ => 1) s.ldg.lseq gaddr
      let e : LEntry := { lseq := lseq, gaddr := gaddr, token := token, href := href, deadline := deadline, want := want,
                          state := .queued }
      ({ s with ldg := { s.ldg with accepted := n, lseq := Tab.set (fun _ => 1) s.ldg.lseq gaddr (lseq + 1) } },
       b ++ [{ lid := lid, old := none, entry := some e, src := src }])

/-- What a held entry does not do: its token is not staged and its deadline makes no transition (R492). -/
def blockedWhileHeld : LTrigger → Bool
  | .stage _ => true
  | .deadline _ => true
  | _ => false

/-- An entry's transition by a trigger, appended to the batch. -/
def State.judgeOne (s : State) (b : List LTrans) (lid : Nat) (t : LTrigger) (src : Src) : State × List LTrans :=
  match s.seen b lid with
  | none => (s.complete src .denied [], b)
  | some e =>
    match (if s.lidHeld lid && blockedWhileHeld t then none else ledgerStep e s.now.s t) with
    | some e' => (s, b ++ [{ lid := lid, old := some e, entry := some e', src := src }])
    | none => (s.complete src .denied [], b)

/-- The transitions of every held entry of a released node. -/
def State.judgeReleased (s : State) (t : LTrigger) (gaddr : Nat) (b : List LTrans) : List Nat → List LTrans
  | [] => b
  | lid :: r => match s.seen b lid with
    | none => s.judgeReleased t gaddr b r
    | some e =>
      if e.gaddr = gaddr then s.judgeReleased t gaddr (s.judgeOne b lid t .none).2 r else s.judgeReleased t gaddr b r

/-- A trigger judged against the state the batch so far gives. -/
def State.judge (s : State) (b : List LTrans) (t : LTrigger) : State × List LTrans :=
  match t with
  | .submit src g tok href dl want => s.judgeSubmit b src g tok href dl want
  | .cancel src lid => s.judgeOne b lid t src
  | .release src lid =>
    match s.seen b lid with
    | none => (s.complete src .denied [], b)
    | some e =>
      if isTerminal e then (s, b ++ [{ lid := lid, old := some e, entry := none, src := src }])
      else (s.complete src .denied [], b)
  | .stage lid => s.judgeOne b lid t .none
  | .report lid result _ _ => ((s.lateReport (s.seen b lid) lid result).judgeOne b lid t .none)
  | .deadline lid => s.judgeOne b lid t .none
  | .confirmTimeout lid => s.judgeOne b lid t .none
  | .released g => (s, s.judgeReleased t g b ((s.ldg.entries.map Prod.fst) ++ (b.map fun x => x.lid).eraseDups.filter
      fun l => (s.entry l).isNone))

/-- Triggers judged in order until a batch is full (R288: 256 transitions); the triggers left over. -/
def State.judgeAll (s : State) (b : List LTrans) : List LTrigger → State × List LTrans × List LTrigger
  | [] => (s, b, [])
  | t :: r =>
    if 256 ≤ b.length then (s, b, t :: r)
    else
      let x := s.judge b t
      x.1.judgeAll x.2 r

/-- The code of a state in a journal line: 6 for a released entry (*Ledger entry*). -/
def lineState (e : Option LEntry) : Nat :=
  match e with
  | none => 6
  | some e => match e.state with
    | .queued => 1 | .sent => 2 | .acked => 3 | .confirmed => 4 | .returned => 5

/-- The journal line of a transition. -/
def ledgerLine (t : LTrans) : LedgerLine :=
  match t.entry.orElse (fun _ => t.old) with
  | none => { lid := t.lid, lseq := 0, gaddr := 0, newState := 6 }
  | some e => { lid := t.lid, lseq := e.lseq, gaddr := e.gaddr, newState := lineState t.entry, reason := e.reason,
                delivery := e.delivery, flags := if e.want then 1 else 0, href := e.href, deadline := e.deadline,
                token := e.token, mcode := e.mcode }

/-- The lowest and highest of a list. -/
def lowest (l : List Nat) : Nat := l.foldl (fun m x => if x < m then x else m) (l.headD 0)
def highest (l : List Nat) : Nat := l.foldl (fun m x => if m < x then x else m) 0

/-- A batch formed of the waiting triggers when none is in flight (R288) and none is held back (R292), by the pack that owns the MAC. -/
def State.formBatch (s : State) : State :=
  if s.ldg.batch.isSome ∨ s.ldg.hold = true ∨ s.ldg.waiting.isEmpty then s
  else
    let x := s.judgeAll [] s.ldg.waiting
    let s1 := { x.1 with ldg := { x.1.ldg with waiting := x.2.2 } }
    if x.2.1.isEmpty then s1
    else
      let lids := x.2.1.map fun t => t.lid
      let s2 := s1.submit 4 (lowest lids) (highest lids) (.ledger (x.2.1.map ledgerLine)) 1
      { s2 with ldg := { s2.ldg with batch := some x.2.1, pack := s2.owner pageMac } }

/-- A trigger of ledger transitions: it waits for the next batch, which forms at once when none is in flight. -/
def State.ledgerTrigger (s : State) (t : LTrigger) : State :=
  { s with ldg := { s.ldg with waiting := s.ldg.waiting ++ [t] } }.formBatch

/-- Triggers of a list. -/
def State.ledgerTriggers (s : State) : List LTrigger → State
  | [] => s
  | t :: r => (s.ledgerTrigger t).ledgerTriggers r

/-! ## A landed batch (R286, R288, R289, R295) -/

/-- The event record of a transition (R295). -/
def State.ledgerEvent (s : State) (t : LTrans) : State :=
  match t.entry with
  | none => s
  | some e => match e.state with
    | .confirmed => s.event .ok pageLedger [(4, t.lid)]
    | .returned => s.event .ledgerReturned pageLedger [(4, t.lid), (1, e.reason), (1, e.delivery)]
    | .sent => if s.flag F.MAC_LDGCFG_EVT_SENT 0 then s.event .ok pageLedger [(4, t.lid)] else s
    | .acked => if s.flag F.MAC_LDGCFG_EVT_ACKED 0 then s.event .ok pageLedger [(4, t.lid)] else s
    | .queued => s

/-- A transition applied: the entry, the counters, the completion, the event record. -/
def State.applyTrans (s : State) (t : LTrans) : State :=
  let s1 := s.setEntry t.lid t.entry
  let st := t.entry.map fun e => e.state
  let was := t.old.map fun e => e.state
  let s2 := { s1 with ldg := { s1.ldg with
    acc := if t.old.isNone then (s1.ldg.acc + 1) % 2 ^ 32 else s1.ldg.acc,
    confirmed := if st = some LState.confirmed ∧ was ≠ some LState.confirmed then (s1.ldg.confirmed + 1) % 2 ^ 32 else s1.ldg.confirmed,
    returned := if st = some LState.returned ∧ was ≠ some LState.returned then (s1.ldg.returned + 1) % 2 ^ 32 else s1.ldg.returned } }
  let s3 := s2.complete t.src .ok (if t.old.isNone then [(8, t.lid)] else [])
  s3.ledgerEvent t

/-- The transitions of a landed batch applied in order. -/
def State.applyBatch (s : State) : List LTrans → State
  | [] => s
  | t :: r => (s.applyTrans t).applyBatch r

/-- The global address and its first token frame for the entries a batch made SENT (R286). -/
def newlySent (b : List LTrans) : List (Nat × Nat) :=
  b.filterMap fun t => match t.entry with
    | some e => if e.state = .sent then some (e.gaddr, t.lid) else none
    | none => none

/-- Token frames for entries, one frame for each node; the send time of each entry is the node's beacon number. -/
def State.tokenFrames (s : State) (es : List (Nat × Nat)) : List Nat → State
  | [] => s
  | g :: r =>
    let lids := (es.filter fun p => p.1 == g).map Prod.snd
    match s.localAddr g with
    | none => s.tokenFrames es r
    | some a => (s.sendTo a (.tokens (lids.take 16)) true .none).tokenFrames es r

/-- The beacon number of the group of a global address. -/
def State.bnumOf (s : State) (g : Nat) : Nat :=
  match (s.localAddr g).bind s.node with
  | none => 0
  | some n => (s.reg .MAC_BNUM n.fg).toNat

/-- The time of the last token frame noted in entries. -/
def State.noteSent (s : State) : List (Nat × Nat) → State
  | [] => s
  | (g, lid) :: r => match s.entry lid with
    | none => s.noteSent r
    | some e => (s.setEntry lid (some { e with sentAt := s.bnumOf g })).noteSent r

/-- The batch in flight landed: its transitions take effect, first token frames are staged, the next batch forms (log entry 34). -/
def State.ledgerLanded (s : State) : State :=
  match s.ldg.batch with
  | none => s
  | some b =>
    let s1 := ({ s with ldg := { s.ldg with batch := none } }).applyBatch b
    let es := newlySent b
    ((s1.tokenFrames es (es.map Prod.fst).eraseDups).noteSent es).formBatch

/-! ## Staging and resending (R286) -/

/-- Whether entry `e` may be sent now: every entry of the node with LSEQ ≤ L − 64 is ACKED or terminal. -/
def State.withinWindow (s : State) (e : LEntry) : Bool :=
  s.ldg.entries.all fun p => match p.2 with
    | none => true
    | some x => x.gaddr != e.gaddr || decide (e.lseq < x.lseq + 64) || x.state == .acked || isTerminal x

/-- Entries of a node that are SENT. -/
def State.sentOf (s : State) (g : Nat) : Nat :=
  (s.ldg.entries.filter fun p => match p.2 with
    | none => false
    | some e => e.gaddr == g && e.state == .sent).length

/-- The QUEUED entries of a node to be staged now, at most so many that 16 are SENT. -/
def State.toStage (s : State) (g : Nat) : List Nat :=
  ((s.ldg.entries.filter fun p => match p.2 with
    | none => false
    | some e => e.gaddr == g && e.state == .queued && s.withinWindow e && !s.lidHeld p.1).map Prod.fst).take (16 - s.sentOf g)

/-- Whether token frames may go to a node now: associated, with a session key, not absent, and due when it is sleepy. -/
def tokenNode (n : Node) (due : Bool) : Bool :=
  n.state == .active && n.sess.isSome && (!nodeSleepy n || due)

/-- LEDGER_RESEND (R286, R291): a SENT entry is sent again RETRY beacon intervals after the last time, to a sleepy node at its due beacons. -/
def ledgerResend (lid : Nat) (due : Bool) (s : State) : State :=
  match s.entry lid with
  | none => s
  | some e =>
    match (s.localAddr e.gaddr).bind s.node with
    | none => s
    | some n =>
      if e.state = .sent ∧ e.sentAt + s.fld F.MAC_LDGCFG_RETRY 0 ≤ s.bnumOf e.gaddr ∧ tokenNode n (due && s.dueAt n (s.bnumOf e.gaddr)) = true ∧
         s.withinWindow e = true ∧ s.lidHeld lid = false then
        (s.tokenFrames [(e.gaddr, lid)] [e.gaddr]).noteSent [(e.gaddr, lid)]
      else s

/-- LEDGER_REPORT (R285): the entries of a report judged in order (log entry 33). -/
def ledgerReport (node : Nat) (entries : List (Nat × Nat × Nat × Nat)) (s : State) : State :=
  if s.associated node then
    s.ledgerTriggers (entries.filterMap fun e =>
      (s.lidOfSeq (s.globalAddr node) e.1).map fun lid => .report lid e.2.1 e.2.2.1 e.2.2.2)
  else s

/-- LEDGER_DEADLINE (R284): Compass time has passed the entry's deadline. -/
def ledgerDeadline (lid : Nat) (s : State) : State :=
  match s.entry lid with
  | none => s
  | some e =>
    if e.deadline ≠ 0 ∧ e.deadline ≤ s.now.s ∧ (e.state = .queued ∨ e.state = .sent) then s.ledgerTrigger (.deadline lid)
    else s

/-- LEDGER_CONFIRM_TIMEOUT (R282): CONF_S seconds in ACKED. -/
def ledgerConfirmTimeout (lid : Nat) (s : State) : State :=
  match s.entry lid with
  | none => s
  | some e =>
    if e.state = .acked ∧ e.ackedAt + s.fld F.MAC_LDGCFG_CONF_S 0 ≤ s.now.s then s.ledgerTrigger (.confirmTimeout lid) else s

/-! ## Commands (*Ledger commands*) -/

/-- A started ledger command, refused with DENIED in minimal service where `deny` holds (R477). -/
def State.onLedger (s : State) (src : Src) (op : Nat) (deny : Bool) (f : State → State) : State :=
  if s.starts src op then
    if deny && s.minimal then (s.start src).complete src .denied [] else f (s.start src)
  else s

/-- LEDGER_SUBMIT (R282, R290, R294) (log entry 32). -/
def ledgerSubmit (src : Src) (gaddr token href deadline : Nat) (want : Bool) (s : State) : State :=
  s.onLedger src 0x40 true fun s => s.ledgerTrigger (.submit src (gaddr % 2 ^ 26) token href deadline want)

/-- LEDGER_CANCEL (R285). -/
def ledgerCancel (src : Src) (lid : Nat) (s : State) : State :=
  s.onLedger src 0x41 true fun s => s.ledgerTrigger (.cancel src lid)

/-- LEDGER_QUERY (R283): state, reason, DELIVERY, MCODE and LSEQ. -/
def ledgerQuery (src : Src) (lid : Nat) (s : State) : State :=
  s.onLedger src 0x42 false fun s =>
    match s.entry lid with
    | none => s.complete src .denied []
    | some e => s.complete src .ok [(1, lineState (some e)), (1, e.reason), (1, e.delivery), (1, 0), (2, e.mcode), (2, 0), (4, e.lseq)]

/-- LEDGER_RELEASE (R290) (log entry 34). -/
def ledgerRelease (src : Src) (lid : Nat) (s : State) : State :=
  s.onLedger src 0x43 false fun s => s.ledgerTrigger (.release src lid)

/-- LEDGER_NEXT (R295): the next held LID above the one given; with none, LID 0 (log entry 17). -/
def ledgerNext (src : Src) (lid : Nat) (s : State) : State :=
  s.onLedger src 0x44 false fun s =>
    s.complete src .ok [(8, ((s.ldg.entries.find? fun p => decide (lid < p.1)).map Prod.fst).getD 0)]

/-- MAC_LDG_ACC_READ (R289): a read of MAC_LDG_ACC latches the other five counters; the set always balances. -/
def macLdgAccRead (who : Who) (s : State) : State :=
  if s.readable who .MAC_LDG_ACC 0 then
    let w : Nat → Word := BitVec.ofNat 32
    (((((s.setReg .MAC_LDG_Q 0 (w (s.countState .queued))).setReg .MAC_LDG_S 0 (w (s.countState .sent))).setReg .MAC_LDG_A 0
      (w (s.countState .acked))).setReg .MAC_LDG_C 0 (w s.ldg.confirmed)).setReg .MAC_LDG_R 0 (w s.ldg.returned)).returns
      (BitVec.ofNat 64 s.ldg.acc)
  else s.returns 0

/-! ## Meanings -/

def execLedgerSubmit (src : Src) (gaddr : Nat) (token : Nat) (href : Nat) (deadline : Nat) (want : Bool) (s : State) : Host.Outcome State Fault Refusal :=
  .next (ledgerSubmit src gaddr token href deadline want s)

def execLedgerCancel (src : Src) (lid : Nat) (s : State) : Host.Outcome State Fault Refusal :=
  .next (ledgerCancel src lid s)

def execLedgerQuery (src : Src) (lid : Nat) (s : State) : Host.Outcome State Fault Refusal :=
  .next (ledgerQuery src lid s)

def execLedgerRelease (src : Src) (lid : Nat) (s : State) : Host.Outcome State Fault Refusal :=
  .next (ledgerRelease src lid s)

def execLedgerNext (src : Src) (lid : Nat) (s : State) : Host.Outcome State Fault Refusal := .next (ledgerNext src lid s)

def execLedgerResend (lid : Nat) (due : Bool) (s : State) : Host.Outcome State Fault Refusal :=
  .next (ledgerResend lid due s)

def execLedgerReport (node : Nat) (entries : List (Nat × Nat × Nat × Nat)) (s : State) : Host.Outcome State Fault Refusal :=
  .next (ledgerReport node entries s)

def execLedgerDeadline (lid : Nat) (s : State) : Host.Outcome State Fault Refusal := .next (ledgerDeadline lid s)

def execLedgerConfirmTimeout (lid : Nat) (s : State) : Host.Outcome State Fault Refusal :=
  .next (ledgerConfirmTimeout lid s)

def execMacLdgAccRead (who : Who) (s : State) : Host.Outcome State Fault Refusal := .next (macLdgAccRead who s)

end Sys2Proof.Machine
end

