-- ==== Sys2Proof/Machine/RxBase.lean ====
section
/-! DEFINITION. The ground of reception (chapter 05): rings, rescans, deferred lists, the end of a reception. -/

namespace Sys2Proof.Machine

open Sys2Proof

/-- An open reception. -/
def State.recep (s : State) (id : Nat) : Option Recep := s.rx.open_.find? fun r => r.id == id

/-- `s` with a reception replaced by number. -/
def State.setRecep (s : State) (r : Recep) : State :=
  { s with rx := { s.rx with open_ := s.rx.open_.map fun x => if x.id = r.id then r else x } }

/-- Receptions open in a group (8 + link for a line link). -/
def State.openIn (s : State) (fg : Nat) : Nat := (s.rx.open_.filter fun r => r.fg == fg).length

/-- Reception slots of a group: 64, or 8 of a line link (R151, R216). -/
def slotsOf (fg : Nat) : Nat := if fg < 8 then 64 else 8

/-- The deferred list of a group (R154). -/
def State.deferredOf (s : State) (fg : Nat) : List Deferred := Tab.get (fun _ => []) s.rx.deferred fg

def State.setDeferred (s : State) (fg : Nat) (l : List Deferred) : State :=
  { s with rx := { s.rx with deferred := Tab.set (fun _ => []) s.rx.deferred fg l } }

/-- An entry placed on a deferred list of 1 024; the oldest goes when it is full (R154). -/
def State.defer (s : State) (fg : Nat) (d : Deferred) : State :=
  let l := s.deferredOf fg
  s.setDeferred fg ((if 1024 ≤ l.length then l.drop 1 else l) ++ [d])

/-- The key of an end count: late-found, group, status. -/
def endKey (late : Bool) (fg code : Nat) : Nat := (if late then 1024 else 0) + fg % 16 * 32 + code % 32

/-- Whether a search of stored samples opened a reception: a rescan or a cleaned-span search. -/
def fromStored (r : Recep) : Bool :=
  match r.origin with
  | .rescan _ => true
  | .cleaned _ => true
  | _ => false

/-- Whether a reception is late-found (R166): opened by a rescan or a cleaned-span search, or ended more than 50 ms after
its last sample, which came at `fin` in ns. -/
def State.lateFound (s : State) (r : Recep) (fin : Nat) : Bool := fromStored r || decide (fin + 50000000 < stampNs s.now)

/-- Whether the end of a dominant reception cancels it (R157, R158): OK or REPLAY, and not of a standard mode (R220). -/
def cancels (r : Recep) (st : Status) : Bool := (st == .ok || st == .replay) && !r.std

/-- A weaker reception once the dominant reception `r` has ended: cleaned of it where it held for it and that is `clean`, else with the symbols
over which its frame lay erased (R157, R158). One that holds does so until it resumes. -/
def freed (r : Recep) (clean : Bool) (x : Recep) : Recep :=
  if x.wait = .held r.id ∧ clean = true then { x with cleaned := x.cleaned + 1 }
  else if x.wait = .held r.id ∨ x.above.contains r.id = true then
    { x with above := x.above.erase r.id, spans := x.spans ++ [(stampNs r.start, r.need)] }
  else x

/-- The end of a reception with a status (R151, R162): its slot is free, it is counted, MDM_EVTCFG selects an event record
with the start time, SRC and SEQ (log entry 47). -/
def State.endRecep (s : State) (r : Recep) (st : Status) (late : Bool) (src seq : Nat) : State :=
  let code := Status.code st
  let c := countUp s.rx.ends (endKey false r.fg code) 0xFFFFFFFF
  let c := if late then countUp c (endKey true r.fg code) 0xFFFFFFFF else c
  let rest := (s.rx.open_.filter fun x => x.id != r.id).map (freed r (cancels r st))
  let s1 := { s with rx := { s.rx with open_ := rest, ends := c } }
  if (s.fld F.MDM_EVTCFG_EVT 0).testBit code then
    s1.eventAs 0 st pageRing [(2, r.fg), (2, src), (4, r.start.s), (4, r.start.ns), (4, seq)] (if r.cleaned = 0 then 0 else 64)
  else s1

/-- Every reception of a list ended with a status. -/
def State.endReceps (s : State) (st : Status) : List Recep → State
  | [] => s
  | r :: t => (s.endRecep r st false 0 0).endReceps st t

/-! ## Rescans (R163 to R166) -/

/-- Rescans of a group that wait, and that run. -/
def State.rescansWaiting (s : State) (fg : Nat) : Nat := (s.rx.rescans.filter fun r => r.fg == fg && !r.running).length
def State.rescansRunning (s : State) (fg : Nat) : Nat := (s.rx.rescans.filter fun r => r.fg == fg && r.running).length

/-- A rescan trigger (R163, R164): queued, or refused with LIMIT when 64 wait. -/
def State.rescan (s : State) (fg src : Nat) (t0 t1 : Stamp) (deferredOnly host : Bool) : State :=
  if 64 ≤ s.rescansWaiting fg then
    let s1 := s.event .limit pageRing [(4, fg)]
    if host then s1.setFld F.MDM_RESCAN_STAT_REFUSED 0 1 else s1
  else
    let id := s.rx.nextRescan
    let s1 := { s with rx := { s.rx with nextRescan := id + 1, rescans := s.rx.rescans ++
      [{ id := id, fg := fg, src := src, t0 := t0, t1 := t1, deferredOnly := deferredOnly, host := host }] } }
    if host then
      let s2 := { s1 with rx := { s1.rx with hostRescan := some id } }
      ((s2.setFld F.MDM_RESCAN_STAT_STATE 0 1).setFld F.MDM_RESCAN_STAT_FOUND 0 0).setFld F.MDM_RESCAN_STAT_EXPIRED 0 0
    else s1

/-- A short time earlier by whole seconds. -/
def stampBack (t : Stamp) (sec : Nat) : Stamp := ⟨t.s - sec, if sec ≤ t.s then t.ns else 0⟩

/-! ## Rings -/

/-- Blocks a ring of `ds` tenths of a second holds: blocks of 2.048 ms. -/
def ringBlocks (ds : Nat) : Nat := ds * 100000 / 2048

/-- The depth in force of ring `r`, in blocks. -/
def State.ringDepth (s : State) (r : Nat) : Nat := ringBlocks (if r < 32 then s.plc.narrowDs else s.plc.wideDs)

/-- The span of a block in ns. -/
def blockNs : Nat := 2048000

/-- A ring cut to a depth in blocks, the oldest gone (R143). -/
def trimRing (x : Ring) (n : Nat) : Ring := { x with blocks := x.blocks.drop (x.blocks.length - n) }

/-- The start of the newest run of valid blocks of a ring (R406: nothing before its newest lost block counts). -/
def oldestValid : List Block → Option Stamp
  | [] => none
  | b :: t =>
    if t.any fun x => x.invalid then oldestValid t
    else if b.invalid then (t.head?.map fun x => x.t0) else some b.t0

/-- Whether the sample at `t` is not lost to a ring: at or after its oldest valid sample, or, where it holds no block, after it was emptied. -/
def ringHolds (x : Ring) (t : Stamp) : Bool :=
  match oldestValid x.blocks with
  | none => x.blocks.isEmpty && decide (x.since ≤ stampNs t)
  | some t0 => decide (stampNs t0 ≤ stampNs t)

/-- The rings of a group's inputs, or of the ports of a line link. -/
def State.ringsOf (s : State) (fg : Nat) : List Nat :=
  if fg < 8 then (List.range 32).filter (s.inGroup fg) else (s.linkPorts (fg - 8)).map fun p => p + 32

/-- Whether the sample at `t` is still retained on some input of a group, or on a port of a line link (R141). -/
def State.retained (s : State) (fg : Nat) (t : Stamp) : Bool := (s.ringsOf fg).any fun r => ringHolds (s.ring r) t

/-- The end of what a ring holds, in ns. -/
def ringEnd (x : Ring) : Option Nat := x.blocks.getLast?.map fun b => stampNs b.t0 + blockNs

/-- The time up to which a group's rings are written: that of the last of its recording inputs that have a block; where none records, that
of its fullest ring (R23, R142). -/
def State.written (s : State) (fg : Nat) : Nat :=
  let ends : List Nat → List Nat := fun l => l.filterMap fun r => ringEnd (s.ring r)
  match ends ((s.ringsOf fg).filter fun r => s.portOn (r % 32)) with
  | e :: t => t.foldl min e
  | [] => (ends (s.ringsOf fg)).foldl max 0

/-- Deferred entries of a group whose start is no longer retained dropped (R154). -/
def State.pruneDeferred (s : State) (fg : Nat) : State :=
  s.setDeferred fg ((s.deferredOf fg).filter fun d => s.retained fg d.start)

/-- The deferred lists of every group pruned. -/
def State.pruneAll (s : State) : List Nat → State
  | [] => s
  | g :: t => (s.pruneDeferred g).pruneAll t

/-- Every ring cut to the depth in force (R143). -/
def State.trimRings (s : State) : State :=
  let s1 : State := { s with lin := { s.lin with rings := s.lin.rings.map fun p => (p.1, trimRing p.2 (s.ringDepth p.1)) } }
  s1.pruneAll (List.range 8)

/-- The time of the oldest narrow sample retained on every enabled input (MDM_OLDEST). -/
def State.oldestSample (s : State) : Stamp :=
  ((List.range 32).filter s.portOn).foldl (fun m p => match oldestValid (s.ring p).blocks with
    | none => m
    | some t => if stampNs m < stampNs t then t else m) ⟨0, 0⟩

/-- An emptied ring: its generation counts afresh and the gain in force stays (R139, R144). -/
def State.emptied (s : State) (r : Nat) : Ring := { code := if r < 32 then s.gain r else 0, since := stampNs s.now }

/-- Every ring but those of a list of inputs emptied (R144). -/
def State.emptyRings (s : State) (keep : List Nat) : State :=
  let rings := (List.range 64).filterMap fun r =>
    let x := if keep.contains r then s.ring r else s.emptied r
    if x = {} then none else some (r, x)
  State.pruneAll { s with lin := { s.lin with rings := rings } } (List.range 8)

end Sys2Proof.Machine
end

