-- ==== Sys2Proof/Machine/Tracker.lean ====
section
/-! DEFINITION. Zero-crossing trackers (R87 to R92, R555) and the slot grid (R99). Phases are in 1/65 536 cycle. -/

namespace Sys2Proof.Machine

open Sys2Proof

/-- The tracker of a feeder group. -/
def State.tracker (s : State) (g : Nat) : Tracker := Tab.get (fun _ => {}) s.lin.trackers g

def State.setTracker (s : State) (g : Nat) (t : Tracker) : State :=
  { s with lin := { s.lin with trackers := Tab.set (fun _ => {}) s.lin.trackers g t } }

/-- LOCK and REF of LP_ZCSTAT; the tracker counts in lock and in holdover. -/
def State.zcLock (s : State) (g : Nat) : Bool := s.flag F.LP_ZCSTAT_LOCK g
def State.zcRef (s : State) (g : Nat) : Nat := s.fld F.LP_ZCSTAT_REF g
def State.zcRuns (s : State) (g : Nat) : Bool := s.zcLock g || s.zcHold g

/-- The roles that may serve as reference: L1 to L3, only L1 with FIXED = 1, with a port in service and a valid mains
component (R92). FIXED written 1 while L2 or L3 is in use acts at the next event that judges the reference (log entry 173). -/
def State.zcUsable (s : State) (g : Nat) (valid : List Nat) : List Nat :=
  [1, 2, 3].filter fun r => (s.phasePort g r).isSome && valid.contains r && (r == 1 || !s.flag F.LP_ZCCFG_FIXED g)

/-- Whether a phase error exceeds a twelfth of a cycle. -/
def large (e : Int) : Bool := 65536 < e.natAbs * 12

/-- What one cycle of slewing leaves of a phase error: at most 1/1 024 cycle goes (R91). -/
def slewed (e : Int) : Int := if e.natAbs ≤ 64 then 0 else if 0 < e then e - 64 else e + 64

/-- A phase error to be removed: slewed out when it is at most a twelfth of a cycle, else stepped at the next phase-0
instant (R91, R555). -/
def addError (t : Tracker) (e : Int) : Tracker :=
  if large e then { t with step := some e } else { t with slew := t.slew + e }

/-- Holdover entered (R90): REF keeps the last reference (log entry 36). -/
def State.holdover (s : State) (g : Nat) : State :=
  let s1 := ((s.setFld F.LP_ZCSTAT_HOLD g 1).setFld F.LP_ZCSTAT_LOST g 1).setFld F.LP_ZCSTAT_LOCK g 0
  s1.setTracker g { s1.tracker g with large := 0, holdSince := s1.now }

/-- The slot that holds a phase (R99). -/
def slotOf (phase : Nat) : Nat := 12 * (phase % 65536) / 65536

/-- Phase-0 instants a tracker keeps: those of the deepest look-back ring at 65 Hz (R138). -/
def zerosKept : Nat := 3901

/-- An instant noted at which a cycle starts at a phase. -/
def noteZero (t : Tracker) (now phase : Nat) : Tracker := { t with zeros := ((now, phase) :: t.zeros).take zerosKept }

/-- The phase a cycle that starts at `z` (ns, phase) has at time `t`, when the next one starts at `next` or the frequency is `mhz`. -/
def phaseIn (z : Nat × Nat) (next : Option Nat) (mhz t : Nat) : Nat :=
  match next with
  | some n => z.2 + (65536 - z.2) * (t - z.1) / max (n - z.1) 1
  | none => min 65535 (z.2 + (t - z.1) * mhz * 65536 / 10 ^ 12)

/-- The phase at a time by a list of phase-0 instants, newest first; before the oldest, and after none, counted at the frequency alone. -/
def phaseAt (mhz t : Nat) : Option Nat → List (Nat × Nat) → Nat
  | _, [] => t * mhz * 65536 / 10 ^ 12 % 65536
  | next, z :: l => if z.1 ≤ t then phaseIn z next mhz t else phaseAt mhz t (some z.1) l

/-- The slot of a group's grid at a Compass short time in ns (R99, R100). -/
def State.slotAt (s : State) (g t : Nat) : Nat := min 11 (slotOf (phaseAt (s.fld F.LP_ZCFREQ_MHZ g) t none (s.tracker g).zeros))

/-- TRACKER_LOCK (R88): the first lock on the best reference, at a phase of the mains cycle, in whose slot the grid begins (R99). -/
def trackerLock (fg : Nat) (valid : List Nat) (mhz phase : Nat) (s : State) : State :=
  match s.zcUsable fg valid with
  | [] => s
  | r :: _ =>
    if s.zcRuns fg then s
    else
      let s1 := ((s.setFld F.LP_ZCSTAT_LOCK fg 1).setFld F.LP_ZCSTAT_REF fg r).setFld F.LP_ZCFREQ_MHZ fg mhz
      s1.setTracker fg { noteZero (s1.tracker fg) (stampNs s1.now) (phase % 65536) with everLocked := true, large := 0, slot := slotOf phase }

/-- The phase-error check of R555 on a tracker in lock. -/
def State.checkError (s : State) (g : Nat) (e : Int) : State :=
  let t := s.tracker g
  if large e then
    if 1 ≤ t.large then s.holdover g else s.setTracker g { t with large := 1 }
  else s.setTracker g { t with large := 0, slew := t.slew + e }

/-- The phase at which a cycle starts whose phase-0 instant steps out an error: a reference that is ahead shortens the cycle, one that is
behind lengthens it and its phase waits at 0 (log entry 174). -/
def startPhase (step : Option Int) : Nat :=
  match step with
  | some e => min 32768 e.toNat
  | none => 0

/-- PHASE_ZERO (R89, R446, R555): the cycle count goes up by one, the cycle's first slot begins, Compass stamps the instant, errors are slewed
or stepped; `mhz` is the measured frequency and `refs` the measured phases of L2 and L3. -/
def phaseZero (fg : Nat) (error : Option Int) (mhz : Option Nat) (refs : Option (Nat × Nat)) (s : State) : State :=
  if s.zcRuns fg then
    let t := s.tracker fg
    let p := startPhase t.step
    let t1 := { noteZero t (stampNs s.now) p with cyc := (t.cyc + 1) % 2 ^ 40, slot := slotOf p, slew := slewed t.slew, step := none }
    let s1 := s.setTracker fg t1
    let s2 := if t.step.isSome then s1.setFld F.LP_ZCSTAT_STEPPED fg 1 else s1
    let s3 := { s2 with cmp := { s2.cmp with zct := Tab.set (fun _ => {}) s2.cmp.zct fg s2.now } }
    if s3.zcLock fg then
      let s4 := match mhz with
        | none => s3
        | some f => s3.setFld F.LP_ZCFREQ_MHZ fg f
      let s5 := match refs with
        | none => s4
        | some r => (s4.setFld F.LP_ZCREF_L2 fg r.1).setFld F.LP_ZCREF_L3 fg r.2
      match error with
      | none => s5
      | some e => s5.checkError fg e
    else s3
  else s

/-- TRACKER_HOLDOVER (R90): the fundamental is lost or leaves 45 Hz to 65 Hz. -/
def trackerHoldover (fg : Nat) (s : State) : State := if s.zcLock fg then s.holdover fg else s

/-- A reference in use: SWITCHED is set where it is another than before (R92). -/
def State.takeRef (s : State) (g r : Nat) : State :=
  let s1 := s.setFld F.LP_ZCSTAT_REF g r
  if s.zcRef g = r ∨ s.zcRef g = 0 then s1 else s1.setFld F.LP_ZCSTAT_SWITCHED g 1

/-- TRACKER_RELOCK (R88, R91, R92, R163): lock again, the phase error slewed or stepped, a rescan from holdover entry to now for
every tracked neighbour of the group (log entry 36). -/
def trackerRelock (fg : Nat) (valid : List Nat) (error : Int) (s : State) : State :=
  match s.zcUsable fg valid with
  | [] => s
  | r :: _ =>
    if s.zcHold fg then
      let s1 := ((s.setFld F.LP_ZCSTAT_HOLD fg 0).setFld F.LP_ZCSTAT_LOCK fg 1).takeRef fg r
      let s2 := s1.setTracker fg (addError (s1.tracker fg) error)
      s2.rescan fg 0xFFFF (s.tracker fg).holdSince s.now false false
    else s

/-- A signed phase from 16 bits. -/
def phaseDiff (new old : Nat) : Int :=
  let d := (new + 65536 - old) % 65536
  if d < 32768 then d else (d : Int) - 65536

/-- ZC_OFS_WRITE (R87, R555): a change of OFS in lock is a phase error of its size; in holdover and before the first lock it is only stored
(log entry 175). -/
def zcOfsWrite (fg : Nat) (who : Who) (value : Word) (s : State) : State :=
  s.gated who .LP_ZCCFG fg fun s =>
    let s1 := s.store .LP_ZCCFG fg value
    let d := phaseDiff (s1.fld F.LP_ZCCFG_OFS fg) (s.fld F.LP_ZCCFG_OFS fg)
    if s.zcLock fg && d != 0 then s1.setTracker fg (addError (s1.tracker fg) d) else s1

/-- TRACKER_REF_SWITCH (R92): the reference is lost; the next usable one is taken, or none is and the tracker enters
holdover. -/
def trackerRefSwitch (fg : Nat) (valid : List Nat) (s : State) : State :=
  if s.zcLock fg && !(s.zcUsable fg valid).contains (s.zcRef fg) then
    match s.zcUsable fg valid with
    | [] => s.holdover fg
    | r :: _ => s.takeRef fg r
  else s

/-- TRACKER_REF_RETURN (R92): after 16 cycles valid and locked beside the reference in use, L1 is taken again, or L2 from L3 while L1 is
still unusable; `valid` are the roles with a valid mains component. -/
def trackerRefReturn (fg role : Nat) (valid : List Nat) (s : State) : State :=
  let ok := s.zcUsable fg valid
  if s.zcLock fg && decide (1 ≤ role ∧ role < s.zcRef fg) && ok.contains role && (role == 1 || !ok.contains 1) then s.takeRef fg role else s

/-- SLOT_BOUNDARY (R99): the next of the 12 slots of the cycle begins; slot 0 begins with phase 0. -/
def slotBoundary (fg : Nat) (s : State) : State :=
  if s.zcRuns fg && decide ((s.tracker fg).slot < 11) then
    s.setTracker fg { s.tracker fg with slot := (s.tracker fg).slot + 1 }
  else s

/-- A phase inside a slot, `ofs` units after the slot's start (R99). -/
def phaseOf (slot ofs : Nat) : Nat :=
  let lo := (65536 * slot + 11) / 12
  lo + ofs % ((65536 * (slot + 1) + 11) / 12 - lo)

/-- LP_ZCPHASE_READ (R89): the phase is returned, `ofs` units into the slot in force, and the cycle count latched; before the first lock the
phase reads 0. -/
def lpZcphaseRead (fg ofs : Nat) (who : Who) (s : State) : State :=
  if s.readable who .LP_ZCPHASE fg then
    let t := s.tracker fg
    let phase := if s.zcRuns fg then phaseOf t.slot ofs else 0
    let s1 := (s.setReg .LP_ZCPHASE fg (BitVec.ofNat 32 phase)).setReg .LP_ZCCYC_LO fg (BitVec.ofNat 32 t.cyc)
    (s1.setReg .LP_ZCCYC_HI fg (BitVec.ofNat 32 (t.cyc / 2 ^ 32))).returns (BitVec.ofNat 64 phase)
  else s.returns 0

/-! ## Meanings -/

def execTrackerLock (fg : Nat) (valid : List Nat) (found : Mains) (s : State) : Host.Outcome State Fault Refusal :=
  .next (trackerLock fg valid found.mhz found.phase s)

def execPhaseZero (fg : Nat) (error : Option Int) (mhz : Option Nat) (refs : Option (Nat × Nat)) (s : State) : Host.Outcome State Fault Refusal :=
  .next (phaseZero fg error mhz refs s)

def execTrackerHoldover (fg : Nat) (s : State) : Host.Outcome State Fault Refusal := .next (trackerHoldover fg s)

def execTrackerRelock (fg : Nat) (valid : List Nat) (error : Int) (s : State) : Host.Outcome State Fault Refusal :=
  .next (trackerRelock fg valid error s)

def execZcOfsWrite (fg : Nat) (who : Who) (value : Word) (s : State) : Host.Outcome State Fault Refusal :=
  .next (zcOfsWrite fg who value s)

def execTrackerRefSwitch (fg : Nat) (valid : List Nat) (s : State) : Host.Outcome State Fault Refusal :=
  .next (trackerRefSwitch fg valid s)

def execTrackerRefReturn (fg : Nat) (back : RefBack) (s : State) : Host.Outcome State Fault Refusal :=
  .next (trackerRefReturn fg back.role back.valid s)

def execSlotBoundary (fg : Nat) (s : State) : Host.Outcome State Fault Refusal := .next (slotBoundary fg s)

def execLpZcphaseRead (fg : Nat) (ofs : Nat) (who : Who) (s : State) : Host.Outcome State Fault Refusal :=
  .next (lpZcphaseRead fg ofs who s)

end Sys2Proof.Machine
end

