-- ==== Sys2Proof/Machine/Evidence.lean ====
section
/-! DEFINITION. Findings with their evidence (R298, R299) and the start of ranging sets (R310). -/

namespace Sys2Proof.Machine

open Sys2Proof

/-- The oldest evidence discarded when 4 096 handles are held, with EV_LOST (R299). -/
def State.roomForEvidence (s : State) : State :=
  match s.fm.evid with
  | [] => s
  | e :: t =>
    if 4096 ≤ s.fm.evid.length then
      ({ s with fm := { s.fm with evid := t },
                prog := { s.prog with handles := Tab.del s.prog.handles e.handle } }).setFld F.MDM_FMSTAT_EV_LOST 0 1
    else s

/-- A finding posted (R298): evidence under a handle of its own, an event record with the code and the handle. The size of
evidence is open, and so is its layout (log entry 88). -/
def State.finding (s : State) (code : Nat) (found : Finding) : State :=
  let s1 := s.roomForEvidence
  let h := s1.prog.nextHandle
  let s2 := { s1 with
    fm := { s1.fm with evid := s1.fm.evid ++ [({ handle := h, code := code, found := found } : Evid)] }
    prog := { s1.prog with nextHandle := h + 1,
                           handles := Tab.put s1.prog.handles h ({ size := Config.freeNat s1.free, hostRead := true } : Handle) } }
  s2.drew.event .ok pageFm [(4, h), (1, code)]

/-- The ranging set of a node replaced, or removed. -/
def State.setRanging (s : State) (x : RangeSet) : State :=
  { s with fm := { s.fm with sets := s.fm.sets.map fun (y : RangeSet) => if y.saddr = x.saddr then x else y } }

/-- The next exchange of a ranging set begun (R309): RANGE_REQ goes out with ACKREQ = 1. With none left and none open the set is
complete and DISTANCE is posted (R310). -/
def State.nextExchange (s : State) (x : RangeSet) : State :=
  match s.node x.saddr with
  | none => { s with fm := { s.fm with sets := s.fm.sets.filter fun y => y.saddr != x.saddr } }
  | some n =>
    if x.left = 0 then
      ({ s with fm := { s.fm with sets := s.fm.sets.filter fun y => y.saddr != x.saddr } }).finding 0x12 (.distance x)
    else
      let rid := s.fm.nextRid % 65536
      let e : Exchange := { rid := rid, begun := (s.reg .MAC_BNUM n.fg).toNat }
      let s1 := { s with fm := { s.fm with nextRid := rid + 1 } }
      (s1.setRanging { x with left := x.left - 1, open_ := [e] }).sendMgmt x.saddr (.rangeReq rid)

/-- The open exchange of a node's ranging set with an identifier changed. -/
def State.noteExchange (s : State) (a rid : Nat) (f : Exchange → Exchange) : State :=
  let one : Exchange → Exchange := fun e => if e.rid = rid then f e else e
  { s with fm := { s.fm with sets := s.fm.sets.map fun x => if x.saddr = a then { x with open_ := x.open_.map one } else x } }

/-- T_req noted: a request goes on the line now (R309). -/
def State.noteRequest (s : State) (f : Frame) : State :=
  match f.body with
  | .mgmt (.rangeReq rid) => s.noteExchange f.dst rid fun e => { e with req := some s.now, ack := none }
  | _ => s

/-- T_ack and ε noted: an acknowledgement of a node that names the request came with them (R309). -/
def State.noteAnswer (s : State) (a : Nat) (line : Stamp) (eps : Int) : List AckEntry → State
  | [] => s
  | e :: t =>
    (match (s.lin.frames.find? fun (f : Frame) => f.dst == a && f.seq == some e.seq && f.ackReq).map Frame.body with
     | some (.mgmt (.rangeReq rid)) => s.noteExchange a rid fun x => { x with ack := some (line, eps) }
     | _ => s).noteAnswer a line eps t

/-- A ranging set begun for a node (R310). -/
def State.beginSet (s : State) (a : Nat) : State :=
  if s.fm.sets.any fun x => x.saddr == a then s
  else
    let x : RangeSet := { saddr := a }
    ({ s with fm := { s.fm with sets := s.fm.sets ++ [x] } }).nextExchange x

end Sys2Proof.Machine
end

