-- ==== Sys2Proof/Machine/Maps.lean ====
section
/-! DEFINITION. Cycle-resolved channel maps (chapter 06): records, measurements, tone maps, soundings. SNR is in 1/32 dB. -/

namespace Sys2Proof.Machine

open Sys2Proof

/-! ## Loading (R184, R185) -/

/-- Bits per carrier of a loading code (*Loading codes*). -/
def loadBits (code : Nat) : Nat := [0, 1, 2, 4, 6, 8, 10].getD code 0

/-- Required SNR of loading codes 1 to 6 at the four rates, in 0.5 dB (*Required SNR by loading and rate*). -/
def requiredRow (code : Nat) : List Nat :=
  match code with
  | 1 => [4, 7, 9, 11]
  | 2 => [9, 13, 15, 17]
  | 3 => [20, 25, 27, 29]
  | 4 => [30, 35, 38, 41]
  | 5 => [41, 46, 49, 53]
  | 6 => [52, 58, 61, 66]
  | _ => []

/-- The required SNR of a loading at a rate, in 1/32 dB. -/
def requiredSnr (code rate : Nat) : Int := 16 * ((requiredRow code).getD rate 0 : Int)

/-- The largest loading whose required SNR plus a margin does not exceed `snr`; 0 where none does. -/
def loadingOf (rate : Nat) (margin snr : Int) : Nat :=
  ([1, 2, 3, 4, 5, 6].filter fun c => decide (requiredSnr c rate + margin ≤ snr)).foldl max 0

/-- Rate as a weight: 1/2, 2/3, 3/4, 5/6 in twelfths. -/
def rateWeight (rate : Nat) : Nat := [6, 8, 9, 10].getD rate 6

/-- MARGIN in 1/32 dB, CONF_MIN, and ERASE in 1/256. -/
def State.margin (s : State) : Int := 16 * (s.fld F.MDM_MAPCFG_MARGIN 0 : Int)
def State.confMin (s : State) : Nat := s.fld F.MDM_MAPCFG_CONF_MIN 0
def State.eraseLimit (s : State) : Nat := if s.fld F.MDM_MAPCFG_ERASE 0 = 0 then 64 else 16 * s.fld F.MDM_MAPCFG_ERASE 0

/-! ## Records -/

/-- `s` with a channel record replaced. -/
def State.setRec (s : State) (i : Nat) (r : Option ChanRec) : State :=
  { s with maps := { s.maps with recs := Tab.set (fun _ => none) s.maps.recs i r } }

/-- The index and record of a short address. -/
def State.recOf (s : State) (a : Nat) : Option (Nat × ChanRec) :=
  s.maps.recs.findSome? fun p => match p.2 with
    | none => none
    | some r => if r.saddr = a then some (p.1, r) else none

def State.setUl (s : State) (a : Nat) (l : List ToneMap) : State :=
  { s with maps := { s.maps with ul := Tab.set (fun _ => []) s.maps.ul a l } }

def State.setDl (s : State) (a : Nat) (m : Option ToneMap) : State :=
  { s with maps := { s.maps with dl := Tab.set (fun _ => none) s.maps.dl a m } }

/-- TMID values of an address in the order they became free. -/
def State.freeTmids (s : State) (a : Nat) : List Nat := Tab.get (fun _ => List.range 16) s.maps.tmids a

def State.setTmids (s : State) (a : Nat) (l : List Nat) : State :=
  { s with maps := { s.maps with tmids := Tab.set (fun _ => List.range 16) s.maps.tmids a l } }

/-! ## Retiring and withdrawing (R190, R195) -/

/-- The uplink map in force withdrawn: the node is told, the map is retired. -/
def State.withdraw (s : State) (a : Nat) : State :=
  match s.ulMaps a with
  | [] => s
  | m :: t =>
    if m.retired.isNone then
      (s.setUl a ({ m with retired := some s.now } :: t)).sendMgmt a (.toneMap m.tmid true)
    else s

/-- Every map of an address gone. -/
def State.dropMaps (s : State) (a : Nat) : State := ((s.setUl a []).setDl a none).setTmids a (List.range 16)

/-- An uplink sounding to be requested from a node (R183). -/
def State.wantSounding (s : State) (a : Nat) : State :=
  if s.maps.soundings.contains a then s else { s with maps := { s.maps with soundings := s.maps.soundings ++ [a] } }

/-- Every slot and the MIMO estimate unconfident from now on. -/
def allWeak (t : Nat) : Tab Nat := (List.range 13).foldl (fun m j => Tab.set (fun _ => 0) m j t) []

/-- What a phase or feeder change does to a record (R195, R196): confidences to 0, the uplink map withdrawn, the downlink map
discarded, a sounding requested, a ranging set begun (R310). -/
def State.restartRec (s : State) (i : Nat) (r : ChanRec) : State :=
  let r1 := { r with conf := [], mconf := 0, strongest := [], weakSince := allWeak s.now.s }
  ((((s.setRec i (some r1)).withdraw r.saddr).setDl r.saddr none).wantSounding r.saddr).beginSet r.saddr

/-- The votes of a node (R308). -/
def State.votesOf (s : State) (a : Nat) : List Nat :=
  match s.node a with
  | none => [3, 3, 3]
  | some n => n.votes

/-- A phase change (R195), posted as PHASE_VOTES (R308). -/
def State.phaseChange (s : State) (i : Nat) (r : ChanRec) : State :=
  (s.restartRec i r).finding 0x10 (.votes r.saddr (s.votesOf r.saddr))

/-- A feeder change (R196), posted as FEEDER_CHANGE (R308): every slot entry is unmeasured (log entry 45). -/
def State.feederChange (s : State) (i : Nat) (r : ChanRec) (fg : Nat) : State :=
  let s1 := match s.node r.saddr with
    | none => s
    | some n => s.setNode r.saddr (some { n with fg := fg })
  (s1.restartRec i { r with fg := fg, slots := [], firsts := [] }).finding 0x11 (.group r.saddr r.fg fg r.firsts)

/-! ## Tracked neighbours (R197) -/

/-- Whether a node holds a stream reservation. -/
def State.streams (s : State) (a : Nat) : Bool :=
  match s.node a with
  | none => false
  | some n => n.grants.any fun g => g.kind == 1

/-- A record released: the uplink map is withdrawn, the record stays until that is acknowledged or three beacons pass. -/
def State.releaseRec (s : State) (i : Nat) (r : ChanRec) : State :=
  if r.releasing.isSome then s
  else ((s.setRec i (some { r with releasing := some 3 })).withdraw r.saddr).bumpFld F.MDM_MAPEVICT_COUNT 0 1

/-- The record of an address released, where it has one. -/
def State.releaseRecOf (s : State) (a : Nat) : State :=
  match s.recOf a with
  | none => s
  | some p => s.releaseRec p.1 p.2

/-- The time of the last OK reception of a node, in ns. -/
def State.lastOkNs (s : State) (a : Nat) : Nat :=
  match s.node a with
  | none => 0
  | some n => stampNs n.lastOk

/-- The record to give up: that of the neighbour whose last OK reception is oldest, neither pinned nor holding a stream. -/
def State.victim (s : State) : Option (Nat × ChanRec) :=
  let c := s.maps.recs.filterMap fun p => match p.2 with
    | none => none
    | some r => if r.pinned || r.releasing.isSome || s.streams r.saddr then none else some (p.1, r)
  match c with
  | [] => none
  | x :: t => some (t.foldl (fun m y => if s.lastOkNs y.2.saddr < s.lastOkNs m.2.saddr then y else m) x)

/-- The lowest free record index, with fuel. -/
def State.freeRec (s : State) (i : Nat) : Nat → Option Nat
  | 0 => none
  | n + 1 => if (s.chanRec i).isNone then some i else s.freeRec (i + 1) n

/-- Records in use. -/
def State.recsUsed (s : State) : Nat := s.maps.recs.length

/-- A new record given to a node. -/
def State.newRec (s : State) (i a fg : Nat) : State :=
  (s.setRec i (some { saddr := a, fg := fg, weakSince := allWeak s.now.s })).wantSounding a

/-- RECORD_ASSIGN (R197): a free record, or one released for the node, or none. A node that already has one keeps it. -/
def State.assignRec (s : State) (a fg : Nat) : State :=
  let want : State → State := fun s => { s with maps := { s.maps with wanting := (s.maps.wanting.filter fun x => x != a) ++ [a] } }
  match s.recOf a with
  | some p => if p.2.releasing.isSome then want s else s
  | none =>
    match s.freeRec 0 (min 16384 (s.recsUsed + 1)) with
    | some i => s.newRec i a fg
    | none => match s.victim with
      | some p => want (s.releaseRec p.1 p.2)
      | none => s

/-- RECORD_RELEASE_COMPLETE (R197): the withdrawal is acknowledged, or three beacon intervals have passed; the record goes to
the node that waits for it. -/
def recordReleaseComplete (index : Nat) (acked : Bool) (s : State) : State :=
  match s.chanRec index with
  | none => s
  | some r =>
    if r.releasing = some 0 ∨ (r.releasing.isSome = true ∧ acked = true) then
      let s1 := (s.setRec index none).dropMaps r.saddr
      match s1.maps.wanting with
      | [] => s1
      | a :: t =>
        let s2 := { s1 with maps := { s1.maps with wanting := t } }
        match s2.node a with
        | none => s2
        | some n => if isAssociated n then s2.newRec index a n.fg else s2
    else s

/-! ## Feeder changes and ageing (R178, R196) -/

/-- The groups in which the last 16 OK receptions came first, and the feeder change they show (R196). -/
def State.noteGroup (s : State) (a fg : Nat) : State :=
  match s.recOf a with
  | none => s
  | some p =>
    let l := (p.2.firsts ++ [fg]).drop (p.2.firsts.length - 15)
    let count : Nat → Nat := fun g => (l.filter fun x => x == g).length
    match (List.range 8).find? fun g => g != p.2.fg && decide (count p.2.fg < count g) with
    | some g => if l.length = 16 then s.feederChange p.1 p.2 g else s.setRec p.1 (some { p.2 with firsts := l })
    | none => s.setRec p.1 (some { p.2 with firsts := l })

/-- CONFIDENCE_HALVING (R178): slot 0 to 11, or 12 for the MIMO estimate. -/
def confidenceHalving (index slot : Nat) (s : State) : State :=
  match s.chanRec index with
  | none => s
  | some r =>
    if slot ≤ 12 ∧ Tab.get (fun _ => 0) r.aged slot + 2 ^ s.fld F.MDM_MAPCFG_HALF 0 ≤ s.now.s then
      let c := if slot = 12 then r.mconf else recConf r slot
      let r1 := { r with
        aged := Tab.set (fun _ => 0) r.aged slot s.now.s
        weakSince := if s.confMin ≤ c ∧ c / 2 < s.confMin then Tab.set (fun _ => 0) r.weakSince slot s.now.s else r.weakSince }
      s.setRec index (some (if slot = 12 then { r1 with mconf := c / 2 }
        else { r1 with conf := Tab.set (fun _ => 0) r1.conf slot (c / 2) }))
    else s

/-! ## Soundings (R183) -/

/-- BROADCAST_SOUNDING (R183): every BCAST_IVL beacon intervals, on all three pairs. -/
def broadcastSounding (fg : Nat) (s : State) : State :=
  let ivl := s.fld F.MDM_SNDCFG_BCAST_IVL 0
  if ivl ≠ 0 ∧ (s.reg .MAC_BNUM fg).toNat % ivl = 0 ∧ s.runsFlpa fg = true then s.broadcast fg (.sounding 0 0)
  else s

/-- UPLINK_SOUNDING_REQUEST (R183): a unicast sounding with REQ bit 1 to a node from which one is wanted. -/
def uplinkSoundingRequest (saddr : Nat) (s : State) : State :=
  if s.maps.soundings.contains saddr then
    ({ s with maps := { s.maps with soundings := s.maps.soundings.filter fun a => a != saddr } }).sendTo saddr (.sounding 2 0)
      false .none
  else s

/-- STALE_SLOT_TIMEOUT (R183): a slot unconfident for STALE_S seconds. -/
def staleSlotTimeout (index slot : Nat) (s : State) : State :=
  match s.chanRec index with
  | none => s
  | some r =>
    if slot < 12 ∧ recConf r slot < s.confMin ∧
        Tab.get (fun _ => 0) r.weakSince slot + s.fld F.MDM_SNDCFG_STALE_S 0 ≤ s.now.s then
      (s.setRec index (some { r with weakSince := Tab.set (fun _ => 0) r.weakSince slot s.now.s })).wantSounding r.saddr
    else s

/-! ## Uplink maps (R185, R186, R189) -/

/-- The slots of a record that are confident (log entry 41). -/
def State.confident (s : State) (r : ChanRec) : List Nat := (List.range 12).filter fun j => decide (s.confMin ≤ recConf r j)

/-- The SNR that loads carrier `k` in slot `j`: its own, or in an unconfident slot the lowest a confident slot holds. -/
def State.loadSnr (s : State) (r : ChanRec) (j k : Nat) : Option Int :=
  if s.confMin ≤ recConf r j then
    if (recSlot r j k).1 = 7 then none else some (recSlot r j k).2
  else
    ((s.confident r).filterMap fun i => if (recSlot r i k).1 = 7 then none else some (recSlot r i k).2).foldl
      (fun m v => match m with
        | none => some v
        | some w => some (min v w)) none

/-- The stream correction of a carrier; none for a single-stream map. -/
def streamGain (r : ChanRec) (k : Nat) (stream : Option Nat) : Int :=
  match stream with
  | none => 0
  | some i => Config.streamSnr ((List.range 4).map (recGain r k r.txp0) ++ (List.range 4).map (recGain r k r.txp1)) i

/-- The loading of carrier `k` in slot `j`. -/
def State.codeFor (s : State) (r : ChanRec) (rate : Nat) (stream : Option Nat) (j k : Nat) : Nat :=
  if s.eraseLimit < recEras r j then 0
  else match s.loadSnr r j k with
    | none => 0
    | some v => loadingOf rate s.margin (v + streamGain r k stream)

/-- The carriers of the network mask of a group. -/
def State.maskCarriers (s : State) (fg : Nat) : List Nat :=
  let lo := s.fld F.MDM_BANDSTAT_MASK_LO fg
  let hi := s.fld F.MDM_BANDSTAT_MASK_HI fg
  (List.range (16 * (hi + 1 - lo))).map fun i => 7 + 16 * lo + i

/-- The loading codes of a map at a rate: (slot × 1024 + carrier, code), 16384 higher for stream 1. -/
def State.mapCodes (s : State) (r : ChanRec) (rate : Nat) (two : Bool) : Tab Nat :=
  let one : Option Nat → Nat → Tab Nat := fun st base => (List.range 12).flatMap fun j =>
    (s.maskCarriers r.fg).filterMap fun k =>
      let c := s.codeFor r rate st j k
      if c = 0 then none else some (base + slotKey j k, c)
  if two then one (some 0) 0 ++ one (some 1) 16384 else one none 0

/-- Rate × total bits of a map, in twelfths. -/
def mapScore (rate : Nat) (codes : Tab Nat) : Nat := rateWeight rate * (codes.map fun p => loadBits p.2).sum

/-- The best rate of a map with its codes; the lower rate on a tie. -/
def State.bestMap (s : State) (r : ChanRec) (two : Bool) : Nat × Tab Nat :=
  ([1, 2, 3].map fun q => (q, s.mapCodes r q two)).foldl
    (fun m x => if mapScore m.1 m.2 < mapScore x.1 x.2 then x else m) (0, s.mapCodes r 0 two)

/-- Whether `b` differs from `a` by more than HYST, in units of 2.5 %. -/
def State.beyondHyst (s : State) (a b : Nat) : Bool :=
  decide (25 * s.fld F.MDM_MAPCFG_HYST 0 * a < 1000 * (if a ≤ b then b - a else a - b))

/-- Whether a MIMO row was measured. -/
def rowMeasured (r : ChanRec) (t : Nat) : Bool := r.mimo.any fun e => decide (e.1 % 16 / 4 = t)

/-- The map the record gives now: whether it has two streams, its rate, its codes (R186). -/
def State.computeMap (s : State) (r : ChanRec) : Bool × Nat × Tab Nat :=
  let a := s.bestMap r false
  if r.two && rowMeasured r r.txp0 && rowMeasured r r.txp1 && decide (s.confMin ≤ r.mconf) then
    let b := s.bestMap r true
    if decide (mapScore a.1 a.2 < mapScore b.1 b.2) && s.beyondHyst (mapScore a.1 a.2) (mapScore b.1 b.2) then (true, b.1, b.2)
    else (false, a.1, a.2)
  else (false, a.1, a.2)

/-- Whether some slot of the map in force calls for a new map at once (R189): too many of its carriers below their loading, or ERAS across ERASE since. -/
def State.mapBroken (s : State) (r : ChanRec) (m : ToneMap) : Bool :=
  (List.range 12).any fun j =>
    let loaded := m.codes.filter fun p => p.1 % 16384 / 1024 == j
    let below := loaded.filter fun p =>
      let e := recSlot r j (p.1 % 1024)
      e.1 != 7 && decide (e.2 + streamGain r (p.1 % 1024) (if m.two then some (p.1 / 16384) else none) < requiredSnr p.2 m.rate)
    decide (loaded.length < 10 * below.length) || decide (s.eraseLimit < recEras r j) != m.erased.contains j

/-- A map issued (R188, R190): it takes the TMID free longest, the map in force is retired, at most four are held, the node is
told, and deferred receptions of the node are tried again (R163). -/
def State.issueMap (s : State) (r : ChanRec) (two : Bool) (rate : Nat) (codes : Tab Nat) : State :=
  match s.freeTmids r.saddr with
  | [] => s
  | id :: rest =>
    let m : ToneMap := { tmid := id, two := two, rate := rate, cgFirst := s.fld F.MDM_BANDSTAT_MASK_LO r.fg,
                         cgLast := s.fld F.MDM_BANDSTAT_MASK_HI r.fg, codes := codes, issued := s.now,
                         erased := (List.range 12).filter fun j => decide (s.eraseLimit < recEras r j) }
    let old := (s.ulMaps r.saddr).map fun x => if x.retired.isNone then { x with retired := some s.now } else x
    let held := m :: old
    let s1 := (s.setUl r.saddr (held.take 4)).setTmids r.saddr (rest ++ (held.drop 4).map fun x => x.tmid)
    (s1.sendMgmt r.saddr (.toneMap id false)).rescan r.fg r.saddr ⟨0, 0⟩ s.now true false

/-- UPLINK_MAP_ISSUE (R189): a first map, one that differs by more than HYST once MINIVL has passed, one that a slot needs at
once, or one a sounding has asked for. -/
def uplinkMapIssue (saddr : Nat) (s : State) : State :=
  match s.recOf saddr with
  | none => s
  | some p =>
    let r := p.2
    if s.maps.suspended || r.releasing.isSome || (s.confident r).isEmpty then s
    else
      let c := s.computeMap r
      let due := match s.ulForce saddr with
        | none => true
        | some m =>
          (s.beyondHyst (mapScore m.rate m.codes) (mapScore c.2.1 c.2.2) &&
            decide (m.issued.s + s.fld F.MDM_MAPCFG_MINIVL 0 ≤ s.now.s)) || s.mapBroken r m || r.asked
      if due then (s.setRec p.1 (some { r with asked := false })).issueMap r c.1 c.2.1 c.2.2 else s

/-- RETIRED_MAP_EXPIRE (R190): the narrow ring depth in force has passed since the map was replaced. -/
def retiredMapExpire (saddr tmid : Nat) (s : State) : State :=
  match (s.ulMaps saddr).find? fun m => m.tmid == tmid with
  | none => s
  | some m =>
    match m.retired with
    | none => s
    | some t =>
      if stampNs t + s.plc.narrowDs * 100000000 ≤ stampNs s.now then
        (s.setUl saddr ((s.ulMaps saddr).filter fun x => x.tmid != tmid)).setTmids saddr (s.freeTmids saddr ++ [tmid])
      else s

/-! ## Messages from nodes (R188, R192) -/

/-- TONE_MAP (R188, R191): a downlink map of the node, or its withdrawal. -/
def toneMap (saddr tmid : Nat) (withdraw two : Bool) (rate cgFirst cgLast : Nat) (codes : List (Nat × Nat)) (s : State) : State :=
  if s.associated saddr && (s.recOf saddr).isSome && !s.maps.suspended then
    if withdraw then
      match s.dlMap saddr with
      | none => s
      | some m => if m.tmid = tmid then s.setDl saddr none else s
    else if codes.any fun p => p.2 == 7 then s
    else
      let tab := codes.foldl (fun t p => Tab.set (fun _ => 0) t p.1 p.2) []
      let s1 := s.setDl saddr (some { tmid := tmid, two := two, rate := rate, cgFirst := cgFirst, cgLast := cgLast,
                                      codes := tab, issued := s.now })
      match s1.node saddr with
      | none => s1
      | some n => s1.rescan n.fg saddr ⟨0, 0⟩ s.now true false
  else s

/-- The MIMO estimate without the rows of some pairs. -/
def clearRows (m : Tab (Int × Int)) (rows : List Nat) : Tab (Int × Int) := m.filter fun e => !rows.contains (e.1 % 16 / 4)

/-- CHANNEL_REPORT (R192, R195): DLSUM, DSTAMP and PAIRS; new pairs clear their rows and are a phase change. `snr` is slot
major over the groups reported. -/
def channelReport (saddr cgFirst cgLast pair0 pair1 : Nat) (two : Bool) (snr : List Nat) (s : State) : State :=
  match s.recOf saddr with
  | none => s
  | some p =>
    if s.associated saddr then
      let r := p.2
      let n := cgLast + 1 - cgFirst
      let sums := snr.zipIdx.foldl (fun t e => Tab.set (fun _ => 255) t (e.2 / n * 62 + cgFirst + e.2 % n) e.1) r.dlsum
      let moved := (if r.txp0 = pair0 then [] else [r.txp0, pair0]) ++ (if r.txp1 = pair1 then [] else [r.txp1, pair1])
      let r1 := { r with dlsum := sums, dstamp := s.now.s, txp0 := pair0, txp1 := pair1, two := two }
      if moved = [] then s.setRec p.1 (some r1)
      else s.phaseChange p.1 { r1 with mimo := clearRows r.mimo moved, mconf := 0 }
    else s

/-! ## MDM_MAPCMD -/

/-- Pinned records. -/
def State.pinned (s : State) : Nat := (s.maps.recs.filter fun p => match p.2 with
  | none => false
  | some r => r.pinned).length

/-- A write of MDM_MAPCMD with GO = 1 and an operation: judged by ownership, then applied to the record of MDM_MAPSEL.SADDR;
RESULT 1 without a record. -/
def State.mapCmd (s : State) (who : Who) (op : Nat) (f : Nat → ChanRec → State → State × Nat) : State :=
  s.gated who .MDM_MAPCMD 0 fun s =>
    let s1 := s.setFld F.MDM_MAPCMD_OP 0 op
    match s1.recOf (s1.fld F.MDM_MAPSEL_SADDR 0) with
    | none => s1.setFld F.MDM_MAPCMD_RESULT 0 1
    | some p => let x := f p.1 p.2 s1; x.1.setFld F.MDM_MAPCMD_RESULT 0 x.2

/-- MAP_PIN (R197): at most 4 096 records are pinned. -/
def mapPin (who : Who) (s : State) : State :=
  s.mapCmd who 1 fun i r s =>
    if r.pinned then (s, 0) else if 4096 ≤ s.pinned then (s, 2) else (s.setRec i (some { r with pinned := true }), 0)

/-- MAP_UNPIN (R197). -/
def mapUnpin (who : Who) (s : State) : State := s.mapCmd who 2 fun i r s => (s.setRec i (some { r with pinned := false }), 0)

/-- MAP_RELEASE (R197): refused for a record that is pinned or whose node holds a stream reservation (log entry 44). -/
def mapRelease (who : Who) (s : State) : State :=
  s.mapCmd who 3 fun i r s => if r.pinned || s.streams r.saddr then (s, 3) else (s.releaseRec i r, 0)

/-- MAP_REQUEST_SOUNDING (R183). -/
def mapRequestSounding (who : Who) (s : State) : State := s.mapCmd who 4 fun _ r s => (s.wantSounding r.saddr, 0)

/-! ## Meanings -/

def execConfidenceHalving (index : Nat) (slot : Nat) (s : State) : Host.Outcome State Fault Refusal :=
  .next (confidenceHalving index slot s)

def execBroadcastSounding (fg : Nat) (s : State) : Host.Outcome State Fault Refusal := .next (broadcastSounding fg s)

def execUplinkSoundingRequest (saddr : Nat) (s : State) : Host.Outcome State Fault Refusal :=
  .next (uplinkSoundingRequest saddr s)

def execStaleSlotTimeout (index : Nat) (slot : Nat) (s : State) : Host.Outcome State Fault Refusal :=
  .next (staleSlotTimeout index slot s)

def execUplinkMapIssue (saddr : Nat) (s : State) : Host.Outcome State Fault Refusal := .next (uplinkMapIssue saddr s)

def execRetiredMapExpire (saddr : Nat) (tmid : Nat) (s : State) : Host.Outcome State Fault Refusal :=
  .next (retiredMapExpire saddr tmid s)

def execToneMap (saddr : Nat) (tmid : Nat) (withdraw : Bool) (two : Bool) (rate : Nat) (cgFirst : Nat) (cgLast : Nat) (codes : List (Nat × Nat)) (s : State) : Host.Outcome State Fault Refusal :=
  .next (toneMap saddr tmid withdraw two rate cgFirst cgLast codes s)

def execChannelReport (saddr : Nat) (cgFirst : Nat) (cgLast : Nat) (pair0 : Nat) (pair1 : Nat) (two : Bool) (snr : List Nat) (s : State) : Host.Outcome State Fault Refusal :=
  .next (channelReport saddr cgFirst cgLast pair0 pair1 two snr s)

def execRecordReleaseComplete (index : Nat) (acked : Bool) (s : State) : Host.Outcome State Fault Refusal :=
  .next (recordReleaseComplete index acked s)

def execMapPin (who : Who) (s : State) : Host.Outcome State Fault Refusal := .next (mapPin who s)

def execMapUnpin (who : Who) (s : State) : Host.Outcome State Fault Refusal := .next (mapUnpin who s)

def execMapRelease (who : Who) (s : State) : Host.Outcome State Fault Refusal := .next (mapRelease who s)

def execMapRequestSounding (who : Who) (s : State) : Host.Outcome State Fault Refusal := .next (mapRequestSounding who s)

end Sys2Proof.Machine
end

