-- ==== Sys2Proof/Machine/Bands.lean ====
section
/-! DEFINITION. Bands, regulatory profiles and the backbone notches (chapter 07, R205, R211 to R214, R224 to R228). -/

namespace Sys2Proof.Machine

open Sys2Proof

/-- The fields of MDM_BANDCFG. -/
structure Band where
  hi : Nat
  lo : Nat
  tshare : Nat
  part : Nat
  stdBand : Nat
  std : Nat
  profile : Nat
  deriving DecidableEq, Repr

def bandOf (w : Word) : Band :=
  { hi := getBits w 24 6, lo := getBits w 16 6, tshare := getBits w 14 2, part := getBits w 12 2,
    stdBand := getBits w 8 4, std := getBits w 4 3, profile := getBits w 0 4 }

/-- The stored form of MDM_BANDCFG. -/
def bandForm (w : Word) : Word :=
  let w1 := if 61 < getBits w 24 6 then putBits w 24 6 61 else w
  let w2 := if 2 ≤ getBits w1 12 2 then putBits w1 12 2 0 else w1
  let w3 := if 3 ≤ getBits w2 4 3 then putBits w2 4 3 0 else w2
  if 4 ≤ getBits w3 0 4 then putBits w3 0 4 15 else w3

/-- The FLP-A carrier groups a profile permits, first and last (*Regulatory profiles*). -/
def permitted (profile : Nat) : Option (Nat × Nat) :=
  match profile with
  | 0 => some (0, 61)
  | 2 => some (1, 61)
  | _ => none

/-- The band a profile permits, in 100 Hz (*Regulatory profiles*). -/
def profileBand (profile : Nat) : Option (Nat × Nat) :=
  match profile with
  | 0 => some (30, 5000)
  | 1 => some (30, 950)
  | 2 => some (90, 4900)
  | 3 => some (100, 4500)
  | _ => none

/-- Whether STDBAND names a band of STD (R226); without a standard mode it names nothing (log entry 40). -/
def bandNamed (b : Band) : Bool :=
  match b.std with
  | 1 => decide (b.stdBand ≤ 2)
  | 2 => decide (1 ≤ b.stdBand ∧ b.stdBand ≤ 8)
  | _ => true

/-- Whether a profile permits a standard mode and band (*Regulatory profiles*). -/
def stdPermitted (b : Band) : Bool :=
  if b.std = 0 then true
  else match b.profile with
    | 0 => true
    | 1 => (b.std == 1 && b.stdBand == 0) || (b.std == 2 && b.stdBand == 1)
    | 2 => (b.std == 1 && decide (b.stdBand ≤ 1)) || b.std == 2
    | 3 => (b.std == 1 && (b.stdBand == 0 || b.stdBand == 2)) || (b.std == 2 && decide (b.stdBand ≤ 7))
    | _ => true

/-- The edges of a standard band in Hz (*Carrier groups clear of the standard band*; the edges of PRIME channels 2 to 8 are
those of ITU-T G.9904, log entry 31). -/
def bandEdges (b : Band) : Option (Nat × Nat) :=
  match b.std, b.stdBand with
  | 1, 0 => some (35900, 90600)
  | 1, 1 => some (154700, 487500)
  | 1, 2 => some (154700, 403100)
  | 2, 1 => some (42000, 88900)
  | 2, 2 => some (96680, 143555)
  | 2, 3 => some (151367, 198242)
  | 2, 4 => some (206055, 252930)
  | 2, 5 => some (260742, 307617)
  | 2, 6 => some (315430, 362305)
  | 2, 7 => some (370117, 416992)
  | 2, 8 => some (424805, 471680)
  | _, _ => none

/-- Whether carrier group `g` is clear of a band: its every carrier lies at least 3 kHz outside (R227). Carrier k is at
k × 15 625 / 32 Hz; the first is 7 + 16g, the last 22 + 16g. -/
def groupClear (edges : Nat × Nat) (g : Nat) : Bool :=
  decide ((22 + 16 * g) * 15625 + 3000 * 32 ≤ edges.1 * 32) || decide ((edges.2 + 3000) * 32 ≤ (7 + 16 * g) * 15625)

/-- Whether band partition leaves every group from CG_LO to CG_HI clear of the standard band. -/
def partitionClear (b : Band) : Bool :=
  match bandEdges b with
  | none => true
  | some e => b.part == 1 || (List.range 62).all fun g => decide (g < b.lo) || decide (b.hi < g) || groupClear e g

/-- Whether a write that leaves `b` is accepted (R226 to R228). -/
def bandAccepted (b : Band) : Bool :=
  decide (b.lo ≤ b.hi) && bandNamed b &&
  (b.profile == 15 || (stdPermitted b && partitionClear b && (b.part == 0 || b.std == 2)))

/-- The network mask a band setting gives: CG_LO to CG_HI less the groups the profile does not permit. -/
def maskOf (b : Band) : Option (Nat × Nat) :=
  match permitted b.profile with
  | none => none
  | some p => let lo := max b.lo p.1; let hi := min b.hi p.2; if lo ≤ hi then some (lo, hi) else none

/-- Whether a mask holds CG_13 to CG_60 (R96). -/
def maskCarries (m : Option (Nat × Nat)) : Bool :=
  match m with
  | none => false
  | some p => decide (p.1 ≤ 13 ∧ 60 ≤ p.2)

/-- MDM_BANDCFG in force in a group, and its reset value. -/
def bandReset (_ : Nat) : BitVec 32 := 0x3D0C001F
def State.bandInForce (s : State) (g : Nat) : Word := Tab.get bandReset s.maps.bands g

/-- BANDCFG_WRITE (R96, R226 to R228) (log entry 40). A mask without CG_13 to CG_60 under a profile is stored and leaves FLP-A unavailable (R227); that
the module refuses it is told with DENIED (R96) (log entry 195). -/
def bandcfgWrite (fg : Nat) (who : Who) (value : Word) (s : State) : State :=
  s.gated who .MDM_BANDCFG fg fun s =>
    let w := bandForm (plainWrite .MDM_BANDCFG (s.reg .MDM_BANDCFG fg) value)
    if bandAccepted (bandOf w) then
      let s1 := s.setReg .MDM_BANDCFG fg w
      if (bandOf w).profile ≠ 15 ∧ maskCarries (maskOf (bandOf w)) = false then s1.event .denied pageBand [(4, fg)] else s1
    else (s.setFld F.MDM_BANDSTAT_REFUSED fg 1).event .denied pageBand [(4, fg)]

/-- The maps of every neighbour in group `fg` withdrawn: uplink maps announced and retired, downlink maps discarded. -/
def State.withdrawGroup (s : State) (fg : Nat) : List (Nat × Option ChanRec) → State
  | [] => s
  | (_, none) :: t => s.withdrawGroup fg t
  | (_, some r) :: t =>
    if r.fg = fg then ((s.withdraw r.saddr).setDl r.saddr none).withdrawGroup fg t else s.withdrawGroup fg t

/-- BAND_CHANGE_APPLY (R226, R227): the setting written comes into force at the next frame start, the group's FLP-A tone maps
are withdrawn. -/
def bandChangeApply (fg : Nat) (s : State) : State :=
  let w := s.reg .MDM_BANDCFG fg
  if s.bandInForce fg = w then s
  else
    let b := bandOf w
    let m := maskOf b
    let s1 := { s with maps := { s.maps with bands := Tab.set bandReset s.maps.bands fg w } }
    let s2 := (s1.setFld F.MDM_BANDSTAT_MASK_LO fg ((m.getD (0, 0)).1)).setFld F.MDM_BANDSTAT_MASK_HI fg ((m.getD (0, 0)).2)
    let s3 := (s2.setFld F.MDM_BANDSTAT_TX_OFF fg (if b.profile = 15 then 1 else 0)).setFld F.MDM_BANDSTAT_FLPA fg
      (if maskCarries m then 1 else 0)
    s3.withdrawGroup fg s3.maps.recs

/-! ## Notches (R205, R211, R214) -/

/-- The stored form of MDM_BBNOTCH_n. -/
def notchForm (w : Word) : Word :=
  let w1 := if 485 < getBits w 16 9 then putBits w 16 9 485 else w
  if 485 < getBits w1 0 9 then putBits w1 0 9 485 else w1

/-- The pilot blocks of the enabled entries of a list. -/
def notched (ws : List Word) (b : Nat) : Bool :=
  ws.any fun w => getBits w 31 1 == 1 && decide (getBits w 0 9 ≤ b ∧ b ≤ getBits w 16 9)

/-- Data carriers per symbol under a mask: a notched block takes its carriers less the one pilot, 7, or 4 in PB_485. -/
def notchData (ws : List Word) : Nat :=
  3399 - 7 * ((List.range 485).filter (notched ws)).length - (if notched ws 485 then 4 else 0)

/-- Sync bits sent under a mask: those whose carrier and reference carrier are not notched (R203, R204). -/
def notchSync (ws : List Word) : Nat :=
  ((List.range 64).filter fun i => !notched ws ((84 + 60 * i) / 8) && !notched ws ((83 + 60 * i) / 8)).length

/-- The notch entries as written, entry `n` replaced. -/
def State.notchWords (s : State) (n : Nat) (w : Word) : List Word :=
  (List.range 16).map fun i => if i = n then w else s.reg .MDM_BBNOTCH i

/-- NOTCH_WRITE (R205): an enabled entry is refused, and stays disabled, when LAST is below FIRST or when too few sync bits or
data carriers would be left. -/
def notchWrite (n : Nat) (who : Who) (value : Word) (s : State) : State :=
  s.gated who .MDM_BBNOTCH n fun s =>
    let w := notchForm (plainWrite .MDM_BBNOTCH (s.reg .MDM_BBNOTCH n) value)
    let ws := s.notchWords n w
    if getBits w 31 1 = 1 ∧ (getBits w 16 9 < getBits w 0 9 ∨ notchSync ws < 48 ∨ notchData ws < 1200) then
      ((s.setReg .MDM_BBNOTCH n (putBits w 31 1 0)).setFld F.MDM_BBSTAT_REFUSED 0 1).event .denied pageNotch [(4, n)]
    else s.setReg .MDM_BBNOTCH n w

/-- The notch entries in force. -/
def State.notchesInForce (s : State) : List Word := (List.range 16).map fun i => Tab.get (fun _ => 0) s.maps.notches i

/-- NOTCH_APPLY (R214): the table written comes into force at the next frame start and every FLP-B tone map is withdrawn. -/
def notchApply (s : State) : State :=
  let ws := (List.range 16).map fun i => s.reg .MDM_BBNOTCH i
  if s.notchesInForce = ws then s
  else
    let tab := ws.zipIdx.foldl (fun t p => Tab.set (fun _ => 0) t p.2 p.1) []
    let s1 := { s with maps := { s.maps with notches := tab, bbMaps := [] } }
    (s1.setFld F.MDM_BBSTAT_SYNCBITS 0 (notchSync ws)).setFld F.MDM_BBSTAT_DATA 0 (notchData ws)

/-! ## Meanings -/

def execNotchWrite (n : Nat) (who : Who) (value : Word) (s : State) : Host.Outcome State Fault Refusal :=
  .next (notchWrite n who value s)

def execNotchApply (s : State) : Host.Outcome State Fault Refusal := .next (notchApply s)

def execBandcfgWrite (fg : Nat) (who : Who) (value : Word) (s : State) : Host.Outcome State Fault Refusal :=
  .next (bandcfgWrite fg who value s)

def execBandChangeApply (fg : Nat) (s : State) : Host.Outcome State Fault Refusal := .next (bandChangeApply fg s)

end Sys2Proof.Machine
end

