-- ==== Sys2Proof/Machine/Phy.lean ====
section
/-! DEFINITION. The air interface as functions of numbers and bits (chapters 04, 06 and 07): numerology, pilots, constellations, preamble, sync word,
header coding, checks, scrambling, interleaving, the placement of bits on carriers and the timing of symbols. FLP-A and, with `line`, FLP-B. -/

namespace Sys2Proof.Machine

open Sys2Proof

/-! ## Carriers (R95, R103, R200, R211) -/

/-- The carriers a group or a line link uses: FLP-B or not, the first and the last group of its network mask, the notched pilot blocks. -/
structure Air where
  line : Bool := false
  lo : Nat := 0
  hi : Nat := 61
  notch : List Nat := []
  deriving DecidableEq, Repr

/-- Samples of the FFT, and samples per second in kHz. -/
def Air.fft (a : Air) : Nat := if a.line then 8192 else 4096
def Air.rateKhz (a : Air) : Nat := if a.line then 128000 else 2000

/-- The group of a carrier: CG of FLP-A, BG of FLP-B. -/
def Air.group (a : Air) (k : Nat) : Nat := if a.line then (k - 116) / 64 else (k - 7) / 16

/-- Whether a carrier is usable: FLP-A 7 to 998, its guard carriers 999 to 1 003 always zero; FLP-B 116 to 4 000. -/
def Air.usable (a : Air) (k : Nat) : Bool := if a.line then decide (116 ≤ k ∧ k ≤ 4000) else decide (7 ≤ k ∧ k ≤ 998)

/-- Whether a carrier carries anything under the network mask and the notches. -/
def Air.carries (a : Air) (k : Nat) : Bool :=
  a.usable k && decide (a.lo ≤ a.group k ∧ a.group k ≤ a.hi) && !(a.line && a.notch.contains ((k - 116) / 8))

/-- The carriers of a range of groups that lie in the mask, ascending. -/
def Air.carriers (a : Air) (cgFirst cgLast : Nat) : List Nat :=
  ((List.range (if a.line then 4001 else 999)).filter fun k => a.carries k && decide (cgFirst ≤ a.group k ∧ a.group k ≤ cgLast))

/-! ## Pilots (R97, R201) -/

/-- The outputs of the pilot generator x⁷ + x⁶ + 1 from a state whose bit i - 1 is state bit i. -/
def pilotSeq : Nat → Nat → List Bool
  | 0, _ => []
  | n + 1, x => let u := x.testBit 5 != x.testBit 6; u :: pilotSeq n (x * 2 % 128 + if u then 1 else 0)

/-- u[i]: the generator starts from all ones. -/
def pilotBit (i : Nat) : Bool := (pilotSeq 127 127).getD i false

/-- The sign of the pilot on carrier `k` in symbol `s`: 1 − 2u[(k + 11s) mod 127]. -/
def pilotSign (s : Int) (k : Nat) : Int := if pilotBit (((k : Int) + 11 * s) % 127).toNat then -1 else 1

/-- Whether carrier `k` is a pilot in symbol `s`. -/
def Air.pilot (a : Air) (s k : Nat) : Bool :=
  if a.line then (k - 116) % 8 == 4 * (s % 2) else (k - 7) % 8 == s % 8

/-- The data carriers of symbol `s` in a range of groups, ascending. -/
def Air.data (a : Air) (cgFirst cgLast s : Nat) : List Nat := (a.carriers cgFirst cgLast).filter fun k => !a.pilot s k

/-- How many data carriers a symbol has in a range of groups: the same in every symbol. -/
def Air.dataCount (a : Air) (cgFirst cgLast : Nat) : Nat :=
  if a.line then (a.data cgFirst cgLast 0).length else 14 * (min cgLast a.hi + 1 - max cgFirst a.lo)

/-- What one carrier carries in one symbol: nothing, (i + jq)/√norm, or exp(jπ num/den). -/
inductive Tone where
  | off | level (i q : Int) (norm : Nat) | turn (num den : Nat)
  deriving DecidableEq, Repr

/-- A pilot: √2 times its sign, 3 dB above a data carrier (R97, R98). -/
def pilotTone (s k : Nat) : Tone := .level (2 * pilotSign s k) 0 2

/-- The pilot value at unit amplitude (R106, R119, R181). -/
def unitTone (s : Int) (k : Nat) : Tone := .level (pilotSign s k) 0 1

/-! ## Constellations (R98) -/

/-- The inverse Gray map of bits, most significant first. -/
def grayInv : Bool → Nat → List Bool → Nat
  | _, n, [] => n
  | last, n, b :: t => grayInv (last != b) (2 * n + if last != b then 1 else 0) t

/-- The amplitude of an axis of L levels: 2·G⁻¹(g) − (L − 1). -/
def axisLevel (g : List Bool) : Int := 2 * (grayInv false 0 g : Int) - (2 ^ g.length - 1 : Nat)

/-- The bits at even or at odd places. -/
def everyOther : Bool → List Bool → List Bool
  | _, [] => []
  | true, b :: t => b :: everyOther false t
  | false, _ :: t => everyOther true t

/-- The square of the inverse scale factor of a constellation of `n` bits. -/
def qamNorm (n : Nat) : Nat := if n = 2 then 2 else if n = 4 then 10 else if n = 6 then 42 else if n = 8 then 170 else if n = 10 then 682 else 1

/-- The data value of bits in the order I1, Q1, I2, Q2, …; BPSK uses I1 only, and no bits give zero. -/
def qam (bits : List Bool) : Tone :=
  match bits with
  | [] => .off
  | [b] => .level (axisLevel [b]) 0 1
  | l => .level (axisLevel (everyOther true l)) (axisLevel (everyOther false l)) (qamNorm l.length)

/-! ## Preamble and sync (R105 to R107, R202 to R204) -/

/-- A preamble carrier: carrier 8m carries exp(jπm²/124), or exp(jπm²/486) on FLP-B, where it is in use; every other zero. -/
def Air.preamble (a : Air) (k : Nat) : Tone :=
  let m := k / 8
  let inComb := if a.line then decide (15 ≤ m ∧ m ≤ 500) else decide (1 ≤ m ∧ m ≤ 124)
  if k % 8 = 0 ∧ inComb = true ∧ a.carries k = true then .turn (m * m) (if a.line then 486 else 124) else .off

/-- The comb's power scale as a fraction: carriers of a sync symbol over carriers of the comb, so that the mean powers are equal. -/
def Air.combScale (a : Air) : Nat × Nat :=
  ((a.carriers a.lo a.hi).length, ((List.range 501).filter fun m => a.preamble (8 * m) != .off).length)

/-- Sync carrier `i`. -/
def Air.syncCarrier (a : Air) (i : Nat) : Nat := if a.line then 200 + 60 * i else 221 + 12 * i

/-- The sync bits that are sent: carrier and reference carrier are in use (R204). -/
def Air.sentBits (a : Air) : List Nat :=
  (List.range 64).filter fun i => a.carries (a.syncCarrier i) && a.carries (a.syncCarrier i - 1)

/-- A carrier of the sync symbol with a word: a sync carrier differs from its reference carrier by the bit, every other carrier in use has the
pilot value of s = −1 at unit amplitude. -/
def Air.sync (a : Air) (word : BitVec 64) (k : Nat) : Tone :=
  if a.carries k = false then .off
  else match a.sentBits.find? fun i => a.syncCarrier i == k with
    | some i => .level (pilotSign (-1) (k - 1) * if word.getLsbD i then -1 else 1) 0 1
    | none => unitTone (-1) k

/-- *Base sync words* by class. -/
def baseWord (cls : Nat) : BitVec 64 :=
  [0x3A5C3A5C3A5C3A5C#64, 0x3A5CC5A33A5CC5A3#64, 0x3A5C3A5CC5A3C5A3#64, 0x3A5CC5A3C5A33A5C#64, 0xC5A3C5A3C5A3C5A3#64].getD cls 0

/-- The word sent for a class and header form under a seed (R107). -/
def syncWord (seed : BitVec 64) (cls : Nat) (ext : Bool) : BitVec 64 :=
  baseWord cls ^^^ seed ^^^ if ext then 0x00FF00FF00FF00FF#64 else 0

/-- The expected words a receiver listens for under a seed, with class and header form: five classes in two forms, or three in one on FLP-B. -/
def Air.expected (a : Air) (seed : BitVec 64) : List (Nat × Bool × BitVec 64) :=
  if a.line then (List.range 3).map fun c => (c, false, syncWord seed c false)
  else (List.range 5).flatMap fun c => [(c, false, syncWord seed c false), (c, true, syncWord seed c true)]

/-- The Hamming distance of two words over the sent bits (R108, R204). -/
def Air.distance (a : Air) (v w : BitVec 64) : Nat := (a.sentBits.filter fun i => v.getLsbD i != w.getLsbD i).length

/-! ## Header (R113 to R115) -/

/-- The header fields (*Header fields*). -/
structure Header where
  cls : Nat := 0
  ftype : Nat := 0
  cp : Bool := false
  src : Nat := 0
  dst : Nat := 0
  seq : Nat := 0
  cgFirst : Nat := 0
  cgLast : Nat := 0
  mcs : Nat := 0
  tmid : Nat := 0
  nsym : Nat := 0
  len : Nat := 0
  harq : Nat := 0
  txn : Nat := 0
  sec : Bool := false
  stream : Bool := false
  ackReq : Bool := false
  deriving DecidableEq, Repr

/-- Fields of given widths packed from bit 0 up. -/
def packFields : List (Nat × Nat) → Nat
  | [] => 0
  | (w, v) :: t => v % 2 ^ w + 2 ^ w * packFields t

/-- A flag as a field. -/
def bitOf (b : Bool) : Nat := if b then 1 else 0

/-- The 128 information bits of a header. -/
def headerBits (h : Header) : Nat :=
  packFields [(3, h.cls), (4, h.ftype), (1, bitOf h.cp), (16, h.src), (16, h.dst), (32, h.seq), (6, h.cgFirst), (6, h.cgLast), (5, h.mcs), (4, h.tmid),
    (9, h.nsym), (17, h.len), (4, h.harq), (2, h.txn), (1, bitOf h.sec), (1, bitOf h.stream), (1, bitOf h.ackReq)]

/-- A number's bytes, the byte at bit 0 first. -/
def bytesOf : Nat → Nat → List Nat
  | 0, _ => []
  | n + 1, v => v % 256 :: bytesOf n (v / 256)

/-- A byte's bits, most significant first, and least significant first. -/
def msbBits (b : Nat) : List Bool := (List.range 8).map fun i => b.testBit (7 - i)
def lsbBits (b : Nat) : List Bool := (List.range 8).map fun i => b.testBit i

/-- CRC-16 with polynomial 0x1021, one bit at a time: initial value 0xFFFF, no reflection, no final XOR. -/
def crc16 : Nat → List Bool → Nat
  | c, [] => c
  | c, b :: t => crc16 (if c.testBit 15 != b then (2 * c % 65536) ^^^ 0x1021 else 2 * c % 65536) t

/-- The bits of H0 to H15, each byte most significant first, and their CRC. -/
def headerStream (h : Header) : List Bool := (bytesOf 16 (headerBits h)).flatMap msbBits
def headerCrc (h : Header) : Nat := crc16 0xFFFF (headerStream h)

/-- The parity of the bits of a seven-bit register under a generator. -/
def parity (v m : Nat) : Bool := ((List.range 7).filter fun i => v.testBit i && m.testBit i).length % 2 == 1

/-- The convolutional coder of constraint length 7, generators 133 and 171 octal (R113, R369): the register holds the newest bit in its top place
and starts at 0. -/
def convolve : Nat → List Bool → List Bool
  | _, [] => []
  | r, b :: t =>
    let r1 := r / 2 + (if b then 64 else 0)
    parity r1 91 :: parity r1 121 :: convolve r1 t

/-- The 300 coded bits of a header: 128 information bits, the CRC most significant first, six zero tail bits. -/
def headerCoded (h : Header) : List Bool :=
  convolve 0 (headerStream h ++ ((List.range 16).map fun i => (headerCrc h).testBit (15 - i)) ++ List.replicate 6 false)

/-- The output of the scrambler x²³ + x¹⁸ + 1 from a state of 23 bits; a seed of 0 stands for 0x7F_FFFF (R121). -/
def scramble : Nat → Nat → List Bool
  | 0, _ => []
  | n + 1, x => let u := x.testBit 22 != x.testBit 17; u :: scramble n (x * 2 % 2 ^ 23 + bitOf u)

def scrambler (seed n : Nat) : List Bool := scramble n (if seed = 0 then 0x7FFFFF else seed)

/-- The bit at header data position q = h × N_h + d: c_(q mod 300) ⊕ w_q (R114). -/
def headerBit (h : Header) (nh sym d : Nat) : Bool :=
  let q := sym * nh + d
  (headerCoded h).getD (q % 300) false != (scrambler 0x7FFFFF (q + 1)).getD q false

/-- Which header symbol and data index a physical header symbol carries at data index `d`: an extended header sends symbol h as copies t = 0 to 15
in physical symbols 16h + t, its index moved by 7t (R115). -/
def headerPlace (ext : Bool) (nh phys d : Nat) : Nat × Nat :=
  if ext then (phys / 16, (d + nh - 7 * (phys % 16) % nh) % nh) else (phys, d)

/-- A carrier of physical header symbol `phys`; header symbols are numbered s from 0 (R97, R103, R114, R115). -/
def Air.header (a : Air) (h : Header) (ext : Bool) (phys k : Nat) : Tone :=
  if a.carries k = false then .off
  else if a.pilot phys k then pilotTone phys k
  else
    let data := a.data a.lo a.hi phys
    let p := headerPlace ext data.length phys (data.idxOf k)
    qam [headerBit h data.length p.1 p.2]

/-! ## MCS (*MCS table*) -/

/-- Whether an MCS sends two streams, and the code rate of an MCS. -/
def twoStreams (mcs : Nat) : Bool := decide (16 ≤ mcs ∧ mcs ≤ 23) || decide (28 ≤ mcs)

def codeRate (mcs : Nat) : Nat :=
  if 24 ≤ mcs then mcs % 4
  else [0, 0, 0, 0, 0, 0, 2, 0, 2, 1, 2, 3, 2, 3, 2, 3, 2, 1, 2, 3, 2, 3, 2, 3].getD mcs 0

/-- Bits per carrier of MCS 0 to 23. -/
def mcsBits (mcs : Nat) : Nat := [1, 1, 1, 1, 1, 2, 2, 4, 4, 6, 6, 6, 8, 8, 10, 10, 4, 6, 6, 6, 8, 8, 10, 10].getD mcs 0

/-- Required SNR of MCS 0 to 23 in 0.5 dB. -/
def mcsNeeds (mcs : Nat) : Int :=
  [-32, -20, -14, -8, 4, 9, 15, 20, 27, 35, 38, 41, 49, 53, 61, 66, 27, 35, 38, 41, 49, 53, 61, 66].getD mcs 0

/-- The repetition of a robust mode: 64, 16, 8, 4; 1 otherwise. -/
def repetition (mcs : Nat) : Nat := [64, 16, 8, 4].getD mcs 1

/-- Physical symbols per effective symbol of a robust mode: T = r / min(r, 4) (R129). -/
def repeatT (mcs : Nat) : Nat := repetition mcs / min (repetition mcs) 4

/-- Information bits of a codeword at a rate (R122). -/
def infoBits (rate : Nat) : Nat := [972, 1296, 1458, 1620].getD rate 972

/-- NCW: codewords of a frame with LEN bytes (R124). -/
def codewords (len rate : Nat) (sec : Bool) : Nat := (8 * (len + 4 + if sec then 16 else 0) + infoBits rate - 1) / infoBits rate

/-! ## Time of symbols (*Parts of a frame*, *Parts of an FLP-B frame*) -/

/-- A symbol with the robust or long prefix (`cp`), or the normal or short one, in ns; and the prefix alone. -/
def symbolNs (line cp : Bool) : Nat := if line then (if cp then 80000 else 72000) else if cp then 2560000 else 2304000
def prefixNs (line cp : Bool) : Nat := if line then (if cp then 16000 else 8000) else if cp then 512000 else 256000

/-- From the first preamble sample to the end of the header. -/
def headNs (line ext : Bool) : Nat := if line then 304000 else if ext then 86528000 else 9728000

/-- To the start of payload symbol 0: two training symbols stand before a two-stream payload. -/
def payloadNs (line ext cp two : Bool) : Nat := headNs line ext + if two then 2 * symbolNs line cp else 0

/-- To the start of payload symbol `p`, and to its centre, prefix included (R100). -/
def symbolStart (line ext cp two : Bool) (p : Nat) : Nat := payloadNs line ext cp two + p * symbolNs line cp
def symbolCentre (line ext cp two : Bool) (p : Nat) : Nat := symbolStart line ext cp two p + symbolNs line cp / 2

/-- The FFT window of payload symbol `p`: it begins 32 µs, or 2 µs on FLP-B, before the end of the cyclic prefix and lasts one body (R112, R207). -/
def windowStart (line ext cp two : Bool) (p : Nat) : Nat := symbolStart line ext cp two p + prefixNs line cp - if line then 2000 else 32000
def bodyNs (line : Bool) : Nat := if line then 64000 else 2048000

/-- Samples of a frame at its path's rate, with `n` payload and tail symbols. -/
def frameSamples (line ext cp two : Bool) (n : Nat) : Nat := symbolStart line ext cp two n * (if line then 128 else 2) / 1000

/-- Symbol number s of payload symbol `p`: numbering runs on through header and training (R97). -/
def symbolNo (ext two : Bool) (p : Nat) : Nat := (if ext then 32 else 2) + (if two then 2 else 0) + p

/-! ## Symbols of a frame (R124, R129) -/

/-- The least number of symbols that hold `need` positions when symbol `p` holds `cap p`; none above `fuel` further symbols. -/
def symbolsFor (cap : Nat → Nat) : Nat → Nat → Nat → Option Nat
  | _, p, 0 => some p
  | 0, _, _ + 1 => none
  | f + 1, p, n + 1 => symbolsFor cap f (p + 1) (n + 1 - cap p)

/-- NSYM of a frame with `nd` payload data carriers, its positions per symbol for a tone-map MCS given by `cap` (R124): at most 512. -/
def frameNsym (mcs len nd : Nat) (sec : Bool) (cap : Nat → Nat) : Option Nat :=
  let bits := codewords len (codeRate mcs) sec * 1944
  if mcs ≤ 3 then
    let ne := nd / min (repetition mcs) 4
    if ne = 0 then none
    else let n := repeatT mcs * ((bits + ne - 1) / ne); if n ≤ 512 then some n else none
  else if mcs ≤ 23 then
    let per := nd * mcsBits mcs * if twoStreams mcs then 2 else 1
    if per = 0 then none else let n := (bits + per - 1) / per; if n ≤ 512 then some n else none
  else symbolsFor cap 512 0 bits

/-- The carriers that are filled level by level in one symbol (R129): (level, stream, carrier), for loads of each stream as (carrier, bits). -/
def fillOrder (loads : List (List (Nat × Nat))) : List (Nat × Nat × Nat) :=
  (List.range 10).flatMap fun j => (loads.zipIdx).flatMap fun l => (l.1.filter fun c => decide (j < c.2)).map fun c => (j, l.2, c.1)

/-- Where copy (f, t) of effective position `d` of symbol `u` lies: physical symbol and data-carrier index (R129). -/
def copyPlace (nd mcs u d f t : Nat) : Nat × Nat :=
  let fc := min (repetition mcs) 4
  let ne := nd / fc
  (u * repeatT mcs + t, (d + f * ne + 7 * t) % (fc * ne))

/-! ## Payload coding (R121 to R127) -/

/-- CRC-32C, one bit at a time from the least significant: polynomial 0x1EDC_6F41 reflected, initial value and final XOR 0xFFFF_FFFF. -/
def crc32cBits : Nat → List Bool → Nat
  | c, [] => c
  | c, b :: t => crc32cBits (if c.testBit 0 != b then (c / 2) ^^^ 0x82F63B78 else c / 2) t

def crc32c (bytes : List Nat) : Nat := crc32cBits 0xFFFFFFFF (bytes.flatMap lsbBits) ^^^ 0xFFFFFFFF

/-- P and its CRC-32C, least significant byte first (*Transmit order of the payload*). -/
def withCheck (p : List Nat) : List Nat := p ++ bytesOf 4 (crc32c p)

/-- Whether a text is a payload of `len` bytes with its CRC. -/
def checkHolds (len : Nat) (text : List Nat) : Bool := text.drop len == bytesOf 4 (crc32c (text.take len))

/-- The seed of a frame's scrambler: SEQ[22:0] ⊕ SEQ[31:23] (R121). -/
def scrambleSeed (seq : Nat) : Nat := (seq % 2 ^ 23) ^^^ (seq / 2 ^ 23 % 512)

/-- The position of bit `i` of codeword `m` of a frame of `ncw` codewords, and what a position holds: a codeword and a bit, or a pad (R125). -/
def framePos (ncw m i : Nat) : Nat := i * ncw + m
def frameAt (ncw p : Nat) : Option (Nat × Nat) := if p < ncw * 1944 then some (p % ncw, p / ncw) else none

/-- The interleaving depths by NIDX (R126). -/
def depths : List Nat := [1, 2, 3, 4, 6, 8, 9, 12, 18, 24, 27, 36, 54, 72, 81, 108, 162, 216, 243]

/-- The position in a stream of bit `i` of codeword `c` at group size `g` and depth `n` (R126). -/
def streamPos (g n c i : Nat) : Nat :=
  let x := i * g + c % g
  1944 * g * (c / g + x % n) + x

/-- What position `p` of a stream holds: the codeword, none before the stream's start, and the bit. -/
def streamAt (g n p : Nat) : Option Nat × Nat :=
  let x := p % (1944 * g)
  let t := p / (1944 * g)
  (if x % n ≤ t then some ((t - x % n) * g + x % g) else none, x / g)

/-- The stream position in LEN: NIDX, GIDX, first super-block modulo 512 (R127). -/
def streamLen (nidx gidx first : Nat) : Nat := nidx * 4096 + gidx * 512 + first % 512

/-! ## Nonce and additional data (R123) -/

/-- A number as bytes, most significant first. -/
def beBytes (n v : Nat) : List Nat := (bytesOf n v).reverse

/-- Byte of FTYPE and CLASS, bit 7 zero. -/
def typeByte (h : Header) : Nat := h.ftype % 16 * 8 + h.cls % 8

/-- The 12-byte nonce: NETID, SRC, SEQ, type. -/
def nonceOf (netid : Nat) (h : Header) : List Nat := beBytes 5 netid ++ beBytes 2 h.src ++ beBytes 4 h.seq ++ [typeByte h]

/-- The 12 bytes of additional data: type, SRC, DST, SEQ, and HARQ_ID, SEC, STREAM, ACKREQ and LEN from bit 23 to bit 0. -/
def aadOf (h : Header) : List Nat :=
  [typeByte h] ++ beBytes 2 h.src ++ beBytes 2 h.dst ++ beBytes 4 h.seq ++
    beBytes 3 (packFields [(17, h.len), (1, bitOf h.ackReq), (1, bitOf h.stream), (1, bitOf h.sec), (4, h.harq)])

/-! ## Streams of a link (R119, R120, R181, R209) -/

/-- The cyclic shift in samples of the `i`-th port of a frame on `n` ports: 8 for each port on FLP-A, 64 on a line link. -/
def portShift (line : Bool) (i : Nat) : Nat := i * if line then 64 else 8

/-- A carrier of MIMO training symbol `t` (0 or 1) on stream `i`: stream t sends pilot values on every payload data carrier, the other is silent. -/
def Air.training (a : Air) (cgFirst cgLast s t i k : Nat) : Tone :=
  if a.carries k = false ∨ a.group k < cgFirst ∨ cgLast < a.group k then .off
  else if t = i then (if a.pilot s k then pilotTone s k else unitTone s k) else .off

/-- Whether stream `i` of two sends the pilot on carrier `k`: stream 0 at position s mod 8, stream 1 at (s mod 8) + 8 of a carrier group (R119); on
FLP-B the streams take the pilot blocks by turns (log entry 179). -/
def Air.streamPilot (a : Air) (i k : Nat) : Bool :=
  if a.line then (k - 116) / 8 % 2 == i else (k - 7) % 16 / 8 == i

/-- The pair that sends carrier `k` of tail symbol `q` when the pairs of a list are sounded: t_((k + q) mod NT) (R181). -/
def tailPair (pairs : List Nat) (q k : Nat) : Option Nat := pairs[(k + q) % max pairs.length 1]?

/-- A carrier of tail symbol `q` of a sounding with `nsym` payload symbols on pair `t`. -/
def Air.tail (a : Air) (cgFirst cgLast nsym q : Nat) (pairs : List Nat) (t k : Nat) : Tone :=
  let s := nsym + 2 + q
  if a.carries k = false ∨ a.group k < cgFirst ∨ cgLast < a.group k ∨ pairs.contains t = false then .off
  else if a.pilot s k then (if pairs.length = 2 && !a.streamPilot (pairs.idxOf t) k then .off else pilotTone s k)
  else if tailPair pairs q k = some t then unitTone s k else .off

/-! ## Erasures (R130, R131) -/

/-- Whether an impedance step is declared at a symbol of which `dev` of `n` pilots deviate. -/
def stepAt (c : ErasureCfg) (dev n : Nat) : Bool := decide (0 < n ∧ c.share * n ≤ 100 * dev)

/-- Whether a data carrier is still erased in symbol `s` after a step at symbol `s0`: none of the symbols from the step on has had its pilot. -/
def Air.stale (a : Air) (s0 s k : Nat) : Bool := !((List.range (s - s0 + 1)).any fun i => a.pilot (s0 + i) k)

end Sys2Proof.Machine
end

