-- ==== Sys2Proof/Machine/Superframe.lean ====
section
/-! DEFINITION. The superframe (R237, R239, R243), the grants of a group and where the frames under them lie (R248, R249). -/

namespace Sys2Proof.Machine

open Sys2Proof

/-! ## Spans (R238 to R240) -/

/-- The mains frequency of a group in mHz: the tracker's, or 60 Hz before its first lock. -/
def State.mains (s : State) (fg : Nat) : Nat := if s.fld F.LP_ZCFREQ_MHZ fg = 0 then 60000 else s.fld F.LP_ZCFREQ_MHZ fg

/-- The length of a beacon in ns on `g` carrier groups: MCS 1, one codeword, normal prefix, extended header. -/
def beaconNs (g : Nat) : Nat :=
  let ne := 14 * g / 4
  86528000 + 4 * ((1944 + ne - 1) / max ne 1) * 2304000

/-- Whole cycles that hold a time in ns at a mains frequency. -/
def cyclesOf (mhz ns : Nat) : Nat := (ns * mhz + 10 ^ 12 - 1) / 10 ^ 12

/-- NB of a beacon setting (R239): the network beacon, with the discovery beacon after it from the next slot 0 on. -/
def nbOf (mhz : Nat) (w : Word) (disc : Bool) : Nat :=
  let n := cyclesOf mhz (beaconNs (getBits w 24 6 + 1 - getBits w 16 6))
  if disc then 2 * n else n

/-- IVL in cycles; 0 means 256. -/
def ivlOf (w : Word) : Nat := if getBits w 0 8 = 0 then 256 else getBits w 0 8

/-- Whether a setting sends discovery beacons (R243). -/
def discovers (w : Word) : Bool := getBits w 8 8 != 0 && getBits w 31 1 == 1

/-- The superframe of a group: the cycle it starts at and its length in cycles; none before the first beacon. -/
def State.superframe (s : State) (fg : Nat) : Option (Nat × Nat) :=
  (Tab.get (fun _ => none) s.mac.beaconAt fg).map fun next =>
    let ivl := Tab.get (fun _ => 0) s.mac.ivl fg
    ((next + 2 ^ 40 - ivl) % 2 ^ 40, ivl)

/-- NB of the superframe in progress. -/
def State.nbNow (s : State) (fg : Nat) : Nat :=
  let w := s.reg .MAC_BCNCFG fg
  nbOf (s.mains fg) w (discovers w && (s.reg .MAC_BNUM fg).toNat % max 1 (getBits w 8 8) == 0)

/-- Whether input `p` is the only L port in service in its group. -/
def State.onlyPort (s : State) (p : Nat) : Bool :=
  decide (p < 24) && decide (1 ≤ s.portRole p ∧ s.portRole p ≤ 3) && (s.groupPorts (s.portFg p)).all (fun q => q == p)

/-- Whether a calibration or self-test of the only L port of a group ends before the next beacon span: it begins after a span with 400 ms left (R344, R470). -/
def State.spanRoom (s : State) (fg : Nat) : Bool :=
  match s.superframe fg with
  | none => true
  | some sf =>
    let j := ((s.tracker fg).cyc + 2 ^ 40 - sf.1) % 2 ^ 40 % max 1 sf.2
    decide (s.nbNow fg ≤ j ∧ 400000000 * s.mains fg ≤ (sf.2 - j) * 10 ^ 12)

/-- The stream grant of a node that is in force at the last beacon of its group (R116, R248). -/
def State.streamGrant (s : State) (a : Nat) : Option Grant :=
  (s.node a).bind fun n =>
    let b := (s.reg .MAC_BNUM n.fg).toNat
    n.grants.find? fun g => g.kind == 1 && decide (g.fromB ≤ b ∧ b ≤ g.toB)

/-- Ns from the superframe's start to slot `n` of its first cycle, counting on through the cycles. -/
def slotNs (mhz n : Nat) : Nat := n * 10 ^ 12 / (12 * max 1 mhz)

/-! ## Where frames lie (R248, R249) -/

/-- A frame placed in a group: its first slot, the last slot of its preamble, sync and header, its last slot, and its carrier groups. -/
structure Placed where
  first : Nat
  head : Nat
  last : Nat
  lo : Nat
  hi : Nat
  deriving DecidableEq, Repr

/-- Whether two frames overlap in time. -/
def Placed.meets (a b : Placed) : Bool := decide (a.first ≤ b.last ∧ b.first ≤ a.last)

/-- Whether two frames may not both be sent (R249): their preambles, syncs or headers meet, or they meet and share carrier groups. -/
def Placed.clash (a b : Placed) : Bool :=
  decide (a.first ≤ b.head ∧ b.first ≤ a.head) || (a.meets b && decide (a.lo ≤ b.hi ∧ b.lo ≤ a.hi))

/-- Whether at least half of the groups of a header, which takes the whole mask `lo` to `hi`, are free of the payloads of other frames (R249). -/
def headFree (lo hi : Nat) (x : Placed) (others : List Placed) : Bool :=
  let mask := (List.range 62).filter fun g => decide (lo ≤ g ∧ g ≤ hi)
  let busy := mask.filter fun g => others.any fun y => decide (y.head ≤ x.head ∧ x.first ≤ y.last ∧ y.lo ≤ g ∧ g ≤ y.hi)
  decide (2 * busy.length ≤ mask.length)

/-- The longest frame a node may send under a grant, in ns: NSYMMAX symbols, of a stream with the normal prefix, else with the long one; two training
symbols of a node with two streams; the extended header in a robust mode (log entry 197). -/
def grantNs (n : Node) (g : Grant) : Nat := symbolStart false n.robust (g.kind != 1) (!n.robust && n.cap.testBit 2) g.nsymMax

/-- The frame under a grant that starts in cycle j of a superframe, at a mains frequency. -/
def grantPlace (mhz : Nat) (n : Node) (g : Grant) (j : Nat) : Placed :=
  let first := 12 * j + g.slot
  let tick : Nat → Nat := fun ns => first + 12 * mhz * ns / 10 ^ 12
  { first := first, head := tick (headNs false n.robust - 1), last := tick (grantNs n g - 1), lo := g.cgFirst, hi := g.cgLast }

/-- The frames under a grant in cycles of a list, from slot `from_` of the superframe on (R248): in the cycles of its phase; those of a stream follow one
another, each at the next start slot. -/
def grantChain (mhz : Nat) (n : Node) (g : Grant) (from_ : Nat) : List Nat → List Placed
  | [] => []
  | j :: t =>
    let p := grantPlace mhz n g j
    if from_ ≤ p.first ∧ (j % 2 ^ g.cper = g.cph ∨ (g.kind = 1 ∧ from_ ≠ 0)) then p :: grantChain mhz n g (p.last + 1) t
    else grantChain mhz n g from_ t

/-- The frames under a grant in a superframe (R248): from its beacon span on; none that would overlap the next. -/
def State.grantPlaces (s : State) (fg : Nat) (n : Node) (g : Grant) : List Placed :=
  let ivl := ivlOf (s.reg .MAC_BCNCFG fg)
  (grantChain (s.mains fg) n g 0 ((List.range ivl).filter fun j => decide (s.nbNow fg ≤ j))).filter fun p => decide (p.last < 12 * ivl)

/-- Whether two grants are in force at one beacon. -/
def sameBeacons (a b : Grant) : Bool := (b.toB == 0 || decide (a.fromB ≤ b.toB)) && (a.toB == 0 || decide (b.fromB ≤ a.toB))

/-- The grants of a group with their nodes. -/
def State.grantsOf (s : State) (fg : Nat) : List (Node × Grant) :=
  s.mac.nodes.flatMap fun p => match p.2 with
    | none => []
    | some n => if n.fg = fg then n.grants.map fun g => (n, g) else []

/-- The frames under the grants of a group that a condition picks. -/
def State.placesOf (s : State) (fg : Nat) (pick : Grant → Bool) : List Placed :=
  ((s.grantsOf fg).filter fun x => pick x.2).flatMap fun x => s.grantPlaces fg x.1 x.2

/-- Whether a grant is in force at a beacon. -/
def inForceAt (b : Nat) (g : Grant) : Bool := decide (g.fromB ≤ b) && (g.toB == 0 || decide (b ≤ g.toB))

/-- Whether no frame of a list clashes with one of another, and every header stays half free (R249). -/
def State.placesFit (s : State) (fg : Nat) (mine others : List Placed) : Bool :=
  let lo := s.fld F.MDM_BANDSTAT_MASK_LO fg
  let hi := s.fld F.MDM_BANDSTAT_MASK_HI fg
  mine.all (fun x => !others.any x.clash && headFree lo hi x others) &&
  others.all fun y => headFree lo hi y (mine ++ others.filter fun z => z != y)

/-- Whether the scheduler may give a grant to a node of a group (R246, R248, R249): its own frames follow one another, and they fit those of the grants in
force with it. -/
def State.grantFits (s : State) (fg : Nat) (n : Node) (g : Grant) : Bool :=
  let mine := s.grantPlaces fg n g
  decide (s.fld F.MDM_BANDSTAT_MASK_LO fg ≤ g.cgFirst ∧ g.cgFirst ≤ g.cgLast ∧ g.cgLast ≤ s.fld F.MDM_BANDSTAT_MASK_HI fg) &&
  decide (g.slot < 12 ∧ g.cper ≤ 8 ∧ g.cph < 2 ^ g.cper ∧ 1 ≤ g.nsymMax ∧ g.nsymMax ≤ 512) && !mine.isEmpty &&
  s.placesFit fg mine (s.placesOf fg (sameBeacons g))

/-- The spans in ns that the preambles, syncs and headers of the frames under the grants of a group take, in its last two superframes. -/
def State.headSpans (s : State) (fg : Nat) : List (Nat × Nat) :=
  let b := (s.reg .MAC_BNUM fg).toNat
  ((Tab.get (fun _ => []) s.mac.supers fg).zip [b, b - 1]).flatMap fun x =>
    ((s.grantsOf fg).filter fun y => inForceAt x.2 y.2).flatMap fun y => (s.grantPlaces fg y.1 y.2).map fun p =>
      let t := stampNs x.1 + slotNs (s.mains fg) p.first
      (t, t + headNs false y.1.robust)

end Sys2Proof.Machine
end

