-- ==== Sys2Proof/Machine/Symbols.lean ====
section
/-! DEFINITION. The air interface in the module's state (R95 to R132, R200 to R210): the mask and slots of a group, what a received frame's soft values
say, what a frame the module sends carries on each carrier of each symbol. -/

namespace Sys2Proof.Machine

open Sys2Proof

/-! ## Groups and links -/

/-- The carriers in force in a feeder group (0 to 7) or on a line link (8 + link). -/
def State.air (s : State) (fg : Nat) : Air :=
  if fg < 8 then { lo := s.fld F.MDM_BANDSTAT_MASK_LO fg, hi := s.fld F.MDM_BANDSTAT_MASK_HI fg }
  else { line := true, lo := 0, hi := 60, notch := (List.range 486).filter (notched s.notchesInForce) }

/-- The seed the receiver of a group or a link listens for: the network's, or the line-link seed (R107, R203). -/
def State.seed (s : State) (fg : Nat) : BitVec 64 :=
  if fg < 8 then s.reg .MAC_SEED_HI 0 ++ s.reg .MAC_SEED_LO 0 else s.reg .GL_SEED_HI 0 ++ s.reg .GL_SEED_LO 0

/-- NETID of the module's FLP-A networks, and GNID of Guyline (R231, R417). -/
def State.netId (s : State) (fg : Nat) : Nat := s.fld F.MAC_NETCFG_NETNUM 0 * 1024 + if fg < 8 then s.moduleIndex else 0

/-- The uplink map a frame of an address names: TMID held, with its MCS (R116, R118, R188). -/
def State.ulNamed (s : State) (a tmid mcs : Nat) : Option ToneMap :=
  if s.maps.suspended then none
  else (s.ulMaps a).find? fun m => m.tmid == tmid && mcs == (if m.two then 28 else 24) + m.rate

/-- The bits a map loads on a carrier of a stream in a slot; outside its groups 0 (R118, R187). -/
def mapBits (m : ToneMap) (slot stream k : Nat) : Nat :=
  if m.cgFirst ≤ (k - 7) / 16 ∧ (k - 7) / 16 ≤ m.cgLast then loadBits (Tab.get (fun _ => 0) m.codes (slotKey slot k + 16384 * stream)) else 0

/-- The loads of each stream of one payload symbol as (carrier, bits): every data carrier of the allocation under MCS 0 to 23, the map's loading of
the symbol's slot under MCS 24 to 31. -/
def symbolLoads (mcs : Nat) (map : Option ToneMap) (data : List Nat) (slot : Nat) : List (List (Nat × Nat)) :=
  (List.range (if twoStreams mcs then 2 else 1)).map fun i =>
    data.map fun k => (k, if mcs ≤ 23 then mcsBits mcs else match map with
      | none => 0
      | some m => mapBits m slot i k)

/-- Positions of a symbol. -/
def loadsSum (l : List (List (Nat × Nat))) : Nat := (l.map fun x => (x.map Prod.snd).sum).sum

/-! ## Received frames -/

/-- The header a received frame's fields give. -/
def headerOf (f : RxFrame) : Header :=
  { cls := f.cls, ftype := f.ftype, cp := f.cp, src := f.src, dst := f.dst, seq := f.seq, cgFirst := f.cgFirst, cgLast := f.cgLast, mcs := f.mcs,
    tmid := f.tmid, nsym := f.nsym, len := f.len, harq := f.harq, txn := f.txn, sec := f.sec, stream := f.stream, ackReq := f.ackReq }

/-- Whether the header CRC holds. -/
def crcHdr (f : RxFrame) : Bool := f.hcrc == headerCrc (headerOf f)

/-- Whether a frame's MCS takes the extended header (R104). -/
def extendedMcs (mcs : Nat) : Bool := decide (mcs ≤ 2)

/-- When payload symbol `p` of a received frame begins, and its centre, in ns (*Parts of a frame*). -/
def rxSymbol (r : Recep) (f : RxFrame) (p : Nat) : Nat :=
  stampNs r.start + symbolStart (decide (8 ≤ r.fg)) (extendedMcs f.mcs) f.cp (twoStreams f.mcs) p
def rxCentre (r : Recep) (f : RxFrame) (p : Nat) : Nat :=
  stampNs r.start + symbolCentre (decide (8 ≤ r.fg)) (extendedMcs f.mcs) f.cp (twoStreams f.mcs) p

/-- The last sample of a frame in ns: after its payload and the tail of a sounding; a standard-mode frame's end is its pack's. -/
def rxEnd (r : Recep) (f : RxFrame) : Nat :=
  if r.std then stampNs f.fin else rxSymbol r f (f.nsym + 1 + if f.cls = 2 then f.nsnd else 0)

/-- Symbol number s of payload symbol `p` (R97). -/
def rxSymbolNo (f : RxFrame) (p : Nat) : Nat := symbolNo (extendedMcs f.mcs) (twoStreams f.mcs) p

/-- The slot of payload symbol `p`, by its actual timing (R100, R102). -/
def State.rxSlot (s : State) (r : Recep) (f : RxFrame) (p : Nat) : Nat := s.slotAt r.fg (rxCentre r f p)

/-- The loads of payload symbol `p`. -/
def State.rxLoads (s : State) (r : Recep) (f : RxFrame) (p : Nat) : List (List (Nat × Nat)) :=
  symbolLoads f.mcs (s.ulNamed f.src f.tmid f.mcs) ((s.air r.fg).data f.cgFirst f.cgLast (rxSymbolNo f p)) (s.rxSlot r f p)

/-- The NSYM + 1 that R124 gives a received frame for its LEN. -/
def State.rxNsym (s : State) (r : Recep) (f : RxFrame) : Option Nat :=
  frameNsym f.mcs f.len ((s.air r.fg).dataCount f.cgFirst f.cgLast) f.sec fun p => loadsSum (s.rxLoads r f p)

/-! ## Acquisition (R110 to R112, R207) -/

/-- The bounds of the residual |ε| in 10⁻⁹ and of the timing error in ns at a preamble SNR in 1/32 dB; none where the spec states none. -/
def acquireBound (line : Bool) (snr : Int) : Option (Nat × Nat) :=
  if line then (if 0 ≤ snr then some (2000, 500) else none)
  else if -128 ≤ snr then some (2000, 4000) else if -512 ≤ snr then some (10000, 16000) else none

/-- A free value held to a bound. -/
def bounded (b : Option Nat) (x : Int) : Int :=
  match b with
  | none => x
  | some n => max (-(n : Int)) (min n x)

/-- The frozen estimate of ε in 10⁻⁹ and the timing error in ns, from an offset within ±100 ppm: coarse timing from the preamble's period, ε and fine
timing from the comb's phase, both refined at the sync symbol, frozen at its end (R110). -/
def State.acquire (s : State) (fg : Nat) (ppm snr : Int) : Option (Int × Int) :=
  let b := acquireBound (decide (8 ≤ fg)) snr
  if ppm.natAbs ≤ 100000 then
    some (ppm + bounded (b.map Prod.fst) (Config.residual s.free), bounded (b.map Prod.snd) (Config.timingError s.free))
  else none

/-! ## Erasures (R130, R131, R152, R158, R249) -/

/-- How many samples of a block from `t0` that a mark run covers lie in a window of ns. -/
def markedIn (t0 : Nat) (m : Nat × Nat) (w0 w1 : Nat) : Nat :=
  let a := max (t0 + 500 * m.1) w0
  let b := min (t0 + 500 * (m.2 + 1)) w1
  (b - a + 499) / 500

/-- The mark runs of a block; ALL_OVL and ALL_OWN mark every sample (R140). -/
def blockRuns (b : Block) : List (Nat × Nat) :=
  if b.allOvl || b.allOwn then [(0, 4095)] else b.marks.map fun m => (m.first, m.last)

/-- Marked samples of a ring in a window: overload and own transmission. -/
def ringMarked (x : Ring) (w0 w1 : Nat) : Nat :=
  (x.blocks.map fun b => ((blockRuns b).map fun m => markedIn (stampNs b.t0) m w0 w1).sum).sum

/-- Marked samples in the window of payload symbol `p`, on the input of the group that has most (log entry 181). -/
def State.windowMarked (s : State) (r : Recep) (f : RxFrame) (p : Nat) : Nat :=
  let line := decide (8 ≤ r.fg)
  let w0 := stampNs r.start + windowStart line (extendedMcs f.mcs) f.cp (twoStreams f.mcs) p
  (s.ringsOf r.fg).foldl (fun m x => max m (ringMarked (s.ring x) w0 (w0 + bodyNs line))) 0

/-- Whether the window of payload symbol `p` overlaps a span in ns that is erased from the reception (R158). -/
def spanHit (r : Recep) (f : RxFrame) (p : Nat) (spans : List (Nat × Nat)) : Bool :=
  let line := decide (8 ≤ r.fg)
  let w0 := stampNs r.start + windowStart line (extendedMcs f.mcs) f.cp (twoStreams f.mcs) p
  spans.any fun x => decide (x.1 < w0 + bodyNs line ∧ w0 < x.2)

/-- The spans erased from a reception: those of dominant receptions that have ended uncancelled, and of those still open that are not to be. -/
def State.erasedSpans (s : State) (r : Recep) : List (Nat × Nat) :=
  r.spans ++ (s.rx.open_.filter fun x => r.above.contains x.id).map fun x => (stampNs x.start, x.need)

/-- The preambles, syncs and headers of other scheduled frames that lie over a reception (R249): those of its group but the one it begins with. -/
def State.otherHeads (s : State) (r : Recep) : List (Nat × Nat) :=
  if 8 ≤ r.fg then []
  else (s.headSpans r.fg).filter fun x => !decide (x.1 < stampNs r.start + headNs false false ∧ stampNs r.start < x.2)

/-- Whether payload symbol `p` is erased on every data carrier: too many blanked samples, a dominant frame or the head of another scheduled frame over it. -/
def State.symbolErased (s : State) (r : Recep) (f : RxFrame) (p : Nat) : Bool :=
  decide (s.rx.erasure.limit < f.hits.getD p 0 + s.windowMarked r f p) || spanHit r f p (s.erasedSpans r ++ s.otherHeads r)

/-- The payload symbol of the latest impedance step at or before symbol `p`. -/
def State.lastStep (s : State) (r : Recep) (f : RxFrame) (p : Nat) : Option Nat :=
  let a := s.air r.fg
  (List.range (p + 1)).reverse.find? fun i =>
    stepAt s.rx.erasure (f.devs.getD i 0) ((a.carriers f.cgFirst f.cgLast).filter (a.pilot (rxSymbolNo f i))).length

/-- Whether carrier `k` is erased in payload symbol `p`. -/
def State.carrierErased (s : State) (r : Recep) (f : RxFrame) (p k : Nat) : Bool :=
  s.symbolErased r f p || match s.lastStep r f p with
    | none => false
    | some i => (s.air r.fg).stale (rxSymbolNo f i) (rxSymbolNo f p) k

/-- Whether any data carrier of payload symbol `p` is erased (R175). -/
def State.anyErased (s : State) (r : Recep) (f : RxFrame) (p : Nat) : Bool :=
  ((s.air r.fg).data f.cgFirst f.cgLast (rxSymbolNo f p)).any (s.carrierErased r f p)

/-! ## Soft values (R125, R129, R134, R135, R361) -/

/-- A sum of soft values, saturated. -/
def softAdd (x y : Int) : Int := max (-127) (min 127 (x + y))

/-- Two lists of soft values added place by place. -/
def softSum : List Int → List Int → List Int
  | x :: t, y :: u => softAdd x y :: softSum t u
  | l, [] => l
  | [], l => l

/-- The soft values of payload symbol `p`, erased ones at 0: in filling order, or by data carrier in a robust mode. -/
def State.symbolSoft (s : State) (r : Recep) (f : RxFrame) (p : Nat) : List Int :=
  let carriers := if f.mcs ≤ 3 then (s.air r.fg).data f.cgFirst f.cgLast (rxSymbolNo f p) else (fillOrder (s.rxLoads r f p)).map fun x => x.2.2
  (carriers.zipIdx).map fun c => if s.carrierErased r f p c.1 then 0 else max (-127) (min 127 ((f.soft.getD p []).getD c.2 0))

/-- The soft values of effective symbol `u` of a robust mode: its copies combined (R129). -/
def State.effective (s : State) (r : Recep) (f : RxFrame) (u : Nat) : List Int :=
  let nd := (s.air r.fg).dataCount f.cgFirst f.cgLast
  let fc := min (repetition f.mcs) 4
  let phys := (List.range (repeatT f.mcs)).map fun t => s.symbolSoft r f (u * repeatT f.mcs + t)
  (List.range (nd / fc)).map fun d =>
    ((List.range fc).flatMap fun i => (List.range (repeatT f.mcs)).map fun t => (phys.getD t []).getD (copyPlace nd f.mcs u d i t).2 0).foldl softAdd 0

/-- The soft values of every position of a frame, in order. -/
def State.positions (s : State) (r : Recep) (f : RxFrame) : List Int :=
  if f.mcs ≤ 3 then (List.range ((f.nsym + 1) / repeatT f.mcs)).flatMap (s.effective r f)
  else (List.range (f.nsym + 1)).flatMap (s.symbolSoft r f)

/-- The soft values of a frame's codewords, bit by bit, deinterleaved (R125) and descrambled (R121). -/
def State.codeSoft (s : State) (r : Recep) (f : RxFrame) : List Int :=
  let pos := s.positions r f
  let ncw := codewords f.len (codeRate f.mcs) f.sec
  let key := scrambler (scrambleSeed f.seq) (ncw * 1944)
  (key.zipIdx).map fun b =>
    let v := pos.getD (framePos ncw (b.2 / 1944) (b.2 % 1944)) 0
    if b.1 then -v else v

/-! ## Decoding (R121 to R123, R137) -/

/-- A list cut into codewords of 1 944. -/
def wordsOf (l : List Int) : List (List Int) := (List.range (l.length / 1944)).map fun i => (l.drop (1944 * i)).take 1944

/-- Bytes from bits, least significant first. -/
def toBytes (l : List Bool) (n : Nat) : List Nat :=
  (List.range n).map fun i => ((List.range 8).map fun j => if l.getD (8 * i + j) false then 2 ^ j else 0).sum

def asBytes (l : List Nat) : List Byte := l.map (BitVec.ofNat 8)
def asNats (l : List Byte) : List Nat := l.map BitVec.toNat

/-- The codewords of soft values decoded: whether every syndrome is clean, and the first `n` bytes of the information. -/
def decodeWords (rate : Nat) (soft : List Int) (n : Nat) : Bool × List Nat :=
  let w := (wordsOf soft).map (Config.ldpcWord rate)
  (w.all Prod.snd, toBytes (w.flatMap Prod.fst) n)

/-- A text under the keys of a list: the plaintext where the tag is right under one of them. -/
def openUnder (keys : List (List Byte)) (netid : Nat) (h : Header) (text : List Nat) : Option (List Nat) :=
  (keys.findSome? fun k => Config.gcmOpen k (asBytes (nonceOf netid h)) (asBytes (aadOf h)) (asBytes text) 16).map asNats

/-! ## Frames the module sends -/

/-- Whether what goes out is a wake pattern, which is no FLP-A frame (R268). -/
def isWake (b : Body) : Bool :=
  match b with
  | .wakePattern _ => true
  | _ => false

/-- CLASS and FTYPE of what a frame carries (*FLP-A frame types*). -/
def bodyType (b : Body) : Nat × Nat :=
  match b with
  | .data _ _ => (0, 0)
  | .tokens _ => (0, 0)
  | .ack _ _ _ => (0, 1)
  | .mgmt (.rangeReq _) => (0, 0)
  | .mgmt _ => (0, 2)
  | .stream => (0, 3)
  | .netBeacon _ => (1, 0)
  | .discBeacon _ _ _ _ => (1, 1)
  | .sounding _ _ => (2, 0)
  | .wakeTiming => (3, 1)
  | .wakePattern _ => (3, 1)
  | .empty => (0, 0)

/-- Bytes of a management message, MTYPE included (*Management messages*). -/
def mgmtLen (codes : Nat) (m : Mgmt) : Nat :=
  match m with
  | .assocResp _ _ _ _ => 28
  | .keyConfirmAck _ _ _ => 39
  | .toneMap _ w => if w then 5 else 5 + (3 * codes + 7) / 8
  | .allocGrant _ => 19
  | .allocEnd _ => 2
  | .rendezvousSet _ _ _ _ _ _ _ _ _ => 17
  | .groupKey _ _ => 38
  | .routeSet _ _ => 20
  | .leave _ => 2
  | .handoverNotice _ _ => 20
  | .rangeReq _ => 3

/-- LEN of what a frame carries, the service code of a data frame included (*Ledger payloads*) (log entry 188); a relayed one has a route header of 17 bytes, the inner header of 12 and the inner check and tag (R277). -/
def State.bodyLen (s : State) (f : Frame) : Nat :=
  let n := match f.body with
    | .data _ len => 1 + len
    | .tokens l => 2 + 14 * l.length
    | .ack _ _ l => 9 + 6 * l.length
    | .mgmt m => mgmtLen (match (s.ulMaps f.dst).head? with
      | some x => 12 * 14 * (x.cgLast + 1 - x.cgFirst) * if x.two then 2 else 1
      | none => 0) m
    | .stream => 0
    | .netBeacon _ => 96
    | .discBeacon _ _ _ _ => 43
    | .sounding _ _ => 8
    | .wakeTiming => 15
    | .wakePattern _ => 0
    | .empty => 0
  if f.relay = [] then n else 17 + 12 + n + 4 + 16

/-- Whether the header of a frame carries SEC: not on discovery beacons, ASSOC_RESP, streams and relay frames (*FLP-A frame types*). -/
def bodySec (f : Frame) : Bool :=
  f.relay == [] && match f.body with
    | .discBeacon _ _ _ _ => false
    | .stream => false
    | .mgmt (.assocResp _ _ _ _) => false
    | _ => true

/-- The header of a frame the module sends; SRC of the module is 0x0000. A relay frame goes to its first relay with CLASS 4 (R277). -/
def State.txHeader (s : State) (f : Frame) : Header :=
  let t := bodyType f.body
  let relayed := f.relay != []
  { cls := if relayed then 4 else t.1, ftype := if relayed then 0 else t.2, cp := f.cp, src := 0, dst := f.relay.headD f.dst, seq := f.seq.getD 0,
    cgFirst := f.cgFirst, cgLast := f.cgLast, mcs := f.mcs, tmid := if 24 ≤ f.mcs then f.tmid else 0, nsym := f.nsym - 1, len := s.bodyLen f,
    harq := if relayed then 0 else f.harq, txn := f.txn % 4, sec := bodySec f, stream := f.body == .stream, ackReq := f.ackReq && !relayed }

/-- The slot of payload symbol `p` of a frame that starts with slot `slot` at a frequency in mHz (R99, R100). -/
def sentSlot (mhz slot : Nat) (mcs : Nat) (cp : Bool) (p : Nat) : Nat :=
  (slot + 12 * mhz * symbolCentre false (extendedMcs mcs) cp (twoStreams mcs) p / 10 ^ 12) % 12

/-- The loads of payload symbol `p` of a frame the module sends, under the node's downlink map. -/
def State.txLoads (s : State) (f : Frame) (p : Nat) : List (List (Nat × Nat)) :=
  symbolLoads f.mcs (s.dlMap f.dst) ((s.air f.fg).data f.cgFirst f.cgLast (symbolNo (extendedMcs f.mcs) (twoStreams f.mcs) p))
    (sentSlot (s.fld F.LP_ZCFREQ_MHZ f.fg) f.slot f.mcs f.cp p)

/-- The payload symbols of a frame the module sends (R124): none where it would need more than 512. -/
def State.txNsym (s : State) (f : Frame) : Option Nat :=
  frameNsym f.mcs (s.bodyLen f) ((s.air f.fg).dataCount f.cgFirst f.cgLast) (bodySec f) fun p => loadsSum (s.txLoads f p)

/-- The plaintext of a frame the module sends: bytes no command names (log entry 183). -/
def State.txPlain (s : State) (f : Frame) : List Nat := (List.range (s.bodyLen f)).map fun i => (Config.payloadByte f.text i).toNat

/-- The key a frame is sealed with: the group key of a broadcast, else the session key of its node. -/
def State.txKey (s : State) (f : Frame) : List Byte :=
  if f.dst = 0xFFFF then Config.groupKey (s.mac.gkey.getD 0)
  else match s.node f.dst with
    | none => []
    | some n => let k := n.sess.getD (0, 0); Config.sessionKey n.eui k.1 k.2 (s.netId f.fg) f.dst

/-- P, CRC, and where the header says SEC the ciphertext of both with its tag (*Transmit order of the payload*). Every transmission of one frame
gives the same bytes: nothing here depends on TXN, MCS, allocation or start (R134). -/
def State.txText (s : State) (f : Frame) : List Nat :=
  let h := s.txHeader f
  let p := withCheck (s.txPlain f)
  if h.sec then asNats (Config.gcmSeal (s.txKey f) (asBytes (nonceOf (s.netId f.fg) h)) (asBytes (aadOf h)) (asBytes p) 16) else p

/-- Bit `i` of codeword `m` of a text at a code rate: the text's bits, least significant first, zero bits behind them (R122), and the parity of the
codeword. -/
def codeBit (rate : Nat) (text : List Nat) (m i : Nat) : Bool :=
  let k := infoBits rate
  let info := (List.range k).map fun j => (text.flatMap lsbBits).getD (m * k + j) false
  if i < k then info.getD i false else (Config.ldpcParity rate info).getD (i - k) false

/-- The bit at position `p` of a frame: interleaved and scrambled; a pad carries the scrambler's continuing output (R121, R125). -/
def posBit (h : Header) (text : List Nat) (p : Nat) : Bool :=
  let ncw := codewords h.len (codeRate h.mcs) h.sec
  let key := fun n => (scrambler (scrambleSeed h.seq) (n + 1)).getD n false
  match frameAt ncw p with
  | some x => codeBit (codeRate h.mcs) text x.1 x.2 != key (x.1 * 1944 + x.2)
  | none => key p

/-- The loads of each payload symbol of a frame. -/
abbrev Loads := Nat → List (List (Nat × Nat))

/-- The bits on carrier `k` of stream `i` in payload symbol `p`: the levels of its loading, or the copy of a robust mode (R129). -/
def carrierBits (a : Air) (h : Header) (text : List Nat) (loads : Loads) (p i k : Nat) : List Bool :=
  if h.mcs ≤ 3 then
    let data := a.data h.cgFirst h.cgLast (symbolNo (extendedMcs h.mcs) false p)
    let nd := data.length
    let ne := nd / min (repetition h.mcs) 4
    let u := p / repeatT h.mcs
    let here := (p, data.idxOf k)
    match (List.range (min (repetition h.mcs) 4)).findSome? fun c =>
        (List.range ne).find? fun d => copyPlace nd h.mcs u d c (p % repeatT h.mcs) == here with
    | some d => [posBit h text (u * ne + d)]
    | none => []
  else
    let first := ((List.range p).map fun q => loadsSum (loads q)).sum
    (((fillOrder (loads p)).zipIdx).filter fun x => x.1.2.1 == i && x.1.2.2 == k).map fun x => posBit h text (first + x.2)

/-- A carrier of payload symbol `p` on stream `i`: pilot, data value, or zero outside the allocation; of two streams each is silent on the other's
pilots (R103, R118, R119). -/
def payloadTone (a : Air) (h : Header) (text : List Nat) (loads : Loads) (p i k : Nat) : Tone :=
  let no := symbolNo (extendedMcs h.mcs) (twoStreams h.mcs) p
  if a.carries k = false ∨ a.group k < h.cgFirst ∨ h.cgLast < a.group k then .off
  else if a.pilot no k then (if twoStreams h.mcs && !a.streamPilot i k then .off else pilotTone no k)
  else qam (carrierBits a h text loads p i k)

/-- The parts of a frame. -/
inductive FramePart where
  | preamble | sync | header (phys : Nat) | training (t : Nat) | payload (p : Nat) | tail (q : Nat)
  deriving DecidableEq, Repr

/-- What carrier `k` carries on the `i`-th of a frame's ports, and the cyclic shift in samples there: preamble, sync and header on every port, the
second and third shifted (R119, R120); stream `i` of two on its own port, on a line link shifted there too (R209). -/
def partTone (a : Air) (h : Header) (word : BitVec 64) (text : List Nat) (loads : Loads) (ports i : Nat) (part : FramePart) (k : Nat) : Tone × Nat :=
  let two := twoStreams h.mcs
  let shift := portShift a.line i
  let own := if a.line then shift else 0
  match part with
  | .preamble => (a.preamble k, shift)
  | .sync => (a.sync word k, shift)
  | .header n => (a.header h (extendedMcs h.mcs) n k, shift)
  | .training t => (if two then a.training h.cgFirst h.cgLast ((if extendedMcs h.mcs then 32 else 2) + t) t i k else .off, own)
  | .payload p => if two then (payloadTone a h text loads p i k, own) else (payloadTone a h text loads p 0 k, shift)
  | .tail q => (a.tail h.cgFirst h.cgLast (h.nsym + 1) q (List.range ports) i k, 0)

/-- What carrier `k` carries on the `i`-th port of a frame the module sends in a feeder group; a discovery beacon takes the seed 0. -/
def State.portTone (s : State) (f : Frame) (i : Nat) (part : FramePart) (k : Nat) : Tone × Nat :=
  let seed := match f.body with
    | .discBeacon _ _ _ _ => 0
    | _ => s.seed f.fg
  let h := s.txHeader f
  partTone (s.air f.fg) h (syncWord seed h.cls (extendedMcs f.mcs)) (s.txText f) (s.txLoads f) f.ports.length i part k

/-! ## Frames on line links (R206 to R210) -/

/-- The ports an FLP-B frame of an MCS goes out on: the two ports of its link for two streams, which a link of one port cannot send (R209). -/
def State.lineFramePorts (s : State) (link mcs : Nat) : Option (List Nat) :=
  let l := s.linkPorts link
  if twoStreams mcs && l.length != 2 then none else some l

/-- The text of an FLP-B frame: payload and CRC, sealed under the link key, with GNID and the 16-bit SRC in nonce and additional data (R208). -/
def State.lineText (s : State) (link : Nat) (h : Header) (plain : List Nat) : List Nat :=
  let p := withCheck plain
  if h.sec then asNats (Config.gcmSeal ((Tab.get (fun _ => none) s.gl.keys ((4 + link) * 1024 + h.dst % 1024)).getD []) (asBytes (nonceOf (s.netId (8 + link)) h)) (asBytes (aadOf h)) (asBytes p) 16) else p

/-- What carrier `k` carries on the `i`-th port of an FLP-B frame with a header and a payload, and the cyclic shift there: 64 samples within each
symbol body on the second port; MIMO training and pilots as on FLP-A (R209). One slot, no robust mode (R208, R210). -/
def State.lineTone (s : State) (link : Nat) (h : Header) (plain : List Nat) (i : Nat) (part : FramePart) (k : Nat) : Tone × Nat :=
  let a := s.air (8 + link)
  partTone a h (syncWord (s.seed (8 + link)) h.cls false) (s.lineText link h plain)
    (fun p => symbolLoads h.mcs none (a.data h.cgFirst h.cgLast (symbolNo false (twoStreams h.mcs) p)) 0) (s.linkPorts link).length i part k

/-- Samples of a frame the module sends, at the rate of its path; a wake pattern lasts 32 ms and goes WAKE_REP times back to back (R268, R269). -/
def State.txSamples (s : State) (f : Frame) : Nat :=
  if isWake f.body then 64000 * s.fld F.MAC_SLEEPCFG_WAKE_REP 0
  else frameSamples (decide (f.path = 2)) (extendedMcs f.mcs) f.cp (twoStreams f.mcs) (f.nsym + match f.body with
    | .sounding _ n => n
    | _ => 0)

/-! ## Sweeps (R218, R300) -/

/-- Whether carrier `k` of 15 625 Hz spacing may carry a low-voltage sweep under a band setting (R300): inside the permitted band and, under band
partition, 3 kHz clear of the standard band. -/
def sweepCarrier (b : Band) (k : Nat) : Bool :=
  let f := 15625 * k
  match profileBand b.profile with
  | none => false
  | some e => decide (100 * e.1 ≤ f ∧ f ≤ 100 * e.2) && (b.part == 1 || match bandEdges b with
    | none => true
    | some x => decide (f + 3000 ≤ x.1) || decide (x.2 + 3000 ≤ f))

/-- The sweep set of port `p` (R300): on an MV port the unnotched FLP-B carriers, on a low-voltage port those of carriers 1 to 31 that the band setting
in force leaves. -/
def State.sweepSet (s : State) (p : Nat) : List Nat :=
  if s.portRole p = 4 then (s.air 8).carriers 0 60
  else (List.range 32).filter fun k => k != 0 && sweepCarrier (bandOf (s.bandInForce (s.portFg p))) k

/-- The symbols of a sweep (MDM_FMCFG.NSW), each with the long prefix of FLP-B. -/
def State.sweepSymbols (s : State) : Nat := [16, 32, 64].getD (s.fld F.MDM_FMCFG_NSW 0) 64

/-- What carrier `k` carries in symbol `q` of a sweep of port `p`: the pilot value for s = q at unit amplitude on the sweep set, else nothing. -/
def State.sweepTone (s : State) (p q k : Nat) : Tone := if (s.sweepSet p).contains k then unitTone q k else .off

/-- The span in ns of a sweep that ends now, 80 µs a symbol, with the 50 µs after it (R80). -/
def State.sweepSpan (s : State) (fg : Nat) : OwnSpan :=
  let t := stampNs s.now
  { fg := fg, since := t - 80000 * s.sweepSymbols, until_ := some (t + 50000) }

end Sys2Proof.Machine
end

