-- ==== Sys2Proof/Machine/Measure.lean ====
section
/-! DEFINITION. What an accepted reception changes in its neighbour's channel record (R174 to R179, R195): the measurements of its symbols by slot,
the erased-symbol ratio, the MIMO estimate. SNR is in 1/32 dB. -/

namespace Sys2Proof.Machine

open Sys2Proof

/-- `(a + b / 2^n)` rounded either way where it is not exact. -/
def stepTowards (a b : Int) (n : Nat) (up : Bool) : Int :=
  let q := (a * 2 ^ n + b) / 2 ^ n
  if (a * 2 ^ n + b) % 2 ^ n = 0 then q else if up then q + 1 else q

/-- The slot entry after a measurement `m` (R177). -/
def measured (c : Nat) (drop : Bool) (avg : Nat) (up : Bool) (old : Nat × Int) (m : Int) : Int :=
  if c = 0 ∨ old.1 = 7 ∨ drop = true then m else stepTowards old.2 (m - old.2) avg up

/-- LOAD of an SNR. -/
def State.loadCode (s : State) (snr : Int) : Nat := loadingOf (Config.recordRate % 4) s.margin snr

/-- The measurements of one slot entered; an SNR field has 13 bits (R172). -/
def State.enterMeas (s : State) (r : ChanRec) (c : Nat) (drop : Bool) (j : Nat) : List Meas → ChanRec
  | [] => r
  | m :: t =>
    let v := measured c drop (s.fld F.MDM_MAPCFG_AVG 0) (Config.roundUp s.free (slotKey j m.carrier)) (recSlot r j m.carrier) m.snr
    let w := max (-4096) (min 4095 v)
    s.enterMeas { r with slots := Tab.set (fun _ => (7, 0)) r.slots (slotKey j m.carrier) (s.loadCode w, w) } c drop j t

/-- ERAS after the symbols of one slot: an average with weight 1/32 (R175) (log entry 42). -/
def State.enterEras (s : State) (e i : Nat) : List Bool → Nat
  | [] => e
  | b :: t =>
    let v := stepTowards e ((if b then 256 else 0) - (e : Int)) 5 (Config.roundUp s.free (65536 + i))
    s.enterEras (min v.toNat 255) (i + 1) t

/-- Whether a slot's measurements show a fast drop: more than a quarter of its measured carriers 6 dB below (R177). -/
def fastDrop (r : ChanRec) (j : Nat) (ms : List Meas) : Bool :=
  decide (ms.length < 4 * (ms.filter fun m => (recSlot r j m.carrier).1 != 7 && decide (m.snr < (recSlot r j m.carrier).2 - 192)).length)

/-- The payload and tail symbols of a frame that lie in slot `j` by their centres (R100). -/
def State.symbolsIn (s : State) (x : Recep) (f : RxFrame) (j : Nat) : List Nat :=
  (List.range (f.nsym + 1 + if f.cls = 2 then f.nsnd else 0)).filter fun p => s.rxSlot x f p == j

/-- The measurements of slot `j` that count: those of carriers that some symbol of the slot carries unerased (R175, R177). -/
def State.measIn (s : State) (x : Recep) (f : RxFrame) (j : Nat) : List Meas :=
  let ps := s.symbolsIn x f j
  f.meas.filter fun m => m.slot == j && ps.any fun p =>
    ((s.air x.fg).data f.cgFirst f.cgLast (rxSymbolNo f p)).contains m.carrier && !s.carrierErased x f p m.carrier

/-- One slot of a record updated from a frame, by its line time (R175 to R177). -/
def State.updateSlot (s : State) (x : Recep) (r : ChanRec) (f : RxFrame) (j : Nat) : ChanRec :=
  let ms := s.measIn x f j
  let er := (s.symbolsIn x f j).map (s.anyErased x f)
  if (Tab.get (fun _ => 0) r.stamp j) * 1000000000 < stampNs x.start ∧ (ms ≠ [] ∨ er ≠ []) then
    let c := recConf r j
    let r1 := s.enterMeas r c (fastDrop r j ms) j ms
    let c1 := if ms = [] then c else min 255 (c + if f.cls = 2 then 32 else 16)
    { r1 with
      conf := Tab.set (fun _ => 0) r1.conf j c1
      stamp := Tab.set (fun _ => 0) r1.stamp j x.start.s
      aged := Tab.set (fun _ => 0) r1.aged j s.now.s
      eras := Tab.set (fun _ => 0) r1.eras j (s.enterEras (recEras r j) (j * 512) er)
      weakSince := if s.confMin ≤ c1 then Tab.set (fun _ => 0) r1.weakSince j 0
        else if s.confMin ≤ c then Tab.set (fun _ => 0) r1.weakSince j s.now.s else r1.weakSince }
  else r

/-- Slots of a list updated in order. -/
def State.updateSlots (s : State) (x : Recep) (f : RxFrame) : ChanRec → List Nat → ChanRec
  | r, [] => r
  | r, j :: t => s.updateSlots x f (s.updateSlot x r f j) t

/-! ## MIMO (R179, R195) -/

/-- The rows a frame refreshes: the pairs a sounding sounds, both rows of a two-stream frame, TXPAIR0 of any other; none of one sent on three
phases (log entry 186). -/
def mimoRows (r : ChanRec) (f : RxFrame) : List Nat :=
  if f.threePhase then []
  else if f.cls = 2 then (List.range 3).filter fun t => f.txp.testBit t
  else if twoStreams f.mcs then [r.txp0, r.txp1] else [r.txp0]

/-- The power of a row of an estimate over all carriers and inputs. -/
def pairPower (m : Tab (Int × Int)) (t : Nat) : Int :=
  ((m.filter fun e => e.1 % 16 / 4 == t).map fun e => e.2.1 * e.2.1 + e.2.2 * e.2.2).sum

/-- The strongest row of an estimate; the lowest pair on a tie. -/
def strongestRow (m : Tab (Int × Int)) : Nat :=
  [1, 2].foldl (fun b t => if pairPower m b < pairPower m t then t else b) 0

/-- The MIMO rows a frame refreshes replaced, with MCONF; three refreshes in confidence show the strongest row (R179, R195). -/
def State.refreshMimo (s : State) (x : Recep) (r : ChanRec) (f : RxFrame) : ChanRec :=
  match mimoRows r f with
  | [] => r
  | rows =>
    let conf := min 255 (r.mconf + if f.cls = 2 then 32 else 16)
    let m := (f.mimo.filter fun e => rows.contains (e.1 % 16 / 4)).foldl (fun t e => Tab.set (fun _ => (0, 0)) t e.1 e.2) r.mimo
    { r with
      mimo := m
      mconf := conf
      mstamp := x.start.s
      aged := Tab.set (fun _ => 0) r.aged 12 s.now.s
      strongest := if s.confMin ≤ conf then (r.strongest ++ [strongestRow m]).drop (r.strongest.length - 2) else [] }

/-- CHANNEL_RECORD_UPDATE and what follows (R174 to R179, R195): an OK frame or an authenticated sounding from a tracked
neighbour in the record's group. -/
def State.updateRec (s : State) (x : Recep) (f : RxFrame) : State :=
  match s.recOf f.src with
  | none => s
  | some p =>
    if p.2.fg = x.fg then
      let r := s.updateSlots x f (s.refreshMimo x p.2 f) (List.range 12)
      let r1 := { r with asked := r.asked || (f.cls == 2 && f.req.testBit 1) }
      let s1 := s.drew.setRec p.1 (some r1)
      if r1.strongest.length = 3 ∧ r1.strongest.all (fun t => t != r1.txp0) = true then s1.phaseChange p.1 r1 else s1
    else s

/-! ## Transmit pairs (R193) -/

/-- What the module's line `i` (0 to 2) reaches of a node, from the transpose of the uplink estimate: the power of column `i` over the rows. -/
def columnPower (m : Tab (Int × Int)) (i : Nat) : Int :=
  ((m.filter fun e => e.1 % 4 == i).map fun e => e.2.1 * e.2.1 + e.2.2 * e.2.2).sum

/-- The line of a list that reaches a node best, the first of the list on a tie; and the first `n` lines in falling order. -/
def bestLine (m : Tab (Int × Int)) (x : Nat) (l : List Nat) : Nat := l.foldl (fun b i => if columnPower m b < columnPower m i then i else b) x

def bestLines (m : Tab (Int × Int)) : Nat → List Nat → List Nat
  | 0, _ => []
  | _, [] => []
  | n + 1, x :: t => let b := bestLine m x t; b :: bestLines m n ((x :: t).erase b)

end Sys2Proof.Machine
end

