-- ==== Sys2Proof/Machine/Cells.lean ====
section
/-! DEFINITION. The allocation map of a superframe (R228, R246 to R249, R251): which frames a cell may carry. -/

namespace Sys2Proof.Machine

open Sys2Proof

/-! ## Map entries (*Map entry*) -/

/-- A map entry's fields. -/
structure Entry where
  cgFirst : Nat
  cgLast : Nat
  slots : Nat
  kind : Nat
  cper : Nat
  cph : Nat
  deriving DecidableEq, Repr

/-- The fields of a 48-bit entry. -/
def entryOf (v : Nat) : Entry :=
  { cgFirst := v / 2 ^ 42 % 64, cgLast := v / 2 ^ 36 % 64, slots := v / 2 ^ 24 % 4096, kind := v / 2 ^ 22 % 4, cper := v / 2 ^ 18 % 16,
    cph := v / 2 ^ 10 % 256 }

/-- Whether an entry counts (R246). -/
def Entry.valid (e : Entry) : Bool := decide (e.cgFirst ≤ e.cgLast ∧ e.cper ≤ 8 ∧ e.cph < 2 ^ e.cper)

/-- Whether an entry covers cell (g, k) of cycle j, the beacon span having `nb` cycles (R246). -/
def Entry.covers (e : Entry) (nb j g k : Nat) : Bool :=
  e.valid && decide (e.cgFirst ≤ g ∧ g ≤ e.cgLast ∧ nb ≤ j ∧ j % 2 ^ e.cper = e.cph) && e.slots.testBit k

/-- The kind of a cell: that of the last entry that covers it; none for a scheduled cell (R246). -/
def cellKind (entries : List Nat) (nb j g k : Nat) : Option Nat :=
  (((entries.map entryOf).filter fun e => e.covers nb j g k).getLast?).map Entry.kind

/-- Whether a span of `len` ns from `at_` ns after BTIME lies inside a reserved period (OFFSET, LENGTH, REPEAT in µs) (R228). -/
def inPeriod (p : Nat × Nat × Nat) (at_ len : Nat) : Bool :=
  decide (1000 * p.1 ≤ at_ ∧ (at_ - 1000 * p.1) % max 1 (1000 * p.2.2) + len ≤ 1000 * p.2.1)

/-- The kind of cell (g, k) of cycle j of the superframe in progress: under time partition a cell outside the reserved periods is quiet (R247). -/
def State.kindAt (s : State) (fg j g k : Nat) : Option Nat :=
  let n := 12 * j + k
  let at_ := slotNs (s.mains fg) n
  if (bandOf (s.bandInForce fg)).part = 1 ∧
      inPeriod (Tab.get (fun _ => (0, 0, 0)) s.mac.tpart fg) at_ (slotNs (s.mains fg) (n + 1) - at_) = false then some 3
  else cellKind (Tab.get (fun _ => []) s.mac.entries fg) (s.nbNow fg) j g k

/-! ## Frames in cells (R239, R247, R248) -/

/-- Whether a frame goes in coordinator broadcast cells: broadcast frames and soundings (R247). -/
def goesBroadcast (f : Frame) : Bool := f.dst == 0xFFFF || match f.body with
  | .sounding _ _ => true
  | _ => false

/-- The slots from slot `a` to slot `b` of a superframe, as (cycle, slot). -/
def slotsFrom (a b : Nat) : List (Nat × Nat) := (List.range (b + 1 - a)).map fun i => ((a + i) / 12, (a + i) % 12)

/-- The length of a frame in ns. -/
def State.txNs (s : State) (f : Frame) : Nat := s.txSamples f * 500

/-- Whether the cells allow a frame with its ports, path and start set: it lies between the beacon spans, in no quiet cell, a broadcast frame or a
sounding in coordinator broadcast cells, any other frame in scheduled cells; under time partition it starts and ends inside a reserved period. -/
def State.cellsAllow (s : State) (f : Frame) : Bool :=
  match s.superframe f.fg with
  | none => true
  | some sf =>
    let mhz := s.mains f.fg
    let j := (f.cycle + 2 ^ 40 - sf.1) % 2 ^ 40
    let first := 12 * j + f.slot
    let tick : Nat → Nat := fun ns => first + 12 * mhz * ns / 10 ^ 12
    let len := s.txNs f
    let pay := payloadNs false (extendedMcs f.mcs) f.cp (twoStreams f.mcs)
    let centres := (List.range f.nsym).map fun p => tick (symbolCentre false (extendedMcs f.mcs) f.cp (twoStreams f.mcs) p)
    let head := slotsFrom first (tick pay)
    let all := slotsFrom first (tick (len - 1))
    let mask := (List.range 62).filter fun g => decide (s.fld F.MDM_BANDSTAT_MASK_LO f.fg ≤ g ∧ g ≤ s.fld F.MDM_BANDSTAT_MASK_HI f.fg)
    let own := mask.filter fun g => decide (f.cgFirst ≤ g ∧ g ≤ f.cgLast)
    decide (s.nbNow f.fg ≤ j ∧ tick (len - 1) < 12 * sf.2) &&
    head.all (fun c => mask.all fun g => s.kindAt f.fg c.1 g c.2 != some 3) &&
    all.all (fun c => own.all fun g => s.kindAt f.fg c.1 g c.2 != some 3) &&
    centres.all (fun n => own.all fun g => s.kindAt f.fg (n / 12) g (n % 12) == if goesBroadcast f then some 2 else none) &&
    ((bandOf (s.bandInForce f.fg)).part != 1 ||
      inPeriod (Tab.get (fun _ => (0, 0, 0)) s.mac.tpart f.fg) (slotNs mhz first) len)

/-! ## Frames beside one another (R248, R249, R251) -/

/-- The slot of a cycle counted from 2^39 cycles before cycle `base`, so that cycles past 2^40 count on. -/
def slotFrom (base cyc slot : Nat) : Nat := 12 * ((cyc + 2 ^ 39 + 2 ^ 40 - base) % 2 ^ 40) + slot

/-- Where a frame of the module lies, its slots counted from `base`. -/
def State.placeFrame (s : State) (base : Nat) (f : Frame) : Placed :=
  let first := slotFrom base f.cycle f.slot
  let tick : Nat → Nat := fun ns => first + 12 * s.mains f.fg * ns / 10 ^ 12
  { first := first, head := tick (headNs false (extendedMcs f.mcs) - 1), last := tick (s.txNs f - 1), lo := f.cgFirst, hi := f.cgLast }

/-- Whether a frame reserves an ACK cell (R251). -/
def reservesAck (f : Frame) : Bool := f.ackReq && f.dst != 0xFFFF

/-- The first slot of the ACK cell of a placed frame: slot 0 of the second cycle after that of its last sample; the cell lasts 36 slots (R251). -/
def Placed.ackCell (p : Placed) : Nat := 12 * (p.last / 12 + 2)

/-- Whether a frame meets the ACK cell of another. -/
def Placed.inAck (p q : Placed) : Bool := decide (p.first < q.ackCell + 36 ∧ q.ackCell ≤ p.last)

/-- The cycles since that of the last sample of a sent frame of a group. -/
def State.sinceSent (s : State) (f : Frame) : Nat :=
  let e := (f.cycle + (f.slot + 12 * s.mains f.fg * (s.txNs f - 1) / 10 ^ 12) / 12) % 2 ^ 40
  ((s.tracker f.fg).cyc + 2 ^ 40 - e) % 2 ^ 40

/-- Whether a frame goes beside the others of its group: one downlink frame at a time, none in an ACK cell, two frames with ACK cells ending at least
three cycles apart (R249, R251), and beside the frames under the grants in force (R248, R249). What a frame under a grant does in an ACK cell is open
(log entry 198). -/
def State.lineFree (s : State) (f : Frame) : Bool :=
  let p := s.placeFrame f.cycle f
  let own := (s.lin.frames.filter fun g => g.fg == f.fg && g.id != f.id && !isWake g.body &&
    (g.state == FrameState.scheduled || g.state == FrameState.running || g.state == FrameState.sent)).map fun g => (g, s.placeFrame f.cycle g)
  own.all (fun x => (x.1.state == FrameState.sent || !p.meets x.2) && !(reservesAck x.1 && p.inAck x.2) &&
    !(reservesAck f && x.1.state != FrameState.sent && x.2.inAck p) &&
    !(reservesAck f && reservesAck x.1 && decide (p.last / 12 < x.2.last / 12 + 3 ∧ x.2.last / 12 < p.last / 12 + 3))) &&
  match s.superframe f.fg with
  | none => true
  | some sf => s.placesFit f.fg [s.placeFrame (sf.1 + 2 ^ 39) f] (s.placesOf f.fg (inForceAt (s.reg .MAC_BNUM f.fg).toNat))

/-! ## Ratings (R194) -/

/-- The rating of a cell under a map: the sum of the loadings of its group's data carriers in the slot, over both streams. -/
def cellRating (m : ToneMap) (g k : Nat) : Nat :=
  ((List.range 16).map fun i => mapBits m k 0 (7 + 16 * g + i) + mapBits m k 1 (7 + 16 * g + i)).sum

/-- The rating of a range of groups in a slot. -/
def rangeRating (m : ToneMap) (cgFirst cgLast k : Nat) : Nat :=
  ((List.range (cgLast + 1 - cgFirst)).map fun i => cellRating m (cgFirst + i) k).sum

end Sys2Proof.Machine
end

