-- ==== Sys2Proof/Machine/GuyBase.lean ====
section
/-! DEFINITION. The ground of Guyline (chapter 15): links, routes, sending frames and control messages (R414, R424, R425). -/

namespace Sys2Proof.Machine

open Sys2Proof

/-- GL_STAT.STATE: 0 disabled, 1 joining, 2 root or PARENTED, 3 NO_PARENT. -/
def State.glState (s : State) : Nat := s.fld F.GL_STAT_STATE 0
def State.isRoot (s : State) : Bool := s.flag F.GL_CFG_ROOT 0

/-- The state of link `l` as GL_LINK reports it. -/
def State.link (s : State) (l : Nat) : Nat := Tab.get (fun _ => 0) s.gl.states l

def State.setLink (s : State) (l st : Nat) : State :=
  { s with gl := { s.gl with states := Tab.set (fun _ => 0) s.gl.states l st } }

/-- Whether a link carries frames: up to the parent or to a child. -/
def State.linkActive (s : State) (l : Nat) : Bool := s.link l == 2 || s.link l == 3

/-- The modules at the far end of a link, and one of them by index. -/
def State.peersOn (s : State) (l : Nat) : List GPeer := (s.gl.peers.filter fun p => p.1 == l).map Prod.snd
def State.peer (s : State) (l index : Nat) : Option GPeer := (s.peersOn l).find? fun p => p.index == index

/-- A far end noted: a SerDes link has one, a line link one for each index. -/
def State.setPeer (s : State) (l : Nat) (p : GPeer) : State :=
  { s with gl := { s.gl with peers := (s.gl.peers.filter fun q => q.1 != l || (decide (4 ≤ l) && q.2.index != p.index)) ++ [(l, p)] } }

/-- The far ends of a link forgotten. -/
def State.dropPeers (s : State) (l : Nat) : State := { s with gl := { s.gl with peers := s.gl.peers.filter fun q => q.1 != l } }

/-- The link toward the parent, while there is one. -/
def State.parentLink (s : State) : Option Nat := (List.range 8).find? fun l => s.link l == 2

/-- The link toward a module (R424): the child link inside the subtree, else the link toward the root. -/
def State.routeTo (s : State) (index : Nat) : Option Nat :=
  match Tab.get (fun _ => 0) s.gl.routes index with
  | 0 => s.parentLink
  | l + 1 => if s.linkActive l then some l else none

/-! ## Keys (R417) -/

/-- A number in `n` bytes, most significant first. -/
def msbBytes (n v : Nat) : List Byte := (natLe n v).reverse

/-- GNID: NETNUM in bits 39:10. -/
def State.gnid (s : State) : Nat := s.fld F.MAC_NETCFG_NETNUM 0 * 1024

/-- The network key, unwrapped under the key-encryption key; empty where it is not held. -/
def State.netKeyBytes (s : State) : List Byte := (s.sec.kek.bind fun k => Config.unwrap k s.sec.lcRec.net).getD []

/-- The info string of a link key: "Guyline link", GNID, the parent's index and the child's. -/
def linkInfo (gnid parent child : Nat) : List Byte :=
  ([71, 117, 121, 108, 105, 110, 101, 32, 108, 105, 110, 107].map (BitVec.ofNat 8)) ++ msbBytes 5 gnid ++ msbBytes 2 parent ++ msbBytes 2 child

/-- The key of a link with the far end `p`, derived from the two HELLO nonces, the parent's first; `above` says that the far end is the parent. -/
def State.derivedKey (s : State) (link : Nat) (p : GPeer) (above : Bool) : List Byte :=
  let own := Tab.get (fun _ => 0) s.gl.nonces link
  let ends := if above then (p.nonce, own, p.index, s.moduleIndex) else (own, p.nonce, s.moduleIndex, p.index)
  Config.hkdf s.netKeyBytes (msbBytes 16 ends.1 ++ msbBytes 16 ends.2.1) (linkInfo s.gnid ends.2.2.1 ends.2.2.2)

/-- The key of a link with a far end, where it has been derived. -/
def State.glKey (s : State) (link index : Nat) : Option (List Byte) := Tab.get (fun _ => none) s.gl.keys (link * 1024 + index)

/-- The key of a link derived at join. -/
def State.keyLink (s : State) (link : Nat) (p : GPeer) (above : Bool) : State :=
  { s with gl := { s.gl with keys := Tab.set (fun _ => none) s.gl.keys (link * 1024 + p.index) (some (s.derivedKey link p above)) } }

/-- The keys of a link, one for each far end. -/
def State.keysOn (s : State) (link : Nat) : List (List Byte) := (s.peersOn link).filterMap fun p => s.glKey link p.index

/-- Bytes 0 to 15 of a Guyline frame with a payload of `len` bytes (*Guyline frame*), the additional data of its tag. -/
def glHead (f : GFrame) (len : Nat) : List Byte :=
  [BitVec.ofNat 8 f.typ, BitVec.ofNat 8 f.hops] ++ msbBytes 2 f.src ++ msbBytes 2 f.dst ++ msbBytes 2 len ++ msbBytes 4 f.lseq ++ msbBytes 4 0

/-- The GCM nonce of a frame that module `sender` sends: GNID, the sender's index, LSEQ, TYPE. -/
def State.glNonce (s : State) (sender : Nat) (f : GFrame) : List Byte :=
  msbBytes 5 s.gnid ++ msbBytes 2 sender ++ msbBytes 4 f.lseq ++ msbBytes 1 f.typ

/-- A frame with a payload as it leaves on a SerDes link under a key: header, text, tag (R417). -/
def State.glWire (s : State) (key : List Byte) (f : GFrame) (payload : List Byte) : List Byte :=
  glHead f payload.length ++ Config.gcmSeal key (s.glNonce s.moduleIndex f) (glHead f payload.length) payload 16

/-- The next LSEQ of a link. -/
def State.lseqOf (s : State) (l : Nat) : Nat := Tab.get (fun _ => 0) s.gl.lseq l

/-- A checkpoint of the links' counters started when one reaches C + 2^16 − 256 (R259). -/
def State.ckLinks (s : State) (l : Nat) : State :=
  if Tab.get (fun _ => 0) s.mac.glC l + seqMark ≤ s.lseqOf l ∧ s.mac.ckGl = false then
    let c := (List.range 8).map fun i => max (Tab.get (fun _ => 0) s.mac.glC i) (if i = l then s.lseqOf l + 256 else 0)
    let s1 := s.submit 3 0 0 (.checkpoint s.epoch s.mac.bctrC s.bnumCs c []) 1
    { s1 with mac := { s1.mac with ckGl := true } }
  else s

/-- A message's code and what its length depends on (*Control messages*). -/
def glSize (m : GMsg) : Nat × Nat :=
  match m with
  | .hello _ _ _ _ _ => (0x01, 0)
  | .joinReq _ _ => (0x02, 0)
  | .joinAck _ a _ => (0x03, a.length)
  | .joinRefuse _ _ _ => (0x04, 0)
  | .leave => (0x05, 0)
  | .route a r _ => (0x06, a.length + r.length)
  | .offer _ m e _ => (0x10, m.length * 8192 + e.length)
  | .accept _ _ => (0x11, 0)
  | .commit _ _ => (0x12, 0)
  | .abort _ => (0x13, 0)
  | .query _ => (0x14, 0)
  | .answer _ _ => (0x14, 1)
  | .snr r => (0x15, r.length)
  | .ack _ => (0x16, 0)
  | .traffic _ _ _ len _ => (0x100, len)
  | .time _ _ _ x => (0x200, x.elim 0 fun _ => 1)
  | .lineBeacon w => (0x300, w.length)

/-- Credits of 256 bytes a frame needs on a SerDes link: for its header of 16 bytes, its payload of at most 9 216, whose length the spec does not give
for every message, and its tag of 16 (R414) (log entry 193). -/
def glNeed (f : GFrame) : Nat := (32 + min 9216 (Config.glBytes (glSize f.msg).1 (glSize f.msg).2) + 255) / 256

/-- The credits held on a SerDes link: those of 64 KiB once it has come up. -/
def State.glCredits (s : State) (l : Nat) : Nat := Tab.get (fun _ => 256) s.gl.credits l

/-- The frames that wait on a SerDes link. -/
def State.glQueued (s : State) (l : Nat) : List GFrame := Tab.get (fun _ => []) s.gl.queued l

def State.setGlQueue (s : State) (l credits : Nat) (q : List GFrame) : State :=
  { s with gl := { s.gl with credits := Tab.set (fun _ => 256) s.gl.credits l credits, queued := Tab.set (fun _ => []) s.gl.queued l q } }

/-- The priority of a frame on a link: time, then control, then node traffic (R414). -/
def glRank (f : GFrame) : Nat := if f.typ = 2 then 0 else if f.typ = 0 then 2 else 1

/-- A frame put behind those of its priority and higher. -/
def glInsert (f : GFrame) : List GFrame → List GFrame
  | [] => [f]
  | g :: t => if glRank g ≤ glRank f then g :: glInsert f t else f :: g :: t

/-- A frame that leaves on a link with the next LSEQ of that link. -/
def State.glSend (s : State) (l : Nat) (f : GFrame) : State :=
  let n := s.lseqOf l
  ({ s with gl := { s.gl with out := s.gl.out ++ [(l, { f with lseq := n })],
                              lseq := Tab.set (fun _ => 0) s.gl.lseq l (n + 1) } }).ckLinks l

/-- The waiting frames of a SerDes link sent while its credits hold for the whole of the next one (R414), with fuel. -/
def State.glFlush (s : State) (l : Nat) : Nat → State
  | 0 => s
  | n + 1 => match s.glQueued l with
    | [] => s
    | f :: t =>
      if glNeed f ≤ s.glCredits l then ((s.setGlQueue l (s.glCredits l - glNeed f) t).glSend l f).glFlush l n else s

/-- A frame sent on a link: on a line link at once, on a SerDes link in its turn and while there are credits for it (R414). -/
def State.glEmit (s : State) (l : Nat) (f : GFrame) : State :=
  if 4 ≤ l then s.glSend l f
  else
    let q := glInsert f (s.glQueued l)
    (s.setGlQueue l (s.glCredits l) q).glFlush l q.length

/-- Credits the far end of a SerDes link grants (R414) (log entry 193). -/
def State.glGrant (s : State) (l n : Nat) : State :=
  if l < 4 then (s.setGlQueue l (min 256 (s.glCredits l + n)) (s.glQueued l)).glFlush l (s.glQueued l).length else s

/-- A frame sent on every link of a list. -/
def State.glEmitAll (s : State) (f : GFrame) : List Nat → State
  | [] => s
  | l :: t => (s.glEmit l f).glEmitAll f t

/-- A frame dropped and counted (R417, R424). -/
def State.glDrop (s : State) : State := s.bumpFld F.GL_DROP_COUNT 0 1

/-- A frame sent or forwarded on its route (R424): on every active link but the one it came from for 0xFFFF; held where no
route is known, with LINK_DOWN set. -/
def State.glRoute (s : State) (from_ : Option Nat) (f : GFrame) : State :=
  if f.dst = 0xFFFF then s.glEmitAll f ((List.range 8).filter fun l => s.linkActive l && some l != from_)
  else match s.routeTo f.dst with
    | some l => s.glEmit l f
    | none =>
      ({ s with gl := { s.gl with held := s.gl.held ++ [(f, s.now)],
                                  lost := if s.gl.lost.contains f.dst then s.gl.lost else s.gl.lost ++ [f.dst] } }).setFld
        F.GL_EVT_LINK_DOWN 0 1

/-- The number of the next control message taken. -/
def State.takeMseq (s : State) : State := { s with gl := { s.gl with nextMseq := s.gl.nextMseq + 1 } }

/-- A control message kept until it is acknowledged. -/
def State.keepMsg (s : State) (link : Option Nat) (dst : Nat) (m : GMsg) : State :=
  { s with gl := { s.gl with unacked := s.gl.unacked ++
      [{ mseq := s.gl.nextMseq, link := link, dst := dst, msg := m, since := s.now, last := s.now }] } }

/-- A control message to a module (R425). -/
def State.glControl (s : State) (dst : Nat) (m : GMsg) : State :=
  let f : GFrame := { typ := 1, src := s.moduleIndex, dst := dst, mseq := some s.gl.nextMseq, msg := m }
  ((s.keepMsg none dst m).glRoute none f).takeMseq

/-- A control message to the far end of a link. -/
def State.glControlOn (s : State) (l dst : Nat) (m : GMsg) : State :=
  let f : GFrame := { typ := 1, src := s.moduleIndex, dst := dst, mseq := some s.gl.nextMseq, msg := m }
  ((s.keepMsg (some l) dst m).glEmit l f).takeMseq

/-- Node traffic to the module that owns a node. -/
def State.glTraffic (s : State) (dst : Nat) (m : GMsg) : State :=
  s.glRoute none { typ := 0, src := s.moduleIndex, dst := dst, msg := m }

end Sys2Proof.Machine
end

