-- ==== Sys2Proof/Machine/FeederBase.lean ====
section
/-! DEFINITION. The phase votes (R308). -/

namespace Sys2Proof.Machine

open Sys2Proof

/-- How far phase `a` lies from phase `b`, in 1/65 536 cycle. -/
def phaseGap (a b : Nat) : Nat := let d := (a + 65536 - b % 65536) % 65536; if d < 32768 then d else 65536 - d

/-- The ZC vote: the nearest of 0, L2 and L3 within 2 731 units; 3 stands for unknown. -/
def State.zcVote (s : State) (g : Nat) (zcofs : Int) : Nat :=
  let a := (zcofs % 65536).toNat
  let refs := [0, s.fld F.LP_ZCREF_L2 g, s.fld F.LP_ZCREF_L3 g]
  let best := (refs.zipIdx).foldl (fun m p => if phaseGap a p.1 < m.1 then (phaseGap a p.1, p.2) else m) (32768 + 1, 3)
  if best.1 ≤ 2731 then best.2 else 3

/-- The sum of |h(t, r)|² over the carriers of a record. -/
def rowPower (r : ChanRec) (t i : Nat) : Int :=
  ((r.mimo.filter fun e => e.1 % 16 == 4 * t + i).map fun e => e.2.1 * e.2.1 + e.2.2 * e.2.2).sum

/-- The MIMO vote: the input of 0 to 2 with the largest gain from TXPAIR0, when MCONF ≥ CONF_MIN. -/
def State.mimoVote (s : State) (a : Nat) : Nat :=
  match s.recOf a with
  | none => 3
  | some p =>
    if s.confMin ≤ p.2.mconf ∧ rowMeasured p.2 p.2.txp0 = true then
      ((List.range 3).foldl (fun m i => if rowPower p.2 p.2.txp0 m < rowPower p.2 p.2.txp0 i then i else m) 0)
    else 3

/-- The PORT vote: the L input heard best in most of the last 16 OK receptions; unknown without a majority (log entry 57). -/
def portVote (l : List Nat) : Nat :=
  match [1, 2, 3].find? fun r => decide (l.length < 2 * (l.filter fun x => x == r).length) with
  | some r => r - 1
  | none => 3

/-- The hour of PHASE_VOTES records. -/
def State.hour (s : State) : Nat := s.cmp.sec / 3600

/-- PHASE_VOTES posted for a node with its votes: at most once an hour unless `always`. -/
def State.postVotes (s : State) (a : Nat) (votes : List Nat) (always : Bool) : State :=
  if always || Tab.get (fun _ => 0) s.fm.posted a + 3600 ≤ s.cmp.sec || Tab.get (fun _ => 0) s.fm.posted a == 0 then
    let s1 := { s with fm := { s.fm with posted := Tab.set (fun _ => 0) s.fm.posted a s.cmp.sec } }
    s1.finding 0x10 (.votes a votes)
  else s

/-- PHASE_VOTES_UPDATE (R308): the votes of a tracked neighbour after a reception or a check-in, posted on a change. -/
def State.updateVotes (s : State) (a : Nat) : State :=
  match s.node a with
  | none => s
  | some n =>
    if (s.recOf a).isNone then s
    else
      let zc := if n.zcSet then s.zcVote n.fg n.zcofs else 3
      let v := [portVote (Tab.get (fun _ => []) s.fm.ports a), s.mimoVote a, zc]
      if v = n.votes then s else (s.setNode a (some { n with votes := v })).postVotes a v false

/-- The L port of an OK reception noted for the PORT vote. -/
def State.notePort (s : State) (a : Nat) (port : Option Nat) : State :=
  match port with
  | none => s
  | some r =>
    let l := Tab.get (fun _ => []) s.fm.ports a
    { s with fm := { s.fm with ports := Tab.set (fun _ => []) s.fm.ports a ((l ++ [r]).drop (l.length - 15)) } }

end Sys2Proof.Machine
end

