-- ==== Sys2Proof/Machine/Rings.lean ====
section
/-! DEFINITION. Look-back rings, detectors, the opening of receptions, rescans (R138 to R166, R216). -/

namespace Sys2Proof.Machine

open Sys2Proof

/-! ## Blocks (R139 to R141) -/

/-- The narrow-sample offset of a time in the block from `t0`. -/
def gainOfs (t0 t : Stamp) : Nat := (stampNs t - stampNs t0) / 500

/-- The gain log of a block: its first seven changes and its last one when there are more than eight (R140). -/
def gainLog (l : List (Nat × Nat)) : List (Nat × Nat) := if l.length ≤ 8 then l else l.take 7 ++ l.drop (l.length - 1)

/-- The overload run that more than eight gain changes add: from the seventh to the last. -/
def gainGap (l : List (Nat × Nat)) : List (Nat × Nat) :=
  if l.length ≤ 8 then []
  else match l[6]?, l.getLast? with
    | some a, some b => [(a.1, b.1)]
    | _, _ => []

/-- A block with its descriptor (*Block descriptor*) (log entry 35). -/
def blockOf (t0 : Stamp) (gen gain0 : Nat) (gains overload own : List (Nat × Nat)) (adc : List (Nat × Int)) : Block :=
  let ovl := overload ++ gainGap gains
  let allOvl := decide (8 < ovl.length)
  let room := if allOvl then 8 else 8 - ovl.length
  let allOwn := decide (room < own.length)
  { t0 := t0, gen := gen, gain0 := gain0, adc := adc, allOvl := allOvl, allOwn := allOwn, gains := gainLog gains,
    marks := (if allOvl then [] else ovl.map fun r => ⟨r.1, r.2, true⟩) ++ (if allOwn then [] else own.map fun r => ⟨r.1, r.2, false⟩) }

/-- The gain in force after the changes of a list. -/
def lastGain (g : Nat) (l : List (Stamp × Nat)) : Nat :=
  match l.getLast? with
  | none => g
  | some x => x.2

/-- A block appended to a ring of `depth` blocks; the oldest slot is overwritten (R141). -/
def pushBlock (x : Ring) (wide : Bool) (t0 : Stamp) (overload own : List (Nat × Nat)) (adc : List (Nat × Int)) (depth : Nat) : Ring :=
  let before := x.gains.filter fun g => decide (stampNs g.1 < stampNs t0)
  let inside := x.gains.filter fun g => decide (stampNs t0 ≤ stampNs g.1 ∧ stampNs g.1 < stampNs t0 + blockNs)
  let after := x.gains.filter fun g => decide (stampNs t0 + blockNs ≤ stampNs g.1)
  let g0 := lastGain x.code before
  let b := if wide then blockOf t0 (x.gen + 1) 0 [] overload own adc
    else blockOf t0 (x.gen + 1) g0 (inside.map fun g => (gainOfs t0 g.1, g.2)) overload own adc
  trimRing { x with blocks := x.blocks ++ [b], gen := x.gen + 1, gains := after, code := lastGain g0 inside } depth

/-! ## Samples (R76, R138) -/

/-- The ADC code of wide sample `n` of a block: the 16-bit word of a wide ring is this code sign-extended. -/
def codeAt : List (Nat × Int) → Nat → Int
  | [], _ => 0
  | (k, c) :: t, n => if n < k then c else codeAt t (n - k)

/-- One axis of a narrow sample under a gain code (R76): one bit up for each 6 dB; what does not fit 16 bits is a free value (log entry
176). -/
def gained (x : Int) (code : Nat) : Int :=
  let y := x * 2 ^ code
  if -32768 ≤ y ∧ y ≤ 32767 then y else Config.narrowOver y

/-- The gain code in force at narrow sample `n` of a block (R79). -/
def gainAt (b : Block) (n : Nat) : Nat := b.gains.foldl (fun g x => if x.1 ≤ n then x.2 else g) b.gain0

/-- Narrow sample `n` of a block of input `p` as the ring holds it, two 16-bit axes: the high-pass of 1.5 kHz and the decimation by 64 to an
analytic signal, whose coefficients the spec does not give, then the digital gain (R76). -/
def narrowAt (p : Nat) (b : Block) (n : Nat) : Int × Int :=
  let z := if b.adc.all fun x => x.2 == 0 then (0, 0) else Config.narrowFilter p b.t0 b.adc n
  (gained z.1 (gainAt b n), gained z.2 (gainAt b n))

/-- A narrow sample rescaled by the gain log to 0 dB, as a reception reads it (R79): in units of 1/64. -/
def rescaled (p : Nat) (b : Block) (n : Nat) : Int × Int :=
  let z := narrowAt p b n
  (z.1 * 2 ^ (6 - gainAt b n), z.2 * 2 ^ (6 - gainAt b n))

/-! ## Block writes -/

/-- Whether input `p` records its wide path: WIDE_REC set, outside EMBER (R77, R144). -/
def State.wideOn (s : State) (p : Nat) : Bool :=
  (s.portOn p || s.calibrating p) && getBits (s.portRx p) 12 1 == 1 && s.pwr.mode != .ember

/-- The runs of a block from `t0` that the own-transmission spans of a group mark, in narrow samples or units of 64 wide ones (R80). -/
def State.ownRuns (s : State) (fg : Nat) (t0 : Nat) : List (Nat × Nat) :=
  (s.lin.ownSpans.filter fun o => o.fg == fg && decide (o.since < t0 + blockNs) && (match o.until_ with
    | none => true
    | some u => decide (t0 < u))).map fun o =>
    ((max o.since t0 - t0) / 500, match o.until_ with
      | none => 4095
      | some u => min 4095 ((u - 1 - t0) / 500))

/-- Whether a block from `t0` may be written to a ring: it is complete, and the ring holds nothing from `t0` on (R22, R139, R440). -/
def State.blockDue (s : State) (r : Nat) (t0 : Stamp) : Bool :=
  decide (stampNs t0 + blockNs ≤ stampNs s.now) && match ringEnd (s.ring r) with
    | none => true
    | some e => decide (e ≤ stampNs t0)

/-- RING_BLOCK_WRITE (R22, R80 to R82, R138 to R141, R345): `adc` are the codes of the block's wide samples in runs, from which its samples,
its overload marks and the clipped runs follow; own-transmission marks follow the group's spans. While the input calibrates, its blocks are
zeros that carry the own-transmission mark. The slice's transaction draws a tag of LPS (R27). -/
def ringBlockWrite (input : Nat) (wide : Bool) (t0 : Stamp) (adc : List (Nat × Int)) (s : State) : State :=
  let r := if wide then input + 32 else input
  if (if wide then s.wideOn input else s.portOn input || s.calibrating input) && decide (input < 32) && s.blockDue r t0 then
    let cal := s.calibrating input
    let ovl := if cal then [] else clippedUnits 0 adc
    let own := if cal then [(0, 4095)] else if s.inGroup (s.portFg input) input then s.ownRuns (s.portFg input) (stampNs t0) else []
    let s0 := s.touchTag 146
    let s1 := if wide then s0 else s0.noteClipped input t0 ovl
    if s1.ringDepth r = 0 then s1
    else
      let s2 := s1.setRing r (pushBlock (s1.ring r) wide t0 ovl own (if cal then [] else adc) (s1.ringDepth r))
      if wide then s2 else s2.pruneDeferred (s2.portFg input)
  else s

/-- MDM_OLDEST_S_READ (R406): the seconds are returned, the nanoseconds latched. -/
def mdmOldestSRead (who : Who) (s : State) : State :=
  if s.readable who .MDM_OLDEST_S 0 then
    let t := s.oldestSample
    (s.setReg .MDM_OLDEST_NS 0 (BitVec.ofNat 32 t.ns)).returns (BitVec.ofNat 64 t.s)
  else s.returns 0

/-! ## Detectors (R145 to R150, R216) -/

/-- How near two starts are one in ns: 32 µs, or 0.25 µs on a line link (log entry 46). -/
def mergeNs (fg : Nat) : Nat := if fg < 8 then 32000 else 250

/-- Whether two starts lie within a distance. -/
def near (a b : Stamp) (ns : Nat) : Bool := decide (stampNs a ≤ stampNs b + ns ∧ stampNs b ≤ stampNs a + ns)

/-- Detections queued in a group. -/
def State.queuedIn (s : State) (fg : Nat) : List Detn := Tab.get (fun _ => []) s.rx.queued fg

def State.setQueued (s : State) (fg : Nat) (l : List Detn) : State :=
  { s with rx := { s.rx with queued := Tab.set (fun _ => []) s.rx.queued fg l } }

/-- A detection dropped (R150). -/
def State.dropDetection (s : State) (fg : Nat) : State :=
  if fg < 8 then (s.bumpFld F.MDM_DETDROP_COUNT fg 1).setFld F.MDM_DETSTAT_DROP fg 1 else s

/-- The lowest metric of a queue. -/
def lowMetric (l : List Detn) : Nat := l.foldl (fun m d => min m d.metric) ((l.head?.map Detn.metric).getD 0)

/-- The member of a list with the highest metric, starting from a detection. -/
def bestDetn (d : Detn) (l : List Detn) : Detn := l.foldl (fun m x => if m.metric < x.metric then x else m) d

/-- A detection queued (R148, R150): dropped where it is that of an open reception's start; merged with every queued one near it, the member
of the highest metric standing for all; a full queue of 256 gives up its lowest metric. -/
def State.queueDetection (s : State) (d : Detn) : State :=
  let q := s.queuedIn d.fg
  let same : Detn → Bool := fun x => x.std == d.std && near x.start d.start (mergeNs d.fg)
  if s.rx.open_.any fun r => r.fg == d.fg && r.std == d.std && near r.start d.start (mergeNs d.fg) then s
  else if q.any same then s.setQueued d.fg ((q.filter fun x => !same x) ++ [bestDetn d (q.filter same)])
  else if q.length < 256 then s.setQueued d.fg (q ++ [d])
  else if lowMetric q < d.metric then
    match q.find? fun x => x.metric == lowMetric q with
    | none => s
    | some x => (s.setQueued d.fg (q.erase x ++ [d])).dropDetection d.fg
  else s.dropDetection d.fg

/-- Whether FLP-A receptions may open in a group (R145): FLP-A runs there; a line link has none of the group's. -/
def State.flpaOpens (s : State) (fg : Nat) (std : Bool) : Bool := decide (8 ≤ fg) || std || s.runsFlpa fg

/-- The threshold of a detector as the least metric it reports: the metric counts in 1/256 of a code of DET_THR (R146, R147) (log entry
177). -/
def State.detThreshold (s : State) (fg : Nat) : Nat := if fg < 8 then 256 * s.fld F.MDM_DETCFG_DET_THR fg else 0

/-- Whether a detector runs: an input's own (0 to 31), a group's combined one (32 + group), that of an MV port (64 + port), a
link's combined one (96 + link). In minimal service no FLP-A and no FLP-B runs (R477). -/
def State.detectorRuns (s : State) (det fg : Nat) (std : Bool) : Bool :=
  if fg < 8 then
    (if det < 32 then s.portOn det && s.inGroup fg det else det == 32 + fg && !(s.groupInputs fg).isEmpty) &&
    (if std then getBits (s.bandInForce fg) 4 3 != 0 else s.runsFlpa fg) && !s.lin.ownTx.contains fg
  else if fg < 12 then
    !std && !s.minimal && (if det < 96 then 64 ≤ det && s.wideOn (det - 64) && (s.linkPorts (fg - 8)).contains (det - 64)
      else det == 96 + (fg - 8) && (s.linkPorts (fg - 8)).any s.wideOn)
  else false

/-- PREAMBLE_DETECTION (R145, R146, R148, R150): a metric at the threshold or above; after a detection a detector ignores starts near it for
4.096 ms. An FLP-A and a standard-mode detector of one input are two detectors. -/
def preambleDetection (det fg : Nat) (start : Stamp) (metric power : Nat) (std : Bool) (s : State) : State :=
  let now := stampNs s.now
  let held := s.rx.holdoff.filter fun h => decide (now ≤ h.2.2)
  let key := if std then det + 1024 else det
  if s.detectorRuns det fg std && decide (s.detThreshold fg ≤ metric) && !(held.any fun h => h.1 == key && near h.2.1 start (mergeNs fg)) then
    ({ s with rx := { s.rx with holdoff := held ++ [(key, start, now + 4096000)] } }).queueDetection
      { fg := fg, start := start, metric := metric, power := power, det := det, std := std }
  else s

/-! ## Opening (R151, R157, R164, R165) -/

/-- From a start to the end of its header in ns: 9.728 ms, or 304 µs on a line link (*Parts of a frame*) (log entry 48). -/
def headerNs (fg : Nat) : Nat := if fg < 8 then 9728000 else 304000

/-- How a reception stands to a stronger one that overlaps it (R157 to R159, R216, R220): it holds for it while it has been
cleaned of fewer than SIC_MAX frames, else the symbols under the other's frame are erased. -/
def State.under (s : State) (weak strong : Recep) : Recep :=
  if weak.fg < 8 ∧ strong.std = false ∧ weak.std = false ∧ weak.cleaned < s.fld F.MDM_DETCFG_SIC_MAX weak.fg then
    { weak with wait := .held strong.id }
  else { weak with above := weak.above ++ [strong.id] }

/-- A reception opened on a detection, its task on engine `eng`, overlapping the open receptions of a list; it waits for its header where
the rings do not hold it yet (R142). -/
def State.openRecep (s : State) (d : Detn) (eng : Nat) (overlaps : List Nat) : State :=
  let id := s.rx.nextId
  let need := stampNs d.start + headerNs d.fg
  let r : Recep := { id := id, fg := d.fg, start := d.start, metric := d.metric, power := d.power, origin := d.origin, std := d.std, eng := eng,
                     need := need, wait := if s.written d.fg < need then .ring else .none }
  let others := s.rx.open_.filter fun x => x.fg == d.fg && overlaps.contains x.id
  let r1 := match others.find? fun x => decide (d.power < x.power) with
    | some x => s.under r x
    | none => r
  let weaker : Recep → Bool := fun x => x.fg == d.fg && overlaps.contains x.id && decide (x.power < d.power)
  let yielded : Recep → Recep := fun x => match x.wait with
    | .held _ => x
    | .checkpoint _ => x
    | _ => s.under x r
  { s with rx := { s.rx with nextId := id + 1,
                             open_ := (s.rx.open_.map fun x => if weaker x then yielded x else x) ++ [r1] } }

/-- The oldest queued detection of a group. -/
def oldestDetn : List Detn → Option Detn
  | [] => none
  | d :: t => some (t.foldl (fun m x => if stampNs x.start < stampNs m.start then x else m) d)

/-- The deferred entry a rescan retries at a start: of the same node where the rescan names one, and against a map whose span
in force includes the start where a map was missing (R190). -/
def State.deferredAt (s : State) (r : Rescan) (start : Stamp) : Option Deferred :=
  (s.deferredOf r.fg).find? fun d => d.start == start && (r.src == 0xFFFF || d.src == r.src) &&
    match d.tmid with
    | none => true
    | some id => (s.ulMaps d.src).any fun m => m.tmid == id && decide (stampNs m.issued ≤ stampNs start) &&
        match m.retired with
        | none => true
        | some t => decide (stampNs start ≤ stampNs t)

/-- Whether the narrow sample at `t` carries the own-transmission mark on some input of a group (R139, R140). -/
def State.ownMarked (s : State) (fg : Nat) (t : Stamp) : Bool :=
  (s.groupInputs fg).any fun r => (s.ring r).blocks.any fun b =>
    decide (stampNs b.t0 ≤ stampNs t ∧ stampNs t < stampNs b.t0 + blockNs) &&
    (b.allOwn || b.marks.any fun m => !m.overload && decide (m.first ≤ gainOfs b.t0 t ∧ gainOfs b.t0 t ≤ m.last))

/-- Whether a time in ns lies within 20 µs of a slot boundary of a group (R102, R163). -/
def State.atBoundary (s : State) (fg t : Nat) : Bool := s.slotAt fg (t - 20000) != s.slotAt fg (t + 20000)

/-- Whether a rescan may open a reception at a start: a deferred entry, or a start inside the window that no OK or REPLAY
reception covers and no own-transmission mark lies on; more than RESV slots free; still retained (R164, R165). The search for what was not found
takes a metric down to RESCAN_DROP dB below DET_THR, within 20 µs of a slot boundary (R163) (log entry 201). -/
def State.rescanMay (s : State) (r : Rescan) (start : Stamp) (metric : Nat) : Bool :=
  r.running && s.flpaOpens r.fg false && decide (s.fld F.MDM_DETCFG_RESV r.fg < slotsOf r.fg - s.openIn r.fg) && s.retained r.fg start &&
  ((s.deferredAt r start).isSome ||
    (!r.deferredOnly && s.atBoundary r.fg (stampNs start) &&
      decide (s.detThreshold r.fg ≤ metric + Config.metricOf (s.fld F.MDM_DETCFG_RESCAN_DROP r.fg)) && decide (stampNs r.t0 ≤ stampNs start ∧ stampNs start ≤ stampNs r.t1) &&
      !(s.rx.covered.any fun c => c.1 == r.fg && decide (stampNs c.2.1 ≤ stampNs start ∧ stampNs start ≤ stampNs c.2.2)) &&
      !s.ownMarked r.fg start)) &&
  !(s.rx.open_.any fun x => x.fg == r.fg && near x.start start (mergeNs r.fg))

/-- Whether Pitch may place a reception's task on engine `e`: in service and not draining (R151, R397). -/
def State.takesRecep (s : State) (e : Nat) : Bool := decide (e < 128) && s.dom e == .on && !s.draining e && !s.isRetired e

/-- Whether a stream frame of `src` is due in a group at `start` (R132, R248): the frame before it was received, and this is the first boundary of the
grant's slot at or after its end, or after a beacon span that lay between. -/
def State.streamDue (s : State) (fg src : Nat) (start : Stamp) : Bool :=
  let t := stampNs start
  match Tab.get (fun _ => none) s.rx.streams src, s.streamGrant src with
  | some p, some g =>
    let cycle := 10 ^ 12 / max 1 (s.mains fg)
    let span := (s.nbNow fg + 1) * cycle
    p.fg == fg && decide (p.fin ≤ t) && s.slotAt fg t == g.slot && s.slotAt fg (t - 40000) != g.slot &&
      (decide (t < p.fin + cycle) ||
        ((Tab.get (fun _ => []) s.mac.supers fg).any fun b => decide (stampNs b < p.fin + cycle ∧ t < stampNs b + span)))
  | _, _ => false

/-- RECEPTION_OPEN (R132, R145, R151, R164, R165): the oldest detection queued in the group that may open, the start a rescan has found, or
that of a stream frame whose preamble is lost; `eng` is the engine Pitch places its task on, `under` are the open receptions whose frames
overlap it. A queued start that is no longer retained opens and ends LOOKBACK_EXPIRED (R141) (log entry 178). -/
def receptionOpen (fg : Nat) (found : Found) (eng : Nat) (under : List Nat) (s : State) : State :=
  if s.takesRecep eng = false then s
  else match found with
  | .queued =>
    match oldestDetn ((s.queuedIn fg).filter fun d => s.flpaOpens fg d.std) with
    | none => s
    | some d =>
      if s.openIn fg < slotsOf fg then
        let s1 := (s.setQueued fg ((s.queuedIn fg).erase d)).openRecep d eng under
        if s.retained fg d.start then s1
        else match s1.recep s.rx.nextId with
          | none => s1
          | some r => s1.endRecep r .lookbackExpired (d.origin != .live) 0 0
      else s
  | .rescan id start metric power =>
    match s.rx.rescans.find? fun r => r.id == id && r.fg == fg with
    | none => s
    | some r =>
      if s.rescanMay r start metric then
        let s1 := match s.deferredAt r start with
          | none => s
          | some d => s.setDeferred fg ((s.deferredOf fg).erase d)
        s1.openRecep { fg := fg, start := start, metric := metric, power := power, origin := .rescan id } eng under
      else s
  | .stream src start =>
    if s.streamDue fg src start && decide (s.openIn fg < slotsOf fg) then
      s.openRecep { fg := fg, start := start, metric := 0, power := 0, origin := .stream src } eng under
    else s

/-- RING_WAIT_RESUME (R142): the samples the reception waits for are written and it reads on; `again` says that it reaches the write
position once more and waits for the next block (log entry 48). -/
def ringWaitResume (rec : Nat) (again : Bool) (s : State) : State :=
  match s.recep rec with
  | none => s
  | some r =>
    let w := s.written r.fg
    if r.wait = .ring ∧ r.need ≤ w then s.setRecep (if again then { r with need := w + blockNs } else { r with wait := .none }) else s

/-- SIC_RESUME (R157, R159, R161): the dominant reception has ended and the weaker one goes on, or holds again for the next
dominant one; `found` are the preambles of the cleaned-span search as (start, metric, power). -/
def sicResume (rec : Nat) (next : Option Nat) (found : List (Stamp × Nat × Nat)) (s : State) : State :=
  match s.recep rec with
  | none => s
  | some r =>
    match r.wait with
    | .held d =>
      if (s.recep d).isSome then s
      else
        let r1 := { r with wait := .none }
        let r2 := match next.bind s.recep with
          | some x => if x.fg = r.fg ∧ r.power < x.power then s.under r1 x else r1
          | none => r1
        let hits := if r.cleaned = 0 then [] else found
        hits.foldl (fun s f => s.queueDetection { fg := r.fg, start := f.1, metric := f.2.1, power := f.2.2, origin := .cleaned d })
          (s.setRecep r2)
    | _ => s

/-- INPUT_LOST_IN_RECEPTION (R153): without an enabled input left, the receptions of the group that still need samples not yet written end
ABANDONED; one whose samples are all stored goes on. -/
def inputLostInReception (fg : Nat) (s : State) : State :=
  let inputs := if fg < 8 then s.groupInputs fg else (s.linkPorts (fg - 8)).filter s.portOn
  if inputs.isEmpty then s.endReceps .abandoned (s.rx.open_.filter fun r => r.fg == fg && decide (s.written fg < r.need)) else s

/-! ## Rescans (R163 to R166) -/

/-- RESCAN_TRIGGER (R163, R164). -/
def rescanTrigger (fg src : Nat) (t0 t1 : Stamp) (deferredOnly : Bool) (s : State) : State :=
  if fg < 8 then s.rescan fg src t0 t1 deferredOnly false else s

/-- The stored form of MDM_RESCAN. -/
def rescanForm (w : Word) : Word :=
  let b := getBits w 16 6
  putBits (putBits w 31 1 0) 16 6 (if b = 0 then 1 else if 60 < b then 60 else b)

/-- MDM_RESCAN_GO (R163): a write with GO = 1. -/
def mdmRescanGo (who : Who) (value : Word) (s : State) : State :=
  s.gated who .MDM_RESCAN 0 fun s =>
    let s1 := s.setReg .MDM_RESCAN 0 (rescanForm (plainWrite .MDM_RESCAN (s.reg .MDM_RESCAN 0) value))
    s1.rescan (s1.fld F.MDM_RESCAN_FG 0) (s1.fld F.MDM_RESCAN_SRC 0) (stampBack s1.now (s1.fld F.MDM_RESCAN_BACK_S 0)) s1.now
      false true

/-- RESCAN_START (R164): at most four run in a group, in order of trigger. -/
def rescanStart (id : Nat) (s : State) : State :=
  match s.rx.rescans.find? fun r => r.id == id with
  | none => s
  | some r =>
    let first := (s.rx.rescans.find? fun x => x.fg == r.fg && !x.running).map Rescan.id
    if s.rescansRunning r.fg < 4 ∧ first = some id then
      let s1 := { s with rx := { s.rx with rescans := s.rx.rescans.map fun x => if x.id = id then { x with running := true } else x } }
      if s.rx.hostRescan = some id then s1.setFld F.MDM_RESCAN_STAT_STATE 0 2 else s1
    else s

/-- RESCAN_END (R166): OK, or LOOKBACK_EXPIRED when the part still to search is no longer retained; the record gives the frames
found and the part searched (log entry 47). `short` says that the search stopped before the window's start. -/
def rescanEnd (id : Nat) (short : Bool) (s : State) : State :=
  match s.rx.rescans.find? fun r => r.id == id with
  | none => s
  | some r =>
    if r.running then
      let expired := short && !s.retained r.fg r.t0
      let from_ := if expired then s.oldestSample else r.t0
      let s1 := { s with rx := { s.rx with rescans := s.rx.rescans.filter fun x => x.id != id } }
      let s2 := s1.event (if expired then .lookbackExpired else .ok) pageRing [(4, r.fg), (4, r.found), (4, from_.s), (4, r.t1.s)]
      if s.rx.hostRescan = some id then
        ((s2.setFld F.MDM_RESCAN_STAT_STATE 0 3).setFld F.MDM_RESCAN_STAT_FOUND 0 (min r.found 65535)).setFld
          F.MDM_RESCAN_STAT_EXPIRED 0 (if expired then 1 else 0)
      else s2
    else s

/-- HARQ_BUFFER_EXPIRE (R135, R168): 30 s of line time since the first transmission. -/
def harqBufferExpire (src harq : Nat) (s : State) : State :=
  match Tab.get (fun _ => none) s.rx.harq (src * 16 + harq) with
  | none => s
  | some h =>
    if stampNs h.first + 30000000000 ≤ stampNs s.now then
      { s with rx := { s.rx with harq := Tab.set (fun _ => none) s.rx.harq (src * 16 + harq) none } }
    else s

/-! ## Meanings -/

def execRingBlockWrite (input : Nat) (wide : Bool) (sec : Nat) (ns : Nat) (adc : List (Nat × Int)) (s : State) : Host.Outcome State Fault Refusal :=
  .next (ringBlockWrite input wide ⟨sec, ns⟩ adc s)

def execPreambleDetection (det : Nat) (fg : Nat) (start : Stamp) (metric : Nat) (power : Nat) (std : Bool) (s : State) : Host.Outcome State Fault Refusal :=
  .next (preambleDetection det fg start metric power std s)

def execReceptionOpen (fg : Nat) (found : Found) (place : RecepPlace) (s : State) : Host.Outcome State Fault Refusal :=
  .next (receptionOpen fg found place.eng place.under s)

def execRingWaitResume (rec : Nat) (again : Bool) (s : State) : Host.Outcome State Fault Refusal :=
  .next (ringWaitResume rec again s)

def execSicResume (rec : Nat) (next : Option Nat) (found : List (Stamp × Nat × Nat)) (s : State) : Host.Outcome State Fault Refusal :=
  .next (sicResume rec next found s)

def execInputLostInReception (fg : Nat) (s : State) : Host.Outcome State Fault Refusal :=
  .next (inputLostInReception fg s)

def execHarqBufferExpire (src : Nat) (harq : Nat) (s : State) : Host.Outcome State Fault Refusal :=
  .next (harqBufferExpire src harq s)

def execRescanTrigger (fg : Nat) (src : Nat) (t0 : Stamp) (t1 : Stamp) (deferredOnly : Bool) (s : State) : Host.Outcome State Fault Refusal :=
  .next (rescanTrigger fg src t0 t1 deferredOnly s)

def execMdmRescanGo (who : Who) (value : Word) (s : State) : Host.Outcome State Fault Refusal :=
  .next (mdmRescanGo who value s)

def execRescanStart (id : Nat) (s : State) : Host.Outcome State Fault Refusal := .next (rescanStart id s)

def execRescanEnd (id : Nat) (expired : Bool) (s : State) : Host.Outcome State Fault Refusal :=
  .next (rescanEnd id expired s)

def execMdmOldestSRead (who : Who) (s : State) : Host.Outcome State Fault Refusal := .next (mdmOldestSRead who s)

end Sys2Proof.Machine
end

