-- ==== Sys2Proof/Machine/Deliver.lean ====
section
/-! DEFINITION. Judging and delivering received frames (R167, R257 to R259, R262, R272, R280, R296, R297, R500). -/

namespace Sys2Proof.Machine

open Sys2Proof

/-! ## Replay rejection (R167, R258) -/

/-- What the procedure of R167 says of a frame. -/
inductive Verdict where
  | deliver | expired | replay
  deriving DecidableEq, Repr

/-- The procedure of R167 with the HARQ exception of R258. -/
def judgeSeq (q : SeqState) (seq txn : Nat) (line : Stamp) : Verdict :=
  let d := seqBelow seq q.h
  if seqNewer seq q.h then .deliver
  else if 4095 < d then .expired
  else if q.win.getLsbD d then .replay
  else if stampNs line < stampNs q.th then .deliver
  else if 1 ≤ txn ∧ d ≤ 15 ∧ stampNs line ≤ stampNs q.th + 30000000000 then .deliver
  else .replay

/-- The receive state after a delivery. -/
def acceptSeq (q : SeqState) (seq : Nat) (line : Stamp) : SeqState :=
  if seqNewer seq q.h then
    { q with h := seq, th := line, win := (q.win <<< seqBelow q.h seq) ||| 1#4096 }
  else { q with win := q.win ||| (1#4096 <<< seqBelow seq q.h) }

/-- Whether a SEQ lies at or above C + 2^16 of the receive checkpoint (R259). -/
def beyondCheckpoint (q : SeqState) (seq : Nat) : Bool := seqNewer seq ((q.crx + seqSpan - 1) % 2 ^ 32)

/-! ## Acknowledgements -/

/-- An entry for the next acknowledgement frame to a node (R251); none for a late-found frame (R170). -/
def State.oweAck (s : State) (a : Nat) (want late : Bool) (e : AckEntry) : State :=
  if want && !late then
    { s with mac := { s.mac with acks := Tab.set (fun _ => []) s.mac.acks a (Tab.get (fun _ => []) s.mac.acks a ++ [e]) } }
  else s

/-- A failure of a frame to a node counted (R277). -/
def State.countFail (s : State) (a : Nat) : State :=
  match s.node a with
  | none => s
  | some n => s.setNode a (some { n with fails := n.fails + 1 })

/-- A NACKed transmission (R134, R251, R280): sent again up to four times, an acknowledged data frame then up to three times as a
new frame, else ABANDONED. -/
def State.nackFrame (s : State) (f : Frame) : State :=
  if f.txn < 3 then s.setFrame { f with txn := f.txn + 1, state := .waiting, ports := [] }
  else
    let s1 := s.countFail f.dst
    match f.body with
    | .data _ _ =>
      if f.resent < 3 then s1.setFrame { f with txn := 0, resent := f.resent + 1, seq := none, state := .waiting, ports := [] }
      else s1.endFrame f .abandoned
    | _ => s1.endFrame f .abandoned

/-- The empty frame that tells a sleepy node, due at the last beacon, that nothing more is waiting, once its last frame has ended OK
(R267) (log entry 158). -/
def State.tellEmpty (s : State) (f : Frame) : State :=
  let counts := match f.body with
    | .empty => false
    | .wakePattern _ => false
    | _ => true
  match s.node f.dst with
  | none => s
  | some n =>
    if counts && nodeSleepy n && s.dueAt n (s.reg .MAC_BNUM n.fg).toNat && !s.lin.frames.any fun g => g.dst == f.dst then
      s.sendTo f.dst .empty false .none
    else s

/-- An acknowledged frame: it completes OK and its node's failures start anew. -/
def State.ackFrame (s : State) (f : Frame) : State :=
  let s1 := match s.node f.dst with
    | none => s
    | some n => s.setNode f.dst (some { n with fails := 0 })
  (s1.endFrame f .ok).tellEmpty f

/-- The sent frame of a node with a sequence number. -/
def State.sentFrame (s : State) (a seq : Nat) : Option Frame :=
  s.lin.frames.find? fun f => f.dst == a && f.seq == some seq && f.ackReq && (f.state == FrameState.sent || f.state == FrameState.waiting)

/-- The entries of an acknowledgement frame from a node (*Acknowledgement body*) (log entry 50). -/
def State.takeAcks (s : State) (a : Nat) : List AckEntry → State
  | [] => s
  | e :: t =>
    (match s.sentFrame a e.seq with
     | none => s
     | some f =>
       if e.result = 0 ∨ e.result = 2 then s.ackFrame f
       else if e.result = 1 then (if f.txn = e.txn ∧ f.state = FrameState.sent then s.nackFrame f else s)
       else s.endFrame f .abandoned).takeAcks a t

/-- Frames that H and DMAP show as delivered (R262). -/
def State.takeDmap (s : State) (a h : Nat) (dmap : BitVec 32) : State :=
  ((s.lin.frames.filter fun f => f.dst == a && f.ackReq).filter fun f => match f.seq with
    | none => false
    | some q => decide (seqBelow q h < 32) && dmap.getLsbD (seqBelow q h)).foldl State.ackFrame s

/-! ## Presence (R272) -/

/-- Whether a line time lies in the present superframe of a group, and whether in the one before. -/
def State.inSuper (s : State) (fg : Nat) (line : Stamp) : Bool :=
  match Tab.get (fun _ => []) s.mac.supers fg with
  | [] => true
  | t :: _ => Stamp.le t line

def State.inSuperBefore (s : State) (fg : Nat) (line : Stamp) : Bool :=
  match Tab.get (fun _ => []) s.mac.supers fg with
  | t :: u :: _ => Stamp.le u line && !Stamp.le t line
  | _ => false

/-- A reception from a node that ended OK: it meets the check-in of the superframe its line time lies in, the miss count starts
anew; a node that was ABSENT is ACTIVE again, with an event record, a rescan and its held downlink released. `snr` is the header SNR where the
node itself sent the frame heard (R198). -/
def State.heardOk (s : State) (a fg : Nat) (line : Stamp) (snr : Option Int) : State :=
  match s.node a with
  | none => s
  | some n =>
    let n1 := { n with met := n.met || s.inSuper n.fg line, owed := n.owed && !s.inSuperBefore n.fg line, miss := 0,
                       lastOk := line, snr := snr.getD n.snr,
                       snrs := match snr with
                         | none => n.snrs
                         | some x => (n.snrs ++ [x]).drop (n.snrs.length - 15)
                       absentFor := 0,
                        state := if n.state = .absent then .active else n.state }
    let s1 := s.setNode a (some n1)
    if n.state = .absent then (s1.event .ok pageMac [(4, a)]).rescan fg a n.lastOk line false false else s1

/-! ## Uplink frames to the host (R296, R297, R500) -/

/-- Descriptors a frame takes. -/
def fbdsFor (len : Nat) : Nat := max 1 ((len + 4095) / 4096)

/-- The lowest-numbered Ethernet port that sends uplink frames to the head-end (R506). -/
def State.uplinkPort (s : State) : Option Nat := [0, 1].find? fun n => s.flag F.ETH_CFG_UPL n && s.flag F.ETH_CFG_HE n && s.serves (domEth n)

/-- A free descriptor; which one is open (log entry 52). -/
def State.pickFbd (s : State) : Nat :=
  ((List.range 262144).find? fun i => !s.mac.hostFbds.contains ((s.pickNat 262144 + i) % 262144)).map
    (fun i => (s.pickNat 262144 + i) % 262144) |>.getD 0

/-- The uplink-frame events of a frame, one for each buffer, in index order. -/
def State.uplinkEvents (s : State) (gaddr len svc seq : Nat) (i : Nat) : Nat → State
  | 0 => s
  | k + 1 =>
    let fbd := s.pickFbd
    let s1 := { s.drew with mac := { s.mac with hostFbds := s.mac.hostFbds ++ [fbd] } }
    let part := min 4096 (len - 4096 * i)
    (s1.eventAs 1 .ok pageMac [(4, fbd), (4, gaddr), (2, part), (1, svc), (1, i % 128 + if k = 0 then 0 else 128), (4, seq)] 0).uplinkEvents
      gaddr len svc seq (i + 1) k

/-- One head-end datagram for each buffer of a frame. -/
def State.uplinkDatagrams (s : State) (port gaddr len svc : Nat) (i : Nat) : Nat → State
  | 0 => s
  | k + 1 =>
    ({ s with hst := { s.hst with outbox := s.hst.outbox ++
        [({ port := port, typ := 0, gaddr := gaddr, svc := svc, len := min 4096 (len - 4096 * i) } : Datagram)] } }).uplinkDatagrams
      port gaddr len svc (i + 1) k

/-- Whether the frames of a service code go to the host: codes from 0xF0 belong to module services. -/
def hostSvc (svc : Nat) : Bool := decide (svc < 0xF0)

/-- An uplink frame handed to the host or the head-end. -/
def State.toHost (s : State) (a len svc seq : Nat) : State :=
  if hostSvc svc then
    match s.uplinkPort with
    | some p => s.uplinkDatagrams p (s.globalAddr a) len svc 0 (fbdsFor len)
    | none => s.uplinkEvents (s.globalAddr a) len svc seq 0 (fbdsFor len)
  else s

/-- Whether a descriptor is free for a frame beside the reserve of 8 192 (R297). -/
def State.fbdRoom (s : State) (len svc : Nat) : Bool :=
  !hostSvc svc || s.uplinkPort.isSome || decide (8192 + fbdsFor len ≤ s.fbdFree)

/-! ## Delivery -/

/-- A received frame as the MAC judges it. -/
structure Heard where
  src : Nat
  fg : Nat
  seq : Nat
  txn : Nat
  harq : Nat
  line : Stamp
  data : Bool
  len : Nat
  svc : Nat
  ackReq : Bool
  late : Bool
  deriving DecidableEq, Repr

/-- The handover of a node whose release record has landed: its frames go on to the new owner (R278). -/
def State.forwards (s : State) (a : Nat) : Option HandOut := s.mac.handOut.find? fun h => h.saddr == a && h.landed

/-- A frame delivered: marked, the receive checkpoint started when H comes near its limit, acknowledged, handed to the host (log entry 49). -/
def State.delivered (s : State) (n : Node) (h : Heard) : State :=
  let q := acceptSeq n.seq h.seq h.line
  let s1 := s.setNode h.src (some { n with seq := q })
  let s2 := if q.crx + seqMark ≤ q.h then s1.ckRx h.src q.h else s1
  let s3 := s2.oweAck h.src h.ackReq h.late { seq := h.seq, harq := h.harq, result := 0, txn := h.txn }
  if h.data then s3.toHost h.src h.len h.svc h.seq else s3

/-- A frame put to wait for a descriptor (R297). -/
def State.waitFbd (s : State) (w : FbdWait) : State := { s with mac := { s.mac with fbdWait := s.mac.fbdWait ++ [w] } }

/-- What follows a verdict on a frame from a member (R258, R259, R297). -/
def State.onVerdict (s : State) (n : Node) (h : Heard) : Verdict → State × Option Status
  | .expired => (s, some .lookbackExpired)
  | .replay => (s.oweAck h.src h.ackReq h.late { seq := h.seq, harq := h.harq, result := 2, txn := h.txn }, some .replay)
  | .deliver =>
    if beyondCheckpoint n.seq h.seq then (s.ckRx h.src h.seq, none)
    else if h.data && !s.fbdRoom h.len h.svc then
      (s.waitFbd { src := h.src, line := h.line, seq := h.seq, len := h.len, svc := h.svc, fg := h.fg,
                   ackReq := h.ackReq && !h.late, harq := h.harq, txn := h.txn, since := s.now }, some .ok)
    else (s.delivered n h, some .ok)

/-- The judgement of a secured frame (R167, R258, R259, R297): its end status, or none while it waits for a checkpoint. -/
def State.judgeFrame (s : State) (h : Heard) : State × Option Status :=
  match s.node h.src with
  | none => (s, some .abandoned)
  | some n => s.onVerdict n h (judgeSeq n.seq h.seq h.txn h.line)

/-- A frame that waited for a descriptor judged again (log entry 51). -/
def State.retryFbd (s : State) (w : FbdWait) : State :=
  (s.judgeFrame { src := w.src, fg := w.fg, seq := w.seq, txn := w.txn, harq := w.harq, line := w.line, data := true, len := w.len,
                  svc := w.svc, ackReq := w.ackReq, late := false }).1

/-- The oldest frames waiting for a descriptor served while there is room, with fuel. -/
def State.serveFbdWait (s : State) : Nat → State
  | 0 => s
  | k + 1 => match s.mac.fbdWait with
    | [] => s
    | w :: t =>
      if s.fbdRoom w.len w.svc then
        (({ s with mac := { s.mac with fbdWait := t } }).retryFbd w).serveFbdWait k
      else s

/-- FBD_RETURN_TAKE (R296, R500): the host-service pack takes the oldest returned index; one the host does not hold is
discarded and sets RETBAD. -/
def fbdReturnTake (s : State) : State :=
  match s.hst.retRing with
  | [] => s
  | i :: t =>
    let s1 := { s with hst := { s.hst with retRing := t } }
    if s.mac.hostFbds.contains i then
      let s2 := { s1 with mac := { s1.mac with hostFbds := s1.mac.hostFbds.filter fun x => x != i } }
      s2.serveFbdWait (s2.mac.fbdWait.length)
    else s1.setFld F.HST_STAT_RETBAD 0 1

/-- FBD_WAIT_TIMEOUT (R297): 50 ms have passed; the frame is dropped unmarked, NACKed, MAC_FBD.DROP is set, OVERRUN is posted at
most once a second (log entry 51). -/
def fbdWaitTimeout (src seq : Nat) (s : State) : State :=
  match s.mac.fbdWait.find? fun w => w.src == src && w.seq == seq with
  | none => s
  | some w =>
    if stampNs s.now < stampNs w.since + 50000000 then s
    else
    let s1 := { s with mac := { s.mac with fbdWait := s.mac.fbdWait.erase w } }
    let s2 := (s1.oweAck w.src w.ackReq false { seq := w.seq, harq := w.harq, result := 1, txn := w.txn }).setFld F.MAC_FBD_DROP 0 1
    if s2.mac.fbdEvtSec = some s2.cmp.sec then s2
    else ({ s2 with mac := { s2.mac with fbdEvtSec := some s2.cmp.sec } }).event .overrun pageMac []

/-! ## Meanings -/

def execFbdWaitTimeout (src : Nat) (seq : Nat) (s : State) : Host.Outcome State Fault Refusal :=
  .next (fbdWaitTimeout src seq s)

def execFbdReturnTake (s : State) : Host.Outcome State Fault Refusal := .next (fbdReturnTake s)

end Sys2Proof.Machine
end

