-- ==== Sys2Proof/Machine/Receive.lean ====
section
/-! DEFINITION. The end of a reception (R108, R116, R134 to R137, R151, R154, R167, R168, R180, R206, R236, R264). -/

namespace Sys2Proof.Machine

open Sys2Proof

/-! ## Sync word and header -/

/-- SYNC_TOL of a group or of a line link. -/
def State.syncTol (s : State) (fg : Nat) : Nat :=
  if fg < 8 then s.fld F.MDM_DETCFG_SYNC_TOL fg
  else match s.linkPorts (fg - 8) with
    | [] => 0
    | p :: _ => s.fld F.MDM_BBCFG_SYNC_TOL p

/-- Whether one heard word is taken before another (R108): nearer, then lower class, then the normal header. -/
def wordBefore (a b : Nat × Bool × Nat) : Bool :=
  decide (a.2.2 < b.2.2) || (a.2.2 == b.2.2 && (decide (a.1 < b.1) || (a.1 == b.1 && !a.2.1 && b.2.1)))

/-- SYNC_ACCEPT (R108): the class and header form of the accepted word. -/
def syncAccept (tol : Nat) (l : List (Nat × Bool × Nat)) : Option (Nat × Bool) :=
  match l.filter fun w => decide (w.2.2 ≤ tol) with
  | [] => none
  | w :: t => let m := t.foldl (fun m x => if wordBefore x m then x else m) w; some (m.1, m.2.1)

/-- Frame types listed for a class (R236). -/
def ftypeListed (cls ft : Nat) : Bool :=
  match cls with
  | 0 => decide (ft ≤ 3)
  | 1 => decide (ft ≤ 1)
  | 2 => ft == 0
  | 3 => decide (ft ≤ 1)
  | 4 => decide (ft ≤ 1)
  | _ => false

/-- The header check of R116, R180 and R236 on FLP-A, but for a missing tone map. -/
def State.headerOk (s : State) (r : Recep) (word : Nat × Bool) (f : RxFrame) : Bool :=
  crcHdr f && decide (f.cls ≤ 4) && f.cls == word.1 &&
  decide (f.cgFirst ≤ f.cgLast ∧ s.fld F.MDM_BANDSTAT_MASK_LO r.fg ≤ f.cgFirst ∧ f.cgLast ≤ s.fld F.MDM_BANDSTAT_MASK_HI r.fg) &&
  word.2 == extendedMcs f.mcs && !(twoStreams f.mcs && (f.src == 0xFFFF || f.dst == 0xFFFF)) && ftypeListed f.cls f.ftype &&
  (f.cls != 2 || (decide (3 ≤ f.mcs ∧ f.mcs ≤ 5) && !f.stream && decide (f.nsym + 1 + f.nsnd ≤ 512)))

/-- The check of NSYM (R116): the count of R124 for LEN; of a stream frame a valid NIDX and the NSYMMAX of the grant of SRC to the module. -/
def State.nsymOk (s : State) (r : Recep) (f : RxFrame) : Bool :=
  if f.stream then decide (f.len / 4096 % 32 ≤ 18) && f.dst == 0 && (s.streamGrant f.src).map Grant.nsymMax == some (f.nsym + 1)
  else s.rxNsym r f == some (f.nsym + 1)

/-- The header check of R206 on a line link; no FLP-B tone map is ever held (log entry 189). -/
def State.lineHeaderOk (s : State) (r : Recep) (word : Nat × Bool) (f : RxFrame) : Bool :=
  crcHdr f && decide (f.cls ≤ 2) && f.cls == word.1 && decide (f.cgFirst ≤ f.cgLast ∧ f.cgLast ≤ 60) && decide (4 ≤ f.mcs ∧ f.mcs < 24) &&
  !f.stream && (decide (f.dst < 1024) || f.dst == 0xFFFF) && !(twoStreams f.mcs && (f.src == 0xFFFF || f.dst == 0xFFFF)) &&
  s.rxNsym r f == some (f.nsym + 1)

/-- What a header says: it passes, it fails, or only the tone map it names is not held. -/
inductive HeaderVerdict where
  | passes | fails | lacks (tmid : Nat)
  deriving DecidableEq, Repr

/-- The judgement of a header: the offset acquired, a sync word accepted, the checks of R116 or R206. -/
def State.header (s : State) (r : Recep) (f : RxFrame) : HeaderVerdict :=
  let a := s.air r.fg
  match s.acquire r.fg f.ppm f.snr, syncAccept (s.syncTol r.fg) ((a.expected (s.seed r.fg)).map fun w => (w.1, w.2.1, a.distance f.word w.2.2)) with
  | some _, some w =>
    if 8 ≤ r.fg then (if s.lineHeaderOk r w f then .passes else .fails)
    else if s.headerOk r w f = false then .fails
    else if 24 ≤ f.mcs ∧ (s.ulNamed f.src f.tmid f.mcs).isNone = true then .lacks f.tmid
    else if s.nsymOk r f then .passes else .fails
  | _, _ => .fails

/-! ## Streams (R126, R127, R132, R264) -/

/-- NIDX, GIDX and the first super-block of a stream frame, as depth, group size and number modulo 512 (R127). -/
def streamShape (f : RxFrame) : Nat × Nat × Nat := (depths.getD (f.len / 4096 % 32) 1, 2 ^ (f.len / 512 % 8), f.len % 512)

/-- The whole super-blocks of a stream frame with the soft values of their positions. -/
def State.superBlocks (s : State) (r : Recep) (f : RxFrame) : List (List Int) :=
  let size := 1944 * (streamShape f).2.1
  let pos := s.positions r f
  (List.range (pos.length / size)).map fun i => (pos.drop (i * size)).take size

/-- The stream of a source. -/
def State.streamOf (s : State) (src : Nat) : Option StreamRx := Tab.get (fun _ => none) s.rx.streams src

/-- The frame a stream frame with a lost header is taken for (R132): SEQ and super-block follow on, the other fields are those of the frame
before, the samples are its own. -/
def predicted (p : StreamRx) (blocks : Nat) (f : RxFrame) : RxFrame :=
  { p.last with
    seq := (p.last.seq + 1) % 2 ^ 32, len := p.last.len / 512 * 512 + (p.last.len + blocks) % 512,
    soft := f.soft, hits := f.hits, devs := f.devs, packets := f.packets, meas := f.meas, mimo := f.mimo, port := f.port }

/-- The source whose stream has a frame due where a reception starts: that of the allocation that opened it, or any (R132). -/
def State.streamAt (s : State) (r : Recep) : Option Nat :=
  match r.origin with
  | .stream src => some src
  | _ => (s.rx.streams.find? fun p => s.streamDue r.fg p.1 r.start).map Prod.fst

/-- A frame as it is judged: where its own header fails and a stream frame is due there, with a predicted header and the ε of the frame before
(R132). -/
def State.readFrame (s : State) (r : Recep) (f : RxFrame) : RxFrame × Option Int :=
  match s.header r f with
  | .fails => match (s.streamAt r).bind s.streamOf with
    | some p => if r.fg < 8 ∧ r.std = false then (predicted p (s.superBlocks r p.last).length f, some p.eps) else (f, none)
    | none => (f, none)
  | _ => (f, none)

/-- A stream frame's super-blocks entered; 512 numbers are kept apart (R127). -/
def State.enterStream (s : State) (r : Recep) (f : RxFrame) : State :=
  let b := s.superBlocks r f
  let first := (streamShape f).2.2
  let old := match s.streamOf f.src with
    | none => []
    | some p => p.blocks
  let nums := (List.range b.length).map fun i => (first + i) % 512
  let p : StreamRx := { fg := r.fg, last := f, start := stampNs r.start, fin := rxEnd r f, eps := r.eps,
                        blocks := (old.filter fun x => !nums.contains x.1) ++ nums.zip b }
  { s with rx := { s.rx with streams := Tab.set (fun _ => none) s.rx.streams f.src (some p) } }

/-- The soft values of codeword `c` of a stream, descrambled with its own number (R126, R127); a position never received has none. -/
def streamWord (p : StreamRx) (c : Nat) : List Int :=
  let x := streamShape p.last
  let g := x.2.1
  ((scrambler (scrambleSeed (c % 2 ^ 32)) 1944).zipIdx).map fun b =>
    let pos := streamPos g x.1 c b.2
    let block := ((p.blocks.find? fun y => y.1 == pos / (1944 * g) % 512).map Prod.snd).getD []
    let v := block.getD (pos % (1944 * g)) 0
    if b.1 then -v else v

/-- The information bits of codewords `first` to `last` of a stream behind their pointers, where every one decodes (R264). -/
def streamBits (p : StreamRx) (first last : Nat) : Option (List Bool) :=
  let w := (List.range (last + 1 - first)).map fun i => Config.ldpcWord (codeRate p.last.mcs) (streamWord p (first + i))
  if w.all Prod.snd then some (w.flatMap fun x => x.1.drop 16) else none

/-- The header that secures a stream packet (R264): CLASS 0, FTYPE 3, its SEQ, DST 0x0000, SEC and STREAM set, its LEN. -/
def packetHeader (src : Nat) (k : Packet) : Header :=
  { cls := 0, ftype := 3, src := src, dst := 0, seq := k.seq, len := k.len, sec := true, stream := true }

/-! ## HARQ (R134, R135, R168) -/

/-- The key of a buffer: (SRC, HARQ_ID), the sources of line link n lying above 65 536 × (n + 1) (R135, R208). -/
def harqKey (fg : Nat) (f : RxFrame) : Nat := (f.src + if fg < 8 then 0 else 65536 * (fg - 7)) * 16 + f.harq % 16

def State.harqOf (s : State) (k : Nat) : Option Harq := Tab.get (fun _ => none) s.rx.harq k

def State.setHarq (s : State) (k : Nat) (h : Option Harq) : State :=
  { s with rx := { s.rx with harq := Tab.set (fun _ => none) s.rx.harq k h } }

/-- Whether a transmission may join a buffer: same SEQ and code rate, within 30 s of line time (R168). -/
def joins (h : Harq) (f : RxFrame) (line : Stamp) : Bool :=
  h.seq == f.seq && h.rate == codeRate f.mcs &&
    decide (stampNs line ≤ stampNs h.first + 30000000000 ∧ stampNs h.first ≤ stampNs line + 30000000000)

/-- Bytes of soft values held: one for each codeword bit. -/
def State.harqBytes (s : State) : Nat := (s.rx.harq.map fun p => match p.2 with
  | none => 0
  | some h => h.soft.length).sum

/-- The oldest buffer. -/
def State.oldestHarq (s : State) : Option Nat :=
  (s.rx.harq.foldl (fun (m : Option (Nat × Nat)) p => match p.2, m with
    | none, _ => m
    | some h, none => some (p.1, stampNs h.first)
    | some h, some x => if stampNs h.first < x.2 then some (p.1, stampNs h.first) else m) none).map Prod.fst

/-- Buffers discarded, oldest first, until the soft values fit the HARQ share of the memory (R135). -/
def State.fitHarq (s : State) : Nat → State
  | 0 => s
  | n + 1 =>
    if s.harqBytes ≤ s.plc.harqMib * 2 ^ 20 then s
    else match s.oldestHarq with
      | none => s
      | some k => (s.setHarq k none).fitHarq n

/-- The soft values a transmission is decoded from: with those of its buffer where it joins one, else its own (R135, R168). -/
def State.combined (s : State) (r : Recep) (f : RxFrame) : List Int :=
  match s.harqOf (harqKey r.fg f) with
  | none => s.codeSoft r f
  | some h => if joins h f r.start then softSum h.soft (s.codeSoft r f) else s.codeSoft r f

/-- HARQ_COMBINE (R135, R168): the buffer after a transmission that did not decode. A matching buffer takes the transmission, and the first line time
moves with one that was earlier on the line (log entry 180); a buffer of the same SEQ and another code rate is discarded, and so is any other that
lies before the transmission in line time, else the transmission is decoded alone and leaves the buffer. A stream frame has none (R127). -/
def State.harqKeep (s : State) (r : Recep) (f : RxFrame) : State :=
  let line := r.start
  let k := harqKey r.fg f
  let fresh : Harq := { seq := f.seq, rate := codeRate f.mcs, first := line, last := line, parts := 1, soft := s.codeSoft r f }
  let start : State → State := fun s => if f.txn = 3 then s.setHarq k none else
    let s1 := s.setHarq k (some fresh); s1.fitHarq s1.rx.harq.length
  if f.stream then s
  else match s.harqOf k with
  | none => start s
  | some h =>
    if joins h f line then
      if f.txn = 3 then s.setHarq k none
      else s.setHarq k (some { h with parts := h.parts + 1, first := if Stamp.le line h.first then line else h.first,
                                      last := if Stamp.le h.last line then line else h.last, soft := s.combined r f })
    else if (h.seq = f.seq ∧ h.rate ≠ codeRate f.mcs) ∨ stampNs h.last < stampNs line then start (s.setHarq k none)
    else s

/-- The buffer after a transmission that ends OK or AUTH_FAIL: discarded where it is that frame's, or where the transmission is of
another frame and later than every one in it (R135, R168). -/
def State.harqDrop (s : State) (r : Recep) (f : RxFrame) : State :=
  if f.stream then s
  else match s.harqOf (harqKey r.fg f) with
  | none => s
  | some h => if h.seq = f.seq ∨ stampNs h.last < stampNs r.start then s.setHarq (harqKey r.fg f) none else s

/-! ## Outcomes (R137) -/

/-- The header of the frame inside a relay frame; none of any other frame (R277). -/
def innerOf (f : RxFrame) : Option InnerHdr := if f.cls = 4 then some (f.inner.getD {}) else none

/-- The source whose key and sequence state apply: the end node of a relay frame, else SRC (R277). -/
def sourceOf (f : RxFrame) : Nat :=
  match innerOf f with
  | none => f.src
  | some i => i.src

/-- CLASS and FTYPE of what a frame brings: those of the inner frame of a relay frame. -/
def kindOf (f : RxFrame) : Nat × Nat :=
  match innerOf f with
  | none => (f.cls, f.ftype)
  | some i => (i.cls, i.ftype)

/-- LEN of what a frame brings. -/
def lenOf (f : RxFrame) : Nat :=
  match innerOf f with
  | none => f.len
  | some i => i.len

/-- Whether a frame is for the module: an upward relay frame, or any other, sent to it or to all (log entry 187). -/
def forModule (f : RxFrame) : Bool := (f.dst == 0 || f.dst == 0xFFFF) && (f.cls != 4 || f.ftype == 1)

/-- Whether a frame brings data of a node (*FLP-A frame types*). -/
def bringsData (f : RxFrame) : Bool := kindOf f == (0, 0)

/-- The keys a source's frames may be under: the session key of its link, that of the association in progress, that of a node handed over whose
frames are forwarded; the group key for a broadcast (R180, R245, R253, R278). -/
def State.keysFor (s : State) (fg a dst : Nat) : List (List Byte) :=
  let netid := s.netId fg
  let of_ := match s.node a with
    | none => []
    | some n => ((n.sess.map fun k => Config.sessionKey n.eui k.1 k.2 netid a).toList) ++
        (n.assoc.map fun j => Config.sessionKey n.eui j.nn j.nm netid a).toList
  let passed := ((s.forwards a).map fun h => Config.sessionKey h.eui h.sess.1 h.sess.2 netid a).toList
  if dst = 0xFFFF then (s.mac.gkey.map Config.groupKey).toList else of_ ++ passed

/-- The keys of a frame: those of its source, or the Guyline link key on a line link (R208). -/
def State.frameKeys (s : State) (fg a dst : Nat) : List (List Byte) :=
  if fg < 8 then s.keysFor fg a dst else (Tab.get (fun _ => none) s.gl.keys ((fg - 4) * 1024 + a % 1024)).toList

/-- Whether the payload is secured: SEC, or the inner frame of a relay frame. -/
def secured (f : RxFrame) : Bool := f.sec || (innerOf f).isSome

/-- The header that secures the inner frame of a relay frame (R123, R277). -/
def innerHeader (i : InnerHdr) : Header :=
  { cls := i.cls, ftype := i.ftype, src := i.src, dst := i.dst, seq := i.seq, len := i.len, sec := true }

/-- A secured text judged: no key, a wrong tag, a wrong CRC, or all in order (rows 3 to 5 of *Reception outcomes*). -/
def State.openOutcome (s : State) (fg : Nat) (keys : List (List Byte)) (h : Header) (text : List Nat) : Status × Option (Option Nat) :=
  if keys = [] then (.authFail, some none)
  else match openUnder keys (s.netId fg) h text with
    | none => (.authFail, none)
    | some t => if checkHolds h.len t then (.ok, none) else (.checkFailClean, none)

/-- The outcome of a frame whose header passes, from its soft values with those of its HARQ buffer (R137). Of a relay frame the inner frame is
opened behind the route header of 17 bytes and its own header of 12 (R277). -/
def State.bodyOutcome (s : State) (r : Recep) (f : RxFrame) : Status × Option (Option Nat) :=
  let d := decodeWords (codeRate f.mcs) (s.combined r f) (f.len + 4 + if f.sec then 16 else 0)
  if d.1 = false then (.checkFail, none)
  else if f.sec then s.openOutcome r.fg (s.frameKeys r.fg f.src f.dst) (headerOf f) d.2
  else if checkHolds f.len d.2 = false then (.checkFailClean, none)
  else match innerOf f with
    | none => (.ok, none)
    | some i => s.openOutcome r.fg (s.frameKeys r.fg i.src i.dst) (innerHeader i) ((d.2.drop 29).take (i.len + 20))

/-- The outcome of *Reception outcomes* up to row 5 for a frame as it is judged, with the missing item of a deferred-list entry (R154). A stream frame
is judged by its header alone, what it carries packet by packet (R264) (log entry 190). -/
def State.outcome (s : State) (r : Recep) (x : RxFrame × Option Int) : Status × Option (Option Nat) :=
  if s.retained r.fg r.start = false then (.lookbackExpired, none)
  else if x.2.isSome then (.ok, none)
  else match s.header r x.1 with
    | .fails => (.headerFail, none)
    | .lacks id => (.headerFail, some (some id))
    | .passes => if x.1.stream then (.ok, none) else s.bodyOutcome r x.1

/-- The outcome of a standard-mode reception (R220): the pack's own checks (log entry 49). -/
def State.stdOutcome (s : State) (r : Recep) (f : RxFrame) : Status :=
  if s.retained r.fg r.start = false then .lookbackExpired else if f.stdHdr = false then .headerFail else if f.stdClean = false then .checkFail
  else if f.stdTag = false then .authFail else if f.stdCrc = false then .checkFailClean else .ok

/-- A standard-mode frame its pack accepted goes to the host (chapter 07); one that joins a device gives it its short address (R222). -/
def State.stdAccept (s : State) (r : Recep) (f : RxFrame) : State :=
  (match f.joins with
   | none => s
   | some eui => s.joinStandard r.fg eui).toHost f.src f.len f.svc f.seq

/-- A span covered by a reception that ended OK or REPLAY (R165). -/
def State.cover (s : State) (r : Recep) : State :=
  { s with rx := { s.rx with covered := s.rx.covered ++ [(r.fg, r.start, stampOf r.need)] } }

/-- A frame found by a rescan counted. -/
def State.countFound (s : State) (r : Recep) : State :=
  let bump : Nat → Rescan → Rescan := fun id x => if x.id = id then { x with found := x.found + 1 } else x
  match r.origin with
  | .rescan id => { s with rx := { s.rx with rescans := s.rx.rescans.map (bump id) } }
  | _ => s

/-- What an accepted frame does beyond its delivery: presence, the measurements of the neighbour that sent it, phase votes, the group it was first
heard in, the acknowledgements it carries (R174 to R179, R196, R262, R272, R277, R308). -/
def State.heardFrame (s : State) (r : Recep) (f : RxFrame) (a : Nat) : State :=
  let s1 := s.heardOk a r.fg r.start (if a = f.src then some f.snr else none)
  let s2 := ((s1.notePort f.src f.port).noteGroup f.src r.fg).updateRec r f
  let s3 := s2.updateVotes f.src
  if kindOf f = (0, 1) then ((s3.noteAnswer a r.start r.eps f.acks).takeAcks a f.acks).takeDmap a f.ackH f.dmap else s3

/-- Whether a packet of a stream opens (R264): every codeword it lies in decodes, the tag is right under a key of its sender, the CRC holds. -/
def State.packetOpens (s : State) (fg src : Nat) (k : Packet) : Bool :=
  match s.streamOf src with
  | none => false
  | some p => match streamBits p k.first k.last with
    | none => false
    | some bits =>
      let text := toBytes (bits.drop k.ofs) (6 + k.len + 20)
      text.take 6 == beBytes 2 k.len ++ beBytes 4 k.seq && decide (k.len ≤ 4096) &&
        (s.openOutcome fg (s.keysFor fg src 0) (packetHeader src k) (text.drop 6)).1 == .ok

/-- The packets of a stream frame judged one by one (R264): delivered at most once each; where one waits for a checkpoint, it and those behind it are
left. -/
def State.judgePackets (s : State) (r : Recep) (f : RxFrame) (late : Bool) : List Packet → State × List Packet
  | [] => (s, [])
  | k :: t =>
    if s.packetOpens r.fg f.src k then
      let x := s.judgeFrame { src := f.src, fg := r.fg, seq := k.seq, txn := 0, harq := 0, line := r.start, data := true, len := k.len,
                              svc := f.svc, ackReq := false, late := late }
      match x.2 with
      | none => (x.1, k :: t)
      | some _ => x.1.judgePackets r f late t
    else s.judgePackets r f late t

/-- A frame of a node whose ownership has passed on sent to its new owner undelivered (R278). -/
def State.forwardOn (s : State) (h : HandOut) (f : RxFrame) (line : Stamp) : State :=
  s.glTraffic h.target (.traffic h.eui f.svc f.seq (lenOf f) line)

/-- LAT_UL judged for a frame that ended OK from a transmission received live, not found late and not decoded from a repetition (R383) (log entry 133). -/
def State.judgeLive (s : State) (r : Recep) (f : RxFrame) (late ok : Bool) : State :=
  if ok && !late && f.txn == 0 && (f.stream || bringsData f) then s.judgeUp (sourceOf f) r.fg f.svc (stampOf r.need) else s

/-- The key of the receive state of a sender on a line link. -/
def lineKey (r : Recep) (f : RxFrame) : Nat := (r.fg - 8) * 65536 + f.src

/-- The receive state of a sender on a line link. -/
def State.lineState (s : State) (r : Recep) (f : RxFrame) : SeqState := Tab.get (fun _ => {}) s.rx.lineSeq (lineKey r f)

def State.setLineState (s : State) (r : Recep) (f : RxFrame) (q : SeqState) : State :=
  { s with rx := { s.rx with lineSeq := Tab.set (fun _ => {}) s.rx.lineSeq (lineKey r f) q } }

/-- What a judged frame of a line link does. -/
def State.lineVerdict (s : State) (r : Recep) (f : RxFrame) (late : Bool) : Verdict → State
  | .deliver => ((s.setLineState r f (acceptSeq (s.lineState r f) f.seq r.start)).cover r).endRecep r .ok late f.src f.seq
  | .replay => (s.cover r).endRecep r .replay late f.src f.seq
  | .expired => s.endRecep r .lookbackExpired late f.src f.seq

/-- A frame of a line link that all checks passed: accepted at most once for each (SRC, SEQ) (R136, R208) (log entry 189). -/
def State.endLine (s : State) (r : Recep) (f : RxFrame) (late : Bool) : State :=
  s.lineVerdict r f late (judgeSeq (s.lineState r f) f.seq f.txn r.start)

/-- An unsecured frame of FLP-A that all checks passed: it is exempt from replay rejection; a known sender is owed its acknowledgement (R137, R257). -/
def State.endOpen (s : State) (r : Recep) (f : RxFrame) (late : Bool) : State :=
  let s1 := if (s.node f.src).isSome then s.oweAck f.src f.ackReq late { seq := f.seq, harq := f.harq, result := 0, txn := f.txn } else s
  ((s1.countFound r).cover r).endRecep r .ok late f.src f.seq

/-- A stream frame (R127, R264): its super-blocks are entered, its packets judged. -/
def State.endStream (s : State) (r : Recep) (f : RxFrame) (late : Bool) : State :=
  let x := (s.enterStream r f).judgePackets r f late f.packets
  if x.2 = [] then
    (((x.1.heardFrame r f f.src).countFound r).cover r).endRecep r .ok late f.src f.seq |>.judgeLive r f late true
  else x.1.setRecep { r with wait := .checkpoint { f with packets := x.2 } }

/-- The end of a native FLP-A frame that all checks passed: forwarded, exempt from replay rejection, or judged by the MAC. -/
def State.endOk (s : State) (r : Recep) (f : RxFrame) (late : Bool) : State :=
  let a := sourceOf f
  if forModule f = false then ((s.countFound r).cover r).endRecep r .ok late f.src f.seq
  else match s.forwards a with
  | some h => ((s.forwardOn h f r.start).cover r).endRecep r .ok late a f.seq
  | none =>
    if f.stream then s.endStream r f late
    else if secured f then
      let x := s.judgeFrame { src := a, fg := r.fg, seq := f.seq, txn := f.txn, harq := f.harq, line := r.start, data := bringsData f,
                              len := lenOf f, svc := f.svc, ackReq := f.ackReq, late := late }
      match x.2 with
      | none => x.1.setRecep { r with wait := .checkpoint f }
      | some st =>
        let s1 := if st = .ok then (x.1.heardFrame r f a).countFound r else x.1
        (if st = .ok ∨ st = .replay then s1.cover r else s1).endRecep r st late a f.seq |>.judgeLive r f late (st = .ok)
    else s.endOpen r f late

/-- The end of a native reception with its outcome (R137, R154): a failed check keeps the soft values and asks for a NACK, AUTH_FAIL discards them. -/
def State.endNative (s : State) (r : Recep) (f : RxFrame) (o : Status × Option (Option Nat)) : State :=
  let late := s.lateFound r r.need
  let s1 := match o.2 with
    | none => s
    | some m => if r.fg < 8 then s.defer r.fg { start := r.start, src := f.src, tmid := m } else s
  let nack : State → State := fun s =>
    s.oweAck (sourceOf f) (f.ackReq && decide (r.fg < 8)) late { seq := f.seq, harq := f.harq, result := 1, txn := f.txn }
  match o.1 with
  | .checkFail => (nack (s1.harqKeep r f)).endRecep r .checkFail late f.src f.seq
  | .checkFailClean => (nack (s1.harqKeep r f)).endRecep r .checkFailClean late f.src f.seq
  | .authFail => (s1.harqDrop r f).endRecep r .authFail late f.src f.seq
  | .ok => if r.fg < 8 then (s1.harqDrop r f).endOk r f late else (s1.harqDrop r f).endLine r f late
  | st => s1.endRecep r st late (if crcHdr f then f.src else 0) (if crcHdr f then f.seq else 0)

/-- RECEPTION_END (R137, R142): `f` is what the reception read and measured. One whose frame reaches past the write position waits for its end. -/
def receptionEnd (rec : Nat) (f : RxFrame) (s : State) : State :=
  match s.recep rec with
  | none => s
  | some r =>
    if r.wait ≠ .none then s
    else if r.std then
      let st := s.stdOutcome r f
      (if st = .ok then s.stdAccept r f else s).endRecep r st (s.lateFound r (stampNs f.fin)) f.src f.seq
    else
      let x := s.readFrame r f
      let o := s.outcome r x
      let fin := if o.1 = .headerFail ∨ o.1 = .lookbackExpired then stampNs r.start + headerNs r.fg else rxEnd r x.1
      if o.1 ≠ .lookbackExpired ∧ s.written r.fg < fin then s.setRecep { r with wait := .ring, need := fin }
      else
        let eps := x.2.getD ((s.acquire r.fg f.ppm f.snr).elim 0 Prod.fst)
        s.drew.endNative { r with need := fin, eps := eps } x.1 o

/-- CHECKPOINT_WAIT_RESUME (R259): the frame is judged again once a checkpoint holds its SEQ; ABANDONED when its node was
released. -/
def checkpointWaitResume (rec : Nat) (s : State) : State :=
  match s.recep rec with
  | none => s
  | some r =>
    match r.wait with
    | .checkpoint f =>
      match s.node (sourceOf f) with
      | none => s.endRecep r .abandoned false (sourceOf f) f.seq
      | some n =>
        if n.seq.ckRx then s else s.endOk { r with wait := .none } f (s.lateFound r r.need)
    | _ => s

/-! ## Meanings -/

def execReceptionEnd (rec : Nat) (f : RxFrame) (s : State) : Host.Outcome State Fault Refusal :=
  .next (receptionEnd rec f s)

def execCheckpointWaitResume (rec : Nat) (s : State) : Host.Outcome State Fault Refusal :=
  .next (checkpointWaitResume rec s)

end Sys2Proof.Machine
end

