-- ==== Sys2Proof/Machine/Frames.lean ====
section
/-! DEFINITION. Frames the module sends: scheduling, start and end, acknowledgements (R25, R85, R101, R182, R198, R225, R251,
R259, R261, R280, R556). -/

namespace Sys2Proof.Machine

open Sys2Proof

/-! ## Scheduling -/

/-- The enabled L ports of a group that can transmit access frames. -/
def State.beaconPorts (s : State) (fg : Nat) : List Nat := (s.groupPorts fg).filter fun p => (s.port p).path == 1

/-- Whether port `p` can take a frame for a path (R217, R556): in service and not held for a calibration (R344), of role L or MV, its TXPATH as written the frame's. -/
def State.portTakes (s : State) (path p : Nat) : Bool :=
  decide (p < 24) && s.portOn p && !s.calHolds p && decide (1 ≤ s.portRole p ∧ s.portRole p ≤ 4) && s.fld F.LP_CFG_TXPATH p != 0 &&
  s.fld F.LP_CFG_TXPATH p == path

/-- The highest single-stream MCS of 3 to 15 an untracked node's header SNR allows (R198). -/
def State.untrackedMcs (s : State) (snr : Int) : Option Nat :=
  ((List.range 13).filter fun i => decide (16 * mcsNeeds (i + 3) + s.margin ≤ snr)).getLast?.map fun i => i + 3

/-- The MCS of a frame: of a sounding that of MDM_SNDCFG; 0 where no route is left (R277); computed for an untracked node (R198); else the
scheduler's choice. -/
def State.mcsFor (s : State) (f : Frame) (mcs : Nat) : Nat :=
  match f.body with
  | .sounding _ _ => s.fld F.MDM_SNDCFG_MCS 0
  | _ => match s.node f.dst with
    | none => mcs
    | some n => if n.robust then 0 else if (s.recOf f.dst).isNone then (s.untrackedMcs n.snr).getD mcs else mcs

/-- Bodies that go out to a node that is absent. -/
def forAbsent (b : Body) : Bool :=
  match b with
  | .wakePattern _ => true
  | .wakeTiming => true
  | _ => false

/-- Whether a frame to an address without a node goes out: ASSOC_RESP to an unassigned node, wake patterns, and a LEAVE or
HANDOVER_NOTICE that was secured before its address was released. -/
def outlivesNode (f : Frame) : Bool :=
  match f.body with
  | .wakePattern _ => true
  | .mgmt (.assocResp _ _ _ _) => true
  | .mgmt (.leave _) => f.seq.isSome
  | .mgmt (.handoverNotice _ _) => f.seq.isSome
  | _ => false

/-- Bodies that go to a node while it is being handed over (R278). -/
def duringHandover (b : Body) : Bool :=
  match b with
  | .ack _ _ _ => true
  | .mgmt _ => true
  | _ => false

/-- Whether a frame waits (R231 to R278): for the network to run, for its node to be present and hold a key, for a handover to
end; a message of an association goes out before there is a key. -/
def State.frameHeld (s : State) (f : Frame) : Bool :=
  !s.runsFlpa f.fg || (s.reg .MAC_SEED_LO 0 == 0 && s.reg .MAC_SEED_HI 0 == 0) ||
  (if f.dst = 0xFFFF then false
   else match s.node f.dst with
    | none => !outlivesNode f
    | some n =>
      (n.state == .absent && !forAbsent f.body) || (n.state == .handing && f.seq.isNone && !duringHandover f.body) ||
      (n.sess.isNone && n.assoc.isNone && f.seq.isNone))

/-- Whether an MCS may be used for a frame: a tone map it names is held and not suspended (R188, R193, R199), two streams go to a node that takes
them and no broadcast (R116), a HARQ retransmission keeps its code rate (R134). -/
def State.mcsUsable (s : State) (f : Frame) (mcs : Nat) : Bool :=
  (decide (mcs < 24) || (!s.maps.suspended && match s.dlMap f.dst with
    | none => false
    | some m => mcs == (if m.two then 28 else 24) + m.rate)) &&
  (!twoStreams mcs || match s.node f.dst with
    | none => false
    | some n => n.cap.testBit 2) &&
  (f.txn == 0 || codeRate mcs == codeRate f.mcs)

/-! ## Ports (R119, R120, R193, R198) -/

/-- The ports of a group's lines L1 to L3 that take a frame for a path, with their lines from 0. -/
def State.linesOf (s : State) (fg path : Nat) : List (Nat × Nat) :=
  (List.range 3).filterMap fun i => ((s.phasePort fg (i + 1)).filter (s.portTakes path)).map fun p => (i, p)

/-- The ports of a frame: every line for a broadcast, for a node of unknown phase and at MCS 0 without a route (R120, R198, R277); the line of an
untracked node's phase; for a tracked one whose estimate is confident the line, or the two lines, that reach it best (R193); else those the scheduler
names. Of columns of equal power the lower line comes first (log entry 185). -/
def State.portsFor (s : State) (f : Frame) (two : Bool) (path : Nat) (ports : List Nat) : List Nat :=
  let lines := s.linesOf f.fg path
  let every := if lines = [] then ports else lines.map Prod.snd
  match s.node f.dst with
  | none => if f.dst = 0xFFFF then every else ports
  | some n =>
    if n.robust then every
    else match s.recOf f.dst with
      | none => if n.phase = 3 then every else match lines.find? fun x => x.1 == n.phase with
        | some x => [x.2]
        | none => every
      | some r =>
        if s.confMin ≤ r.2.mconf ∧ rowMeasured r.2 r.2.txp0 = true ∧ lines ≠ [] then
          (bestLines r.2.mimo (if two then 2 else 1) (lines.map Prod.fst)).filterMap fun i => (lines.find? fun x => x.1 == i).map Prod.snd
        else if n.phase = 3 ∧ two = false then every
        else ports

/-- A frame with the shape the scheduler gives it. -/
def State.shaped (s : State) (f : Frame) (ports : List Nat) (path cycle slot mcs cgFirst cgLast : Nat) (cp : Bool) : Frame :=
  { f with ports := s.portsFor f (twoStreams mcs) path ports, path := path, cycle := cycle, slot := slot, mcs := mcs, cgFirst := cgFirst,
           cgLast := cgLast, cp := cp, tmid := ((s.dlMap f.dst).map ToneMap.tmid).getD 0 }

/-- Whether a shape can be sent: carrier groups in the mask, two ports for two streams and one or three for one (R119, R120). -/
def State.shapeOk (s : State) (f : Frame) : Bool :=
  decide (s.fld F.MDM_BANDSTAT_MASK_LO f.fg ≤ f.cgFirst ∧ f.cgFirst ≤ f.cgLast ∧ f.cgLast ≤ s.fld F.MDM_BANDSTAT_MASK_HI f.fg) &&
  (if twoStreams f.mcs then f.ports.length == 2 else f.ports.length != 2)

/-! ## Soundings (R182) -/

/-- The slot of tail symbol `q` of a sounding of `nsym` payload symbols that starts in slot `k`: of its centre (R100). -/
def tailSlot (mhz nsym : Nat) (cp : Bool) (k q : Nat) : Nat := sentSlot mhz k 4 cp (nsym + q)

/-- NSND (R182): the least count of tail symbols for which every slot holds `hits` centres, at most 512 − NSYM. -/
def nsndFor (mhz nsym : Nat) (cp : Bool) (k hits : Nat) : Nat :=
  let most := 512 - nsym
  ((List.range (most + 1)).find? fun n => (List.range 12).all fun j =>
    decide (hits ≤ ((List.range n).filter fun q => tailSlot mhz nsym cp k q == j).length)).getD most

/-- A frame with its payload symbols known: a sounding gets its NSND. -/
def State.sized (s : State) (f : Frame) (nsym : Nat) : Frame :=
  { f with nsym := nsym, body := match f.body with
    | .sounding req _ => .sounding req (nsndFor (s.fld F.LP_ZCFREQ_MHZ f.fg) nsym f.cp f.slot (s.fld F.MDM_SNDCFG_HITS 0 + 1))
    | b => b }

/-! ## Length, sequence number, HARQ process -/

/-- Positions that 512 payload symbols of a frame hold (R124). -/
def State.txMost (s : State) (f : Frame) : Nat :=
  let nd := (s.air f.fg).dataCount f.cgFirst f.cgLast
  if f.mcs ≤ 3 then 512 / repeatT f.mcs * (nd / min (repetition f.mcs) 4)
  else if f.mcs ≤ 23 then 512 * nd * mcsBits f.mcs * (if twoStreams f.mcs then 2 else 1)
  else ((List.range 512).map fun p => loadsSum (s.txLoads f p)).sum

/-- LEN of the longest frame of a shape that 512 symbols hold (R124). -/
def State.txRoom (s : State) (f : Frame) : Nat :=
  s.txMost f / 1944 * infoBits (codeRate f.mcs) / 8 - if bodySec f then 20 else 4

/-- COUNTER_LIMIT_LEAVE (R261): a transmit counter within 2^17 of 2^32 sends LEAVE with reason 2, one at a time. -/
def State.limitLeave (s : State) (dst : Nat) : State :=
  match s.node dst with
  | none => s
  | some n =>
    if 2 ^ 32 - 2 ^ 17 ≤ n.seq.tx ∧ s.lin.frames.any (fun f => f.dst == dst && f.body == .mgmt (.leave 2)) = false then
      s.sendMgmt dst (.leave 2)
    else s

/-- A data frame cut to what 512 symbols hold; the rest waits as a frame of its own (R124) (log entry 56). -/
def State.splitFrame (s : State) (f : Frame) (seq : Nat) : State × Frame :=
  match f.body with
  | .data svc len =>
    let fit := len - (s.bodyLen f - s.txRoom f)
    if 0 < fit ∧ fit < len then
      (s.addFrame { f with body := .data svc (len - fit), firstSeq := some (f.firstSeq.getD seq), seq := none, ports := [], state := .waiting },
       { f with body := .data svc fit })
    else (s, f)
  | _ => (s, f)

/-- The lowest HARQ process of a node that no frame of it holds (R134) (log entry 191); a relay frame has 0. -/
def State.freeHarq (s : State) (f : Frame) : Option Nat :=
  if f.relay != [] then some 0
  else (List.range 16).find? fun i => !(s.lin.frames.any fun g => g.dst == f.dst && g.seq.isSome && g.harq == i)

/-- A frame given its SEQ and HARQ process (R134, R257, R259): its own on a HARQ retransmission, else the next value of its counter and a free
process. -/
def State.giveSeq (s : State) (f : Frame) : Option (State × Frame) :=
  match f.seq with
  | some _ => some (s, f)
  | none =>
    match s.usable f.dst, s.freeHarq f with
    | some v, some h =>
      let x := (s.takeSeq f.dst).splitFrame f v
      some (x.1.limitLeave f.dst, { x.2 with seq := some v, firstSeq := some (f.firstSeq.getD v), harq := h })
    | _, _ => none

/-- A wake pattern with its start: it goes out on every enabled L port of its group, in no cell (R269) (log entry 199). -/
def State.wakeShaped (s : State) (f : Frame) (cycle slot : Nat) : Frame :=
  { f with ports := s.beaconPorts f.fg, path := 1, cycle := cycle, slot := slot, state := .scheduled }

/-- Whether a frame with its shape and start set may be sent there: in its cells, beside the other frames (R247 to R249, R251). -/
def State.mayPlace (s : State) (f : Frame) : Bool := s.cellsAllow f && s.lineFree f

/-- FRAME_SCHEDULE (R119, R120, R124, R193, R225, R239, R247, R259, R556): refused with DENIED where a port cannot transmit it; left waiting where it
must wait, does not fit 512 symbols, its cells or the frames beside it; else it has its SEQ, ports, shape and start. -/
def frameSchedule (frame : Nat) (ports : List Nat) (path cycle slot mcs cgFirst cgLast : Nat) (cp : Bool) (s : State) : State :=
  match s.frame frame with
  | none => s
  | some f =>
    if f.state ≠ .waiting ∨ ports = [] then s
    else if s.flag F.MDM_BANDSTAT_TX_OFF f.fg || !ports.all (s.portTakes path) then s.endFrame f .denied
    else if isWake f.body then (if s.frameHeld f then s else s.setFrame (s.wakeShaped f cycle slot))
    else
      let g := s.shaped f ports path cycle slot (s.mcsFor f mcs) cgFirst cgLast cp
      if s.frameHeld f || !s.mcsUsable f g.mcs || !s.shapeOk g then s
      else match s.giveSeq g with
        | none => s
        | some x => match x.1.txNsym x.2 with
          | none => s
          | some n =>
            let y := x.1.sized x.2 n
            if x.1.mayPlace y then x.1.setFrame { y with state := .scheduled } else s

/-- FRAME_NOT_STAGED (R25): not started, LATE is set, the SEQ it carried is not used again: its data goes out as a new frame, a HARQ retransmission
too; SEQ 0 is no counter value. A secured frame whose node is gone ends (log entry 54). -/
def frameNotStaged (frame : Nat) (s : State) : State :=
  match s.frame frame with
  | none => s
  | some f =>
    if f.state = .scheduled then
      let fresh := f.seq != some 0
      let s1 := s.setStats 20 1 1 f.ports
      if fresh && f.dst != 0xFFFF && (s.node f.dst).isNone then s1.endFrame f .abandoned
      else s1.setFrame { f with state := .waiting, ports := [], txn := 0, harq := 0, seq := if fresh then none else f.seq,
                                firstSeq := if fresh ∧ f.resent = 0 ∧ f.txn = 0 then none else f.firstSeq }
    else s

/-! ## On the line -/

/-- Samples a staging buffer of 64 KiB holds for a path: complex samples of 4 bytes at 2 MS/s, or real ones of 2 bytes at 128 MS/s (R24)
(log entry 172). -/
def stagingRoom (path : Nat) : Nat := if path = 2 then 32768 else 16384

/-- The factor by which island 5 interpolates a path (R24). -/
def interpolation (path : Nat) : Nat := if path = 2 then 2 else 128

/-- The staging buffers of the ports of a list filled with the first samples of a frame. -/
def State.stageOn (s : State) (path n : Nat) : List Nat → State
  | [] => s
  | p :: t => (s.setPort p { s.port p with staged := min n (stagingRoom path), interp := interpolation path }).stageOn path n t

/-- The own-transmission span of a group opened where none is open (R80). -/
def openSpan (l : List OwnSpan) (fg now : Nat) : List OwnSpan :=
  if l.any fun o => o.fg == fg && o.until_ == none then l else l ++ [{ fg := fg, since := now }]

/-- A frame released to the DAC on its ports (R24, R73, R80, R84, R85): its samples staged, PA_EN_n asserted, a port that is idle starts at
ATTEN unless the frame joins it to a set that stands folded back, whose level it takes; the group is suppressed. -/
def State.launch (s : State) (f : Frame) : State :=
  let idle := f.ports.filter fun p => !s.onAir p
  let s1 := (((s.setFrame { f with state := .running }).stageOn f.path (s.txSamples f) f.ports).setPa true f.ports).setStats 8 8 0 idle
  let set := s1.foldSet f.ports 3
  let s2 := s1.setStats 8 8 (s1.setDb set) set
  { s2 with lin := { s2.lin with ownTx := if s2.lin.ownTx.contains f.fg then s2.lin.ownTx else s2.lin.ownTx ++ [f.fg],
                                 ownSpans := openSpan s2.lin.ownSpans f.fg (stampNs s2.now) } }

/-- TX_FRAME_START (R101, R99, R217, R383): at the slot boundary it was scheduled for, on ports whose path is in force. -/
def txFrameStart (frame : Nat) (s : State) : State :=
  match s.frame frame with
  | none => s
  | some f =>
    let t := s.tracker f.fg
    if f.state = .scheduled ∧ t.everLocked = true ∧ t.cyc = f.cycle ∧ t.slot = f.slot ∧
        f.ports.all (fun p => s.portOn p && (s.port p).path == f.path) = true then ((s.launch f).noteRequest f).judgeDown f
    else s

/-- TX_FRAME_END (R85, R251, R280): the last sample has left; a frame that asks for an acknowledgement waits for it, any other
completes OK; a sleepy node is told when nothing more waits (R267). -/
def txFrameEnd (frame : Nat) (s : State) : State :=
  match s.frame frame with
  | none => s
  | some f =>
    if f.state = .running then
      let s1 := s.leaveLine f
      if f.ackReq then s1.setFrame { f with state := .sent } else (s1.endFrame f .ok).tellEmpty f
    else s

/-- ACK_TIMEOUT (R251): no acknowledgement by the end of the window, the fourth cycle after that of the last sample; the transmission counts as NACKed. -/
def ackTimeout (frame : Nat) (s : State) : State :=
  match s.frame frame with
  | none => s
  | some f => if f.state = .sent ∧ 4 < s.sinceSent f then s.nackFrame f else s

/-- UPLINK_ACK_SEND (R251): up to eight entries go to a node in one acknowledgement frame, with H and DMAP of its receive state (R262). -/
def uplinkAckSend (saddr : Nat) (s : State) : State :=
  match Tab.get (fun _ => []) s.mac.acks saddr with
  | [] => s
  | l =>
    let q := (s.node saddr).elim ({} : SeqState) Node.seq
    ({ s with mac := { s.mac with acks := Tab.set (fun _ => []) s.mac.acks saddr (l.drop 8) } }).sendTo saddr
      (.ack q.h (q.win.extractLsb' 0 32) (l.take 8)) false .none

/-! ## FRAME_SEND -/

/-- A FRAME_SEND served (R280): DENIED for class 2 or above, or a node not associated to this module; LIMIT where only the
reserve of descriptors is free (log entry 53). -/
def State.sendData (s : State) (src : Src) (gaddr svc dclass len : Nat) : State :=
  match (s.localAddr gaddr) with
  | none => s.complete src .denied []
  | some a =>
    if 2 ≤ dclass ∨ len = 0 ∨ s.associated a = false then s.complete src .denied []
    else if s.fbdFree ≤ 8192 then s.complete src .limit []
    else s.sendTo a (.data svc len) (dclass == 1) src

/-- FRAME_SEND (R280): a command whose turn it is. -/
def frameSend (src : Src) (gaddr svc dclass len : Nat) (s : State) : State :=
  if s.starts src 0x10 then (s.start src).sendData src gaddr svc dclass len else s

/-! ## Meanings -/

def execFrameSchedule (frame : Nat) (ports : List Nat) (path : Nat) (cycle : Nat) (slot : Nat) (mcs : Nat) (form : FrameForm) (s : State) :
    Host.Outcome State Fault Refusal :=
  .next (frameSchedule frame ports path cycle slot mcs form.cgFirst form.cgLast form.cp s)

def execFrameNotStaged (frame : Nat) (s : State) : Host.Outcome State Fault Refusal := .next (frameNotStaged frame s)

def execTxFrameStart (frame : Nat) (s : State) : Host.Outcome State Fault Refusal := .next (txFrameStart frame s)

def execTxFrameEnd (frame : Nat) (s : State) : Host.Outcome State Fault Refusal := .next (txFrameEnd frame s)

def execUplinkAckSend (saddr : Nat) (s : State) : Host.Outcome State Fault Refusal := .next (uplinkAckSend saddr s)

def execAckTimeout (frame : Nat) (s : State) : Host.Outcome State Fault Refusal := .next (ackTimeout frame s)

def execFrameSend (src : Src) (gaddr : Nat) (svc : Nat) (dclass : Nat) (len : Nat) (s : State) : Host.Outcome State Fault Refusal :=
  .next (frameSend src gaddr svc dclass len s)

end Sys2Proof.Machine
end

