-- ==== Sys2Proof/Machine/Beacons.lean ====
section
/-! DEFINITION. Beacons (R237 to R245), check-ins that pass, quarantine (R235, R272) and what each beacon interval counts. -/

namespace Sys2Proof.Machine

open Sys2Proof

/-! ## Beacon settings (R238, R240) -/

/-- The stored form of MAC_BCNCFG: IVL 1 to 15 as 16. -/
def bcnForm (w : Word) : Word := if 1 ≤ getBits w 0 8 ∧ getBits w 0 8 < 16 then putBits w 0 8 16 else w

/-- Whether a setting is accepted (R238, R240): the beacon set inside the mask in force, no span longer than IVL. -/
def State.bcnAccepted (s : State) (fg : Nat) (w : Word) : Bool :=
  decide (getBits w 16 6 ≤ getBits w 24 6) && (maskOf (bandOf (s.bandInForce fg))).isSome &&
  decide (s.fld F.MDM_BANDSTAT_MASK_LO fg ≤ getBits w 16 6 ∧ getBits w 24 6 ≤ s.fld F.MDM_BANDSTAT_MASK_HI fg) &&
  decide (nbOf (s.mains fg) w (discovers w) ≤ ivlOf w)

/-! ## Rendezvous guard (R266) -/

/-- The guard G in µs of a period of 2^pexp beacons, for a node's drift and the module's, both in ppm: 2 (D_n + D_m) I + 2 ms.
Under time partition the REPEAT of the PRIME frames is added; its length is open, as is the rounding to whole µs (log entries 42, 60). -/
def State.guardUs (s : State) (fg pexp dn dm : Nat) : Nat :=
  let cycles := 2 ^ pexp * ivlOf (s.reg .MAC_BCNCFG fg)
  -- the nominal cycle is 20 000 µs at 50 Hz and 50 000 / 3 µs at 60 Hz
  let num := 2 * (dn + dm) * cycles * (if s.mains fg < 55000 then 60000 else 50000)
  let us := num / 3000000 + (if num % 3000000 = 0 then 0 else if Config.roundUp s.free pexp then 1 else 0) + 2000
  if (bandOf (s.bandInForce fg)).part = 1 then us + Config.freeNat s.free else us

/-- RENDEZVOUS_SET for a node's schedule. -/
def State.sendSet (s : State) (a : Nat) (n : Node) (r : Rdv) : State :=
  s.drew.sendMgmt a (.rendezvousSet r.pexp r.phase r.sidx r.outPexp r.outPhase r.outSidx
    (s.guardUs n.fg r.pexp n.drift (s.fld F.MAC_SLEEPCFG_SCHED_PPM 0)) (s.guardUs n.fg r.outPexp n.drift 1) n.waddr)

/-- RENDEZVOUS_SET sent again to every node of the groups of a list (R266). -/
def State.resendSets (s : State) (fgs : List Nat) : List (Nat × Option Node) → State
  | [] => s
  | (_, none) :: t => s.resendSets fgs t
  | (a, some n) :: t => match n.rdv with
    | none => s.resendSets fgs t
    | some r => (if fgs.contains n.fg then s.sendSet a n r else s).resendSets fgs t

/-- MAC_BCNCFG_WRITE (R238, R240, R266). -/
def macBcncfgWrite (fg : Nat) (who : Who) (value : Word) (s : State) : State :=
  s.gated who .MAC_BCNCFG fg fun s =>
    let old := s.reg .MAC_BCNCFG fg
    let w := bcnForm (plainWrite .MAC_BCNCFG old value)
    if s.bcnAccepted fg w then
      let s1 := s.setReg .MAC_BCNCFG fg w
      if ivlOf w = ivlOf old then s1 else s1.resendSets [fg] s1.mac.nodes
    else s.event .denied pageMac [(4, fg)]

/-! ## Check-ins (R265, R272) -/

/-- Whether a superframe holds a scheduled check-in of a node (log entry 58). -/
def State.checkinAt (s : State) (n : Node) (bnum : Nat) : Bool :=
  bnum % max 1 (s.fld F.MAC_CHKCFG_CHECKIN_IVL 0) == 0 || (nodeSleepy n && s.dueAt n bnum)

/-- A node as a new superframe begins: its last check-in is owed when it was not met. -/
def State.nextFrame (s : State) (fg bnum : Nat) (n : Node) : Node :=
  if n.fg = fg ∧ isAssociated n = true then
    { n with owed := n.owed || (n.sched && !n.met), sched := s.checkinAt n bnum, met := false,
             absentFor := if n.state = .absent then n.absentFor + 1 else n.absentFor }
  else n

/-- The sleep indexes with downlink waiting at a beacon (R265). -/
def State.pendAt (s : State) (fg bnum : Nat) : List Nat :=
  s.mac.nodes.filterMap fun p => match p.2 with
    | none => none
    | some n => match n.rdv with
      | none => none
      | some r =>
        if n.fg = fg ∧ s.dueAt n bnum = true ∧ s.lin.frames.any (fun f => f.dst == p.1 && f.state == FrameState.waiting) = true then
          some (if s.zcHold fg then r.outSidx else r.sidx)
        else none

/-- The triggers that stage the QUEUED entries of the nodes of a group (R286). -/
def State.stagesAt (s : State) (fg bnum : Nat) : List LTrigger :=
  s.mac.nodes.flatMap fun p => match p.2 with
    | none => []
    | some n =>
      if n.fg = fg ∧ tokenNode n (s.dueAt n bnum) = true then (s.toStage (s.globalAddr p.1)).map LTrigger.stage else []

/-! ## The network beacon -/

/-- Whether the network of a group runs: FLP-A available, a profile, a seed, a tracker that has locked, a port (R96, R99, R225,
R232). -/
def State.netRuns (s : State) (fg : Nat) : Bool :=
  s.runsFlpa fg && !s.flag F.MDM_BANDSTAT_TX_OFF fg &&
  !(s.reg .MAC_SEED_LO 0 == 0 && s.reg .MAC_SEED_HI 0 == 0) && (s.tracker fg).everLocked && !(s.beaconPorts fg).isEmpty &&
  (s.pwr.mode == .serve || s.pwr.mode == .surge || s.pwr.mode == .ember)

/-- The group key, made where there is none (R245) (log entry 61). -/
def State.ensureKey (s : State) : State :=
  match s.mac.gkey with
  | some _ => s
  | none => { s.drew with mac := { s.mac with gkey := some (Config.freeNat s.free) } }

/-- Whether a change of the group key is under way that a group has not activated yet (R245). -/
def State.rolling (s : State) (fg : Nat) : Bool :=
  match s.mac.roll with
  | none => false
  | some t => Tab.get (fun _ => 0) t fg != 1

/-- Whether the beacon of a group is due: its cycle has come, or has passed while none could be sent (R237) (log entry 59). -/
def beaconDue (at_ : Option Nat) (cyc : Nat) : Bool :=
  match at_ with
  | none => true
  | some a => decide ((cyc + 2 ^ 40 - a % 2 ^ 40) % 2 ^ 40 < 2 ^ 39)

/-- FLAGS of a network beacon (R244): MAPRESET, TPART valid, KEYROLL, ASSOC, ZC_HOLD, TIME_HOLD, OUTAGE, GKPH. -/
def State.beaconFlags (s : State) (fg : Nat) : Nat :=
  let bit : Bool → Nat → Nat := fun b n => if b then 2 ^ n else 0
  let ember := s.pwr.mode == .ember
  bit (Tab.get (fun _ => 0) s.mac.mapReset fg != 0) 0 + bit ((bandOf (s.bandInForce fg)).part == 1) 1 + bit (s.rolling fg) 2 +
  bit (s.flag F.MAC_BCNCFG_ASSOC_OPEN fg && !ember) 3 + bit (s.zcHold fg) 4 + bit (s.cmp.state == .holdover) 5 + bit ember 6 +
  bit (s.mac.gkph != (match s.mac.roll with
    | none => false
    | some t => Tab.get (fun _ => 0) t fg == 1)) 7

/-- A checkpoint of BNUM and the broadcast counter started when the counter of a group comes near its limit (R259). -/
def State.ckBnum (s : State) (fg bnum : Nat) : State :=
  if Tab.get (fun _ => 0) s.mac.bnumC fg + seqMark ≤ bnum ∧ s.mac.ckBnum = false then
    let c := (List.range 8).map fun g => Tab.get (fun _ => 0) s.mac.bnumC g + if g = fg then seqSpan else 0
    let s1 := s.checkpoint s.mac.bctrC c []
    { s1 with mac := { s1.mac with ckBnum := true } }
  else s

/-- A frame put on the line at once. -/
def State.sendNow (s : State) (f : Frame) : State :=
  let id := s.lin.nextFrame
  let s1 := s.addFrame f
  match s1.frame id with
  | none => s1
  | some g => s1.launch { g with nsym := (s1.txNsym g).getD 0 }

/-- What each beacon interval of a group counts down: MAPRESET, quarantines, releases of records (R197, R235, R244). -/
def State.countDown (s : State) (fg : Nat) : State :=
  let quar := s.mac.quar.map fun p => match p.2 with
    | none => p
    | some q => if q.2.1 = fg then (p.1, some (q.1, q.2.1, q.2.2 - 1)) else p
  let recs := s.maps.recs.map fun p => match p.2 with
    | none => p
    | some r => if r.fg = fg then (p.1, some { r with releasing := r.releasing.map fun n => n - 1 }) else p
  { s with
    mac := { s.mac with quar := quar,
                        mapReset := Tab.set (fun _ => 0) s.mac.mapReset fg (Tab.get (fun _ => 0) s.mac.mapReset fg - 1) }
    maps := { s.maps with recs := recs } }

/-- The allocation map of a group's next superframe as the scheduler builds it: MAPVER goes up when its entries change (R246). -/
def State.setEntries (s : State) (fg : Nat) (entries : List Nat) (tpart : Nat × Nat × Nat) : State :=
  let old := Tab.get (fun _ => []) s.mac.entries fg
  { s with mac := { s.mac with
      entries := Tab.set (fun _ => []) s.mac.entries fg entries
      tpart := Tab.set (fun _ => (0, 0, 0)) s.mac.tpart fg tpart
      mapVer := if entries = old then s.mac.mapVer
        else Tab.set (fun _ => 0) s.mac.mapVer fg ((Tab.get (fun _ => 0) s.mac.mapVer fg + 1) % 256) } }

/-- NETWORK_BEACON (R237, R238, R246): at the slot 0 boundary IVL cycles after the one before, with the entries and TPART the scheduler has built
for the superframe it opens (log entry 59). -/
def networkBeacon (fg : Nat) (entries : List Nat) (tpart : Nat × Nat × Nat) (s : State) : State :=
  let t := s.tracker fg
  let bnum := (s.reg .MAC_BNUM fg).toNat + 1
  let at_ := Tab.get (fun _ => none) s.mac.beaconAt fg
  if s.netRuns fg && t.slot == 0 && beaconDue at_ t.cyc && decide (bnum < Tab.get (fun _ => 0) s.mac.bnumC fg + seqSpan) then
    match s.usable 0xFFFF with
    | none => s
    | some seq =>
      let ivl := ivlOf (s.reg .MAC_BCNCFG fg)
      let s0 := (s.ensureKey.takeSeq 0xFFFF).setReg .MAC_BNUM fg (BitVec.ofNat 32 bnum)
      let s1 := s0.setEntries fg (entries.take 6) tpart
      let s2 := s1.sendNow { id := 0, fg := fg, dst := 0xFFFF, seq := some seq, mcs := 1, ports := s1.beaconPorts fg, cycle := t.cyc,
                             cgFirst := s1.fld F.MAC_BCNCFG_BCG_FIRST fg, cgLast := s1.fld F.MAC_BCNCFG_BCG_LAST fg,
                             body := .netBeacon
                               { bnum := bnum, btime := (s.cmp.sec, s.cmp.ns), ivl := ivl, flags := s1.beaconFlags fg, epoch := s1.epoch,
                                 ver := Tab.get (fun _ => 0) s1.mac.mapVer fg, tpart := Tab.get (fun _ => (0, 0, 0)) s1.mac.tpart fg,
                                 pend := s1.pendAt fg bnum, entries := Tab.get (fun _ => []) s1.mac.entries fg } }
      let s3 := { s2 with mac := { s2.mac with
        beaconAt := Tab.set (fun _ => none) s2.mac.beaconAt fg (some ((t.cyc + ivl) % 2 ^ 40))
        ivl := Tab.set (fun _ => 0) s2.mac.ivl fg ivl
        supers := Tab.set (fun _ => []) s2.mac.supers fg (s2.now :: (Tab.get (fun _ => []) s2.mac.supers fg).take 1)
        nodes := s2.mac.nodes.map fun (p : Nat × Option Node) => (p.1, p.2.map (s2.nextFrame fg bnum)) } }
      ((s3.countDown fg).ckBnum fg bnum).ledgerTriggers (s3.stagesAt fg bnum)
  else s

/-- The entries of a discovery beacon: the first two of KIND 1 (*Discovery beacon body*). -/
def State.assocEntries (s : State) (fg : Nat) : List Nat :=
  ((Tab.get (fun _ => []) s.mac.entries fg).filter fun v => (entryOf v).kind == 1).take 2

/-- DISCOVERY_BEACON (R240, R243): at the first slot 0 boundary after the network beacon of a discovery superframe; none in EMBER
nor where the span would exceed IVL, which is posted once with LIMIT. BTIME is that of its own first sample (log entry 203). -/
def discoveryBeacon (fg : Nat) (s : State) : State :=
  let w := s.reg .MAC_BCNCFG fg
  let bnum := (s.reg .MAC_BNUM fg).toNat
  if s.netRuns fg && (s.tracker fg).slot == 0 && discovers w && s.pwr.mode != .ember && bnum % max 1 (getBits w 8 8) == 0 &&
      bnum != 0 && Tab.get (fun _ => 0) s.mac.disc fg != bnum && !(s.lin.frames.any fun f => f.fg == fg && f.state == FrameState.running) then
    let s1 := { s with mac := { s.mac with disc := Tab.set (fun _ => 0) s.mac.disc fg bnum } }
    if nbOf (s.mains fg) w true ≤ ivlOf w then
      ({ s1 with mac := { s1.mac with discLimit := Tab.set (fun _ => false) s1.mac.discLimit fg false } }).sendNow
        { id := 0, fg := fg, dst := 0xFFFF, seq := some 0, mcs := 1, ports := s1.beaconPorts fg, cycle := (s.tracker fg).cyc,
          cgFirst := s1.fld F.MAC_BCNCFG_BCG_FIRST fg, cgLast := s1.fld F.MAC_BCNCFG_BCG_LAST fg,
          body := .discBeacon bnum (s.cmp.sec, s.cmp.ns) (ivlOf w) (s.assocEntries fg) }
    else if Tab.get (fun _ => false) s1.mac.discLimit fg then s1
    else ({ s1 with mac := { s1.mac with discLimit := Tab.set (fun _ => false) s1.mac.discLimit fg true } }).event .limit pageMac
      [(4, fg)]
  else s

/-! ## Meanings -/

def execNetworkBeacon (plan : BeaconPlan) (s : State) : Host.Outcome State Fault Refusal :=
  .next (networkBeacon plan.fg plan.entries plan.tpart s)

def execDiscoveryBeacon (fg : Nat) (s : State) : Host.Outcome State Fault Refusal := .next (discoveryBeacon fg s)

def execMacBcncfgWrite (fg : Nat) (who : Who) (value : Word) (s : State) : Host.Outcome State Fault Refusal :=
  .next (macBcncfgWrite fg who value s)

end Sys2Proof.Machine
end

