-- ==== Sys2Proof/Machine/Assoc.lean ====
section
/-! DEFINITION. Association, keys and the release of addresses (R234, R235, R245, R252 to R256, R261, R274). -/

namespace Sys2Proof.Machine

open Sys2Proof

/-! ## The release of addresses (R235) -/

/-- The waiting receptions of a source. -/
def State.waitingOf (s : State) (a : Nat) : List Recep :=
  s.rx.open_.filter fun r => match r.wait with
    | .checkpoint f => sourceOf f == a
    | _ => false

/-- What is known of a node outside the node table forgotten. -/
def State.forget (s : State) (a : Nat) : State :=
  { s with
    mac := { s.mac with acks := Tab.set (fun _ => []) s.mac.acks a [] }
    maps := { s.maps with wanting := s.maps.wanting.filter (fun x => x != a), soundings := s.maps.soundings.filter (fun x => x != a) }
    fm := { s.fm with sets := s.fm.sets.filter (fun x => x.saddr != a), ports := Tab.set (fun _ => []) s.fm.ports a [],
                      posted := Tab.set (fun _ => 0) s.fm.posted a 0 } }

/-- A handover of a node that has not passed its release record ended, since the node is gone; its command completes ABANDONED. -/
def State.endHandOut (s : State) (a : Nat) : State :=
  match s.mac.handOut.find? fun h => h.saddr == a && !h.landed with
  | none => s
  | some h => ({ s with mac := { s.mac with handOut := s.mac.handOut.erase h } }).complete h.src .abandoned []

/-- ADDRESS_RELEASE (R235): keys and sequence state gone, the channel record released, ledger entries settled, frames to the node
ended, its waiting receptions ABANDONED (R259), the address in quarantine. -/
def State.releaseAddr (s : State) (a : Nat) (quar : Bool) : State :=
  match s.node a with
  | none => s
  | some n =>
    let s1 := ((s.endReceps .abandoned (s.waitingOf a)).releaseRecOf a).endHandOut a
    let s2 := s1.setNode a none
    let s3 := s2.endFrames .abandoned (s2.lin.frames.filter fun f => f.dst == a && !outlivesNode f)
    let s4 := (s3.forget a).ledgerTrigger (.released (s3.globalAddr a))
    let q := 16 * s4.fld F.MAC_CHKCFG_QUAR 0
    if quar && q != 0 then s4.setQuar a (some (n.eui, n.fg, q)) else s4

/-- QUARANTINE_EXPIRE (R235): the quarantine of an address has run out. -/
def quarantineExpire (saddr : Nat) (s : State) : State :=
  match s.quarantine saddr with
  | none => s
  | some q => if q.2.2 = 0 then s.setQuar saddr none else s

/-! ## Association (R252 to R256) -/

/-- Associations pending in a group. -/
def State.pendingIn (s : State) (fg : Nat) : Nat :=
  (s.mac.nodes.filter fun p => match p.2 with
    | none => false
    | some n => match n.assoc with
      | none => false
      | some j => j.fg == fg).length

/-- ASSOC_RESP, unsecured with SEQ 0, to an unassigned node. -/
def State.assocResp (s : State) (fg eui nm saddr result : Nat) : State :=
  s.addFrame { id := 0, fg := fg, dst := 0xFFFE, body := .mgmt (.assocResp eui nm saddr result), seq := some 0 }

/-- A request of an EUI-64 that is not provisioned (R252): nothing is sent; ASSOC_DENIED, and one event record in 60 s. -/
def State.denyAssoc (s : State) (eui : Nat) : State :=
  let s1 := s.setFld F.MAC_STAT_ASSOC_DENIED 0 1
  let recent := s1.mac.denied.filter fun d => decide (s1.cmp.sec < d.2 + 60)
  if recent.any (fun d => d.1 == eui) then s1
  else ({ s1 with mac := { s1.mac with denied := recent ++ [(eui, s1.cmp.sec)] } }).event .denied pageMac [(8, eui)]

/-- The address an EUI-64 gets: its own, its address in quarantine, or a free one. -/
def State.addrFor (s : State) (eui : Nat) : Option Nat :=
  match s.addrOf eui with
  | some a => some a
  | none => match s.quarOf eui with
    | some a => some a
    | none => s.freeAddr

/-- Forwarding of an address ended, since it has a new holder (R278). -/
def State.endForward (s : State) (a : Nat) : State :=
  { s with mac := { s.mac with handOut := s.mac.handOut.filter fun h => !(h.saddr == a && h.landed) } }

/-- An association begun: nonce NM is free, the node is in the table, ASSOC_RESP goes out (log entry 62). -/
def State.beginAssoc (s : State) (fg eui a nn cap drift : Nat) (zcofs : Int) : State :=
  let nm := Config.freeNat s.free
  let j : Joining := { nn := nn, nm := nm, bnum := (s.reg .MAC_BNUM fg).toNat, fg := fg, cap := cap, drift := drift, zcofs := zcofs }
  let n := match s.node a with
    | some n => { n with assoc := some j }
    | none => { eui := eui, state := .associating, fg := fg, assoc := some j }
  (((s.drew.setNode a (some n)).setQuar a none).endForward a).assocResp fg eui nm a 0

/-- ASSOC_REQ (R234, R252, R255, R256, R274). -/
def assocReq (fg eui nn cap drift : Nat) (zcofs : Int) (s : State) : State :=
  if !s.flag F.MAC_BCNCFG_ASSOC_OPEN fg || s.pwr.mode == .ember || !s.runsFlpa fg then s
  else if Tab.get (fun _ => none) s.mac.prov eui ≠ some true then s.denyAssoc eui
  else
    let again := match s.addrOf eui with
      | none => false
      | some a => match s.node a with
        | none => false
        | some n => n.assoc.isSome
    if 64 ≤ s.pendingIn fg ∧ again = false then s.assocResp fg eui 0 0xFFFE 2
    else match s.addrFor eui with
      | none => s.assocResp fg eui 0 0xFFFE 2
      | some a => s.beginAssoc fg eui a nn cap drift zcofs

/-- A pending association ended: a node without another session loses its address, without quarantine. -/
def State.endAssoc (s : State) (a : Nat) : State :=
  match s.node a with
  | none => s
  | some n => if n.state = .associating then s.releaseAddr a false else s.setNode a (some { n with assoc := none })

/-- ASSOC_TIMEOUT (R252): 8 beacon intervals since ASSOC_RESP. -/
def assocTimeout (saddr : Nat) (s : State) : State :=
  match s.node saddr with
  | none => s
  | some n => match n.assoc with
    | none => s
    | some j => if j.bnum + 8 ≤ (s.reg .MAC_BNUM j.fg).toNat then s.endAssoc saddr else s

/-- The activation beacon of a change of the group key under way, for a group. -/
def State.rollAt (s : State) (fg : Nat) : Option Nat :=
  match s.mac.roll with
  | none => none
  | some t => match Tab.get (fun _ => 0) t fg with
    | 0 => none
    | b => some b

/-- KEY_CONFIRM (R254 to R256): the tag checks and the nonces match; key confirmation completes (log entry 62). -/
def keyConfirm (saddr fg nn nm : Nat) (s : State) : State :=
  match s.node saddr with
  | none => s
  | some n => match n.assoc with
    | none => s
    | some j =>
      if j.nn = nn ∧ j.nm = nm ∧ s.pwr.mode ≠ .ember then
        let n1 := { n with fg := fg, cap := j.cap, drift := j.drift, zcofs := j.zcofs, zcSet := true, sess := some (nn, nm),
                           assoc := none, seq := {}, miss := 0, met := true, absentFor := 0, since := s.cmp.sec,
                           state := if n.state = .handing then .handing else .active }
        let s1 := ((s.setNode saddr (some n1)).ensureKey).assignRec saddr fg
        let s2 := s1.rescan fg saddr (stampBack s1.now (s1.fld F.MDM_RESCAN_BACK_S 0)) s1.now false false
        let s3 := s2.sendMgmt saddr (.keyConfirmAck s2.epoch s2.mac.bctr s2.mac.gkph)
        match s3.rollAt fg with
        | none => s3
        | some b => s3.sendMgmt saddr (.groupKey (!s3.mac.gkph) b)
      else s

/-! ## The group key (R245) -/

/-- GROUP_KEY sent to every node of a list, with the activation beacon of its group. -/
def State.sendGroupKeys (s : State) (gkph : Bool) (actb : Tab Nat) : List Nat → State
  | [] => s
  | a :: t =>
    (match s.node a with
     | none => s
     | some n => s.sendMgmt a (.groupKey gkph (Tab.get (fun _ => 0) actb n.fg))).sendGroupKeys gkph actb t

/-- The new key in force. -/
def State.rollDone (s : State) : State :=
  { s with mac := { s.mac with gkey := some s.mac.gnext, gkph := !s.mac.gkph, roll := none } }

/-- A group-key change started: a fresh key, at least 16 beacon intervals ahead in every group; how far is open (log entry 64). -/
def State.startRoll (s : State) : State :=
  let ahead := 17 + Config.freeNat s.free
  let groups := (List.range 8).filter fun g => s.runsFlpa g
  let t : Tab Nat := groups.map fun g => (g, (s.reg .MAC_BNUM g).toNat + ahead)
  let s1 := s.drew
  let s2 := { s1.drew with mac := { s1.mac with gnext := Config.freeNat s1.free, roll := some t } }
  let s3 := s2.sendGroupKeys (!s2.mac.gkph) t s2.nodeAddrs
  if groups.isEmpty then s3.rollDone else s3

/-- GROUP_KEY_ACTIVATE (R245): the next beacon of the group is the activation beacon; once every group has activated, the change
is complete (log entry 64). -/
def groupKeyActivate (fg : Nat) (s : State) : State :=
  match s.mac.roll, s.rollAt fg with
  | some t, some b =>
    if b ≠ 1 ∧ b ≤ (s.reg .MAC_BNUM fg).toNat + 1 then
      let t1 := Tab.set (fun _ => 0) t fg 1
      let s1 := { s with mac := { s.mac with roll := some t1 } }
      if t1.all (fun p => p.2 == 1) then s1.rollDone else s1
    else s
  | _, _ => s

/-! ## MAC_NODECMD -/

/-- A write of MAC_NODECMD with GO and an operation: OP is stored; RESULT is 2 in EMBER, else the operation's. -/
def State.nodeCmd (s : State) (who : Who) (op : Nat) (f : Nat → State → State × Nat) : State :=
  s.gated who .MAC_NODECMD 0 fun s =>
    let s1 := s.setFld F.MAC_NODECMD_OP 0 op
    if s1.pwr.mode = .ember then s1.setFld F.MAC_NODECMD_RESULT 0 2
    else
      let x := f (s1.fld F.MAC_NODESEL_SADDR 0) s1
      x.1.setFld F.MAC_NODECMD_RESULT 0 x.2

/-- An operation on a node of the table; RESULT 1 where there is none. -/
def onNode (f : State → Nat → Node → State × Nat) (a : Nat) (s : State) : State × Nat :=
  match s.node a with
  | none => (s, 1)
  | some n => f s a n

/-- NODE_RELEASE (R235): OP 1. -/
def nodeRelease (who : Who) (s : State) : State := s.nodeCmd who 1 (onNode fun s a _ => (s.releaseAddr a true, 0))

/-- LEAVE sent with its sequence number taken while the key is still held; it asks for no acknowledgement, which could no longer
be checked. -/
def State.sendLeave (s : State) (a : Nat) (n : Node) (reason : Nat) : State :=
  match s.usable a with
  | none => s
  | some v =>
    if n.sess.isSome then
      (s.takeSeq a).addFrame { id := 0, fg := n.fg, dst := a, body := .mgmt (.leave reason), seq := some v, firstSeq := some v,
                               relay := n.route }
    else s

/-- NODE_FORCE_REASSOC (R235, R279): OP 3, LEAVE with reason 1, then the address is released. -/
def nodeForceReassoc (who : Who) (s : State) : State :=
  s.nodeCmd who 3 (onNode fun s a n => ((s.sendLeave a n 1).releaseAddr a true, 0))

/-- GROUP_KEY_CHANGE (R245): OP 4; a change under way refuses another (log entry 63). -/
def groupKeyChange (who : Who) (s : State) : State :=
  s.nodeCmd who 4 fun _ s => if s.mac.roll.isSome then (s, 3) else (s.startRoll, 0)

/-! ## Messages -/

/-- LEAVE (R235): a node's own. -/
def leave (saddr reason : Nat) (s : State) : State :=
  if reason ≤ 3 ∧ s.associated saddr then s.releaseAddr saddr true else s

/-- MGMT_INVALID (R279): refused with RESULT 3 in the acknowledgement where one is asked for; an unsecured one is dropped. -/
def mgmtInvalid (saddr seq harq txn : Nat) (sec ackReq : Bool) (s : State) : State :=
  if sec && s.associated saddr then s.oweAck saddr ackReq false { seq := seq, harq := harq, result := 3, txn := txn } else s

/-- NODE_REMOVE (R235, R252): the EUI-64 is no longer provisioned, and its node leaves with reason 1. -/
def nodeRemove (src : Src) (eui : Nat) (s : State) : State :=
  if s.starts src 0x21 then
    let s1 := s.start src
    if (Tab.get (fun _ => none) s1.mac.prov eui).isNone then s1.complete src .denied []
    else
      let s2 := { s1 with mac := { s1.mac with prov := Tab.set (fun _ => none) s1.mac.prov eui none } }
      let s3 := match s2.addrOf eui with
        | none => s2
        | some a => match s2.node a with
          | none => s2
          | some n => (s2.sendLeave a n 1).releaseAddr a true
      s3.complete src .ok []
  else s

/-! ## Meanings -/

def execAssocReq (fg : Nat) (eui : Nat) (nn : Nat) (cap : Nat) (drift : Nat) (zcofs : Int) (s : State) : Host.Outcome State Fault Refusal :=
  .next (assocReq fg eui nn cap drift zcofs s)

def execAssocTimeout (saddr : Nat) (s : State) : Host.Outcome State Fault Refusal := .next (assocTimeout saddr s)

def execKeyConfirm (saddr : Nat) (fg : Nat) (nn : Nat) (nm : Nat) (s : State) : Host.Outcome State Fault Refusal :=
  .next (keyConfirm saddr fg nn nm s)

def execQuarantineExpire (saddr : Nat) (s : State) : Host.Outcome State Fault Refusal := .next (quarantineExpire saddr s)

def execGroupKeyChange (who : Who) (s : State) : Host.Outcome State Fault Refusal := .next (groupKeyChange who s)

def execGroupKeyActivate (fg : Nat) (s : State) : Host.Outcome State Fault Refusal := .next (groupKeyActivate fg s)

def execNodeRelease (who : Who) (s : State) : Host.Outcome State Fault Refusal := .next (nodeRelease who s)

def execNodeForceReassoc (who : Who) (s : State) : Host.Outcome State Fault Refusal := .next (nodeForceReassoc who s)

def execLeave (saddr : Nat) (reason : Nat) (s : State) : Host.Outcome State Fault Refusal := .next (leave saddr reason s)

def execMgmtInvalid (saddr : Nat) (seq : Nat) (harq : Nat) (txn : Nat) (sec : Bool) (ackReq : Bool) (s : State) : Host.Outcome State Fault Refusal :=
  .next (mgmtInvalid saddr seq harq txn sec ackReq s)

def execNodeRemove (src : Src) (eui : Nat) (s : State) : Host.Outcome State Fault Refusal := .next (nodeRemove src eui s)

end Sys2Proof.Machine
end

