-- ==== Sys2Proof/Machine/Grid.lean ====
section
/-! DEFINITION. Grid sense (chapter 11, R314 to R335): crosspoint, sources, settling and ranging, samples. -/

namespace Sys2Proof.Machine

open Sys2Proof

/-- Channel `n`. -/
def State.gsCh (s : State) (n : Nat) : GsCh := Tab.get (fun _ => {}) s.gs n

def State.setGsCh (s : State) (n : Nat) (c : GsCh) : State := { s with gs := Tab.set (fun _ => {}) s.gs n c }

/-- A field of a configuration in force. -/
def cfgRate (w : Word) : Nat := getBits w 8 4
def cfgFilt (w : Word) : Nat := getBits w 12 2
def cfgNotch (w : Word) : Nat := getBits w 14 2
def cfgCharge (w : Word) : Bool := getBits w 1 1 == 1

/-- Output rates in samples per second, by RATE (*Output rates*). -/
def gsRate (code : Nat) : Nat := [64000, 32000, 16000, 8000, 4000, 2000, 1000, 500, 250, 100, 50, 10].getD code 10

/-- The flush count F (*Settling and ranging*) (log entry 81). -/
def flushCount (w : Word) : Nat :=
  let base := [3, 10, 34].getD (cfgFilt w) 34
  let f := [1, 50, 60, 45].getD (cfgNotch w) 45
  if cfgNotch w = 0 then base else base + (4 * gsRate (cfgRate w) + f - 1) / f

/-- The frequencies of the notch sections of a configuration in mHz (R322), the tracker at `zc` mHz: the fundamental and its harmonics up to NHARM,
none above 0.4 × the output rate. -/
def notchSections (w : Word) (zc : Nat) : List Nat :=
  let f := [0, 50000, 60000, zc].getD (cfgNotch w) 0
  if f = 0 then [] else ((List.range (getBits w 16 4)).map fun i => (i + 1) * f).filter fun m => decide (m ≤ 400 * gsRate (cfgRate w))

/-- The notch sections of channel `n`: NOTCH 3 follows the tracker of group NFG, through holdover too (R322). -/
def State.gsNotches (s : State) (n : Nat) : List Nat :=
  notchSections (s.gsCh n).cfg (s.fld F.LP_ZCFREQ_MHZ (getBits (s.gsCh n).cfg 20 3))

/-- The stored form of GS_CFG. -/
def gsCfgForm (w : Word) : Word :=
  let w1 := if 6 ≤ getBits w 29 3 then putBits w 29 3 0 else w
  let w2 := if 18 ≤ getBits w1 24 5 then putBits w1 24 5 0 else w1
  let w3 := if getBits w2 16 4 = 0 then putBits w2 16 4 1 else w2
  let w4 := if getBits w3 7 1 = 1 then putBits w3 14 2 0 else w3
  let w5 := if getBits w4 12 2 = 3 then putBits w4 12 2 2 else w4
  let w6 := if 12 ≤ getBits w5 8 4 then putBits w5 8 4 11 else w5
  if getBits w6 1 1 = 1 ∧ 4 ≤ getBits w6 4 3 then putBits w6 4 3 3 else w6

/-- GS_CFG as it applies: in WATCH a rate code below 6 runs at 1 kS/s (R334). -/
def State.gsCfgNow (s : State) (n : Nat) : Word :=
  let w := s.reg .GS_CFG n
  if s.pwr.mode = .watch ∧ cfgRate w < 6 then putBits w 8 4 6 else w

/-- The bits of GS_CFG whose change is a change under R325: EN, MODE, RATE, FILT, NOTCH, NHARM, NFG. -/
def settlingBits (w : Word) : Word := w &&& 0x007FFF03#32

/-- A write of a register of GS under R35. -/
def State.gsWrite (s : State) (who : Who) (r : Reg) (n : Nat) (f : State → State) : State := s.gated who r n f

/-- The effect of a written GS_CFG: its RANGE waits for the next boundary (log entry 78). -/
def State.putGsCfg (s : State) (n : Nat) (w : Word) : State :=
  let w1 := gsCfgForm w
  (s.setReg .GS_CFG n w1).setGsCh n { s.gsCh n with rangeTo := some (getBits w1 4 3) }

/-- GS_CFG_WRITE (R317, R323, R325, R327). -/
def gsCfgWrite (channel : Nat) (who : Who) (value : Word) (s : State) : State :=
  s.gsWrite who .GS_CFG channel fun s => s.putGsCfg channel (plainWrite .GS_CFG (s.reg .GS_CFG channel) value)

/-- GS_XPT_WRITE (R315, R316): the crosspoint gives input roles only, which any pin may hold, so no write of it gives a second driving
role; it is staged. -/
def gsXptWrite (channel : Nat) (who : Who) (value : Word) (s : State) : State :=
  s.gsWrite who .GS_XPT channel fun s => s.store .GS_XPT channel value

/-! ## Sources (R314, R315, R318, R320) -/

/-- The pin of a source, as a mask. -/
def sourcePins (w : Word) : Nat := if getBits w 31 1 = 1 then 2 ^ getBits w 16 5 else 0

/-- The driving pins by role: 0 source A, 1 source B, 2 the voltage source, 3 VBIAS, 4 return. -/
def State.drivenBy (s : State) (role : Nat) : Nat :=
  match role with
  | 0 => sourcePins (s.reg .GS_IEX 0)
  | 1 => sourcePins (s.reg .GS_IEX 1)
  | 2 => sourcePins (s.reg .GS_VEX 0)
  | 3 => (s.reg .GS_BIAS 0).toNat
  | _ => (s.reg .GS_RET 0).toNat

/-- Whether the GS block drives its pins: its domain is on, and no drain has come to its end (R316, R335). -/
def State.gsDrives (s : State) : Bool := s.dom domGs == .on && (!s.draining domGs || (List.range 4).any fun n => (s.gsCh n).on)

/-- The driving role pin `p` holds now; a pin with none is high-impedance (R314, R316). -/
def State.gsPin (s : State) (p : Nat) : Option Nat :=
  if s.gsDrives then (List.range 5).find? fun r => (s.drivenBy r).testBit p else none

/-- The sources that drive a pin, as GS_XPT.SRC numbers them. -/
def State.liveSources (s : State) : Nat :=
  if s.gsDrives then ((List.range 3).map fun r => if s.drivenBy r = 0 then 0 else 2 ^ r).sum else 0

/-- The pins driven by the other roles. -/
def State.drivenElse (s : State) (role : Nat) : Nat := (List.range 5).foldl (fun m r => if r = role then m else m ||| s.drivenBy r) 0

/-- The lowest pin of a mask. -/
def lowestPin (m : Nat) : Nat := ((List.range 32).find? m.testBit).getD 0

/-- Every channel whose SRC lists a source of a mask has a change at its next boundary (R325). -/
def State.sourceMoved (s : State) (mask : Nat) : State :=
  (List.range 4).foldl (fun t n =>
    if t.fld F.GS_XPT_SRC n &&& mask != 0 then t.setGsCh n { t.gsCh n with srcMoved := true } else t) s

/-- A source register and its instance, by role. -/
def sourceReg (role : Nat) : Reg × Nat :=
  match role with
  | 0 => (.GS_IEX, 0)
  | 1 => (.GS_IEX, 1)
  | 2 => (.GS_VEX, 0)
  | 3 => (.GS_BIAS, 0)
  | _ => (.GS_RET, 0)

/-- The stored form: MAG 0 as 1, above 200 as 200. -/
def sourceForm (role : Nat) (w : Word) : Word := if role < 2 then putBits w 0 8 (clampNat 1 200 (getBits w 0 8)) else w

/-- The pins a written value would drive. -/
def sourceMask (role : Nat) (w : Word) : Nat := if role < 3 then sourcePins w else w.toNat

/-- A write of a source register: refused as a whole where a pin would hold a second driving role, else in force at once. -/
def State.writeSource (s : State) (role : Nat) (who : Who) (value : Word) : State :=
  s.gsWrite who (sourceReg role).1 (sourceReg role).2 fun s =>
    let old := s.reg (sourceReg role).1 (sourceReg role).2
    let w := sourceForm role (plainWrite (sourceReg role).1 old value)
    let clash := sourceMask role w &&& s.drivenElse role
    if clash ≠ 0 then (s.setFld F.GS_XSTAT_REFUSED 0 1).event .denied pageGs [(4, lowestPin clash)]
    else
      let s1 := s.setReg (sourceReg role).1 (sourceReg role).2 w
      if w = old then s1 else s1.sourceMoved (if role = 4 then 7 else if role < 3 then 2 ^ role else 0)

/-- SOURCE_WRITE (R318): GS_IEX_0, GS_IEX_1, GS_VEX or GS_BIAS, by role 0 to 3. -/
def sourceWrite (role : Nat) (who : Who) (value : Word) (s : State) : State := s.writeSource (min role 3) who value

/-- GS_RET_WRITE (R320): it counts as a change to every source. -/
def gsRetWrite (who : Who) (value : Word) (s : State) : State := s.writeSource 4 who value

/-! ## Boundaries -/

/-- LINGO (R330). -/
def lingo (channel : Nat) (who : Who) (s : State) : State :=
  s.gsWrite who .GS_CMD channel fun s => s.setGsCh channel { s.gsCh channel with lingo := true }

/-- CHARGE_RESET (R317). -/
def chargeReset (channel : Nat) (who : Who) (s : State) : State :=
  s.gsWrite who .GS_CMD channel fun s => s.setGsCh channel { s.gsCh channel with reset := true }

/-- The staged coefficients of a channel. -/
def State.stagedCoefs (s : State) (n : Nat) : List Word := (List.range 18).map fun k => s.reg .GS_COEF (18 * n + k)

/-- The ring of a channel, made when it is enabled. -/
def State.openGsRing (s : State) (n : Nat) : State :=
  let h := s.prog.nextHandle
  let bank := (pickFrom ((List.range 8).filter fun b => s.serves (domCan b)) (Config.placement s.free h)).getD 0
  let x : Handle := { size := 65536 * 24, place := .canteen bank, hostRead := true }
  ({ s with prog := { s.prog with nextHandle := h + 1, handles := Tab.put s.prog.handles h x } }).setReg .GS_RINGH n (BitVec.ofNat 32 h)

/-- Every change written since the last boundary applied together (R325, R326, R328) (log entry 81). -/
def State.gsApply (s : State) (n : Nat) : State :=
  let c := s.gsCh n
  let w := s.gsCfgNow n
  let x := s.reg .GS_XPT n
  let fresh := !c.on
  let changed := fresh || settlingBits w != settlingBits c.cfg || x != c.xpt || c.srcMoved || (c.reset && cfgCharge w)
  let range := c.rangeTo.getD (if fresh then getBits w 4 3 else c.range)
  let c1 := { c with on := true, cfg := w, xpt := x, range := range, rangeTo := none, srcMoved := false, reset := false, lingo := false,
                     coefs := if c.lingo then s.stagedCoefs n else c.coefs,
                     settle := if changed then flushCount w else c.settle,
                     ranging := if range != c.range && !fresh then flushCount w else c.ranging,
                     high := 0, low := 0, idx := if fresh then 0 else c.idx }
  let s1 := (s.setGsCh n c1).setFld F.GS_STAT_RANGE n range
  if fresh then (s1.openGsRing n).setReg .GS_WIDX n 0 else s1

/-- Whether anything waits for the next boundary of a channel. -/
def State.gsWaits (s : State) (n : Nat) : Bool :=
  let c := s.gsCh n
  !c.on || s.gsCfgNow n != c.cfg || s.reg .GS_XPT n != c.xpt || c.srcMoved || c.reset || c.lingo ||
  (c.rangeTo.isSome && c.rangeTo != some c.range)

/-- GS_CHANGE_APPLY (R316, R325, R328, R330, R334): an output-sample boundary of a channel that converts, or starts to. -/
def gsChangeApply (channel : Nat) (s : State) : State :=
  if decide (channel < 4) && s.flag F.GS_CFG_EN channel && s.dom domGs == .on && !s.draining domGs && !(s.gsCh channel).cal &&
      s.gsWaits channel then s.gsApply channel
  else s

/-! ## Samples (R326, R327, R329 to R333) -/

/-- RAW as a signed number, and its magnitude. -/
def rawAbs (raw : Nat) : Nat := if raw % 2 ^ 24 < 2 ^ 23 then raw % 2 ^ 24 else 2 ^ 24 - raw % 2 ^ 24

/-- The binary32 word of ± m × 2 ^ e: exact where 24 bits hold it, else the neighbour towards zero, or away from it with `up`. -/
def toF32 (neg : Bool) (m : Nat) (e : Int) (up : Bool) : Word :=
  if m = 0 then 0
  else
    let b := m.log2 + 1
    let sig := if b ≤ 24 then m * 2 ^ (24 - b) else m / 2 ^ (b - 24) + if m % 2 ^ (b - 24) ≠ 0 ∧ up = true then 1 else 0
    BitVec.ofNat 32 ((if neg then 2 ^ 31 else 0) + (e + b + 126).toNat * 2 ^ 23 + (sig - 2 ^ 23))

/-- The binary32 word of 25 °C, and that of GS_CJT.TEMP, two's complement in 1/64 °C. -/
def celsius25 : Word := 0x41C80000#32
def cjtTemp (t : Nat) : Word :=
  if t % 2 ^ 16 < 2 ^ 15 then toF32 false (t % 2 ^ 16) (-6) false else toF32 true (2 ^ 16 - t % 2 ^ 16) (-6) false

/-- The input of a sample in volts, or in picocoulombs in charge mode (*Channel ranges*, R329); the rounding is open (log entry 80). -/
def gsInput (charge : Bool) (range raw : Nat) (up : Bool) : Word :=
  let neg := decide (2 ^ 23 ≤ raw % 2 ^ 24)
  if charge then toF32 neg (rawAbs raw * 25 * 10 ^ range) (-23) up else toF32 neg (rawAbs raw * 5) (-24 - (range : Int)) up

/-- The temperature of TSRC and whether it is stale (R332). -/
def State.gsTemp (s : State) (n : Nat) : Word × Bool :=
  let t := getBits (s.gsCh n).cfg 29 3
  let own := cjtTemp (s.fld F.GS_CJT_TEMP 0)
  if t = 0 ∨ t = n + 1 then (own, false)
  else if t = 5 then (celsius25, false)
  else
    let c := s.gsCh (t - 1)
    (c.lastValue.getD celsius25, !(c.on && !c.cal && c.lastClean))

/-- The current of the first current source a channel lists, in 10 µA. -/
def State.gsCurrent (s : State) (n : Nat) : Option Nat :=
  let src := getBits (s.gsCh n).xpt 16 3
  if src.testBit 0 then some (s.fld F.GS_IEX_MAG 0) else if src.testBit 1 then some (s.fld F.GS_IEX_MAG 1) else none

/-- The range of a standard curve in °C (*Standard curves*). -/
def curveRange (lin : Nat) : Int × Int :=
  if lin ≤ 2 then (-200, 850) else if lin ≤ 10 then (-40, 150)
  else [((-200 : Int), (1372 : Int)), (-210, 1200), (-200, 400), (-200, 1300), (-200, 1000), (-50, 1768)].getD (lin - 11) (-50, 1768)

/-- A temperature given in 2^-100 °C as a curve's VALUE: clamped to the nearer end of its range, which sets OUT_RANGE (R331). -/
def curveValue (lin : Nat) (m : Int) (up : Bool) : Word × Bool :=
  let r := curveRange lin
  let word : Int → Int → Word := fun x e => toF32 (decide (x < 0)) x.natAbs e up
  if m < r.1 * 2 ^ 100 then (word r.1 0, true) else if r.2 * 2 ^ 100 < m then (word r.2 0, true) else (word m (-100), false)

/-- VALUE and OUT_RANGE (R329, R331); what the curve or the polynomial gives before that is a function of Config (log entry 80). -/
def State.gsValue (s : State) (n raw : Nat) : Word × Bool :=
  let c := s.gsCh n
  let lin := getBits c.cfg 24 5
  if lin = 0 then
    (gsInput (cfgCharge c.cfg) c.range raw (Config.roundUp s.free (raw % 2 ^ 24 * 16 + c.range * 2 + getBits c.cfg 1 1)), false)
  else if lin = 17 then (Config.gsPoly c.coefs (getBits c.cfg 1 1) c.range raw (s.gsTemp n).1, false)
  else match s.gsCurrent n, decide (lin ≤ 10) with
  | none, true => (0, true)
  | some i, true => curveValue lin (Config.gsCurve lin (getBits c.cfg 1 1) c.range raw i 0) (Config.roundUp s.free raw)
  | _, false => curveValue lin (Config.gsCurve lin (getBits c.cfg 1 1) c.range raw 0 (s.gsTemp n).1) (Config.roundUp s.free raw)

/-- One range less sensitive, and one more; none at the end of the ranges. -/
def lessSensitive (charge : Bool) (r : Nat) : Option Nat := if charge then (if r < 3 then some (r + 1) else none) else if r = 0 then none else some (r - 1)
def moreSensitive (charge : Bool) (r : Nat) : Option Nat := if charge then (if r = 0 then none else some (r - 1)) else if r < 7 then some (r + 1) else none

/-- A range step at this boundary. -/
def rangeStep (c : GsCh) (r : Option Nat) : GsCh :=
  match r with
  | none => { c with high := 0, low := 0 }
  | some r => { c with range := r, ranging := flushCount c.cfg, high := 0, low := 0 }

/-- AUTORANGE_STEP (R327): the channel after a sample; `clean` is that of the sample. -/
def autoRange (c : GsCh) (hold raw : Nat) (overload clean : Bool) : GsCh :=
  let charge := cfgCharge c.cfg
  let a := rawAbs raw
  if getBits c.cfg 2 1 = 0 then c
  else if overload then rangeStep c (lessSensitive charge c.range)
  else if !clean then { c with high := 0, low := 0 }
  else
    let high := if 9 * 2 ^ 23 < 10 * a then c.high + 1 else 0
    let low := if (if charge then decide (100 * a < 6 * 2 ^ 23) else decide (100 * a < 30 * 2 ^ 23)) then c.low + 1 else 0
    if 2 ≤ high then rangeStep c (lessSensitive charge c.range)
    else if hold ≤ low then rangeStep c (moreSensitive charge c.range)
    else { c with high := high, low := low }

/-- The automatic reset of the charge amplifier (R317): the output passes 95 % of full scale. -/
def autoReset (c : GsCh) (raw : Nat) : GsCh :=
  if cfgCharge c.cfg && getBits c.cfg 3 1 == 1 && decide (95 * 2 ^ 23 < 100 * rawAbs raw) && (c.range == 3 || getBits c.cfg 2 1 == 0) then
    { c with settle := flushCount c.cfg }
  else c

/-- FLAGS of a sample record. -/
def gsFlags (settling ranging overload outRange fault stale : Bool) : Nat :=
  let b : Bool → Nat → Nat := fun x n => if x then 2 ^ n else 0
  b settling 0 + b ranging 1 + b overload 2 + b outRange 3 + b fault 4 + b stale 5

/-- The 24 bytes of a sample record. -/
def gsRecord (t : Stamp) (value : Word) (raw range mode flags idx : Nat) : List Byte :=
  natLe 4 t.s ++ natLe 4 t.ns ++ natLe 4 value.toNat ++ natLe 3 raw ++ [BitVec.ofNat 8 (range + 8 * mode), BitVec.ofNat 8 flags, 0, 0, 0] ++
    natLe 4 idx

/-- Faults of the sources noted in GS_XSTAT (R319). -/
def State.gsFaults (s : State) (faults : Nat) : State :=
  let s1 := if faults.testBit 0 then s.setFld F.GS_XSTAT_IA_FAULT 0 1 else s
  let s2 := if faults.testBit 1 then s1.setFld F.GS_XSTAT_IB_FAULT 0 1 else s1
  if faults.testBit 2 then s2.setFld F.GS_XSTAT_VX_FAULT 0 1 else s2

/-- LIMIT posted for an overload that persists at the least sensitive range, at most once a second. -/
def State.gsOverload (s : State) (n : Nat) : State :=
  let c := s.gsCh n
  if getBits c.cfg 2 1 = 1 ∧ (lessSensitive (cfgCharge c.cfg) c.range).isNone = true ∧ c.evtSec ≠ some s.cmp.sec then
    (s.setGsCh n { c with evtSec := some s.cmp.sec }).event .limit pageGs [(4, n)]
  else s

/-- GS_SAMPLE_OUTPUT (R319, R324 to R333): one output sample of a channel; `faults` are the sources out of compliance during it, of which those
that drive a pin count, `cjt` the reading of the on-module sensor. -/
def gsSampleOutput (channel : Nat) (t : Stamp) (raw : Nat) (overload : Bool) (faults cjt : Nat) (s : State) : State :=
  let c := s.gsCh channel
  if !(decide (channel < 4) && c.on && s.dom domGs == .on && !c.cal) then s
  else
    let bad := faults &&& s.liveSources
    let s1 := (s.gsFaults bad).setFld F.GS_CJT_TEMP 0 cjt
    let v := s1.gsValue channel raw
    let clean := c.settle == 0 && c.ranging == 0
    let flags := gsFlags (c.settle != 0) (c.ranging != 0) overload v.2 (getBits c.xpt 16 3 &&& bad != 0) (s1.gsTemp channel).2
    let w := s1.fld F.GS_WIDX_VALUE channel
    let s2 := s1.setBytes (s1.reg .GS_RINGH channel).toNat (24 * w)
      (gsRecord t v.1 raw c.range (getBits c.cfg 1 1) flags c.idx)
    let s3 := (s2.setReg .GS_WIDX channel (BitVec.ofNat 32 ((w + 1) % 65536))).setFld F.GS_STAT_STATUS channel
      (if c.settle != 0 then 7 else if c.ranging != 0 then 8 else 0)
    let s4 := if overload then (s3.setFld F.GS_STAT_OVL channel 1).gsOverload channel else s3
    let c1 := { s4.gsCh channel with settle := c.settle - 1, ranging := c.ranging - 1, idx := (c.idx + 1) % 2 ^ 32,
                                     lastValue := if clean then some v.1 else c.lastValue, lastClean := clean }
    let c2 := autoReset (autoRange c1 (s4.fld F.GS_ARCFG_HOLD 0) raw overload clean) raw
    (s4.setGsCh channel c2).setFld F.GS_STAT_RANGE channel c2.range

/-! ## Draining (R335) -/

/-- A channel stopped: its ring is gone; its last clean value stays for channels that name it (R332). -/
def State.gsStop (s : State) (n : Nat) : State :=
  let h := (s.reg .GS_RINGH n).toNat
  (({ s with prog := { s.prog with handles := Tab.del s.prog.handles h } }).setReg .GS_RINGH n 0).setGsCh n { cal := (s.gsCh n).cal, lastValue := (s.gsCh n).lastValue }

/-- Every source and VBIAS off, every pin high-impedance (log entry 79). -/
def State.sourcesOff (s : State) : State :=
  ((((s.setFld F.GS_IEX_EN 0 0).setFld F.GS_IEX_EN 1 0).setFld F.GS_VEX_EN 0 0).setReg .GS_BIAS 0 0).setReg .GS_RET 0 0

/-- GS_CHANNEL_DRAIN (R335): a channel whose EN is 0, or whose domain drains, stops; with the last one the sources turn off.
Where the domain drains they go off with it, and what the host set stands when it is powered again (R44) (log entry 79). -/
def gsChannelDrain (channel : Nat) (s : State) : State :=
  if (s.gsCh channel).on && (!s.flag F.GS_CFG_EN channel || s.draining domGs) then
    let s1 := s.gsStop channel
    if ((List.range 4).any fun n => (s1.gsCh n).on) || s.draining domGs then s1 else s1.sourcesOff
  else s

/-! ## Meanings -/

def execGsCfgWrite (channel : Nat) (who : Who) (value : Word) (s : State) : Host.Outcome State Fault Refusal :=
  .next (gsCfgWrite channel who value s)

def execGsXptWrite (channel : Nat) (who : Who) (value : Word) (s : State) : Host.Outcome State Fault Refusal :=
  .next (gsXptWrite channel who value s)

def execSourceWrite (role : Nat) (who : Who) (value : Word) (s : State) : Host.Outcome State Fault Refusal :=
  .next (sourceWrite role who value s)

def execGsRetWrite (who : Who) (value : Word) (s : State) : Host.Outcome State Fault Refusal :=
  .next (gsRetWrite who value s)

def execGsChangeApply (channel : Nat) (s : State) : Host.Outcome State Fault Refusal := .next (gsChangeApply channel s)

def execLingo (channel : Nat) (who : Who) (s : State) : Host.Outcome State Fault Refusal := .next (lingo channel who s)

def execChargeReset (channel : Nat) (who : Who) (s : State) : Host.Outcome State Fault Refusal :=
  .next (chargeReset channel who s)

def execGsSampleOutput (channel : Nat) (t : Stamp) (raw : Nat) (overload : Bool) (faults : Nat) (cjt : Nat) (s : State) : Host.Outcome State Fault Refusal :=
  .next (gsSampleOutput channel t raw overload faults cjt s)

def execGsChannelDrain (channel : Nat) (s : State) : Host.Outcome State Fault Refusal := .next (gsChannelDrain channel s)

end Sys2Proof.Machine
end

