-- ==== Sys2Proof/Machine/Calib.lean ====
section
/-! DEFINITION. Calibration (chapter 12, R336 to R347). Offsets, gains and amplitudes are in 1e-9 of full scale or of nominal, voltages
in nV, phases in 1e-6 degree from the design value. -/

namespace Sys2Proof.Machine

open Sys2Proof

/-! ## Tests (R339) -/

/-- The coefficients of a target, in order: ADC offset and gain, amplitudes, phases, DAC offset and gain, ISENSE offset and gain. -/
def calKinds (set target : Nat) : List CalKind :=
  match set with
  | 0 => [.vref, .tone]
  | 1 =>
    let adc := [CalKind.offset, .gain] ++ List.replicate 12 .amplitude ++ List.replicate 12 .phase
    if target < 24 then adc ++ [.offset, .gain, .isenseOffset, .gain] else adc
  | _ => (List.replicate 12 [CalKind.gsOffset, .gsGain]).flatten

/-- Whether measurements A and B of a coefficient agree (CAL_TOL) (log entry 82). -/
def State.calAgrees (s : State) (k : CalKind) (a b : Int) : Bool :=
  let d : Int := (a - b).natAbs
  let sum : Int := (a + b).natAbs
  match k with
  | .vref => decide (2 * d * 1000000 ≤ s.fld F.CAL_TOL_REF 0 * sum)
  | .tone => decide (2 * d * 1000000 ≤ s.fld F.CAL_TOL_REF 0 * sum)
  | .offset => decide (d ≤ s.fld F.CAL_TOL_LP 0 * 100000)
  | .isenseOffset => decide (d ≤ s.fld F.CAL_TOL_LP 0 * 100000)
  | .gain => decide (2 * d * 10000 ≤ s.fld F.CAL_TOL_LP 0 * sum)
  | .amplitude => decide (2 * d * 10000 ≤ s.fld F.CAL_TOL_LP 0 * sum)
  | .phase => decide (d ≤ s.fld F.CAL_TOL_PHASE 0 * 10000)
  | .gsOffset => decide (d ≤ s.fld F.CAL_TOL_GS 0 * 1000)
  | .gsGain => decide (d ≤ s.fld F.CAL_TOL_GS 0 * 1000)

/-- Whether a candidate, given as twice its value, lies in its window (*Plausibility windows*); `amp20` is that of the 20 kHz amplitude.
±1.5 dB is a factor of 10^(3/40) (log entry 82). -/
def calPlausible (amp20 : Int) (k : CalKind) (m : Int) : Bool :=
  match k with
  | .vref => decide (2 * 2487500000 ≤ m ∧ m ≤ 2 * 2512500000)
  | .tone => decide (2 * 490000000 ≤ m ∧ m ≤ 2 * 510000000)
  | .offset => decide (m.natAbs ≤ 2 * 10000000)
  | .isenseOffset => decide (m.natAbs ≤ 2 * 10000000)
  | .gain => decide (2 * 970000000 ≤ m ∧ m ≤ 2 * 1030000000)
  | .amplitude => decide (0 < m ∧ m ^ 40 ≤ 1000 * amp20 ^ 40 ∧ amp20 ^ 40 ≤ 1000 * m ^ 40)
  | .phase => decide (m.natAbs ≤ 2 * 10000000)
  | .gsOffset => decide (m.natAbs ≤ 2 * 5000000)
  | .gsGain => decide (2 * 980000000 ≤ m ∧ m ≤ 2 * 1020000000)

/-- The verdict on measurements: OK, CAL_DISAGREE or CAL_WINDOW, in that order of tests. -/
def State.calVerdict (s : State) (kinds : List CalKind) (meas : List (Int × Int)) : Status :=
  let rows := kinds.zip meas
  let amp20 := ((rows.find? fun r => r.1 == .amplitude).map fun r => r.2.1 + r.2.2).getD 0
  if rows.all fun r => s.calAgrees r.1 r.2.1 r.2.2 then
    if rows.all fun r => calPlausible amp20 r.1 (r.2.1 + r.2.2) then .ok else .calWindow
  else .calDisagree

/-! ## Requests (R338) -/

/-- Whether the beacon interval of a group less its beacon span is shorter than 400 ms. -/
def State.spanTight (s : State) (fg : Nat) : Bool :=
  let w := s.reg .MAC_BCNCFG fg
  decide ((ivlOf w - nbOf (s.mains fg) w (discovers w)) * 10 ^ 12 < 400000000 * s.mains fg)

/-- The refusal of a request, where there is one (*Refused requests*). -/
def State.calRefusal (s : State) (set target : Nat) : Option Status :=
  if set = 3 ∨ (set = 2 ∧ 3 < target) then some .denied
  else if (set = 1 ∧ s.portRetired target = true) ∨ (set = 2 ∧ s.isRetired domGs = true) then some .denied
  else if s.pwr.mode = .ember then some .denied
  else if 8 ≤ s.cal.queue.length then some .limit
  else if set = 1 ∧ s.onlyPort target = true ∧ s.spanTight (s.portFg target) = true then some .denied
  else none

/-- CAL_STAT after a change of the queue or the run. -/
def State.calStat (s : State) : State :=
  (s.setFld F.CAL_STAT_BUSY 0 (if s.cal.run.isSome then 1 else 0)).setFld F.CAL_STAT_QUEUED 0 s.cal.queue.length

/-- The outcome of a request: CAL_STAT, and an event record unless it was refused. -/
def State.calOutcome (s : State) (set target : Nat) (st : Status) : State :=
  (s.setFld F.CAL_STAT_RESULT 0 st.code).event st pageCal [(4, set), (4, target)]

/-- CAL_GO (R338): the request of CAL_CMD is queued or refused. -/
def calGo (who : Who) (value : Word) (s : State) : State :=
  s.gated who .CAL_CMD 0 fun s =>
    let s1 := s.store .CAL_CMD 0 value
    let set := s1.fld F.CAL_CMD_SET 0
    let target := s1.fld F.CAL_CMD_TARGET 0
    let s2 := (s1.setFld F.CAL_STAT_SET 0 set).setFld F.CAL_STAT_TARGET 0 target
    match s2.calRefusal set target with
    | some st => s2.setFld F.CAL_STAT_RESULT 0 st.code
    | none => ({ s2 with cal := { s2.cal with queue := s2.cal.queue ++ [(set, target)] } }).calStat

/-! ## The run (R344 to R346) -/

/-- CALIBRATION_START (R344): the request at the head begins once no frame is in progress on its port, and where the port is the only L port of its
group after a beacon span that leaves it the time. Pitch powers the GS domain (log entry 82). A dwell that a calibration overlaps is discarded (R346). -/
def calibrationStart (s : State) : State :=
  match s.cal.run, s.cal.queue with
  | none, (set, target) :: t =>
    if set = 1 ∧ (s.onAir target = true ∨ (s.onlyPort target = true ∧ s.spanRoom (s.portFg target) = false)) then s
    else
      let off := s.dom domGs == .off
      let run : CalRun := { set := set, target := target, refCnt := (s.reg .CAL_CNT 0).toNat, powered := off }
      let s1 := { s with cal := { s.cal with queue := t, run := some run } }
      let s2 := if off then s1.setDom domGs .on else s1
      let s3 := if set = 1 then (if target < 24 then (s2.setPort target { s2.port target with out := true }).setPa false [target]
          else s2.setPort target { s2.port target with out := true })
        else if set = 2 then
          { s2.setGsCh target { s2.gsCh target with cal := true } with
            fm := { s2.fm with spoiled := target / 2 :: s2.fm.spoiled.filter fun p => p != target / 2 } }
        else s2
      s3.calStat
  | _, _ => s

/-- The run over: the target back in service, the GS domain off again where it was. -/
def State.calRelease (s : State) (r : CalRun) : State :=
  let s1 := { s with cal := { s.cal with run := none } }
  let s2 := if r.set = 1 then s1.setPort r.target { s1.port r.target with out := false }
    else if r.set = 2 then s1.setGsCh r.target { s1.gsCh r.target with cal := false, srcMoved := true }
    else s1
  (if r.powered then s2.setDom domGs .off else s2).calStat

/-- CAL_MEASURE_DONE (R339): measurements A and B of every coefficient in order. -/
def calMeasureDone (meas : List (Int × Int)) (s : State) : State :=
  match s.cal.run with
  | none => s
  | some r =>
    let kinds := calKinds r.set r.target
    if r.phase ≠ .measuring ∨ meas.length ≠ kinds.length then s
    else
      match s.calVerdict kinds meas with
      | .ok =>
        let coefs := meas.map fun m => m.1 + m.2
        let s1 := { s with cal := { s.cal with run := some { r with phase := .committing, coefs := coefs } } }
        s1.submit 2 (r.set * 256 + r.target) 0 (.calibration r.set r.target r.refCnt (min ((s.reg .CAL_CNT r.set).toNat + 1) 0xFFFFFFFF) coefs) 1
      | st =>
        let s1 := s.calOutcome r.set r.target st
        if r.set = 0 then s1.calRelease r else { s1 with cal := { s1.cal with run := some { r with phase := .returning } } }

/-- A set of coefficients in force. -/
def State.setInForce (s : State) (r : CalRun) : State :=
  let x : CalSet := { coefs := r.coefs, refCnt := r.refCnt }
  { s with cal := { s.cal with sets := Tab.set (fun _ => none) s.cal.sets (r.set * 32 + r.target) (some x) } }

/-- The record of a calibration set landed (R341, R342): the count rises, the time is that of the commit, which the target's CAL_INFO_S takes too; a
REF set is in force. -/
def State.calLanded (s : State) (set target refCnt cnt : Nat) (coefs : List Int) : State :=
  let s1 := (s.setReg .CAL_CNT set (BitVec.ofNat 32 cnt)).setReg .CAL_LAST_S set (BitVec.ofNat 32 s.now.s)
  let ns := Tab.set (fun _ => 0) s1.cal.lastNs set s1.now.ns
  let s2 := { s1 with cal := { s1.cal with lastNs := ns, infoS := Tab.set (fun _ => 0) s1.cal.infoS (set * 32 + target) s1.now.s } }
  match s2.cal.run with
  | none => s2
  | some r =>
    if r.set = set ∧ r.target = target ∧ r.phase = .committing then
      let r1 := { r with accepted := true, phase := .returning, refCnt := refCnt, coefs := coefs }
      let s3 := s2.calOutcome set target .ok
      if set = 0 then (s3.setInForce r1).calRelease r1 else { s3 with cal := { s3.cal with run := some r1 } }
    else s2

/-- CAL_TARGET_RETURN (R340, R341): the target returns at its boundary, an accepted set comes into force in one step. -/
def calTargetReturn (s : State) : State :=
  match s.cal.run with
  | none => s
  | some r =>
    if r.phase = .returning then (if r.accepted then s.setInForce r else s).calRelease r else s

/-! ## Interruptions (R347) -/

/-- The running calibration ended with ABANDONED; one that has its outcome already only lets its target go, an accepted set in force (R339, R347;
log entry 83). -/
def State.calAbandon (s : State) : State :=
  match s.cal.run with
  | none => s
  | some r =>
    if r.phase = .returning then (if r.accepted then s.setInForce r else s).calRelease r
    else (s.calOutcome r.set r.target .abandoned).calRelease r

/-- Whether the target of a calibration, or the GS domain it needs, drains or is out of service (R347). -/
def State.calStopped (s : State) (r : CalRun) : Bool :=
  s.draining domGs || s.dom domGs != .on ||
  (r.set == 1 && (s.draining (portUnit r.target) || s.draining (portDom r.target) || s.dom (portDom r.target) != .on || (s.port r.target).stopped ||
    s.portRetired r.target))

/-- Queued requests ended with ABANDONED. -/
def State.calDropQueue (s : State) : List (Nat × Nat) → State
  | [] => s
  | (set, target) :: t => (s.calOutcome set target .abandoned).calDropQueue t

/-- Every request ended: EMBER entry. -/
def State.calAbandonAll (s : State) : State :=
  let q := s.cal.queue
  (({ s.calAbandon with cal := { s.calAbandon.cal with queue := [] } }).calDropQueue q).calStat

/-- CAL_ABANDON (R347): EMBER, or a drain or forced disable of the target port or of the GS domain (log entry 83). -/
def calAbandon (s : State) : State :=
  if s.pwr.mode = .ember then s.calAbandonAll
  else match s.cal.run with
    | none => s
    | some r => if s.calStopped r then s.calAbandon else s

/-- CAL_LAST_S_READ (R342): a read of CAL_LAST_S_n latches CAL_LAST_NS_n. -/
def calLastSRead (set : Nat) (who : Who) (s : State) : State :=
  if s.readable who .CAL_LAST_S set then
    (s.setReg .CAL_LAST_NS set (BitVec.ofNat 32 (Tab.get (fun _ => 0) s.cal.lastNs set))).returns ((s.reg .CAL_LAST_S set).setWidth 64)
  else s.returns 0

/-! ## Meanings -/

def execCalGo (who : Who) (value : Word) (s : State) : Host.Outcome State Fault Refusal := .next (calGo who value s)

def execCalibrationStart (s : State) : Host.Outcome State Fault Refusal := .next (calibrationStart s)

def execCalMeasureDone (meas : List (Int × Int)) (s : State) : Host.Outcome State Fault Refusal :=
  .next (calMeasureDone meas s)

def execCalTargetReturn (s : State) : Host.Outcome State Fault Refusal := .next (calTargetReturn s)

def execCalAbandon (s : State) : Host.Outcome State Fault Refusal := .next (calAbandon s)

def execCalLastSRead (set : Nat) (who : Who) (s : State) : Host.Outcome State Fault Refusal :=
  .next (calLastSRead set who s)

end Sys2Proof.Machine
end

