-- ==== Sys2Proof/Machine/Flags.lean ====
section
/-! DEFINITION. Saturation and the flag it sets (R360 to R362). -/

namespace Sys2Proof.Machine

open Sys2Proof

/-- An integer held between `-hi - 1` and `hi`. -/
def satInt (lo hi x : Int) : Int := if x < lo then lo else if hi < x then hi else x

/-- Saturation to 16 bits (R360). -/
def sat16 (x : Int) : Int := satInt (-32768) 32767 x

/-- Saturation of a soft value: −127 to +127 (R361) (log entry 29). -/
def satSoft (x : Int) : Int := satInt (-127) 127 x

/-- Saturation of an accumulator component: ±(2^47 − 1) (R362). -/
def sat48 (x : Int) : Int := satInt (-(2 ^ 47 - 1)) (2 ^ 47 - 1) x

/-- Whether an accumulator component saturates, which sets ASAT (R362). -/
def over48 (x : Int) : Bool := sat48 x != x

/-- `(x + 2^(b-1)) >> b` with an arithmetic shift; `x` as it is for b = 0 (R360). -/
def roundShift (b : Nat) (x : Int) : Int := if b = 0 then x else (x + 2 ^ (b - 1)) / 2 ^ b

/-- `s` with the ASAT flag of context `k` set when `b` holds. -/
def State.orAsat (s : State) (k : Nat) (b : Bool) : State :=
  s.setCtx k { s.ctx k with asat := (s.ctx k).asat || b }

end Sys2Proof.Machine
end

