-- ==== Sys2Proof/Machine/Idnas.lean ====
section
/-! DEFINITION. Idnas (chapter 13): issue, task faults, scalar and control instructions, loads and stores, the responses of
transactions. -/

namespace Sys2Proof.Machine

open Sys2Proof

/-! ## Tasks and faults -/

/-- Pack `slot`. -/
def State.pack (s : State) (slot : Nat) : Pack := Tab.get (fun _ => {}) s.prog.packs slot

/-- `s` with pack `slot` replaced. -/
def State.setPack (s : State) (slot : Nat) (p : Pack) : State :=
  { s with prog := { s.prog with packs := Tab.set (fun _ => {}) s.prog.packs slot p } }

/-- The transactions a task's end abandons: queue operations of context `k` for task `t` (R31). -/
def State.landQueueOps (s : State) (k t : Nat) : List Txn → State
  | [] => s
  | x :: r => if x.kind = .queueOp k t then (s.land x).landQueueOps k t r else s.landQueueOps k t r

/-- The end of a task with a status (R365): its context is free, its calls run on and their results are discarded (R373). -/
def State.endTask (s : State) (k t status : Nat) : State :=
  let s1 := s.landQueueOps k t s.fab.flight
  let s2 := match s1.task t with
    | none => s1
    | some x => s1.setTask t { x with live := false, endStatus := status }
  let s3 := s2.setCtx k {}
  { s3 with
    prog := { s3.prog with calls := s3.prog.calls.map fun c => if c.place = k then { c with discard := true } else c },
    fab := { s3.fab with waiting := s3.fab.waiting.filter fun p => p.2 != k } }

/-- The end status of a fault cause (*Task faults*). -/
def faultStatus (cause : Nat) : Status := if cause = 5 then .abandoned else .denied

/-- A task fault (R373): ENG_FAULT records it, the task ends, an event record names the task and the cause (log entry 11). -/
def State.taskFault (s : State) (k t : Nat) (x : Task) (cause : Nat) : State :=
  let e := k / 4
  let s1 := ((((s.drew.setFld F.ENG_FAULT_VALID e 1).setFld F.ENG_FAULT_CAUSE e cause).setFld F.ENG_FAULT_CTX e (k % 4)).setFld
    F.ENG_FAULT_SLOT e x.slot).setFld F.ENG_FAULT_TASK e t
  (s1.endTask k t (Status.code (faultStatus cause))).event (faultStatus cause) (pageEng e) [(4, t), (4, cause)]

/-! ## Issue -/

/-- Whether a context may issue: its task lives, it does not wait, debug does not hold it (R461), its engine is powered, and
in EMBER its pack has the EMBER flag (R378). -/
def State.mayIssue (s : State) (k : Nat) (x : Task) : Bool :=
  (s.ctx k).wait == .running && (!(s.ctx k).halted || (s.ctx k).stepOne) && s.dom (k / 4) == .on &&
  (s.pwr.mode != .ember || (s.pack x.slot).image.ember)

/-- Whether a fetch of `n` bytes at the program counter lies within the task's code handle (cause 6). -/
def State.fetchOk (s : State) (k : Nat) (x : Task) (n : Nat) : Bool :=
  match s.handle x.code with
  | none => false
  | some h => (s.ctx k).pc + n ≤ h.size

/-- The program counter of context `k` replaced. -/
def State.setPc (s : State) (k pc : Nat) : State := s.setCtx k { s.ctx k with pc := pc }

/-- An instruction of `words` words reaches issue on context `k` (R349, R350, R358). It does not issue while the context may
not; it faults with cause 6 outside the code handle and with cause 1 where a field check fails; it waits while a register
it reads or writes still has no result; else the program counter moves past it and `body` runs. -/
def State.issue (s : State) (k words : Nat) (regs : List CtxReg) (valid : Bool) (body : State → Nat → Task → State) :
    State :=
  match (s.ctx k).task with
  | none => s
  | some t => match s.task t with
    | none => s
    | some x =>
      if s.mayIssue k x = false then s
      else if s.fetchOk k x (4 * words) = false then s.taskFault k t x 6
      else if valid = false then s.taskFault k t x 1
      else if regs.any (fun r => (s.ctx k).busy.contains r) then s
      else
        let c := s.ctx k
        body (s.setCtx k { c with pc := c.pc + 4 * words, stepOne := false, yielded := false }) t x

/-- The context waits at issue for a tag (R27, R354): its instruction has not issued. -/
def State.waitTag (s : State) (k words : Nat) : State :=
  let c := s.ctx k
  let s1 := s.setCtx k { c with pc := c.pc - 4 * words, wait := .tag }
  { s1 with fab := { s1.fab with waiting := s1.fab.waiting ++ [(k / 4, k)] } }

/-! ## Scalar instructions -/

/-- Signed comparison of scalars. -/
def slt64 (a b : DWord) : Bool := decide (a.toInt < b.toInt)

/-- The count of ones below bit `n`. -/
def onesBelow (v : DWord) : Nat → Nat
  | 0 => 0
  | n + 1 => onesBelow v n + (if v.getLsbD n then 1 else 0)

/-- The zeros above the highest one among the low `n` bits. -/
def leadZeros (v : DWord) : Nat → Nat
  | 0 => 0
  | n + 1 => if v.getLsbD n then 0 else leadZeros v n + 1

/-- The low six bits of a scalar, a shift amount. -/
def shamt (v : DWord) : Nat := v.toNat % 64

/-- A format R scalar instruction with two sources: s[d] = op s[a] s[b]; pg and the type field hold 0. -/
def rr (op : DWord → DWord → DWord) (k : Nat) (f : FmtR) (s : State) : State :=
  s.issue k 1 [.s f.a.toNat, .s f.b.toNat, .s f.d.toNat] (f.pg == 0 && f.ty == 0) fun s _ _ =>
    s.setSr k f.d.toNat (op (s.sr k f.a.toNat) (s.sr k f.b.toNat))

/-- A format R scalar instruction with one source. -/
def ru (op : DWord → DWord) (k : Nat) (f : FmtR) (s : State) : State :=
  s.issue k 1 [.s f.a.toNat, .s f.d.toNat] (f.b == 0 && f.pg == 0 && f.ty == 0) fun s _ _ =>
    s.setSr k f.d.toNat (op (s.sr k f.a.toNat))

/-- A format I instruction: s[d] = op s[a] imm16. -/
def ri (op : DWord → BitVec 16 → DWord) (k : Nat) (f : FmtI) (s : State) : State :=
  s.issue k 1 [.s f.a.toNat, .s f.d.toNat] true fun s _ _ => s.setSr k f.d.toNat (op (s.sr k f.a.toNat) f.imm)

/-- A format I shift: imm16[5:0] is the amount, whatever its other bits hold (R358; log entry 10). -/
def rs (op : DWord → Nat → DWord) (k : Nat) (f : FmtI) (s : State) : State :=
  s.issue k 1 [.s f.a.toNat, .s f.d.toNat] true fun s _ _ =>
    s.setSr k f.d.toNat (op (s.sr k f.a.toNat) (f.imm.toNat % 64))

def idAdd (k : Nat) (f : FmtR) (s : State) : State := rr (fun a b => a + b) k f s
def idSub (k : Nat) (f : FmtR) (s : State) : State := rr (fun a b => a - b) k f s
def idAnd (k : Nat) (f : FmtR) (s : State) : State := rr (fun a b => a &&& b) k f s
def idOr (k : Nat) (f : FmtR) (s : State) : State := rr (fun a b => a ||| b) k f s
def idXor (k : Nat) (f : FmtR) (s : State) : State := rr (fun a b => a ^^^ b) k f s
def idShl (k : Nat) (f : FmtR) (s : State) : State := rr (fun a b => a <<< shamt b) k f s
def idShr (k : Nat) (f : FmtR) (s : State) : State := rr (fun a b => a >>> shamt b) k f s
def idSra (k : Nat) (f : FmtR) (s : State) : State := rr (fun a b => a.sshiftRight (shamt b)) k f s
def idMul (k : Nat) (f : FmtR) (s : State) : State := rr (fun a b => a * b) k f s
def idMulhu (k : Nat) (f : FmtR) (s : State) : State :=
  rr (fun a b => BitVec.ofNat 64 (a.toNat * b.toNat / 2 ^ 64)) k f s
def idMin (k : Nat) (f : FmtR) (s : State) : State := rr (fun a b => if slt64 a b then a else b) k f s
def idMax (k : Nat) (f : FmtR) (s : State) : State := rr (fun a b => if slt64 a b then b else a) k f s
def idSlt (k : Nat) (f : FmtR) (s : State) : State := rr (fun a b => if slt64 a b then 1 else 0) k f s
def idSltu (k : Nat) (f : FmtR) (s : State) : State := rr (fun a b => if a.toNat < b.toNat then 1 else 0) k f s
def idPopc (k : Nat) (f : FmtR) (s : State) : State := ru (fun a => BitVec.ofNat 64 (onesBelow a 64)) k f s
def idClz (k : Nat) (f : FmtR) (s : State) : State := ru (fun a => BitVec.ofNat 64 (leadZeros a 64)) k f s

def idAddi (k : Nat) (f : FmtI) (s : State) : State := ri (fun a i => a + i.signExtend 64) k f s
def idAndi (k : Nat) (f : FmtI) (s : State) : State := ri (fun a i => a &&& i.zeroExtend 64) k f s
def idOri (k : Nat) (f : FmtI) (s : State) : State := ri (fun a i => a ||| i.zeroExtend 64) k f s
def idXori (k : Nat) (f : FmtI) (s : State) : State := ri (fun a i => a ^^^ i.zeroExtend 64) k f s
def idShli (k : Nat) (f : FmtI) (s : State) : State := rs (fun a n => a <<< n) k f s
def idShri (k : Nat) (f : FmtI) (s : State) : State := rs (fun a n => a >>> n) k f s
def idSrai (k : Nat) (f : FmtI) (s : State) : State := rs (fun a n => a.sshiftRight n) k f s

/-- LI: s[d] = the extension word, sign-extended; a and imm16 are not used and hold 0. -/
def idLi (k : Nat) (f : FmtE) (s : State) : State :=
  s.issue k 2 [.s f.d.toNat] (f.a == 0 && f.imm == 0) fun s _ _ => s.setSr k f.d.toNat (f.ext.signExtend 64)

/-- LIH: s[d][63:32] = the extension word. -/
def idLih (k : Nat) (f : FmtE) (s : State) : State :=
  s.issue k 2 [.s f.d.toNat] (f.a == 0 && f.imm == 0) fun s _ _ =>
    s.setSr k f.d.toNat (f.ext ++ (s.sr k f.d.toNat).truncate 32)

/-- HGET (R351): the handle value of declaration imm16 of the task's pack, 0xFFFF_FFFF when the pack does not hold it. -/
def idHget (k : Nat) (f : FmtI) (s : State) : State :=
  s.issue k 1 [.s f.d.toNat] (f.a == 0) fun s _ x =>
    s.setSr k f.d.toNat (BitVec.ofNat 64 (((s.pack x.slot).decls[f.imm.toNat]?).getD 0xFFFFFFFF))

/-! ## Control -/

/-- The fields of a format R instruction all 0. -/
def FmtR.blank (f : FmtR) : Bool := f.d == 0 && f.a == 0 && f.b == 0 && f.pg == 0 && f.ty == 0

/-- The offset a branch at `pc` leads to: displacements count words from the branch's own word. -/
def branchTo (pc : Nat) (disp : BitVec 21) : Nat := (((pc : Int) + 4 * disp.toInt) % (2 ^ 40 : Int)).toNat

/-- A branch taken when `c` holds; the program counter has moved past the word. -/
def State.branch (s : State) (k : Nat) (disp : BitVec 21) (c : Bool) : State :=
  if c then s.setPc k (branchTo ((s.ctx k).pc - 4) disp) else s

def idNop (k : Nat) (f : FmtR) (s : State) : State := s.issue k 1 [] (FmtR.blank f) fun s _ _ => s

/-- YIELD (R366): a migration point. -/
def idYield (k : Nat) (f : FmtR) (s : State) : State :=
  s.issue k 1 [] (FmtR.blank f) fun s _ _ => s.setCtx k { s.ctx k with yielded := true }

/-- END (R365): the task ends with the status in s[a][7:0]. -/
def idEnd (k : Nat) (f : FmtR) (s : State) : State :=
  s.issue k 1 [.s f.a.toNat] (f.d == 0 && f.b == 0 && f.pg == 0 && f.ty == 0) fun s t _ =>
    s.endTask k t ((s.sr k f.a.toNat).toNat % 256)

/-- Whether a fence is satisfied: no own store and no own call outstanding, as asked (R356). -/
def fenceDone (c : Ctx) (stores calls : Bool) : Bool :=
  (!stores || c.stores == 0) && (!calls || c.tickets.all fun t => t.2.isSome)

/-- FENCE (R356): b = 0 waits for own stores, 1 for own calls, 2 for both. -/
def idFence (k : Nat) (f : FmtR) (s : State) : State :=
  s.issue k 1 [] (f.d == 0 && f.a == 0 && decide (f.b.toNat ≤ 2) && f.pg == 0 && f.ty == 0) fun s _ _ =>
    let st := f.b.toNat != 1
    let ca := f.b.toNat != 0
    if fenceDone (s.ctx k) st ca then s else s.setCtx k { s.ctx k with wait := .fence st ca }

def idRet (k : Nat) (f : FmtR) (s : State) : State :=
  s.issue k 1 [.s 31] (FmtR.blank f) fun s _ _ => s.setPc k (s.sr k 31).toNat

def idJr (k : Nat) (f : FmtR) (s : State) : State :=
  s.issue k 1 [.s f.a.toNat] (f.d == 0 && f.b == 0 && f.pg == 0 && f.ty == 0) fun s _ _ =>
    s.setPc k (s.sr k f.a.toNat).toNat

/-- RDCTX (R362): task ID, pack slot, priority and ASAT, which it clears. -/
def idRdctx (k : Nat) (f : FmtR) (s : State) : State :=
  s.issue k 1 [.s f.d.toNat] (f.a == 0 && f.b == 0 && f.pg == 0 && f.ty == 0) fun s t x =>
    let v := t % 2 ^ 32 + x.slot % 16 * 2 ^ 32 + x.prio % 4 * 2 ^ 36 + (if (s.ctx k).asat then 2 ^ 63 else 0)
    (s.setCtx k { s.ctx k with asat := false }).setSr k f.d.toNat (BitVec.ofNat 64 v)

def idBr (k : Nat) (f : FmtB) (s : State) : State := s.issue k 1 [] (f.a == 0) fun s _ _ => s.branch k f.disp true

def idBz (k : Nat) (f : FmtB) (s : State) : State :=
  s.issue k 1 [.s f.a.toNat] true fun s _ _ => s.branch k f.disp (s.sr k f.a.toNat == 0)

def idBnz (k : Nat) (f : FmtB) (s : State) : State :=
  s.issue k 1 [.s f.a.toNat] true fun s _ _ => s.branch k f.disp (s.sr k f.a.toNat != 0)

/-- CALL: s31 = the offset of the next word; branch. -/
def idCall (k : Nat) (f : FmtB) (s : State) : State :=
  s.issue k 1 [.s 31] (f.a == 0) fun s _ _ =>
    (s.setSr k 31 (BitVec.ofNat 64 (s.ctx k).pc)).branch k f.disp true

/-! ## Loads and stores -/

/-- The fault cause of an access, if it makes one: handle not held or right missing (2), beyond the size (3), misaligned (4);
of several, the one a free number picks (R352, R373; log entry 11). -/
def accessFault (y : Option Target) (ofs size align right pick : Nat) : Option Nat :=
  match y with
  | none => some 2
  | some y =>
    pickFrom ((if y.kind = .queue ∨ y.rights / right % 2 = 0 then [2] else []) ++ (if y.size < ofs + size then [3] else []) ++
      (if ofs % align ≠ 0 then [4] else [])) pick

/-- A transaction of context `k` to the place of an offset in a target: one transfer each way carries up to 64 bytes. -/
def State.memTxn (s : State) (k : Nat) (y : Target) (ofs : Nat) (kind : TxnKind) : State :=
  s.startTxn (k / 4) (Place.pc ofs (y.spot ofs)) (Place.stop (y.spot ofs)) 1 1 kind

/-- The bytes of a scalar load widened to 64 bits. -/
def widen (size : Nat) (signed : Bool) (v : Nat) : DWord :=
  if signed then (BitVec.ofNat (8 * size) v).signExtend 64 else BitVec.ofNat 64 v

/-- LDS (R352 to R358): a scalar load of 1, 2, 4 or 8 bytes; bit 8 selects sign extension (log entries 25, 27). -/
def idLds (k : Nat) (f : FmtM) (s : State) : State :=
  s.issue k 1 [.s f.h.toNat, .s f.o.toNat, .s f.d.toNat] (decide (f.pg.toNat < 2)) fun s t x =>
    let size := 2 ^ f.w.toNat
    let h := (s.sr k f.h.toNat).toNat % 2 ^ 32
    let ofs := effOffset (s.sr k f.o.toNat) f.disp.toNat size
    let y := s.target k t x h
    match accessFault y ofs size size 1 (Config.freeNat s.free), y with
    | some c, _ => s.taskFault k t x c
    | none, none => s
    | none, some y =>
      let v := widen size (f.pg == 1) (leNat (s.peek y.obj ofs size))
      if y.isLocal then s.setSr k f.d.toNat v
      else if s.hasTag (k / 4) = false then s.waitTag k 1
      else
        let s1 := s.setCtx k { s.ctx k with busy := .s f.d.toNat :: (s.ctx k).busy }
        s1.memTxn k y ofs (.loadScalar k t f.d.toNat v h)

/-- STS: a scalar store of the low bytes of s[d] (log entries 25, 27). -/
def idSts (k : Nat) (f : FmtM) (s : State) : State :=
  s.issue k 1 [.s f.h.toNat, .s f.o.toNat, .s f.d.toNat] (f.pg == 0) fun s t x =>
    let size := 2 ^ f.w.toNat
    let ofs := effOffset (s.sr k f.o.toNat) f.disp.toNat size
    let y := s.target k t x ((s.sr k f.h.toNat).toNat % 2 ^ 32)
    match accessFault y ofs size size 2 (Config.freeNat s.free), y with
    | some c, _ => s.taskFault k t x c
    | none, none => s
    | none, some y =>
      if y.isLocal then s.setBytes y.obj ofs (natLe size (s.sr k f.d.toNat).toNat)
      else if s.hasTag (k / 4) = false then s.waitTag k 1
      else
        let s1 := s.setBytes y.obj ofs (natLe size (s.sr k f.d.toNat).toNat)
        let s2 := s1.setCtx k { s1.ctx k with stores := (s1.ctx k).stores + 1 }
        s2.memTxn k y ofs (.store k t (Place.copy ofs (y.spot ofs)))

/-- LDV: a 64-byte load to v[d] (log entries 25, 27). -/
def idLdv (k : Nat) (f : FmtM) (s : State) : State :=
  s.issue k 1 [.s f.h.toNat, .s f.o.toNat, .v f.d.toNat] (decide (f.d.toNat < 16) && f.pg == 0 && f.w == 0) fun s t x =>
    let h := (s.sr k f.h.toNat).toNat % 2 ^ 32
    let ofs := effOffset (s.sr k f.o.toNat) f.disp.toNat 64
    let y := s.target k t x h
    match accessFault y ofs 64 64 1 (Config.freeNat s.free), y with
    | some c, _ => s.taskFault k t x c
    | none, none => s
    | none, some y =>
      let v := BitVec.ofNat 512 (leNat (s.peek y.obj ofs 64))
      if y.isLocal then s.setVr k f.d.toNat v
      else if s.hasTag (k / 4) = false then s.waitTag k 1
      else
        let s1 := s.setCtx k { s.ctx k with busy := .v f.d.toNat :: (s.ctx k).busy }
        s1.memTxn k y ofs (.loadVector k t f.d.toNat v h)

/-- The bytes of a predicated vector store, from byte `i`: a byte is written where its lane's predicate bit is 1. -/
def State.storeLanes (s : State) (obj ofs ty : Nat) (p : DWord) (v : Vec) : Nat → State
  | 0 => s
  | n + 1 =>
    let s1 := s.storeLanes obj ofs ty p v n
    if p.getLsbD (8 * n / laneBits ty) then s1.setByte obj (ofs + n) (BitVec.ofNat 8 (laneNat v 8 n)) else s1

/-- STV: a 64-byte store of v[d], predicated by p[pg] with lanes of type w (log entries 25, 27). -/
def idStv (k : Nat) (f : FmtM) (s : State) : State :=
  s.issue k 1 [.s f.h.toNat, .s f.o.toNat, .v f.d.toNat, .p f.pg.toNat] (decide (f.d.toNat < 16) && decide (f.w.toNat < 3))
    fun s t x =>
    let ofs := effOffset (s.sr k f.o.toNat) f.disp.toNat 64
    let y := s.target k t x ((s.sr k f.h.toNat).toNat % 2 ^ 32)
    match accessFault y ofs 64 64 2 (Config.freeNat s.free), y with
    | some c, _ => s.taskFault k t x c
    | none, none => s
    | none, some y =>
      if y.isLocal then s.storeLanes y.obj ofs f.w.toNat (s.pr k f.pg.toNat) (s.vr k f.d.toNat) 64
      else if s.hasTag (k / 4) = false then s.waitTag k 1
      else
        let s1 := s.storeLanes y.obj ofs f.w.toNat (s.pr k f.pg.toNat) (s.vr k f.d.toNat) 64
        let s2 := s1.setCtx k { s1.ctx k with stores := (s1.ctx k).stores + 1 }
        s2.memTxn k y ofs (.store k t (Place.copy ofs (y.spot ofs)))

/-- A context that waits at a fence goes on when the fence is satisfied. -/
def State.checkFence (s : State) (k : Nat) : State :=
  match (s.ctx k).wait with
  | .fence st ca => if fenceDone (s.ctx k) st ca then s.setCtx k { s.ctx k with wait := .running } else s
  | _ => s

/-- Whether handle `h` is mirrored: an uncorrectable error is then served from the other copy (R403). -/
def State.mirrored (s : State) (h : Nat) : Bool :=
  match s.handle h with
  | none => false
  | some x => x.mirror

/-- A register of a context that has its result now. -/
def State.ready (s : State) (k : Nat) (r : CtxReg) : State := s.setCtx k { s.ctx k with busy := (s.ctx k).busy.erase r }

/-- Whether a second copy is still to be written: its stack has not been lost (R386, R406). -/
def State.copyLeft (s : State) (copy : Option Nat) : Option Nat :=
  copy.bind fun p => if Tab.get (fun _ => .off) s.plc.hbm (p / 32) = .off then none else some p

/-- TRANSACTION_RESPONSE (R354): the load's register gets its value, or the store is acknowledged; the tag returns. A store to a mirrored handle
completes once its second copy has acknowledged it too (R386; log entry 204). An uncorrectable error on a load from a handle that is not mirrored is a fault
of cause 5 (R373, R403). -/
def transactionResponse (id : Nat) (memError : Bool) (s : State) : State :=
  match s.fab.flight.find? fun x => x.id == id && Txn.arrived x && x.admitted && s.mayAnswer x with
  | none => s
  | some x =>
    let s1 := (s.respond x.respN x.resp).land x
    match x.kind with
    | .loadScalar k t d v h =>
      if (s.ctx k).task = some t then
        match memError && !s.mirrored h, s.task t with
        | true, some y => s1.taskFault k t y 5
        | _, _ => (s1.ready k (.s d)).setSr k d v
      else s1
    | .loadVector k t d v h =>
      if (s.ctx k).task = some t then
        match memError && !s.mirrored h, s.task t with
        | true, some y => s1.taskFault k t y 5
        | _, _ => (s1.ready k (.v d)).setVr k d v
      else s1
    | .store k t copy =>
      if (s.ctx k).task = some t then
        match s.copyLeft copy with
        | some p => s1.startTxn x.init (some p) (8 + p / 32) 1 1 (.store k t none)
        | none => (s1.setCtx k { s1.ctx k with stores := (s1.ctx k).stores - 1 }).checkFence k
      else s1
    | .other => s1
    | .queueOp _ _ => s
    | .call _ _ _ => s

/-! ## Meanings -/

def execINop (k : Nat) (f : FmtR) (s : State) : Host.Outcome State Fault Refusal := .next (idNop k f s)

def execIYield (k : Nat) (f : FmtR) (s : State) : Host.Outcome State Fault Refusal := .next (idYield k f s)

def execIEnd (k : Nat) (f : FmtR) (s : State) : Host.Outcome State Fault Refusal := .next (idEnd k f s)

def execIFence (k : Nat) (f : FmtR) (s : State) : Host.Outcome State Fault Refusal := .next (idFence k f s)

def execIRet (k : Nat) (f : FmtR) (s : State) : Host.Outcome State Fault Refusal := .next (idRet k f s)

def execIJr (k : Nat) (f : FmtR) (s : State) : Host.Outcome State Fault Refusal := .next (idJr k f s)

def execIRdctx (k : Nat) (f : FmtR) (s : State) : Host.Outcome State Fault Refusal := .next (idRdctx k f s)

def execIBr (k : Nat) (f : FmtB) (s : State) : Host.Outcome State Fault Refusal := .next (idBr k f s)

def execIBz (k : Nat) (f : FmtB) (s : State) : Host.Outcome State Fault Refusal := .next (idBz k f s)

def execIBnz (k : Nat) (f : FmtB) (s : State) : Host.Outcome State Fault Refusal := .next (idBnz k f s)

def execICall (k : Nat) (f : FmtB) (s : State) : Host.Outcome State Fault Refusal := .next (idCall k f s)

def execIAdd (k : Nat) (f : FmtR) (s : State) : Host.Outcome State Fault Refusal := .next (idAdd k f s)

def execISub (k : Nat) (f : FmtR) (s : State) : Host.Outcome State Fault Refusal := .next (idSub k f s)

def execIAnd (k : Nat) (f : FmtR) (s : State) : Host.Outcome State Fault Refusal := .next (idAnd k f s)

def execIOr (k : Nat) (f : FmtR) (s : State) : Host.Outcome State Fault Refusal := .next (idOr k f s)

def execIXor (k : Nat) (f : FmtR) (s : State) : Host.Outcome State Fault Refusal := .next (idXor k f s)

def execIShl (k : Nat) (f : FmtR) (s : State) : Host.Outcome State Fault Refusal := .next (idShl k f s)

def execIShr (k : Nat) (f : FmtR) (s : State) : Host.Outcome State Fault Refusal := .next (idShr k f s)

def execISra (k : Nat) (f : FmtR) (s : State) : Host.Outcome State Fault Refusal := .next (idSra k f s)

def execIMul (k : Nat) (f : FmtR) (s : State) : Host.Outcome State Fault Refusal := .next (idMul k f s)

def execIMulhu (k : Nat) (f : FmtR) (s : State) : Host.Outcome State Fault Refusal := .next (idMulhu k f s)

def execIMin (k : Nat) (f : FmtR) (s : State) : Host.Outcome State Fault Refusal := .next (idMin k f s)

def execIMax (k : Nat) (f : FmtR) (s : State) : Host.Outcome State Fault Refusal := .next (idMax k f s)

def execISlt (k : Nat) (f : FmtR) (s : State) : Host.Outcome State Fault Refusal := .next (idSlt k f s)

def execISltu (k : Nat) (f : FmtR) (s : State) : Host.Outcome State Fault Refusal := .next (idSltu k f s)

def execIPopc (k : Nat) (f : FmtR) (s : State) : Host.Outcome State Fault Refusal := .next (idPopc k f s)

def execIClz (k : Nat) (f : FmtR) (s : State) : Host.Outcome State Fault Refusal := .next (idClz k f s)

def execIAddi (k : Nat) (f : FmtI) (s : State) : Host.Outcome State Fault Refusal := .next (idAddi k f s)

def execIAndi (k : Nat) (f : FmtI) (s : State) : Host.Outcome State Fault Refusal := .next (idAndi k f s)

def execIOri (k : Nat) (f : FmtI) (s : State) : Host.Outcome State Fault Refusal := .next (idOri k f s)

def execIXori (k : Nat) (f : FmtI) (s : State) : Host.Outcome State Fault Refusal := .next (idXori k f s)

def execIShli (k : Nat) (f : FmtI) (s : State) : Host.Outcome State Fault Refusal := .next (idShli k f s)

def execIShri (k : Nat) (f : FmtI) (s : State) : Host.Outcome State Fault Refusal := .next (idShri k f s)

def execISrai (k : Nat) (f : FmtI) (s : State) : Host.Outcome State Fault Refusal := .next (idSrai k f s)

def execILi (k : Nat) (f : FmtE) (s : State) : Host.Outcome State Fault Refusal := .next (idLi k f s)

def execILih (k : Nat) (f : FmtE) (s : State) : Host.Outcome State Fault Refusal := .next (idLih k f s)

def execIHget (k : Nat) (f : FmtI) (s : State) : Host.Outcome State Fault Refusal := .next (idHget k f s)

def execILds (k : Nat) (f : FmtM) (s : State) : Host.Outcome State Fault Refusal := .next (idLds k f s)

def execISts (k : Nat) (f : FmtM) (s : State) : Host.Outcome State Fault Refusal := .next (idSts k f s)

def execILdv (k : Nat) (f : FmtM) (s : State) : Host.Outcome State Fault Refusal := .next (idLdv k f s)

def execIStv (k : Nat) (f : FmtM) (s : State) : Host.Outcome State Fault Refusal := .next (idStv k f s)

def execTransactionResponse (id : Nat) (memError : Bool) (s : State) : Host.Outcome State Fault Refusal := .next (transactionResponse id memError s)

end Sys2Proof.Machine
end

