-- ==== Sys2Proof/Machine/IdnasVec.lean ====
section
/-! DEFINITION. Idnas vector, accumulator and predicate instructions (R358 to R363). -/

namespace Sys2Proof.Machine

open Sys2Proof

/-- Saturation of a lane component of element type `ty`: 16 bits for C16 and H16, ±127 for S8 (R360, R361). -/
def satLane (ty : Nat) (x : Int) : Int := if ty = 2 then satSoft x else sat16 x

/-- Bits of one component of a lane: a C16 lane has two of 16. -/
def compBits (ty : Nat) : Nat := if ty = 2 then 8 else 16

/-- A vector computed component by component. -/
def mapComps (ty : Nat) (f : Nat → Int) : Vec := buildVec (compBits ty) (512 / compBits ty) fun i => intBits (compBits ty) (f i)

/-- Every S8 lane held to ±127, so that −128 is never produced (R361); other types as they are (log entry 29). -/
def fixSoft (ty : Nat) (v : Vec) : Vec := if ty = 2 then mapComps 2 fun i => satSoft (laneInt v 8 i) else v

/-- The check of a vector instruction: d, a, b name vector registers where used and hold 0 where not, the type is one of
those its row permits (log entry 13). -/
def vecOk (f : FmtR) (useB : Bool) (types : List Nat) : Bool :=
  decide (f.d.toNat < 16) && decide (f.a.toNat < 16) && (if useB then decide (f.b.toNat < 16) else f.b == 0) &&
  types.contains f.ty.toNat

/-- A vector instruction with the destination merged under p[pg] (R359). -/
def vecOp (useB : Bool) (types : List Nat) (op : Nat → Vec → Vec → Vec) (k : Nat) (f : FmtR) (s : State) : State :=
  s.issue k 1 [.v f.a.toNat, .v (if useB then f.b.toNat else f.a.toNat), .v f.d.toNat, .p f.pg.toNat]
    (vecOk f useB types) fun s _ _ =>
    let ty := f.ty.toNat
    s.setVr k f.d.toNat (mergeLanes ty (s.pr k f.pg.toNat) (s.vr k f.d.toNat)
      (fixSoft ty (op ty (s.vr k f.a.toNat) (s.vr k (if useB then f.b.toNat else 0)))))

/-- VADD, VSUB: saturating, component by component (R360, R361). -/
def idVadd (k : Nat) (f : FmtR) (s : State) : State :=
  vecOp true [0, 1, 2] (fun ty a b => mapComps ty fun i => satLane ty (laneInt a (compBits ty) i + laneInt b (compBits ty) i))
    k f s

def idVsub (k : Nat) (f : FmtR) (s : State) : State :=
  vecOp true [0, 1, 2] (fun ty a b => mapComps ty fun i => satLane ty (laneInt a (compBits ty) i - laneInt b (compBits ty) i))
    k f s

/-- The real and imaginary parts of C16 lane `i`. -/
def re16 (v : Vec) (i : Nat) : Int := laneInt v 16 (2 * i)

def im16 (v : Vec) (i : Nat) : Int := laneInt v 16 (2 * i + 1)

/-- The exact complex product of lanes `i`, real and imaginary part. -/
def mulRe (a b : Vec) (i : Nat) : Int := re16 a i * re16 b i - im16 a i * im16 b i

def mulIm (a b : Vec) (i : Nat) : Int := re16 a i * im16 b i + im16 a i * re16 b i

/-- The exact product of lanes `i` with the second one conjugated. -/
def mulcRe (a b : Vec) (i : Nat) : Int := re16 a i * re16 b i + im16 a i * im16 b i

def mulcIm (a b : Vec) (i : Nat) : Int := im16 a i * re16 b i - re16 a i * im16 b i

/-- VMUL: C16 complex or H16 Q15, rounded as (x + 2^14) >> 15 and saturated (R360). -/
def idVmul (k : Nat) (f : FmtR) (s : State) : State :=
  vecOp true [0, 1] (fun ty a b => mapComps ty fun i =>
    sat16 (roundShift 15 (if ty = 0 then (if i % 2 = 0 then mulRe a b (i / 2) else mulIm a b (i / 2))
      else laneInt a 16 i * laneInt b 16 i))) k f s

/-- VCONJ: saturating complex conjugate (R360). -/
def idVconj (k : Nat) (f : FmtR) (s : State) : State :=
  vecOp false [0] (fun _ a _ => mapComps 0 fun i => if i % 2 = 0 then laneInt a 16 i else sat16 (-(laneInt a 16 i))) k f s

/-- VMAG2: H16 lane i = sat((re² + im²) >> 15) for i below 16, the others 0 (R359). The type field says C16, the lanes of the
destination and of the predicate are H16. -/
def idVmag2 (k : Nat) (f : FmtR) (s : State) : State :=
  s.issue k 1 [.v f.a.toNat, .v f.d.toNat, .p f.pg.toNat] (vecOk f false [0]) fun s _ _ =>
    let a := s.vr k f.a.toNat
    let r := mapComps 1 fun i => if i < 16 then sat16 ((re16 a i * re16 a i + im16 a i * im16 a i) / 2 ^ 15) else 0
    s.setVr k f.d.toNat (mergeLanes 1 (s.pr k f.pg.toNat) (s.vr k f.d.toNat) r)

def idVmin (k : Nat) (f : FmtR) (s : State) : State :=
  vecOp true [1, 2] (fun ty a b => mapComps ty fun i => min (laneInt a (compBits ty) i) (laneInt b (compBits ty) i)) k f s

def idVmax (k : Nat) (f : FmtR) (s : State) : State :=
  vecOp true [1, 2] (fun ty a b => mapComps ty fun i => max (laneInt a (compBits ty) i) (laneInt b (compBits ty) i)) k f s

/-- VABS: saturating, −32 768 gives 32 767 (R360); types H16 and S8 by its row (log entry 13). -/
def idVabs (k : Nat) (f : FmtR) (s : State) : State :=
  vecOp false [1, 2] (fun ty a _ => mapComps ty fun i => satLane ty (laneInt a (compBits ty) i).natAbs) k f s

/-- VSEL: the lane from v[a] where p[pg] is 1, else from v[b] (R359). -/
def idVsel (k : Nat) (f : FmtR) (s : State) : State :=
  s.issue k 1 [.v f.a.toNat, .v f.b.toNat, .v f.d.toNat, .p f.pg.toNat] (vecOk f true [0, 1, 2]) fun s _ _ =>
    let ty := f.ty.toNat
    s.setVr k f.d.toNat (fixSoft ty (mergeLanes ty (s.pr k f.pg.toNat) (s.vr k f.b.toNat) (s.vr k f.a.toNat)))

/-- VSHRI: rounding arithmetic right shift by field b, 0 to 15 (R360). -/
def idVshri (k : Nat) (f : FmtR) (s : State) : State :=
  s.issue k 1 [.v f.a.toNat, .v f.d.toNat, .p f.pg.toNat]
    (vecOk { f with b := 0 } false [0, 1, 2] && decide (f.b.toNat < 16)) fun s _ _ =>
    let ty := f.ty.toNat
    let a := s.vr k f.a.toNat
    s.setVr k f.d.toNat (mergeLanes ty (s.pr k f.pg.toNat) (s.vr k f.d.toNat)
      (mapComps ty fun i => satLane ty (roundShift f.b.toNat (laneInt a (compBits ty) i))))

/-- VPERM: lane i = lane (v[b] lane i mod lanes) of v[a]. -/
def idVperm (k : Nat) (f : FmtR) (s : State) : State :=
  vecOp true [0, 1, 2] (fun ty a b => buildVec (laneBits ty) (laneCount ty) fun i =>
    laneNat a (laneBits ty) (laneNat b (laneBits ty) i % laneCount ty)) k f s

/-- The predicate of a lane comparison: bits above the lane count 0, lanes whose predicate bit is 0 keep their old bit. -/
def cmpBits (ty : Nat) (p old : DWord) (c : Nat → Bool) : DWord :=
  BitVec.ofNat 64 (lanesNat 1 (fun i => if i < laneCount ty then
    (if (if p.getLsbD i then c i else old.getLsbD i) then 1 else 0) else 0) 64)

/-- VCMPGT, VCMPEQ: p[d] bit i = the comparison of lane i. -/
def vecCmp (c : Int → Int → Bool) (k : Nat) (f : FmtR) (s : State) : State :=
  s.issue k 1 [.v f.a.toNat, .v f.b.toNat, .p f.d.toNat, .p f.pg.toNat]
    (vecOk { f with d := 0 } true [1, 2] && decide (f.d.toNat < 8)) fun s _ _ =>
    let ty := f.ty.toNat
    let a := s.vr k f.a.toNat
    let b := s.vr k f.b.toNat
    s.setPr k f.d.toNat (cmpBits ty (s.pr k f.pg.toNat) (s.pr k f.d.toNat)
      fun i => c (laneInt a (laneBits ty) i) (laneInt b (laneBits ty) i))

def idVcmpgt (k : Nat) (f : FmtR) (s : State) : State := vecCmp (fun a b => decide (b < a)) k f s

def idVcmpeq (k : Nat) (f : FmtR) (s : State) : State := vecCmp (fun a b => decide (a = b)) k f s

def idVand (k : Nat) (f : FmtR) (s : State) : State := vecOp true [0, 1, 2] (fun _ a b => a &&& b) k f s

def idVxor (k : Nat) (f : FmtR) (s : State) : State := vecOp true [0, 1, 2] (fun _ a b => a ^^^ b) k f s

/-- VSPLAT: every lane = s[a], truncated to the lane. -/
def idVsplat (k : Nat) (f : FmtR) (s : State) : State :=
  s.issue k 1 [.s f.a.toNat, .v f.d.toNat, .p f.pg.toNat]
    (decide (f.d.toNat < 16) && f.b == 0 && decide (f.ty.toNat < 3)) fun s _ _ =>
    let ty := f.ty.toNat
    s.setVr k f.d.toNat (mergeLanes ty (s.pr k f.pg.toNat) (s.vr k f.d.toNat)
      (fixSoft ty (buildVec (laneBits ty) (laneCount ty) fun _ => (s.sr k f.a.toNat).toNat)))

/-- The lane number of VEXT: 32 × pg[0] + b. -/
def extLane (f : FmtR) : Nat := 32 * (f.pg.toNat % 2) + f.b.toNat

/-- VEXT: s[d] = lane n of v[a], sign-extended; not predicated. -/
def idVext (k : Nat) (f : FmtR) (s : State) : State :=
  s.issue k 1 [.v f.a.toNat, .s f.d.toNat]
    (decide (f.a.toNat < 16) && decide (f.ty.toNat < 3) && decide (f.pg.toNat < 2) && (f.pg == 0 || f.ty == 2) &&
      decide (extLane f < laneCount f.ty.toNat)) fun s _ _ =>
    s.setSr k f.d.toNat (BitVec.ofInt 64 (laneInt (s.vr k f.a.toNat) (laneBits f.ty.toNat) (extLane f)))

/-! ## Accumulators -/

/-- Component `i` of an accumulator: 2 × lane for the real part, + 1 for the imaginary part. -/
def accComp (a : BitVec 1536) (i : Nat) : Int := laneInt a 48 i

/-- An accumulator given component by component. -/
def buildAcc (f : Nat → Int) : BitVec 1536 := BitVec.ofNat 1536 (lanesNat 48 (fun i => intBits 48 (f i)) 32)

/-- Whether some component saturates. -/
def anyOver (f : Nat → Int) : Bool := (List.range 32).any fun i => over48 (f i)

/-- An accumulator written with saturation; a saturation sets ASAT (R362). -/
def State.putAcc (s : State) (k n : Nat) (f : Nat → Int) : State :=
  (s.setAr k n (buildAcc fun i => sat48 (f i))).orAsat k (anyOver f)

/-- The check of an accumulator instruction on vectors; pg and the type field hold 0 (R358; log entry 14). -/
def accOk (f : FmtR) : Bool :=
  decide (f.d.toNat < 4) && decide (f.a.toNat < 16) && decide (f.b.toNat < 16) && f.pg == 0 && f.ty == 0

def idCmac (k : Nat) (f : FmtR) (s : State) : State :=
  s.issue k 1 [.v f.a.toNat, .v f.b.toNat, .a f.d.toNat] (accOk f) fun s _ _ =>
    let a := s.vr k f.a.toNat
    let b := s.vr k f.b.toNat
    let c := s.ar k f.d.toNat
    s.putAcc k f.d.toNat fun i => accComp c i + (if i % 2 = 0 then mulRe a b (i / 2) else mulIm a b (i / 2))

def idCmacc (k : Nat) (f : FmtR) (s : State) : State :=
  s.issue k 1 [.v f.a.toNat, .v f.b.toNat, .a f.d.toNat] (accOk f) fun s _ _ =>
    let a := s.vr k f.a.toNat
    let b := s.vr k f.b.toNat
    let c := s.ar k f.d.toNat
    s.putAcc k f.d.toNat fun i => accComp c i + (if i % 2 = 0 then mulcRe a b (i / 2) else mulcIm a b (i / 2))

def idCmul (k : Nat) (f : FmtR) (s : State) : State :=
  s.issue k 1 [.v f.a.toNat, .v f.b.toNat, .a f.d.toNat] (accOk f) fun s _ _ =>
    let a := s.vr k f.a.toNat
    let b := s.vr k f.b.toNat
    s.putAcc k f.d.toNat fun i => if i % 2 = 0 then mulRe a b (i / 2) else mulIm a b (i / 2)

def idAclr (k : Nat) (f : FmtR) (s : State) : State :=
  s.issue k 1 [.a f.d.toNat] (decide (f.d.toNat < 4) && f.a == 0 && f.b == 0 && f.pg == 0 && f.ty == 0) fun s _ _ =>
    s.setAr k f.d.toNat 0

/-- ARND: v[d] = round(a[a] >> b), b = 0 to 31, saturated to C16 (R360). -/
def idArnd (k : Nat) (f : FmtR) (s : State) : State :=
  s.issue k 1 [.a f.a.toNat, .v f.d.toNat] (decide (f.d.toNat < 16) && decide (f.a.toNat < 4) && f.pg == 0 && f.ty == 0)
    fun s _ _ =>
    let c := s.ar k f.a.toNat
    s.setVr k f.d.toNat (mapComps 0 fun i => sat16 (roundShift f.b.toNat (accComp c i)))

/-- The sum of the components of one parity of an accumulator below component 2 × `n`. -/
def accSum (c : BitVec 1536) (parity : Nat) : Nat → Int
  | 0 => 0
  | n + 1 => accSum c parity n + accComp c (2 * n + parity)

/-- AREDUCE: lane 0 of a[d] = the sum of its lanes, the other lanes 0. -/
def idAreduce (k : Nat) (f : FmtR) (s : State) : State :=
  s.issue k 1 [.a f.d.toNat] (decide (f.d.toNat < 4) && f.a == 0 && f.b == 0 && f.pg == 0 && f.ty == 0) fun s _ _ =>
    let c := s.ar k f.d.toNat
    s.putAcc k f.d.toNat fun i => if i = 0 then accSum c 0 16 else if i = 1 then accSum c 1 16 else 0

/-! ## Predicates -/

/-- The check of a predicate instruction. -/
def predOk (f : FmtR) (useB : Bool) : Bool :=
  decide (f.d.toNat < 8) && decide (f.a.toNat < 8) && (if useB then decide (f.b.toNat < 8) else f.b == 0) && f.pg == 0 &&
  f.ty == 0

/-- A predicate instruction with two sources. -/
def predOp (op : DWord → DWord → DWord) (k : Nat) (f : FmtR) (s : State) : State :=
  s.issue k 1 [.p f.a.toNat, .p f.b.toNat, .p f.d.toNat] (predOk f true) fun s _ _ =>
    s.setPr k f.d.toNat (op (s.pr k f.a.toNat) (s.pr k f.b.toNat))

def idPand (k : Nat) (f : FmtR) (s : State) : State := predOp (fun a b => a &&& b) k f s
def idPor (k : Nat) (f : FmtR) (s : State) : State := predOp (fun a b => a ||| b) k f s
def idPxor (k : Nat) (f : FmtR) (s : State) : State := predOp (fun a b => a ^^^ b) k f s

def idPnot (k : Nat) (f : FmtR) (s : State) : State :=
  s.issue k 1 [.p f.a.toNat, .p f.d.toNat] (predOk f false) fun s _ _ => s.setPr k f.d.toNat (~~~(s.pr k f.a.toNat))

def idPset (k : Nat) (f : FmtR) (s : State) : State :=
  s.issue k 1 [.s f.a.toNat, .p f.d.toNat] (decide (f.d.toNat < 8) && f.b == 0 && f.pg == 0 && f.ty == 0) fun s _ _ =>
    s.setPr k f.d.toNat (s.sr k f.a.toNat)

def idPget (k : Nat) (f : FmtR) (s : State) : State :=
  s.issue k 1 [.p f.a.toNat, .s f.d.toNat] (decide (f.a.toNat < 8) && f.b == 0 && f.pg == 0 && f.ty == 0) fun s _ _ =>
    s.setSr k f.d.toNat (s.pr k f.a.toNat)

/-! ## Meanings -/

def execIVadd (k : Nat) (f : FmtR) (s : State) : Host.Outcome State Fault Refusal := .next (idVadd k f s)

def execIVsub (k : Nat) (f : FmtR) (s : State) : Host.Outcome State Fault Refusal := .next (idVsub k f s)

def execIVmul (k : Nat) (f : FmtR) (s : State) : Host.Outcome State Fault Refusal := .next (idVmul k f s)

def execIVconj (k : Nat) (f : FmtR) (s : State) : Host.Outcome State Fault Refusal := .next (idVconj k f s)

def execIVmag2 (k : Nat) (f : FmtR) (s : State) : Host.Outcome State Fault Refusal := .next (idVmag2 k f s)

def execIVmin (k : Nat) (f : FmtR) (s : State) : Host.Outcome State Fault Refusal := .next (idVmin k f s)

def execIVmax (k : Nat) (f : FmtR) (s : State) : Host.Outcome State Fault Refusal := .next (idVmax k f s)

def execIVabs (k : Nat) (f : FmtR) (s : State) : Host.Outcome State Fault Refusal := .next (idVabs k f s)

def execIVsel (k : Nat) (f : FmtR) (s : State) : Host.Outcome State Fault Refusal := .next (idVsel k f s)

def execIVshri (k : Nat) (f : FmtR) (s : State) : Host.Outcome State Fault Refusal := .next (idVshri k f s)

def execIVperm (k : Nat) (f : FmtR) (s : State) : Host.Outcome State Fault Refusal := .next (idVperm k f s)

def execIVcmpgt (k : Nat) (f : FmtR) (s : State) : Host.Outcome State Fault Refusal := .next (idVcmpgt k f s)

def execIVcmpeq (k : Nat) (f : FmtR) (s : State) : Host.Outcome State Fault Refusal := .next (idVcmpeq k f s)

def execIVand (k : Nat) (f : FmtR) (s : State) : Host.Outcome State Fault Refusal := .next (idVand k f s)

def execIVxor (k : Nat) (f : FmtR) (s : State) : Host.Outcome State Fault Refusal := .next (idVxor k f s)

def execIVsplat (k : Nat) (f : FmtR) (s : State) : Host.Outcome State Fault Refusal := .next (idVsplat k f s)

def execIVext (k : Nat) (f : FmtR) (s : State) : Host.Outcome State Fault Refusal := .next (idVext k f s)

def execICmac (k : Nat) (f : FmtR) (s : State) : Host.Outcome State Fault Refusal := .next (idCmac k f s)

def execICmacc (k : Nat) (f : FmtR) (s : State) : Host.Outcome State Fault Refusal := .next (idCmacc k f s)

def execICmul (k : Nat) (f : FmtR) (s : State) : Host.Outcome State Fault Refusal := .next (idCmul k f s)

def execIAclr (k : Nat) (f : FmtR) (s : State) : Host.Outcome State Fault Refusal := .next (idAclr k f s)

def execIArnd (k : Nat) (f : FmtR) (s : State) : Host.Outcome State Fault Refusal := .next (idArnd k f s)

def execIAreduce (k : Nat) (f : FmtR) (s : State) : Host.Outcome State Fault Refusal := .next (idAreduce k f s)

def execIPand (k : Nat) (f : FmtR) (s : State) : Host.Outcome State Fault Refusal := .next (idPand k f s)

def execIPor (k : Nat) (f : FmtR) (s : State) : Host.Outcome State Fault Refusal := .next (idPor k f s)

def execIPxor (k : Nat) (f : FmtR) (s : State) : Host.Outcome State Fault Refusal := .next (idPxor k f s)

def execIPnot (k : Nat) (f : FmtR) (s : State) : Host.Outcome State Fault Refusal := .next (idPnot k f s)

def execIPset (k : Nat) (f : FmtR) (s : State) : Host.Outcome State Fault Refusal := .next (idPset k f s)

def execIPget (k : Nat) (f : FmtR) (s : State) : Host.Outcome State Fault Refusal := .next (idPget k f s)

end Sys2Proof.Machine
end

