-- ==== Sys2Proof/Machine/IdnasCall.lean ====
section
/-! DEFINITION. Idnas queues, tasks and accelerator calls (R364 to R369), and the migration of tasks. -/

namespace Sys2Proof.Machine

open Sys2Proof

/-! ## Queues -/

/-- The messages waiting in a queue handle. -/
def State.queue (s : State) (h : Nat) : List Vec := Tab.get (fun _ => []) s.prog.queues h

/-- `s` with the messages of a queue replaced. -/
def State.setQueue (s : State) (h : Nat) (q : List Vec) : State :=
  { s with prog := { s.prog with queues := Tab.set (fun _ => []) s.prog.queues h q } }

/-- The capacity of a queue handle: SIZE / 64 (*Pack tables*). -/
def State.queueCap (s : State) (h : Nat) : Nat :=
  match s.handle h with
  | none => 0
  | some x => x.size / 64

/-- Whether a queue has room. -/
def State.queueRoom (s : State) (h : Nat) : Bool := (s.queue h).length < s.queueCap h

/-- Whether a handle names a queue its task may use with a right (R352). -/
def queueOk (y : Option Target) (right : Nat) : Bool :=
  match y with
  | none => false
  | some y => y.kind = .queue && y.rights / right % 2 == 1

/-- A queue instruction: a fault of cause 2 where the handle is not a queue held with the right, a wait where no tag is
free, else the operation (log entry 27). -/
def State.onQueue (s : State) (k t : Nat) (x : Task) (hreg right : Nat) (op : State → Nat → State) : State :=
  let h := (s.sr k hreg).toNat % 2 ^ 32
  if queueOk (s.target k t x h) right = false then s.taskFault k t x 2
  else if s.hasTag (k / 4) = false then s.waitTag k 1
  else op s h

/-- The stop of a handle. -/
def State.stopOf (s : State) (h : Nat) : Nat :=
  match s.handle h with
  | none => 0
  | some x => Place.stop x.place

/-- A context that waits on a queue, its tag held (R354, R364). -/
def State.waitQueue (s : State) (k t h : Nat) (w : Wait) : State :=
  (s.setCtx k { s.ctx k with wait := w }).startTxn (k / 4) none (s.stopOf h) 1 1 (.queueOp k t)

/-- QPUSH (R364): appends v[b] to the queue in s[a]; waits while it is full. -/
def idQpush (k : Nat) (f : FmtR) (s : State) : State :=
  s.issue k 1 [.s f.a.toNat, .v f.b.toNat] (f.d == 0 && decide (f.b.toNat < 16) && f.pg == 0 && f.ty == 0) fun s t x =>
    s.onQueue k t x f.a.toNat 2 fun s h =>
      if s.queueRoom h then (s.touchTag (k / 4)).setQueue h (s.queue h ++ [s.vr k f.b.toNat])
      else s.waitQueue k t h (.push h (s.vr k f.b.toNat))

/-- QPOP (R364): removes the oldest message into v[d]; waits while the queue is empty. -/
def idQpop (k : Nat) (f : FmtR) (s : State) : State :=
  s.issue k 1 [.s f.a.toNat, .v f.d.toNat] (decide (f.d.toNat < 16) && f.b == 0 && f.pg == 0 && f.ty == 0) fun s t x =>
    s.onQueue k t x f.a.toNat 1 fun s h =>
      match s.queue h with
      | m :: r => ((s.touchTag (k / 4)).setQueue h r).setVr k f.d.toNat m
      | [] => s.waitQueue k t h (.pop h f.d.toNat)

/-- QTPUSH (R364): s[d] = 1 when it pushed, 0 when the queue was full. -/
def idQtpush (k : Nat) (f : FmtR) (s : State) : State :=
  s.issue k 1 [.s f.a.toNat, .v f.b.toNat, .s f.d.toNat] (decide (f.b.toNat < 16) && f.pg == 0 && f.ty == 0) fun s t x =>
    s.onQueue k t x f.a.toNat 2 fun s h =>
      if s.queueRoom h then
        ((s.touchTag (k / 4)).setQueue h (s.queue h ++ [s.vr k f.b.toNat])).setSr k f.d.toNat 1
      else (s.touchTag (k / 4)).setSr k f.d.toNat 0

/-- QTPOP (R364): the scalar named by field b is 1 when it popped into v[d], 0 when the queue was empty. -/
def idQtpop (k : Nat) (f : FmtR) (s : State) : State :=
  s.issue k 1 [.s f.a.toNat, .s f.b.toNat, .v f.d.toNat] (decide (f.d.toNat < 16) && f.pg == 0 && f.ty == 0) fun s t x =>
    s.onQueue k t x f.a.toNat 1 fun s h =>
      match s.queue h with
      | m :: r => (((s.touchTag (k / 4)).setQueue h r).setVr k f.d.toNat m).setSr k f.b.toNat 1
      | [] => (s.touchTag (k / 4)).setSr k f.b.toNat 0

/-- QLEN (R364): the number of messages waiting. -/
def idQlen (k : Nat) (f : FmtR) (s : State) : State :=
  s.issue k 1 [.s f.a.toNat, .s f.d.toNat] (f.b == 0 && f.pg == 0 && f.ty == 0) fun s t x =>
    s.onQueue k t x f.a.toNat 1 fun s h =>
      (s.touchTag (k / 4)).setSr k f.d.toNat (BitVec.ofNat 64 (s.queue h).length)

/-- The tag of a waiting queue operation returned and the context running again. -/
def State.leaveQueue (s : State) (k : Nat) : State :=
  let s1 := match (s.ctx k).task with
    | none => s
    | some t => match s.fab.flight.find? fun (x : Txn) => x.kind == TxnKind.queueOp k t with
      | none => s
      | some x => (s.respond x.respN x.resp).land x
  s1.setCtx k { s1.ctx k with wait := .running }

/-- QUEUE_WAIT_RESUME (R364): a context waiting in QPUSH or QPOP goes on when room or a message appears. -/
def queueWaitResume (k : Nat) (s : State) : State :=
  match (s.ctx k).wait with
  | .push h m => if s.queueRoom h then (s.leaveQueue k).setQueue h (s.queue h ++ [m]) else s
  | .pop h d => match s.queue h with
    | m :: r => ((s.leaveQueue k).setQueue h r).setVr k d m
    | [] => s
  | _ => s

/-! ## Tasks -/

/-- The live tasks of a pack, and those of one task entry. -/
def State.liveTasks (s : State) (slot : Nat) : Nat :=
  (s.prog.tasks.filter fun p => p.2.slot == slot && p.2.live).length

def State.liveEntry (s : State) (slot entry : Nat) : Nat :=
  (s.prog.tasks.filter fun p => p.2.slot == slot && p.2.live && p.2.entry == entry).length

/-- The role of engine `e` (R391). -/
def State.role (s : State) (e : Nat) : EngRole :=
  Tab.get (fun e => if e < 112 then .inService else .spare) s.prog.roles e

/-- `s` with the role of engine `e` replaced. -/
def State.setRole (s : State) (e : Nat) (r : EngRole) : State :=
  { s with prog := { s.prog with roles := Tab.set (fun e => if e < 112 then .inService else .spare) s.prog.roles e r } }

/-- Whether a task may be placed on context `k`: free, on an engine in service (R393). -/
def State.freeCtx (s : State) (k : Nat) : Bool :=
  (s.ctx k).task.isNone && s.serves (k / 4) && s.role (k / 4) == .inService

/-- The context a new task is placed on: one of the free ones (Pitch's choice, R353; log entry 15). -/
def State.pickCtx (s : State) : Option Nat := pickFrom ((List.range 512).filter fun k => s.freeCtx k) (Config.freeNat s.free)

/-- A task started at an entry of a pack with s1, s2 and every other register 0 (R365) (log entry 15). -/
def State.startTask (s : State) (slot entry k : Nat) (x : TaskEntry) (s1 s2 : DWord) (parent : Nat) : State :=
  let id := s.prog.nextTask
  let t : Task := { slot := slot, prio := x.prio, entry := entry, parent := parent, place := k,
                    code := ((s.pack slot).decls[x.code]?).getD 0xFFFFFFFF, scratch := x.scratch }
  let s' := (s.setTask id t).setCtx k
    { task := some id, pc := x.entryOfs, s := Tab.set (fun _ => 0) (Tab.set (fun _ => 0) [] 1 s1) 2 s2 }
  { s'.drew with prog := { s'.prog with nextTask := id + 1 } }

/-- The task entry and context of a new task, where one may start: the entry exists, fewer than MAXINST of its tasks live,
the pack's admitted contexts leave room, and a context is free; in EMBER only for packs with the EMBER flag (R365, R378). -/
def State.mayStart (s : State) (slot entry : Nat) : Option (TaskEntry × Nat) :=
  match (s.pack slot).image.entries[entry]?, s.pickCtx with
  | some x, some k =>
    if s.liveEntry slot entry < (if x.maxInst = 0 then 256 else x.maxInst) ∧
       s.liveTasks slot < max 1 (s.pack slot).image.contexts ∧ (s.pwr.mode ≠ .ember ∨ (s.pack slot).image.ember = true) ∧ (s.pack slot).state ≠ .unloading ∧
       s.pwr.admits = true then some (x, k) else none
  | _, _ => none

/-- SPAWN (R365): starts a task of the running pack; s[d] = its ID, or 0 when none starts. -/
def idSpawn (k : Nat) (f : FmtR) (s : State) : State :=
  s.issue k 1 [.s f.a.toNat, .s f.b.toNat, .s f.d.toNat] (f.pg == 0 && f.ty == 0) fun s t x =>
    match s.mayStart x.slot (s.sr k f.a.toNat).toNat with
    | none => s.setSr k f.d.toNat 0
    | some (e, j) =>
      (s.startTask x.slot (s.sr k f.a.toNat).toNat j e (s.sr k f.b.toNat) (BitVec.ofNat 64 t) t).setSr k f.d.toNat
        (BitVec.ofNat 64 s.prog.nextTask)

/-- TWAIT (R365): waits until task s[a] of the same pack has ended; DENIED at once when no such task has existed. -/
def idTwait (k : Nat) (f : FmtR) (s : State) : State :=
  s.issue k 1 [.s f.a.toNat, .s f.d.toNat] (f.b == 0 && f.pg == 0 && f.ty == 0) fun s _ x =>
    let id := (s.sr k f.a.toNat).toNat
    match s.task id with
    | none => s.setSr k f.d.toNat (BitVec.ofNat 64 (Status.code .denied))
    | some y =>
      if y.slot ≠ x.slot then s.setSr k f.d.toNat (BitVec.ofNat 64 (Status.code .denied))
      else if y.live = false then s.setSr k f.d.toNat (BitVec.ofNat 64 y.endStatus)
      else s.setCtx k { s.ctx k with wait := .task f.d.toNat id }

/-- TWAIT_RESUME (R365): the awaited task has ended and TWAIT returns its status. -/
def twaitResume (k : Nat) (s : State) : State :=
  match (s.ctx k).wait with
  | .task d id => match s.task id with
    | some y =>
      if y.live then s
      else (s.setCtx k { s.ctx k with wait := .running }).setSr k d (BitVec.ofNat 64 y.endStatus)
    | none => s
  | _ => s

/-- A transaction moved with its task from context `k` to `j`. -/
def moveKind (k j : Nat) : TxnKind → TxnKind
  | .loadScalar i t d v h => .loadScalar (if i = k then j else i) t d v h
  | .loadVector i t d v h => .loadVector (if i = k then j else i) t d v h
  | .store i t copy => .store (if i = k then j else i) t copy
  | .queueOp i t => .queueOp (if i = k then j else i) t
  | .call i t n => .call (if i = k then j else i) t n
  | .other => .other

/-- Whether a task may move now: it waits in QPOP, QPUSH, TWAIT, AWAIT, FENCE, TWAITT or WSLOT, or is at YIELD (R366). -/
def migratable (c : Ctx) : Bool :=
  match c.wait with
  | .running => c.yielded
  | .tag => false
  | _ => true

/-- A task moved from context `k` to the free context `j` with its registers, its scratch, its calls and what it waits for. -/
def State.moveTask (s : State) (k j : Nat) : State :=
  match (s.ctx k).task with
  | none => s
  | some t => match s.task t with
    | none => s
    | some x =>
      let s1 := ((s.setTask t { x with place := j }).setCtx j (s.ctx k)).setCtx k {}
      { s1 with
        prog := { s1.prog with calls := s1.prog.calls.map fun c => if c.place = k then { c with place := j } else c },
        fab := { s1.fab with flight := s1.fab.flight.map fun y => { y with kind := moveKind k j y.kind } } }

/-- TASK_MIGRATE (R366, with a tag of its own, R27): Pitch moves a task at a migration point to a free context of another engine. -/
def taskMigrate (k target : Nat) (s : State) : State :=
  if (s.ctx k).task.isSome && migratable (s.ctx k) && (s.ctx target).task.isNone && s.serves (target / 4) &&
     target / 4 != k / 4 && decide (target < 512) then (s.touchTag 145).moveTask k target else s

/-! ## Calls -/

/-- A call descriptor from its 64 bytes (*Call descriptor*). -/
def parseDesc (b : List Byte) : CallDesc :=
  { inH := leNat (b.take 4), outH := leNat ((b.drop 4).take 4), inOfs := leNat ((b.drop 8).take 8),
    outOfs := leNat ((b.drop 16).take 8), inLen := leNat ((b.drop 24).take 4), outLen := leNat ((b.drop 28).take 4),
    op := leNat ((b.drop 32).take 2), flags := leNat ((b.drop 34).take 2), param := (b.drop 36).take 28 }

/-- A little-endian field of PARAM. -/
def CallDesc.par (d : CallDesc) (ofs n : Nat) : Nat := leNat ((d.param.drop ofs).take n)

/-- Whether the operation, flags and parameters of a descriptor are valid for a unit (*Call operations*). -/
def descValid (unit : Nat) (d : CallDesc) : Bool :=
  decide (d.inOfs < 2 ^ 40) && decide (d.outOfs < 2 ^ 40) &&
  match unit with
  | 0 => decide (d.op < 2) && d.flags == 0 &&
      [64, 128, 256, 512, 1024, 2048, 4096, 8192].contains (CallDesc.par d 0 2) && CallDesc.par d 2 2 != 0 &&
      decide (CallDesc.par d 4 1 ≤ 13)
  | 1 => decide (d.op < 6) && d.flags == 0 &&
      (if d.op < 2 then decide (CallDesc.par d 0 1 < 4) && (d.op == 1 || decide (CallDesc.par d 3 1 ≤ 32))
       else if d.op < 4 then true else decide (CallDesc.par d 1 1 ≤ CallDesc.par d 0 1))
  | 2 => decide (d.op < 4) && d.flags == 0 &&
      (if d.op < 2 then CallDesc.par d 26 1 == 16 else [4, 8, 16].contains (CallDesc.par d 27 1))
  | _ => d.op == 0 && decide (d.flags < 2) && decide (CallDesc.par d 0 1 < 16) && decide (8 ≤ d.outLen)

/-- Whether a pack may use a range of a handle with a right (R352, R368). -/
def State.rangeOk (s : State) (k t : Nat) (x : Task) (h ofs n right : Nat) : Bool :=
  match s.target k t x h with
  | none => false
  | some y => y.kind != .queue && y.rights / right % 2 == 1 && decide (ofs + n ≤ y.size)

/-- The object a handle value names for a caller. -/
def State.objOf (s : State) (k h : Nat) : Nat :=
  if h = 0 then scratchObj (((s.ctx k).task).getD 0) else h

/-- Whether the owned check unit of a descriptor may be called: the pack owns the CHK block and the unit is not lent to the
host (R369, R530). -/
def State.chkCallable (s : State) (slot : Nat) (d : CallDesc) : Bool :=
  s.packOwns slot pageChk && !s.chkLent (CallDesc.par d 0 1)

/-- The domains of the instances of a call unit. -/
def callDomains (unit : Nat) : List Nat :=
  match unit with
  | 0 => (List.range 4).map domXf
  | 1 => (List.range 8).map domFec
  | 2 => (List.range 4).map domCry
  | _ => [domChk]

/-- A free ticket of a context, 1 to 8 (R367): the one a free number picks (log entry 30). -/
def freeTicket (c : Ctx) (n : Nat) : Option Nat :=
  pickFrom (([1, 2, 3, 4, 5, 6, 7, 8] : List Nat).filter fun n => !(c.tickets.any fun p => p.1 == n)) n

/-- A ticket with a status, or running. -/
def State.setTicket (s : State) (k n : Nat) (st : Option Nat) : State :=
  let c := s.ctx k
  s.setCtx k { c with tickets := (n, st) :: c.tickets.filter fun p => p.1 != n }

/-- The stop of the instance of a call unit: CS_n for FEC_n, SS_0 for XF, SS_1 for CRY and CHK. -/
def callStop (unit inst : Nat) : Nat := if unit = 1 then inst else if unit = 0 then 12 else 13

/-- XFFT, XFEC, XCRY and XCHK (R367, R368): the descriptor is copied and the call takes a ticket; an invalid descriptor ends
it with DENIED, a kind without a unit in service with ABANDONED (R397). -/
def issueCall (unit : Nat) (k : Nat) (f : FmtA) (s : State) : State :=
  s.issue k 1 [.s f.h.toNat, .s f.o.toNat, .s f.d.toNat] (decide (f.unit.toNat = unit) && f.fn == 0) fun s t x =>
    let h := (s.sr k f.h.toNat).toNat % 2 ^ 32
    let ofs := (s.sr k f.o.toNat).toNat % 2 ^ 40
    match accessFault (s.target k t x h) ofs 64 1 1 (Config.freeNat s.free) with
    | some c => s.taskFault k t x c
    | none =>
      match freeTicket (s.ctx k) (Config.freeNat s.free) with
      | none => s.setPc k ((s.ctx k).pc - 4)
      | some n =>
        if s.hasTag (k / 4) = false then s.waitTag k 1
        else
          let d := parseDesc (s.peek (s.objOf k h) ofs 64)
          let valid := descValid unit d && s.rangeOk k t x d.inH d.inOfs d.inLen 1 &&
            s.rangeOk k t x d.outH d.outOfs d.outLen 2 && (unit != 3 || s.chkCallable x.slot d)
          let s1 := s.drew.setSr k f.d.toNat (BitVec.ofNat 64 n)
          if valid = false then (s1.touchTag (k / 4)).setTicket k n (some (Status.code .denied))
          else match (callDomains unit).find? fun i => s.serves i with
            | none => (s1.touchTag (k / 4)).setTicket k n (some (Status.code .abandoned))
            | some i =>
              let inst := if unit = 3 then CallDesc.par d 0 1 else i - (callDomains unit).headD 0
              let s2 := (s1.setTicket k n none).startTxn (k / 4) none (callStop unit inst) 1 1 (.call k t n)
              { s2 with prog := { s2.prog with
                  nextCall := s2.prog.nextCall + 1,
                  calls := s2.prog.calls ++ [{ id := s2.prog.nextCall, unit := unit, inst := inst, place := k, ticket := n,
                                               slot := x.slot, desc := d }] } }

def idXfft (k : Nat) (f : FmtA) (s : State) : State := issueCall 0 k f s
def idXfec (k : Nat) (f : FmtA) (s : State) : State := issueCall 1 k f s
def idXcry (k : Nat) (f : FmtA) (s : State) : State := issueCall 2 k f s
def idXchk (k : Nat) (f : FmtA) (s : State) : State := issueCall 3 k f s

/-- The result of a ticket delivered to s[d]; the ticket is free again (R367). -/
def State.takeTicket (s : State) (k d n st : Nat) : State :=
  let c := s.ctx k
  (s.setCtx k { c with tickets := c.tickets.filter fun p => p.1 != n, wait := .running }).setSr k d (BitVec.ofNat 64 st)

/-- AWAIT (R367): waits for ticket s[a] and sets s[d] to the call's status. The spec names no result for a ticket that is
not outstanding: a free value (log entry 16). -/
def idAwait (k : Nat) (f : FmtR) (s : State) : State :=
  s.issue k 1 [.s f.a.toNat, .s f.d.toNat] (f.b == 0 && f.pg == 0 && f.ty == 0) fun s _ _ =>
    let n := (s.sr k f.a.toNat).toNat
    match ((s.ctx k).tickets.find? fun p => p.1 == n) with
    | none => (s.setSr k f.d.toNat (Config.freeBits 64 s.free)).drew
    | some (_, some st) => s.takeTicket k f.d.toNat n st
    | some (_, none) => s.setCtx k { s.ctx k with wait := .call f.d.toNat n }

/-- APOLL (R367): as AWAIT without waiting; 0xFF while the call runs (log entry 16). -/
def idApoll (k : Nat) (f : FmtR) (s : State) : State :=
  s.issue k 1 [.s f.a.toNat, .s f.d.toNat] (f.b == 0 && f.pg == 0 && f.ty == 0) fun s _ _ =>
    let n := (s.sr k f.a.toNat).toNat
    match ((s.ctx k).tickets.find? fun p => p.1 == n) with
    | none => (s.setSr k f.d.toNat (Config.freeBits 64 s.free)).drew
    | some (_, some st) => s.takeTicket k f.d.toNat n st
    | some (_, none) => s.setSr k f.d.toNat 0xFF

/-- The transaction of a call. -/
def State.callTxn (s : State) (c : Call) : Option Txn :=
  s.fab.flight.find? fun x => match x.kind with
    | .call k _ n => k == c.place && n == c.ticket
    | _ => false

/-- Whether the request of a call has reached its unit. -/
def State.reached (s : State) (c : Call) : Bool :=
  match s.callTxn c with
  | none => true
  | some x => Txn.arrived x

/-- The tag of a call returned (R367). -/
def State.landCall (s : State) (c : Call) : State :=
  match s.callTxn c with
  | none => s
  | some x => (s.respond x.respN x.resp).land x

/-- The initiator that is the instance of a call unit; the check units draw no tags (*Fabric tag quotas*). -/
def callInit (c : Call) : Option Nat :=
  match c.unit with
  | 0 => some (136 + c.inst)
  | 1 => some (128 + c.inst)
  | 2 => some (140 + c.inst)
  | _ => none

/-- The tags a call unit draws for the input it reads and the output it writes (R27). -/
def State.callTags (s : State) (c : Call) : State :=
  match callInit c with
  | none => s
  | some i => s.touchTag i

/-- A call ended with a status (R367): its tag returns; the ticket gets its final status, which a context waiting in AWAIT
takes at once. A discarded call only returns its tag. -/
def State.endCall (s : State) (c : Call) (st : Status) : State :=
  let s1 := s.landCall c
  let s2 := { s1 with prog := { s1.prog with calls := s1.prog.calls.filter fun d => d.id != c.id } }
  if c.discard then s2
  else match (s2.ctx c.place).wait with
    | .call d n => if n = c.ticket then s2.takeTicket c.place d n (Status.code st)
                   else s2.setTicket c.place c.ticket (some (Status.code st))
    | _ => (s2.setTicket c.place c.ticket (some (Status.code st))).checkFence c.place

/-- A call ended with an output: written when it is not discarded and fits, else DENIED and nothing written (R368). -/
def State.endCallWith (s : State) (c : Call) (st : Status) (out : List Byte) : State :=
  if c.discard then s.endCall c st
  else if c.desc.outLen < out.length then s.endCall c .denied
  else (s.setBytes (s.objOf c.place c.desc.outH) c.desc.outOfs out).endCall c st

/-- The input bytes of a call. -/
def State.callInput (s : State) (c : Call) : List Byte := s.peek (s.objOf c.place c.desc.inH) c.desc.inOfs c.desc.inLen

/-- The completion of call `id` when it is one of unit `unit` and operation `op`. -/
def State.callFor (s : State) (id unit op : Nat) : Option Call :=
  s.prog.calls.find? fun c => c.id == id && c.unit == unit && c.desc.op == op && s.reached c

/-- A call served: its unit draws the tags for its input and output (R27). -/
def State.onCall (s : State) (id unit op : Nat) (f : State → Call → State) : State :=
  match s.callFor id unit op with
  | none => s
  | some c => f (s.callTags c) c

/-- Transform calls (R369): OK, or LIMIT when a value saturated; DENIED when the input does not hold N × COUNT values. -/
def runFft (inverse : Bool) (s : State) (c : Call) : State :=
  let n := CallDesc.par c.desc 0 2
  let count := CallDesc.par c.desc 2 2
  if c.desc.inLen < 4 * n * count ∨ c.desc.outLen < 4 * n * count then s.endCall c .denied
  else
    let r := Config.fft inverse n count (CallDesc.par c.desc 4 1) (s.callInput c)
    s.endCallWith c (if r.2 then .limit else .ok) (r.1.take (4 * n * count))

def xfFft (call : Nat) (s : State) : State := s.onCall call 0 0 (runFft false)

def xfIfft (call : Nat) (s : State) : State := s.onCall call 0 1 (runFft true)

/-- Information bits of a 1 944-bit codeword by RATE (R122, R369). -/
def ldpcK (rate : Nat) : Nat := if rate = 0 then 972 else if rate = 1 then 1296 else if rate = 2 then 1458 else 1620

/-- LDPC decode (R369): the bits, then one status byte per codeword; CHECK_FAIL unless every syndrome is clean. -/
def ldpcDecode (call : Nat) (s : State) : State :=
  s.onCall call 1 0 fun s c =>
    let rate := CallDesc.par c.desc 0 1
    let ncw := CallDesc.par c.desc 1 2
    let maxIt := if CallDesc.par c.desc 3 1 = 0 then 12 else CallDesc.par c.desc 3 1
    let bits := (ncw * ldpcK rate + 7) / 8
    if c.desc.inLen < 1944 * ncw ∨ c.desc.outLen < bits + ncw then s.endCall c .denied
    else
      let r := Config.ldpcDecode rate ncw maxIt (s.callInput c)
      let clean := (r.2.take ncw).all fun b => b.getLsbD 0
      s.endCallWith c (if clean then .ok else .checkFail) (r.1.take bits ++ r.2.take ncw)

/-- LDPC encode (R369). -/
def ldpcEncode (call : Nat) (s : State) : State :=
  s.onCall call 1 1 fun s c =>
    let rate := CallDesc.par c.desc 0 1
    let ncw := CallDesc.par c.desc 1 2
    let bytes := (1944 * ncw + 7) / 8
    if c.desc.inLen < (ncw * ldpcK rate + 7) / 8 ∨ c.desc.outLen < bytes then s.endCall c .denied
    else s.endCallWith c .ok ((Config.ldpcEncode rate ncw (s.callInput c)).take bytes)

/-- Viterbi decode (R369): LEN soft values in. -/
def viterbiDecode (call : Nat) (s : State) : State :=
  s.onCall call 1 2 fun s c =>
    if c.desc.inLen < CallDesc.par c.desc 1 4 then s.endCall c .denied
    else s.endCallWith c .ok (Config.viterbi (CallDesc.par c.desc 0 1) (CallDesc.par c.desc 1 4) (s.callInput c))

/-- The bits of a byte in the order the spec leaves open. -/
def byteBits (b : Byte) : List Bool :=
  (List.range 8).map fun i => b.getLsbD (if Config.bitsMsbFirst then 7 - i else i)

/-- A byte from up to 8 bits in the same order; missing bits are 0. -/
def bitsByte (l : List Bool) : Byte :=
  BitVec.ofNat 8 (((List.range 8).map fun i =>
    if l.getD i false then 2 ^ (if Config.bitsMsbFirst then 7 - i else i) else 0).sum)

/-- Bits packed into `n` bytes. -/
def packBits : Nat → List Bool → List Byte
  | 0, _ => []
  | n + 1, l => bitsByte (l.take 8) :: packBits n (l.drop 8)

/-- Convolutional encode (R369): LEN bits in, punctured by PUNCT. -/
def convolutionalEncode (call : Nat) (s : State) : State :=
  s.onCall call 1 3 fun s c =>
    let len := CallDesc.par c.desc 1 4
    let punct := CallDesc.par c.desc 0 1
    if c.desc.inLen < (len + 7) / 8 then s.endCall c .denied
    else
      let coded := convolve 0 (((s.callInput c).flatMap byteBits).take len)
      let out := if punct = 0 then coded else Config.puncture punct coded
      s.endCallWith c .ok (packBits ((out.length + 7) / 8) out)

/-- Reed-Solomon decode (R369): CHECK_FAIL when a block is not corrected. -/
def reedSolomonDecode (call : Nat) (s : State) : State :=
  s.onCall call 1 4 fun s c =>
    let n := CallDesc.par c.desc 0 1
    let kk := CallDesc.par c.desc 1 1
    let blocks := CallDesc.par c.desc 2 2
    if c.desc.inLen < n * blocks ∨ c.desc.outLen < kk * blocks then s.endCall c .denied
    else
      let r := Config.rsDecode n kk blocks (s.callInput c)
      s.endCallWith c (if r.2 then .ok else .checkFail) (r.1.take (kk * blocks))

/-- Reed-Solomon encode (R369). -/
def reedSolomonEncode (call : Nat) (s : State) : State :=
  s.onCall call 1 5 fun s c =>
    let n := CallDesc.par c.desc 0 1
    let kk := CallDesc.par c.desc 1 1
    let blocks := CallDesc.par c.desc 2 2
    if c.desc.inLen < kk * blocks ∨ c.desc.outLen < n * blocks then s.endCall c .denied
    else s.endCallWith c .ok ((Config.rsEncode n kk blocks (s.callInput c)).take (n * blocks))

/-! ## Meanings -/

def execIQpush (k : Nat) (f : FmtR) (s : State) : Host.Outcome State Fault Refusal := .next (idQpush k f s)

def execIQpop (k : Nat) (f : FmtR) (s : State) : Host.Outcome State Fault Refusal := .next (idQpop k f s)

def execIQtpush (k : Nat) (f : FmtR) (s : State) : Host.Outcome State Fault Refusal := .next (idQtpush k f s)

def execIQtpop (k : Nat) (f : FmtR) (s : State) : Host.Outcome State Fault Refusal := .next (idQtpop k f s)

def execIQlen (k : Nat) (f : FmtR) (s : State) : Host.Outcome State Fault Refusal := .next (idQlen k f s)

def execQueueWaitResume (k : Nat) (s : State) : Host.Outcome State Fault Refusal := .next (queueWaitResume k s)

def execISpawn (k : Nat) (f : FmtR) (s : State) : Host.Outcome State Fault Refusal := .next (idSpawn k f s)

def execITwait (k : Nat) (f : FmtR) (s : State) : Host.Outcome State Fault Refusal := .next (idTwait k f s)

def execTwaitResume (k : Nat) (s : State) : Host.Outcome State Fault Refusal := .next (twaitResume k s)

def execIXfft (k : Nat) (f : FmtA) (s : State) : Host.Outcome State Fault Refusal := .next (idXfft k f s)

def execIXfec (k : Nat) (f : FmtA) (s : State) : Host.Outcome State Fault Refusal := .next (idXfec k f s)

def execIXcry (k : Nat) (f : FmtA) (s : State) : Host.Outcome State Fault Refusal := .next (idXcry k f s)

def execIXchk (k : Nat) (f : FmtA) (s : State) : Host.Outcome State Fault Refusal := .next (idXchk k f s)

def execIAwait (k : Nat) (f : FmtR) (s : State) : Host.Outcome State Fault Refusal := .next (idAwait k f s)

def execIApoll (k : Nat) (f : FmtR) (s : State) : Host.Outcome State Fault Refusal := .next (idApoll k f s)

def execXfFft (call : Nat) (s : State) : Host.Outcome State Fault Refusal := .next (xfFft call s)

def execXfIfft (call : Nat) (s : State) : Host.Outcome State Fault Refusal := .next (xfIfft call s)

def execLdpcDecode (call : Nat) (s : State) : Host.Outcome State Fault Refusal := .next (ldpcDecode call s)

def execLdpcEncode (call : Nat) (s : State) : Host.Outcome State Fault Refusal := .next (ldpcEncode call s)

def execViterbiDecode (call : Nat) (s : State) : Host.Outcome State Fault Refusal := .next (viterbiDecode call s)

def execConvolutionalEncode (call : Nat) (s : State) : Host.Outcome State Fault Refusal := .next (convolutionalEncode call s)

def execReedSolomonDecode (call : Nat) (s : State) : Host.Outcome State Fault Refusal := .next (reedSolomonDecode call s)

def execReedSolomonEncode (call : Nat) (s : State) : Host.Outcome State Fault Refusal := .next (reedSolomonEncode call s)

def execTaskMigrate (k : Nat) (target : Nat) (s : State) : Host.Outcome State Fault Refusal := .next (taskMigrate k target s)

end Sys2Proof.Machine
end

