-- ==== Sys2Proof/Machine/Check.lean ====
section
/-! DEFINITION. The check units (chapter 22). -/

namespace Sys2Proof.Machine

open Sys2Proof

/-! ## The computation (R525) -/

/-- The mask 2^W − 1. -/
def chkMask (w : Nat) : DWord := BitVec.allOnes 64 >>> (64 - w)

/-- Bits `n - 1` to 0 of `v` in reverse order. -/
def reflectBits (v : DWord) : Nat → DWord
  | 0 => 0
  | n + 1 => (reflectBits (v >>> 1) n) ||| (if v.getLsbD 0 then (1 : DWord) <<< n else 0)

/-- One of the eight steps of a byte. -/
def chkShift (w : Nat) (poly reg : DWord) : DWord :=
  if reg.getLsbD (w - 1) then ((reg <<< 1) ^^^ poly) &&& chkMask w else (reg <<< 1) &&& chkMask w

/-- `n` such steps. -/
def chkShifts (w : Nat) (poly reg : DWord) : Nat → DWord
  | 0 => reg
  | n + 1 => chkShifts w poly (chkShift w poly reg) n

/-- One byte fed to a running value. -/
def chkByte (w : Nat) (refin : Bool) (poly reg : DWord) (b : Byte) : DWord :=
  let c : DWord := if refin then reflectBits (b.zeroExtend 64) 8 else b.zeroExtend 64
  chkShifts w poly (reg ^^^ (c <<< (w - 8))) 8

/-- Bytes fed in order. -/
def chkFeedAll (w : Nat) (refin : Bool) (poly : DWord) : DWord → List Byte → DWord
  | reg, [] => reg
  | reg, b :: t => chkFeedAll w refin poly (chkByte w refin poly reg b) t

/-- The final value of a running value. -/
def chkFinal (w : Nat) (refout : Bool) (xorout reg : DWord) : DWord :=
  (if refout then reflectBits reg w else reg) ^^^ (xorout &&& chkMask w)

/-! ## A unit -/

/-- Check unit `n`. -/
def State.chkUnit (s : State) (n : Nat) : ChkUnit := Tab.get (fun _ => {}) s.chk n

/-- `s` with check unit `n` replaced. -/
def State.setChkUnit (s : State) (n : Nat) (u : ChkUnit) : State := { s with chk := Tab.set (fun _ => {}) s.chk n u }

/-- CHK_CFG.WIDTH, 8 to 64. -/
def State.chkW (s : State) (n : Nat) : Nat := s.fld F.CHK_CFG_WIDTH n

/-- A LO and HI register pair as one value. -/
def State.pairReg (s : State) (lo hi : Reg) (n : Nat) : DWord := (s.reg hi n) ++ (s.reg lo n)

/-- The running value of unit `n` after more bytes. -/
def State.chkFed (s : State) (n : Nat) (reg : DWord) (bytes : List Byte) : DWord :=
  chkFeedAll (s.chkW n) (s.flag F.CHK_CFG_REFIN n) (s.pairReg .CHK_POLY_LO .CHK_POLY_HI n) reg bytes

/-- The final value of unit `n` from a running value. -/
def State.chkResult (s : State) (n : Nat) (reg : DWord) : DWord :=
  chkFinal (s.chkW n) (s.flag F.CHK_CFG_REFOUT n) (s.pairReg .CHK_XOR_LO .CHK_XOR_HI n) reg

/-- The XCHK call that holds or will hold unit `n`, the first that reached it (R529). -/
def State.chkCall (s : State) (n : Nat) : Option Call := s.prog.calls.find? fun c => c.unit == 3 && c.inst == n

/-- Whether an XCHK call holds unit `n` now (CHK_STAT.BUSY). -/
def State.chkBusy (s : State) (n : Nat) : Bool := (s.chkCall n).isSome && !(s.chkUnit n).yielding

/-- A shadow mismatch (R531): SCERR, detection 13. -/
def State.chkMismatch (s : State) (n : Nat) : State :=
  (s.setChkUnit n { s.chkUnit n with scerr := true }).detectTest 13 domChk (.unit domChk) none

/-- Bytes fed by a write (R526): they enter the running value even when one of them reveals a mismatch. -/
def State.chkWriteData (s : State) (n count : Nat) (v : Word) (mismatch : Bool) : State :=
  let s1 := s.setChkUnit n { s.chkUnit n with run := s.chkFed n (s.chkUnit n).run (natLe count v.toNat) }
  if mismatch then s1.chkMismatch n else s1

/-- The stored form of CHK_CFG: WIDTH below 8 as 8, above 64 as 64. -/
def chkCfgForm (w : Word) : Word := putBits w 0 7 (clampNat 8 64 (getBits w 0 7))

/-- The effect of a write of a check unit's register (R526, R527, R531). -/
def State.chkApply (s : State) (n : Nat) (op : ChkOp) (v : Word) (mismatch : Bool) : State :=
  match op with
  | .data8 => s.chkWriteData n 1 v mismatch
  | .data16 => s.chkWriteData n 2 v mismatch
  | .data32 => s.chkWriteData n 4 v mismatch
  | .init =>
    if v.getLsbD 0 then
      s.setChkUnit n { s.chkUnit n with
        run := s.pairReg .CHK_INIT_LO .CHK_INIT_HI n &&& chkMask (s.chkW n), scerr := false }
    else s
  | .stateLo =>
    let u := s.chkUnit n
    s.setChkUnit n { u with run := ((u.run >>> 32).setWidth 32 ++ v : DWord) &&& chkMask (s.chkW n), scerr := false }
  | .stateHi =>
    let u := s.chkUnit n
    s.setChkUnit n { u with run := (v ++ u.run.setWidth 32 : DWord) &&& chkMask (s.chkW n) }
  | .cfg =>
    let s1 := s.setReg .CHK_CFG n (chkCfgForm (plainWrite .CHK_CFG (s.reg .CHK_CFG n) v))
    s1.setChkUnit n { s1.chkUnit n with run := (s1.chkUnit n).run &&& chkMask (s1.chkW n) }
  | .polyLo => s.setReg .CHK_POLY_LO n v
  | .polyHi => s.setReg .CHK_POLY_HI n v
  | .initLo => s.setReg .CHK_INIT_LO n v
  | .initHi => s.setReg .CHK_INIT_HI n v
  | .xorLo => s.setReg .CHK_XOR_LO n v
  | .xorHi => s.setReg .CHK_XOR_HI n v

/-- The register an operation writes. -/
def ChkOp.reg : ChkOp → Reg
  | .data8 => .CHK_DATA8 | .data16 => .CHK_DATA16 | .data32 => .CHK_DATA32 | .init => .CHK_CMD
  | .stateLo => .CHK_STATE_LO | .stateHi => .CHK_STATE_HI | .cfg => .CHK_CFG
  | .polyLo => .CHK_POLY_LO | .polyHi => .CHK_POLY_HI | .initLo => .CHK_INIT_LO | .initHi => .CHK_INIT_HI
  | .xorLo => .CHK_XOR_LO | .xorHi => .CHK_XOR_HI

/-- A write of a check unit's register: judged at the unit, and held while an XCHK call holds the unit or earlier writes
wait (R37, R529). -/
def State.chkWrite (s : State) (n : Nat) (who : Who) (op : ChkOp) (v : Word) (mismatch : Bool) : State :=
  s.gated who (ChkOp.reg op) n fun s =>
    if s.chkBusy n || !(s.chkUnit n).writes.isEmpty then
      s.setChkUnit n { s.chkUnit n with writes := (s.chkUnit n).writes ++ [(op, v)] }
    else s.chkApply n op v mismatch

/-- CHK_INIT (R527): CHK_CMD.INIT loads INIT and clears SCERR. -/
def chkInit (unit : Nat) (who : Who) (value : Word) (s : State) : State := s.chkWrite unit who .init value false

/-- CHK_DATA8, CHK_DATA16 and CHK_DATA32 (R526): the bytes are fed from bits 7:0 upward. -/
def chkData8 (unit : Nat) (who : Who) (value : Word) (mismatch : Bool) (s : State) : State :=
  s.chkWrite unit who .data8 value mismatch

def chkData16 (unit : Nat) (who : Who) (value : Word) (mismatch : Bool) (s : State) : State :=
  s.chkWrite unit who .data16 value mismatch

def chkData32 (unit : Nat) (who : Who) (value : Word) (mismatch : Bool) (s : State) : State :=
  s.chkWrite unit who .data32 value mismatch

/-- CHK_STATE_WRITE (R527): one half of the running value replaced, masked to W. -/
def chkStateWrite (unit : Nat) (hi : Bool) (who : Who) (value : Word) (s : State) : State :=
  s.chkWrite unit who (if hi then .stateHi else .stateLo) value false

/-- CHK_CFG_WRITE (R527): a write of the configuration register `op`. -/
def chkCfgWrite (unit : Nat) (op : ChkOp) (who : Who) (value : Word) (s : State) : State :=
  match op with
  | .cfg | .polyLo | .polyHi | .initLo | .initHi | .xorLo | .xorHi => s.chkWrite unit who op value false
  | _ => s

/-- CHK_STATE_LO_READ: a read of CHK_STATE_LO latches CHK_STATE_HI. -/
def chkStateLoRead (unit : Nat) (who : Who) (s : State) : State :=
  if s.readable who .CHK_STATE_LO unit then
    let v := (s.chkUnit unit).run
    (s.setReg .CHK_STATE_HI unit ((v >>> 32).setWidth 32)).returns ((v.setWidth 32).setWidth 64)
  else s.returns 0

/-- CHK_RESULT_LO_READ (R525): a read of CHK_RESULT_LO latches CHK_RESULT_HI. -/
def chkResultLoRead (unit : Nat) (who : Who) (s : State) : State :=
  if s.readable who .CHK_RESULT_LO unit then
    let v := s.chkResult unit (s.chkUnit unit).run
    (s.setReg .CHK_RESULT_HI unit ((v >>> 32).setWidth 32)).returns ((v.setWidth 32).setWidth 64)
  else s.returns 0

/-- CHK_HOST_WRITE_RESUME (R529): the oldest write held during an XCHK call takes effect after its last byte. -/
def chkHostWriteResume (unit : Nat) (mismatch : Bool) (s : State) : State :=
  if s.chkBusy unit then s
  else match (s.chkUnit unit).writes with
    | [] => s
    | (op, v) :: t =>
      (s.setChkUnit unit { s.chkUnit unit with writes := t, yielding := !t.isEmpty }).chkApply unit op v mismatch

/-- CHK_HOSTMASK_WRITE (R530). -/
def chkHostmaskWrite (who : Who) (value : Word) (s : State) : State :=
  s.gated who .CHK_HOSTMASK 0 fun s => s.store .CHK_HOSTMASK 0 value

/-- CHK_FEED (R528, R529, R531): the first call of its unit feeds its bytes and ends; a mismatch at byte `m` ends it with
ABANDONED after that byte, its output not written. Held writes go before the next call. -/
def chkFeed (call : Nat) (mismatch : Option Nat) (s : State) : State :=
  s.onCall call 3 0 fun s c =>
    let n := c.inst
    let u := s.chkUnit n
    if (s.chkCall n).map (fun x => x.id) ≠ some c.id ∨ u.yielding = true then s
    else
      let start : DWord := if c.desc.flags % 2 = 1 then BitVec.ofNat 64 (CallDesc.par c.desc 4 8) &&& chkMask (s.chkW n) else u.run
      let input := s.callInput c
      match mismatch with
      | some m =>
        let s1 := s.setChkUnit n { u with run := s.chkFed n start (input.take (m + 1)), yielding := !u.writes.isEmpty }
        (s1.chkMismatch n).endCall c .abandoned
      | none =>
        let r := s.chkFed n start input
        let s1 := s.setChkUnit n { u with run := r, yielding := !u.writes.isEmpty }
        let final := if 16 ≤ c.desc.outLen then natLe 8 (s1.chkResult n r).toNat else []
        s1.endCallWith c .ok (natLe 8 r.toNat ++ final)

/-! ## Meanings -/

def execChkFeed (call : Nat) (mismatch : Option Nat) (s : State) : Host.Outcome State Fault Refusal :=
  .next (chkFeed call mismatch s)

def execChkInit (unit : Nat) (who : Who) (value : Word) (s : State) : Host.Outcome State Fault Refusal :=
  .next (chkInit unit who value s)

def execChkData8 (unit : Nat) (who : Who) (value : Word) (mismatch : Bool) (s : State) : Host.Outcome State Fault Refusal :=
  .next (chkData8 unit who value mismatch s)

def execChkData16 (unit : Nat) (who : Who) (value : Word) (mismatch : Bool) (s : State) : Host.Outcome State Fault Refusal :=
  .next (chkData16 unit who value mismatch s)

def execChkData32 (unit : Nat) (who : Who) (value : Word) (mismatch : Bool) (s : State) : Host.Outcome State Fault Refusal :=
  .next (chkData32 unit who value mismatch s)

def execChkStateWrite (unit : Nat) (hi : Bool) (who : Who) (value : Word) (s : State) : Host.Outcome State Fault Refusal :=
  .next (chkStateWrite unit hi who value s)

def execChkCfgWrite (unit : Nat) (op : ChkOp) (who : Who) (value : Word) (s : State) : Host.Outcome State Fault Refusal :=
  .next (chkCfgWrite unit op who value s)

def execChkStateLoRead (unit : Nat) (who : Who) (s : State) : Host.Outcome State Fault Refusal :=
  .next (chkStateLoRead unit who s)

def execChkResultLoRead (unit : Nat) (who : Who) (s : State) : Host.Outcome State Fault Refusal :=
  .next (chkResultLoRead unit who s)

def execChkHostWriteResume (unit : Nat) (mismatch : Bool) (s : State) : Host.Outcome State Fault Refusal :=
  .next (chkHostWriteResume unit mismatch s)

def execChkHostmaskWrite (who : Who) (value : Word) (s : State) : Host.Outcome State Fault Refusal :=
  .next (chkHostmaskWrite who value s)

end Sys2Proof.Machine
end

