-- ==== Sys2Proof/Machine/SecBase.lean ====
section
/-! DEFINITION. What security gives other chapters (chapter 17): owner slots, image verification, the debug level, the zeroisation of
keys, the lifecycle record. -/

namespace Sys2Proof.Machine

open Sys2Proof

/-! ## Owner slots and images -/

/-- The owner key of slot `n`, where one is written. -/
def State.ownerKey (s : State) (n : Nat) : Option Nat := Tab.get (fun _ => none) s.sec.lcRec.keys n

/-- Whether owner slot `n` is revoked. -/
def State.slotRevoked (s : State) (n : Nat) : Bool := Tab.get (fun _ => false) s.sec.revoked n

/-- Whether owner slot `n` holds an unrevoked key (SEC_STAT.ACTIVE). -/
def State.slotActive (s : State) (n : Nat) : Bool := decide (n < 4) && (s.ownerKey n).isSome && !s.slotRevoked n

/-- Whether a SIGNER names the Ketidon key or an active owner slot. -/
def State.signerActive (s : State) (signer : Nat) : Bool := signer == 0 || s.slotActive (signer - 1)

/-- The lifecycle state in force: that of the newest landed lifecycle record (R449). -/
def State.lifecycle (s : State) : Nat := s.sec.lcRec.lc

/-- The rollback counter of a class (R454). -/
def State.rollbackOf (s : State) (cls : Nat) : Nat := Tab.get (fun _ => 0) s.sec.rb cls

/-- Whether a functional injection waits at the injection point of detector `code`, and `s` once it has struck (R467) (log entry 108). -/
def State.injected (s : State) (code : Nat) : Bool := s.rel.injections.any fun p => p.1 == code

def State.disarm (s : State) (code : Nat) : State :=
  { s with rel := { s.rel with injections := s.rel.injections.filter fun p => p.1 != code } }

/-- The verification of an image (R453), in its order: the first failure, or none. -/
def State.verifyImage (s : State) (i : PackImage) : Option Status :=
  if s.signerActive i.signer = false then some .denied
  else if 16 ≤ i.cls ∨ (i.cls < 8 ∧ i.signer ≠ 0) ∨ (8 ≤ i.cls ∧ i.signer = 0) then some .denied
  else if s.lifecycle = 4 ∨ ((s.lifecycle = 0 ∨ s.lifecycle = 3) ∧ i.signer ≠ 0) then some .denied
  else if i.sigOk = false then some .authFail
  else if i.rollback < s.rollbackOf i.cls then some .denied
  else if s.injected 10 then some .authFail
  else none

/-- A failed image or boot bank: detection 10, or the injected one it was made by (R466, R467). -/
def State.imageFailed (s : State) : State :=
  if s.injected 10 then (s.disarm 10).countInjected 10 0 else s.countDetectionAt 10 pageSec 0

/-! ## Keys -/

/-- Every node without its session key, and no group key. -/
def State.dropSessions (s : State) : State :=
  let bare : Node → Node := fun n => { n with sess := none }
  { s with mac := { s.mac with nodes := s.mac.nodes.map fun p => (p.1, p.2.map bare), gkey := none } }

/-- The provisioned EUI-64s kept, their wrapped keys gone. -/
def State.dropPsks (s : State) : State :=
  { s with mac := { s.mac with prov := s.mac.prov.map fun p => (p.1, p.2.map fun _ => false) } }

/-- Every link key zeroised (R460): SWK, CRY key caches, session keys, the group key, the Guyline link keys. -/
def State.zeroLinkKeys (s : State) : State :=
  let s1 := s.dropSessions
  { s1 with sec := { s1.sec with swk := none, caches := [] },
            gl := { s1.gl with keys := [] } }

/-- The KEK and the network key zeroised in the key store; the pre-shared keys under that KEK are of no more use. -/
def State.zeroKek (s : State) : State :=
  let s1 := s.dropPsks
  { s1 with sec := { s1.sec with kek := none }, gl := { s1.gl with netKey := false } }

/-- The lifecycle record as it will stand once every waiting one has landed. -/
def State.lcNext (s : State) : LcRec :=
  s.bed.waiting.foldl (fun r w => match w.record.payload with
    | .lifecycle x => x
    | _ => r) s.sec.lcRec

/-- A lifecycle record submitted (R449). -/
def State.submitLc (s : State) (r : LcRec) : State := s.submit 6 0 0 (.lifecycle r) 1

/-! ## Tamper (R462) -/

/-- The configuration of TAMPER_n: bit 0 EN, bit 1 POL, bits 3:2 ACTION. -/
def State.tamperCfg (s : State) (n : Nat) : Nat := getBits (s.reg .SEC_TAMPCFG 0) (4 * n) 4

/-- Whether TAMPER_n is enabled and at its active level. -/
def State.tamperLive (s : State) (n : Nat) : Bool :=
  (s.tamperCfg n).testBit 0 && s.pins.tamper.testBit n == (s.tamperCfg n).testBit 1

/-- An activation of TAMPER_n (R462): latched, timed, detected, its event record posted, its action performed. -/
def State.tamperAct (s : State) (n : Nat) (inj : Bool) : State :=
  let old := s.fld F.SEC_TAMPSTAT_LATCHED 0
  let s1 := if old = 0 then s.setReg .SEC_TAMPT 0 (BitVec.ofNat 32 s.now.s) else s
  let s2 := (s1.setFld F.SEC_TAMPSTAT_LATCHED 0 (old ||| 2 ^ n)).noteIrq1
  let s3 := if inj then { s2 with rel := { s2.rel with detInj := countUp s2.rel.detInj 12 0xFFFFFFFF } } else s2.bumpDetection 12
  let s4 := s3.eventAs 0 .ok pageSec [(4, n), (4, 12)] (if inj then 2 else 0)
  let action := min 2 (s.tamperCfg n / 4)
  let s5 := if 1 ≤ action then s4.zeroLinkKeys else s4
  if action = 2 then
    let s6 := s5.zeroKek
    if s.lifecycle = 4 then s6 else s6.submitLc { s6.lcNext with kek := none, net := [] }
  else s5

/-! ## The debug level (R459 to R461) -/

/-- The highest level a host write may set: by lifecycle state in SERVE and SURGE, at most D1 in EMBER, D0 elsewhere. -/
def State.levelCap (s : State) : Nat :=
  let host := [3, 3, 2, 2, 1].getD s.lifecycle 1
  match s.pwr.mode with
  | .serve | .surge => host
  | .ember => min 1 host
  | _ => 0

/-- Halted tasks resumed where the level fell below the one that halted them (R461). -/
def State.resumeHalted (s : State) : State :=
  let wake : Ctx → Ctx := fun c =>
    if c.halted && decide (s.level < c.haltAt) then { c with halted := false, stepOne := false, haltAt := 0 } else c
  { s with prog := { s.prog with ctxs := s.prog.ctxs.map fun p => (p.1, wake p.2) } }

/-- The debug level set: an unlock is consumed, an entry to D3 zeroises every link key, and halted tasks resume as R461 says. -/
def State.setLevel (s : State) (n : Nat) : State :=
  let s1 := { s with sec := { s.sec with unlock := none } }.setFld F.DBG_LEVEL_UNLOCKED 0 0
  let s2 := if n = 3 ∧ s.level ≠ 3 then s1.zeroLinkKeys else s1
  (s2.setFld F.DBG_LEVEL_INFORCE 0 n).resumeHalted

/-- The challenge consumed (R450): by a signed command, a mode transition, RST_n, a controller restart. -/
def State.dropChallenge (s : State) : State := { s with sec := { s.sec with challenge := none } }

end Sys2Proof.Machine
end

