-- ==== Sys2Proof/Machine/Memory.lean ====
section
/-! DEFINITION. Main memory and the memory intents (chapter 14): stacks and their steps, what memory is committed to, the shrink order,
where handles live, the loss of a stack. -/

namespace Sys2Proof.Machine

open Sys2Proof

/-! ## Stacks -/

/-- The state of stack `n`. -/
def State.stack (s : State) (n : Nat) : StackState := Tab.get (fun _ => .off) s.plc.hbm n

/-- `s` with stack `n` in a state. -/
def State.setStack (s : State) (n : Nat) (x : StackState) : State :=
  { s with plc := { s.plc with hbm := Tab.set (fun _ => .off) s.plc.hbm n x } }

/-- Whether stack `n` serves; one that changes its step still holds its contents (R402). -/
def State.stackServes (s : State) (n : Nat) : Bool :=
  s.dom (domMem n) == .on && !s.isRetired (domMem n) && (s.stack n == .serving || s.stack n == .changing)

/-- The stacks that serve, and those that are not retired. -/
def State.serving (s : State) : List Nat := (List.range 4).filter s.stackServes

def State.stacksLeft (s : State) : List Nat := (List.range 4).filter fun n => !s.isRetired (domMem n)

/-- The data-rate step of stack `n` (MEM_STAT.STEP). -/
def State.step3 (s : State) (n : Nat) : Nat := Tab.get (fun _ => 0) s.plc.steps n

/-- The highest step a stack may run at: by mode, MEM_CFG.MAXSTEP and the power cap (R401). -/
def State.stepCeil (s : State) (n : Nat) : Nat :=
  let mode := match s.pwr.mode with
    | .surge => 2
    | .serve => 1
    | _ => 0
  min (min mode (s.fld F.MEM_CFG_MAXSTEP n)) (Tab.get (fun _ => 2) s.plc.capSteps n)

/-- The lowest step: MINSTEP, when that does not exceed the ceiling. -/
def State.stepFloor (s : State) (n : Nat) : Nat :=
  if s.fld F.MEM_CFG_MINSTEP n ≤ s.stepCeil n then s.fld F.MEM_CFG_MINSTEP n else 0

/-- HBM_STEP_CHANGE (R401, R402): Pitch gives a serving stack another step; it is retrained, one stack at a time. -/
def hbmStepChange (stack step : Nat) (s : State) : State :=
  if stack < 4 ∧ s.stackServes stack = true ∧ s.stack stack = .serving ∧ step ≠ s.step3 stack ∧ s.stepFloor stack ≤ step ∧
     step ≤ s.stepCeil stack ∧ ((List.range 4).any fun n => s.stack n == .changing) = false then
    let s1 := s.setStack stack .changing
    { s1 with plc := { s1.plc with steps := Tab.set (fun _ => 0) s1.plc.steps stack step } }
  else s

/-! ## What memory is committed to (R405, R408) -/

/-- Sizes in force: wide and narrow depth in 0.1 s, HARQ buffers and reserve in MiB. -/
structure Sizes where
  wide : Nat
  narrow : Nat
  harq : Nat
  reserve : Nat
  deriving DecidableEq, Repr

/-- Bytes the rings and the HARQ buffers take: 8 wide inputs at 128 MS/s, 32 narrow ones at 4 MS/s, two bytes a sample (log entry 89). -/
def Sizes.bytes (x : Sizes) : Nat := x.wide * 204800000 + x.narrow * 25600000 + x.harq * 2 ^ 20

/-- Bytes of the other uses of *Memory budget*, packs apart: node table, channel records, stream buffers, evidence, state (log entry 89). -/
def fixedBytes : Nat := 512 * 2 ^ 20 + 16384 * 72448 + 4096 * 2 ^ 20 + 2048 * 2 ^ 20 + 214748365

/-- The reserve R408 keeps with `k` stacks, in MiB. -/
def reserveRule (k : Nat) : Nat := if 3 ≤ k then 24576 else 0

/-- Bytes of a set of stacks: 24 GiB each, 768 MiB less for every retired pseudo-channel (R473) (log entry 90). -/
def State.capacity (s : State) (l : List Nat) : Nat :=
  (l.map fun n => (24576 - 768 * Tab.get (fun _ => 0) s.plc.pcRetired n) * 2 ^ 20).sum

/-- `cur` lowered towards `floor` in steps of `unit` bytes until `need` bytes are freed. -/
def shrinkBy (need unit cur floor : Nat) : Nat := cur - min (cur - floor) ((need + unit - 1) / unit)

/-- *Shrink order* (R408): the sizes cut, in order, until `fixed` bytes, the host's reserve and they fit in `cap` bytes. -/
def fitSizes (fixed cap : Nat) (x : Sizes) : Sizes :=
  let excess : Sizes → Nat := fun y => fixed + y.bytes + y.reserve * 2 ^ 20 - cap
  let x1 := { x with wide := shrinkBy (excess x) 204800000 x.wide 0 }
  let x2 := { x1 with narrow := shrinkBy (excess x1) 25600000 x1.narrow 100 }
  let x3 := { x2 with harq := shrinkBy (excess x2) (2 ^ 20) x2.harq 2048 }
  let x4 := { x3 with narrow := shrinkBy (excess x3) 25600000 x3.narrow 10 }
  let x5 := { x4 with harq := shrinkBy (excess x4) (2 ^ 20) x4.harq 512 }
  { x5 with reserve := shrinkBy (excess x5) (2 ^ 20) x5.reserve 0 }

/-- The sizes in force. -/
def State.sizes (s : State) : Sizes := ⟨s.plc.wideDs, s.plc.narrowDs, s.plc.harqMib, s.plc.reserve⟩

/-- The sizes the host asks for with the reserve of `k` stacks. -/
def State.askedSizes (s : State) (k : Nat) : Sizes :=
  ⟨10 * s.fld F.MDM_RINGCFG_WIDE_S 0, 10 * s.fld F.MDM_RINGCFG_NARROW_S 0, 8192, reserveRule k⟩

/-- Bytes committed apart from rings and HARQ buffers: fixed uses and the packs' declared memory, with the host's reserve added. -/
def State.heldBytes (s : State) : Nat := fixedBytes + (s.plc.packMib + s.fld F.PIT_MEMRES_MIB 0) * 2 ^ 20

/-- What the sizes are fitted from: those asked for, or, once shrunk, those in force (nothing grows back by itself). -/
def State.wantSizes (s : State) (k : Nat) : Sizes :=
  if s.plc.shrunk then
    { s.askedSizes k with wide := min s.plc.wideDs (s.askedSizes k).wide, narrow := min s.plc.narrowDs (s.askedSizes k).narrow,
                          harq := s.plc.harqMib }
  else s.askedSizes k

/-- `s` with sizes in force; rings and HARQ buffers are cut to them at once (R135, R143). -/
def State.setSizes (s : State) (x : Sizes) : State :=
  let s1 := { s with plc := { s.plc with wideDs := x.wide, narrowDs := x.narrow, harqMib := x.harq, reserve := x.reserve } }
  s1.trimRings.fitHarq s1.rx.harq.length

/-- The sizes fitted to the stacks that serve; in EMBER the narrow depth of R144 alone. A cut after a loss or an intent sets SHRUNK,
a reserve held low RESERVE_SHORT with an event record (R408) (log entry 91). -/
def State.refit (s : State) (told : Bool) : State :=
  let k := s.serving.length
  if s.pwr.mode = .ember then
    s.setSizes ⟨0, if k = 0 then 1 else min 80 (s.fld F.MDM_RINGCFG_EMBER_DS 0), s.plc.harqMib, s.plc.reserve⟩
  else if k = 0 then s.setSizes ⟨0, 0, 0, 0⟩
  else
    let want := s.wantSizes k
    let got := fitSizes s.heldBytes (s.capacity s.serving) want
    let s1 := s.setSizes got
    let short := decide (got.reserve < want.reserve)
    let cut := decide (got.wide < want.wide) || decide (got.narrow < want.narrow) || decide (got.harq < want.harq) || short
    if told && cut then
      let s2 := { s1 with plc := { s1.plc with shrunk := true } }.setFld F.PIT_EVT_SHRUNK 0 1
      if short then (s2.setFld F.PIT_EVT_RESERVE_SHORT 0 1).event .limit pagePit [] else s2
    else s1

/-- Whether `mib` more can be committed with the reserve of R408 and PIT_MEMRES held out (R376, R382), counted on every stack that is
not retired, since Pitch brings stacks into service as needed (R50) (log entry 90). -/
def State.memAdmits (s : State) (mib : Nat) : Bool :=
  let l := s.stacksLeft
  let want := s.wantSizes l.length
  let got := fitSizes s.heldBytes (s.capacity l) want
  decide (s.heldBytes + mib * 2 ^ 20 + { got with reserve := want.reserve }.bytes + want.reserve * 2 ^ 20 ≤ s.capacity l)

/-- MiB committed now (PIT_MEMCOM), rounded up (log entries 89, 92). -/
def State.memCommitted (s : State) : Nat :=
  if s.serving.isEmpty then 0
  else min ((fixedBytes + s.plc.packMib * 2 ^ 20 + s.sizes.bytes + 2 ^ 20 - 1) / 2 ^ 20) (24576 * s.serving.length - s.plc.reserve)

/-- Where a handle lives so that the EMBER stack `e` holds what R64 asks: one copy of a mirrored handle, and the handle of a pack with the
EMBER flag. -/
def emberPlace (e : Nat) (ember : Bool) : Place → Place
  | .mirrored n m => if n = e ∨ m = e then .mirrored n m else .mirrored e m
  | p => if ember then .stack e else p

/-- The place of a handle of pack `slot` kept as R64 asks. -/
def State.keepEmber (s : State) (slot : Nat) (p : Place) : Place :=
  match s.pwr.stack with
  | none => p
  | some e => emberPlace e (decide (slot < 16) && (s.pack slot).image.ember) p

/-- A handle with the place of every extent replaced. -/
def Handle.rePlace (x : Handle) (f : Nat → Place → Place) : Handle :=
  { x with place := f 0 x.place, more := (List.range x.more.length).map fun i => f (i + 1) (x.more.getD i x.place) }

/-- Every handle kept as R64 asks. -/
def State.tendEmber (s : State) : State :=
  { s with prog := { s.prog with handles := s.prog.handles.map fun p => (p.1, Handle.rePlace p.2 fun _ q => s.keepEmber p.2.slot q) } }

/-- The EMBER stack named where it does not serve any more, and what belongs on it moved or mirrored there (R64). -/
def State.nameStack (s : State) : State :=
  (match s.pwr.stack with
   | some n => if s.stackServes n then s else { s with pwr := { s.pwr with stack := s.serving.head? } }
   | none => { s with pwr := { s.pwr with stack := s.serving.head? } }).tendEmber

/-- HBM_TRAINING_COMPLETE (R50, R402): a stack serves. -/
def hbmTrainingComplete (stack : Nat) (s : State) : State :=
  match s.stack stack with
  | .training => ((s.setStack stack .serving).nameStack).refit false
  | .changing => s.setStack stack .serving
  | _ => s

/-- SCRUB_PASS (R404): a serving stack has read every location once more. -/
def scrubPass (stack : Nat) (s : State) : State :=
  if s.stackServes stack then
    { s with plc := { s.plc with scrubs := Tab.set (fun _ => 0) s.plc.scrubs stack (Tab.get (fun _ => 0) s.plc.scrubs stack + 1) } }
  else s

/-- The stored form of MDM_RINGCFG. -/
def ringCfgForm (w : Word) : Word :=
  let w1 := putBits w 16 8 (clampNat 1 80 (getBits w 16 8))
  let w2 := if 8 < getBits w1 8 4 then putBits w1 8 4 8 else w1
  putBits w2 0 6 (clampNat 1 60 (getBits w2 0 6))

/-- RING_DEPTH_CHANGE (R143, R408): MDM_RINGCFG written; what had shrunk may grow back where it is raised. -/
def ringDepthChange (who : Who) (value : Word) (s : State) : State :=
  s.gated who .MDM_RINGCFG 0 fun s =>
    let old := s.reg .MDM_RINGCFG 0
    let w := ringCfgForm (plainWrite .MDM_RINGCFG old value)
    let raised := decide (getBits old 8 4 < getBits w 8 4) || decide (getBits old 0 6 < getBits w 0 6)
    let s1 := s.setReg .MDM_RINGCFG 0 w
    (if raised then { s1 with plc := { s1.plc with shrunk := false } } else s1).refit raised

/-- MEMORY_RESERVE_WRITE (R379, R408): PIT_MEMRES written, at most 32 768 MiB; lowered, it lets what had shrunk grow back. -/
def memoryReserveWrite (value : Word) (s : State) : State :=
  s.gated .host .PIT_MEMRES 0 fun s =>
    let old := s.fld F.PIT_MEMRES_MIB 0
    let new := min 32768 (getBits value 0 16)
    let s1 := s.setFld F.PIT_MEMRES_MIB 0 new
    (if new < old then { s1 with plc := { s1.plc with shrunk := false } } else s1).refit true

/-! ## Where handles live (R385 to R389) -/

/-- Whether a place can hold a handle now; with one stack left both copies lie in it (R386, R409). -/
def State.placeServes (s : State) : Place → Bool
  | .store e => s.serves (domEng e)
  | .canteen b => s.serves (domCan b)
  | .stack n => s.stackServes n
  | .mirrored n m => s.stackServes n && s.stackServes m && (n != m || s.serving == [n])

/-- The latency class a place meets (R387). -/
def Place.home : Place → Nat
  | .store _ => 2
  | .canteen _ => 1
  | _ => 0

/-- Bytes of the handles at a place, scratches excluded. -/
def State.usedAt (s : State) (p : Place) : Nat := ((s.prog.handles.filter fun q => q.2.place == p).map fun q => q.2.size).sum

/-- Whether a place has room for a handle of a size: 256 KiB of handles in a local store, of which one takes at most 128 KiB in class 2, and the 8 MiB of
a Canteen bank (R387). -/
def State.roomAt (s : State) (size : Nat) (p : Place) : Bool :=
  match p with
  | .store _ => decide (s.usedAt p + size ≤ 262144)
  | .canteen _ => decide (s.usedAt p + size ≤ 8388608)
  | _ => true

/-- The places of the two nearer latency classes where a handle has room: class 2 in the local store of an engine in service, class 1 in a Canteen bank or
a local store (R387). -/
def State.homesFor (s : State) (latency size : Nat) : List Place :=
  let stores := ((List.range 128).filter fun e => s.serves (domEng e) && s.role e == .inService).map Place.store
  let banks := ((List.range 8).filter fun b => s.serves (domCan b)).map Place.canteen
  (if latency = 2 then stores else if latency = 1 then banks ++ stores else []).filter (s.roomAt size)

/-- The place Pitch gives a handle without a latency class: one stack or, mirrored, two; of those that serve, the one Pitch chooses (log entry 94). A stack
not in service yet counts where none serves. -/
def State.stackFor (s : State) (mirror : Bool) (h : Nat) : Place :=
  let c := Config.placement s.free h
  let l := if s.serving.isEmpty then s.stacksLeft else s.serving
  match pickFrom l c, mirror with
  | some n, true => .mirrored n ((pickFrom (l.erase n) (c / l.length)).getD n)
  | some n, false => .stack n
  | none, _ => .canteen ((pickFrom ((List.range 8).filter fun b => s.serves (domCan b)) c).getD 0)

/-- The place Pitch gives a handle of a latency class and size (R387): one of its class with room or, where there is none, of the next class down (R388;
log entry 94). -/
def State.placeFor (s : State) (latency : Nat) (mirror : Bool) (h size : Nat) : Place :=
  let c := Config.placement s.free h
  match pickFrom (s.homesFor latency size) c, pickFrom (s.homesFor (latency - 1) size) c with
  | some p, _ => p
  | none, some p => p
  | none, none => s.stackFor mirror h

/-- The places of the extents after the first of a handle larger than 1 GiB (R385). -/
def State.extentsFor (s : State) (mirror : Bool) (h size : Nat) : List Place :=
  (List.range ((size - 1) / 2 ^ 30)).map fun i => s.stackFor mirror (h + (i + 1) * 2 ^ 32)

/-- A handle given places, extent by extent. -/
def State.placed (s : State) (h : Nat) (x : Handle) : Handle :=
  { x with place := s.placeFor x.latency x.mirror h x.size, more := s.extentsFor x.mirror h x.size }

/-- `s` with handle `h` replaced. -/
def State.setHandle (s : State) (h : Nat) (x : Handle) : State :=
  { s with prog := { s.prog with handles := Tab.put s.prog.handles h x } }

/-- PAGE_MIGRATE (R388 to R390): Pitch moves page `page` of a handle towards `target`; with the last page of an extent it lives there. A
mirrored handle keeps two copies, what R64 keeps on the EMBER stack stays there, and a handle back in its latency class is no longer demoted. Contents are untouched (R353) (log entry 95). -/
def pageMigrate (handle page : Nat) (target : Place) (last : Bool) (s : State) : State :=
  match s.handle handle with
  | none => s
  | some x =>
    let two := match target with
      | .mirrored _ _ => true
      | _ => false
    let n := page / 262144
    if s.placeServes target = false ∨ two ≠ x.mirror ∨ x.size ≤ 4096 * page ∨ s.keepEmber x.slot target ≠ target ∨ s.roomAt x.size target = false then s
    else
      let s0 := s.touchTag 145
      let s1 := { s0 with plc := { s0.plc with migrations := s0.plc.migrations + 1 } }
      if last then s1.setHandle handle { Handle.rePlace x (fun i p => if i = n then target else p) with demoted := decide (Place.home target < x.latency) }
      else s1

/-- A handle without its place moved to another of its class, or to the next class down with DEMOTED and an event record naming the
pack and the declaration (R388). -/
def State.rehome (s : State) (h : Nat) (x : Handle) : State :=
  let p := s.placeFor x.latency x.mirror h x.size
  if x.latency ≤ Place.home p then s.drew.setHandle h { x with place := p }
  else ((s.drew.setHandle h { x with place := p, demoted := true }).setFld F.PIT_EVT_DEMOTED 0 1).event .limit pagePit [(4, x.slot), (4, x.decl)]

/-- The handles of a list whose place is `p` given another. -/
def State.rehomeFrom (s : State) (p : Place) : List (Nat × Handle) → State
  | [] => s
  | (h, x) :: t => (if x.place = p then s.rehome h x else s).rehomeFrom p t

/-! ## Tasks of packs (R378, R407) -/

/-- Every live task of the packs `f` holds for ended with a status (log entry 120). -/
def State.endTasks (s : State) (f : Nat → Bool) (st : Nat) : List (Nat × Task) → State
  | [] => s
  | (t, x) :: r => (if x.live && f x.slot then s.endTask x.place t st else s).endTasks f st r

/-- The tasks of pack `slot` ended with ABANDONED. -/
def State.endPackTasks (s : State) (slot : Nat) : State :=
  s.endTasks (fun n => n == slot) (Status.code .abandoned) s.prog.tasks

/-- Entry 0 of pack `slot` started with s1, where a context takes it. -/
def State.startEntry (s : State) (slot : Nat) (s1 : DWord) : State :=
  match s.mayStart slot 0 with
  | none => s
  | some (e, k) => s.startTask slot 0 k e s1 0 0

/-! ## Loss of a stack (R406 to R409) -/

/-- Whether a place needs stack `n`. -/
def Place.needs (n : Nat) : Place → Bool
  | .stack m => m == n
  | .mirrored a b => a == n || b == n
  | _ => false

/-- Whether a handle lies wholly or partly on stack `n`. -/
def Handle.needs (n : Nat) (x : Handle) : Bool := (Handle.spots x).any (Place.needs n)

/-- The extents of a handle that need stack `n` placed elsewhere. -/
def State.offStack (s : State) (n h : Nat) (x : Handle) : Handle :=
  Handle.rePlace x fun i p => if Place.needs n p then s.stackFor x.mirror (h + i * 2 ^ 32) else p

/-- The bytes of handle `h` as they were at load: its initial data, zero elsewhere. -/
def State.refill (s : State) (h : Nat) (x : Handle) : State :=
  let lo := memKey h 0
  let s1 := { s with mem := s.mem.filter fun c => decide (c.1 < lo) || decide (lo + 2 ^ 40 ≤ c.1) }
  x.initData.foldl (fun s p => s.setByte h p.1 p.2) s1

/-- The handles that lay on stack `n`: mirrored ones keep their contents and get a second copy again, the others are made anew. -/
def State.recreate (s : State) (n : Nat) : List (Nat × Handle) → State
  | [] => s
  | (h, x) :: t =>
    (if Handle.needs n x then
      let s1 := s.drew.setHandle h (s.offStack n h x)
      if x.mirror then s1 else (s1.refill h x).setQueue h []
    else s).recreate n t

/-- The transactions in flight to stack `n` ended: loads served from another copy or faulted, stores acknowledged (R406). -/
def State.endTxns (s : State) (n : Nat) : List Txn → State
  | [] => s
  | x :: t =>
    (match x.pc with
     | some p => if p / 32 = n then transactionResponse x.id true ((s.freeRequest x).setTxn { x with left := [], back := none, admitted := true, resp := [] }) else s
     | none => s).endTxns n t

/-- The packs of a list restarted after a loss (R407). -/
def State.restartPacks (s : State) : List Nat → State
  | [] => s
  | k :: t =>
    let s1 := ((s.endPackTasks k).startEntry k 1).setFld F.PIT_EVT_PACK_RESTART 0 1
    (s1.event .abandoned pagePit [(4, k)]).restartPacks t

/-- The blocks of a ring that lay on the lost stack set INVALID; which did is a free value (log entry 93). -/
def loseBlocks (n base : Nat) : List Block → List Block
  | [] => []
  | b :: t => { b with invalid := b.invalid || Config.lostPart n base } :: loseBlocks n (base + 1) t

/-- Ring blocks and HARQ buffers that lay on the lost stack gone (R406). -/
def State.loseRings (s : State) : State :=
  let rings := s.lin.rings.map fun p => (p.1, { p.2 with blocks := loseBlocks s.free (p.1 * 2 ^ 20) p.2.blocks })
  let harq := s.rx.harq.filter fun p => !Config.lostPart s.free (2 ^ 32 + p.1)
  { s with lin := { s.lin with rings := rings }, rx := { s.rx with harq := harq }, free := s.free + 1 }.pruneAll (List.range 8)

/-- Stack `n` lost: it serves no more, its transactions end, its handles live elsewhere, packs restart, memory shrinks (R406 to R408). -/
def State.loseStack (s : State) (n : Nat) : State :=
  let hit := (s.prog.handles.filter fun p => Handle.needs n p.2 && !p.2.mirror && decide (p.2.slot < 16) &&
    (s.pack p.2.slot).decls.contains p.1).map fun p => p.2.slot
  let s1 := ((s.endTxns n s.fab.flight).setStack n .off).nameStack
  let s2 := (s1.recreate n s1.prog.handles).loseRings.restartPacks ((List.range 16).filter fun k => hit.contains k)
  (s2.tendEmber.setFld F.PIT_EVT_STACK_LOST 0 1).refit true

/-! ## Memory errors (R403) -/

/-- MEMORY_ECC_ERROR (R403, R466): a corrected error is counted, and the second of a row within CE_WIN hours is detected; an
uncorrectable one is counted and detected. `unit` is the row, or the engine whose local store erred; `second` says that an earlier corrected
error of the row lies within CE_WIN; `load` is the context whose access to a local store met the error and faults with cause 5. -/
def memoryEccError (unit : TestUnit) (uncorrectable second : Bool) (load : Option Nat) (s : State) : State :=
  let stack := match unit with
    | .hbmRow pc _ => some (pc / 32)
    | _ => none
  let det := if stack.isSome then 1 else 2
  let sel := testSel unit
  let s1 := match stack, uncorrectable with
    | some n, false => s.bumpFld F.MEM_CE_COUNT n 1
    | some n, true => s.bumpFld F.MEM_UE_COUNT n 1
    | none, false => s.bumpFld F.MEM_CAN_CE_COUNT 0 1
    | none, true => s.bumpFld F.MEM_CAN_UE_COUNT 0 1
  let s2 := match load, uncorrectable with
    | some k, true => match (s1.ctx k).task with
      | some t => match s1.task t with
        | some x => s1.taskFault k t x 5
        | none => s1
      | none => s1
    | _, _ => s1
  if uncorrectable then s2.detectTest det sel unit none
  else if second && s2.rel.ceRows.contains unit then s2.detectTest det sel unit none
  else { s2 with rel := { s2.rel with ceRows := unit :: s2.rel.ceRows.filter fun u => u != unit } }

/-! ## Meanings -/

def execRingDepthChange (who : Who) (value : Word) (s : State) : Host.Outcome State Fault Refusal :=
  .next (ringDepthChange who value s)

def execPageMigrate (handle : Nat) (page : Nat) (target : Place) (last : Bool) (s : State) : Host.Outcome State Fault Refusal :=
  .next (pageMigrate handle page target last s)

def execHbmStepChange (stack : Nat) (step : Nat) (s : State) : Host.Outcome State Fault Refusal :=
  .next (hbmStepChange stack step s)

def execScrubPass (stack : Nat) (s : State) : Host.Outcome State Fault Refusal := .next (scrubPass stack s)

def execMemoryEccError (unit : TestUnit) (uncorrectable : Bool) (second : Bool) (load : Option Nat) (s : State) : Host.Outcome State Fault Refusal :=
  .next (memoryEccError unit uncorrectable second load s)

def execHbmTrainingComplete (stack : Nat) (s : State) : Host.Outcome State Fault Refusal :=
  .next (hbmTrainingComplete stack s)

def execMemoryReserveWrite (value : Word) (s : State) : Host.Outcome State Fault Refusal :=
  .next (memoryReserveWrite value s)

end Sys2Proof.Machine
end

