-- ==== Sys2Proof/Machine/Trail.lean ====
section
/-! DEFINITION. Trail ports (chapter 21): receiving, mute and addressing, transmitting and flow control, rate changes, breaks. -/

namespace Sys2Proof.Machine

open Sys2Proof

/-- Trail port `n`. -/
def State.tport (s : State) (n : Nat) : TPort := Tab.get (fun _ => {}) s.tp n

/-- `s` with Trail port `n` replaced. -/
def State.setTport (s : State) (n : Nat) (p : TPort) : State := { s with tp := Tab.set (fun _ => {}) s.tp n p }

/-- MODE of a port's TP_CFG word: 0 asynchronous, 1 ninth-bit, 2 synchronous. -/
def tpMode (w : Word) : Nat := getBits w 4 2

/-- Data bits of a TP_CFG word. -/
def tpBits (w : Word) : Nat := if tpMode w = 1 then 8 else 5 + getBits w 6 2

/-- Whether the port's high-rate logic works: enabled, its domain on (R524). -/
def State.tpOn (s : State) (n : Nat) : Bool := s.flag F.TP_CFG_EN n && s.dom (domTp n) == .on

/-- Whether a receiver listens (R515, R524): the slow one in every mode but OFF and in the asynchronous modes, else the high-rate one. -/
def State.tpListens (s : State) (n : Nat) : Bool :=
  let w := (s.tport n).rxCfg
  if getBits w 1 1 = 1 then tpMode w != 2 && s.pwr.mode != .off else s.tpOn n && !s.draining (domTp n)

/-! ## Rates and outputs (R507, R508, R518, R523, R524) -/

/-- Bits of a character: start, data, parity or address bit, stop bits (R507); in synchronous mode the data bits alone (R523). -/
def charBits (w : Word) : Nat :=
  if tpMode w = 2 then tpBits w
  else 1 + tpBits w + (if tpMode w = 1 ∨ getBits w 8 3 ≠ 0 then 1 else 0) + 1 + getBits w 11 1

/-- The 64 MHz periods of one bit in 1/256: OVS × (DIV + FRAC / 256) (R508), or 2 × DIV in synchronous mode (R523). -/
def bitPeriods (cfg baud : Word) : Nat :=
  if tpMode cfg = 2 then 2 * getBits baud 16 16 * 256
  else (if getBits cfg 2 2 = 2 then 3 else if getBits cfg 2 2 = 1 then 8 else 16) * (getBits baud 16 16 * 256 + getBits baud 8 8)

/-- The slow receiver's rate in b/s (R515). -/
def slowRate (w : Word) : Nat := 1200 * 2 ^ getBits w 24 2

/-- The character time of a receiver in ns, at the rate in force (R507, R515, R521). -/
def charNs (p : TPort) : Nat :=
  if getBits p.rxCfg 1 1 = 1 then charBits p.rxCfg * 1000000000 / slowRate p.rxCfg
  else charBits p.rxCfg * bitPeriods p.rxCfg p.rxBaud * 1000 / (64 * 256)

/-- What TXD of a port does (R507, R518, R524): high impedance where the port does not work, else low for a break, the character in the shifter, or
idle high. -/
def State.txd (s : State) (n : Nat) : TxLevel :=
  if s.tpOn n || (s.tport n).shifter.isSome then
    match (s.tport n).shifter with
    | some .brk => .low
    | some (.char c) => .sending c
    | none => .high
  else .highZ

/-- What CLK of a port does (R523, R524): it runs while a character is in the shifter, with CLKRUN = 1 while the port is enabled, and rests at CPOL. -/
def State.tpClk (s : State) (n : Nat) : ClkLevel :=
  let w := (s.tport n).txCfg
  if tpMode w ≠ 2 ∨ (s.tpOn n = false ∧ (s.tport n).shifter.isNone) then .highZ
  else if (s.tport n).shifter.isSome ∨ getBits w 13 1 = 1 then .running
  else .rest (getBits w 12 1 == 1)

/-! ## The receive FIFO (R510, R511, R519) -/

/-- XOFF or XON queued where the fill has reached HI or fallen to LO (R519) (log entry 97). -/
def State.tpCross (s : State) (n was : Nat) : State :=
  let p := s.tport n
  let fill := p.rx.length
  if s.flag F.TP_CFG_FLOW n = false ∨ tpMode p.rxCfg = 2 then s
  else if was < s.fld F.TP_FLOW_HI n ∧ s.fld F.TP_FLOW_HI n ≤ fill then s.setTport n { p with flowOut := some (s.fld F.TP_FLOW_XOFF n) }
  else if s.fld F.TP_FLOW_LO n < was ∧ fill ≤ s.fld F.TP_FLOW_LO n then s.setTport n { p with flowOut := some (s.fld F.TP_FLOW_XON n) }
  else s

/-- The newest entry of a FIFO with OVR set. -/
def markOvr : List Nat → List Nat
  | [] => []
  | [e] => [if e.testBit 13 then e else e + 2 ^ 13]
  | e :: t => e :: markOvr t

/-- A character stored, or dropped where the FIFO is full (R511). -/
def State.tpStore (s : State) (n entry : Nat) : State :=
  let p := s.tport n
  if p.rx.length < 64 then (s.setTport n { p with rx := p.rx ++ [entry] }).tpCross n p.rx.length
  else
    let s1 := ((s.setTport n { p with rx := markOvr p.rx }).bumpFld F.TP_OVRCNT_COUNT n 1).setFld F.TP_STAT_OVR n 1
    if p.ovrSec = some s.cmp.sec then s1
    else (s1.setTport n { s1.tport n with ovrSec := some s.cmp.sec }).event .overrun (pageTp n) []

/-! ## Rate and format in force (R521) -/

/-- The receiver takes what TP_CFG and TP_BAUD hold (log entry 97). -/
def State.tpRxApply (s : State) (n : Nat) : State :=
  s.setTport n { s.tport n with rxCfg := s.reg .TP_CFG n, rxBaud := s.reg .TP_BAUD n }

/-- The transmitter takes what TP_CFG and TP_BAUD hold (log entry 97). -/
def State.tpTxApply (s : State) (n : Nat) : State :=
  s.setTport n { s.tport n with txCfg := s.reg .TP_CFG n, txBaud := s.reg .TP_BAUD n }

/-- The transmitter at a character boundary (R518, R519): a break asked for, else a flow-control character, else the oldest entry unless
XOFF stopped it. A port that drains sends nothing more; in synchronous mode there is neither break nor flow control (R523). -/
def State.tpNext (s : State) (n : Nat) : State :=
  let p := s.tport n
  let sync := tpMode p.txCfg == 2
  if s.tpOn n = false ∨ s.draining (domTp n) = true ∨ p.shifter.isSome = true then s
  else if p.brkWait && !sync then s.setTport n { p with brkWait := false, shifter := some .brk }
  else match p.flowOut, p.tx with
    | some c, _ =>
      if sync then
        match p.tx with
        | c :: t => s.setTport n { p with tx := t, shifter := some (.char c) }
        | [] => s
      else s.setTport n { p with flowOut := none, shifter := some (.char c) }
    | none, c :: t => if p.txOff && !sync then s else s.setTport n { p with tx := t, shifter := some (.char c) }
    | none, [] => s

/-! ## Receiving (R510 to R514, R520) -/

/-- The ones in the low `n` bits of a character. -/
def onesIn (d : Nat) : Nat → Nat
  | 0 => 0
  | n + 1 => onesIn d n + if d.testBit n then 1 else 0

/-- Whether the parity bit disagrees with the parity in force: 1 even, 2 odd, 3 mark, 4 space. -/
def parityWrong (parity d bits : Nat) (bit : Bool) : Bool :=
  let odd := onesIn d bits % 2 == 1
  match parity with
  | 1 => bit != odd
  | 2 => bit == odd
  | 3 => !bit
  | 4 => bit
  | _ => false

/-- Whether a ninth-bit port stores a character, and the port after it (R513): none where the character is not stored. -/
def State.tpMute (s : State) (n d : Nat) (addr : Bool) : State × Bool :=
  if tpMode (s.tport n).rxCfg ≠ 1 ∨ s.flag F.TP_ADDR_MATCH_EN n = false then (s, true)
  else if addr then
    let mask := s.fld F.TP_ADDR_MASK n
    if d &&& mask = s.fld F.TP_ADDR_ADDR n &&& mask then
      ((s.setFld F.TP_ADDR_MUTE n 0).setFld F.TP_STAT_MATCH n 1, s.flag F.TP_ADDR_KEEPADDR n)
    else (s.setFld F.TP_ADDR_MUTE n 1, false)
  else (s, !s.flag F.TP_ADDR_MUTE n)

/-- TP_CHAR_RECEIVED (R510, R513, R519 to R522): a character completes with its data, its parity or address bit and its first stop
bit. A receiver in break held produces none. -/
def tpCharReceived (port data : Nat) (bit stop : Bool) (s : State) : State :=
  let p := s.tport port
  let mode := tpMode p.rxCfg
  if s.tpListens port = false ∨ p.held = true ∨ mode = 2 ∨ 8 ≤ port then s
  else
    let n := tpBits p.rxCfg
    let d := data % 2 ^ n
    let parity := if mode = 1 then 0 else getBits p.rxCfg 8 3
    let extra := mode == 1 || parity != 0
    let addr := mode == 1 && bit
    let fe := !stop
    let pe := parityWrong parity d n bit
    let brk := d == 0 && !stop && (!extra || !bit)
    let bitOf : Bool → Nat → Nat := fun b i => if b then 2 ^ i else 0
    let entry := d + bitOf addr 8 + bitOf fe 10 + bitOf pe 11 + bitOf brk 12
    let s0 := s.setTport port { p with line := !brk, fell := if brk then some (stampNs s.now - charNs p) else none }
    let s1 := if brk then s0.setFld F.TP_STAT_BRK port 1 else s0
    let xon := s.fld F.TP_FLOW_XON port
    let xoff := s.fld F.TP_FLOW_XOFF port
    let flow := s.flag F.TP_CFG_FLOW port && !addr && !fe && !pe && (d == xon || d == xoff)
    let s2 := if flow then s1.setTport port { s1.tport port with txOff := d == xoff } else s1
    let r := if flow && s.flag F.TP_CFG_STRIP port then (s2, false) else s2.tpMute port d addr
    ((if r.2 then r.1.tpStore port entry else r.1).tpRxApply port).tpNext port

/-- TP_RXD_READ (R510): the oldest entry is returned with VALID and removed; the register reads 0 where it cannot be read. -/
def tpRxdRead (port : Nat) (who : Who) (s : State) : State :=
  if s.readable who .TP_RXD port = false then s.returns 0
  else
    let p := s.tport port
    match p.rx with
    | [] => s.returns 0
    | e :: t => (((s.setTport port { p with rx := t }).tpCross port p.rx.length).tpNext port).returns (BitVec.ofNat 64 (2 ^ 31 + e))

/-- TP_RXFLUSH (R512): the receive FIFO is emptied. -/
def tpRxflush (port : Nat) (who : Who) (s : State) : State :=
  s.gated who .TP_CMD port fun s =>
    let p := s.tport port
    ((s.setTport port { p with rx := [] }).tpCross port p.rx.length).tpNext port

/-! ## Transmitting (R518, R519) -/

/-- TP_TXD_WRITE (R518): a character queued, or TXOVF where the FIFO is full. -/
def tpTxdWrite (port : Nat) (who : Who) (value : Word) (s : State) : State :=
  s.gated who .TP_TXD port fun s =>
    let p := s.tport port
    if 64 ≤ p.tx.length then s.setFld F.TP_STAT_TXOVF port 1
    else (s.setTport port { p with tx := p.tx ++ [value.toNat % 512] }).tpNext port

/-- TP_CHAR_SENT (R518, R521): the character in the shifter completes, a rate change comes into force, the next character follows. -/
def tpCharSent (port : Nat) (s : State) : State :=
  if (s.tport port).shifter.isSome = true ∧ tpMode (s.tport port).txCfg ≠ 2 then
    ((s.setTport port { s.tport port with shifter := none }).tpTxApply port).tpNext port
  else s

/-- TP_TXFLUSH (R518): the waiting entries are discarded. -/
def tpTxflush (port : Nat) (who : Who) (s : State) : State :=
  s.gated who .TP_CMD port fun s => s.setTport port { s.tport port with tx := [] }

/-- TP_BREAK (R518): a break after the character in the shifter. -/
def tpBreak (port : Nat) (who : Who) (s : State) : State :=
  s.gated who .TP_CMD port fun s => (s.setTport port { s.tport port with brkWait := true }).tpNext port

/-- TP_RESUME (R519): TXOFF cleared. -/
def tpResume (port : Nat) (who : Who) (s : State) : State :=
  s.gated who .TP_CMD port fun s => (s.setTport port { s.tport port with txOff := false }).tpNext port

/-- TP_SYNC_CHAR (R523): in synchronous mode the character in the shifter is sent and one is received; the receiver of a port that drains has
stopped (R524). -/
def tpSyncChar (port data : Nat) (s : State) : State :=
  let p := s.tport port
  if p.shifter.isSome = true ∧ tpMode p.txCfg = 2 then
    let s0 := s.setTport port { p with shifter := none }
    let s1 := if s.draining (domTp port) then s0 else s0.tpStore port (data % 2 ^ tpBits p.txCfg)
    ((s1.tpTxApply port).tpRxApply port).tpNext port
  else s

/-- TP_RATE_CHANGE_APPLY (R521): a change takes effect in the receiver when it is between characters, in the transmitter when it is
idle. -/
def tpRateChangeApply (port : Nat) (tx : Bool) (s : State) : State :=
  if 8 ≤ port then s
  else if tx then (if (s.tport port).shifter.isSome then s else (s.tpTxApply port).tpNext port)
  else s.tpRxApply port

/-! ## Breaks (R522) -/

/-- BRK_HOLD character times of a port in ns (R522). -/
def State.breakNs (s : State) (n : Nat) : Nat := s.fld F.TP_CFG_BRK_HOLD n * charNs (s.tport n)

/-- TP_BREAK_HELD (R522): RXD has been low for BRK_HOLD character times; after a break character they are counted from its falling edge. -/
def tpBreakHeld (port : Nat) (s : State) : State :=
  let due := match (s.tport port).fell with
    | some t => decide (t + s.breakNs port ≤ stampNs s.now)
    | none => true
  if s.tpListens port = true ∧ (s.tport port).held = false ∧ tpMode (s.tport port).rxCfg ≠ 2 ∧ port < 8 ∧ due = true then
    ((s.setTport port { s.tport port with held := true, line := false }).setFld F.TP_STAT_HELD_EV port 1).event .breakHeld (pageTp port) []
  else s

/-- TP_BREAK_HELD_EXIT (R522): RXD has been high for one character time. -/
def tpBreakHeldExit (port : Nat) (s : State) : State :=
  if (s.tport port).held then (s.setTport port { s.tport port with held := false, line := true, fell := none }).event .ok (pageTp port) [] else s

/-! ## Configuration (R508, R521, R524) -/

/-- The stored form of TP_CFG. -/
def tpCfgForm (w : Word) : Word :=
  let w1 := if getBits w 24 2 = 3 then putBits w 24 2 2 else w
  let w2 := if getBits w1 16 8 = 0 then putBits w1 16 8 1 else w1
  let w3 := if 5 ≤ getBits w2 8 3 then putBits w2 8 3 0 else w2
  let w4 := if getBits w3 4 2 = 3 then putBits w3 4 2 0 else w3
  if getBits w4 2 2 = 3 then putBits w4 2 2 0 else w4

/-- The stored form of TP_BAUD under a TP_CFG word (R508, R509). -/
def tpBaudForm (cfg w : Word) : Word :=
  let low := if tpMode cfg = 2 then 2 else 1
  let w1 := if getBits w 16 16 < low then putBits w 16 16 low else w
  if tpMode cfg ≠ 2 ∧ getBits cfg 2 2 = 2 ∧ getBits w1 16 16 * 256 + getBits w1 8 8 < 256 + 86 then
    putBits (putBits w1 16 16 1) 8 8 86
  else w1

/-- The stored form of TP_FLOW. -/
def tpFlowForm (w : Word) : Word :=
  let w1 := if getBits w 16 6 = 0 then putBits w 16 6 1 else w
  if getBits w1 16 6 ≤ getBits w1 24 6 then putBits w1 24 6 (getBits w1 16 6 - 1) else w1

/-- What EN = 0 does (R524): the waiting entries go, break held ends without a record, the drain begins. -/
def State.tpClose (s : State) (n : Nat) : State :=
  (s.setTport n { s.tport n with tx := [], held := false, brkWait := false, flowOut := none }).startDrain (domTp n) .config

/-- What EN = 1 does: a return to service, which waits for a drain in progress (R398). -/
def State.tpOpen (s : State) (n : Nat) : State :=
  match s.drain (domTp n) with
  | some d => s.setDrain (domTp n) (some { d with restore := true })
  | none => (s.setOut (domTp n) false).tpNext n

/-- A write of TP_CFG: rate and format wait for the boundaries, at once in an idle transmitter (R521). -/
def State.writeTpCfg (s : State) (n : Nat) (who : Who) (value : Word) : State :=
  s.gated who .TP_CFG n fun s =>
    let was := s.flag F.TP_CFG_EN n
    let s1 := s.setReg .TP_CFG n (tpCfgForm (plainWrite .TP_CFG (s.reg .TP_CFG n) value))
    let s2 := s1.setReg .TP_BAUD n (tpBaudForm (s1.reg .TP_CFG n) (s1.reg .TP_BAUD n))
    let s3 := if (s2.tport n).shifter.isNone then s2.tpTxApply n else s2
    match was, s3.flag F.TP_CFG_EN n with
    | true, false => s3.tpClose n
    | false, true => s3.tpOpen n
    | _, _ => s3

/-- TP_DISABLE (R524): a write of TP_CFG with EN = 0. -/
def tpDisable (port : Nat) (who : Who) (value : Word) (s : State) : State := s.writeTpCfg port who (putBits value 0 1 0)

/-- A write of TP_BAUD (R521). -/
def State.writeTpBaud (s : State) (n : Nat) (who : Who) (value : Word) : State :=
  s.gated who .TP_BAUD n fun s =>
    let s1 := s.setReg .TP_BAUD n (tpBaudForm (s.reg .TP_CFG n) (plainWrite .TP_BAUD (s.reg .TP_BAUD n) value))
    if (s1.tport n).shifter.isNone then s1.tpTxApply n else s1

/-- TP_STAT as it reads now. -/
def State.tpStat (s : State) (n : Nat) : Word :=
  let p := s.tport n
  let bitOf : Bool → Nat := fun b => if b then 1 else 0
  let w := putBits (putBits (s.reg .TP_STAT n) 0 7 p.rx.length) 8 7 p.tx.length
  putBits (putBits (putBits (putBits w 16 1 (s.fld F.TP_ADDR_MUTE n)) 17 1 (bitOf p.txOff)) 18 1 (bitOf p.held)) 19 1 (bitOf p.line)

/-! ## Meanings -/

def execTpCharReceived (port : Nat) (data : Nat) (bit : Bool) (stop : Bool) (s : State) : Host.Outcome State Fault Refusal :=
  .next (tpCharReceived port data bit stop s)

def execTpRxdRead (port : Nat) (who : Who) (s : State) : Host.Outcome State Fault Refusal := .next (tpRxdRead port who s)

def execTpTxdWrite (port : Nat) (who : Who) (value : Word) (s : State) : Host.Outcome State Fault Refusal :=
  .next (tpTxdWrite port who value s)

def execTpCharSent (port : Nat) (s : State) : Host.Outcome State Fault Refusal := .next (tpCharSent port s)

def execTpRxflush (port : Nat) (who : Who) (s : State) : Host.Outcome State Fault Refusal := .next (tpRxflush port who s)

def execTpTxflush (port : Nat) (who : Who) (s : State) : Host.Outcome State Fault Refusal := .next (tpTxflush port who s)

def execTpBreak (port : Nat) (who : Who) (s : State) : Host.Outcome State Fault Refusal := .next (tpBreak port who s)

def execTpResume (port : Nat) (who : Who) (s : State) : Host.Outcome State Fault Refusal := .next (tpResume port who s)

def execTpRateChangeApply (port : Nat) (tx : Bool) (s : State) : Host.Outcome State Fault Refusal :=
  .next (tpRateChangeApply port tx s)

def execTpBreakHeld (port : Nat) (s : State) : Host.Outcome State Fault Refusal := .next (tpBreakHeld port s)

def execTpBreakHeldExit (port : Nat) (s : State) : Host.Outcome State Fault Refusal := .next (tpBreakHeldExit port s)

def execTpSyncChar (port : Nat) (data : Nat) (s : State) : Host.Outcome State Fault Refusal :=
  .next (tpSyncChar port data s)

def execTpDisable (port : Nat) (who : Who) (value : Word) (s : State) : Host.Outcome State Fault Refusal :=
  .next (tpDisable port who value s)

end Sys2Proof.Machine
end

