-- ==== Sys2Proof/Machine/Draining.lean ====
section
/-! DEFINITION. The drain rule (chapter 14, R396 to R400): drains, forced disables, returns to service, the power of domains. -/

namespace Sys2Proof.Machine

open Sys2Proof

/-! ## Work on a unit -/

/-- Whether a call in progress is served by the unit of domain `i`. -/
def callAt (i : Nat) (c : Call) : Bool :=
  match c.unit with
  | 0 => i == domXf c.inst
  | 1 => i == domFec c.inst
  | 2 => i == domCry c.inst
  | _ => i == domChk

/-- The contexts of the engine of domain `i` that hold a task. -/
def State.tasksOn (s : State) (i : Nat) : List Nat := ((List.range 4).map fun c => 4 * i + c).filter fun k => (s.ctx k).task.isSome

/-- Whether work is still in flight on the unit of domain `i` (*Drain bounds*). -/
def State.workLeft (s : State) (i : Nat) : Bool :=
  if i < 128 then !(s.tasksOn i).isEmpty || s.fab.flight.any (fun x => x.init == i) || s.rx.open_.any (fun r => r.eng == i)
  else if 152 ≤ i ∧ i < 176 then s.onAir (i - 152)
  else if i = domGs then (List.range 32).any fun n => (s.gsCh n).on
  else if 185 ≤ i ∧ i < 193 then (s.tport (i - 185)).shifter.isSome
  else s.prog.calls.any (callAt i)

/-- The tasks of a list of contexts ended with ABANDONED. -/
def State.dropTasks (s : State) : List Nat → State
  | [] => s
  | k :: t =>
    (match (s.ctx k).task with
     | some id => s.endTask k id (Status.code .abandoned)
     | none => s).dropTasks t

/-- The calls of a list ended with ABANDONED (R368). -/
def State.dropCalls (s : State) : List Call → State
  | [] => s
  | c :: t => (s.endCall c .abandoned).dropCalls t

/-- The channels of a list stopped. -/
def State.gsStops (s : State) : List Nat → State
  | [] => s
  | n :: t => (if (s.gsCh n).on then s.gsStop n else s).gsStops t

/-- The work in flight on the unit of domain `i` ended with ABANDONED (log entry 83). -/
def State.abandonWork (s : State) (i : Nat) : State :=
  if i < 128 then
    let s1 := (s.dropTasks (s.tasksOn i)).endReceps .abandoned (s.rx.open_.filter fun r => r.eng == i)
    s1.landAll i s1.fab.flight
  else if 152 ≤ i ∧ i < 176 then s.mutePort (i - 152)
  else if i = domGs then s.gsStops (List.range 32)
  else if 185 ≤ i ∧ i < 193 then s.setTport (i - 185) { s.tport (i - 185) with shifter := none }
  else s.dropCalls (s.prog.calls.filter (callAt i))

/-! ## Power of a domain (R53) -/

/-- The registers of the check units at their reset values, and no running value (R532). -/
def State.resetChk (s : State) : State :=
  { s with chk := [], regs := s.regs.filter fun p => (Reg.ofIdx (p.1 % 1024)).addr 0 / 0x100000 != 0x11 }

/-- Whether Pitch keeps the domain of a line port on for a neutral port (R71). -/
def State.keptForNp (s : State) (i : Nat) : Bool :=
  decide (152 ≤ i) && decide (i < 176) && (i - 152) % 3 == 0 && s.portEn (24 + (i - 152) / 3)

/-- Whether the unit of domain `i`, which goes on, takes no work before its test: one queued while it was off (R476), outside EMBER, or held (R479). -/
def State.awaitsTest (s : State) (i : Nat) : Bool :=
  let tests := fun t : SelfTest => t.target == TestUnit.unit i
  s.rel.held.any tests || (s.rel.queue.any tests && s.pwr.mode != .ember && (decide (i < 140) || decide (152 ≤ i ∧ i < 176) || decide (193 ≤ i)))

/-- Domain `i` switched on, unless its unit is retired (R472); a retired slice that a neutral port needs comes on out of service (R71), and so does a
unit that waits for a test (R476); a stack trains first, CHK starts from its reset values. -/
def State.powerOn (s : State) (i : Nat) : State :=
  if (s.isRetired i = true ∧ s.keptForNp i = false) ∨ domCount ≤ i then s
  else
    let s1 := (s.setDom i .on).setOut i (s.isRetired i || (s.dom i != .on && s.awaitsTest i))
    if s.dom i = .on then s1
    else if 140 ≤ i ∧ i < 144 then s1.setStack (i - 140) .training
    else if i = domChk then s1.resetChk
    else s1

/-- The domains of a list switched on. -/
def State.powerAll (s : State) : List Nat → State
  | [] => s
  | i :: t => (s.powerOn i).powerAll t

/-- The handles that live on the unit of domain `i` moved elsewhere with their contents (R390). -/
def State.moveOff (s : State) (i : Nat) : State :=
  if i < 128 then s.rehomeFrom (.store i) s.prog.handles
  else if 144 ≤ i ∧ i < 152 then s.rehomeFrom (.canteen (i - 144)) s.prog.handles
  else if 140 ≤ i ∧ i < 144 then
    let move : Nat × Handle → Nat × Handle := fun p => (p.1, s.offStack (i - 140) p.1 p.2)
    { s.drew with prog := { s.prog with handles := s.prog.handles.map move } }
  else s

/-- Domain `i` switched off; a slice that a neutral port needs stays on, out of service (R71). -/
def State.powerOff (s : State) (i : Nat) (mode : Bool) : State :=
  if !mode && s.keptForNp i then s.setOut i true
  else
    let s1 := (s.setDom i .off).setOut i false
    let s2 := if mode then s1 else s1.moveOff i
    if 140 ≤ i ∧ i < 144 then
      let s3 := (s2.setStack (i - 140) .off).nameStack
      if mode then s3 else s3.refit false
    else if i = domChk then { s2 with chk := [] }
    else if 194 ≤ i ∧ i < 198 then { s2 with sec := { s2.sec with caches := Tab.set (fun _ => []) s2.sec.caches (i - 194) [] } }
    else if 179 ≤ i ∧ i < 181 then { s2 with eth := Tab.set (fun _ => {}) s2.eth (i - 179) {} }
    else s2

/-! ## Drains (R396, R398) -/

/-- A self-test of the unit of domain `i` ended without an outcome (R476). -/
def State.dropTest (s : State) (i : Nat) : State :=
  if s.rel.running.any fun t => t.target == TestUnit.unit i then
    { s with rel := { s.rel with running := s.rel.running.filter fun t => t.target != TestUnit.unit i } }.setUnitRel i
      { s.unitRel i with state := .inUse }
  else s

/-- The halted tasks of engine `e` resumed (R461). -/
def State.wakeEngine (s : State) (e : Nat) : State :=
  let wake : Nat × Ctx → Nat × Ctx := fun p =>
    if p.1 / 4 = e then (p.1, { p.2 with halted := false, stepOne := false, haltAt := 0 }) else p
  { s with prog := { s.prog with ctxs := s.prog.ctxs.map wake } }

/-- A drain begun on the unit of domain `i`; a transmission of its port mutes at once (R93), halted tasks of an engine resume (R461). -/
def State.beginDrain (s : State) (i : Nat) (why : DrainWhy) : State :=
  if s.dom i = .on ∧ s.draining i = false then
    (if 152 ≤ i ∧ i < 176 then s.cutPort (i - 152) else if i < 128 then s.wakeEngine i else s).startDrain i why
  else s

/-- A drain that a mode change asks for (R45): begun where the unit does not drain yet; a drain that would leave the domain on, or that waits
to return to service, becomes the mode's. -/
def State.drainForMode (s : State) (i : Nat) : State :=
  match s.drain i with
  | none => s.beginDrain i .mode
  | some d => if d.why = .retire ∨ d.why = .spare then s.setDrain i (some { d with restore := false })
              else s.setDrain i (some { d with why := .mode, restore := false })

/-- The drains of a mode change begun on every domain of a list. -/
def State.drainsForMode (s : State) : List Nat → State
  | [] => s
  | i :: t => (s.drainForMode i).drainsForMode t

/-- Drains begun on every domain of a list. -/
def State.beginDrains (s : State) (why : DrainWhy) : List Nat → State
  | [] => s
  | i :: t => (s.beginDrain i why).beginDrains why t

/-- RESULT of the host's drain request, once it is over (PIT_DRAIN). -/
def State.hostDrained (s : State) (i : Nat) (abandoned : Bool) : State :=
  if s.units.hostDrain = some i then
    { s with units := { s.units with hostDrain := none } }.setFld F.PIT_DRAIN_RESULT 0 (if abandoned then 1 else 0)
  else s

/-- The unit of domain `i` reports DRAINED (R396): the audit, the event record, then what the drain was for. A return to service that
waited powers the unit up again (R398) (log entry 22). -/
def State.drained (s : State) (i : Nat) : State :=
  match s.drain i with
  | none => s
  | some d =>
    let s1 := (((s.audit i).setDrain i none).unitEvent .drained i []).hostDrained i d.abandoned
    if 0x800 ≤ i then (if d.restore then s1.portBack (24 + (i - 0x800)) else s1)
    else if d.restore then
      if 152 ≤ i ∧ i < 176 then s1.portBack (i - 152)
      else if 185 ≤ i ∧ i < 193 then (s1.setOut i false).tpNext (i - 185)
      else s1.setOut i false
    else match d.why with
      | .config => s1.setOut i true
      | .test => s1.setOut i true
      | .spare => (s1.setRole i .spare).powerOff i false
      | .retire => (s1.powerOff i false).submit 5 i 0 (.retirement i d.det s1.now) 1
      | .host => s1.powerOff i false
      | .cap => s1.powerOff i false
      | .mode => s1.powerOff i true
      | .ember => s1.powerOff i true

/-- UNIT_DRAINED (R396): a draining unit whose work has ended. -/
def unitDrained (unit : Nat) (s : State) : State := if s.draining unit && !s.workLeft unit then s.drained unit else s

/-- Work still in flight on a draining unit abandoned. -/
def State.abandonAt (s : State) (i : Nat) : State :=
  match s.drain i with
  | none => s
  | some d => if s.workLeft i then (s.setDrain i (some { d with abandoned := true })).abandonWork i else s

/-- The contexts of engine `e` that run tasks of a pack that is leaving (R395). -/
def State.leavingOn (s : State) (e : Nat) : List Nat :=
  (s.tasksOn e).filter fun k => match (s.ctx k).task.bind s.task with
    | some x => (s.pack x.slot).state == .unloading
    | none => false

/-- DRAIN_BOUND_EXPIRE (R396): work still in flight at the bound ends with ABANDONED; the unit reports DRAINED next. Tasks that drain after a
rolled-back replacement end with it (R395). -/
def drainBoundExpire (unit : Nat) (s : State) : State :=
  let s1 := s.abandonAt unit
  if unit < 128 then s1.dropTasks (s1.leavingOn unit) else s1

/-- A forced disable (R398): a test of the unit ends, its work is abandoned, it reports DRAINED. A drain in progress keeps what it was for
unless `why` is a retirement. -/
def State.forceUnit (s : State) (i : Nat) (why : DrainWhy) : State :=
  if s.dom i ≠ .on then s
  else
    let s1 := s.dropTest i
    let old := s1.drain i
    let w := match old, why with
      | _, .retire => why
      | some d, _ => d.why
      | none, _ => why
    let d : Drain := { why := w, abandoned := s1.workLeft i || (old.map Drain.abandoned).getD false,
                       restore := why != .retire && (old.map Drain.restore).getD false, det := match why with
                         | .retire => (s1.unitRel i).cause
                         | _ => (old.map Drain.det).getD 0 }
    ((s1.setDrain i (some d)).abandonWork i).drained i

/-! ## Requests of the host (R399) -/

/-- Whether the unit of domain `i` is the last in service of its kind among engines, FEC clusters, Canteen banks and line-port slices. -/
def State.lastOfKind (s : State) (i : Nat) : Bool :=
  let k := domKind i
  (k.1 == 0 || k.1 == 128 || k.1 == 144 || k.1 == 152) &&
  !((List.range k.2).any fun j => k.1 + j != i && s.serves (k.1 + j) && (k.1 != 0 || s.role (k.1 + j) == .inService))

/-- Whether the committed contents of stack `n` have room in the other serving stacks less the reserve R408 keeps there. -/
def State.stackMoves (s : State) (n : Nat) : Bool :=
  let l := s.serving.filter fun m => m != n
  decide (fixedBytes + s.plc.packMib * 2 ^ 20 + s.sizes.bytes + reserveRule l.length * 2 ^ 20 ≤ s.capacity l)

/-- Whether R399 refuses a host drain of the unit of domain `i`. -/
def State.drainRefused (s : State) (i : Nat) : Bool :=
  decide (domCount ≤ i) || s.isRetired i || (s.serves i && s.lastOfKind i) ||
  (decide (140 ≤ i) && decide (i < 144) && s.stackServes (i - 140) && !s.stackMoves (i - 140)) ||
  (s.pwr.mode == .ember && s.dom i == .on)

/-- PIT_DRAIN.GO with the fields of `w`. A drain of a unit under test waits for the test (R476); one that is off is drained already (log entry 98). -/
def State.pitRequest (s : State) (w : Word) : State :=
  let i := getBits w 0 8
  let s1 := ((s.setFld F.PIT_DRAIN_INDEX 0 i).setFld F.PIT_DRAIN_FORCE 0 (getBits w 30 1)).setFld F.PIT_DRAIN_RESTORE 0 (getBits w 29 1)
  let result := fun (s : State) n => s.setFld F.PIT_DRAIN_RESULT 0 n
  let running := fun (s : State) => result { s with units := { s.units with hostDrain := some i } } 3
  if getBits w 29 1 = 1 then
    if domCount ≤ i ∨ s1.isRetired i = true ∨ (s1.pwr.mode = .ember ∧ s1.dom i ≠ .on) then result s1 2
    else match s1.drain i with
      | some d => running (s1.setDrain i (some { d with restore := true }))
      | none => result (s1.powerOn i) 0
  else if s1.drainRefused i then result s1 2
  else if getBits w 30 1 = 1 then
    if s1.dom i = .on then (running s1).forceUnit i .host else result s1 0
  else if s1.draining i then s1
  else if s1.dom i ≠ .on then result s1 0
  else if s1.rel.running.any fun t => t.target == TestUnit.unit i then running s1
  else (running s1).beginDrain i .host

/-- PIT_DRAIN (R396, R399): a drain by the host. -/
def pitDrain (value : Word) (s : State) : State :=
  s.gated .host .PIT_DRAIN 0 fun s => s.pitRequest (putBits value 29 2 0)

/-- PIT_FORCED_DISABLE (R398): a forced disable by the host. -/
def pitForcedDisable (value : Word) (s : State) : State :=
  s.gated .host .PIT_DRAIN 0 fun s => s.pitRequest (putBits value 29 2 2)

/-- PIT_RESTORE (R398): a return to service by the host. -/
def pitRestore (value : Word) (s : State) : State :=
  s.gated .host .PIT_DRAIN 0 fun s => s.pitRequest (putBits value 29 2 1)

/-! ## The spare pool (R391, R392) -/

/-- Engines by role and retirement. -/
def State.engRetired (s : State) : Nat := ((List.range 128).filter fun e => s.isRetired e).length

def State.spares (s : State) : List Nat := (List.range 128).filter fun e => !s.isRetired e && s.role e == .spare

/-- The size the pool is meant to have. -/
def State.poolTarget (s : State) : Nat := s.fld F.PIT_SPARECFG_TARGET 0 - s.engRetired

/-- Engines that drain into the pool. -/
def State.drainingIn (s : State) : Nat :=
  ((List.range 128).filter fun e => match s.drain e with
    | some d => d.why == .spare
    | none => false).length

/-- Spares entering service: powered in SERVE and SURGE. -/
def State.enterService (s : State) : List Nat → State
  | [] => s
  | e :: t =>
    let s1 := s.setRole e .inService
    (if s1.pwr.mode == .serve || s1.pwr.mode == .surge then s1.powerOn e else s1).enterService t

/-- Engines leaving service for the pool, one that is off at once. -/
def State.leaveService (s : State) : List Nat → State
  | [] => s
  | e :: t => (if s.dom e = .on then s.beginDrain e .spare else s.setRole e .spare).leaveService t

/-- The engines in service that do not drain, highest-numbered first. -/
def State.inService (s : State) : List Nat :=
  ((List.range 128).filter fun e => !s.isRetired e && s.role e == .inService && !s.draining e).reverse

/-- The pool brought to its size (R391). -/
def State.sizePool (s : State) : State :=
  let have_ := s.spares.length + s.drainingIn
  if s.poolTarget < s.spares.length then s.enterService (s.spares.take (s.spares.length - s.poolTarget))
  else s.leaveService (s.inService.take (s.poolTarget - have_))

/-- SPARE_TARGET_WRITE (R391): TARGET above 16 is stored as 16. -/
def spareTargetWrite (value : Word) (s : State) : State :=
  s.gated .host .PIT_SPARECFG 0 fun s => (s.setFld F.PIT_SPARECFG_TARGET 0 (min 16 (getBits value 0 5))).sizePool

/-! ## Meanings -/

def execPitDrain (value : Word) (s : State) : Host.Outcome State Fault Refusal := .next (pitDrain value s)

def execPitForcedDisable (value : Word) (s : State) : Host.Outcome State Fault Refusal :=
  .next (pitForcedDisable value s)

def execPitRestore (value : Word) (s : State) : Host.Outcome State Fault Refusal := .next (pitRestore value s)

def execUnitDrained (unit : Nat) (s : State) : Host.Outcome State Fault Refusal := .next (unitDrained unit s)

def execDrainBoundExpire (unit : Nat) (s : State) : Host.Outcome State Fault Refusal := .next (drainBoundExpire unit s)

def execSpareTargetWrite (value : Word) (s : State) : Host.Outcome State Fault Refusal :=
  .next (spareTargetWrite value s)

end Sys2Proof.Machine
end

