-- ==== Sys2Proof/Machine/Nodes.lean ====
section
/-! DEFINITION. Nodes in service (R248, R265 to R277): rendezvous, check-ins, absence, wake patterns, grants, routes. -/

namespace Sys2Proof.Machine

open Sys2Proof

/-! ## Rendezvous (R265, R266) -/

/-- A schedule as (period exponent, phase, sleep index). -/
abbrev Sched := Nat × Nat × Nat

/-- The schedules of a node: on mains and for outages. -/
def schedsOf (n : Node) : List Sched :=
  match n.rdv with
  | none => []
  | some r => [(r.pexp, r.phase, r.sidx), (r.outPexp, r.outPhase, r.outSidx)]

/-- Whether two schedules can be due at one beacon with one sleep index. -/
def schedClash (a b : Sched) : Bool := a.2.2 == b.2.2 && a.2.1 % 2 ^ min a.1 b.1 == b.2.1 % 2 ^ min a.1 b.1

/-- The schedules taken in a group by nodes other than `a`. -/
def State.schedsTaken (s : State) (fg a : Nat) : List Sched :=
  s.mac.nodes.flatMap fun p => match p.2 with
    | none => []
    | some n => if n.fg = fg ∧ p.1 ≠ a then schedsOf n else []

/-- A schedule of period 2^pexp clear of those taken: the phase is free to choose, and so is the index among those left at it;
the search starts at phase `start`, with fuel (log entry 66). -/
def pickSched (taken : List Sched) (pexp start seed : Nat) : Nat → Option Sched
  | 0 => none
  | k + 1 =>
    let phase := start % 2 ^ pexp
    match (List.range 256).filter fun i => !taken.any (schedClash (pexp, phase, i)) with
    | [] => pickSched taken pexp (start + 1) seed k
    | l => some (pexp, phase, l.getD (seed % l.length) 0)

/-- RENDEZVOUS_REQ (R265, R266): both schedules are chosen and RENDEZVOUS_SET is sent; a period above 256 beacons is taken as 256. -/
def rendezvousReq (saddr drift pexp outPexp : Nat) (s : State) : State :=
  match s.node saddr with
  | none => s
  | some n =>
    if isAssociated n then
      let taken := s.schedsTaken n.fg saddr
      let p := min pexp 8
      let q := min outPexp 8
      match pickSched taken p (Config.freeNat s.free) (Config.freeNat (s.free + 1)) (2 ^ p) with
      | none => s
      | some x => match pickSched taken q (Config.freeNat (s.free + 2)) (Config.freeNat (s.free + 3)) (2 ^ q) with
        | none => s
        | some y =>
          let r : Rdv := { pexp := p, phase := x.2.1, sidx := x.2.2, outPexp := q, outPhase := y.2.1, outSidx := y.2.2 }
          let addr := if n.waddr = 0 then 1 + Config.freeNat (s.free + 4) % 0xFFFE else n.waddr
          let n1 := { n with drift := drift, rdv := some r, waddr := addr }
          let s1 := { s with free := s.free + 5 }
          (s1.setNode saddr (some n1)).sendSet saddr n1 r
    else s

/-! ## Wake patterns (R268 to R271) -/

/-- CRC-8 with polynomial 0x07 over one byte. -/
def crc8Byte (c b : BitVec 8) : BitVec 8 :=
  (List.range 8).foldl (fun x _ => if x.msb then (x <<< 1) ^^^ 0x07#8 else x <<< 1) (c ^^^ b)

/-- The check of a wake address. -/
def wakeCheck (addr : BitVec 16) : BitVec 8 := crc8Byte (crc8Byte 0 (addr.extractLsb' 8 8)) (addr.extractLsb' 0 8)

/-- The 32 chips of a wake address, the first most significant (*Wake pattern*). -/
def wakeChips (addr : BitVec 16) : BitVec 32 := 0xB1#8 ++ addr ++ wakeCheck addr

/-- The tone chip `i` of a pattern sends alone, in units of 100 Hz (R268, R269): F1 for a chip of 1, F0 for a chip of 0, at −3 dBFS less ATTEN. -/
def State.wakeTone (s : State) (addr : BitVec 16) (i : Nat) : Nat :=
  if (wakeChips addr).getMsbD i then s.fld F.MAC_WAKECFG_F1 0 else s.fld F.MAC_WAKECFG_F0 0

/-- Bits that differ. -/
def bitsApart (a b : BitVec 8) : Nat := ((List.range 8).filter fun i => a.getLsbD i != b.getLsbD i).length

/-- The address of received chips: at most one sync chip wrong and the check right (R270) (log entry 66). -/
def wakeAddrOf (chips : BitVec 32) : Option (BitVec 16) :=
  let addr := chips.extractLsb' 8 16
  if bitsApart (chips.extractLsb' 24 8) 0xB1#8 ≤ 1 ∧ chips.extractLsb' 0 8 = wakeCheck addr then some addr else none

/-- A wake pattern sent to a node that has a wake address, and the wake-timing frame after it (R269, R271). -/
def State.sendWake (s : State) (a : Nat) (n : Node) : State :=
  if n.rdv.isSome then
    (s.addFrame { id := 0, fg := n.fg, dst := a, body := .wakePattern n.waddr, seq := some 0 }).sendTo a .wakeTiming false .none
  else s

/-- NODE_WAKE (R269): MAC_NODECMD OP 2; refused for a node that has no wake address (log entry 65). -/
def nodeWake (who : Who) (s : State) : State :=
  s.nodeCmd who 2 (onNode fun s a n => if n.rdv.isSome then (s.sendWake a n, 0) else (s, 3))

/-- WAKE_PATTERN_DETECT (R270): in SERVE, SURGE and EMBER, a pattern for the module's address or for all on an enabled L port. -/
def wakePatternDetect (port : Nat) (chips : BitVec 32) (s : State) : State :=
  let live := s.pwr.mode == .serve || s.pwr.mode == .surge || s.pwr.mode == .ember
  if live && decide (port < 24) && s.portOn port && decide (1 ≤ s.portRole port ∧ s.portRole port ≤ 3) then
    match wakeAddrOf chips with
    | none => s
    | some a =>
      if a.toNat = 0xFFFF ∨ a.toNat = s.fld F.MAC_WAKEADDR_ADDR 0 then s.portEvent .ok port [] else s
  else s

/-! ## Check-ins and absence (R267, R272) -/

/-- What CHECKIN reports about a node. -/
def State.checkinNoted (s : State) (a : Nat) (zcofs : Int) (mains : Bool) : State :=
  match s.node a with
  | none => s
  | some n => (s.setNode a (some { n with zcofs := zcofs, zcSet := true, mains := mains })).updateVotes a

/-- CHECKIN (R272, R308): the check-in of the superframe that holds its line time is met. -/
def checkin (saddr : Nat) (line : Stamp) (zcofs : Int) (mains : Bool) (s : State) : State :=
  match s.node saddr with
  | none => s
  | some n =>
    if isAssociated n then (s.heardOk saddr n.fg line none).checkinNoted saddr zcofs mains else s

/-- WAKE_ANNOUNCE (R271): the CHECKIN body, answered with a wake-timing frame (log entry 67). -/
def wakeAnnounce (saddr : Nat) (line : Stamp) (zcofs : Int) (mains : Bool) (s : State) : State :=
  if s.associated saddr then (checkin saddr line zcofs mains s).sendTo saddr .wakeTiming false .none else s

/-- A node made ABSENT (R272). -/
def State.makeAbsent (s : State) (a : Nat) (n : Node) : State :=
  (s.setNode a (some { n with state := .absent, miss := 3, owed := false, absentFor := 0, woken := 0 })).event .absent pageMac [(4, a)]

/-- CHECKIN_MISSED (R272): a scheduled check-in has passed unmet. -/
def checkinMissed (saddr : Nat) (s : State) : State :=
  match s.node saddr with
  | none => s
  | some n =>
    if n.owed = false then s
    else if n.state = .active then
      if 2 ≤ n.miss then s.makeAbsent saddr n
      else
        let n1 := { n with miss := n.miss + 1, owed := false }
        let s1 := s.setNode saddr (some n1)
        if nodeSleepy n then s1.sendWake saddr n1 else s1
    else s.setNode saddr (some { n with owed := false })

/-- ABSENT_WAKE_REPEAT (R269): every 16 beacon intervals in ABSENT. -/
def absentWakeRepeat (saddr : Nat) (s : State) : State :=
  match s.node saddr with
  | none => s
  | some n =>
    if n.state = .absent ∧ n.absentFor % 16 = 0 ∧ n.absentFor ≠ n.woken then
      (s.setNode saddr (some { n with woken := n.absentFor })).sendWake saddr n
    else s

/-- ABSENT_RELEASE (R235): ABSENT_REL beacon intervals in ABSENT. -/
def absentRelease (saddr : Nat) (s : State) : State :=
  match s.node saddr with
  | none => s
  | some n =>
    let rel := s.fld F.MAC_CHKCFG_ABSENT_REL 0
    if n.state = .absent ∧ rel ≠ 0 ∧ rel ≤ n.absentFor then s.releaseAddr saddr true else s

/-! ## Grants (R128, R248) -/

/-- GIDX for a span of `span` cycles and a capacity of `cap` thousandths of a position per cycle (R128). -/
def streamG (span cap : Nat) : Nat :=
  ((List.range 8).find? fun i => decide (span * cap ≤ 243 * 1944 * 2 ^ i * 1000)).getD 7

/-- NIDX (R128). -/
def streamN (span cap g : Nat) : Nat :=
  let first := ((List.range 19).find? fun i =>
    let n := depths.getD i 0
    decide (54 ≤ n ∧ span * cap ≤ n * 1944 * 2 ^ g * 1000)).getD 18
  if depths.getD first 0 * 1944 * 2 ^ g * 1000 ≤ 256 * cap then first
  else (((List.range 19).filter fun i => decide (depths.getD i 0 * 1944 * 2 ^ g * 1000 ≤ 256 * cap)).getLast?).getD 0

/-- The capacity C of a stream's cells in thousandths of a position per cycle under an uplink map (R128): the whole super-blocks of 1 944 positions that
a frame of NSYMMAX symbols with the normal prefix holds, over the length of the frame. -/
def State.streamCap (s : State) (fg : Nat) (m : ToneMap) (g : Grant) : Nat :=
  let mcs := if m.two then 28 else 24
  let mhz := s.mains fg
  let pos := ((List.range g.nsymMax).map fun p =>
    loadsSum (symbolLoads mcs (some m) ((s.air fg).data g.cgFirst g.cgLast (symbolNo false m.two p)) (sentSlot mhz g.slot mcs false p))).sum
  pos / 1944 * 1944 * 1000 * 10 ^ 12 / max 1 (symbolStart false false false m.two g.nsymMax * mhz)

/-- The realised span of a stream in thousandths of a cycle: n × 1 944 × G / C (R128). -/
def realisedSpan (ni gi cap : Nat) : Nat := depths.getD ni 1 * 1944 * 2 ^ gi * 1000000 / max 1 cap

/-- Whether no other cells the scheduler could give instead, of the same width and period, are rated higher under the map in force (R194). -/
def State.bestRated (s : State) (fg a : Nat) (n : Node) (g : Grant) : Bool :=
  match s.ulForce a with
  | none => true
  | some m => (List.range 12).all fun k => (List.range 62).all fun lo =>
    let h := { g with slot := k, cgFirst := lo, cgLast := lo + (g.cgLast - g.cgFirst) }
    decide (rangeRating m h.cgFirst h.cgLast k ≤ rangeRating m g.cgFirst g.cgLast g.slot) || !s.grantFits fg n h

/-- ALLOC_REQ (R128, R194, R198, R248): what the node asks and the cells the scheduler gives, the highest-rated that fit, under an identifier the node
does not hold (log entry 66). A stream needs a tracked node
with streams and an uplink map in force, which gives its capacity. -/
def allocReq (saddr gid kind span cgFirst cgLast slot cper cph nsymMax fromB toB : Nat) (s : State) : State :=
  match s.node saddr with
  | none => s
  | some n =>
    let stream := kind == 1
    let g0 : Grant := { gid := gid, kind := kind, cgFirst := cgFirst, cgLast := cgLast, slot := slot, cper := cper, cph := cph,
                        nsymMax := nsymMax, fromB := fromB, toB := toB, strm := 0 }
    let cap := match s.ulForce saddr with
      | none => 0
      | some m => s.streamCap n.fg m g0
    let gi := streamG (span + 1) cap
    let ni := streamN (span + 1) cap gi
    let g := if stream then { g0 with strm := ni * 8 + gi, span := realisedSpan ni gi cap } else g0
    if isAssociated n && decide (kind ≤ 2 ∧ span < 256) && s.grantFits n.fg n g && s.bestRated n.fg saddr n g && decide (gid < 256) && !(n.grants.any fun h => h.gid == gid) &&
        (!stream || (nodeStreams n && (s.recOf saddr).isSome && cap != 0)) then
      (s.setNode saddr (some { n with grants := n.grants ++ [g] })).sendMgmt saddr (.allocGrant gid)
    else s

/-- ALLOC_END (R248): the node's, or the module's, which is sent. -/
def allocEnd (saddr gid : Nat) (own : Bool) (s : State) : State :=
  match s.node saddr with
  | none => s
  | some n =>
    if n.grants.any fun g => g.gid == gid then
      let s1 := s.setNode saddr (some { n with grants := n.grants.filter fun g => g.gid != gid })
      if own then s1.sendMgmt saddr (.allocEnd gid) else s1
    else s

/-! ## Routes (R276, R277) -/

/-- The header SNR each link needs, in 1/32 dB: MCS 3 plus MARGIN. -/
def State.linkNeeds (s : State) : Int := s.margin - 128

/-- The SNR at which relay `r` hears `a`, where it has reported it (coded as DLSUM). -/
def State.relayHears (s : State) (r a : Nat) : Option Int :=
  match s.node r with
  | none => none
  | some n => match n.heard.find? fun e => e.1 == a with
    | none => none
    | some e => if e.2 = 255 then none else some (16 * (e.2 : Int) - 640)

/-- Routes a relay carries. -/
def State.carried (s : State) (r : Nat) : Nat :=
  (s.mac.nodes.filter fun p => match p.2 with
    | none => false
    | some n => n.route.contains r).length

/-- Whether a node may relay for `a`: associated, relay-capable, fewer than 64 routes unless it carries this one. -/
def State.mayRelay (s : State) (a r : Nat) : Bool :=
  match s.node r, s.node a with
  | some x, some n => r != a && isAssociated x && x.fg == n.fg && nodeRelay x && (n.route.contains r || decide (s.carried r < 64))
  | _, _ => false

/-- The relays open to `a`. -/
def State.relaysFor (s : State) (a : Nat) : List Nat := s.nodeAddrs.filter (s.mayRelay a)

/-- The paths with `k` relays from the module to `x` over `relays`, with their weakest links: every link meets what it needs. -/
def State.pathsTo (s : State) (relays : List Nat) : Nat → Nat → List (List Nat × Int)
  | 0, x => match s.node x with
    | none => []
    | some n => if s.linkNeeds ≤ n.snr then [([], n.snr)] else []
  | k + 1, x => relays.flatMap fun r =>
    match s.relayHears r x with
    | none => []
    | some v =>
      if v < s.linkNeeds ∨ r = x then []
      else ((s.pathsTo relays k r).filter fun p => !p.1.contains x && !p.1.contains r).map fun p => (p.1 ++ [r], min p.2 v)

/-- The paths whose weakest link is strongest (log entry 68). -/
def strongestPaths (l : List (List Nat × Int)) : List (List Nat × Int) := l.filter fun p => l.all fun q => decide (q.2 ≤ p.2)

/-- The route with the fewest links, at most 8, among those not tried (R276); of equals, the one a free number picks (log entry 68). -/
def State.bestRoute (s : State) (a : Nat) (tried : List (List Nat)) : Option (List Nat) :=
  (List.range 8).findSome? fun k =>
    (pickFrom (strongestPaths ((s.pathsTo (s.relaysFor a) k a).filter fun p => !tried.contains p.1)) (Config.freeNat s.free)).map Prod.fst

/-- ROUTE_SET sent to every relay of a route. -/
def State.routeSets (s : State) (rid : Nat) (route : List Nat) : List Nat → State
  | [] => s
  | r :: t => (s.sendMgmt r (.routeSet rid route)).routeSets rid route t

/-- A route given to a node; its waiting frames take it. The route identifier is open (log entry 68). -/
def State.giveRoute (s : State) (a : Nat) (n : Node) (route : List Nat) : State :=
  let s1 := s.drew.setNode a (some { n with route := route, robust := false })
  let s2 := { s1 with lin := { s1.lin with frames := s1.lin.frames.map fun (f : Frame) =>
    if f.dst = a ∧ f.state = FrameState.waiting then { f with relay := route } else f } }
  s2.routeSets (Config.freeNat s.free % 65536) route route

/-- The routes of the nodes of a list chosen anew. -/
def State.reroute (s : State) : List Nat → State
  | [] => s
  | a :: t =>
    (match s.node a with
     | none => s
     | some n => match s.bestRoute a n.tried with
       | none => s
       | some r => if r = n.route ∧ n.robust = false then s.drew else s.drew.giveRoute a n r).reroute t

/-- NEIGHBOUR_REPORT (R276): what a relay hears; the routes of its group are chosen anew. -/
def neighbourReport (saddr : Nat) (heard : List (Nat × Nat)) (s : State) : State :=
  match s.node saddr with
  | none => s
  | some n =>
    if isAssociated n && nodeRelay n && decide (heard.length ≤ 32) then
      let s1 := s.setNode saddr (some { n with heard := heard })
      s1.reroute (s1.nodeAddrs.filter fun a => match s1.node a with
        | none => false
        | some m => m.fg == n.fg)
    else s

/-- ROUTE_FAILURE (R277): after 3 end-to-end failures the next route, or three-phase transmission at MCS 0. -/
def routeFailure (saddr : Nat) (s : State) : State :=
  match s.node saddr with
  | none => s
  | some n =>
    if 3 ≤ n.fails then
      let n1 := { n with fails := 0, tried := n.tried ++ [n.route] }
      let s1 := s.setNode saddr (some n1)
      match s1.bestRoute saddr n1.tried with
      | some r => s1.drew.giveRoute saddr n1 r
      | none => s1.setNode saddr (some { n1 with robust := true, route := [] })
    else s

/-! ## Meanings -/

def execNodeWake (who : Who) (s : State) : Host.Outcome State Fault Refusal := .next (nodeWake who s)

def execRendezvousReq (saddr : Nat) (drift : Nat) (pexp : Nat) (outPexp : Nat) (s : State) : Host.Outcome State Fault Refusal :=
  .next (rendezvousReq saddr drift pexp outPexp s)

def execCheckin (saddr : Nat) (line : Stamp) (zcofs : Int) (mains : Bool) (s : State) : Host.Outcome State Fault Refusal :=
  .next (checkin saddr line zcofs mains s)

def execCheckinMissed (saddr : Nat) (s : State) : Host.Outcome State Fault Refusal := .next (checkinMissed saddr s)

def execAbsentWakeRepeat (saddr : Nat) (s : State) : Host.Outcome State Fault Refusal := .next (absentWakeRepeat saddr s)

def execAbsentRelease (saddr : Nat) (s : State) : Host.Outcome State Fault Refusal := .next (absentRelease saddr s)

def execWakePatternDetect (port : Nat) (chips : Word) (s : State) : Host.Outcome State Fault Refusal :=
  .next (wakePatternDetect port chips s)

def execWakeAnnounce (saddr : Nat) (line : Stamp) (zcofs : Int) (mains : Bool) (s : State) : Host.Outcome State Fault Refusal :=
  .next (wakeAnnounce saddr line zcofs mains s)

def execAllocReq (saddr : Nat) (gid : Nat) (kind : Nat) (span : Nat) (cgFirst : Nat) (cgLast : Nat) (slot : Nat) (cper : Nat) (cph : Nat) (nsymMax : Nat) (fromB : Nat) (toB : Nat) (s : State) : Host.Outcome State Fault Refusal :=
  .next (allocReq saddr gid kind span cgFirst cgLast slot cper cph nsymMax fromB toB s)

def execAllocEnd (saddr : Nat) (gid : Nat) (own : Bool) (s : State) : Host.Outcome State Fault Refusal :=
  .next (allocEnd saddr gid own s)

def execNeighbourReport (saddr : Nat) (heard : List (Nat × Nat)) (s : State) : Host.Outcome State Fault Refusal :=
  .next (neighbourReport saddr heard s)

def execRouteFailure (saddr : Nat) (s : State) : Host.Outcome State Fault Refusal := .next (routeFailure saddr s)

end Sys2Proof.Machine
end

