-- ==== Sys2Proof/Machine/Feeder.lean ====
section
/-! DEFINITION. Feeder mapping (chapter 10, R298 to R313): sweeps, baselines and features, ranging, energy balance. -/

namespace Sys2Proof.Machine

open Sys2Proof

/-! ## Sweeps (R300 to R305) -/

/-- Whether port `p` is a low-voltage port, and whether it is of role MV. -/
def State.lvPort (s : State) (p : Nat) : Bool := decide (1 ≤ s.portRole p ∧ s.portRole p ≤ 3)
def State.mvPort (s : State) (p : Nat) : Bool := s.portRole p == 4

/-- Whether a profile permits low-voltage sweeps (*Regulatory profiles*). -/
def profileSweeps (profile : Nat) : Bool := profile == 0 || profile == 2

/-- Whether a sweep of port `p` is refused (R300, R301). -/
def State.sweepRefused (s : State) (p : Nat) : Bool :=
  !(s.lvPort p || s.mvPort p) || (s.lvPort p && !profileSweeps (bandOf (s.bandInForce (s.portFg p))).profile) ||
  getBits (s.portRx p) 12 1 == 0

/-- The sum of two profiles, bin by bin. -/
def addBins : List (Int × Int) → List (Int × Int) → List (Int × Int)
  | [], l => l
  | l, [] => l
  | a :: t, b :: u => (a.1 + b.1, a.2 + b.2) :: addBins t u

/-- Squared magnitudes added, bin by bin. -/
def addSquares : List Int → List (Int × Int) → List Int
  | q, [] => q
  | [], b :: u => (b.1 * b.1 + b.2 * b.2) :: addSquares [] u
  | q :: t, b :: u => (q + b.1 * b.1 + b.2 * b.2) :: addSquares t u

/-- The baseline of 16 sweeps (R304). -/
def baselineOf (l : List (List (Int × Int))) : Baseline :=
  { sums := l.foldl addBins [], squares := l.foldl addSquares [] }

/-- Whether a bin is changed (R305): |x − S/16| exceeds the standard deviation √(Q/16 − |S|²/256) by `thr` dB. Both sides are squared
and raised to the tenth power, so that the comparison is exact. -/
def binChanged (thr : Nat) (x sum : Int × Int) (q : Int) : Bool :=
  let dr := 16 * x.1 - sum.1
  let di := 16 * x.2 - sum.2
  let v := 16 * q - (sum.1 * sum.1 + sum.2 * sum.2)
  decide (v ^ 10 * 10 ^ thr < (dr * dr + di * di) ^ 10)

/-- The changed bins of a profile with the squares of their differential magnitudes (scaled by 256). -/
def changedBins (thr : Nat) (b : Baseline) (bins : List (Int × Int)) : List (Nat × Nat) :=
  ((bins.zip (b.sums.zip b.squares)).zipIdx).filterMap fun e =>
    let x := e.1.1
    let sum := e.1.2.1
    if binChanged thr x sum e.1.2.2 then
      some (e.2, ((16 * x.1 - sum.1) * (16 * x.1 - sum.1) + (16 * x.2 - sum.2) * (16 * x.2 - sum.2)).natAbs)
    else none

/-- Runs of changed bins as (first bin, last bin, greatest level). -/
def runsOf : List (Nat × Nat) → List (Nat × Nat × Nat) → List (Nat × Nat × Nat)
  | [], acc => acc.reverse
  | e :: t, acc =>
    match acc with
    | [] => runsOf t [(e.1, e.1, e.2)]
    | r :: u => if r.2.1 + 1 = e.1 then runsOf t ((r.1, e.1, max r.2.2 e.2) :: u) else runsOf t ((e.1, e.1, e.2) :: acc)

/-- Whether two bins lie within one resolution, VF × c / (2 × span) (R302): bins are 7.8125 ns apart, the span is 60.6875 MHz on an
MV port and 468.75 kHz on a low-voltage one. -/
def withinResolution (mv : Bool) (a b : Nat) : Bool :=
  let d := if a ≤ b then b - a else a - b
  if mv then decide (d * 606875 ≤ 1280000) else decide (d * 46875 ≤ 12800000)

/-- A feature after a sweep that showed the runs of a list: seen again, or absent once more. -/
def ageFeature (mv : Bool) (runs : List (Nat × Nat × Nat)) (f : Feature) : Option Feature :=
  if runs.any fun r => withinResolution mv r.1 f.bin then some { f with seen := f.seen + 1, absent := 0 }
  else if f.posted then (if 2 ≤ f.absent then none else some { f with absent := f.absent + 1, seen := 0 })
  else none

/-- The features of a port after a sweep (R305); a new one has a kind that the spec does not decide from profiles alone. -/
def State.ageFeatures (s : State) (mv : Bool) (runs : List (Nat × Nat × Nat)) (old : List Feature) : List Feature :=
  let kept := old.filterMap (ageFeature mv runs)
  let new := (runs.filter fun r => !old.any fun f => withinResolution mv r.1 f.bin).map fun r =>
    ({ bin := r.1, level := r.2.2, kind := 1 + Config.freeNat (s.free + r.1) % 3 } : Feature)
  kept ++ new

/-- Features confirmed by three sweeps in a row and not posted yet. -/
def confirmed (f : Feature) : Bool := decide (3 ≤ f.seen) && !f.posted

/-- The distance of bin `b` in nm (R302): b × VF × c × 3.906 25 ns, VF in 1/256. -/
def State.binDistance (s : State) (b : Nat) : Nat := b * s.fld F.MDM_FMCFG_VF 0 * 299792458 * 390625 / 25600000

/-- The differential profile, sweep minus baseline, scaled by 16 (R305). -/
def differential (b : Baseline) (bins : List (Int × Int)) : List (Int × Int) :=
  (bins.zip b.sums).map fun e => (16 * e.1.1 - e.2.1, 16 * e.1.2 - e.2.2)

/-- The evidence of features of a port after a sweep: their three confirming profiles are the last three of the port. -/
def State.echoOf (s : State) (p : Nat) (b : Baseline) (fs : List Feature) : Finding :=
  let l := Tab.get (fun _ => []) s.fm.profiles p
  .echo p b l (differential b (l.getLastD [])) (fs.map fun f => (f, s.binDistance f.bin))

/-- The findings of confirmed features: two that appeared in one sweep are an ECHO_PAIR (log entry 84). -/
def State.postEchoes (s : State) (p : Nat) (b : Baseline) (fs : List Feature) : State :=
  let new := fs.filter fun f => f.kind == 1
  let s1 := if 2 ≤ new.length then s.finding 0x04 (s.echoOf p b new)
    else new.foldl (fun t f => t.finding 0x01 (t.echoOf p b [f])) s
  (fs.filter fun f => f.kind != 1).foldl (fun t f => t.finding f.kind (t.echoOf p b [f])) s1

/-- SWEEP_PROCESS (R305): findings of a sweep against the port's baseline. -/
def State.processSweep (s : State) (p : Nat) (bins : List (Int × Int)) : State :=
  match Tab.get (fun _ => none) s.fm.baselines p with
  | none => s
  | some b =>
    let mv := s.mvPort p
    let fs := s.ageFeatures mv (runsOf (changedBins (s.fld F.MDM_FMCFG_THR 0) b bins) []) (Tab.get (fun _ => []) s.fm.features p)
    let post := fs.filter confirmed
    let kept := fs.map fun f => if confirmed f then { f with posted := true } else f
    let s1 := { s with free := s.free + 2048 }
    let last := Tab.get (fun _ => []) s1.fm.profiles p ++ [bins]
    let fm := { s1.fm with features := Tab.set (fun _ => []) s1.fm.features p kept,
                           profiles := Tab.set (fun _ => []) s1.fm.profiles p (last.drop (last.length - 3)) }
    { s1 with fm := fm }.postEchoes p b post

/-- A sweep sent: on a low-voltage port it is an own transmission of its group, whose ring samples it marks (R80, R218). -/
def State.sentSweep (s : State) (p : Nat) : State :=
  if s.lvPort p then { s with lin := { s.lin with ownSpans := s.lin.ownSpans ++ [s.sweepSpan (s.portFg p)] } } else s

/-- A sweep that counts: one of the 16 of a baseline being taken, or judged against the baseline (R304, R305). -/
def State.takeSweep (s : State) (p : Nat) (bins : List (Int × Int)) : State :=
  match Tab.get (fun _ => none) s.fm.taking p with
  | none => s.processSweep p bins
  | some l =>
    let l1 := l ++ [bins]
    if l1.length < 16 then { s with fm := { s.fm with taking := Tab.set (fun _ => none) s.fm.taking p (some l1) } }
    else
      let s1 := { s with fm := { s.fm with taking := Tab.set (fun _ => none) s.fm.taking p none
                                           baselines := Tab.set (fun _ => none) s.fm.baselines p (some (baselineOf l1))
                                           features := Tab.set (fun _ => []) s.fm.features p [] } }
      s1.submit 1 (2 ^ 48 + p) 0 (.baseline p 0) 1

/-! ## Scheduling (R306, R307) -/

/-- The beacon number a port's sweeps are counted by. -/
def State.sweepBnum (s : State) (p : Nat) : Nat := (s.reg .MAC_BNUM (s.portFg p)).toNat

/-- Whether port `p` is due to sweep. -/
def State.sweepDue (s : State) (p : Nat) : Bool :=
  let ivl := s.fld F.MDM_FMCFG_SW_IVL 0
  let last := Tab.get (fun _ => 0) s.fm.swept p
  (s.fld F.MDM_FMPORT_SWEEP_EN 0).testBit p && ivl != 0 && (last == 0 || decide (last - 1 + ivl ≤ s.sweepBnum p)) &&
  (s.lvPort p || s.mvPort p)

/-- The port of a group whose turn it is: the next due one in ascending order after the last. -/
def State.sweepTurn (s : State) (fg : Nat) : Option Nat :=
  let due := (List.range 24).filter fun p => s.portFg p == fg && s.sweepDue p
  match due.find? fun p => decide (Tab.get (fun _ => 0) s.fm.turn fg ≤ p) with
  | some p => some p
  | none => due.head?

/-- A sweep of a port noted as taken or skipped. -/
def State.noteSweep (s : State) (p : Nat) : State :=
  { s with fm := { s.fm with swept := Tab.set (fun _ => 0) s.fm.swept p (s.sweepBnum p + 1)
                             turn := Tab.set (fun _ => 0) s.fm.turn (s.portFg p) (p + 1) } }

/-- Whether a quiet map entry covers slots `k` to `k + 3` of the cycle in progress over the whole mask of a group (R246, R306). -/
def State.quietFrom (s : State) (fg k : Nat) : Bool :=
  match s.superframe fg with
  | none => false
  | some sf =>
    let j := ((s.tracker fg).cyc + 2 ^ 40 - sf.1) % 2 ^ 40
    decide (k + 3 < 12) && (List.range 4).all fun i => (List.range 62).all fun g =>
      !decide (s.fld F.MDM_BANDSTAT_MASK_LO fg ≤ g ∧ g ≤ s.fld F.MDM_BANDSTAT_MASK_HI fg) ||
      cellKind (Tab.get (fun _ => []) s.mac.entries fg) (s.nbNow fg) j g (k + i) == some 3

/-- Whether the MAC has placed a low-voltage sweep here (R306): in four quiet slots of one cycle that hold the slot in progress, outside the beacon span
and, under time partition, inside a reserved period. -/
def State.sweepPlaced (s : State) (fg : Nat) : Bool :=
  let slot := (s.tracker fg).slot
  (List.range 4).any fun i => decide (i ≤ slot) && s.quietFrom fg (slot - i) &&
    ((bandOf (s.bandInForce fg)).part != 1 || match s.superframe fg with
      | none => false
      | some sf =>
        let at_ := slotNs (s.mains fg) (12 * (((s.tracker fg).cyc + 2 ^ 40 - sf.1) % 2 ^ 40) + (slot - i))
        inPeriod (Tab.get (fun _ => (0, 0, 0)) s.mac.tpart fg) at_ (slotNs (s.mains fg) 4))

/-- Whether the beacon has no map entry left: all six are in use. -/
def State.entriesFull (s : State) (fg : Nat) : Bool := decide (6 ≤ (Tab.get (fun _ => []) s.mac.entries fg).length)

/-- Whether a due sweep is skipped (R307); `full` says that the beacon's map entries are all taken by others. -/
def State.sweepSkipped (s : State) (p : Nat) (full : Bool) : Bool :=
  s.pwr.mode == .ember || !s.portOn p || s.calHolds p || getBits (s.portRx p) 12 1 == 0 || (full && s.entriesFull (s.portFg p) && s.lvPort p)

/-- Whether a due sweep that is not skipped goes out now: the port is idle (R217), a low-voltage one is in its place (R306). -/
def State.sweepNowMay (s : State) (p : Nat) : Bool := !s.onAir p && (!s.lvPort p || s.sweepPlaced (s.portFg p))

/-- REFLECTOMETRY_SWEEP (R218, R301, R306, R307): a due sweep of a port whose turn it is, as it ends; `bins` is its profile, `folded` says that its fold-back
set stepped. A low-voltage sweep that the profile does not permit is refused and has no effect. -/
def reflectometrySweep (port : Nat) (bins : List (Int × Int)) (full folded : Bool) (s : State) : State :=
  if decide (port < 24) && s.sweepTurn (s.portFg port) == some port &&
      !(s.lvPort port && !profileSweeps (bandOf (s.bandInForce (s.portFg port))).profile) then
    let s1 := s.noteSweep port
    if s1.sweepSkipped port full then s1.bumpFld F.MDM_FMSKIP_COUNT 0 1
    else if s.sweepNowMay port = false then s
    else
      let s2 := s1.sentSweep port
      if folded then s2.bumpFld F.MDM_FMSKIP_COUNT 0 1 else s2.takeSweep port bins
  else s

/-! ## MDM_FMCMD -/

/-- A write of MDM_FMCMD with GO and an operation: RESULT is 2 in EMBER, else the operation's on MDM_FMARG. -/
def State.fmCmd (s : State) (who : Who) (op : Nat) (f : Nat → State → State × Nat) : State :=
  s.gated who .MDM_FMCMD 0 fun s =>
    let s1 := s.setFld F.MDM_FMCMD_OP 0 op
    if s1.pwr.mode = .ember then s1.setFld F.MDM_FMCMD_RESULT 0 2
    else
      let x := f (s1.reg .MDM_FMARG 0).toNat s1
      x.1.setFld F.MDM_FMCMD_RESULT 0 x.2

/-- An operation on a line port (log entry 85). -/
def onPort (f : State → Nat → State × Nat) (arg : Nat) (s : State) : State × Nat :=
  let p := arg % 32
  if 24 ≤ p then (s, 1) else if s.sweepRefused p || !s.portOn p || s.calHolds p then (s, 3) else f s p

/-- SWEEP_NOW (R301, R306): OP 1; refused while the port transmits, as its path cannot change then (R217) (log entry 202). -/
def sweepNow (who : Who) (bins : List (Int × Int)) (folded : Bool) (s : State) : State :=
  s.fmCmd who 1 (onPort fun s p => if s.onAir p then (s, 3) else (if folded then (s.sentSweep p).bumpFld F.MDM_FMSKIP_COUNT 0 1 else (s.sentSweep p).takeSweep p bins, 0))

/-- BASELINE_TAKE (R304): OP 2; the next 16 sweeps of the port. -/
def baselineTake (who : Who) (s : State) : State :=
  s.fmCmd who 2 (onPort fun s p => ({ s with fm := { s.fm with taking := Tab.set (fun _ => none) s.fm.taking p (some []) } }, 0))

/-- RANGING_SET (R310): OP 3. -/
def rangingSet (who : Who) (s : State) : State :=
  s.fmCmd who 3 fun arg s =>
    let a := arg % 65536
    if s.associated a then (s.beginSet a, 0) else (s, 1)

/-- EVIDENCE_RELEASE (R299): OP 4. -/
def evidenceRelease (who : Who) (s : State) : State :=
  s.fmCmd who 4 fun arg s =>
    if s.fm.evid.any fun e => e.handle == arg then
      ({ s with fm := { s.fm with evid := s.fm.evid.filter fun e => e.handle != arg }
                prog := { s.prog with handles := Tab.del s.prog.handles arg } }, 0)
    else (s, 1)

/-! ## Ranging (R309, R310) -/

/-- The ranging set of a node. -/
def State.ranging (s : State) (a : Nat) : Option RangeSet := s.fm.sets.find? fun x => x.saddr == a

/-- 2τ (1 + ε) in 10⁻⁹ ns: (T_ack − T_req)(1 + ε) − TURN (R309), with ε in 10⁻⁹. -/
def roundTrip (req ack : Stamp) (turn : Nat) (eps : Int) : Int :=
  ((stampNs ack : Int) - stampNs req) * (1000000000 + eps) - turn * 1000000000

/-- RANGE_RESP (R309): TURN of an exchange whose request left at `req` and whose acknowledgement came at `ack` with `eps`, as the module has noted them. -/
def rangeResp (saddr rid turn : Nat) (req ack : Stamp) (eps : Int) (s : State) : State :=
  match s.ranging saddr with
  | none => s
  | some x => match x.open_.find? fun e => e.rid == rid with
    | none => s
    | some e =>
      if e.req ≠ some req ∨ e.ack ≠ some (ack, eps) then s
      else
      let e1 := { e with req := some req, ack := some (ack, eps), turn := some turn }
      s.nextExchange { x with open_ := [], done := x.done ++ [(e1, roundTrip req ack turn eps)] }

/-- RANGING_EXCHANGE_TIMEOUT (R310): 8 beacon intervals without the acknowledgement or RANGE_RESP. -/
def rangingExchangeTimeout (saddr rid : Nat) (s : State) : State :=
  match s.ranging saddr, s.node saddr with
  | some x, some n =>
    match x.open_.find? fun e => e.rid == rid with
    | none => s
    | some e => if e.begun + 8 ≤ (s.reg .MAC_BNUM n.fg).toNat then s.nextExchange { x with open_ := [] } else s
  | _, _ => s

/-! ## Energy balance (R311 to R313) -/

/-- Whether the balance pack runs: a pack owns GS, and its domain is on. -/
def State.balances (s : State) : Bool := decide (1 ≤ s.owner pageGs ∧ s.owner pageGs ≤ 16) && s.dom domGs == .on

/-- The enabled points of a pair. -/
def State.pointsOf (s : State) (pair : Nat) : List Nat :=
  (List.range 24).filter fun n => s.flag F.MDM_BALPT_EN n && s.fld F.MDM_BALPT_PAIR n == pair

/-- The crosspoint word of a channel for a point: its pins, SRC = 0. -/
def xptWord (pos neg : Nat) (ag : Bool) : Word := BitVec.ofNat 32 (pos + 32 + 256 * neg + if ag then 0 else 8192)

/-- GS_CFG of a balance channel: RATE 6, FILT 2, MAINS 1, MODE, RANGE and AUTORANGE of MDM_BALCH, EN. -/
def State.balanceCfg (s : State) (ch : Nat) : Word :=
  let b := getBits (s.reg .MDM_BALCH 0) (8 * ch) 8
  gsCfgForm (BitVec.ofNat 32 (1 + 2 * (b % 2) + 4 * (b / 16 % 2) + 16 * (b / 2 % 8) + 128 + 6 * 256 + 2 * 4096 + 15 * 65536))

/-- A balance channel set up where it is not: a RANGE that auto-ranging has moved is left. -/
def State.setUpChannel (s : State) (ch : Nat) : State :=
  if putBits (s.reg .GS_CFG ch) 4 3 0 = putBits (s.balanceCfg ch) 4 3 0 then s else s.putGsCfg ch (s.balanceCfg ch)

/-- A new dwell of a pair begins: no calibration overlaps it, unless one of its channels still calibrates (R346). -/
def State.freshDwell (s : State) (pair : Nat) : State :=
  if (s.gsCh (2 * pair)).cal || (s.gsCh (2 * pair + 1)).cal then s
  else { s with fm := { s.fm with spoiled := s.fm.spoiled.filter fun q => q != pair } }

/-- BALANCE_POINT_CHANGE (R311): the next point of a pair in turn; its pins are staged on both channels. -/
def balancePointChange (pair : Nat) (s : State) : State :=
  let l := s.pointsOf pair
  if s.balances && decide (pair < 2) && !l.isEmpty then
    let now := Tab.get (fun _ => none) s.fm.point pair
    let next := ((l.find? fun n => match now with
      | none => true
      | some m => decide (m < n)).orElse fun _ => l.head?).getD 0
    let s1 := (s.setUpChannel (2 * pair)).setUpChannel (2 * pair + 1)
    let s2 := s1.setReg .GS_XPT (2 * pair) (xptWord (s.fld F.MDM_BALPT_VP next) (s.fld F.MDM_BALPT_VN next) (s.flag F.MDM_BALPT_VN_AG next))
    let s3 := s2.setReg .GS_XPT (2 * pair + 1)
      (xptWord (s.fld F.MDM_BALPT_IP next) (s.fld F.MDM_BALPT_IN next) (s.flag F.MDM_BALPT_IN_AG next))
    { s3 with fm := { s3.fm with point := Tab.set (fun _ => none) s3.fm.point pair (some next) } }.freshDwell pair
  else s

/-- Whether channel `n` gives clean samples now. -/
def State.gsClean (s : State) (n : Nat) : Bool := let c := s.gsCh n; c.on && !c.cal && c.settle == 0

/-- BALANCE_DWELL_END (R311): the sum of v × i over the `n` samples of a dwell that no flag leaves out; a dwell that a calibration overlapped is
discarded (R346). -/
def balanceDwellEnd (pair : Nat) (sum : Int) (n : Nat) (s : State) : State :=
  match Tab.get (fun _ => none) s.fm.point pair with
  | none => s
  | some p =>
    if s.fm.spoiled.contains pair then s.freshDwell pair
    else if s.balances && n != 0 && s.gsClean (2 * pair) && s.gsClean (2 * pair + 1) then
      { s with fm := { s.fm with dwells := Tab.set (fun _ => []) s.fm.dwells p (Tab.get (fun _ => []) s.fm.dwells p ++ [{ sum := sum, n := n }]) } }
    else s

/-- METER_READ (R312): up to four readings of a node as (channel, Wh, time). -/
def meterRead (saddr : Nat) (regs : List (Nat × Nat × Nat)) (s : State) : State :=
  if s.associated saddr ∧ 1 ≤ regs.length ∧ regs.length ≤ 4 ∧ regs.all (fun r => decide (r.1 ≤ 1)) = true then
    let all := Tab.get (fun _ => []) s.fm.readings saddr ++ regs
    { s with fm := { s.fm with readings := Tab.set (fun _ => []) s.fm.readings saddr all } }
  else s

/-- The interval in seconds. -/
def State.balanceSecs (s : State) : Nat := 60 * s.fld F.MDM_BALCFG_MINUTES 0

/-- A register at second `t` in mWh, interpolated between the readings that bracket it, which lie at most two intervals apart (log entry 87). -/
def registerAt (l : List (Nat × Nat × Nat)) (ch t span : Nat) (up : Bool) : Option Int :=
  let c := l.filter fun r => r.1 == ch
  let before := (c.filter fun r => decide (r.2.2 ≤ t)).foldl (fun m r => match m with
    | none => some r
    | some x => if x.2.2 ≤ r.2.2 then some r else m) (none : Option (Nat × Nat × Nat))
  let after := (c.filter fun r => decide (t ≤ r.2.2)).foldl (fun m r => match m with
    | none => some r
    | some x => if r.2.2 < x.2.2 then some r else m) (none : Option (Nat × Nat × Nat))
  match before, after with
  | some a, some b =>
    if b.2.2 - a.2.2 ≤ 2 * span then
      if a.2.2 = b.2.2 then some (1000 * a.2.1)
      else
        let num : Int := ((b.2.1 : Int) - a.2.1) * 1000 * (t - a.2.2 : Nat)
        let den : Int := (b.2.2 - a.2.2 : Nat)
        some (1000 * a.2.1 + num / den + if num % den ≠ 0 ∧ up = true then 1 else 0)
    else none
  | _, _ => none

/-- The energy of a node over an interval in mWh: import minus export; a node that never reported export exports nothing (log entry 87). -/
def State.nodeEnergy (s : State) (a t0 t1 : Nat) : Option Int :=
  let l := Tab.get (fun _ => []) s.fm.readings a
  let span := t1 - t0
  let up := Config.roundUp s.free a
  match registerAt l 0 t0 span up, registerAt l 0 t1 span up with
  | some i0, some i1 =>
    if l.any fun r => r.1 == 1 then
      match registerAt l 1 t0 span up, registerAt l 1 t1 span up with
      | some e0, some e1 => some (i1 - i0 - (e1 - e0))
      | _, _ => none
    else some (i1 - i0)
  | _, _ => none

/-- The nodes of a group by whether their votes agree on a phase (0 to 2): those that do, and those that disagree or are unknown (log entry 57). -/
def State.votersOf (s : State) (fg ph : Nat) : List Nat :=
  s.nodeAddrs.filter fun a => match s.node a with
    | none => false
    | some n => n.fg == fg && n.votes.all fun v => v == ph
def State.undecided (s : State) (fg : Nat) : List Nat :=
  s.nodeAddrs.filter fun a => match s.node a with
    | none => false
    | some n => n.fg == fg && !([0, 1, 2].any fun ph => n.votes.all fun v => v == ph)

/-- The balance record of a point whose feeder energy and uncertainty the pack has computed. -/
def State.balanceRecord (s : State) (p : Nat) (feeder unc : Int) : BalRecord :=
  let fg := s.fld F.MDM_BALPT_FG p
  let nodes := s.votersOf fg (s.fld F.MDM_BALPT_PHASE p - 1)
  let t1 := s.now.s
  let e := nodes.map fun a => (a, s.nodeEnergy a s.fm.began.s t1)
  { point := p, feeder := feeder, unc := unc,
    coverage := (Tab.get (fun _ => []) s.fm.dwells p).length * s.fld F.MDM_BALCFG_DWELL 0,
    cycles := s.mains fg * (t1 - s.fm.began.s) / 1000,
    meters := (e.map fun x => x.2.getD 0).sum, counted := (e.filter fun x => x.2.isSome).map Prod.fst,
    missing := (e.filter fun x => x.2.isNone).map Prod.fst, unassigned := s.undecided fg }

/-- Whether a record is a gap (R313): |D| above both THR × E_f and 3 u_f. -/
def State.balanceGap (s : State) (r : BalRecord) : Bool :=
  let d : Int := (r.feeder - r.meters).natAbs
  decide (s.fld F.MDM_BALCFG_THR 0 * r.feeder < 1000 * d) && decide (3 * r.unc < d)

/-- The records of an interval written, one for each enabled point, and gaps posted (R313). -/
def State.balancePoints (s : State) : List (Nat × Int × Int) → State
  | [] => s
  | (p, e, u) :: t =>
    let r := s.balanceRecord p e u
    if s.flag F.MDM_BALPT_EN p then
      let s1 := { s with fm := { s.fm with records := Tab.set (fun _ => none) s.fm.records p (some r) } }
      (if s1.balanceGap r then s1.finding 0x20 (.balance r) else s1).balancePoints t
    else s.balancePoints t

/-- BALANCE_INTERVAL_END (R313): MINUTES have passed; `energies` are (point, E_f, u_f) in mWh, as the pack computes them from its
dwells (log entry 86). -/
def balanceIntervalEnd (energies : List (Nat × Int × Int)) (s : State) : State :=
  if s.balances && decide (s.fm.began.s + s.balanceSecs ≤ s.now.s) then
    let s1 := s.drew.balancePoints energies
    { s1 with fm := { s1.fm with dwells := [], began := s1.now } }
  else s

/-! ## Meanings -/

def execReflectometrySweep (port : Nat) (bins : List (Int × Int)) (full : Bool) (folded : Bool) (s : State) : Host.Outcome State Fault Refusal :=
  .next (reflectometrySweep port bins full folded s)

def execSweepNow (who : Who) (bins : List (Int × Int)) (folded : Bool) (s : State) : Host.Outcome State Fault Refusal :=
  .next (sweepNow who bins folded s)

def execBaselineTake (who : Who) (s : State) : Host.Outcome State Fault Refusal := .next (baselineTake who s)

def execRangingSet (who : Who) (s : State) : Host.Outcome State Fault Refusal := .next (rangingSet who s)

def execEvidenceRelease (who : Who) (s : State) : Host.Outcome State Fault Refusal := .next (evidenceRelease who s)

def execRangeResp (saddr : Nat) (rid : Nat) (turn : Nat) (req : Stamp) (ack : Stamp) (eps : Int) (s : State) : Host.Outcome State Fault Refusal :=
  .next (rangeResp saddr rid turn req ack eps s)

def execBalancePointChange (pair : Nat) (s : State) : Host.Outcome State Fault Refusal :=
  .next (balancePointChange pair s)

def execBalanceDwellEnd (pair : Nat) (sum : Int) (n : Nat) (s : State) : Host.Outcome State Fault Refusal :=
  .next (balanceDwellEnd pair sum n s)

def execMeterRead (saddr : Nat) (regs : List (Nat × Nat × Nat)) (s : State) : Host.Outcome State Fault Refusal :=
  .next (meterRead saddr regs s)

def execBalanceIntervalEnd (energies : List (Nat × Int × Int)) (s : State) : Host.Outcome State Fault Refusal :=
  .next (balanceIntervalEnd energies s)

def execRangingExchangeTimeout (saddr : Nat) (rid : Nat) (s : State) : Host.Outcome State Fault Refusal :=
  .next (rangingExchangeTimeout saddr rid s)

end Sys2Proof.Machine
end

