-- ==== Sys2Proof/Machine/Guyline.lean ====
section
/-! DEFINITION. Guyline (chapter 15): links, joining and leaving, routes, control messages, time, the loss of a parent (R275,
R413 to R429). Forwarding latencies are timing and left out. -/

namespace Sys2Proof.Machine

open Sys2Proof

/-! ## Extent (R419) -/

/-- PERIOD in ms. -/
def State.glPeriod (s : State) : Nat := [2, 4, 5, 8].getD (s.fld F.GL_LCFG_PERIOD 0) 8

/-- The counted latency of a link in ns (*Guyline links*). -/
def State.hopNs (s : State) (l : Nat) : Nat := if l < 4 then 6500 else (s.glPeriod + 4) * 1000000

/-- Whether L satisfies GL_LAT_BOUND / 2. -/
def State.withinBound (s : State) (lNs : Nat) : Bool := decide (2 * lNs ≤ 1000 * s.fld F.GL_LATB_US 0)

/-- Whether the module takes part, and whether it is root or PARENTED. -/
def State.glOn (s : State) : Bool := s.flag F.GL_CFG_EN 0
def State.glJoined (s : State) : Bool := s.glState == 2

/-- GL_STAT.STATE set. -/
def State.setGlState (s : State) (n : Nat) : State := s.setFld F.GL_STAT_STATE 0 n

/-- The lane that stays up in EMBER: with LINK 2, the lowest-numbered lane in service (R58, R429). -/
def State.emberLane (s : State) : Option Nat :=
  if s.fld F.PWR_EMBER_LINK 0 = 2 then (List.range 4).find? fun l => s.serves (domGl l) else none

/-- Whether a link is one the host has put in use, and in EMBER the lane that stays up. -/
def State.linkUsed (s : State) (l : Nat) : Bool :=
  if l < 4 then (s.fld F.GL_CFG_LANES 0).testBit l && (s.pwr.mode != .ember || s.emberLane == some l)
  else (s.fld F.GL_CFG_LLINKS 0).testBit (l - 4) && s.pwr.mode != .ember && !(s.reg .GL_SEED_LO 0 == 0 && s.reg .GL_SEED_HI 0 == 0)

/-- Whether a link carries HELLO: up in any role. -/
def State.linkUp (s : State) (l : Nat) : Bool := s.linkUsed l && decide (2 ≤ s.link l ∧ s.link l ≤ 4)

/-- L stored and reported in µs; the rounding is open (log entry 71). -/
def State.setL (s : State) (lNs : Nat) : State :=
  let us := lNs / 1000 + (if lNs % 1000 ≠ 0 ∧ Config.roundUp s.free 0 = true then 1 else 0)
  ({ s.drew with gl := { s.gl with lNs := lNs } }).setReg .GL_LROOT 0 (BitVec.ofNat 32 (us % 2 ^ 24))

/-- HELLO sent on a link with a fresh 16-byte nonce, which is kept for the link key (R417). -/
def State.sendHello (s : State) (l : Nat) : State :=
  let nonce := Config.freeNat s.free % 2 ^ 128
  let s1 := { s.drew with gl := { s.gl with nonces := Tab.set (fun _ => 0) s.gl.nonces l nonce } }
  s1.glEmit l { typ := 3, src := s.moduleIndex, dst := 0xFFFF, msg := .hello s.gnid s.gl.lNs nonce s.isRoot s.glJoined }

/-- HELLO sent on every link of a list. -/
def State.sendHellos (s : State) : List Nat → State
  | [] => s
  | l :: t => (s.sendHello l).sendHellos t

/-! ## Candidates (R419, R427) -/

/-- The candidates in order: the current parent, then the alternates in use. -/
def State.candidates (s : State) : List Nat :=
  (s.gl.parentNow.getD (s.fld F.GL_PARENT_IDX 0)) ::
    ([s.fld F.MAC_PARENT_ALT0 0, s.fld F.MAC_PARENT_ALT1 0, s.fld F.MAC_PARENT_ALT2 0].take (s.fld F.MAC_PARENT_NALT 0))

/-- The `n`-th candidate; after the last comes the first again. -/
def State.candidate (s : State) (n : Nat) : Nat := s.candidates.getD (n % s.candidates.length) 0

/-- The link on which a candidate stands ready: up, standby, of the same network, root or PARENTED. -/
def State.linkOf (s : State) (c : Nat) : Option (Nat × GPeer) :=
  (s.gl.peers.find? fun p => p.2.index == c && p.2.joined && !p.2.child && p.2.gnid == s.gnid && s.linkUp p.1 && s.link p.1 == 4)

/-- Whether a candidate was last seen on a line link, where eight misses pass before the next is tried (R275). -/
def State.onLine (s : State) (c : Nat) : Bool := s.gl.peers.any fun p => decide (4 ≤ p.1) && p.2.index == c

/-- JOIN_REQ sent to a candidate. -/
def State.askToJoin (s : State) (l : Nat) (p : GPeer) : State :=
  ({ s with gl := { s.gl with asked := some l } }).glControlOn l p.index (.joinReq s.moduleIndex p.index)

/-- The search from the `n`-th candidate on; `failed` says that one was passed over under R419. With none left the module stays
NO_PARENT, and the failure is posted once (log entry 72). -/
def State.search (s : State) (n : Nat) (failed : Bool) : Nat → State
  | 0 =>
    let s1 := { s with gl := { s.gl with cand := 0 } }
    if failed && !s1.gl.limited then
      (({ s1 with gl := { s1.gl with limited := true } }).setGlState 3).event .limit pageGl []
    else s1
  | k + 1 =>
    match s.linkOf (s.candidate n) with
    | some x =>
      if s.withinBound (x.2.l + s.hopNs x.1) then ({ s with gl := { s.gl with cand := n } }).askToJoin x.1 x.2
      else (s.setFld F.GL_EVT_BOUND 0 1).search (n + 1) true k
    | none =>
      if s.onLine (s.candidate n) then { s with gl := { s.gl with cand := n } } else s.search (n + 1) failed k

/-- The search for a parent, where the module has none, waits for none and no retry is pending. -/
def State.tryJoin (s : State) : State :=
  if s.glOn && !s.isRoot && (s.glState == 1 || s.glState == 3) && s.gl.asked.isNone && s.gl.retryAt.isNone then
    s.search s.gl.cand false s.candidates.length
  else s

/-! ## Routes (R424) -/

/-- Every index of the subtree, the module's own included. -/
def State.subtree (s : State) : List Nat := s.moduleIndex :: s.gl.routes.map Prod.fst

/-- The child links. -/
def State.childLinks (s : State) : List Nat := (List.range 8).filter fun l => s.link l == 3

/-- ROUTE sent to the children with the new L. -/
def State.tellChildren (s : State) : List Nat → State
  | [] => s
  | l :: t => (s.glControlOn l 0xFFFF (.route [] [] s.gl.lNs)).tellChildren t

/-- ROUTE sent to the parent. -/
def State.tellParent (s : State) (added removed : List Nat) : State :=
  match s.parentLink with
  | none => s
  | some l => s.glControlOn l (s.fld F.GL_STAT_PARENT 0) (.route added removed s.gl.lNs)

/-- Frames held for indices that have a route now sent on. -/
def State.sendHeld (s : State) : List (GFrame × Stamp) → State
  | [] => s
  | (f, _) :: t => (s.glRoute none f).sendHeld t

/-- Held frames sent and indices no longer lost, after routes have changed. -/
def State.routesBack (s : State) : State :=
  let ok : Nat → Bool := fun i => (s.routeTo i).isSome
  let go := s.gl.held.filter fun h => ok h.1.dst
  ({ s with gl := { s.gl with held := s.gl.held.filter (fun h => !ok h.1.dst), lost := s.gl.lost.filter fun i => !ok i } }).sendHeld go

/-- Routes to a child link given to indices. -/
def State.addRoutes (s : State) (l : Nat) : List Nat → State
  | [] => s
  | i :: t => ({ s with gl := { s.gl with routes := Tab.set (fun _ => 0) s.gl.routes i (l + 1) } }).addRoutes l t

/-- Routes of indices removed. -/
def State.dropRoutes (s : State) : List Nat → State
  | [] => s
  | i :: t => ({ s with gl := { s.gl with routes := Tab.set (fun _ => 0) s.gl.routes i 0 } }).dropRoutes t

/-- The members of the network at the root changed. -/
def State.noteMembers (s : State) (added removed : List Nat) : State :=
  if s.isRoot then
    let m := (s.gl.members.filter fun i => !removed.contains i && !added.contains i) ++ added
    ({ s with gl := { s.gl with members := m } }).setReg .GL_MEMBERS 0 (BitVec.ofNat 32 m.length)
  else s

/-- The subtree behind a child link lost. -/
def State.dropChild (s : State) (l : Nat) : State :=
  let gone := (s.gl.routes.filter fun p => p.2 == l + 1).map Prod.fst
  if gone = [] then s else ((s.dropRoutes gone).noteMembers [] gone).tellParent [] gone

/-! ## The loss of a parent (R275, R427) -/

/-- NO_PARENT entered; the search begins with the current parent. The offset to the next source of Compass is open. -/
def State.loseParent (s : State) : State :=
  let s1 := (((s.setGlState 3).setFld F.MAC_STAT_NOPARENT 0 1).setFld F.MAC_STAT_NOPARENT_EV 0 1).event .noParent pageGl []
  let s2 := { s1 with gl := { s1.gl with cand := 0, asked := none, limited := false }
                      mac := { s1.mac with misses := 0, candMisses := 0 }
                      cmp := { s1.cmp with hasParent := false, parentHold := false } }
  (sourceLost 4 (Config.freeNat s2.free) s2.drew).tryJoin

/-- The frames that wait on a SerDes link once it has failed: node traffic takes its route afresh or is held (R424), messages are repeated (R425), the
rest is void; the link comes up with every credit. -/
def State.dropQueue (s : State) (l : Nat) : State :=
  ((s.glQueued l).filter fun f => f.typ == 0).foldl (fun x f => x.glRoute none f) (s.setGlQueue l 256 [])

/-- A link that failed: its role is lost with it. -/
def State.linkLost (s : State) (l : Nat) : State :=
  let was := s.link l
  let s1 := ((s.setLink l 5).setFld F.GL_EVT_LINK_DOWN 0 1)
  let s2 := if l < 4 then (s1.dropPeers l).dropQueue l else s1
  let s3 := if s2.gl.asked = some l then { s2 with gl := { s2.gl with asked := none } } else s2
  if was = 2 then s3.loseParent else if was = 3 then s3.dropChild l else s3.tryJoin

/-- SERDES_LOSS (R427): block lock lost for 10 µs, or three missed HELLOs. -/
def serdesLoss (link : Nat) (s : State) : State :=
  if decide (link < 4) && s.glOn && decide (1 ≤ s.link link ∧ s.link link ≤ 4) then s.linkLost link else s

/-- SERDES_BLOCK_LOCK (R427): the lane's link comes up and HELLO goes out. -/
def serdesBlockLock (link : Nat) (s : State) : State :=
  if decide (link < 4) && s.glOn && s.linkUsed link && s.serves (domGl link) && !s.linkUp link then (s.setLink link 4).sendHello link
  else s

/-- HELLO_KEEPALIVE (R425): every 100 µs on each SerDes link. -/
def helloKeepalive (s : State) : State :=
  if s.glOn then s.sendHellos ((List.range 4).filter s.linkUp) else s

/-! ## Control messages (R425) -/

/-- The acknowledgement of a control message. -/
def State.glAck (s : State) (link : Option Nat) (src mseq : Nat) : State :=
  let f : GFrame := { typ := 1, src := s.moduleIndex, dst := src, msg := .ack mseq }
  match link with
  | some l => s.glEmit l f
  | none => s.glRoute none f

/-- A control message received: acknowledged, and a repeat discarded. -/
def State.onControl (s : State) (link : Option Nat) (src mseq : Nat) (f : State → State) : State :=
  if s.glOn && (match link with
    | none => true
    | some l => s.linkUp l) then
    let s1 := s.glAck link src mseq
    if s.gl.seen.contains (src, mseq) then s1
    else f { s1 with gl := { s1.gl with seen := s1.gl.seen ++ [(src, mseq)] } }
  else s

/-- A kept control message sent again, on a link only while it is up. -/
def State.resendMsg (s : State) (m : GSend) : State :=
  let f : GFrame := { typ := 1, src := s.moduleIndex, dst := m.dst, mseq := some m.mseq, msg := m.msg }
  match m.link with
  | some l => if s.linkUp l then s.glEmit l f else s
  | none => s.glRoute none f

/-- CONTROL_REPEAT (R425): every 10 ms until it is acknowledged, for up to 1 s. -/
def controlRepeat (mseq : Nat) (s : State) : State :=
  match s.gl.unacked.find? fun m => m.mseq == mseq with
  | none => s
  | some m =>
    if stampNs m.since + 1000000000 ≤ stampNs s.now then { s with gl := { s.gl with unacked := s.gl.unacked.erase m } }
    else if stampNs m.last + 10000000 ≤ stampNs s.now then
      ({ s with gl := { s.gl with unacked := s.gl.unacked.map fun (x : GSend) => if x.mseq = mseq then { x with last := s.now } else x } }).resendMsg m
    else s

/-- GUYLINE_ACK (R425). -/
def guylineAck (mseq : Nat) (s : State) : State :=
  { s with gl := { s.gl with unacked := s.gl.unacked.filter fun m => m.mseq != mseq } }

/-! ## Joining (R419 to R422) -/

/-- HELLO (R414, R419, R422): the far end of a link is noted; a second root is refused with DENIED; a module without a parent searches. `credits` are
those the far end of a SerDes link has granted since the HELLO before (log entry 193); the nonce goes into the link key (R417). -/
def hello (link index gnid l : Nat) (root joined : Bool) (nonce credits : Nat) (s : State) : State :=
  if s.glOn && s.linkUsed link && (s.linkUp link || decide (4 ≤ link)) then
    let old := s.peer link index
    let p : GPeer := { index := index, gnid := gnid, l := l, root := root, joined := joined, child := (old.map GPeer.child).getD false,
                       nonce := nonce }
    let s0 := if s.linkUp link then s else s.setLink link 4
    let s1 := s0.setPeer link p
    let s2 := if root && s1.isRoot && (old.map GPeer.root).getD false == false then s1.event .denied pageGl [(4, link)] else s1
    (s2.glGrant link credits).tryJoin
  else s

/-- JOIN_REFUSE sent back on a link (log entry 70). -/
def State.refuse (s : State) (link src index : Nat) (st : Status) (dup : Bool) : State :=
  let s1 := s.setFld F.GL_EVT_REFUSED 0 1
  (if dup then s1.setFld F.GL_EVT_DUP_INDEX 0 1 else s1).glControlOn link src (.joinRefuse index st dup)

/-- The ancestors of an index at the root, from its own upwards, with fuel. -/
def State.upward (s : State) (i : Nat) : Nat → List Nat
  | 0 => []
  | k + 1 =>
    if i = s.moduleIndex then [i]
    else match Tab.get (fun _ => 0) s.gl.parents i with
      | 0 => [i]
      | p + 1 => i :: s.upward p k

/-- A child taken: its link carries its index; where it is the far end, the link is its own and gets its key (R417). -/
def State.takeChild (s : State) (link index : Nat) : State :=
  let s1 := s.addRoutes link [index]
  match s1.peer link index with
  | none => s1
  | some p => ((s1.keyLink link p false).setPeer link { p with child := true }).setLink link 3

/-- The root's judgement of a JOIN_REQ (R421). -/
def State.judgeJoin (s : State) (link src index parent : Nat) : State :=
  let up := s.upward parent 1024
  if s.gl.members.contains index || up.contains index then s.refuse link src index .denied (s.gl.members.contains index)
  else if 1024 ≤ s.gl.members.length then s.refuse link src index .limit false
  else
    let s1 := ({ s with gl := { s.gl with parents := Tab.set (fun _ => 0) s.gl.parents index (parent + 1) } }).noteMembers [index] []
    (s1.takeChild link index).glControlOn link src (.joinAck index up s1.gl.members.length)

/-- JOIN_REQ (R421, R429): judged at the root, else sent on toward it; refused with DENIED by a module in EMBER or without a
parent (log entry 69). -/
def joinReq (link src mseq index parent : Nat) (s : State) : State :=
  s.onControl (some link) src mseq fun s =>
    if s.pwr.mode == .ember || !s.glJoined then s.refuse link src index .denied false
    else if s.isRoot then s.judgeJoin link src index parent
    else match s.parentLink with
      | none => s.refuse link src index .denied false
      | some l =>
        ({ s with gl := { s.gl with reqs := (s.gl.reqs.filter fun (r : Nat × Nat) => r.1 != index) ++ [(index, link)] } }).glControlOn l
          (s.fld F.GL_STAT_PARENT 0) (.joinReq index parent)

/-- The module PARENTED on a link, whose key it derives (R275, R417, R419, R427). -/
def State.parented (s : State) (link : Nat) (p : GPeer) (ancestors : List Nat) (members : Nat) : State :=
  let was := s.glState
  let moved := s.gl.parentNow.isSome && s.gl.parentNow != some p.index
  let s1 := ((((s.setLink link 2).setGlState 2).setFld F.GL_STAT_PARENT 0 p.index).setFld F.GL_STAT_PLINK 0 link).setFld
    F.GL_STAT_DEPTH 0 ancestors.length
  let s2 := (((s1.keyLink link p true).setReg .GL_MEMBERS 0 (BitVec.ofNat 32 members)).setFld F.MAC_STAT_NOPARENT 0 0).setL (p.l + s.hopNs link)
  let s3 := { s2 with
    gl := { s2.gl with asked := none, parentNow := some p.index, ancestors := ancestors, cand := 0, limited := false },
    mac := { s2.mac with misses := 0, candMisses := 0, window := 50 },
    cmp := { s2.cmp with hasParent := true, parentLine := decide (4 ≤ link) } }
  let s4 := if moved then s3.setFld F.GL_EVT_HEALED 0 1 else s3
  let s5 := if was = 3 then s4.event .ok pageGl [] else s4
  ((s5.tellParent s5.subtree []).tellChildren s5.childLinks).routesBack

/-- JOIN_ACK (R419): the module's own makes it PARENTED and derives the link key; another's goes on toward its module. -/
def joinAck (link src mseq index : Nat) (ancestors : List Nat) (members : Nat) (s : State) : State :=
  s.onControl (some link) src mseq fun s =>
    if index = s.moduleIndex then
      match s.peer link src with
      | none => s
      | some p => if s.gl.asked = some link ∧ s.gl.netKey = true then s.parented link p ancestors members else s
    else match s.gl.reqs.find? fun r => r.1 == index with
      | none => s
      | some r =>
        let s1 := { s with gl := { s.gl with reqs := s.gl.reqs.erase r } }
        ((s1.takeChild r.2 index).setReg .GL_MEMBERS 0 (BitVec.ofNat 32 members)).glControlOn r.2 index (.joinAck index ancestors members)

/-- JOIN_REFUSE (R421): the module's own is posted, and it tries again after 10 s; another's goes on toward its module (log entry 70). -/
def joinRefuse (link src mseq index : Nat) (st : Status) (dup : Bool) (s : State) : State :=
  s.onControl (some link) src mseq fun s =>
    if index = s.moduleIndex then
      if s.gl.asked = some link then
        let s1 := s.setFld F.GL_EVT_REFUSED 0 1
        let s2 := (if dup then s1.setFld F.GL_EVT_DUP_INDEX 0 1 else s1).event st pageGl []
        { s2 with gl := { s2.gl with asked := none, retryAt := some (nsStamp (stampNs s2.now + 10000000000)) } }
      else s
    else match s.gl.reqs.find? fun r => r.1 == index with
      | none => s
      | some r =>
        ({ s with gl := { s.gl with reqs := s.gl.reqs.erase r } }).glControlOn r.2 index (.joinRefuse index st dup)

/-- JOIN_RETRY (R421): 10 s after a refusal. -/
def joinRetry (s : State) : State :=
  match s.gl.retryAt with
  | none => s
  | some t =>
    if Stamp.le t s.now then ({ s with gl := { s.gl with retryAt := none } }).tryJoin else s

/-! ## GL_CFG (R422, R423) -/

/-- Links put to training. -/
def State.trainLinks (s : State) : List Nat → State
  | [] => s
  | l :: t => (if s.linkUsed l && s.link l == 0 then s.setLink l 1 else s).trainLinks t

/-- Links switched off. -/
def State.closeLinks (s : State) : List Nat → State
  | [] => s
  | l :: t => (((s.setLink l 0).dropPeers l).setGlQueue l 256 []).closeLinks t

/-- Joining begun; a root is at once a network of one. -/
def State.beginJoin (s : State) : State :=
  let s1 := ({ s with gl := { s.gl with parentNow := none, cand := 0, asked := none, retryAt := none, limited := false,
                                        members := [], routes := [], ancestors := [] } }).trainLinks (List.range 8)
  if s1.isRoot then
    (((s1.setGlState 2).setL 0).setFld F.GL_STAT_DEPTH 0 0).noteMembers [s1.moduleIndex] []
  else s1.setGlState 1

/-- LEAVE sent on every link of a list. -/
def State.sendLeaves (s : State) : List Nat → State
  | [] => s
  | l :: t => (s.glControlOn l 0xFFFF .leave).sendLeaves t

/-- The network left (R423): LEAVE to the parent and every child, then the GL domains drain. -/
def State.leaveNet (s : State) : State :=
  let s1 := s.sendLeaves ((List.range 8).filter s.linkActive)
  let s2 := (s1.setGlState 0).closeLinks (List.range 8)
  let s3 := { s2 with gl := { s2.gl with asked := none, retryAt := none, routes := [], reqs := [], members := [], held := [], lost := [] }
                      cmp := { s2.cmp with hasParent := false, parentHold := false } }
  let s4 := if s.glState = 2 ∧ s.isRoot = false then sourceLost 4 (Config.freeNat s3.free) s3.drew else s3
  (s4.setFld F.MAC_STAT_NOPARENT 0 0).startDrains .config ((List.range 4).map domGl)

/-- A write of GL_CFG: INDEX and ROOT move only while EN = 0 (R422). -/
def State.writeGlCfg (s : State) (who : Who) (value : Word) : State :=
  s.gated who .GL_CFG 0 fun s =>
    let old := s.reg .GL_CFG 0
    let on := s.glOn
    let w := plainWrite .GL_CFG old value
    let bad := on && (getBits w 0 10 != getBits old 0 10 || getBits w 30 1 != getBits old 30 1)
    let w1 := if bad then putBits (putBits w 0 10 (getBits old 0 10)) 30 1 (getBits old 30 1) else w
    let s1 := s.setReg .GL_CFG 0 w1
    let s2 := if bad then s1.event .denied pageGl [] else s1
    if s2.glOn then
      if on then
        let off := (List.range 8).filter fun l => s2.link l != 0 && !s2.linkUsed l
        ((off.foldl (fun x l => ((x.linkLost l).setLink l 0).dropPeers l) s2).trainLinks (List.range 8))
      else s2.beginJoin
    else if on then s2.leaveNet
    else s2

/-- GL_JOIN (R419): a write with EN = 1. -/
def glJoin (who : Who) (value : Word) (s : State) : State := s.writeGlCfg who (putBits value 31 1 1)

/-- GL_LEAVE (R423): a write with EN = 0. -/
def glLeave (who : Who) (value : Word) (s : State) : State := s.writeGlCfg who (putBits value 31 1 0)

/-- GUYLINE_LEAVE (R423): from the parent, NO_PARENT at once; from a child, its subtree is gone. Reports of the leaving module
are discarded (R411). -/
def guylineLeave (link src mseq : Nat) (s : State) : State :=
  s.onControl (some link) src mseq fun s =>
    let s1 := { s with gl := { s.gl with heard := s.gl.heard.filter fun h => h.1 != src } }
    let was := s1.link link
    let s2 := match s1.peer link src with
      | none => s1
      | some p => s1.setPeer link { p with joined := false, child := false }
    if was = 2 then (s2.setLink link 4).loseParent
    else if was = 3 then
      let s3 := s2.setLink link (if (s2.peersOn link).any GPeer.child then 3 else 4)
      if link < 4 then s3.dropChild link
      else if (s3.peersOn link).any GPeer.child then ((s3.dropRoutes [src]).noteMembers [] [src]).tellParent [] [src] else s3.dropChild link
    else s2

/-- ROUTE (R420, R424): from a child, the routes of its subtree; from the parent, its new L, which sends a module whose own breaks
R419 to search. -/
def route (link src mseq : Nat) (added removed : List Nat) (l : Nat) (s : State) : State :=
  s.onControl (some link) src mseq fun s =>
    if s.link link = 3 then
      let s1 := (((s.dropRoutes removed).addRoutes link added).noteMembers added removed).tellParent added removed
      s1.routesBack
    else if s.link link = 2 then
      let s1 := match s.peer link src with
        | none => s
        | some p => s.setPeer link { p with l := l }
      let lNs := l + s1.hopNs link
      if s1.withinBound lNs then let s2 := s1.setL lNs; s2.tellChildren s2.childLinks
      else
        -- the link stays, standby, and the search passes this candidate over
        (s1.setLink link 4).loseParent
    else s

/-! ## Forwarding (R424, R278) -/

/-- A node frame of another module's line that this module owns, judged under R258; it waits while the owner record of its node
has not landed (R278, R293). -/
def State.takeTraffic (s : State) (eui svc seq len : Nat) (line : Stamp) : State :=
  match s.addrOf eui with
  | none =>
    { s with mac := { s.mac with handIn := s.mac.handIn.map fun (h : HandIn) =>
      if h.eui = eui then { h with traffic := h.traffic ++ [(svc, seq, len, line)] } else h } }
  | some a => match s.node a with
    | none => s
    | some n => (s.judgeFrame { src := a, fg := n.fg, seq := seq, txn := 0, harq := 0, line := line, data := true, len := len, svc := svc,
                                ackReq := false, late := false }).1

/-- GUYLINE_FRAME_FORWARD (R27, R417, R424): a frame received on a link, whose unit draws a tag for it (log entries 103, 162). -/
def guylineFrameForward (link : Nat) (f : GFrame) (tagOk : Bool) (s0 : State) : State :=
  let s := s0.touchTag 147
  if !s.glOn || !s.linkActive link then s
  else if decide (link < 4) && (!tagOk || (s.keysOn link).isEmpty) then s.glDrop
  else if 3 < f.typ then s
  else
    let s1 := if f.dst = s.moduleIndex ∨ f.dst = 0xFFFF then
        match f.msg with
        | .traffic eui svc seq len line => s.takeTraffic eui svc seq len line
        | _ => s
      else s
    if f.dst = s.moduleIndex ∨ 255 ≤ f.hops + 1 then s1 else s1.glRoute (some link) { f with hops := f.hops + 1 }

/-- Frames dropped and counted. -/
def State.glDrops (s : State) : Nat → State
  | 0 => s
  | n + 1 => s.glDrop.glDrops n

/-- ROUTE_HOLD_TIMEOUT (R424): the frames held for 100 ms are dropped. -/
def routeHoldTimeout (s : State) : State :=
  let old : GFrame × Stamp → Bool := fun h => decide (stampNs h.2 + 100000000 ≤ stampNs s.now)
  ({ s with gl := { s.gl with held := s.gl.held.filter fun h => !old h } }).glDrops (s.gl.held.filter old).length

/-! ## Line links and time (R275, R415, R426) -/

/-- LINE_LINK_BEACON (R415): at every Compass time whose nanoseconds are a multiple of PERIOD, on a line link that has children or
may get them; the windows are (index, start, length) in µs, one for each child, at most 80 % of the period. -/
def lineLinkBeacon (link : Nat) (windows : List (Nat × Nat × Nat)) (s : State) : State :=
  let us := 1000 * s.glPeriod
  let kids := (s.peersOn link).filter GPeer.child
  if decide (4 ≤ link ∧ link < 8) && s.glOn && s.linkUsed link && s.glJoined && s.link link != 2 &&
      s.cmp.ns % (s.glPeriod * 1000000) == 0 && decide ((windows.map fun w => w.2.2).sum * 10 ≤ 8 * us) &&
      windows.all (fun w => decide (w.2.1 + w.2.2 ≤ us)) && kids.all (fun k => (windows.filter fun w => w.1 == k.index).length == 1) then
    (s.glEmit link { typ := 1, src := s.moduleIndex, dst := 0xFFFF, msg := .lineBeacon windows }).sendHello link
  else s

/-- The time record sent on a link: the time of departure, the state and E of Compass, and the last two-way exchange with the child (R426, R436). -/
def State.timeMsg (s : State) (l : Nat) : GMsg := .time s.now (s.cmp.state == .locked) s.holdest (Tab.get (fun _ => none) s.gl.exch l)

/-- A TIME frame of a child taken: its arrival is the exchange the next TIME frame to it carries; on a line link the answer leaves at once (R426; log
entry 206). -/
def State.childTime (s : State) (l : Nat) : State :=
  let s1 := { s with gl := { s.gl with exch := Tab.set (fun _ => none) s.gl.exch l (some s.now) } }
  if 4 ≤ l then s1.glEmit l { typ := 2, src := s.moduleIndex, dst := 0xFFFF, msg := s1.timeMsg l } else s1

/-- TIME frames sent on every link of a list. -/
def State.sendTimes (s : State) : List Nat → State
  | [] => s
  | l :: t =>
    (s.glEmit l { typ := 2, src := s.moduleIndex, dst := 0xFFFF, msg := s.timeMsg l }).sendTimes t

/-- TIME_FRAME_SEND (R426, R436): every 62.5 ms on each SerDes child link. -/
def timeFrameSend (s : State) : State :=
  if s.glOn then s.sendTimes (s.childLinks.filter fun l => decide (l < 4)) else s

/-- The parent's time measured: its state and E, and the offset where it is the followed source (R436). -/
def State.parentTime (s : State) (locked : Bool) (e : Nat) (offset : Int) : State :=
  let s1 := { s with cmp := { s.cmp with parentHold := !locked, parentE := e } }.noteValid 4
  if s1.cmp.src = 4 then s1.measure offset else s1

/-- A TIME frame sent to the parent, which opens a two-way exchange (R426; log entry 206). -/
def State.askTime (s : State) (l : Nat) : State :=
  s.glEmit l { typ := 2, src := s.moduleIndex, dst := s.fld F.GL_STAT_PARENT 0, msg := s.timeMsg l }

/-- TIME_FRAME (R426, R436): from the parent, whose frame on a SerDes link the child answers so that the next one carries their exchange; or from a child
(log entry 206). -/
def timeFrame (link : Nat) (locked : Bool) (e : Nat) (offset : Int) (s : State) : State :=
  if s.glOn && s.link link == 2 then
    let s1 := s.parentTime locked e offset
    if link < 4 then s1.askTime link else s1
  else if s.glOn && s.link link == 3 then s.childTime link
  else s

/-- PARENT_BEACON (R275, R426): a line-link beacon of the parent, or of the candidate sought; `offset` is that of the parent's time
from the beacon's first preamble sample; with every sixteenth beacon of the parent a two-way exchange begins (R426). -/
def parentBeacon (link index : Nat) (offset : Int) (s : State) : State :=
  if !(decide (4 ≤ link) && s.glOn && s.linkUsed link) then s
  else if s.link link = 2 ∧ s.fld F.GL_STAT_PARENT 0 = index then
    let n := (s.gl.beacons + 1) % 16
    let s1 := { s with mac := { s.mac with misses := 0, window := 50 }, gl := { s.gl with beacons := n } }
    let s2 := s1.parentTime (!s1.cmp.parentHold) s1.cmp.parentE offset
    if n = 0 then s2.askTime link else s2
  else if (s.glState = 1 ∨ s.glState = 3) ∧ index = s.candidate s.gl.cand then
    let s1 := { s with mac := { s.mac with candMisses := 0, window := 50 } }
    (if s1.linkUp link then s1 else s1.setLink link 4).tryJoin
  else s

/-- PARENT_BEACON_MISS (R275): an expected beacon did not come (log entry 72). -/
def parentBeaconMiss (s : State) : State :=
  if !s.glOn then s
  else match s.parentLink with
    | some l =>
      if l < 4 then s
      else if 2 ≤ s.mac.misses then (s.setLink l 4).loseParent
      else { s with mac := { s.mac with misses := s.mac.misses + 1 } }
    | none =>
      if s.glState = 3 then
        let w := min (2 * s.mac.window) (1000 * s.glPeriod)
        if 7 ≤ s.mac.candMisses then
          ({ s with mac := { s.mac with window := w, candMisses := 0 }, gl := { s.gl with cand := s.gl.cand + 1 } }).tryJoin
        else { s with mac := { s.mac with window := w, candMisses := s.mac.candMisses + 1 } }
      else s

/-! ## Meanings -/

def execParentBeacon (link : Nat) (index : Nat) (offset : Int) (s : State) : Host.Outcome State Fault Refusal :=
  .next (parentBeacon link index offset s)

def execParentBeaconMiss (s : State) : Host.Outcome State Fault Refusal := .next (parentBeaconMiss s)

def execGlJoin (who : Who) (value : Word) (s : State) : Host.Outcome State Fault Refusal := .next (glJoin who value s)

def execGlLeave (who : Who) (value : Word) (s : State) : Host.Outcome State Fault Refusal := .next (glLeave who value s)

def execHello (link : Nat) (index : Nat) (gnid : Nat) (l : Nat) (standing : Standing) (credits : Nat) (s : State) : Host.Outcome State Fault Refusal :=
  .next (hello link index gnid l standing.root standing.joined standing.nonce credits s)

def execJoinReq (link : Nat) (src : Nat) (mseq : Nat) (index : Nat) (parent : Nat) (s : State) : Host.Outcome State Fault Refusal :=
  .next (joinReq link src mseq index parent s)

def execJoinAck (link : Nat) (src : Nat) (mseq : Nat) (index : Nat) (ancestors : List Nat) (members : Nat) (s : State) : Host.Outcome State Fault Refusal :=
  .next (joinAck link src mseq index ancestors members s)

def execJoinRefuse (link : Nat) (src : Nat) (mseq : Nat) (index : Nat) (st : Status) (dup : Bool) (s : State) : Host.Outcome State Fault Refusal :=
  .next (joinRefuse link src mseq index st dup s)

def execJoinRetry (s : State) : Host.Outcome State Fault Refusal := .next (joinRetry s)

def execGuylineLeave (link : Nat) (src : Nat) (mseq : Nat) (s : State) : Host.Outcome State Fault Refusal :=
  .next (guylineLeave link src mseq s)

def execRoute (link : Nat) (src : Nat) (mseq : Nat) (added : List Nat) (removed : List Nat) (l : Nat) (s : State) : Host.Outcome State Fault Refusal :=
  .next (route link src mseq added removed l s)

def execGuylineFrameForward (link : Nat) (f : GFrame) (tagOk : Bool) (s : State) : Host.Outcome State Fault Refusal :=
  .next (guylineFrameForward link f tagOk s)

def execRouteHoldTimeout (s : State) : Host.Outcome State Fault Refusal := .next (routeHoldTimeout s)

def execControlRepeat (mseq : Nat) (s : State) : Host.Outcome State Fault Refusal := .next (controlRepeat mseq s)

def execGuylineAck (mseq : Nat) (s : State) : Host.Outcome State Fault Refusal := .next (guylineAck mseq s)

def execLineLinkBeacon (link : Nat) (windows : List (Nat × Nat × Nat)) (s : State) : Host.Outcome State Fault Refusal :=
  .next (lineLinkBeacon link windows s)

def execTimeFrameSend (s : State) : Host.Outcome State Fault Refusal := .next (timeFrameSend s)

def execTimeFrame (link : Nat) (locked : Bool) (e : Nat) (offset : Int) (s : State) : Host.Outcome State Fault Refusal :=
  .next (timeFrame link locked e offset s)

def execSerdesLoss (link : Nat) (s : State) : Host.Outcome State Fault Refusal := .next (serdesLoss link s)

def execHelloKeepalive (s : State) : Host.Outcome State Fault Refusal := .next (helloKeepalive s)

def execSerdesBlockLock (link : Nat) (s : State) : Host.Outcome State Fault Refusal := .next (serdesBlockLock link s)

end Sys2Proof.Machine
end

