-- ==== Sys2Proof/Machine/Handover.lean ====
section
/-! DEFINITION. Handover between modules (R278, R293, R410 to R412). -/

namespace Sys2Proof.Machine

open Sys2Proof

/-- An outgoing handover replaced or removed, by EUI-64. -/
def State.setHandOut (s : State) (h : HandOut) : State :=
  { s with mac := { s.mac with handOut := s.mac.handOut.map fun (x : HandOut) => if x.eui = h.eui then h else x } }
def State.dropHandOut (s : State) (h : HandOut) : State := { s with mac := { s.mac with handOut := s.mac.handOut.erase h } }

/-- The incoming handover of an EUI-64, replaced or removed. -/
def State.handInOf (s : State) (eui : Nat) : Option HandIn := s.mac.handIn.find? fun h => h.eui == eui
def State.setHandIn (s : State) (h : HandIn) : State :=
  { s with mac := { s.mac with handIn := s.mac.handIn.map fun (x : HandIn) => if x.eui = h.eui then h else x } }
def State.dropHandIn (s : State) (eui : Nat) : State :=
  { s with mac := { s.mac with handIn := s.mac.handIn.filter fun h => h.eui != eui } }

/-- The outgoing handover of an EUI-64 before its release record has landed. -/
def State.handOutOf (s : State) (eui : Nat) : Option HandOut := s.mac.handOut.find? fun h => h.eui == eui && !h.landed

/-- Handovers under way. -/
def State.handsNow (s : State) : Nat := (s.mac.handOut.filter fun h => !h.landed).length

/-- A handover begun (R278 step 1, R412): new frames and ledger entries to the node stop. A decision that cannot begin waits. -/
def State.beginHand (s : State) (a target : Nat) (src : Src) : State :=
  match s.node a with
  | none => s.complete src .denied []
  | some n =>
    if n.state = .active ∧ s.handsNow < 16 ∧ s.pwr.mode ≠ .ember ∧ s.glOn = true then
      let s1 := s.setNode a (some { n with state := .handing })
      { s1 with mac := { s1.mac with handOut := s1.mac.handOut ++
        [({ saddr := a, eui := n.eui, target := target, begun := s.now, src := src, sess := n.sess.getD (0, 0) } : HandOut)] } }
    else { s with mac := { s.mac with handWait := s.mac.handWait ++ [(a, target, src)] } }

/-- The oldest decision that waits begun, once a handover has ended. -/
def State.nextHand (s : State) : State :=
  match s.mac.handWait with
  | [] => s
  | (a, target, src) :: t =>
    if s.handsNow < 16 then ({ s with mac := { s.mac with handWait := t } }).beginHand a target src else s

/-- A handover ended before its release record (R278): service to the node resumes. -/
def State.abortHand (s : State) (h : HandOut) (st : Status) : State :=
  let s1 := (s.dropHandOut h).complete h.src st []
  let s2 := match s1.node h.saddr with
    | none => s1
    | some n => if n.state = NodeState.handing then s1.setNode h.saddr (some { n with state := .active }) else s1
  s2.nextHand

/-- HANDOVER_DECISION (R278, R410): Pitch's decision, or one that has waited, begins (log entry 77). -/
def handoverDecision (saddr target : Nat) (s : State) : State :=
  match s.mac.handWait.find? fun w => w.1 == saddr with
  | some w => ({ s with mac := { s.mac with handWait := s.mac.handWait.erase w } }).beginHand w.1 w.2.1 w.2.2
  | none =>
    match s.node saddr with
    | none => s
    | some n =>
      if n.state = .active ∧ target ≠ s.moduleIndex ∧ Tab.get (fun _ => none) s.plc.pins (s.globalAddr saddr) = none then
        s.beginHand saddr target .none
      else s

/-- The frames to a node that have their sequence number and wait for an acknowledgement. -/
def State.harqOut (s : State) (a : Nat) : List Frame := s.lin.frames.filter fun f => f.dst == a && f.ackReq && f.seq.isSome

/-- The non-terminal ledger entries of a node. -/
def State.openEntries (s : State) (g : Nat) : List (Nat × LEntry) :=
  s.ldg.entries.filterMap fun p => match p.2 with
    | none => none
    | some e => if e.gaddr = g ∧ isTerminal e = false then some (p.1, e) else none

/-- OFFER sent by A: HARQ processes to the node have finished, or 2 s have passed. -/
def State.sendOffer (s : State) (a : Nat) : State :=
  match s.mac.handOut.find? fun h => h.saddr == a && h.offered.isNone, s.node a with
  | some h, some n =>
    if s.harqOut a = [] ∨ stampNs h.begun + 2000000000 ≤ stampNs s.now then
      let s1 := (s.endFrames .abandoned (s.harqOut a)).setHandOut { h with offered := some s.now }
      let g := s1.globalAddr a
      s1.glControl h.target (.offer n (s1.ulMaps a) (s1.openEntries g) (Tab.get (fun _ => 1) s1.ldg.lseq g))
    else s
  | _, _ => s

/-- The address an offered node gets: its own where it is free here, else one under R234. -/
def State.offeredAddr (s : State) (a : Nat) : Option Nat :=
  if 1 ≤ a ∧ a ≤ 0xFFFD ∧ s.addrFree a = true then some a else s.freeAddr

/-- OFFER received by B: refused with ABORT in EMBER, without an address, or where R382 would refuse (R411); else a pending record is
submitted. -/
def State.takeOffer (s : State) (a : Nat) (o : Offer) : State :=
  let no := s.glControl o.giver (.abort o.node.eui)
  if s.pwr.mode = .ember ∨ o.admitted = false ∨ (s.addrOf o.node.eui).isSome = true ∨ (s.handInOf o.node.eui).isSome = true then no
  else match s.offeredAddr a with
    | none => no
    | some b =>
      let h : HandIn := { eui := o.node.eui, giver := o.giver, saddr := b, node := { o.node with fg := o.fg }, maps := o.maps,
                          entries := o.entries, lseq := o.lseq, since := s.now }
      let s1 := { s with mac := { s.mac with handIn := s.mac.handIn ++ [h] } }
      s1.submit 7 (s1.globalAddr b) 0 (.ownership 1 o.giver) 1

/-- OFFER (R278 steps 2 and 3): A's own for node `saddr`, or one received for the node that has `saddr` on the giving module. -/
def offer (saddr : Nat) (incoming : Option Offer) (s : State) : State :=
  match incoming with
  | none => if s.glOn then s.sendOffer saddr else s
  | some o => s.onControl none o.giver o.mseq fun s => s.takeOffer saddr o

/-- ACCEPT (R278 step 4): A's release record is submitted; ownership passes when it lands (log entry 73). -/
def accept (src mseq eui saddr : Nat) (s : State) : State :=
  s.onControl none src mseq fun s =>
    match s.handOutOf eui with
    | none => s
    | some h =>
      if h.target = src ∧ h.offered.isSome = true ∧ h.committed.isNone = true then
        (s.setHandOut { h with committed := some saddr }).submit 7 (s.globalAddr h.saddr) 0 (.ownership 3 src) 1
      else s

/-- COMMIT (R278 step 6): B's owner record is submitted with the final receive states. -/
def commit (src mseq eui : Nat) (seq : SeqState) (s : State) : State :=
  s.onControl none src mseq fun s =>
    match s.handInOf eui with
    | none => s
    | some h =>
      if h.giver = src ∧ h.pending = true ∧ h.owner = false then
        (s.setHandIn { h with owner := true, node := { h.node with seq := seq } }).submit 7 (s.globalAddr h.saddr) 0 (.ownership 2 src) 1
      else s

/-- ABORT (R278): a refusal ends A's handover with LIMIT; B discards its pending record. -/
def abort (src mseq eui : Nat) (s : State) : State :=
  s.onControl none src mseq fun s =>
    let s1 := match s.handInOf eui with
      | none => s
      | some h => if h.giver = src ∧ h.owner = false then s.dropHandIn eui else s
    match s1.handOutOf eui with
    | none => s1
    | some h => if h.target = src ∧ h.committed.isNone = true then s1.abortHand h .limit else s1

/-- HANDOVER_ACCEPT_TIMEOUT (R278): no ACCEPT within 1 s of OFFER; B is told (log entry 74). -/
def handoverAcceptTimeout (saddr : Nat) (s : State) : State :=
  match s.mac.handOut.find? fun h => h.saddr == saddr && !h.landed with
  | none => s
  | some h => match h.offered with
    | none => s
    | some t =>
      if h.committed.isNone = true ∧ stampNs t + 1000000000 ≤ stampNs s.now then
        (s.glControl h.target (.abort h.eui)).abortHand h .abandoned
      else s

/-- PENDING_RECORD_TIMEOUT (R278): no COMMIT within 10 s; B asks A, and discards the record once A has answered that no release was
committed. -/
def pendingRecordTimeout (eui : Nat) (answer : Option Bool) (s : State) : State :=
  match s.handInOf eui with
  | none => s
  | some h =>
    if h.owner then s
    else match answer with
      | some released => if h.queried && !released then s.dropHandIn eui else s
      | none =>
        if stampNs h.since + 10000000000 ≤ stampNs s.now then (s.setHandIn { h with queried := true }).glControl h.giver (.query eui)
        else s

/-- HANDOVER_QUERY (R278): whether the release record of a node was committed. -/
def handoverQuery (src mseq eui : Nat) (s : State) : State :=
  s.onControl none src mseq fun s => s.glControl src (.answer eui (s.mac.handOut.any fun h => h.eui == eui && h.landed))

/-! ## Landed ownership records -/

/-- A pending record landed: ACCEPT goes to A. -/
def State.pendingLanded (s : State) (h : HandIn) : State :=
  (s.setHandIn { h with pending := true, since := s.now }).glControl h.giver (.accept h.eui h.saddr)

/-- Ledger entries gone from A's books, each with an event record of flag HANDED_OUT (R293) (log entry 76). -/
def State.handEntriesOut (s : State) : List (Nat × LEntry) → State
  | [] => s
  | (lid, _) :: t =>
    let s1 := s.setEntry lid none
    (({ s1 with ldg := { s1.ldg with acc := (s1.ldg.acc + 2 ^ 32 - 1) % 2 ^ 32 } }).eventAs 0 .ok pageLedger [(4, lid)] 16).handEntriesOut t

/-- Ledger entries taken into B's books, each with an event record of flag HANDED_IN (log entry 76). -/
def State.handEntriesIn (s : State) (g : Nat) : List (Nat × LEntry) → State
  | [] => s
  | (lid, e) :: t =>
    let s1 := s.setEntry lid (some { e with gaddr := g })
    (({ s1 with ldg := { s1.ldg with acc := (s1.ldg.acc + 1) % 2 ^ 32 } }).eventAs 0 .ok pageLedger [(4, lid)] 32).handEntriesIn g t

/-- The release record landed (R278 steps 4 and 5): COMMIT to B, HANDOVER_NOTICE to the node under its old key, the address
released; the switch beacon is open (log entry 73). -/
def State.releaseLanded (s : State) (h : HandOut) : State :=
  match s.node h.saddr with
  | none => s.dropHandOut h
  | some n =>
    let s1 := (s.setHandOut { h with landed := true }).glControl h.target (.commit h.eui n.seq)
    let switchB := (s1.reg .MAC_BNUM n.fg).toNat + 1 + Config.freeNat s1.free
    let s2 := match s1.usable h.saddr with
      | none => s1
      | some v => (s1.drew.takeSeq h.saddr).addFrame
          { id := 0, fg := n.fg, dst := h.saddr, body := .mgmt (.handoverNotice h.target switchB), seq := some v, firstSeq := some v,
            ackReq := true, relay := n.route }
    let s3 := s2.handEntriesOut (s2.openEntries (s2.globalAddr h.saddr))
    ((s3.releaseAddr h.saddr true).complete h.src .ok []).nextHand

/-- Frames the giver forwarded judged once the node is owned. -/
def State.takeTraffics (s : State) (eui : Nat) : List (Nat × Nat × Nat × Stamp) → State
  | [] => s
  | (svc, seq, len, line) :: t => (s.takeTraffic eui svc seq len line).takeTraffics eui t

/-- The owner record landed (R278 step 6): B serves the node. The record holds its counters, so the checkpoints begin at them (log entry 75). -/
def State.ownerLanded (s : State) (h : HandIn) : State :=
  let q := h.node.seq
  let n := { h.node with state := .active, assoc := none, grants := [], route := [], heard := [], tried := [], robust := false, fails := 0,
                         seq := { q with ctx := q.tx, crx := q.h, ckTx := false, ckRx := false }, since := s.cmp.sec }
  let g := s.globalAddr h.saddr
  let clash := (schedsOf n).any fun x => (s.schedsTaken n.fg h.saddr).any (schedClash x)
  let s1 := (s.dropHandIn h.eui).setNode h.saddr (some n)
  let s2 := { s1 with mac := { s1.mac with prov := Tab.set (fun _ => none) s1.mac.prov h.eui (some true) }
                      ldg := { s1.ldg with lseq := Tab.set (fun _ => 1) s1.ldg.lseq g h.lseq } }
  let s3 := ((s2.handEntriesIn g h.entries).assignRec h.saddr n.fg).setUl h.saddr h.maps
  let s4 := match n.rdv with
    | none => s3
    | some r => if clash then rendezvousReq h.saddr n.drift r.pexp r.outPexp s3 else s3
  s4.takeTraffics h.eui h.traffic

/-- An ownership record landed: 1 pending, 2 owner, 3 released. -/
def State.ownershipLanded (s : State) (g state : Nat) : State :=
  match s.localAddr g with
  | none => s
  | some a =>
    if state = 3 then
      match s.mac.handOut.find? fun h => h.saddr == a && !h.landed && h.committed.isSome with
      | none => s
      | some h => s.releaseLanded h
    else match s.mac.handIn.find? fun h => h.saddr == a with
      | none => s
      | some h => if state = 1 then s.pendingLanded h else if h.owner then s.ownerLanded h else s

/-! ## Ownership decisions (R411, R412) -/

/-- Whether a report of module `m` makes the owner offer a node (R411). -/
def State.offersTo (s : State) (a : Nat) (snr : Int) : Bool :=
  match s.node a with
  | none => false
  | some n =>
    let len : Int := n.snrs.length
    s.flag F.PIT_OWNCFG_AUTO 0 && s.pwr.mode != .ember && n.state == .active && !n.snrs.isEmpty &&
    decide (n.snrs.sum + 32 * (s.fld F.PIT_OWNCFG_HYST 0 : Int) * len < snr * len) &&
    decide (n.since + 60 * s.fld F.PIT_OWNCFG_DWELL 0 ≤ s.cmp.sec) &&
    (Tab.get (fun _ => none) s.plc.pins (s.globalAddr a)).isNone

/-- The reports of a module noted, and decisions taken on them. -/
def State.takeReports (s : State) (m : Nat) : List (Nat × Int) → State
  | [] => s
  | (g, snr) :: t =>
    let s1 := { s with gl := { s.gl with heard := (s.gl.heard.filter fun (h : Nat × Nat × Int) => !(h.1 == m && h.2.1 == g)) ++ [(m, g, snr)] } }
    (match s1.localAddr g with
     | none => s1
     | some a => if s1.offersTo a snr then s1.beginHand a m .none else s1).takeReports m t

/-- Reports sent to the owners of the nodes heard. -/
def State.sendReports (s : State) (reports : List (Nat × Int)) : List Nat → State
  | [] => s
  | m :: t => (s.glControl m (.snr (reports.filter fun r => r.1 / 65536 == m))).sendReports reports t

/-- SNR_REPORT (R411): what this module hears of nodes it does not own, as (global address, mean header SNR in 1/32 dB), sent to
their owners; or a report received from module and message `received`. -/
def snrReport (received : Option (Nat × Nat)) (reports : List (Nat × Int)) (s : State) : State :=
  match received with
  | some (m, mseq) => s.onControl none m mseq fun s => s.takeReports m reports
  | none =>
    if s.glOn then
      s.sendReports reports ((reports.map fun r => r.1 / 65536).eraseDups.filter fun m => m != s.moduleIndex)
    else s

/-- OWNER_SET served (R412): a pin released or set, a handover begun; DENIED for a node this module does not own. -/
def State.ownerSet (s : State) (src : Src) (gaddr module : Nat) (pin : Bool) : State :=
  let setPin : Option Nat → State → State := fun m s => { s with plc := { s.plc with pins := Tab.set (fun _ => none) s.plc.pins gaddr m } }
  match s.localAddr gaddr with
  | none => s.complete src .denied []
  | some a =>
    if s.associated a = false ∨ (1024 ≤ module ∧ module ≠ 0xFFFF) then s.complete src .denied []
    else if module = 0xFFFF then (setPin none s).complete src .ok []
    else
      let s1 := setPin (if pin then some module else none) s
      if module = s.moduleIndex then s1.complete src .ok [] else s1.beginHand a module src

/-- OWNER_SET (R412). -/
def ownerSet (src : Src) (gaddr module : Nat) (pin : Bool) (s : State) : State :=
  if s.starts src 0x53 then (s.start src).ownerSet src (gaddr % 2 ^ 26) module pin else s

/-! ## Meanings -/

def execHandoverDecision (saddr : Nat) (target : Nat) (s : State) : Host.Outcome State Fault Refusal :=
  .next (handoverDecision saddr target s)

def execOffer (saddr : Nat) (incoming : Option Offer) (s : State) : Host.Outcome State Fault Refusal :=
  .next (offer saddr incoming s)

def execAccept (src : Nat) (mseq : Nat) (eui : Nat) (saddr : Nat) (s : State) : Host.Outcome State Fault Refusal :=
  .next (accept src mseq eui saddr s)

def execCommit (src : Nat) (mseq : Nat) (eui : Nat) (seq : SeqState) (s : State) : Host.Outcome State Fault Refusal :=
  .next (commit src mseq eui seq s)

def execAbort (src : Nat) (mseq : Nat) (eui : Nat) (s : State) : Host.Outcome State Fault Refusal :=
  .next (abort src mseq eui s)

def execHandoverAcceptTimeout (saddr : Nat) (s : State) : Host.Outcome State Fault Refusal :=
  .next (handoverAcceptTimeout saddr s)

def execPendingRecordTimeout (eui : Nat) (answer : Option Bool) (s : State) : Host.Outcome State Fault Refusal :=
  .next (pendingRecordTimeout eui answer s)

def execOwnerSet (src : Src) (gaddr : Nat) (module : Nat) (pin : Bool) (s : State) : Host.Outcome State Fault Refusal :=
  .next (ownerSet src gaddr module pin s)

def execSnrReport (received : Option (Nat × Nat)) (reports : List (Nat × Int)) (s : State) : Host.Outcome State Fault Refusal :=
  .next (snrReport received reports s)

def execHandoverQuery (src : Nat) (mseq : Nat) (eui : Nat) (s : State) : Host.Outcome State Fault Refusal :=
  .next (handoverQuery src mseq eui s)

end Sys2Proof.Machine
end

