-- ==== Sys2Proof/Machine/Packs.lean ====
section
/-! DEFINITION. Packs and intents (chapters 13 and 14): loading, unloading, live replacement, service classes, the placement report. -/

namespace Sys2Proof.Machine

open Sys2Proof

/-! ## Handles of a pack (R351, R374) -/

/-- Whether a declaration's handle is mirrored: it says so, it is code, or a constant segment fills it (R386). -/
def Decl.mirrored (d : Decl) : Bool := d.mirror || d.kind == .code || d.const

/-- The handle of a declaration of pack `slot`, number `n`, which gets value `h`. -/
def State.declHandle (s : State) (slot n h : Nat) (d : Decl) : Handle :=
  let rights := if d.kind = .code then 1 else d.rights
  s.placed h { size := d.size, kind := d.kind, latency := d.latency, mirror := Decl.mirrored d, holders := [(slot, rights)], slot := slot,
               decl := n, name := d.name, exported := d.isExport, initData := d.init }

/-- The handles of a list of declarations made, from number `n` on, with the bytes their segments fill; an imported one gets none. The
values are returned in order. -/
def State.makeHandles (s : State) (slot : Nat) : List Decl → Nat → State × List Nat
  | [], _ => (s, [])
  | d :: t, n =>
    if d.isImport then
      let r := s.makeHandles slot t (n + 1)
      (r.1, 0xFFFFFFFF :: r.2)
    else
      let h := s.prog.nextHandle
      let s1 := s.drew.setHandle h (s.declHandle slot n h d)
      let s2 := d.init.foldl (fun s p => s.setByte h p.1 p.2) { s1 with prog := { s1.prog with nextHandle := h + 1 } }
      let r := s2.makeHandles slot t (n + 1)
      (r.1, h :: r.2)

/-- The handle a resident pack exports under a name. -/
def State.exported (s : State) (name : Nat) : Option Nat :=
  (s.prog.handles.find? fun p => p.2.exported && p.2.name == name).map Prod.fst

/-- The handle values of a pack's declarations with its imports looked up again. -/
def State.relinked (s : State) : List Decl → List Nat → List Nat
  | d :: t, h :: r => (if d.isImport then (s.exported d.name).getD 0xFFFFFFFF else h) :: s.relinked t r
  | _, _ => []

/-- The rights a pack's imports give on the handles they name. -/
def State.importRights (s : State) (slot : Nat) : List (Nat × Decl) → State
  | [] => s
  | (h, d) :: t =>
    (if d.isImport then
      match s.handle h with
      | none => s
      | some x => s.setHandle h { x with holders := (slot, d.rights) :: x.holders.filter fun p => p.1 != slot }
    else s).importRights slot t

/-- Every resident pack's imports looked up again (*Pack tables*): an exporter came or went. -/
def State.relink (s : State) : List Nat → State
  | [] => s
  | k :: t =>
    let p := s.pack k
    let l := s.relinked p.image.decls p.decls
    ((s.setPack k { p with decls := l }).importRights k (l.zip p.image.decls)).relink t

/-! ## Slots and ownership (R34, R376) -/

/-- The BAR0 pages of a list of ranges. -/
def rangePages : List (Nat × Nat) → List Nat
  | [] => []
  | (a, b) :: t => ((List.range (b + 1 - a)).map fun i => a + i) ++ rangePages t

/-- The slots that are occupied, and the lowest free one. -/
def State.slotsUsed (s : State) : List Nat := (List.range 16).filter fun k => (s.pack k).state != .free

def State.freeSlot (s : State) : Option Nat := (List.range 16).find? fun k => (s.pack k).state == .free

/-- Whether page ranges reach a block no pack may own: PIT, SEC, DBG (R447). -/
def ownsSealed (pages : List Nat) : Bool := pages.any fun p => p / 256 == 2 || p / 256 == 3 || p / 256 == 0x18

/-- Whether a page is owned by a resident pack other than the one in `but`. -/
def State.pageTaken (s : State) (but : Option Nat) (p : Nat) : Bool :=
  s.slotsUsed.any fun k => some k != but && (s.pack k).pages.contains p

/-- The host-service pack serves (R496): the frame-buffer and host-scratch handles get values, every enabled pair is fetched. -/
def State.hostServe (s : State) (slot : Nat) : State :=
  let h := s.prog.nextHandle
  let buf := s.placed h { size := 262144 * 4096, holders := [(slot, 3)], hostRead := true, slot := slot }
  let scr := s.placed (h + 1) { size := 2 ^ 26, holders := [(slot, 3)], hostRead := true, hostWrite := true, slot := slot }
  let s1 := (s.drew.setHandle h buf).setHandle (h + 1) scr
  let s2 := { s1 with prog := { s1.prog with nextHandle := h + 2 }, hst := { s1.hst with ready := true } }
  ((s2.setReg .HST_FBH 0 (BitVec.ofNat 32 h)).setReg .HST_SCRH 0 (BitVec.ofNat 32 (h + 1))).fetchPairs (List.range 64)

/-- The handle of the record region kept while a pack owns the MDM block (MDM_MAPHANDLE, R34, R171): given when such a pack becomes
resident, taken back when it leaves (log entry 136). -/
def State.tendMaps (s : State) : State :=
  let h := (s.reg .MDM_MAPHANDLE 0).toNat
  let owned := decide (1 ≤ s.owner pageMdm ∧ s.owner pageMdm ≤ 16)
  if owned = true ∧ h = 0 then
    let n := s.prog.nextHandle
    let x := s.placed n { size := 16384 * 72448, hostRead := true }
    { s.drew.setHandle n x with prog := { (s.setHandle n x).prog with nextHandle := n + 1 } }.setReg .MDM_MAPHANDLE 0 (BitVec.ofNat 32 n)
  else if owned = false ∧ h ≠ 0 then
    { s with prog := { s.prog with handles := Tab.del s.prog.handles h } }.setReg .MDM_MAPHANDLE 0 0
  else s

/-- An image made resident in a slot (R34, R376, R378): handles, pages, memory; entry 0 starts with `s1`. A pack that replaces another
live owns nothing yet and starts beside it. -/
def State.install (s : State) (slot : Nat) (i : PackImage) (st : SlotState) (pages : List Nat) (arg : DWord) : State :=
  let r := s.makeHandles slot i.decls 0
  let s1 := r.1.setPack slot { state := st, image := i, decls := r.2, pages := pages }
  let s2 := { s1 with plc := { s1.plc with packMib := s1.plc.packMib + i.memMib } }
  let s3 := (if st = .resident then s2.setOwners (slot + 1) pages else s2).relink (List.range 16)
  let s4 := if i.hostService && st = .resident then s3.hostServe slot else s3
  (s4.tendMaps.tendEmber.refit false).startEntry slot arg

/-- Pack `slot` gone (R34, R376): its tasks end with ABANDONED, its handles and pages are given up, its slot is free. -/
def State.evict (s : State) (slot : Nat) : State :=
  let p := s.pack slot
  let s1 := s.endPackTasks slot
  let mine := s1.prog.handles.filter fun h => h.2.slot == slot
  let s2 := { s1 with
    prog := { s1.prog with handles := s1.prog.handles.filter fun h => h.2.slot != slot },
    mem := s1.mem.filter fun c => !(mine.any fun h => c.1 / 2 ^ 40 == h.1),
    plc := { s1.plc with packMib := s1.plc.packMib - p.image.memMib } }
  let s3 := (s2.returnPages (p.pages.filter fun q => s2.owner q == slot + 1)).setPack slot {}
  let s4 := if p.image.hostService && s3.hst.ready then
      ({ s3 with hst := { s3.hst with ready := false } }.setReg .HST_FBH 0 0).setReg .HST_SCRH 0 0
    else s3
  s4.tendMaps.relink (List.range 16)

/-- Every pack of a list gone. -/
def State.evictAll (s : State) : List Nat → State
  | [] => s
  | k :: t => (s.evict k).evictAll t

/-! ## PACK_LOAD and PACK_UNLOAD (R374 to R378, R394, R453) -/

/-- Whether every declaration is small enough for its latency class (R387): 128 KiB for class 2, 8 MiB for class 1. -/
def declsFit (l : List Decl) : Bool :=
  l.all fun d => d.isImport || (if d.latency = 2 then decide (d.size ≤ 131072) else d.latency != 1 || decide (d.size ≤ 8388608))

/-- Whether the handles made for pack `slot` all have a place of their latency class (R387). -/
def State.classesMet (s : State) (slot : Nat) (l : List Decl) : Bool :=
  (s.makeHandles slot l 0).1.prog.handles.all fun p => p.2.slot != slot || decide (p.2.latency ≤ Place.home p.2.place)

/-- Whether the contexts, FEC and transform rates that the resident packs and an image need stay within those of the units not retired: four contexts an
engine of the pool in service, 600 Mb/s a FEC cluster, 200 M complex samples/s a transform unit (R374, R376; log entry 205). -/
def State.needsMet (s : State) (i : PackImage) : Bool :=
  let all := i :: s.slotsUsed.map fun k => (s.pack k).image
  let left := fun lo n => ((List.range n).filter fun u => !s.isRetired (lo + u)).length
  decide ((all.map fun x => x.contexts).sum ≤ 4 * left 0 128 ∧ (all.map fun x => x.fec).sum ≤ 600 * left 128 8 ∧ (all.map fun x => x.xf).sum ≤ 200 * left 136 4)

/-- A load of a new pack: `placed` is Pitch's judgement of the needs other than memory (contexts, FEC, XF, latency classes), `power` the
domains it switches on for them (R50, R387). -/
def State.loadNew (s : State) (src : Src) (i : PackImage) (placed : Bool) (power : List Nat) : State :=
  let pages := rangePages i.pages
  if pages.any (s.pageTaken none) then s.complete src .denied []
  else match s.freeSlot with
    | none => s.complete src .limit []
    | some k =>
      let s1 := s.powerAll (power.filter fun d => !(decide (d < 128) && s.role d == .spare))
      if (placed && declsFit i.decls && s.needsMet i && s1.classesMet k i.decls) = false ∨ s.pwr.admits = false ∨ s.memAdmits i.memMib = false then
        s.complete src .limit []
      else (s1.install k i .resident pages 0).complete src .ok [(1, k)]

/-- A load that replaces the pack in slot `out` live (R394): its needs are admitted on spare engines and uncommitted memory; the completion
comes when the replacement ends (log entry 101). -/
def State.loadOver (s : State) (src : Src) (i : PackImage) (out : Nat) (placed : Bool) (power : List Nat) : State :=
  let p := s.pack out
  let pages := rangePages i.pages
  if s.plc.repl.isSome then s.complete src .limit []
  else if p.state ≠ .resident ∨ p.image.replaceable = false ∨ p.image.cls ≠ i.cls ∨ pages.any (s.pageTaken (some out)) = true then
    s.complete src .denied []
  else match s.freeSlot with
    | none => s.complete src .limit []
    | some k =>
      if (placed && declsFit i.decls && s.needsMet i && (s.powerAll power).classesMet k i.decls) = false ∨ s.pwr.admits = false ∨
         s.memAdmits i.memMib = false then s.complete src .limit []
      else
        let s1 := { s.powerAll power with plc := { (s.powerAll power).plc with
          repl := some { outgoing := out, incoming := k, src := src, since := s.cmp.sec } } }
        (s1.setPack out { p with state := .outgoing }).install k i .incoming pages 2

/-- PACK_LOAD (R374 to R378, R394, R447, R453): the image is judged, then loaded; `repl` is 0xFF or the slot to replace live. -/
def packLoad (src : Src) (image : PackImage) (repl : Nat) (placed : Bool) (power : List Nat) (s : State) : State :=
  if s.starts src 0x30 then
    let s1 := s.start src
    if image.formatOk = false then s1.complete src .denied []
    else match s1.verifyImage image with
      | some st => s1.imageFailed.complete src st []
      | none =>
        if ownsSealed (rangePages image.pages) then s1.complete src .denied []
        else if repl = 0xFF then s1.loadNew src image placed power
        else s1.loadOver src image repl placed power
  else s

/-- Whether a slot takes part in the running replacement. -/
def State.inRepl (s : State) (slot : Nat) : Bool :=
  match s.plc.repl with
  | none => false
  | some r => slot == r.outgoing || slot == r.incoming

/-- PACK_UNLOAD (R34, R394): the pack's tasks end, its units return to the host (log entry 99). -/
def packUnload (src : Src) (slot : Nat) (s : State) : State :=
  if s.starts src 0x31 then
    let s1 := s.start src
    if (s1.pack slot).state = .free ∨ s1.inRepl slot = true ∨ 16 ≤ slot then s1.complete src .denied []
    else (s1.evict slot).complete src .ok []
  else s

/-! ## Live replacement (R394, R395) -/

/-- The spare engines on which the incoming pack runs taken into service, and the pool filled from those left idle (step 5 of *Live
replacement*). -/
def State.swapSpares (s : State) : State :=
  let used := s.spares.filter fun e => !(s.tasksOn e).isEmpty
  let idle := (s.inService.filter fun e => (s.tasksOn e).isEmpty).take used.length
  (s.enterService used).leaveService idle

/-- Whether the batch in flight is that of the pack in a slot (R292). -/
def State.keepsLedger (s : State) (slot : Nat) : Bool := s.ldg.batch.isSome && s.ldg.pack == slot + 1

/-- Batches held back, or formed again. -/
def State.holdLedger (s : State) (b : Bool) : State :=
  let s1 := { s with ldg := { s.ldg with hold := b } }
  if b then s1 else s1.formBatch

/-- Step 5 of *Live replacement*: ownership passes, the outgoing slot is freed, REPL_DONE. -/
def State.replDone (s : State) (r : Repl) : State :=
  let host := (s.pack r.outgoing).image.hostService
  let s1 := { s with plc := { s.plc with repl := none } }.evict r.outgoing
  let p := s1.pack r.incoming
  let s2 := (s1.setPack r.incoming { p with state := .resident }).setOwners (r.incoming + 1) p.pages
  let s3 := if host && p.image.hostService then s2.hostServe r.incoming else s2
  ((s3.tendMaps.swapSpares.setFld F.PIT_EVT_REPL_DONE 0 1).holdLedger false).complete r.src .ok [(1, r.incoming)]

/-- The packs of a list that are leaving gone, once their last task has ended. -/
def State.reap (s : State) : List Nat → State
  | [] => s
  | k :: t => (if (s.pack k).state = .unloading ∧ s.liveTasks k = 0 then s.evict k else s).reap t

/-- REPL_OUTGOING_ENDED (R292, R394, R395): the last outgoing task, or after a rollback the last incoming one, has ended. While a ledger batch of the
outgoing pack is in flight it keeps the ledger and forms no further batch; the replacement ends once that has landed. -/
def replOutgoingEnded (s : State) : State :=
  match s.plc.repl with
  | none => s.reap (List.range 16)
  | some r => if s.liveTasks r.outgoing = 0 then (if s.keepsLedger r.outgoing then s.holdLedger true else s.replDone r) else s

/-- REPL_TIME_LIMIT (R395): outgoing tasks still live after LIMIT_S seconds are ended (log entry 105). -/
def replTimeLimit (s : State) : State :=
  match s.plc.repl with
  | none => s
  | some r => if r.since + s.fld F.PIT_REPLCFG_LIMIT_S 0 ≤ s.cmp.sec then (s.endPackTasks r.outgoing).replDone r else s

/-- The running replacement rolled back (R61, R292, R395): the incoming pack starts nothing more and goes when its tasks have ended, the outgoing
pack keeps ownership and the ledger (log entry 99). -/
def State.rollback (s : State) : State :=
  match s.plc.repl with
  | none => s
  | some r =>
    let s1 := { s with plc := { s.plc with repl := none } }
    let s2 := s1.setPack r.incoming { s1.pack r.incoming with state := .unloading }
    let s3 := s2.setPack r.outgoing { s2.pack r.outgoing with state := .resident }
    (((s3.reap [r.incoming]).setFld F.PIT_EVT_REPL_ABORTED 0 1).holdLedger false).complete r.src .abandoned []

/-- The stored form of PIT_REPLCFG. -/
def replCfgForm (w : Word) : Word := if getBits w 0 16 = 0 then putBits w 0 16 1 else w

/-- REPL_ABORT (R395): a write of PIT_REPLCFG with ABORT. -/
def replAbort (value : Word) (s : State) : State :=
  s.gated .host .PIT_REPLCFG 0 fun s =>
    (s.setReg .PIT_REPLCFG 0 (replCfgForm (plainWrite .PIT_REPLCFG (s.reg .PIT_REPLCFG 0) value))).rollback

/-! ## Service classes (R381 to R384) -/

/-- The record of service classes and assignments submitted (*Record kinds*, configuration subkind 2) (log entry 100). -/
def State.saveClasses (s : State) : State := s.submit 1 (2 * 2 ^ 48) 0 (.classes s.plc.classes s.plc.assigns) 1

/-- An intent refused (R382). -/
def State.refuseIntent (s : State) (src : Src) : State := (s.setFld F.PIT_EVT_REFUSED 0 1).complete src .limit []

/-- Whether Pitch admits an intent it can meet (R382, R408, R477): one that would raise demand not while the cap forbids it (R54). -/
def State.admitsIntent (s : State) (met raises : Bool) : Bool := met && (s.pwr.admits || !raises) && s.memAdmits 0

/-- Whether serving class `c` asks more than serving class `d`: more rate, a tighter latency, more persistence or priority (R54; log entry
164). -/
def SvcClass.asksMore (c d : SvcClass) : Bool :=
  let tighter := fun a b : Nat => a != 0 && (b == 0 || decide (a < b))
  decide (d.rate < c.rate) || tighter c.latUl d.latUl || tighter c.latDl d.latDl || decide (d.persist < c.persist) || decide (d.prio < c.prio)

/-- Service class `n`. -/
def State.svcClass (s : State) (n : Nat) : SvcClass := Tab.get (fun _ => {}) s.plc.classes n

/-- CLASS_SET (R381, R382): `met` is Pitch's judgement of R382. -/
def classSet (src : Src) (cls prio persist byte3 latUl latDl rate : Nat) (met : Bool) (power : List Nat) (s : State) : State :=
  if s.starts src 0x50 then
    let s1 := s.start src
    if 63 < cls ∨ 3 < prio ∨ 2 < persist ∨ byte3 ≠ 0 then s1.complete src .denied []
    else
      let c : SvcClass := { prio := prio, persist := persist, latUl := latUl, latDl := latDl, rate := rate }
      if s1.admitsIntent met (SvcClass.asksMore c (s1.svcClass cls)) = false then s1.refuseIntent src
      else
        let s2 := { s1 with plc := { s1.plc with classes := Tab.set (fun _ => {}) s1.plc.classes cls c } }
        ((s2.powerAll power).saveClasses).complete src .ok []
  else s

/-- CLASS_ASSIGN (R381, R382): the newest assignment of a flow stands. -/
def classAssign (src : Src) (gaddr : Nat) (group : Option Nat) (svc : Option Nat) (cls : Nat) (met : Bool) (power : List Nat) (s : State) :
    State :=
  if s.starts src 0x51 then
    let s1 := s.start src
    let bad := match group with
      | some g => decide (7 < g)
      | none => false
    if bad = true ∨ 63 < cls then s1.complete src .denied []
    else
      let f : FlowSel := { gaddr := if group.isSome then 0 else gaddr % 2 ^ 26, group := group, svc := svc }
      let old := ((s1.plc.assigns.find? fun p => p.1 == f).map Prod.snd).getD 0
      if s1.admitsIntent met (SvcClass.asksMore (s1.svcClass cls) (s1.svcClass old)) = false then s1.refuseIntent src
      else
      let s2 := { s1 with plc := { s1.plc with assigns := (f, cls) :: s1.plc.assigns.filter fun p => p.1 != f } }
      ((s2.powerAll power).saveClasses).complete src .ok []
  else s

/-- The service codes that assignments name, and one they do not. -/
def State.svcCodes (s : State) : List Nat := 256 :: s.plc.assigns.filterMap fun p => p.1.svc

/-- Nodes with a flow in class `c`. -/
def State.classNodes (s : State) (c : Nat) : Nat :=
  (s.mac.nodes.filter fun p => match p.2 with
    | none => false
    | some n => s.svcCodes.any fun v => s.flowClass (s.globalAddr p.1) n.fg v == c).length

/-- The classes that have a node assigned. -/
def State.classesUsed (s : State) : List Nat := (List.range 64).filter fun c => s.classNodes c != 0

/-- The bytes of the placement report (R384), with the input power `pin` in 0.1 W. -/
def State.report (s : State) (pin : Nat) : List Byte :=
  let l := s.classesUsed
  let late := fun c => Tab.get (fun _ => (0, 0)) s.plc.late c
  let total := 24576 * s.serving.length
  natLe 4 s.now.ns ++ natLe 4 s.now.s ++ natLe 1 s.inService.length ++ natLe 1 s.spares.length ++ natLe 1 s.engRetired ++
  natLe 1 ((s.serving.map fun n => 2 ^ n).sum) ++
  ((List.range 4).flatMap fun n => natLe 1 (if s.stackServes n then s.step3 n else 0xFF)) ++
  natLe 4 s.memCommitted ++ natLe 4 s.plc.reserve ++ natLe 4 (total - s.plc.reserve - s.memCommitted) ++
  natLe 2 s.plc.narrowDs ++ natLe 2 s.plc.wideDs ++ natLe 4 s.plc.harqMib ++ natLe 4 (pin % 2048) ++ natLe 1 l.length ++
  natLe 23 0 ++
  l.flatMap fun c => natLe 1 c ++ natLe 1 (Tab.get (fun _ => ({} : SvcClass)) s.plc.classes c).prio ++ natLe 2 0 ++
    natLe 4 (s.classNodes c) ++ natLe 4 (min 0xFFFFFFFF (late c).1) ++ natLe 4 (min 0xFFFFFFFF (late c).2)

/-- PLACEMENT_REPORT (R384): the report written to a handle the host may write; the late counts start again. -/
def placementReport (src : Src) (handle ofs len : Nat) (s : State) : State :=
  if s.starts src 0x52 then
    let s1 := s.start src
    match s1.handle handle with
    | none => s1.complete src .denied []
    | some x =>
      if len < 64 + 16 * s1.classesUsed.length ∨ s1.hostMayWrite x = false ∨ x.size < ofs + 64 + 16 * s1.classesUsed.length then
        s1.complete src .denied []
      else
        let s2 := s1.drew.setBytes handle ofs (s1.report (Config.freeNat s1.free))
        ({ s2 with plc := { s2.plc with late := [] } }).complete src .ok []
  else s

/-! ## Meanings -/

def execPackLoad (src : Src) (image : PackImage) (repl : Nat) (placed : Bool) (power : List Nat) (s : State) : Host.Outcome State Fault Refusal :=
  .next (packLoad src image repl placed power s)

def execPackUnload (src : Src) (slot : Nat) (s : State) : Host.Outcome State Fault Refusal :=
  .next (packUnload src slot s)

def execReplOutgoingEnded (s : State) : Host.Outcome State Fault Refusal := .next (replOutgoingEnded s)

def execReplTimeLimit (s : State) : Host.Outcome State Fault Refusal := .next (replTimeLimit s)

def execReplAbort (value : Word) (s : State) : Host.Outcome State Fault Refusal := .next (replAbort value s)

def execClassSet (src : Src) (cls : Nat) (prio : Nat) (persist : Nat) (byte3 : Nat) (latUl : Nat) (latDl : Nat) (rate : Nat) (met : Bool) (power : List Nat) (s : State) : Host.Outcome State Fault Refusal :=
  .next (classSet src cls prio persist byte3 latUl latDl rate met power s)

def execClassAssign (src : Src) (gaddr : Nat) (group : Option Nat) (svc : Option Nat) (cls : Nat) (met : Bool) (power : List Nat) (s : State) : Host.Outcome State Fault Refusal :=
  .next (classAssign src gaddr group svc cls met power s)

def execPlacementReport (src : Src) (handle : Nat) (ofs : Nat) (len : Nat) (s : State) : Host.Outcome State Fault Refusal :=
  .next (placementReport src handle ofs len s)

end Sys2Proof.Machine
end

