-- ==== Sys2Proof/Machine/Reliability.lean ====
section
/-! DEFINITION. Reliability (chapter 18): detectors, fault injection, self-tests, retirements, minimal service, excursions. -/

namespace Sys2Proof.Machine

open Sys2Proof

/-! ## Detections (R466) -/

/-- What a self-test of a target tests: in the core region the stop concerned and its Ridge links (R39); else the unit itself. -/
def testTargets : TestUnit → List TestUnit
  | .stop n => .stop n :: (stopLinks n).map TestUnit.unit
  | u => [u]

/-- The tests of a list queued. -/
def State.queueTests (s : State) : List SelfTest → State
  | [] => s
  | t :: r => (s.queueTest t).queueTests r

/-- The action of a detector's row on a unit: for the books, its forced disable and a recount; then its self-test. A unit under test is left
alone (R476). -/
def State.detectorActs (s : State) (code : Nat) (t : SelfTest) : State :=
  if s.inTest t.target then s
  else
    let s1 := match code, t.target with
      | 14, .unit i => (if i < domCount then s.forceUnit i .test else s).recount
      | _, _ => s
    s1.queueTests ((testTargets t.target).map fun u => { t with target := u })

/-- DETECTION (R466): a detector fires; `sel` is the unit named, `target` what its row tests, where it tests something, `next` the unit to
test should a link pass (R470). Detectors 9 to 12 and 15 test nothing. -/
def detection (code sel : Nat) (target : Option TestUnit) (next : Option Nat) (s : State) : State :=
  if code = 0 ∨ 15 < code then s
  else
    let s1 := s.countDetection code sel
    match target with
    | some u => if (9 ≤ code ∧ code ≤ 12) ∨ code = 15 then s1 else s1.detectorActs code { target := u, det := code, thenUnit := next }
    | none => s1

/-! ## Fault injection (R467, R468) -/

/-- Whether a REL_UNITSEL value names a unit. -/
def unitExists (sel : Nat) : Bool :=
  let n := sel % 256
  match sel / 256 with
  | 0 => decide (n < domCount)
  | 1 => decide (n < 120)
  | 2 => decide (n < 128)
  | 3 => decide (n < 32)
  | 4 => decide (n < 16)
  | _ => false

/-- Whether detector `code` has an injection point at the unit of REL_UNITSEL value `sel` (*Detectors*). Detectors 9 to 11 have one point of
their own, detector 12 one per tamper input (log entry 106). -/
def detectorHas (code sel : Nat) : Bool :=
  let k := sel / 256
  let n := sel % 256
  match code with
  | 1 => k == 2 && decide (n < 128) || k == 0 && decide (140 ≤ n ∧ n < 144)
  | 2 => k == 0 && (decide (n < 128) || decide (144 ≤ n ∧ n < 152))
  | 3 => k == 1 && decide (n < 120)
  | 4 => k == 1 && decide (n < 120)
  | 5 => k == 0 && decide (152 ≤ n ∧ n < 176)
  | 6 => k == 0 && decide (152 ≤ n ∧ n < 176)
  | 7 => k == 4 && decide (n < 16)
  | 8 => k == 3 && decide (n < 32)
  | 9 => true
  | 10 => true
  | 11 => true
  | 12 => decide (n < 4)
  | 13 => sel == domChk
  | 14 => k == 0 && decide (n < domCount) || k == 1 && decide (n < 120)
  | 15 => k == 0 && decide (152 ≤ n ∧ n < 176)
  | _ => false

/-- Whether the target is a secured resource (R467): a CRY unit, or, for detector 10, the security controller itself (log entry 107). -/
def securedTarget (code sel : Nat) : Bool := decide (194 ≤ sel ∧ sel < 198) || code == 10

/-- RESULT of an injection request of class `cls` (R468) (log entry 106). -/
def State.injectResult (s : State) (cls code sel : Nat) : Nat :=
  if s.pwr.mode = .ember ∧ cls ≠ 1 then 3
  else if s.level < cls then 1
  else if detectorHas code sel = false then 2
  else if 2 ≤ cls ∧ securedTarget code sel = true ∧ s.level < 3 then 2
  else if cls = 3 ∧ sel < 256 ∧ s.drainRefused sel = true then 2
  else 0

/-- What a self-test is queued for after an injection of detector `code` at `sel`; `row` is the memory row struck. -/
def injectTarget (code sel row : Nat) : Option TestUnit :=
  match code with
  | 1 => if sel < 256 then some (.hbmRow (32 * (sel - 140) + row % 32) (row / 32)) else some (.hbmRow (sel % 256) row)
  | 2 => if sel < 128 then some (.unit sel) else some (.canRow (sel - 144) row)
  | 9 => none
  | 10 => none
  | 11 => none
  | 12 => none
  | 15 => none
  | _ => some (.unit sel)

/-- What the corrupted signal does beside the detection: over-current mute, underrun, overload mark, self-check error, error counts, holdover
limit (R26, R82, R86, R403, R443, R531). -/
def State.injectSignal (s : State) (code sel : Nat) : State :=
  let port := sel - 152
  match code with
  | 1 => s.bumpFld F.MEM_UE_COUNT (if sel < 256 then sel - 140 else sel % 256 / 32) 1
  | 2 => s.bumpFld F.MEM_CAN_UE_COUNT 0 1
  | 5 => (s.setPortStat port 16 1 1).bumpFld F.LP_OVLCNT_COUNT port 1
  | 6 =>
    if s.onAir port then
      let set := s.foldSet [port] 3
      ((s.endFrames .abandoned (s.runningOn set)).setPa false set).setStats 18 1 1 set
    else s
  | 11 => s.setFld F.CMP_STAT_HOLDLIM 0 1
  | 13 => s.setChkUnit 0 { s.chkUnit 0 with scerr := true }
  | 15 => if s.onAir port then (s.endFrames .abandoned (s.runningOn [port])).setPortStat port 19 1 1 else s
  | _ => s

/-- A functional or destructive injection (R467): the signal is corrupted once and the row's action follows. A corrupted record or verification
result waits for the next read or verification; a tamper input acts when it is enabled (log entry 108). -/
def State.injectFault (s : State) (code sel row : Nat) (next : Option Nat) (destructive : Bool) : State :=
  if code = 9 ∨ code = 10 then { s with rel := { s.rel with injections := s.rel.injections ++ [(code, sel)] } }
  else if code = 12 then
    if (s.tamperCfg (sel % 256)).testBit 0 then s.tamperAct (sel % 256) true else s
  else
    let s1 := (s.injectSignal code sel).countInjected code sel
    match injectTarget code sel row with
    | some u => s1.detectorActs code { target := u, det := code, injected := true, destructive := destructive, thenUnit := next }
    | none => s1

/-- A write of REL_INJ with GO = 1 and the class of the command. -/
def State.inject (s : State) (who : Who) (cls : Nat) (value : Word) (f : Nat → Nat → State → State) : State :=
  s.gated who .REL_INJ 0 fun s =>
    let w := putBits value 24 2 cls
    let s1 := s.store .REL_INJ 0 w
    let code := getBits w 16 5
    let sel := getBits w 0 11
    let r := s1.injectResult cls code sel
    let s2 := s1.setFld F.REL_INJ_RESULT 0 r
    if r = 0 then f code sel s2 else s2

/-- INJECT_REPORTING (R467): the event record with INJECTED, counted in REL_DETINJ; nothing else. -/
def injectReporting (who : Who) (value : Word) (s : State) : State :=
  s.inject who 1 value fun code sel s => s.countInjected code sel

/-- INJECT_FUNCTIONAL (R467). -/
def injectFunctional (who : Who) (value : Word) (row : Nat) (next : Option Nat) (s : State) : State :=
  s.inject who 2 value fun code sel s => s.injectFault code sel row next false

/-- INJECT_DESTRUCTIVE (R467): the self-test that follows fails on both runs. -/
def injectDestructive (who : Who) (value : Word) (row : Nat) (next : Option Nat) (s : State) : State :=
  s.inject who 3 value fun code sel s => s.injectFault code sel row next true

/-! ## Retirement (R472 to R474) -/

/-- Whether a retirement of `sel` has begun: done, or its record waits, or its unit drains for it. -/
def State.retiring (s : State) (sel : Nat) : Bool :=
  s.isRetired sel ||
  (s.bed.waiting.any fun w => match w.record.payload with
    | .retirement x _ _ => x == sel
    | _ => false) ||
  (decide (sel < 256) && match s.drain sel with
    | some d => d.why == .retire
    | none => false)

/-- Steps 1 and 2 of a retirement (R472): the forced disable, a stack with the loss of what only it held (R406), then the record. -/
def State.retireNow (s : State) (sel : Nat) : State :=
  if s.retiring sel then s
  else
    let s1 := if 140 ≤ sel ∧ sel < 144 ∧ s.stackServes (sel - 140) = true then s.loseStack (sel - 140) else s
    if sel < domCount ∧ s1.dom sel = .on then s1.forceUnit sel .retire
    else
      let s2 := if sel / 256 = 8 then s1.forcePort (24 + sel % 256) else s1
      s2.submit 5 sel 0 (.retirement sel (s2.unitRel sel).cause s2.now) 1

/-- Whether every unit of some kind of *Domain index* is retired (R474) (log entry 111). -/
def State.kindGone (s : State) : Bool :=
  (List.range domCount).any fun i => (domKind i).1 == i && (List.range (domKind i).2).all fun j => s.isRetired (i + j)

/-- Whether a domain of the range is not retired. -/
def State.someLeft (s : State) (first n : Nat) : Bool := (List.range n).any fun j => !s.isRetired (first + j)

/-- Whether the minimal service set is left (R477). -/
def State.minimalSet (s : State) : Bool :=
  s.someLeft 144 8 && s.someLeft 0 128 && s.someLeft 128 8 && s.someLeft 152 24 && (s.someLeft domPcie 1 || s.someLeft 185 8)

/-- Minimal service (R477): MINSET, native nodes ABSENT, no Guyline; with less than the minimal set, BELOW_MIN (log entry 111). -/
def State.enterMinimal (s : State) : State :=
  if s.minimalSet then
    let s1 := s.setFld F.REL_STAT_MINSET 0 1
    let gone : Node → Node := fun n => if n.state == NodeState.active then { n with state := .absent } else n
    let nodes := s1.mac.nodes.map fun p => (p.1, p.2.map gone)
    let s2 := { s1 with mac := { s1.mac with nodes := nodes } }
    if s2.glOn then (s2.setFld F.GL_CFG_EN 0 0).leaveNet else s2
  else s.setFld F.REL_STAT_BELOW_MIN 0 1

/-- A spare enters service for a retired engine (R392); with an empty pool SPARE_EMPTY and a LIMIT event (log entry 112). -/
def State.replaceEngine (s : State) : State :=
  match pickFrom s.spares (Config.freeNat s.free) with
  | some e => s.drew.enterService [e]
  | none => (s.setFld F.PIT_EVT_SPARE_EMPTY 0 1).event .limit pagePit []

/-- What a retirement does to the kind of unit it concerns (R391, R406, R473) (log entry 112). -/
def State.afterRetirement (s : State) (sel : Nat) : State :=
  if sel < 128 then if s.role sel = .inService then s.replaceEngine else s
  else if 140 ≤ sel ∧ sel < 144 then
    let n := sel - 140
    (if s.stack n = .off then s else s.loseStack n).refit true
  else if sel / 256 = 2 then
    let n := sel % 256 / 32
    let k := Tab.get (fun _ => 0) s.plc.pcRetired n + 1
    let s1 := { s with plc := { s.plc with pcRetired := Tab.set (fun _ => 0) s.plc.pcRetired n k } }
    if k = 8 then s1.retireNow (domMem n) else s1.refit true
  else s

/-- The record of a retirement has landed (R472 steps 3 and 4): RETIRED, the domain off, the event record, what the kind asks for. -/
def State.retireLanded (s : State) (sel : Nat) : State :=
  if s.isRetired sel then s
  else
    let s1 := { s with rel := { s.rel with retired := sel :: s.rel.retired,
                                           queue := s.rel.queue.filter fun t => testSel t.target != sel,
                                           held := s.rel.held.filter fun t => testSel t.target != sel } }
    let s2 := if sel < domCount ∧ s1.dom sel = .on ∧ s1.keptForNp sel = false then s1.powerOff sel false else s1
    let s3 := ((s2.noteLow.setFld F.REL_STAT_RETIRED_EV 0 1).unitEvent .unitRetired sel []).afterRetirement sel
    let s4 := if s3.fld F.REL_CMD_RESULT 0 = 3 ∧ s3.fld F.REL_UNITSEL_KIND 0 * 256 + s3.fld F.REL_UNITSEL_INSTANCE 0 = sel then
      s3.setFld F.REL_CMD_RESULT 0 0 else s3
    let s5 := if s4.kindGone then s4.setFld F.REL_STAT_BELOW_MIN 0 1 else s4
    let s6 := if s5.stacksLeft.isEmpty && !s5.minimal then s5.enterMinimal else s5
    s6.noteIrq1

/-- UNIT_RETIRE (R472): the retirement record that is programmed is committed, and the unit is retired. -/
def unitRetire (s : State) : State :=
  match s.programmed with
  | some w => match w.record.payload with
    | .retirement sel _ _ => (s.commit w).retireLanded sel
    | _ => s
  | none => s

/-! ## Self-tests (R469 to R471, R476, R479) -/

/-- The domain a test takes place in, where it has one. -/
def testDomain : TestUnit → Option Nat
  | .unit sel => if sel < domCount then some sel else none
  | .hbmRow pc _ => some (domMem (pc / 32))
  | .canRow b _ => some (domCan b)
  | .np n => some (portDom (24 + n))
  | .stop _ => none

/-- Whether a test drains its unit first (*Self-tests*): engines, FEC clusters, XF units, check units, CRY units (log entry 109). -/
def testDrains (i : Nat) : Bool := decide (i < 140) || decide (193 ≤ i ∧ i < domCount)

/-- The input a test takes out of service. -/
def testPort : TestUnit → Option Nat
  | .unit sel => if 152 ≤ sel ∧ sel < 176 then some (sel - 152) else none
  | .np n => some (24 + n)
  | _ => none

/-- Whether a queued test may start: its domain is on, the mode is not EMBER, no frame runs on its port, and where that is the only L port of its group
a beacon span has just ended (R344, R470, R476; log entry 109). -/
def State.testReady (s : State) (t : SelfTest) : Bool :=
  s.pwr.mode != .ember && s.pwr.mode != .off &&
  (match testDomain t.target with
   | some i => s.dom i == .on
   | none => true) &&
  (match testPort t.target with
   | some p => !s.onAir p && !s.calibrating p && (!s.onlyPort p || s.spanRoom (s.portFg p))
   | none => true)

/-- The reliability state of a test's unit. -/
def State.setTestState (s : State) (u : TestUnit) (x : UnitState) : State :=
  match u with
  | .unit sel => s.setUnitRel sel { s.unitRel sel with state := x }
  | _ => s

/-- What comes before a test: the drain, or the port out of service (*Self-tests*). -/
def State.prepareTest (s : State) (u : TestUnit) : State :=
  match testPort u, u with
  | some p, _ => (s.setPort p { s.port p with out := true }).setPa false (if p < 24 then [p] else [])
  | none, .unit i => if testDrains i && !(Tab.get (fun _ => false) s.units.out i) then s.beginDrain i .test else s
  | none, _ => s

/-- SELF_TEST_START (R469): the oldest queued test that may start does, while fewer than 8 run (log entry 109). -/
def selfTestStart (s : State) : State :=
  if 8 ≤ s.rel.running.length then s
  else match s.rel.queue.find? s.testReady with
    | none => s
    | some t =>
      let s1 := { s with rel := { s.rel with queue := s.rel.queue.erase t, running := s.rel.running ++ [t] } }
      (s1.setTestState t.target .underTest).prepareTest t.target

/-- TRANS24: the TRANSIENT outcomes of the last 24 h. -/
def State.trans24 (s : State) (u : UnitRel) : Nat := min 255 ((u.times.filter fun t => decide (s.cmp.sec < t + 86400)).length)

/-- A unit returned to service after a test; a drain the host asked for meanwhile starts (R476). -/
def State.endTest (s : State) (u : TestUnit) : State :=
  let s1 := match testPort u, u with
    | some p, _ => (if p < 24 then s.setOut (domLps p) false else s).setPort p { s.port p with out := false }
    | none, .unit i => if testDrains i then s.setOut i false else s
    | none, _ => s
  match u with
  | .unit i => if s1.units.hostDrain = some i ∧ s1.draining i = false then s1.beginDrain i .host else s1
  | _ => s1

/-- A TRANSIENT outcome (R470, R471): counted unless injected, FLAKY at TRANS_MAX, back to service; a link that passes hands on to the
unit behind it. -/
def State.testPassed (s : State) (t : SelfTest) : State :=
  let sel := testSel t.target
  let u := s.unitRel sel
  let s1 := s.unitEvent .transient sel [(4, t.det)]
  let times := s.cmp.sec :: u.times.filter fun x => decide (s.cmp.sec < x + 86400)
  let v : UnitRel := if t.injected then { u with state := .inUse, cause := t.det }
    else { state := .inUse, cause := t.det, trans := min 65535 (u.trans + 1), times := times }
  let s2 := s1.setUnitRel sel v
  let top := s.fld F.REL_CFG_TRANS_MAX 0
  let s3 := if top ≠ 0 ∧ s.trans24 u < top ∧ top ≤ s2.trans24 v then
    (s2.setFld F.REL_STAT_FLAKY 0 1).noteIrq1.unitEvent .limit sel [] else s2
  let s4 := s3.endTest t.target
  match t.thenUnit with
  | some n => s4.queueTest { target := .unit n, det := t.det, injected := t.injected, destructive := t.destructive }
  | none => s4

/-- A LASTING outcome (R472, R473): the unit is retired; a row is replaced by a spare row where one is left. -/
def State.testFailed (s : State) (t : SelfTest) (spareRow : Bool) : State :=
  let sel := testSel t.target
  let s1 := (s.unitEvent .lasting sel [(4, t.det)]).setUnitRel sel { s.unitRel sel with state := .inUse, cause := t.det }
  match t.target with
  | .hbmRow _ _ => if spareRow then s1 else s1.retireNow sel
  | .canRow _ _ => if spareRow then s1 else s1.retireNow sel
  | .unit _ => s1.retireNow sel
  | .np _ => s1.retireNow sel
  | .stop _ => s1

/-- Whether an excursion lasts or ended less than CLEAR_S seconds ago (R479). -/
def State.envHolds (s : State) : Bool :=
  s.rel.excursion || match s.rel.envSince with
    | some t => decide (s.cmp.sec < t + s.fld F.REL_CFG_CLEAR_S 0)
    | none => false

/-- SELF_TEST_DONE (R470): a running test, its unit drained where it drains first, ends; `lasting` says that runs A and B both failed,
`spareRow` that a spare row is left. -/
def selfTestDone (target : TestUnit) (lasting spareRow : Bool) (s : State) : State :=
  match s.rel.running.find? fun t => t.target == target with
  | none => s
  | some t =>
    let drains := match target with
      | .unit i => testDrains i && s.draining i
      | _ => false
    if drains then s
    else
      let s1 := { s with rel := { s.rel with running := s.rel.running.erase t } }
      let bad := if t.destructive then true else if t.injected then false else lasting
      if bad = false then s1.testPassed t
      else if s1.envHolds then
        { s1 with rel := { s1.rel with held := s1.rel.held ++ [t] } }.setTestState target .held
      else s1.testFailed t spareRow

/-- EXCURSION_RETEST (R479): the environment has stayed within specification for CLEAR_S seconds, and a held unit is tested again (log entry 110). -/
def excursionRetest (target : TestUnit) (s : State) : State :=
  match s.rel.held.find? fun t => t.target == target with
  | none => s
  | some t =>
    if s.envHolds = true ∨ 8 ≤ s.rel.running.length ∨ s.testReady t = false then s
    else
      let s1 := { s with rel := { s.rel with held := s.rel.held.erase t, running := s.rel.running ++ [t] } }
      s1.setTestState target .underTest

/-- Every running test ended without an outcome, as EMBER entry asks (R476). -/
def State.endTests (s : State) : List SelfTest → State
  | [] => s
  | t :: r =>
    let s1 := { s with rel := { s.rel with running := s.rel.running.erase t } }
    ((s1.setTestState t.target .inUse).endTest t.target).endTests r

/-! ## REL_CMD (R475) -/

/-- A write of REL_CMD with GO = 1 and an operation on the unit REL_UNITSEL selects. -/
def State.relCmd (s : State) (who : Who) (op : Nat) (f : Nat → State → State) : State :=
  s.gated who .REL_CMD 0 fun s =>
    let s1 := s.setFld F.REL_CMD_OP 0 op
    let sel := s1.fld F.REL_UNITSEL_KIND 0 * 256 + s1.fld F.REL_UNITSEL_INSTANCE 0
    if unitExists sel = false then s1.setFld F.REL_CMD_RESULT 0 1 else f sel s1

/-- REL_SELF_TEST (R475): OP 1 queues a self-test of the selected unit (log entry 113). -/
def relSelfTest (who : Who) (s : State) : State :=
  s.relCmd who 1 fun sel s =>
    if s.isRetired sel then s.setFld F.REL_CMD_RESULT 0 2
    else (s.queueTest { target := .unit sel, det := 0 }).setFld F.REL_CMD_RESULT 0 0

/-- REL_RETIRE (R475): OP 2 retires the selected unit through the drain rule (log entry 113). -/
def relRetire (who : Who) (s : State) : State :=
  s.relCmd who 2 fun sel s =>
    if s.isRetired sel = true ∨ (sel < domCount ∧ s.drainRefused sel = true) then s.setFld F.REL_CMD_RESULT 0 2
    else
      let s1 := s.setFld F.REL_CMD_RESULT 0 3
      if s1.retiring sel then s1
      else if sel < domCount ∧ s1.dom sel = .on then
        match s1.drain sel with
        | some d => s1.setDrain sel (some { d with why := .retire, restore := false })
        | none => s1.beginDrain sel .retire
      else s1.submit 5 sel 0 (.retirement sel 0 s1.now) 1

/-! ## Excursions (R478, R479) -/

/-- EXCURSION_START (R478): ENV reads 1, ENV_EV is set, an event record with status LIMIT (log entry 26). -/
def excursionStart (s : State) : State :=
  if s.rel.excursion then s
  else
    let s1 := { s with rel := { s.rel with excursion := true } }
    (((s1.setFld F.REL_STAT_ENV 0 1).setFld F.REL_STAT_ENV_EV 0 1).event .limit pageRel []).noteIrq1

/-- EXCURSION_END (R478): ENV reads 0 (log entry 26). -/
def excursionEnd (s : State) : State :=
  if s.rel.excursion then
    { s with rel := { s.rel with excursion := false, envSince := some s.cmp.sec } }.setFld F.REL_STAT_ENV 0 0
  else s

/-! ## Meanings -/

def execDetection (code : Nat) (sel : Nat) (target : Option TestUnit) (next : Option Nat) (s : State) : Host.Outcome State Fault Refusal :=
  .next (detection code sel target next s)

def execInjectReporting (who : Who) (value : Word) (s : State) : Host.Outcome State Fault Refusal :=
  .next (injectReporting who value s)

def execInjectFunctional (who : Who) (value : Word) (row : Nat) (next : Option Nat) (s : State) : Host.Outcome State Fault Refusal :=
  .next (injectFunctional who value row next s)

def execInjectDestructive (who : Who) (value : Word) (row : Nat) (next : Option Nat) (s : State) : Host.Outcome State Fault Refusal :=
  .next (injectDestructive who value row next s)

def execSelfTestStart (s : State) : Host.Outcome State Fault Refusal := .next (selfTestStart s)

def execSelfTestDone (target : TestUnit) (lasting : Bool) (spareRow : Bool) (s : State) : Host.Outcome State Fault Refusal :=
  .next (selfTestDone target lasting spareRow s)

def execUnitRetire (s : State) : Host.Outcome State Fault Refusal := .next (unitRetire s)

def execRelSelfTest (who : Who) (s : State) : Host.Outcome State Fault Refusal := .next (relSelfTest who s)

def execRelRetire (who : Who) (s : State) : Host.Outcome State Fault Refusal := .next (relRetire who s)

def execExcursionStart (s : State) : Host.Outcome State Fault Refusal := .next (excursionStart s)

def execExcursionEnd (s : State) : Host.Outcome State Fault Refusal := .next (excursionEnd s)

def execExcursionRetest (target : TestUnit) (s : State) : Host.Outcome State Fault Refusal :=
  .next (excursionRetest target s)

end Sys2Proof.Machine
end

