-- ==== Sys2Proof/Machine/Landing.lean ====
section
/-! DEFINITION. What a landed record brings about (R482), and a record that fails every check (R492). -/

namespace Sys2Proof.Machine

open Sys2Proof

/-! ## Landed records -/

/-- The larger of two tables of counts, entry by entry from index `i`. -/
def raiseTab (t : Tab Nat) (i : Nat) : List Nat → Tab Nat
  | [] => t
  | v :: r => raiseTab (Tab.set (fun _ => 0) t i (max (Tab.get (fun _ => 0) t i) v)) (i + 1) r

/-- The checkpoints of the nodes of a landed record raised (R259). -/
def State.raiseNodes (s : State) : List (Nat × Nat × Nat) → State
  | [] => s
  | (a, tx, rx) :: t =>
    (match s.node a with
     | none => s
     | some n =>
       let q := n.seq
       s.setNode a (some { n with seq := { q with ctx := max q.ctx tx, crx := max q.crx rx,
                                                  ckTx := q.ckTx && decide (tx ≤ q.ctx), ckRx := q.ckRx && decide (rx ≤ q.crx) } })).raiseNodes t

/-- The counters of a list of nodes looked at again (R259). -/
def State.ckNodes (s : State) : List (Nat × Nat × Nat) → State
  | [] => s
  | (a, _, _) :: t => (s.ckTx a).ckNodes t

/-- A sequence checkpoint landed (R259): every C rises to the record's value, and a counter already near its new limit starts the next one.
In EMBER, step 4 ends with the last waiting checkpoint (R485). -/
def State.checkpointLanded (s : State) (epoch bcast : Nat) (bnum guyline : List Nat) (nodes : List (Nat × Nat × Nat)) : State :=
  let m := s.mac
  let s1 := { s with mac := { m with epochC := epoch, bctrC := max m.bctrC bcast, bnumC := raiseTab m.bnumC 0 bnum, glC := raiseTab m.glC 0 guyline,
                                     ckBcast := m.ckBcast && decide (bcast ≤ m.bctrC), ckBnum := false, ckGl := false } }
  let s2 := ((s1.raiseNodes nodes).ckBcast).ckNodes nodes
  if s2.pwr.mode = .ember ∧ (s2.bed.waiting.any fun w => w.record.kind == 3) = false then
    { s2 with pwr := { s2.pwr with ember := { s2.pwr.ember with checkpoint := true } } }
  else s2

/-- Commands completed OK by a lifecycle record. -/
def State.payOwed (s : State) : List (Nat × Src) → State
  | [] => s
  | (_, src) :: t => (s.complete src .ok []).payOwed t

/-- A lifecycle record landed (R449): its contents are in force; the command that waited for it reports OK. -/
def State.lifecycleLanded (s : State) (rseq : Nat) (r : LcRec) : State :=
  let s1 := if s.sec.kek = r.kek then s else s.dropPsks
  let due := s1.sec.owes.filter fun o => o.1 == rseq
  let s2 := { s1 with sec := { s1.sec with lcRec := r, kek := r.kek, owes := s1.sec.owes.filter fun o => o.1 != rseq },
                      gl := { s1.gl with netKey := !r.net.isEmpty } }
  let s3 := if s2.sec.job = some (.record rseq) then
      { s2 with sec := { s2.sec with job := none } }.setFld F.SEC_CMD_RESULT 0 (Status.code .ok) else s2
  s3.payOwed due

/-- What a record brings about when its commit record lands, by kind; a compaction copy brings nothing about. -/
def State.landed (s : State) (r : JRec) : State :=
  if r.copy then s
  else match r.payload with
    | .registers _ => if s.fld F.BED_CMD_RESULT 0 = 1 then s.setFld F.BED_CMD_RESULT 0 0 else s
    | .baseline _ _ => s
    | .classes _ _ => s
    | .calibration set target refCnt cnt coefs => s.calLanded set target refCnt cnt coefs
    | .checkpoint epoch bcast bnum guyline nodes => s.checkpointLanded epoch bcast bnum guyline nodes
    | .ledger _ => s.ledgerLanded
    | .retirement sel _ _ => s.retireLanded sel
    | .lifecycle x => s.lifecycleLanded r.rseq x
    | .ownership state _ => s.ownershipLanded r.key state
    | .classState _ => s

/-- COMMIT_LANDED (R482): the commit record of the wholly programmed record lands, and its content exists. -/
def commitLanded (s : State) : State :=
  match s.programmed with
  | none => s
  | some w => (s.commit w).landed w.record

/-- LEDGER_BATCH_LANDED (R288): the landing of a ledger batch. -/
def ledgerBatchLanded (s : State) : State :=
  match s.programmed with
  | none => s
  | some w => if w.record.kind = 4 then (s.commit w).landed w.record else s

/-- CAL_COMMIT_LANDED (R342): the landing of a calibration set. -/
def calCommitLanded (s : State) : State :=
  match s.programmed with
  | none => s
  | some w => if w.record.kind = 2 then (s.commit w).landed w.record else s

/-! ## Records that fail their checks (R492) -/

/-- The newest committed record that satisfies a test, by RSEQ. -/
def newestOf (f : JRec → Bool) (rs : List JRec) : Option JRec :=
  rs.foldl (fun b r => if f r then (match b with
    | none => some r
    | some x => if x.rseq ≤ r.rseq then some r else some x) else b) none

/-- The checkpoints of counter groups as the readable records have them: broadcast, and (TX, RX) of a node. -/
def State.readableBcast (s : State) : Nat :=
  s.bed.records.foldl (fun m r => match r.payload with
    | .checkpoint _ b _ _ _ => max m b
    | _ => m) 0

def State.readableNode (s : State) (a : Nat) : Nat × Nat :=
  s.bed.records.foldl (fun m r => match r.payload with
    | .checkpoint _ _ _ _ ns => ns.foldl (fun m e => if e.1 = a then (max m.1 e.2.1, max m.2 e.2.2) else m) m
    | _ => m) (0, 0)

/-- The nodes of a lost checkpoint: their transmit counters resume at C + 2^17 and their session keys are discarded; a checkpoint that
covers the new value is started. -/
def State.loseNodes (s : State) : List (Nat × Nat × Nat) → State
  | [] => s
  | (a, _, _) :: t =>
    (match s.node a with
     | none => s
     | some n =>
       let c := (s.readableNode a).1
       let q := { n.seq with tx := c + 2 ^ 17, ctx := c + 2 ^ 16, ckTx := true }
       (s.setNode a (some { n with sess := none, seq := q })).checkpoint s.mac.bctrC s.bnumCs [(a, c + 2 ^ 17, q.crx)]).loseNodes t

/-- A lost sequence checkpoint: the counters of its prefix and of its nodes (log entry 117). -/
def State.loseCheckpoint (s : State) (bnum guyline : List Nat) (nodes : List (Nat × Nat × Nat)) : State :=
  let c := s.readableBcast
  let up := fun (l : List Nat) => l.map fun v => v + 2 ^ 16
  let s1 := { s with mac := { s.mac with bctr := c + 2 ^ 17, bctrC := c + 2 ^ 16,
                                         bnumC := raiseTab s.mac.bnumC 0 (up bnum), glC := raiseTab s.mac.glC 0 (up guyline) } }
  (s1.checkpoint (c + 2 ^ 17) s1.bnumCs []).loseNodes nodes

/-- A calibration target's coefficients replaced by an earlier record's; with none, the factory's. -/
def State.revertCal (s : State) (set target : Nat) : State :=
  let r := newestOf (fun x => match x.payload with
    | .calibration a b _ _ _ => a == set && b == target
    | _ => false) s.bed.records
  let v : Option CalSet := match r with
    | some x => match x.payload with
      | .calibration _ _ refCnt _ coefs => some { coefs := coefs, refCnt := refCnt }
      | _ => none
    | none => none
  let secs := Tab.set (fun _ => 0) s.cal.infoS (set * 32 + target) ((r.map fun x => x.t.s).getD 0)
  { s with cal := { s.cal with sets := Tab.set (fun _ => none) s.cal.sets (set * 32 + target) v, infoS := secs } }

/-- The lifecycle record in force replaced by the newest readable one. -/
def State.revertLc (s : State) : State :=
  let r := newestOf (fun x => x.kind == 6) s.bed.records
  let v : LcRec := match r with
    | some x => match x.payload with
      | .lifecycle y => y
      | _ => {}
    | none => {}
  { s with sec := { s.sec with lcRec := v, kek := v.kek }, gl := { s.gl with netKey := !v.net.isEmpty } }

/-- An ownership record of a global address lost: what the newest readable earlier one holds applies (R492). Without a pending record the incoming
handover is gone, without a released one the outgoing one has not landed (log entry 117). -/
def State.revertOwn (s : State) (g : Nat) : State :=
  let left := (newestOf (fun x => x.kind == 7 && x.key == g) s.bed.records).bind fun x => match x.payload with
    | .ownership st _ => some st
    | _ => none
  match s.localAddr g with
  | none => s
  | some a =>
    { s with mac := { s.mac with
        handIn := s.mac.handIn.filter fun h => h.saddr != a || !h.pending || left == some 1,
        handOut := s.mac.handOut.map fun h => if h.saddr = a ∧ left ≠ some 3 then { h with landed := false } else h } }

/-- RECORD_CHECK_FAIL (R492): the committed record of a number fails every check: detection 9, LOST, then what its kind asks for (log entry 117). -/
def recordCheckFail (rseq : Nat) (s : State) : State :=
  match s.bed.records.find? fun r => r.rseq == rseq with
  | none => s
  | some r =>
    let s1 := if s.injected 9 then (s.disarm 9).countInjected 9 0 else s.countDetectionAt 9 pageBed rseq
    let s2 := { s1 with bed := { s1.bed with records := s1.bed.records.filter fun x => x.rseq != rseq } }.markLive.setFld F.BED_STAT_LOST 0 1
    match r.payload with
    | .registers _ => s2
    | .baseline _ _ => s2
    | .classes _ _ => s2
    | .classState _ => s2
    | .ownership _ _ => s2.revertOwn r.key
    | .calibration set target _ _ _ => s2.revertCal set target
    | .checkpoint _ _ bnum guyline nodes => s2.loseCheckpoint bnum guyline nodes
    | .ledger _ =>
      let s3 := { s2 with bed := { s2.bed with heldRanges := s2.bed.heldRanges ++ [(r.key, r.key2)] } }
      s3.event .limit pageBed [(8, r.key), (8, r.key2)]
    | .retirement sel _ _ => { s2 with rel := { s2.rel with retired := s2.rel.retired.filter fun x => x != sel } }
    | .lifecycle _ => s2.revertLc

/-! ## Meanings -/

def execLedgerBatchLanded (s : State) : Host.Outcome State Fault Refusal := .next (ledgerBatchLanded s)

def execCalCommitLanded (s : State) : Host.Outcome State Fault Refusal := .next (calCommitLanded s)

def execCommitLanded (s : State) : Host.Outcome State Fault Refusal := .next (commitLanded s)

def execRecordCheckFail (rseq : Nat) (s : State) : Host.Outcome State Fault Refusal := .next (recordCheckFail rseq s)

end Sys2Proof.Machine
end

