-- ==== Sys2Proof/Machine/Power.lean ====
section
/-! DEFINITION. Power, modes and start-up (chapter 02): triggers, transitions, EMBER, the power cap, loss of supply, RST_n, recovery. -/

namespace Sys2Proof.Machine

open Sys2Proof

/-! ## Triggers and domain sets -/

/-- Whether an enabled EMBER trigger is present (R57). -/
def State.pfPresent (s : State) : Bool := s.flag F.PWR_EMBER_PF_EN 0 && !s.pins.pwrFailN
def State.vePresent (s : State) : Bool := s.flag F.PWR_EMBER_VE_EN 0 && decide (s.pins.vinMv < 100 * s.fld F.PWR_EMBER_VIN_EMBER 0)
def State.triggered (s : State) : Bool := s.pfPresent || s.vePresent

/-- Whether every enabled trigger is clear, with the margin of a return (*Mode transitions*). -/
def State.triggersClear (s : State) : Bool :=
  !s.pfPresent && (!s.flag F.PWR_EMBER_VE_EN 0 || decide (100 * s.fld F.PWR_EMBER_VIN_EMBER 0 + 200 ≤ s.pins.vinMv))

/-- The supply and PWR_FAIL_n as they stand. -/
def State.seeSupply (s : State) (vin : Nat) (pfHigh : Bool) : State := { s with pins := { s.pins with vinMv := vin, pwrFailN := pfHigh } }

/-- The switched domains a mode leaves off (*Operating modes*). -/
def offIn (m : Mode) : List Nat :=
  (List.range domCount).filter fun i => match m with
    | .rest => true
    | .watch => i != domGs && i != domLan
    | _ => false

/-- Whether any domain of a list is on. -/
def State.anyOn (s : State) (l : List Nat) : Bool := l.any fun i => s.dom i != .off

/-- The lowest-numbered Canteen bank that is not retired (R50). -/
def State.firstBank (s : State) : List Nat := (((List.range 8).map domCan).filter fun i => !s.isRetired i).take 1

/-- The domains of the set of R50; with BOOT_FAIL only PCIE (R66). -/
def State.serveSet (s : State) : List Nat := domPcie :: (if s.flag F.PWR_STAT_BOOT_FAIL 0 then [] else s.firstBank)

/-- `s` with the domains of a list switching on, retired ones apart. -/
def State.switchOn (s : State) : List Nat → State
  | [] => s
  | i :: t => (if s.isRetired i || s.dom i == .on then s else s.setDom i .switchingOn).switchOn t

/-- The second of R52 counted from now. -/
def State.noteWatch (s : State) : State := { s with pwr := { s.pwr with watchSince := s.cmp.sec } }

/-- A transition begun (R46) (log entry 123). -/
def State.beginMode (s : State) (m : Mode) (cause : Nat) : State :=
  { s with pwr := { s.pwr with trans := some { target := m, cause := cause } } }

/-- A transition down to REST or WATCH begun: every unit outside the target mode drains (R45). -/
def State.beginDown (s : State) (m : Mode) (cause : Nat) : State :=
  (s.beginMode m cause).drainsForMode ((offIn m).filter fun i => s.dom i == .on)

/-- A transition up from REST or WATCH begun. -/
def State.beginUp (s : State) (m : Mode) (cause : Nat) : State :=
  (s.beginMode m cause).switchOn (if m = .watch then [domLan, domGs] else s.serveSet)

/-! ## Sequence rule at SERVE entry (R260) -/

/-- The sequence state of a node after a restart. -/
def restartSeq (now : Stamp) (q : SeqState) : SeqState :=
  { q with tx := q.ctx + 2 ^ 16, h := q.crx + 2 ^ 16 - 1, th := now, win := BitVec.allOnes 4096 }

/-- The beacon numbers of the groups at C + 2^16. -/
def State.restartBnum (s : State) : List Nat → State
  | [] => s
  | g :: t => (s.setReg .MAC_BNUM g (BitVec.ofNat 32 (Tab.get (fun _ => 0) s.mac.bnumC g + 2 ^ 16))).restartBnum t

/-- RESTART_SEQUENCE_RULE (R260): counters resume at C + 2^16, H at C + 2^16 − 1 with its window marked, EPOCH one up; a checkpoint keeps
them. -/
def State.restartRule (s : State) : State :=
  if s.mac.restart = false then s
  else
    let now := s.now
    let up : Node → Node := fun n => { n with seq := restartSeq now n.seq }
    let nodes := s.mac.nodes.map fun p => (p.1, p.2.map up)
    let lseq := (List.range 8).map fun l => (l, Tab.get (fun _ => 0) s.mac.glC l + 2 ^ 16)
    let s1 := { s with mac := { s.mac with nodes := nodes, bctr := s.mac.bctrC + 2 ^ 16, restart := false, epochC := (s.mac.epochC + 1) % 256 },
                       gl := { s.gl with lseq := lseq } }
    ((s1.setFld F.MAC_STAT_EPOCH 0 s1.mac.epochC).restartBnum (List.range 8)).checkpointAll

/-! ## Entering and leaving the working modes -/

/-- Every map gone, MAPRESET due in each group (R199, R244). -/
def State.resetMaps (s : State) : State :=
  let n := s.fld F.MAC_SLEEPCFG_MAPRESET_N 0
  { s with maps := { s.maps with ul := [], dl := [], tmids := [], suspended := false },
           mac := { s.mac with mapReset := if n = 0 then [] else (List.range 8).map fun g => (g, n) } }

/-- Evidence gone, remembered for the next SERVE entry (R299). -/
def State.dropEvidence (s : State) : State :=
  { s with fm := { s.fm with evid := [], evLost := s.fm.evLost || !s.fm.evid.isEmpty } }

/-- A time source lost with its link (R444). -/
def State.loseSources (s : State) : List Nat → State
  | [] => s
  | n :: t => (if s.qualified n then sourceLost n (Config.freeNat s.free) s.drew else s).loseSources t

/-- SERVE reached from REST or WATCH (R50, R144, R260, R299, *Keys and debug across mode transitions*) (log entry 124); the LAN and GS domains that
WATCH kept on stay on (log entry 168). -/
def State.enterServe (s : State) : State :=
  let s0 := { s with pwr := { s.pwr with coreOn := true, mode := .serve, perst := false } }
  let s1 := s0.powerAll s0.serveSet
  let s2 := { s1.drew with sec := { s1.sec with swk := some (Config.freeNat s1.free) }, hst := { s1.hst with ready := false } }
  let s3 := (s2.emptyRings []).resetMaps.restartRule
  let s4 := if s3.fm.evLost then { s3.setFld F.MDM_FMSTAT_EV_LOST 0 1 with fm := { s3.fm with evLost := false } } else s3
  if s4.glOn && !s4.minimal then s4.beginJoin else s4

/-- MUTE set on the ports that may wake the module (R516). -/
def State.muteWake (s : State) : List Nat → State
  | [] => s
  | n :: t => (if (s.fld F.PWR_WAKECFG_TP_EN 0).testBit n then s.setFld F.TP_ADDR_MUTE n 1 else s).muteWake t

/-- What every entry to REST or WATCH from a working mode leaves (R39, R144, R199, R259, R378, R444, R459). -/
def State.enterLow (s : State) (m : Mode) : State :=
  let s1 := ((s.checkpointAll.calAbandonAll).endTests s.rel.running).rollback
  let s2 := (s1.evictAll (List.range 16)).setLevel 0
  let s3 := (s2.dropSessions).dropPsks
  let s4 := { s3 with sec := { s3.sec with swk := none, caches := [] }, hst := { s3.hst with ready := false },
                      gl := { s3.gl with states := [], peers := [], routes := [], members := [], held := [], asked := none, retryAt := none,
                                         reqs := [], unacked := [], keys := [], nonces := [], exch := [], credits := [], queued := [] },
                      mac := { s3.mac with restart := true, gnext := 0, roll := none, beaconAt := [] },
                      maps := { s3.maps with recs := [], ul := [], dl := [], tmids := [], wanting := [], soundings := [] },
                      rx := {}, fab := {} }
  let s5 := (((s4.emptyRings []).resetMaps.dropEvidence).loseSources [1, 2, 4]).muteWake (List.range 8)
  { s5 with pwr := { s5.pwr with mode := m, coreOn := false } }.setGlState 0

/-! ## EMBER (R57 to R64) -/

/-- The first line port of each feeder group in a list. -/
def State.onePerGroup (s : State) (seen : List Nat) : List Nat → List Nat
  | [] => []
  | i :: t => if seen.contains (s.portFg (i - 152)) then s.onePerGroup seen t else i :: s.onePerGroup (s.portFg (i - 152) :: seen) t

/-- The domain of the outward link PWR_EMBER.LINK names. -/
def State.linkDomain (s : State) : List Nat :=
  match s.fld F.PWR_EMBER_LINK 0 with
  | 0 => [domEth 0]
  | 1 => [domEth 1]
  | 2 => (((List.range 4).map domGl).filter s.serves).take 1
  | _ => [domPcie]

/-- The EMBER set (*EMBER power budget*, R64): of the domains Pitch would keep, as many as the budget lets it (log entry 119). -/
def State.emberSet (s : State) (keep : List Nat) : List Nat :=
  let on := keep.filter fun i => s.dom i == .on && !s.isRetired i
  let some_ := fun lo n k => (on.filter fun i => decide (lo ≤ i) && decide (i < lo + n)).take k
  let mem := match s.pwr.stack with
    | some n => [domMem n]
    | none => some_ 144 8 2
  some_ 0 128 8 ++ some_ 128 8 1 ++ some_ 136 4 1 ++ mem ++ s.onePerGroup [] (some_ 152 24 24) ++ some_ domLan 1 1 ++ some_ domChk 1 1 ++
    some_ 194 4 1 ++ s.linkDomain.filter fun i => s.dom i == .on

/-- The drains of EMBER entry: units of the set keep on, every other that is on drains for EMBER (R58) (log entry 118). -/
def State.emberDrains (s : State) (set : List Nat) : List Nat → State
  | [] => s
  | i :: t =>
    let s1 := if s.dom i == .switchingOn then s.setDom i .off else s
    (if s1.dom i != .on then s1
     else if set.contains i then
       match s1.drain i with
       | some d => if d.why = .mode then s1.setDrain i none else s1
       | none => s1
     else match s1.drain i with
       | some d => if d.why = .retire ∨ d.why = .spare then s1 else s1.setDrain i (some { d with why := .ember, restore := false })
       | none => s1.beginDrain i .ember).emberDrains set t

/-- Guyline links that EMBER does not keep (R429). -/
def State.emberLinks (s : State) : List Nat → State
  | [] => s
  | l :: t => (if decide (2 ≤ s.link l ∧ s.link l ≤ 4) && !s.linkUsed l then s.linkLost l else s).emberLinks t

/-- The handovers of a list that had no release record yet given up (R278). -/
def State.abortHands (s : State) : List HandOut → State
  | [] => s
  | h :: t =>
    (if h.committed.isNone && !h.landed then (s.glControl h.target (.abort h.eui)).abortHand h .abandoned else s).abortHands t

/-- The pending associations of a list ended (R256). -/
def State.endAssocs (s : State) : List Nat → State
  | [] => s
  | a :: t => (s.endAssoc a).endAssocs t

/-- The outage report (R58 step 6): its event record, and on an Ethernet link its datagram (log entry 121). -/
def State.outageReport (s : State) (cause : Nat) : State :=
  let fields := [(2, s.moduleIndex), (2, s.pins.vinMv), (4, s.nodeAddrs.length), (4, s.pwr.ember.entry.s), (1, cause), (3, 0)]
  let s1 := s.eventAs 2 .ok pagePwr fields 0
  let link := s.fld F.PWR_EMBER_LINK 0
  if link < 2 ∧ s.dom (domEth link) = .on then
    let r : Rec := { event := true, status := .ok, id := 2, page := pagePwr, t := s.now, data := dataOf fields }
    { s1 with hst := { s1.hst with outbox := s1.hst.outbox ++ [{ port := link, typ := 2, record := some r }] } }
  else s1

/-- Whether EMBER keeps a reception (R153): its engine and an input of its feeder group stay in service. -/
def State.keptRecep (s : State) (set : List Nat) (r : Recep) : Bool :=
  set.contains r.eng && decide (r.fg < 8) && (s.ringsOf r.fg).any fun p => s.portOn p && set.contains (portDom p)

/-- The drains, the tasks, the debug level and the associations of EMBER entry (R58, R61, R256, R278, R378). -/
def State.emberUnits (s : State) (set : List Nat) : State :=
  let gone := s.endReceps .abandoned (s.rx.open_.filter fun r => !s.keptRecep set r)
  let s1 := ((gone.rollback.calAbandonAll).endTests s.rel.running).emberDrains set (List.range domCount)
  let s2 := (s1.endTasks (fun k => (s1.pack k).image.ember == false) (Status.code .abandoned) s1.prog.tasks).reap (List.range 16)
  let s3 := if 1 < s2.level then s2.setLevel 1 else s2
  let joining : Nat × Option Node → Bool := fun p => match p.2 with
    | some n => n.assoc.isSome
    | none => false
  ((s3.abortHands s3.mac.handOut).endAssocs ((s3.mac.nodes.filter joining).map Prod.fst)).emberLinks (List.range 8)

/-- The inputs whose narrow rings EMBER keeps. -/
def emberInputs (set : List Nat) : List Nat :=
  (List.range 32).filter fun p => set.contains (portDom p)

/-- What EMBER entry does to rings, evidence, maps and channel records (R144, R199, R299) (log entry 122). -/
def State.emberMemory (s : State) (set : List Nat) : State :=
  let s1 := (s.emptyRings (emberInputs set)).dropEvidence
  let lost : Nat × Option ChanRec → Bool := fun p => Config.lostPart s1.free (2 ^ 33 + p.1)
  let recs := s1.maps.recs.filter fun p => lost p == false
  { s1.drew with maps := { s1.maps with suspended := true, recs := recs } }

/-- The time sources whose link EMBER does not keep (R444). -/
def State.emberSources (s : State) (set : List Nat) : List Nat :=
  (if set.contains (domEth 0) then [] else [1]) ++ (if set.contains (domEth 1) then [] else [2]) ++
    (if s.fld F.PWR_EMBER_LINK 0 = 2 then [] else [4])

/-- EMBER_ENTRY (R58): the running transition ends where it stands, the voltage and the memory step fall, units outside the set drain, the
checkpoint is submitted, replacement, calibrations, tests, handovers and associations end, debug above D1 closes, the report leaves (log entry 118). -/
def State.enterEmber (s : State) (cause : Nat) (keep : List Nat) : State :=
  let set := s.emberSet keep
  let s1 := { s with pwr := { s.pwr with mode := .ember, trans := none, heldReq := none, vcoreMv := 700, perst := false,
                                         ember := { prev := s.pwr.mode, entry := s.now } },
                     plc := { s.plc with steps := [] } }
  let s2 := ((s1.setFld F.PWR_MODE_CAUSE 0 cause).setFld F.PWR_STAT_EMBER_IN 0 1).dropChallenge
  let s3 := (s2.emberUnits set).emberMemory set
  ((((s3.loseSources (s3.emberSources set)).refit false).checkpointAll).outageReport cause).noteIrq1

/-- A trigger of the given cause (R58, R63): EMBER entry from SERVE or SURGE, held on the way up, a return aborted, or only noted in REST and
WATCH. A mode request held in an aborted return waits on (log entry 167). -/
def State.trigger (s : State) (cause : Nat) (keep : List Nat) : State :=
  match s.pwr.mode with
  | .serve => s.enterEmber cause keep
  | .surge => s.enterEmber cause keep
  | .ember => match s.pwr.trans with
    | some t => if t.target = .rest then s else { s with pwr := { s.pwr with trans := none } }
    | none => s
  | .off => s
  | _ =>
    match s.pwr.trans with
    | some t =>
      if t.target = .serve then { s with pwr := { s.pwr with ember := { s.pwr.ember with held := some cause } } }
      else ((s.setFld F.PWR_STAT_PF 0 1).noteIrq1.event .ok pagePwr [(1, cause)])
    | none => ((s.setFld F.PWR_STAT_PF 0 1).noteIrq1.event .ok pagePwr [(1, cause)])

/-- PWR_FAIL_ASSERT (R57, R58): PWR_FAIL_n is low for 10 µs; `keep` are the units Pitch would keep on. -/
def pwrFailAssert (keep : List Nat) (s : State) : State :=
  let s1 := { s with pins := { s.pins with pwrFailN := false } }
  (if s1.pfPresent then s1.trigger 5 keep else s1).noteIrq1

/-- VIN_EMBER_CROSS (R57, R58): VIN has stood at `vin` mV, below VIN_EMBER, for 100 µs. -/
def vinEmberCross (vin : Nat) (keep : List Nat) (s : State) : State :=
  let s1 := { s with pins := { s.pins with vinMv := vin } }
  (if s1.vePresent then s1.trigger 6 keep else s1).noteIrq1

/-- EMBER_EXIT (R63): every enabled trigger has been clear for 100 ms, and the return to the previous mode begins. -/
def emberExit (vin : Nat) (pfHigh : Bool) (s : State) : State :=
  let s1 := s.seeSupply vin pfHigh
  if s1.pwr.mode = .ember ∧ s1.pwr.trans = none ∧ s1.triggersClear = true then s1.noteIrq1.beginMode s1.pwr.ember.prev 7
  else s1.noteIrq1

/-- EMBER_MAX_S_EXPIRE (R47): MAX_S seconds of EMBER have passed with AFTER = 1, and the module goes to REST. -/
def emberMaxSExpire (s : State) : State :=
  let top := s.fld F.PWR_EMBER_MAX_S 0
  if s.pwr.mode = .ember ∧ s.pwr.trans = none ∧ s.flag F.PWR_EMBER_AFTER 0 = true ∧ top ≠ 0 ∧ s.pwr.ember.entry.s + top ≤ s.cmp.sec % 2 ^ 32 then
    s.beginDown .rest 8
  else s

/-- Entry 0 of every resident pack of a list without the EMBER flag started again (R378) (log entry 120). -/
def State.resumePacks (s : State) : List Nat → State
  | [] => s
  | k :: t => (if (s.pack k).state == .resident && !(s.pack k).image.ember then s.startEntry k 0 else s).resumePacks t

/-- EMBER left for SERVE or SURGE; `power` are the domains Pitch switches on again. -/
def State.leaveEmber (s : State) (m : Mode) (power : List Nat) : State :=
  let s1 := ({ s with pwr := { s.pwr with mode := m } }.setFld F.PWR_STAT_EMBER_OUT 0 1).powerAll (domPcie :: power)
  ((s1.resetMaps.refit false).resumePacks (List.range 16)).noteIrq1

/-! ## Mode requests (R46, R47) -/

/-- Whether the host may go from the mode in force to `m`. -/
def State.reachable (s : State) (m : Mode) : Bool :=
  match s.pwr.mode, m with
  | .serve, .surge => true
  | .surge, .serve => true
  | .serve, .rest => true
  | .serve, .watch => true
  | .surge, .rest => true
  | .surge, .watch => true
  | .ember, .rest => s.flag F.PWR_EMBER_AFTER 0 && s.pwr.ember.checkpoint
  | _, _ => false

/-- A request judged with no transition running (R46, R47). -/
def State.judgeMode (s : State) (m : Mode) : State :=
  if s.triggered && !(m == .rest && s.reachable .rest && s.pwr.mode == .ember) then s.setFld F.PWR_STAT_REFUSED 0 1
  else if s.pwr.mode = m then s
  else if s.reachable m = false then s.setFld F.PWR_STAT_REFUSED 0 1
  else if m = .rest ∨ m = .watch then s.beginDown m 1
  else s.beginMode m 1

/-- A write of PWR_MODE with a request: held while a transition runs, judged otherwise. -/
def State.requestMode (s : State) (who : Who) (m : Mode) : State :=
  s.gated who .PWR_MODE 0 fun s =>
    (if s.pwr.trans.isSome then { s with pwr := { s.pwr with heldReq := some m } } else s.judgeMode m).noteIrq1

/-- MODE_REQ_SERVE (R46). -/
def modeReqServe (who : Who) (s : State) : State := s.requestMode who .serve

/-- MODE_REQ_SURGE (R46). -/
def modeReqSurge (who : Who) (s : State) : State := s.requestMode who .surge

/-- MODE_REQ_REST (R46, R47). -/
def modeReqRest (who : Who) (s : State) : State := s.requestMode who .rest

/-- MODE_REQ_WATCH (R46). -/
def modeReqWatch (who : Who) (s : State) : State := s.requestMode who .watch

/-- A rising edge of PERST_n acted on in REST or WATCH (R49, R50); with BOOT_FAIL whatever PWR_WAKECFG holds, and with every output inert
(R66). -/
def State.perstUp (s : State) : State :=
  if s.flag F.PWR_STAT_BOOT_FAIL 0 then s.beginUp .serve 2
  else if s.flag F.PWR_WAKECFG_PERST_EN 0 then
    let s1 := ({ s with pins := { s.pins with wakeOut := true } }.setFld F.PWR_STAT_WAKE_PERST 0 1).noteWatch
    s1.beginUp .serve 2
  else s

/-- The move of a wake with cause `c` to the mode of TARGET (R49). -/
def State.wakeMove (s : State) (c : Nat) : State :=
  match s.fld F.PWR_WAKECFG_TARGET 0, s.pwr.mode with
  | 1, .rest => s.beginUp .watch c
  | 2, _ => s.beginUp .serve c
  | _, _ => s

/-- What follows when a transition has completed: in SERVE or SURGE a trigger that is present (R40, R58), in REST or WATCH a rise of PERST_n
or a wake that came while it ran (R51, log entry 165), else the request that waits (R46). -/
def State.afterMode (s : State) (keep : List Nat) : State :=
  let s0 := { s with pwr := { s.pwr with perst := false, heldWake := none, heldReq := none, ember := { s.pwr.ember with held := none } } }
  if s.pwr.mode = .serve ∨ s.pwr.mode = .surge then
    if s.triggered then s0.enterEmber (s.pwr.ember.held.getD (if s.pfPresent then 5 else 6)) keep
    else match s.pwr.heldReq with
      | some r => s0.judgeMode r
      | none => s0
  else if s.pwr.perst then s0.perstUp
  else match s.pwr.heldWake, s.pwr.heldReq with
    | some c, _ => s0.wakeMove c
    | none, some r => s0.judgeMode r
    | none, none => s0

/-- The highest core voltage of a mode in mV (*Operating modes*). -/
def vcoreTop (m : Mode) : Nat := if m = .surge then 850 else if m = .serve then 800 else 700

/-- SERVE or SURGE reached from the other: the core voltage and the memory steps stay within the mode (*Operating modes*). -/
def State.setMode (s : State) (m : Mode) : State :=
  let floor := if m = .surge then 2 else 1
  { s with pwr := { s.pwr with mode := m, vcoreMv := min (vcoreTop m) s.pwr.vcoreMv },
           plc := { s.plc with steps := (s.plc.steps.map fun p => (p.1, min floor p.2)) } }

/-- MODE_TRANSITION_COMPLETE (R46): the running transition completes, once every unit outside a lower mode is off; `vin` and `pfHigh` are the
supply and PWR_FAIL_n then, `power` what Pitch switches on after EMBER, `keep` what it would keep should a held trigger start EMBER (log entries 123, 124). -/
def modeTransitionComplete (vin : Nat) (pfHigh : Bool) (power keep : List Nat) (s : State) : State :=
  match s.pwr.trans with
  | none => s
  | some t =>
    let down : Bool := t.target = .rest || t.target = .watch
    if down && s.anyOn ((offIn t.target).filter fun i => s.dom i != .switchingOn) then s
    else
      let s1 := (({ s with pwr := { s.pwr with trans := none } }.seeSupply vin pfHigh).setFld F.PWR_MODE_CAUSE 0 t.cause).dropChallenge
      let s2 := match s.pwr.mode, t.target with
        | .rest, .watch => { (s1.powerAll [domLan, domGs]) with pwr := { (s1.powerAll [domLan, domGs]).pwr with mode := .watch } }.noteWatch
        | .watch, .rest => { s1 with pwr := { s1.pwr with mode := .rest } }
        | .rest, .serve => s1.enterServe
        | .watch, .serve => s1.enterServe
        | .ember, .rest => (s1.enterLow .rest).setFld F.PWR_STAT_EMBER_OUT 0 1
        | .ember, m => if s1.triggered then s1 else s1.leaveEmber m power
        | _, .rest => s1.enterLow .rest
        | _, .watch => ((s1.enterLow .watch).powerAll [domLan, domGs]).noteWatch
        | _, m => s1.setMode m
      (if s2.pwr.mode = .ember then s2 else s2.afterMode keep).noteIrq1

/-- MODE_DRAIN_FORCED_DISABLE (R45): a unit has not reported DRAINED within 100 ms of a transition to REST or WATCH. -/
def modeDrainForcedDisable (unit : Nat) (s : State) : State :=
  match s.pwr.trans, s.drain unit with
  | some t, some _ => if (t.target = .rest ∨ t.target = .watch) ∧ (offIn t.target).contains unit = true then s.forceUnit unit .mode else s
  | _, _ => s

/-! ## Wakes (R49 to R52) -/

/-- PERST_N_RISE (R50, R51): a rising edge in REST or WATCH moves to SERVE; one during a transition to REST or WATCH takes place at its end,
and one during a start-up is seen as the level at its end. -/
def perstNRise (s : State) : State :=
  if s.pins.perstN then s
  else
    let s1 := { s with pins := { s.pins with perstN := true } }
    match s.pwr.mode with
    | .off => s1
    | m => match s.pwr.trans with
      | some t => { s1 with pwr := { s1.pwr with perst := t.target == .rest || t.target == .watch } }
      | none => if m = .rest ∧ s.pins.rstN = true ∨ m = .watch then s1.perstUp else s1

/-- Whether wake source `src` acts: an address match of TP_0 to TP_7, or 8, the Lantern in WATCH (R49, R270, R516). -/
def State.wakeEnabled (s : State) (src : Nat) : Bool :=
  if src < 8 then
    (s.fld F.PWR_WAKECFG_TP_EN 0).testBit src && tpMode (s.reg .TP_CFG src) == 1 && s.flag F.TP_CFG_SLOW src && s.flag F.TP_ADDR_MATCH_EN src && !(s.tport src).held
  else src == 8 && s.flag F.PWR_WAKECFG_LAN_EN 0 && s.pwr.mode == .watch && s.dom domLan == .on

/-- WAKE (R49): WAKE_OUT, the source's bit, and the move to the mode of TARGET, once a transition that runs has completed (log entry 165). -/
def wake (source : Nat) (s : State) : State :=
  if (s.pwr.mode = .rest ∨ s.pwr.mode = .watch) ∧ s.pins.rstN = true ∧ s.wakeEnabled source = true then
    let bit := if source < 8 then F.PWR_STAT_WAKE_TP else F.PWR_STAT_WAKE_LAN
    let cause := if source < 8 then 3 else 4
    let s1 := (({ s with pins := { s.pins with wakeOut := true } }.setFld bit 0 1).noteWatch).noteIrq1
    if s1.pwr.trans.isSome then { s1 with pwr := { s1.pwr with heldWake := some cause } } else s1.wakeMove cause
  else s

/-- WATCH_TIMEOUT (R52): WATCH_S seconds have passed in WATCH without a wake. -/
def watchTimeout (s : State) : State :=
  let n := s.fld F.PWR_WAKECFG_WATCH_S 0
  if s.pwr.mode = .watch ∧ s.pwr.trans = none ∧ n ≠ 0 ∧ s.pwr.watchSince + n ≤ s.cmp.sec then s.beginDown .rest 0xB else s

/-! ## PWR registers -/

/-- The stored form of PWR_CAP (R56). -/
def pwrCapForm (w : Word) : Word := putBits w 0 7 (clampNat 10 112 (getBits w 0 7))

/-- PWR_CAP_WRITE (R56): a cap below 76 W in SURGE starts the return to SERVE. -/
def pwrCapWrite (who : Who) (value : Word) (s : State) : State :=
  s.gated who .PWR_CAP 0 fun s =>
    let s1 := s.setReg .PWR_CAP 0 (pwrCapForm (plainWrite .PWR_CAP (s.reg .PWR_CAP 0) value))
    if s1.pwr.mode = .surge ∧ s1.pwr.trans = none ∧ s1.fld F.PWR_CAP_WATTS 0 < 76 then s1.beginMode .serve 0xA else s1

/-- PWR_STAT_CLEAR (R49): bits written 1 are cleared; WAKE_OUT is released when every wake bit is clear. -/
def pwrStatClear (who : Who) (value : Word) (s : State) : State :=
  s.gated who .PWR_STAT 0 fun s =>
    let s1 := s.store .PWR_STAT 0 value
    (if getBits (s1.reg .PWR_STAT 0) 0 3 = 0 then { s1 with pins := { s1.pins with wakeOut := false } } else s1).noteIrq1

/-- The power cap in force in W (R56, R465): in SERVE at most 75, 8 less for each core-rail phase missing below 14. -/
def State.capInForce (s : State) : Nat :=
  let phases := 16 - ((List.range 16).filter fun n => s.isRetired (0x400 + n)).length
  (if s.pwr.mode = .surge then s.fld F.PWR_CAP_WATTS 0 else min 75 (s.fld F.PWR_CAP_WATTS 0)) - 8 * (14 - phases)

/-- The first serving stack whose step may still be lowered. -/
def State.stackAbove (s : State) : Option Nat :=
  s.serving.find? fun n => decide (s.stepFloor n < s.step3 n)

/-- Whether a stack, a Canteen bank or an engine's local store holds a handle, or a stack is the EMBER stack. -/
def State.holdsHandles (s : State) (i : Nat) : Bool :=
  decide (140 ≤ i ∧ i < 144 ∧ s.pwr.stack = some (i - 140)) || s.prog.handles.any fun p => match p.2.place with
    | .store e => i == domEng e
    | .canteen b => i == domCan b
    | _ => decide (140 ≤ i ∧ i < 144) && Handle.needs (i - 140) p.2

/-- Domains without placed work among a list that may be switched off (R54), the host path apart; the slice of an enabled line or neutral
port stays on (R71). -/
def State.idleAmong (s : State) (l : List Nat) : List Nat :=
  l.filter fun i => i != domPcie && s.dom i == .on && !s.draining i && !s.workLeft i && !s.drainRefused i && !s.holdsHandles i &&
    !(decide (152 ≤ i) && decide (i < 176) && (s.portEn (i - 152) || ((i - 152) % 3 == 0 && s.portEn (24 + (i - 152) / 3))))

/-- POWER_CAP_CONTROL (R54, R55, R558): with `demand` (in 0.1 W) above the cap Pitch takes the next step of R54 that is left, one that is
under way coming to its end first; a step it lowers is that stack's ceiling until demand is within the cap (R401); `idle` are the domains without placed work it would switch off first; within the cap work is admitted again and Pitch sets the one core voltage to `vcore` mV in steps of 10 (log entry 125). -/
def powerCapControl (demand vcore : Nat) (idle : List Nat) (s : State) : State :=
  if s.pwr.mode ≠ .serve ∧ s.pwr.mode ≠ .surge then s
  else if demand ≤ 10 * s.capInForce then
    { s with plc := { s.plc with capSteps := [] }, pwr := { s.pwr with admits := true, vcoreMv := clampNat 700 (vcoreTop s.pwr.mode) (vcore / 10 * 10) } }
  else if 700 < s.pwr.vcoreMv then { s with pwr := { s.pwr with vcoreMv := s.pwr.vcoreMv - 10 } }
  else if (List.range 4).any fun n => s.stack n == .changing then s
  else match s.stackAbove with
    | some n =>
      let s1 := hbmStepChange n (s.step3 n - 1) s
      { s1 with plc := { s1.plc with capSteps := Tab.set (fun _ => 2) s1.plc.capSteps n (s.step3 n - 1) } }
    | none =>
      if (s.idleAmong idle).isEmpty = false then s.beginDrains .cap (s.idleAmong idle)
      else if (s.idleAmong (List.range domCount)).isEmpty = false then s.beginDrains .cap (s.idleAmong (List.range domCount))
      else if s.pwr.admits then { s with pwr := { s.pwr with admits := false } }
      else ((s.setFld F.PWR_STAT_CAP_SHORT 0 1).event .limit pagePwr []).noteIrq1

/-! ## Loss of supply and RST_n (R41, R67, R486) -/

/-- Whether a register keeps its value through RST_n: the blocks of the Groundsheet, journaled registers apart (log entry 115). -/
def keptAtRst (k : Nat) : Bool :=
  let r := Reg.ofIdx (k % 1024)
  [0x1, 0x2, 0x12, 0x16].contains (r.addr (k / 1024) / 0x100000) && !journaled.contains (r, k / 1024)

/-- Whether a register holds what landed calibrations left: counts and times (R343) (log entry 116). -/
def keptCal (k : Nat) : Bool := Reg.ofIdx (k % 1024) == .CAL_CNT || Reg.ofIdx (k % 1024) == .CAL_LAST_S

/-- A node after the loss of memory: what its landed records hold stands, its keys and runs are gone; a provisional one is gone (log entry 114). -/
def strippedNode (n : Node) : Option Node :=
  if n.state = .associating then none
  else some { n with state := if n.state = .handing then .active else n.state, sess := none, assoc := none, grants := [],
                     seq := { n.seq with ckTx := false, ckRx := false } }

/-- The MAC after the loss of memory: nodes, quarantine, counters, handovers whose records landed (log entry 114). -/
def strippedMac (m : Mac) : Mac :=
  let node : Nat × Option Node → Option (Nat × Option Node) := fun p => (p.2.bind strippedNode).map fun n => (p.1, some n)
  let bare : Nat × Option Bool → Nat × Option Bool := fun p => (p.1, p.2.map fun _ => false)
  { nodes := m.nodes.filterMap node, quar := m.quar, prov := m.prov.map bare,
    bctr := m.bctr, bctrC := m.bctrC, bnumC := m.bnumC, glC := m.glC, epochC := m.epochC, restart := true,
    handOut := m.handOut, handIn := m.handIn.filter fun h => h.pending }

/-- The journal after the loss of what was waiting: the open segment is sealed (*Recovery*). -/
def strippedBed (b : Bed) : Bed :=
  let closed : Nat × Seg → Nat × Seg := fun p => if p.2.state = .opened then (p.1, { p.2 with state := .closed })
    else if p.2.state = .erasing then (p.1, { erases := p.2.erases + 1 }) else p
  { records := b.records, rseq := 1 + b.records.foldl (fun m r => max m r.rseq) 0, segs := b.segs.map closed, heldRanges := b.heldRanges,
    lastSave := b.lastSave }

/-- What survives the loss of everything but flash, ferroelectric RAM, fuses and the outside world; with `ground` the Groundsheet keeps
power too (R67). A commit record write that has started completes before this (R486) (log entries 115, 116). -/
def State.stripped (s : State) (ground : Bool) : State :=
  let s0 := match s.cal.run with
    | some r => if r.accepted then s.setInForce r else s
    | none => s
  let held := if ground then s.hst.held ++ s.hst.raised else []
  let saved : Nat × Option Baseline → Bool := fun p => s.bed.records.any fun r => match r.payload with
    | .baseline q _ => q == p.1
    | _ => false
  { pins := { s.pins with clamped := true, wakeOut := false, ppsOut := false },
    regs := s.regs.filter fun p => keptCal p.1 || (ground && keptAtRst p.1),
    hst := { held := held.drop (held.length - 64) },
    cmp := if ground then s.cmp else { running := false, framSec := s.cmp.framSec },
    rel := { retired := s.rel.retired },
    bed := strippedBed s.bed,
    mac := strippedMac s.mac,
    ldg := { entries := s.ldg.entries, accepted := s.ldg.accepted, lseq := s.ldg.lseq, acc := s.ldg.acc, confirmed := s.ldg.confirmed,
             returned := s.ldg.returned },
    fm := { baselines := s.fm.baselines.filter saved,
            evLost := s.fm.evLost || !s.fm.evid.isEmpty },
    cal := { sets := s0.cal.sets, lastNs := s.cal.lastNs, infoS := s.cal.infoS },
    sec := { s.sec with kek := s.sec.lcRec.kek, swk := none, caches := [], challenge := none, unlock := none, job := none, owes := [], xfer := [] },
    pwr := { mode := .off },
    free := s.free, pending := s.pending }

/-- The commit record write that has started completes (R486). -/
def State.finishCommit (s : State) (started : Bool) : State := if started then commitLanded s else s

/-- LOW_SUPPLY_TRIP (R41): VIN falls to `vin` mV and the low-supply monitor, which trips between 2.60 and 2.68 V, has the module go to OFF. -/
def lowSupplyTrip (vin : Nat) (started : Bool) (s : State) : State :=
  if s.pwr.mode = .off ∨ 2680 < vin then s.seeSupply vin s.pins.pwrFailN
  else ((s.finishCommit started).seeSupply vin s.pins.pwrFailN).stripped false

/-- RST_N_ASSERT (R67): RST_n has been low for 10 µs; the Groundsheet keeps power, and the module waits for the release. -/
def rstNAssert (started : Bool) (s : State) : State :=
  if s.pwr.mode = .off then { s with pins := { s.pins with rstN := false } }
  else
    let s1 := ((s.finishCommit started).loseSources [1, 2, 4]).stripped true
    { s1 with pins := { s1.pins with rstN := false }, pwr := { mode := .rest } }

/-! ## Start-up (R65 to R67, R491, R554) -/

/-- Whether boot bank `n` passes R453; `sig` says whether its signature verifies (log entry 126). -/
def State.bankBoots (s : State) (n : Nat) (sig : Bool) : Bool :=
  sig && match Tab.get (fun n => if n = 0 then Bank.factory else Bank.empty) s.sec.banks n with
    | .empty => false
    | .factory => decide (s.rollbackOf 0 ≤ Config.factoryRollback 1)
    | .image rb _ _ => decide (s.rollbackOf 0 ≤ rb)

/-- Boot bank verification (R453, R66): the current bank, then the other; none when both fail. -/
def State.chooseBank (s : State) (sigA sigB : Bool) : State × Bool :=
  let sig := fun n => if n = 0 then sigA else sigB
  let first := if s.sec.bankB then 1 else 0
  if s.bankBoots first (sig first) then (s, true)
  else
    let s1 := s.imageFailed
    if s1.bankBoots (1 - first) (sig (1 - first)) then ({ s1 with sec := { s1.sec with bankB := !s1.sec.bankB } }, true)
    else (s1.imageFailed.setFld F.PWR_STAT_BOOT_FAIL 0 1, false)

/-- The journaled registers of an image restored (R554). -/
def State.restoreRegs (s : State) (pairs : List (Nat × Word)) : List (Reg × Nat) → State
  | [] => s
  | (r, i) :: t =>
    (match pairs.find? fun (p : Nat × Word) => p.1 == r.addr i with
     | some p => s.setReg r i (plainWrite r (r.reset i) p.2)
     | none => s).restoreRegs pairs t

/-- Roles of the engines at a start-up (R391): the pool is the highest-numbered ones not retired. -/
def State.startRoles (s : State) : State :=
  let left := (List.range 128).filter fun e => !s.isRetired e
  let pool := left.reverse.take s.poolTarget
  left.foldl (fun s e => s.setRole e (if pool.contains e then .spare else .inService)) s

/-- Pseudo-channels retired by stack, from the retirement records (R473). -/
def State.countPcs (s : State) : State :=
  let count := fun n => (s.rel.retired.filter fun x => x / 32 == 16 + n).length
  { s with plc := { s.plc with pcRetired := ((List.range 4).filter fun n => count n != 0).map fun n => (n, count n) } }

/-- A lifecycle record that lags the fuses: the zeroisation is completed before REST (R458). -/
def State.completeLc (s : State) : State :=
  if s.sec.fuse ≤ s.sec.lcRec.lc then s
  else
    let r : LcRec := if 3 ≤ s.sec.fuse then { lc := s.sec.fuse } else { s.sec.lcRec with lc := s.sec.fuse }
    { s with sec := { s.sec with lcRec := r, kek := r.kek } }.submitLc r

/-- Inputs that stand at their active level when SEC_TAMPCFG is restored (R462). -/
def State.tamperAtStart (s : State) : List Nat → State
  | [] => s
  | n :: t => (if s.tamperLive n then s.tamperAct n false else s).tamperAtStart t

/-- Handovers without a landed release given up at start-up, ABORT to be sent (R278). -/
def State.abortAtStart (s : State) : List HandOut → State
  | [] => s
  | h :: t => (if h.landed then s else (s.dropHandOut h).glControl h.target (.abort h.eui)).abortAtStart t

/-- What landed records hold put aside: with BOOT_FAIL no record is applied (R66). -/
def State.shelveAll (s : State) : State :=
  if s.sec.shelf.isSome then s
  else
    { s with
      sec := { s.sec with shelf := some { retired := s.rel.retired, mac := s.mac, ldg := s.ldg, cal := s.cal, fm := s.fm,
                                          calRegs := s.regs.filter fun p => keptCal p.1 } },
      rel := { s.rel with retired := [] }, mac := {}, ldg := {}, cal := {}, fm := {}, regs := s.regs.filter fun p => !keptCal p.1 }

/-- What was put aside in force again, before a verified boot pack runs recovery (R66). -/
def State.unshelve (s : State) : State :=
  match s.sec.shelf with
  | none => s
  | some x =>
    { s with sec := { s.sec with shelf := none }, rel := { s.rel with retired := x.retired }, mac := x.mac, ldg := x.ldg, cal := x.cal,
             fm := x.fm, regs := x.calRegs.foldl (fun r p => Tab.set regDefault r p.1 p.2) s.regs }

/-- BEDROLL_RECOVERY (R491): the newest committed records are applied. -/
def State.recover (s : State) : State :=
  let regs := match newestOf (fun r => match r.payload with
      | .registers _ => true
      | _ => false) s.bed.records with
    | some r => match r.payload with
      | .registers pairs => pairs
      | _ => []
    | none => []
  let classes := match newestOf (fun r => match r.payload with
      | .classes _ _ => true
      | _ => false) s.bed.records with
    | some r => match r.payload with
      | .classes set assigns => (set, assigns)
      | _ => ([], [])
    | none => ([], [])
  let s1 := { s.completeLc with plc := { s.completeLc.plc with classes := classes.1, assigns := classes.2 } }
  let s2 := ((s1.restoreRegs regs journaled).tamperAtStart (List.range 4)).countPcs.startRoles
  let s3 := (s2.abortAtStart s2.mac.handOut).setFld F.MAC_STAT_EPOCH 0 s2.mac.epochC
  let s4 := { s3 with gl := { s3.gl with netKey := !s3.sec.lcRec.net.isEmpty } }
  let s5 := if s4.kindGone then s4.setFld F.REL_STAT_BELOW_MIN 0 1 else s4
  if s5.stacksLeft.isEmpty then s5.enterMinimal else s5

/-- REST reached at the end of a start-up: with PERST_n high, R50 applies (step 8 of *Start-up sequence*). -/
def State.reachRest (s : State) (cause : Nat) : State :=
  let s1 := ({ s with pwr := { s.pwr with mode := .rest, perst := false } }).setFld F.PWR_MODE_CAUSE 0 cause
  (if s1.pins.perstN then s1.perstUp else s1).noteIrq1

/-- Steps 4 to 7 of *Start-up sequence*; `sigA` and `sigB` say whether the boot banks' signatures verify. -/
def State.startUp (s : State) (sigA sigB : Bool) (cause : Nat) : State :=
  let r := s.chooseBank sigA sigB
  (if r.2 then { r.1 with pins := { r.1.pins with clamped := false } }.unshelve.recover else r.1.shelveAll).reachRest cause

/-- VIN_START (R65): VIN rises to `vin` mV, the start monitor releases between 2.80 and 2.90 V (R41) and the module starts up to REST; Compass resumes at its stored second plus 1 (R432). -/
def vinStart (vin : Nat) (pfHigh sigA sigB : Bool) (s : State) : State :=
  if s.pwr.mode ≠ .off ∨ vin < 2800 then s.seeSupply vin pfHigh
  else
    let s1 := s.seeSupply vin pfHigh
    let s2 := { s1 with cmp := { running := true, sec := s1.cmp.framSec + 1, framSec := s1.cmp.framSec } }
    if s.pins.rstN then s2.startUp sigA sigB 0 else { s2 with pwr := { mode := .rest } }

/-- RST_N_RELEASE (R67): steps 4 to 7 of *Start-up sequence*. -/
def rstNRelease (sigA sigB : Bool) (s : State) : State :=
  if s.pins.rstN then s
  else
    let s1 := { s with pins := { s.pins with rstN := true } }
    if s.pwr.mode = .off then s1 else ((s1.setFld F.PWR_STAT_BOOT_FAIL 0 0)).startUp sigA sigB 9

/-! ## Meanings -/

def execVinStart (vin : Nat) (pfHigh : Bool) (sigA : Bool) (sigB : Bool) (s : State) : Host.Outcome State Fault Refusal :=
  .next (vinStart vin pfHigh sigA sigB s)

def execLowSupplyTrip (vin : Nat) (started : Bool) (s : State) : Host.Outcome State Fault Refusal :=
  .next (lowSupplyTrip vin started s)

def execRstNAssert (started : Bool) (s : State) : Host.Outcome State Fault Refusal := .next (rstNAssert started s)

def execRstNRelease (sigA : Bool) (sigB : Bool) (s : State) : Host.Outcome State Fault Refusal :=
  .next (rstNRelease sigA sigB s)

def execPerstNRise (s : State) : Host.Outcome State Fault Refusal := .next (perstNRise s)

def execWake (source : Nat) (s : State) : Host.Outcome State Fault Refusal := .next (wake source s)

def execWatchTimeout (s : State) : Host.Outcome State Fault Refusal := .next (watchTimeout s)

def execModeReqServe (who : Who) (s : State) : Host.Outcome State Fault Refusal := .next (modeReqServe who s)

def execModeReqSurge (who : Who) (s : State) : Host.Outcome State Fault Refusal := .next (modeReqSurge who s)

def execModeReqRest (who : Who) (s : State) : Host.Outcome State Fault Refusal := .next (modeReqRest who s)

def execModeReqWatch (who : Who) (s : State) : Host.Outcome State Fault Refusal := .next (modeReqWatch who s)

def execModeTransitionComplete (vin : Nat) (pfHigh : Bool) (power : List Nat) (keep : List Nat) (s : State) : Host.Outcome State Fault Refusal :=
  .next (modeTransitionComplete vin pfHigh power keep s)

def execModeDrainForcedDisable (unit : Nat) (s : State) : Host.Outcome State Fault Refusal :=
  .next (modeDrainForcedDisable unit s)

def execPwrCapWrite (who : Who) (value : Word) (s : State) : Host.Outcome State Fault Refusal :=
  .next (pwrCapWrite who value s)

def execPowerCapControl (demand : Nat) (vcore : Nat) (idle : List Nat) (s : State) : Host.Outcome State Fault Refusal :=
  .next (powerCapControl demand vcore idle s)

def execPwrStatClear (who : Who) (value : Word) (s : State) : Host.Outcome State Fault Refusal :=
  .next (pwrStatClear who value s)

def execPwrFailAssert (keep : List Nat) (s : State) : Host.Outcome State Fault Refusal := .next (pwrFailAssert keep s)

def execVinEmberCross (vin : Nat) (keep : List Nat) (s : State) : Host.Outcome State Fault Refusal :=
  .next (vinEmberCross vin keep s)

def execEmberExit (vin : Nat) (pfHigh : Bool) (s : State) : Host.Outcome State Fault Refusal :=
  .next (emberExit vin pfHigh s)

def execEmberMaxSExpire (s : State) : Host.Outcome State Fault Refusal := .next (emberMaxSExpire s)

end Sys2Proof.Machine
end

