-- ==== Sys2Proof/Machine/Security.lean ====
section
/-! DEFINITION. Security (chapter 17): the commands of the security controller, attestation, the debug level, tamper inputs, engine halt and
step, the host's key commands. -/

namespace Sys2Proof.Machine

open Sys2Proof

/-! ## SEC_XFER and SEC_CMD -/

/-- `n` bytes of the SEC_XFER window from `ofs` (log entry 2). -/
def State.xferBytes (s : State) (ofs : Nat) : Nat → List Byte
  | 0 => []
  | n + 1 => Tab.get (fun _ => 0) s.sec.xfer ofs :: s.xferBytes (ofs + 1) n

/-- Bytes put into the window from `ofs`. -/
def State.putXfer (s : State) (ofs : Nat) : List Byte → State
  | [] => s
  | b :: t => { s with sec := { s.sec with xfer := Tab.set (fun _ => 0) s.sec.xfer (ofs % 65536) b } }.putXfer (ofs + 1) t

/-- The body the host delivered: SEC_XFER_LEN bytes. -/
def State.body (s : State) : List Byte := s.xferBytes 0 (s.fld F.SEC_XFER_LEN_BYTES 0)

/-- A body written back, with its length. -/
def State.answer (s : State) (b : List Byte) : State := (s.putXfer 0 b).setFld F.SEC_XFER_LEN_BYTES 0 (min 65536 b.length)

/-- RESULT of the command in SEC_CMD. -/
def State.secResult (s : State) (st : Status) : State := s.setFld F.SEC_CMD_RESULT 0 st.code

/-- A command of SEC_CMD that changes the lifecycle record: it reports OK when the record has landed (R449). -/
def State.secRecord (s : State) (r : LcRec) : State :=
  let n := s.bed.rseq
  { s.submitLc r with sec := { s.sec with job := some (.record n) } }

/-- A write of SEC_CMD with GO = 1 and opcode `op`: refused with LIMIT while busy, with DENIED in EMBER (R451); with BOOT_FAIL only STAGE and
SWITCH are served (R464). -/
def State.secGo (s : State) (op : Nat) (f : State → State) : State :=
  s.gated .host .SEC_CMD 0 fun s =>
    let s1 := s.setFld F.SEC_CMD_OP 0 op
    if s1.sec.job.isSome then s1.secResult .limit
    else if s1.pwr.mode = .ember then s1.secResult .denied
    else if s1.flag F.PWR_STAT_BOOT_FAIL 0 = true ∧ op ≠ 8 ∧ op ≠ 9 then s1.secResult .denied
    else f s1

/-- A signed command (R450): the challenge is consumed; DEVID and CHALLENGE, then the signer and its slot, then the signature over a block
of the right opcode and length, then the lifecycle state. `permits` judges the signer and `allowed` the state, from PARAM (log entry 104). -/
def State.signed (s : State) (op : Nat) (permits allowed : List Byte → Nat → Bool) (f : List Byte → Nat → State → State) : State :=
  let b := s.body
  let at_ := fun ofs n => (b.drop ofs).take n
  let plen := leNat (at_ 2 2)
  let signer := leNat (at_ 4 1)
  let param := at_ 88 plen
  let s1 := s.dropChallenge
  let match_ := match s.sec.challenge with
    | none => false
    | some c => at_ 8 48 == Config.devId && at_ 56 32 == natLe 32 c.toNat
  let key := if signer = 0 then none else s.ownerKey (signer - 1)
  if match_ = false then s1.secResult .authFail
  else if permits param signer = false ∨ s.signerActive signer = false then s1.secResult .denied
  else if leNat (at_ 0 2) ≠ op ∨ b.length ≠ 88 + plen + 96 ∨ Config.verify key (b.take (88 + plen)) (b.drop (88 + plen)) = false then
    s1.secResult .authFail
  else if allowed param signer = false then s1.secResult .denied
  else f param signer s1

/-- Whether a signer is an owner slot. -/
def isOwner (signer : Nat) : Bool := decide (1 ≤ signer ∧ signer ≤ 4)

/-! ## Lifecycle (R458) -/

/-- The lifecycle fuses programmed up to `goal`: a programmed fuse stays (R458). -/
def State.burn (s : State) (goal : Nat) : State := { s with sec := { s.sec with fuse := max s.sec.fuse goal } }

/-- PROVISION: unsigned, in BLANK; N and N owner keys of 97 bytes fill slots 0 to N − 1. -/
def provision (s : State) : State :=
  s.secGo 0x01 fun s =>
    let b := s.body
    let n := leNat (b.take 1)
    if s.lifecycle ≠ 0 ∨ n = 0 ∨ 4 < n ∨ b.length ≠ 1 + 97 * n then s.secResult .denied
    else
      let keys := (List.range n).map fun i => (i, some (leNat ((b.drop (1 + 97 * i)).take 97)))
      let s1 := (s.burn 1).setLevel 0
      s1.secRecord { s1.lcNext with lc := 1, keys := keys }

/-- KEY_IMPORT (R452): the KEK is replaced; the network key and the pre-shared keys under the old one are discarded. -/
def keyImport (s : State) : State :=
  s.secGo 0x02 fun s =>
    s.signed 0x02 (fun _ signer => isOwner signer) (fun _ _ => s.lifecycle == 1 || s.lifecycle == 2) fun param _ s1 =>
      if param.length ≠ 145 then s1.secResult .authFail
      else match Config.importKek (s.sec.challenge.getD 0) param with
        | none => s1.secResult .authFail
        | some k => s1.secRecord { s1.lcNext with kek := some k, net := [] }

/-- Whether a signer may ask for a transition (*Lifecycle transitions*); one that does not exist is judged by the state. -/
def lcSigner (from_ goal signer : Nat) : Bool :=
  if from_ = 1 ∧ goal = 2 then isOwner signer
  else if (from_ = 1 ∨ from_ = 2) ∧ (goal = 3 ∨ goal = 4) then isOwner signer
  else if (from_ = 0 ∨ from_ = 3) ∧ goal = 4 then signer == 0
  else true

/-- Whether a transition exists. -/
def lcMoves (from_ goal : Nat) : Bool :=
  (from_ == 1 && goal == 2) || ((from_ == 1 || from_ == 2) && (goal == 3 || goal == 4)) || ((from_ == 0 || from_ == 3) && goal == 4)

/-- The slots of resident packs that satisfy a test. -/
def State.slotsWith (s : State) (f : PackImage → Bool) : List Nat :=
  (List.range 16).filter fun k => (s.pack k).state != .free && f (s.pack k).image

/-- A lifecycle transition (R458): the fuse, level D0, the keys zeroised, the packs the new state does not take unloaded, the record. In RETIRED
only the set of R50 stays powered. -/
def State.moveLc (s : State) (goal : Nat) : State :=
  let s1 := (s.burn goal).setLevel 0
  if goal < 3 then s1.secRecord { s1.lcNext with lc := goal }
  else
    let s2 := s1.zeroLinkKeys.zeroKek.rollback
    let s3 := s2.evictAll (s2.slotsWith fun i => goal == 4 || decide (8 ≤ i.cls))
    let s4 := if goal = 4 then
        s3.beginDrains .mode ((List.range domCount).filter fun i => s3.dom i == .on && !s3.serveSet.contains i)
      else s3
    s4.secRecord { lc := goal }

/-- LIFECYCLE: PARAM is the target state. -/
def lifecycle (s : State) : State :=
  s.secGo 0x03 fun s =>
    s.signed 0x03 (fun p signer => lcSigner s.lifecycle (leNat p) signer) (fun p _ => p.length == 1 && lcMoves s.lifecycle (leNat p))
      fun p _ s1 => s1.moveLc (leNat p)

/-! ## Debug level (R459 to R461) -/

/-- UNLOCK: PARAM is UNTIL; the level goes to D3. -/
def unlock (s : State) : State :=
  s.secGo 0x04 fun s =>
    s.signed 0x04 (fun _ signer => if s.lifecycle = 2 then isOwner signer else if s.lifecycle = 3 then signer == 0 else true)
      (fun p _ => p.length == 4 && (s.lifecycle == 2 || s.lifecycle == 3) && (s.pwr.mode == .serve || s.pwr.mode == .surge))
      fun p _ s1 =>
        let s2 := s1.setLevel 3
        ({ s2 with sec := { s2.sec with unlock := some (leNat p) } }.setFld F.DBG_LEVEL_UNLOCKED 0 1).secResult .ok

/-- UNLOCK_EXPIRE (R459): UNTIL has come; the level leaves D3 and the unlock is consumed (log entry 105). -/
def unlockExpire (s : State) : State :=
  match s.sec.unlock with
  | none => s
  | some u => if u ≤ s.now.s then s.setLevel (min (min 2 (s.fld F.DBG_LEVEL_REQ 0)) s.levelCap) else s

/-- DBG_LEVEL_WRITE (R459): a level above what lifecycle and mode permit is refused; any write consumes an unlock (log entry 128). -/
def dbgLevelWrite (value : Word) (s : State) : State :=
  s.gated .host .DBG_LEVEL 0 fun s =>
    let s1 := s.store .DBG_LEVEL 0 value
    let n := s1.fld F.DBG_LEVEL_REQ 0
    if s1.levelCap < n then
      let s2 := (s1.setFld F.DBG_LEVEL_REFUSED 0 1).event .denied pageDbg []
      if s2.sec.unlock.isSome then s2.setLevel s2.levelCap else s2
    else s1.setLevel n

/-- A write of DBG_ENGCTL with GO = 1 on the selected context: RESULT 2 below D2, 1 without a task, 3 for a sealed pack below D3. -/
def State.engCtl (s : State) (who : Who) (op : Nat) (f : State → Ctx → Ctx) : State :=
  s.gated who .DBG_ENGCTL 0 fun s =>
    let s1 := s.setFld F.DBG_ENGCTL_OP 0 op
    let k := 4 * s1.fld F.DBG_ENGSEL_ENG 0 + s1.fld F.DBG_ENGSEL_CTX 0
    let c := s1.ctx k
    if s1.level < 2 then s1.setFld F.DBG_ENGCTL_RESULT 0 2
    else match c.task.bind s1.task with
      | none => s1.setFld F.DBG_ENGCTL_RESULT 0 1
      | some t =>
        if (s1.pack t.slot).image.sealedImg = true ∧ s1.level < 3 then s1.setFld F.DBG_ENGCTL_RESULT 0 3
        else (s1.setCtx k (f s1 c)).setFld F.DBG_ENGCTL_RESULT 0 0

/-- DBG_HALT (R456, R461): the task of the selected context waits as at a migration point. -/
def dbgHalt (who : Who) (s : State) : State := s.engCtl who 1 fun s c => { c with halted := true, stepOne := false, haltAt := s.level }

/-- DBG_STEP: the task executes one instruction and halts again. -/
def dbgStep (who : Who) (s : State) : State :=
  s.engCtl who 2 fun s c => { c with halted := true, stepOne := true, haltAt := if c.halted then c.haltAt else s.level }

/-- DBG_RESUME. -/
def dbgResume (who : Who) (s : State) : State := s.engCtl who 3 fun _ c => { c with halted := false, stepOne := false, haltAt := 0 }

/-! ## Attestation (R457) -/

/-- What a boot bank is known by: ROLLBACK, VERSION, measurement. -/
def bankFacts : Bank → Nat × Nat × Nat
  | .empty => (0, 0, 0)
  | .factory => (Config.factoryRollback 1, Config.scVersion.toNat, (Config.factoryMeas 1).toNat)
  | .image rb v m => (rb, v, m.toNat)

/-- The running boot bank. -/
def State.runningBank (s : State) : Bank :=
  Tab.get (fun n => if n = 0 then Bank.factory else Bank.empty) s.sec.banks (if s.sec.bankB then 1 else 0)

/-- The code of a slot state (ENG_PACKINFO.STATE). -/
def slotCode : SlotState → Nat
  | .free => 0
  | .loading => 1
  | .resident => 2
  | .outgoing => 3
  | .incoming => 4
  | .unloading => 5

/-- One 64-byte entry (*Attestation entry*). -/
def attestEntry (slot state signer flags cls rollback version meas : Nat) : List Byte :=
  natLe 1 slot ++ natLe 1 state ++ natLe 1 signer ++ natLe 1 flags ++ natLe 2 cls ++ natLe 1 rollback ++ natLe 1 0 ++ natLe 4 version ++
    natLe 4 0 ++ natLe 48 meas

/-- The low byte of an image's header flags. -/
def imageFlags (i : PackImage) : Nat := (if i.sealedImg then 1 else 0) + (if i.replaceable then 2 else 0) + (if i.ember then 4 else 0)

/-- The entries: resident packs in slot order, the sealed firmware, the running boot pack. -/
def State.attestEntries (s : State) : List Byte :=
  let packs := (s.slotsWith fun _ => true).flatMap fun k =>
    let i := (s.pack k).image
    attestEntry k (slotCode (s.pack k).state) i.signer (imageFlags i) i.cls i.rollback i.version i.meas.toNat
  let boot := bankFacts s.runningBank
  packs ++ attestEntry 0xFE 2 0 0 0 (Config.factoryRollback 0) 0 (Config.factoryMeas 0).toNat ++ attestEntry 0xFF 2 0 0 0 boot.1 boot.2.1 boot.2.2

/-- A bit mask of the owner slots that satisfy a test. -/
def slotMask (f : Nat → Bool) : Nat := ((List.range 4).map fun n => if f n then 2 ^ n else 0).sum

/-- The code of a mode (*Operating modes*). -/
def Mode.code : Mode → Nat
  | .off => 0
  | .rest => 1
  | .watch => 2
  | .serve => 3
  | .surge => 4
  | .ember => 5

/-- The report up to its signature (*Attestation report*) (log entry 129). -/
def State.attestReport (s : State) (nonce : List Byte) : List Byte :=
  let entries := s.attestEntries
  let flags := (if s.sec.bankB then 1 else 0) + (if s.fld F.SEC_TAMPSTAT_LATCHED 0 = 0 then 0 else 2) + (if s.sec.kek.isSome then 4 else 0)
  natLe 4 0x53544154 ++ natLe 2 1 ++ natLe 1 s.lifecycle ++ natLe 1 s.level ++ natLe 1 (Mode.code s.pwr.mode) ++ natLe 1 (entries.length / 64) ++
    natLe 1 flags ++ natLe 1 (slotMask s.slotActive + 16 * slotMask s.slotRevoked) ++ natLe 4 (bankFacts s.runningBank).2.1 ++
    natLe 8 (s.now.s * 2 ^ 32 + s.now.ns) ++ Config.devId ++ nonce ++ (List.range 16).flatMap (fun c => natLe 1 (s.rollbackOf c)) ++ natLe 8 0 ++
    entries

/-- ATTEST: the report of the host's nonce replaces the body; in RETIRED it is not signed (log entry 129). -/
def attest (s : State) : State :=
  s.secGo 0x05 fun s =>
    let b := s.body
    if b.length ≠ 32 then s.secResult .denied
    else
      let r := s.attestReport b
      (s.answer (r ++ if s.lifecycle = 4 then natLe 96 0 else Config.sign r)).secResult .ok

/-- CHALLENGE (R450): a fresh random challenge. -/
def challenge (s : State) : State :=
  s.secGo 0x0A fun s => ({ s.drew with sec := { s.sec with challenge := some (Config.freeBits 256 s.free) } }).secResult .ok

/-- CERTS: the two certificates replace the body. -/
def certs (s : State) : State :=
  s.secGo 0x0B fun s => if s.lifecycle = 4 then s.secResult .denied else (s.answer Config.certs).secResult .ok

/-! ## Rollback, revocation, boot banks (R455, R463, R464) -/

/-- The highest ROLLBACK among resident packs and boot banks of a class. -/
def State.topRollback (s : State) (cls : Nat) : Nat :=
  let packs := (s.slotsWith fun i => i.cls == cls).foldl (fun m k => max m (s.pack k).image.rollback) 0
  let bank := fun n => (bankFacts (Tab.get (fun n => if n = 0 then Bank.factory else Bank.empty) s.sec.banks n)).1
  if cls = 0 then max packs (max (bank 0) (bank 1)) else packs

/-- ROLLBACK (R455): PARAM is CLASS and VALUE; the counter rises (log entry 127). -/
def rollback (s : State) : State :=
  s.secGo 0x06 fun s =>
    s.signed 0x06 (fun p signer => if leNat (p.take 1) < 8 then signer == 0 else isOwner signer) (fun p _ => p.length == 2 && s.lifecycle != 4)
      fun p _ s1 =>
        let cls := leNat (p.take 1)
        let v := leNat (p.drop 1)
        if 16 ≤ cls ∨ v ≤ s1.rollbackOf cls ∨ s1.topRollback cls < v then s1.secResult .denied
        else { s1 with sec := { s1.sec with rb := Tab.set (fun _ => 0) s1.sec.rb cls v } }.secRecord s1.lcNext

/-- REVOKE: PARAM is SLOT; a slot is revoked by another active one, never the last (log entry 127). -/
def revoke (s : State) : State :=
  s.secGo 0x07 fun s =>
    s.signed 0x07 (fun p signer => isOwner signer && leNat p + 1 != signer) (fun p _ => p.length == 1 && (s.lifecycle == 1 || s.lifecycle == 2))
      fun p _ s1 =>
        let n := leNat p
        if 4 ≤ n ∨ ((List.range 4).any fun m => m != n && s1.slotActive m) = false then s1.secResult .denied
        else
          let s2 := { s1 with sec := { s1.sec with revoked := Tab.set (fun _ => false) s1.sec.revoked n true } }
          s2.secRecord { s2.lcNext with keys := Tab.set (fun _ => none) s2.lcNext.keys n none }

/-- The inactive boot bank; bank A for the ROM loader. -/
def State.idleBank (s : State) : Nat := if s.flag F.PWR_STAT_BOOT_FAIL 0 then 0 else if s.sec.bankB then 0 else 1

/-- `s` with the inactive bank holding `b`. -/
def State.setBank (s : State) (b : Bank) (ok : Bool) : State :=
  { s with sec := { s.sec with banks := Tab.set (fun n => if n = 0 then Bank.factory else Bank.empty) s.sec.banks s.idleBank b, staged := ok } }

/-- STAGE (R463): OFFSET, TOTAL, data; the chunk that reaches TOTAL has the bank verified; `image` is what the bank then holds (log entry 130). -/
def stage (image : PackImage) (s : State) : State :=
  s.secGo 0x08 fun s =>
    let b := s.body
    let ofs := leNat (b.take 8)
    let total := leNat ((b.drop 8).take 8)
    if s.lifecycle = 4 ∨ b.length < 16 ∨ 2 ^ 25 < total ∨ total < ofs + (b.length - 16) then s.secResult .denied
    else if ofs + (b.length - 16) < total then (s.setBank .empty false).secResult .ok
    else if image.cls ≠ 0 then ((s.setBank .empty false).imageFailed).secResult .denied
    else match s.verifyImage image with
      | none => (s.setBank (.image image.rollback image.version image.meas) true).secResult .ok
      | some st => ((s.setBank .empty false).imageFailed).secResult st

/-- The controller restarted on the staged bank; with BOOT_FAIL start-up goes on from step 5 (R464) (log entry 132). -/
def State.switched (s : State) : State :=
  let s1 := { s with sec := { s.sec with bankB := s.idleBank == 1, staged := false } }.dropChallenge.secResult .ok
  if s.flag F.PWR_STAT_BOOT_FAIL 0 then
    let s2 := ({ s1 with pins := { s1.pins with clamped := false } }.setFld F.PWR_STAT_BOOT_FAIL 0 0).unshelve.recover
    { s2 with pwr := { s2.pwr with doms := [], coreOn := false, trans := none } }.reachRest 0
  else s1

/-- SWITCH (R463): a restart on the staged bank; `ready` says whether the new program reports ready within 50 ms (log entry 131). -/
def switch (ready : Bool) (s : State) : State :=
  s.secGo 0x09 fun s =>
    if s.lifecycle = 4 ∨ s.sec.staged = false then s.secResult .denied
    else if ready then s.switched
    else { s with sec := { s.sec with job := some .restart } }

/-- SWITCH_READY_TIMEOUT (R463): the controller restarts on the old bank; SWITCH ends with ABANDONED and the staged bank is marked empty (log entry 131). -/
def switchReadyTimeout (s : State) : State :=
  if s.sec.job = some .restart then
    ({ (s.setBank .empty false) with sec := { (s.setBank .empty false).sec with job := none } }.dropChallenge).secResult .abandoned
  else s

/-! ## Tamper inputs (R462) -/

/-- TAMPER_ACTIVATION: the inputs stand at `levels`, and input `input` has gone to its active level for 1 ms; it acts when it is enabled. -/
def tamperActivation (input levels : Nat) (s : State) : State :=
  if s.pwr.mode = .off ∨ 4 ≤ input then { s with pins := { s.pins with tamper := levels % 16 } }
  else
    let was := s.tamperLive input
    let s1 := { s with pins := { s.pins with tamper := levels % 16 } }
    if s1.tamperLive input && !was then s1.tamperAct input false else s1

/-! ## Keys of the host (R252, R417, R448) -/

/-- What a wrapped key of the host meets: DENIED without a KEK or in RETURNED, AUTH_FAIL when it does not unwrap. -/
def State.hostKey (s : State) (wrapped : List Byte) : Option Status :=
  match s.sec.kek with
  | none => some .denied
  | some k =>
    if s.lifecycle = 3 then some .denied
    else if wrapped.length ≠ 40 ∨ Config.unwrap k wrapped = none then some .authFail
    else none

/-- NODE_PROVISION: the wrapped pre-shared key of a node. -/
def nodeProvision (src : Src) (eui : Nat) (wrapped : List Byte) (s : State) : State :=
  if s.starts src 0x20 then
    let s1 := s.start src
    match s1.hostKey wrapped with
    | some st => s1.complete src st []
    | none =>
      if 65536 ≤ s1.mac.prov.length ∧ (Tab.get (fun _ => none) s1.mac.prov eui).isNone then s1.complete src .limit []
      else { s1 with mac := { s1.mac with prov := Tab.set (fun _ => none) s1.mac.prov eui (some true) } }.complete src .ok []
  else s

/-- NETKEY_SET: the wrapped Guyline network key; OK once the record that holds it has landed. -/
def netkeySet (src : Src) (wrapped : List Byte) (s : State) : State :=
  if s.starts src 0x22 then
    let s1 := s.start src
    match s1.hostKey wrapped with
    | some st => s1.complete src st []
    | none =>
      { s1.submitLc { s1.lcNext with net := wrapped } with sec := { s1.sec with owes := s1.sec.owes ++ [(s1.bed.rseq, src)] } }
  else s

/-! ## Meanings -/

def execProvision (s : State) : Host.Outcome State Fault Refusal := .next (provision s)

def execKeyImport (s : State) : Host.Outcome State Fault Refusal := .next (keyImport s)

def execLifecycle (s : State) : Host.Outcome State Fault Refusal := .next (lifecycle s)

def execUnlock (s : State) : Host.Outcome State Fault Refusal := .next (unlock s)

def execAttest (s : State) : Host.Outcome State Fault Refusal := .next (attest s)

def execRollback (s : State) : Host.Outcome State Fault Refusal := .next (rollback s)

def execRevoke (s : State) : Host.Outcome State Fault Refusal := .next (revoke s)

def execStage (image : PackImage) (s : State) : Host.Outcome State Fault Refusal := .next (stage image s)

def execSwitch (ready : Bool) (s : State) : Host.Outcome State Fault Refusal := .next (switch ready s)

def execSwitchReadyTimeout (s : State) : Host.Outcome State Fault Refusal := .next (switchReadyTimeout s)

def execChallenge (s : State) : Host.Outcome State Fault Refusal := .next (challenge s)

def execCerts (s : State) : Host.Outcome State Fault Refusal := .next (certs s)

def execUnlockExpire (s : State) : Host.Outcome State Fault Refusal := .next (unlockExpire s)

def execDbgLevelWrite (value : Word) (s : State) : Host.Outcome State Fault Refusal := .next (dbgLevelWrite value s)

def execTamperActivation (input : Nat) (levels : Nat) (s : State) : Host.Outcome State Fault Refusal :=
  .next (tamperActivation input levels s)

def execDbgHalt (who : Who) (s : State) : Host.Outcome State Fault Refusal := .next (dbgHalt who s)

def execDbgStep (who : Who) (s : State) : Host.Outcome State Fault Refusal := .next (dbgStep who s)

def execDbgResume (who : Who) (s : State) : Host.Outcome State Fault Refusal := .next (dbgResume who s)

def execNodeProvision (src : Src) (eui : Nat) (wrapped : List (BitVec 8)) (s : State) : Host.Outcome State Fault Refusal :=
  .next (nodeProvision src eui wrapped s)

def execNetkeySet (src : Src) (wrapped : List (BitVec 8)) (s : State) : Host.Outcome State Fault Refusal :=
  .next (netkeySet src wrapped s)

end Sys2Proof.Machine
end

