-- ==== Sys2Proof/Machine/RegRead.lean ====
section
/-! DEFINITION. What a register reads as: the fields that report the machine composed from the state, the others as stored; which register
lies at an offset; reads that latch or clear (R6 to R8, R33). -/

namespace Sys2Proof.Machine

open Sys2Proof

/-! ## Offsets -/

/-- The instance of register `r` at offset `a`, where one lies there. -/
def Reg.instanceAt (r : Reg) (a : Nat) : Option Nat :=
  match r with
  | .GS_COEF =>
    let o := a - r.base
    if r.base ≤ a ∧ o / 0x100 < 4 ∧ o % 0x100 % 4 = 0 ∧ o % 0x100 / 4 < 18 then some (18 * (o / 0x100) + o % 0x100 / 4) else none
  | r =>
    if a = r.base then some 0
    else if r.base < a ∧ r.stride ≠ 0 ∧ (a - r.base) % r.stride = 0 ∧ (a - r.base) / r.stride < r.count then
      some ((a - r.base) / r.stride)
    else none

/-- The register at offset `a`; none in reserved space (R33). -/
def regAt (a : Nat) : Option (Reg × Nat) :=
  Reg.all.findSome? fun r => (Reg.instanceAt r a).map fun i => (r, i)

/-- Whether a register block lies at a page (*BAR0 block map*). -/
def pageUsed (page : Nat) : Bool :=
  [0x0000, 0x0100, 0x0200, 0x0300, 0x0500, 0x0600, 0x0601, 0x0C00, 0x0C01, 0x0E00, 0x0F00, 0x1100, 0x1101, 0x1200, 0x1300, 0x1400,
    0x1410, 0x1420, 0x1500, 0x1501, 0x1600, 0x1700, 0x1800].contains page ||
  decide (0x0210 ≤ page ∧ page < 0x0220) || decide (0x0400 ≤ page ∧ page < 0x0480) || decide (0x0880 ≤ page ∧ page < 0x0888) ||
  (decide (0x0800 ≤ page ∧ page < 0x0880) && page % 4 == 0) || decide (0x0A00 ≤ page ∧ page < 0x0A07) ||
  decide (0x1000 ≤ page ∧ page < 0x1008)

/-! ## Bits -/

/-- 1 for true. -/
def bit (b : Bool) : Nat := if b then 1 else 0

/-- The sum of 2 ^ i over the numbers below `n` with `f i`. -/
def maskOver (n : Nat) (f : Nat → Bool) : Nat := ((List.range n).map fun i => if f i then 2 ^ i else 0).sum

/-- A word with fields put in, as (lowest bit, width, value). -/
def putAll (w : Word) : List (Nat × Nat × Nat) → Word
  | [] => w
  | (lo, width, v) :: t => putAll (putBits w lo width v) t

/-! ## SYS and PWR -/

/-- SYS_OWN for the page in SYS_OWN_SEL (R34, R39); for page 0x600, which four stacks share, it reports stack 0 (log entry 163). -/
def State.readOwn (s : State) : Word :=
  let page := s.fld F.SYS_OWN_SEL_PAGE 0
  if pageUsed page then
    let h := homeAt (page * 0x1000)
    let d := match h with
      | .dom i => (s.draining i, s.isRetired i, s.dom i != DomState.off)
      | .np n => (s.draining (portDom (24 + n)), s.isRetired (testSel (.np n)), s.dom (portDom (24 + n)) != DomState.off)
      | .ground => (false, false, true)
      | .core => (false, false, s.pwr.coreOn)
    putAll 0 [(0, 5, s.owner (unitPage (page * 0x1000))), (8, 1, bit d.2.2), (9, 1, bit d.2.1), (10, 1, bit d.1)]
  else 0x1F

/-- The greatest input power of a mode in 0.1 W (*Operating modes*): in SERVE and SURGE the cap, or once CAP_SHORT is set the mode's own
limit (R43, R55). -/
def State.modeLimit (s : State) (m : Mode) : Nat :=
  let top := fun w => if s.flag F.PWR_STAT_CAP_SHORT 0 then 10 * w else 10 * min w s.capInForce
  match m with
  | .off => 0
  | .rest => 1
  | .watch => 12
  | .serve => top 75
  | .surge => top 112
  | .ember => 60

/-- The greatest input power now: while EMBER entry still has units to switch off, the limit of the mode it came from (R59). -/
def State.pinLimit (s : State) : Nat :=
  let entering := s.units.drains.any fun p => match p.2 with
    | some d => d.why == .ember
    | none => false
  if s.pwr.mode = .ember ∧ entering = true then s.modeLimit s.pwr.ember.prev else s.modeLimit s.pwr.mode

/-- The code of a domain state (PWR_DOM.STATE). -/
def domCode : DomState → Nat
  | .off => 0
  | .switchingOn => 1
  | .on => 2
  | .switchingOff => 3

/-- PWR_DOM for the domain in PWR_DOM_SEL (R558). -/
def State.readDom (s : State) : Word :=
  let i := s.fld F.PWR_DOM_SEL_INDEX 0
  if i < domCount then putAll 0 [(16, 2, domCode (s.dom i)), (0, 10, if s.dom i = .off then 0 else s.pwr.vcoreMv)] else 0

/-- PWR_MODE: the mode, a transition, the request held (R46). -/
def State.readMode (s : State) : Word :=
  putAll (s.reg .PWR_MODE 0) [(0, 3, Mode.code s.pwr.mode), (8, 3, (s.pwr.heldReq.map Mode.code).getD 0), (11, 1, bit s.pwr.trans.isSome)]

/-! ## Lines and reception -/

/-- LP_STAT or NP_STAT of input `p`: STATE beside what is stored. -/
def State.readPort (s : State) (p : Nat) : Word :=
  let st := if s.portOn p then (if s.onAir p then 2 else 1)
    else if s.draining (portUnit p) = true ∧ (s.port p).out = false then 3 else 0
  putBits (s.portStat p) 0 2 st

/-- MDM_DETSTAT of group `g`. -/
def State.readDetstat (s : State) (g : Nat) : Word :=
  putAll (s.reg .MDM_DETSTAT g)
    [(0, 7, s.openIn g), (10, 11, (s.deferredOf g).length), (24, 3, (s.rx.rescans.filter fun r => r.running && r.fg == g).length)]

/-- MDM_MAPINFO for the address in MDM_MAPSEL. -/
def State.readMapinfo (s : State) : Word :=
  let a := s.fld F.MDM_MAPSEL_SADDR 0
  match s.recOf a with
  | none => 0
  | some (i, r) =>
    putAll 0 [(0, 15, i), (15, 1, 1), (16, 3, r.fg), (22, 4, ((s.ulForce a).map ToneMap.tmid).getD 0),
      (26, 4, ((s.dlMap a).map ToneMap.tmid).getD 0), (30, 1, bit r.pinned)]

/-! ## Medium access -/

/-- Nodes whose entry satisfies `f`. -/
def State.nodesWith (s : State) (f : Node → Bool) : Nat :=
  (s.mac.nodes.filter fun p => match p.2 with
    | none => false
    | some n => f n).length

/-- The code of a node state (MAC_NODEINFO.STATE). -/
def nodeCode : NodeState → Nat
  | .associating => 1
  | .active => 2
  | .absent => 3
  | .handing => 4
  | .standard => 6

/-- MAC_NODEINFO for the address in MAC_NODESEL. -/
def State.readNodeinfo (s : State) : Word :=
  let a := s.fld F.MAC_NODESEL_SADDR 0
  match s.node a with
  | some n => putAll 0 [(0, 3, nodeCode n.state), (5, 3, n.fg), (9, 1, bit (nodeRelay n)), (10, 1, bit (nodeSleepy n))]
  | none => if (Tab.get (fun _ => none) s.mac.quar a).isSome then 5 else 0

/-- The sequence state of the node in MAC_NODESEL; zero where there is none. -/
def State.selectedSeq (s : State) (f : SeqState → Nat) : Word :=
  match s.node (s.fld F.MAC_NODESEL_SADDR 0) with
  | none => 0
  | some n => BitVec.ofNat 32 (f n.seq)

/-! ## Calibration, engines, placement -/

/-- CAL_INFO (or, with `secs`, CAL_INFO_S) for the target in CAL_SEL (R337, R342). -/
def State.readCal (s : State) (secs : Bool) : Word :=
  let set := s.fld F.CAL_SEL_SET 0
  if set = 1 ∨ set = 2 then
    let k := set * 32 + s.fld F.CAL_SEL_TARGET 0
    if secs then BitVec.ofNat 32 (Tab.get (fun _ => 0) s.cal.infoS k)
    else match Tab.get (fun _ => none) s.cal.sets k with
    | none => 0x80000000
    | some x => BitVec.ofNat 32 (x.refCnt % 65536)
  else 0

/-- ENG_STAT of engine `e` (log entry 150). -/
def State.readEng (s : State) (e : Nat) : Word :=
  let st := if s.isRetired (domEng e) then 4 else if s.dom (domEng e) = .off then 0 else if s.draining (domEng e) then 2
    else if s.role e = .spare then 3 else 1
  putAll 0 [(0, 3, st), (4, 4, maskOver 4 fun c => (s.ctx (4 * e + c)).task.isSome), (8, 5, s.tagsHeld e), (16, 3, e / 16)]

/-- ENG_PACKINFO of the slot in ENG_PACKSEL. -/
def State.readPack (s : State) : Word :=
  let p := s.pack (s.fld F.ENG_PACKSEL_SLOT 0)
  if p.state = .free then 0
  else putAll 0 [(0, 16, p.image.cls), (16, 8, p.image.rollback), (25, 1, bit p.image.ember), (26, 1, bit p.image.replaceable),
    (27, 1, bit p.image.sealedImg), (28, 4, slotCode p.state)]

/-- PIT_STAT (R391). -/
def State.readPit (s : State) : Word :=
  putAll 0 [(0, 8, 128 - s.spares.length - s.engRetired), (8, 8, s.spares.length), (16, 8, s.engRetired),
    (24, 4, maskOver 4 s.stackServes), (28, 1, bit s.plc.shrunk), (29, 1, bit s.plc.repl.isSome)]

/-- MEM_STAT of stack `n` with a mean bandwidth in 0.1 GB/s. -/
def State.readMem (s : State) (n bw : Nat) : Word :=
  let st := if s.isRetired (domMem n) then 5 else if s.dom (domMem n) = .off then 0 else if s.draining (domMem n) then 4
    else match s.stack n with
      | .off => 0
      | .training => 1
      | .serving => 2
      | .changing => 3
  putAll 0 [(0, 3, st), (4, 2, s.step3 n), (8, 6, Tab.get (fun _ => 0) s.plc.pcRetired n), (16, 16, bw)]

/-! ## Guyline and Compass -/

/-- GL_LINK for the link in GL_LINKSEL (log entry 152). -/
def State.readLink (s : State) : Word :=
  let l := s.fld F.GL_LINKSEL_LINK 0
  putAll 0 [(0, 3, s.link l), (16, 10, ((s.peersOn l).head?.map GPeer.index).getD 0)]

/-- The code of a Compass state (CMP_STAT.STATE). -/
def cmpCode : CmpState → Nat
  | .freerun => 0
  | .acquiring => 1
  | .locked => 2
  | .holdover => 3

/-- CMP_STAT. -/
def State.readCmp (s : State) : Word :=
  putAll (s.reg .CMP_STAT 0) [(0, 2, cmpCode s.cmp.state), (3, 1, bit (s.cmp.hasParent && s.cmp.parentHold)), (4, 3, s.cmp.src),
    (8, 1, bit s.cmp.timeSet)]

/-! ## Security and debug -/

/-- SEC_STAT. -/
def State.readSec (s : State) : Word :=
  putAll 0 [(0, 3, s.lifecycle), (8, 2, s.level), (20, 4, slotMask s.slotActive), (24, 4, slotMask s.slotRevoked),
    (28, 1, bit s.sec.kek.isSome), (29, 1, bit s.sec.bankB), (30, 1, bit s.sec.staged), (31, 1, bit s.sec.job.isSome)]

/-- SEC_NONCE_k: four bytes of the challenge held (R450). -/
def State.readNonce (s : State) (k : Nat) : Word :=
  match s.sec.challenge with
  | none => 0
  | some c => BitVec.ofNat 32 (c.toNat / 2 ^ (32 * k))

/-- DBG_ENGPC: the next instruction of the selected context while halted (R461). -/
def State.readPc (s : State) : Word :=
  let c := s.ctx (4 * s.fld F.DBG_ENGSEL_ENG 0 + s.fld F.DBG_ENGSEL_CTX 0)
  if c.task.isSome && c.halted then BitVec.ofNat 32 c.pc else 0

/-! ## Reliability and Bedroll -/

/-- REL_UNIT for the unit in REL_UNITSEL. -/
def State.readUnit (s : State) : Word :=
  let sel := s.fld F.REL_UNITSEL_KIND 0 * 256 + s.fld F.REL_UNITSEL_INSTANCE 0
  if unitExists sel then
    let u := s.unitRel sel
    let st := if s.isRetired sel then 5 else match u.state with
      | .inUse => 1
      | .queued => 2
      | .underTest => 3
      | .held => 4
    putAll 0 [(0, 16, min 65535 u.trans), (16, 8, s.trans24 u), (24, 5, u.cause), (29, 3, st)]
  else 0

/-- BED_SEGS: segments free and bad. -/
def State.readSegs (s : State) : Word :=
  putAll 0 [(0, 14, s.segsFree), (16, 14, Config.bedBad + (s.bed.segs.filter fun p => p.2.state == .bad).length)]

/-- The highest erase count of a good segment (BED_WEAR). -/
def State.maxErases (s : State) : Nat :=
  s.bed.segs.foldl (fun m p => if p.2.state = .bad then m else max m p.2.erases) Config.bedWear

/-- KB per minute programmed over the last hour (BED_RATE, R487). -/
def State.bedRate (s : State) : Nat :=
  ((s.bed.rateLog.filter fun p => decide (s.cmp.sec < p.1 + 3600)).map Prod.snd).sum / 60

/-! ## The views -/

/-- What register `r` reads as in SYS, PWR, the lines, reception, maps and medium access. `x` stands for a quantity measured outside the
model (log entry 4). -/
def State.viewLines (s : State) (r : Reg) (i x : Nat) : Option Word :=
  match r with
  | .SYS_ID => some (putAll 0 [(0, 8, Config.stepping.toNat), (8, 8, bit Config.gradeSX), (16, 16, 0x4816)])
  | .SYS_TAG_FREE => some (putBits (s.reg r i) 0 13 s.tagsFree)
  | .SYS_OWN => some s.readOwn
  | .PWR_MODE => some s.readMode
  | .PWR_MEAS => some (putAll 0 [(0, 13, s.pins.vinMv), (16, 11, x % (s.pinLimit + 1))])
  | .PWR_STAT => some (putBits (s.reg r i) 31 1 (bit (!s.pins.pwrFailN)))
  | .PWR_DOM => some s.readDom
  | .LP_STAT => some (s.readPort i)
  | .NP_STAT => some (s.readPort (24 + i))
  | .LP_ZCPHASE => some (BitVec.ofNat 32 (x % 65536))
  | .MDM_DETSTAT => some (s.readDetstat i)
  | .MDM_RINGSTAT => some (putAll 0 [(0, 7, s.plc.wideDs), (16, 10, s.plc.narrowDs)])
  | .MDM_OLDEST_S => some (BitVec.ofNat 32 s.oldestSample.s)
  | .MDM_END_CNT =>
    some (BitVec.ofNat 32 (Tab.get (fun _ => 0) s.rx.ends
      (endKey (s.flag F.MDM_END_SEL_LATE 0) (s.fld F.MDM_END_SEL_FG 0) (s.fld F.MDM_END_SEL_CODE 0))))
  | .MDM_MAPSTAT => some (putAll 0 [(0, 15, s.recsUsed), (16, 15, s.pinned)])
  | .MDM_MAPINFO => some s.readMapinfo
  | .MAC_STAT => some (putBits (s.reg r i) 0 17 (s.nodesWith fun n => n.state == .absent))
  | .MAC_COUNT => some (BitVec.ofNat 32 (s.nodesWith isAssociated))
  | .MAC_NODEINFO => some s.readNodeinfo
  | .MAC_NODETX => some (s.selectedSeq SeqState.tx)
  | .MAC_NODERX => some (s.selectedSeq SeqState.h)
  | .MAC_LDGSTAT =>
    some (putAll 0 [(0, 20, s.ledgerHeld), (30, 1, bit (decide (524288 ≤ s.ledgerHeld))), (31, 1, bit s.ldg.batch.isSome)])
  | .MAC_LDG_ACC => some (BitVec.ofNat 32 s.ldg.acc)
  | .MAC_FBD => some (putBits (s.reg r i) 0 19 s.fbdFree)
  | .MDM_FMSTAT => some (putBits (s.reg r i) 0 13 s.fm.evid.length)
  | _ => none

/-- What register `r` reads as in the other blocks (log entries 4, 151). -/
def State.viewRest (s : State) (r : Reg) (i x : Nat) : Option Word :=
  match r with
  | .CAL_INFO => some (s.readCal false)
  | .CAL_INFO_S => some (s.readCal true)
  | .ENG_STAT => some (s.readEng i)
  | .ENG_PACKINFO => some s.readPack
  | .ENG_PACKVER => some (BitVec.ofNat 32 (s.pack (s.fld F.ENG_PACKSEL_SLOT 0)).image.version)
  | .ENG_SLOTS => some (putAll 0 [(0, 5, s.slotsUsed.length), (16, 5, 16 - s.slotsUsed.length)])
  | .PIT_STAT => some s.readPit
  | .PIT_MEMCOM => some (BitVec.ofNat 32 s.memCommitted)
  | .PIT_MEMRSV => some (BitVec.ofNat 32 s.plc.reserve)
  | .PIT_MEMFREE => some (BitVec.ofNat 32 (24576 * s.serving.length - s.plc.reserve - s.memCommitted))
  | .MEM_STAT => some (s.readMem i x)
  | .MEM_CAN =>
    some (putAll 0 [(0, 8, maskOver 8 fun n => s.dom (domCan n) == .on && !s.isRetired (domCan n)),
      (8, 8, maskOver 8 fun n => s.isRetired (domCan n))])
  | .GL_LINK => some s.readLink
  | .CMP_SHORT_S => some (BitVec.ofNat 32 s.cmp.sec)
  | .CMP_STAT => some s.readCmp
  | .CMP_OFFSET => some (offsetWord s.cmp.offsetNs)
  | .CMP_HOLDEST => some (BitVec.ofNat 32 s.holdest)
  | .CMP_ZCT_S => some (BitVec.ofNat 32 s.zctStamp.s)
  | .SEC_STAT => some s.readSec
  | .SEC_NONCE => some (s.readNonce i)
  | .SEC_RB => some (BitVec.ofNat 32 (s.rollbackOf (s.fld F.SEC_RBSEL_VALUE 0 % 16) % 256))
  | .SEC_TAMPSTAT => some (putBits (s.reg r i) 8 4 (slotMask s.tamperLive))
  | .SEC_SCVER => some (BitVec.ofNat 32 (bankFacts s.runningBank).2.1)
  | .DBG_ENGPC => some s.readPc
  | .REL_STAT => some (putAll (s.reg r i) [(8, 4, s.rel.running.length), (16, 8, s.rel.queue.length)])
  | .REL_DETCNT => some (BitVec.ofNat 32 (Tab.get (fun _ => 0) s.rel.detCnt (s.fld F.REL_DETSEL_DET 0)))
  | .REL_DETINJ => some (BitVec.ofNat 32 (Tab.get (fun _ => 0) s.rel.detInj (s.fld F.REL_DETSEL_DET 0)))
  | .REL_UNIT => some s.readUnit
  | .REL_TEMP => some (BitVec.ofNat 32 (x % 2 ^ 21))
  | .REL_RETCNT => some (BitVec.ofNat 32 s.rel.retired.length)
  | .BED_STAT =>
    some (putAll (s.reg r i) [(8, 8, min 255 s.bed.waiting.length), (30, 1, bit (!s.bed.heldRanges.isEmpty)),
      (31, 1, bit s.bed.victim.isSome)])
  | .BED_SEGS => some s.readSegs
  | .BED_WEAR => some (BitVec.ofNat 32 (s.maxErases % 2 ^ 20))
  | .BED_RATE => some (BitVec.ofNat 32 (s.bedRate % 65536))
  | .HST_STAT => some (putAll (s.reg r i) [(0, 1, bit s.hst.ready), (1, 1, bit (!s.hst.ready))])
  | .HST_QCFG => some (putBits (s.reg r i) 30 1 (bit (!((s.pair i).fetched.isEmpty && (s.pair i).running.isEmpty))))
  | .ETH_MAC_LO => some (BitVec.ofNat 32 (Config.ethMac i).toNat)
  | .ETH_MAC_HI => some (BitVec.ofNat 32 ((Config.ethMac i).toNat / 2 ^ 32))
  | .ETH_STAT => some (putAll 0 [(0, 1, bit (Tab.get (fun _ => {}) s.eth i).link), (1, 1, bit (s.qualified (1 + i)))])
  | .TP_RXD => some (match (s.tport i).rx with
    | [] => 0
    | e :: _ => BitVec.ofNat 32 (2 ^ 31 + e))
  | .TP_STAT => some (s.tpStat i)
  | .CHK_STATE_LO => some ((s.chkUnit i).run.setWidth 32)
  | .CHK_RESULT_LO => some ((s.chkResult i (s.chkUnit i).run).setWidth 32)
  | .CHK_STAT => some (putAll 0 [(0, 1, bit (s.chkBusy i)), (1, 1, bit (s.chkUnit i).scerr)])
  | _ => none

/-- The registers that report a quantity measured outside the model (log entry 135). -/
def measuredReg (r : Reg) : Bool := r == .PWR_MEAS || r == .LP_ZCPHASE || r == .MEM_STAT || r == .REL_TEMP

/-- What instance `i` of register `r` reads as. A write-only field reads 0, as stored (log entries 4, 21, 135). -/
def State.view (s : State) (r : Reg) (i : Nat) : Word :=
  let x := if measuredReg r then Config.freeNat s.free else 0
  match s.viewLines r i x with
  | some w => w
  | none => (s.viewRest r i x).getD (s.reg r i)

/-! ## Reads with an effect -/

/-- What a read of `r` does beside returning a value: registers latched, cleared or advanced. -/
def State.readEffect (s : State) (who : Who) (r : Reg) (i : Nat) : State :=
  match r with
  | .SYS_TAG_FREE => sysTagFreeRead who s
  | .LP_ISENSE => lpIsenseRead i (s.fld F.LP_ISENSE_NOW i) who s
  | .LP_ZCPHASE => lpZcphaseRead i (Config.freeNat s.free) who s
  | .MDM_OLDEST_S => mdmOldestSRead who s
  | .MAC_LDG_ACC => macLdgAccRead who s
  | .CAL_LAST_S => calLastSRead i who s
  | .CMP_SHORT_S => (s.setReg .CMP_NS 0 (BitVec.ofNat 32 s.cmp.ns)).setReg .CMP_SEC_HI 0 (BitVec.ofNat 32 (s.cmp.sec / 2 ^ 32))
  | .CMP_ZCT_S => s.setReg .CMP_ZCT_NS 0 (BitVec.ofNat 32 s.zctStamp.ns)
  | .TP_RXD => tpRxdRead i who s
  | .CHK_STATE_LO => chkStateLoRead i who s
  | .CHK_RESULT_LO => chkResultLoRead i who s
  | _ => s

/-- A read of a readable register by a pack: its value, and the state after it. What the host last read stays. -/
def State.readReg (s : State) (who : Who) (r : Reg) (i : Nat) : State × Word :=
  let s1 := s.readEffect who r i
  let s2 := { s1 with hst := { s1.hst with readData := s.hst.readData } }
  (if measuredReg r then s2.drew else s2, s.view r i)

end Sys2Proof.Machine
end

