-- ==== Sys2Proof/Machine/Windows.lean ====
section
/-! DEFINITION. The BAR2 windows (R504). -/

namespace Sys2Proof.Machine

open Sys2Proof

/-! ## The endpoint (R493) -/

/-- What the PCI Express endpoint is: device identifier and class code, the rates in MT/s and the widths it trains at, the bytes of a payload and of a
read request, the non-posted requests it may have outstanding to the host, and the capabilities it has and has not. -/
structure Endpoint where
  deviceId : BitVec 16 := 0x4816
  classCode : BitVec 24 := 0x028000
  rates : List Nat := [2500, 5000, 8000, 16000]
  widths : List Nat := [4, 2, 1]
  maxPayload : Nat := 256
  maxReadRequest : Nat := 512
  outstanding : Nat := 32
  errorReporting : Bool := true
  aspmL1 : Bool := true
  aspmL0s : Bool := false
  sriov : Bool := false
  translation : Bool := false
  peerToPeer : Bool := false
  bars : List Nat := [0, 2, 4]
  deriving DecidableEq, Repr

/-- The endpoint of the module. -/
def endpoint : Endpoint := {}

/-- Bytes behind each memory BAR (R494): BAR0 64 MiB, BAR2 1 GiB; BAR4 holds nothing. -/
def barBytes (bar : Nat) : Nat := if bar = 0 then 0x4000000 else if bar = 2 then 0x40000000 else 0

/-- What a BAR that holds nothing reads: 0 (R493). -/
def emptyBarRead (_ofs : Nat) : DWord := 0

/-! ## Windows -/

/-- Where BAR2 offset `ofs` leads: the handle and the offset in it (R504). -/
def State.window (s : State) (ofs : Nat) : Option (Nat × Nat) :=
  let n := ofs / 0x4000000
  let c := (s.reg .HST_WINC n).toNat
  if 16 ≤ n ∨ c / 2 ^ 31 = 0 then none
  else some ((s.reg .HST_WINH n).toNat, c % 256 * 2 ^ 32 + (s.reg .HST_WINO n).toNat + ofs % 0x4000000)

/-- BAR2_ACCESS (R504): a read or a write of up to 8 bytes through a window; the PCI Express endpoint draws a tag
for it (R27; log entries 137, 162). -/
def bar2Access (ofs bytes : Nat) (data : Option DWord) (s : State) : State :=
  if s.hostPath = false then s
  else match s.window ofs with
    | none => if data.isNone then s.returns 0 else s
    | some (h, o) => match s.handle h with
      | none => if data.isNone then s.returns 0 else s
      | some x =>
        match data with
        | none =>
          if s.hostMayRead x && (o + bytes ≤ x.size) then
            (if s.openContents h then (s.touchTag 144).drew else s.touchTag 144).returns (BitVec.ofNat 64 (leNat (s.peek h o bytes)))
          else s.returns 0
        | some v => if s.hostMayWrite x && (o + bytes ≤ x.size) then (s.touchTag 144).setBytes h o (natLe bytes v.toNat) else s

/-! ## Meanings -/

def execBar2Access (ofs : Nat) (bytes : Nat) (data : Option DWord) (s : State) : Host.Outcome State Fault Refusal :=
  .next (bar2Access ofs bytes data s)

end Sys2Proof.Machine
end

