-- ==== Sys2Proof/Machine/RegWrite.lean ====
section
/-! DEFINITION. Register writes (R6 to R8, R33 to R39): the stored form of each register, the effect of those that act, and which command a
write stands for; datagrams of the head-end (R506). -/

namespace Sys2Proof.Machine

open Sys2Proof

/-! ## Stored forms -/

/-- A field of `width` bits from `lo` brought between two limits. -/
def clampField (w : Word) (lo width least most : Nat) : Word := putBits w lo width (clampNat least most (getBits w lo width))

/-- A field whose value `bad` is stored as `good`. -/
def mapField (w : Word) (lo width bad good : Nat) : Word := if getBits w lo width = bad then putBits w lo width good else w

/-- The priorities of CMP_SRCCFG: 5 to 7 are stored as 0. -/
def prioForm (w : Word) : List Nat → Word
  | [] => w
  | lo :: t => prioForm (if 4 < getBits w lo 3 then putBits w lo 3 0 else w) t

/-- The stored form of MEM_CFG. -/
def memCfgForm (w : Word) : Word :=
  let w1 := mapField (mapField w 8 8 0 1) 0 2 3 2
  if getBits w1 0 2 < getBits w1 4 2 then putBits w1 4 2 (getBits w1 0 2) else w1

/-- The stored form of a register in chapters 2 to 12: what a write of values that are not used stores (log entry 144). -/
def formLines (r : Reg) (w : Word) : Word :=
  match r with
  | .PWR_EMBER => clampField w 0 6 30 50
  | .PWR_WAKECFG => mapField w 16 2 3 0
  | .LP_TXCFG => clampField w 0 8 0 120
  | .LP_FBCFG => if getBits w 16 10 < getBits w 0 10 then putBits w 16 10 (getBits w 0 10) else w
  | .MDM_DETCFG => clampField w 0 4 0 12
  | .MDM_RESCAN => rescanForm w
  | .MDM_SNDCFG =>
    let w1 := mapField w 16 8 0 1
    if getBits w1 12 4 < 3 ∨ 5 < getBits w1 12 4 then putBits w1 12 4 4 else w1
  | .MAC_ACKCFG =>
    let w1 := if getBits w 0 4 < 2 then putBits w 0 4 2 else w
    if getBits w1 12 4 < getBits w1 8 4 ∨ 8 < getBits w1 12 4 then putBits w1 12 4 8 else w1
  | .MAC_CHKCFG => mapField w 0 8 0 1
  | .MAC_SLEEPCFG => mapField (mapField w 20 4 0 1) 16 4 0 1
  | .MAC_WAKEADDR => mapField w 0 16 0xFFFF 0
  | .MAC_LDGCFG => mapField (mapField w 16 16 0 1) 12 4 0 1
  | .MDM_FMCFG => mapField (mapField w 24 8 0 1) 14 2 3 2
  | .MDM_BALCFG => mapField (mapField w 24 8 0 1) 16 8 0 1
  | .GS_ARCFG => mapField w 0 8 0 1
  | .CAL_REFV => clampField w 0 23 1000000 4500000
  | _ => w

/-- The stored form of a register in the other chapters. -/
def formRest (r : Reg) (w : Word) : Word :=
  match r with
  | .PIT_MIGCFG => mapField w 0 8 0 1
  | .PIT_REPLCFG => replCfgForm w
  | .PIT_OWNCFG => mapField (mapField w 16 8 0 1) 8 4 0 1
  | .MEM_CFG => memCfgForm w
  | .GL_LATB => if getBits w 0 24 < 13 then putBits w 0 24 13 else w
  | .CMP_SRCCFG => prioForm (mapField (mapField w 24 8 0 1) 16 8 0 1) [0, 4, 8, 12]
  | .CMP_HOLD => mapField w 0 16 0 1
  | .CMP_PPSOUT => mapField w 0 8 0 1
  | .SEC_XFER_LEN => clampField w 0 17 0 65536
  | .SEC_TAMPCFG => mapField (mapField (mapField (mapField w 2 2 3 2) 6 2 3 2) 10 2 3 2) 14 2 3 2
  | .REL_CFG => mapField (mapField w 8 8 0 1) 0 8 0 1
  | .BED_CFG => clampField (clampField w 16 16 30 3650) 0 7 5 50
  | .TP_FLOW => tpFlowForm w
  | r => formLines r w

/-- A plain write in its stored form. -/
def State.storeForm (s : State) (r : Reg) (i : Nat) (v : Word) : State := s.setReg r i (formRest r (plainWrite r (s.reg r i) v))

/-! ## Registers that act (chapters 2 to 8) -/

/-- PWR_MODE (R46, R47): a request; modes 0 and 5, and codes that are not used, are refused, during a transition too, where the request that is held
stays (log entry 166). -/
def State.writeMode (s : State) (who : Who) (v : Word) : State :=
  match getBits v 8 3 with
  | 1 => modeReqRest who s
  | 2 => modeReqWatch who s
  | 3 => modeReqServe who s
  | 4 => modeReqSurge who s
  | _ => (s.setFld F.PWR_STAT_REFUSED 0 1).noteIrq1

/-- Inputs with WIDE_REC = 1 other than `p`. -/
def State.wideOthers (s : State) (p : Nat) : Nat := ((List.range 32).filter fun q => q != p && getBits (s.portRx q) 12 1 == 1).length

/-- LP_RXCFG or NP_RXCFG of input `p` (R77, R78): a ninth WIDE_REC is refused as in R68; with AGC = 0 GAIN holds the gain (log entry 146). -/
def State.writeRx (s : State) (p : Nat) (v : Word) : State :=
  let r := rxReg p
  let w := mapField (plainWrite r.1 (s.reg r.1 r.2) v) 1 3 7 6
  let ninth := getBits w 12 1 = 1 ∧ getBits (s.portRx p) 12 1 = 0 ∧ 8 ≤ s.wideOthers p
  let s1 := if ninth then (s.setReg r.1 r.2 (putBits w 12 1 0)).portEvent .denied p [] else s.setReg r.1 r.2 w
  if getBits w 0 1 = 0 ∧ s1.gain p ≠ getBits w 1 3 then s1.setGain p (getBits w 1 3) else s1

/-- MDM_BBCFG of port `p` (R204, R215): LINK moves only while the port is disabled, and a third port of a link is refused as in R68. -/
def State.writeBb (s : State) (p : Nat) (v : Word) : State :=
  let old := s.reg .MDM_BBCFG p
  let w := clampField (plainWrite .MDM_BBCFG old v) 8 4 0 12
  let moved := getBits w 4 2 ≠ getBits old 4 2
  let full := s.portRole p = 4 ∧ 2 ≤ ((s.linkPorts (getBits w 4 2)).filter fun q => q != p).length
  if moved ∧ (s.portEn p = true ∨ full) then (s.setReg .MDM_BBCFG p (putBits w 4 2 (getBits old 4 2))).portEvent .denied p []
  else s.setReg .MDM_BBCFG p w

/-- MDM_MAPCMD with GO (R183, R197); an operation that is not named does nothing. -/
def State.writeMapcmd (s : State) (who : Who) (v : Word) : State :=
  let op := getBits v 0 3
  if getBits v 31 1 = 0 then s.setFld F.MDM_MAPCMD_OP 0 op
  else match op with
    | 1 => mapPin who s
    | 2 => mapUnpin who s
    | 3 => mapRelease who s
    | 4 => mapRequestSounding who s
    | _ => s.setFld F.MDM_MAPCMD_OP 0 op

/-- MAC_SLEEPCFG (R266): a change of SCHED_PPM sends every schedule again. -/
def State.writeSleep (s : State) (v : Word) : State :=
  let s1 := s.storeForm .MAC_SLEEPCFG 0 v
  if s1.fld F.MAC_SLEEPCFG_SCHED_PPM 0 = s.fld F.MAC_SLEEPCFG_SCHED_PPM 0 then s1 else s1.resendSets (List.range 8) s1.mac.nodes

/-- Whether the wake tones of a word are accepted (R269) (log entry 142). -/
def State.tonesOk (s : State) (w : Word) : Bool :=
  let f0 := getBits w 0 11
  let f1 := getBits w 16 11
  f0 != f1 && ([f0, f1].all fun f => decide (100 ≤ f ∧ f ≤ 1500) &&
    (List.range 8).all fun g => match profileBand (bandOf (s.bandInForce g)).profile with
      | none => true
      | some b => decide (b.1 ≤ f ∧ f ≤ b.2))

/-- MAC_WAKECFG (R269): PORT 24 to 31 is stored as 0; a setting of the tones that is not accepted is refused. -/
def State.writeWake (s : State) (v : Word) : State :=
  let w := plainWrite .MAC_WAKECFG (s.reg .MAC_WAKECFG 0) v
  if s.tonesOk w then s.setReg .MAC_WAKECFG 0 (if 24 ≤ getBits w 27 5 then putBits w 27 5 0 else w)
  else s.event .denied pageMac []

/-- MAC_NODECMD with GO (R235, R245, R269). -/
def State.writeNodecmd (s : State) (who : Who) (v : Word) : State :=
  let op := getBits v 0 3
  if getBits v 31 1 = 0 then s.setFld F.MAC_NODECMD_OP 0 op
  else match op with
    | 1 => nodeRelease who s
    | 2 => nodeWake who s
    | 3 => nodeForceReassoc who s
    | 4 => groupKeyChange who s
    | _ => s.setFld F.MAC_NODECMD_OP 0 op

/-! ## Registers that act (chapters 10 to 16) -/

/-- MDM_FMCMD with GO (R299, R304, R306, R310). -/
def State.writeFmcmd (s : State) (who : Who) (v : Word) (e : WriteEnv) : State :=
  let op := getBits v 0 3
  if getBits v 31 1 = 0 then s.setFld F.MDM_FMCMD_OP 0 op
  else match op with
    | 1 => sweepNow who e.bins e.folded s
    | 2 => baselineTake who s
    | 3 => rangingSet who s
    | 4 => evidenceRelease who s
    | _ => s.setFld F.MDM_FMCMD_OP 0 op

/-- MDM_BALPT of point `n` (R311): PHASE 0 is refused with EN = 1. -/
def State.writeBalpt (s : State) (n : Nat) (v : Word) : State :=
  let w := plainWrite .MDM_BALPT (s.reg .MDM_BALPT n) v
  if getBits w 31 1 = 1 ∧ getBits w 4 2 = 0 then s.event .denied pageFm [(4, n)] else s.setReg .MDM_BALPT n w

/-- GS_CMD of a channel (R317, R330). -/
def State.writeGscmd (s : State) (n : Nat) (who : Who) (v : Word) : State :=
  let s1 := if getBits v 1 1 = 1 then lingo n who s else s
  if getBits v 0 1 = 1 then chargeReset n who s1 else s1

/-- CAL_CMD (R338). -/
def State.writeCal (s : State) (who : Who) (v : Word) : State :=
  if getBits v 31 1 = 1 then calGo who v s else s.store .CAL_CMD 0 v

/-- PIT_DRAIN (R396, R398, R399). -/
def State.writeDrain (s : State) (v : Word) : State :=
  if getBits v 31 1 = 0 then s.store .PIT_DRAIN 0 v
  else if getBits v 29 1 = 1 then pitRestore v s
  else if getBits v 30 1 = 1 then pitForcedDisable v s
  else pitDrain v s

/-- CMP_PPSOUT (R445): with EN = 0 PPS_OUT is held low. -/
def State.writePpsout (s : State) (v : Word) : State :=
  let s1 := s.storeForm .CMP_PPSOUT 0 v
  if s1.flag F.CMP_PPSOUT_EN 0 then s1 else { s1 with pins := { s1.pins with ppsOut := false } }

/-- CMP_SETHI (R435, R438): PPS and STEP. -/
def State.writeSethi (s : State) (who : Who) (v : Word) : State :=
  let s1 := if getBits v 31 1 = 1 then s.setStepBy who v else s.setFld F.CMP_SETHI_SEC_HI 0 (getBits v 0 16)
  if getBits v 30 1 = 1 then s1.setPpsBy who v else s1

/-- GL_EVT: LINK_DOWN stays set while an index has no route and frames were lost for it (R424). -/
def State.writeGlEvt (s : State) (v : Word) : State :=
  let s1 := s.store .GL_EVT 0 v
  if s.gl.lost.isEmpty then s1 else s1.setFld F.GL_EVT_LINK_DOWN 0 (s.fld F.GL_EVT_LINK_DOWN 0)

/-! ## Registers that act (chapters 17 to 22) -/

/-- SEC_CMD with GO: the command of its opcode; other values are refused with DENIED. -/
def State.writeSec (s : State) (v : Word) (e : WriteEnv) : State :=
  if getBits v 31 1 = 0 then s.store .SEC_CMD 0 v
  else match getBits v 0 8 with
    | 0x01 => provision s
    | 0x02 => keyImport s
    | 0x03 => Machine.lifecycle s
    | 0x04 => unlock s
    | 0x05 => attest s
    | 0x06 => Machine.rollback s
    | 0x07 => revoke s
    | 0x08 => stage e.image s
    | 0x09 => switch e.ready s
    | 0x0A => challenge s
    | 0x0B => certs s
    | op => s.secGo op fun s => s.secResult .denied

/-- DBG_TRACE: the trace buffer has a handle while EN = 1 (log entry 88). -/
def State.writeTrace (s : State) (v : Word) : State :=
  let s1 := s.store .DBG_TRACE 0 v
  let h := (s1.reg .DBG_TRACEH 0).toNat
  if getBits (s1.reg .DBG_TRACE 0) 0 1 = 1 then
    if h = 0 then
      let n := s1.prog.nextHandle
      ({ s1 with prog := { s1.prog with nextHandle := n + 1,
                                        handles := Tab.put s1.prog.handles n ({ size := Config.freeNat s1.free, hostRead := true } : Handle) } }).drew.setReg
        .DBG_TRACEH 0 (BitVec.ofNat 32 n)
    else s1
  else { s1 with prog := { s1.prog with handles := Tab.del s1.prog.handles h } }.setReg .DBG_TRACEH 0 0

/-- DBG_ENGCTL with GO (R456, R461). -/
def State.writeEngctl (s : State) (who : Who) (v : Word) : State :=
  let op := getBits v 0 3
  if getBits v 31 1 = 0 then s.setFld F.DBG_ENGCTL_OP 0 op
  else match op with
    | 1 => dbgHalt who s
    | 2 => dbgStep who s
    | 3 => dbgResume who s
    | _ => s.setFld F.DBG_ENGCTL_OP 0 op

/-- REL_INJ with GO (R467, R468); class 0 injects nothing. -/
def State.writeInj (s : State) (who : Who) (v : Word) (e : WriteEnv) : State :=
  if getBits v 31 1 = 0 then s.store .REL_INJ 0 v
  else match getBits v 24 2 with
    | 1 => injectReporting who v s
    | 2 => injectFunctional who v e.row e.next s
    | 3 => injectDestructive who v e.row e.next s
    | _ => s.store .REL_INJ 0 v

/-- REL_CMD with GO (R475). -/
def State.writeRel (s : State) (who : Who) (v : Word) : State :=
  let op := getBits v 0 3
  if getBits v 31 1 = 0 then s.setFld F.REL_CMD_OP 0 op
  else match op with
    | 1 => relSelfTest who s
    | 2 => relRetire who s
    | _ => s.setFld F.REL_CMD_OP 0 op

/-- BED_CMD with GO (R487, R492). -/
def State.writeBed (s : State) (who : Who) (v : Word) : State :=
  let op := getBits v 0 3
  if getBits v 31 1 = 0 then s.setFld F.BED_CMD_OP 0 op
  else match op with
    | 1 => s.bedSaveBy who v
    | 2 => s.bedResumeBy who v
    | _ => s.setFld F.BED_CMD_OP 0 op

/-- TP_CMD of a port (R512, R518, R519): the bits written 1 act from the lowest up. -/
def State.writeTpcmd (s : State) (n : Nat) (who : Who) (v : Word) : State :=
  let s1 := if getBits v 0 1 = 1 then tpTxflush n who s else s
  let s2 := if getBits v 1 1 = 1 then tpRxflush n who s1 else s1
  let s3 := if getBits v 2 1 = 1 then tpBreak n who s2 else s2
  if getBits v 3 1 = 1 then tpResume n who s3 else s3

/-- HST_QCFG of a pair (R497). -/
def State.writeQcfg (s : State) (q : Nat) (v : Word) : State :=
  if getBits v 31 1 = 1 then queueEnable q v s else queueDisable q v s

/-! ## A write -/

/-- The effect of an admitted write in PWR, the lines, reception, maps and medium access; none for a register that only stores. -/
def State.actLines (s : State) (who : Who) (r : Reg) (i : Nat) (v : Word) : Option State :=
  match r with
  | .PWR_MODE => some (s.writeMode who v)
  | .PWR_CAP => some (pwrCapWrite who v s)
  | .PWR_STAT => some (pwrStatClear who v s)
  | .LP_CFG => some (s.writePortCfg i who v)
  | .NP_CFG => some (s.writePortCfg (24 + i) who v)
  | .LP_RXCFG => some (s.writeRx i v)
  | .NP_RXCFG => some (s.writeRx (24 + i) v)
  | .LP_ZCCFG => some (zcOfsWrite i who v s)
  | .MDM_RINGCFG => some (ringDepthChange who v s)
  | .MDM_RESCAN => some (if getBits v 31 1 = 1 then mdmRescanGo who v s else s.storeForm .MDM_RESCAN 0 v)
  | .MDM_MAPCMD => some (s.writeMapcmd who v)
  | .MDM_BANDCFG => some (bandcfgWrite i who v s)
  | .MDM_BBCFG => some (s.writeBb i v)
  | .MDM_BBNOTCH => some (notchWrite i who v s)
  | .MAC_SLEEPCFG => some (s.writeSleep v)
  | .MAC_WAKECFG => some (s.writeWake v)
  | .MAC_NODECMD => some (s.writeNodecmd who v)
  | .MAC_BCNCFG => some (macBcncfgWrite i who v s)
  | _ => none

/-- The same in the feeder, grid, calibration, programs and Guyline. -/
def State.actGrid (s : State) (who : Who) (r : Reg) (i : Nat) (v : Word) (e : WriteEnv) : Option State :=
  match r with
  | .MDM_FMCMD => some (s.writeFmcmd who v e)
  | .MDM_BALPT => some (s.writeBalpt i v)
  | .GS_CFG => some (gsCfgWrite i who v s)
  | .GS_XPT => some (gsXptWrite i who v s)
  | .GS_CMD => some (s.writeGscmd i who v)
  | .GS_IEX => some (sourceWrite i who v s)
  | .GS_VEX => some (sourceWrite 2 who v s)
  | .GS_BIAS => some (sourceWrite 3 who v s)
  | .GS_RET => some (gsRetWrite who v s)
  | .CAL_CMD => some (s.writeCal who v)
  | .PIT_SPARECFG => some (spareTargetWrite v s)
  | .PIT_MEMRES => some (memoryReserveWrite v s)
  | .PIT_DRAIN => some (s.writeDrain v)
  | .PIT_REPLCFG => some (if getBits v 31 1 = 1 then replAbort v s else s.storeForm .PIT_REPLCFG 0 v)
  | .GL_CFG => some (s.writeGlCfg who v)
  | .GL_EVT => some (s.writeGlEvt v)
  | .CMP_SRCCFG => some ((s.storeForm .CMP_SRCCFG 0 v).follow e.offset)
  | .CMP_SETHI => some (s.writeSethi who v)
  | .CMP_PPSOUT => some (s.writePpsout v)
  | _ => none

/-- The same in security, reliability, Bedroll, the host's blocks, Trail and the check units. -/
def State.actRest (s : State) (who : Who) (r : Reg) (i : Nat) (v : Word) (e : WriteEnv) : Option State :=
  match r with
  | .SEC_CMD => some (s.writeSec v e)
  | .DBG_LEVEL => some (dbgLevelWrite v s)
  | .DBG_ENGCTL => some (s.writeEngctl who v)
  | .DBG_TRACE => some (s.writeTrace v)
  | .REL_INJ => some (s.writeInj who v e)
  | .REL_CMD => some (s.writeRel who v)
  | .BED_CMD => some (s.writeBed who v)
  | .HST_QCFG => some (s.writeQcfg i v)
  | .HST_SQT => some (sqDoorbell i v.toNat [] s)
  | .HST_CQH => some (cqHeadWrite i v.toNat s)
  | .HST_FBDRET => some (fbdretWrite v.toNat s)
  | .ETH_CFG => some (ethPortDisable i who v s)
  | .TP_CFG => some (s.writeTpCfg i who v)
  | .TP_BAUD => some (s.writeTpBaud i who v)
  | .TP_TXD => some (tpTxdWrite i who v s)
  | .TP_CMD => some (s.writeTpcmd i who v)
  | .CHK_CFG => some (s.chkWrite i who .cfg v false)
  | .CHK_POLY_LO => some (s.chkWrite i who .polyLo v false)
  | .CHK_POLY_HI => some (s.chkWrite i who .polyHi v false)
  | .CHK_INIT_LO => some (s.chkWrite i who .initLo v false)
  | .CHK_INIT_HI => some (s.chkWrite i who .initHi v false)
  | .CHK_XOR_LO => some (s.chkWrite i who .xorLo v false)
  | .CHK_XOR_HI => some (s.chkWrite i who .xorHi v false)
  | .CHK_STATE_LO => some (s.chkWrite i who .stateLo v false)
  | .CHK_STATE_HI => some (s.chkWrite i who .stateHi v false)
  | .CHK_DATA8 => some (s.chkWrite i who .data8 v e.mismatch)
  | .CHK_DATA16 => some (s.chkWrite i who .data16 v e.mismatch)
  | .CHK_DATA32 => some (s.chkWrite i who .data32 v e.mismatch)
  | .CHK_CMD => some (s.chkWrite i who .init v false)
  | .CHK_HOSTMASK => some (chkHostmaskWrite who v s)
  | _ => none

/-- The effect of an admitted write of instance `i` of register `r` (log entry 141). -/
def State.applyWrite (s : State) (who : Who) (r : Reg) (i : Nat) (v : Word) (e : WriteEnv) : State :=
  match s.actLines who r i v with
  | some t => t
  | none => match s.actGrid who r i v e with
    | some t => t
    | none => match s.actRest who r i v e with
      | some t => t
      | none => s.storeForm r i v

/-- A write of instance `i` of register `r` under its judgement (R34 to R39); IRQ_1 follows (R503). -/
def State.writeReg (s : State) (who : Who) (r : Reg) (i : Nat) (v : Word) (e : WriteEnv) : State :=
  (s.gated who r i fun s => s.applyWrite who r i v e).noteIrq1

/-- The four bytes of a word put into the SEC_XFER window at BAR0 offset `a`. -/
def State.writeXfer (s : State) (a : Nat) (v : Word) : State := s.putXfer (a % 0x10000) (natLe 4 v.toNat)

/-- A word of the MSI-X table, at BAR0 offset `a` (R494) (log entry 156). -/
def State.writeMsix (s : State) (a : Nat) (v : Word) : State :=
  { s with hst := { s.hst with msixTable := Tab.set (fun _ => 0) s.hst.msixTable (a % 0x1000 / 4) v } }

/-- REGISTER_WRITE (R33 to R39): a 32-bit write at a BAR0 offset; one at a reserved offset is discarded, and so is
one at an offset that is no multiple of 4 (R6, log entry 141). -/
def registerWrite (who : Who) (ofs : Nat) (value : Word) (env : WriteEnv) (s : State) : State :=
  if 0x210000 ≤ ofs ∧ ofs < 0x220000 then
    (if ofs % 4 = 0 then s.gated who .SEC_CMD 0 fun s => s.writeXfer ofs value else s)
  else if 0x1480000 ≤ ofs ∧ ofs < 0x1481000 then
    (if who = .host ∧ ofs % 4 = 0 ∧ s.hostPath = true ∧ s.homeOn .core = true ∧ s.bootReach ofs = true then s.writeMsix ofs value else s)
  else match regAt ofs with
    | none => s
    | some (r, i) => s.writeReg who r i value env

/-! ## The head-end (R506) -/

/-- HEADEND_DATAGRAM (R506): a datagram that reached port `port`, `home` from the address in ETH_HEIP, of `bytes` bytes (log entry 145). -/
def headendDatagram (port : Nat) (home : Bool) (typ gaddr svc dclass ref len : Nat) (s : State) : State :=
  let dropped := fun (s : State) => s.bumpFld F.ETH_DROP_VALUE port 1
  if !(decide (port < 2) && s.serves (domEth port) && s.flag F.ETH_CFG_EN port && s.flag F.ETH_CFG_HE port) then s
  else if home = false ∨ (typ = 1 ∧ dclass = 2) then dropped s
  else if typ ≠ 1 ∨ 9216 < len + 16 then (if Config.freeBool s.free then dropped s.drew else s.drew)
  else frameSend (.headend port ref) gaddr svc dclass len s

/-! ## Meanings -/

def execHeadendDatagram (port : Nat) (home : Bool) (typ : Nat) (gaddr : Nat) (svc : Nat) (dclass : Nat) (ref : Nat) (len : Nat) (s : State) : Host.Outcome State Fault Refusal :=
  .next (headendDatagram port home typ gaddr svc dclass ref len s)

def execRegisterWrite (who : Who) (ofs : Nat) (value : Word) (env : WriteEnv) (s : State) : Host.Outcome State Fault Refusal :=
  .next (registerWrite who ofs value env s)

end Sys2Proof.Machine
end

