-- ==== Sys2Proof/Machine/IdnasTime.lean ====
section
/-! DEFINITION. Idnas instructions on soft values, unit registers, time and cycle slots (R363, R370 to R372), and the calls of the CRY units
(R369). -/

namespace Sys2Proof.Machine

open Sys2Proof

/-! ## VDEMAP (R363) -/

/-- Bits of the I axis and of the Q axis of a carrier with loading code `c` (*Loading codes*, R98). -/
def axisBits (c : Nat) : Nat × Nat :=
  if c = 1 then (1, 0) else if 2 ≤ c ∧ c ≤ 6 then (c - 1, c - 1) else (0, 0)

/-- Soft value of lane `i` for bit level `j`: even lanes are the I axis of carrier i / 2, odd ones the Q axis (log entry 138). -/
def demapLane (j : Nat) (a b : Vec) (i : Nat) : Int :=
  let c := i / 2
  let bits := axisBits (laneNat b 16 c)
  let n := if i % 2 = 0 then bits.1 else bits.2
  if 16 ≤ c ∨ n ≤ j then 0
  else satSoft (Config.softValue n j (if i % 2 = 0 then re16 a c else im16 a c) (laneInt b 16 (16 + c)))

/-- VDEMAP (R363): the soft values of one bit level; not predicated (log entry 138). -/
def idVdemap (k : Nat) (f : FmtR) (s : State) : State :=
  s.issue k 1 [.v f.a.toNat, .v f.b.toNat, .v f.d.toNat] (vecOk f true [0] && decide (f.pg.toNat ≤ 4)) fun s _ _ =>
    let a := s.vr k f.a.toNat
    let b := s.vr k f.b.toNat
    s.setVr k f.d.toNat (buildVec 8 64 fun i => intBits 8 (demapLane f.pg.toNat a b i))

/-! ## Unit registers (R370) -/

/-- Whether an offset is one that UGET and UPUT take. -/
def unitOfsOk (a : Nat) : Bool := a % 4 == 0 && decide (a < 0x4000000)

/-- The answer of a UGET by the pack in `slot`: the value and the status (R33, R36, R38). -/
def State.unitRead (s : State) (slot a : Nat) : State × DWord :=
  match regAt a with
  | none =>
    if windowAt a then (s, BitVec.ofNat 64 (Status.code .denied * 2 ^ 32)) else (s, 0)
  | some (r, i) =>
    if s.readable (.pack slot) r i then
      let x := s.readReg (.pack slot) r i
      (x.1, x.2.setWidth 64)
    else (s, BitVec.ofNat 64 (Status.code .denied * 2 ^ 32))

/-- UGET (R370) (log entry 148). -/
def idUget (k : Nat) (f : FmtI) (s : State) : State :=
  s.issue k 1 [.s f.a.toNat, .s f.d.toNat] true fun s t x =>
    let a := (s.sr k f.a.toNat + f.imm.signExtend 64).toNat
    if unitOfsOk a = false then s.taskFault k t x 4
    else if s.hasTag (k / 4) = false then s.waitTag k 1
    else
      let r := (s.touchTag (k / 4)).unitRead x.slot a
      r.1.setSr k f.d.toNat r.2

/-- The status of a UPUT by the pack in `slot` (R33, R36, R38). -/
def State.unitStatus (s : State) (slot a : Nat) : Status :=
  match regAt a with
  | none => if windowAt a then .denied else .ok
  | some (r, i) => if s.gate (.pack slot) r i = .pass then .ok else .denied

/-- UPUT (R370) (log entry 148). -/
def idUput (k : Nat) (f : FmtR) (env : WriteEnv) (s : State) : State :=
  s.issue k 1 [.s f.a.toNat, .s f.b.toNat, .s f.d.toNat] (f.pg == 0 && f.ty == 0) fun s t x =>
    let a := (s.sr k f.a.toNat).toNat
    let v := (s.sr k f.b.toNat).setWidth 32
    if unitOfsOk a = false then s.taskFault k t x 4
    else if s.hasTag (k / 4) = false then s.waitTag k 1
    else
      let s1 := s.touchTag (k / 4)
      registerWrite (.pack x.slot) a v env (s1.setSr k f.d.toNat (BitVec.ofNat 64 (Status.code (s1.unitStatus x.slot a))))

/-! ## Time (R371) -/

/-- A short time as a scalar: seconds in bits 63:32, nanoseconds in bits 31:0. -/
def stampWord (t : Stamp) : DWord := BitVec.ofNat 64 (t.s * 2 ^ 32 + t.ns)

/-- A scalar as a short time. -/
def wordStamp (v : DWord) : Stamp := ⟨v.toNat / 2 ^ 32, v.toNat % 2 ^ 32⟩

/-- TNOW (R371). -/
def idTnow (k : Nat) (f : FmtR) (s : State) : State :=
  s.issue k 1 [.s f.d.toNat] (f.a == 0 && f.b == 0 && f.pg == 0 && f.ty == 0) fun s _ _ => s.setSr k f.d.toNat (stampWord s.now)

/-- TWAITT (R371): waits until short time s[a]; at once when it has come. -/
def idTwaitt (k : Nat) (f : FmtR) (s : State) : State :=
  s.issue k 1 [.s f.a.toNat] (f.d == 0 && f.b == 0 && f.pg == 0 && f.ty == 0) fun s _ _ =>
    let goal := wordStamp (s.sr k f.a.toNat)
    if goal.le s.now then s else s.setCtx k { s.ctx k with wait := .time goal }

/-- TWAITT_EXPIRE (R371): the awaited time has come, or Compass has stepped past it. -/
def twaittExpire (k : Nat) (s : State) : State :=
  match (s.ctx k).wait with
  | .time goal => if goal.le s.now then s.setCtx k { s.ctx k with wait := .running } else s
  | _ => s

/-! ## Cycle slots (R372) -/

/-- A phase of feeder group `g` now, in 1/65 536 cycle: any within the slot in force while the tracker runs, any at all otherwise (R99). -/
def State.phaseNow (s : State) (g : Nat) : Nat :=
  let slot := (s.tracker g).slot
  let lo := (65536 * slot + 11) / 12
  if s.zcRuns g then lo + s.pickNat ((65536 * (slot + 1) + 11) / 12 - lo) else s.pickNat 65536

/-- ZCRD (R372). -/
def idZcrd (k : Nat) (f : FmtR) (s : State) : State :=
  s.issue k 1 [.s f.a.toNat, .s f.d.toNat] (f.b == 0 && f.pg == 0 && f.ty == 0) fun s _ _ =>
    let g := (s.sr k f.a.toNat).toNat % 8
    let v := s.phaseNow g + (s.tracker g).cyc % 2 ^ 40 * 2 ^ 16 + bit (s.zcLock g) * 2 ^ 62 + bit (s.zcHold g) * 2 ^ 63
    s.drew.setSr k f.d.toNat (BitVec.ofNat 64 v)

/-- The position of a group's tracker: 16 × cycle + slot. -/
def State.cycleSlot (s : State) (g : Nat) : Nat := (s.tracker g).cyc * 16 + (s.tracker g).slot

/-- What WSLOT returns: the position and one flag bit. -/
def slotWord64 (pos flag : Nat) : DWord := BitVec.ofNat 64 (pos % 2 ^ 44 + 2 ^ flag)

/-- WSLOT (R372): waits for a slot boundary; at once when the tracker has never locked or the boundary has passed. -/
def idWslot (k : Nat) (f : FmtR) (s : State) : State :=
  s.issue k 1 [.s f.a.toNat, .s f.b.toNat, .s f.d.toNat] (f.pg == 0 && f.ty == 0) fun s t x =>
    let goal := (s.sr k f.a.toNat).toNat % 2 ^ 44
    let g := (s.sr k f.b.toNat).toNat % 8
    if 12 ≤ goal % 16 then s.taskFault k t x 1
    else if (s.tracker g).everLocked = false then s.setSr k f.d.toNat (slotWord64 (s.cycleSlot g) 63)
    else if goal ≤ s.cycleSlot g then s.setSr k f.d.toNat (slotWord64 (s.cycleSlot g) 62)
    else s.setCtx k { s.ctx k with wait := .slot f.d.toNat g (goal / 16) (goal % 16) }

/-- WSLOT_RETURN (R372): the awaited boundary, or the step that passed over it (log entry 140). -/
def wslotReturn (k : Nat) (s : State) : State :=
  match (s.ctx k).wait with
  | .slot d g cycle slot =>
    let pos := s.cycleSlot g
    if pos < cycle * 16 + slot then s
    else
      (s.setCtx k { s.ctx k with wait := .running }).setSr k d
        (if pos = cycle * 16 + slot then BitVec.ofNat 64 (pos % 2 ^ 44) else slotWord64 pos 61)
  | _ => s

/-! ## The CRY units (R369) -/

/-- The key of a call: `n` bytes of a wrapped key behind KEY_H and KEY_OFS, unwrapped under the session wrapping key; none where the caller
may not read them (DENIED), an empty answer where the check fails (log entry 149). -/
def State.callKey (s : State) (c : Call) (n : Nat) : Option (Option (List Byte)) :=
  match (s.ctx c.place).task with
  | none => none
  | some t => match s.task t with
    | none => none
    | some x =>
      let h := CallDesc.par c.desc 0 4
      let ofs := CallDesc.par c.desc 4 8
      if s.rangeOk c.place t x h ofs n 1 then
        some (match s.sec.swk with
          | none => none
          | some key => Config.unwrap key (s.peek (s.objOf c.place h) ofs n))
      else none

/-- The keys CRY unit `u` caches (R263). -/
def State.keysOf (s : State) (u : Nat) : List (List Byte) := Tab.get (fun _ => []) s.sec.caches u

/-- A key entered in the cache of CRY unit `u`, which holds 1 024: the one longest there goes (log entry 200). -/
def State.cacheKey (s : State) (u : Nat) (key : List Byte) : State :=
  let l := s.keysOf u
  if l.contains key then s
  else { s with sec := { s.sec with caches := Tab.set (fun _ => []) s.sec.caches u ((if 1024 ≤ l.length then l.drop 1 else l) ++ [key]) } }

/-- Whether a call waits for the security controller to restart: its key is not cached (R463). -/
def State.missWaits (s : State) (u : Nat) (key : Option (List Byte)) : Bool :=
  s.sec.job == some .restart && !(key.elim false fun k => (s.keysOf u).contains k)

/-- A CRY call: AAD of `aadLen` bytes, then the text, then on decryption a tag of `tagLen` bytes; with AUTH_FAIL the output is zeros
(log entry 149). A key that is not cached is unwrapped and cached; during a restart of the security controller it waits (R263, R463). -/
def State.runCry (s : State) (c : Call) (keyLen aadLen tagLen : Nat) (decrypt : Bool)
    (f : List Byte → List Byte → List Byte → List Byte → Option (List Byte)) : State :=
  let input := s.callInput c
  let tail := if decrypt then tagLen else 0
  if c.discard then s.endCall c .ok
  else if input.length < aadLen + tail then s.endCall c .denied
  else
    let textLen := input.length - aadLen - tail
    let outLen := if decrypt then textLen else textLen + tagLen
    let zeros := List.replicate outLen (0 : Byte)
    match s.callKey c keyLen with
    | none => s.endCall c .denied
    | some none => if s.missWaits c.inst none then s else s.endCallWith c .authFail zeros
    | some (some key) =>
      if s.missWaits c.inst (some key) then s
      else
      let s := s.cacheKey c.inst key
      match f key (input.take aadLen) ((input.drop aadLen).take textLen) ((input.drop aadLen).drop textLen) with
      | some out => s.endCallWith c .ok (out.take outLen ++ zeros.drop out.length)
      | none => s.endCallWith c .authFail zeros

/-- NONCE of a call. -/
def callNonce (c : Call) (n : Nat) : List Byte := (c.desc.param.drop 12).take n

/-- GCM_ENCRYPT (R369). -/
def gcmEncrypt (call : Nat) (s : State) : State :=
  s.onCall call 2 0 fun s c =>
    s.runCry c 40 (CallDesc.par c.desc 24 2) 16 false fun key aad text _ => some (Config.gcmSeal key (callNonce c 12) aad text 16)

/-- GCM_DECRYPT (R369). -/
def gcmDecrypt (call : Nat) (s : State) : State :=
  s.onCall call 2 1 fun s c =>
    s.runCry c 40 (CallDesc.par c.desc 24 2) 16 true fun key aad text tag => Config.gcmOpen key (callNonce c 12) aad (text ++ tag) 16

/-- CCM_ENCRYPT (R369) (log entry 139). -/
def ccmEncrypt (call : Nat) (s : State) : State :=
  s.onCall call 2 2 fun s c =>
    let n := CallDesc.par c.desc 27 1
    s.runCry c 24 (CallDesc.par c.desc 25 2) n false fun key aad text _ => some (Config.ccmSeal key (callNonce c 13) aad text n)

/-- CCM_DECRYPT (R369) (log entry 139). -/
def ccmDecrypt (call : Nat) (s : State) : State :=
  s.onCall call 2 3 fun s c =>
    let n := CallDesc.par c.desc 27 1
    s.runCry c 24 (CallDesc.par c.desc 25 2) n true fun key aad text tag => Config.ccmOpen key (callNonce c 13) aad (text ++ tag) n

/-! ## Meanings -/

def execIVdemap (k : Nat) (f : FmtR) (s : State) : Host.Outcome State Fault Refusal := .next (idVdemap k f s)

def execGcmEncrypt (call : Nat) (s : State) : Host.Outcome State Fault Refusal := .next (gcmEncrypt call s)

def execGcmDecrypt (call : Nat) (s : State) : Host.Outcome State Fault Refusal := .next (gcmDecrypt call s)

def execCcmEncrypt (call : Nat) (s : State) : Host.Outcome State Fault Refusal := .next (ccmEncrypt call s)

def execCcmDecrypt (call : Nat) (s : State) : Host.Outcome State Fault Refusal := .next (ccmDecrypt call s)

def execIUget (k : Nat) (f : FmtI) (s : State) : Host.Outcome State Fault Refusal := .next (idUget k f s)

def execIUput (k : Nat) (f : FmtR) (env : WriteEnv) (s : State) : Host.Outcome State Fault Refusal :=
  .next (idUput k f env s)

def execITnow (k : Nat) (f : FmtR) (s : State) : Host.Outcome State Fault Refusal := .next (idTnow k f s)

def execIZcrd (k : Nat) (f : FmtR) (s : State) : Host.Outcome State Fault Refusal := .next (idZcrd k f s)

def execITwaitt (k : Nat) (f : FmtR) (s : State) : Host.Outcome State Fault Refusal := .next (idTwaitt k f s)

def execTwaittExpire (k : Nat) (s : State) : Host.Outcome State Fault Refusal := .next (twaittExpire k s)

def execIWslot (k : Nat) (f : FmtR) (s : State) : Host.Outcome State Fault Refusal := .next (idWslot k f s)

def execWslotReturn (k : Nat) (s : State) : Host.Outcome State Fault Refusal := .next (wslotReturn k s)

end Sys2Proof.Machine
end

