-- ==== Sys2Proof/Machine/Dispatch.lean ====
section
/-! DEFINITION. The dispatch: one arm per command, each a direct call of its meaning. -/

namespace Sys2Proof.Machine

def exec (i : Instr) (s : State) : Host.Outcome State Fault Refusal :=
  match i with
  | .vinStart vin pfHigh sigA sigB => Sys2Proof.Machine.execVinStart vin pfHigh sigA sigB s
  | .lowSupplyTrip vin started => Sys2Proof.Machine.execLowSupplyTrip vin started s
  | .rstNAssert started => Sys2Proof.Machine.execRstNAssert started s
  | .rstNRelease sigA sigB => Sys2Proof.Machine.execRstNRelease sigA sigB s
  | .perstNRise => Sys2Proof.Machine.execPerstNRise s
  | .perstNAssert => Sys2Proof.Machine.execPerstNAssert s
  | .wake source => Sys2Proof.Machine.execWake source s
  | .watchTimeout => Sys2Proof.Machine.execWatchTimeout s
  | .modeReqServe who => Sys2Proof.Machine.execModeReqServe who s
  | .modeReqSurge who => Sys2Proof.Machine.execModeReqSurge who s
  | .modeReqRest who => Sys2Proof.Machine.execModeReqRest who s
  | .modeReqWatch who => Sys2Proof.Machine.execModeReqWatch who s
  | .modeTransitionComplete vin pfHigh power keep => Sys2Proof.Machine.execModeTransitionComplete vin pfHigh power keep s
  | .modeDrainForcedDisable unit => Sys2Proof.Machine.execModeDrainForcedDisable unit s
  | .pwrCapWrite who value => Sys2Proof.Machine.execPwrCapWrite who value s
  | .powerCapControl demand vcore idle => Sys2Proof.Machine.execPowerCapControl demand vcore idle s
  | .pwrStatClear who value => Sys2Proof.Machine.execPwrStatClear who value s
  | .pwrFailAssert keep => Sys2Proof.Machine.execPwrFailAssert keep s
  | .vinEmberCross vin keep => Sys2Proof.Machine.execVinEmberCross vin keep s
  | .emberExit vin pfHigh => Sys2Proof.Machine.execEmberExit vin pfHigh s
  | .emberMaxSExpire => Sys2Proof.Machine.execEmberMaxSExpire s
  | .portCfgWrite port who value => Sys2Proof.Machine.execPortCfgWrite port who value s
  | .portDisable port who value => Sys2Proof.Machine.execPortDisable port who value s
  | .portForcedDisable port => Sys2Proof.Machine.execPortForcedDisable port s
  | .txpathChangeApply port => Sys2Proof.Machine.execTxpathChangeApply port s
  | .frameSchedule frame ports path cycle slot mcs form => Sys2Proof.Machine.execFrameSchedule frame ports path cycle slot mcs form s
  | .frameNotStaged frame => Sys2Proof.Machine.execFrameNotStaged frame s
  | .txFrameStart frame => Sys2Proof.Machine.execTxFrameStart frame s
  | .txFrameEnd frame => Sys2Proof.Machine.execTxFrameEnd frame s
  | .paEnRelease port => Sys2Proof.Machine.execPaEnRelease port s
  | .stagingUnderrun port => Sys2Proof.Machine.execStagingUnderrun port s
  | .foldbackTrigger port mv => Sys2Proof.Machine.execFoldbackTrigger port mv s
  | .foldbackFurtherStep port mv => Sys2Proof.Machine.execFoldbackFurtherStep port mv s
  | .overcurrentMute port mv => Sys2Proof.Machine.execOvercurrentMute port mv s
  | .agcLower input => Sys2Proof.Machine.execAgcLower input s
  | .agcRaise input => Sys2Proof.Machine.execAgcRaise input s
  | .ownTxSuppressEnd fg => Sys2Proof.Machine.execOwnTxSuppressEnd fg s
  | .overloadWindowEnd input sec => Sys2Proof.Machine.execOverloadWindowEnd input sec s
  | .ringBlockWrite input wide sec ns adc => Sys2Proof.Machine.execRingBlockWrite input wide sec ns adc s
  | .trackerLock fg valid found => Sys2Proof.Machine.execTrackerLock fg valid found s
  | .phaseZero fg error mhz refs => Sys2Proof.Machine.execPhaseZero fg error mhz refs s
  | .trackerHoldover fg => Sys2Proof.Machine.execTrackerHoldover fg s
  | .trackerRelock fg valid error => Sys2Proof.Machine.execTrackerRelock fg valid error s
  | .zcOfsWrite fg who value => Sys2Proof.Machine.execZcOfsWrite fg who value s
  | .trackerRefSwitch fg valid => Sys2Proof.Machine.execTrackerRefSwitch fg valid s
  | .trackerRefReturn fg back => Sys2Proof.Machine.execTrackerRefReturn fg back s
  | .slotBoundary fg => Sys2Proof.Machine.execSlotBoundary fg s
  | .lpZcphaseRead fg ofs who => Sys2Proof.Machine.execLpZcphaseRead fg ofs who s
  | .lpIsenseRead port mv who => Sys2Proof.Machine.execLpIsenseRead port mv who s
  | .preambleDetection det fg start metric power std => Sys2Proof.Machine.execPreambleDetection det fg start metric power std s
  | .receptionOpen fg found place => Sys2Proof.Machine.execReceptionOpen fg found place s
  | .ringWaitResume rec again => Sys2Proof.Machine.execRingWaitResume rec again s
  | .receptionEnd rec f => Sys2Proof.Machine.execReceptionEnd rec f s
  | .checkpointWaitResume rec => Sys2Proof.Machine.execCheckpointWaitResume rec s
  | .sicResume rec next found => Sys2Proof.Machine.execSicResume rec next found s
  | .inputLostInReception fg => Sys2Proof.Machine.execInputLostInReception fg s
  | .harqBufferExpire src harq => Sys2Proof.Machine.execHarqBufferExpire src harq s
  | .rescanTrigger fg src t0 t1 deferredOnly => Sys2Proof.Machine.execRescanTrigger fg src t0 t1 deferredOnly s
  | .mdmRescanGo who value => Sys2Proof.Machine.execMdmRescanGo who value s
  | .rescanStart id => Sys2Proof.Machine.execRescanStart id s
  | .rescanEnd id expired => Sys2Proof.Machine.execRescanEnd id expired s
  | .ringDepthChange who value => Sys2Proof.Machine.execRingDepthChange who value s
  | .confidenceHalving index slot => Sys2Proof.Machine.execConfidenceHalving index slot s
  | .broadcastSounding fg => Sys2Proof.Machine.execBroadcastSounding fg s
  | .uplinkSoundingRequest saddr => Sys2Proof.Machine.execUplinkSoundingRequest saddr s
  | .staleSlotTimeout index slot => Sys2Proof.Machine.execStaleSlotTimeout index slot s
  | .uplinkMapIssue saddr => Sys2Proof.Machine.execUplinkMapIssue saddr s
  | .retiredMapExpire saddr tmid => Sys2Proof.Machine.execRetiredMapExpire saddr tmid s
  | .toneMap saddr tmid withdraw two rate cgFirst cgLast codes => Sys2Proof.Machine.execToneMap saddr tmid withdraw two rate cgFirst cgLast codes s
  | .channelReport saddr cgFirst cgLast pair0 pair1 two snr => Sys2Proof.Machine.execChannelReport saddr cgFirst cgLast pair0 pair1 two snr s
  | .recordReleaseComplete index acked => Sys2Proof.Machine.execRecordReleaseComplete index acked s
  | .mapPin who => Sys2Proof.Machine.execMapPin who s
  | .mapUnpin who => Sys2Proof.Machine.execMapUnpin who s
  | .mapRelease who => Sys2Proof.Machine.execMapRelease who s
  | .mapRequestSounding who => Sys2Proof.Machine.execMapRequestSounding who s
  | .notchWrite n who value => Sys2Proof.Machine.execNotchWrite n who value s
  | .notchApply => Sys2Proof.Machine.execNotchApply s
  | .bandcfgWrite fg who value => Sys2Proof.Machine.execBandcfgWrite fg who value s
  | .bandChangeApply fg => Sys2Proof.Machine.execBandChangeApply fg s
  | .reflectometrySweep port bins full folded => Sys2Proof.Machine.execReflectometrySweep port bins full folded s
  | .networkBeacon plan => Sys2Proof.Machine.execNetworkBeacon plan s
  | .discoveryBeacon fg => Sys2Proof.Machine.execDiscoveryBeacon fg s
  | .macBcncfgWrite fg who value => Sys2Proof.Machine.execMacBcncfgWrite fg who value s
  | .assocReq fg eui nn cap drift zcofs => Sys2Proof.Machine.execAssocReq fg eui nn cap drift zcofs s
  | .assocTimeout saddr => Sys2Proof.Machine.execAssocTimeout saddr s
  | .keyConfirm saddr fg nn nm => Sys2Proof.Machine.execKeyConfirm saddr fg nn nm s
  | .quarantineExpire saddr => Sys2Proof.Machine.execQuarantineExpire saddr s
  | .uplinkAckSend saddr => Sys2Proof.Machine.execUplinkAckSend saddr s
  | .ackTimeout frame => Sys2Proof.Machine.execAckTimeout frame s
  | .groupKeyChange who => Sys2Proof.Machine.execGroupKeyChange who s
  | .groupKeyActivate fg => Sys2Proof.Machine.execGroupKeyActivate fg s
  | .nodeRelease who => Sys2Proof.Machine.execNodeRelease who s
  | .nodeWake who => Sys2Proof.Machine.execNodeWake who s
  | .nodeForceReassoc who => Sys2Proof.Machine.execNodeForceReassoc who s
  | .rendezvousReq saddr drift pexp outPexp => Sys2Proof.Machine.execRendezvousReq saddr drift pexp outPexp s
  | .checkin saddr line zcofs mains => Sys2Proof.Machine.execCheckin saddr line zcofs mains s
  | .checkinMissed saddr => Sys2Proof.Machine.execCheckinMissed saddr s
  | .absentWakeRepeat saddr => Sys2Proof.Machine.execAbsentWakeRepeat saddr s
  | .absentRelease saddr => Sys2Proof.Machine.execAbsentRelease saddr s
  | .wakePatternDetect port chips => Sys2Proof.Machine.execWakePatternDetect port chips s
  | .wakeAnnounce saddr line zcofs mains => Sys2Proof.Machine.execWakeAnnounce saddr line zcofs mains s
  | .allocReq saddr gid kind span cgFirst cgLast slot cper cph nsymMax fromB toB => Sys2Proof.Machine.execAllocReq saddr gid kind span cgFirst cgLast slot cper cph nsymMax fromB toB s
  | .allocEnd saddr gid own => Sys2Proof.Machine.execAllocEnd saddr gid own s
  | .leave saddr reason => Sys2Proof.Machine.execLeave saddr reason s
  | .mgmtInvalid saddr seq harq txn sec ackReq => Sys2Proof.Machine.execMgmtInvalid saddr seq harq txn sec ackReq s
  | .neighbourReport saddr heard => Sys2Proof.Machine.execNeighbourReport saddr heard s
  | .routeFailure saddr => Sys2Proof.Machine.execRouteFailure saddr s
  | .parentBeacon link index offset => Sys2Proof.Machine.execParentBeacon link index offset s
  | .parentBeaconMiss => Sys2Proof.Machine.execParentBeaconMiss s
  | .handoverDecision saddr target => Sys2Proof.Machine.execHandoverDecision saddr target s
  | .offer saddr incoming => Sys2Proof.Machine.execOffer saddr incoming s
  | .accept src mseq eui saddr => Sys2Proof.Machine.execAccept src mseq eui saddr s
  | .commit src mseq eui seq => Sys2Proof.Machine.execCommit src mseq eui seq s
  | .abort src mseq eui => Sys2Proof.Machine.execAbort src mseq eui s
  | .handoverAcceptTimeout saddr => Sys2Proof.Machine.execHandoverAcceptTimeout saddr s
  | .pendingRecordTimeout eui answer => Sys2Proof.Machine.execPendingRecordTimeout eui answer s
  | .ledgerSubmit src gaddr token href deadline want => Sys2Proof.Machine.execLedgerSubmit src gaddr token href deadline want s
  | .ledgerCancel src lid => Sys2Proof.Machine.execLedgerCancel src lid s
  | .ledgerQuery src lid => Sys2Proof.Machine.execLedgerQuery src lid s
  | .ledgerRelease src lid => Sys2Proof.Machine.execLedgerRelease src lid s
  | .ledgerNext src lid => Sys2Proof.Machine.execLedgerNext src lid s
  | .ledgerBatchLanded => Sys2Proof.Machine.execLedgerBatchLanded s
  | .ledgerResend lid due => Sys2Proof.Machine.execLedgerResend lid due s
  | .ledgerReport node entries => Sys2Proof.Machine.execLedgerReport node entries s
  | .ledgerDeadline lid => Sys2Proof.Machine.execLedgerDeadline lid s
  | .ledgerConfirmTimeout lid => Sys2Proof.Machine.execLedgerConfirmTimeout lid s
  | .macLdgAccRead who => Sys2Proof.Machine.execMacLdgAccRead who s
  | .fbdWaitTimeout src seq => Sys2Proof.Machine.execFbdWaitTimeout src seq s
  | .fbdReturnTake => Sys2Proof.Machine.execFbdReturnTake s
  | .sweepNow who bins folded => Sys2Proof.Machine.execSweepNow who bins folded s
  | .baselineTake who => Sys2Proof.Machine.execBaselineTake who s
  | .rangingSet who => Sys2Proof.Machine.execRangingSet who s
  | .evidenceRelease who => Sys2Proof.Machine.execEvidenceRelease who s
  | .rangeResp saddr rid turn req ack eps => Sys2Proof.Machine.execRangeResp saddr rid turn req ack eps s
  | .balancePointChange pair => Sys2Proof.Machine.execBalancePointChange pair s
  | .balanceDwellEnd pair sum n => Sys2Proof.Machine.execBalanceDwellEnd pair sum n s
  | .meterRead saddr regs => Sys2Proof.Machine.execMeterRead saddr regs s
  | .balanceIntervalEnd energies => Sys2Proof.Machine.execBalanceIntervalEnd energies s
  | .gsCfgWrite channel who value => Sys2Proof.Machine.execGsCfgWrite channel who value s
  | .gsXptWrite channel who value => Sys2Proof.Machine.execGsXptWrite channel who value s
  | .sourceWrite role who value => Sys2Proof.Machine.execSourceWrite role who value s
  | .gsRetWrite who value => Sys2Proof.Machine.execGsRetWrite who value s
  | .gsChangeApply channel => Sys2Proof.Machine.execGsChangeApply channel s
  | .lingo channel who => Sys2Proof.Machine.execLingo channel who s
  | .chargeReset channel who => Sys2Proof.Machine.execChargeReset channel who s
  | .gsSampleOutput channel t raw overload faults cjt => Sys2Proof.Machine.execGsSampleOutput channel t raw overload faults cjt s
  | .gsChannelDrain channel => Sys2Proof.Machine.execGsChannelDrain channel s
  | .calGo who value => Sys2Proof.Machine.execCalGo who value s
  | .calibrationStart => Sys2Proof.Machine.execCalibrationStart s
  | .calMeasureDone meas => Sys2Proof.Machine.execCalMeasureDone meas s
  | .calCommitLanded => Sys2Proof.Machine.execCalCommitLanded s
  | .calTargetReturn => Sys2Proof.Machine.execCalTargetReturn s
  | .calAbandon => Sys2Proof.Machine.execCalAbandon s
  | .calLastSRead set who => Sys2Proof.Machine.execCalLastSRead set who s
  | .iNop k f => Sys2Proof.Machine.execINop k f s
  | .iYield k f => Sys2Proof.Machine.execIYield k f s
  | .iEnd k f => Sys2Proof.Machine.execIEnd k f s
  | .iFence k f => Sys2Proof.Machine.execIFence k f s
  | .iRet k f => Sys2Proof.Machine.execIRet k f s
  | .iJr k f => Sys2Proof.Machine.execIJr k f s
  | .iRdctx k f => Sys2Proof.Machine.execIRdctx k f s
  | .iBr k f => Sys2Proof.Machine.execIBr k f s
  | .iBz k f => Sys2Proof.Machine.execIBz k f s
  | .iBnz k f => Sys2Proof.Machine.execIBnz k f s
  | .iCall k f => Sys2Proof.Machine.execICall k f s
  | .iAdd k f => Sys2Proof.Machine.execIAdd k f s
  | .iSub k f => Sys2Proof.Machine.execISub k f s
  | .iAnd k f => Sys2Proof.Machine.execIAnd k f s
  | .iOr k f => Sys2Proof.Machine.execIOr k f s
  | .iXor k f => Sys2Proof.Machine.execIXor k f s
  | .iShl k f => Sys2Proof.Machine.execIShl k f s
  | .iShr k f => Sys2Proof.Machine.execIShr k f s
  | .iSra k f => Sys2Proof.Machine.execISra k f s
  | .iMul k f => Sys2Proof.Machine.execIMul k f s
  | .iMulhu k f => Sys2Proof.Machine.execIMulhu k f s
  | .iMin k f => Sys2Proof.Machine.execIMin k f s
  | .iMax k f => Sys2Proof.Machine.execIMax k f s
  | .iSlt k f => Sys2Proof.Machine.execISlt k f s
  | .iSltu k f => Sys2Proof.Machine.execISltu k f s
  | .iPopc k f => Sys2Proof.Machine.execIPopc k f s
  | .iClz k f => Sys2Proof.Machine.execIClz k f s
  | .iAddi k f => Sys2Proof.Machine.execIAddi k f s
  | .iAndi k f => Sys2Proof.Machine.execIAndi k f s
  | .iOri k f => Sys2Proof.Machine.execIOri k f s
  | .iXori k f => Sys2Proof.Machine.execIXori k f s
  | .iShli k f => Sys2Proof.Machine.execIShli k f s
  | .iShri k f => Sys2Proof.Machine.execIShri k f s
  | .iSrai k f => Sys2Proof.Machine.execISrai k f s
  | .iLi k f => Sys2Proof.Machine.execILi k f s
  | .iLih k f => Sys2Proof.Machine.execILih k f s
  | .iHget k f => Sys2Proof.Machine.execIHget k f s
  | .iLds k f => Sys2Proof.Machine.execILds k f s
  | .iSts k f => Sys2Proof.Machine.execISts k f s
  | .iLdv k f => Sys2Proof.Machine.execILdv k f s
  | .iStv k f => Sys2Proof.Machine.execIStv k f s
  | .iVadd k f => Sys2Proof.Machine.execIVadd k f s
  | .iVsub k f => Sys2Proof.Machine.execIVsub k f s
  | .iVmul k f => Sys2Proof.Machine.execIVmul k f s
  | .iVconj k f => Sys2Proof.Machine.execIVconj k f s
  | .iVmag2 k f => Sys2Proof.Machine.execIVmag2 k f s
  | .iVmin k f => Sys2Proof.Machine.execIVmin k f s
  | .iVmax k f => Sys2Proof.Machine.execIVmax k f s
  | .iVabs k f => Sys2Proof.Machine.execIVabs k f s
  | .iVsel k f => Sys2Proof.Machine.execIVsel k f s
  | .iVshri k f => Sys2Proof.Machine.execIVshri k f s
  | .iVperm k f => Sys2Proof.Machine.execIVperm k f s
  | .iVcmpgt k f => Sys2Proof.Machine.execIVcmpgt k f s
  | .iVcmpeq k f => Sys2Proof.Machine.execIVcmpeq k f s
  | .iVand k f => Sys2Proof.Machine.execIVand k f s
  | .iVxor k f => Sys2Proof.Machine.execIVxor k f s
  | .iVsplat k f => Sys2Proof.Machine.execIVsplat k f s
  | .iVext k f => Sys2Proof.Machine.execIVext k f s
  | .iVdemap k f => Sys2Proof.Machine.execIVdemap k f s
  | .iCmac k f => Sys2Proof.Machine.execICmac k f s
  | .iCmacc k f => Sys2Proof.Machine.execICmacc k f s
  | .iCmul k f => Sys2Proof.Machine.execICmul k f s
  | .iAclr k f => Sys2Proof.Machine.execIAclr k f s
  | .iArnd k f => Sys2Proof.Machine.execIArnd k f s
  | .iAreduce k f => Sys2Proof.Machine.execIAreduce k f s
  | .iPand k f => Sys2Proof.Machine.execIPand k f s
  | .iPor k f => Sys2Proof.Machine.execIPor k f s
  | .iPxor k f => Sys2Proof.Machine.execIPxor k f s
  | .iPnot k f => Sys2Proof.Machine.execIPnot k f s
  | .iPset k f => Sys2Proof.Machine.execIPset k f s
  | .iPget k f => Sys2Proof.Machine.execIPget k f s
  | .iQpush k f => Sys2Proof.Machine.execIQpush k f s
  | .iQpop k f => Sys2Proof.Machine.execIQpop k f s
  | .iQtpush k f => Sys2Proof.Machine.execIQtpush k f s
  | .iQtpop k f => Sys2Proof.Machine.execIQtpop k f s
  | .iQlen k f => Sys2Proof.Machine.execIQlen k f s
  | .queueWaitResume k => Sys2Proof.Machine.execQueueWaitResume k s
  | .iSpawn k f => Sys2Proof.Machine.execISpawn k f s
  | .iTwait k f => Sys2Proof.Machine.execITwait k f s
  | .twaitResume k => Sys2Proof.Machine.execTwaitResume k s
  | .iXfft k f => Sys2Proof.Machine.execIXfft k f s
  | .iXfec k f => Sys2Proof.Machine.execIXfec k f s
  | .iXcry k f => Sys2Proof.Machine.execIXcry k f s
  | .iXchk k f => Sys2Proof.Machine.execIXchk k f s
  | .iAwait k f => Sys2Proof.Machine.execIAwait k f s
  | .iApoll k f => Sys2Proof.Machine.execIApoll k f s
  | .xfFft call => Sys2Proof.Machine.execXfFft call s
  | .xfIfft call => Sys2Proof.Machine.execXfIfft call s
  | .ldpcDecode call => Sys2Proof.Machine.execLdpcDecode call s
  | .ldpcEncode call => Sys2Proof.Machine.execLdpcEncode call s
  | .viterbiDecode call => Sys2Proof.Machine.execViterbiDecode call s
  | .convolutionalEncode call => Sys2Proof.Machine.execConvolutionalEncode call s
  | .reedSolomonDecode call => Sys2Proof.Machine.execReedSolomonDecode call s
  | .reedSolomonEncode call => Sys2Proof.Machine.execReedSolomonEncode call s
  | .gcmEncrypt call => Sys2Proof.Machine.execGcmEncrypt call s
  | .gcmDecrypt call => Sys2Proof.Machine.execGcmDecrypt call s
  | .ccmEncrypt call => Sys2Proof.Machine.execCcmEncrypt call s
  | .ccmDecrypt call => Sys2Proof.Machine.execCcmDecrypt call s
  | .chkFeed call mismatch => Sys2Proof.Machine.execChkFeed call mismatch s
  | .iUget k f => Sys2Proof.Machine.execIUget k f s
  | .iUput k f env => Sys2Proof.Machine.execIUput k f env s
  | .iTnow k f => Sys2Proof.Machine.execITnow k f s
  | .iZcrd k f => Sys2Proof.Machine.execIZcrd k f s
  | .iTwaitt k f => Sys2Proof.Machine.execITwaitt k f s
  | .twaittExpire k => Sys2Proof.Machine.execTwaittExpire k s
  | .iWslot k f => Sys2Proof.Machine.execIWslot k f s
  | .wslotReturn k => Sys2Proof.Machine.execWslotReturn k s
  | .taskMigrate k target => Sys2Proof.Machine.execTaskMigrate k target s
  | .tagWaitResume init => Sys2Proof.Machine.execTagWaitResume init s
  | .pseudoChannelAdmit pc => Sys2Proof.Machine.execPseudoChannelAdmit pc s
  | .creditReturn link => Sys2Proof.Machine.execCreditReturn link s
  | .linkHandshakeTimeout link unit => Sys2Proof.Machine.execLinkHandshakeTimeout link unit s
  | .packLoad src image repl placed power => Sys2Proof.Machine.execPackLoad src image repl placed power s
  | .packUnload src slot => Sys2Proof.Machine.execPackUnload src slot s
  | .replOutgoingEnded => Sys2Proof.Machine.execReplOutgoingEnded s
  | .replTimeLimit => Sys2Proof.Machine.execReplTimeLimit s
  | .replAbort value => Sys2Proof.Machine.execReplAbort value s
  | .classSet src cls prio persist byte3 latUl latDl rate met power => Sys2Proof.Machine.execClassSet src cls prio persist byte3 latUl latDl rate met power s
  | .classAssign src gaddr group svc cls met power => Sys2Proof.Machine.execClassAssign src gaddr group svc cls met power s
  | .placementReport src handle ofs len => Sys2Proof.Machine.execPlacementReport src handle ofs len s
  | .ownerSet src gaddr module pin => Sys2Proof.Machine.execOwnerSet src gaddr module pin s
  | .pitDrain value => Sys2Proof.Machine.execPitDrain value s
  | .pitForcedDisable value => Sys2Proof.Machine.execPitForcedDisable value s
  | .pitRestore value => Sys2Proof.Machine.execPitRestore value s
  | .unitDrained unit => Sys2Proof.Machine.execUnitDrained unit s
  | .drainBoundExpire unit => Sys2Proof.Machine.execDrainBoundExpire unit s
  | .spareTargetWrite value => Sys2Proof.Machine.execSpareTargetWrite value s
  | .pageMigrate handle page target last => Sys2Proof.Machine.execPageMigrate handle page target last s
  | .hbmStepChange stack step => Sys2Proof.Machine.execHbmStepChange stack step s
  | .scrubPass stack => Sys2Proof.Machine.execScrubPass stack s
  | .memoryEccError unit uncorrectable second load => Sys2Proof.Machine.execMemoryEccError unit uncorrectable second load s
  | .snrReport received reports => Sys2Proof.Machine.execSnrReport received reports s
  | .glJoin who value => Sys2Proof.Machine.execGlJoin who value s
  | .glLeave who value => Sys2Proof.Machine.execGlLeave who value s
  | .hello link index gnid l standing credits => Sys2Proof.Machine.execHello link index gnid l standing credits s
  | .joinReq link src mseq index parent => Sys2Proof.Machine.execJoinReq link src mseq index parent s
  | .joinAck link src mseq index ancestors members => Sys2Proof.Machine.execJoinAck link src mseq index ancestors members s
  | .joinRefuse link src mseq index st dup => Sys2Proof.Machine.execJoinRefuse link src mseq index st dup s
  | .joinRetry => Sys2Proof.Machine.execJoinRetry s
  | .guylineLeave link src mseq => Sys2Proof.Machine.execGuylineLeave link src mseq s
  | .route link src mseq added removed l => Sys2Proof.Machine.execRoute link src mseq added removed l s
  | .guylineFrameForward link f tagOk => Sys2Proof.Machine.execGuylineFrameForward link f tagOk s
  | .routeHoldTimeout => Sys2Proof.Machine.execRouteHoldTimeout s
  | .controlRepeat mseq => Sys2Proof.Machine.execControlRepeat mseq s
  | .guylineAck mseq => Sys2Proof.Machine.execGuylineAck mseq s
  | .lineLinkBeacon link windows => Sys2Proof.Machine.execLineLinkBeacon link windows s
  | .timeFrameSend => Sys2Proof.Machine.execTimeFrameSend s
  | .timeFrame link locked e offset => Sys2Proof.Machine.execTimeFrame link locked e offset s
  | .serdesLoss link => Sys2Proof.Machine.execSerdesLoss link s
  | .framSecondsWrite => Sys2Proof.Machine.execFramSecondsWrite s
  | .sourceQualify src offsetNs tai => Sys2Proof.Machine.execSourceQualify src offsetNs tai s
  | .sourceLost src offsetNs => Sys2Proof.Machine.execSourceLost src offsetNs s
  | .compassStep => Sys2Proof.Machine.execCompassStep s
  | .cmpSetStep value => Sys2Proof.Machine.execCmpSetStep value s
  | .cmpSetPps value => Sys2Proof.Machine.execCmpSetPps value s
  | .ppsInEdge => Sys2Proof.Machine.execPpsInEdge s
  | .ppsSetTimeout => Sys2Proof.Machine.execPpsSetTimeout s
  | .ptpMessage port offsetNs taiUtc => Sys2Proof.Machine.execPtpMessage port offsetNs taiUtc s
  | .holdoverLimit => Sys2Proof.Machine.execHoldoverLimit s
  | .ppsOutPulse level => Sys2Proof.Machine.execPpsOutPulse level s
  | .cmpShortSRead => Sys2Proof.Machine.execCmpShortSRead s
  | .cmpZctSRead => Sys2Proof.Machine.execCmpZctSRead s
  | .mdmOldestSRead who => Sys2Proof.Machine.execMdmOldestSRead who s
  | .sysTagFreeRead who => Sys2Proof.Machine.execSysTagFreeRead who s
  | .provision => Sys2Proof.Machine.execProvision s
  | .keyImport => Sys2Proof.Machine.execKeyImport s
  | .lifecycle => Sys2Proof.Machine.execLifecycle s
  | .unlock => Sys2Proof.Machine.execUnlock s
  | .attest => Sys2Proof.Machine.execAttest s
  | .rollback => Sys2Proof.Machine.execRollback s
  | .revoke => Sys2Proof.Machine.execRevoke s
  | .stage image => Sys2Proof.Machine.execStage image s
  | .switch ready => Sys2Proof.Machine.execSwitch ready s
  | .switchReadyTimeout => Sys2Proof.Machine.execSwitchReadyTimeout s
  | .challenge => Sys2Proof.Machine.execChallenge s
  | .certs => Sys2Proof.Machine.execCerts s
  | .unlockExpire => Sys2Proof.Machine.execUnlockExpire s
  | .dbgLevelWrite value => Sys2Proof.Machine.execDbgLevelWrite value s
  | .tamperActivation input levels => Sys2Proof.Machine.execTamperActivation input levels s
  | .dbgHalt who => Sys2Proof.Machine.execDbgHalt who s
  | .dbgStep who => Sys2Proof.Machine.execDbgStep who s
  | .dbgResume who => Sys2Proof.Machine.execDbgResume who s
  | .detection code sel target next => Sys2Proof.Machine.execDetection code sel target next s
  | .injectReporting who value => Sys2Proof.Machine.execInjectReporting who value s
  | .injectFunctional who value row next => Sys2Proof.Machine.execInjectFunctional who value row next s
  | .injectDestructive who value row next => Sys2Proof.Machine.execInjectDestructive who value row next s
  | .selfTestStart => Sys2Proof.Machine.execSelfTestStart s
  | .selfTestDone target lasting spareRow => Sys2Proof.Machine.execSelfTestDone target lasting spareRow s
  | .unitRetire => Sys2Proof.Machine.execUnitRetire s
  | .relSelfTest who => Sys2Proof.Machine.execRelSelfTest who s
  | .relRetire who => Sys2Proof.Machine.execRelRetire who s
  | .excursionStart => Sys2Proof.Machine.execExcursionStart s
  | .excursionEnd => Sys2Proof.Machine.execExcursionEnd s
  | .excursionRetest target => Sys2Proof.Machine.execExcursionRetest target s
  | .recordSubmit kind key key2 payload pieces => Sys2Proof.Machine.execRecordSubmit kind key key2 payload pieces s
  | .pieceProgrammed => Sys2Proof.Machine.execPieceProgrammed s
  | .commitLanded => Sys2Proof.Machine.execCommitLanded s
  | .pieceFail => Sys2Proof.Machine.execPieceFail s
  | .compactionStart => Sys2Proof.Machine.execCompactionStart s
  | .compactionErase => Sys2Proof.Machine.execCompactionErase s
  | .refreshTrigger seg age corrected => Sys2Proof.Machine.execRefreshTrigger seg age corrected s
  | .recordCheckFail rseq => Sys2Proof.Machine.execRecordCheckFail rseq s
  | .bedSave value => Sys2Proof.Machine.execBedSave value s
  | .bedResumeHeld value => Sys2Proof.Machine.execBedResumeHeld value s
  | .queueEnable pair value => Sys2Proof.Machine.execQueueEnable pair value s
  | .queueDisable pair value => Sys2Proof.Machine.execQueueDisable pair value s
  | .sqDoorbell pair tail cmds => Sys2Proof.Machine.execSqDoorbell pair tail cmds s
  | .cqHeadWrite pair head => Sys2Proof.Machine.execCqHeadWrite pair head s
  | .nopCommand src => Sys2Proof.Machine.execNopCommand src s
  | .frameSend src gaddr svc dclass len => Sys2Proof.Machine.execFrameSend src gaddr svc dclass len s
  | .nodeProvision src eui wrapped => Sys2Proof.Machine.execNodeProvision src eui wrapped s
  | .nodeRemove src eui => Sys2Proof.Machine.execNodeRemove src eui s
  | .netkeySet src wrapped => Sys2Proof.Machine.execNetkeySet src wrapped s
  | .completionPost pair => Sys2Proof.Machine.execCompletionPost pair s
  | .eventPost => Sys2Proof.Machine.execEventPost s
  | .eventDropTimeout => Sys2Proof.Machine.execEventDropTimeout s
  | .fbdretWrite index => Sys2Proof.Machine.execFbdretWrite index s
  | .bar2Access ofs bytes data => Sys2Proof.Machine.execBar2Access ofs bytes data s
  | .headendDatagram port home typ gaddr svc dclass ref len => Sys2Proof.Machine.execHeadendDatagram port home typ gaddr svc dclass ref len s
  | .tpCharReceived port data bit stop => Sys2Proof.Machine.execTpCharReceived port data bit stop s
  | .tpRxdRead port who => Sys2Proof.Machine.execTpRxdRead port who s
  | .tpTxdWrite port who value => Sys2Proof.Machine.execTpTxdWrite port who value s
  | .tpCharSent port => Sys2Proof.Machine.execTpCharSent port s
  | .tpRxflush port who => Sys2Proof.Machine.execTpRxflush port who s
  | .tpTxflush port who => Sys2Proof.Machine.execTpTxflush port who s
  | .tpBreak port who => Sys2Proof.Machine.execTpBreak port who s
  | .tpResume port who => Sys2Proof.Machine.execTpResume port who s
  | .tpRateChangeApply port tx => Sys2Proof.Machine.execTpRateChangeApply port tx s
  | .tpBreakHeld port => Sys2Proof.Machine.execTpBreakHeld port s
  | .tpBreakHeldExit port => Sys2Proof.Machine.execTpBreakHeldExit port s
  | .tpSyncChar port data => Sys2Proof.Machine.execTpSyncChar port data s
  | .tpDisable port who value => Sys2Proof.Machine.execTpDisable port who value s
  | .chkInit unit who value => Sys2Proof.Machine.execChkInit unit who value s
  | .chkData8 unit who value mismatch => Sys2Proof.Machine.execChkData8 unit who value mismatch s
  | .chkData16 unit who value mismatch => Sys2Proof.Machine.execChkData16 unit who value mismatch s
  | .chkData32 unit who value mismatch => Sys2Proof.Machine.execChkData32 unit who value mismatch s
  | .chkStateWrite unit hi who value => Sys2Proof.Machine.execChkStateWrite unit hi who value s
  | .chkCfgWrite unit op who value => Sys2Proof.Machine.execChkCfgWrite unit op who value s
  | .chkStateLoRead unit who => Sys2Proof.Machine.execChkStateLoRead unit who s
  | .chkResultLoRead unit who => Sys2Proof.Machine.execChkResultLoRead unit who s
  | .chkHostWriteResume unit mismatch => Sys2Proof.Machine.execChkHostWriteResume unit mismatch s
  | .chkHostmaskWrite who value => Sys2Proof.Machine.execChkHostmaskWrite who value s
  | .registerWrite who ofs value env => Sys2Proof.Machine.execRegisterWrite who ofs value env s
  | .handoverQuery src mseq eui => Sys2Proof.Machine.execHandoverQuery src mseq eui s
  | .helloKeepalive => Sys2Proof.Machine.execHelloKeepalive s
  | .serdesBlockLock link => Sys2Proof.Machine.execSerdesBlockLock link s
  | .transactionResponse id memError => Sys2Proof.Machine.execTransactionResponse id memError s
  | .hbmTrainingComplete stack => Sys2Proof.Machine.execHbmTrainingComplete stack s
  | .coalescingTimeout pair => Sys2Proof.Machine.execCoalescingTimeout pair s
  | .rangingExchangeTimeout saddr rid => Sys2Proof.Machine.execRangingExchangeTimeout saddr rid s
  | .ethPortDisable port who value => Sys2Proof.Machine.execEthPortDisable port who value s
  | .memoryReserveWrite value => Sys2Proof.Machine.execMemoryReserveWrite value s

end Sys2Proof.Machine
end

