-- ==== Sys2Proof/WellFormed.lean ====
section
/-! DEFINITION. Which commands are well formed: every operand that names an instance names one the module has. -/

namespace Sys2Proof

/-- A feeder group. -/
abbrev wfGroup (fg : Nat) : Bool := decide (fg < 8)

/-- A feeder group or a line link after the groups. -/
abbrev wfLineGroup (fg : Nat) : Bool := decide (fg < 12)

/-- A line port. -/
abbrev wfPort (port : Nat) : Bool := decide (port < 24)

/-- A line port or, from 24, a neutral port. -/
abbrev wfInput (input : Nat) : Bool := decide (input < 32)

/-- A Trail port. -/
abbrev wfTrail (port : Nat) : Bool := decide (port < 8)

/-- An Ethernet port. -/
abbrev wfEth (port : Nat) : Bool := decide (port < 2)

/-- A check unit. -/
abbrev wfCheck (unit : Nat) : Bool := decide (unit < 16)

/-- A power domain. -/
abbrev wfDomain (unit : Nat) : Bool := decide (unit < 198)

/-- A Guyline link: SerDes 0 to 3, line links 4 to 7. -/
abbrev wfLink (link : Nat) : Bool := decide (link < 8)

/-- A pair of grid-sense channels. -/
abbrev wfBalance (pair : Nat) : Bool := decide (pair < 2)

/-- A queue pair. -/
abbrev wfPair (pair : Nat) : Bool := decide (pair < 64)

/-- A slot of the mains cycle. -/
abbrev wfCycleSlot (slot : Nat) : Bool := decide (slot < 12)

/-- A pack slot. -/
abbrev wfSlot (slot : Nat) : Bool := decide (slot < 16)

/-- A tamper input. -/
abbrev wfTamper (input : Nat) : Bool := decide (input < 4)

/-- A grid-sense channel. -/
abbrev wfChannel (channel : Nat) : Bool := decide (channel < 4)

/-- A notch entry. -/
abbrev wfNotch (n : Nat) : Bool := decide (n < 16)

/-- A balance point. -/
abbrev wfPoint (n : Nat) : Bool := decide (n < 24)

/-- An HBM stack. -/
abbrev wfStack (stack : Nat) : Bool := decide (stack < 4)

/-- A short address. -/
abbrev wfShort (saddr : Nat) : Bool := decide (saddr < 65536)

/-- A task context, engine × 4 + context. -/
abbrev wfCtx (k : Nat) : Bool := decide (k < 512)

/-- A BAR0 offset of a register. -/
abbrev wfOffset (ofs : Nat) : Bool := decide (ofs % 4 = 0 ∧ ofs < 0x4000000)

/-- A pseudo-channel. -/
abbrev wfPc (pc : Nat) : Bool := decide (pc < 128)

/-- Whether the operands of a command name instances the module has. -/
def Instr.wf : Instr → Bool
  | .vinStart _ _ _ _ => true
  | .lowSupplyTrip _ _ => true
  | .rstNAssert _ => true
  | .rstNRelease _ _ => true
  | .perstNRise => true
  | .perstNAssert => true
  | .wake _ => true
  | .watchTimeout => true
  | .modeReqServe _ => true
  | .modeReqSurge _ => true
  | .modeReqRest _ => true
  | .modeReqWatch _ => true
  | .modeTransitionComplete _ _ _ _ => true
  | .modeDrainForcedDisable unit => wfDomain unit
  | .pwrCapWrite _ _ => true
  | .powerCapControl _ _ _ => true
  | .pwrStatClear _ _ => true
  | .pwrFailAssert _ => true
  | .vinEmberCross _ _ => true
  | .emberExit _ _ => true
  | .emberMaxSExpire => true
  | .portCfgWrite port _ _ => wfInput port
  | .portDisable port _ _ => wfInput port
  | .portForcedDisable port => wfInput port
  | .txpathChangeApply port => wfPort port
  | .frameSchedule _ _ _ _ slot _ _ => wfCycleSlot slot
  | .frameNotStaged _ => true
  | .txFrameStart _ => true
  | .txFrameEnd _ => true
  | .paEnRelease port => wfPort port
  | .stagingUnderrun port => wfPort port
  | .foldbackTrigger port _ => wfPort port
  | .foldbackFurtherStep port _ => wfPort port
  | .overcurrentMute port _ => wfPort port
  | .agcLower input => wfInput input
  | .agcRaise input => wfInput input
  | .ownTxSuppressEnd fg => wfGroup fg
  | .overloadWindowEnd input _ => wfInput input
  | .ringBlockWrite input _ _ _ _ => wfInput input
  | .trackerLock fg _ _ => wfGroup fg
  | .phaseZero fg _ _ _ => wfGroup fg
  | .trackerHoldover fg => wfGroup fg
  | .trackerRelock fg _ _ => wfGroup fg
  | .zcOfsWrite fg _ _ => wfGroup fg
  | .trackerRefSwitch fg _ => wfGroup fg
  | .trackerRefReturn fg _ => wfGroup fg
  | .slotBoundary fg => wfGroup fg
  | .lpZcphaseRead fg _ _ => wfGroup fg
  | .lpIsenseRead port _ _ => wfPort port
  | .preambleDetection _ fg _ _ _ _ => wfLineGroup fg
  | .receptionOpen fg _ _ => wfLineGroup fg
  | .ringWaitResume _ _ => true
  | .receptionEnd _ _ => true
  | .checkpointWaitResume _ => true
  | .sicResume _ _ _ => true
  | .inputLostInReception fg => wfLineGroup fg
  | .harqBufferExpire _ _ => true
  | .rescanTrigger fg _ _ _ _ => wfGroup fg
  | .mdmRescanGo _ _ => true
  | .rescanStart _ => true
  | .rescanEnd _ _ => true
  | .ringDepthChange _ _ => true
  | .confidenceHalving _ slot => wfCycleSlot slot
  | .broadcastSounding fg => wfGroup fg
  | .uplinkSoundingRequest saddr => wfShort saddr
  | .staleSlotTimeout _ slot => wfCycleSlot slot
  | .uplinkMapIssue saddr => wfShort saddr
  | .retiredMapExpire saddr _ => wfShort saddr
  | .toneMap saddr _ _ _ _ _ _ _ => wfShort saddr
  | .channelReport saddr _ _ _ _ _ _ => wfShort saddr
  | .recordReleaseComplete _ _ => true
  | .mapPin _ => true
  | .mapUnpin _ => true
  | .mapRelease _ => true
  | .mapRequestSounding _ => true
  | .notchWrite n _ _ => wfNotch n
  | .notchApply => true
  | .bandcfgWrite fg _ _ => wfGroup fg
  | .bandChangeApply fg => wfGroup fg
  | .reflectometrySweep port _ _ _ => wfPort port
  | .networkBeacon plan => wfGroup plan.fg
  | .discoveryBeacon fg => wfGroup fg
  | .macBcncfgWrite fg _ _ => wfGroup fg
  | .assocReq fg _ _ _ _ _ => wfGroup fg
  | .assocTimeout saddr => wfShort saddr
  | .keyConfirm saddr fg _ _ => wfShort saddr && wfGroup fg
  | .quarantineExpire saddr => wfShort saddr
  | .uplinkAckSend saddr => wfShort saddr
  | .ackTimeout _ => true
  | .groupKeyChange _ => true
  | .groupKeyActivate fg => wfGroup fg
  | .nodeRelease _ => true
  | .nodeWake _ => true
  | .nodeForceReassoc _ => true
  | .rendezvousReq saddr _ _ _ => wfShort saddr
  | .checkin saddr _ _ _ => wfShort saddr
  | .checkinMissed saddr => wfShort saddr
  | .absentWakeRepeat saddr => wfShort saddr
  | .absentRelease saddr => wfShort saddr
  | .wakePatternDetect port _ => wfPort port
  | .wakeAnnounce saddr _ _ _ => wfShort saddr
  | .allocReq saddr _ _ _ _ _ _ _ _ _ _ _ => wfShort saddr
  | .allocEnd saddr _ _ => wfShort saddr
  | .leave saddr _ => wfShort saddr
  | .mgmtInvalid saddr _ _ _ _ _ => wfShort saddr
  | .neighbourReport saddr _ => wfShort saddr
  | .routeFailure saddr => wfShort saddr
  | .parentBeacon link _ _ => wfLink link
  | .parentBeaconMiss => true
  | .handoverDecision saddr _ => wfShort saddr
  | .offer saddr _ => wfShort saddr
  | .accept _ _ _ saddr => wfShort saddr
  | .commit _ _ _ _ => true
  | .abort _ _ _ => true
  | .handoverAcceptTimeout saddr => wfShort saddr
  | .pendingRecordTimeout _ _ => true
  | .ledgerSubmit _ _ _ _ _ _ => true
  | .ledgerCancel _ _ => true
  | .ledgerQuery _ _ => true
  | .ledgerRelease _ _ => true
  | .ledgerNext _ _ => true
  | .ledgerBatchLanded => true
  | .ledgerResend _ _ => true
  | .ledgerReport _ _ => true
  | .ledgerDeadline _ => true
  | .ledgerConfirmTimeout _ => true
  | .macLdgAccRead _ => true
  | .fbdWaitTimeout _ _ => true
  | .fbdReturnTake => true
  | .sweepNow _ _ _ => true
  | .baselineTake _ => true
  | .rangingSet _ => true
  | .evidenceRelease _ => true
  | .rangeResp saddr _ _ _ _ _ => wfShort saddr
  | .balancePointChange pair => wfBalance pair
  | .balanceDwellEnd pair _ n => wfBalance pair && wfPoint n
  | .meterRead saddr _ => wfShort saddr
  | .balanceIntervalEnd _ => true
  | .gsCfgWrite channel _ _ => wfChannel channel
  | .gsXptWrite channel _ _ => wfChannel channel
  | .sourceWrite _ _ _ => true
  | .gsRetWrite _ _ => true
  | .gsChangeApply channel => wfChannel channel
  | .lingo channel _ => wfChannel channel
  | .chargeReset channel _ => wfChannel channel
  | .gsSampleOutput channel _ _ _ _ _ => wfChannel channel
  | .gsChannelDrain channel => wfChannel channel
  | .calGo _ _ => true
  | .calibrationStart => true
  | .calMeasureDone _ => true
  | .calCommitLanded => true
  | .calTargetReturn => true
  | .calAbandon => true
  | .calLastSRead _ _ => true
  | .iNop k _ => wfCtx k
  | .iYield k _ => wfCtx k
  | .iEnd k _ => wfCtx k
  | .iFence k _ => wfCtx k
  | .iRet k _ => wfCtx k
  | .iJr k _ => wfCtx k
  | .iRdctx k _ => wfCtx k
  | .iBr k _ => wfCtx k
  | .iBz k _ => wfCtx k
  | .iBnz k _ => wfCtx k
  | .iCall k _ => wfCtx k
  | .iAdd k _ => wfCtx k
  | .iSub k _ => wfCtx k
  | .iAnd k _ => wfCtx k
  | .iOr k _ => wfCtx k
  | .iXor k _ => wfCtx k
  | .iShl k _ => wfCtx k
  | .iShr k _ => wfCtx k
  | .iSra k _ => wfCtx k
  | .iMul k _ => wfCtx k
  | .iMulhu k _ => wfCtx k
  | .iMin k _ => wfCtx k
  | .iMax k _ => wfCtx k
  | .iSlt k _ => wfCtx k
  | .iSltu k _ => wfCtx k
  | .iPopc k _ => wfCtx k
  | .iClz k _ => wfCtx k
  | .iAddi k _ => wfCtx k
  | .iAndi k _ => wfCtx k
  | .iOri k _ => wfCtx k
  | .iXori k _ => wfCtx k
  | .iShli k _ => wfCtx k
  | .iShri k _ => wfCtx k
  | .iSrai k _ => wfCtx k
  | .iLi k _ => wfCtx k
  | .iLih k _ => wfCtx k
  | .iHget k _ => wfCtx k
  | .iLds k _ => wfCtx k
  | .iSts k _ => wfCtx k
  | .iLdv k _ => wfCtx k
  | .iStv k _ => wfCtx k
  | .iVadd k _ => wfCtx k
  | .iVsub k _ => wfCtx k
  | .iVmul k _ => wfCtx k
  | .iVconj k _ => wfCtx k
  | .iVmag2 k _ => wfCtx k
  | .iVmin k _ => wfCtx k
  | .iVmax k _ => wfCtx k
  | .iVabs k _ => wfCtx k
  | .iVsel k _ => wfCtx k
  | .iVshri k _ => wfCtx k
  | .iVperm k _ => wfCtx k
  | .iVcmpgt k _ => wfCtx k
  | .iVcmpeq k _ => wfCtx k
  | .iVand k _ => wfCtx k
  | .iVxor k _ => wfCtx k
  | .iVsplat k _ => wfCtx k
  | .iVext k _ => wfCtx k
  | .iVdemap k _ => wfCtx k
  | .iCmac k _ => wfCtx k
  | .iCmacc k _ => wfCtx k
  | .iCmul k _ => wfCtx k
  | .iAclr k _ => wfCtx k
  | .iArnd k _ => wfCtx k
  | .iAreduce k _ => wfCtx k
  | .iPand k _ => wfCtx k
  | .iPor k _ => wfCtx k
  | .iPxor k _ => wfCtx k
  | .iPnot k _ => wfCtx k
  | .iPset k _ => wfCtx k
  | .iPget k _ => wfCtx k
  | .iQpush k _ => wfCtx k
  | .iQpop k _ => wfCtx k
  | .iQtpush k _ => wfCtx k
  | .iQtpop k _ => wfCtx k
  | .iQlen k _ => wfCtx k
  | .queueWaitResume k => wfCtx k
  | .iSpawn k _ => wfCtx k
  | .iTwait k _ => wfCtx k
  | .twaitResume k => wfCtx k
  | .iXfft k _ => wfCtx k
  | .iXfec k _ => wfCtx k
  | .iXcry k _ => wfCtx k
  | .iXchk k _ => wfCtx k
  | .iAwait k _ => wfCtx k
  | .iApoll k _ => wfCtx k
  | .xfFft _ => true
  | .xfIfft _ => true
  | .ldpcDecode _ => true
  | .ldpcEncode _ => true
  | .viterbiDecode _ => true
  | .convolutionalEncode _ => true
  | .reedSolomonDecode _ => true
  | .reedSolomonEncode _ => true
  | .gcmEncrypt _ => true
  | .gcmDecrypt _ => true
  | .ccmEncrypt _ => true
  | .ccmDecrypt _ => true
  | .chkFeed _ _ => true
  | .iUget k _ => wfCtx k
  | .iUput k _ _ => wfCtx k
  | .iTnow k _ => wfCtx k
  | .iZcrd k _ => wfCtx k
  | .iTwaitt k _ => wfCtx k
  | .twaittExpire k => wfCtx k
  | .iWslot k _ => wfCtx k
  | .wslotReturn k => wfCtx k
  | .taskMigrate k target => wfCtx k && wfCtx target
  | .tagWaitResume _ => true
  | .pseudoChannelAdmit pc => wfPc pc
  | .creditReturn _ => true
  | .linkHandshakeTimeout _ _ => true
  | .packLoad _ _ _ _ _ => true
  | .packUnload _ slot => wfSlot slot
  | .replOutgoingEnded => true
  | .replTimeLimit => true
  | .replAbort _ => true
  | .classSet _ _ _ _ _ _ _ _ _ _ => true
  | .classAssign _ _ _ _ _ _ _ => true
  | .placementReport _ _ _ _ => true
  | .ownerSet _ _ _ _ => true
  | .pitDrain _ => true
  | .pitForcedDisable _ => true
  | .pitRestore _ => true
  | .unitDrained unit => wfDomain unit
  | .drainBoundExpire unit => wfDomain unit
  | .spareTargetWrite _ => true
  | .pageMigrate _ _ _ _ => true
  | .hbmStepChange stack _ => wfStack stack
  | .scrubPass stack => wfStack stack
  | .memoryEccError _ _ _ _ => true
  | .snrReport _ _ => true
  | .glJoin _ _ => true
  | .glLeave _ _ => true
  | .hello link _ _ _ _ _ => wfLink link
  | .joinReq link _ _ _ _ => wfLink link
  | .joinAck link _ _ _ _ _ => wfLink link
  | .joinRefuse link _ _ _ _ _ => wfLink link
  | .joinRetry => true
  | .guylineLeave link _ _ => wfLink link
  | .route link _ _ _ _ _ => wfLink link
  | .guylineFrameForward link _ _ => wfLink link
  | .routeHoldTimeout => true
  | .controlRepeat _ => true
  | .guylineAck _ => true
  | .lineLinkBeacon link _ => wfLink link
  | .timeFrameSend => true
  | .timeFrame link _ _ _ => wfLink link
  | .serdesLoss link => wfLink link
  | .framSecondsWrite => true
  | .sourceQualify _ _ _ => true
  | .sourceLost _ _ => true
  | .compassStep => true
  | .cmpSetStep _ => true
  | .cmpSetPps _ => true
  | .ppsInEdge => true
  | .ppsSetTimeout => true
  | .ptpMessage port _ _ => wfEth port
  | .holdoverLimit => true
  | .ppsOutPulse _ => true
  | .cmpShortSRead => true
  | .cmpZctSRead => true
  | .mdmOldestSRead _ => true
  | .sysTagFreeRead _ => true
  | .provision => true
  | .keyImport => true
  | .lifecycle => true
  | .unlock => true
  | .attest => true
  | .rollback => true
  | .revoke => true
  | .stage _ => true
  | .switch _ => true
  | .switchReadyTimeout => true
  | .challenge => true
  | .certs => true
  | .unlockExpire => true
  | .dbgLevelWrite _ => true
  | .tamperActivation input _ => wfTamper input
  | .dbgHalt _ => true
  | .dbgStep _ => true
  | .dbgResume _ => true
  | .detection _ _ _ _ => true
  | .injectReporting _ _ => true
  | .injectFunctional _ _ _ _ => true
  | .injectDestructive _ _ _ _ => true
  | .selfTestStart => true
  | .selfTestDone _ _ _ => true
  | .unitRetire => true
  | .relSelfTest _ => true
  | .relRetire _ => true
  | .excursionStart => true
  | .excursionEnd => true
  | .excursionRetest _ => true
  | .recordSubmit _ _ _ _ _ => true
  | .pieceProgrammed => true
  | .commitLanded => true
  | .pieceFail => true
  | .compactionStart => true
  | .compactionErase => true
  | .refreshTrigger _ _ _ => true
  | .recordCheckFail _ => true
  | .bedSave _ => true
  | .bedResumeHeld _ => true
  | .queueEnable pair _ => wfPair pair
  | .queueDisable pair _ => wfPair pair
  | .sqDoorbell pair _ _ => wfPair pair
  | .cqHeadWrite pair _ => wfPair pair
  | .nopCommand _ => true
  | .frameSend _ _ _ _ _ => true
  | .nodeProvision _ _ _ => true
  | .nodeRemove _ _ => true
  | .netkeySet _ _ => true
  | .completionPost pair => wfPair pair
  | .eventPost => true
  | .eventDropTimeout => true
  | .fbdretWrite _ => true
  | .bar2Access _ _ _ => true
  | .headendDatagram port _ _ _ _ _ _ _ => wfEth port
  | .tpCharReceived port _ _ _ => wfTrail port
  | .tpRxdRead port _ => wfTrail port
  | .tpTxdWrite port _ _ => wfTrail port
  | .tpCharSent port => wfTrail port
  | .tpRxflush port _ => wfTrail port
  | .tpTxflush port _ => wfTrail port
  | .tpBreak port _ => wfTrail port
  | .tpResume port _ => wfTrail port
  | .tpRateChangeApply port _ => wfTrail port
  | .tpBreakHeld port => wfTrail port
  | .tpBreakHeldExit port => wfTrail port
  | .tpSyncChar port _ => wfTrail port
  | .tpDisable port _ _ => wfTrail port
  | .chkInit unit _ _ => wfCheck unit
  | .chkData8 unit _ _ _ => wfCheck unit
  | .chkData16 unit _ _ _ => wfCheck unit
  | .chkData32 unit _ _ _ => wfCheck unit
  | .chkStateWrite unit _ _ _ => wfCheck unit
  | .chkCfgWrite unit _ _ _ => wfCheck unit
  | .chkStateLoRead unit _ => wfCheck unit
  | .chkResultLoRead unit _ => wfCheck unit
  | .chkHostWriteResume unit _ => wfCheck unit
  | .chkHostmaskWrite _ _ => true
  | .registerWrite _ ofs _ _ => wfOffset ofs
  | .handoverQuery _ _ _ => true
  | .helloKeepalive => true
  | .serdesBlockLock link => wfLink link
  | .transactionResponse _ _ => true
  | .hbmTrainingComplete stack => wfStack stack
  | .coalescingTimeout pair => wfPair pair
  | .rangingExchangeTimeout saddr _ => wfShort saddr
  | .ethPortDisable port _ _ => wfEth port
  | .memoryReserveWrite _ => true

end Sys2Proof
end

