-- ==== Sys2Proof/Safety.lean ====
section
/-! DEFINITION. What counts as a good state and a good run, and the words the statements use: tables in canonical form, waiting
commands that name instances the module has, and what a command leaves as it was. -/

namespace Sys2Proof.Machine

open Sys2Proof

/-- Memory in canonical form: keys strictly rising, no byte equal to what an unlisted one reads as. -/
abbrev Memory.wf (m : List Host.Cell) : Prop := Tab.wf memDefault m

/-- The register file in canonical form. -/
abbrev Regs.wf (r : Tab Word) : Prop := Tab.wf regDefault r

/-- A good state: memory and registers in canonical form. -/
def State.Canonical (s : State) : Prop := Memory.wf s.mem ∧ Regs.wf s.regs

/-- Every waiting command is well formed. -/
def State.QueueWf (s : State) : Prop := ∀ c ∈ s.pending, Instr.wf c = true

/-- A step that answers a next state. -/
def Goes (s : State) : Prop := ∃ t, step s = .next t

/-- The parts of the state, one for each field. -/
inductive Part where
  | pins | pwr | units | fab | regs | mem | hst | eth | cmp | rel | bed | prog | plc | chk | lin | rx | maps | mac | ldg | gl | fm
  | gs | cal | sec | tp | free | pending
  deriving DecidableEq, Repr

/-- Part `p` is the same in both states. -/
def State.SameAt (s t : State) : Part → Prop
  | .pins => t.pins = s.pins
  | .pwr => t.pwr = s.pwr
  | .units => t.units = s.units
  | .fab => t.fab = s.fab
  | .regs => t.regs = s.regs
  | .mem => t.mem = s.mem
  | .hst => t.hst = s.hst
  | .eth => t.eth = s.eth
  | .cmp => t.cmp = s.cmp
  | .rel => t.rel = s.rel
  | .bed => t.bed = s.bed
  | .prog => t.prog = s.prog
  | .plc => t.plc = s.plc
  | .chk => t.chk = s.chk
  | .lin => t.lin = s.lin
  | .rx => t.rx = s.rx
  | .maps => t.maps = s.maps
  | .mac => t.mac = s.mac
  | .ldg => t.ldg = s.ldg
  | .gl => t.gl = s.gl
  | .fm => t.fm = s.fm
  | .gs => t.gs = s.gs
  | .cal => t.cal = s.cal
  | .sec => t.sec = s.sec
  | .tp => t.tp = s.tp
  | .free => t.free = s.free
  | .pending => t.pending = s.pending

/-- From `s` to `t` only the listed parts may have changed. -/
def State.OnlyIn (s : State) (l : List Part) (t : State) : Prop := ∀ p, p ∉ l → s.SameAt t p

/-- From `s` to `t` only the listed register instances may have changed. -/
def State.RegsOnly (s : State) (l : List (Reg × Nat)) (t : State) : Prop := ∀ r i, (r, i) ∉ l → t.reg r i = s.reg r i

/-- From `s` to `t` only bits `lo` to `lo + width - 1` of the register of a field may have changed, and no other register. -/
def State.FieldOnly (s : State) (f : Fld) (i : Nat) (t : State) : Prop :=
  s.RegsOnly [(f.reg, i)] t ∧ ∀ n, n < f.lo ∨ f.lo + f.width ≤ n → (t.reg f.reg i).getLsbD n = (s.reg f.reg i).getLsbD n

/-- PARAM and the signer of the delivered body of a signed command (R450). -/
def State.param (s : State) : List Byte := (s.body.drop 88).take (leNat ((s.body.drop 2).take 2))
def State.signer (s : State) : Nat := leNat ((s.body.drop 4).take 1)

/-- Whether the delivered body answers the challenge and bears a good signature over a block of opcode `op` (R450). -/
def State.authentic (s : State) (op : Nat) : Bool :=
  (match s.sec.challenge with
   | none => false
   | some c => (s.body.drop 8).take 48 == Config.devId && (s.body.drop 56).take 32 == natLe 32 c.toNat) &&
  decide (leNat (s.body.take 2) = op ∧ s.body.length = 88 + leNat ((s.body.drop 2).take 2) + 96) &&
  Config.verify (if s.signer = 0 then none else s.ownerKey (s.signer - 1)) (s.body.take (88 + leNat ((s.body.drop 2).take 2)))
    (s.body.drop (88 + leNat ((s.body.drop 2).take 2)))

/-- Whether an instruction of `n` words on context `k` that uses the listed registers issues, for the context's task `t` with record `x`:
the context may issue, the words lie in the code handle, no register waits for a result (R350). -/
def State.Issues (s : State) (k n : Nat) (regs : List CtxReg) (t : Nat) (x : Task) : Prop :=
  (s.ctx k).task = some t ∧ s.task t = some x ∧ s.mayIssue k x = true ∧ s.fetchOk k x (4 * n) = true ∧
    regs.any (fun r => (s.ctx k).busy.contains r) = false

/-- `s` with the program counter of context `k` past an instruction of `n` words. -/
def State.past (s : State) (k n : Nat) : State :=
  s.setCtx k { s.ctx k with
    pc := (s.ctx k).pc + 4 * n
    stepOne := false
    yielded := false }

/-- `s` past one word with the lanes of `v`, of element type `ty`, in the destination vector of `f` where its predicate bits are 1 (R359). -/
def State.merged (s : State) (k : Nat) (f : FmtR) (ty : Nat) (v : Vec) : State :=
  (s.past k 1).setVr k f.d.toNat (mergeLanes ty (s.pr k f.pg.toNat) (s.vr k f.d.toNat) v)

/-- The command answers a next state of which `P` holds. -/
def Gives (c : Instr) (s : State) (P : State → Prop) : Prop := ∃ t, exec c s = .next t ∧ P t

end Sys2Proof.Machine
end

