-- ==== Sys2Proof/Certificates/Slice0/Obligations.lean ====
section
/-! DEFINITION. The statements for the provers: what each command of the module does, and what holds of every step. -/

open Sys2Proof Sys2Proof.Machine

/-- Start-up, loss of supply and RST_n (R41, R65, R67, R432). VIN_START in OFF with VIN at 2.80 V or more starts Compass
at its stored second plus 1 and, with RST_n high, runs the start-up steps to REST, else waits in REST; below it the
module stays in OFF. RST_N_RELEASE clears BOOT_FAIL and runs the same steps with cause 9. A start-up ends in REST.
LOW_SUPPLY_TRIP at 2.68 V or less leaves OFF with the outputs clamped, memory, programs, lines and maps gone, the
fuses and installed images as they were, above 2.68 V it only sees the supply; RST_N_ASSERT leaves the same with RST_n
low and the Groundsheet powered. COMPLETES (exec answers a next state under hypotheses on state and operands alone):
vinStart, lowSupplyTrip, rstNAssert, rstNRelease. -/
def Obligations.StartUpAndLossOfSupply : Prop :=
  (∀ (vin : Nat) (pf a b : Bool) (s : State), s.pwr.mode = .off → 2800 ≤ vin → s.pins.rstN = true →
    exec (.vinStart vin pf a b) s =
      .next ({ s with pins := { s.pins with vinMv := vin, pwrFailN := pf },
                      cmp := { running := true, sec := s.cmp.framSec + 1, framSec := s.cmp.framSec } }.startUp a b 0)) ∧
  (∀ (vin : Nat) (pf a b : Bool) (s : State), s.pwr.mode = .off → 2800 ≤ vin → s.pins.rstN = false →
    exec (.vinStart vin pf a b) s =
      .next { s with pins := { s.pins with vinMv := vin, pwrFailN := pf }, pwr := { mode := .rest },
                     cmp := { running := true, sec := s.cmp.framSec + 1, framSec := s.cmp.framSec } }) ∧
  (∀ (vin : Nat) (pf a b : Bool) (s : State), s.pwr.mode ≠ .off ∨ vin < 2800 →
    exec (.vinStart vin pf a b) s = .next { s with pins := { s.pins with vinMv := vin, pwrFailN := pf } }) ∧
  (∀ (vin : Nat) (started : Bool) (s : State), s.pwr.mode = .off ∨ 2680 < vin →
    exec (.lowSupplyTrip vin started) s = .next { s with pins := { s.pins with vinMv := vin } }) ∧
  (∀ (a b : Bool) (s : State), s.pwr.mode ≠ .off → s.pins.rstN = false →
    exec (.rstNRelease a b) s =
      .next (({ s with pins := { s.pins with rstN := true } }.setFld F.PWR_STAT_BOOT_FAIL 0 0).startUp a b 9)) ∧
  (∀ (a b : Bool) (cause : Nat) (s : State), (s.startUp a b cause).pwr.mode = .rest) ∧
  (∀ (vin : Nat) (started : Bool) (s : State), s.pwr.mode ≠ .off → vin ≤ 2680 →
    Gives (.lowSupplyTrip vin started) s fun t => t.pwr.mode = .off ∧ t.pwr.doms = [] ∧ t.pins.clamped = true ∧ t.pins.vinMv = vin ∧
      t.cmp.running = false ∧ t.mem = [] ∧ t.prog = {} ∧ t.lin = {} ∧ t.maps = {} ∧ t.sec.fuse = (s.finishCommit started).sec.fuse ∧
      t.sec.banks = (s.finishCommit started).sec.banks ∧ t.bed.records = (s.finishCommit started).bed.records) ∧
  (∀ (started : Bool) (s : State), s.pwr.mode ≠ .off →
    Gives (.rstNAssert started) s fun t => t.pwr.mode = .rest ∧ t.pwr.doms = [] ∧ t.pwr.coreOn = false ∧ t.pins.clamped = true ∧
      t.pins.rstN = false ∧ t.mem = [] ∧ t.prog = {} ∧ t.lin = {} ∧ t.maps = {})

/-- Mode requests begin, are held, or are refused (R46, R47, Operating modes (02)). With the write let pass, no transition
running and no trigger present: MODE_REQ_SURGE in SERVE and MODE_REQ_SERVE in SURGE begin the transition with cause 1;
MODE_REQ_REST and MODE_REQ_WATCH in SERVE begin it and drain every unit outside the mode that is on. Any of the four
while a transition runs is held and changes nothing else but the interrupt level. MODE_REQ_SURGE from REST or WATCH
sets PWR_STAT.REFUSED. COMPLETES (exec answers a next state under hypotheses on state and operands alone):
modeReqServe, modeReqSurge, modeReqRest, modeReqWatch. -/
def Obligations.ModeRequestsAreJudged : Prop :=
  (∀ (who : Who) (s : State), s.gate who .PWR_MODE 0 = .pass → s.pwr.trans = none → s.triggered = false → s.pwr.mode = .serve →
    exec (.modeReqSurge who) s = .next { s with pwr := { s.pwr with trans := some ⟨.surge, 1⟩ } }.noteIrq1 ∧
    exec (.modeReqRest who) s = .next (({ s with pwr := { s.pwr with trans := some ⟨.rest, 1⟩ } }.drainsForMode
      ((offIn .rest).filter fun i => s.dom i == DomState.on)).noteIrq1) ∧
    exec (.modeReqWatch who) s = .next (({ s with pwr := { s.pwr with trans := some ⟨.watch, 1⟩ } }.drainsForMode
      ((offIn .watch).filter fun i => s.dom i == DomState.on)).noteIrq1)) ∧
  (∀ (who : Who) (s : State), s.gate who .PWR_MODE 0 = .pass → s.pwr.trans = none → s.triggered = false → s.pwr.mode = .surge →
    exec (.modeReqServe who) s = .next { s with pwr := { s.pwr with trans := some ⟨.serve, 1⟩ } }.noteIrq1) ∧
  (∀ (who : Who) (s : State), s.gate who .PWR_MODE 0 = .pass → s.pwr.trans.isSome = true →
    exec (.modeReqServe who) s = .next { s with pwr := { s.pwr with heldReq := some .serve } }.noteIrq1 ∧
    exec (.modeReqSurge who) s = .next { s with pwr := { s.pwr with heldReq := some .surge } }.noteIrq1 ∧
    exec (.modeReqRest who) s = .next { s with pwr := { s.pwr with heldReq := some .rest } }.noteIrq1 ∧
    exec (.modeReqWatch who) s = .next { s with pwr := { s.pwr with heldReq := some .watch } }.noteIrq1) ∧
  (∀ (who : Who) (s : State), s.gate who .PWR_MODE 0 = .pass → s.pwr.trans = none → s.triggered = false →
    s.pwr.mode = .rest ∨ s.pwr.mode = .watch →
    exec (.modeReqSurge who) s = .next (s.setFld F.PWR_STAT_REFUSED 0 1).noteIrq1)

/-- Transitions complete, wait for their drains, and begin on timers (R45, R46, R47, R52, R63). MODE_TRANSITION_COMPLETE
of a running transition between SERVE and SURGE, with no trigger present and nothing held, enters the target mode,
holds the core voltage and the memory steps within it, takes the transition away, stores its cause in PWR_MODE.CAUSE
and changes no other register; a transition to REST whose units are not all off waits unchanged.
MODE_DRAIN_FORCED_DISABLE forces a unit that the target of a transition to REST or WATCH leaves off and that still
drains. WATCH_TIMEOUT, EMBER_MAX_S_EXPIRE and EMBER_EXIT begin their transitions with causes 0xB, 8 and 7 when their
conditions hold. COMPLETES (exec answers a next state under hypotheses on state and operands alone): watchTimeout,
modeTransitionComplete, modeDrainForcedDisable, emberExit, emberMaxSExpire. -/
def Obligations.TransitionsCompleteOrWait : Prop :=
  (∀ (vin : Nat) (pf : Bool) (power keep : List Nat) (s : State) (c : Nat), s.pwr.mode = .serve → s.pwr.trans = some ⟨.surge, c⟩ →
    (s.seeSupply vin pf).triggered = false → s.pwr.heldReq = none →
    exec (.modeTransitionComplete vin pf power keep) s =
      .next ((({ s with pwr := { s.pwr with mode := .surge, trans := none, vcoreMv := min 850 s.pwr.vcoreMv, perst := false,
                                            heldWake := none, ember := { s.pwr.ember with held := none } },
                        plc := { s.plc with steps := s.plc.steps.map fun (p : Nat × Nat) => (p.1, min 2 p.2) },
                        pins := { s.pins with vinMv := vin, pwrFailN := pf } }.setFld F.PWR_MODE_CAUSE 0 c).dropChallenge).noteIrq1)) ∧
  (∀ (vin : Nat) (pf : Bool) (power keep : List Nat) (s : State) (c : Nat), s.pwr.mode = .surge → s.pwr.trans = some ⟨.serve, c⟩ →
    (s.seeSupply vin pf).triggered = false → s.pwr.heldReq = none →
    exec (.modeTransitionComplete vin pf power keep) s =
      .next ((({ s with pwr := { s.pwr with mode := .serve, trans := none, vcoreMv := min 800 s.pwr.vcoreMv, perst := false,
                                            heldWake := none, ember := { s.pwr.ember with held := none } },
                        plc := { s.plc with steps := s.plc.steps.map fun (p : Nat × Nat) => (p.1, min 1 p.2) },
                        pins := { s.pins with vinMv := vin, pwrFailN := pf } }.setFld F.PWR_MODE_CAUSE 0 c).dropChallenge).noteIrq1)) ∧
  (∀ (vin : Nat) (pf : Bool) (power keep : List Nat) (s : State) (c i : Nat), s.pwr.trans = some ⟨.rest, c⟩ → i < domCount →
    s.dom i = .on → exec (.modeTransitionComplete vin pf power keep) s = .next s) ∧
  (∀ (i : Nat) (s : State) (t : Transition) (d : Drain), s.pwr.trans = some t → t.target = .rest ∨ t.target = .watch → s.drain i = some d →
    (offIn t.target).contains i = true → exec (.modeDrainForcedDisable i) s = .next (s.forceUnit i .mode)) ∧
  (∀ (s : State), s.pwr.mode = .watch → s.pwr.trans = none → s.fld F.PWR_WAKECFG_WATCH_S 0 ≠ 0 →
    s.pwr.watchSince + s.fld F.PWR_WAKECFG_WATCH_S 0 ≤ s.cmp.sec →
    exec .watchTimeout s = .next ({ s with pwr := { s.pwr with trans := some ⟨.rest, 0xB⟩ } }.drainsForMode
      ((offIn .rest).filter fun i => s.dom i == DomState.on))) ∧
  (∀ (s : State), s.pwr.mode = .ember → s.pwr.trans = none → s.flag F.PWR_EMBER_AFTER 0 = true → s.fld F.PWR_EMBER_MAX_S 0 ≠ 0 →
    s.pwr.ember.entry.s + s.fld F.PWR_EMBER_MAX_S 0 ≤ s.cmp.sec % 2 ^ 32 →
    exec .emberMaxSExpire s = .next ({ s with pwr := { s.pwr with trans := some ⟨.rest, 8⟩ } }.drainsForMode
      ((offIn .rest).filter fun i => s.dom i == DomState.on))) ∧
  (∀ (vin : Nat) (pf : Bool) (s : State), s.pwr.mode = .ember → s.pwr.trans = none → (s.seeSupply vin pf).triggersClear = true →
    exec (.emberExit vin pf) s = .next ((s.seeSupply vin pf).noteIrq1.beginMode s.pwr.ember.prev 7))

/-- What PWR_FAIL_n and VIN do in each mode (R57, R58, R63, Mode transitions (02)). PWR_FAIL_ASSERT with PF_EN, and
VIN_EMBER_CROSS with VE_EN below VIN_EMBER, enter EMBER from SERVE and SURGE with causes 5 and 6; in REST and WATCH
without a transition they set PWR_STAT.PF and post an event record with the cause; with the trigger not enabled only
the pin or the supply is seen. COMPLETES (exec answers a next state under hypotheses on state and operands alone):
pwrFailAssert, vinEmberCross. -/
def Obligations.EmberTriggersActByMode : Prop :=
  (∀ (keep : List Nat) (s : State), s.flag F.PWR_EMBER_PF_EN 0 = true → s.pwr.mode = .serve ∨ s.pwr.mode = .surge →
    exec (.pwrFailAssert keep) s = .next (({ s with pins := { s.pins with pwrFailN := false } }.enterEmber 5 keep).noteIrq1)) ∧
  (∀ (keep : List Nat) (s : State), s.flag F.PWR_EMBER_PF_EN 0 = true → s.pwr.mode = .rest ∨ s.pwr.mode = .watch → s.pwr.trans = none →
    exec (.pwrFailAssert keep) s = .next ((({ s with pins := { s.pins with pwrFailN := false } }.setFld F.PWR_STAT_PF 0 1).noteIrq1.event .ok
      pagePwr [(1, 5)]).noteIrq1)) ∧
  (∀ (keep : List Nat) (s : State), s.flag F.PWR_EMBER_PF_EN 0 = false →
    exec (.pwrFailAssert keep) s = .next { s with pins := { s.pins with pwrFailN := false } }.noteIrq1) ∧
  (∀ (vin : Nat) (keep : List Nat) (s : State), s.flag F.PWR_EMBER_VE_EN 0 = true → vin < 100 * s.fld F.PWR_EMBER_VIN_EMBER 0 →
    s.pwr.mode = .serve ∨ s.pwr.mode = .surge →
    exec (.vinEmberCross vin keep) s = .next (({ s with pins := { s.pins with vinMv := vin } }.enterEmber 6 keep).noteIrq1)) ∧
  (∀ (vin : Nat) (keep : List Nat) (s : State), s.flag F.PWR_EMBER_VE_EN 0 = false →
    exec (.vinEmberCross vin keep) s = .next { s with pins := { s.pins with vinMv := vin } }.noteIrq1)

/-- PERST_n, wakes, the power registers and the power cap (R49, R50, R51, R54, R55, R56, R558). PERST_N_RISE in REST with
PERST_EN and no transition begins the way to SERVE with WAKE_OUT, WAKE_PERST and cause 2; during a transition to REST
or WATCH it is held to its end. PERST_N_ASSERT pulls the pin low, disables every pair, clears the windows and looks at
the interrupt level. WAKE from an enabled source in REST or WATCH sets WAKE_OUT and the source's bit; during a
transition its move is held. PWR_CAP_WRITE stores WATTS held within 10 to 112. PWR_STAT_CLEAR clears the bits written
1. POWER_CAP_CONTROL within the cap admits work and sets the core voltage in steps of 10 mV within the mode's range;
above it the core voltage falls by 10 mV first. COMPLETES (exec answers a next state under hypotheses on state and
operands alone): perstNRise, perstNAssert, wake, pwrCapWrite, powerCapControl, pwrStatClear. -/
def Obligations.WakesAndPowerRegisters : Prop :=
  (∀ (s : State), s.pins.perstN = false → s.pwr.mode = .rest → s.pins.rstN = true → s.pwr.trans = none →
    s.flag F.PWR_WAKECFG_PERST_EN 0 = true →
    s.flag F.PWR_STAT_BOOT_FAIL 0 = false →
    exec .perstNRise s = .next ((({ s with pins := { s.pins with perstN := true, wakeOut := true } }.setFld F.PWR_STAT_WAKE_PERST 0 1).noteWatch).beginUp
      .serve 2)) ∧
  (∀ (s : State) (t : Transition), s.pins.perstN = false → s.pwr.mode ≠ .off → s.pwr.trans = some t →
    exec .perstNRise s =
      .next { s with pins := { s.pins with perstN := true }, pwr := { s.pwr with perst := t.target == .rest || t.target == .watch } }) ∧
  (∀ (src : Nat) (s : State), s.pwr.mode = .rest ∨ s.pwr.mode = .watch → s.pins.rstN = true → s.wakeEnabled src = true →
    s.pwr.trans.isSome = true →
    exec (.wake src) s = .next { (({ s with pins := { s.pins with wakeOut := true } }.setFld
      (if src < 8 then F.PWR_STAT_WAKE_TP else F.PWR_STAT_WAKE_LAN) 0 1).noteWatch).noteIrq1 with
        pwr := { s.pwr with watchSince := s.cmp.sec, heldWake := some (if src < 8 then 3 else 4) } }) ∧
  (∀ (src : Nat) (s : State), s.pwr.mode = .rest ∨ s.pwr.mode = .watch → s.pins.rstN = true → s.wakeEnabled src = true →
    Gives (.wake src) s fun t => t.pins.wakeOut = true) ∧
  (∀ (who : Who) (v : Word) (s : State), s.gate who .PWR_CAP 0 = .pass → s.pwr.mode ≠ .surge →
    exec (.pwrCapWrite who v) s = .next (s.setReg .PWR_CAP 0 (pwrCapForm (plainWrite .PWR_CAP (s.reg .PWR_CAP 0) v)))) ∧
  (∀ (w : Word), 10 ≤ getBits (pwrCapForm w) 0 7 ∧ getBits (pwrCapForm w) 0 7 ≤ 112) ∧
  (∀ (who : Who) (v : Word) (s : State), s.gate who .PWR_STAT 0 = .pass →
    getBits (plainWrite .PWR_STAT (s.reg .PWR_STAT 0) v) 0 3 ≠ 0 →
    exec (.pwrStatClear who v) s = .next ((s.setReg .PWR_STAT 0 (plainWrite .PWR_STAT (s.reg .PWR_STAT 0) v)).noteIrq1)) ∧
  (∀ (who : Who) (v : Word) (s : State), s.gate who .PWR_STAT 0 = .pass →
    getBits (plainWrite .PWR_STAT (s.reg .PWR_STAT 0) v) 0 3 = 0 →
    exec (.pwrStatClear who v) s = .next ({ s.setReg .PWR_STAT 0 (plainWrite .PWR_STAT (s.reg .PWR_STAT 0) v) with
      pins := { s.pins with wakeOut := false } }.noteIrq1)) ∧
  (∀ (demand vcore : Nat) (idle : List Nat) (s : State), s.pwr.mode = .serve ∨ s.pwr.mode = .surge → demand ≤ 10 * s.capInForce →
    exec (.powerCapControl demand vcore idle) s =
      .next { s with plc := { s.plc with capSteps := [] },
                     pwr := { s.pwr with admits := true, vcoreMv := clampNat 700 (vcoreTop s.pwr.mode) (vcore / 10 * 10) } }) ∧
  (∀ (demand vcore : Nat) (idle : List Nat) (s : State), s.pwr.mode = .serve ∨ s.pwr.mode = .surge → 10 * s.capInForce < demand →
    700 < s.pwr.vcoreMv →
    exec (.powerCapControl demand vcore idle) s = .next { s with pwr := { s.pwr with vcoreMv := s.pwr.vcoreMv - 10 } }) ∧
  (∀ (s : State),
    exec .perstNAssert s =
      .next ((({ s with pins := { s.pins with perstN := false } }.disablePairs (List.range 64)).clearWindows (List.range 16)).noteIrq1))

/-- Configuration and disabling of line and neutral ports (R68, R69, R93, R94, R215, R217, R398). A write of LP_CFG or
NP_CFG that is let pass stores the judged word, posts DENIED once per refused field and lets EN act; PORT_DISABLE is
that write with EN = 0. A write that would take a role and group already taken, or move an enabled port, keeps ROLE
and FG. PORT_FORCED_DISABLE mutes a powered line port at once and leaves it draining with abandoned work.
PORT_FORCED_DISABLE of a neutral port stops its sampling. TXPATH_CHANGE_APPLY with nothing on the line brings the
written path into force and changes nothing else. COMPLETES (exec answers a next state under hypotheses on state and
operands alone): portCfgWrite, portDisable, portForcedDisable, txpathChangeApply. -/
def Obligations.PortsAreConfiguredAndDisabled : Prop :=
  (∀ (p : Nat) (who : Who) (v : Word) (s : State), s.gate who (cfgReg p).1 (cfgReg p).2 = .pass →
    exec (.portCfgWrite p who v) s = .next (
      let s1 := (s.setReg (cfgReg p).1 (cfgReg p).2 (s.portCfgStored p v).1).portDenied p (s.portCfgStored p v).2
      (if decide (p < 24) && (!s.portEn p || !s1.onAir p) then s1.setPort p { s1.port p with path := s1.fld F.LP_CFG_TXPATH p }
       else s1).portEnabled p (s.portEn p))) ∧
  (∀ (p : Nat) (who : Who) (v : Word) (s : State), exec (.portDisable p who v) s = exec (.portCfgWrite p who (putBits v 0 1 0)) s) ∧
  (∀ (p : Nat) (v : Word) (s : State), p < 24 →
    roleMoved (s.portCfg p) (portCfgForm p (plainWrite .LP_CFG (s.portCfg p) v)) = true → s.portEn p = true →
    getBits (s.portCfgStored p v).1 4 3 = s.portRole p ∧ getBits (s.portCfgStored p v).1 8 3 = s.portFg p ∧
      1 ≤ (s.portCfgStored p v).2) ∧
  (∀ (p : Nat) (s : State), p < 24 → (s.mutePort p).dom (domLps p) = .on →
    exec (.portForcedDisable p) s = .next ((s.mutePort p).setDrain (portUnit p)
      (some { why := (((s.mutePort p).drain (portUnit p)).map Drain.why).getD .host, abandoned := true,
              restore := (((s.mutePort p).drain (portUnit p)).map Drain.restore).getD false }))) ∧
  (∀ (p : Nat) (s : State), 24 ≤ p → Gives (.portForcedDisable p) s fun t => (t.port p).stopped = true ∧ t.portOn p = false) ∧
  (∀ (p : Nat) (s : State), p < 24 → s.onAir p = false →
    exec (.txpathChangeApply p) s = .next (s.setPort p { s.port p with path := s.fld F.LP_CFG_TXPATH p }))

/-- Receive gain, own transmission, overload and current sensing (R74, R78, R79, R80, R82). AGC_LOWER and AGC_RAISE of an
input whose AGC acts move the gain by one code, with its entry in the gain log at the next narrow sample, and stop at
codes 0 and 6. OWN_TX_SUPPRESS_END with none of the group's ports on the line ends the suppression of that group only
and closes its span of own samples. OVERLOAD_WINDOW_END of a second that is over and recorded takes its clipped runs
away; more than half a window clipped also posts LIMIT, counts detection 5 and queues the port's self-test. A read of
LP_ISENSE returns NOW and PEAK and clears PEAK. COMPLETES (exec answers a next state under hypotheses on state and
operands alone): agcLower, agcRaise, ownTxSuppressEnd, overloadWindowEnd, lpIsenseRead. -/
def Obligations.GainAndOverload : Prop :=
  (∀ (p : Nat) (s : State), s.agcActs p = true → s.gain p ≠ 0 →
    exec (.agcLower p) s = .next ((s.setPortStat p 4 3 (s.gain p - 1)).setRing p
      { s.ring p with gains := (s.ring p).gains ++ [(sampleAfter s.now, s.gain p - 1)] })) ∧
  (∀ (p : Nat) (s : State), s.agcActs p = true → s.gain p < 6 →
    exec (.agcRaise p) s = .next ((s.setPortStat p 4 3 (s.gain p + 1)).setRing p
      { s.ring p with gains := (s.ring p).gains ++ [(sampleAfter s.now, s.gain p + 1)] })) ∧
  (∀ (p : Nat) (s : State), s.gain p = 0 → exec (.agcLower p) s = .next s) ∧
  (∀ (p : Nat) (s : State), 6 ≤ s.gain p → exec (.agcRaise p) s = .next s) ∧
  (∀ (g : Nat) (s : State), (s.groupPorts g).any s.onAir = false →
    exec (.ownTxSuppressEnd g) s = .next { s with lin := { s.lin with
      ownTx := s.lin.ownTx.filter fun x => x != g
      ownSpans := s.lin.ownSpans.map fun (o : OwnSpan) => if o.fg = g ∧ o.until_ = none then { o with until_ := some (stampNs s.now) } else o } }) ∧
  (∀ (p sec : Nat) (s : State), p < 32 → sec < s.now.s → Tab.get (fun _ => 0) (s.port p).runs sec ≠ 0 → 2 * Tab.get (fun _ => 0) (s.port p).runs sec ≤ runsPerWindow →
    (∀ b, (s.ring p).blocks.getLast? = some b → (sec + 1) * 10 ^ 9 ≤ stampNs b.t0 + 2048000) →
    exec (.overloadWindowEnd p sec) s = .next (s.setPort p { s.port p with runs := Tab.set (fun _ => 0) (s.port p).runs sec 0 })) ∧
  (∀ (p sec : Nat) (s : State), p < 32 → sec < s.now.s → runsPerWindow < 2 * Tab.get (fun _ => 0) (s.port p).runs sec →
    (∀ b, (s.ring p).blocks.getLast? = some b → (sec + 1) * 10 ^ 9 ≤ stampNs b.t0 + 2048000) →
    exec (.overloadWindowEnd p sec) s =
      .next ((((s.setPort p { s.port p with runs := Tab.set (fun _ => 0) (s.port p).runs sec 0 }).portEvent .limit p []).countDetectionAt 5
        (pagePort p) (portNo p)).queueTest { target := portTarget p, det := 5 })) ∧
  (∀ (p mv : Nat) (who : Who) (s : State), s.readable who .LP_ISENSE p = true →
    exec (.lpIsenseRead p mv who) s =
      .next (((s.sense p mv).setFld F.LP_ISENSE_PEAK p 0).returns (((s.sense p mv).reg .LP_ISENSE p).setWidth 64))) ∧
  (∀ (p mv : Nat) (who : Who) (s : State), s.readable who .LP_ISENSE p = false → exec (.lpIsenseRead p mv who) s = .next (s.returns 0))

/-- Fold-back, overcurrent, underrun and release of the amplifier (R26, R73, R84, R86). FOLDBACK_TRIGGER of a port on the
line with a reading above LIM stores the reading and lowers every port of the fold-back set, from the set's level, by
the set's step, not beyond its floor and never up; FOLDBACK_FURTHER_STEP does the same where the port is folded back
already. With a reading not above LIM only the reading is stored. OVERCURRENT_MUTE above ABS ends the set's frames
with ABANDONED, releases PA_EN_n, sets OC and takes detection 6. STAGING_UNDERRUN ends the port's frames, sets UNDER
and counts detection 15. PA_EN_RELEASE with nothing on the line and no frame due within LEAD + TRAIL clears PA_EN of
that port only. COMPLETES (exec answers a next state under hypotheses on state and operands alone): paEnRelease,
stagingUnderrun, foldbackTrigger, foldbackFurtherStep, overcurrentMute. -/
def Obligations.FoldbackAndMuting : Prop :=
  (∀ (p mv : Nat) (s : State), p < 24 → s.onAir p = true → s.fld F.LP_FBCFG_LIM p < mv →
    exec (.foldbackTrigger p mv) s = .next ((s.sense p mv).setStats 8 8 (min (s.setDb (s.foldSet [p] 3) + s.foldStep (s.foldSet [p] 3))
      (max (s.setDb (s.foldSet [p] 3)) (s.foldFloor (s.foldSet [p] 3)))) (s.foldSet [p] 3))) ∧
  (∀ (p mv : Nat) (s : State), p < 24 → s.onAir p = true → s.fld F.LP_FBCFG_LIM p < mv → s.foldDb p ≠ 0 →
    exec (.foldbackFurtherStep p mv) s = .next ((s.sense p mv).setStats 8 8 (min (s.setDb (s.foldSet [p] 3) + s.foldStep (s.foldSet [p] 3))
      (max (s.setDb (s.foldSet [p] 3)) (s.foldFloor (s.foldSet [p] 3)))) (s.foldSet [p] 3))) ∧
  (∀ (p mv : Nat) (s : State), p < 24 → mv ≤ s.fld F.LP_FBCFG_LIM p → exec (.foldbackTrigger p mv) s = .next (s.sense p mv)) ∧
  (∀ (p mv : Nat) (s : State), p < 24 → s.onAir p = true → s.fld F.LP_FBCFG_ABS p < mv →
    exec (.overcurrentMute p mv) s =
      .next (((((s.sense p mv).endFrames .abandoned (s.runningOn (s.foldSet [p] 3))).setPa false (s.foldSet [p] 3)).setStats 18 1 1
        (s.foldSet [p] 3)).detectTest 6 (domLps p) (.unit (domLps p)) none)) ∧
  (∀ (p : Nat) (s : State), s.onAir p = true →
    exec (.stagingUnderrun p) s =
      .next (((s.endFrames .abandoned (s.runningOn [p])).setPortStat p 19 1 1).countDetection 15 (domLps p))) ∧
  (∀ (p : Nat) (s : State), s.onAir p = false → s.gapHeld p = false → exec (.paEnRelease p) s = .next (s.setPortStat p 2 1 0)) ∧
  (∀ (p : Nat) (s : State), s.onAir p = true ∨ s.gapHeld p = true → exec (.paEnRelease p) s = .next s)

/-- The life of a frame from FRAME_SEND to its acknowledgement (R25, R85, R101, R217, R225, R251, R257, R259, R280, R556).
FRAME_SEND whose turn it is starts and becomes a frame. FRAME_SCHEDULE ends a frame with DENIED where a port cannot
take it, leaves it where it must wait, else gives it its SEQ, HARQ process, shape, payload symbols and start.
FRAME_NOT_STAGED sets LATE on its ports and returns it to waiting without its SEQ. TX_FRAME_START at its cycle and
slot, on ports whose path is in force, puts it on the line. TX_FRAME_END reports fold-back and either waits for the
acknowledgement or completes OK, after which a sleepy node may be told that nothing more waits (log entry 158). A wake
pattern goes on every enabled L port of its group (log entry 199). ACK_TIMEOUT counts as NACK once the ACK cell has
passed. UPLINK_ACK_SEND sends up to eight entries and keeps the rest. COMPLETES (exec answers a next state under
hypotheses on state and operands alone): frameSchedule, frameNotStaged, txFrameStart, txFrameEnd, uplinkAckSend,
ackTimeout, frameSend. -/
def Obligations.FramesAreScheduledSentAndAcknowledged : Prop :=
  (∀ (src : Src) (gaddr svc dclass len : Nat) (s : State), s.starts src 0x10 = true →
    exec (.frameSend src gaddr svc dclass len) s = .next ((s.start src).sendData src gaddr svc dclass len)) ∧
  (∀ (src : Src) (gaddr svc dclass len a : Nat) (s : State), s.starts src 0x10 = true → (s.start src).localAddr gaddr = some a →
    dclass < 2 → len ≠ 0 → (s.start src).associated a = true → 8192 < (s.start src).fbdFree →
    exec (.frameSend src gaddr svc dclass len) s = .next ((s.start src).sendTo a (.data svc len) (dclass == 1) src)) ∧
  (∀ (id : Nat) (ports : List Nat) (path cycle slot mcs c0 c1 : Nat) (cp : Bool) (s : State) (f : Frame), s.frame id = some f →
    f.state = .waiting → ports ≠ [] → s.flag F.MDM_BANDSTAT_TX_OFF f.fg = true ∨ ports.all (s.portTakes path) = false →
    exec (.frameSchedule id ports path cycle slot mcs ⟨c0, c1, cp⟩) s = .next (s.endFrame f .denied)) ∧
  (∀ (id : Nat) (ports : List Nat) (path cycle slot mcs c0 c1 n : Nat) (cp : Bool) (s : State) (f : Frame) (x : State × Frame),
    s.frame id = some f → f.state = .waiting → ports ≠ [] → s.flag F.MDM_BANDSTAT_TX_OFF f.fg = false → ports.all (s.portTakes path) = true →
    isWake f.body = false → s.frameHeld f = false → s.mcsUsable f (s.mcsFor f mcs) = true →
    s.shapeOk (s.shaped f ports path cycle slot (s.mcsFor f mcs) c0 c1 cp) = true →
    s.giveSeq (s.shaped f ports path cycle slot (s.mcsFor f mcs) c0 c1 cp) = some x → x.1.txNsym x.2 = some n →
    x.1.mayPlace (x.1.sized x.2 n) = true →
    exec (.frameSchedule id ports path cycle slot mcs ⟨c0, c1, cp⟩) s = .next (x.1.setFrame { x.1.sized x.2 n with state := .scheduled })) ∧
  (∀ (id : Nat) (ports : List Nat) (path cycle slot mcs : Nat) (form : FrameForm) (s : State) (f : Frame),
    s.frame id = some f → f.state = .waiting → ports ≠ [] → s.flag F.MDM_BANDSTAT_TX_OFF f.fg = false → ports.all (s.portTakes path) = true →
    isWake f.body = true → s.frameHeld f = false →
    exec (.frameSchedule id ports path cycle slot mcs form) s =
      .next (s.setFrame { f with ports := s.beaconPorts f.fg, path := 1, cycle := cycle, slot := slot, state := .scheduled })) ∧
  (∀ (id : Nat) (s : State) (f : Frame), s.frame id = some f → f.state = .scheduled → f.dst = 0xFFFF ∨ (s.node f.dst).isSome = true →
    f.seq ≠ some 0 →
    exec (.frameNotStaged id) s = .next ((s.setStats 20 1 1 f.ports).setFrame
      { f with state := .waiting, ports := [], txn := 0, harq := 0, seq := none,
               firstSeq := if f.resent = 0 ∧ f.txn = 0 then none else f.firstSeq })) ∧
  (∀ (id : Nat) (s : State) (f : Frame), s.frame id = some f → f.state = .scheduled → (s.tracker f.fg).everLocked = true →
    (s.tracker f.fg).cyc = f.cycle → (s.tracker f.fg).slot = f.slot → (∀ p ∈ f.ports, s.portOn p = true ∧ (s.port p).path = f.path) →
    exec (.txFrameStart id) s = .next (((s.launch f).noteRequest f).judgeDown f)) ∧
  (∀ (id : Nat) (s : State) (f : Frame), s.frame id = some f → f.state = .running →
    exec (.txFrameEnd id) s = .next (if f.ackReq then (s.leaveLine f).setFrame { f with state := .sent } else ((s.leaveLine f).endFrame f .ok).tellEmpty f)) ∧
  (∀ (id : Nat) (s : State) (f : Frame), s.frame id = some f → f.state = .sent →
    exec (.ackTimeout id) s = .next (if 4 < s.sinceSent f then s.nackFrame f else s)) ∧
  (∀ (a : Nat) (s : State), Tab.get (fun _ => []) s.mac.acks a ≠ [] →
    exec (.uplinkAckSend a) s = .next (let q := (s.node a).elim ({} : SeqState) Node.seq; { s with mac := { s.mac with
        acks := Tab.set (fun _ => []) s.mac.acks a ((Tab.get (fun _ => []) s.mac.acks a).drop 8) } }.sendTo a
      (.ack q.h (q.win.extractLsb' 0 32) ((Tab.get (fun _ => []) s.mac.acks a).take 8)) false .none))

/-- Zero-crossing trackers: lock, phase 0, slots, holdover, references (R87, R88, R89, R90, R91, R92, R99, R446, R555).
TRACKER_LOCK of a tracker that does not run takes the first usable reference, sets LOCK, REF and the frequency, and
begins in the slot of the phase. PHASE_ZERO of a running tracker counts one cycle modulo 2^40, begins slot 0, or the
slot a step leads into, slews at most 1/1 024 cycle and stamps the instant, whatever else it carries. SLOT_BOUNDARY
begins the next slot up to 11. TRACKER_HOLDOVER in lock sets HOLD and LOST, clears LOCK and notes the time.
TRACKER_RELOCK from holdover clears HOLD, sets LOCK and REF, adds the phase error and starts the rescan.
TRACKER_REF_SWITCH takes the next usable reference and sets SWITCHED, or enters holdover where none is left;
TRACKER_REF_RETURN takes L1 again, or L2 from L3 while L1 is unusable. A read of LP_ZCPHASE returns the phase and
latches the cycle count; a write of LP_ZCCFG in lock makes the change of OFS a phase error. COMPLETES (exec answers a
next state under hypotheses on state and operands alone): trackerLock, phaseZero, trackerHoldover, trackerRelock,
zcOfsWrite, trackerRefSwitch, trackerRefReturn, slotBoundary, lpZcphaseRead. -/
def Obligations.TrackersLockCountAndHold : Prop :=
  (∀ (g mhz phase r : Nat) (valid l : List Nat) (s : State), s.zcUsable g valid = r :: l → s.zcRuns g = false →
    exec (.trackerLock g valid ⟨mhz, phase⟩) s = .next (
      let s1 := ((s.setFld F.LP_ZCSTAT_LOCK g 1).setFld F.LP_ZCSTAT_REF g r).setFld F.LP_ZCFREQ_MHZ g mhz
      s1.setTracker g { noteZero (s.tracker g) (stampNs s.now) (phase % 65536) with everLocked := true, large := 0, slot := slotOf phase })) ∧
  (∀ (g : Nat) (e : Option Int) (f : Option Nat) (l : Option (Nat × Nat)) (s : State), s.zcRuns g = true →
    Gives (.phaseZero g e f l) s fun t => (t.tracker g).cyc = ((s.tracker g).cyc + 1) % 2 ^ 40 ∧ (t.tracker g).slot = slotOf (startPhase (s.tracker g).step) ∧
      (t.tracker g).step = none ∧ Tab.get (fun _ => {}) t.cmp.zct g = s.now ∧ t.cmp.sec = s.cmp.sec ∧ t.cmp.ns = s.cmp.ns) ∧
  (∀ (g : Nat) (s : State), s.zcRuns g = true → s.zcLock g = false →
    exec (.phaseZero g none none none) s = .next (
      let s1 := s.setTracker g { noteZero (s.tracker g) (stampNs s.now) (startPhase (s.tracker g).step) with
        cyc := ((s.tracker g).cyc + 1) % 2 ^ 40, slot := slotOf (startPhase (s.tracker g).step), slew := slewed (s.tracker g).slew, step := none }
      let s2 := if (s.tracker g).step.isSome then s1.setFld F.LP_ZCSTAT_STEPPED g 1 else s1
      { s2 with cmp := { s.cmp with zct := Tab.set (fun _ => {}) s.cmp.zct g s.now } })) ∧
  (∀ (g : Nat) (s : State), s.zcRuns g = true → (s.tracker g).slot < 11 →
    exec (.slotBoundary g) s = .next (s.setTracker g { s.tracker g with slot := (s.tracker g).slot + 1 })) ∧
  (∀ (g : Nat) (s : State), s.zcLock g = true →
    exec (.trackerHoldover g) s = .next ((((s.setFld F.LP_ZCSTAT_HOLD g 1).setFld F.LP_ZCSTAT_LOST g 1).setFld F.LP_ZCSTAT_LOCK g 0).setTracker g
      { s.tracker g with large := 0, holdSince := s.now })) ∧
  (∀ (g r : Nat) (valid l : List Nat) (e : Int) (s : State), s.zcUsable g valid = r :: l → s.zcHold g = true →
    exec (.trackerRelock g valid e) s = .next (((((s.setFld F.LP_ZCSTAT_HOLD g 0).setFld F.LP_ZCSTAT_LOCK g 1).takeRef g r).setTracker g
      (addError (s.tracker g) e)).rescan g 0xFFFF (s.tracker g).holdSince s.now false false)) ∧
  (∀ (g r : Nat) (valid l : List Nat) (s : State), s.zcLock g = true → s.zcUsable g valid = r :: l → s.zcRef g ∉ r :: l →
    exec (.trackerRefSwitch g valid) s = .next (s.takeRef g r)) ∧
  (∀ (g r : Nat) (s : State), s.takeRef g r = if s.zcRef g = r ∨ s.zcRef g = 0 then s.setFld F.LP_ZCSTAT_REF g r
    else (s.setFld F.LP_ZCSTAT_REF g r).setFld F.LP_ZCSTAT_SWITCHED g 1) ∧
  (∀ (g : Nat) (valid : List Nat) (s : State), s.zcLock g = true → s.zcUsable g valid = [] →
    exec (.trackerRefSwitch g valid) s = exec (.trackerHoldover g) s) ∧
  (∀ (g r : Nat) (valid : List Nat) (s : State), s.zcLock g = true → 1 ≤ r → r < s.zcRef g → r ∈ s.zcUsable g valid →
    r = 1 ∨ 1 ∉ s.zcUsable g valid →
    exec (.trackerRefReturn g ⟨r, valid⟩) s = .next ((s.setFld F.LP_ZCSTAT_REF g r).setFld F.LP_ZCSTAT_SWITCHED g 1)) ∧
  (∀ (g ofs : Nat) (who : Who) (s : State), s.readable who .LP_ZCPHASE g = true →
    exec (.lpZcphaseRead g ofs who) s = .next (
      let phase := if s.zcRuns g then phaseOf (s.tracker g).slot ofs else 0
      (((s.setReg .LP_ZCPHASE g (BitVec.ofNat 32 phase)).setReg .LP_ZCCYC_LO g
      (BitVec.ofNat 32 (s.tracker g).cyc)).setReg .LP_ZCCYC_HI g (BitVec.ofNat 32 ((s.tracker g).cyc / 2 ^ 32))).returns
      (BitVec.ofNat 64 phase))) ∧
  (∀ (g : Nat) (who : Who) (v : Word) (s : State), s.gate who .LP_ZCCFG g = .pass → s.zcLock g = false →
    exec (.zcOfsWrite g who v) s = .next (s.store .LP_ZCCFG g v)) ∧
  (∀ (g : Nat) (who : Who) (v : Word) (s : State), s.gate who .LP_ZCCFG g = .pass → s.zcLock g = true →
    phaseDiff ((s.store .LP_ZCCFG g v).fld F.LP_ZCCFG_OFS g) (s.fld F.LP_ZCCFG_OFS g) ≠ 0 →
    exec (.zcOfsWrite g who v) s = .next ((s.store .LP_ZCCFG g v).setTracker g
      (addError (s.tracker g) (phaseDiff ((s.store .LP_ZCCFG g v).fld F.LP_ZCCFG_OFS g) (s.fld F.LP_ZCCFG_OFS g)))))

/-- Look-back rings, detections and the opening of receptions (R139, R140, R141, R142, R146, R148, R150, R151, R153, R164,
R345). RING_BLOCK_WRITE of an input that records, for a block that is complete and later than its ring, counts the
clipped runs of its ADC codes and appends one block within the depth in force, with the own-transmission marks of its
group's spans, and prunes the deferred list; while the input calibrates, the block holds zeros and carries the
own-transmission mark. PREAMBLE_DETECTION of a running detector at its threshold and outside its hold-off queues the
detection and starts a hold-off of 4.096 ms. RECEPTION_OPEN with a free slot and an engine that takes it opens the
oldest queued detection that may open; one no longer retained ends LOOKBACK_EXPIRED. RING_WAIT_RESUME ends the wait
once the samples are written. SIC_RESUME after the dominant reception has ended lets the weaker one go on.
INPUT_LOST_IN_RECEPTION without an enabled input ends ABANDONED the group's receptions that still need samples.
COMPLETES (exec answers a next state under hypotheses on state and operands alone): ringBlockWrite, preambleDetection,
receptionOpen, ringWaitResume, sicResume, inputLostInReception. -/
def Obligations.RingsDetectionsAndOpenings : Prop :=
  (∀ (p : Nat) (t0 : Stamp) (adc : List (Nat × Int)) (s : State), s.portOn p = true → s.calibrating p = false → p < 32 → s.blockDue p t0 = true →
    exec (.ringBlockWrite p false t0.s t0.ns adc) s = .next (
      let own := if s.inGroup (s.portFg p) p then s.ownRuns (s.portFg p) (stampNs t0) else []
      let s1 := (s.touchTag 146).noteClipped p t0 (clippedUnits 0 adc)
      let s2 := s1.setRing p (pushBlock (s1.ring p) false t0 (clippedUnits 0 adc) own adc (s1.ringDepth p))
      if s1.ringDepth p = 0 then s1 else s2.pruneDeferred (s2.portFg p))) ∧
  (∀ (p : Nat) (t0 : Stamp) (adc : List (Nat × Int)) (s : State), s.calibrating p = true → p < 32 → s.blockDue p t0 = true →
    exec (.ringBlockWrite p false t0.s t0.ns adc) s = .next (
      let s1 := s.touchTag 146
      let s2 := s1.setRing p (pushBlock (s1.ring p) false t0 [] [(0, 4095)] [] (s1.ringDepth p))
      if s1.ringDepth p = 0 then s1 else s2.pruneDeferred (s2.portFg p))) ∧
  (∀ (p : Nat) (t0 : Stamp) (adc : List (Nat × Int)) (s : State), s.wideOn p = true → s.calibrating p = false → p < 32 →
    s.blockDue (p + 32) t0 = true →
    exec (.ringBlockWrite p true t0.s t0.ns adc) s = .next (
      let own := if s.inGroup (s.portFg p) p then s.ownRuns (s.portFg p) (stampNs t0) else []
      let s1 := s.touchTag 146
      if s1.ringDepth (p + 32) = 0 then s1
      else s1.setRing (p + 32) (pushBlock (s1.ring (p + 32)) true t0 (clippedUnits 0 adc) own adc (s1.ringDepth (p + 32))))) ∧
  (∀ (p : Nat) (t0 : Stamp) (runs : List (Nat × Nat)) (s : State), unitsBefore 4096 runs ≠ 0 →
    (s.noteClipped p t0 runs).reg (ovlReg p).1 (ovlReg p).2 =
      BitVec.ofNat 32 (min ((s.reg (ovlReg p).1 (ovlReg p).2).toNat + unitsBefore 4096 runs) 0xFFFFFFFF) ∧
    getBits ((s.noteClipped p t0 runs).portStat p) 16 1 = 1) ∧
  (∀ (det fg metric power : Nat) (start : Stamp) (std : Bool) (s : State), s.detectorRuns det fg std = true → s.detThreshold fg ≤ metric →
    (∀ h ∈ s.rx.holdoff, stampNs s.now ≤ h.2.2 → ¬(h.1 = (if std then det + 1024 else det) ∧ near h.2.1 start (mergeNs fg) = true)) →
    exec (.preambleDetection det fg start metric power std) s = .next (({ s with rx := { s.rx with holdoff :=
      (s.rx.holdoff.filter fun (h : Nat × Stamp × Nat) => decide (stampNs s.now ≤ h.2.2)) ++
        [(if std then det + 1024 else det, start, stampNs s.now + 4096000)] } }).queueDetection
      { fg := fg, start := start, metric := metric, power := power, det := det, std := std })) ∧
  (∀ (fg eng : Nat) (under : List Nat) (d : Detn) (s : State), s.takesRecep eng = true →
    oldestDetn ((s.queuedIn fg).filter fun x => s.flpaOpens fg x.std) = some d → s.openIn fg < slotsOf fg → s.retained fg d.start = true →
    exec (.receptionOpen fg .queued ⟨eng, under⟩) s = .next ((s.setQueued fg ((s.queuedIn fg).erase d)).openRecep d eng under)) ∧
  (∀ (fg eng : Nat) (under : List Nat) (d : Detn) (s : State), s.takesRecep eng = true →
    oldestDetn ((s.queuedIn fg).filter fun x => s.flpaOpens fg x.std) = some d → s.openIn fg < slotsOf fg → s.retained fg d.start = false →
    exec (.receptionOpen fg .queued ⟨eng, under⟩) s = .next (
      let s1 := (s.setQueued fg ((s.queuedIn fg).erase d)).openRecep d eng under
      match s1.recep s.rx.nextId with
      | none => s1
      | some r => s1.endRecep r .lookbackExpired (d.origin != .live) 0 0)) ∧
  (∀ (fg eng : Nat) (under : List Nat) (s : State), s.takesRecep eng = false ∨ slotsOf fg ≤ s.openIn fg →
    exec (.receptionOpen fg .queued ⟨eng, under⟩) s = .next s) ∧
  (∀ (id : Nat) (again : Bool) (r : Recep) (s : State), s.recep id = some r → r.wait = .ring → r.need ≤ s.written r.fg →
    exec (.ringWaitResume id again) s =
      .next (s.setRecep (if again then { r with need := s.written r.fg + blockNs } else { r with wait := .none }))) ∧
  (∀ (id : Nat) (again : Bool) (r : Recep) (s : State), s.recep id = some r → s.written r.fg < r.need →
    exec (.ringWaitResume id again) s = .next s) ∧
  (∀ (id d : Nat) (r : Recep) (s : State), s.recep id = some r → r.wait = .held d → s.recep d = none →
    exec (.sicResume id none []) s = .next (s.setRecep { r with wait := .none })) ∧
  (∀ (fg : Nat) (s : State), fg < 8 → s.groupInputs fg = [] →
    exec (.inputLostInReception fg) s = .next (s.endReceps .abandoned (s.rx.open_.filter fun r => r.fg == fg && decide (s.written fg < r.need))))

/-- Rescans, HARQ expiry and the oldest sample (R135, R163, R164, R166, R168, R406, Reception registers (05)).
RESCAN_TRIGGER of a group starts a rescan for its node and span; MDM_RESCAN_GO stores the judged word and starts the
host's rescan over BACK_S seconds back. RESCAN_START of the oldest waiting rescan of a group with fewer than four
running makes it run. RESCAN_END takes it away and posts its record with OK, or with LOOKBACK_EXPIRED where it stopped
short of a start that is no longer retained, and for the host's rescan stores STATE 3, FOUND and EXPIRED.
HARQ_BUFFER_EXPIRE after 30 s discards the buffer. A read of MDM_OLDEST_S returns the seconds of the oldest sample and
latches its nanoseconds. COMPLETES (exec answers a next state under hypotheses on state and operands alone):
harqBufferExpire, rescanTrigger, mdmRescanGo, rescanStart, rescanEnd, mdmOldestSRead. -/
def Obligations.RescansRunAndReport : Prop :=
  (∀ (fg src : Nat) (t0 t1 : Stamp) (b : Bool) (s : State), fg < 8 →
    exec (.rescanTrigger fg src t0 t1 b) s = .next (s.rescan fg src t0 t1 b false)) ∧
  (∀ (who : Who) (v : Word) (s : State), s.gate who .MDM_RESCAN 0 = .pass →
    exec (.mdmRescanGo who v) s = .next (
      let s1 := s.setReg .MDM_RESCAN 0 (rescanForm (plainWrite .MDM_RESCAN (s.reg .MDM_RESCAN 0) v))
      s1.rescan (s1.fld F.MDM_RESCAN_FG 0) (s1.fld F.MDM_RESCAN_SRC 0) (stampBack s.now (s1.fld F.MDM_RESCAN_BACK_S 0)) s.now false true)) ∧
  (∀ (v : Word), 1 ≤ getBits (rescanForm v) 16 6 ∧ getBits (rescanForm v) 16 6 ≤ 60 ∧ getBits (rescanForm v) 31 1 = 0) ∧
  (∀ (id : Nat) (r : Rescan) (s : State), s.rx.rescans.find? (fun x => x.id == id) = some r → s.rescansRunning r.fg < 4 →
    (s.rx.rescans.find? fun x => x.fg == r.fg && !x.running).map Rescan.id = some id → s.rx.hostRescan ≠ some id →
    exec (.rescanStart id) s =
      .next { s with rx := { s.rx with rescans := s.rx.rescans.map fun x => if x.id = id then { x with running := true } else x } }) ∧
  (∀ (id : Nat) (short : Bool) (r : Rescan) (s : State), s.rx.rescans.find? (fun x => x.id == id) = some r → r.running = true →
    s.rx.hostRescan ≠ some id →
    exec (.rescanEnd id short) s = .next (({ s with rx := { s.rx with rescans := s.rx.rescans.filter fun x => x.id != id } }).event
      (if short && !s.retained r.fg r.t0 then .lookbackExpired else .ok) pageRing
      [(4, r.fg), (4, r.found), (4, (if short && !s.retained r.fg r.t0 then s.oldestSample else r.t0).s), (4, r.t1.s)])) ∧
  (∀ (id : Nat) (short : Bool) (r : Rescan) (s : State), s.rx.rescans.find? (fun x => x.id == id) = some r → r.running = true →
    s.rx.hostRescan = some id →
    Gives (.rescanEnd id short) s fun t => t.fld F.MDM_RESCAN_STAT_STATE 0 = 3 ∧ t.fld F.MDM_RESCAN_STAT_FOUND 0 = min r.found 65535 ∧
      t.fld F.MDM_RESCAN_STAT_EXPIRED 0 = (if short && !s.retained r.fg r.t0 then 1 else 0) ∧ (∀ x ∈ t.rx.rescans, x.id ≠ id)) ∧
  (∀ (src harq : Nat) (h : Harq) (s : State), Tab.get (fun _ => none) s.rx.harq (src * 16 + harq) = some h →
    stampNs h.first + 30000000000 ≤ stampNs s.now →
    exec (.harqBufferExpire src harq) s = .next { s with rx := { s.rx with harq := Tab.set (fun _ => none) s.rx.harq (src * 16 + harq) none } }) ∧
  (∀ (who : Who) (s : State), s.readable who .MDM_OLDEST_S 0 = true →
    exec (.mdmOldestSRead who) s =
      .next ((s.setReg .MDM_OLDEST_NS 0 (BitVec.ofNat 32 s.oldestSample.ns)).returns (BitVec.ofNat 64 s.oldestSample.s)))

/-- The outcome and the end of a reception (R116, R132, R137, R142, R154, R206, R220, R259, R277, R278, R280).
RECEPTION_END of an open native reception that waits for nothing judges the frame as read, a stream frame whose header
is lost with its predicted header: it waits again where the rings do not hold the frame's end yet, else ends by its
outcome. Samples no longer retained end LOOKBACK_EXPIRED; a header that fails ends HEADER_FAIL, and a missing tone map
or key is deferred; a failed check keeps the soft values and owes a NACK; a wrong tag drops the buffer and ends
AUTH_FAIL; a good frame of a feeder group goes on to delivery, one of a line link is accepted once for its SRC and
SEQ. A standard-mode frame ends by its pack's checks. CHECKPOINT_WAIT_RESUME judges the frame again once the
checkpoint holds, and ends it ABANDONED where its node is gone. COMPLETES (exec answers a next state under hypotheses
on state and operands alone): receptionEnd, checkpointWaitResume. -/
def Obligations.ReceptionsEndWithTheirOutcome : Prop :=
  (∀ (id : Nat) (f : RxFrame) (r : Recep) (s : State), s.recep id = some r → r.wait = .none → r.std = false →
    exec (.receptionEnd id f) s = .next (
      let x := s.readFrame r f
      let o := s.outcome r x
      let fin := if o.1 = .headerFail ∨ o.1 = .lookbackExpired then stampNs r.start + headerNs r.fg else rxEnd r x.1
      if o.1 ≠ .lookbackExpired ∧ s.written r.fg < fin then s.setRecep { r with wait := .ring, need := fin }
      else s.drew.endNative { r with need := fin, eps := x.2.getD ((s.acquire r.fg f.ppm f.snr).elim 0 Prod.fst) } x.1 o)) ∧
  (∀ (r : Recep) (x : RxFrame × Option Int) (s : State), s.retained r.fg r.start = false → s.outcome r x = (.lookbackExpired, none)) ∧
  (∀ (r : Recep) (f : RxFrame) (s : State), s.retained r.fg r.start = true → s.header r f = .fails → s.outcome r (f, none) = (.headerFail, none)) ∧
  (∀ (r : Recep) (f : RxFrame) (m : Nat) (s : State), s.retained r.fg r.start = true → s.header r f = .lacks m →
    s.outcome r (f, none) = (.headerFail, some (some m))) ∧
  (∀ (r : Recep) (f : RxFrame) (s : State), s.endNative r f (.lookbackExpired, none) =
    s.endRecep r .lookbackExpired (s.lateFound r r.need) (if crcHdr f then f.src else 0) (if crcHdr f then f.seq else 0)) ∧
  (∀ (r : Recep) (f : RxFrame) (s : State), s.endNative r f (.headerFail, none) =
    s.endRecep r .headerFail (s.lateFound r r.need) (if crcHdr f then f.src else 0) (if crcHdr f then f.seq else 0)) ∧
  (∀ (r : Recep) (f : RxFrame) (m : Option Nat) (s : State), s.endNative r f (.headerFail, some m) =
    (if r.fg < 8 then s.defer r.fg { start := r.start, src := f.src, tmid := m } else s).endRecep r .headerFail (s.lateFound r r.need)
      (if crcHdr f then f.src else 0) (if crcHdr f then f.seq else 0)) ∧
  (∀ (r : Recep) (f : RxFrame) (s : State), s.endNative r f (.checkFail, none) =
    ((s.harqKeep r f).oweAck (sourceOf f) (f.ackReq && decide (r.fg < 8)) (s.lateFound r r.need)
      { seq := f.seq, harq := f.harq, result := 1, txn := f.txn }).endRecep r .checkFail (s.lateFound r r.need) f.src f.seq) ∧
  (∀ (r : Recep) (f : RxFrame) (s : State), s.endNative r f (.authFail, none) =
    (s.harqDrop r f).endRecep r .authFail (s.lateFound r r.need) f.src f.seq) ∧
  (∀ (r : Recep) (f : RxFrame) (s : State), s.endNative r f (.ok, none) =
    if r.fg < 8 then (s.harqDrop r f).endOk r f (s.lateFound r r.need) else (s.harqDrop r f).endLine r f (s.lateFound r r.need)) ∧
  (∀ (id : Nat) (f : RxFrame) (r : Recep) (s : State), s.recep id = some r → r.wait = .none → r.std = true → s.stdOutcome r f = .ok →
    exec (.receptionEnd id f) s = .next ((s.stdAccept r f).endRecep r .ok (s.lateFound r (stampNs f.fin)) f.src f.seq)) ∧
  (∀ (id : Nat) (f : RxFrame) (r : Recep) (s : State), s.recep id = some r → r.wait = .none → r.std = true → s.stdOutcome r f ≠ .ok →
    exec (.receptionEnd id f) s = .next (s.endRecep r (s.stdOutcome r f) (s.lateFound r (stampNs f.fin)) f.src f.seq)) ∧
  (∀ (id : Nat) (f : RxFrame) (r : Recep) (s : State), s.recep id = some r → r.wait = .checkpoint f → s.node (sourceOf f) = none →
    exec (.checkpointWaitResume id) s = .next (s.endRecep r .abandoned false (sourceOf f) f.seq)) ∧
  (∀ (id : Nat) (f : RxFrame) (r : Recep) (n : Node) (s : State), s.recep id = some r → r.wait = .checkpoint f → s.node (sourceOf f) = some n →
    n.seq.ckRx = false → exec (.checkpointWaitResume id) s = .next (s.endOk { r with wait := .none } f (s.lateFound r r.need)))

/-- Channel records age, are sounded, and give and take tone maps (R173, R182, R183, R185, R186, R187, R188, R190, R191,
R193, R196, R199). CONFIDENCE_HALVING of a due slot halves its confidence. BROADCAST_SOUNDING in a beacon interval due
for it sends a sounding to the group. UPLINK_SOUNDING_REQUEST of a node that is due sends it once. STALE_SLOT_TIMEOUT
of a slot weak for STALE_S asks for a sounding again. UPLINK_MAP_ISSUE of a confident record without a map in force
issues the computed map. RETIRED_MAP_EXPIRE past the narrow ring's depth frees the map and its TMID. TONE_MAP of an
associated node with a record stores the downlink map or withdraws it; a code of 7 changes nothing. CHANNEL_REPORT
with the same phase pairs stores the sums. RECORD_RELEASE_COMPLETE gives the record up with its maps. COMPLETES (exec
answers a next state under hypotheses on state and operands alone): confidenceHalving, broadcastSounding,
uplinkSoundingRequest, staleSlotTimeout, uplinkMapIssue, retiredMapExpire, toneMap, channelReport,
recordReleaseComplete. -/
def Obligations.ChannelRecordsAndToneMaps : Prop :=
  (∀ (i slot : Nat) (r : ChanRec) (s : State), s.chanRec i = some r → slot < 12 →
    Tab.get (fun _ => 0) r.aged slot + 2 ^ s.fld F.MDM_MAPCFG_HALF 0 ≤ s.now.s →
    Gives (.confidenceHalving i slot) s fun t => ∃ r', t = s.setRec i (some r') ∧
      r'.conf = Tab.set (fun _ => 0) r.conf slot (recConf r slot / 2) ∧ r'.mconf = r.mconf ∧ r'.saddr = r.saddr) ∧
  (∀ (g : Nat) (s : State), s.fld F.MDM_SNDCFG_BCAST_IVL 0 ≠ 0 → (s.reg .MAC_BNUM g).toNat % s.fld F.MDM_SNDCFG_BCAST_IVL 0 = 0 →
    s.runsFlpa g = true → exec (.broadcastSounding g) s = .next (s.broadcast g (.sounding 0 0))) ∧
  (∀ (a : Nat) (s : State), a ∈ s.maps.soundings →
    exec (.uplinkSoundingRequest a) s = .next (({ s with maps := { s.maps with soundings := s.maps.soundings.filter fun x => x != a } }).sendTo a
      (.sounding 2 0) false .none)) ∧
  (∀ (i slot : Nat) (r : ChanRec) (s : State), s.chanRec i = some r → slot < 12 → recConf r slot < s.confMin →
    Tab.get (fun _ => 0) r.weakSince slot + s.fld F.MDM_SNDCFG_STALE_S 0 ≤ s.now.s →
    exec (.staleSlotTimeout i slot) s =
      .next ((s.setRec i (some { r with weakSince := Tab.set (fun _ => 0) r.weakSince slot s.now.s })).wantSounding r.saddr)) ∧
  (∀ (a i : Nat) (r : ChanRec) (s : State), s.recOf a = some (i, r) → s.maps.suspended = false → r.releasing = none →
    s.confident r ≠ [] → s.ulForce a = none →
    exec (.uplinkMapIssue a) s = .next ((s.setRec i (some { r with asked := false })).issueMap r (s.computeMap r).1 (s.computeMap r).2.1
      (s.computeMap r).2.2)) ∧
  (∀ (a id : Nat) (m : ToneMap) (t : Stamp) (s : State), (s.ulMaps a).find? (fun m => m.tmid == id) = some m → m.retired = some t →
    stampNs t + s.plc.narrowDs * 100000000 ≤ stampNs s.now →
    exec (.retiredMapExpire a id) s =
      .next ((s.setUl a ((s.ulMaps a).filter fun x => x.tmid != id)).setTmids a (s.freeTmids a ++ [id]))) ∧
  (∀ (a id rate lo hi : Nat) (two : Bool) (codes : List (Nat × Nat)) (n : Node) (s : State), s.associated a = true → (s.recOf a).isSome = true →
    s.maps.suspended = false → (∀ p ∈ codes, p.2 ≠ 7) → s.node a = some n →
    exec (.toneMap a id false two rate lo hi codes) s = .next ((s.setDl a
      (some { tmid := id, two := two, rate := rate, cgFirst := lo, cgLast := hi, codes := codes.foldl (fun t p => Tab.set (fun _ => 0) t p.1 p.2) [],
              issued := s.now })).rescan n.fg a ⟨0, 0⟩ s.now true false)) ∧
  (∀ (a id rate lo hi : Nat) (two : Bool) (codes : List (Nat × Nat)) (s : State), (∃ p ∈ codes, p.2 = 7) →
    exec (.toneMap a id false two rate lo hi codes) s = .next s) ∧
  (∀ (a lo hi p0 p1 i : Nat) (two : Bool) (snr : List Nat) (r : ChanRec) (s : State), s.recOf a = some (i, r) → s.associated a = true →
    r.txp0 = p0 → r.txp1 = p1 →
    exec (.channelReport a lo hi p0 p1 two snr) s = .next (s.setRec i (some { r with
      dlsum := snr.zipIdx.foldl (fun t e => Tab.set (fun _ => 255) t (e.2 / (hi + 1 - lo) * 62 + lo + e.2 % (hi + 1 - lo)) e.1) r.dlsum
      dstamp := s.now.s
      two := two }))) ∧
  (∀ (i : Nat) (acked : Bool) (r : ChanRec) (s : State), s.chanRec i = some r → r.releasing = some 0 →
    ((s.setRec i none).dropMaps r.saddr).maps.wanting = [] →
    exec (.recordReleaseComplete i acked) s = .next ((s.setRec i none).dropMaps r.saddr))

/-- MDM_MAPCMD, carrier masks and notches (R197, R199, R200, R201, R202, R207, R208, R210, MDM_MAPCMD (06)). A map command
that is let pass stores OP; without a record of the selected address RESULT is 1; a pin pins the record and answers 0,
or 2 with 4 096 pinned already; an unpin answers 0; a release of a pinned record answers 3, of another releases it; a
sounding request answers 0. An acceptable band word is stored in MDM_BANDCFG, one that is not sets REFUSED and posts
DENIED, and a mask that carries no FLP-A is stored and posts DENIED. BAND_CHANGE_APPLY brings a changed word into
force with its mask and withdraws the group's maps. MDM_BBNOTCH stores a notch that leaves enough carriers, else
stores it disabled with REFUSED and DENIED. NOTCH_APPLY brings changed notches into force and drops the line maps.
COMPLETES (exec answers a next state under hypotheses on state and operands alone): mapPin, mapUnpin, mapRelease,
mapRequestSounding, notchWrite, notchApply, bandcfgWrite, bandChangeApply. -/
def Obligations.MapCommandsAndBands : Prop :=
  (∀ (who : Who) (s : State), s.gate who .MDM_MAPCMD 0 = .pass →
    (∀ op, (s.setFld F.MDM_MAPCMD_OP 0 op).recOf ((s.setFld F.MDM_MAPCMD_OP 0 op).fld F.MDM_MAPSEL_SADDR 0) = none) →
    exec (.mapPin who) s = .next ((s.setFld F.MDM_MAPCMD_OP 0 1).setFld F.MDM_MAPCMD_RESULT 0 1) ∧
    exec (.mapUnpin who) s = .next ((s.setFld F.MDM_MAPCMD_OP 0 2).setFld F.MDM_MAPCMD_RESULT 0 1) ∧
    exec (.mapRelease who) s = .next ((s.setFld F.MDM_MAPCMD_OP 0 3).setFld F.MDM_MAPCMD_RESULT 0 1) ∧
    exec (.mapRequestSounding who) s = .next ((s.setFld F.MDM_MAPCMD_OP 0 4).setFld F.MDM_MAPCMD_RESULT 0 1)) ∧
  (∀ (who : Who) (i : Nat) (r : ChanRec) (s s1 : State), s.gate who .MDM_MAPCMD 0 = .pass → s1 = s.setFld F.MDM_MAPCMD_OP 0 1 →
    s1.recOf (s1.fld F.MDM_MAPSEL_SADDR 0) = some (i, r) → r.pinned = false → s1.pinned < 4096 →
    exec (.mapPin who) s = .next ((s1.setRec i (some { r with pinned := true })).setFld F.MDM_MAPCMD_RESULT 0 0)) ∧
  (∀ (who : Who) (i : Nat) (r : ChanRec) (s s1 : State), s.gate who .MDM_MAPCMD 0 = .pass → s1 = s.setFld F.MDM_MAPCMD_OP 0 1 →
    s1.recOf (s1.fld F.MDM_MAPSEL_SADDR 0) = some (i, r) → r.pinned = false → 4096 ≤ s1.pinned →
    exec (.mapPin who) s = .next (s1.setFld F.MDM_MAPCMD_RESULT 0 2)) ∧
  (∀ (who : Who) (i : Nat) (r : ChanRec) (s s1 : State), s.gate who .MDM_MAPCMD 0 = .pass → s1 = s.setFld F.MDM_MAPCMD_OP 0 2 →
    s1.recOf (s1.fld F.MDM_MAPSEL_SADDR 0) = some (i, r) →
    exec (.mapUnpin who) s = .next ((s1.setRec i (some { r with pinned := false })).setFld F.MDM_MAPCMD_RESULT 0 0)) ∧
  (∀ (who : Who) (i : Nat) (r : ChanRec) (s s1 : State), s.gate who .MDM_MAPCMD 0 = .pass → s1 = s.setFld F.MDM_MAPCMD_OP 0 3 →
    s1.recOf (s1.fld F.MDM_MAPSEL_SADDR 0) = some (i, r) →
    exec (.mapRelease who) s = .next (if r.pinned || s1.streams r.saddr then s1.setFld F.MDM_MAPCMD_RESULT 0 3
      else (s1.releaseRec i r).setFld F.MDM_MAPCMD_RESULT 0 0)) ∧
  (∀ (who : Who) (i : Nat) (r : ChanRec) (s s1 : State), s.gate who .MDM_MAPCMD 0 = .pass → s1 = s.setFld F.MDM_MAPCMD_OP 0 4 →
    s1.recOf (s1.fld F.MDM_MAPSEL_SADDR 0) = some (i, r) →
    exec (.mapRequestSounding who) s = .next ((s1.wantSounding r.saddr).setFld F.MDM_MAPCMD_RESULT 0 0)) ∧
  (∀ (g : Nat) (who : Who) (v w : Word) (s : State), s.gate who .MDM_BANDCFG g = .pass →
    w = bandForm (plainWrite .MDM_BANDCFG (s.reg .MDM_BANDCFG g) v) →
    exec (.bandcfgWrite g who v) s = .next (if bandAccepted (bandOf w) then
        if (bandOf w).profile ≠ 15 ∧ maskCarries (maskOf (bandOf w)) = false then (s.setReg .MDM_BANDCFG g w).event .denied pageBand [(4, g)]
        else s.setReg .MDM_BANDCFG g w
      else (s.setFld F.MDM_BANDSTAT_REFUSED g 1).event .denied pageBand [(4, g)])) ∧
  (∀ (g : Nat) (s : State), s.bandInForce g ≠ s.reg .MDM_BANDCFG g →
    Gives (.bandChangeApply g) s fun t => ∃ u, t = u.withdrawGroup g u.maps.recs ∧ u.bandInForce g = s.reg .MDM_BANDCFG g ∧
      s.OnlyIn [.regs, .maps] u ∧ s.RegsOnly [(.MDM_BANDSTAT, g)] u) ∧
  (∀ (g : Nat) (s : State), s.bandInForce g = s.reg .MDM_BANDCFG g → exec (.bandChangeApply g) s = .next s) ∧
  (∀ (n : Nat) (who : Who) (v w : Word) (s : State), s.gate who .MDM_BBNOTCH n = .pass →
    w = notchForm (plainWrite .MDM_BBNOTCH (s.reg .MDM_BBNOTCH n) v) → getBits w 31 1 = 0 →
    exec (.notchWrite n who v) s = .next (s.setReg .MDM_BBNOTCH n w)) ∧
  (∀ (n : Nat) (who : Who) (v w : Word) (s : State), s.gate who .MDM_BBNOTCH n = .pass →
    w = notchForm (plainWrite .MDM_BBNOTCH (s.reg .MDM_BBNOTCH n) v) → getBits w 31 1 = 1 → getBits w 16 9 < getBits w 0 9 →
    exec (.notchWrite n who v) s =
      .next (((s.setReg .MDM_BBNOTCH n (putBits w 31 1 0)).setFld F.MDM_BBSTAT_REFUSED 0 1).event .denied pageNotch [(4, n)])) ∧
  (∀ (s : State), s.notchesInForce ≠ (List.range 16).map (fun i => s.reg .MDM_BBNOTCH i) →
    Gives .notchApply s fun t => t.maps.bbMaps = [] ∧ s.OnlyIn [.regs, .maps] t ∧ s.RegsOnly [(.MDM_BBSTAT, 0)] t)

/-- Ring depths, page migration, stacks, scrubbing and memory errors (R138, R388, R389, R390, R401, R402, R403, R404,
R405, R408, R558). RING_DEPTH_CHANGE and MEMORY_RESERVE_WRITE store the held value and refit rings and buffers.
PAGE_MIGRATE towards a stack that serves and suits the handle (an EMBER pack's own stack) draws a tag and counts one
migration, and with the last page of an extent moves that extent; the bytes stay. HBM_STEP_CHANGE within the step
range takes the stack through CHANGING, and HBM_TRAINING_COMPLETE brings it back to SERVING. SCRUB_PASS counts one
pass. MEMORY_ECC_ERROR counts a corrected error of a stack in MEM_CE, an uncorrectable one in MEM_UE with the
self-test of the row. COMPLETES (exec answers a next state under hypotheses on state and operands alone):
ringDepthChange, pageMigrate, hbmStepChange, scrubPass, memoryEccError, hbmTrainingComplete, memoryReserveWrite. -/
def Obligations.MemoryStacksAndRingDepths : Prop :=
  (∀ (who : Who) (v : Word) (s : State), s.gate who .MDM_RINGCFG 0 = .pass →
    Gives (.ringDepthChange who v) s fun t => ∃ u raised, t = State.refit u raised ∧ s.OnlyIn [.regs, .plc] u ∧
      u.regs = (s.setReg .MDM_RINGCFG 0 (ringCfgForm (plainWrite .MDM_RINGCFG (s.reg .MDM_RINGCFG 0) v))).regs) ∧
  (∀ (v : Word) (s : State), s.gate .host .PIT_MEMRES 0 = .pass →
    Gives (.memoryReserveWrite v) s fun t => ∃ u, t = State.refit u true ∧ s.OnlyIn [.regs, .plc] u ∧
      u.regs = (s.setFld F.PIT_MEMRES_MIB 0 (min 32768 (getBits v 0 16))).regs) ∧
  (∀ (h page n : Nat) (x : Handle) (s : State), s.handle h = some x → s.stackServes n = true → x.mirror = false → 4096 * page < x.size →
    s.keepEmber x.slot (.stack n) = .stack n →
    exec (.pageMigrate h page (.stack n) false) s = .next { s.touchTag 145 with plc := { s.plc with migrations := s.plc.migrations + 1 } } ∧
    exec (.pageMigrate h page (.stack n) true) s = .next ({ s.touchTag 145 with plc := { s.plc with migrations := s.plc.migrations + 1 } }.setHandle h
      { Handle.rePlace x (fun i p => if i = page / 262144 then .stack n else p) with demoted := decide (0 < x.latency) })) ∧
  (∀ (n step : Nat) (s : State), n < 4 → s.stackServes n = true → s.stack n = .serving → step ≠ s.step3 n → s.stepFloor n ≤ step →
    step ≤ s.stepCeil n → (∀ m, m < 4 → s.stack m ≠ .changing) →
    Gives (.hbmStepChange n step) s fun t => t.stack n = .changing ∧ Tab.get (fun _ => 0) t.plc.steps n = step ∧ s.OnlyIn [.plc] t) ∧
  (∀ (n : Nat) (s : State), s.stack n = .changing → exec (.hbmTrainingComplete n) s = .next (s.setStack n .serving)) ∧
  (∀ (n : Nat) (s : State), s.stack n = .training →
    exec (.hbmTrainingComplete n) s = .next (((s.setStack n .serving).nameStack).refit false)) ∧
  (∀ (n : Nat) (s : State), s.stackServes n = true →
    exec (.scrubPass n) s =
      .next { s with plc := { s.plc with scrubs := Tab.set (fun _ => 0) s.plc.scrubs n (Tab.get (fun _ => 0) s.plc.scrubs n + 1) } }) ∧
  (∀ (pc row : Nat) (s : State),
    exec (.memoryEccError (.hbmRow pc row) true false none) s =
      .next ((s.bumpFld F.MEM_UE_COUNT (pc / 32) 1).detectTest 1 (testSel (.hbmRow pc row)) (.hbmRow pc row) none) ∧
    exec (.memoryEccError (.hbmRow pc row) false false none) s =
      .next (let s1 := s.bumpFld F.MEM_CE_COUNT (pc / 32) 1
        { s1 with rel := { s.rel with ceRows := .hbmRow pc row :: s.rel.ceRows.filter fun u => u != .hbmRow pc row } }))

/-- Network beacons, discovery beacons and their configuration (R231, R232, R238, R239, R240, R241, R242, R259, R260).
NETWORK_BEACON of a group whose network runs, in slot 0 when its beacon is due and with a usable broadcast counter,
counts the beacon number by one. With no usable counter or no running network nothing is sent. DISCOVERY_BEACON not
due changes nothing. A write of MAC_BCNCFG that is accepted with the same interval stores the judged word; one not
accepted posts DENIED and stores nothing. COMPLETES (exec answers a next state under hypotheses on state and operands
alone): networkBeacon, discoveryBeacon, macBcncfgWrite. -/
def Obligations.BeaconsAreSent : Prop :=
  (∀ (g seq : Nat) (es : List Nat) (tp : Nat × Nat × Nat) (s : State), s.netRuns g = true → (s.tracker g).slot = 0 → beaconDue (Tab.get (fun _ => none) s.mac.beaconAt g) (s.tracker g).cyc = true →
    (s.reg .MAC_BNUM g).toNat + 1 < Tab.get (fun _ => 0) s.mac.bnumC g + seqSpan → s.usable 0xFFFF = some seq →
    Gives (.networkBeacon ⟨g, es, tp⟩) s fun t => ∃ u : State, ∃ l, t = ((u.countDown g).ckBnum g ((s.reg .MAC_BNUM g).toNat + 1)).ledgerTriggers l ∧
      u.reg .MAC_BNUM g = BitVec.ofNat 32 ((s.reg .MAC_BNUM g).toNat + 1) ∧
      Tab.get (fun _ => none) u.mac.beaconAt g = some (((s.tracker g).cyc + ivlOf (s.reg .MAC_BCNCFG g)) % 2 ^ 40)) ∧
  (∀ (g : Nat) (es : List Nat) (tp : Nat × Nat × Nat) (s : State), s.netRuns g = false → exec (.networkBeacon ⟨g, es, tp⟩) s = .next s ∧ exec (.discoveryBeacon g) s = .next s) ∧
  (∀ (g : Nat) (es : List Nat) (tp : Nat × Nat × Nat) (s : State), s.usable 0xFFFF = none → exec (.networkBeacon ⟨g, es, tp⟩) s = .next s) ∧
  (∀ (g : Nat) (s : State), s.netRuns g = true → (s.tracker g).slot = 0 → discovers (s.reg .MAC_BCNCFG g) = true → s.pwr.mode ≠ .ember →
    (s.reg .MAC_BNUM g).toNat % max 1 (getBits (s.reg .MAC_BCNCFG g) 8 8) = 0 → (s.reg .MAC_BNUM g).toNat ≠ 0 →
    Tab.get (fun _ => 0) s.mac.disc g ≠ (s.reg .MAC_BNUM g).toNat →
    (s.lin.frames.any fun f => f.fg == g && f.state == FrameState.running) = false →
    nbOf (s.mains g) (s.reg .MAC_BCNCFG g) true ≤ ivlOf (s.reg .MAC_BCNCFG g) →
    exec (.discoveryBeacon g) s = .next (({ s with mac := { s.mac with
        disc := Tab.set (fun _ => 0) s.mac.disc g (s.reg .MAC_BNUM g).toNat
        discLimit := Tab.set (fun _ => false) s.mac.discLimit g false } }).sendNow
      { id := 0, fg := g, dst := 0xFFFF, seq := some 0, mcs := 1, ports := s.beaconPorts g, cycle := (s.tracker g).cyc,
        cgFirst := s.fld F.MAC_BCNCFG_BCG_FIRST g, cgLast := s.fld F.MAC_BCNCFG_BCG_LAST g,
        body := .discBeacon (s.reg .MAC_BNUM g).toNat (s.cmp.sec, s.cmp.ns) (ivlOf (s.reg .MAC_BCNCFG g)) (s.assocEntries g) })) ∧
  (∀ (g : Nat) (who : Who) (v w : Word) (s : State), s.gate who .MAC_BCNCFG g = .pass →
    w = bcnForm (plainWrite .MAC_BCNCFG (s.reg .MAC_BCNCFG g) v) → s.bcnAccepted g w = true → ivlOf w = ivlOf (s.reg .MAC_BCNCFG g) →
    exec (.macBcncfgWrite g who v) s = .next (s.setReg .MAC_BCNCFG g w)) ∧
  (∀ (g : Nat) (who : Who) (v w : Word) (s : State), s.gate who .MAC_BCNCFG g = .pass →
    w = bcnForm (plainWrite .MAC_BCNCFG (s.reg .MAC_BCNCFG g) v) → s.bcnAccepted g w = false →
    exec (.macBcncfgWrite g who v) s = .next (s.event .denied pageMac [(4, g)]))

/-- Associations, key confirmation, release and quarantine (R234, R235, R236, R252, R255, R256, R261, R274). ASSOC_REQ
with association open and the EUI-64 provisioned begins an association at the address it gets; one not provisioned is
denied without an answer; a full list answers with result 2. KEY_CONFIRM with the right nonces gives the node its
session, its group and its record and answers. ASSOC_TIMEOUT after 8 intervals ends the association. QUARANTINE_EXPIRE
at zero frees the address. LEAVE of an associated node with a listed reason releases it with quarantine; an invalid
management message of a node owes the acknowledgement with result 3. COMPLETES (exec answers a next state under
hypotheses on state and operands alone): assocReq, assocTimeout, keyConfirm, quarantineExpire, leave, mgmtInvalid. -/
def Obligations.AssociationsBeginConfirmAndEnd : Prop :=
  (∀ (g eui nn cap drift a : Nat) (zc : Int) (s : State), s.flag F.MAC_BCNCFG_ASSOC_OPEN g = true → s.pwr.mode ≠ .ember →
    s.runsFlpa g = true → Tab.get (fun _ => none) s.mac.prov eui = some true → s.pendingIn g < 64 → s.addrFor eui = some a →
    exec (.assocReq g eui nn cap drift zc) s = .next (s.beginAssoc g eui a nn cap drift zc)) ∧
  (∀ (g eui nn cap drift : Nat) (zc : Int) (s : State), s.flag F.MAC_BCNCFG_ASSOC_OPEN g = true → s.pwr.mode ≠ .ember →
    s.runsFlpa g = true → Tab.get (fun _ => none) s.mac.prov eui ≠ some true →
    exec (.assocReq g eui nn cap drift zc) s = .next (s.denyAssoc eui)) ∧
  (∀ (g eui nn cap drift : Nat) (zc : Int) (s : State), s.flag F.MAC_BCNCFG_ASSOC_OPEN g = true → s.pwr.mode ≠ .ember →
    s.runsFlpa g = true → Tab.get (fun _ => none) s.mac.prov eui = some true → 64 ≤ s.pendingIn g → s.addrOf eui = none →
    exec (.assocReq g eui nn cap drift zc) s = .next (s.assocResp g eui 0 0xFFFE 2)) ∧
  (∀ (g eui nn cap drift : Nat) (zc : Int) (s : State), s.flag F.MAC_BCNCFG_ASSOC_OPEN g = false →
    exec (.assocReq g eui nn cap drift zc) s = .next s) ∧
  (∀ (a : Nat) (n : Node) (j : Joining) (s : State), s.node a = some n → n.assoc = some j → j.bnum + 8 ≤ (s.reg .MAC_BNUM j.fg).toNat →
    exec (.assocTimeout a) s = .next (s.endAssoc a)) ∧
  (∀ (a g nn nm : Nat) (n : Node) (j : Joining) (s : State), s.node a = some n → n.assoc = some j → j.nn = nn → j.nm = nm → s.pwr.mode ≠ .ember →
    Gives (.keyConfirm a g nn nm) s fun t => ∃ u : State, ∃ n1 : Node,
      u = ((s.setNode a (some n1)).ensureKey).assignRec a g ∧ n1.sess = some (nn, nm) ∧ n1.fg = g ∧ n1.assoc = none ∧ n1.seq = {} ∧
      n1.state = (if n.state = .handing then .handing else .active) ∧
      (let v := u.rescan g a (stampBack u.now (u.fld F.MDM_RESCAN_BACK_S 0)) u.now false false
       let w := v.sendMgmt a (.keyConfirmAck v.epoch v.mac.bctr v.mac.gkph)
       (w.rollAt g = none → t = w) ∧ ∀ b, w.rollAt g = some b → t = w.sendMgmt a (.groupKey (!w.mac.gkph) b))) ∧
  (∀ (a : Nat) (q : Nat × Nat × Nat) (s : State), s.quarantine a = some q → q.2.2 = 0 →
    exec (.quarantineExpire a) s = .next (s.setQuar a none)) ∧
  (∀ (a r : Nat) (s : State), r ≤ 3 → s.associated a = true → exec (.leave a r) s = .next (s.releaseAddr a true)) ∧
  (∀ (a r : Nat) (s : State), 3 < r ∨ s.associated a = false → exec (.leave a r) s = .next s) ∧
  (∀ (a seq harq txn : Nat) (ack : Bool) (s : State), s.associated a = true →
    exec (.mgmtInvalid a seq harq txn true ack) s = .next (s.oweAck a ack false { seq := seq, harq := harq, result := 3, txn := txn }))

/-- MAC_NODECMD, NODE_REMOVE and the change of the group key (R235, R245, R246, R269, MAC_NODECMD (08)). A node command
that is let pass stores OP; in EMBER it answers 2, without a node at the selected address 1; a release or a forced
re-association of a node answers 0 and releases it; a wake answers 0 and sends the wake for a node with rendezvous,
else 3; a group-key change answers 3 while one runs, else starts the roll and answers 0. GROUP_KEY_ACTIVATE at its
beacon number notes the group, and ends the roll with the last one. NODE_REMOVE of a provisioned EUI-64 forgets it and
completes OK, else DENIED. COMPLETES (exec answers a next state under hypotheses on state and operands alone):
groupKeyChange, groupKeyActivate, nodeRelease, nodeWake, nodeForceReassoc, nodeRemove. -/
def Obligations.NodeCommandsAnswerTheirResult : Prop :=
  (∀ (who : Who) (s : State), s.gate who .MAC_NODECMD 0 = .pass → s.pwr.mode = .ember →
    exec (.nodeRelease who) s = .next ((s.setFld F.MAC_NODECMD_OP 0 1).setFld F.MAC_NODECMD_RESULT 0 2) ∧
    exec (.nodeWake who) s = .next ((s.setFld F.MAC_NODECMD_OP 0 2).setFld F.MAC_NODECMD_RESULT 0 2) ∧
    exec (.nodeForceReassoc who) s = .next ((s.setFld F.MAC_NODECMD_OP 0 3).setFld F.MAC_NODECMD_RESULT 0 2) ∧
    exec (.groupKeyChange who) s = .next ((s.setFld F.MAC_NODECMD_OP 0 4).setFld F.MAC_NODECMD_RESULT 0 2)) ∧
  (∀ (who : Who) (s : State) (a : Nat), s.gate who .MAC_NODECMD 0 = .pass → s.pwr.mode ≠ .ember → s.fld F.MAC_NODESEL_SADDR 0 = a →
    s.node a = none →
    exec (.nodeRelease who) s = .next ((s.setFld F.MAC_NODECMD_OP 0 1).setFld F.MAC_NODECMD_RESULT 0 1) ∧
    exec (.nodeWake who) s = .next ((s.setFld F.MAC_NODECMD_OP 0 2).setFld F.MAC_NODECMD_RESULT 0 1) ∧
    exec (.nodeForceReassoc who) s = .next ((s.setFld F.MAC_NODECMD_OP 0 3).setFld F.MAC_NODECMD_RESULT 0 1)) ∧
  (∀ (who : Who) (s : State) (a : Nat) (n : Node), s.gate who .MAC_NODECMD 0 = .pass → s.pwr.mode ≠ .ember → s.fld F.MAC_NODESEL_SADDR 0 = a →
    s.node a = some n →
    exec (.nodeRelease who) s = .next (((s.setFld F.MAC_NODECMD_OP 0 1).releaseAddr a true).setFld F.MAC_NODECMD_RESULT 0 0) ∧
    exec (.nodeForceReassoc who) s =
      .next ((((s.setFld F.MAC_NODECMD_OP 0 3).sendLeave a n 1).releaseAddr a true).setFld F.MAC_NODECMD_RESULT 0 0) ∧
    (n.rdv.isSome = true → exec (.nodeWake who) s =
      .next (((s.setFld F.MAC_NODECMD_OP 0 2).sendWake a n).setFld F.MAC_NODECMD_RESULT 0 0)) ∧
    (n.rdv = none → exec (.nodeWake who) s = .next ((s.setFld F.MAC_NODECMD_OP 0 2).setFld F.MAC_NODECMD_RESULT 0 3))) ∧
  (∀ (who : Who) (s : State), s.gate who .MAC_NODECMD 0 = .pass → s.pwr.mode ≠ .ember →
    exec (.groupKeyChange who) s = .next (if s.mac.roll.isSome then (s.setFld F.MAC_NODECMD_OP 0 4).setFld F.MAC_NODECMD_RESULT 0 3
      else (s.setFld F.MAC_NODECMD_OP 0 4).startRoll.setFld F.MAC_NODECMD_RESULT 0 0)) ∧
  (∀ (g b : Nat) (l : Tab Nat) (s : State), s.mac.roll = some l → s.rollAt g = some b → b ≠ 1 → b ≤ (s.reg .MAC_BNUM g).toNat + 1 →
    exec (.groupKeyActivate g) s = .next (
      let s1 := { s with mac := { s.mac with roll := some (Tab.set (fun _ => 0) l g 1) } }
      if (Tab.set (fun _ => 0) l g 1).all (fun p => p.2 == 1) then s1.rollDone else s1)) ∧
  (∀ (src : Src) (eui : Nat) (s : State), s.starts src 0x21 = true → Tab.get (fun _ => none) (s.start src).mac.prov eui = none →
    exec (.nodeRemove src eui) s = .next ((s.start src).complete src .denied [])) ∧
  (∀ (src : Src) (eui : Nat) (b : Bool) (s s2 : State), s.starts src 0x21 = true → Tab.get (fun _ => none) (s.start src).mac.prov eui = some b →
    s2 = { s.start src with mac := { (s.start src).mac with prov := Tab.set (fun _ => none) (s.start src).mac.prov eui none } } →
    s2.addrOf eui = none → exec (.nodeRemove src eui) s = .next (s2.complete src .ok []))

/-- Rendezvous, check-ins, absence, wake patterns, allocations and routes (R128, R194, R263, R264, R265, R266, R267, R268,
R269, R270, R271, R272). A rendezvous request of a node with free schedules stores a new schedule and sends it. A
check-in of an associated node counts as heard and is noted. A missed check-in counts up to two misses, then the node
is absent. An absent node is woken again every 16 intervals and released at the configured count. A wake pattern for
the module or for all on a recording L port posts its event record. WAKE_ANNOUNCE acts as a check-in and answers with
the timing. An allocation request that fits, in the cells that rate highest, is granted; one of a stream needs a node
with streams and an uplink map, whose capacity gives the depth and the realised span; ALLOC_END takes the grant away.
A neighbour report is stored and the group's routes are chosen anew; after three failures the next route is given, or
the node goes robust. COMPLETES (exec answers a next state under hypotheses on state and operands alone):
rendezvousReq, checkin, checkinMissed, absentWakeRepeat, absentRelease, wakePatternDetect, wakeAnnounce, allocReq,
allocEnd, neighbourReport, routeFailure. -/
def Obligations.NodesSleepWakeAndAreRouted : Prop :=
  (∀ (a drift px qx : Nat) (n : Node) (x y : Nat × Nat × Nat) (s : State), s.node a = some n → isAssociated n = true →
    pickSched (s.schedsTaken n.fg a) (min px 8) (Config.freeNat s.free) (Config.freeNat (s.free + 1)) (2 ^ min px 8) = some x →
    pickSched (s.schedsTaken n.fg a) (min qx 8) (Config.freeNat (s.free + 2)) (Config.freeNat (s.free + 3)) (2 ^ min qx 8) = some y →
    n.waddr ≠ 0 →
    exec (.rendezvousReq a drift px qx) s = .next (
      let r : Rdv := { pexp := min px 8, phase := x.2.1, sidx := x.2.2, outPexp := min qx 8, outPhase := y.2.1, outSidx := y.2.2 }
      ({ s with free := s.free + 5 }.setNode a (some { n with drift := drift, rdv := some r })).sendSet a
        { n with drift := drift, rdv := some r } r)) ∧
  (∀ (a : Nat) (line : Stamp) (zc : Int) (mains : Bool) (n : Node) (s : State), s.node a = some n → isAssociated n = true →
    exec (.checkin a line zc mains) s = .next ((s.heardOk a n.fg line none).checkinNoted a zc mains)) ∧
  (∀ (a : Nat) (line : Stamp) (zc : Int) (mains : Bool) (s : State) (t : State), s.associated a = true →
    exec (.checkin a line zc mains) s = .next t → exec (.wakeAnnounce a line zc mains) s = .next (t.sendTo a .wakeTiming false .none)) ∧
  (∀ (a : Nat) (n : Node) (s : State), s.node a = some n → n.owed = true → n.state = .active → 2 ≤ n.miss →
    exec (.checkinMissed a) s = .next (s.makeAbsent a n)) ∧
  (∀ (a : Nat) (n : Node) (s : State), s.node a = some n → n.owed = true → n.state = .active → n.miss < 2 → nodeSleepy n = false →
    exec (.checkinMissed a) s = .next (s.setNode a (some { n with miss := n.miss + 1, owed := false }))) ∧
  (∀ (a : Nat) (n : Node) (s : State), s.node a = some n → n.state = .absent → n.absentFor % 16 = 0 → n.absentFor ≠ n.woken →
    exec (.absentWakeRepeat a) s = .next ((s.setNode a (some { n with woken := n.absentFor })).sendWake a n)) ∧
  (∀ (a : Nat) (n : Node) (s : State), s.node a = some n → n.state = .absent → s.fld F.MAC_CHKCFG_ABSENT_REL 0 ≠ 0 →
    s.fld F.MAC_CHKCFG_ABSENT_REL 0 ≤ n.absentFor → exec (.absentRelease a) s = .next (s.releaseAddr a true)) ∧
  (∀ (p : Nat) (chips : BitVec 32) (w : BitVec 16) (s : State), s.pwr.mode = .serve → p < 24 → s.portOn p = true → 1 ≤ s.portRole p → s.portRole p ≤ 3 →
    wakeAddrOf chips = some w → w.toNat = 0xFFFF ∨ w.toNat = s.fld F.MAC_WAKEADDR_ADDR 0 →
    exec (.wakePatternDetect p chips) s = .next (s.event .ok (pagePort p) [(4, portNo p)])) ∧
  (∀ (a gid : Nat) (own : Bool) (n : Node) (s : State), s.node a = some n → (n.grants.any fun g => g.gid == gid) = true →
    exec (.allocEnd a gid own) s = .next (
      let s1 := s.setNode a (some { n with grants := n.grants.filter fun g => g.gid != gid })
      if own then s1.sendMgmt a (.allocEnd gid) else s1)) ∧
  (∀ (a gid k span lo hi slot cper cph nmax fromB toB : Nat) (n : Node) (g : Grant) (s : State), s.node a = some n → isAssociated n = true →
    span < 256 → k = 0 ∨ k = 2 →
    g = { gid := gid, kind := k, cgFirst := lo, cgLast := hi, slot := slot, cper := cper, cph := cph, nsymMax := nmax, fromB := fromB,
          toB := toB, strm := 0 } → s.grantFits n.fg n g = true → s.bestRated n.fg a n g = true → gid < 256 → (n.grants.any fun h => h.gid == gid) = false →
    exec (.allocReq a gid k span lo hi slot cper cph nmax fromB toB) s =
      .next ((s.setNode a (some { n with grants := n.grants ++ [g] })).sendMgmt a (.allocGrant gid))) ∧
  (∀ (a gid span lo hi slot cper cph nmax fromB toB cap : Nat) (n : Node) (m : ToneMap) (g0 g : Grant) (s : State), s.node a = some n →
    isAssociated n = true → nodeStreams n = true → (s.recOf a).isSome = true → s.ulForce a = some m → span < 256 →
    g0 = { gid := gid, kind := 1, cgFirst := lo, cgLast := hi, slot := slot, cper := cper, cph := cph, nsymMax := nmax, fromB := fromB,
           toB := toB, strm := 0 } → cap = s.streamCap n.fg m g0 → cap ≠ 0 →
    g = { g0 with strm := streamN (span + 1) cap (streamG (span + 1) cap) * 8 + streamG (span + 1) cap,
                  span := realisedSpan (streamN (span + 1) cap (streamG (span + 1) cap)) (streamG (span + 1) cap) cap } →
    s.grantFits n.fg n g = true → s.bestRated n.fg a n g = true → gid < 256 → (n.grants.any fun h => h.gid == gid) = false →
    exec (.allocReq a gid 1 span lo hi slot cper cph nmax fromB toB) s =
      .next ((s.setNode a (some { n with grants := n.grants ++ [g] })).sendMgmt a (.allocGrant gid))) ∧
  (∀ (a : Nat) (heard : List (Nat × Nat)) (n : Node) (s : State), s.node a = some n → isAssociated n = true → nodeRelay n = true → heard.length ≤ 32 →
    Gives (.neighbourReport a heard) s fun t => ∃ s1 : State, s1 = s.setNode a (some { n with heard := heard }) ∧
      t = s1.reroute (s1.nodeAddrs.filter fun x => match s1.node x with
        | none => false
        | some m => m.fg == n.fg)) ∧
  (∀ (a : Nat) (n : Node) (s : State), s.node a = some n → 3 ≤ n.fails →
    (s.setNode a (some { n with fails := 0, tried := n.tried ++ [n.route] })).bestRoute a (n.tried ++ [n.route]) = none →
    exec (.routeFailure a) s = .next ((s.setNode a (some { n with fails := 0, tried := n.tried ++ [n.route] })).setNode a
      (some { n with fails := 0, tried := n.tried ++ [n.route], robust := true, route := [] })))

/-- Handover between modules, step by step (R278, R279, R410, R411, R412). Received control messages that were seen before
are acknowledged and nothing else happens. HANDOVER_DECISION of an active unpinned node begins its handover. OFFER
with nothing received sends the offer; a received one is judged. ACCEPT of an offered handover notes the address and
submits the release record. COMMIT of a pending record that names this module submits the owner record with the given
counters. ABORT drops what has no record. After 1 s without ACCEPT the handover is aborted and completes ABANDONED. A
pending record of 10 s asks the giver, and is dropped on the answer that nothing was released. HANDOVER_QUERY is
answered. OWNER_SET whose turn it is starts and is served; SNR reports are taken or sent. COMPLETES (exec answers a
next state under hypotheses on state and operands alone): handoverDecision, offer, accept, commit, abort,
handoverAcceptTimeout, pendingRecordTimeout, ownerSet, snrReport, handoverQuery. -/
def Obligations.HandoversFollowTheirMessages : Prop :=
  (∀ (src mseq eui a : Nat) (seq : SeqState) (o : Offer) (reports : List (Nat × Int)) (s : State), s.glOn = true →
    s.gl.seen.contains (src, mseq) = true → o.giver = src → o.mseq = mseq →
    exec (.accept src mseq eui a) s = .next (s.glAck none src mseq) ∧ exec (.commit src mseq eui seq) s = .next (s.glAck none src mseq) ∧
    exec (.abort src mseq eui) s = .next (s.glAck none src mseq) ∧ exec (.handoverQuery src mseq eui) s = .next (s.glAck none src mseq) ∧
    exec (.offer a (some o)) s = .next (s.glAck none src mseq) ∧ exec (.snrReport (some (src, mseq)) reports) s = .next (s.glAck none src mseq)) ∧
  (∀ (a target : Nat) (n : Node) (s : State), (s.mac.handWait.find? fun w => w.1 == a) = none → s.node a = some n → n.state = .active →
    target ≠ s.moduleIndex → Tab.get (fun _ => none) s.plc.pins (s.globalAddr a) = none → s.handsNow < 16 → s.pwr.mode ≠ .ember → s.glOn = true →
    exec (.handoverDecision a target) s = .next (let s1 := s.setNode a (some { n with state := .handing })
      { s1 with mac := { s1.mac with handOut := s1.mac.handOut ++
        [({ saddr := a, eui := n.eui, target := target, begun := s.now, src := .none, sess := n.sess.getD (0, 0) } : HandOut)] } })) ∧
  (∀ (a : Nat) (s : State), s.glOn = true → exec (.offer a none) s = .next (s.sendOffer a)) ∧
  (∀ (a : Nat) (o : Offer) (s u : State), s.glOn = true → s.gl.seen.contains (o.giver, o.mseq) = false →
    u = { s.glAck none o.giver o.mseq with gl := { (s.glAck none o.giver o.mseq).gl with
      seen := (s.glAck none o.giver o.mseq).gl.seen ++ [(o.giver, o.mseq)] } } →
    exec (.offer a (some o)) s = .next (u.takeOffer a o)) ∧
  (∀ (src mseq eui a : Nat) (h : HandOut) (s u : State), s.glOn = true → s.gl.seen.contains (src, mseq) = false →
    u = { s.glAck none src mseq with gl := { (s.glAck none src mseq).gl with seen := (s.glAck none src mseq).gl.seen ++ [(src, mseq)] } } →
    u.handOutOf eui = some h → h.target = src → h.offered.isSome = true → h.committed = none →
    exec (.accept src mseq eui a) s =
      .next ((u.setHandOut { h with committed := some a }).submit 7 (u.globalAddr h.saddr) 0 (.ownership 3 src) 1)) ∧
  (∀ (src mseq eui : Nat) (seq : SeqState) (h : HandIn) (s u : State), s.glOn = true → s.gl.seen.contains (src, mseq) = false →
    u = { s.glAck none src mseq with gl := { (s.glAck none src mseq).gl with seen := (s.glAck none src mseq).gl.seen ++ [(src, mseq)] } } →
    u.handInOf eui = some h → h.giver = src → h.pending = true → h.owner = false →
    exec (.commit src mseq eui seq) s =
      .next ((u.setHandIn { h with owner := true, node := { h.node with seq := seq } }).submit 7 (u.globalAddr h.saddr) 0 (.ownership 2 src) 1)) ∧
  (∀ (src mseq eui : Nat) (h : HandIn) (s u : State), s.glOn = true → s.gl.seen.contains (src, mseq) = false →
    u = { s.glAck none src mseq with gl := { (s.glAck none src mseq).gl with seen := (s.glAck none src mseq).gl.seen ++ [(src, mseq)] } } →
    u.handInOf eui = some h → h.giver = src → h.owner = false → (u.dropHandIn eui).handOutOf eui = none →
    exec (.abort src mseq eui) s = .next (u.dropHandIn eui)) ∧
  (∀ (a : Nat) (h : HandOut) (t : Stamp) (s : State), (s.mac.handOut.find? fun h => h.saddr == a && !h.landed) = some h → h.offered = some t →
    h.committed = none → stampNs t + 1000000000 ≤ stampNs s.now →
    exec (.handoverAcceptTimeout a) s = .next ((s.glControl h.target (.abort h.eui)).abortHand h .abandoned)) ∧
  (∀ (eui : Nat) (h : HandIn) (s : State), s.handInOf eui = some h → h.owner = false → stampNs h.since + 10000000000 ≤ stampNs s.now →
    exec (.pendingRecordTimeout eui none) s = .next ((s.setHandIn { h with queried := true }).glControl h.giver (.query eui))) ∧
  (∀ (eui : Nat) (h : HandIn) (s : State), s.handInOf eui = some h → h.owner = false → h.queried = true →
    exec (.pendingRecordTimeout eui (some false)) s = .next (s.dropHandIn eui)) ∧
  (∀ (src mseq eui : Nat) (s u : State), s.glOn = true → s.gl.seen.contains (src, mseq) = false →
    u = { s.glAck none src mseq with gl := { (s.glAck none src mseq).gl with seen := (s.glAck none src mseq).gl.seen ++ [(src, mseq)] } } →
    exec (.handoverQuery src mseq eui) s = .next (u.glControl src (.answer eui (u.mac.handOut.any fun h => h.eui == eui && h.landed)))) ∧
  (∀ (src : Src) (g m : Nat) (pin : Bool) (s : State), s.starts src 0x53 = true → (s.start src).localAddr (g % 2 ^ 26) = none →
    exec (.ownerSet src g m pin) s = .next ((s.start src).complete src .denied [])) ∧
  (∀ (src : Src) (g a : Nat) (pin : Bool) (s s1 : State), s.starts src 0x53 = true → s1 = s.start src → s1.localAddr (g % 2 ^ 26) = some a →
    s1.associated a = true →
    exec (.ownerSet src g 0xFFFF pin) s =
      .next ({ s1 with plc := { s1.plc with pins := Tab.set (fun _ => none) s1.plc.pins (g % 2 ^ 26) none } }.complete src .ok [])) ∧
  (∀ (src mseq : Nat) (reports : List (Nat × Int)) (s u : State), s.glOn = true → s.gl.seen.contains (src, mseq) = false →
    u = { s.glAck none src mseq with gl := { (s.glAck none src mseq).gl with seen := (s.glAck none src mseq).gl.seen ++ [(src, mseq)] } } →
    exec (.snrReport (some (src, mseq)) reports) s = .next (u.takeReports src reports))

/-- The ledger: commands, batches, reports and timers (R282, R284, R285, R286, R287, R288, R290, R291, R294, R295, R477).
A started ledger command of submit, cancel or release joins the next batch; in minimal service submit and cancel
complete DENIED. LEDGER_QUERY of a held entry completes OK with its fields, else DENIED; LEDGER_NEXT completes with
the next LID above the one given. LEDGER_BATCH_LANDED commits a programmed ledger record and lets it land.
LEDGER_RESEND of a SENT entry that is due sends it again. A report, a deadline or a confirmation timeout that applies
joins the next batch. A read of MAC_LDG_ACC returns the accepted count and latches the others. COMPLETES (exec answers
a next state under hypotheses on state and operands alone): ledgerSubmit, ledgerCancel, ledgerQuery, ledgerRelease,
ledgerNext, ledgerBatchLanded, ledgerResend, ledgerReport, ledgerDeadline, ledgerConfirmTimeout, macLdgAccRead. -/
def Obligations.LedgerCommandsAndTimers : Prop :=
  (∀ (src : Src) (g token href deadline : Nat) (want : Bool) (s : State), s.starts src 0x40 = true → s.minimal = false →
    exec (.ledgerSubmit src g token href deadline want) s =
      .next ((s.start src).ledgerTrigger (.submit src (g % 2 ^ 26) token href deadline want))) ∧
  (∀ (src : Src) (lid : Nat) (s : State), s.starts src 0x41 = true → s.minimal = false →
    exec (.ledgerCancel src lid) s = .next ((s.start src).ledgerTrigger (.cancel src lid))) ∧
  (∀ (src : Src) (lid g token href deadline : Nat) (want : Bool) (s : State), s.minimal = true →
    (s.starts src 0x40 = true → exec (.ledgerSubmit src g token href deadline want) s = .next ((s.start src).complete src .denied [])) ∧
    (s.starts src 0x41 = true → exec (.ledgerCancel src lid) s = .next ((s.start src).complete src .denied []))) ∧
  (∀ (src : Src) (lid : Nat) (s : State), s.starts src 0x43 = true →
    exec (.ledgerRelease src lid) s = .next ((s.start src).ledgerTrigger (.release src lid))) ∧
  (∀ (src : Src) (lid : Nat) (e : LEntry) (s : State), s.starts src 0x42 = true → (s.start src).entry lid = some e →
    exec (.ledgerQuery src lid) s = .next ((s.start src).complete src .ok
      [(1, lineState (some e)), (1, e.reason), (1, e.delivery), (1, 0), (2, e.mcode), (2, 0), (4, e.lseq)])) ∧
  (∀ (src : Src) (lid : Nat) (s : State), s.starts src 0x42 = true → (s.start src).entry lid = none →
    exec (.ledgerQuery src lid) s = .next ((s.start src).complete src .denied [])) ∧
  (∀ (src : Src) (lid : Nat) (s : State), s.starts src 0x44 = true →
    exec (.ledgerNext src lid) s = .next ((s.start src).complete src .ok
      [(8, (((s.start src).ldg.entries.find? fun p => decide (lid < p.1)).map Prod.fst).getD 0)])) ∧
  (∀ (w : Waiting) (s : State), s.programmed = some w → w.record.kind = 4 →
    exec .ledgerBatchLanded s = .next ((s.commit w).landed w.record)) ∧
  (∀ (lid a : Nat) (due : Bool) (e : LEntry) (n : Node) (s : State), s.entry lid = some e → s.localAddr e.gaddr = some a → s.node a = some n →
    e.state = .sent → e.sentAt + s.fld F.MAC_LDGCFG_RETRY 0 ≤ s.bnumOf e.gaddr → tokenNode n (due && s.dueAt n (s.bnumOf e.gaddr)) = true → s.withinWindow e = true →
    s.lidHeld lid = false →
    exec (.ledgerResend lid due) s = .next ((s.tokenFrames [(e.gaddr, lid)] [e.gaddr]).noteSent [(e.gaddr, lid)])) ∧
  (∀ (a lid : Nat) (e : Nat × Nat × Nat × Nat) (s : State), s.associated a = true → s.lidOfSeq (s.globalAddr a) e.1 = some lid →
    exec (.ledgerReport a [e]) s = .next (s.ledgerTrigger (.report lid e.2.1 e.2.2.1 e.2.2.2))) ∧
  (∀ (lid : Nat) (e : LEntry) (s : State), s.entry lid = some e → e.deadline ≠ 0 → e.deadline ≤ s.now.s → e.state = .queued ∨ e.state = .sent →
    exec (.ledgerDeadline lid) s = .next (s.ledgerTrigger (.deadline lid))) ∧
  (∀ (lid : Nat) (e : LEntry) (s : State), s.entry lid = some e → e.state = .acked → e.ackedAt + s.fld F.MAC_LDGCFG_CONF_S 0 ≤ s.now.s →
    exec (.ledgerConfirmTimeout lid) s = .next (s.ledgerTrigger (.confirmTimeout lid))) ∧
  (∀ (who : Who) (s : State), s.readable who .MAC_LDG_ACC 0 = true →
    Gives (.macLdgAccRead who) s fun t => t.hst.readData = BitVec.ofNat 64 s.ldg.acc ∧ t.reg .MAC_LDG_Q 0 = BitVec.ofNat 32 (s.countState .queued) ∧
      t.reg .MAC_LDG_S 0 = BitVec.ofNat 32 (s.countState .sent) ∧ t.reg .MAC_LDG_A 0 = BitVec.ofNat 32 (s.countState .acked) ∧
      t.reg .MAC_LDG_C 0 = BitVec.ofNat 32 s.ldg.confirmed ∧ t.reg .MAC_LDG_R 0 = BitVec.ofNat 32 s.ldg.returned ∧
      s.OnlyIn [.regs, .hst] t ∧
      s.RegsOnly [(.MAC_LDG_Q, 0), (.MAC_LDG_S, 0), (.MAC_LDG_A, 0), (.MAC_LDG_C, 0), (.MAC_LDG_R, 0)] t)

/-- Frames that wait for descriptors, and descriptors the host returns (R297, R298, R501). FBD_WAIT_TIMEOUT of a frame
that has waited 50 ms drops it, owes the NACK, sets MAC_FBD.DROP and posts OVERRUN at most once a second.
FBD_RETURN_TAKE takes the first entry of the return ring: a descriptor the host holds becomes free and serves what
waits, any other sets RETBAD. COMPLETES (exec answers a next state under hypotheses on state and operands alone):
fbdWaitTimeout, fbdReturnTake. -/
def Obligations.DescriptorsWaitAndReturn : Prop :=
  (∀ (src seq : Nat) (w : FbdWait) (s s2 : State), (s.mac.fbdWait.find? fun w => w.src == src && w.seq == seq) = some w →
    s2 = (({ s with mac := { s.mac with fbdWait := s.mac.fbdWait.erase w } }).oweAck w.src w.ackReq false
      { seq := w.seq, harq := w.harq, result := 1, txn := w.txn }).setFld F.MAC_FBD_DROP 0 1 → stampNs w.since + 50000000 ≤ stampNs s.now →
    exec (.fbdWaitTimeout src seq) s = .next (if s2.mac.fbdEvtSec = some s2.cmp.sec then s2
      else ({ s2 with mac := { s2.mac with fbdEvtSec := some s2.cmp.sec } }).event .overrun pageMac [])) ∧
  (∀ (i : Nat) (l : List Nat) (s s2 : State), s.hst.retRing = i :: l → i ∈ s.mac.hostFbds →
    s2 = { s with hst := { s.hst with retRing := l }, mac := { s.mac with hostFbds := s.mac.hostFbds.filter fun x => x != i } } →
    exec .fbdReturnTake s = .next (s2.serveFbdWait s2.mac.fbdWait.length)) ∧
  (∀ (i : Nat) (l : List Nat) (s : State), s.hst.retRing = i :: l → i ∉ s.mac.hostFbds →
    exec .fbdReturnTake s = .next ({ s with hst := { s.hst with retRing := l } }.setFld F.HST_STAT_RETBAD 0 1)) ∧
  (∀ (s : State), s.hst.retRing = [] → exec .fbdReturnTake s = .next s)

/-- Sweeps, baselines and the operations of MDM_FMCMD (R299, R300, R304, R305, R306, R307, R310). A due reflectometry
sweep whose turn it is is noted, and either counted as skipped or taken; one that is not its turn's, or whose place
has not come, changes nothing. A write of MDM_FMCMD in EMBER answers RESULT 2 and does no more. SWEEP_NOW and
BASELINE_TAKE act on a port that may sweep and is free, answer 1 for a port number above 23 and 3 for a port that may
not; RANGING_SET begins a set for an associated node, else answers 1; EVIDENCE_RELEASE frees the record and its
handle, else answers 1. COMPLETES (exec answers a next state under hypotheses on state and operands alone):
reflectometrySweep, sweepNow, baselineTake, rangingSet, evidenceRelease. -/
def Obligations.SweepsAndBaselinesAreTaken : Prop :=
  (∀ (p : Nat) (bins : List (Int × Int)) (full folded : Bool) (s : State), p < 24 → s.sweepTurn (s.portFg p) = some p →
    (s.lvPort p = true → profileSweeps (bandOf (s.bandInForce (s.portFg p))).profile = true) →
    exec (.reflectometrySweep p bins full folded) s =
      .next (if (s.noteSweep p).sweepSkipped p full then (s.noteSweep p).bumpFld F.MDM_FMSKIP_COUNT 0 1
        else if s.sweepNowMay p = false then s
        else if folded then ((s.noteSweep p).sentSweep p).bumpFld F.MDM_FMSKIP_COUNT 0 1
        else ((s.noteSweep p).sentSweep p).takeSweep p bins)) ∧
  (∀ (p : Nat) (bins : List (Int × Int)) (full folded : Bool) (s : State), s.sweepTurn (s.portFg p) ≠ some p →
    exec (.reflectometrySweep p bins full folded) s = .next s) ∧
  (∀ (who : Who) (bins : List (Int × Int)) (folded : Bool) (s : State), s.gate who .MDM_FMCMD 0 = .pass → s.pwr.mode = .ember →
    exec (.sweepNow who bins folded) s = .next ((s.setFld F.MDM_FMCMD_OP 0 1).setFld F.MDM_FMCMD_RESULT 0 2) ∧
    exec (.baselineTake who) s = .next ((s.setFld F.MDM_FMCMD_OP 0 2).setFld F.MDM_FMCMD_RESULT 0 2) ∧
    exec (.rangingSet who) s = .next ((s.setFld F.MDM_FMCMD_OP 0 3).setFld F.MDM_FMCMD_RESULT 0 2) ∧
    exec (.evidenceRelease who) s = .next ((s.setFld F.MDM_FMCMD_OP 0 4).setFld F.MDM_FMCMD_RESULT 0 2)) ∧
  (∀ (who : Who) (bins : List (Int × Int)) (folded : Bool) (p : Nat) (s s1 : State), s.gate who .MDM_FMCMD 0 = .pass → s.pwr.mode ≠ .ember →
    s1 = s.setFld F.MDM_FMCMD_OP 0 1 → p = (s.reg .MDM_FMARG 0).toNat % 32 → p < 24 → s1.sweepRefused p = false → s1.portOn p = true →
    s1.calHolds p = false → s1.onAir p = false →
    exec (.sweepNow who bins folded) s =
      .next ((if folded then (s1.sentSweep p).bumpFld F.MDM_FMSKIP_COUNT 0 1 else (s1.sentSweep p).takeSweep p bins).setFld F.MDM_FMCMD_RESULT 0 0)) ∧
  (∀ (who : Who) (p : Nat) (s s1 : State), s.gate who .MDM_FMCMD 0 = .pass → s.pwr.mode ≠ .ember →
    s1 = s.setFld F.MDM_FMCMD_OP 0 2 → p = (s.reg .MDM_FMARG 0).toNat % 32 → p < 24 → s1.sweepRefused p = false → s1.portOn p = true →
    s1.calHolds p = false →
    exec (.baselineTake who) s =
      .next (({ s1 with fm := { s1.fm with taking := Tab.set (fun _ => none) s1.fm.taking p (some []) } }).setFld F.MDM_FMCMD_RESULT 0 0)) ∧
  (∀ (who : Who) (p : Nat) (s s1 : State), s.gate who .MDM_FMCMD 0 = .pass → s.pwr.mode ≠ .ember → s1 = s.setFld F.MDM_FMCMD_OP 0 2 →
    p = (s.reg .MDM_FMARG 0).toNat % 32 →
    (24 ≤ p → exec (.baselineTake who) s = .next (s1.setFld F.MDM_FMCMD_RESULT 0 1)) ∧
    (p < 24 → s1.sweepRefused p = true → exec (.baselineTake who) s = .next (s1.setFld F.MDM_FMCMD_RESULT 0 3))) ∧
  (∀ (who : Who) (s s1 : State), s.gate who .MDM_FMCMD 0 = .pass → s.pwr.mode ≠ .ember → s1 = s.setFld F.MDM_FMCMD_OP 0 3 →
    exec (.rangingSet who) s = .next (if s1.associated ((s.reg .MDM_FMARG 0).toNat % 65536) then
      (s1.beginSet ((s.reg .MDM_FMARG 0).toNat % 65536)).setFld F.MDM_FMCMD_RESULT 0 0 else s1.setFld F.MDM_FMCMD_RESULT 0 1)) ∧
  (∀ (who : Who) (h : Nat) (s s1 : State), s.gate who .MDM_FMCMD 0 = .pass → s.pwr.mode ≠ .ember → s1 = s.setFld F.MDM_FMCMD_OP 0 4 →
    h = (s.reg .MDM_FMARG 0).toNat →
    exec (.evidenceRelease who) s = .next (if s.fm.evid.any (fun e => e.handle == h) then
      ({ s1 with fm := { s1.fm with evid := s.fm.evid.filter fun e => e.handle != h }
                 prog := { s1.prog with handles := Tab.del s.prog.handles h } }).setFld F.MDM_FMCMD_RESULT 0 0
      else s1.setFld F.MDM_FMCMD_RESULT 0 1))

/-- Ranging exchanges and the energy balance (R309, R310, R311, R312, R313). RANGE_RESP of an open exchange whose request
and acknowledgement the module has noted closes it with its round trip and goes on with the set; after 8 beacon
intervals an open exchange is given up and the next begins. BALANCE_POINT_CHANGE stages the next point of a pair on
both channels. BALANCE_DWELL_END adds the dwell to the current point. METER_READ keeps up to four readings of an
associated node. BALANCE_INTERVAL_END writes the records and starts the next interval. COMPLETES (exec answers a next
state under hypotheses on state and operands alone): rangeResp, balancePointChange, balanceDwellEnd, meterRead,
balanceIntervalEnd, rangingExchangeTimeout. -/
def Obligations.RangingAndBalanceProceed : Prop :=
  (∀ (a rid turn : Nat) (req ack : Stamp) (eps : Int) (x : RangeSet) (e : Exchange) (s : State), s.ranging a = some x →
    x.open_.find? (fun e => e.rid == rid) = some e → e.req = some req → e.ack = some (ack, eps) →
    exec (.rangeResp a rid turn req ack eps) s = .next (s.nextExchange { x with
      open_ := []
      done := x.done ++ [({ e with req := some req
                                   ack := some (ack, eps)
                                   turn := some turn }, roundTrip req ack turn eps)] })) ∧
  (∀ (req ack : Stamp) (turn : Nat) (eps : Int),
    roundTrip req ack turn eps = ((stampNs ack : Int) - stampNs req) * (1000000000 + eps) - turn * 1000000000) ∧
  (∀ (a rid : Nat) (x : RangeSet) (n : Node) (e : Exchange) (s : State), s.ranging a = some x → s.node a = some n →
    x.open_.find? (fun e => e.rid == rid) = some e →
    exec (.rangingExchangeTimeout a rid) s =
      .next (if e.begun + 8 ≤ (s.reg .MAC_BNUM n.fg).toNat then s.nextExchange { x with open_ := [] } else s)) ∧
  (∀ (pair n : Nat) (s : State), s.balances = true → pair < 2 → s.pointsOf pair = [n] → Tab.get (fun _ => none) s.fm.point pair = none →
    Gives (.balancePointChange pair) s fun t => Tab.get (fun _ => none) t.fm.point pair = some n ∧
      t.reg .GS_XPT (2 * pair) = xptWord (s.fld F.MDM_BALPT_VP n) (s.fld F.MDM_BALPT_VN n) (s.flag F.MDM_BALPT_VN_AG n) ∧
      t.reg .GS_XPT (2 * pair + 1) = xptWord (s.fld F.MDM_BALPT_IP n) (s.fld F.MDM_BALPT_IN n) (s.flag F.MDM_BALPT_IN_AG n) ∧
      s.OnlyIn [.regs, .gs, .fm] t) ∧
  (∀ (pair p n : Nat) (sum : Int) (s : State), Tab.get (fun _ => none) s.fm.point pair = some p → s.balances = true → n ≠ 0 →
    s.gsClean (2 * pair) = true → s.gsClean (2 * pair + 1) = true → pair ∉ s.fm.spoiled →
    exec (.balanceDwellEnd pair sum n) s = .next { s with fm := { s.fm with
      dwells := Tab.set (fun _ => []) s.fm.dwells p (Tab.get (fun _ => []) s.fm.dwells p ++ [({ sum := sum, n := n } : Dwell)]) } }) ∧
  (∀ (a : Nat) (l : List (Nat × Nat × Nat)) (s : State), s.associated a = true → 1 ≤ l.length → l.length ≤ 4 → (∀ r ∈ l, r.1 ≤ 1) →
    exec (.meterRead a l) s = .next { s with fm := { s.fm with
      readings := Tab.set (fun _ => []) s.fm.readings a (Tab.get (fun _ => []) s.fm.readings a ++ l) } }) ∧
  (∀ (l : List (Nat × Int × Int)) (s s1 : State), s.balances = true → s.fm.began.s + 60 * s.fld F.MDM_BALCFG_MINUTES 0 ≤ s.now.s →
    s1 = s.drew.balancePoints l →
    exec (.balanceIntervalEnd l) s = .next { s1 with fm := { s1.fm with
      dwells := []
      began := s1.now } })

/-- Grid sense: configuration, sources, boundaries, samples and draining (R314, R315, R316, R317, R318, R320, R325, R327,
R329, R330, R335). GS_CFG_WRITE stores its form, and its range waits; GS_XPT_WRITE stores its word; LINGO and
CHARGE_RESET wait for the next boundary. A source or return write that would drive a pin another role drives sets
XSTAT.REFUSED, posts DENIED and drives nothing, else its form is in force. GS_CHANGE_APPLY of an enabled channel with
a change applies it. A sample of a converting channel stores its 24 byte record at its place in the ring, advances the
write index and counts the sample. A drained channel loses its ring; with the last one the sources turn off. COMPLETES
(exec answers a next state under hypotheses on state and operands alone): gsCfgWrite, gsXptWrite, sourceWrite,
gsRetWrite, gsChangeApply, lingo, chargeReset, gsSampleOutput, gsChannelDrain. -/
def Obligations.GridSenseFollowsItsRegisters : Prop :=
  (∀ (c : Nat) (who : Who) (w : Word) (s : State), s.gate who .GS_CFG c = .pass →
    Gives (.gsCfgWrite c who w) s fun t => t.reg .GS_CFG c = gsCfgForm (plainWrite .GS_CFG (s.reg .GS_CFG c) w) ∧
      (t.gsCh c).rangeTo = some (getBits (gsCfgForm (plainWrite .GS_CFG (s.reg .GS_CFG c) w)) 4 3) ∧
      s.OnlyIn [.regs, .gs] t ∧ s.RegsOnly [(.GS_CFG, c)] t) ∧
  (∀ (c : Nat) (who : Who) (w : Word) (s : State), s.gate who .GS_XPT c = .pass → exec (.gsXptWrite c who w) s = .next (s.store .GS_XPT c w)) ∧
  (∀ (c : Nat) (who : Who) (s : State), s.gate who .GS_CMD c = .pass →
    exec (.lingo c who) s = .next (s.setGsCh c { s.gsCh c with lingo := true }) ∧
    exec (.chargeReset c who) s = .next (s.setGsCh c { s.gsCh c with reset := true })) ∧
  (∀ (role : Nat) (who : Who) (w : Word) (r : Reg × Nat) (s : State), role ≤ 3 → r = sourceReg role → s.gate who r.1 r.2 = .pass →
    sourceMask role (sourceForm role (plainWrite r.1 (s.reg r.1 r.2) w)) &&& s.drivenElse role ≠ 0 →
    exec (.sourceWrite role who w) s = .next ((s.setFld F.GS_XSTAT_REFUSED 0 1).event .denied pageGs
      [(4, lowestPin (sourceMask role (sourceForm role (plainWrite r.1 (s.reg r.1 r.2) w)) &&& s.drivenElse role))])) ∧
  (∀ (role : Nat) (who : Who) (w x : Word) (r : Reg × Nat) (s : State), role ≤ 3 → r = sourceReg role → s.gate who r.1 r.2 = .pass →
    x = sourceForm role (plainWrite r.1 (s.reg r.1 r.2) w) → sourceMask role x &&& s.drivenElse role = 0 → x ≠ s.reg r.1 r.2 →
    exec (.sourceWrite role who w) s = .next ((s.setReg r.1 r.2 x).sourceMoved (if role < 3 then 2 ^ role else 0))) ∧
  (∀ (who : Who) (w x : Word) (s : State), s.gate who .GS_RET 0 = .pass → x = plainWrite .GS_RET (s.reg .GS_RET 0) w →
    x.toNat &&& s.drivenElse 4 = 0 → x ≠ s.reg .GS_RET 0 →
    exec (.gsRetWrite who w) s = .next ((s.setReg .GS_RET 0 x).sourceMoved 7)) ∧
  (∀ (c : Nat) (s : State), c < 4 → s.flag F.GS_CFG_EN c = true → s.dom domGs = .on → s.draining domGs = false → (s.gsCh c).cal = false →
    s.gsWaits c = true → exec (.gsChangeApply c) s = .next (s.gsApply c)) ∧
  (∀ (c : Nat) (t : Stamp) (raw cjt : Nat) (v : Word × Bool) (s s1 : State), s1 = s.setFld F.GS_CJT_TEMP 0 cjt → v = s1.gsValue c raw → c < 4 → (s.gsCh c).on = true → s.dom domGs = .on → (s.gsCh c).cal = false →
    Gives (.gsSampleOutput c t raw false 0 cjt) s fun u =>
      (u.gsCh c).idx = ((s.gsCh c).idx + 1) % 2 ^ 32 ∧ u.reg .GS_WIDX c = BitVec.ofNat 32 ((s.fld F.GS_WIDX_VALUE c + 1) % 65536) ∧
      u.mem = (s.setBytes (s.reg .GS_RINGH c).toNat (24 * s.fld F.GS_WIDX_VALUE c) (gsRecord t v.1 raw (s.gsCh c).range
        (getBits (s.gsCh c).cfg 1 1) (gsFlags ((s.gsCh c).settle != 0) ((s.gsCh c).ranging != 0) false v.2 false (s1.gsTemp c).2)
        (s.gsCh c).idx)).mem ∧
      s.OnlyIn [.regs, .mem, .gs] u) ∧
  (∀ (c : Nat) (s : State), (s.gsCh c).on = true → s.flag F.GS_CFG_EN c = false ∨ s.draining domGs = true →
    exec (.gsChannelDrain c) s =
      .next (if (List.range 4).any (fun n => ((s.gsStop c).gsCh n).on) ∨ s.draining domGs = true then s.gsStop c else (s.gsStop c).sourcesOff))

/-- Calibration requests, runs and their ends (R336, R338, R339, R340, R341, R342, R344, R346, R347). A CAL_GO write that
no refusal meets joins the queue, else only its result is noted. CALIBRATION_START with no run takes the head of the
queue as the run; with a frame on the target's port, or where that is the only L port and the span leaves no time, it
waits. Measurements that pass every test are submitted as the set's record; ones that fail end with their status, and
the target returns. CAL_TARGET_RETURN puts an accepted set in force and frees the target. CAL_ABANDON in EMBER ends
every request, and a drain ends the run it touches before its outcome. A read of CAL_LAST_S latches the nanoseconds. A
programmed calibration record lands. COMPLETES (exec answers a next state under hypotheses on state and operands
alone): calGo, calibrationStart, calMeasureDone, calCommitLanded, calTargetReturn, calAbandon, calLastSRead. -/
def Obligations.CalibrationsRunAndLand : Prop :=
  (∀ (who : Who) (w : Word) (set target : Nat) (s s1 s2 : State), s.gate who .CAL_CMD 0 = .pass → s1 = s.store .CAL_CMD 0 w →
    set = s1.fld F.CAL_CMD_SET 0 → target = s1.fld F.CAL_CMD_TARGET 0 →
    s2 = (s1.setFld F.CAL_STAT_SET 0 set).setFld F.CAL_STAT_TARGET 0 target →
    (∀ st, s2.calRefusal set target = some st → exec (.calGo who w) s = .next (s2.setFld F.CAL_STAT_RESULT 0 st.code)) ∧
    (s2.calRefusal set target = none →
      exec (.calGo who w) s = .next ({ s2 with cal := { s2.cal with queue := s2.cal.queue ++ [(set, target)] } }).calStat)) ∧
  (∀ (set target : Nat) (l : List (Nat × Nat)) (s : State), s.cal.run = none → s.cal.queue = (set, target) :: l →
    set = 1 → s.onAir target = true → exec .calibrationStart s = .next s) ∧
  (∀ (target : Nat) (l : List (Nat × Nat)) (s : State), s.cal.run = none → s.cal.queue = (0, target) :: l → s.dom domGs ≠ .off →
    exec .calibrationStart s = .next ({ s with cal := { s.cal with
      queue := l
      run := some ({ set := 0, target := target, refCnt := (s.reg .CAL_CNT 0).toNat, powered := false } : CalRun) } }).calStat) ∧
  (∀ (target : Nat) (l : List (Nat × Nat)) (s : State), s.cal.run = none → s.cal.queue = (2, target) :: l → s.dom domGs ≠ .off →
    exec .calibrationStart s = .next ({ ({ s with cal := { s.cal with
      queue := l
      run := some ({ set := 2, target := target, refCnt := (s.reg .CAL_CNT 0).toNat, powered := false } : CalRun) } }).setGsCh target
        { s.gsCh target with cal := true } with
      fm := { s.fm with spoiled := target / 2 :: s.fm.spoiled.filter fun p => p != target / 2 } }).calStat) ∧
  (∀ (target : Nat) (l : List (Nat × Nat)) (s : State), s.cal.run = none → s.cal.queue = (1, target) :: l →
    s.onlyPort target = true → s.spanRoom (s.portFg target) = false → exec .calibrationStart s = .next s) ∧
  (∀ (m : List (Int × Int)) (r : CalRun) (s : State), s.cal.run = some r → r.phase = .measuring → m.length = (calKinds r.set r.target).length →
    s.calVerdict (calKinds r.set r.target) m = .ok →
    exec (.calMeasureDone m) s = .next (({ s with cal := { s.cal with run := some { r with
        phase := .committing
        coefs := m.map fun (x : Int × Int) => x.1 + x.2 } } }).submit 2 (r.set * 256 + r.target) 0
      (.calibration r.set r.target r.refCnt (min ((s.reg .CAL_CNT r.set).toNat + 1) 0xFFFFFFFF) (m.map fun (x : Int × Int) => x.1 + x.2)) 1)) ∧
  (∀ (m : List (Int × Int)) (r : CalRun) (s s1 : State), s.cal.run = some r → r.phase = .measuring →
    m.length = (calKinds r.set r.target).length → s.calVerdict (calKinds r.set r.target) m = .calDisagree →
    s1 = s.calOutcome r.set r.target .calDisagree →
    exec (.calMeasureDone m) s = .next (if r.set = 0 then s1.calRelease r else
      { s1 with cal := { s1.cal with run := some { r with phase := .returning } } })) ∧
  (∀ (r : CalRun) (s : State), s.cal.run = some r → r.phase = .returning →
    exec .calTargetReturn s = .next ((if r.accepted then s.setInForce r else s).calRelease r)) ∧
  (∀ (s : State), s.pwr.mode = .ember → exec .calAbandon s = .next s.calAbandonAll) ∧
  (∀ (r : CalRun) (s : State), s.pwr.mode ≠ .ember → s.cal.run = some r → s.draining domGs = true → r.phase ≠ .returning →
    exec .calAbandon s = .next ((s.calOutcome r.set r.target .abandoned).calRelease r)) ∧
  (∀ (set : Nat) (who : Who) (s : State), s.readable who .CAL_LAST_S set = true →
    exec (.calLastSRead set who) s = .next ((s.setReg .CAL_LAST_NS set (BitVec.ofNat 32 (Tab.get (fun _ => 0) s.cal.lastNs set))).returns
      ((s.reg .CAL_LAST_S set).setWidth 64))) ∧
  (∀ (w : Waiting) (s : State), s.programmed = some w → w.record.kind = 2 → exec .calCommitLanded s = .next ((s.commit w).landed w.record))

/-- The Bedroll: submission, programming, landing, failure, compaction and its commands (R482, R483, R484, R485, R487,
R488, R489, R490, R492, R554). RECORD_SUBMIT adds the record with its priority and the next sequence number.
PIECE_PROGRAMMED counts one piece of the best waiting record; COMMIT_LANDED commits the wholly programmed one and lets
it land. PIECE_FAIL marks the open segment of a die the record is programmed on bad, opens a fresh one there, starts
the record again and counts detection 9. Compaction begins when due, a segment to refresh is compacted, and the victim
is erased once every copy landed in SERVE or SURGE. A failed check drops the record, counts it and sets BED_STAT.LOST.
BED_SAVE records the journaled registers, answers 2 in EMBER and 3 within 60 s of the last; BED_RESUME_HELD frees held
entries, or answers 2 in EMBER. COMPLETES (exec answers a next state under hypotheses on state and operands alone):
recordSubmit, pieceProgrammed, commitLanded, pieceFail, compactionStart, compactionErase, refreshTrigger,
recordCheckFail, bedSave, bedResumeHeld. -/
def Obligations.BedrollRecordsAreWritten : Prop :=
  (∀ (kind key key2 pieces : Nat) (p : Payload) (s : State), 1 ≤ kind → kind ≤ 8 → 1 ≤ pieces → pieces ≤ 5 →
    exec (.recordSubmit kind key key2 p pieces) s = .next { s with bed := { s.bed with
      rseq := s.bed.rseq + 1
      waiting := s.bed.waiting ++ [({
        record := { kind := kind, key := key, key2 := key2, rseq := s.bed.rseq, t := s.now, payload := p, pieces := pieces }
        prio := recPrio kind } : Waiting)] } }) ∧
  (∀ (w : Waiting) (s : State), s.programmed = none → bestWaiting s.bed.waiting = some w →
    Gives .pieceProgrammed s fun t => s.OnlyIn [.bed] t ∧ t.bed.records = s.bed.records ∧
      t.bed.waiting = replaceWaiting { w with done := w.done + 1 } (setBack w s.bed.waiting) ∧
      t.bed.rateLog = if w.record.copy then s.bed.rateLog
        else (s.cmp.sec, 4 * min 4 (recPages w.record - 4 * w.done) * (diesOf w.record.kind).length) :: s.bed.rateLog) ∧
  (∀ (w : Waiting) (s : State), s.programmed = some w → exec .commitLanded s = .next ((s.commit w).landed w.record)) ∧
  (∀ (w : Waiting) (k : Nat) (s s1 : State), s.programmed = none → bestWaiting s.bed.waiting = some w → diesOf w.record.kind = [0] →
    k = s.openSeg 0 → s1 = (s.drew.setSeg k { s.seg k with state := .bad }).openFresh 0 →
    exec .pieceFail s = .next ((({ s1 with bed := { s1.bed with waiting := replaceWaiting { w with done := 0 } s1.bed.waiting } }).setFld
      F.BED_STAT_BADSEG 0 1).countDetectionAt 9 pageBed k)) ∧
  (∀ (w : Waiting) (s : State), s.programmed = none → bestWaiting s.bed.waiting = some w →
    Gives .pieceFail s fun t => ∃ d ∈ diesOf w.record.kind, ∃ u, t = (State.setFld u F.BED_STAT_BADSEG 0 1).countDetectionAt 9 pageBed (s.openSeg d)) ∧
  (∀ (k : Nat) (s : State), s.mayCompact = true → s.compactionDue = true → s.bestVictim s.bed.segs = some k →
    exec .compactionStart s = .next (s.compact k)) ∧
  (∀ (k : Nat) (s : State), s.bed.victim = some k → s.bed.copies = 0 → s.pwr.mode = .serve →
    Gives .compactionErase s fun t => t.bed.victim = none ∧ (t.seg k).erases = (s.seg k).erases + 1 ∧
      t.bed.records = s.bed.records.filterMap (JRec.without k) ∧ s.OnlyIn [.bed] t) ∧
  (∀ (k : Nat) (s : State), s.bed.victim = some k → s.bed.copies ≠ 0 → exec .compactionErase s = .next s) ∧
  (∀ (seg age corrected : Nat) (s : State), (s.seg seg).state = .closed → s.fld F.BED_CFG_REFRESH_D 0 ≤ age ∨ 24 < corrected →
    s.mayCompact = true →
    exec (.refreshTrigger seg age corrected) s = .next ((s.setSeg seg { s.seg seg with age := age }).compact seg)) ∧
  (∀ (rseq : Nat) (r : JRec) (a b : Nat) (s s1 : State), s.bed.records.find? (fun r => r.rseq == rseq) = some r → s.injected 9 = false →
    r.payload = .baseline a b → s1 = s.countDetectionAt 9 pageBed rseq →
    exec (.recordCheckFail rseq) s =
      .next (({ s1 with bed := { s1.bed with records := s1.bed.records.filter fun x => x.rseq != rseq } }).markLive.setFld F.BED_STAT_LOST 0 1)) ∧
  (∀ (w : Word) (s s1 : State), s.gate .host .BED_CMD 0 = .pass → s1 = s.setFld F.BED_CMD_OP 0 (getBits w 0 3) →
    (s.pwr.mode = .ember → exec (.bedSave w) s = .next (s1.setFld F.BED_CMD_RESULT 0 2) ∧
      exec (.bedResumeHeld w) s = .next (s1.setFld F.BED_CMD_RESULT 0 2)) ∧
    (∀ t, s.pwr.mode ≠ .ember → s.bed.lastSave = some t → s.cmp.sec < t + 60 →
      exec (.bedSave w) s = .next ((s1.setFld F.BED_CMD_RESULT 0 3).setFld F.BED_STAT_REFUSED 0 1)) ∧
    (∀ s2, s.pwr.mode ≠ .ember → s.bed.lastSave = none → s2 = (s1.setFld F.BED_CMD_RESULT 0 1).submit 1 0 0 (.registers s.regImage) 1 →
      exec (.bedSave w) s = .next { s2 with bed := { s2.bed with lastSave := some s.cmp.sec } }) ∧
    (s.pwr.mode ≠ .ember →
      exec (.bedResumeHeld w) s = .next { s1.setFld F.BED_CMD_RESULT 0 0 with bed := { s.bed with heldRanges := [] } }))

/-- The fabric: tags, admission, credits and link faults (R18, R27, R29, R30, R31, R472). TAG_WAIT_RESUME with a tag free
lets the context that waits for it run. PSEUDO_CHANNEL_ADMIT admits the oldest waiting access of a channel with room.
CREDIT_RETURN brings one credit on its way back to the sender of its channel, and the requests that wait for the
channel move on, oldest first: each sends the transfers that find a credit, and has arrived when the last has crossed
its last channel. A link handshake timeout counts detection 4 and tests the link. A read of SYS_TAG_FREE returns the
free tags with the low mark and sets the low mark to them. COMPLETES (exec answers a next state under hypotheses on
state and operands alone): tagWaitResume, pseudoChannelAdmit, creditReturn, linkHandshakeTimeout, sysTagFreeRead. -/
def Obligations.FabricTagsCreditsAndFaults : Prop :=
  (∀ (init k : Nat) (s s1 : State), s.hasTag init = true → s.fab.waiting.find? (fun p => p.1 == init) = some (init, k) →
    s1 = { s with fab := { s.fab with waiting := s.fab.waiting.erase (init, k) } } →
    exec (.tagWaitResume init) s = .next (s1.setCtx k { s1.ctx k with wait := .running })) ∧
  (∀ (init : Nat) (s : State), s.hasTag init = false → exec (.tagWaitResume init) s = .next s) ∧
  (∀ (pc : Nat) (x : Txn) (s : State), s.pcBusy pc < 32 → s.stackOpen (pc / 32) = true → s.oldestWaiting pc = some x →
    exec (.pseudoChannelAdmit pc) s = .next ((s.setTxn { x with admitted := true }).setPcBusy pc (s.pcBusy pc + 1))) ∧
  (∀ (pc : Nat) (s : State), 32 ≤ s.pcBusy pc → exec (.pseudoChannelAdmit pc) s = .next s) ∧
  (∀ (link : Nat) (s : State), s.returning link = 0 → exec (.creditReturn link) s = .next s) ∧
  (∀ (link : Nat) (s : State), 0 < s.returning link → exec (.creditReturn link) s =
    .next (({ s with fab := { s.fab with returning := Tab.set (fun _ => 0) s.fab.returning link (s.returning link - 1) } }).pushWaiting
      link s.fab.flight)) ∧
  (∀ (link : Nat) (x : Txn) (t : List Txn) (u : State), x.left.head? = some link →
    u.pushWaiting link (x :: t) = ((u.push x x.left).1.setTxn (u.push x x.left).2).pushWaiting link t) ∧
  (∀ (link : Nat) (x : Txn) (t : List Txn) (u : State), x.left.head? ≠ some link → u.pushWaiting link (x :: t) = u.pushWaiting link t) ∧
  (∀ (link : Nat) (x : Txn) (u : State), x.reqN - x.moved ≤ u.creditsHeld link → Txn.arrived (u.push x [link]).2 = true) ∧
  (∀ (link : Nat) (x : Txn) (u : State), u.creditsHeld link < x.reqN - x.moved →
    (u.push x [link]).2 = { x with left := [link], moved := x.moved + u.creditsHeld link }) ∧
  (∀ (link : Nat) (unit : Option Nat) (s : State), exec (.linkHandshakeTimeout link unit) s =
    .next (s.detectTest 4 (selLink link) (.unit (selLink link)) unit)) ∧
  (∀ (who : Who) (s : State), s.readable who .SYS_TAG_FREE 0 = true →
    exec (.sysTagFreeRead who) s = .next ((s.setFld F.SYS_TAG_FREE_LOW 0 s.tagsFree).returns
      (BitVec.ofNat 64 (s.fld F.SYS_TAG_FREE_LOW 0 * 2 ^ 16 + s.tagsFree))))

/-- Compass: sources, setting, stepping, holdover and the PPS pins (R430, R432, R433, R434, R435, R437, R438, R440, R442,
R443, R445, R446). The running counter's seconds go to the ferroelectric RAM. A source that may qualify and has been
valid for QUAL_S seconds is followed when it stands highest; a lost one gives way. A pending forward step moves the
counter, sets STEPPED and posts OK. A STEP to an earlier time with the time set answers RESULT 2 with REFUSED and
DENIED; a later one is pending. A PPS set waits for its edge, which answers RESULT 0, and a missing one RESULT 3. PTP
of the followed port measures, that of another port only counts as valid. E above the limit sets HOLDLIM once and
posts detection 11. PPS_OUT follows its pulse. Reads latch the words that go with them. COMPLETES (exec answers a next
state under hypotheses on state and operands alone): framSecondsWrite, sourceQualify, sourceLost, compassStep,
cmpSetStep, cmpSetPps, ppsInEdge, ppsSetTimeout, ptpMessage, holdoverLimit, ppsOutPulse, cmpShortSRead, cmpZctSRead. -/
def Obligations.CompassFollowsAndSetsTime : Prop :=
  (∀ (s : State), s.cmp.running = true → exec .framSecondsWrite s = .next { s with cmp := { s.cmp with framSec := s.cmp.sec } }) ∧
  (∀ (src : Nat) (o : Int) (tai : Bool) (s : State), s.mayQualify src tai = true → s.longValid src = true →
    exec (.sourceQualify src o tai) s = .next ((s.setQualified src true).follow o)) ∧
  (∀ (src : Nat) (o : Int) (tai : Bool) (s : State), s.mayQualify src tai = false → exec (.sourceQualify src o tai) s = .next s) ∧
  (∀ (src : Nat) (o : Int) (tai : Bool) (s : State), s.longValid src = false → exec (.sourceQualify src o tai) s = .next s) ∧
  (∀ (src : Nat) (o : Int) (s : State), exec (.sourceLost src o) s =
    .next ((({ s with cmp := { s.cmp with valid := Tab.set (fun _ => none) s.cmp.valid src none } }).setQualified src false).follow o)) ∧
  (∀ (s : State), s.cmp.stepBy = none → s.cmp.stepTo = none → exec .compassStep s = .next s) ∧
  (∀ (d : Nat) (s : State), s.cmp.stepBy = some d →
    Gives .compassStep s fun t => t.cmp.sec = (s.cmpNs + d) / 1000000000 % 2 ^ 48 ∧ t.cmp.ns = (s.cmpNs + d) % 1000000000 ∧
      t.cmp.timeSet = true ∧ t.cmp.stepBy = none ∧ t.cmp.stepTo = none ∧ t.cmp.framSec = s.cmp.framSec ∧ t.cmp.src = s.cmp.src) ∧
  (∀ (w : Word) (s s1 : State), s.gate .host .CMP_SETHI 0 = .pass → s1 = s.setFld F.CMP_SETHI_SEC_HI 0 (getBits w 0 16) →
    (s.setSeconds w * 1000000000 < s.cmpNs → s.cmp.timeSet = true →
      exec (.cmpSetStep w) s = .next (((s1.setFld F.CMP_SETHI_RESULT 0 2).setFld F.CMP_STAT_REFUSED 0 1).event .denied pageCmp [])) ∧
    (s.cmpNs + 1000 < s.setSeconds w * 1000000000 →
      exec (.cmpSetStep w) s = .next { s1.setFld F.CMP_SETHI_RESULT 0 0 with cmp := { setBound s.cmp (s.setSeconds w * 1000000000) with
        stepTo := some (s.setSeconds w)
        timeSet := true } }) ∧
    exec (.cmpSetPps w) s = .next { s1.setFld F.CMP_SETHI_RESULT 0 1 with cmp := { s.cmp with
      ppsSet := some (s.setSeconds w)
      ppsDated := true } }) ∧
  (∀ (t : Nat) (s : State), s.cmp.running = true → s.cmp.ppsSet = some t → s.cmp.src = 3 →
    exec .ppsInEdge s = .next ((({ s.setFld F.CMP_SETHI_RESULT 0 0 with cmp := { s.cmp with ppsSet := none } }).noteValid 3).measure
      ((t * 1000000000 : Nat) - (s.cmpNs : Int)))) ∧
  (∀ (s : State), s.cmp.running = true → s.cmp.ppsSet = none → s.cmp.src ≠ 3 → exec .ppsInEdge s = .next (s.noteValid 3)) ∧
  (∀ (t : Nat) (s : State), s.cmp.ppsSet = some t →
    exec .ppsSetTimeout s = .next { s.setFld F.CMP_SETHI_RESULT 0 3 with cmp := { s.cmp with ppsSet := none } }) ∧
  (∀ (p u : Nat) (o : Int) (s : State), s.serves (domEth p) = true → s.flag F.ETH_CFG_EN p = true → s.flag F.ETH_CFG_PTP p = true →
    (s.cmp.src = p + 1 → exec (.ptpMessage p o (some u)) s = .next (((s.noteValid (p + 1)).measure o).setFld F.CMP_UTC_TAI_UTC 0 u) ∧
      exec (.ptpMessage p o none) s = .next ((s.noteValid (p + 1)).measure o)) ∧
    (s.cmp.src ≠ p + 1 → exec (.ptpMessage p o none) s = .next (s.noteValid (p + 1)))) ∧
  (∀ (e : Nat) (s s1 : State), s.errorBound = some e → 1000 * s.fld F.CMP_HOLD_LIMIT_US 0 < e → s.cmp.overLimit = false →
    s1 = s.setFld F.CMP_STAT_HOLDLIM 0 1 → exec .holdoverLimit s =
      .next ((({ s1 with cmp := { s.cmp with overLimit := true } }).bumpDetection 11).event .limit pageCmp [(4, 0), (4, 11)])) ∧
  (∀ (e : Nat) (s : State), s.errorBound = some e → e ≤ 1000 * s.fld F.CMP_HOLD_LIMIT_US 0 → exec .holdoverLimit s = .next s) ∧
  (∀ (b : Bool) (s : State), s.flag F.CMP_PPSOUT_EN 0 = true → s.pwr.mode ≠ .off → s.pins.clamped = false →
    s.nearNs (if b then 0 else 1000000 * s.fld F.CMP_PPSOUT_WIDTH 0) = true →
    exec (.ppsOutPulse b) s = .next { s with pins := { s.pins with ppsOut := b } }) ∧
  (∀ (s : State), s.hostPath = true →
    exec .cmpShortSRead s = .next (((s.setReg .CMP_NS 0 (BitVec.ofNat 32 s.cmp.ns)).setReg .CMP_SEC_HI 0
      (BitVec.ofNat 32 (s.cmp.sec / 2 ^ 32))).returns (BitVec.ofNat 64 (s.cmp.sec % 2 ^ 32))) ∧
    exec .cmpZctSRead s = .next ((s.setReg .CMP_ZCT_NS 0 (BitVec.ofNat 32 s.zctStamp.ns)).returns (BitVec.ofNat 64 s.zctStamp.s)))

/-- Detections, injections, self-tests, retirement and excursions (R466, R467, R468, R469, R470, R472, R475, R478, R479).
A detection is counted and posted, and the detectors that act on a unit act on the one it names. An injection that is
granted writes RESULT 0 and acts by its class, any other only its RESULT. A queued test that may run starts and puts
its unit under test; its end passes or fails it. REL_CMD self-tests or retires the selected unit, or answers 1 for one
that does not exist and 2 for one that is retired. The first excursion sets ENV and its event bit with a LIMIT event
and IRQ1; its end clears ENV and a held test runs again once the settling time is over. A programmed retirement record
retires its unit. COMPLETES (exec answers a next state under hypotheses on state and operands alone): detection,
injectReporting, injectFunctional, injectDestructive, selfTestStart, selfTestDone, unitRetire, relSelfTest, relRetire,
excursionStart, excursionEnd, excursionRetest. -/
def Obligations.DetectorsInjectionsAndRetirement : Prop :=
  (∀ (code sel : Nat) (u : TestUnit) (next : Option Nat) (s : State), code ∈ [1, 2, 3, 4, 5, 6, 7, 8, 13, 14] →
    exec (.detection code sel (some u) next) s =
      .next ((s.countDetection code sel).detectorActs code { target := u, det := code, thenUnit := next })) ∧
  (∀ (code sel : Nat) (u : Option TestUnit) (next : Option Nat) (s : State), code ∈ [9, 10, 11, 12, 15] →
    exec (.detection code sel u next) s = .next (s.countDetection code sel)) ∧
  (∀ (who : Who) (w : Word) (row : Nat) (next : Option Nat) (s : State), s.gate who .REL_INJ 0 = .pass →
    (∀ s1 s2, s1 = s.store .REL_INJ 0 (putBits w 24 2 1) → s1.injectResult 1 (getBits (putBits w 24 2 1) 16 5) (getBits (putBits w 24 2 1) 0 11) = 0 →
      s2 = s1.setFld F.REL_INJ_RESULT 0 0 →
      exec (.injectReporting who w) s = .next (s2.countInjected (getBits (putBits w 24 2 1) 16 5) (getBits (putBits w 24 2 1) 0 11))) ∧
    (∀ s1 s2, s1 = s.store .REL_INJ 0 (putBits w 24 2 2) → s1.injectResult 2 (getBits (putBits w 24 2 2) 16 5) (getBits (putBits w 24 2 2) 0 11) = 0 →
      s2 = s1.setFld F.REL_INJ_RESULT 0 0 →
      exec (.injectFunctional who w row next) s =
        .next (s2.injectFault (getBits (putBits w 24 2 2) 16 5) (getBits (putBits w 24 2 2) 0 11) row next false)) ∧
    (∀ s1 s2, s1 = s.store .REL_INJ 0 (putBits w 24 2 3) → s1.injectResult 3 (getBits (putBits w 24 2 3) 16 5) (getBits (putBits w 24 2 3) 0 11) = 0 →
      s2 = s1.setFld F.REL_INJ_RESULT 0 0 →
      exec (.injectDestructive who w row next) s =
        .next (s2.injectFault (getBits (putBits w 24 2 3) 16 5) (getBits (putBits w 24 2 3) 0 11) row next true))) ∧
  (∀ (t : SelfTest) (s s1 : State), s.rel.running.length < 8 → s.rel.queue.find? s.testReady = some t →
    s1 = { s with rel := { s.rel with
      queue := s.rel.queue.erase t
      running := s.rel.running ++ [t] } } →
    exec .selfTestStart s = .next ((s1.setTestState t.target .underTest).prepareTest t.target)) ∧
  (∀ (row : Nat) (t : SelfTest) (lasting spare : Bool) (s s1 : State),
    s.rel.running.find? (fun t => t.target == .hbmRow 0 row) = some t → t.destructive = false →
    s1 = { s with rel := { s.rel with running := s.rel.running.erase t } } →
    (t.injected = true ∨ lasting = false → exec (.selfTestDone (.hbmRow 0 row) lasting spare) s = .next (s1.testPassed t)) ∧
    (t.injected = false → lasting = true → s1.envHolds = false →
      exec (.selfTestDone (.hbmRow 0 row) lasting spare) s = .next (s1.testFailed t spare))) ∧
  (∀ (w : Waiting) (sel a : Nat) (b : Stamp) (s : State), s.programmed = some w → w.record.payload = .retirement sel a b →
    exec .unitRetire s = .next ((s.commit w).retireLanded sel)) ∧
  (∀ (who : Who) (sel : Nat) (s s1 : State), s.gate who .REL_CMD 0 = .pass → s1 = s.setFld F.REL_CMD_OP 0 1 →
    sel = s1.fld F.REL_UNITSEL_KIND 0 * 256 + s1.fld F.REL_UNITSEL_INSTANCE 0 →
    (unitExists sel = false → exec (.relSelfTest who) s = .next (s1.setFld F.REL_CMD_RESULT 0 1)) ∧
    (unitExists sel = true → s1.isRetired sel = true → exec (.relSelfTest who) s = .next (s1.setFld F.REL_CMD_RESULT 0 2)) ∧
    (unitExists sel = true → s1.isRetired sel = false →
      exec (.relSelfTest who) s = .next ((s1.queueTest { target := .unit sel, det := 0 }).setFld F.REL_CMD_RESULT 0 0))) ∧
  (∀ (who : Who) (sel : Nat) (s s1 : State), s.gate who .REL_CMD 0 = .pass → s1 = s.setFld F.REL_CMD_OP 0 2 →
    sel = s1.fld F.REL_UNITSEL_KIND 0 * 256 + s1.fld F.REL_UNITSEL_INSTANCE 0 →
    (unitExists sel = true → s1.isRetired sel = true → exec (.relRetire who) s = .next (s1.setFld F.REL_CMD_RESULT 0 2)) ∧
    (∀ s2, unitExists sel = true → s1.isRetired sel = false → domCount ≤ sel → s2 = s1.setFld F.REL_CMD_RESULT 0 3 → s2.retiring sel = false →
      exec (.relRetire who) s = .next (s2.submit 5 sel 0 (.retirement sel 0 s2.now) 1))) ∧
  (∀ (s : State), s.rel.excursion = false → exec .excursionStart s = .next (((({ s with rel := { s.rel with excursion := true } }).setFld
    F.REL_STAT_ENV 0 1).setFld F.REL_STAT_ENV_EV 0 1).event .limit pageRel []).noteIrq1) ∧
  (∀ (s : State), s.rel.excursion = true → exec .excursionEnd s = .next (({ s with rel := { s.rel with
      excursion := false
      envSince := some s.cmp.sec } }).setFld F.REL_STAT_ENV 0 0)) ∧
  (∀ (u : TestUnit) (t : SelfTest) (s : State), s.rel.held.find? (fun t => t.target == u) = some t → s.envHolds = false →
    s.rel.running.length < 8 → s.testReady t = true →
    exec (.excursionRetest u) s = .next (({ s with rel := { s.rel with
      held := s.rel.held.erase t
      running := s.rel.running ++ [t] } }).setTestState u .underTest))

/-- The Guyline: joining, leaving, routes and links (R275, R419, R421, R422, R423, R424, R425, R427, R429). A write of
GL_CFG with EN = 0 stores its word and leaves the network if there was one; with EN = 1 it begins to join. HELLO on a
used link notes the far end, takes the credits it grants and goes on searching. A JOIN_REQ at the root is judged, one
without a parent or in EMBER is refused, any other goes on to the parent. The module's own JOIN_ACK on the link asked
makes it PARENTED; another's goes on. The module's own JOIN_REFUSE sets REFUSED, posts its status and sets a retry
after 10 s, when it tries again. LEAVE of the parent loses it. A ROUTE of a child updates the routes. A repeat of a
message already seen is only acknowledged. A lost lane is lost; a locked one sends HELLO. COMPLETES (exec answers a
next state under hypotheses on state and operands alone): glJoin, glLeave, hello, joinReq, joinAck, joinRefuse,
joinRetry, guylineLeave, route, serdesLoss, serdesBlockLock. -/
def Obligations.GuylineMembersJoinAndLeave : Prop :=
  (∀ (who : Who) (w x : Word) (s : State), s.gate who .GL_CFG 0 = .pass → s.glOn = true →
    x = plainWrite .GL_CFG (s.reg .GL_CFG 0) (putBits w 31 1 0) → getBits x 0 10 = getBits (s.reg .GL_CFG 0) 0 10 →
    getBits x 30 1 = getBits (s.reg .GL_CFG 0) 30 1 → (s.setReg .GL_CFG 0 x).glOn = false →
    exec (.glLeave who w) s = .next (s.setReg .GL_CFG 0 x).leaveNet) ∧
  (∀ (who : Who) (w : Word) (s : State), s.gate who .GL_CFG 0 = .pass → s.glOn = false →
    (s.setReg .GL_CFG 0 (plainWrite .GL_CFG (s.reg .GL_CFG 0) (putBits w 31 1 0))).glOn = false →
    exec (.glLeave who w) s = .next (s.setReg .GL_CFG 0 (plainWrite .GL_CFG (s.reg .GL_CFG 0) (putBits w 31 1 0)))) ∧
  (∀ (who : Who) (w : Word) (s s1 : State), s.gate who .GL_CFG 0 = .pass → s.glOn = false →
    s1 = s.setReg .GL_CFG 0 (plainWrite .GL_CFG (s.reg .GL_CFG 0) (putBits w 31 1 1)) → s1.glOn = true →
    exec (.glJoin who w) s = .next s1.beginJoin) ∧
  (∀ (link index gnid l nonce cr : Nat) (joined : Bool) (s : State), s.glOn = true → s.linkUsed link = true → s.linkUp link = true →
    s.peer link index = none →
    exec (.hello link index gnid l ⟨false, joined, nonce⟩ cr) s = .next (((s.setPeer link
      { index := index, gnid := gnid, l := l, root := false, joined := joined, child := false, nonce := nonce }).glGrant link cr).tryJoin)) ∧
  (∀ (link src mseq index parent : Nat) (s u : State), s.glOn = true → s.linkUp link = true → s.gl.seen.contains (src, mseq) = false →
    u = { s.glAck (some link) src mseq with gl := { (s.glAck (some link) src mseq).gl with
      seen := (s.glAck (some link) src mseq).gl.seen ++ [(src, mseq)] } } →
    (u.pwr.mode = .ember ∨ u.glJoined = false →
      exec (.joinReq link src mseq index parent) s = .next (u.refuse link src index .denied false)) ∧
    (u.pwr.mode ≠ .ember → u.glJoined = true → u.isRoot = true →
      exec (.joinReq link src mseq index parent) s = .next (u.judgeJoin link src index parent)) ∧
    (∀ l, u.pwr.mode ≠ .ember → u.glJoined = true → u.isRoot = false → u.parentLink = some l →
      exec (.joinReq link src mseq index parent) s = .next (({ u with gl := { u.gl with
        reqs := (u.gl.reqs.filter fun (r : Nat × Nat) => r.1 != index) ++ [(index, link)] } }).glControlOn l (u.fld F.GL_STAT_PARENT 0)
          (.joinReq index parent)))) ∧
  (∀ (link src mseq index members : Nat) (anc : List Nat) (p : GPeer) (s u : State), s.glOn = true → s.linkUp link = true →
    s.gl.seen.contains (src, mseq) = false →
    u = { s.glAck (some link) src mseq with gl := { (s.glAck (some link) src mseq).gl with
      seen := (s.glAck (some link) src mseq).gl.seen ++ [(src, mseq)] } } →
    index = u.moduleIndex → u.peer link src = some p → u.gl.asked = some link → u.gl.netKey = true →
    exec (.joinAck link src mseq index anc members) s = .next (u.parented link p anc members)) ∧
  (∀ (link src mseq index : Nat) (st : Status) (s u s2 : State), s.glOn = true → s.linkUp link = true → s.gl.seen.contains (src, mseq) = false →
    u = { s.glAck (some link) src mseq with gl := { (s.glAck (some link) src mseq).gl with
      seen := (s.glAck (some link) src mseq).gl.seen ++ [(src, mseq)] } } →
    index = u.moduleIndex → u.gl.asked = some link → s2 = (u.setFld F.GL_EVT_REFUSED 0 1).event st pageGl [] →
    exec (.joinRefuse link src mseq index st false) s = .next { s2 with gl := { s2.gl with
      asked := none
      retryAt := some (nsStamp (stampNs s2.now + 10000000000)) } }) ∧
  (∀ (t : Stamp) (s : State), s.gl.retryAt = some t → Stamp.le t s.now = true →
    exec .joinRetry s = .next ({ s with gl := { s.gl with retryAt := none } }).tryJoin) ∧
  (∀ (link src mseq index parent l : Nat) (added removed : List Nat) (s : State), s.glOn = true → s.linkUp link = true →
    s.gl.seen.contains (src, mseq) = true →
    exec (.joinReq link src mseq index parent) s = .next (s.glAck (some link) src mseq) ∧
    exec (.guylineLeave link src mseq) s = .next (s.glAck (some link) src mseq) ∧
    exec (.route link src mseq added removed l) s = .next (s.glAck (some link) src mseq)) ∧
  (∀ (link src mseq : Nat) (s u s1 : State), s.glOn = true → s.linkUp link = true → s.gl.seen.contains (src, mseq) = false →
    u = { s.glAck (some link) src mseq with gl := { (s.glAck (some link) src mseq).gl with
      seen := (s.glAck (some link) src mseq).gl.seen ++ [(src, mseq)] } } →
    s1 = { u with gl := { u.gl with heard := u.gl.heard.filter fun h => h.1 != src } } → s1.peer link src = none → s1.link link = 2 →
    exec (.guylineLeave link src mseq) s = .next ((s1.setLink link 4).loseParent)) ∧
  (∀ (link src mseq l : Nat) (added removed : List Nat) (s u : State), s.glOn = true → s.linkUp link = true →
    s.gl.seen.contains (src, mseq) = false →
    u = { s.glAck (some link) src mseq with gl := { (s.glAck (some link) src mseq).gl with
      seen := (s.glAck (some link) src mseq).gl.seen ++ [(src, mseq)] } } → u.link link = 3 →
    exec (.route link src mseq added removed l) s =
      .next (((((u.dropRoutes removed).addRoutes link added).noteMembers added removed).tellParent added removed).routesBack)) ∧
  (∀ (link : Nat) (s : State), link < 4 → s.glOn = true → 1 ≤ s.link link → s.link link ≤ 4 →
    exec (.serdesLoss link) s = .next (s.linkLost link)) ∧
  (∀ (link : Nat) (s : State), link < 4 → s.glOn = true → s.linkUsed link = true → s.serves (domGl link) = true → s.linkUp link = false →
    exec (.serdesBlockLock link) s = .next ((s.setLink link 4).sendHello link))

/-- The Guyline: forwarding, repeats, beacons and time (R275, R278, R415, R417, R424, R425, R426, R436). A frame received
on an active link draws a tag; one for another module goes on with one hop more; one that fails its tag, or that comes
on a link without its key, is dropped and counted. Frames held for 100 ms are dropped. A control message is sent again
10 ms after its last sending and forgotten after 1 s, or when it is acknowledged. Line-link beacons go out on the
period. Time frames and HELLO go out on their links; a time frame of the parent is measured, and one on a SerDes link
answered. A parent's beacon clears its misses and opens a two-way exchange every sixteenth time; the third miss in a
row loses the parent. COMPLETES (exec answers a next state under hypotheses on state and operands alone):
parentBeacon, parentBeaconMiss, guylineFrameForward, routeHoldTimeout, controlRepeat, guylineAck, lineLinkBeacon,
timeFrameSend, timeFrame, helloKeepalive. -/
def Obligations.GuylineFramesAndTime : Prop :=
  (∀ (link : Nat) (f : GFrame) (tag : Bool) (s : State), s.glOn = true → s.linkActive link = true →
    (link < 4 → (tag = false ∨ s.keysOn link = []) → exec (.guylineFrameForward link f tag) s = .next (s.touchTag 147).glDrop) ∧
    ((link < 4 → tag = true ∧ s.keysOn link ≠ []) → f.typ ≤ 3 → f.dst ≠ s.moduleIndex → f.dst ≠ 0xFFFF → f.hops < 254 →
      exec (.guylineFrameForward link f tag) s = .next ((s.touchTag 147).glRoute (some link) { f with hops := f.hops + 1 }))) ∧
  (∀ (s : State), exec .routeHoldTimeout s =
    .next (({ s with gl := { s.gl with held := s.gl.held.filter fun (h : GFrame × Stamp) => !decide (stampNs h.2 + 100000000 ≤ stampNs s.now) } }).glDrops
      (s.gl.held.filter fun (h : GFrame × Stamp) => decide (stampNs h.2 + 100000000 ≤ stampNs s.now)).length)) ∧
  (∀ (mseq : Nat) (m : GSend) (s : State), s.gl.unacked.find? (fun m => m.mseq == mseq) = some m →
    (stampNs m.since + 1000000000 ≤ stampNs s.now →
      exec (.controlRepeat mseq) s = .next { s with gl := { s.gl with unacked := s.gl.unacked.erase m } }) ∧
    (stampNs s.now < stampNs m.since + 1000000000 → stampNs m.last + 10000000 ≤ stampNs s.now →
      exec (.controlRepeat mseq) s = .next (({ s with gl := { s.gl with
        unacked := s.gl.unacked.map fun (x : GSend) => if x.mseq = mseq then { x with last := s.now } else x } }).resendMsg m)) ∧
    (stampNs s.now < stampNs m.since + 1000000000 → stampNs s.now < stampNs m.last + 10000000 →
      exec (.controlRepeat mseq) s = .next s)) ∧
  (∀ (mseq : Nat) (s : State), exec (.guylineAck mseq) s =
    .next { s with gl := { s.gl with unacked := s.gl.unacked.filter fun m => m.mseq != mseq } }) ∧
  (∀ (link : Nat) (s : State), 4 ≤ link → link < 8 → s.glOn = true → s.linkUsed link = true → s.glJoined = true → s.link link ≠ 2 →
    s.cmp.ns % (s.glPeriod * 1000000) = 0 → (s.peersOn link).filter GPeer.child = [] →
    exec (.lineLinkBeacon link []) s =
      .next ((s.glEmit link { typ := 1, src := s.moduleIndex, dst := 0xFFFF, msg := .lineBeacon [] }).sendHello link)) ∧
  (∀ (s : State), s.glOn = true → exec .timeFrameSend s = .next (s.sendTimes (s.childLinks.filter fun l => decide (l < 4))) ∧
    exec .helloKeepalive s = .next (s.sendHellos ((List.range 4).filter s.linkUp))) ∧
  (∀ (link e : Nat) (locked : Bool) (o : Int) (s : State), s.glOn = true → s.link link = 2 →
    exec (.timeFrame link locked e o) s = .next (if link < 4 then (s.parentTime locked e o).askTime link else s.parentTime locked e o)) ∧
  (∀ (link index : Nat) (o : Int) (s s1 : State), 4 ≤ link → s.glOn = true → s.linkUsed link = true → s.link link = 2 →
    s.fld F.GL_STAT_PARENT 0 = index → s1 = { s with
      mac := { s.mac with
        misses := 0
        window := 50 }
      gl := { s.gl with beacons := (s.gl.beacons + 1) % 16 } } →
    exec (.parentBeacon link index o) s = .next (if (s.gl.beacons + 1) % 16 = 0
      then (s1.parentTime (!s1.cmp.parentHold) s1.cmp.parentE o).askTime link else s1.parentTime (!s1.cmp.parentHold) s1.cmp.parentE o)) ∧
  (∀ (l : Nat) (s : State), s.glOn = true → s.parentLink = some l → 4 ≤ l →
    (s.mac.misses < 2 → exec .parentBeaconMiss s = .next { s with mac := { s.mac with misses := s.mac.misses + 1 } }) ∧
    (2 ≤ s.mac.misses → exec .parentBeaconMiss s = .next ((s.setLink l 4).loseParent)))

/-- Check units: feeding, loading, configuring, reading and calls (R525, R526, R527, R528, R529, R530, R531). While no
XCHK call holds a unit and no write waits, a data write feeds its bytes into the running value, INIT loads the masked
INIT value and clears SCERR, a write of the running value replaces one half, and a configuration write stores its
register. Otherwise the write waits, and the oldest waiting write takes effect once the call is over. A read of
STATE_LO or RESULT_LO returns the low half and latches the high half. CHK_HOSTMASK stores its word. The first XCHK
call of a unit feeds its input and completes OK with the running value. COMPLETES (exec answers a next state under
hypotheses on state and operands alone): chkFeed, chkInit, chkData8, chkData16, chkData32, chkStateWrite, chkCfgWrite,
chkStateLoRead, chkResultLoRead, chkHostWriteResume, chkHostmaskWrite. -/
def Obligations.CheckUnitsRunAndHold : Prop :=
  (∀ (n : Nat) (who : Who) (v : Word) (s : State), s.gate who .CHK_DATA8 n = .pass → s.chkBusy n = false → (s.chkUnit n).writes = [] →
    exec (.chkData8 n who v false) s =
      .next (s.setChkUnit n { s.chkUnit n with run := s.chkFed n (s.chkUnit n).run (natLe 1 v.toNat) })) ∧
  (∀ (n : Nat) (who : Who) (v : Word) (s : State), s.gate who .CHK_DATA16 n = .pass → s.chkBusy n = false → (s.chkUnit n).writes = [] →
    exec (.chkData16 n who v false) s =
      .next (s.setChkUnit n { s.chkUnit n with run := s.chkFed n (s.chkUnit n).run (natLe 2 v.toNat) })) ∧
  (∀ (n : Nat) (who : Who) (v : Word) (s : State), s.gate who .CHK_DATA32 n = .pass → s.chkBusy n = false → (s.chkUnit n).writes = [] →
    exec (.chkData32 n who v false) s =
      .next (s.setChkUnit n { s.chkUnit n with run := s.chkFed n (s.chkUnit n).run (natLe 4 v.toNat) }) ∧
    exec (.chkData32 n who v true) s =
      .next ((s.setChkUnit n { s.chkUnit n with run := s.chkFed n (s.chkUnit n).run (natLe 4 v.toNat) }).chkMismatch n)) ∧
  (∀ (n : Nat) (who : Who) (v : Word) (b : Bool) (s : State), s.gate who .CHK_DATA8 n = .pass → s.chkBusy n = true →
    exec (.chkData8 n who v b) s = .next (s.setChkUnit n { s.chkUnit n with writes := (s.chkUnit n).writes ++ [(.data8, v)] })) ∧
  (∀ (n : Nat) (who : Who) (v : Word) (s : State), s.gate who .CHK_CMD n = .pass → s.chkBusy n = false → (s.chkUnit n).writes = [] →
    v.getLsbD 0 = true → exec (.chkInit n who v) s = .next (s.setChkUnit n { s.chkUnit n with
      run := s.pairReg .CHK_INIT_LO .CHK_INIT_HI n &&& chkMask (s.chkW n)
      scerr := false })) ∧
  (∀ (n : Nat) (who : Who) (v : Word) (s : State), s.chkBusy n = false → (s.chkUnit n).writes = [] →
    (s.gate who .CHK_STATE_LO n = .pass → exec (.chkStateWrite n false who v) s = .next (s.setChkUnit n { s.chkUnit n with
      run := (((s.chkUnit n).run >>> 32).setWidth 32 ++ v : DWord) &&& chkMask (s.chkW n)
      scerr := false })) ∧
    (s.gate who .CHK_STATE_HI n = .pass → exec (.chkStateWrite n true who v) s = .next (s.setChkUnit n { s.chkUnit n with
      run := (v ++ (s.chkUnit n).run.setWidth 32 : DWord) &&& chkMask (s.chkW n) }))) ∧
  (∀ (n : Nat) (who : Who) (v : Word) (s : State), s.chkBusy n = false → (s.chkUnit n).writes = [] →
    (s.gate who .CHK_POLY_LO n = .pass → exec (.chkCfgWrite n .polyLo who v) s = .next (s.setReg .CHK_POLY_LO n v)) ∧
    (s.gate who .CHK_XOR_HI n = .pass → exec (.chkCfgWrite n .xorHi who v) s = .next (s.setReg .CHK_XOR_HI n v)) ∧
    (∀ s1, s.gate who .CHK_CFG n = .pass → s1 = s.setReg .CHK_CFG n (chkCfgForm (plainWrite .CHK_CFG (s.reg .CHK_CFG n) v)) →
      exec (.chkCfgWrite n .cfg who v) s = .next (s1.setChkUnit n { s1.chkUnit n with
        run := (s1.chkUnit n).run &&& chkMask (s1.chkW n) }))) ∧
  (∀ (n : Nat) (who : Who) (s : State), s.readable who .CHK_STATE_LO n = true → exec (.chkStateLoRead n who) s =
    .next ((s.setReg .CHK_STATE_HI n (((s.chkUnit n).run >>> 32).setWidth 32)).returns (((s.chkUnit n).run.setWidth 32).setWidth 64))) ∧
  (∀ (n : Nat) (who : Who) (v : DWord) (s : State), s.readable who .CHK_RESULT_LO n = true → v = s.chkResult n (s.chkUnit n).run →
    exec (.chkResultLoRead n who) s =
      .next ((s.setReg .CHK_RESULT_HI n ((v >>> 32).setWidth 32)).returns ((v.setWidth 32).setWidth 64))) ∧
  (∀ (n : Nat) (op : ChkOp) (v : Word) (l : List (ChkOp × Word)) (b : Bool) (s : State), s.chkBusy n = false →
    (s.chkUnit n).writes = (op, v) :: l →
    exec (.chkHostWriteResume n b) s = .next ((s.setChkUnit n { s.chkUnit n with
      writes := l
      yielding := !l.isEmpty }).chkApply n op v b)) ∧
  (∀ (who : Who) (v : Word) (s : State), s.gate who .CHK_HOSTMASK 0 = .pass →
    exec (.chkHostmaskWrite who v) s = .next (s.store .CHK_HOSTMASK 0 v)) ∧
  (∀ (id : Nat) (c : Call) (s u s1 : State), s.callFor id 3 0 = some c → u = s.callTags c →
    u.chkCall c.inst = some c → (u.chkUnit c.inst).yielding = false → c.desc.flags % 2 = 0 → c.desc.outLen < 16 →
    (u.chkUnit c.inst).writes = [] →
    s1 = u.setChkUnit c.inst { u.chkUnit c.inst with run := u.chkFed c.inst (u.chkUnit c.inst).run (u.callInput c) } →
    exec (.chkFeed id none) s =
      .next (s1.endCallWith c .ok (natLe 8 (u.chkFed c.inst (u.chkUnit c.inst).run (u.callInput c)).toNat)))

/-- Drains, forced disables, returns, the spare pool and live replacement (R391, R394, R395, R396, R398, R399). A
PIT_DRAIN request of the host on a unit that may drain and is on begins the drain with RESULT 3; a request that must
be refused answers RESULT 2; a forced disable disables the unit at once. A return asked for during a drain is noted;
one of a unit without a drain powers it up with RESULT 0. A draining unit whose work is over reports DRAINED; at the
drain bound the work left is abandoned. A write of the spare target stores it, at most 16, and sizes the pool. A live
replacement ends with its last outgoing task, held back while the outgoing pack's ledger batch is in flight, or at its
limit, and a write with ABORT rolls it back. COMPLETES (exec answers a next state under hypotheses on state and
operands alone): replOutgoingEnded, replTimeLimit, replAbort, pitDrain, pitForcedDisable, pitRestore, unitDrained,
drainBoundExpire, spareTargetWrite. -/
def Obligations.UnitsDrainAndReturn : Prop :=
  (∀ (w : Word) (i : Nat) (s s1 : State), s.gate .host .PIT_DRAIN 0 = .pass → i = getBits (putBits w 29 2 0) 0 8 →
    s1 = (((s.setFld F.PIT_DRAIN_INDEX 0 i).setFld F.PIT_DRAIN_FORCE 0 (getBits (putBits w 29 2 0) 30 1)).setFld F.PIT_DRAIN_RESTORE 0
      (getBits (putBits w 29 2 0) 29 1)) → getBits (putBits w 29 2 0) 30 1 = 0 → getBits (putBits w 29 2 0) 29 1 = 0 →
    (s1.drainRefused i = true → exec (.pitDrain w) s = .next (s1.setFld F.PIT_DRAIN_RESULT 0 2)) ∧
    (s1.drainRefused i = false → s1.draining i = false → s1.dom i = .on → s1.rel.running = [] →
      exec (.pitDrain w) s = .next ((({ s1 with units := { s1.units with hostDrain := some i } }).setFld F.PIT_DRAIN_RESULT 0 3).beginDrain i
        .host))) ∧
  (∀ (w : Word) (i : Nat) (s s1 : State), s.gate .host .PIT_DRAIN 0 = .pass → i = getBits (putBits w 29 2 2) 0 8 →
    s1 = (((s.setFld F.PIT_DRAIN_INDEX 0 i).setFld F.PIT_DRAIN_FORCE 0 (getBits (putBits w 29 2 2) 30 1)).setFld F.PIT_DRAIN_RESTORE 0
      (getBits (putBits w 29 2 2) 29 1)) → getBits (putBits w 29 2 2) 30 1 = 1 → getBits (putBits w 29 2 2) 29 1 = 0 →
    s1.drainRefused i = false → s1.dom i = .on → exec (.pitForcedDisable w) s =
      .next ((({ s1 with units := { s1.units with hostDrain := some i } }).setFld F.PIT_DRAIN_RESULT 0 3).forceUnit i .host)) ∧
  (∀ (w : Word) (i : Nat) (s s1 : State), s.gate .host .PIT_DRAIN 0 = .pass → i = getBits (putBits w 29 2 1) 0 8 →
    s1 = (((s.setFld F.PIT_DRAIN_INDEX 0 i).setFld F.PIT_DRAIN_FORCE 0 (getBits (putBits w 29 2 1) 30 1)).setFld F.PIT_DRAIN_RESTORE 0
      (getBits (putBits w 29 2 1) 29 1)) → getBits (putBits w 29 2 1) 29 1 = 1 → i < domCount → s1.isRetired i = false → s1.pwr.mode ≠ .ember →
    (s1.drain i = none → exec (.pitRestore w) s = .next ((s1.powerOn i).setFld F.PIT_DRAIN_RESULT 0 0)) ∧
    (∀ d, s1.drain i = some d → exec (.pitRestore w) s = .next (let s2 := s1.setDrain i (some { d with restore := true })
      ({ s2 with units := { s2.units with hostDrain := some i } }).setFld F.PIT_DRAIN_RESULT 0 3))) ∧
  (∀ (i : Nat) (s : State), s.draining i = true → s.workLeft i = false → exec (.unitDrained i) s = .next (s.drained i)) ∧
  (∀ (i : Nat) (d : Drain) (s : State), s.drain i = some d → s.workLeft i = true →
    exec (.drainBoundExpire i) s = .next (let t := (s.setDrain i (some { d with abandoned := true })).abandonWork i
      if i < 128 then t.dropTasks (t.leavingOn i) else t)) ∧
  (∀ (w : Word) (s : State), s.gate .host .PIT_SPARECFG 0 = .pass →
    exec (.spareTargetWrite w) s = .next (s.setFld F.PIT_SPARECFG_TARGET 0 (min 16 (getBits w 0 5))).sizePool) ∧
  (∀ (r : Repl) (s : State), s.plc.repl = some r → s.liveTasks r.outgoing = 0 →
    exec .replOutgoingEnded s = .next (if s.keepsLedger r.outgoing then s.holdLedger true else s.replDone r)) ∧
  (∀ (r : Repl) (s : State), s.plc.repl = some r → s.liveTasks r.outgoing ≠ 0 → exec .replOutgoingEnded s = .next s) ∧
  (∀ (r : Repl) (s : State), s.plc.repl = some r → r.since + s.fld F.PIT_REPLCFG_LIMIT_S 0 ≤ s.cmp.sec →
    exec .replTimeLimit s = .next ((s.endPackTasks r.outgoing).replDone r)) ∧
  (∀ (w : Word) (s : State), s.gate .host .PIT_REPLCFG 0 = .pass →
    exec (.replAbort w) s = .next (s.setReg .PIT_REPLCFG 0 (replCfgForm (plainWrite .PIT_REPLCFG (s.reg .PIT_REPLCFG 0) w))).rollback)

/-- Packs, service classes and the placement report (R34, R374, R375, R376, R377, R378, R381, R382, R384, R453). PACK_LOAD
of an image with a wrong format, or that owns sealed pages, completes DENIED; one that fails verification counts and
completes with its verdict; one that fits, its declarations' sizes within the ranges R387 gives, its memory and
classes met, is installed in the free slot and completes OK with its number. PACK_UNLOAD of a resident pack gives it
up and completes OK, of a free slot DENIED. CLASS_SET and CLASS_ASSIGN within their ranges that Pitch admits (asking
no more than before where it admits none that raise demand) store their class or flow, record it and complete OK; out
of range they complete DENIED, not admitted LIMIT with EVT.REFUSED. PLACEMENT_REPORT into a handle the host may write
writes the report. COMPLETES (exec answers a next state under hypotheses on state and operands alone): packLoad,
packUnload, classSet, classAssign, placementReport. -/
def Obligations.PacksAndClassesAreJudged : Prop :=
  (∀ (src : Src) (i : PackImage) (repl : Nat) (placed : Bool) (power : List Nat) (s : State), s.starts src 0x30 = true →
    (i.formatOk = false → exec (.packLoad src i repl placed power) s = .next ((s.start src).complete src .denied [])) ∧
    (∀ st, i.formatOk = true → (s.start src).verifyImage i = some st →
      exec (.packLoad src i repl placed power) s = .next ((s.start src).imageFailed.complete src st [])) ∧
    (i.formatOk = true → (s.start src).verifyImage i = none → ownsSealed (rangePages i.pages) = true →
      exec (.packLoad src i repl placed power) s = .next ((s.start src).complete src .denied [])) ∧
    (∀ k s1, s1 = s.start src → i.formatOk = true → s1.verifyImage i = none → ownsSealed (rangePages i.pages) = false →
      (rangePages i.pages).any (s1.pageTaken none) = false → s1.freeSlot = some k → s1.pwr.admits = true → s1.memAdmits i.memMib = true → declsFit i.decls = true →
      s1.needsMet i = true → (s1.powerAll (power.filter fun d => !(decide (d < 128) && s1.role d == .spare))).classesMet k i.decls = true →
      exec (.packLoad src i 0xFF true power) s = .next
        (((s1.powerAll (power.filter fun d => !(decide (d < 128) && s1.role d == .spare))).install k i .resident (rangePages i.pages) 0).complete
          src .ok [(1, k)]))) ∧
  (∀ (src : Src) (slot : Nat) (s : State), s.starts src 0x31 = true → slot < 16 → (s.start src).inRepl slot = false →
    ((((s.start src).pack slot).state = .free → exec (.packUnload src slot) s = .next ((s.start src).complete src .denied [])) ∧
    (((s.start src).pack slot).state ≠ .free →
      exec (.packUnload src slot) s = .next (((s.start src).evict slot).complete src .ok [])))) ∧
  (∀ (src : Src) (cls prio persist latUl latDl rate : Nat) (met : Bool) (power : List Nat) (c : SvcClass) (s s1 : State),
    s.starts src 0x50 = true → s1 = s.start src →
    c = { prio := prio, persist := persist, latUl := latUl, latDl := latDl, rate := rate } →
    (cls ≤ 63 → prio ≤ 3 → persist ≤ 2 → s1.admitsIntent met (SvcClass.asksMore c (s1.svcClass cls)) = true →
      exec (.classSet src cls prio persist 0 latUl latDl rate met power) s =
        .next ((({ s1 with plc := { s1.plc with classes := Tab.set (fun _ => {}) s1.plc.classes cls c } }).powerAll power).saveClasses.complete src .ok [])) ∧
    (63 < cls ∨ 3 < prio ∨ 2 < persist →
      exec (.classSet src cls prio persist 0 latUl latDl rate met power) s = .next (s1.complete src .denied [])) ∧
    (cls ≤ 63 → prio ≤ 3 → persist ≤ 2 → s1.admitsIntent met (SvcClass.asksMore c (s1.svcClass cls)) = false →
      exec (.classSet src cls prio persist 0 latUl latDl rate met power) s =
        .next ((s1.setFld F.PIT_EVT_REFUSED 0 1).complete src .limit []))) ∧
  (∀ (src : Src) (g cls : Nat) (svc : Option Nat) (met : Bool) (power : List Nat) (f : FlowSel) (s s1 : State), s.starts src 0x51 = true →
    s1 = s.start src → cls ≤ 63 → f = { gaddr := g % 2 ^ 26, group := none, svc := svc } →
    s1.admitsIntent met (SvcClass.asksMore (s1.svcClass cls) (s1.svcClass (((s1.plc.assigns.find? fun p => p.1 == f).map Prod.snd).getD 0))) = true →
    exec (.classAssign src g none svc cls met power) s =
      .next ((({ s1 with plc := { s1.plc with assigns := (f, cls) :: (s1.plc.assigns.filter fun p => p.1 != f) } }).powerAll
        power).saveClasses.complete src .ok [])) ∧
  (∀ (src : Src) (g cls fg : Nat) (svc : Option Nat) (met : Bool) (power : List Nat) (s : State), s.starts src 0x51 = true →
    7 < fg → exec (.classAssign src g (some fg) svc cls met power) s = .next ((s.start src).complete src .denied [])) ∧
  (∀ (src : Src) (h ofs len : Nat) (x : Handle) (s s1 s2 : State), s.starts src 0x52 = true → s1 = s.start src → s1.handle h = some x →
    64 + 16 * s1.classesUsed.length ≤ len → s1.hostMayWrite x = true → ofs + 64 + 16 * s1.classesUsed.length ≤ x.size →
    s2 = s1.drew.setBytes h ofs (s1.report (Config.freeNat s1.free)) →
    exec (.placementReport src h ofs len) s = .next (({ s2 with plc := { s2.plc with late := [] } }).complete src .ok []))

/-- The commands of the security controller (R449, R450, R451, R452, R455, R457, R458, R459, R463, R464). Every command
answers LIMIT while one runs and DENIED in EMBER, and does no more. Served otherwise, PROVISION in BLANK with 1 to 4
keys records them; ATTEST of a 32 byte nonce answers its report; STAGE of a part, and SWITCH without a staged image,
answer as the rules say; CHALLENGE draws a fresh challenge; CERTS answers the chain. A signed command without its
challenge answers AUTH_FAIL and consumes it; one that passes every test has its effect: KEY_IMPORT, LIFECYCLE and
REVOKE submit the lifecycle record, UNLOCK raises the level to D3, ROLLBACK raises a counter. SWITCH_READY_TIMEOUT
abandons a switch that waits. COMPLETES (exec answers a next state under hypotheses on state and operands alone):
provision, keyImport, lifecycle, unlock, attest, rollback, revoke, stage, switch, switchReadyTimeout, challenge,
certs. -/
def Obligations.SecurityCommandsAreJudged : Prop :=
  (∀ (i : PackImage) (b : Bool) (s : State), s.gate .host .SEC_CMD 0 = .pass → s.sec.job.isSome = true →
    exec .provision s = .next ((s.setFld F.SEC_CMD_OP 0 1).secResult .limit) ∧ exec .keyImport s = .next ((s.setFld F.SEC_CMD_OP 0 2).secResult .limit) ∧
    exec .lifecycle s = .next ((s.setFld F.SEC_CMD_OP 0 3).secResult .limit) ∧ exec .unlock s = .next ((s.setFld F.SEC_CMD_OP 0 4).secResult .limit) ∧
    exec .attest s = .next ((s.setFld F.SEC_CMD_OP 0 5).secResult .limit) ∧ exec .rollback s = .next ((s.setFld F.SEC_CMD_OP 0 6).secResult .limit) ∧
    exec .revoke s = .next ((s.setFld F.SEC_CMD_OP 0 7).secResult .limit) ∧ exec (.stage i) s = .next ((s.setFld F.SEC_CMD_OP 0 8).secResult .limit) ∧
    exec (.switch b) s = .next ((s.setFld F.SEC_CMD_OP 0 9).secResult .limit) ∧
    exec .challenge s = .next ((s.setFld F.SEC_CMD_OP 0 10).secResult .limit) ∧ exec .certs s = .next ((s.setFld F.SEC_CMD_OP 0 11).secResult .limit)) ∧
  (∀ (s : State), s.gate .host .SEC_CMD 0 = .pass → s.sec.job = none → s.pwr.mode = .ember →
    exec .provision s = .next ((s.setFld F.SEC_CMD_OP 0 1).secResult .denied) ∧ exec .challenge s = .next ((s.setFld F.SEC_CMD_OP 0 10).secResult .denied)) ∧
  (∀ (n : Nat) (s s1 s2 : State), s.gate .host .SEC_CMD 0 = .pass → s.sec.job = none → s.pwr.mode ≠ .ember →
    s1 = s.setFld F.SEC_CMD_OP 0 1 → s1.flag F.PWR_STAT_BOOT_FAIL 0 = false → s1.lifecycle = 0 → n = leNat (s1.body.take 1) → 1 ≤ n → n ≤ 4 →
    s1.body.length = 1 + 97 * n → s2 = (s1.burn 1).setLevel 0 →
    exec .provision s = .next (s2.secRecord { s2.lcNext with
      lc := 1
      keys := (List.range n).map fun i => (i, some (leNat ((s1.body.drop (1 + 97 * i)).take 97))) })) ∧
  (∀ (s : State), s.gate .host .SEC_CMD 0 = .pass → s.sec.job = none → s.pwr.mode ≠ .ember →
    (∀ s1, s1 = s.setFld F.SEC_CMD_OP 0 10 → s1.flag F.PWR_STAT_BOOT_FAIL 0 = false → exec .challenge s =
      .next (({ s1.drew with sec := { s1.sec with challenge := some (Config.freeBits 256 s1.free) } }).secResult .ok)) ∧
    (∀ s1, s1 = s.setFld F.SEC_CMD_OP 0 11 → s1.flag F.PWR_STAT_BOOT_FAIL 0 = false → s1.lifecycle ≠ 4 →
      exec .certs s = .next ((s1.answer Config.certs).secResult .ok)) ∧
    (∀ s1, s1 = s.setFld F.SEC_CMD_OP 0 5 → s1.flag F.PWR_STAT_BOOT_FAIL 0 = false → s1.lifecycle ≠ 4 → s1.body.length = 32 →
      exec .attest s = .next ((s1.answer (s1.attestReport s1.body ++ Config.sign (s1.attestReport s1.body))).secResult .ok)) ∧
    (∀ s1 (i : PackImage), s1 = s.setFld F.SEC_CMD_OP 0 8 → s1.lifecycle ≠ 4 → 16 ≤ s1.body.length →
      leNat ((s1.body.drop 8).take 8) ≤ 2 ^ 25 → leNat (s1.body.take 8) + (s1.body.length - 16) < leNat ((s1.body.drop 8).take 8) →
      exec (.stage i) s = .next ((s1.setBank .empty false).secResult .ok)) ∧
    (∀ s1 (b : Bool), s1 = s.setFld F.SEC_CMD_OP 0 9 → s1.sec.staged = false → exec (.switch b) s = .next (s1.secResult .denied)) ∧
    (∀ s1, s1 = s.setFld F.SEC_CMD_OP 0 9 → s1.lifecycle ≠ 4 → s1.sec.staged = true → exec (.switch true) s = .next s1.switched ∧
      exec (.switch false) s = .next { s1 with sec := { s1.sec with job := some .restart } })) ∧
  (∀ (s : State), s.gate .host .SEC_CMD 0 = .pass → s.sec.job = none → s.pwr.mode ≠ .ember → s.sec.challenge = none →
    (∀ s1, s1 = s.setFld F.SEC_CMD_OP 0 2 → s1.flag F.PWR_STAT_BOOT_FAIL 0 = false →
      exec .keyImport s = .next (s1.dropChallenge.secResult .authFail)) ∧
    (∀ s1, s1 = s.setFld F.SEC_CMD_OP 0 3 → s1.flag F.PWR_STAT_BOOT_FAIL 0 = false →
      exec .lifecycle s = .next (s1.dropChallenge.secResult .authFail)) ∧
    (∀ s1, s1 = s.setFld F.SEC_CMD_OP 0 4 → s1.flag F.PWR_STAT_BOOT_FAIL 0 = false →
      exec .unlock s = .next (s1.dropChallenge.secResult .authFail)) ∧
    (∀ s1, s1 = s.setFld F.SEC_CMD_OP 0 6 → s1.flag F.PWR_STAT_BOOT_FAIL 0 = false →
      exec .rollback s = .next (s1.dropChallenge.secResult .authFail)) ∧
    (∀ s1, s1 = s.setFld F.SEC_CMD_OP 0 7 → s1.flag F.PWR_STAT_BOOT_FAIL 0 = false →
      exec .revoke s = .next (s1.dropChallenge.secResult .authFail))) ∧
  (∀ (k cls v : Nat) (p : List Byte) (s s1 s2 : State), s.gate .host .SEC_CMD 0 = .pass → s.sec.job = none → s.pwr.mode = .serve →
    s1 = s.setFld F.SEC_CMD_OP 0 k → s2 = s1.dropChallenge → p = s1.param → s1.flag F.PWR_STAT_BOOT_FAIL 0 = false →
    1 ≤ s1.signer → s1.signer ≤ 4 → s1.signerActive s1.signer = true →
    (k = 2 → s1.lifecycle = 1 → p.length = 145 → exec .keyImport s = .next (if s1.authentic 2 then
      (match Config.importKek (s1.sec.challenge.getD 0) p with
       | none => s2.secResult .authFail
       | some c => s2.secRecord { s2.lcNext with
           kek := some c
           net := [] }) else s2.secResult .authFail)) ∧
    (k = 3 → s1.lifecycle = 1 → p.length = 1 → leNat p = 2 →
      exec .lifecycle s = .next (if s1.authentic 3 then s2.moveLc 2 else s2.secResult .authFail)) ∧
    (k = 4 → s1.lifecycle = 2 → p.length = 4 → exec .unlock s = .next (if s1.authentic 4 then
      (({ s2.setLevel 3 with sec := { (s2.setLevel 3).sec with unlock := some (leNat p) } }).setFld F.DBG_LEVEL_UNLOCKED 0 1).secResult .ok
      else s2.secResult .authFail)) ∧
    (k = 6 → s1.lifecycle ≠ 4 → p.length = 2 → cls = leNat (p.take 1) → v = leNat (p.drop 1) → 8 ≤ cls → cls < 16 → s2.rollbackOf cls < v →
      v ≤ s2.topRollback cls → exec .rollback s = .next (if s1.authentic 6 then
        ({ s2 with sec := { s2.sec with rb := Tab.set (fun _ => 0) s2.sec.rb cls v } }).secRecord s2.lcNext else s2.secResult .authFail)) ∧
    (k = 7 → s1.lifecycle = 1 → p.length = 1 → leNat p < 4 → leNat p + 1 ≠ s1.signer →
      ((List.range 4).any fun m => m != leNat p && s2.slotActive m) = true → exec .revoke s = .next (if s1.authentic 7 then
        (let s3 := { s2 with sec := { s2.sec with revoked := Tab.set (fun _ => false) s2.sec.revoked (leNat p) true } }
         s3.secRecord { s3.lcNext with keys := Tab.set (fun _ => none) s3.lcNext.keys (leNat p) none }) else s2.secResult .authFail))) ∧
  (∀ (s : State), s.sec.job = some .restart → exec .switchReadyTimeout s = .next
    ((({ s.setBank .empty false with sec := { (s.setBank .empty false).sec with job := none } }).dropChallenge).secResult .abandoned)) ∧
  (∀ (s : State), s.sec.job = none → exec .switchReadyTimeout s = .next s)

/-- The debug level, tamper inputs, halts and the host's key commands (R452, R456, R459, R460, R461, R462). UNLOCK_EXPIRE
at UNTIL lowers the level to what the last request and the cap allow. A level request within the cap is in force at
once; one above it sets REFUSED and posts DENIED. An activation of an enabled tamper input latches and acts once;
other levels are only noted. DBG_HALT, STEP and RESUME act on the task of the selected context from D2 on, and answer
2 below it. NODE_PROVISION and NETKEY_SET with a key that unwraps store it, else they complete with the reason.
COMPLETES (exec answers a next state under hypotheses on state and operands alone): unlockExpire, dbgLevelWrite,
tamperActivation, dbgHalt, dbgStep, dbgResume, nodeProvision, netkeySet. -/
def Obligations.DebugTamperAndKeysAct : Prop :=
  (∀ (u : Nat) (s : State), s.sec.unlock = some u →
    exec .unlockExpire s = .next (if u ≤ s.now.s then s.setLevel (min (min 2 (s.fld F.DBG_LEVEL_REQ 0)) s.levelCap) else s)) ∧
  (∀ (w : Word) (s s1 : State), s.gate .host .DBG_LEVEL 0 = .pass → s1 = s.store .DBG_LEVEL 0 w →
    (s1.fld F.DBG_LEVEL_REQ 0 ≤ s1.levelCap → exec (.dbgLevelWrite w) s = .next (s1.setLevel (s1.fld F.DBG_LEVEL_REQ 0))) ∧
    (s1.levelCap < s1.fld F.DBG_LEVEL_REQ 0 → s.sec.unlock = none →
      exec (.dbgLevelWrite w) s = .next ((s1.setFld F.DBG_LEVEL_REFUSED 0 1).event .denied pageDbg []))) ∧
  (∀ (n levels : Nat) (s s1 : State), s.pwr.mode ≠ .off → n < 4 → s1 = { s with pins := { s.pins with tamper := levels % 16 } } →
    (s1.tamperLive n = true → s.tamperLive n = false → exec (.tamperActivation n levels) s = .next (s1.tamperAct n false)) ∧
    (s1.tamperLive n = false ∨ s.tamperLive n = true → exec (.tamperActivation n levels) s = .next s1)) ∧
  (∀ (who : Who) (k : Nat) (t : Task) (s s1 : State), s.gate who .DBG_ENGCTL 0 = .pass → s1 = s.setFld F.DBG_ENGCTL_OP 0 1 →
    k = 4 * s1.fld F.DBG_ENGSEL_ENG 0 + s1.fld F.DBG_ENGSEL_CTX 0 →
    (s1.level < 2 → exec (.dbgHalt who) s = .next (s1.setFld F.DBG_ENGCTL_RESULT 0 2)) ∧
    (2 ≤ s1.level → (s1.ctx k).task.bind s1.task = some t → (s1.pack t.slot).image.sealedImg = false →
      exec (.dbgHalt who) s = .next ((s1.setCtx k { s1.ctx k with
        halted := true
        stepOne := false
        haltAt := s1.level }).setFld F.DBG_ENGCTL_RESULT 0 0))) ∧
  (∀ (who : Who) (k : Nat) (t : Task) (s s1 : State), s.gate who .DBG_ENGCTL 0 = .pass → s1 = s.setFld F.DBG_ENGCTL_OP 0 2 →
    k = 4 * s1.fld F.DBG_ENGSEL_ENG 0 + s1.fld F.DBG_ENGSEL_CTX 0 →
    2 ≤ s1.level → (s1.ctx k).task.bind s1.task = some t → (s1.pack t.slot).image.sealedImg = false →
    exec (.dbgStep who) s = .next ((s1.setCtx k { s1.ctx k with
      halted := true
      stepOne := true
      haltAt := if (s1.ctx k).halted then (s1.ctx k).haltAt else s1.level }).setFld F.DBG_ENGCTL_RESULT 0 0)) ∧
  (∀ (who : Who) (k : Nat) (t : Task) (s s1 : State), s.gate who .DBG_ENGCTL 0 = .pass → s1 = s.setFld F.DBG_ENGCTL_OP 0 3 →
    k = 4 * s1.fld F.DBG_ENGSEL_ENG 0 + s1.fld F.DBG_ENGSEL_CTX 0 →
    2 ≤ s1.level → (s1.ctx k).task.bind s1.task = some t → (s1.pack t.slot).image.sealedImg = false →
    exec (.dbgResume who) s = .next ((s1.setCtx k { s1.ctx k with
      halted := false
      stepOne := false
      haltAt := 0 }).setFld F.DBG_ENGCTL_RESULT 0 0)) ∧
  (∀ (src : Src) (eui : Nat) (key : List Byte) (s s1 : State), s.starts src 0x20 = true → s1 = s.start src → s1.mac.prov.length < 65536 →
    exec (.nodeProvision src eui key) s = .next (match s1.hostKey key with
      | some st => s1.complete src st []
      | none => ({ s1 with mac := { s1.mac with prov := Tab.set (fun _ => none) s1.mac.prov eui (some true) } }).complete src .ok [])) ∧
  (∀ (src : Src) (key : List Byte) (s s1 : State), s.starts src 0x22 = true → s1 = s.start src →
    exec (.netkeySet src key) s = .next (match s1.hostKey key with
      | some st => s1.complete src st []
      | none => { s1.submitLc { s1.lcNext with net := key } with sec := { s1.sec with
          owes := s1.sec.owes ++ [(s1.bed.rseq, src)] } })) ∧
  (∀ (key : List Byte) (s : State), s.sec.kek = none → s.hostKey key = some .denied)

/-- Host queues, events, windows, Ethernet ports and register writes (R33, R35, R396, R496, R497, R499, R500, R501, R503,
R504, R506). A newly enabled pair starts with empty queues and P = 1; a disabled one loses its posts. A doorbell of an
enabled pair stores the tail, takes the entries between the tails and fetches; a head write stores. A NOP whose turn
it is completes OK. Completions and events are posted to a pair with room, and dropped with EVLOST where an event
waits on a full queue. HST_FBDRET queues the index while fewer than 4 096 wait, else sets RETFULL. A coalescing
timeout raises the vector. Disabling an Ethernet port drains it. A read or write through a window reaches the bytes
behind its handle. A register write is judged and takes effect, one to the MSI-X table is stored (log entry 156); a
head-end TYPE 1 datagram is a frame to send. COMPLETES (exec answers a next state under hypotheses on state and
operands alone): queueEnable, queueDisable, sqDoorbell, cqHeadWrite, nopCommand, completionPost, eventPost,
eventDropTimeout, fbdretWrite, bar2Access, headendDatagram, registerWrite, coalescingTimeout, ethPortDisable. -/
def Obligations.HostQueuesWindowsAndWrites : Prop :=
  (∀ (q : Nat) (v : Word) (s s2 : State), s.gate .host .HST_QCFG q = .pass → s.flag F.HST_QCFG_EN q = false →
    getBits (plainWrite .HST_QCFG (s.reg .HST_QCFG q) v) 16 8 ≠ 255 →
    s2 = (s.setReg .HST_QCFG q (plainWrite .HST_QCFG (s.reg .HST_QCFG q) v)).setFld F.HST_QCFG_EN q 1 →
    exec (.queueEnable q v) s = .next (s2.setPair q { running := (s.pair q).running, fetched := (s.pair q).fetched }).noteIrq1) ∧
  (∀ (q : Nat) (v : Word) (s : State), s.gate .host .HST_QCFG q = .pass →
    getBits (plainWrite .HST_QCFG (s.reg .HST_QCFG q) v) 16 8 ≠ 255 →
    exec (.queueDisable q v) s = .next ((s.setReg .HST_QCFG q (plainWrite .HST_QCFG (s.reg .HST_QCFG q) v)).disablePair q).noteIrq1) ∧
  (∀ (q tail : Nat) (l : List Sqe) (s s1 : State), s.gate .host .HST_SQT q = .pass → s1 = s.setReg .HST_SQT q (BitVec.ofNat 32 tail) →
    (s.flag F.HST_QCFG_EN q = true → exec (.sqDoorbell q tail l) s =
      .next ((s1.setPair q { s1.pair q with submitted := (s1.pair q).submitted ++ l.take (s1.sqAdded q tail), sqTail := tail }).fetchPair q)) ∧
    (s.flag F.HST_QCFG_EN q = false → exec (.sqDoorbell q tail l) s = .next s1)) ∧
  (∀ (q head : Nat) (s : State), s.gate .host .HST_CQH q = .pass →
    exec (.cqHeadWrite q head) s = .next (s.setReg .HST_CQH q (BitVec.ofNat 32 head)).noteIrq1) ∧
  (∀ (src : Src) (s : State), s.starts src 0 = true → exec (.nopCommand src) s = .next ((s.start src).complete src .ok [])) ∧
  (∀ (q : Nat) (r : Rec) (s : State), firstComp q s.hst.comps = some r → s.flag F.HST_QCFG_EN q = true →
    (s.cqFull q = false → exec (.completionPost q) s = .next (({ s with hst := { s.hst with comps := dropFirstComp q s.hst.comps } }).post q r)) ∧
    (s.cqFull q = true → exec (.completionPost q) s = .next s)) ∧
  (∀ (r : Rec) (l : List Rec) (s : State), s.canPost = true → s.cqFull (s.fld F.HST_EVTQ_PAIR 0) = false → s.hst.held = [] →
    s.hst.raised = r :: l →
    exec .eventPost s = .next ((({ s with hst := { s.hst with raised := l } }).mirrorEvent r).post (s.fld F.HST_EVTQ_PAIR 0) r)) ∧
  (∀ (r : Rec) (l : List Rec) (s s1 : State), s.canPost = false → s.hst.raised = r :: l →
    s1 = ({ s with hst := { s.hst with raised := l } }).mirrorEvent r → s1.hst.held.length < 64 →
    exec .eventPost s = .next { s1 with hst := { s1.hst with held := s1.hst.held ++ [r] } }) ∧
  (∀ (r : Rec) (l : List Rec) (s : State), s.canPost = true → s.cqFull (s.fld F.HST_EVTQ_PAIR 0) = true → s.hst.held = r :: l →
    exec .eventDropTimeout s = .next ({ s with hst := { s.hst with held := l } }).eventLost) ∧
  (∀ (i : Nat) (s : State), s.gate .host .HST_FBDRET 0 = .pass →
    (s.hst.retRing.length < 4096 → exec (.fbdretWrite i) s = .next { s with hst := { s.hst with retRing := s.hst.retRing ++ [i] } }) ∧
    (4096 ≤ s.hst.retRing.length → exec (.fbdretWrite i) s = .next (s.setFld F.HST_STAT_RETFULL 0 1))) ∧
  (∀ (q : Nat) (s : State), Tab.get (fun _ => false) s.hst.coalescing q = true → exec (.coalescingTimeout q) s =
    .next (({ s with hst := { s.hst with coalescing := Tab.set (fun _ => false) s.hst.coalescing q false } }).msix (s.fld F.HST_QCFG_VEC q))) ∧
  (∀ (p : Nat) (who : Who) (v : Word) (s s1 : State), s.gate who .ETH_CFG p = .pass → s.flag F.ETH_CFG_EN p = true →
    s1 = s.setReg .ETH_CFG p (ethCfgForm (plainWrite .ETH_CFG (s.reg .ETH_CFG p) v)) → s1.flag F.ETH_CFG_EN p = false →
    exec (.ethPortDisable p who v) s = .next (s1.startDrain (domEth p) .config)) ∧
  (∀ (ofs n h o : Nat) (x : Handle) (v : DWord) (s : State), s.hostPath = true → s.window ofs = some (h, o) → s.handle h = some x →
    o + n ≤ x.size →
    (s.hostMayRead x = true →
      exec (.bar2Access ofs n none) s =
        .next ((if s.openContents h then (s.touchTag 144).drew else s.touchTag 144).returns (BitVec.ofNat 64 (leNat (s.peek h o n))))) ∧
    (s.hostMayRead x = false → exec (.bar2Access ofs n none) s = .next (s.returns 0)) ∧
    (s.hostMayWrite x = true → exec (.bar2Access ofs n (some v)) s = .next ((s.touchTag 144).setBytes h o (natLe n v.toNat))) ∧
    (s.hostMayWrite x = false → exec (.bar2Access ofs n (some v)) s = .next s)) ∧
  (∀ (who : Who) (ofs i : Nat) (r : Reg) (v : Word) (e : WriteEnv) (s : State), windowAt ofs = false → regAt ofs = some (r, i) →
    (s.gate who r i = .pass → exec (.registerWrite who ofs v e) s = .next (s.applyWrite who r i v e).noteIrq1) ∧
    (s.gate who r i = .deny → exec (.registerWrite who ofs v e) s = .next (s.event .denied (unitPage (r.addr i)) []).noteIrq1) ∧
    (s.gate who r i = .refuse ∨ s.gate who r i = .lost → exec (.registerWrite who ofs v e) s = .next s.noteIrq1)) ∧
  (∀ (ofs : Nat) (v : Word) (e : WriteEnv) (s : State), 0x1480000 ≤ ofs → ofs < 0x1481000 → ofs % 4 = 0 → s.hostPath = true →
    s.homeOn .core = true → s.bootReach ofs = true → Gives (.registerWrite .host ofs v e) s fun t =>
      Tab.get (fun _ => 0) t.hst.msixTable (ofs % 0x1000 / 4) = v ∧ s.OnlyIn [.hst] t) ∧
  (∀ (p g svc dclass ref len : Nat) (s : State), p < 2 → s.serves (domEth p) = true → s.flag F.ETH_CFG_EN p = true →
    s.flag F.ETH_CFG_HE p = true → dclass ≠ 2 →
    (len ≤ 9200 → exec (.headendDatagram p true 1 g svc dclass ref len) s = .next (frameSend (.headend p ref) g svc dclass len s)) ∧
    exec (.headendDatagram p false 1 g svc dclass ref len) s = .next (s.bumpFld F.ETH_DROP_VALUE p 1))

/-- Trail ports: characters, flushes, breaks, flow control and rates (R510, R511, R512, R513, R518, R519, R521, R522,
R523, R524). A character that completes on a listening port is stored with its marks and the receiver takes the rate
and format written; a held receiver produces none. A read of TP_RXD returns the oldest entry with VALID and removes
it, or 0 from an empty FIFO. A write of TP_TXD queues the character, or sets TXOVF on a full FIFO. A sent character
lets the next go. RXFLUSH and TXFLUSH empty their FIFOs; BREAK asks for a break; RESUME clears the stop of an XOFF.
Break held sets HELD_EV and posts its event, its end posts OK. A synchronous exchange stores what came in. Disabling a
port closes it. COMPLETES (exec answers a next state under hypotheses on state and operands alone): tpCharReceived,
tpRxdRead, tpTxdWrite, tpCharSent, tpRxflush, tpTxflush, tpBreak, tpResume, tpRateChangeApply, tpBreakHeld,
tpBreakHeldExit, tpSyncChar, tpDisable. -/
def Obligations.TrailPortsSendAndReceive : Prop :=
  (∀ (p data : Nat) (s s0 : State), p < 8 → s.tpListens p = true → (s.tport p).held = false → tpMode (s.tport p).rxCfg = 0 →
    getBits (s.tport p).rxCfg 8 3 = 0 → s.flag F.TP_CFG_FLOW p = false → data % 2 ^ tpBits (s.tport p).rxCfg ≠ 0 →
    s0 = s.setTport p { s.tport p with line := true, fell := none } →
    exec (.tpCharReceived p data false true) s =
      .next (((s0.tpStore p (data % 2 ^ tpBits (s.tport p).rxCfg)).tpRxApply p).tpNext p)) ∧
  (∀ (p data : Nat) (bit stop : Bool) (s : State), (s.tport p).held = true ∨ s.tpListens p = false →
    exec (.tpCharReceived p data bit stop) s = .next s) ∧
  (∀ (p : Nat) (who : Who) (s : State), s.readable who .TP_RXD p = true →
    ((s.tport p).rx = [] → exec (.tpRxdRead p who) s = .next (s.returns 0)) ∧
    (∀ e l, (s.tport p).rx = e :: l → exec (.tpRxdRead p who) s =
      .next ((((s.setTport p { s.tport p with rx := l }).tpCross p (l.length + 1)).tpNext p).returns (BitVec.ofNat 64 (2 ^ 31 + e))))) ∧
  (∀ (p : Nat) (who : Who) (v : Word) (s : State), s.gate who .TP_TXD p = .pass →
    ((s.tport p).tx.length < 64 → exec (.tpTxdWrite p who v) s =
      .next ((s.setTport p { s.tport p with tx := (s.tport p).tx ++ [v.toNat % 512] }).tpNext p)) ∧
    (64 ≤ (s.tport p).tx.length → exec (.tpTxdWrite p who v) s = .next (s.setFld F.TP_STAT_TXOVF p 1))) ∧
  (∀ (p : Nat) (s : State), (s.tport p).shifter.isSome = true → tpMode (s.tport p).txCfg ≠ 2 →
    exec (.tpCharSent p) s = .next (((s.setTport p { s.tport p with shifter := none }).tpTxApply p).tpNext p)) ∧
  (∀ (p : Nat) (who : Who) (s : State), s.gate who .TP_CMD p = .pass →
    exec (.tpRxflush p who) s = .next (((s.setTport p { s.tport p with rx := [] }).tpCross p (s.tport p).rx.length).tpNext p) ∧
    exec (.tpTxflush p who) s = .next (s.setTport p { s.tport p with tx := [] }) ∧
    exec (.tpBreak p who) s = .next ((s.setTport p { s.tport p with brkWait := true }).tpNext p) ∧
    exec (.tpResume p who) s = .next ((s.setTport p { s.tport p with txOff := false }).tpNext p)) ∧
  (∀ (p : Nat) (s : State), p < 8 →
    ((s.tport p).shifter = none → exec (.tpRateChangeApply p true) s = .next ((s.tpTxApply p).tpNext p)) ∧
    ((s.tport p).shifter ≠ none → exec (.tpRateChangeApply p true) s = .next s) ∧
    exec (.tpRateChangeApply p false) s = .next (s.tpRxApply p)) ∧
  (∀ (p : Nat) (s : State), p < 8 → s.tpListens p = true → (s.tport p).held = false → tpMode (s.tport p).rxCfg ≠ 2 →
    (∀ t, (s.tport p).fell = some t → t + s.breakNs p ≤ stampNs s.now) →
    exec (.tpBreakHeld p) s = .next (((s.setTport p { s.tport p with
      held := true
      line := false }).setFld F.TP_STAT_HELD_EV p 1).event .breakHeld (pageTp p) [])) ∧
  (∀ (p : Nat) (s : State), (s.tport p).held = true → exec (.tpBreakHeldExit p) s = .next ((s.setTport p { s.tport p with
      held := false
      line := true
      fell := none }).event .ok (pageTp p) [])) ∧
  (∀ (p data : Nat) (s s1 : State), (s.tport p).shifter.isSome = true → tpMode (s.tport p).txCfg = 2 →
    s.draining (domTp p) = false → s1 = (s.setTport p { s.tport p with shifter := none }).tpStore p (data % 2 ^ tpBits (s.tport p).txCfg) →
    exec (.tpSyncChar p data) s = .next (((s1.tpTxApply p).tpRxApply p).tpNext p)) ∧
  (∀ (p : Nat) (who : Who) (v : Word) (s s1 s2 : State), s.gate who .TP_CFG p = .pass → s.flag F.TP_CFG_EN p = true →
    (s.tport p).shifter ≠ none → s1 = s.setReg .TP_CFG p (tpCfgForm (plainWrite .TP_CFG (s.reg .TP_CFG p) (putBits v 0 1 0))) →
    s2 = s1.setReg .TP_BAUD p (tpBaudForm (s1.reg .TP_CFG p) (s1.reg .TP_BAUD p)) → s2.flag F.TP_CFG_EN p = false →
    exec (.tpDisable p who v) s = .next (s2.tpClose p))

/-- Idnas scalar instructions: sums, logic, shifts, products, comparisons, counts, immediates, constants and handles
(R349, R350, R351, R358). Where the context may issue, the instruction's words lie in the code handle, its registers
have their results and its unused fields hold 0, the program counter moves past the instruction and s[d] takes the
row's result of s[a], s[b], the immediate or the extension word: shifts take the low six bits of the amount, MULHU the
high half, immediates are sign-extended for ADDI and zero-extended for the logical ones, HGET gives the handle of a
declaration or 0xFFFF_FFFF. A write to s0 is discarded. Nothing else of the machine changes. COMPLETES (exec answers a
next state under hypotheses on state and operands alone): iAdd, iSub, iAnd, iOr, iXor, iShl, iShr, iSra, iMul, iMulhu,
iMin, iMax, iSlt, iSltu, iPopc, iClz, iAddi, iAndi, iOri, iXori, iShli, iShri, iSrai, iLi, iLih, iHget. -/
def Obligations.ScalarInstructionsCompute : Prop :=
  (∀ (k t : Nat) (f : FmtR) (x : Task) (s : State), s.Issues k 1 [.s f.a.toNat, .s f.b.toNat, .s f.d.toNat] t x → f.pg = 0 → f.ty = 0 →
    exec (.iAdd k f) s = .next ((s.past k 1).setSr k f.d.toNat (s.sr k f.a.toNat + s.sr k f.b.toNat)) ∧
    exec (.iSub k f) s = .next ((s.past k 1).setSr k f.d.toNat (s.sr k f.a.toNat - s.sr k f.b.toNat)) ∧
    exec (.iAnd k f) s = .next ((s.past k 1).setSr k f.d.toNat (s.sr k f.a.toNat &&& s.sr k f.b.toNat)) ∧
    exec (.iOr k f) s = .next ((s.past k 1).setSr k f.d.toNat (s.sr k f.a.toNat ||| s.sr k f.b.toNat)) ∧
    exec (.iXor k f) s = .next ((s.past k 1).setSr k f.d.toNat (s.sr k f.a.toNat ^^^ s.sr k f.b.toNat)) ∧
    exec (.iShl k f) s = .next ((s.past k 1).setSr k f.d.toNat (s.sr k f.a.toNat <<< ((s.sr k f.b.toNat).toNat % 64))) ∧
    exec (.iShr k f) s = .next ((s.past k 1).setSr k f.d.toNat (s.sr k f.a.toNat >>> ((s.sr k f.b.toNat).toNat % 64))) ∧
    exec (.iSra k f) s = .next ((s.past k 1).setSr k f.d.toNat ((s.sr k f.a.toNat).sshiftRight ((s.sr k f.b.toNat).toNat % 64))) ∧
    exec (.iMul k f) s = .next ((s.past k 1).setSr k f.d.toNat (s.sr k f.a.toNat * s.sr k f.b.toNat)) ∧
    exec (.iMulhu k f) s =
      .next ((s.past k 1).setSr k f.d.toNat (BitVec.ofNat 64 ((s.sr k f.a.toNat).toNat * (s.sr k f.b.toNat).toNat / 2 ^ 64))) ∧
    exec (.iMin k f) s = .next ((s.past k 1).setSr k f.d.toNat
      (if (s.sr k f.a.toNat).toInt < (s.sr k f.b.toNat).toInt then s.sr k f.a.toNat else s.sr k f.b.toNat)) ∧
    exec (.iMax k f) s = .next ((s.past k 1).setSr k f.d.toNat
      (if (s.sr k f.a.toNat).toInt < (s.sr k f.b.toNat).toInt then s.sr k f.b.toNat else s.sr k f.a.toNat)) ∧
    exec (.iSlt k f) s = .next ((s.past k 1).setSr k f.d.toNat
      (if (s.sr k f.a.toNat).toInt < (s.sr k f.b.toNat).toInt then 1 else 0)) ∧
    exec (.iSltu k f) s = .next ((s.past k 1).setSr k f.d.toNat
      (if (s.sr k f.a.toNat).toNat < (s.sr k f.b.toNat).toNat then 1 else 0))) ∧
  (∀ (k t : Nat) (f : FmtR) (x : Task) (s : State), s.Issues k 1 [.s f.a.toNat, .s f.d.toNat] t x → f.b = 0 → f.pg = 0 → f.ty = 0 →
    exec (.iPopc k f) s = .next ((s.past k 1).setSr k f.d.toNat (BitVec.ofNat 64 (onesBelow (s.sr k f.a.toNat) 64))) ∧
    exec (.iClz k f) s = .next ((s.past k 1).setSr k f.d.toNat (BitVec.ofNat 64 (leadZeros (s.sr k f.a.toNat) 64)))) ∧
  (∀ (k t : Nat) (f : FmtI) (x : Task) (s : State), s.Issues k 1 [.s f.a.toNat, .s f.d.toNat] t x →
    exec (.iAddi k f) s = .next ((s.past k 1).setSr k f.d.toNat (s.sr k f.a.toNat + f.imm.signExtend 64)) ∧
    exec (.iAndi k f) s = .next ((s.past k 1).setSr k f.d.toNat (s.sr k f.a.toNat &&& f.imm.zeroExtend 64)) ∧
    exec (.iOri k f) s = .next ((s.past k 1).setSr k f.d.toNat (s.sr k f.a.toNat ||| f.imm.zeroExtend 64)) ∧
    exec (.iXori k f) s = .next ((s.past k 1).setSr k f.d.toNat (s.sr k f.a.toNat ^^^ f.imm.zeroExtend 64)) ∧
    exec (.iShli k f) s = .next ((s.past k 1).setSr k f.d.toNat (s.sr k f.a.toNat <<< (f.imm.toNat % 64))) ∧
    exec (.iShri k f) s = .next ((s.past k 1).setSr k f.d.toNat (s.sr k f.a.toNat >>> (f.imm.toNat % 64))) ∧
    exec (.iSrai k f) s = .next ((s.past k 1).setSr k f.d.toNat ((s.sr k f.a.toNat).sshiftRight (f.imm.toNat % 64)))) ∧
  (∀ (k t : Nat) (f : FmtE) (x : Task) (s : State), s.Issues k 2 [.s f.d.toNat] t x → f.a = 0 → f.imm = 0 →
    exec (.iLi k f) s = .next ((s.past k 2).setSr k f.d.toNat (f.ext.signExtend 64)) ∧
    exec (.iLih k f) s = .next ((s.past k 2).setSr k f.d.toNat (f.ext ++ (s.sr k f.d.toNat).truncate 32))) ∧
  (∀ (k t : Nat) (f : FmtI) (x : Task) (s : State), s.Issues k 1 [.s f.d.toNat] t x → f.a = 0 →
    exec (.iHget k f) s = .next ((s.past k 1).setSr k f.d.toNat (BitVec.ofNat 64 (((s.pack x.slot).decls[f.imm.toNat]?).getD 0xFFFFFFFF)))) ∧
  (∀ (k d j n : Nat) (v : DWord) (s : State), ((s.past k n).setSr k 0 v = s.past k n) ∧ s.sr k 0 = 0 ∧
    s.OnlyIn [.prog] ((s.past k n).setSr k d v) ∧ (d ≠ 0 → ((s.past k n).setSr k d v).sr k d = v) ∧
    (j ≠ d → ((s.past k n).setSr k d v).sr k j = s.sr k j) ∧ ((s.past k n).ctx k).pc = (s.ctx k).pc + 4 * n)

/-- Idnas control instructions (R350, R356, R362, R365, R366). An issued NOP only moves past its word. YIELD marks the
migration point. END ends the task with s[a][7:0]. FENCE goes on when its stores and calls are done, else waits. BR,
BZ and BNZ add 4 times the displacement to the branch word's own offset, where taken. CALL keeps the next offset in
s31; RET and JR go to s31 and s[a]. RDCTX gives the task, slot, priority and ASAT, and clears ASAT. An instruction
whose fields are wrong faults with cause 1, one outside its code handle with cause 6; one whose context may not issue,
or whose registers still wait, changes nothing. COMPLETES (exec answers a next state under hypotheses on state and
operands alone): iNop, iYield, iEnd, iFence, iRet, iJr, iRdctx, iBr, iBz, iBnz, iCall, iAdd. -/
def Obligations.ControlInstructionsMoveTheProgramCounter : Prop :=
  (∀ (k t : Nat) (f : FmtR) (x : Task) (s : State), s.Issues k 1 [] t x → f.d = 0 → f.a = 0 → f.b = 0 → f.pg = 0 → f.ty = 0 →
    exec (.iNop k f) s = .next (s.past k 1) ∧
    exec (.iYield k f) s = .next ((s.past k 1).setCtx k { (s.past k 1).ctx k with yielded := true })) ∧
  (∀ (k t : Nat) (f : FmtR) (x : Task) (s : State), s.Issues k 1 [.s f.a.toNat] t x → f.d = 0 → f.b = 0 → f.pg = 0 → f.ty = 0 →
    exec (.iEnd k f) s = .next ((s.past k 1).endTask k t ((s.sr k f.a.toNat).toNat % 256)) ∧
    exec (.iJr k f) s = .next ((s.past k 1).setPc k (s.sr k f.a.toNat).toNat)) ∧
  (∀ (k t : Nat) (f : FmtR) (x : Task) (s : State), s.Issues k 1 [] t x → f.d = 0 → f.a = 0 → f.b.toNat ≤ 2 → f.pg = 0 → f.ty = 0 →
    exec (.iFence k f) s = .next (if fenceDone (s.ctx k) (f.b.toNat != 1) (f.b.toNat != 0) then s.past k 1 else
      (s.past k 1).setCtx k { (s.past k 1).ctx k with wait := .fence (f.b.toNat != 1) (f.b.toNat != 0) })) ∧
  (∀ (k t : Nat) (f : FmtR) (x : Task) (s : State), s.Issues k 1 [.s 31] t x → f.d = 0 → f.a = 0 → f.b = 0 → f.pg = 0 → f.ty = 0 →
    exec (.iRet k f) s = .next ((s.past k 1).setPc k (s.sr k 31).toNat)) ∧
  (∀ (k t : Nat) (f : FmtR) (x : Task) (s : State), s.Issues k 1 [.s f.d.toNat] t x → f.a = 0 → f.b = 0 → f.pg = 0 → f.ty = 0 →
    exec (.iRdctx k f) s = .next (((s.past k 1).setCtx k { (s.past k 1).ctx k with asat := false }).setSr k f.d.toNat
      (BitVec.ofNat 64 (t % 2 ^ 32 + x.slot % 16 * 2 ^ 32 + x.prio % 4 * 2 ^ 36 + (if (s.ctx k).asat then 2 ^ 63 else 0))))) ∧
  (∀ (k t : Nat) (f : FmtB) (x : Task) (s : State), s.Issues k 1 [] t x → f.a = 0 →
    exec (.iBr k f) s = .next ((s.past k 1).setPc k (((((s.ctx k).pc : Int) + 4 * f.disp.toInt) % (2 ^ 40 : Int)).toNat))) ∧
  (∀ (k t : Nat) (f : FmtB) (x : Task) (s : State), s.Issues k 1 [.s f.a.toNat] t x →
    exec (.iBz k f) s = .next (if s.sr k f.a.toNat = 0 then (s.past k 1).setPc k (((((s.ctx k).pc : Int) + 4 * f.disp.toInt) %
      (2 ^ 40 : Int)).toNat) else s.past k 1) ∧
    exec (.iBnz k f) s = .next (if s.sr k f.a.toNat = 0 then s.past k 1 else (s.past k 1).setPc k (((((s.ctx k).pc : Int) +
      4 * f.disp.toInt) % (2 ^ 40 : Int)).toNat))) ∧
  (∀ (k t : Nat) (f : FmtB) (x : Task) (s : State), s.Issues k 1 [.s 31] t x → f.a = 0 →
    exec (.iCall k f) s = .next (((s.past k 1).setSr k 31 (BitVec.ofNat 64 ((s.ctx k).pc + 4))).setPc k
      (((((s.ctx k).pc : Int) + 4 * f.disp.toInt) % (2 ^ 40 : Int)).toNat))) ∧
  (∀ (k t : Nat) (f : FmtR) (x : Task) (s : State), (s.ctx k).task = some t → s.task t = some x →
    (s.mayIssue k x = false → exec (.iAdd k f) s = .next s) ∧
    (s.mayIssue k x = true → s.fetchOk k x 4 = false → exec (.iAdd k f) s = .next (s.taskFault k t x 6)) ∧
    (s.mayIssue k x = true → s.fetchOk k x 4 = true → f.pg ≠ 0 → exec (.iAdd k f) s = .next (s.taskFault k t x 1)) ∧
    (s.mayIssue k x = true → s.fetchOk k x 4 = true → f.pg = 0 → f.ty = 0 → (s.ctx k).busy.contains (.s f.b.toNat) = true →
      exec (.iAdd k f) s = .next s))

/-- Idnas loads and stores, and the responses that end them (R352, R354, R355, R356, R357, R373, R403). A load or store
whose handle is held with the right and whose bytes lie in it, aligned, reaches the bytes at the effective offset: at
once in local store, else as a transaction that takes a tag, a load marking its register busy, a store writing the
bytes and counting one store outstanding. LDS widens by bit 8, STV writes the bytes of the lanes its predicate
selects. One that fails faults with its cause; with no tag free the context waits. A TRANSACTION_RESPONSE returns the
tag and gives the register its value, or counts the store off once no second copy of it is left to be written (log
entry 204). COMPLETES (exec answers a next state under hypotheses on state and operands alone): iLds, iSts, iLdv,
iStv, transactionResponse. -/
def Obligations.LoadsAndStoresReachTheirBytes : Prop :=
  (∀ (k t ofs size : Nat) (f : FmtM) (x : Task) (y : Target) (s : State), s.Issues k 1 [.s f.h.toNat, .s f.o.toNat, .s f.d.toNat] t x →
    f.pg.toNat < 2 → size = 2 ^ f.w.toNat → ofs = effOffset (s.sr k f.o.toNat) f.disp.toNat size →
    (s.past k 1).target k t x ((s.sr k f.h.toNat).toNat % 2 ^ 32) = some y → y.kind ≠ .queue → y.rights % 2 = 1 → ofs + size ≤ y.size →
    ofs % size = 0 →
    (y.isLocal = true → exec (.iLds k f) s = .next ((s.past k 1).setSr k f.d.toNat
      (widen size (f.pg == 1) (leNat (s.peek y.obj ofs size))))) ∧
    (∀ s1, y.isLocal = false → (s.past k 1).hasTag (k / 4) = true →
      s1 = (s.past k 1).setCtx k { (s.past k 1).ctx k with busy := .s f.d.toNat :: ((s.past k 1).ctx k).busy } →
      exec (.iLds k f) s = .next (s1.memTxn k y ofs (.loadScalar k t f.d.toNat (widen size (f.pg == 1) (leNat (s.peek y.obj ofs size)))
        ((s.sr k f.h.toNat).toNat % 2 ^ 32)))) ∧
    (y.isLocal = false → (s.past k 1).hasTag (k / 4) = false → exec (.iLds k f) s = .next ((s.past k 1).waitTag k 1))) ∧
  (∀ (k t ofs size : Nat) (f : FmtM) (x : Task) (y : Target) (s : State), s.Issues k 1 [.s f.h.toNat, .s f.o.toNat, .s f.d.toNat] t x →
    f.pg = 0 → size = 2 ^ f.w.toNat → ofs = effOffset (s.sr k f.o.toNat) f.disp.toNat size →
    (s.past k 1).target k t x ((s.sr k f.h.toNat).toNat % 2 ^ 32) = some y → y.kind ≠ .queue → y.rights / 2 % 2 = 1 → ofs + size ≤ y.size →
    ofs % size = 0 →
    (y.isLocal = true → exec (.iSts k f) s = .next ((s.past k 1).setBytes y.obj ofs (natLe size (s.sr k f.d.toNat).toNat))) ∧
    (∀ s1, y.isLocal = false → (s.past k 1).hasTag (k / 4) = true → s1 = (s.past k 1).setBytes y.obj ofs (natLe size (s.sr k f.d.toNat).toNat) →
      exec (.iSts k f) s = .next ((s1.setCtx k { s1.ctx k with stores := (s1.ctx k).stores + 1 }).memTxn k y ofs (.store k t (Place.copy ofs (y.spot ofs)))))) ∧
  (∀ (k t ofs : Nat) (f : FmtM) (x : Task) (y : Target) (s : State), s.Issues k 1 [.s f.h.toNat, .s f.o.toNat, .v f.d.toNat] t x →
    f.d.toNat < 16 → f.pg = 0 → f.w = 0 → ofs = effOffset (s.sr k f.o.toNat) f.disp.toNat 64 →
    (s.past k 1).target k t x ((s.sr k f.h.toNat).toNat % 2 ^ 32) = some y → y.kind ≠ .queue → y.rights % 2 = 1 → ofs + 64 ≤ y.size →
    ofs % 64 = 0 → y.isLocal = true →
    exec (.iLdv k f) s = .next ((s.past k 1).setVr k f.d.toNat (BitVec.ofNat 512 (leNat (s.peek y.obj ofs 64))))) ∧
  (∀ (k t ofs : Nat) (f : FmtM) (x : Task) (y : Target) (s : State),
    s.Issues k 1 [.s f.h.toNat, .s f.o.toNat, .v f.d.toNat, .p f.pg.toNat] t x →
    f.d.toNat < 16 → f.w.toNat < 3 → ofs = effOffset (s.sr k f.o.toNat) f.disp.toNat 64 →
    (s.past k 1).target k t x ((s.sr k f.h.toNat).toNat % 2 ^ 32) = some y → y.kind ≠ .queue → y.rights / 2 % 2 = 1 → ofs + 64 ≤ y.size →
    ofs % 64 = 0 → y.isLocal = true →
    exec (.iStv k f) s = .next ((s.past k 1).storeLanes y.obj ofs f.w.toNat (s.pr k f.pg.toNat) (s.vr k f.d.toNat) 64)) ∧
  (∀ (k t size : Nat) (f : FmtM) (x : Task) (s : State), s.Issues k 1 [.s f.h.toNat, .s f.o.toNat, .s f.d.toNat] t x →
    f.pg = 0 → size = 2 ^ f.w.toNat → (s.past k 1).target k t x ((s.sr k f.h.toNat).toNat % 2 ^ 32) = none →
    exec (.iSts k f) s = .next ((s.past k 1).taskFault k t x 2)) ∧
  (∀ (id k t d h : Nat) (v : DWord) (e : Txn) (s u : State), s.fab.flight.find? (fun x => x.id == id && Txn.arrived x && x.admitted && s.mayAnswer x) = some e →
    (s.ctx k).task = some t → u = (s.respond e.respN e.resp).land e →
    (e.kind = .loadScalar k t d v h → exec (.transactionResponse id false) s = .next ((u.ready k (.s d)).setSr k d v)) ∧
    (∀ c, e.kind = .store k t c →
      (s.copyLeft c = none → exec (.transactionResponse id false) s =
        .next ((u.setCtx k { u.ctx k with stores := (u.ctx k).stores - 1 }).checkFence k)) ∧
      (∀ p, s.copyLeft c = some p → exec (.transactionResponse id false) s =
        .next (u.startTxn e.init (some p) (8 + p / 32) 1 1 (.store k t none)))))

/-- Idnas vector instructions: saturating sums, rounded products, comparisons, selections, permutations, splats, extracts
and demapping (R359, R360, R361, R363). Where the context may issue and the fields name vector registers and a type of
the row, the program counter moves past the word and each lane whose predicate bit is 1 takes the row's result, the
others keep theirs: sums and differences saturate, products are complex or Q15, rounded as (x + 2^14) >> 15 and
saturated, shifts round, comparisons give predicate bits, VSEL picks lanes, VPERM reorders them, VSPLAT copies a
scalar, VEXT extracts a sign-extended lane, VDEMAP gives soft values. S8 lanes never hold -128. Only the task state of
the engine changes. COMPLETES (exec answers a next state under hypotheses on state and operands alone): iVadd, iVsub,
iVmul, iVconj, iVmag2, iVmin, iVmax, iVabs, iVsel, iVshri, iVperm, iVcmpgt, iVcmpeq, iVand, iVxor, iVsplat, iVext,
iVdemap. -/
def Obligations.VectorInstructionsWorkLaneByLane : Prop :=
  (∀ (k t ty : Nat) (f : FmtR) (x : Task) (a b : Vec) (s : State),
    s.Issues k 1 [.v f.a.toNat, .v f.b.toNat, .v f.d.toNat, .p f.pg.toNat] t x →
    f.d.toNat < 16 → f.a.toNat < 16 → f.b.toNat < 16 → ty = f.ty.toNat → a = s.vr k f.a.toNat → b = s.vr k f.b.toNat →
    (ty < 3 →
      exec (.iVadd k f) s = .next (s.merged k f ty (fixSoft ty (mapComps ty fun i =>
        satLane ty (laneInt a (compBits ty) i + laneInt b (compBits ty) i)))) ∧
      exec (.iVsub k f) s = .next (s.merged k f ty (fixSoft ty (mapComps ty fun i =>
        satLane ty (laneInt a (compBits ty) i - laneInt b (compBits ty) i)))) ∧
      exec (.iVand k f) s = .next (s.merged k f ty (fixSoft ty (a &&& b))) ∧
      exec (.iVxor k f) s = .next (s.merged k f ty (fixSoft ty (a ^^^ b))) ∧
      exec (.iVperm k f) s = .next (s.merged k f ty (fixSoft ty (buildVec (laneBits ty) (laneCount ty) fun i =>
        laneNat a (laneBits ty) (laneNat b (laneBits ty) i % laneCount ty)))) ∧
      exec (.iVsel k f) s = .next ((s.past k 1).setVr k f.d.toNat (fixSoft ty (mergeLanes ty (s.pr k f.pg.toNat) b a)))) ∧
    (ty = 0 → exec (.iVmul k f) s = .next (s.merged k f 0 (mapComps 0 fun i =>
      sat16 (roundShift 15 (if i % 2 = 0 then mulRe a b (i / 2) else mulIm a b (i / 2)))))) ∧
    (ty = 1 → exec (.iVmul k f) s = .next (s.merged k f 1 (mapComps 1 fun i =>
      sat16 (roundShift 15 (laneInt a 16 i * laneInt b 16 i))))) ∧
    (ty = 1 ∨ ty = 2 →
      exec (.iVmin k f) s = .next (s.merged k f ty (fixSoft ty (mapComps ty fun i =>
        min (laneInt a (compBits ty) i) (laneInt b (compBits ty) i)))) ∧
      exec (.iVmax k f) s = .next (s.merged k f ty (fixSoft ty (mapComps ty fun i =>
        max (laneInt a (compBits ty) i) (laneInt b (compBits ty) i)))))) ∧
  (∀ (k t ty : Nat) (f : FmtR) (x : Task) (a : Vec) (s : State),
    s.Issues k 1 [.v f.a.toNat, .v f.a.toNat, .v f.d.toNat, .p f.pg.toNat] t x →
    f.d.toNat < 16 → f.a.toNat < 16 → f.b = 0 → ty = f.ty.toNat → a = s.vr k f.a.toNat →
    (ty = 0 → exec (.iVconj k f) s = .next (s.merged k f 0 (mapComps 0 fun i =>
      if i % 2 = 0 then laneInt a 16 i else sat16 (-(laneInt a 16 i))))) ∧
    (ty = 1 ∨ ty = 2 → exec (.iVabs k f) s = .next (s.merged k f ty (fixSoft ty (mapComps ty fun i =>
      satLane ty (laneInt a (compBits ty) i).natAbs))))) ∧
  (∀ (k t : Nat) (f : FmtR) (x : Task) (a : Vec) (s : State), s.Issues k 1 [.v f.a.toNat, .v f.d.toNat, .p f.pg.toNat] t x →
    f.d.toNat < 16 → f.a.toNat < 16 → a = s.vr k f.a.toNat →
    (f.b = 0 → f.ty = 0 → exec (.iVmag2 k f) s = .next (s.merged k f 1 (mapComps 1 fun i =>
      if i < 16 then sat16 ((re16 a i * re16 a i + im16 a i * im16 a i) / 2 ^ 15) else 0))) ∧
    (f.b.toNat < 16 → f.ty.toNat < 3 → exec (.iVshri k f) s = .next (s.merged k f f.ty.toNat (mapComps f.ty.toNat fun i =>
      satLane f.ty.toNat (roundShift f.b.toNat (laneInt a (compBits f.ty.toNat) i)))))) ∧
  (∀ (k t ty : Nat) (f : FmtR) (x : Task) (a b : Vec) (s : State),
    s.Issues k 1 [.v f.a.toNat, .v f.b.toNat, .p f.d.toNat, .p f.pg.toNat] t x → f.d.toNat < 8 → f.a.toNat < 16 → f.b.toNat < 16 →
    ty = f.ty.toNat → ty = 1 ∨ ty = 2 → a = s.vr k f.a.toNat → b = s.vr k f.b.toNat →
    exec (.iVcmpgt k f) s = .next ((s.past k 1).setPr k f.d.toNat (cmpBits ty (s.pr k f.pg.toNat) (s.pr k f.d.toNat)
      fun i => decide (laneInt b (laneBits ty) i < laneInt a (laneBits ty) i))) ∧
    exec (.iVcmpeq k f) s = .next ((s.past k 1).setPr k f.d.toNat (cmpBits ty (s.pr k f.pg.toNat) (s.pr k f.d.toNat)
      fun i => decide (laneInt a (laneBits ty) i = laneInt b (laneBits ty) i)))) ∧
  (∀ (k t : Nat) (f : FmtR) (x : Task) (s : State), s.Issues k 1 [.s f.a.toNat, .v f.d.toNat, .p f.pg.toNat] t x →
    f.d.toNat < 16 → f.b = 0 → f.ty.toNat < 3 →
    exec (.iVsplat k f) s = .next (s.merged k f f.ty.toNat (fixSoft f.ty.toNat
      (buildVec (laneBits f.ty.toNat) (laneCount f.ty.toNat) fun _ => (s.sr k f.a.toNat).toNat)))) ∧
  (∀ (k t : Nat) (f : FmtR) (x : Task) (s : State), s.Issues k 1 [.v f.a.toNat, .s f.d.toNat] t x →
    f.a.toNat < 16 → f.pg = 0 → f.ty.toNat < 3 → f.b.toNat < laneCount f.ty.toNat →
    exec (.iVext k f) s = .next ((s.past k 1).setSr k f.d.toNat
      (BitVec.ofInt 64 (laneInt (s.vr k f.a.toNat) (laneBits f.ty.toNat) f.b.toNat)))) ∧
  (∀ (k t : Nat) (f : FmtR) (x : Task) (s : State), s.Issues k 1 [.v f.a.toNat, .s f.d.toNat] t x →
    f.a.toNat < 16 → f.pg = 1 → f.ty = 2 →
    exec (.iVext k f) s = .next ((s.past k 1).setSr k f.d.toNat (BitVec.ofInt 64 (laneInt (s.vr k f.a.toNat) 8 (32 + f.b.toNat))))) ∧
  (∀ (k t : Nat) (f : FmtR) (x : Task) (s : State), s.Issues k 1 [.v f.a.toNat, .v f.b.toNat, .v f.d.toNat] t x →
    f.d.toNat < 16 → f.a.toNat < 16 → f.b.toNat < 16 → f.ty = 0 → f.pg.toNat ≤ 4 →
    exec (.iVdemap k f) s = .next ((s.past k 1).setVr k f.d.toNat (buildVec 8 64 fun i =>
      intBits 8 (demapLane f.pg.toNat (s.vr k f.a.toNat) (s.vr k f.b.toNat) i)))) ∧
  (∀ (k d j : Nat) (v : Vec) (s : State), s.OnlyIn [.prog] ((s.past k 1).setVr k d v) ∧ ((s.past k 1).setVr k d v).vr k d = v ∧
    (j ≠ d → ((s.past k 1).setVr k d v).vr k j = s.vr k j))

/-- Idnas accumulator and predicate instructions (R359, R360, R362). Where the context may issue and the fields name
accumulators, vectors or predicates, CMAC and CMACC add the exact complex products of the lanes, the second factor
conjugated in CMACC, to the accumulator, CMUL replaces it, AREDUCE puts the sum of its lanes into lane 0 and clears
the others: each component is held to plus or minus 2^47 - 1, and where one saturates ASAT is set. ACLR clears. ARND
rounds and saturates the accumulator to C16. PAND, POR, PXOR and PNOT combine predicates; PSET and PGET move them from
and to a scalar. A write to p0 is discarded and p0 reads all ones. COMPLETES (exec answers a next state under
hypotheses on state and operands alone): iCmac, iCmacc, iCmul, iAclr, iArnd, iAreduce, iPand, iPor, iPxor, iPnot,
iPset, iPget. -/
def Obligations.AccumulatorsAndPredicatesAreWritten : Prop :=
  (∀ (k t : Nat) (f : FmtR) (x : Task) (a b : Vec) (c : BitVec 1536) (s : State), s.Issues k 1 [.v f.a.toNat, .v f.b.toNat, .a f.d.toNat] t x →
    f.d.toNat < 4 → f.a.toNat < 16 → f.b.toNat < 16 → f.pg = 0 → f.ty = 0 →
    a = s.vr k f.a.toNat → b = s.vr k f.b.toNat → c = s.ar k f.d.toNat →
    exec (.iCmac k f) s = .next ((s.past k 1).putAcc k f.d.toNat fun i =>
      accComp c i + (if i % 2 = 0 then mulRe a b (i / 2) else mulIm a b (i / 2))) ∧
    exec (.iCmacc k f) s = .next ((s.past k 1).putAcc k f.d.toNat fun i =>
      accComp c i + (if i % 2 = 0 then mulcRe a b (i / 2) else mulcIm a b (i / 2))) ∧
    exec (.iCmul k f) s = .next ((s.past k 1).putAcc k f.d.toNat fun i =>
      if i % 2 = 0 then mulRe a b (i / 2) else mulIm a b (i / 2))) ∧
  (∀ (k t : Nat) (f : FmtR) (x : Task) (c : BitVec 1536) (s : State), s.Issues k 1 [.a f.d.toNat] t x →
    f.d.toNat < 4 → f.a = 0 → f.b = 0 → f.pg = 0 → f.ty = 0 → c = s.ar k f.d.toNat →
    exec (.iAclr k f) s = .next ((s.past k 1).setAr k f.d.toNat 0) ∧
    exec (.iAreduce k f) s = .next ((s.past k 1).putAcc k f.d.toNat fun i =>
      if i = 0 then accSum c 0 16 else if i = 1 then accSum c 1 16 else 0)) ∧
  (∀ (k t : Nat) (f : FmtR) (x : Task) (s : State), s.Issues k 1 [.a f.a.toNat, .v f.d.toNat] t x →
    f.d.toNat < 16 → f.a.toNat < 4 → f.pg = 0 → f.ty = 0 →
    exec (.iArnd k f) s = .next ((s.past k 1).setVr k f.d.toNat (mapComps 0 fun i =>
      sat16 (roundShift f.b.toNat (accComp (s.ar k f.a.toNat) i))))) ∧
  (∀ (k t : Nat) (f : FmtR) (x : Task) (s : State), s.Issues k 1 [.p f.a.toNat, .p f.b.toNat, .p f.d.toNat] t x →
    f.d.toNat < 8 → f.a.toNat < 8 → f.b.toNat < 8 → f.pg = 0 → f.ty = 0 →
    exec (.iPand k f) s = .next ((s.past k 1).setPr k f.d.toNat (s.pr k f.a.toNat &&& s.pr k f.b.toNat)) ∧
    exec (.iPor k f) s = .next ((s.past k 1).setPr k f.d.toNat (s.pr k f.a.toNat ||| s.pr k f.b.toNat)) ∧
    exec (.iPxor k f) s = .next ((s.past k 1).setPr k f.d.toNat (s.pr k f.a.toNat ^^^ s.pr k f.b.toNat))) ∧
  (∀ (k t : Nat) (f : FmtR) (x : Task) (s : State), s.Issues k 1 [.p f.a.toNat, .p f.d.toNat] t x →
    f.d.toNat < 8 → f.a.toNat < 8 → f.b = 0 → f.pg = 0 → f.ty = 0 →
    exec (.iPnot k f) s = .next ((s.past k 1).setPr k f.d.toNat (~~~(s.pr k f.a.toNat)))) ∧
  (∀ (k t : Nat) (f : FmtR) (x : Task) (s : State), f.b = 0 → f.pg = 0 → f.ty = 0 →
    (s.Issues k 1 [.s f.a.toNat, .p f.d.toNat] t x → f.d.toNat < 8 →
      exec (.iPset k f) s = .next ((s.past k 1).setPr k f.d.toNat (s.sr k f.a.toNat))) ∧
    (s.Issues k 1 [.p f.a.toNat, .s f.d.toNat] t x → f.a.toNat < 8 →
      exec (.iPget k f) s = .next ((s.past k 1).setSr k f.d.toNat (s.pr k f.a.toNat)))) ∧
  (∀ (k d j : Nat) (c : Nat → Int) (s : State), s.OnlyIn [.prog] (s.putAcc k d c) ∧
    (s.putAcc k d c).ar k d = buildAcc (fun i => sat48 (c i)) ∧ (j ≠ d → (s.putAcc k d c).ar k j = s.ar k j) ∧
    ((s.putAcc k d c).ctx k).asat = ((s.ctx k).asat || (List.range 32).any fun i => decide (c i < -(2 ^ 47 - 1)) || decide (2 ^ 47 - 1 < c i))) ∧
  (∀ (k d j : Nat) (v : DWord) (s : State), s.setPr k 0 v = s ∧ s.pr k 0 = BitVec.allOnes 64 ∧ s.OnlyIn [.prog] (s.setPr k d v) ∧
    (d ≠ 0 → (s.setPr k d v).pr k d = v) ∧ (j ≠ d → (s.setPr k d v).pr k j = s.pr k j))

/-- Idnas queue instructions append and remove messages, wait, or report that they could not (R352, R354, R364, R373).
Where the context may issue, its handle is a queue it holds with the right and a tag is free, QPUSH appends v[b] when
the queue has room and else waits with a tag held, QPOP removes the oldest message into v[d] or waits, QTPUSH and
QTPOP do the same without waiting and set a scalar to 1 or 0, and QLEN gives the number waiting. A handle that is no
such queue is a fault of cause 2; with no tag free the context waits for one. QUEUE_WAIT_RESUME completes the waiting
push or pop once room or a message has appeared, and else changes nothing. COMPLETES (exec answers a next state under
hypotheses on state and operands alone): iQpush, iQpop, iQtpush, iQtpop, iQlen, queueWaitResume. -/
def Obligations.QueueInstructionsPassMessages : Prop :=
  (∀ (k t h : Nat) (f : FmtR) (x : Task) (s : State), f.pg = 0 → f.ty = 0 → h = (s.sr k f.a.toNat).toNat % 2 ^ 32 →
    queueOk (s.target k t x h) 2 = true → s.hasTag (k / 4) = true → f.b.toNat < 16 →
    (s.Issues k 1 [.s f.a.toNat, .v f.b.toNat] t x → f.d = 0 → exec (.iQpush k f) s = .next
      (if (s.queue h).length < s.queueCap h then ((s.past k 1).touchTag (k / 4)).setQueue h (s.queue h ++ [s.vr k f.b.toNat])
       else (s.past k 1).waitQueue k t h (.push h (s.vr k f.b.toNat)))) ∧
    (s.Issues k 1 [.s f.a.toNat, .v f.b.toNat, .s f.d.toNat] t x → exec (.iQtpush k f) s = .next
      (if (s.queue h).length < s.queueCap h then
        (((s.past k 1).touchTag (k / 4)).setQueue h (s.queue h ++ [s.vr k f.b.toNat])).setSr k f.d.toNat 1
       else ((s.past k 1).touchTag (k / 4)).setSr k f.d.toNat 0))) ∧
  (∀ (k t h : Nat) (f : FmtR) (x : Task) (s : State), f.pg = 0 → f.ty = 0 → h = (s.sr k f.a.toNat).toNat % 2 ^ 32 →
    queueOk (s.target k t x h) 1 = true → s.hasTag (k / 4) = true →
    (s.Issues k 1 [.s f.a.toNat, .v f.d.toNat] t x → f.d.toNat < 16 → f.b = 0 → exec (.iQpop k f) s = .next
      (match s.queue h with
       | m :: r => (((s.past k 1).touchTag (k / 4)).setQueue h r).setVr k f.d.toNat m
       | [] => (s.past k 1).waitQueue k t h (.pop h f.d.toNat))) ∧
    (s.Issues k 1 [.s f.a.toNat, .s f.b.toNat, .v f.d.toNat] t x → f.d.toNat < 16 → exec (.iQtpop k f) s = .next
      (match s.queue h with
       | m :: r => ((((s.past k 1).touchTag (k / 4)).setQueue h r).setVr k f.d.toNat m).setSr k f.b.toNat 1
       | [] => ((s.past k 1).touchTag (k / 4)).setSr k f.b.toNat 0)) ∧
    (s.Issues k 1 [.s f.a.toNat, .s f.d.toNat] t x → f.b = 0 → exec (.iQlen k f) s = .next
      (((s.past k 1).touchTag (k / 4)).setSr k f.d.toNat (BitVec.ofNat 64 (s.queue h).length)))) ∧
  (∀ (k t h : Nat) (f : FmtR) (x : Task) (s : State), s.Issues k 1 [.s f.a.toNat, .s f.d.toNat] t x → f.b = 0 → f.pg = 0 → f.ty = 0 →
    h = (s.sr k f.a.toNat).toNat % 2 ^ 32 →
    (queueOk (s.target k t x h) 1 = false → exec (.iQlen k f) s = .next ((s.past k 1).taskFault k t x 2)) ∧
    (queueOk (s.target k t x h) 1 = true → s.hasTag (k / 4) = false → exec (.iQlen k f) s = .next ((s.past k 1).waitTag k 1))) ∧
  (∀ (k h d : Nat) (m : Vec) (r : List Vec) (s : State),
    ((s.ctx k).wait = .push h m → (s.queue h).length < s.queueCap h →
      exec (.queueWaitResume k) s = .next ((s.leaveQueue k).setQueue h (s.queue h ++ [m]))) ∧
    ((s.ctx k).wait = .push h m → ¬ (s.queue h).length < s.queueCap h → exec (.queueWaitResume k) s = .next s) ∧
    ((s.ctx k).wait = .pop h d → s.queue h = m :: r →
      exec (.queueWaitResume k) s = .next (((s.leaveQueue k).setQueue h r).setVr k d m)) ∧
    ((s.ctx k).wait = .pop h d → s.queue h = [] → exec (.queueWaitResume k) s = .next s) ∧
    ((s.ctx k).wait = .running → exec (.queueWaitResume k) s = .next s)) ∧
  (∀ (h j : Nat) (q : List Vec) (s : State), (s.setQueue h q).queue h = q ∧ (j ≠ h → (s.setQueue h q).queue j = s.queue j) ∧
    s.OnlyIn [.prog] (s.setQueue h q))

/-- Idnas tasks: SPAWN, TWAIT, the end of a task and its migration (R353, R365, R366, R373, R378). SPAWN starts a task of
its pack where the entry exists, its instances and the pack's contexts leave room and a context is free, with s1 and
s2 its parameter and its parent's ID, and gives its ID, else 0. TWAIT gives DENIED where no such task of the pack has
existed, the end status of a task that has ended, and else waits; TWAIT_RESUME gives the status once it has ended. The
end of a task frees its context and keeps its status. TASK_MIGRATE moves a task that waits or is at YIELD, with its
registers, calls and transactions, to a free context of another engine that serves, and else changes nothing.
COMPLETES (exec answers a next state under hypotheses on state and operands alone): iSpawn, iTwait, twaitResume,
taskMigrate. -/
def Obligations.TasksStartEndAndMove : Prop :=
  (∀ (k t : Nat) (f : FmtR) (x : Task) (s : State), s.Issues k 1 [.s f.a.toNat, .s f.b.toNat, .s f.d.toNat] t x → f.pg = 0 → f.ty = 0 →
    exec (.iSpawn k f) s = .next (match s.mayStart x.slot (s.sr k f.a.toNat).toNat with
      | none => (s.past k 1).setSr k f.d.toNat 0
      | some (e, j) => ((s.past k 1).startTask x.slot (s.sr k f.a.toNat).toNat j e (s.sr k f.b.toNat) (BitVec.ofNat 64 t) t).setSr k
          f.d.toNat (BitVec.ofNat 64 s.prog.nextTask))) ∧
  (∀ (k t id : Nat) (f : FmtR) (x : Task) (s : State), s.Issues k 1 [.s f.a.toNat, .s f.d.toNat] t x → f.b = 0 → f.pg = 0 → f.ty = 0 →
    id = (s.sr k f.a.toNat).toNat →
    (s.task id = none → exec (.iTwait k f) s = .next ((s.past k 1).setSr k f.d.toNat (BitVec.ofNat 64 (Status.code .denied)))) ∧
    (∀ y, s.task id = some y → y.slot ≠ x.slot →
      exec (.iTwait k f) s = .next ((s.past k 1).setSr k f.d.toNat (BitVec.ofNat 64 (Status.code .denied)))) ∧
    (∀ y, s.task id = some y → y.slot = x.slot → y.live = false →
      exec (.iTwait k f) s = .next ((s.past k 1).setSr k f.d.toNat (BitVec.ofNat 64 y.endStatus))) ∧
    (∀ y, s.task id = some y → y.slot = x.slot → y.live = true →
      exec (.iTwait k f) s = .next ((s.past k 1).setCtx k { (s.past k 1).ctx k with wait := .task f.d.toNat id }))) ∧
  (∀ (k d id : Nat) (y : Task) (s : State),
    ((s.ctx k).wait = .task d id → s.task id = some y → y.live = false → exec (.twaitResume k) s =
      .next ((s.setCtx k { s.ctx k with wait := .running }).setSr k d (BitVec.ofNat 64 y.endStatus))) ∧
    ((s.ctx k).wait = .task d id → s.task id = some y → y.live = true → exec (.twaitResume k) s = .next s) ∧
    ((s.ctx k).wait = .running → exec (.twaitResume k) s = .next s)) ∧
  (∀ (slot entry j parent : Nat) (e : TaskEntry) (a b : DWord) (s u : State), u = s.startTask slot entry j e a b parent →
    (u.ctx j).task = some s.prog.nextTask ∧ (u.ctx j).pc = e.entryOfs ∧ u.sr j 1 = a ∧ u.sr j 2 = b ∧
    (∀ n, n ≠ 1 → n ≠ 2 → u.sr j n = 0) ∧ u.prog.nextTask = s.prog.nextTask + 1 ∧ (∀ i, i ≠ j → u.ctx i = s.ctx i) ∧
    s.OnlyIn [.prog, .free] u) ∧
  (∀ (k t st : Nat) (s : State), (s.endTask k t st).ctx k = {} ∧ (s.endTask k t st).regs = (s.landQueueOps k t s.fab.flight).regs) ∧
  (∀ (k j t : Nat) (x : Task) (s : State), (s.ctx k).task = some t → s.task t = some x →
    (migratable (s.ctx k) = true → (s.ctx j).task = none → s.serves (j / 4) = true → j / 4 ≠ k / 4 → j < 512 →
      Gives (.taskMigrate k j) s fun u => u.ctx j = s.ctx k ∧ u.ctx k = {} ∧ (∀ i, i ≠ k → i ≠ j → u.ctx i = s.ctx i) ∧
        s.OnlyIn [.prog, .fab, .regs] u ∧ s.RegsOnly [(.SYS_TAG_FREE, 0)] u) ∧
    (migratable (s.ctx k) = false ∨ (s.ctx j).task ≠ none ∨ s.serves (j / 4) = false ∨ j / 4 = k / 4 →
      exec (.taskMigrate k j) s = .next s))

/-- Idnas accelerator calls: XFFT, XFEC, XCRY, XCHK, AWAIT and APOLL (R354, R356, R367, R368, R369, R373, R397). Where the
context may issue, its descriptor lies in a handle it may read, a ticket and a tag are free, a call copies the
descriptor and gives a ticket: one that is not valid, or whose ranges the pack may not use, or whose check unit it may
not call, ends with DENIED; one for whose kind no unit serves ends with ABANDONED; else the call runs with its tag
held. A descriptor out of reach is a fault of cause 2. AWAIT and APOLL deliver a final status and free the ticket;
while the call runs AWAIT waits and APOLL gives 0xFF. A number that is no outstanding ticket gives a free value (log
entry 16). Which free ticket is given is a free choice (log entry 30). COMPLETES (exec answers a next state under
hypotheses on state and operands alone): iXfft, iXfec, iXcry, iXchk, iAwait, iApoll. -/
def Obligations.CallsAreIssuedAndAwaited : Prop :=
  (∀ (k t unit h ofs n : Nat) (f : FmtA) (x : Task) (d : CallDesc) (s u : State) (c : Instr),
    s.Issues k 1 [.s f.h.toNat, .s f.o.toNat, .s f.d.toNat] t x → f.unit.toNat = unit → f.fn = 0 →
    (c = .iXfft k f ∧ unit = 0 ∨ c = .iXfec k f ∧ unit = 1 ∨ c = .iXcry k f ∧ unit = 2 ∨ c = .iXchk k f ∧ unit = 3) →
    h = (s.sr k f.h.toNat).toNat % 2 ^ 32 → ofs = (s.sr k f.o.toNat).toNat % 2 ^ 40 → d = parseDesc (s.peek (s.objOf k h) ofs 64) →
    u = (s.past k 1).drew.setSr k f.d.toNat (BitVec.ofNat 64 n) →
    (s.target k t x h = none → exec c s = .next ((s.past k 1).taskFault k t x 2)) ∧
    (accessFault (s.target k t x h) ofs 64 1 1 (Config.freeNat s.free) = none →
      freeTicket (s.ctx k) (Config.freeNat s.free) = some n → s.hasTag (k / 4) = true →
      ((descValid unit d = false ∨ s.rangeOk k t x d.inH d.inOfs d.inLen 1 = false ∨ s.rangeOk k t x d.outH d.outOfs d.outLen 2 = false ∨
          (unit = 3 ∧ s.chkCallable x.slot d = false)) →
        exec c s = .next ((u.touchTag (k / 4)).setTicket k n (some (Status.code .denied)))) ∧
      (descValid unit d = true → s.rangeOk k t x d.inH d.inOfs d.inLen 1 = true → s.rangeOk k t x d.outH d.outOfs d.outLen 2 = true →
        (unit = 3 → s.chkCallable x.slot d = true) →
        ((callDomains unit).find? (fun i => s.serves i) = none →
          exec c s = .next ((u.touchTag (k / 4)).setTicket k n (some (Status.code .abandoned)))) ∧
        (∀ i, (callDomains unit).find? (fun i => s.serves i) = some i →
          Gives c s fun v => v.prog.calls.length = s.prog.calls.length + 1 ∧ v.prog.nextCall = s.prog.nextCall + 1 ∧
            v.fab.flight.length = s.fab.flight.length + 1 ∧ v.mem = s.mem)))) ∧
  (∀ (k t n : Nat) (f : FmtR) (x : Task) (s : State), s.Issues k 1 [.s f.a.toNat, .s f.d.toNat] t x → f.b = 0 → f.pg = 0 → f.ty = 0 →
    n = (s.sr k f.a.toNat).toNat →
    (∀ m st, (s.ctx k).tickets.find? (fun p => p.1 == n) = some (m, some st) →
      exec (.iAwait k f) s = .next ((s.past k 1).takeTicket k f.d.toNat n st) ∧
      exec (.iApoll k f) s = .next ((s.past k 1).takeTicket k f.d.toNat n st)) ∧
    (∀ m, (s.ctx k).tickets.find? (fun p => p.1 == n) = some (m, none) →
      exec (.iAwait k f) s = .next ((s.past k 1).setCtx k { (s.past k 1).ctx k with wait := .call f.d.toNat n }) ∧
      exec (.iApoll k f) s = .next ((s.past k 1).setSr k f.d.toNat 0xFF)) ∧
    ((s.ctx k).tickets.find? (fun p => p.1 == n) = none →
      exec (.iAwait k f) s = .next ((s.past k 1).setSr k f.d.toNat (Config.freeBits 64 s.free)).drew ∧
      exec (.iApoll k f) s = .next ((s.past k 1).setSr k f.d.toNat (Config.freeBits 64 s.free)).drew)) ∧
  (∀ (k d n st : Nat) (s : State), ((s.takeTicket k d n st).ctx k).tickets = (s.ctx k).tickets.filter (fun p => p.1 != n) ∧
    ((s.takeTicket k d n st).ctx k).wait = .running ∧ (d ≠ 0 → (s.takeTicket k d n st).sr k d = BitVec.ofNat 64 st) ∧
    s.OnlyIn [.prog] (s.takeTicket k d n st))

/-- The transform, coding and cipher units end their calls with the output the operation gives (R122, R367, R368, R369). A
command that completes a waiting call of its unit and operation, whose request has arrived, draws the tags its unit
needs and ends it. A call whose IN_LEN or OUT_LEN does not hold what its parameters ask for ends with DENIED. Else the
output is written at OUT_OFS and the call ends with OK, with LIMIT where a transform saturated, CHECK_FAIL where a
codeword or block did not check, AUTH_FAIL with zeros where a tag or key did not authenticate. Which bytes the
operations give is the configuration's, fixed by the standards the rules name. A command that names no such call
changes nothing. COMPLETES (exec answers a next state under hypotheses on state and operands alone): xfFft, xfIfft,
ldpcDecode, ldpcEncode, viterbiDecode, convolutionalEncode, reedSolomonDecode, reedSolomonEncode, gcmEncrypt,
gcmDecrypt, ccmEncrypt, ccmDecrypt. -/
def Obligations.CallsEndWithTheirOutput : Prop :=
  (∀ (id n cnt : Nat) (inv : Bool) (c : Call) (s u : State) (i : Instr), i = (if inv then .xfIfft id else .xfFft id) →
    s.callFor id 0 (if inv then 1 else 0) = some c → u = s.callTags c →
    n = CallDesc.par c.desc 0 2 → cnt = CallDesc.par c.desc 2 2 →
    (c.desc.inLen < 4 * n * cnt ∨ c.desc.outLen < 4 * n * cnt → exec i s = .next (u.endCall c .denied)) ∧
    (4 * n * cnt ≤ c.desc.inLen → 4 * n * cnt ≤ c.desc.outLen → exec i s = .next
      (u.endCallWith c (if (Config.fft inv n cnt (CallDesc.par c.desc 4 1) (u.callInput c)).2 then .limit else .ok)
        ((Config.fft inv n cnt (CallDesc.par c.desc 4 1) (u.callInput c)).1.take (4 * n * cnt))))) ∧
  (∀ (id rate ncw : Nat) (c : Call) (s u : State), u = s.callTags c → rate = CallDesc.par c.desc 0 1 → ncw = CallDesc.par c.desc 1 2 →
    (s.callFor id 1 0 = some c →
      (c.desc.inLen < 1944 * ncw ∨ c.desc.outLen < (ncw * ldpcK rate + 7) / 8 + ncw → exec (.ldpcDecode id) s = .next (u.endCall c .denied)) ∧
      (∀ r, 1944 * ncw ≤ c.desc.inLen → (ncw * ldpcK rate + 7) / 8 + ncw ≤ c.desc.outLen →
        r = Config.ldpcDecode rate ncw (if CallDesc.par c.desc 3 1 = 0 then 12 else CallDesc.par c.desc 3 1) (u.callInput c) →
        exec (.ldpcDecode id) s = .next (u.endCallWith c (if (r.2.take ncw).all (fun b => b.getLsbD 0) then .ok else .checkFail)
          (r.1.take ((ncw * ldpcK rate + 7) / 8) ++ r.2.take ncw)))) ∧
    (s.callFor id 1 1 = some c →
      (ncw * ldpcK rate + 7) / 8 ≤ c.desc.inLen → (1944 * ncw + 7) / 8 ≤ c.desc.outLen →
      exec (.ldpcEncode id) s = .next (u.endCallWith c .ok ((Config.ldpcEncode rate ncw (u.callInput c)).take ((1944 * ncw + 7) / 8))))) ∧
  (∀ (id len : Nat) (c : Call) (s u : State), u = s.callTags c → len = CallDesc.par c.desc 1 4 →
    (s.callFor id 1 2 = some c → len ≤ c.desc.inLen →
      exec (.viterbiDecode id) s = .next (u.endCallWith c .ok (Config.viterbi (CallDesc.par c.desc 0 1) len (u.callInput c)))) ∧
    (s.callFor id 1 3 = some c → (len + 7) / 8 ≤ c.desc.inLen →
      CallDesc.par c.desc 0 1 = 0 → exec (.convolutionalEncode id) s = .next (u.endCallWith c .ok
        (packBits (((convolve 0 (((u.callInput c).flatMap byteBits).take len)).length + 7) / 8)
          (convolve 0 (((u.callInput c).flatMap byteBits).take len))))) ∧
    (s.callFor id 1 3 = some c → c.desc.inLen < (len + 7) / 8 →
      exec (.convolutionalEncode id) s = .next (u.endCall c .denied))) ∧
  (∀ (id n m b : Nat) (c : Call) (s u : State), u = s.callTags c → n = CallDesc.par c.desc 0 1 → m = CallDesc.par c.desc 1 1 → b = CallDesc.par c.desc 2 2 →
    (s.callFor id 1 4 = some c → n * b ≤ c.desc.inLen → m * b ≤ c.desc.outLen →
      exec (.reedSolomonDecode id) s = .next (u.endCallWith c (if (Config.rsDecode n m b (u.callInput c)).2 then .ok else .checkFail)
        ((Config.rsDecode n m b (u.callInput c)).1.take (m * b)))) ∧
    (s.callFor id 1 5 = some c → m * b ≤ c.desc.inLen → n * b ≤ c.desc.outLen →
      exec (.reedSolomonEncode id) s = .next (u.endCallWith c .ok ((Config.rsEncode n m b (u.callInput c)).take (n * b))))) ∧
  (∀ (id aad n tail len keyLen : Nat) (dec : Bool) (c : Call) (s u : State) (i : Instr) (all : List Byte)
      (g : List Byte → List Byte → List Byte → List Byte → Option (List Byte)),
    (i = .gcmEncrypt id ∧ c.desc.op = 0 ∧ dec = false ∧ keyLen = 40 ∧ aad = CallDesc.par c.desc 24 2 ∧ n = 16 ∧
        (g = fun key a text _ => some (Config.gcmSeal key (callNonce c 12) a text 16)) ∨
     i = .gcmDecrypt id ∧ c.desc.op = 1 ∧ dec = true ∧ keyLen = 40 ∧ aad = CallDesc.par c.desc 24 2 ∧ n = 16 ∧
        (g = fun key a text tag => Config.gcmOpen key (callNonce c 12) a (text ++ tag) 16) ∨
     i = .ccmEncrypt id ∧ c.desc.op = 2 ∧ dec = false ∧ keyLen = 24 ∧ aad = CallDesc.par c.desc 25 2 ∧ n = CallDesc.par c.desc 27 1 ∧
        (g = fun key a text _ => some (Config.ccmSeal key (callNonce c 13) a text n)) ∨
     i = .ccmDecrypt id ∧ c.desc.op = 3 ∧ dec = true ∧ keyLen = 24 ∧ aad = CallDesc.par c.desc 25 2 ∧ n = CallDesc.par c.desc 27 1 ∧
        (g = fun key a text tag => Config.ccmOpen key (callNonce c 13) a (text ++ tag) n)) →
    s.callFor id 2 c.desc.op = some c → u = s.callTags c → c.discard = false →
    all = u.callInput c → tail = (if dec then n else 0) → len = all.length - aad - tail →
    (all.length < aad + tail → exec i s = .next (u.endCall c .denied)) ∧
    (aad + tail ≤ all.length →
      (u.callKey c keyLen = none → exec i s = .next (u.endCall c .denied)) ∧
      (∀ k, u.callKey c keyLen = some k → u.missWaits c.inst k = true → exec i s = .next u) ∧
      (u.callKey c keyLen = some none → u.missWaits c.inst none = false →
        exec i s = .next (u.endCallWith c .authFail (List.replicate (if dec then len else len + n) 0))) ∧
      (∀ key, u.callKey c keyLen = some (some key) → u.missWaits c.inst (some key) = false → exec i s = .next
        (match g key (all.take aad) ((all.drop aad).take len) ((all.drop aad).drop len) with
         | some out => (u.cacheKey c.inst key).endCallWith c .ok (out.take (if dec then len else len + n) ++
             (List.replicate (if dec then len else len + n) (0 : Byte)).drop out.length)
         | none => (u.cacheKey c.inst key).endCallWith c .authFail (List.replicate (if dec then len else len + n) 0))))) ∧
  (∀ (id : Nat) (s : State), s.prog.calls.find? (fun c => c.id == id) = none →
    exec (.xfFft id) s = .next s ∧ exec (.ldpcDecode id) s = .next s ∧ exec (.viterbiDecode id) s = .next s ∧
    exec (.reedSolomonEncode id) s = .next s ∧ exec (.gcmDecrypt id) s = .next s ∧ exec (.ccmEncrypt id) s = .next s) ∧
  (∀ (c : Call) (st : Status) (out : List Byte) (s : State),
    (c.discard = true → s.endCallWith c st out = s.endCall c st) ∧
    (c.discard = false → c.desc.outLen < out.length → s.endCallWith c st out = s.endCall c .denied) ∧
    (c.discard = false → out.length ≤ c.desc.outLen →
      s.endCallWith c st out = (s.setBytes (s.objOf c.place c.desc.outH) c.desc.outOfs out).endCall c st) ∧
    (∀ x ∈ (s.endCall c st).prog.calls, x.id ≠ c.id))

/-- Idnas UGET, UPUT, TNOW, TWAITT, ZCRD and WSLOT, and what ends their waits (R33, R36, R38, R354, R370, R371, R372,
R373). Where the context may issue, UGET reads and UPUT writes the register at its offset as its pack, and gives the
value or the status; an offset that is odd or too large is a fault of cause 4; with no tag free the context waits.
TNOW gives short time. TWAITT waits until its time, or goes on when it has come. ZCRD gives a group's phase, cycle,
LOCK and HOLD. WSLOT waits for a slot boundary: it gives bit 63 for a group that has never locked, bit 62 where the
boundary has passed, a fault of cause 1 for a slot of 12 or more. The wait ends when the time or boundary has come,
bit 61 marking one stepped over. COMPLETES (exec answers a next state under hypotheses on state and operands alone):
iUget, iUput, iTnow, iZcrd, iTwaitt, twaittExpire, iWslot, wslotReturn. -/
def Obligations.UnitRegistersTimeAndCycleSlots : Prop :=
  (∀ (k t a : Nat) (f : FmtI) (x : Task) (s : State), s.Issues k 1 [.s f.a.toNat, .s f.d.toNat] t x →
    a = (s.sr k f.a.toNat + f.imm.signExtend 64).toNat →
    (a % 4 ≠ 0 ∨ 0x4000000 ≤ a → exec (.iUget k f) s = .next ((s.past k 1).taskFault k t x 4)) ∧
    (a % 4 = 0 → a < 0x4000000 →
      (s.hasTag (k / 4) = false → exec (.iUget k f) s = .next ((s.past k 1).waitTag k 1)) ∧
      (s.hasTag (k / 4) = true → ∀ u, u = (s.past k 1).touchTag (k / 4) → exec (.iUget k f) s = .next
        (match regAt a with
         | none => u.setSr k f.d.toNat (if windowAt a then BitVec.ofNat 64 (Status.code .denied * 2 ^ 32) else 0)
         | some (r, i) => if u.readable (.pack x.slot) r i
           then (u.readReg (.pack x.slot) r i).1.setSr k f.d.toNat ((u.readReg (.pack x.slot) r i).2.setWidth 64)
           else u.setSr k f.d.toNat (BitVec.ofNat 64 (Status.code .denied * 2 ^ 32)))))) ∧
  (∀ (k t a : Nat) (f : FmtR) (env : WriteEnv) (x : Task) (s : State), s.Issues k 1 [.s f.a.toNat, .s f.b.toNat, .s f.d.toNat] t x →
    f.pg = 0 → f.ty = 0 → a = (s.sr k f.a.toNat).toNat →
    (a % 4 ≠ 0 ∨ 0x4000000 ≤ a → exec (.iUput k f env) s = .next ((s.past k 1).taskFault k t x 4)) ∧
    (a % 4 = 0 → a < 0x4000000 → s.hasTag (k / 4) = true → ∀ u, u = (s.past k 1).touchTag (k / 4) → exec (.iUput k f env) s =
      .next (registerWrite (.pack x.slot) a ((s.sr k f.b.toNat).setWidth 32) env (u.setSr k f.d.toNat (BitVec.ofNat 64 (Status.code
        (match regAt a with
         | none => if windowAt a then .denied else .ok
         | some (r, i) => if u.gate (.pack x.slot) r i = .pass then .ok else .denied))))))) ∧
  (∀ (k t : Nat) (f : FmtR) (x : Task) (s : State), s.Issues k 1 [.s f.d.toNat] t x → f.a = 0 → f.b = 0 → f.pg = 0 → f.ty = 0 →
    exec (.iTnow k f) s = .next ((s.past k 1).setSr k f.d.toNat (BitVec.ofNat 64 (s.now.s * 2 ^ 32 + s.now.ns)))) ∧
  (∀ (k t : Nat) (f : FmtR) (x : Task) (g : Stamp) (s : State), s.Issues k 1 [.s f.a.toNat] t x → f.d = 0 → f.b = 0 → f.pg = 0 → f.ty = 0 →
    g = ⟨(s.sr k f.a.toNat).toNat / 2 ^ 32, (s.sr k f.a.toNat).toNat % 2 ^ 32⟩ →
    (g.le s.now = true → exec (.iTwaitt k f) s = .next (s.past k 1)) ∧
    (g.le s.now = false → exec (.iTwaitt k f) s = .next ((s.past k 1).setCtx k { (s.past k 1).ctx k with wait := .time g }))) ∧
  (∀ (k : Nat) (g : Stamp) (s : State), (s.ctx k).wait = .time g →
    (g.le s.now = true → exec (.twaittExpire k) s = .next (s.setCtx k { s.ctx k with wait := .running })) ∧
    (g.le s.now = false → exec (.twaittExpire k) s = .next s)) ∧
  (∀ (k t g : Nat) (f : FmtR) (x : Task) (s : State), s.Issues k 1 [.s f.a.toNat, .s f.d.toNat] t x → f.b = 0 → f.pg = 0 → f.ty = 0 →
    g = (s.sr k f.a.toNat).toNat % 8 → exec (.iZcrd k f) s = .next ((s.past k 1).drew.setSr k f.d.toNat (BitVec.ofNat 64
      (s.phaseNow g + (s.tracker g).cyc % 2 ^ 40 * 2 ^ 16 + bit (s.zcLock g) * 2 ^ 62 + bit (s.zcHold g) * 2 ^ 63)))) ∧
  (∀ (k t g goal : Nat) (f : FmtR) (x : Task) (s : State), s.Issues k 1 [.s f.a.toNat, .s f.b.toNat, .s f.d.toNat] t x → f.pg = 0 → f.ty = 0 →
    g = (s.sr k f.b.toNat).toNat % 8 → goal = (s.sr k f.a.toNat).toNat % 2 ^ 44 →
    (12 ≤ goal % 16 → exec (.iWslot k f) s = .next ((s.past k 1).taskFault k t x 1)) ∧
    (goal % 16 < 12 → (s.tracker g).everLocked = false → exec (.iWslot k f) s =
      .next ((s.past k 1).setSr k f.d.toNat (BitVec.ofNat 64 (s.cycleSlot g % 2 ^ 44 + 2 ^ 63)))) ∧
    (goal % 16 < 12 → (s.tracker g).everLocked = true → goal ≤ s.cycleSlot g → exec (.iWslot k f) s =
      .next ((s.past k 1).setSr k f.d.toNat (BitVec.ofNat 64 (s.cycleSlot g % 2 ^ 44 + 2 ^ 62)))) ∧
    (goal % 16 < 12 → (s.tracker g).everLocked = true → s.cycleSlot g < goal → exec (.iWslot k f) s =
      .next ((s.past k 1).setCtx k { (s.past k 1).ctx k with wait := .slot f.d.toNat g (goal / 16) (goal % 16) }))) ∧
  (∀ (k d g cyc slot : Nat) (s : State), (s.ctx k).wait = .slot d g cyc slot →
    (s.cycleSlot g < cyc * 16 + slot → exec (.wslotReturn k) s = .next s) ∧
    (s.cycleSlot g = cyc * 16 + slot → exec (.wslotReturn k) s = .next ((s.setCtx k { s.ctx k with wait := .running }).setSr k d
      (BitVec.ofNat 64 (s.cycleSlot g % 2 ^ 44)))) ∧
    (cyc * 16 + slot < s.cycleSlot g → exec (.wslotReturn k) s = .next ((s.setCtx k { s.ctx k with wait := .running }).setSr k d
      (BitVec.ofNat 64 (s.cycleSlot g % 2 ^ 44 + 2 ^ 61)))))

/-- A step is the command at the front of the queue with the queue's rest; on an empty queue time passes (log entries 5,
155) (R37). Where command c is at the front of the queue, a step is exec of c on the state with the rest of the queue,
so what holds of exec holds of the step. On an empty queue, as the model chose (log entry 5), Compass counts on by a
free stretch of time where it runs, nothing changes where it does not, and no part but Compass and the counter of free
values changes. That commands come from one queue is the model's choice too (log entry 155). -/
def Obligations.StepRunsTheFrontCommand : Prop :=
  (∀ (c : Instr) (rest : List Instr) (s : State), s.pending = c :: rest → step s = exec c { s with pending := rest }) ∧
  (∀ s : State, s.pending = [] → step s = .next (idle s)) ∧
  (∀ s : State, s.OnlyIn [.cmp, .free] (idle s)) ∧
  (∀ s : State, s.cmp.running = true → (idle s).free = s.free + 1) ∧
  (∀ s : State, s.cmp.running = false → idle s = s)

/-- After reset every register reads its reset value, nothing waits, memory lists nothing and the module is in REST (log
entry 20) (R29, R30, R42). State.reset has no command waiting, memory with nothing listed, every instance of every
register at the reset value of its chapter, no transaction in flight, no tag, credit or pseudo-channel slot taken, its
tables in canonical form, and it is in mode REST. That the module starts in REST with an empty journal is the model's
reading (log entry 20). -/
def Obligations.ResetState : Prop :=
  State.reset.pending = [] ∧ State.reset.mem = [] ∧ (∀ (r : Reg) (i : Nat), State.reset.reg r i = r.reset i) ∧
  State.reset.Canonical ∧ State.reset.QueueWf ∧ State.reset.pwr.mode = .rest ∧ State.reset.fab.flight = [] ∧
  (∀ i, State.reset.tagsHeld i = 0) ∧ (∀ p, State.reset.pcBusy p = 0) ∧ (∀ l, State.reset.creditsUsed l = 0)

/-- Every step answers, takes one command off the queue's front, and n steps serve n waiting commands in order (R37). From
every state a step answers a next state, never a fault or a refusal. Its queue is the old one without its front
command, so no command adds, drops or reorders a waiting one, and a queue of well-formed commands stays one. From any
state there is a run of as many steps as commands wait, each the effect of the next command in order, that ends with
an empty queue. The queue itself is the model's (log entry 155). -/
def Obligations.WaitingCommandsAreServedInTurn : Prop :=
  (∀ s : State, Goes s) ∧
  (∀ s t : State, step s = .next t → t.pending = s.pending.tail ∧ (s.QueueWf → t.QueueWf)) ∧
  (∀ s : State, ∃ run : Nat → State, run 0 = s ∧ (run s.pending.length).pending = [] ∧
    ∀ n c, s.pending[n]? = some c → (run n).pending = s.pending.drop n ∧ step (run n) = .next (run (n + 1)) ∧
      exec c { run n with pending := s.pending.drop (n + 1) } = .next (run (n + 1)))

/-- Every step keeps memory and the register file in canonical form (R353, R6). Where the keys of memory and of the
register file rise strictly and no entry equals what an unlisted key reads as, the same holds after any step,
whichever command is at the front. So two states that read alike are the same data. The form is the model's own. -/
def Obligations.MemoryAndRegistersStayCanonical : Prop :=
  ∀ s t : State, s.Canonical → step s = .next t → t.Canonical

/-- No step takes back a lifecycle fuse, a rollback counter or a revocation mark (R453, R454, R455, R458). Whichever
command is at the front of the queue, after a step the lifecycle fuse has not gone back, no rollback counter of any
class is lower, and every revocation mark that was set is still set. A power loss, a reset of the host interface, a
zeroisation and an anchor move are among the commands meant. -/
def Obligations.FusesNeverGoBack : Prop :=
  ∀ s t : State, step s = .next t → s.sec.fuse ≤ t.sec.fuse ∧
    (∀ c, Tab.get (fun _ => 0) s.sec.rb c ≤ Tab.get (fun _ => 0) t.sec.rb c) ∧
    (∀ n, Tab.get (fun _ => false) s.sec.revoked n = true → Tab.get (fun _ => false) t.sec.revoked n = true)

/-- A pseudo-channel takes at most 32 transactions; others wait with their tags and are admitted oldest first (R29). Every
step keeps every pseudo-channel at 32 transactions or fewer. A transaction joins the end of those in flight with its
tag drawn. One that is still on its way to its memory stop takes no slot; one that reaches it is admitted, and takes a
slot, exactly where the pseudo-channel has one, its stack takes transactions and nobody waits there; else it waits
with its tag. While not admitted it does not end: no response changes anything. PSEUDO_CHANNEL_ADMIT at an open slot
admits exactly the first of those that have arrived and wait for that pseudo-channel, taking the slot and leaving
every other transaction and every tag alone; with none free, or none waiting, it changes nothing. COMPLETES (exec
answers a next state under hypotheses on state and operands alone): pseudoChannelAdmit, transactionResponse. -/
def Obligations.PseudoChannelsTakeThirtyTwoOldestFirst : Prop :=
  (∀ s t : State, (∀ p, s.pcBusy p ≤ 32) → step s = .next t → ∀ p, t.pcBusy p ≤ 32) ∧
  (∀ (init p a reqN respN : Nat) (kind : TxnKind) (s t : State), t = s.startTxn init (some p) a reqN respN kind →
    ∃ x : Txn, t.fab.flight = s.fab.flight ++ [x] ∧ x.id = s.fab.nextId ∧ x.init = init ∧ x.pc = some p ∧
      t.tagsHeld init = s.tagsHeld init + 1 ∧
      (x.left ≠ [] → x.admitted = false ∧ t.pcBusy p = s.pcBusy p) ∧
      (x.left = [] → (x.admitted = true ↔ s.pcBusy p < 32 ∧ s.stackOpen (p / 32) = true ∧ s.oldestWaiting p = none) ∧
        t.pcBusy p = s.pcBusy p + if x.admitted = true then 1 else 0)) ∧
  (∀ (id : Nat) (err : Bool) (s : State), (∀ x ∈ s.fab.flight, x.id = id → x.admitted = false) →
    exec (.transactionResponse id err) s = .next s) ∧
  (∀ (p : Nat) (l1 l2 : List Txn) (x : Txn) (s : State), s.fab.flight = l1 ++ x :: l2 → x.pc = some p → x.left = [] → x.admitted = false →
    (∀ y ∈ l1, ¬(y.pc = some p ∧ y.left = [] ∧ y.admitted = false)) → (∀ y ∈ l1 ++ l2, y.id ≠ x.id) → s.pcBusy p < 32 →
    s.stackOpen (p / 32) = true → exec (.pseudoChannelAdmit p) s = .next { s with fab := { s.fab with
      flight := l1 ++ { x with admitted := true } :: l2
      pcBusy := Tab.set (fun _ => 0) s.fab.pcBusy p (s.pcBusy p + 1) } }) ∧
  (∀ (p : Nat) (s : State), 32 ≤ s.pcBusy p ∨ (∀ y ∈ s.fab.flight, ¬(y.pc = some p ∧ y.left = [] ∧ y.admitted = false)) →
    exec (.pseudoChannelAdmit p) s = .next s)

/-- A link channel has eight credits; transfers go out only with one, and a returned credit goes to the oldest request
that waits (R30). Every step keeps every link channel at 8 credits in use or fewer, in use meaning the buffer is
occupied or the credit is on its way back. Transfers sent take one credit each, and no more than the sender holds; a
request that finds none does not move. A buffer freed puts its credit on the way back. A request that has not arrived,
or whose response finds too few credits on a channel it crosses, does not end. CREDIT_RETURN with no credit on its way
changes nothing; where no request waits for the channel it gives the credit back to the sender and does nothing else;
where requests wait and the sender held none, the first of them in order sends one transfer with it, the others stay,
and the credit is in use again. COMPLETES (exec answers a next state under hypotheses on state and operands alone):
creditReturn, transactionResponse. -/
def Obligations.EightCreditsForEachChannel : Prop :=
  (∀ s t : State, (∀ l, s.creditsUsed l ≤ 8) → step s = .next t → ∀ l, t.creditsUsed l ≤ 8) ∧
  (∀ (l n q : Nat) (s : State), s.creditsHeld l = 8 - s.creditsUsed l ∧
    (s.sendOn l n).creditsUsed q = s.creditsUsed q + (if q = l then min n (s.creditsHeld l) else 0) ∧
    (s.freeBufs l n).creditsUsed q = s.creditsUsed q ∧ (s.freeBufs l n).occupied l = s.occupied l - min n (s.occupied l)) ∧
  (∀ (x : Txn) (l : Nat) (r : List Nat) (s : State), s.creditsHeld l = 0 → x.moved < x.reqN →
    (s.push x (l :: r)).2 = { x with left := l :: r } ∧ ∀ q, (s.push x (l :: r)).1.creditsUsed q = s.creditsUsed q) ∧
  (∀ (id : Nat) (err : Bool) (s : State), (∀ x ∈ s.fab.flight, x.id = id → x.left ≠ [] ∨ ∃ l ∈ x.resp, s.creditsHeld l < x.respN) →
    exec (.transactionResponse id err) s = .next s) ∧
  (∀ (l : Nat) (s : State), s.returning l = 0 → exec (.creditReturn l) s = .next s) ∧
  (∀ (l : Nat) (s : State), 0 < s.returning l → (∀ y ∈ s.fab.flight, y.left.head? ≠ some l) →
    exec (.creditReturn l) s = .next { s with fab := { s.fab with
      returning := Tab.set (fun _ => 0) s.fab.returning l (s.returning l - 1) } }) ∧
  (∀ (l : Nat) (r : List Nat) (l1 l2 : List Txn) (x : Txn) (s : State), 0 < s.returning l → s.creditsUsed l = 8 →
    s.fab.flight = l1 ++ x :: l2 → (s.fab.flight.map Txn.id).Nodup → x.left = l :: r → x.moved + 1 < x.reqN →
    (∀ y ∈ l1, y.left.head? ≠ some l) → (∀ y ∈ l2, y.left.head? = some l → y.moved < y.reqN) →
    Gives (.creditReturn l) s fun t => t.fab.flight = l1 ++ { x with moved := x.moved + 1 } :: l2 ∧ t.creditsUsed l = 8)

/-- A write to reserved BAR0 space changes nothing, and a read from it returns 0 (R33). At a BAR0 offset where no register
and no window lies, REGISTER_WRITE by the host or a pack changes nothing at all. A UGET there by a context that may
issue, with a tag free, sets its register to 0 and touches nothing else but its program counter and the tag's
low-water mark, and a UPUT there sets its status to OK and writes no register. COMPLETES (exec answers a next state
under hypotheses on state and operands alone): iUget, iUput, registerWrite. -/
def Obligations.ReservedSpaceReadsZeroAndDiscardsWrites : Prop :=
  (∀ (who : Who) (a : Nat) (v : Word) (env : WriteEnv) (s : State), regAt a = none → windowAt a = false →
    exec (.registerWrite who a v env) s = .next s) ∧
  (∀ (k t a : Nat) (f : FmtI) (x : Task) (s : State), s.Issues k 1 [.s f.a.toNat, .s f.d.toNat] t x →
    a = (s.sr k f.a.toNat + f.imm.signExtend 64).toNat → a % 4 = 0 → a < 0x4000000 → regAt a = none → windowAt a = false →
    s.hasTag (k / 4) = true → exec (.iUget k f) s = .next (((s.past k 1).touchTag (k / 4)).setSr k f.d.toNat 0)) ∧
  (∀ (k t a : Nat) (f : FmtR) (env : WriteEnv) (x : Task) (s : State), s.Issues k 1 [.s f.a.toNat, .s f.b.toNat, .s f.d.toNat] t x →
    f.pg = 0 → f.ty = 0 → a = (s.sr k f.a.toNat).toNat → a % 4 = 0 → a < 0x4000000 → regAt a = none → windowAt a = false →
    s.hasTag (k / 4) = true → exec (.iUput k f env) s =
      .next (((s.past k 1).touchTag (k / 4)).setSr k f.d.toNat (BitVec.ofNat 64 (Status.code .ok))))

/-- A register, a field and a run of bytes read back as written, and everything else reads as before (R6, R353). Writing
an instance of a register makes it read that word and leaves every other register and part alone. Writing a field of
bits that lie in the word makes it read the value cut to its width, and changes no other bit of any register. Writing
a run of bytes at an offset of an object makes it read those bytes, leaves every other byte of every object as it was,
and the little-endian bytes of a number stand for that number cut to their count. -/
def Obligations.FieldsAndBytesAreWrittenAlone : Prop :=
  (∀ (r : Reg) (i : Nat) (w : Word) (s : State), (s.setReg r i w).reg r i = w ∧ s.RegsOnly [(r, i)] (s.setReg r i w) ∧
    s.OnlyIn [.regs] (s.setReg r i w)) ∧
  (∀ (f : Fld) (i v : Nat) (s : State), f.lo + f.width ≤ 32 → (s.setFld f i v).fld f i = v % 2 ^ f.width ∧
    s.FieldOnly f i (s.setFld f i v) ∧ s.OnlyIn [.regs] (s.setFld f i v)) ∧
  (∀ (o a : Nat) (l : List Byte) (s : State), a + l.length ≤ 2 ^ 40 → (s.setBytes o a l).bytes o a l.length = l ∧
    (∀ o' a', a' < 2 ^ 40 → ¬(o' = o ∧ a ≤ a' ∧ a' < a + l.length) → (s.setBytes o a l).byte o' a' = s.byte o' a') ∧
    s.OnlyIn [.mem] (s.setBytes o a l)) ∧
  (∀ n v : Nat, leNat (natLe n v) = v % 256 ^ n ∧ (natLe n v).length = n)

/-- Every command of the table completes: on every state exec answers a next state, the waiting commands and the canonical
form kept (R37). For every constructor of Instr, with every operand, and every state, exec answers a next state: no
command faults or is refused, whatever the state. The next state holds the same waiting commands, and its memory and
registers keep their canonical form. A command the spec turns away in some state (a register write that is refused, a
timer that has not run out) completes there too, with the effect the spec gives the refusal, or none. What each
command does where it has its own effect is said by the statements of its family, which name it after COMPLETES. -/
def Obligations.EveryCommandCompletes : Prop :=
  ∀ (c : Instr) (s : State), ∃ t, exec c s = .next t ∧ t.pending = s.pending ∧ (s.Canonical → t.Canonical)
end

