-- ==== Sys2Proof/Laws/Tab.lean ====
section
/-! SUPPORT. The laws of tables: what a read gives after a write, and that every operation keeps the canonical form. -/

namespace Sys2Proof

theorem Tab.get_del {α : Type} (d : Nat → α) (t : Tab α) (k j : Nat) :
    Tab.get d (Tab.del t k) j = if j = k then d j else Tab.get d t j := by
  induction t with
  | nil => simp [Tab.get, Tab.del]
  | cons p t ih =>
    obtain ⟨i, v⟩ := p
    by_cases hik : i = k <;> by_cases hij : i = j <;> by_cases hjk : j = k <;>
      simp_all [Tab.get, Tab.del]

theorem Tab.get_ins {α : Type} (d : Nat → α) (t : Tab α) (k j : Nat) (v : α) (h : ∀ p ∈ t, p.1 ≠ k) :
    Tab.get d (Tab.ins t k v) j = if j = k then v else Tab.get d t j := by
  induction t with
  | nil => by_cases hjk : j = k <;> simp_all [Tab.get, Tab.ins, eq_comm]
  | cons p t ih =>
    obtain ⟨i, w⟩ := p
    have hi : i ≠ k := h (i, w) (by simp)
    have ht : ∀ p ∈ t, p.1 ≠ k := fun p hp => h p (by simp [hp])
    by_cases hlt : k < i
    · simp only [Tab.ins, hlt, if_true, Tab.get]
      by_cases hjk : j = k
      · simp [hjk]
      · simp [hjk, Ne.symm hjk]
    · simp only [Tab.ins, hlt, if_false, Tab.get, ih ht]
      by_cases hij : i = j
      · have hjk : j ≠ k := hij ▸ hi
        simp [hij, hjk]
      · simp [hij]

theorem Tab.mem_del {α : Type} (t : Tab α) (k : Nat) (p : Nat × α) : p ∈ Tab.del t k ↔ p ∈ t ∧ p.1 ≠ k := by
  induction t with
  | nil => simp [Tab.del]
  | cons q t ih =>
    obtain ⟨i, w⟩ := q
    by_cases hik : i = k
    · simp only [Tab.del, hik, if_true, ih, List.mem_cons]
      constructor
      · rintro ⟨h, hk⟩; exact ⟨.inr h, hk⟩
      · rintro ⟨rfl | h, hk⟩
        · exact absurd rfl hk
        · exact ⟨h, hk⟩
    · simp only [Tab.del, hik, if_false, List.mem_cons, ih]
      constructor
      · rintro (rfl | ⟨h, hk⟩)
        · exact ⟨.inl rfl, hik⟩
        · exact ⟨.inr h, hk⟩
      · rintro ⟨rfl | h, hk⟩
        · exact .inl rfl
        · exact .inr ⟨h, hk⟩

theorem Tab.mem_ins {α : Type} (t : Tab α) (k : Nat) (v : α) (p : Nat × α) : p ∈ Tab.ins t k v ↔ p = (k, v) ∨ p ∈ t := by
  induction t with
  | nil => simp [Tab.ins]
  | cons q t ih =>
    obtain ⟨i, w⟩ := q
    by_cases hlt : k < i
    · simp [Tab.ins, hlt]
    · simp only [Tab.ins, hlt, if_false, List.mem_cons, ih]
      constructor
      · rintro (h | h | h) <;> simp [h]
      · rintro (h | h | h) <;> simp [h]

/-- Reading a key after a write: the value written at that key, the old value at every other. -/
theorem Tab.get_set {α : Type} [DecidableEq α] (d : Nat → α) (t : Tab α) (k j : Nat) (v : α) :
    Tab.get d (Tab.set d t k v) j = if j = k then v else Tab.get d t j := by
  unfold Tab.set
  by_cases hv : v = d k
  · rw [if_pos hv, Tab.get_del]
    by_cases hjk : j = k
    · simp [hjk, hv]
    · simp [hjk]
  · rw [if_neg hv, Tab.get_ins _ _ _ _ _ (fun p hp => ((Tab.mem_del t k p).1 hp).2), Tab.get_del]
    by_cases hjk : j = k <;> simp [hjk]

theorem Tab.get_set_same {α : Type} [DecidableEq α] (d : Nat → α) (t : Tab α) (k : Nat) (v : α) :
    Tab.get d (Tab.set d t k v) k = v := by simp [Tab.get_set]

theorem Tab.get_set_ne {α : Type} [DecidableEq α] (d : Nat → α) (t : Tab α) {k j : Nat} (v : α) (h : j ≠ k) :
    Tab.get d (Tab.set d t k v) j = Tab.get d t j := by simp [Tab.get_set, h]

theorem Tab.pairwise_del {α : Type} (t : Tab α) (k : Nat) (h : t.Pairwise (fun a b => a.1 < b.1)) :
    (Tab.del t k).Pairwise (fun a b => a.1 < b.1) := by
  induction t with
  | nil => simp [Tab.del]
  | cons q t ih =>
    obtain ⟨i, w⟩ := q
    rw [List.pairwise_cons] at h
    by_cases hik : i = k
    · simpa [Tab.del, hik] using ih h.2
    · simp only [Tab.del, hik, if_false, List.pairwise_cons]
      exact ⟨fun p hp => h.1 p ((Tab.mem_del t k p).1 hp).1, ih h.2⟩

theorem Tab.pairwise_ins {α : Type} (t : Tab α) (k : Nat) (v : α) (h : t.Pairwise (fun a b => a.1 < b.1))
    (hk : ∀ p ∈ t, p.1 ≠ k) : (Tab.ins t k v).Pairwise (fun a b => a.1 < b.1) := by
  induction t with
  | nil => simp [Tab.ins]
  | cons q t ih =>
    obtain ⟨i, w⟩ := q
    have hi : i ≠ k := hk (i, w) (by simp)
    rw [List.pairwise_cons] at h
    by_cases hlt : k < i
    · simp only [Tab.ins, hlt, if_true, List.pairwise_cons, List.mem_cons]
      refine ⟨?_, h.1, h.2⟩
      rintro p (rfl | hp)
      · exact hlt
      · exact Nat.lt_trans hlt (h.1 p hp)
    · simp only [Tab.ins, hlt, if_false, List.pairwise_cons]
      refine ⟨?_, ih h.2 fun p hp => hk p (by simp [hp])⟩
      intro p hp
      rcases (Tab.mem_ins t k v p).1 hp with rfl | hp
      · show i < k; omega
      · exact h.1 p hp

/-- A write keeps the canonical form. -/
theorem Tab.wf_set {α : Type} [DecidableEq α] (d : Nat → α) (t : Tab α) (k : Nat) (v : α) (h : Tab.wf d t) :
    Tab.wf d (Tab.set d t k v) := by
  unfold Tab.set
  by_cases hv : v = d k
  · rw [if_pos hv]
    exact ⟨Tab.pairwise_del t k h.1, fun p hp => h.2 p ((Tab.mem_del t k p).1 hp).1⟩
  · rw [if_neg hv]
    refine ⟨Tab.pairwise_ins _ k v (Tab.pairwise_del t k h.1) fun p hp => ((Tab.mem_del t k p).1 hp).2, ?_⟩
    intro p hp
    rcases (Tab.mem_ins _ k v p).1 hp with rfl | hp
    · exact hv
    · exact h.2 p ((Tab.mem_del t k p).1 hp).1

theorem Tab.wf_nil {α : Type} (d : Nat → α) : Tab.wf d ([] : Tab α) := by simp [Tab.wf]

end Sys2Proof
end

