-- ==== Sys2Proof/Laws/State.lean ====
section
/-! SUPPORT. One lemma for each field and each plain update of the state: what the update leaves as it was. -/

namespace Sys2Proof.Machine

open Sys2Proof

/-! ## State.setReg -/

@[simp] theorem State.setReg_pins (s : State) (r : Reg) (i : Nat) (w : Word) : (s.setReg r i w).pins = s.pins := (rfl)
@[simp] theorem State.setReg_pwr (s : State) (r : Reg) (i : Nat) (w : Word) : (s.setReg r i w).pwr = s.pwr := (rfl)
@[simp] theorem State.setReg_units (s : State) (r : Reg) (i : Nat) (w : Word) : (s.setReg r i w).units = s.units := (rfl)
@[simp] theorem State.setReg_fab (s : State) (r : Reg) (i : Nat) (w : Word) : (s.setReg r i w).fab = s.fab := (rfl)
@[simp] theorem State.setReg_mem (s : State) (r : Reg) (i : Nat) (w : Word) : (s.setReg r i w).mem = s.mem := (rfl)
@[simp] theorem State.setReg_hst (s : State) (r : Reg) (i : Nat) (w : Word) : (s.setReg r i w).hst = s.hst := (rfl)
@[simp] theorem State.setReg_eth (s : State) (r : Reg) (i : Nat) (w : Word) : (s.setReg r i w).eth = s.eth := (rfl)
@[simp] theorem State.setReg_cmp (s : State) (r : Reg) (i : Nat) (w : Word) : (s.setReg r i w).cmp = s.cmp := (rfl)
@[simp] theorem State.setReg_rel (s : State) (r : Reg) (i : Nat) (w : Word) : (s.setReg r i w).rel = s.rel := (rfl)
@[simp] theorem State.setReg_bed (s : State) (r : Reg) (i : Nat) (w : Word) : (s.setReg r i w).bed = s.bed := (rfl)
@[simp] theorem State.setReg_prog (s : State) (r : Reg) (i : Nat) (w : Word) : (s.setReg r i w).prog = s.prog := (rfl)
@[simp] theorem State.setReg_plc (s : State) (r : Reg) (i : Nat) (w : Word) : (s.setReg r i w).plc = s.plc := (rfl)
@[simp] theorem State.setReg_chk (s : State) (r : Reg) (i : Nat) (w : Word) : (s.setReg r i w).chk = s.chk := (rfl)
@[simp] theorem State.setReg_lin (s : State) (r : Reg) (i : Nat) (w : Word) : (s.setReg r i w).lin = s.lin := (rfl)
@[simp] theorem State.setReg_rx (s : State) (r : Reg) (i : Nat) (w : Word) : (s.setReg r i w).rx = s.rx := (rfl)
@[simp] theorem State.setReg_maps (s : State) (r : Reg) (i : Nat) (w : Word) : (s.setReg r i w).maps = s.maps := (rfl)
@[simp] theorem State.setReg_mac (s : State) (r : Reg) (i : Nat) (w : Word) : (s.setReg r i w).mac = s.mac := (rfl)
@[simp] theorem State.setReg_ldg (s : State) (r : Reg) (i : Nat) (w : Word) : (s.setReg r i w).ldg = s.ldg := (rfl)
@[simp] theorem State.setReg_gl (s : State) (r : Reg) (i : Nat) (w : Word) : (s.setReg r i w).gl = s.gl := (rfl)
@[simp] theorem State.setReg_fm (s : State) (r : Reg) (i : Nat) (w : Word) : (s.setReg r i w).fm = s.fm := (rfl)
@[simp] theorem State.setReg_gs (s : State) (r : Reg) (i : Nat) (w : Word) : (s.setReg r i w).gs = s.gs := (rfl)
@[simp] theorem State.setReg_cal (s : State) (r : Reg) (i : Nat) (w : Word) : (s.setReg r i w).cal = s.cal := (rfl)
@[simp] theorem State.setReg_sec (s : State) (r : Reg) (i : Nat) (w : Word) : (s.setReg r i w).sec = s.sec := (rfl)
@[simp] theorem State.setReg_tp (s : State) (r : Reg) (i : Nat) (w : Word) : (s.setReg r i w).tp = s.tp := (rfl)
@[simp] theorem State.setReg_free (s : State) (r : Reg) (i : Nat) (w : Word) : (s.setReg r i w).free = s.free := (rfl)
@[simp] theorem State.setReg_pending (s : State) (r : Reg) (i : Nat) (w : Word) : (s.setReg r i w).pending = s.pending := (rfl)

/-! ## State.setFld -/

@[simp] theorem State.setFld_pins (s : State) (f : Fld) (i v : Nat) : (s.setFld f i v).pins = s.pins := (rfl)
@[simp] theorem State.setFld_pwr (s : State) (f : Fld) (i v : Nat) : (s.setFld f i v).pwr = s.pwr := (rfl)
@[simp] theorem State.setFld_units (s : State) (f : Fld) (i v : Nat) : (s.setFld f i v).units = s.units := (rfl)
@[simp] theorem State.setFld_fab (s : State) (f : Fld) (i v : Nat) : (s.setFld f i v).fab = s.fab := (rfl)
@[simp] theorem State.setFld_mem (s : State) (f : Fld) (i v : Nat) : (s.setFld f i v).mem = s.mem := (rfl)
@[simp] theorem State.setFld_hst (s : State) (f : Fld) (i v : Nat) : (s.setFld f i v).hst = s.hst := (rfl)
@[simp] theorem State.setFld_eth (s : State) (f : Fld) (i v : Nat) : (s.setFld f i v).eth = s.eth := (rfl)
@[simp] theorem State.setFld_cmp (s : State) (f : Fld) (i v : Nat) : (s.setFld f i v).cmp = s.cmp := (rfl)
@[simp] theorem State.setFld_rel (s : State) (f : Fld) (i v : Nat) : (s.setFld f i v).rel = s.rel := (rfl)
@[simp] theorem State.setFld_bed (s : State) (f : Fld) (i v : Nat) : (s.setFld f i v).bed = s.bed := (rfl)
@[simp] theorem State.setFld_prog (s : State) (f : Fld) (i v : Nat) : (s.setFld f i v).prog = s.prog := (rfl)
@[simp] theorem State.setFld_plc (s : State) (f : Fld) (i v : Nat) : (s.setFld f i v).plc = s.plc := (rfl)
@[simp] theorem State.setFld_chk (s : State) (f : Fld) (i v : Nat) : (s.setFld f i v).chk = s.chk := (rfl)
@[simp] theorem State.setFld_lin (s : State) (f : Fld) (i v : Nat) : (s.setFld f i v).lin = s.lin := (rfl)
@[simp] theorem State.setFld_rx (s : State) (f : Fld) (i v : Nat) : (s.setFld f i v).rx = s.rx := (rfl)
@[simp] theorem State.setFld_maps (s : State) (f : Fld) (i v : Nat) : (s.setFld f i v).maps = s.maps := (rfl)
@[simp] theorem State.setFld_mac (s : State) (f : Fld) (i v : Nat) : (s.setFld f i v).mac = s.mac := (rfl)
@[simp] theorem State.setFld_ldg (s : State) (f : Fld) (i v : Nat) : (s.setFld f i v).ldg = s.ldg := (rfl)
@[simp] theorem State.setFld_gl (s : State) (f : Fld) (i v : Nat) : (s.setFld f i v).gl = s.gl := (rfl)
@[simp] theorem State.setFld_fm (s : State) (f : Fld) (i v : Nat) : (s.setFld f i v).fm = s.fm := (rfl)
@[simp] theorem State.setFld_gs (s : State) (f : Fld) (i v : Nat) : (s.setFld f i v).gs = s.gs := (rfl)
@[simp] theorem State.setFld_cal (s : State) (f : Fld) (i v : Nat) : (s.setFld f i v).cal = s.cal := (rfl)
@[simp] theorem State.setFld_sec (s : State) (f : Fld) (i v : Nat) : (s.setFld f i v).sec = s.sec := (rfl)
@[simp] theorem State.setFld_tp (s : State) (f : Fld) (i v : Nat) : (s.setFld f i v).tp = s.tp := (rfl)
@[simp] theorem State.setFld_free (s : State) (f : Fld) (i v : Nat) : (s.setFld f i v).free = s.free := (rfl)
@[simp] theorem State.setFld_pending (s : State) (f : Fld) (i v : Nat) : (s.setFld f i v).pending = s.pending := (rfl)

/-! ## State.bumpFld -/

@[simp] theorem State.bumpFld_pins (s : State) (f : Fld) (i n : Nat) : (s.bumpFld f i n).pins = s.pins := (rfl)
@[simp] theorem State.bumpFld_pwr (s : State) (f : Fld) (i n : Nat) : (s.bumpFld f i n).pwr = s.pwr := (rfl)
@[simp] theorem State.bumpFld_units (s : State) (f : Fld) (i n : Nat) : (s.bumpFld f i n).units = s.units := (rfl)
@[simp] theorem State.bumpFld_fab (s : State) (f : Fld) (i n : Nat) : (s.bumpFld f i n).fab = s.fab := (rfl)
@[simp] theorem State.bumpFld_mem (s : State) (f : Fld) (i n : Nat) : (s.bumpFld f i n).mem = s.mem := (rfl)
@[simp] theorem State.bumpFld_hst (s : State) (f : Fld) (i n : Nat) : (s.bumpFld f i n).hst = s.hst := (rfl)
@[simp] theorem State.bumpFld_eth (s : State) (f : Fld) (i n : Nat) : (s.bumpFld f i n).eth = s.eth := (rfl)
@[simp] theorem State.bumpFld_cmp (s : State) (f : Fld) (i n : Nat) : (s.bumpFld f i n).cmp = s.cmp := (rfl)
@[simp] theorem State.bumpFld_rel (s : State) (f : Fld) (i n : Nat) : (s.bumpFld f i n).rel = s.rel := (rfl)
@[simp] theorem State.bumpFld_bed (s : State) (f : Fld) (i n : Nat) : (s.bumpFld f i n).bed = s.bed := (rfl)
@[simp] theorem State.bumpFld_prog (s : State) (f : Fld) (i n : Nat) : (s.bumpFld f i n).prog = s.prog := (rfl)
@[simp] theorem State.bumpFld_plc (s : State) (f : Fld) (i n : Nat) : (s.bumpFld f i n).plc = s.plc := (rfl)
@[simp] theorem State.bumpFld_chk (s : State) (f : Fld) (i n : Nat) : (s.bumpFld f i n).chk = s.chk := (rfl)
@[simp] theorem State.bumpFld_lin (s : State) (f : Fld) (i n : Nat) : (s.bumpFld f i n).lin = s.lin := (rfl)
@[simp] theorem State.bumpFld_rx (s : State) (f : Fld) (i n : Nat) : (s.bumpFld f i n).rx = s.rx := (rfl)
@[simp] theorem State.bumpFld_maps (s : State) (f : Fld) (i n : Nat) : (s.bumpFld f i n).maps = s.maps := (rfl)
@[simp] theorem State.bumpFld_mac (s : State) (f : Fld) (i n : Nat) : (s.bumpFld f i n).mac = s.mac := (rfl)
@[simp] theorem State.bumpFld_ldg (s : State) (f : Fld) (i n : Nat) : (s.bumpFld f i n).ldg = s.ldg := (rfl)
@[simp] theorem State.bumpFld_gl (s : State) (f : Fld) (i n : Nat) : (s.bumpFld f i n).gl = s.gl := (rfl)
@[simp] theorem State.bumpFld_fm (s : State) (f : Fld) (i n : Nat) : (s.bumpFld f i n).fm = s.fm := (rfl)
@[simp] theorem State.bumpFld_gs (s : State) (f : Fld) (i n : Nat) : (s.bumpFld f i n).gs = s.gs := (rfl)
@[simp] theorem State.bumpFld_cal (s : State) (f : Fld) (i n : Nat) : (s.bumpFld f i n).cal = s.cal := (rfl)
@[simp] theorem State.bumpFld_sec (s : State) (f : Fld) (i n : Nat) : (s.bumpFld f i n).sec = s.sec := (rfl)
@[simp] theorem State.bumpFld_tp (s : State) (f : Fld) (i n : Nat) : (s.bumpFld f i n).tp = s.tp := (rfl)
@[simp] theorem State.bumpFld_free (s : State) (f : Fld) (i n : Nat) : (s.bumpFld f i n).free = s.free := (rfl)
@[simp] theorem State.bumpFld_pending (s : State) (f : Fld) (i n : Nat) : (s.bumpFld f i n).pending = s.pending := (rfl)

/-! ## State.store -/

@[simp] theorem State.store_pins (s : State) (r : Reg) (i : Nat) (w : Word) : (s.store r i w).pins = s.pins := (rfl)
@[simp] theorem State.store_pwr (s : State) (r : Reg) (i : Nat) (w : Word) : (s.store r i w).pwr = s.pwr := (rfl)
@[simp] theorem State.store_units (s : State) (r : Reg) (i : Nat) (w : Word) : (s.store r i w).units = s.units := (rfl)
@[simp] theorem State.store_fab (s : State) (r : Reg) (i : Nat) (w : Word) : (s.store r i w).fab = s.fab := (rfl)
@[simp] theorem State.store_mem (s : State) (r : Reg) (i : Nat) (w : Word) : (s.store r i w).mem = s.mem := (rfl)
@[simp] theorem State.store_hst (s : State) (r : Reg) (i : Nat) (w : Word) : (s.store r i w).hst = s.hst := (rfl)
@[simp] theorem State.store_eth (s : State) (r : Reg) (i : Nat) (w : Word) : (s.store r i w).eth = s.eth := (rfl)
@[simp] theorem State.store_cmp (s : State) (r : Reg) (i : Nat) (w : Word) : (s.store r i w).cmp = s.cmp := (rfl)
@[simp] theorem State.store_rel (s : State) (r : Reg) (i : Nat) (w : Word) : (s.store r i w).rel = s.rel := (rfl)
@[simp] theorem State.store_bed (s : State) (r : Reg) (i : Nat) (w : Word) : (s.store r i w).bed = s.bed := (rfl)
@[simp] theorem State.store_prog (s : State) (r : Reg) (i : Nat) (w : Word) : (s.store r i w).prog = s.prog := (rfl)
@[simp] theorem State.store_plc (s : State) (r : Reg) (i : Nat) (w : Word) : (s.store r i w).plc = s.plc := (rfl)
@[simp] theorem State.store_chk (s : State) (r : Reg) (i : Nat) (w : Word) : (s.store r i w).chk = s.chk := (rfl)
@[simp] theorem State.store_lin (s : State) (r : Reg) (i : Nat) (w : Word) : (s.store r i w).lin = s.lin := (rfl)
@[simp] theorem State.store_rx (s : State) (r : Reg) (i : Nat) (w : Word) : (s.store r i w).rx = s.rx := (rfl)
@[simp] theorem State.store_maps (s : State) (r : Reg) (i : Nat) (w : Word) : (s.store r i w).maps = s.maps := (rfl)
@[simp] theorem State.store_mac (s : State) (r : Reg) (i : Nat) (w : Word) : (s.store r i w).mac = s.mac := (rfl)
@[simp] theorem State.store_ldg (s : State) (r : Reg) (i : Nat) (w : Word) : (s.store r i w).ldg = s.ldg := (rfl)
@[simp] theorem State.store_gl (s : State) (r : Reg) (i : Nat) (w : Word) : (s.store r i w).gl = s.gl := (rfl)
@[simp] theorem State.store_fm (s : State) (r : Reg) (i : Nat) (w : Word) : (s.store r i w).fm = s.fm := (rfl)
@[simp] theorem State.store_gs (s : State) (r : Reg) (i : Nat) (w : Word) : (s.store r i w).gs = s.gs := (rfl)
@[simp] theorem State.store_cal (s : State) (r : Reg) (i : Nat) (w : Word) : (s.store r i w).cal = s.cal := (rfl)
@[simp] theorem State.store_sec (s : State) (r : Reg) (i : Nat) (w : Word) : (s.store r i w).sec = s.sec := (rfl)
@[simp] theorem State.store_tp (s : State) (r : Reg) (i : Nat) (w : Word) : (s.store r i w).tp = s.tp := (rfl)
@[simp] theorem State.store_free (s : State) (r : Reg) (i : Nat) (w : Word) : (s.store r i w).free = s.free := (rfl)
@[simp] theorem State.store_pending (s : State) (r : Reg) (i : Nat) (w : Word) : (s.store r i w).pending = s.pending := (rfl)

/-! ## State.drew -/

@[simp] theorem State.drew_pins (s : State) : (s.drew).pins = s.pins := (rfl)
@[simp] theorem State.drew_pwr (s : State) : (s.drew).pwr = s.pwr := (rfl)
@[simp] theorem State.drew_units (s : State) : (s.drew).units = s.units := (rfl)
@[simp] theorem State.drew_fab (s : State) : (s.drew).fab = s.fab := (rfl)
@[simp] theorem State.drew_regs (s : State) : (s.drew).regs = s.regs := (rfl)
@[simp] theorem State.drew_mem (s : State) : (s.drew).mem = s.mem := (rfl)
@[simp] theorem State.drew_hst (s : State) : (s.drew).hst = s.hst := (rfl)
@[simp] theorem State.drew_eth (s : State) : (s.drew).eth = s.eth := (rfl)
@[simp] theorem State.drew_cmp (s : State) : (s.drew).cmp = s.cmp := (rfl)
@[simp] theorem State.drew_rel (s : State) : (s.drew).rel = s.rel := (rfl)
@[simp] theorem State.drew_bed (s : State) : (s.drew).bed = s.bed := (rfl)
@[simp] theorem State.drew_prog (s : State) : (s.drew).prog = s.prog := (rfl)
@[simp] theorem State.drew_plc (s : State) : (s.drew).plc = s.plc := (rfl)
@[simp] theorem State.drew_chk (s : State) : (s.drew).chk = s.chk := (rfl)
@[simp] theorem State.drew_lin (s : State) : (s.drew).lin = s.lin := (rfl)
@[simp] theorem State.drew_rx (s : State) : (s.drew).rx = s.rx := (rfl)
@[simp] theorem State.drew_maps (s : State) : (s.drew).maps = s.maps := (rfl)
@[simp] theorem State.drew_mac (s : State) : (s.drew).mac = s.mac := (rfl)
@[simp] theorem State.drew_ldg (s : State) : (s.drew).ldg = s.ldg := (rfl)
@[simp] theorem State.drew_gl (s : State) : (s.drew).gl = s.gl := (rfl)
@[simp] theorem State.drew_fm (s : State) : (s.drew).fm = s.fm := (rfl)
@[simp] theorem State.drew_gs (s : State) : (s.drew).gs = s.gs := (rfl)
@[simp] theorem State.drew_cal (s : State) : (s.drew).cal = s.cal := (rfl)
@[simp] theorem State.drew_sec (s : State) : (s.drew).sec = s.sec := (rfl)
@[simp] theorem State.drew_tp (s : State) : (s.drew).tp = s.tp := (rfl)
@[simp] theorem State.drew_pending (s : State) : (s.drew).pending = s.pending := (rfl)

/-! ## State.eventAs -/

@[simp] theorem State.eventAs_pins (s : State) (e : Nat) (st : Status) (p : Nat) (l : List (Nat × Nat)) (fl : Nat) : (s.eventAs e st p l fl).pins = s.pins := (rfl)
@[simp] theorem State.eventAs_pwr (s : State) (e : Nat) (st : Status) (p : Nat) (l : List (Nat × Nat)) (fl : Nat) : (s.eventAs e st p l fl).pwr = s.pwr := (rfl)
@[simp] theorem State.eventAs_units (s : State) (e : Nat) (st : Status) (p : Nat) (l : List (Nat × Nat)) (fl : Nat) : (s.eventAs e st p l fl).units = s.units := (rfl)
@[simp] theorem State.eventAs_fab (s : State) (e : Nat) (st : Status) (p : Nat) (l : List (Nat × Nat)) (fl : Nat) : (s.eventAs e st p l fl).fab = s.fab := (rfl)
@[simp] theorem State.eventAs_regs (s : State) (e : Nat) (st : Status) (p : Nat) (l : List (Nat × Nat)) (fl : Nat) : (s.eventAs e st p l fl).regs = s.regs := (rfl)
@[simp] theorem State.eventAs_mem (s : State) (e : Nat) (st : Status) (p : Nat) (l : List (Nat × Nat)) (fl : Nat) : (s.eventAs e st p l fl).mem = s.mem := (rfl)
@[simp] theorem State.eventAs_eth (s : State) (e : Nat) (st : Status) (p : Nat) (l : List (Nat × Nat)) (fl : Nat) : (s.eventAs e st p l fl).eth = s.eth := (rfl)
@[simp] theorem State.eventAs_cmp (s : State) (e : Nat) (st : Status) (p : Nat) (l : List (Nat × Nat)) (fl : Nat) : (s.eventAs e st p l fl).cmp = s.cmp := (rfl)
@[simp] theorem State.eventAs_rel (s : State) (e : Nat) (st : Status) (p : Nat) (l : List (Nat × Nat)) (fl : Nat) : (s.eventAs e st p l fl).rel = s.rel := (rfl)
@[simp] theorem State.eventAs_bed (s : State) (e : Nat) (st : Status) (p : Nat) (l : List (Nat × Nat)) (fl : Nat) : (s.eventAs e st p l fl).bed = s.bed := (rfl)
@[simp] theorem State.eventAs_prog (s : State) (e : Nat) (st : Status) (p : Nat) (l : List (Nat × Nat)) (fl : Nat) : (s.eventAs e st p l fl).prog = s.prog := (rfl)
@[simp] theorem State.eventAs_plc (s : State) (e : Nat) (st : Status) (p : Nat) (l : List (Nat × Nat)) (fl : Nat) : (s.eventAs e st p l fl).plc = s.plc := (rfl)
@[simp] theorem State.eventAs_chk (s : State) (e : Nat) (st : Status) (p : Nat) (l : List (Nat × Nat)) (fl : Nat) : (s.eventAs e st p l fl).chk = s.chk := (rfl)
@[simp] theorem State.eventAs_lin (s : State) (e : Nat) (st : Status) (p : Nat) (l : List (Nat × Nat)) (fl : Nat) : (s.eventAs e st p l fl).lin = s.lin := (rfl)
@[simp] theorem State.eventAs_rx (s : State) (e : Nat) (st : Status) (p : Nat) (l : List (Nat × Nat)) (fl : Nat) : (s.eventAs e st p l fl).rx = s.rx := (rfl)
@[simp] theorem State.eventAs_maps (s : State) (e : Nat) (st : Status) (p : Nat) (l : List (Nat × Nat)) (fl : Nat) : (s.eventAs e st p l fl).maps = s.maps := (rfl)
@[simp] theorem State.eventAs_mac (s : State) (e : Nat) (st : Status) (p : Nat) (l : List (Nat × Nat)) (fl : Nat) : (s.eventAs e st p l fl).mac = s.mac := (rfl)
@[simp] theorem State.eventAs_ldg (s : State) (e : Nat) (st : Status) (p : Nat) (l : List (Nat × Nat)) (fl : Nat) : (s.eventAs e st p l fl).ldg = s.ldg := (rfl)
@[simp] theorem State.eventAs_gl (s : State) (e : Nat) (st : Status) (p : Nat) (l : List (Nat × Nat)) (fl : Nat) : (s.eventAs e st p l fl).gl = s.gl := (rfl)
@[simp] theorem State.eventAs_fm (s : State) (e : Nat) (st : Status) (p : Nat) (l : List (Nat × Nat)) (fl : Nat) : (s.eventAs e st p l fl).fm = s.fm := (rfl)
@[simp] theorem State.eventAs_gs (s : State) (e : Nat) (st : Status) (p : Nat) (l : List (Nat × Nat)) (fl : Nat) : (s.eventAs e st p l fl).gs = s.gs := (rfl)
@[simp] theorem State.eventAs_cal (s : State) (e : Nat) (st : Status) (p : Nat) (l : List (Nat × Nat)) (fl : Nat) : (s.eventAs e st p l fl).cal = s.cal := (rfl)
@[simp] theorem State.eventAs_sec (s : State) (e : Nat) (st : Status) (p : Nat) (l : List (Nat × Nat)) (fl : Nat) : (s.eventAs e st p l fl).sec = s.sec := (rfl)
@[simp] theorem State.eventAs_tp (s : State) (e : Nat) (st : Status) (p : Nat) (l : List (Nat × Nat)) (fl : Nat) : (s.eventAs e st p l fl).tp = s.tp := (rfl)
@[simp] theorem State.eventAs_free (s : State) (e : Nat) (st : Status) (p : Nat) (l : List (Nat × Nat)) (fl : Nat) : (s.eventAs e st p l fl).free = s.free := (rfl)
@[simp] theorem State.eventAs_pending (s : State) (e : Nat) (st : Status) (p : Nat) (l : List (Nat × Nat)) (fl : Nat) : (s.eventAs e st p l fl).pending = s.pending := (rfl)

/-! ## State.event -/

@[simp] theorem State.event_pins (s : State) (st : Status) (p : Nat) (l : List (Nat × Nat)) : (s.event st p l).pins = s.pins := (rfl)
@[simp] theorem State.event_pwr (s : State) (st : Status) (p : Nat) (l : List (Nat × Nat)) : (s.event st p l).pwr = s.pwr := (rfl)
@[simp] theorem State.event_units (s : State) (st : Status) (p : Nat) (l : List (Nat × Nat)) : (s.event st p l).units = s.units := (rfl)
@[simp] theorem State.event_fab (s : State) (st : Status) (p : Nat) (l : List (Nat × Nat)) : (s.event st p l).fab = s.fab := (rfl)
@[simp] theorem State.event_regs (s : State) (st : Status) (p : Nat) (l : List (Nat × Nat)) : (s.event st p l).regs = s.regs := (rfl)
@[simp] theorem State.event_mem (s : State) (st : Status) (p : Nat) (l : List (Nat × Nat)) : (s.event st p l).mem = s.mem := (rfl)
@[simp] theorem State.event_eth (s : State) (st : Status) (p : Nat) (l : List (Nat × Nat)) : (s.event st p l).eth = s.eth := (rfl)
@[simp] theorem State.event_cmp (s : State) (st : Status) (p : Nat) (l : List (Nat × Nat)) : (s.event st p l).cmp = s.cmp := (rfl)
@[simp] theorem State.event_rel (s : State) (st : Status) (p : Nat) (l : List (Nat × Nat)) : (s.event st p l).rel = s.rel := (rfl)
@[simp] theorem State.event_bed (s : State) (st : Status) (p : Nat) (l : List (Nat × Nat)) : (s.event st p l).bed = s.bed := (rfl)
@[simp] theorem State.event_prog (s : State) (st : Status) (p : Nat) (l : List (Nat × Nat)) : (s.event st p l).prog = s.prog := (rfl)
@[simp] theorem State.event_plc (s : State) (st : Status) (p : Nat) (l : List (Nat × Nat)) : (s.event st p l).plc = s.plc := (rfl)
@[simp] theorem State.event_chk (s : State) (st : Status) (p : Nat) (l : List (Nat × Nat)) : (s.event st p l).chk = s.chk := (rfl)
@[simp] theorem State.event_lin (s : State) (st : Status) (p : Nat) (l : List (Nat × Nat)) : (s.event st p l).lin = s.lin := (rfl)
@[simp] theorem State.event_rx (s : State) (st : Status) (p : Nat) (l : List (Nat × Nat)) : (s.event st p l).rx = s.rx := (rfl)
@[simp] theorem State.event_maps (s : State) (st : Status) (p : Nat) (l : List (Nat × Nat)) : (s.event st p l).maps = s.maps := (rfl)
@[simp] theorem State.event_mac (s : State) (st : Status) (p : Nat) (l : List (Nat × Nat)) : (s.event st p l).mac = s.mac := (rfl)
@[simp] theorem State.event_ldg (s : State) (st : Status) (p : Nat) (l : List (Nat × Nat)) : (s.event st p l).ldg = s.ldg := (rfl)
@[simp] theorem State.event_gl (s : State) (st : Status) (p : Nat) (l : List (Nat × Nat)) : (s.event st p l).gl = s.gl := (rfl)
@[simp] theorem State.event_fm (s : State) (st : Status) (p : Nat) (l : List (Nat × Nat)) : (s.event st p l).fm = s.fm := (rfl)
@[simp] theorem State.event_gs (s : State) (st : Status) (p : Nat) (l : List (Nat × Nat)) : (s.event st p l).gs = s.gs := (rfl)
@[simp] theorem State.event_cal (s : State) (st : Status) (p : Nat) (l : List (Nat × Nat)) : (s.event st p l).cal = s.cal := (rfl)
@[simp] theorem State.event_sec (s : State) (st : Status) (p : Nat) (l : List (Nat × Nat)) : (s.event st p l).sec = s.sec := (rfl)
@[simp] theorem State.event_tp (s : State) (st : Status) (p : Nat) (l : List (Nat × Nat)) : (s.event st p l).tp = s.tp := (rfl)
@[simp] theorem State.event_free (s : State) (st : Status) (p : Nat) (l : List (Nat × Nat)) : (s.event st p l).free = s.free := (rfl)
@[simp] theorem State.event_pending (s : State) (st : Status) (p : Nat) (l : List (Nat × Nat)) : (s.event st p l).pending = s.pending := (rfl)

/-! ## State.unitEvent -/

@[simp] theorem State.unitEvent_pins (s : State) (st : Status) (u : Nat) (l : List (Nat × Nat)) : (s.unitEvent st u l).pins = s.pins := (rfl)
@[simp] theorem State.unitEvent_pwr (s : State) (st : Status) (u : Nat) (l : List (Nat × Nat)) : (s.unitEvent st u l).pwr = s.pwr := (rfl)
@[simp] theorem State.unitEvent_units (s : State) (st : Status) (u : Nat) (l : List (Nat × Nat)) : (s.unitEvent st u l).units = s.units := (rfl)
@[simp] theorem State.unitEvent_fab (s : State) (st : Status) (u : Nat) (l : List (Nat × Nat)) : (s.unitEvent st u l).fab = s.fab := (rfl)
@[simp] theorem State.unitEvent_regs (s : State) (st : Status) (u : Nat) (l : List (Nat × Nat)) : (s.unitEvent st u l).regs = s.regs := (rfl)
@[simp] theorem State.unitEvent_mem (s : State) (st : Status) (u : Nat) (l : List (Nat × Nat)) : (s.unitEvent st u l).mem = s.mem := (rfl)
@[simp] theorem State.unitEvent_eth (s : State) (st : Status) (u : Nat) (l : List (Nat × Nat)) : (s.unitEvent st u l).eth = s.eth := (rfl)
@[simp] theorem State.unitEvent_cmp (s : State) (st : Status) (u : Nat) (l : List (Nat × Nat)) : (s.unitEvent st u l).cmp = s.cmp := (rfl)
@[simp] theorem State.unitEvent_rel (s : State) (st : Status) (u : Nat) (l : List (Nat × Nat)) : (s.unitEvent st u l).rel = s.rel := (rfl)
@[simp] theorem State.unitEvent_bed (s : State) (st : Status) (u : Nat) (l : List (Nat × Nat)) : (s.unitEvent st u l).bed = s.bed := (rfl)
@[simp] theorem State.unitEvent_prog (s : State) (st : Status) (u : Nat) (l : List (Nat × Nat)) : (s.unitEvent st u l).prog = s.prog := (rfl)
@[simp] theorem State.unitEvent_plc (s : State) (st : Status) (u : Nat) (l : List (Nat × Nat)) : (s.unitEvent st u l).plc = s.plc := (rfl)
@[simp] theorem State.unitEvent_chk (s : State) (st : Status) (u : Nat) (l : List (Nat × Nat)) : (s.unitEvent st u l).chk = s.chk := (rfl)
@[simp] theorem State.unitEvent_lin (s : State) (st : Status) (u : Nat) (l : List (Nat × Nat)) : (s.unitEvent st u l).lin = s.lin := (rfl)
@[simp] theorem State.unitEvent_rx (s : State) (st : Status) (u : Nat) (l : List (Nat × Nat)) : (s.unitEvent st u l).rx = s.rx := (rfl)
@[simp] theorem State.unitEvent_maps (s : State) (st : Status) (u : Nat) (l : List (Nat × Nat)) : (s.unitEvent st u l).maps = s.maps := (rfl)
@[simp] theorem State.unitEvent_mac (s : State) (st : Status) (u : Nat) (l : List (Nat × Nat)) : (s.unitEvent st u l).mac = s.mac := (rfl)
@[simp] theorem State.unitEvent_ldg (s : State) (st : Status) (u : Nat) (l : List (Nat × Nat)) : (s.unitEvent st u l).ldg = s.ldg := (rfl)
@[simp] theorem State.unitEvent_gl (s : State) (st : Status) (u : Nat) (l : List (Nat × Nat)) : (s.unitEvent st u l).gl = s.gl := (rfl)
@[simp] theorem State.unitEvent_fm (s : State) (st : Status) (u : Nat) (l : List (Nat × Nat)) : (s.unitEvent st u l).fm = s.fm := (rfl)
@[simp] theorem State.unitEvent_gs (s : State) (st : Status) (u : Nat) (l : List (Nat × Nat)) : (s.unitEvent st u l).gs = s.gs := (rfl)
@[simp] theorem State.unitEvent_cal (s : State) (st : Status) (u : Nat) (l : List (Nat × Nat)) : (s.unitEvent st u l).cal = s.cal := (rfl)
@[simp] theorem State.unitEvent_sec (s : State) (st : Status) (u : Nat) (l : List (Nat × Nat)) : (s.unitEvent st u l).sec = s.sec := (rfl)
@[simp] theorem State.unitEvent_tp (s : State) (st : Status) (u : Nat) (l : List (Nat × Nat)) : (s.unitEvent st u l).tp = s.tp := (rfl)
@[simp] theorem State.unitEvent_free (s : State) (st : Status) (u : Nat) (l : List (Nat × Nat)) : (s.unitEvent st u l).free = s.free := (rfl)
@[simp] theorem State.unitEvent_pending (s : State) (st : Status) (u : Nat) (l : List (Nat × Nat)) : (s.unitEvent st u l).pending = s.pending := (rfl)

/-! ## State.setDom -/

@[simp] theorem State.setDom_pins (s : State) (i : Nat) (d : DomState) : (s.setDom i d).pins = s.pins := (rfl)
@[simp] theorem State.setDom_units (s : State) (i : Nat) (d : DomState) : (s.setDom i d).units = s.units := (rfl)
@[simp] theorem State.setDom_fab (s : State) (i : Nat) (d : DomState) : (s.setDom i d).fab = s.fab := (rfl)
@[simp] theorem State.setDom_regs (s : State) (i : Nat) (d : DomState) : (s.setDom i d).regs = s.regs := (rfl)
@[simp] theorem State.setDom_mem (s : State) (i : Nat) (d : DomState) : (s.setDom i d).mem = s.mem := (rfl)
@[simp] theorem State.setDom_hst (s : State) (i : Nat) (d : DomState) : (s.setDom i d).hst = s.hst := (rfl)
@[simp] theorem State.setDom_eth (s : State) (i : Nat) (d : DomState) : (s.setDom i d).eth = s.eth := (rfl)
@[simp] theorem State.setDom_cmp (s : State) (i : Nat) (d : DomState) : (s.setDom i d).cmp = s.cmp := (rfl)
@[simp] theorem State.setDom_rel (s : State) (i : Nat) (d : DomState) : (s.setDom i d).rel = s.rel := (rfl)
@[simp] theorem State.setDom_bed (s : State) (i : Nat) (d : DomState) : (s.setDom i d).bed = s.bed := (rfl)
@[simp] theorem State.setDom_prog (s : State) (i : Nat) (d : DomState) : (s.setDom i d).prog = s.prog := (rfl)
@[simp] theorem State.setDom_plc (s : State) (i : Nat) (d : DomState) : (s.setDom i d).plc = s.plc := (rfl)
@[simp] theorem State.setDom_chk (s : State) (i : Nat) (d : DomState) : (s.setDom i d).chk = s.chk := (rfl)
@[simp] theorem State.setDom_lin (s : State) (i : Nat) (d : DomState) : (s.setDom i d).lin = s.lin := (rfl)
@[simp] theorem State.setDom_rx (s : State) (i : Nat) (d : DomState) : (s.setDom i d).rx = s.rx := (rfl)
@[simp] theorem State.setDom_maps (s : State) (i : Nat) (d : DomState) : (s.setDom i d).maps = s.maps := (rfl)
@[simp] theorem State.setDom_mac (s : State) (i : Nat) (d : DomState) : (s.setDom i d).mac = s.mac := (rfl)
@[simp] theorem State.setDom_ldg (s : State) (i : Nat) (d : DomState) : (s.setDom i d).ldg = s.ldg := (rfl)
@[simp] theorem State.setDom_gl (s : State) (i : Nat) (d : DomState) : (s.setDom i d).gl = s.gl := (rfl)
@[simp] theorem State.setDom_fm (s : State) (i : Nat) (d : DomState) : (s.setDom i d).fm = s.fm := (rfl)
@[simp] theorem State.setDom_gs (s : State) (i : Nat) (d : DomState) : (s.setDom i d).gs = s.gs := (rfl)
@[simp] theorem State.setDom_cal (s : State) (i : Nat) (d : DomState) : (s.setDom i d).cal = s.cal := (rfl)
@[simp] theorem State.setDom_sec (s : State) (i : Nat) (d : DomState) : (s.setDom i d).sec = s.sec := (rfl)
@[simp] theorem State.setDom_tp (s : State) (i : Nat) (d : DomState) : (s.setDom i d).tp = s.tp := (rfl)
@[simp] theorem State.setDom_free (s : State) (i : Nat) (d : DomState) : (s.setDom i d).free = s.free := (rfl)
@[simp] theorem State.setDom_pending (s : State) (i : Nat) (d : DomState) : (s.setDom i d).pending = s.pending := (rfl)

/-! ## State.setDrain -/

@[simp] theorem State.setDrain_pins (s : State) (i : Nat) (d : Option Drain) : (s.setDrain i d).pins = s.pins := (rfl)
@[simp] theorem State.setDrain_pwr (s : State) (i : Nat) (d : Option Drain) : (s.setDrain i d).pwr = s.pwr := (rfl)
@[simp] theorem State.setDrain_fab (s : State) (i : Nat) (d : Option Drain) : (s.setDrain i d).fab = s.fab := (rfl)
@[simp] theorem State.setDrain_regs (s : State) (i : Nat) (d : Option Drain) : (s.setDrain i d).regs = s.regs := (rfl)
@[simp] theorem State.setDrain_mem (s : State) (i : Nat) (d : Option Drain) : (s.setDrain i d).mem = s.mem := (rfl)
@[simp] theorem State.setDrain_hst (s : State) (i : Nat) (d : Option Drain) : (s.setDrain i d).hst = s.hst := (rfl)
@[simp] theorem State.setDrain_eth (s : State) (i : Nat) (d : Option Drain) : (s.setDrain i d).eth = s.eth := (rfl)
@[simp] theorem State.setDrain_cmp (s : State) (i : Nat) (d : Option Drain) : (s.setDrain i d).cmp = s.cmp := (rfl)
@[simp] theorem State.setDrain_rel (s : State) (i : Nat) (d : Option Drain) : (s.setDrain i d).rel = s.rel := (rfl)
@[simp] theorem State.setDrain_bed (s : State) (i : Nat) (d : Option Drain) : (s.setDrain i d).bed = s.bed := (rfl)
@[simp] theorem State.setDrain_prog (s : State) (i : Nat) (d : Option Drain) : (s.setDrain i d).prog = s.prog := (rfl)
@[simp] theorem State.setDrain_plc (s : State) (i : Nat) (d : Option Drain) : (s.setDrain i d).plc = s.plc := (rfl)
@[simp] theorem State.setDrain_chk (s : State) (i : Nat) (d : Option Drain) : (s.setDrain i d).chk = s.chk := (rfl)
@[simp] theorem State.setDrain_lin (s : State) (i : Nat) (d : Option Drain) : (s.setDrain i d).lin = s.lin := (rfl)
@[simp] theorem State.setDrain_rx (s : State) (i : Nat) (d : Option Drain) : (s.setDrain i d).rx = s.rx := (rfl)
@[simp] theorem State.setDrain_maps (s : State) (i : Nat) (d : Option Drain) : (s.setDrain i d).maps = s.maps := (rfl)
@[simp] theorem State.setDrain_mac (s : State) (i : Nat) (d : Option Drain) : (s.setDrain i d).mac = s.mac := (rfl)
@[simp] theorem State.setDrain_ldg (s : State) (i : Nat) (d : Option Drain) : (s.setDrain i d).ldg = s.ldg := (rfl)
@[simp] theorem State.setDrain_gl (s : State) (i : Nat) (d : Option Drain) : (s.setDrain i d).gl = s.gl := (rfl)
@[simp] theorem State.setDrain_fm (s : State) (i : Nat) (d : Option Drain) : (s.setDrain i d).fm = s.fm := (rfl)
@[simp] theorem State.setDrain_gs (s : State) (i : Nat) (d : Option Drain) : (s.setDrain i d).gs = s.gs := (rfl)
@[simp] theorem State.setDrain_cal (s : State) (i : Nat) (d : Option Drain) : (s.setDrain i d).cal = s.cal := (rfl)
@[simp] theorem State.setDrain_sec (s : State) (i : Nat) (d : Option Drain) : (s.setDrain i d).sec = s.sec := (rfl)
@[simp] theorem State.setDrain_tp (s : State) (i : Nat) (d : Option Drain) : (s.setDrain i d).tp = s.tp := (rfl)
@[simp] theorem State.setDrain_free (s : State) (i : Nat) (d : Option Drain) : (s.setDrain i d).free = s.free := (rfl)
@[simp] theorem State.setDrain_pending (s : State) (i : Nat) (d : Option Drain) : (s.setDrain i d).pending = s.pending := (rfl)

/-! ## State.setOut -/

@[simp] theorem State.setOut_pins (s : State) (i : Nat) (b : Bool) : (s.setOut i b).pins = s.pins := (rfl)
@[simp] theorem State.setOut_pwr (s : State) (i : Nat) (b : Bool) : (s.setOut i b).pwr = s.pwr := (rfl)
@[simp] theorem State.setOut_fab (s : State) (i : Nat) (b : Bool) : (s.setOut i b).fab = s.fab := (rfl)
@[simp] theorem State.setOut_regs (s : State) (i : Nat) (b : Bool) : (s.setOut i b).regs = s.regs := (rfl)
@[simp] theorem State.setOut_mem (s : State) (i : Nat) (b : Bool) : (s.setOut i b).mem = s.mem := (rfl)
@[simp] theorem State.setOut_hst (s : State) (i : Nat) (b : Bool) : (s.setOut i b).hst = s.hst := (rfl)
@[simp] theorem State.setOut_eth (s : State) (i : Nat) (b : Bool) : (s.setOut i b).eth = s.eth := (rfl)
@[simp] theorem State.setOut_cmp (s : State) (i : Nat) (b : Bool) : (s.setOut i b).cmp = s.cmp := (rfl)
@[simp] theorem State.setOut_rel (s : State) (i : Nat) (b : Bool) : (s.setOut i b).rel = s.rel := (rfl)
@[simp] theorem State.setOut_bed (s : State) (i : Nat) (b : Bool) : (s.setOut i b).bed = s.bed := (rfl)
@[simp] theorem State.setOut_prog (s : State) (i : Nat) (b : Bool) : (s.setOut i b).prog = s.prog := (rfl)
@[simp] theorem State.setOut_plc (s : State) (i : Nat) (b : Bool) : (s.setOut i b).plc = s.plc := (rfl)
@[simp] theorem State.setOut_chk (s : State) (i : Nat) (b : Bool) : (s.setOut i b).chk = s.chk := (rfl)
@[simp] theorem State.setOut_lin (s : State) (i : Nat) (b : Bool) : (s.setOut i b).lin = s.lin := (rfl)
@[simp] theorem State.setOut_rx (s : State) (i : Nat) (b : Bool) : (s.setOut i b).rx = s.rx := (rfl)
@[simp] theorem State.setOut_maps (s : State) (i : Nat) (b : Bool) : (s.setOut i b).maps = s.maps := (rfl)
@[simp] theorem State.setOut_mac (s : State) (i : Nat) (b : Bool) : (s.setOut i b).mac = s.mac := (rfl)
@[simp] theorem State.setOut_ldg (s : State) (i : Nat) (b : Bool) : (s.setOut i b).ldg = s.ldg := (rfl)
@[simp] theorem State.setOut_gl (s : State) (i : Nat) (b : Bool) : (s.setOut i b).gl = s.gl := (rfl)
@[simp] theorem State.setOut_fm (s : State) (i : Nat) (b : Bool) : (s.setOut i b).fm = s.fm := (rfl)
@[simp] theorem State.setOut_gs (s : State) (i : Nat) (b : Bool) : (s.setOut i b).gs = s.gs := (rfl)
@[simp] theorem State.setOut_cal (s : State) (i : Nat) (b : Bool) : (s.setOut i b).cal = s.cal := (rfl)
@[simp] theorem State.setOut_sec (s : State) (i : Nat) (b : Bool) : (s.setOut i b).sec = s.sec := (rfl)
@[simp] theorem State.setOut_tp (s : State) (i : Nat) (b : Bool) : (s.setOut i b).tp = s.tp := (rfl)
@[simp] theorem State.setOut_free (s : State) (i : Nat) (b : Bool) : (s.setOut i b).free = s.free := (rfl)
@[simp] theorem State.setOut_pending (s : State) (i : Nat) (b : Bool) : (s.setOut i b).pending = s.pending := (rfl)

/-! ## State.setByte -/

@[simp] theorem State.setByte_pins (s : State) (o k : Nat) (b : Byte) : (s.setByte o k b).pins = s.pins := (rfl)
@[simp] theorem State.setByte_pwr (s : State) (o k : Nat) (b : Byte) : (s.setByte o k b).pwr = s.pwr := (rfl)
@[simp] theorem State.setByte_units (s : State) (o k : Nat) (b : Byte) : (s.setByte o k b).units = s.units := (rfl)
@[simp] theorem State.setByte_fab (s : State) (o k : Nat) (b : Byte) : (s.setByte o k b).fab = s.fab := (rfl)
@[simp] theorem State.setByte_regs (s : State) (o k : Nat) (b : Byte) : (s.setByte o k b).regs = s.regs := (rfl)
@[simp] theorem State.setByte_hst (s : State) (o k : Nat) (b : Byte) : (s.setByte o k b).hst = s.hst := (rfl)
@[simp] theorem State.setByte_eth (s : State) (o k : Nat) (b : Byte) : (s.setByte o k b).eth = s.eth := (rfl)
@[simp] theorem State.setByte_cmp (s : State) (o k : Nat) (b : Byte) : (s.setByte o k b).cmp = s.cmp := (rfl)
@[simp] theorem State.setByte_rel (s : State) (o k : Nat) (b : Byte) : (s.setByte o k b).rel = s.rel := (rfl)
@[simp] theorem State.setByte_bed (s : State) (o k : Nat) (b : Byte) : (s.setByte o k b).bed = s.bed := (rfl)
@[simp] theorem State.setByte_prog (s : State) (o k : Nat) (b : Byte) : (s.setByte o k b).prog = s.prog := (rfl)
@[simp] theorem State.setByte_plc (s : State) (o k : Nat) (b : Byte) : (s.setByte o k b).plc = s.plc := (rfl)
@[simp] theorem State.setByte_chk (s : State) (o k : Nat) (b : Byte) : (s.setByte o k b).chk = s.chk := (rfl)
@[simp] theorem State.setByte_lin (s : State) (o k : Nat) (b : Byte) : (s.setByte o k b).lin = s.lin := (rfl)
@[simp] theorem State.setByte_rx (s : State) (o k : Nat) (b : Byte) : (s.setByte o k b).rx = s.rx := (rfl)
@[simp] theorem State.setByte_maps (s : State) (o k : Nat) (b : Byte) : (s.setByte o k b).maps = s.maps := (rfl)
@[simp] theorem State.setByte_mac (s : State) (o k : Nat) (b : Byte) : (s.setByte o k b).mac = s.mac := (rfl)
@[simp] theorem State.setByte_ldg (s : State) (o k : Nat) (b : Byte) : (s.setByte o k b).ldg = s.ldg := (rfl)
@[simp] theorem State.setByte_gl (s : State) (o k : Nat) (b : Byte) : (s.setByte o k b).gl = s.gl := (rfl)
@[simp] theorem State.setByte_fm (s : State) (o k : Nat) (b : Byte) : (s.setByte o k b).fm = s.fm := (rfl)
@[simp] theorem State.setByte_gs (s : State) (o k : Nat) (b : Byte) : (s.setByte o k b).gs = s.gs := (rfl)
@[simp] theorem State.setByte_cal (s : State) (o k : Nat) (b : Byte) : (s.setByte o k b).cal = s.cal := (rfl)
@[simp] theorem State.setByte_sec (s : State) (o k : Nat) (b : Byte) : (s.setByte o k b).sec = s.sec := (rfl)
@[simp] theorem State.setByte_tp (s : State) (o k : Nat) (b : Byte) : (s.setByte o k b).tp = s.tp := (rfl)
@[simp] theorem State.setByte_free (s : State) (o k : Nat) (b : Byte) : (s.setByte o k b).free = s.free := (rfl)
@[simp] theorem State.setByte_pending (s : State) (o k : Nat) (b : Byte) : (s.setByte o k b).pending = s.pending := (rfl)

/-! ## State.submit -/

@[simp] theorem State.submit_pins (s : State) (a b c : Nat) (p : Payload) (n : Nat) : (s.submit a b c p n).pins = s.pins := (rfl)
@[simp] theorem State.submit_pwr (s : State) (a b c : Nat) (p : Payload) (n : Nat) : (s.submit a b c p n).pwr = s.pwr := (rfl)
@[simp] theorem State.submit_units (s : State) (a b c : Nat) (p : Payload) (n : Nat) : (s.submit a b c p n).units = s.units := (rfl)
@[simp] theorem State.submit_fab (s : State) (a b c : Nat) (p : Payload) (n : Nat) : (s.submit a b c p n).fab = s.fab := (rfl)
@[simp] theorem State.submit_regs (s : State) (a b c : Nat) (p : Payload) (n : Nat) : (s.submit a b c p n).regs = s.regs := (rfl)
@[simp] theorem State.submit_mem (s : State) (a b c : Nat) (p : Payload) (n : Nat) : (s.submit a b c p n).mem = s.mem := (rfl)
@[simp] theorem State.submit_hst (s : State) (a b c : Nat) (p : Payload) (n : Nat) : (s.submit a b c p n).hst = s.hst := (rfl)
@[simp] theorem State.submit_eth (s : State) (a b c : Nat) (p : Payload) (n : Nat) : (s.submit a b c p n).eth = s.eth := (rfl)
@[simp] theorem State.submit_cmp (s : State) (a b c : Nat) (p : Payload) (n : Nat) : (s.submit a b c p n).cmp = s.cmp := (rfl)
@[simp] theorem State.submit_rel (s : State) (a b c : Nat) (p : Payload) (n : Nat) : (s.submit a b c p n).rel = s.rel := (rfl)
@[simp] theorem State.submit_prog (s : State) (a b c : Nat) (p : Payload) (n : Nat) : (s.submit a b c p n).prog = s.prog := (rfl)
@[simp] theorem State.submit_plc (s : State) (a b c : Nat) (p : Payload) (n : Nat) : (s.submit a b c p n).plc = s.plc := (rfl)
@[simp] theorem State.submit_chk (s : State) (a b c : Nat) (p : Payload) (n : Nat) : (s.submit a b c p n).chk = s.chk := (rfl)
@[simp] theorem State.submit_lin (s : State) (a b c : Nat) (p : Payload) (n : Nat) : (s.submit a b c p n).lin = s.lin := (rfl)
@[simp] theorem State.submit_rx (s : State) (a b c : Nat) (p : Payload) (n : Nat) : (s.submit a b c p n).rx = s.rx := (rfl)
@[simp] theorem State.submit_maps (s : State) (a b c : Nat) (p : Payload) (n : Nat) : (s.submit a b c p n).maps = s.maps := (rfl)
@[simp] theorem State.submit_mac (s : State) (a b c : Nat) (p : Payload) (n : Nat) : (s.submit a b c p n).mac = s.mac := (rfl)
@[simp] theorem State.submit_ldg (s : State) (a b c : Nat) (p : Payload) (n : Nat) : (s.submit a b c p n).ldg = s.ldg := (rfl)
@[simp] theorem State.submit_gl (s : State) (a b c : Nat) (p : Payload) (n : Nat) : (s.submit a b c p n).gl = s.gl := (rfl)
@[simp] theorem State.submit_fm (s : State) (a b c : Nat) (p : Payload) (n : Nat) : (s.submit a b c p n).fm = s.fm := (rfl)
@[simp] theorem State.submit_gs (s : State) (a b c : Nat) (p : Payload) (n : Nat) : (s.submit a b c p n).gs = s.gs := (rfl)
@[simp] theorem State.submit_cal (s : State) (a b c : Nat) (p : Payload) (n : Nat) : (s.submit a b c p n).cal = s.cal := (rfl)
@[simp] theorem State.submit_sec (s : State) (a b c : Nat) (p : Payload) (n : Nat) : (s.submit a b c p n).sec = s.sec := (rfl)
@[simp] theorem State.submit_tp (s : State) (a b c : Nat) (p : Payload) (n : Nat) : (s.submit a b c p n).tp = s.tp := (rfl)
@[simp] theorem State.submit_free (s : State) (a b c : Nat) (p : Payload) (n : Nat) : (s.submit a b c p n).free = s.free := (rfl)
@[simp] theorem State.submit_pending (s : State) (a b c : Nat) (p : Payload) (n : Nat) : (s.submit a b c p n).pending = s.pending := (rfl)

/-! ## State.returns -/

@[simp] theorem State.returns_pins (s : State) (v : BitVec 64) : (s.returns v).pins = s.pins := (rfl)
@[simp] theorem State.returns_pwr (s : State) (v : BitVec 64) : (s.returns v).pwr = s.pwr := (rfl)
@[simp] theorem State.returns_units (s : State) (v : BitVec 64) : (s.returns v).units = s.units := (rfl)
@[simp] theorem State.returns_fab (s : State) (v : BitVec 64) : (s.returns v).fab = s.fab := (rfl)
@[simp] theorem State.returns_regs (s : State) (v : BitVec 64) : (s.returns v).regs = s.regs := (rfl)
@[simp] theorem State.returns_mem (s : State) (v : BitVec 64) : (s.returns v).mem = s.mem := (rfl)
@[simp] theorem State.returns_eth (s : State) (v : BitVec 64) : (s.returns v).eth = s.eth := (rfl)
@[simp] theorem State.returns_cmp (s : State) (v : BitVec 64) : (s.returns v).cmp = s.cmp := (rfl)
@[simp] theorem State.returns_rel (s : State) (v : BitVec 64) : (s.returns v).rel = s.rel := (rfl)
@[simp] theorem State.returns_bed (s : State) (v : BitVec 64) : (s.returns v).bed = s.bed := (rfl)
@[simp] theorem State.returns_prog (s : State) (v : BitVec 64) : (s.returns v).prog = s.prog := (rfl)
@[simp] theorem State.returns_plc (s : State) (v : BitVec 64) : (s.returns v).plc = s.plc := (rfl)
@[simp] theorem State.returns_chk (s : State) (v : BitVec 64) : (s.returns v).chk = s.chk := (rfl)
@[simp] theorem State.returns_lin (s : State) (v : BitVec 64) : (s.returns v).lin = s.lin := (rfl)
@[simp] theorem State.returns_rx (s : State) (v : BitVec 64) : (s.returns v).rx = s.rx := (rfl)
@[simp] theorem State.returns_maps (s : State) (v : BitVec 64) : (s.returns v).maps = s.maps := (rfl)
@[simp] theorem State.returns_mac (s : State) (v : BitVec 64) : (s.returns v).mac = s.mac := (rfl)
@[simp] theorem State.returns_ldg (s : State) (v : BitVec 64) : (s.returns v).ldg = s.ldg := (rfl)
@[simp] theorem State.returns_gl (s : State) (v : BitVec 64) : (s.returns v).gl = s.gl := (rfl)
@[simp] theorem State.returns_fm (s : State) (v : BitVec 64) : (s.returns v).fm = s.fm := (rfl)
@[simp] theorem State.returns_gs (s : State) (v : BitVec 64) : (s.returns v).gs = s.gs := (rfl)
@[simp] theorem State.returns_cal (s : State) (v : BitVec 64) : (s.returns v).cal = s.cal := (rfl)
@[simp] theorem State.returns_sec (s : State) (v : BitVec 64) : (s.returns v).sec = s.sec := (rfl)
@[simp] theorem State.returns_tp (s : State) (v : BitVec 64) : (s.returns v).tp = s.tp := (rfl)
@[simp] theorem State.returns_free (s : State) (v : BitVec 64) : (s.returns v).free = s.free := (rfl)
@[simp] theorem State.returns_pending (s : State) (v : BitVec 64) : (s.returns v).pending = s.pending := (rfl)

/-! ## State.msix -/

@[simp] theorem State.msix_pins (s : State) (v : Nat) : (s.msix v).pins = s.pins := (rfl)
@[simp] theorem State.msix_pwr (s : State) (v : Nat) : (s.msix v).pwr = s.pwr := (rfl)
@[simp] theorem State.msix_units (s : State) (v : Nat) : (s.msix v).units = s.units := (rfl)
@[simp] theorem State.msix_fab (s : State) (v : Nat) : (s.msix v).fab = s.fab := (rfl)
@[simp] theorem State.msix_regs (s : State) (v : Nat) : (s.msix v).regs = s.regs := (rfl)
@[simp] theorem State.msix_mem (s : State) (v : Nat) : (s.msix v).mem = s.mem := (rfl)
@[simp] theorem State.msix_eth (s : State) (v : Nat) : (s.msix v).eth = s.eth := (rfl)
@[simp] theorem State.msix_cmp (s : State) (v : Nat) : (s.msix v).cmp = s.cmp := (rfl)
@[simp] theorem State.msix_rel (s : State) (v : Nat) : (s.msix v).rel = s.rel := (rfl)
@[simp] theorem State.msix_bed (s : State) (v : Nat) : (s.msix v).bed = s.bed := (rfl)
@[simp] theorem State.msix_prog (s : State) (v : Nat) : (s.msix v).prog = s.prog := (rfl)
@[simp] theorem State.msix_plc (s : State) (v : Nat) : (s.msix v).plc = s.plc := (rfl)
@[simp] theorem State.msix_chk (s : State) (v : Nat) : (s.msix v).chk = s.chk := (rfl)
@[simp] theorem State.msix_lin (s : State) (v : Nat) : (s.msix v).lin = s.lin := (rfl)
@[simp] theorem State.msix_rx (s : State) (v : Nat) : (s.msix v).rx = s.rx := (rfl)
@[simp] theorem State.msix_maps (s : State) (v : Nat) : (s.msix v).maps = s.maps := (rfl)
@[simp] theorem State.msix_mac (s : State) (v : Nat) : (s.msix v).mac = s.mac := (rfl)
@[simp] theorem State.msix_ldg (s : State) (v : Nat) : (s.msix v).ldg = s.ldg := (rfl)
@[simp] theorem State.msix_gl (s : State) (v : Nat) : (s.msix v).gl = s.gl := (rfl)
@[simp] theorem State.msix_fm (s : State) (v : Nat) : (s.msix v).fm = s.fm := (rfl)
@[simp] theorem State.msix_gs (s : State) (v : Nat) : (s.msix v).gs = s.gs := (rfl)
@[simp] theorem State.msix_cal (s : State) (v : Nat) : (s.msix v).cal = s.cal := (rfl)
@[simp] theorem State.msix_sec (s : State) (v : Nat) : (s.msix v).sec = s.sec := (rfl)
@[simp] theorem State.msix_tp (s : State) (v : Nat) : (s.msix v).tp = s.tp := (rfl)
@[simp] theorem State.msix_free (s : State) (v : Nat) : (s.msix v).free = s.free := (rfl)
@[simp] theorem State.msix_pending (s : State) (v : Nat) : (s.msix v).pending = s.pending := (rfl)

/-! ## State.bumpDetection -/

@[simp] theorem State.bumpDetection_pins (s : State) (c : Nat) : (s.bumpDetection c).pins = s.pins := (rfl)
@[simp] theorem State.bumpDetection_pwr (s : State) (c : Nat) : (s.bumpDetection c).pwr = s.pwr := (rfl)
@[simp] theorem State.bumpDetection_units (s : State) (c : Nat) : (s.bumpDetection c).units = s.units := (rfl)
@[simp] theorem State.bumpDetection_fab (s : State) (c : Nat) : (s.bumpDetection c).fab = s.fab := (rfl)
@[simp] theorem State.bumpDetection_regs (s : State) (c : Nat) : (s.bumpDetection c).regs = s.regs := (rfl)
@[simp] theorem State.bumpDetection_mem (s : State) (c : Nat) : (s.bumpDetection c).mem = s.mem := (rfl)
@[simp] theorem State.bumpDetection_hst (s : State) (c : Nat) : (s.bumpDetection c).hst = s.hst := (rfl)
@[simp] theorem State.bumpDetection_eth (s : State) (c : Nat) : (s.bumpDetection c).eth = s.eth := (rfl)
@[simp] theorem State.bumpDetection_cmp (s : State) (c : Nat) : (s.bumpDetection c).cmp = s.cmp := (rfl)
@[simp] theorem State.bumpDetection_bed (s : State) (c : Nat) : (s.bumpDetection c).bed = s.bed := (rfl)
@[simp] theorem State.bumpDetection_prog (s : State) (c : Nat) : (s.bumpDetection c).prog = s.prog := (rfl)
@[simp] theorem State.bumpDetection_plc (s : State) (c : Nat) : (s.bumpDetection c).plc = s.plc := (rfl)
@[simp] theorem State.bumpDetection_chk (s : State) (c : Nat) : (s.bumpDetection c).chk = s.chk := (rfl)
@[simp] theorem State.bumpDetection_lin (s : State) (c : Nat) : (s.bumpDetection c).lin = s.lin := (rfl)
@[simp] theorem State.bumpDetection_rx (s : State) (c : Nat) : (s.bumpDetection c).rx = s.rx := (rfl)
@[simp] theorem State.bumpDetection_maps (s : State) (c : Nat) : (s.bumpDetection c).maps = s.maps := (rfl)
@[simp] theorem State.bumpDetection_mac (s : State) (c : Nat) : (s.bumpDetection c).mac = s.mac := (rfl)
@[simp] theorem State.bumpDetection_ldg (s : State) (c : Nat) : (s.bumpDetection c).ldg = s.ldg := (rfl)
@[simp] theorem State.bumpDetection_gl (s : State) (c : Nat) : (s.bumpDetection c).gl = s.gl := (rfl)
@[simp] theorem State.bumpDetection_fm (s : State) (c : Nat) : (s.bumpDetection c).fm = s.fm := (rfl)
@[simp] theorem State.bumpDetection_gs (s : State) (c : Nat) : (s.bumpDetection c).gs = s.gs := (rfl)
@[simp] theorem State.bumpDetection_cal (s : State) (c : Nat) : (s.bumpDetection c).cal = s.cal := (rfl)
@[simp] theorem State.bumpDetection_sec (s : State) (c : Nat) : (s.bumpDetection c).sec = s.sec := (rfl)
@[simp] theorem State.bumpDetection_tp (s : State) (c : Nat) : (s.bumpDetection c).tp = s.tp := (rfl)
@[simp] theorem State.bumpDetection_free (s : State) (c : Nat) : (s.bumpDetection c).free = s.free := (rfl)
@[simp] theorem State.bumpDetection_pending (s : State) (c : Nat) : (s.bumpDetection c).pending = s.pending := (rfl)

/-! ## State.setUnitRel -/

@[simp] theorem State.setUnitRel_pins (s : State) (u : Nat) (x : UnitRel) : (s.setUnitRel u x).pins = s.pins := (rfl)
@[simp] theorem State.setUnitRel_pwr (s : State) (u : Nat) (x : UnitRel) : (s.setUnitRel u x).pwr = s.pwr := (rfl)
@[simp] theorem State.setUnitRel_units (s : State) (u : Nat) (x : UnitRel) : (s.setUnitRel u x).units = s.units := (rfl)
@[simp] theorem State.setUnitRel_fab (s : State) (u : Nat) (x : UnitRel) : (s.setUnitRel u x).fab = s.fab := (rfl)
@[simp] theorem State.setUnitRel_regs (s : State) (u : Nat) (x : UnitRel) : (s.setUnitRel u x).regs = s.regs := (rfl)
@[simp] theorem State.setUnitRel_mem (s : State) (u : Nat) (x : UnitRel) : (s.setUnitRel u x).mem = s.mem := (rfl)
@[simp] theorem State.setUnitRel_hst (s : State) (u : Nat) (x : UnitRel) : (s.setUnitRel u x).hst = s.hst := (rfl)
@[simp] theorem State.setUnitRel_eth (s : State) (u : Nat) (x : UnitRel) : (s.setUnitRel u x).eth = s.eth := (rfl)
@[simp] theorem State.setUnitRel_cmp (s : State) (u : Nat) (x : UnitRel) : (s.setUnitRel u x).cmp = s.cmp := (rfl)
@[simp] theorem State.setUnitRel_bed (s : State) (u : Nat) (x : UnitRel) : (s.setUnitRel u x).bed = s.bed := (rfl)
@[simp] theorem State.setUnitRel_prog (s : State) (u : Nat) (x : UnitRel) : (s.setUnitRel u x).prog = s.prog := (rfl)
@[simp] theorem State.setUnitRel_plc (s : State) (u : Nat) (x : UnitRel) : (s.setUnitRel u x).plc = s.plc := (rfl)
@[simp] theorem State.setUnitRel_chk (s : State) (u : Nat) (x : UnitRel) : (s.setUnitRel u x).chk = s.chk := (rfl)
@[simp] theorem State.setUnitRel_lin (s : State) (u : Nat) (x : UnitRel) : (s.setUnitRel u x).lin = s.lin := (rfl)
@[simp] theorem State.setUnitRel_rx (s : State) (u : Nat) (x : UnitRel) : (s.setUnitRel u x).rx = s.rx := (rfl)
@[simp] theorem State.setUnitRel_maps (s : State) (u : Nat) (x : UnitRel) : (s.setUnitRel u x).maps = s.maps := (rfl)
@[simp] theorem State.setUnitRel_mac (s : State) (u : Nat) (x : UnitRel) : (s.setUnitRel u x).mac = s.mac := (rfl)
@[simp] theorem State.setUnitRel_ldg (s : State) (u : Nat) (x : UnitRel) : (s.setUnitRel u x).ldg = s.ldg := (rfl)
@[simp] theorem State.setUnitRel_gl (s : State) (u : Nat) (x : UnitRel) : (s.setUnitRel u x).gl = s.gl := (rfl)
@[simp] theorem State.setUnitRel_fm (s : State) (u : Nat) (x : UnitRel) : (s.setUnitRel u x).fm = s.fm := (rfl)
@[simp] theorem State.setUnitRel_gs (s : State) (u : Nat) (x : UnitRel) : (s.setUnitRel u x).gs = s.gs := (rfl)
@[simp] theorem State.setUnitRel_cal (s : State) (u : Nat) (x : UnitRel) : (s.setUnitRel u x).cal = s.cal := (rfl)
@[simp] theorem State.setUnitRel_sec (s : State) (u : Nat) (x : UnitRel) : (s.setUnitRel u x).sec = s.sec := (rfl)
@[simp] theorem State.setUnitRel_tp (s : State) (u : Nat) (x : UnitRel) : (s.setUnitRel u x).tp = s.tp := (rfl)
@[simp] theorem State.setUnitRel_free (s : State) (u : Nat) (x : UnitRel) : (s.setUnitRel u x).free = s.free := (rfl)
@[simp] theorem State.setUnitRel_pending (s : State) (u : Nat) (x : UnitRel) : (s.setUnitRel u x).pending = s.pending := (rfl)

end Sys2Proof.Machine
end

