-- ==== Sys2Proof/Laws/Regs.lean ====
section
/-! SUPPORT. What the operations on registers, memory, records and the journal do, each said once. -/

namespace Sys2Proof

/-! ## Keys -/

theorem Reg.ctorIdx_lt (r : Reg) : r.ctorIdx < 1024 := by cases r <;> decide

/-- The list of registers is in the order of their numbers. -/
theorem Reg.ofIdx_ctorIdx (r : Reg) : Reg.ofIdx r.ctorIdx = r := by cases r <;> rfl

theorem Reg.ctorIdx_injective {r q : Reg} (h : r.ctorIdx = q.ctorIdx) : r = q := by
  rw [← Reg.ofIdx_ctorIdx r, h, Reg.ofIdx_ctorIdx]

/-- Two register instances have the same key only where they are the same. -/
theorem Reg.key_inj {r q : Reg} {i j : Nat} : r.key i = q.key j ↔ r = q ∧ i = j := by
  constructor
  · intro h
    have hr := Reg.ctorIdx_lt r
    have hq := Reg.ctorIdx_lt q
    unfold Reg.key at h
    exact ⟨Reg.ctorIdx_injective (by omega), by omega⟩
  · rintro ⟨rfl, rfl⟩; rfl

/-- An unlisted register reads its reset value. -/
theorem regDefault_key (r : Reg) (i : Nat) : regDefault (r.key i) = r.reset i := by
  have h := Reg.ctorIdx_lt r
  have h1 : (r.key i) % 1024 = r.ctorIdx := by unfold Reg.key; omega
  have h2 : (r.key i) / 1024 = i := by unfold Reg.key; omega
  rw [regDefault, h1, h2, Reg.ofIdx_ctorIdx]

end Sys2Proof

namespace Sys2Proof.Machine

open Sys2Proof

/-! ## Bits -/

/-- Bit `n` of a word with a field replaced. -/
theorem getLsbD_putBits (w : Word) (lo width v n : Nat) (hn : n < 32) :
    (putBits w lo width v).getLsbD n = if lo ≤ n ∧ n < lo + width then v.testBit (n - lo) else w.getLsbD n := by
  have hA : w.toNat % 2 ^ lo < 2 ^ lo := Nat.mod_lt _ (Nat.two_pow_pos _)
  have hB : v % 2 ^ width < 2 ^ width := Nat.mod_lt _ (Nat.two_pow_pos _)
  have e : w.toNat % 2 ^ lo + v % 2 ^ width * 2 ^ lo + w.toNat / 2 ^ (lo + width) * 2 ^ (lo + width)
      = 2 ^ lo * (2 ^ width * (w.toNat / 2 ^ (lo + width)) + v % 2 ^ width) + w.toNat % 2 ^ lo := by
    rw [Nat.pow_add, Nat.mul_add]; ac_rfl
  unfold putBits
  rw [e, BitVec.getLsbD_ofNat, Nat.testBit_two_pow_mul_add _ hA]
  simp only [hn, decide_true, Bool.true_and]
  by_cases h1 : n < lo
  · have : ¬ lo ≤ n := by omega
    simp [h1, this, Nat.testBit_mod_two_pow, BitVec.getLsbD]
  · rw [if_neg h1, Nat.testBit_two_pow_mul_add _ hB]
    by_cases h2 : n < lo + width
    · have h3 : n - lo < width := by omega
      have h4 : lo ≤ n := by omega
      simp [h2, h3, h4, Nat.testBit_mod_two_pow]
    · have h3 : ¬ n - lo < width := by omega
      have h4 : lo + width + (n - lo - width) = n := by omega
      simp only [h2, h3, if_false, and_false, Nat.testBit_div_two_pow, BitVec.getLsbD]
      congr 1
      omega

/-- Bit `n` of the value of a field. -/
theorem testBit_getBits (w : Word) (lo width n : Nat) :
    (getBits w lo width).testBit n = (decide (n < width) && w.getLsbD (lo + n)) := by
  simp [getBits, Nat.testBit_mod_two_pow, Nat.testBit_div_two_pow, BitVec.getLsbD, Nat.add_comm]

/-- The value of a field just written. -/
theorem getBits_putBits (w : Word) (lo width v : Nat) (h : lo + width ≤ 32) :
    getBits (putBits w lo width v) lo width = v % 2 ^ width := by
  apply Nat.eq_of_testBit_eq
  intro n
  rw [testBit_getBits, Nat.testBit_mod_two_pow]
  by_cases hn : n < width
  · rw [getLsbD_putBits _ _ _ _ _ (by omega)]
    have h1 : lo + n < lo + width := by omega
    simp [hn, h1]
  · simp [hn]

/-- The value of a field that shares no bit with the one written. -/
theorem getBits_putBits_ne (w : Word) (lo width v lo' width' : Nat) (h' : lo' + width' ≤ 32)
    (hd : lo' + width' ≤ lo ∨ lo + width ≤ lo') : getBits (putBits w lo width v) lo' width' = getBits w lo' width' := by
  apply Nat.eq_of_testBit_eq
  intro n
  rw [testBit_getBits, testBit_getBits]
  by_cases hn : n < width'
  · rw [getLsbD_putBits _ _ _ _ _ (by omega), if_neg (by omega)]
  · simp [hn]

/-! ## Registers and fields -/

/-- A register just written, and every other. -/
theorem State.reg_setReg (s : State) (r q : Reg) (i j : Nat) (w : Word) :
    (s.setReg r i w).reg q j = if q = r ∧ j = i then w else s.reg q j := by
  unfold State.reg State.setReg
  simp only [Tab.get_set, Reg.key_inj]

@[simp] theorem State.reg_setReg_same (s : State) (r : Reg) (i : Nat) (w : Word) : (s.setReg r i w).reg r i = w := by
  simp [State.reg_setReg]

theorem State.reg_setReg_ne (s : State) {r q : Reg} {i j : Nat} (w : Word) (h : ¬(q = r ∧ j = i)) :
    (s.setReg r i w).reg q j = s.reg q j := by
  rw [State.reg_setReg, if_neg h]

/-- The register of a field just written, and every other. -/
theorem State.reg_setFld (s : State) (f : Fld) (q : Reg) (i j v : Nat) :
    (s.setFld f i v).reg q j = if q = f.reg ∧ j = i then putBits (s.reg f.reg i) f.lo f.width v else s.reg q j := by
  unfold State.setFld; rw [State.reg_setReg]

/-- A field just written. -/
theorem State.fld_setFld_same (s : State) (f : Fld) (i v : Nat) (h : f.lo + f.width ≤ 32) :
    (s.setFld f i v).fld f i = v % 2 ^ f.width := by
  unfold State.fld
  rw [State.reg_setFld, if_pos ⟨rfl, rfl⟩, getBits_putBits _ _ _ _ h]

/-- A field that shares no bit with the one written. -/
theorem State.fld_setFld_ne (s : State) (f g : Fld) (i j v : Nat) (h : g.lo + g.width ≤ 32)
    (hd : ¬(g.reg = f.reg ∧ j = i) ∨ g.lo + g.width ≤ f.lo ∨ f.lo + f.width ≤ g.lo) :
    (s.setFld f i v).fld g j = s.fld g j := by
  unfold State.fld
  rw [State.reg_setFld]
  by_cases hs : g.reg = f.reg ∧ j = i
  · obtain ⟨h1, rfl⟩ := hs
    have h2 := hd.resolve_left (by simp [h1])
    rw [if_pos ⟨h1, rfl⟩, getBits_putBits_ne _ _ _ _ _ _ h h2, h1]
  · rw [if_neg hs]

/-- A state whose registers are those of another reads them alike. -/
theorem State.reg_congr {s t : State} (h : t.regs = s.regs) (r : Reg) (i : Nat) : t.reg r i = s.reg r i := by
  unfold State.reg; rw [h]

theorem State.fld_congr {s t : State} (h : t.regs = s.regs) (f : Fld) (i : Nat) : t.fld f i = s.fld f i := by
  unfold State.fld; rw [State.reg_congr h]

/-- Writing a register keeps the canonical form. -/
theorem State.canonical_setReg (s : State) (r : Reg) (i : Nat) (w : Word) (h : s.Canonical) : (s.setReg r i w).Canonical :=
  ⟨h.1, Tab.wf_set _ _ _ _ h.2⟩

theorem State.canonical_setFld (s : State) (f : Fld) (i v : Nat) (h : s.Canonical) : (s.setFld f i v).Canonical :=
  s.canonical_setReg _ _ _ h

/-! ## Memory -/

/-- Writing a byte keeps the canonical form. -/
theorem State.canonical_setByte (s : State) (o k : Nat) (b : Byte) (h : s.Canonical) : (s.setByte o k b).Canonical :=
  ⟨Tab.wf_set _ _ _ _ h.1, h.2⟩

/-- Writing bytes keeps the canonical form. -/
theorem State.canonical_setBytes (s : State) (o k : Nat) (l : List Byte) (h : s.Canonical) : (s.setBytes o k l).Canonical := by
  induction l generalizing s k with
  | nil => exact h
  | cons b t ih => exact ih _ _ (s.canonical_setByte o k b h)

/-- A byte just written, and every other. -/
theorem State.byte_setByte (s : State) (o k o' k' : Nat) (b : Byte) :
    (s.setByte o k b).byte o' k' = if memKey o' k' = memKey o k then b else s.byte o' k' := by
  unfold State.byte State.setByte
  simp only [Tab.get_set]

/-- Two bytes of objects lie under one key only where object and offset are the same. -/
theorem memKey_inj {o k o' k' : Nat} (h : k < 2 ^ 40) (h' : k' < 2 ^ 40) : memKey o' k' = memKey o k ↔ o' = o ∧ k' = k := by
  unfold memKey
  rw [Nat.mod_eq_of_lt h, Nat.mod_eq_of_lt h']
  constructor
  · intro e
    have : o' = o := by omega
    subst this
    exact ⟨rfl, by omega⟩
  · rintro ⟨rfl, rfl⟩; rfl

/-- Reset is canonical. -/
theorem State.canonical_reset : State.reset.Canonical := ⟨Tab.wf_nil _, Tab.wf_nil _⟩

/-! ## Frames -/

theorem State.onlyIn_refl (s : State) (l : List Part) : s.OnlyIn l s := by
  intro p _; cases p <;> rfl

theorem State.OnlyIn.trans {s t u : State} {l : List Part} (h : s.OnlyIn l t) (k : t.OnlyIn l u) : s.OnlyIn l u := by
  intro p hp
  have a := h p hp
  have b := k p hp
  cases p <;> exact Eq.trans b a

end Sys2Proof.Machine
end

