-- ==== Sys2Proof/Laws/Ops.lean ====
section
/-! SUPPORT. What the shared operations leave as it was, field by field, where a case split is needed. -/

namespace Sys2Proof.Machine

open Sys2Proof

/-! ## State.noteIrq1 -/

theorem State.noteIrq1_eq (s : State) : ∃ x : Hosts, s.noteIrq1 = { s with hst := x } := by
  unfold State.noteIrq1
  split
  · exact ⟨s.hst, rfl⟩
  · split
    · exact ⟨_, rfl⟩
    · exact ⟨_, rfl⟩

@[simp] theorem State.noteIrq1_pins (s : State) : (s.noteIrq1).pins = s.pins := by
  obtain ⟨_, e⟩ := s.noteIrq1_eq; rw [e]
@[simp] theorem State.noteIrq1_pwr (s : State) : (s.noteIrq1).pwr = s.pwr := by
  obtain ⟨_, e⟩ := s.noteIrq1_eq; rw [e]
@[simp] theorem State.noteIrq1_units (s : State) : (s.noteIrq1).units = s.units := by
  obtain ⟨_, e⟩ := s.noteIrq1_eq; rw [e]
@[simp] theorem State.noteIrq1_fab (s : State) : (s.noteIrq1).fab = s.fab := by
  obtain ⟨_, e⟩ := s.noteIrq1_eq; rw [e]
@[simp] theorem State.noteIrq1_regs (s : State) : (s.noteIrq1).regs = s.regs := by
  obtain ⟨_, e⟩ := s.noteIrq1_eq; rw [e]
@[simp] theorem State.noteIrq1_mem (s : State) : (s.noteIrq1).mem = s.mem := by
  obtain ⟨_, e⟩ := s.noteIrq1_eq; rw [e]
@[simp] theorem State.noteIrq1_eth (s : State) : (s.noteIrq1).eth = s.eth := by
  obtain ⟨_, e⟩ := s.noteIrq1_eq; rw [e]
@[simp] theorem State.noteIrq1_cmp (s : State) : (s.noteIrq1).cmp = s.cmp := by
  obtain ⟨_, e⟩ := s.noteIrq1_eq; rw [e]
@[simp] theorem State.noteIrq1_rel (s : State) : (s.noteIrq1).rel = s.rel := by
  obtain ⟨_, e⟩ := s.noteIrq1_eq; rw [e]
@[simp] theorem State.noteIrq1_bed (s : State) : (s.noteIrq1).bed = s.bed := by
  obtain ⟨_, e⟩ := s.noteIrq1_eq; rw [e]
@[simp] theorem State.noteIrq1_prog (s : State) : (s.noteIrq1).prog = s.prog := by
  obtain ⟨_, e⟩ := s.noteIrq1_eq; rw [e]
@[simp] theorem State.noteIrq1_plc (s : State) : (s.noteIrq1).plc = s.plc := by
  obtain ⟨_, e⟩ := s.noteIrq1_eq; rw [e]
@[simp] theorem State.noteIrq1_chk (s : State) : (s.noteIrq1).chk = s.chk := by
  obtain ⟨_, e⟩ := s.noteIrq1_eq; rw [e]
@[simp] theorem State.noteIrq1_lin (s : State) : (s.noteIrq1).lin = s.lin := by
  obtain ⟨_, e⟩ := s.noteIrq1_eq; rw [e]
@[simp] theorem State.noteIrq1_rx (s : State) : (s.noteIrq1).rx = s.rx := by
  obtain ⟨_, e⟩ := s.noteIrq1_eq; rw [e]
@[simp] theorem State.noteIrq1_maps (s : State) : (s.noteIrq1).maps = s.maps := by
  obtain ⟨_, e⟩ := s.noteIrq1_eq; rw [e]
@[simp] theorem State.noteIrq1_mac (s : State) : (s.noteIrq1).mac = s.mac := by
  obtain ⟨_, e⟩ := s.noteIrq1_eq; rw [e]
@[simp] theorem State.noteIrq1_ldg (s : State) : (s.noteIrq1).ldg = s.ldg := by
  obtain ⟨_, e⟩ := s.noteIrq1_eq; rw [e]
@[simp] theorem State.noteIrq1_gl (s : State) : (s.noteIrq1).gl = s.gl := by
  obtain ⟨_, e⟩ := s.noteIrq1_eq; rw [e]
@[simp] theorem State.noteIrq1_fm (s : State) : (s.noteIrq1).fm = s.fm := by
  obtain ⟨_, e⟩ := s.noteIrq1_eq; rw [e]
@[simp] theorem State.noteIrq1_gs (s : State) : (s.noteIrq1).gs = s.gs := by
  obtain ⟨_, e⟩ := s.noteIrq1_eq; rw [e]
@[simp] theorem State.noteIrq1_cal (s : State) : (s.noteIrq1).cal = s.cal := by
  obtain ⟨_, e⟩ := s.noteIrq1_eq; rw [e]
@[simp] theorem State.noteIrq1_sec (s : State) : (s.noteIrq1).sec = s.sec := by
  obtain ⟨_, e⟩ := s.noteIrq1_eq; rw [e]
@[simp] theorem State.noteIrq1_tp (s : State) : (s.noteIrq1).tp = s.tp := by
  obtain ⟨_, e⟩ := s.noteIrq1_eq; rw [e]
@[simp] theorem State.noteIrq1_free (s : State) : (s.noteIrq1).free = s.free := by
  obtain ⟨_, e⟩ := s.noteIrq1_eq; rw [e]
@[simp] theorem State.noteIrq1_pending (s : State) : (s.noteIrq1).pending = s.pending := by
  obtain ⟨_, e⟩ := s.noteIrq1_eq; rw [e]

/-! ## State.completeAs -/

theorem State.completeAs_eq (s : State) (c : Src) (st : Status) (l : List (Nat × Nat)) (fl : Nat) : ∃ x : Hosts, s.completeAs c st l fl = { s with hst := x } := by
  cases c <;> simp only [State.completeAs] <;> first | exact ⟨s.hst, rfl⟩ | exact ⟨_, rfl⟩ | (split <;> exact ⟨_, rfl⟩)

@[simp] theorem State.completeAs_pins (s : State) (c : Src) (st : Status) (l : List (Nat × Nat)) (fl : Nat) : (s.completeAs c st l fl).pins = s.pins := by
  obtain ⟨_, e⟩ := s.completeAs_eq c st l fl; rw [e]
@[simp] theorem State.completeAs_pwr (s : State) (c : Src) (st : Status) (l : List (Nat × Nat)) (fl : Nat) : (s.completeAs c st l fl).pwr = s.pwr := by
  obtain ⟨_, e⟩ := s.completeAs_eq c st l fl; rw [e]
@[simp] theorem State.completeAs_units (s : State) (c : Src) (st : Status) (l : List (Nat × Nat)) (fl : Nat) : (s.completeAs c st l fl).units = s.units := by
  obtain ⟨_, e⟩ := s.completeAs_eq c st l fl; rw [e]
@[simp] theorem State.completeAs_fab (s : State) (c : Src) (st : Status) (l : List (Nat × Nat)) (fl : Nat) : (s.completeAs c st l fl).fab = s.fab := by
  obtain ⟨_, e⟩ := s.completeAs_eq c st l fl; rw [e]
@[simp] theorem State.completeAs_regs (s : State) (c : Src) (st : Status) (l : List (Nat × Nat)) (fl : Nat) : (s.completeAs c st l fl).regs = s.regs := by
  obtain ⟨_, e⟩ := s.completeAs_eq c st l fl; rw [e]
@[simp] theorem State.completeAs_mem (s : State) (c : Src) (st : Status) (l : List (Nat × Nat)) (fl : Nat) : (s.completeAs c st l fl).mem = s.mem := by
  obtain ⟨_, e⟩ := s.completeAs_eq c st l fl; rw [e]
@[simp] theorem State.completeAs_eth (s : State) (c : Src) (st : Status) (l : List (Nat × Nat)) (fl : Nat) : (s.completeAs c st l fl).eth = s.eth := by
  obtain ⟨_, e⟩ := s.completeAs_eq c st l fl; rw [e]
@[simp] theorem State.completeAs_cmp (s : State) (c : Src) (st : Status) (l : List (Nat × Nat)) (fl : Nat) : (s.completeAs c st l fl).cmp = s.cmp := by
  obtain ⟨_, e⟩ := s.completeAs_eq c st l fl; rw [e]
@[simp] theorem State.completeAs_rel (s : State) (c : Src) (st : Status) (l : List (Nat × Nat)) (fl : Nat) : (s.completeAs c st l fl).rel = s.rel := by
  obtain ⟨_, e⟩ := s.completeAs_eq c st l fl; rw [e]
@[simp] theorem State.completeAs_bed (s : State) (c : Src) (st : Status) (l : List (Nat × Nat)) (fl : Nat) : (s.completeAs c st l fl).bed = s.bed := by
  obtain ⟨_, e⟩ := s.completeAs_eq c st l fl; rw [e]
@[simp] theorem State.completeAs_prog (s : State) (c : Src) (st : Status) (l : List (Nat × Nat)) (fl : Nat) : (s.completeAs c st l fl).prog = s.prog := by
  obtain ⟨_, e⟩ := s.completeAs_eq c st l fl; rw [e]
@[simp] theorem State.completeAs_plc (s : State) (c : Src) (st : Status) (l : List (Nat × Nat)) (fl : Nat) : (s.completeAs c st l fl).plc = s.plc := by
  obtain ⟨_, e⟩ := s.completeAs_eq c st l fl; rw [e]
@[simp] theorem State.completeAs_chk (s : State) (c : Src) (st : Status) (l : List (Nat × Nat)) (fl : Nat) : (s.completeAs c st l fl).chk = s.chk := by
  obtain ⟨_, e⟩ := s.completeAs_eq c st l fl; rw [e]
@[simp] theorem State.completeAs_lin (s : State) (c : Src) (st : Status) (l : List (Nat × Nat)) (fl : Nat) : (s.completeAs c st l fl).lin = s.lin := by
  obtain ⟨_, e⟩ := s.completeAs_eq c st l fl; rw [e]
@[simp] theorem State.completeAs_rx (s : State) (c : Src) (st : Status) (l : List (Nat × Nat)) (fl : Nat) : (s.completeAs c st l fl).rx = s.rx := by
  obtain ⟨_, e⟩ := s.completeAs_eq c st l fl; rw [e]
@[simp] theorem State.completeAs_maps (s : State) (c : Src) (st : Status) (l : List (Nat × Nat)) (fl : Nat) : (s.completeAs c st l fl).maps = s.maps := by
  obtain ⟨_, e⟩ := s.completeAs_eq c st l fl; rw [e]
@[simp] theorem State.completeAs_mac (s : State) (c : Src) (st : Status) (l : List (Nat × Nat)) (fl : Nat) : (s.completeAs c st l fl).mac = s.mac := by
  obtain ⟨_, e⟩ := s.completeAs_eq c st l fl; rw [e]
@[simp] theorem State.completeAs_ldg (s : State) (c : Src) (st : Status) (l : List (Nat × Nat)) (fl : Nat) : (s.completeAs c st l fl).ldg = s.ldg := by
  obtain ⟨_, e⟩ := s.completeAs_eq c st l fl; rw [e]
@[simp] theorem State.completeAs_gl (s : State) (c : Src) (st : Status) (l : List (Nat × Nat)) (fl : Nat) : (s.completeAs c st l fl).gl = s.gl := by
  obtain ⟨_, e⟩ := s.completeAs_eq c st l fl; rw [e]
@[simp] theorem State.completeAs_fm (s : State) (c : Src) (st : Status) (l : List (Nat × Nat)) (fl : Nat) : (s.completeAs c st l fl).fm = s.fm := by
  obtain ⟨_, e⟩ := s.completeAs_eq c st l fl; rw [e]
@[simp] theorem State.completeAs_gs (s : State) (c : Src) (st : Status) (l : List (Nat × Nat)) (fl : Nat) : (s.completeAs c st l fl).gs = s.gs := by
  obtain ⟨_, e⟩ := s.completeAs_eq c st l fl; rw [e]
@[simp] theorem State.completeAs_cal (s : State) (c : Src) (st : Status) (l : List (Nat × Nat)) (fl : Nat) : (s.completeAs c st l fl).cal = s.cal := by
  obtain ⟨_, e⟩ := s.completeAs_eq c st l fl; rw [e]
@[simp] theorem State.completeAs_sec (s : State) (c : Src) (st : Status) (l : List (Nat × Nat)) (fl : Nat) : (s.completeAs c st l fl).sec = s.sec := by
  obtain ⟨_, e⟩ := s.completeAs_eq c st l fl; rw [e]
@[simp] theorem State.completeAs_tp (s : State) (c : Src) (st : Status) (l : List (Nat × Nat)) (fl : Nat) : (s.completeAs c st l fl).tp = s.tp := by
  obtain ⟨_, e⟩ := s.completeAs_eq c st l fl; rw [e]
@[simp] theorem State.completeAs_free (s : State) (c : Src) (st : Status) (l : List (Nat × Nat)) (fl : Nat) : (s.completeAs c st l fl).free = s.free := by
  obtain ⟨_, e⟩ := s.completeAs_eq c st l fl; rw [e]
@[simp] theorem State.completeAs_pending (s : State) (c : Src) (st : Status) (l : List (Nat × Nat)) (fl : Nat) : (s.completeAs c st l fl).pending = s.pending := by
  obtain ⟨_, e⟩ := s.completeAs_eq c st l fl; rw [e]

/-! ## State.complete -/

theorem State.complete_eq (s : State) (c : Src) (st : Status) (l : List (Nat × Nat)) : ∃ x : Hosts, s.complete c st l = { s with hst := x } := by
  exact s.completeAs_eq c st l 0

@[simp] theorem State.complete_pins (s : State) (c : Src) (st : Status) (l : List (Nat × Nat)) : (s.complete c st l).pins = s.pins := by
  obtain ⟨_, e⟩ := s.complete_eq c st l; rw [e]
@[simp] theorem State.complete_pwr (s : State) (c : Src) (st : Status) (l : List (Nat × Nat)) : (s.complete c st l).pwr = s.pwr := by
  obtain ⟨_, e⟩ := s.complete_eq c st l; rw [e]
@[simp] theorem State.complete_units (s : State) (c : Src) (st : Status) (l : List (Nat × Nat)) : (s.complete c st l).units = s.units := by
  obtain ⟨_, e⟩ := s.complete_eq c st l; rw [e]
@[simp] theorem State.complete_fab (s : State) (c : Src) (st : Status) (l : List (Nat × Nat)) : (s.complete c st l).fab = s.fab := by
  obtain ⟨_, e⟩ := s.complete_eq c st l; rw [e]
@[simp] theorem State.complete_regs (s : State) (c : Src) (st : Status) (l : List (Nat × Nat)) : (s.complete c st l).regs = s.regs := by
  obtain ⟨_, e⟩ := s.complete_eq c st l; rw [e]
@[simp] theorem State.complete_mem (s : State) (c : Src) (st : Status) (l : List (Nat × Nat)) : (s.complete c st l).mem = s.mem := by
  obtain ⟨_, e⟩ := s.complete_eq c st l; rw [e]
@[simp] theorem State.complete_eth (s : State) (c : Src) (st : Status) (l : List (Nat × Nat)) : (s.complete c st l).eth = s.eth := by
  obtain ⟨_, e⟩ := s.complete_eq c st l; rw [e]
@[simp] theorem State.complete_cmp (s : State) (c : Src) (st : Status) (l : List (Nat × Nat)) : (s.complete c st l).cmp = s.cmp := by
  obtain ⟨_, e⟩ := s.complete_eq c st l; rw [e]
@[simp] theorem State.complete_rel (s : State) (c : Src) (st : Status) (l : List (Nat × Nat)) : (s.complete c st l).rel = s.rel := by
  obtain ⟨_, e⟩ := s.complete_eq c st l; rw [e]
@[simp] theorem State.complete_bed (s : State) (c : Src) (st : Status) (l : List (Nat × Nat)) : (s.complete c st l).bed = s.bed := by
  obtain ⟨_, e⟩ := s.complete_eq c st l; rw [e]
@[simp] theorem State.complete_prog (s : State) (c : Src) (st : Status) (l : List (Nat × Nat)) : (s.complete c st l).prog = s.prog := by
  obtain ⟨_, e⟩ := s.complete_eq c st l; rw [e]
@[simp] theorem State.complete_plc (s : State) (c : Src) (st : Status) (l : List (Nat × Nat)) : (s.complete c st l).plc = s.plc := by
  obtain ⟨_, e⟩ := s.complete_eq c st l; rw [e]
@[simp] theorem State.complete_chk (s : State) (c : Src) (st : Status) (l : List (Nat × Nat)) : (s.complete c st l).chk = s.chk := by
  obtain ⟨_, e⟩ := s.complete_eq c st l; rw [e]
@[simp] theorem State.complete_lin (s : State) (c : Src) (st : Status) (l : List (Nat × Nat)) : (s.complete c st l).lin = s.lin := by
  obtain ⟨_, e⟩ := s.complete_eq c st l; rw [e]
@[simp] theorem State.complete_rx (s : State) (c : Src) (st : Status) (l : List (Nat × Nat)) : (s.complete c st l).rx = s.rx := by
  obtain ⟨_, e⟩ := s.complete_eq c st l; rw [e]
@[simp] theorem State.complete_maps (s : State) (c : Src) (st : Status) (l : List (Nat × Nat)) : (s.complete c st l).maps = s.maps := by
  obtain ⟨_, e⟩ := s.complete_eq c st l; rw [e]
@[simp] theorem State.complete_mac (s : State) (c : Src) (st : Status) (l : List (Nat × Nat)) : (s.complete c st l).mac = s.mac := by
  obtain ⟨_, e⟩ := s.complete_eq c st l; rw [e]
@[simp] theorem State.complete_ldg (s : State) (c : Src) (st : Status) (l : List (Nat × Nat)) : (s.complete c st l).ldg = s.ldg := by
  obtain ⟨_, e⟩ := s.complete_eq c st l; rw [e]
@[simp] theorem State.complete_gl (s : State) (c : Src) (st : Status) (l : List (Nat × Nat)) : (s.complete c st l).gl = s.gl := by
  obtain ⟨_, e⟩ := s.complete_eq c st l; rw [e]
@[simp] theorem State.complete_fm (s : State) (c : Src) (st : Status) (l : List (Nat × Nat)) : (s.complete c st l).fm = s.fm := by
  obtain ⟨_, e⟩ := s.complete_eq c st l; rw [e]
@[simp] theorem State.complete_gs (s : State) (c : Src) (st : Status) (l : List (Nat × Nat)) : (s.complete c st l).gs = s.gs := by
  obtain ⟨_, e⟩ := s.complete_eq c st l; rw [e]
@[simp] theorem State.complete_cal (s : State) (c : Src) (st : Status) (l : List (Nat × Nat)) : (s.complete c st l).cal = s.cal := by
  obtain ⟨_, e⟩ := s.complete_eq c st l; rw [e]
@[simp] theorem State.complete_sec (s : State) (c : Src) (st : Status) (l : List (Nat × Nat)) : (s.complete c st l).sec = s.sec := by
  obtain ⟨_, e⟩ := s.complete_eq c st l; rw [e]
@[simp] theorem State.complete_tp (s : State) (c : Src) (st : Status) (l : List (Nat × Nat)) : (s.complete c st l).tp = s.tp := by
  obtain ⟨_, e⟩ := s.complete_eq c st l; rw [e]
@[simp] theorem State.complete_free (s : State) (c : Src) (st : Status) (l : List (Nat × Nat)) : (s.complete c st l).free = s.free := by
  obtain ⟨_, e⟩ := s.complete_eq c st l; rw [e]
@[simp] theorem State.complete_pending (s : State) (c : Src) (st : Status) (l : List (Nat × Nat)) : (s.complete c st l).pending = s.pending := by
  obtain ⟨_, e⟩ := s.complete_eq c st l; rw [e]

/-! ## State.startDrain -/

theorem State.startDrain_eq (s : State) (i : Nat) (w : DrainWhy) : ∃ x : Units, s.startDrain i w = { s with units := x } := by
  unfold State.startDrain
  split
  · exact ⟨_, rfl⟩
  · exact ⟨s.units, rfl⟩

@[simp] theorem State.startDrain_pins (s : State) (i : Nat) (w : DrainWhy) : (s.startDrain i w).pins = s.pins := by
  obtain ⟨_, e⟩ := s.startDrain_eq i w; rw [e]
@[simp] theorem State.startDrain_pwr (s : State) (i : Nat) (w : DrainWhy) : (s.startDrain i w).pwr = s.pwr := by
  obtain ⟨_, e⟩ := s.startDrain_eq i w; rw [e]
@[simp] theorem State.startDrain_fab (s : State) (i : Nat) (w : DrainWhy) : (s.startDrain i w).fab = s.fab := by
  obtain ⟨_, e⟩ := s.startDrain_eq i w; rw [e]
@[simp] theorem State.startDrain_regs (s : State) (i : Nat) (w : DrainWhy) : (s.startDrain i w).regs = s.regs := by
  obtain ⟨_, e⟩ := s.startDrain_eq i w; rw [e]
@[simp] theorem State.startDrain_mem (s : State) (i : Nat) (w : DrainWhy) : (s.startDrain i w).mem = s.mem := by
  obtain ⟨_, e⟩ := s.startDrain_eq i w; rw [e]
@[simp] theorem State.startDrain_hst (s : State) (i : Nat) (w : DrainWhy) : (s.startDrain i w).hst = s.hst := by
  obtain ⟨_, e⟩ := s.startDrain_eq i w; rw [e]
@[simp] theorem State.startDrain_eth (s : State) (i : Nat) (w : DrainWhy) : (s.startDrain i w).eth = s.eth := by
  obtain ⟨_, e⟩ := s.startDrain_eq i w; rw [e]
@[simp] theorem State.startDrain_cmp (s : State) (i : Nat) (w : DrainWhy) : (s.startDrain i w).cmp = s.cmp := by
  obtain ⟨_, e⟩ := s.startDrain_eq i w; rw [e]
@[simp] theorem State.startDrain_rel (s : State) (i : Nat) (w : DrainWhy) : (s.startDrain i w).rel = s.rel := by
  obtain ⟨_, e⟩ := s.startDrain_eq i w; rw [e]
@[simp] theorem State.startDrain_bed (s : State) (i : Nat) (w : DrainWhy) : (s.startDrain i w).bed = s.bed := by
  obtain ⟨_, e⟩ := s.startDrain_eq i w; rw [e]
@[simp] theorem State.startDrain_prog (s : State) (i : Nat) (w : DrainWhy) : (s.startDrain i w).prog = s.prog := by
  obtain ⟨_, e⟩ := s.startDrain_eq i w; rw [e]
@[simp] theorem State.startDrain_plc (s : State) (i : Nat) (w : DrainWhy) : (s.startDrain i w).plc = s.plc := by
  obtain ⟨_, e⟩ := s.startDrain_eq i w; rw [e]
@[simp] theorem State.startDrain_chk (s : State) (i : Nat) (w : DrainWhy) : (s.startDrain i w).chk = s.chk := by
  obtain ⟨_, e⟩ := s.startDrain_eq i w; rw [e]
@[simp] theorem State.startDrain_lin (s : State) (i : Nat) (w : DrainWhy) : (s.startDrain i w).lin = s.lin := by
  obtain ⟨_, e⟩ := s.startDrain_eq i w; rw [e]
@[simp] theorem State.startDrain_rx (s : State) (i : Nat) (w : DrainWhy) : (s.startDrain i w).rx = s.rx := by
  obtain ⟨_, e⟩ := s.startDrain_eq i w; rw [e]
@[simp] theorem State.startDrain_maps (s : State) (i : Nat) (w : DrainWhy) : (s.startDrain i w).maps = s.maps := by
  obtain ⟨_, e⟩ := s.startDrain_eq i w; rw [e]
@[simp] theorem State.startDrain_mac (s : State) (i : Nat) (w : DrainWhy) : (s.startDrain i w).mac = s.mac := by
  obtain ⟨_, e⟩ := s.startDrain_eq i w; rw [e]
@[simp] theorem State.startDrain_ldg (s : State) (i : Nat) (w : DrainWhy) : (s.startDrain i w).ldg = s.ldg := by
  obtain ⟨_, e⟩ := s.startDrain_eq i w; rw [e]
@[simp] theorem State.startDrain_gl (s : State) (i : Nat) (w : DrainWhy) : (s.startDrain i w).gl = s.gl := by
  obtain ⟨_, e⟩ := s.startDrain_eq i w; rw [e]
@[simp] theorem State.startDrain_fm (s : State) (i : Nat) (w : DrainWhy) : (s.startDrain i w).fm = s.fm := by
  obtain ⟨_, e⟩ := s.startDrain_eq i w; rw [e]
@[simp] theorem State.startDrain_gs (s : State) (i : Nat) (w : DrainWhy) : (s.startDrain i w).gs = s.gs := by
  obtain ⟨_, e⟩ := s.startDrain_eq i w; rw [e]
@[simp] theorem State.startDrain_cal (s : State) (i : Nat) (w : DrainWhy) : (s.startDrain i w).cal = s.cal := by
  obtain ⟨_, e⟩ := s.startDrain_eq i w; rw [e]
@[simp] theorem State.startDrain_sec (s : State) (i : Nat) (w : DrainWhy) : (s.startDrain i w).sec = s.sec := by
  obtain ⟨_, e⟩ := s.startDrain_eq i w; rw [e]
@[simp] theorem State.startDrain_tp (s : State) (i : Nat) (w : DrainWhy) : (s.startDrain i w).tp = s.tp := by
  obtain ⟨_, e⟩ := s.startDrain_eq i w; rw [e]
@[simp] theorem State.startDrain_free (s : State) (i : Nat) (w : DrainWhy) : (s.startDrain i w).free = s.free := by
  obtain ⟨_, e⟩ := s.startDrain_eq i w; rw [e]
@[simp] theorem State.startDrain_pending (s : State) (i : Nat) (w : DrainWhy) : (s.startDrain i w).pending = s.pending := by
  obtain ⟨_, e⟩ := s.startDrain_eq i w; rw [e]

/-! ## Transactions -/

theorem State.setTags_eq (s : State) (i n : Nat) :
    ∃ f r, s.setTags i n = { s with fab := f, regs := r } ∧ f.flight = s.fab.flight := by
  unfold State.setTags State.noteLow
  split <;> exact ⟨_, _, rfl, rfl⟩

/-- The buffers of a channel freed, where a transfer comes from one, change the fabric's books only. -/
theorem State.freeBack_eq (s : State) (l : Option Nat) (n : Nat) : ∃ f, s.freeBack l n = { s with fab := f } ∧ f.flight = s.fab.flight := by
  unfold State.freeBack
  split <;> exact ⟨_, rfl, rfl⟩

theorem State.takeSlot_eq (s : State) (pc : Option Nat) : ∃ f, s.takeSlot pc = { s with fab := f } ∧ f.flight = s.fab.flight := by
  unfold State.takeSlot
  split
  · exact ⟨_, rfl, rfl⟩
  · split <;> exact ⟨_, rfl, rfl⟩

/-- A request that moves on changes the fabric's books only; what is in flight stays. -/
theorem State.push_eq (l : List Nat) (s : State) (x : Txn) : ∃ f, (s.push x l).1 = { s with fab := f } ∧ f.flight = s.fab.flight := by
  induction l generalizing s x with
  | nil =>
    obtain ⟨f, e, h⟩ := s.freeBack_eq x.back x.reqN
    obtain ⟨g, e', h'⟩ := State.takeSlot_eq (s.freeBack x.back x.reqN) x.pc
    refine ⟨g, ?_, ?_⟩
    · unfold State.push; dsimp only; rw [e', e]
    · rw [h', e]; exact h
  | cons a t ih =>
    obtain ⟨f, e, h⟩ := (s.sendOn a (min (s.creditsHeld a) (x.reqN - x.moved))).freeBack_eq x.back (min (s.creditsHeld a) (x.reqN - x.moved))
    have e2 : (s.sendOn a (min (s.creditsHeld a) (x.reqN - x.moved))).freeBack x.back (min (s.creditsHeld a) (x.reqN - x.moved)) =
        { s with fab := f } := by rw [e]; rfl
    unfold State.push
    dsimp only
    split
    · exact ⟨f, e2, h⟩
    · obtain ⟨g, e', h'⟩ := ih ((s.sendOn a (min (s.creditsHeld a) (x.reqN - x.moved))).freeBack x.back (min (s.creditsHeld a) (x.reqN - x.moved)))
        { x with moved := 0, back := some a }
      refine ⟨g, ?_, ?_⟩
      · rw [e', e2]
      · rw [h', e2]; exact h

theorem State.respond_eq (l : List Nat) (s : State) (n : Nat) : ∃ f, s.respond n l = { s with fab := f } := by
  induction l generalizing s with
  | nil => exact ⟨_, rfl⟩
  | cons a t ih =>
    obtain ⟨f, e⟩ := ih ((s.sendOn a n).freeBufs a n)
    exact ⟨f, by unfold State.respond; rw [e]; rfl⟩

/-- A transaction that ends changes the fabric's books and the low-water mark of the tags, nothing else. -/
theorem State.land_eq (s : State) (x : Txn) : ∃ f r, s.land x = { s with fab := f, regs := r } := by
  obtain ⟨f, r, e, _⟩ := s.setTags_eq x.init (s.tagsHeld x.init - 1)
  have h : ∃ g, (s.setTags x.init (s.tagsHeld x.init - 1)).freeRequest x = { s with fab := g, regs := r } := by
    unfold State.freeRequest
    rw [e]
    split
    · exact ⟨_, rfl⟩
    · rename_i l _ _
      obtain ⟨g, e', _⟩ := (({ s with fab := f, regs := r } : State).freeBufs l x.moved).freeBack_eq x.back (x.reqN - x.moved)
      exact ⟨g, by rw [e']; rfl⟩
  obtain ⟨g, e'⟩ := h
  unfold State.land
  dsimp only
  rw [e']
  split
  · split <;> exact ⟨_, _, rfl⟩
  · exact ⟨_, _, rfl⟩

/-! ## State.touchTag -/

/-- Of the registers, the tags change SYS_TAG_FREE only. -/
theorem State.setTags_reg (s : State) (i n : Nat) {r : Reg} {j : Nat} (h : ¬(r = .SYS_TAG_FREE ∧ j = 0)) : (s.setTags i n).reg r j = s.reg r j := by
  unfold State.setTags State.noteLow
  split
  · rw [State.reg_setFld, if_neg h]; rfl
  · rfl

/-- A tag drawn and returned within one command changes the fabric's books and the low-water mark, nothing else. -/
theorem State.touchTag_eq (s : State) (i : Nat) : ∃ f r, s.touchTag i = { s with fab := f, regs := r } := by
  unfold State.touchTag
  split
  · obtain ⟨_, _, e, _⟩ := s.setTags_eq i (s.tagsHeld i + 1)
    obtain ⟨_, _, e', _⟩ := (s.setTags i (s.tagsHeld i + 1)).setTags_eq i (s.tagsHeld i)
    rw [e', e]
    exact ⟨_, _, rfl⟩
  · exact ⟨_, _, rfl⟩

theorem State.touchTag_reg (s : State) (i : Nat) {r : Reg} {j : Nat} (h : ¬(r = .SYS_TAG_FREE ∧ j = 0)) : (s.touchTag i).reg r j = s.reg r j := by
  unfold State.touchTag
  split
  · rw [State.setTags_reg _ _ _ h, State.setTags_reg _ _ _ h]
  · rfl

/-- A transaction put in flight changes the fabric's books and the low-water mark of the tags, and adds itself to what is in flight. -/
theorem State.startTxn_eq (s : State) (i : Nat) (pc : Option Nat) (a reqN respN : Nat) (kind : TxnKind) :
    ∃ f r, s.startTxn i pc a reqN respN kind = { s with fab := f, regs := r } ∧ f.flight.length = s.fab.flight.length + 1 := by
  obtain ⟨f, r, e, h⟩ := s.setTags_eq i (s.tagsHeld i + 1)
  obtain ⟨g, e', h'⟩ := State.push_eq (s.links (initStop i) a 0) (s.setTags i (s.tagsHeld i + 1))
    { id := s.fab.nextId, init := i, pc := pc, admitted := false, reqN := reqN, respN := respN, left := s.links (initStop i) a 0, moved := 0,
      back := none, resp := s.links a (initStop i) 1, kind := kind }
  have h2 : g.flight = s.fab.flight := by rw [h', e]; exact h
  unfold State.startTxn
  dsimp only
  rw [e', e]
  exact ⟨_, r, rfl, by simp [h2]⟩

@[simp] theorem State.touchTag_pins (s : State) (i : Nat) : (s.touchTag i).pins = s.pins := by
  obtain ⟨_, _, e⟩ := s.touchTag_eq i; rw [e]
@[simp] theorem State.touchTag_pwr (s : State) (i : Nat) : (s.touchTag i).pwr = s.pwr := by
  obtain ⟨_, _, e⟩ := s.touchTag_eq i; rw [e]
@[simp] theorem State.touchTag_units (s : State) (i : Nat) : (s.touchTag i).units = s.units := by
  obtain ⟨_, _, e⟩ := s.touchTag_eq i; rw [e]
@[simp] theorem State.touchTag_mem (s : State) (i : Nat) : (s.touchTag i).mem = s.mem := by
  obtain ⟨_, _, e⟩ := s.touchTag_eq i; rw [e]
@[simp] theorem State.touchTag_hst (s : State) (i : Nat) : (s.touchTag i).hst = s.hst := by
  obtain ⟨_, _, e⟩ := s.touchTag_eq i; rw [e]
@[simp] theorem State.touchTag_eth (s : State) (i : Nat) : (s.touchTag i).eth = s.eth := by
  obtain ⟨_, _, e⟩ := s.touchTag_eq i; rw [e]
@[simp] theorem State.touchTag_cmp (s : State) (i : Nat) : (s.touchTag i).cmp = s.cmp := by
  obtain ⟨_, _, e⟩ := s.touchTag_eq i; rw [e]
@[simp] theorem State.touchTag_rel (s : State) (i : Nat) : (s.touchTag i).rel = s.rel := by
  obtain ⟨_, _, e⟩ := s.touchTag_eq i; rw [e]
@[simp] theorem State.touchTag_bed (s : State) (i : Nat) : (s.touchTag i).bed = s.bed := by
  obtain ⟨_, _, e⟩ := s.touchTag_eq i; rw [e]
@[simp] theorem State.touchTag_prog (s : State) (i : Nat) : (s.touchTag i).prog = s.prog := by
  obtain ⟨_, _, e⟩ := s.touchTag_eq i; rw [e]
@[simp] theorem State.touchTag_plc (s : State) (i : Nat) : (s.touchTag i).plc = s.plc := by
  obtain ⟨_, _, e⟩ := s.touchTag_eq i; rw [e]
@[simp] theorem State.touchTag_chk (s : State) (i : Nat) : (s.touchTag i).chk = s.chk := by
  obtain ⟨_, _, e⟩ := s.touchTag_eq i; rw [e]
@[simp] theorem State.touchTag_lin (s : State) (i : Nat) : (s.touchTag i).lin = s.lin := by
  obtain ⟨_, _, e⟩ := s.touchTag_eq i; rw [e]
@[simp] theorem State.touchTag_rx (s : State) (i : Nat) : (s.touchTag i).rx = s.rx := by
  obtain ⟨_, _, e⟩ := s.touchTag_eq i; rw [e]
@[simp] theorem State.touchTag_maps (s : State) (i : Nat) : (s.touchTag i).maps = s.maps := by
  obtain ⟨_, _, e⟩ := s.touchTag_eq i; rw [e]
@[simp] theorem State.touchTag_mac (s : State) (i : Nat) : (s.touchTag i).mac = s.mac := by
  obtain ⟨_, _, e⟩ := s.touchTag_eq i; rw [e]
@[simp] theorem State.touchTag_ldg (s : State) (i : Nat) : (s.touchTag i).ldg = s.ldg := by
  obtain ⟨_, _, e⟩ := s.touchTag_eq i; rw [e]
@[simp] theorem State.touchTag_gl (s : State) (i : Nat) : (s.touchTag i).gl = s.gl := by
  obtain ⟨_, _, e⟩ := s.touchTag_eq i; rw [e]
@[simp] theorem State.touchTag_fm (s : State) (i : Nat) : (s.touchTag i).fm = s.fm := by
  obtain ⟨_, _, e⟩ := s.touchTag_eq i; rw [e]
@[simp] theorem State.touchTag_gs (s : State) (i : Nat) : (s.touchTag i).gs = s.gs := by
  obtain ⟨_, _, e⟩ := s.touchTag_eq i; rw [e]
@[simp] theorem State.touchTag_cal (s : State) (i : Nat) : (s.touchTag i).cal = s.cal := by
  obtain ⟨_, _, e⟩ := s.touchTag_eq i; rw [e]
@[simp] theorem State.touchTag_sec (s : State) (i : Nat) : (s.touchTag i).sec = s.sec := by
  obtain ⟨_, _, e⟩ := s.touchTag_eq i; rw [e]
@[simp] theorem State.touchTag_tp (s : State) (i : Nat) : (s.touchTag i).tp = s.tp := by
  obtain ⟨_, _, e⟩ := s.touchTag_eq i; rw [e]
@[simp] theorem State.touchTag_free (s : State) (i : Nat) : (s.touchTag i).free = s.free := by
  obtain ⟨_, _, e⟩ := s.touchTag_eq i; rw [e]
@[simp] theorem State.touchTag_pending (s : State) (i : Nat) : (s.touchTag i).pending = s.pending := by
  obtain ⟨_, _, e⟩ := s.touchTag_eq i; rw [e]

end Sys2Proof.Machine
end

