-- ==== Sys2Proof/Laws/Fabric.lean ====
section
/-! SUPPORT. What the books of the fabric do: slots, credits, requests that move on. -/

namespace Sys2Proof.Machine

open Sys2Proof

/-! ## Credits -/

theorem State.creditsHeld_eq (s : State) (l : Nat) : s.creditsHeld l = 8 - s.creditsUsed l := rfl

/-- Transfers sent take a credit each, as far as the sender holds credits. -/
theorem State.sendOn_used (s : State) (l n q : Nat) :
    (s.sendOn l n).creditsUsed q = s.creditsUsed q + if q = l then min n (s.creditsHeld l) else 0 := by
  unfold State.creditsUsed
  simp only [State.sendOn, State.occupied, State.returning, Tab.get_set]
  split
  · rename_i e; subst e; omega
  · rfl

/-- Buffers freed put their credits on the way back; they stay in use until the sender has them. -/
theorem State.freeBufs_used (s : State) (l n q : Nat) : (s.freeBufs l n).creditsUsed q = s.creditsUsed q := by
  unfold State.creditsUsed
  simp only [State.freeBufs, State.occupied, State.returning, Tab.get_set]
  split
  · rename_i e; subst e; omega
  · rfl

theorem State.freeBack_used (s : State) (l : Option Nat) (n q : Nat) : (s.freeBack l n).creditsUsed q = s.creditsUsed q := by
  unfold State.freeBack
  split
  · rfl
  · exact s.freeBufs_used _ n q

theorem State.freeBack_pcBusy (s : State) (l : Option Nat) (n q : Nat) : (s.freeBack l n).pcBusy q = s.pcBusy q := by
  unfold State.freeBack; split <;> rfl

/-- Whether a slot is free looks at the slots, the stacks and what waits. -/
theorem State.slotFree_congr {s t : State} (h1 : ∀ q, t.pcBusy q = s.pcBusy q) (h2 : t.plc = s.plc) (h3 : t.fab.flight = s.fab.flight) (p : Option Nat) :
    t.slotFree p = s.slotFree p := by
  unfold State.slotFree State.stackOpen State.oldestWaiting
  cases p with
  | none => rfl
  | some p => simp only [h1, h2, h3]

/-- A slot is taken where one is free. -/
theorem State.takeSlot_pcBusy (s : State) (p : Nat) : (s.takeSlot (some p)).pcBusy p = s.pcBusy p + if s.slotFree (some p) = true then 1 else 0 := by
  unfold State.takeSlot
  dsimp only
  split
  · simp only [State.setPcBusy, State.pcBusy]; rw [Tab.get_set_same]
  · rfl

/-- A request that moves on either arrives, and takes a slot where one is free, or waits for credits and takes none (R29, R30). -/
theorem State.push_slot (p : Nat) (l : List Nat) (s : State) (x : Txn) (hx : x.pc = some p) (ha : x.admitted = false) :
    ((s.push x l).2.left = [] ∧ (s.push x l).2.admitted = s.slotFree (some p) ∧
      (s.push x l).1.pcBusy p = s.pcBusy p + if s.slotFree (some p) = true then 1 else 0) ∨
    ((s.push x l).2.left ≠ [] ∧ (s.push x l).2.admitted = false ∧ (s.push x l).1.pcBusy p = s.pcBusy p) := by
  induction l generalizing s x with
  | nil =>
    have hc : (s.freeBack x.back x.reqN).slotFree (some p) = s.slotFree (some p) :=
      State.slotFree_congr (s.freeBack_pcBusy _ _) (by obtain ⟨f, e, _⟩ := s.freeBack_eq x.back x.reqN; rw [e])
        (by obtain ⟨f, e, h⟩ := s.freeBack_eq x.back x.reqN; rw [e]; exact h) _
    refine .inl ⟨rfl, ?_, ?_⟩
    · unfold State.push; dsimp only; rw [hx, hc]
    · unfold State.push; dsimp only; rw [hx, State.takeSlot_pcBusy, hc, s.freeBack_pcBusy]
  | cons a t ih =>
    unfold State.push
    dsimp only
    split
    · refine .inr ⟨by simp, ha, ?_⟩
      rw [State.freeBack_pcBusy]; rfl
    · have hb : ∀ q, ((s.sendOn a (min (s.creditsHeld a) (x.reqN - x.moved))).freeBack x.back (min (s.creditsHeld a) (x.reqN - x.moved))).pcBusy q =
          s.pcBusy q := fun q => by rw [State.freeBack_pcBusy]; rfl
      obtain ⟨f, e, h⟩ := (s.sendOn a (min (s.creditsHeld a) (x.reqN - x.moved))).freeBack_eq x.back (min (s.creditsHeld a) (x.reqN - x.moved))
      have hc : ((s.sendOn a (min (s.creditsHeld a) (x.reqN - x.moved))).freeBack x.back (min (s.creditsHeld a) (x.reqN - x.moved))).slotFree (some p) =
          s.slotFree (some p) := State.slotFree_congr hb (by rw [e]; rfl) (by rw [e]; exact h) _
      have := ih ((s.sendOn a (min (s.creditsHeld a) (x.reqN - x.moved))).freeBack x.back (min (s.creditsHeld a) (x.reqN - x.moved)))
        { x with moved := 0, back := some a } hx ha
      rw [hc, hb] at this
      exact this

/-- A request that finds no credit does not move, and no credit changes. -/
theorem State.push_stuck (s : State) (x : Txn) (l : Nat) (t : List Nat) (h : s.creditsHeld l = 0) (hm : x.moved < x.reqN) :
    (s.push x (l :: t)).2 = { x with left := l :: t } ∧ (∀ q, (s.push x (l :: t)).1.creditsUsed q = s.creditsUsed q) ∧
      (s.push x (l :: t)).1.fab.flight = s.fab.flight := by
  have h0 : min (s.creditsHeld l) (x.reqN - x.moved) = 0 := by omega
  refine ⟨?_, fun q => ?_, ?_⟩
  · unfold State.push
    rw [h0, if_pos (by omega)]; rfl
  · unfold State.push
    rw [h0, if_pos (by omega)]
    dsimp only
    rw [State.freeBack_used, State.sendOn_used]
    simp
  · obtain ⟨f, e, hf⟩ := s.push_eq (l :: t) x
    rw [e]; exact hf

/-! ## Requests that wait for a channel -/

theorem State.setTxn_self (s : State) (x : Txn) (hx : x ∈ s.fab.flight) (hn : (s.fab.flight.map Txn.id).Nodup) :
    (s.setTxn x).fab.flight = s.fab.flight := by
  show (s.fab.flight.map fun y => if y.id = x.id then x else y) = s.fab.flight
  conv => rhs; rw [← List.map_id s.fab.flight]
  apply List.map_congr_left
  intro y hy
  split
  · rename_i e
    exact (List.inj_on_of_nodup_map hn hy hx e).symm
  · rfl

/-- Requests that wait for another channel do not move. -/
theorem State.pushWaiting_skip (l : Nat) (a b : List Txn) (s : State) (h : ∀ y ∈ a, y.left.head? ≠ some l) :
    s.pushWaiting l (a ++ b) = s.pushWaiting l b := by
  induction a generalizing s with
  | nil => rfl
  | cons y a ih =>
    rw [List.cons_append, State.pushWaiting, if_neg (h y (List.mem_cons_self ..))]
    exact ih s fun z hz => h z (List.mem_cons_of_mem _ hz)

/-- Where the sender holds no credit, the requests that wait for the channel do not move. -/
theorem State.pushWaiting_stuck (l : Nat) (a : List Txn) (s : State) (h0 : s.creditsHeld l = 0) (ha : ∀ y ∈ a, y ∈ s.fab.flight)
    (hn : (s.fab.flight.map Txn.id).Nodup) (hm : ∀ y ∈ a, y.left.head? = some l → y.moved < y.reqN) :
    (s.pushWaiting l a).fab.flight = s.fab.flight ∧ (s.pushWaiting l a).creditsUsed l = s.creditsUsed l := by
  induction a generalizing s with
  | nil => exact ⟨rfl, rfl⟩
  | cons y a ih =>
    rw [State.pushWaiting]
    split
    · rename_i hy
      obtain ⟨t, ht⟩ : ∃ t, y.left = l :: t := by
        cases hl : y.left with
        | nil => rw [hl] at hy; cases hy
        | cons b t => rw [hl] at hy; cases hy; exact ⟨t, rfl⟩
      obtain ⟨e1, e2, e3⟩ := s.push_stuck y l t h0 (hm y (List.mem_cons_self ..) hy)
      have e4 : (s.push y (l :: t)).2 = y := by rw [e1, ← ht]
      have hf : ((s.push y y.left).1.setTxn (s.push y y.left).2).fab.flight = s.fab.flight := by
        rw [ht, e4, State.setTxn_self _ _ (by rw [e3]; exact ha y (List.mem_cons_self ..)) (by rw [e3]; exact hn), e3]
      have hu : ((s.push y y.left).1.setTxn (s.push y y.left).2).creditsUsed l = s.creditsUsed l := by
        rw [ht]; exact e2 l
      have := ih ((s.push y y.left).1.setTxn (s.push y y.left).2) (by rw [State.creditsHeld_eq, hu, ← State.creditsHeld_eq]; exact h0)
        (fun z hz => by rw [hf]; exact ha z (List.mem_cons_of_mem _ hz)) (by rw [hf]; exact hn)
        fun z hz => hm z (List.mem_cons_of_mem _ hz)
      exact ⟨this.1.trans hf, this.2.trans hu⟩
    · exact ih s h0 (fun z hz => ha z (List.mem_cons_of_mem _ hz)) hn fun z hz => hm z (List.mem_cons_of_mem _ hz)

end Sys2Proof.Machine
end

