-- ==== Sys2Proof/Laws/Keeps/Base.lean ====
section
/-! SUPPORT. What no command undoes: the waiting commands, the canonical form, the fuses. -/

namespace Sys2Proof.Machine

open Sys2Proof

structure State.Keeps (s t : State) : Prop where
  queue : t.pending = s.pending
  canon : s.Canonical → t.Canonical
  fuse : s.sec.fuse ≤ t.sec.fuse
  rollback : ∀ c, Tab.get (fun _ => 0) s.sec.rb c ≤ Tab.get (fun _ => 0) t.sec.rb c
  revoked : ∀ n, Tab.get (fun _ => false) s.sec.revoked n = true → Tab.get (fun _ => false) t.sec.revoked n = true
  slots : (∀ p, s.pcBusy p ≤ 32) → ∀ p, t.pcBusy p ≤ 32
  credits : (∀ l, s.creditsUsed l ≤ 8) → ∀ l, t.creditsUsed l ≤ 8

theorem State.Keeps.refl (s : State) : s.Keeps s := ⟨rfl, id, Nat.le_refl _, fun _ => Nat.le_refl _, fun _ => id, id, id⟩

theorem State.Keeps.upd {s0 s t : State} (h : s0.Keeps s) (e1 : t.pending = s.pending) (e2 : t.regs = s.regs) (e3 : t.mem = s.mem)
    (e4 : t.sec.fuse = s.sec.fuse) (e5 : t.sec.rb = s.sec.rb) (e6 : t.sec.revoked = s.sec.revoked)
    (e7 : t.fab.pcBusy = s.fab.pcBusy) (e8 : t.fab.occupied = s.fab.occupied) (e9 : t.fab.returning = s.fab.returning) : s0.Keeps t :=
  ⟨e1.trans h.queue, fun hc => by have := h.canon hc; unfold State.Canonical at this ⊢; rw [e2, e3]; exact this,
   by rw [e4]; exact h.fuse, by rw [e5]; exact h.rollback, by rw [e6]; exact h.revoked,
   fun hp p => by have := h.slots hp p; unfold State.pcBusy at this ⊢; rw [e7]; exact this,
   fun hp l => by have := h.credits hp l; unfold State.creditsUsed State.occupied State.returning at this ⊢; rw [e8, e9]; exact this⟩

/-- A record that keeps the registers, memory, queue, fabric and security part of a state keeps what the state keeps. -/
theorem State.Keeps.mk1 {s0 s : State} {pins pwr units hst eth cmp rel bed prog plc chk lin rx maps mac ldg gl fm gs cal tp free} :
    s0.Keeps (State.mk pins pwr units s.fab s.regs s.mem hst eth cmp rel bed prog plc chk lin rx maps mac ldg gl fm gs cal s.sec tp free s.pending) ↔ s0.Keeps s :=
  ⟨fun h => State.Keeps.upd h rfl rfl rfl rfl rfl rfl rfl rfl rfl, fun h => State.Keeps.upd h rfl rfl rfl rfl rfl rfl rfl rfl rfl⟩

/-- The same where the security part changes but for its fuses. -/
theorem State.Keeps.mk2 {s0 s : State} {pins pwr units hst eth cmp rel bed prog plc chk lin rx maps mac ldg gl fm gs cal lcRec kek swk challenge unlock bankB banks staged job owes xfer shelf caches tp free} :
    s0.Keeps (State.mk pins pwr units s.fab s.regs s.mem hst eth cmp rel bed prog plc chk lin rx maps mac ldg gl fm gs cal (Sec.mk s.sec.fuse s.sec.revoked s.sec.rb lcRec kek swk challenge unlock bankB banks staged job owes xfer shelf caches) tp free s.pending) ↔ s0.Keeps s :=
  ⟨fun h => State.Keeps.upd h rfl rfl rfl rfl rfl rfl rfl rfl rfl, fun h => State.Keeps.upd h rfl rfl rfl rfl rfl rfl rfl rfl rfl⟩

/-- The same where the fabric changes but for its slots and credits. -/
theorem State.Keeps.mk3 {s0 s : State} {pins pwr units held' waiting' flight' nextId' hst eth cmp rel bed prog plc chk lin rx maps mac ldg gl fm gs cal tp free} :
    s0.Keeps (State.mk pins pwr units (Fabric.mk held' waiting' flight' s.fab.occupied s.fab.returning s.fab.pcBusy nextId') s.regs s.mem hst eth cmp rel bed prog plc chk lin rx maps mac ldg gl fm gs cal s.sec tp free s.pending) ↔ s0.Keeps s :=
  ⟨fun h => State.Keeps.upd h rfl rfl rfl rfl rfl rfl rfl rfl rfl, fun h => State.Keeps.upd h rfl rfl rfl rfl rfl rfl rfl rfl rfl⟩

/-- A fabric emptied. -/
theorem State.Keeps.clear {s0 s t : State} (h : s0.Keeps s) (e1 : t.pending = s.pending) (e2 : t.regs = s.regs) (e3 : t.mem = s.mem)
    (e4 : t.sec.fuse = s.sec.fuse) (e5 : t.sec.rb = s.sec.rb) (e6 : t.sec.revoked = s.sec.revoked) (e7 : t.fab = {}) : s0.Keeps t :=
  ⟨e1.trans h.queue, fun hc => by have := h.canon hc; unfold State.Canonical at this ⊢; rw [e2, e3]; exact this,
   by rw [e4]; exact h.fuse, by rw [e5]; exact h.rollback, by rw [e6]; exact h.revoked,
   fun _ p => by unfold State.pcBusy; rw [e7]; exact Nat.zero_le _, fun _ l => by unfold State.creditsUsed State.occupied State.returning; rw [e7]; exact Nat.zero_le _⟩

/-- Entries left out keep a table canonical. -/
theorem Tab.wf_filter {α : Type} (d : Nat → α) (t : Tab α) (p : Nat × α → Bool) (h : Tab.wf d t) : Tab.wf d (t.filter p) :=
  ⟨h.1.filter p, fun x hx => h.2 x ((List.mem_filter.1 hx).1)⟩

/-- Bytes or registers left out keep what a state keeps. -/
theorem State.Keeps.cut {s0 s t : State} (h : s0.Keeps s) (e1 : t.pending = s.pending) (e2 : t.sec = s.sec) (e5 : t.fab = s.fab)
    (e3 : Memory.wf s.mem → Memory.wf t.mem) (e4 : Regs.wf s.regs → Regs.wf t.regs) : s0.Keeps t :=
  ⟨e1.trans h.queue, fun hc => ⟨e3 (h.canon hc).1, e4 (h.canon hc).2⟩, by rw [e2]; exact h.fuse, by rw [e2]; exact h.rollback,
   by rw [e2]; exact h.revoked, fun hp p => by have := h.slots hp p; unfold State.pcBusy at this ⊢; rw [e5]; exact this,
   fun hp l => by have := h.credits hp l; unfold State.creditsUsed State.occupied State.returning at this ⊢; rw [e5]; exact this⟩

/-- A fabric whose slots and credits stay within their limits. -/
theorem State.Keeps.books {s0 s : State} (f : Fabric) (h : s0.Keeps s) (h1 : (∀ p, s.pcBusy p ≤ 32) → ∀ p, ({ s with fab := f } : State).pcBusy p ≤ 32)
    (h2 : (∀ l, s.creditsUsed l ≤ 8) → ∀ l, ({ s with fab := f } : State).creditsUsed l ≤ 8) : s0.Keeps { s with fab := f } :=
  ⟨h.queue, h.canon, h.fuse, h.rollback, h.revoked, fun hp => h1 (h.slots hp), fun hp => h2 (h.credits hp)⟩

theorem Tab.wf_foldl {α : Type} [DecidableEq α] (d : Nat → α) (l : List (Nat × α)) (t : Tab α) (h : Tab.wf d t) :
    Tab.wf d (l.foldl (fun r p => Tab.set d r p.1 p.2) t) := by
  induction l generalizing t with
  | nil => exact h
  | cons p l ih => exact ih _ (Tab.wf_set _ _ _ _ h)

/-- Registers replaced beside fields of the security part that hold no fuse. -/
theorem State.Keeps.regs {s0 s t : State} (h : s0.Keeps s) (e1 : t.pending = s.pending) (e2 : t.mem = s.mem) (e3 : t.fab = s.fab)
    (e4 : t.sec.fuse = s.sec.fuse) (e5 : t.sec.rb = s.sec.rb) (e6 : t.sec.revoked = s.sec.revoked)
    (e7 : Regs.wf s.regs → Regs.wf t.regs) : s0.Keeps t :=
  ⟨e1.trans h.queue, fun hc => ⟨by rw [e2]; exact (h.canon hc).1, e7 (h.canon hc).2⟩, by rw [e4]; exact h.fuse, by rw [e5]; exact h.rollback,
   by rw [e6]; exact h.revoked, fun hp p => by have := h.slots hp p; unfold State.pcBusy at this ⊢; rw [e3]; exact this,
   fun hp l => by have := h.credits hp l; unfold State.creditsUsed State.occupied State.returning at this ⊢; rw [e3]; exact this⟩

/-- A fold keeps what each of its steps keeps. -/
theorem State.Keeps.foldl {α : Type} {s0 s : State} {f : State → α → State} {l : List α} (hf : ∀ t x, s0.Keeps t → s0.Keeps (f t x))
    (h : s0.Keeps s) : s0.Keeps (l.foldl f s) := by
  induction l generalizing s with
  | nil => exact h
  | cons a l ih => exact ih (hf s a h)

end Sys2Proof.Machine
end

