-- ==== Sys2Proof/Laws/Keeps/Ops.lean ====
section
/-! SUPPORT. What no function of Machine/Ops.lean undoes (State.Keeps). -/

namespace Sys2Proof.Machine

open Sys2Proof

set_option linter.unreachableTactic false
set_option linter.unusedTactic false

theorem State.eventAs_keeps {s0 : State} (s : State) (evt : Nat) (st : Status) (page : Nat) (fields : List (Nat × Nat)) (flags : Nat)
     (h : s0.Keeps s) : s0.Keeps (State.eventAs s evt st page fields flags) := by
  unfold State.eventAs
  try dsimp only
  repeat' (first | with_reducible assumption | intro _ | with_reducible apply State.Keeps.foldl | simp only [State.Keeps.mk1] |
                 simp only [State.Keeps.mk2] | simp only [State.Keeps.mk3] | split)

theorem State.event_keeps {s0 : State} (s : State) (st : Status) (page : Nat) (fields : List (Nat × Nat))
     (h : s0.Keeps s) : s0.Keeps (State.event s st page fields) := by
  unfold State.event
  try dsimp only
  repeat' (first | with_reducible assumption | intro _ | with_reducible apply State.Keeps.foldl |
                 with_reducible apply State.eventAs_keeps | simp only [State.Keeps.mk1] | simp only [State.Keeps.mk2] |
                 simp only [State.Keeps.mk3] | split)

theorem State.setReg_keeps {s0 : State} (s : State) (r : Reg) (i : Nat) (w : Word) (h : s0.Keeps s) : s0.Keeps (s.setReg r i w) :=
  ⟨h.queue, fun hc => ⟨(h.canon hc).1, Tab.wf_set _ _ _ _ (h.canon hc).2⟩, h.fuse, h.rollback, h.revoked, h.slots, h.credits⟩

theorem State.setFld_keeps {s0 : State} (s : State) (f : Fld) (i : Nat) (v : Nat) (h : s0.Keeps s) : s0.Keeps (State.setFld s f i v) := by
  unfold State.setFld
  try dsimp only
  repeat' (first | with_reducible assumption | intro _ | with_reducible apply State.Keeps.foldl |
                 with_reducible apply State.setReg_keeps | simp only [State.Keeps.mk1] | simp only [State.Keeps.mk2] |
                 simp only [State.Keeps.mk3] | split)

theorem State.submit_keeps {s0 : State} (s : State) (kind : Nat) (key : Nat) (key2 : Nat) (payload : Payload) (pieces : Nat)
     (h : s0.Keeps s) : s0.Keeps (State.submit s kind key key2 payload pieces) := by
  unfold State.submit
  try dsimp only
  repeat' (first | with_reducible assumption | intro _ | with_reducible apply State.Keeps.foldl | simp only [State.Keeps.mk1] |
                 simp only [State.Keeps.mk2] | simp only [State.Keeps.mk3] | split)

theorem State.drew_keeps {s0 : State} (s : State) (h : s0.Keeps s) : s0.Keeps (State.drew s) := by
  unfold State.drew
  try dsimp only
  repeat' (first | with_reducible assumption | intro _ | with_reducible apply State.Keeps.foldl | simp only [State.Keeps.mk1] |
                 simp only [State.Keeps.mk2] | simp only [State.Keeps.mk3] | split)

theorem State.countInjected_keeps {s0 : State} (s : State) (code : Nat) (sel : Nat)
     (h : s0.Keeps s) : s0.Keeps (State.countInjected s code sel) := by
  unfold State.countInjected
  try dsimp only
  repeat' (first | with_reducible assumption | intro _ | with_reducible apply State.Keeps.foldl |
                 with_reducible apply State.eventAs_keeps | simp only [State.Keeps.mk1] | simp only [State.Keeps.mk2] |
                 simp only [State.Keeps.mk3] | split)

theorem State.completeAs_keeps {s0 : State} (s : State) (src : Src) (st : Status) (fields : List (Nat × Nat)) (flags : Nat)
     (h : s0.Keeps s) : s0.Keeps (State.completeAs s src st fields flags) := by
  unfold State.completeAs
  try dsimp only
  repeat' (first | with_reducible assumption | intro _ | with_reducible apply State.Keeps.foldl | simp only [State.Keeps.mk1] |
                 simp only [State.Keeps.mk2] | simp only [State.Keeps.mk3] | split)

theorem State.complete_keeps {s0 : State} (s : State) (src : Src) (st : Status) (fields : List (Nat × Nat))
     (h : s0.Keeps s) : s0.Keeps (State.complete s src st fields) := by
  unfold State.complete
  try dsimp only
  repeat' (first | with_reducible assumption | intro _ | with_reducible apply State.Keeps.foldl |
                 with_reducible apply State.completeAs_keeps | simp only [State.Keeps.mk1] | simp only [State.Keeps.mk2] |
                 simp only [State.Keeps.mk3] | split)

theorem State.setDrain_keeps {s0 : State} (s : State) (i : Nat) (d : Option Drain)
     (h : s0.Keeps s) : s0.Keeps (State.setDrain s i d) := by
  unfold State.setDrain
  try dsimp only
  repeat' (first | with_reducible assumption | intro _ | with_reducible apply State.Keeps.foldl | simp only [State.Keeps.mk1] |
                 simp only [State.Keeps.mk2] | simp only [State.Keeps.mk3] | split)

theorem State.startDrain_keeps {s0 : State} (s : State) (i : Nat) (why : DrainWhy)
     (h : s0.Keeps s) : s0.Keeps (State.startDrain s i why) := by
  unfold State.startDrain
  try dsimp only
  repeat' (first | with_reducible assumption | intro _ | with_reducible apply State.Keeps.foldl |
                 with_reducible apply State.setDrain_keeps | simp only [State.Keeps.mk1] | simp only [State.Keeps.mk2] |
                 simp only [State.Keeps.mk3] | split)

theorem State.bumpFld_keeps {s0 : State} (s : State) (f : Fld) (i : Nat) (n : Nat)
     (h : s0.Keeps s) : s0.Keeps (State.bumpFld s f i n) := by
  unfold State.bumpFld
  try dsimp only
  repeat' (first | with_reducible assumption | intro _ | with_reducible apply State.Keeps.foldl |
                 with_reducible apply State.setFld_keeps | simp only [State.Keeps.mk1] | simp only [State.Keeps.mk2] |
                 simp only [State.Keeps.mk3] | split)

theorem State.setDom_keeps {s0 : State} (s : State) (i : Nat) (d : DomState) (h : s0.Keeps s) : s0.Keeps (State.setDom s i d) := by
  unfold State.setDom
  try dsimp only
  repeat' (first | with_reducible assumption | intro _ | with_reducible apply State.Keeps.foldl | simp only [State.Keeps.mk1] |
                 simp only [State.Keeps.mk2] | simp only [State.Keeps.mk3] | split)

theorem State.setOut_keeps {s0 : State} (s : State) (i : Nat) (b : Bool) (h : s0.Keeps s) : s0.Keeps (State.setOut s i b) := by
  unfold State.setOut
  try dsimp only
  repeat' (first | with_reducible assumption | intro _ | with_reducible apply State.Keeps.foldl | simp only [State.Keeps.mk1] |
                 simp only [State.Keeps.mk2] | simp only [State.Keeps.mk3] | split)

theorem State.setUnitRel_keeps {s0 : State} (s : State) (sel : Nat) (u : UnitRel)
     (h : s0.Keeps s) : s0.Keeps (State.setUnitRel s sel u) := by
  unfold State.setUnitRel
  try dsimp only
  repeat' (first | with_reducible assumption | intro _ | with_reducible apply State.Keeps.foldl | simp only [State.Keeps.mk1] |
                 simp only [State.Keeps.mk2] | simp only [State.Keeps.mk3] | split)

theorem State.unitEvent_keeps {s0 : State} (s : State) (st : Status) (sel : Nat) (rest : List (Nat × Nat))
     (h : s0.Keeps s) : s0.Keeps (State.unitEvent s st sel rest) := by
  unfold State.unitEvent
  try dsimp only
  repeat' (first | with_reducible assumption | intro _ | with_reducible apply State.Keeps.foldl |
                 with_reducible apply State.event_keeps | simp only [State.Keeps.mk1] | simp only [State.Keeps.mk2] |
                 simp only [State.Keeps.mk3] | split)

theorem State.msix_keeps {s0 : State} (s : State) (v : Nat) (h : s0.Keeps s) : s0.Keeps (State.msix s v) := by
  unfold State.msix
  try dsimp only
  repeat' (first | with_reducible assumption | intro _ | with_reducible apply State.Keeps.foldl | simp only [State.Keeps.mk1] |
                 simp only [State.Keeps.mk2] | simp only [State.Keeps.mk3] | split)

theorem State.noteIrq1_keeps {s0 : State} (s : State) (h : s0.Keeps s) : s0.Keeps (State.noteIrq1 s) := by
  unfold State.noteIrq1
  try dsimp only
  repeat' (first | with_reducible assumption | intro _ | with_reducible apply State.Keeps.foldl |
                 with_reducible apply State.msix_keeps | simp only [State.Keeps.mk1] | simp only [State.Keeps.mk2] |
                 simp only [State.Keeps.mk3] | split)

theorem State.queueTest_keeps {s0 : State} (s : State) (t : SelfTest) (h : s0.Keeps s) : s0.Keeps (State.queueTest s t) := by
  unfold State.queueTest
  try dsimp only
  repeat' (first | with_reducible assumption | intro _ | with_reducible apply State.Keeps.foldl |
                 with_reducible apply State.noteIrq1_keeps | with_reducible apply State.setFld_keeps |
                 with_reducible apply State.event_keeps | with_reducible apply State.setUnitRel_keeps | simp only [State.Keeps.mk1] |
                 simp only [State.Keeps.mk2] | simp only [State.Keeps.mk3] | split)

theorem State.bumpDetection_keeps {s0 : State} (s : State) (code : Nat) (h : s0.Keeps s) : s0.Keeps (State.bumpDetection s code) := by
  unfold State.bumpDetection
  try dsimp only
  repeat' (first | with_reducible assumption | intro _ | with_reducible apply State.Keeps.foldl | simp only [State.Keeps.mk1] |
                 simp only [State.Keeps.mk2] | simp only [State.Keeps.mk3] | split)

theorem State.countDetection_keeps {s0 : State} (s : State) (code : Nat) (sel : Nat)
     (h : s0.Keeps s) : s0.Keeps (State.countDetection s code sel) := by
  unfold State.countDetection
  try dsimp only
  repeat' (first | with_reducible assumption | intro _ | with_reducible apply State.Keeps.foldl |
                 with_reducible apply State.unitEvent_keeps | with_reducible apply State.bumpDetection_keeps |
                 simp only [State.Keeps.mk1] | simp only [State.Keeps.mk2] | simp only [State.Keeps.mk3] | split)

theorem State.detectTest_keeps {s0 : State} (s : State) (code : Nat) (sel : Nat) (target : TestUnit) (andThen : Option Nat)
     (h : s0.Keeps s) : s0.Keeps (State.detectTest s code sel target andThen) := by
  unfold State.detectTest
  try dsimp only
  repeat' (first | with_reducible assumption | intro _ | with_reducible apply State.Keeps.foldl |
                 with_reducible apply State.queueTest_keeps | with_reducible apply State.countDetection_keeps |
                 simp only [State.Keeps.mk1] | simp only [State.Keeps.mk2] | simp only [State.Keeps.mk3] | split)

theorem State.startDrains_keeps {s0 : State} (s : State) (why : DrainWhy) (x2 : List Nat)
     (h : s0.Keeps s) : s0.Keeps (State.startDrains s why x2) := by
  induction x2 generalizing s why with
  | nil =>
    unfold State.startDrains
    try dsimp only
    repeat' (first | with_reducible assumption | intro _ | with_reducible apply State.Keeps.foldl | with_reducible apply ih |
                   with_reducible apply State.startDrain_keeps | simp only [State.Keeps.mk1] | simp only [State.Keeps.mk2] |
                   simp only [State.Keeps.mk3] | (split <;> try (rename_i hq; injection hq with hq1 hq2; subst hq1; subst hq2)))
  | cons _ _ ih =>
    unfold State.startDrains
    try dsimp only
    repeat' (first | with_reducible assumption | intro _ | with_reducible apply State.Keeps.foldl | with_reducible apply ih |
                   with_reducible apply State.startDrain_keeps | simp only [State.Keeps.mk1] | simp only [State.Keeps.mk2] |
                   simp only [State.Keeps.mk3] | (split <;> try (rename_i hq; injection hq with hq1 hq2; subst hq1; subst hq2)))

theorem State.countDetectionAt_keeps {s0 : State} (s : State) (code : Nat) (page : Nat) (subject : Nat)
     (h : s0.Keeps s) : s0.Keeps (State.countDetectionAt s code page subject) := by
  unfold State.countDetectionAt
  try dsimp only
  repeat' (first | with_reducible assumption | intro _ | with_reducible apply State.Keeps.foldl |
                 with_reducible apply State.event_keeps | with_reducible apply State.bumpDetection_keeps |
                 simp only [State.Keeps.mk1] | simp only [State.Keeps.mk2] | simp only [State.Keeps.mk3] | split)

theorem State.returnPages_keeps {s0 : State} (s : State) (x1 : List Nat) (h : s0.Keeps s) : s0.Keeps (State.returnPages s x1) := by
  induction x1 generalizing s with
  | nil =>
    unfold State.returnPages
    try dsimp only
    repeat' (first | with_reducible assumption | intro _ | with_reducible apply State.Keeps.foldl | with_reducible apply ih |
                   simp only [State.Keeps.mk1] | simp only [State.Keeps.mk2] | simp only [State.Keeps.mk3] |
                   (split <;> try (rename_i hq; injection hq with hq1 hq2; subst hq1; subst hq2)))
  | cons _ _ ih =>
    unfold State.returnPages
    try dsimp only
    repeat' (first | with_reducible assumption | intro _ | with_reducible apply State.Keeps.foldl | with_reducible apply ih |
                   simp only [State.Keeps.mk1] | simp only [State.Keeps.mk2] | simp only [State.Keeps.mk3] |
                   (split <;> try (rename_i hq; injection hq with hq1 hq2; subst hq1; subst hq2)))

theorem State.setOwners_keeps {s0 : State} (s : State) (who : Nat) (x2 : List Nat)
     (h : s0.Keeps s) : s0.Keeps (State.setOwners s who x2) := by
  induction x2 generalizing s who with
  | nil =>
    unfold State.setOwners
    try dsimp only
    repeat' (first | with_reducible assumption | intro _ | with_reducible apply State.Keeps.foldl | with_reducible apply ih |
                   simp only [State.Keeps.mk1] | simp only [State.Keeps.mk2] | simp only [State.Keeps.mk3] |
                   (split <;> try (rename_i hq; injection hq with hq1 hq2; subst hq1; subst hq2)))
  | cons _ _ ih =>
    unfold State.setOwners
    try dsimp only
    repeat' (first | with_reducible assumption | intro _ | with_reducible apply State.Keeps.foldl | with_reducible apply ih |
                   simp only [State.Keeps.mk1] | simp only [State.Keeps.mk2] | simp only [State.Keeps.mk3] |
                   (split <;> try (rename_i hq; injection hq with hq1 hq2; subst hq1; subst hq2)))

end Sys2Proof.Machine
end

