-- ==== Sys2Proof/Laws/Keeps/Access.lean ====
section
/-! SUPPORT. What no function of Machine/Access.lean undoes (State.Keeps). -/

namespace Sys2Proof.Machine

open Sys2Proof

set_option linter.unreachableTactic false
set_option linter.unusedTactic false

theorem State.gated_keeps {s0 : State} (s : State) (who : Who) (r : Reg) (i : Nat) (f : State → State)
     (h_f : ∀ y0, s0.Keeps y0 → s0.Keeps (f y0)) (h : s0.Keeps s) : s0.Keeps (State.gated s who r i f) := by
  unfold State.gated
  try dsimp only
  repeat' (first | with_reducible assumption | intro _ | with_reducible apply State.Keeps.foldl | with_reducible apply h_f |
                 with_reducible apply State.event_keeps | simp only [State.Keeps.mk1] | simp only [State.Keeps.mk2] |
                 simp only [State.Keeps.mk3] | split)

theorem State.setByte_keeps {s0 : State} (s : State) (obj ofs : Nat) (b : Byte) (h : s0.Keeps s) : s0.Keeps (s.setByte obj ofs b) :=
  ⟨h.queue, fun hc => ⟨Tab.wf_set _ _ _ _ (h.canon hc).1, (h.canon hc).2⟩, h.fuse, h.rollback, h.revoked, h.slots, h.credits⟩

theorem State.setBytes_keeps {s0 : State} (s : State) (obj : Nat) (ofs : Nat) (x3 : List Byte)
     (h : s0.Keeps s) : s0.Keeps (State.setBytes s obj ofs x3) := by
  induction x3 generalizing s obj ofs with
  | nil =>
    unfold State.setBytes
    try dsimp only
    repeat' (first | with_reducible assumption | intro _ | with_reducible apply State.Keeps.foldl | with_reducible apply ih |
                   with_reducible apply State.setByte_keeps | simp only [State.Keeps.mk1] | simp only [State.Keeps.mk2] |
                   simp only [State.Keeps.mk3] | (split <;> try (rename_i hq; injection hq with hq1 hq2; subst hq1; subst hq2)))
  | cons _ _ ih =>
    unfold State.setBytes
    try dsimp only
    repeat' (first | with_reducible assumption | intro _ | with_reducible apply State.Keeps.foldl | with_reducible apply ih |
                   with_reducible apply State.setByte_keeps | simp only [State.Keeps.mk1] | simp only [State.Keeps.mk2] |
                   simp only [State.Keeps.mk3] | (split <;> try (rename_i hq; injection hq with hq1 hq2; subst hq1; subst hq2)))

theorem State.store_keeps {s0 : State} (s : State) (r : Reg) (i : Nat) (w : Word) (h : s0.Keeps s) : s0.Keeps (State.store s r i w) := by
  unfold State.store
  try dsimp only
  repeat' (first | with_reducible assumption | intro _ | with_reducible apply State.Keeps.foldl |
                 with_reducible apply State.setReg_keeps | simp only [State.Keeps.mk1] | simp only [State.Keeps.mk2] |
                 simp only [State.Keeps.mk3] | split)

theorem State.returns_keeps {s0 : State} (s : State) (v : BitVec 64) (h : s0.Keeps s) : s0.Keeps (State.returns s v) := by
  unfold State.returns
  try dsimp only
  repeat' (first | with_reducible assumption | intro _ | with_reducible apply State.Keeps.foldl | simp only [State.Keeps.mk1] |
                 simp only [State.Keeps.mk2] | simp only [State.Keeps.mk3] | split)

end Sys2Proof.Machine
end

