-- ==== Sys2Proof/Laws/Keeps/MacBase.lean ====
section
/-! SUPPORT. What no function of Machine/MacBase.lean undoes (State.Keeps). -/

namespace Sys2Proof.Machine

open Sys2Proof

set_option linter.unreachableTactic false
set_option linter.unusedTactic false

theorem State.setNode_keeps {s0 : State} (s : State) (a : Nat) (n : Option Node) (h : s0.Keeps s) : s0.Keeps (State.setNode s a n) := by
  unfold State.setNode
  try dsimp only
  repeat' (first | with_reducible assumption | intro _ | with_reducible apply State.Keeps.foldl | simp only [State.Keeps.mk1] |
                 simp only [State.Keeps.mk2] | simp only [State.Keeps.mk3] | split)

theorem State.addFrame_keeps {s0 : State} (s : State) (f : Frame) (h : s0.Keeps s) : s0.Keeps (State.addFrame s f) := by
  unfold State.addFrame
  try dsimp only
  repeat' (first | with_reducible assumption | intro _ | with_reducible apply State.Keeps.foldl | simp only [State.Keeps.mk1] |
                 simp only [State.Keeps.mk2] | simp only [State.Keeps.mk3] | split)

theorem State.sendTo_keeps {s0 : State} (s : State) (a : Nat) (body : Body) (ackReq : Bool) (src : Src)
     (h : s0.Keeps s) : s0.Keeps (State.sendTo s a body ackReq src) := by
  unfold State.sendTo
  try dsimp only
  repeat' (first | with_reducible assumption | intro _ | with_reducible apply State.Keeps.foldl |
                 with_reducible apply State.addFrame_keeps | simp only [State.Keeps.mk1] | simp only [State.Keeps.mk2] |
                 simp only [State.Keeps.mk3] | split)

theorem State.sendMgmt_keeps {s0 : State} (s : State) (a : Nat) (m : Mgmt) (h : s0.Keeps s) : s0.Keeps (State.sendMgmt s a m) := by
  unfold State.sendMgmt
  try dsimp only
  repeat' (first | with_reducible assumption | intro _ | with_reducible apply State.Keeps.foldl |
                 with_reducible apply State.sendTo_keeps | simp only [State.Keeps.mk1] | simp only [State.Keeps.mk2] |
                 simp only [State.Keeps.mk3] | split)

theorem State.checkpoint_keeps {s0 : State} (s : State) (bcast : Nat) (bnum : List Nat) (nodes : List (Nat × Nat × Nat))
     (h : s0.Keeps s) : s0.Keeps (State.checkpoint s bcast bnum nodes) := by
  unfold State.checkpoint
  try dsimp only
  repeat' (first | with_reducible assumption | intro _ | with_reducible apply State.Keeps.foldl |
                 with_reducible apply State.submit_keeps | simp only [State.Keeps.mk1] | simp only [State.Keeps.mk2] |
                 simp only [State.Keeps.mk3] | split)

theorem State.ckTx_keeps {s0 : State} (s : State) (a : Nat) (h : s0.Keeps s) : s0.Keeps (State.ckTx s a) := by
  unfold State.ckTx
  try dsimp only
  repeat' (first | with_reducible assumption | intro _ | with_reducible apply State.Keeps.foldl |
                 with_reducible apply State.setNode_keeps | with_reducible apply State.checkpoint_keeps | simp only [State.Keeps.mk1] |
                 simp only [State.Keeps.mk2] | simp only [State.Keeps.mk3] | split)

theorem State.ckBcast_keeps {s0 : State} (s : State) (h : s0.Keeps s) : s0.Keeps (State.ckBcast s) := by
  unfold State.ckBcast
  try dsimp only
  repeat' (first | with_reducible assumption | intro _ | with_reducible apply State.Keeps.foldl |
                 with_reducible apply State.checkpoint_keeps | simp only [State.Keeps.mk1] | simp only [State.Keeps.mk2] |
                 simp only [State.Keeps.mk3] | split)

theorem State.takeSeq_keeps {s0 : State} (s : State) (dst : Nat) (h : s0.Keeps s) : s0.Keeps (State.takeSeq s dst) := by
  unfold State.takeSeq
  try dsimp only
  repeat' (first | with_reducible assumption | intro _ | with_reducible apply State.Keeps.foldl |
                 with_reducible apply State.ckBcast_keeps | with_reducible apply State.ckTx_keeps |
                 with_reducible apply State.setNode_keeps | simp only [State.Keeps.mk1] | simp only [State.Keeps.mk2] |
                 simp only [State.Keeps.mk3] | split)

theorem State.setQuar_keeps {s0 : State} (s : State) (a : Nat) (q : Option (Nat × Nat × Nat))
     (h : s0.Keeps s) : s0.Keeps (State.setQuar s a q) := by
  unfold State.setQuar
  try dsimp only
  repeat' (first | with_reducible assumption | intro _ | with_reducible apply State.Keeps.foldl | simp only [State.Keeps.mk1] |
                 simp only [State.Keeps.mk2] | simp only [State.Keeps.mk3] | split)

theorem State.ckRx_keeps {s0 : State} (s : State) (a : Nat) (v : Nat) (h : s0.Keeps s) : s0.Keeps (State.ckRx s a v) := by
  unfold State.ckRx
  try dsimp only
  repeat' (first | with_reducible assumption | intro _ | with_reducible apply State.Keeps.foldl |
                 with_reducible apply State.setNode_keeps | with_reducible apply State.checkpoint_keeps | simp only [State.Keeps.mk1] |
                 simp only [State.Keeps.mk2] | simp only [State.Keeps.mk3] | split)

theorem State.joinStandard_keeps {s0 : State} (s : State) (fg : Nat) (eui : Nat)
     (h : s0.Keeps s) : s0.Keeps (State.joinStandard s fg eui) := by
  unfold State.joinStandard
  try dsimp only
  repeat' (first | with_reducible assumption | intro _ | with_reducible apply State.Keeps.foldl |
                 with_reducible apply State.setNode_keeps | with_reducible apply State.setQuar_keeps |
                 with_reducible apply State.drew_keeps | simp only [State.Keeps.mk1] | simp only [State.Keeps.mk2] |
                 simp only [State.Keeps.mk3] | split)

theorem State.countLate_keeps {s0 : State} (s : State) (c : Nat) (up : Bool) (h : s0.Keeps s) : s0.Keeps (State.countLate s c up) := by
  unfold State.countLate
  try dsimp only
  repeat' (first | with_reducible assumption | intro _ | with_reducible apply State.Keeps.foldl |
                 with_reducible apply State.setFld_keeps | simp only [State.Keeps.mk1] | simp only [State.Keeps.mk2] |
                 simp only [State.Keeps.mk3] | split)

theorem State.judgeUp_keeps {s0 : State} (s : State) (a : Nat) (fg : Nat) (svc : Nat) (fin : Stamp)
     (h : s0.Keeps s) : s0.Keeps (State.judgeUp s a fg svc fin) := by
  unfold State.judgeUp
  try dsimp only
  repeat' (first | with_reducible assumption | intro _ | with_reducible apply State.Keeps.foldl |
                 with_reducible apply State.countLate_keeps | simp only [State.Keeps.mk1] | simp only [State.Keeps.mk2] |
                 simp only [State.Keeps.mk3] | split)

theorem State.judgeDown_keeps {s0 : State} (s : State) (f : Frame) (h : s0.Keeps s) : s0.Keeps (State.judgeDown s f) := by
  unfold State.judgeDown
  try dsimp only
  repeat' (first | with_reducible assumption | intro _ | with_reducible apply State.Keeps.foldl |
                 with_reducible apply State.countLate_keeps | with_reducible apply State.drew_keeps | simp only [State.Keeps.mk1] |
                 simp only [State.Keeps.mk2] | simp only [State.Keeps.mk3] | split)

theorem State.checkpoints_keeps {s0 : State} (s : State) (bcast : Nat) (bnum : List Nat) (x3 : List (List (Nat × Nat × Nat)))
     (h : s0.Keeps s) : s0.Keeps (State.checkpoints s bcast bnum x3) := by
  induction x3 generalizing s bcast bnum with
  | nil =>
    unfold State.checkpoints
    try dsimp only
    repeat' (first | with_reducible assumption | intro _ | with_reducible apply State.Keeps.foldl | with_reducible apply ih |
                   with_reducible apply State.checkpoint_keeps | simp only [State.Keeps.mk1] | simp only [State.Keeps.mk2] |
                   simp only [State.Keeps.mk3] | (split <;> try (rename_i hq; injection hq with hq1 hq2; subst hq1; subst hq2)))
  | cons _ _ ih =>
    unfold State.checkpoints
    try dsimp only
    repeat' (first | with_reducible assumption | intro _ | with_reducible apply State.Keeps.foldl | with_reducible apply ih |
                   with_reducible apply State.checkpoint_keeps | simp only [State.Keeps.mk1] | simp only [State.Keeps.mk2] |
                   simp only [State.Keeps.mk3] | (split <;> try (rename_i hq; injection hq with hq1 hq2; subst hq1; subst hq2)))

theorem State.checkpointAll_keeps {s0 : State} (s : State) (h : s0.Keeps s) : s0.Keeps (State.checkpointAll s) := by
  unfold State.checkpointAll
  try dsimp only
  repeat' (first | with_reducible assumption | intro _ | with_reducible apply State.Keeps.foldl |
                 with_reducible apply State.checkpoints_keeps | simp only [State.Keeps.mk1] | simp only [State.Keeps.mk2] |
                 simp only [State.Keeps.mk3] | split)

theorem State.broadcast_keeps {s0 : State} (s : State) (fg : Nat) (body : Body)
     (h : s0.Keeps s) : s0.Keeps (State.broadcast s fg body) := by
  unfold State.broadcast
  try dsimp only
  repeat' (first | with_reducible assumption | intro _ | with_reducible apply State.Keeps.foldl |
                 with_reducible apply State.addFrame_keeps | simp only [State.Keeps.mk1] | simp only [State.Keeps.mk2] |
                 simp only [State.Keeps.mk3] | split)

theorem State.sendAll_keeps {s0 : State} (s : State) (m : Mgmt) (x2 : List Nat) (h : s0.Keeps s) : s0.Keeps (State.sendAll s m x2) := by
  induction x2 generalizing s m with
  | nil =>
    unfold State.sendAll
    try dsimp only
    repeat' (first | with_reducible assumption | intro _ | with_reducible apply State.Keeps.foldl | with_reducible apply ih |
                   with_reducible apply State.sendMgmt_keeps | simp only [State.Keeps.mk1] | simp only [State.Keeps.mk2] |
                   simp only [State.Keeps.mk3] | (split <;> try (rename_i hq; injection hq with hq1 hq2; subst hq1; subst hq2)))
  | cons _ _ ih =>
    unfold State.sendAll
    try dsimp only
    repeat' (first | with_reducible assumption | intro _ | with_reducible apply State.Keeps.foldl | with_reducible apply ih |
                   with_reducible apply State.sendMgmt_keeps | simp only [State.Keeps.mk1] | simp only [State.Keeps.mk2] |
                   simp only [State.Keeps.mk3] | (split <;> try (rename_i hq; injection hq with hq1 hq2; subst hq1; subst hq2)))

end Sys2Proof.Machine
end

