-- ==== Sys2Proof/Laws/Keeps/Ports.lean ====
section
/-! SUPPORT. What no function of Machine/Ports.lean undoes (State.Keeps). -/

namespace Sys2Proof.Machine

open Sys2Proof

set_option linter.unreachableTactic false
set_option linter.unusedTactic false

theorem State.endFrame_keeps {s0 : State} (s : State) (f : Frame) (st : Status) (h : s0.Keeps s) : s0.Keeps (State.endFrame s f st) := by
  unfold State.endFrame
  try dsimp only
  repeat' (first | with_reducible assumption | intro _ | with_reducible apply State.Keeps.foldl |
                 with_reducible apply State.complete_keeps | simp only [State.Keeps.mk1] | simp only [State.Keeps.mk2] |
                 simp only [State.Keeps.mk3] | split)

theorem State.setFrame_keeps {s0 : State} (s : State) (f : Frame) (h : s0.Keeps s) : s0.Keeps (State.setFrame s f) := by
  unfold State.setFrame
  try dsimp only
  repeat' (first | with_reducible assumption | intro _ | with_reducible apply State.Keeps.foldl | simp only [State.Keeps.mk1] |
                 simp only [State.Keeps.mk2] | simp only [State.Keeps.mk3] | split)

theorem State.setPort_keeps {s0 : State} (s : State) (p : Nat) (x : Port) (h : s0.Keeps s) : s0.Keeps (State.setPort s p x) := by
  unfold State.setPort
  try dsimp only
  repeat' (first | with_reducible assumption | intro _ | with_reducible apply State.Keeps.foldl | simp only [State.Keeps.mk1] |
                 simp only [State.Keeps.mk2] | simp only [State.Keeps.mk3] | split)

theorem State.portsEnd_keeps {s0 : State} (s : State) (x1 : List Nat) (h : s0.Keeps s) : s0.Keeps (State.portsEnd s x1) := by
  induction x1 generalizing s with
  | nil =>
    unfold State.portsEnd
    try dsimp only
    repeat' (first | with_reducible assumption | intro _ | with_reducible apply State.Keeps.foldl | with_reducible apply ih |
                   with_reducible apply State.setPort_keeps | simp only [State.Keeps.mk1] | simp only [State.Keeps.mk2] |
                   simp only [State.Keeps.mk3] | (split <;> try (rename_i hq; injection hq with hq1 hq2; subst hq1; subst hq2)))
  | cons _ _ ih =>
    unfold State.portsEnd
    try dsimp only
    repeat' (first | with_reducible assumption | intro _ | with_reducible apply State.Keeps.foldl | with_reducible apply ih |
                   with_reducible apply State.setPort_keeps | simp only [State.Keeps.mk1] | simp only [State.Keeps.mk2] |
                   simp only [State.Keeps.mk3] | (split <;> try (rename_i hq; injection hq with hq1 hq2; subst hq1; subst hq2)))

theorem State.setPortStat_keeps {s0 : State} (s : State) (p : Nat) (lo : Nat) (width : Nat) (v : Nat)
     (h : s0.Keeps s) : s0.Keeps (State.setPortStat s p lo width v) := by
  unfold State.setPortStat
  try dsimp only
  repeat' (first | with_reducible assumption | intro _ | with_reducible apply State.Keeps.foldl |
                 with_reducible apply State.setReg_keeps | simp only [State.Keeps.mk1] | simp only [State.Keeps.mk2] |
                 simp only [State.Keeps.mk3] | split)

theorem State.noteFold_keeps {s0 : State} (s : State) (x1 : List Nat) (h : s0.Keeps s) : s0.Keeps (State.noteFold s x1) := by
  induction x1 generalizing s with
  | nil =>
    unfold State.noteFold
    try dsimp only
    repeat' (first | with_reducible assumption | intro _ | with_reducible apply State.Keeps.foldl | with_reducible apply ih |
                   with_reducible apply State.bumpFld_keeps | with_reducible apply State.setPortStat_keeps |
                   simp only [State.Keeps.mk1] | simp only [State.Keeps.mk2] | simp only [State.Keeps.mk3] |
                   (split <;> try (rename_i hq; injection hq with hq1 hq2; subst hq1; subst hq2)))
  | cons _ _ ih =>
    unfold State.noteFold
    try dsimp only
    repeat' (first | with_reducible assumption | intro _ | with_reducible apply State.Keeps.foldl | with_reducible apply ih |
                   with_reducible apply State.bumpFld_keeps | with_reducible apply State.setPortStat_keeps |
                   simp only [State.Keeps.mk1] | simp only [State.Keeps.mk2] | simp only [State.Keeps.mk3] |
                   (split <;> try (rename_i hq; injection hq with hq1 hq2; subst hq1; subst hq2)))

theorem State.foldReport_keeps {s0 : State} (s : State) (f : Frame) (h : s0.Keeps s) : s0.Keeps (State.foldReport s f) := by
  unfold State.foldReport
  try dsimp only
  repeat' (first | with_reducible assumption | intro _ | with_reducible apply State.Keeps.foldl |
                 with_reducible apply State.event_keeps | with_reducible apply State.noteFold_keeps | simp only [State.Keeps.mk1] |
                 simp only [State.Keeps.mk2] | simp only [State.Keeps.mk3] | split)

theorem State.leaveLine_keeps {s0 : State} (s : State) (f : Frame) (h : s0.Keeps s) : s0.Keeps (State.leaveLine s f) := by
  unfold State.leaveLine
  try dsimp only
  repeat' (first | with_reducible assumption | intro _ | with_reducible apply State.Keeps.foldl |
                 with_reducible apply State.portsEnd_keeps | with_reducible apply State.foldReport_keeps |
                 simp only [State.Keeps.mk1] | simp only [State.Keeps.mk2] | simp only [State.Keeps.mk3] | split)

theorem State.endFrames_keeps {s0 : State} (s : State) (st : Status) (x2 : List Frame)
     (h : s0.Keeps s) : s0.Keeps (State.endFrames s st x2) := by
  induction x2 generalizing s st with
  | nil =>
    unfold State.endFrames
    try dsimp only
    repeat' (first | with_reducible assumption | intro _ | with_reducible apply State.Keeps.foldl | with_reducible apply ih |
                   with_reducible apply State.endFrame_keeps | with_reducible apply State.leaveLine_keeps |
                   simp only [State.Keeps.mk1] | simp only [State.Keeps.mk2] | simp only [State.Keeps.mk3] |
                   (split <;> try (rename_i hq; injection hq with hq1 hq2; subst hq1; subst hq2)))
  | cons _ _ ih =>
    unfold State.endFrames
    try dsimp only
    repeat' (first | with_reducible assumption | intro _ | with_reducible apply State.Keeps.foldl | with_reducible apply ih |
                   with_reducible apply State.endFrame_keeps | with_reducible apply State.leaveLine_keeps |
                   simp only [State.Keeps.mk1] | simp only [State.Keeps.mk2] | simp only [State.Keeps.mk3] |
                   (split <;> try (rename_i hq; injection hq with hq1 hq2; subst hq1; subst hq2)))

theorem State.cutPort_keeps {s0 : State} (s : State) (p : Nat) (h : s0.Keeps s) : s0.Keeps (State.cutPort s p) := by
  unfold State.cutPort
  try dsimp only
  repeat' (first | with_reducible assumption | intro _ | with_reducible apply State.Keeps.foldl |
                 with_reducible apply State.endFrames_keeps | simp only [State.Keeps.mk1] | simp only [State.Keeps.mk2] |
                 simp only [State.Keeps.mk3] | split)

theorem State.portBack_keeps {s0 : State} (s : State) (p : Nat) (h : s0.Keeps s) : s0.Keeps (State.portBack s p) := by
  unfold State.portBack
  try dsimp only
  repeat' (first | with_reducible assumption | intro _ | with_reducible apply State.Keeps.foldl |
                 with_reducible apply State.setPort_keeps | with_reducible apply State.setOut_keeps |
                 with_reducible apply State.setDom_keeps | simp only [State.Keeps.mk1] | simp only [State.Keeps.mk2] |
                 simp only [State.Keeps.mk3] | split)

theorem State.setPa_keeps {s0 : State} (s : State) (on : Bool) (x2 : List Nat) (h : s0.Keeps s) : s0.Keeps (State.setPa s on x2) := by
  induction x2 generalizing s on with
  | nil =>
    unfold State.setPa
    try dsimp only
    repeat' (first | with_reducible assumption | intro _ | with_reducible apply State.Keeps.foldl | with_reducible apply ih |
                   with_reducible apply State.setPortStat_keeps | simp only [State.Keeps.mk1] | simp only [State.Keeps.mk2] |
                   simp only [State.Keeps.mk3] | (split <;> try (rename_i hq; injection hq with hq1 hq2; subst hq1; subst hq2)))
  | cons _ _ ih =>
    unfold State.setPa
    try dsimp only
    repeat' (first | with_reducible assumption | intro _ | with_reducible apply State.Keeps.foldl | with_reducible apply ih |
                   with_reducible apply State.setPortStat_keeps | simp only [State.Keeps.mk1] | simp only [State.Keeps.mk2] |
                   simp only [State.Keeps.mk3] | (split <;> try (rename_i hq; injection hq with hq1 hq2; subst hq1; subst hq2)))

theorem State.mutePort_keeps {s0 : State} (s : State) (p : Nat) (h : s0.Keeps s) : s0.Keeps (State.mutePort s p) := by
  unfold State.mutePort
  try dsimp only
  repeat' (first | with_reducible assumption | intro _ | with_reducible apply State.Keeps.foldl |
                 with_reducible apply State.setPa_keeps | with_reducible apply State.cutPort_keeps | simp only [State.Keeps.mk1] |
                 simp only [State.Keeps.mk2] | simp only [State.Keeps.mk3] | split)

theorem State.forcePort_keeps {s0 : State} (s : State) (p : Nat) (h : s0.Keeps s) : s0.Keeps (State.forcePort s p) := by
  unfold State.forcePort
  try dsimp only
  repeat' (first | with_reducible assumption | intro _ | with_reducible apply State.Keeps.foldl |
                 with_reducible apply State.mutePort_keeps | with_reducible apply State.setPort_keeps |
                 with_reducible apply State.setDrain_keeps | simp only [State.Keeps.mk1] | simp only [State.Keeps.mk2] |
                 simp only [State.Keeps.mk3] | split)

theorem State.setRing_keeps {s0 : State} (s : State) (r : Nat) (x : Ring) (h : s0.Keeps s) : s0.Keeps (State.setRing s r x) := by
  unfold State.setRing
  try dsimp only
  repeat' (first | with_reducible assumption | intro _ | with_reducible apply State.Keeps.foldl | simp only [State.Keeps.mk1] |
                 simp only [State.Keeps.mk2] | simp only [State.Keeps.mk3] | split)

theorem State.setGain_keeps {s0 : State} (s : State) (p : Nat) (code : Nat) (h : s0.Keeps s) : s0.Keeps (State.setGain s p code) := by
  unfold State.setGain
  try dsimp only
  repeat' (first | with_reducible assumption | intro _ | with_reducible apply State.Keeps.foldl |
                 with_reducible apply State.setPortStat_keeps | with_reducible apply State.setRing_keeps |
                 simp only [State.Keeps.mk1] | simp only [State.Keeps.mk2] | simp only [State.Keeps.mk3] | split)

theorem State.portEvent_keeps {s0 : State} (s : State) (st : Status) (p : Nat) (rest : List (Nat × Nat))
     (h : s0.Keeps s) : s0.Keeps (State.portEvent s st p rest) := by
  unfold State.portEvent
  try dsimp only
  repeat' (first | with_reducible assumption | intro _ | with_reducible apply State.Keeps.foldl |
                 with_reducible apply State.event_keeps | simp only [State.Keeps.mk1] | simp only [State.Keeps.mk2] |
                 simp only [State.Keeps.mk3] | split)

theorem State.portDenied_keeps {s0 : State} (s : State) (p : Nat) (x2 : Nat) (h : s0.Keeps s) : s0.Keeps (State.portDenied s p x2) := by
  induction x2 generalizing s p with
  | zero =>
    unfold State.portDenied
    try dsimp only
    repeat' (first | with_reducible assumption | intro _ | with_reducible apply State.Keeps.foldl | with_reducible apply ih |
                   with_reducible apply State.portEvent_keeps | simp only [State.Keeps.mk1] | simp only [State.Keeps.mk2] |
                   simp only [State.Keeps.mk3] | split)
  | succ _ ih =>
    unfold State.portDenied
    try dsimp only
    repeat' (first | with_reducible assumption | intro _ | with_reducible apply State.Keeps.foldl | with_reducible apply ih |
                   with_reducible apply State.portEvent_keeps | simp only [State.Keeps.mk1] | simp only [State.Keeps.mk2] |
                   simp only [State.Keeps.mk3] | split)

theorem State.portEnabled_keeps {s0 : State} (s : State) (p : Nat) (was : Bool)
     (h : s0.Keeps s) : s0.Keeps (State.portEnabled s p was) := by
  unfold State.portEnabled
  try dsimp only
  repeat' (first | with_reducible assumption | intro _ | with_reducible apply State.Keeps.foldl |
                 with_reducible apply State.setDrain_keeps | with_reducible apply State.portBack_keeps |
                 with_reducible apply State.startDrain_keeps | with_reducible apply State.cutPort_keeps | simp only [State.Keeps.mk1] |
                 simp only [State.Keeps.mk2] | simp only [State.Keeps.mk3] | split)

theorem State.writePortCfg_keeps {s0 : State} (s : State) (p : Nat) (who : Who) (value : Word)
     (h : s0.Keeps s) : s0.Keeps (State.writePortCfg s p who value) := by
  unfold State.writePortCfg
  try dsimp only
  repeat' (first | with_reducible assumption | intro _ | with_reducible apply State.Keeps.foldl |
                 with_reducible apply State.gated_keeps | with_reducible apply State.portDenied_keeps |
                 with_reducible apply State.setReg_keeps | with_reducible apply State.setPort_keeps |
                 with_reducible apply State.portEnabled_keeps | simp only [State.Keeps.mk1] | simp only [State.Keeps.mk2] |
                 simp only [State.Keeps.mk3] | split)

theorem State.setStats_keeps {s0 : State} (s : State) (lo : Nat) (width : Nat) (v : Nat) (x4 : List Nat)
     (h : s0.Keeps s) : s0.Keeps (State.setStats s lo width v x4) := by
  induction x4 generalizing s lo width v with
  | nil =>
    unfold State.setStats
    try dsimp only
    repeat' (first | with_reducible assumption | intro _ | with_reducible apply State.Keeps.foldl | with_reducible apply ih |
                   with_reducible apply State.setPortStat_keeps | simp only [State.Keeps.mk1] | simp only [State.Keeps.mk2] |
                   simp only [State.Keeps.mk3] | (split <;> try (rename_i hq; injection hq with hq1 hq2; subst hq1; subst hq2)))
  | cons _ _ ih =>
    unfold State.setStats
    try dsimp only
    repeat' (first | with_reducible assumption | intro _ | with_reducible apply State.Keeps.foldl | with_reducible apply ih |
                   with_reducible apply State.setPortStat_keeps | simp only [State.Keeps.mk1] | simp only [State.Keeps.mk2] |
                   simp only [State.Keeps.mk3] | (split <;> try (rename_i hq; injection hq with hq1 hq2; subst hq1; subst hq2)))

theorem txpathChangeApply_keeps {s0 : State} (port : Nat) (s : State) (h : s0.Keeps s) : s0.Keeps (txpathChangeApply port s) := by
  unfold txpathChangeApply
  try dsimp only
  repeat' (first | with_reducible assumption | intro _ | with_reducible apply State.Keeps.foldl |
                 with_reducible apply State.setPort_keeps | simp only [State.Keeps.mk1] | simp only [State.Keeps.mk2] |
                 simp only [State.Keeps.mk3] | split)

theorem stagingUnderrun_keeps {s0 : State} (port : Nat) (s : State) (h : s0.Keeps s) : s0.Keeps (stagingUnderrun port s) := by
  unfold stagingUnderrun
  try dsimp only
  repeat' (first | with_reducible assumption | intro _ | with_reducible apply State.Keeps.foldl |
                 with_reducible apply State.endFrames_keeps | with_reducible apply State.countDetection_keeps |
                 with_reducible apply State.setPortStat_keeps | simp only [State.Keeps.mk1] | simp only [State.Keeps.mk2] |
                 simp only [State.Keeps.mk3] | split)

theorem portForcedDisable_keeps {s0 : State} (port : Nat) (s : State) (h : s0.Keeps s) : s0.Keeps (portForcedDisable port s) := by
  unfold portForcedDisable
  try dsimp only
  repeat' (first | with_reducible assumption | intro _ | with_reducible apply State.Keeps.foldl |
                 with_reducible apply State.forcePort_keeps | simp only [State.Keeps.mk1] | simp only [State.Keeps.mk2] |
                 simp only [State.Keeps.mk3] | split)

theorem State.sense_keeps {s0 : State} (s : State) (p : Nat) (mv : Nat) (h : s0.Keeps s) : s0.Keeps (State.sense s p mv) := by
  unfold State.sense
  try dsimp only
  repeat' (first | with_reducible assumption | intro _ | with_reducible apply State.Keeps.foldl |
                 with_reducible apply State.setFld_keeps | simp only [State.Keeps.mk1] | simp only [State.Keeps.mk2] |
                 simp only [State.Keeps.mk3] | split)

theorem lpIsenseRead_keeps {s0 : State} (port : Nat) (mv : Nat) (who : Who) (s : State)
     (h : s0.Keeps s) : s0.Keeps (lpIsenseRead port mv who s) := by
  unfold lpIsenseRead
  try dsimp only
  repeat' (first | with_reducible assumption | intro _ | with_reducible apply State.Keeps.foldl |
                 with_reducible apply State.sense_keeps | with_reducible apply State.returns_keeps |
                 with_reducible apply State.setFld_keeps | simp only [State.Keeps.mk1] | simp only [State.Keeps.mk2] |
                 simp only [State.Keeps.mk3] | split)

theorem portCfgWrite_keeps {s0 : State} (port : Nat) (who : Who) (value : Word) (s : State)
     (h : s0.Keeps s) : s0.Keeps (portCfgWrite port who value s) := by
  unfold portCfgWrite
  try dsimp only
  repeat' (first | with_reducible assumption | intro _ | with_reducible apply State.Keeps.foldl |
                 with_reducible apply State.writePortCfg_keeps | simp only [State.Keeps.mk1] | simp only [State.Keeps.mk2] |
                 simp only [State.Keeps.mk3] | split)

theorem portDisable_keeps {s0 : State} (port : Nat) (who : Who) (value : Word) (s : State)
     (h : s0.Keeps s) : s0.Keeps (portDisable port who value s) := by
  unfold portDisable
  try dsimp only
  repeat' (first | with_reducible assumption | intro _ | with_reducible apply State.Keeps.foldl |
                 with_reducible apply State.writePortCfg_keeps | simp only [State.Keeps.mk1] | simp only [State.Keeps.mk2] |
                 simp only [State.Keeps.mk3] | split)

theorem overcurrentMute_keeps {s0 : State} (port : Nat) (mv : Nat) (s : State)
     (h : s0.Keeps s) : s0.Keeps (overcurrentMute port mv s) := by
  unfold overcurrentMute
  try dsimp only
  repeat' (first | with_reducible assumption | intro _ | with_reducible apply State.Keeps.foldl |
                 with_reducible apply State.sense_keeps | with_reducible apply State.setStats_keeps |
                 with_reducible apply State.setPa_keeps | with_reducible apply State.endFrames_keeps |
                 with_reducible apply State.detectTest_keeps | simp only [State.Keeps.mk1] | simp only [State.Keeps.mk2] |
                 simp only [State.Keeps.mk3] | split)

theorem ownTxSuppressEnd_keeps {s0 : State} (fg : Nat) (s : State) (h : s0.Keeps s) : s0.Keeps (ownTxSuppressEnd fg s) := by
  unfold ownTxSuppressEnd
  try dsimp only
  repeat' (first | with_reducible assumption | intro _ | with_reducible apply State.Keeps.foldl | simp only [State.Keeps.mk1] |
                 simp only [State.Keeps.mk2] | simp only [State.Keeps.mk3] | split)

theorem agcLower_keeps {s0 : State} (input : Nat) (s : State) (h : s0.Keeps s) : s0.Keeps (agcLower input s) := by
  unfold agcLower
  try dsimp only
  repeat' (first | with_reducible assumption | intro _ | with_reducible apply State.Keeps.foldl |
                 with_reducible apply State.setGain_keeps | simp only [State.Keeps.mk1] | simp only [State.Keeps.mk2] |
                 simp only [State.Keeps.mk3] | split)

theorem State.foldBack_keeps {s0 : State} (s : State) (p : Nat) (mv : Nat) (h : s0.Keeps s) : s0.Keeps (State.foldBack s p mv) := by
  unfold State.foldBack
  try dsimp only
  repeat' (first | with_reducible assumption | intro _ | with_reducible apply State.Keeps.foldl |
                 with_reducible apply State.sense_keeps | with_reducible apply State.setStats_keeps | simp only [State.Keeps.mk1] |
                 simp only [State.Keeps.mk2] | simp only [State.Keeps.mk3] | split)

theorem foldbackFurtherStep_keeps {s0 : State} (port : Nat) (mv : Nat) (s : State)
     (h : s0.Keeps s) : s0.Keeps (foldbackFurtherStep port mv s) := by
  unfold foldbackFurtherStep
  try dsimp only
  repeat' (first | with_reducible assumption | intro _ | with_reducible apply State.Keeps.foldl |
                 with_reducible apply State.foldBack_keeps | simp only [State.Keeps.mk1] | simp only [State.Keeps.mk2] |
                 simp only [State.Keeps.mk3] | split)

theorem State.noteClipped_keeps {s0 : State} (s : State) (p : Nat) (t0 : Stamp) (runs : List (Nat × Nat))
     (h : s0.Keeps s) : s0.Keeps (State.noteClipped s p t0 runs) := by
  unfold State.noteClipped
  try dsimp only
  repeat' (first | with_reducible assumption | intro _ | with_reducible apply State.Keeps.foldl |
                 with_reducible apply State.setPortStat_keeps | with_reducible apply State.setReg_keeps |
                 with_reducible apply State.setPort_keeps | simp only [State.Keeps.mk1] | simp only [State.Keeps.mk2] |
                 simp only [State.Keeps.mk3] | split)

theorem agcRaise_keeps {s0 : State} (input : Nat) (s : State) (h : s0.Keeps s) : s0.Keeps (agcRaise input s) := by
  unfold agcRaise
  try dsimp only
  repeat' (first | with_reducible assumption | intro _ | with_reducible apply State.Keeps.foldl |
                 with_reducible apply State.setGain_keeps | simp only [State.Keeps.mk1] | simp only [State.Keeps.mk2] |
                 simp only [State.Keeps.mk3] | split)

theorem foldbackTrigger_keeps {s0 : State} (port : Nat) (mv : Nat) (s : State)
     (h : s0.Keeps s) : s0.Keeps (foldbackTrigger port mv s) := by
  unfold foldbackTrigger
  try dsimp only
  repeat' (first | with_reducible assumption | intro _ | with_reducible apply State.Keeps.foldl |
                 with_reducible apply State.foldBack_keeps | simp only [State.Keeps.mk1] | simp only [State.Keeps.mk2] |
                 simp only [State.Keeps.mk3] | split)

theorem paEnRelease_keeps {s0 : State} (port : Nat) (s : State) (h : s0.Keeps s) : s0.Keeps (paEnRelease port s) := by
  unfold paEnRelease
  try dsimp only
  repeat' (first | with_reducible assumption | intro _ | with_reducible apply State.Keeps.foldl |
                 with_reducible apply State.setPa_keeps | simp only [State.Keeps.mk1] | simp only [State.Keeps.mk2] |
                 simp only [State.Keeps.mk3] | split)

theorem overloadWindowEnd_keeps {s0 : State} (input : Nat) (sec : Nat) (s : State)
     (h : s0.Keeps s) : s0.Keeps (overloadWindowEnd input sec s) := by
  unfold overloadWindowEnd
  try dsimp only
  repeat' (first | with_reducible assumption | intro _ | with_reducible apply State.Keeps.foldl |
                 with_reducible apply State.setPort_keeps | with_reducible apply State.countDetectionAt_keeps |
                 with_reducible apply State.portEvent_keeps | with_reducible apply State.queueTest_keeps |
                 simp only [State.Keeps.mk1] | simp only [State.Keeps.mk2] | simp only [State.Keeps.mk3] | split)

end Sys2Proof.Machine
end

