-- ==== Sys2Proof/Laws/Keeps/RxBase.lean ====
section
/-! SUPPORT. What no function of Machine/RxBase.lean undoes (State.Keeps). -/

namespace Sys2Proof.Machine

open Sys2Proof

set_option linter.unreachableTactic false
set_option linter.unusedTactic false

theorem State.setDeferred_keeps {s0 : State} (s : State) (fg : Nat) (l : List Deferred)
     (h : s0.Keeps s) : s0.Keeps (State.setDeferred s fg l) := by
  unfold State.setDeferred
  try dsimp only
  repeat' (first | with_reducible assumption | intro _ | with_reducible apply State.Keeps.foldl | simp only [State.Keeps.mk1] |
                 simp only [State.Keeps.mk2] | simp only [State.Keeps.mk3] | split)

theorem State.pruneDeferred_keeps {s0 : State} (s : State) (fg : Nat) (h : s0.Keeps s) : s0.Keeps (State.pruneDeferred s fg) := by
  unfold State.pruneDeferred
  try dsimp only
  repeat' (first | with_reducible assumption | intro _ | with_reducible apply State.Keeps.foldl |
                 with_reducible apply State.setDeferred_keeps | simp only [State.Keeps.mk1] | simp only [State.Keeps.mk2] |
                 simp only [State.Keeps.mk3] | split)

theorem State.pruneAll_keeps {s0 : State} (s : State) (x1 : List Nat) (h : s0.Keeps s) : s0.Keeps (State.pruneAll s x1) := by
  induction x1 generalizing s with
  | nil =>
    unfold State.pruneAll
    try dsimp only
    repeat' (first | with_reducible assumption | intro _ | with_reducible apply State.Keeps.foldl | with_reducible apply ih |
                   with_reducible apply State.pruneDeferred_keeps | simp only [State.Keeps.mk1] | simp only [State.Keeps.mk2] |
                   simp only [State.Keeps.mk3] | (split <;> try (rename_i hq; injection hq with hq1 hq2; subst hq1; subst hq2)))
  | cons _ _ ih =>
    unfold State.pruneAll
    try dsimp only
    repeat' (first | with_reducible assumption | intro _ | with_reducible apply State.Keeps.foldl | with_reducible apply ih |
                   with_reducible apply State.pruneDeferred_keeps | simp only [State.Keeps.mk1] | simp only [State.Keeps.mk2] |
                   simp only [State.Keeps.mk3] | (split <;> try (rename_i hq; injection hq with hq1 hq2; subst hq1; subst hq2)))

theorem State.trimRings_keeps {s0 : State} (s : State) (h : s0.Keeps s) : s0.Keeps (State.trimRings s) := by
  unfold State.trimRings
  try dsimp only
  repeat' (first | with_reducible assumption | intro _ | with_reducible apply State.Keeps.foldl |
                 with_reducible apply State.pruneAll_keeps | simp only [State.Keeps.mk1] | simp only [State.Keeps.mk2] |
                 simp only [State.Keeps.mk3] | split)

theorem State.endRecep_keeps {s0 : State} (s : State) (r : Recep) (st : Status) (late : Bool) (src : Nat) (seq : Nat)
     (h : s0.Keeps s) : s0.Keeps (State.endRecep s r st late src seq) := by
  unfold State.endRecep
  try dsimp only
  repeat' (first | with_reducible assumption | intro _ | with_reducible apply State.Keeps.foldl |
                 with_reducible apply State.eventAs_keeps | simp only [State.Keeps.mk1] | simp only [State.Keeps.mk2] |
                 simp only [State.Keeps.mk3] | split)

theorem State.endReceps_keeps {s0 : State} (s : State) (st : Status) (x2 : List Recep)
     (h : s0.Keeps s) : s0.Keeps (State.endReceps s st x2) := by
  induction x2 generalizing s st with
  | nil =>
    unfold State.endReceps
    try dsimp only
    repeat' (first | with_reducible assumption | intro _ | with_reducible apply State.Keeps.foldl | with_reducible apply ih |
                   with_reducible apply State.endRecep_keeps | simp only [State.Keeps.mk1] | simp only [State.Keeps.mk2] |
                   simp only [State.Keeps.mk3] | (split <;> try (rename_i hq; injection hq with hq1 hq2; subst hq1; subst hq2)))
  | cons _ _ ih =>
    unfold State.endReceps
    try dsimp only
    repeat' (first | with_reducible assumption | intro _ | with_reducible apply State.Keeps.foldl | with_reducible apply ih |
                   with_reducible apply State.endRecep_keeps | simp only [State.Keeps.mk1] | simp only [State.Keeps.mk2] |
                   simp only [State.Keeps.mk3] | (split <;> try (rename_i hq; injection hq with hq1 hq2; subst hq1; subst hq2)))

theorem State.setRecep_keeps {s0 : State} (s : State) (r : Recep) (h : s0.Keeps s) : s0.Keeps (State.setRecep s r) := by
  unfold State.setRecep
  try dsimp only
  repeat' (first | with_reducible assumption | intro _ | with_reducible apply State.Keeps.foldl | simp only [State.Keeps.mk1] |
                 simp only [State.Keeps.mk2] | simp only [State.Keeps.mk3] | split)

theorem State.defer_keeps {s0 : State} (s : State) (fg : Nat) (d : Deferred) (h : s0.Keeps s) : s0.Keeps (State.defer s fg d) := by
  unfold State.defer
  try dsimp only
  repeat' (first | with_reducible assumption | intro _ | with_reducible apply State.Keeps.foldl |
                 with_reducible apply State.setDeferred_keeps | simp only [State.Keeps.mk1] | simp only [State.Keeps.mk2] |
                 simp only [State.Keeps.mk3] | split)

theorem State.rescan_keeps {s0 : State} (s : State) (fg : Nat) (src : Nat) (t0 : Stamp) (t1 : Stamp) (deferredOnly : Bool)
     (host : Bool) (h : s0.Keeps s) : s0.Keeps (State.rescan s fg src t0 t1 deferredOnly host) := by
  unfold State.rescan
  try dsimp only
  repeat' (first | with_reducible assumption | intro _ | with_reducible apply State.Keeps.foldl |
                 with_reducible apply State.event_keeps | with_reducible apply State.setFld_keeps | simp only [State.Keeps.mk1] |
                 simp only [State.Keeps.mk2] | simp only [State.Keeps.mk3] | split)

theorem State.emptyRings_keeps {s0 : State} (s : State) (keep : List Nat) (h : s0.Keeps s) : s0.Keeps (State.emptyRings s keep) := by
  unfold State.emptyRings
  try dsimp only
  repeat' (first | with_reducible assumption | intro _ | with_reducible apply State.Keeps.foldl |
                 with_reducible apply State.pruneAll_keeps | simp only [State.Keeps.mk1] | simp only [State.Keeps.mk2] |
                 simp only [State.Keeps.mk3] | split)

end Sys2Proof.Machine
end

