-- ==== Sys2Proof/Laws/Keeps/Deliver.lean ====
section
/-! SUPPORT. What no function of Machine/Deliver.lean undoes (State.Keeps). -/

namespace Sys2Proof.Machine

open Sys2Proof

set_option linter.unreachableTactic false
set_option linter.unusedTactic false

theorem State.tellEmpty_keeps {s0 : State} (s : State) (f : Frame) (h : s0.Keeps s) : s0.Keeps (State.tellEmpty s f) := by
  unfold State.tellEmpty
  try dsimp only
  repeat' (first | with_reducible assumption | intro _ | with_reducible apply State.Keeps.foldl |
                 with_reducible apply State.sendTo_keeps | simp only [State.Keeps.mk1] | simp only [State.Keeps.mk2] |
                 simp only [State.Keeps.mk3] | split)

theorem State.ackFrame_keeps {s0 : State} (s : State) (f : Frame) (h : s0.Keeps s) : s0.Keeps (State.ackFrame s f) := by
  unfold State.ackFrame
  try dsimp only
  repeat' (first | with_reducible assumption | intro _ | with_reducible apply State.Keeps.foldl |
                 with_reducible apply State.setNode_keeps | with_reducible apply State.tellEmpty_keeps |
                 with_reducible apply State.endFrame_keeps | simp only [State.Keeps.mk1] | simp only [State.Keeps.mk2] |
                 simp only [State.Keeps.mk3] | split)

theorem State.countFail_keeps {s0 : State} (s : State) (a : Nat) (h : s0.Keeps s) : s0.Keeps (State.countFail s a) := by
  unfold State.countFail
  try dsimp only
  repeat' (first | with_reducible assumption | intro _ | with_reducible apply State.Keeps.foldl |
                 with_reducible apply State.setNode_keeps | simp only [State.Keeps.mk1] | simp only [State.Keeps.mk2] |
                 simp only [State.Keeps.mk3] | split)

theorem State.nackFrame_keeps {s0 : State} (s : State) (f : Frame) (h : s0.Keeps s) : s0.Keeps (State.nackFrame s f) := by
  unfold State.nackFrame
  try dsimp only
  repeat' (first | with_reducible assumption | intro _ | with_reducible apply State.Keeps.foldl |
                 with_reducible apply State.setFrame_keeps | with_reducible apply State.countFail_keeps |
                 with_reducible apply State.endFrame_keeps | simp only [State.Keeps.mk1] | simp only [State.Keeps.mk2] |
                 simp only [State.Keeps.mk3] | split)

theorem State.takeAcks_keeps {s0 : State} (s : State) (a : Nat) (x2 : List AckEntry)
     (h : s0.Keeps s) : s0.Keeps (State.takeAcks s a x2) := by
  induction x2 generalizing s a with
  | nil =>
    unfold State.takeAcks
    try dsimp only
    repeat' (first | with_reducible assumption | intro _ | with_reducible apply State.Keeps.foldl | with_reducible apply ih |
                   with_reducible apply State.ackFrame_keeps | with_reducible apply State.nackFrame_keeps |
                   with_reducible apply State.endFrame_keeps | simp only [State.Keeps.mk1] | simp only [State.Keeps.mk2] |
                   simp only [State.Keeps.mk3] | (split <;> try (rename_i hq; injection hq with hq1 hq2; subst hq1; subst hq2)))
  | cons _ _ ih =>
    unfold State.takeAcks
    try dsimp only
    repeat' (first | with_reducible assumption | intro _ | with_reducible apply State.Keeps.foldl | with_reducible apply ih |
                   with_reducible apply State.ackFrame_keeps | with_reducible apply State.nackFrame_keeps |
                   with_reducible apply State.endFrame_keeps | simp only [State.Keeps.mk1] | simp only [State.Keeps.mk2] |
                   simp only [State.Keeps.mk3] | (split <;> try (rename_i hq; injection hq with hq1 hq2; subst hq1; subst hq2)))

theorem State.oweAck_keeps {s0 : State} (s : State) (a : Nat) (want : Bool) (late : Bool) (e : AckEntry)
     (h : s0.Keeps s) : s0.Keeps (State.oweAck s a want late e) := by
  unfold State.oweAck
  try dsimp only
  repeat' (first | with_reducible assumption | intro _ | with_reducible apply State.Keeps.foldl | simp only [State.Keeps.mk1] |
                 simp only [State.Keeps.mk2] | simp only [State.Keeps.mk3] | split)

theorem State.waitFbd_keeps {s0 : State} (s : State) (w : FbdWait) (h : s0.Keeps s) : s0.Keeps (State.waitFbd s w) := by
  unfold State.waitFbd
  try dsimp only
  repeat' (first | with_reducible assumption | intro _ | with_reducible apply State.Keeps.foldl | simp only [State.Keeps.mk1] |
                 simp only [State.Keeps.mk2] | simp only [State.Keeps.mk3] | split)

theorem State.uplinkDatagrams_keeps {s0 : State} (s : State) (port : Nat) (gaddr : Nat) (len : Nat) (svc : Nat) (i : Nat) (x6 : Nat)
     (h : s0.Keeps s) : s0.Keeps (State.uplinkDatagrams s port gaddr len svc i x6) := by
  induction x6 generalizing s port gaddr len svc i with
  | zero =>
    unfold State.uplinkDatagrams
    try dsimp only
    repeat' (first | with_reducible assumption | intro _ | with_reducible apply State.Keeps.foldl | with_reducible apply ih |
                   simp only [State.Keeps.mk1] | simp only [State.Keeps.mk2] | simp only [State.Keeps.mk3] | split)
  | succ _ ih =>
    unfold State.uplinkDatagrams
    try dsimp only
    repeat' (first | with_reducible assumption | intro _ | with_reducible apply State.Keeps.foldl | with_reducible apply ih |
                   simp only [State.Keeps.mk1] | simp only [State.Keeps.mk2] | simp only [State.Keeps.mk3] | split)

theorem State.uplinkEvents_keeps {s0 : State} (s : State) (gaddr : Nat) (len : Nat) (svc : Nat) (seq : Nat) (i : Nat) (x6 : Nat)
     (h : s0.Keeps s) : s0.Keeps (State.uplinkEvents s gaddr len svc seq i x6) := by
  induction x6 generalizing s gaddr len svc seq i with
  | zero =>
    unfold State.uplinkEvents
    try dsimp only
    repeat' (first | with_reducible assumption | intro _ | with_reducible apply State.Keeps.foldl | with_reducible apply ih |
                   with_reducible apply State.drew_keeps | with_reducible apply State.eventAs_keeps | simp only [State.Keeps.mk1] |
                   simp only [State.Keeps.mk2] | simp only [State.Keeps.mk3] | split)
  | succ _ ih =>
    unfold State.uplinkEvents
    try dsimp only
    repeat' (first | with_reducible assumption | intro _ | with_reducible apply State.Keeps.foldl | with_reducible apply ih |
                   with_reducible apply State.drew_keeps | with_reducible apply State.eventAs_keeps | simp only [State.Keeps.mk1] |
                   simp only [State.Keeps.mk2] | simp only [State.Keeps.mk3] | split)

theorem State.toHost_keeps {s0 : State} (s : State) (a : Nat) (len : Nat) (svc : Nat) (seq : Nat)
     (h : s0.Keeps s) : s0.Keeps (State.toHost s a len svc seq) := by
  unfold State.toHost
  try dsimp only
  repeat' (first | with_reducible assumption | intro _ | with_reducible apply State.Keeps.foldl |
                 with_reducible apply State.uplinkDatagrams_keeps | with_reducible apply State.uplinkEvents_keeps |
                 simp only [State.Keeps.mk1] | simp only [State.Keeps.mk2] | simp only [State.Keeps.mk3] | split)

theorem State.delivered_keeps {s0 : State} (s : State) (n : Node) (x2 : Heard) (h : s0.Keeps s) : s0.Keeps (State.delivered s n x2) := by
  unfold State.delivered
  try dsimp only
  repeat' (first | with_reducible assumption | intro _ | with_reducible apply State.Keeps.foldl |
                 with_reducible apply State.setNode_keeps | with_reducible apply State.ckRx_keeps |
                 with_reducible apply State.oweAck_keeps | with_reducible apply State.toHost_keeps | simp only [State.Keeps.mk1] |
                 simp only [State.Keeps.mk2] | simp only [State.Keeps.mk3] | split)

theorem State.onVerdict_keeps {s0 : State} (s : State) (n : Node) (x : Heard) (v : Verdict) (h : s0.Keeps s) :
    s0.Keeps (State.onVerdict s n x v).1 := by
  unfold State.onVerdict
  split
  · exact h
  · exact State.oweAck_keeps _ _ _ _ _ h
  · split
    · exact State.ckRx_keeps _ _ _ h
    · split
      · exact State.waitFbd_keeps _ _ h
      · exact State.delivered_keeps _ _ _ h

theorem State.judgeFrame_keeps {s0 : State} (s : State) (x : Heard) (h : s0.Keeps s) : s0.Keeps (State.judgeFrame s x).1 := by
  unfold State.judgeFrame
  generalize s.node x.src = o
  cases o with
  | none => exact h
  | some n => exact State.onVerdict_keeps _ _ _ _ h

theorem State.heardOk_keeps {s0 : State} (s : State) (a : Nat) (fg : Nat) (line : Stamp) (snr : Option Int)
     (h : s0.Keeps s) : s0.Keeps (State.heardOk s a fg line snr) := by
  unfold State.heardOk
  try dsimp only
  repeat' (first | with_reducible assumption | intro _ | with_reducible apply State.Keeps.foldl |
                 with_reducible apply State.setNode_keeps | with_reducible apply State.rescan_keeps |
                 with_reducible apply State.event_keeps | simp only [State.Keeps.mk1] | simp only [State.Keeps.mk2] |
                 simp only [State.Keeps.mk3] | split)

theorem State.takeDmap_keeps {s0 : State} (s : State) (a : Nat) (x2 : Nat) (dmap : BitVec 32)
     (h : s0.Keeps s) : s0.Keeps (State.takeDmap s a x2 dmap) := by
  unfold State.takeDmap
  try dsimp only
  repeat' (first | with_reducible assumption | intro _ | with_reducible apply State.Keeps.foldl |
                 with_reducible apply State.ackFrame_keeps | simp only [State.Keeps.mk1] | simp only [State.Keeps.mk2] |
                 simp only [State.Keeps.mk3] | split)

theorem State.retryFbd_keeps {s0 : State} (s : State) (w : FbdWait) (h : s0.Keeps s) : s0.Keeps (State.retryFbd s w) := by
  unfold State.retryFbd
  try dsimp only
  repeat' (first | with_reducible assumption | intro _ | with_reducible apply State.Keeps.foldl |
                 with_reducible apply State.judgeFrame_keeps | simp only [State.Keeps.mk1] | simp only [State.Keeps.mk2] |
                 simp only [State.Keeps.mk3] | split)

theorem fbdWaitTimeout_keeps {s0 : State} (src : Nat) (seq : Nat) (s : State) (h : s0.Keeps s) : s0.Keeps (fbdWaitTimeout src seq s) := by
  unfold fbdWaitTimeout
  try dsimp only
  repeat' (first | with_reducible assumption | intro _ | with_reducible apply State.Keeps.foldl |
                 with_reducible apply State.setFld_keeps | with_reducible apply State.oweAck_keeps |
                 with_reducible apply State.event_keeps | simp only [State.Keeps.mk1] | simp only [State.Keeps.mk2] |
                 simp only [State.Keeps.mk3] | split)

theorem State.serveFbdWait_keeps {s0 : State} (s : State) (x1 : Nat) (h : s0.Keeps s) : s0.Keeps (State.serveFbdWait s x1) := by
  induction x1 generalizing s with
  | zero =>
    unfold State.serveFbdWait
    try dsimp only
    repeat' (first | with_reducible assumption | intro _ | with_reducible apply State.Keeps.foldl | with_reducible apply ih |
                   with_reducible apply State.retryFbd_keeps | simp only [State.Keeps.mk1] | simp only [State.Keeps.mk2] |
                   simp only [State.Keeps.mk3] | split)
  | succ _ ih =>
    unfold State.serveFbdWait
    try dsimp only
    repeat' (first | with_reducible assumption | intro _ | with_reducible apply State.Keeps.foldl | with_reducible apply ih |
                   with_reducible apply State.retryFbd_keeps | simp only [State.Keeps.mk1] | simp only [State.Keeps.mk2] |
                   simp only [State.Keeps.mk3] | split)

theorem fbdReturnTake_keeps {s0 : State} (s : State) (h : s0.Keeps s) : s0.Keeps (fbdReturnTake s) := by
  unfold fbdReturnTake
  try dsimp only
  repeat' (first | with_reducible assumption | intro _ | with_reducible apply State.Keeps.foldl |
                 with_reducible apply State.serveFbdWait_keeps | with_reducible apply State.setFld_keeps |
                 simp only [State.Keeps.mk1] | simp only [State.Keeps.mk2] | simp only [State.Keeps.mk3] | split)

end Sys2Proof.Machine
end

