-- ==== Sys2Proof/Laws/Keeps/Evidence.lean ====
section
/-! SUPPORT. What no function of Machine/Evidence.lean undoes (State.Keeps). -/

namespace Sys2Proof.Machine

open Sys2Proof

set_option linter.unreachableTactic false
set_option linter.unusedTactic false

theorem State.roomForEvidence_keeps {s0 : State} (s : State) (h : s0.Keeps s) : s0.Keeps (State.roomForEvidence s) := by
  unfold State.roomForEvidence
  try dsimp only
  repeat' (first | with_reducible assumption | intro _ | with_reducible apply State.Keeps.foldl |
                 with_reducible apply State.setFld_keeps | simp only [State.Keeps.mk1] | simp only [State.Keeps.mk2] |
                 simp only [State.Keeps.mk3] | split)

theorem State.finding_keeps {s0 : State} (s : State) (code : Nat) (found : Finding)
     (h : s0.Keeps s) : s0.Keeps (State.finding s code found) := by
  unfold State.finding
  try dsimp only
  repeat' (first | with_reducible assumption | intro _ | with_reducible apply State.Keeps.foldl |
                 with_reducible apply State.roomForEvidence_keeps | with_reducible apply State.event_keeps |
                 with_reducible apply State.drew_keeps | simp only [State.Keeps.mk1] | simp only [State.Keeps.mk2] |
                 simp only [State.Keeps.mk3] | split)

theorem State.setRanging_keeps {s0 : State} (s : State) (x : RangeSet) (h : s0.Keeps s) : s0.Keeps (State.setRanging s x) := by
  unfold State.setRanging
  try dsimp only
  repeat' (first | with_reducible assumption | intro _ | with_reducible apply State.Keeps.foldl | simp only [State.Keeps.mk1] |
                 simp only [State.Keeps.mk2] | simp only [State.Keeps.mk3] | split)

theorem State.nextExchange_keeps {s0 : State} (s : State) (x : RangeSet) (h : s0.Keeps s) : s0.Keeps (State.nextExchange s x) := by
  unfold State.nextExchange
  try dsimp only
  repeat' (first | with_reducible assumption | intro _ | with_reducible apply State.Keeps.foldl |
                 with_reducible apply State.finding_keeps | with_reducible apply State.sendMgmt_keeps |
                 with_reducible apply State.setRanging_keeps | simp only [State.Keeps.mk1] | simp only [State.Keeps.mk2] |
                 simp only [State.Keeps.mk3] | split)

theorem State.beginSet_keeps {s0 : State} (s : State) (a : Nat) (h : s0.Keeps s) : s0.Keeps (State.beginSet s a) := by
  unfold State.beginSet
  try dsimp only
  repeat' (first | with_reducible assumption | intro _ | with_reducible apply State.Keeps.foldl |
                 with_reducible apply State.nextExchange_keeps | simp only [State.Keeps.mk1] | simp only [State.Keeps.mk2] |
                 simp only [State.Keeps.mk3] | split)

theorem State.noteExchange_keeps {s0 : State} (s : State) (a : Nat) (rid : Nat) (f : Exchange → Exchange)
     (h : s0.Keeps s) : s0.Keeps (State.noteExchange s a rid f) := by
  unfold State.noteExchange
  try dsimp only
  repeat' (first | with_reducible assumption | intro _ | with_reducible apply State.Keeps.foldl | simp only [State.Keeps.mk1] |
                 simp only [State.Keeps.mk2] | simp only [State.Keeps.mk3] | split)

theorem State.noteAnswer_keeps {s0 : State} (s : State) (a : Nat) (line : Stamp) (eps : Int) (x4 : List AckEntry)
     (h : s0.Keeps s) : s0.Keeps (State.noteAnswer s a line eps x4) := by
  induction x4 generalizing s a line eps with
  | nil =>
    unfold State.noteAnswer
    try dsimp only
    repeat' (first | with_reducible assumption | intro _ | with_reducible apply State.Keeps.foldl | with_reducible apply ih |
                   with_reducible apply State.noteExchange_keeps | simp only [State.Keeps.mk1] | simp only [State.Keeps.mk2] |
                   simp only [State.Keeps.mk3] | (split <;> try (rename_i hq; injection hq with hq1 hq2; subst hq1; subst hq2)))
  | cons _ _ ih =>
    unfold State.noteAnswer
    try dsimp only
    repeat' (first | with_reducible assumption | intro _ | with_reducible apply State.Keeps.foldl | with_reducible apply ih |
                   with_reducible apply State.noteExchange_keeps | simp only [State.Keeps.mk1] | simp only [State.Keeps.mk2] |
                   simp only [State.Keeps.mk3] | (split <;> try (rename_i hq; injection hq with hq1 hq2; subst hq1; subst hq2)))

theorem State.noteRequest_keeps {s0 : State} (s : State) (f : Frame) (h : s0.Keeps s) : s0.Keeps (State.noteRequest s f) := by
  unfold State.noteRequest
  try dsimp only
  repeat' (first | with_reducible assumption | intro _ | with_reducible apply State.Keeps.foldl |
                 with_reducible apply State.noteExchange_keeps | simp only [State.Keeps.mk1] | simp only [State.Keeps.mk2] |
                 simp only [State.Keeps.mk3] | split)

end Sys2Proof.Machine
end

