-- ==== Sys2Proof/Laws/Keeps/HostUnit.lean ====
section
/-! SUPPORT. What no function of Machine/HostUnit.lean undoes (State.Keeps). -/

namespace Sys2Proof.Machine

open Sys2Proof

set_option linter.unreachableTactic false
set_option linter.unusedTactic false

theorem fbdretWrite_keeps {s0 : State} (index : Nat) (s : State) (h : s0.Keeps s) : s0.Keeps (fbdretWrite index s) := by
  unfold fbdretWrite
  try dsimp only
  repeat' (first | with_reducible assumption | intro _ | with_reducible apply State.Keeps.foldl |
                 with_reducible apply State.gated_keeps | with_reducible apply State.setFld_keeps | simp only [State.Keeps.mk1] |
                 simp only [State.Keeps.mk2] | simp only [State.Keeps.mk3] | split)

theorem State.setPair_keeps {s0 : State} (s : State) (q : Nat) (p : QPair) (h : s0.Keeps s) : s0.Keeps (State.setPair s q p) := by
  unfold State.setPair
  try dsimp only
  repeat' (first | with_reducible assumption | intro _ | with_reducible apply State.Keeps.foldl | simp only [State.Keeps.mk1] |
                 simp only [State.Keeps.mk2] | simp only [State.Keeps.mk3] | split)

theorem queueEnable_keeps {s0 : State} (pair : Nat) (value : Word) (s : State)
     (h : s0.Keeps s) : s0.Keeps (queueEnable pair value s) := by
  unfold queueEnable
  try dsimp only
  repeat' (first | with_reducible assumption | intro _ | with_reducible apply State.Keeps.foldl |
                 with_reducible apply State.gated_keeps | with_reducible apply State.setReg_keeps |
                 with_reducible apply State.setFld_keeps | with_reducible apply State.noteIrq1_keeps |
                 with_reducible apply State.setPair_keeps | simp only [State.Keeps.mk1] | simp only [State.Keeps.mk2] |
                 simp only [State.Keeps.mk3] | split)

theorem State.disablePair_keeps {s0 : State} (s : State) (q : Nat) (h : s0.Keeps s) : s0.Keeps (State.disablePair s q) := by
  unfold State.disablePair
  try dsimp only
  repeat' (first | with_reducible assumption | intro _ | with_reducible apply State.Keeps.foldl |
                 with_reducible apply State.setPair_keeps | with_reducible apply State.setFld_keeps | simp only [State.Keeps.mk1] |
                 simp only [State.Keeps.mk2] | simp only [State.Keeps.mk3] | split)

theorem queueDisable_keeps {s0 : State} (pair : Nat) (value : Word) (s : State)
     (h : s0.Keeps s) : s0.Keeps (queueDisable pair value s) := by
  unfold queueDisable
  try dsimp only
  repeat' (first | with_reducible assumption | intro _ | with_reducible apply State.Keeps.foldl |
                 with_reducible apply State.gated_keeps | with_reducible apply State.noteIrq1_keeps |
                 with_reducible apply State.disablePair_keeps | with_reducible apply State.setReg_keeps | simp only [State.Keeps.mk1] |
                 simp only [State.Keeps.mk2] | simp only [State.Keeps.mk3] | split)

theorem State.fetch_keeps {s0 : State} (s : State) (q : Nat) (x2 : List Sqe) (h : s0.Keeps s) : s0.Keeps (State.fetch s q x2) := by
  induction x2 generalizing s q with
  | nil =>
    unfold State.fetch
    try dsimp only
    repeat' (first | with_reducible assumption | intro _ | with_reducible apply State.Keeps.foldl | with_reducible apply ih |
                   with_reducible apply State.complete_keeps | with_reducible apply State.setPair_keeps | simp only [State.Keeps.mk1] |
                   simp only [State.Keeps.mk2] | simp only [State.Keeps.mk3] |
                   (split <;> try (rename_i hq; injection hq with hq1 hq2; subst hq1; subst hq2)))
  | cons _ _ ih =>
    unfold State.fetch
    try dsimp only
    repeat' (first | with_reducible assumption | intro _ | with_reducible apply State.Keeps.foldl | with_reducible apply ih |
                   with_reducible apply State.complete_keeps | with_reducible apply State.setPair_keeps | simp only [State.Keeps.mk1] |
                   simp only [State.Keeps.mk2] | simp only [State.Keeps.mk3] |
                   (split <;> try (rename_i hq; injection hq with hq1 hq2; subst hq1; subst hq2)))

theorem State.fetchPair_keeps {s0 : State} (s : State) (q : Nat) (h : s0.Keeps s) : s0.Keeps (State.fetchPair s q) := by
  unfold State.fetchPair
  try dsimp only
  repeat' (first | with_reducible assumption | intro _ | with_reducible apply State.Keeps.foldl |
                 with_reducible apply State.fetch_keeps | with_reducible apply State.setPair_keeps | simp only [State.Keeps.mk1] |
                 simp only [State.Keeps.mk2] | simp only [State.Keeps.mk3] | split)

theorem sqDoorbell_keeps {s0 : State} (pair : Nat) (tail : Nat) (cmds : List Sqe) (s : State)
     (h : s0.Keeps s) : s0.Keeps (sqDoorbell pair tail cmds s) := by
  unfold sqDoorbell
  try dsimp only
  repeat' (first | with_reducible assumption | intro _ | with_reducible apply State.Keeps.foldl |
                 with_reducible apply State.gated_keeps | with_reducible apply State.setReg_keeps |
                 with_reducible apply State.fetchPair_keeps | with_reducible apply State.setPair_keeps | simp only [State.Keeps.mk1] |
                 simp only [State.Keeps.mk2] | simp only [State.Keeps.mk3] | split)

theorem cqHeadWrite_keeps {s0 : State} (pair : Nat) (head : Nat) (s : State) (h : s0.Keeps s) : s0.Keeps (cqHeadWrite pair head s) := by
  unfold cqHeadWrite
  try dsimp only
  repeat' (first | with_reducible assumption | intro _ | with_reducible apply State.Keeps.foldl |
                 with_reducible apply State.gated_keeps | with_reducible apply State.noteIrq1_keeps |
                 with_reducible apply State.setReg_keeps | simp only [State.Keeps.mk1] | simp only [State.Keeps.mk2] |
                 simp only [State.Keeps.mk3] | split)

theorem ethPortDisable_keeps {s0 : State} (port : Nat) (who : Who) (value : Word) (s : State)
     (h : s0.Keeps s) : s0.Keeps (ethPortDisable port who value s) := by
  unfold ethPortDisable
  try dsimp only
  repeat' (first | with_reducible assumption | intro _ | with_reducible apply State.Keeps.foldl |
                 with_reducible apply State.gated_keeps | with_reducible apply State.setReg_keeps |
                 with_reducible apply State.setDrain_keeps | with_reducible apply State.setOut_keeps |
                 with_reducible apply State.startDrain_keeps | simp only [State.Keeps.mk1] | simp only [State.Keeps.mk2] |
                 simp only [State.Keeps.mk3] | split)

theorem State.eventLost_keeps {s0 : State} (s : State) (h : s0.Keeps s) : s0.Keeps (State.eventLost s) := by
  unfold State.eventLost
  try dsimp only
  repeat' (first | with_reducible assumption | intro _ | with_reducible apply State.Keeps.foldl |
                 with_reducible apply State.setFld_keeps | with_reducible apply State.bumpFld_keeps | simp only [State.Keeps.mk1] |
                 simp only [State.Keeps.mk2] | simp only [State.Keeps.mk3] | split)

theorem State.disablePairs_keeps {s0 : State} (s : State) (x1 : List Nat) (h : s0.Keeps s) : s0.Keeps (State.disablePairs s x1) := by
  induction x1 generalizing s with
  | nil =>
    unfold State.disablePairs
    try dsimp only
    repeat' (first | with_reducible assumption | intro _ | with_reducible apply State.Keeps.foldl | with_reducible apply ih |
                   with_reducible apply State.disablePair_keeps | simp only [State.Keeps.mk1] | simp only [State.Keeps.mk2] |
                   simp only [State.Keeps.mk3] | (split <;> try (rename_i hq; injection hq with hq1 hq2; subst hq1; subst hq2)))
  | cons _ _ ih =>
    unfold State.disablePairs
    try dsimp only
    repeat' (first | with_reducible assumption | intro _ | with_reducible apply State.Keeps.foldl | with_reducible apply ih |
                   with_reducible apply State.disablePair_keeps | simp only [State.Keeps.mk1] | simp only [State.Keeps.mk2] |
                   simp only [State.Keeps.mk3] | (split <;> try (rename_i hq; injection hq with hq1 hq2; subst hq1; subst hq2)))

theorem State.start_keeps {s0 : State} (s : State) (src : Src) (h : s0.Keeps s) : s0.Keeps (State.start s src) := by
  unfold State.start
  try dsimp only
  repeat' (first | with_reducible assumption | intro _ | with_reducible apply State.Keeps.foldl |
                 with_reducible apply State.setPair_keeps | simp only [State.Keeps.mk1] | simp only [State.Keeps.mk2] |
                 simp only [State.Keeps.mk3] | split)

theorem coalescingTimeout_keeps {s0 : State} (pair : Nat) (s : State) (h : s0.Keeps s) : s0.Keeps (coalescingTimeout pair s) := by
  unfold coalescingTimeout
  try dsimp only
  repeat' (first | with_reducible assumption | intro _ | with_reducible apply State.Keeps.foldl |
                 with_reducible apply State.msix_keeps | simp only [State.Keeps.mk1] | simp only [State.Keeps.mk2] |
                 simp only [State.Keeps.mk3] | split)

theorem State.mirrorEvent_keeps {s0 : State} (s : State) (r : Rec) (h : s0.Keeps s) : s0.Keeps (State.mirrorEvent s r) := by
  unfold State.mirrorEvent
  try dsimp only
  repeat' (first | with_reducible assumption | intro _ | with_reducible apply State.Keeps.foldl | simp only [State.Keeps.mk1] |
                 simp only [State.Keeps.mk2] | simp only [State.Keeps.mk3] | split)

theorem State.fetchPairs_keeps {s0 : State} (s : State) (x1 : List Nat) (h : s0.Keeps s) : s0.Keeps (State.fetchPairs s x1) := by
  induction x1 generalizing s with
  | nil =>
    unfold State.fetchPairs
    try dsimp only
    repeat' (first | with_reducible assumption | intro _ | with_reducible apply State.Keeps.foldl | with_reducible apply ih |
                   with_reducible apply State.fetchPair_keeps | simp only [State.Keeps.mk1] | simp only [State.Keeps.mk2] |
                   simp only [State.Keeps.mk3] | (split <;> try (rename_i hq; injection hq with hq1 hq2; subst hq1; subst hq2)))
  | cons _ _ ih =>
    unfold State.fetchPairs
    try dsimp only
    repeat' (first | with_reducible assumption | intro _ | with_reducible apply State.Keeps.foldl | with_reducible apply ih |
                   with_reducible apply State.fetchPair_keeps | simp only [State.Keeps.mk1] | simp only [State.Keeps.mk2] |
                   simp only [State.Keeps.mk3] | (split <;> try (rename_i hq; injection hq with hq1 hq2; subst hq1; subst hq2)))

theorem State.post_keeps {s0 : State} (s : State) (q : Nat) (r : Rec) (h : s0.Keeps s) : s0.Keeps (State.post s q r) := by
  unfold State.post
  try dsimp only
  repeat' (first | with_reducible assumption | intro _ | with_reducible apply State.Keeps.foldl |
                 with_reducible apply State.setPair_keeps | with_reducible apply State.msix_keeps |
                 with_reducible apply State.noteIrq1_keeps | simp only [State.Keeps.mk1] | simp only [State.Keeps.mk2] |
                 simp only [State.Keeps.mk3] | split)

theorem eventPost_keeps {s0 : State} (s : State) (h : s0.Keeps s) : s0.Keeps (eventPost s) := by
  unfold eventPost
  try dsimp only
  repeat' (first | with_reducible assumption | intro _ | with_reducible apply State.Keeps.foldl |
                 with_reducible apply State.post_keeps | with_reducible apply State.mirrorEvent_keeps |
                 with_reducible apply State.eventLost_keeps | simp only [State.Keeps.mk1] | simp only [State.Keeps.mk2] |
                 simp only [State.Keeps.mk3] | split)

theorem State.clearWindows_keeps {s0 : State} (s : State) (x1 : List Nat) (h : s0.Keeps s) : s0.Keeps (State.clearWindows s x1) := by
  induction x1 generalizing s with
  | nil =>
    unfold State.clearWindows
    try dsimp only
    repeat' (first | with_reducible assumption | intro _ | with_reducible apply State.Keeps.foldl | with_reducible apply ih |
                   with_reducible apply State.setReg_keeps | simp only [State.Keeps.mk1] | simp only [State.Keeps.mk2] |
                   simp only [State.Keeps.mk3] | (split <;> try (rename_i hq; injection hq with hq1 hq2; subst hq1; subst hq2)))
  | cons _ _ ih =>
    unfold State.clearWindows
    try dsimp only
    repeat' (first | with_reducible assumption | intro _ | with_reducible apply State.Keeps.foldl | with_reducible apply ih |
                   with_reducible apply State.setReg_keeps | simp only [State.Keeps.mk1] | simp only [State.Keeps.mk2] |
                   simp only [State.Keeps.mk3] | (split <;> try (rename_i hq; injection hq with hq1 hq2; subst hq1; subst hq2)))

theorem perstNAssert_keeps {s0 : State} (s : State) (h : s0.Keeps s) : s0.Keeps (perstNAssert s) := by
  unfold perstNAssert
  try dsimp only
  repeat' (first | with_reducible assumption | intro _ | with_reducible apply State.Keeps.foldl |
                 with_reducible apply State.noteIrq1_keeps | with_reducible apply State.clearWindows_keeps |
                 with_reducible apply State.disablePairs_keeps | simp only [State.Keeps.mk1] | simp only [State.Keeps.mk2] |
                 simp only [State.Keeps.mk3] | split)

theorem eventDropTimeout_keeps {s0 : State} (s : State) (h : s0.Keeps s) : s0.Keeps (eventDropTimeout s) := by
  unfold eventDropTimeout
  try dsimp only
  repeat' (first | with_reducible assumption | intro _ | with_reducible apply State.Keeps.foldl |
                 with_reducible apply State.eventLost_keeps | simp only [State.Keeps.mk1] | simp only [State.Keeps.mk2] |
                 simp only [State.Keeps.mk3] | split)

theorem nopCommand_keeps {s0 : State} (src : Src) (s : State) (h : s0.Keeps s) : s0.Keeps (nopCommand src s) := by
  unfold nopCommand
  try dsimp only
  repeat' (first | with_reducible assumption | intro _ | with_reducible apply State.Keeps.foldl |
                 with_reducible apply State.complete_keeps | with_reducible apply State.start_keeps | simp only [State.Keeps.mk1] |
                 simp only [State.Keeps.mk2] | simp only [State.Keeps.mk3] | split)

theorem completionPost_keeps {s0 : State} (pair : Nat) (s : State) (h : s0.Keeps s) : s0.Keeps (completionPost pair s) := by
  unfold completionPost
  try dsimp only
  repeat' (first | with_reducible assumption | intro _ | with_reducible apply State.Keeps.foldl |
                 with_reducible apply State.post_keeps | simp only [State.Keeps.mk1] | simp only [State.Keeps.mk2] |
                 simp only [State.Keeps.mk3] | split)

end Sys2Proof.Machine
end

