-- ==== Sys2Proof/Laws/Keeps/Frames.lean ====
section
/-! SUPPORT. What no function of Machine/Frames.lean undoes (State.Keeps). -/

namespace Sys2Proof.Machine

open Sys2Proof

set_option linter.unreachableTactic false
set_option linter.unusedTactic false

theorem State.stageOn_keeps {s0 : State} (s : State) (path : Nat) (n : Nat) (x3 : List Nat)
     (h : s0.Keeps s) : s0.Keeps (State.stageOn s path n x3) := by
  induction x3 generalizing s path n with
  | nil =>
    unfold State.stageOn
    try dsimp only
    repeat' (first | with_reducible assumption | intro _ | with_reducible apply State.Keeps.foldl | with_reducible apply ih |
                   with_reducible apply State.setPort_keeps | simp only [State.Keeps.mk1] | simp only [State.Keeps.mk2] |
                   simp only [State.Keeps.mk3] | (split <;> try (rename_i hq; injection hq with hq1 hq2; subst hq1; subst hq2)))
  | cons _ _ ih =>
    unfold State.stageOn
    try dsimp only
    repeat' (first | with_reducible assumption | intro _ | with_reducible apply State.Keeps.foldl | with_reducible apply ih |
                   with_reducible apply State.setPort_keeps | simp only [State.Keeps.mk1] | simp only [State.Keeps.mk2] |
                   simp only [State.Keeps.mk3] | (split <;> try (rename_i hq; injection hq with hq1 hq2; subst hq1; subst hq2)))

theorem State.launch_keeps {s0 : State} (s : State) (f : Frame) (h : s0.Keeps s) : s0.Keeps (State.launch s f) := by
  unfold State.launch
  try dsimp only
  repeat' (first | with_reducible assumption | intro _ | with_reducible apply State.Keeps.foldl |
                 with_reducible apply State.setStats_keeps | with_reducible apply State.setPa_keeps |
                 with_reducible apply State.stageOn_keeps | with_reducible apply State.setFrame_keeps | simp only [State.Keeps.mk1] |
                 simp only [State.Keeps.mk2] | simp only [State.Keeps.mk3] | split)

theorem State.splitFrame_keeps {s0 : State} (s : State) (f : Frame) (seq : Nat)
     (h : s0.Keeps s) : s0.Keeps (State.splitFrame s f seq).1 := by
  unfold State.splitFrame
  try dsimp only
  repeat' (first | with_reducible assumption | intro _ | with_reducible apply State.Keeps.foldl |
                 with_reducible apply State.addFrame_keeps | simp only [State.Keeps.mk1] | simp only [State.Keeps.mk2] |
                 simp only [State.Keeps.mk3] | split)

theorem State.limitLeave_keeps {s0 : State} (s : State) (dst : Nat) (h : s0.Keeps s) : s0.Keeps (State.limitLeave s dst) := by
  unfold State.limitLeave
  try dsimp only
  repeat' (first | with_reducible assumption | intro _ | with_reducible apply State.Keeps.foldl |
                 with_reducible apply State.sendMgmt_keeps | simp only [State.Keeps.mk1] | simp only [State.Keeps.mk2] |
                 simp only [State.Keeps.mk3] | split)

theorem State.giveSeq_keeps {s0 : State} (s : State) (f : Frame) (t : State) (g : Frame) (e : State.giveSeq s f = some (t, g))
    (h : s0.Keeps s) : s0.Keeps t := by
  unfold State.giveSeq at e
  split at e
  · cases e; exact h
  · split at e
    · dsimp only at e
      cases e
      exact State.limitLeave_keeps _ _ (State.splitFrame_keeps _ _ _ (State.takeSeq_keeps _ _ h))
    · cases e

theorem frameNotStaged_keeps {s0 : State} (frame : Nat) (s : State) (h : s0.Keeps s) : s0.Keeps (frameNotStaged frame s) := by
  unfold frameNotStaged
  try dsimp only
  repeat' (first | with_reducible assumption | intro _ | with_reducible apply State.Keeps.foldl |
                 with_reducible apply State.setStats_keeps | with_reducible apply State.endFrame_keeps |
                 with_reducible apply State.setFrame_keeps | simp only [State.Keeps.mk1] | simp only [State.Keeps.mk2] |
                 simp only [State.Keeps.mk3] | split)

theorem uplinkAckSend_keeps {s0 : State} (saddr : Nat) (s : State) (h : s0.Keeps s) : s0.Keeps (uplinkAckSend saddr s) := by
  unfold uplinkAckSend
  try dsimp only
  repeat' (first | with_reducible assumption | intro _ | with_reducible apply State.Keeps.foldl |
                 with_reducible apply State.sendTo_keeps | simp only [State.Keeps.mk1] | simp only [State.Keeps.mk2] |
                 simp only [State.Keeps.mk3] | split)

theorem ackTimeout_keeps {s0 : State} (frame : Nat) (s : State) (h : s0.Keeps s) : s0.Keeps (ackTimeout frame s) := by
  unfold ackTimeout
  try dsimp only
  repeat' (first | with_reducible assumption | intro _ | with_reducible apply State.Keeps.foldl |
                 with_reducible apply State.nackFrame_keeps | simp only [State.Keeps.mk1] | simp only [State.Keeps.mk2] |
                 simp only [State.Keeps.mk3] | split)

theorem frameSchedule_keeps {s0 : State} (frame : Nat) (ports : List Nat) (path : Nat) (cycle : Nat) (slot : Nat) (mcs : Nat)
     (cgFirst : Nat) (cgLast : Nat) (cp : Bool) (s : State)
     (h : s0.Keeps s) : s0.Keeps (frameSchedule frame ports path cycle slot mcs cgFirst cgLast cp s) := by
  unfold frameSchedule
  try dsimp only
  repeat' (first | with_reducible assumption | intro _ | with_reducible apply State.Keeps.foldl |
                 with_reducible apply State.endFrame_keeps | with_reducible apply State.setFrame_keeps |
                 (with_reducible refine State.giveSeq_keeps _ _ _ _ (by assumption) ?_) | simp only [State.Keeps.mk1] |
                 simp only [State.Keeps.mk2] | simp only [State.Keeps.mk3] | split)

theorem txFrameEnd_keeps {s0 : State} (frame : Nat) (s : State) (h : s0.Keeps s) : s0.Keeps (txFrameEnd frame s) := by
  unfold txFrameEnd
  try dsimp only
  repeat' (first | with_reducible assumption | intro _ | with_reducible apply State.Keeps.foldl |
                 with_reducible apply State.leaveLine_keeps | with_reducible apply State.setFrame_keeps |
                 with_reducible apply State.tellEmpty_keeps | with_reducible apply State.endFrame_keeps | simp only [State.Keeps.mk1] |
                 simp only [State.Keeps.mk2] | simp only [State.Keeps.mk3] | split)

theorem State.sendData_keeps {s0 : State} (s : State) (src : Src) (gaddr : Nat) (svc : Nat) (dclass : Nat) (len : Nat)
     (h : s0.Keeps s) : s0.Keeps (State.sendData s src gaddr svc dclass len) := by
  unfold State.sendData
  try dsimp only
  repeat' (first | with_reducible assumption | intro _ | with_reducible apply State.Keeps.foldl |
                 with_reducible apply State.complete_keeps | with_reducible apply State.sendTo_keeps | simp only [State.Keeps.mk1] |
                 simp only [State.Keeps.mk2] | simp only [State.Keeps.mk3] | split)

theorem txFrameStart_keeps {s0 : State} (frame : Nat) (s : State) (h : s0.Keeps s) : s0.Keeps (txFrameStart frame s) := by
  unfold txFrameStart
  try dsimp only
  repeat' (first | with_reducible assumption | intro _ | with_reducible apply State.Keeps.foldl |
                 with_reducible apply State.judgeDown_keeps | with_reducible apply State.noteRequest_keeps |
                 with_reducible apply State.launch_keeps | simp only [State.Keeps.mk1] | simp only [State.Keeps.mk2] |
                 simp only [State.Keeps.mk3] | split)

theorem frameSend_keeps {s0 : State} (src : Src) (gaddr : Nat) (svc : Nat) (dclass : Nat) (len : Nat) (s : State)
     (h : s0.Keeps s) : s0.Keeps (frameSend src gaddr svc dclass len s) := by
  unfold frameSend
  try dsimp only
  repeat' (first | with_reducible assumption | intro _ | with_reducible apply State.Keeps.foldl |
                 with_reducible apply State.sendData_keeps | with_reducible apply State.start_keeps | simp only [State.Keeps.mk1] |
                 simp only [State.Keeps.mk2] | simp only [State.Keeps.mk3] | split)

end Sys2Proof.Machine
end

