-- ==== Sys2Proof/Laws/Keeps/LedgerUnit.lean ====
section
/-! SUPPORT. What no function of Machine/LedgerUnit.lean undoes (State.Keeps). -/

namespace Sys2Proof.Machine

open Sys2Proof

set_option linter.unreachableTactic false
set_option linter.unusedTactic false

theorem State.setEntry_keeps {s0 : State} (s : State) (lid : Nat) (e : Option LEntry)
     (h : s0.Keeps s) : s0.Keeps (State.setEntry s lid e) := by
  unfold State.setEntry
  try dsimp only
  repeat' (first | with_reducible assumption | intro _ | with_reducible apply State.Keeps.foldl | simp only [State.Keeps.mk1] |
                 simp only [State.Keeps.mk2] | simp only [State.Keeps.mk3] | split)

theorem State.ledgerEvent_keeps {s0 : State} (s : State) (t : LTrans) (h : s0.Keeps s) : s0.Keeps (State.ledgerEvent s t) := by
  unfold State.ledgerEvent
  try dsimp only
  repeat' (first | with_reducible assumption | intro _ | with_reducible apply State.Keeps.foldl |
                 with_reducible apply State.event_keeps | simp only [State.Keeps.mk1] | simp only [State.Keeps.mk2] |
                 simp only [State.Keeps.mk3] | split)

theorem State.applyTrans_keeps {s0 : State} (s : State) (t : LTrans) (h : s0.Keeps s) : s0.Keeps (State.applyTrans s t) := by
  unfold State.applyTrans
  try dsimp only
  repeat' (first | with_reducible assumption | intro _ | with_reducible apply State.Keeps.foldl |
                 with_reducible apply State.setEntry_keeps | with_reducible apply State.complete_keeps |
                 with_reducible apply State.ledgerEvent_keeps | simp only [State.Keeps.mk1] | simp only [State.Keeps.mk2] |
                 simp only [State.Keeps.mk3] | split)

theorem State.applyBatch_keeps {s0 : State} (s : State) (x1 : List LTrans) (h : s0.Keeps s) : s0.Keeps (State.applyBatch s x1) := by
  induction x1 generalizing s with
  | nil =>
    unfold State.applyBatch
    try dsimp only
    repeat' (first | with_reducible assumption | intro _ | with_reducible apply State.Keeps.foldl | with_reducible apply ih |
                   with_reducible apply State.applyTrans_keeps | simp only [State.Keeps.mk1] | simp only [State.Keeps.mk2] |
                   simp only [State.Keeps.mk3] | (split <;> try (rename_i hq; injection hq with hq1 hq2; subst hq1; subst hq2)))
  | cons _ _ ih =>
    unfold State.applyBatch
    try dsimp only
    repeat' (first | with_reducible assumption | intro _ | with_reducible apply State.Keeps.foldl | with_reducible apply ih |
                   with_reducible apply State.applyTrans_keeps | simp only [State.Keeps.mk1] | simp only [State.Keeps.mk2] |
                   simp only [State.Keeps.mk3] | (split <;> try (rename_i hq; injection hq with hq1 hq2; subst hq1; subst hq2)))

theorem State.judgeSubmit_keeps {s0 : State} (s : State) (b : List LTrans) (src : Src) (gaddr : Nat) (token : Nat) (href : Nat)
     (deadline : Nat) (want : Bool) (h : s0.Keeps s) : s0.Keeps (State.judgeSubmit s b src gaddr token href deadline want).1 := by
  unfold State.judgeSubmit
  try dsimp only
  repeat' (first | with_reducible assumption | intro _ | with_reducible apply State.Keeps.foldl |
                 with_reducible apply State.completeAs_keeps | with_reducible apply State.complete_keeps |
                 simp only [State.Keeps.mk1] | simp only [State.Keeps.mk2] | simp only [State.Keeps.mk3] | split)

theorem State.judgeOne_keeps {s0 : State} (s : State) (b : List LTrans) (lid : Nat) (t : LTrigger) (src : Src)
     (h : s0.Keeps s) : s0.Keeps (State.judgeOne s b lid t src).1 := by
  unfold State.judgeOne
  try dsimp only
  repeat' (first | with_reducible assumption | intro _ | with_reducible apply State.Keeps.foldl |
                 with_reducible apply State.complete_keeps | simp only [State.Keeps.mk1] | simp only [State.Keeps.mk2] |
                 simp only [State.Keeps.mk3] | split)

theorem State.lateReport_keeps {s0 : State} (s : State) (e : Option LEntry) (lid : Nat) (result : Nat)
     (h : s0.Keeps s) : s0.Keeps (State.lateReport s e lid result) := by
  unfold State.lateReport
  try dsimp only
  repeat' (first | with_reducible assumption | intro _ | with_reducible apply State.Keeps.foldl |
                 with_reducible apply State.eventAs_keeps | simp only [State.Keeps.mk1] | simp only [State.Keeps.mk2] |
                 simp only [State.Keeps.mk3] | split)

theorem State.judge_keeps {s0 : State} (s : State) (b : List LTrans) (t : LTrigger)
     (h : s0.Keeps s) : s0.Keeps (State.judge s b t).1 := by
  unfold State.judge
  try dsimp only
  repeat' (first | with_reducible assumption | intro _ | with_reducible apply State.Keeps.foldl |
                 with_reducible apply State.judgeSubmit_keeps | with_reducible apply State.judgeOne_keeps |
                 with_reducible apply State.complete_keeps | with_reducible apply State.lateReport_keeps |
                 simp only [State.Keeps.mk1] | simp only [State.Keeps.mk2] | simp only [State.Keeps.mk3] | split)

theorem State.judgeAll_keeps {s0 : State} (s : State) (b : List LTrans) (x2 : List LTrigger)
     (h : s0.Keeps s) : s0.Keeps (State.judgeAll s b x2).1 := by
  induction x2 generalizing s b with
  | nil =>
    unfold State.judgeAll
    try dsimp only
    repeat' (first | with_reducible assumption | intro _ | with_reducible apply State.Keeps.foldl | with_reducible apply ih |
                   with_reducible apply State.judge_keeps | simp only [State.Keeps.mk1] | simp only [State.Keeps.mk2] |
                   simp only [State.Keeps.mk3] | (split <;> try (rename_i hq; injection hq with hq1 hq2; subst hq1; subst hq2)))
  | cons _ _ ih =>
    unfold State.judgeAll
    try dsimp only
    repeat' (first | with_reducible assumption | intro _ | with_reducible apply State.Keeps.foldl | with_reducible apply ih |
                   with_reducible apply State.judge_keeps | simp only [State.Keeps.mk1] | simp only [State.Keeps.mk2] |
                   simp only [State.Keeps.mk3] | (split <;> try (rename_i hq; injection hq with hq1 hq2; subst hq1; subst hq2)))

theorem State.formBatch_keeps {s0 : State} (s : State) (h : s0.Keeps s) : s0.Keeps (State.formBatch s) := by
  unfold State.formBatch
  try dsimp only
  repeat' (first | with_reducible assumption | intro _ | with_reducible apply State.Keeps.foldl |
                 with_reducible apply State.judgeAll_keeps | with_reducible apply State.submit_keeps | simp only [State.Keeps.mk1] |
                 simp only [State.Keeps.mk2] | simp only [State.Keeps.mk3] | split)

theorem State.noteSent_keeps {s0 : State} (s : State) (x1 : List (Nat × Nat)) (h : s0.Keeps s) : s0.Keeps (State.noteSent s x1) := by
  induction x1 generalizing s with
  | nil =>
    unfold State.noteSent
    try dsimp only
    repeat' (first | with_reducible assumption | intro _ | with_reducible apply State.Keeps.foldl | with_reducible apply ih |
                   with_reducible apply State.setEntry_keeps | simp only [State.Keeps.mk1] | simp only [State.Keeps.mk2] |
                   simp only [State.Keeps.mk3] | (split <;> try (rename_i hq; injection hq with hq1 hq2; subst hq1; subst hq2)))
  | cons _ _ ih =>
    unfold State.noteSent
    try dsimp only
    repeat' (first | with_reducible assumption | intro _ | with_reducible apply State.Keeps.foldl | with_reducible apply ih |
                   with_reducible apply State.setEntry_keeps | simp only [State.Keeps.mk1] | simp only [State.Keeps.mk2] |
                   simp only [State.Keeps.mk3] | (split <;> try (rename_i hq; injection hq with hq1 hq2; subst hq1; subst hq2)))

theorem State.tokenFrames_keeps {s0 : State} (s : State) (es : List (Nat × Nat)) (x2 : List Nat)
     (h : s0.Keeps s) : s0.Keeps (State.tokenFrames s es x2) := by
  induction x2 generalizing s es with
  | nil =>
    unfold State.tokenFrames
    try dsimp only
    repeat' (first | with_reducible assumption | intro _ | with_reducible apply State.Keeps.foldl | with_reducible apply ih |
                   with_reducible apply State.sendTo_keeps | simp only [State.Keeps.mk1] | simp only [State.Keeps.mk2] |
                   simp only [State.Keeps.mk3] | (split <;> try (rename_i hq; injection hq with hq1 hq2; subst hq1; subst hq2)))
  | cons _ _ ih =>
    unfold State.tokenFrames
    try dsimp only
    repeat' (first | with_reducible assumption | intro _ | with_reducible apply State.Keeps.foldl | with_reducible apply ih |
                   with_reducible apply State.sendTo_keeps | simp only [State.Keeps.mk1] | simp only [State.Keeps.mk2] |
                   simp only [State.Keeps.mk3] | (split <;> try (rename_i hq; injection hq with hq1 hq2; subst hq1; subst hq2)))

theorem State.ledgerLanded_keeps {s0 : State} (s : State) (h : s0.Keeps s) : s0.Keeps (State.ledgerLanded s) := by
  unfold State.ledgerLanded
  try dsimp only
  repeat' (first | with_reducible assumption | intro _ | with_reducible apply State.Keeps.foldl |
                 with_reducible apply State.applyBatch_keeps | with_reducible apply State.formBatch_keeps |
                 with_reducible apply State.noteSent_keeps | with_reducible apply State.tokenFrames_keeps |
                 simp only [State.Keeps.mk1] | simp only [State.Keeps.mk2] | simp only [State.Keeps.mk3] | split)

theorem State.ledgerTrigger_keeps {s0 : State} (s : State) (t : LTrigger) (h : s0.Keeps s) : s0.Keeps (State.ledgerTrigger s t) := by
  unfold State.ledgerTrigger
  try dsimp only
  repeat' (first | with_reducible assumption | intro _ | with_reducible apply State.Keeps.foldl |
                 with_reducible apply State.formBatch_keeps | simp only [State.Keeps.mk1] | simp only [State.Keeps.mk2] |
                 simp only [State.Keeps.mk3] | split)

theorem State.ledgerTriggers_keeps {s0 : State} (s : State) (x1 : List LTrigger)
     (h : s0.Keeps s) : s0.Keeps (State.ledgerTriggers s x1) := by
  induction x1 generalizing s with
  | nil =>
    unfold State.ledgerTriggers
    try dsimp only
    repeat' (first | with_reducible assumption | intro _ | with_reducible apply State.Keeps.foldl | with_reducible apply ih |
                   with_reducible apply State.ledgerTrigger_keeps | simp only [State.Keeps.mk1] | simp only [State.Keeps.mk2] |
                   simp only [State.Keeps.mk3] | (split <;> try (rename_i hq; injection hq with hq1 hq2; subst hq1; subst hq2)))
  | cons _ _ ih =>
    unfold State.ledgerTriggers
    try dsimp only
    repeat' (first | with_reducible assumption | intro _ | with_reducible apply State.Keeps.foldl | with_reducible apply ih |
                   with_reducible apply State.ledgerTrigger_keeps | simp only [State.Keeps.mk1] | simp only [State.Keeps.mk2] |
                   simp only [State.Keeps.mk3] | (split <;> try (rename_i hq; injection hq with hq1 hq2; subst hq1; subst hq2)))

theorem State.onLedger_keeps {s0 : State} (s : State) (src : Src) (op : Nat) (deny : Bool) (f : State → State)
     (h_f : ∀ y0, s0.Keeps y0 → s0.Keeps (f y0)) (h : s0.Keeps s) : s0.Keeps (State.onLedger s src op deny f) := by
  unfold State.onLedger
  try dsimp only
  repeat' (first | with_reducible assumption | intro _ | with_reducible apply State.Keeps.foldl | with_reducible apply h_f |
                 with_reducible apply State.complete_keeps | with_reducible apply State.start_keeps | simp only [State.Keeps.mk1] |
                 simp only [State.Keeps.mk2] | simp only [State.Keeps.mk3] | split)

theorem ledgerConfirmTimeout_keeps {s0 : State} (lid : Nat) (s : State) (h : s0.Keeps s) : s0.Keeps (ledgerConfirmTimeout lid s) := by
  unfold ledgerConfirmTimeout
  try dsimp only
  repeat' (first | with_reducible assumption | intro _ | with_reducible apply State.Keeps.foldl |
                 with_reducible apply State.ledgerTrigger_keeps | simp only [State.Keeps.mk1] | simp only [State.Keeps.mk2] |
                 simp only [State.Keeps.mk3] | split)

theorem macLdgAccRead_keeps {s0 : State} (who : Who) (s : State) (h : s0.Keeps s) : s0.Keeps (macLdgAccRead who s) := by
  unfold macLdgAccRead
  try dsimp only
  repeat' (first | with_reducible assumption | intro _ | with_reducible apply State.Keeps.foldl |
                 with_reducible apply State.returns_keeps | with_reducible apply State.setReg_keeps | simp only [State.Keeps.mk1] |
                 simp only [State.Keeps.mk2] | simp only [State.Keeps.mk3] | split)

theorem ledgerDeadline_keeps {s0 : State} (lid : Nat) (s : State) (h : s0.Keeps s) : s0.Keeps (ledgerDeadline lid s) := by
  unfold ledgerDeadline
  try dsimp only
  repeat' (first | with_reducible assumption | intro _ | with_reducible apply State.Keeps.foldl |
                 with_reducible apply State.ledgerTrigger_keeps | simp only [State.Keeps.mk1] | simp only [State.Keeps.mk2] |
                 simp only [State.Keeps.mk3] | split)

theorem ledgerResend_keeps {s0 : State} (lid : Nat) (due : Bool) (s : State) (h : s0.Keeps s) : s0.Keeps (ledgerResend lid due s) := by
  unfold ledgerResend
  try dsimp only
  repeat' (first | with_reducible assumption | intro _ | with_reducible apply State.Keeps.foldl |
                 with_reducible apply State.noteSent_keeps | with_reducible apply State.tokenFrames_keeps |
                 simp only [State.Keeps.mk1] | simp only [State.Keeps.mk2] | simp only [State.Keeps.mk3] | split)

theorem ledgerNext_keeps {s0 : State} (src : Src) (lid : Nat) (s : State) (h : s0.Keeps s) : s0.Keeps (ledgerNext src lid s) := by
  unfold ledgerNext
  try dsimp only
  repeat' (first | with_reducible assumption | intro _ | with_reducible apply State.Keeps.foldl |
                 with_reducible apply State.onLedger_keeps | with_reducible apply State.complete_keeps | simp only [State.Keeps.mk1] |
                 simp only [State.Keeps.mk2] | simp only [State.Keeps.mk3] | split)

theorem ledgerCancel_keeps {s0 : State} (src : Src) (lid : Nat) (s : State) (h : s0.Keeps s) : s0.Keeps (ledgerCancel src lid s) := by
  unfold ledgerCancel
  try dsimp only
  repeat' (first | with_reducible assumption | intro _ | with_reducible apply State.Keeps.foldl |
                 with_reducible apply State.onLedger_keeps | with_reducible apply State.ledgerTrigger_keeps |
                 simp only [State.Keeps.mk1] | simp only [State.Keeps.mk2] | simp only [State.Keeps.mk3] | split)

theorem ledgerQuery_keeps {s0 : State} (src : Src) (lid : Nat) (s : State) (h : s0.Keeps s) : s0.Keeps (ledgerQuery src lid s) := by
  unfold ledgerQuery
  try dsimp only
  repeat' (first | with_reducible assumption | intro _ | with_reducible apply State.Keeps.foldl |
                 with_reducible apply State.onLedger_keeps | with_reducible apply State.complete_keeps | simp only [State.Keeps.mk1] |
                 simp only [State.Keeps.mk2] | simp only [State.Keeps.mk3] | split)

theorem ledgerRelease_keeps {s0 : State} (src : Src) (lid : Nat) (s : State) (h : s0.Keeps s) : s0.Keeps (ledgerRelease src lid s) := by
  unfold ledgerRelease
  try dsimp only
  repeat' (first | with_reducible assumption | intro _ | with_reducible apply State.Keeps.foldl |
                 with_reducible apply State.onLedger_keeps | with_reducible apply State.ledgerTrigger_keeps |
                 simp only [State.Keeps.mk1] | simp only [State.Keeps.mk2] | simp only [State.Keeps.mk3] | split)

theorem ledgerSubmit_keeps {s0 : State} (src : Src) (gaddr : Nat) (token : Nat) (href : Nat) (deadline : Nat) (want : Bool)
     (s : State) (h : s0.Keeps s) : s0.Keeps (ledgerSubmit src gaddr token href deadline want s) := by
  unfold ledgerSubmit
  try dsimp only
  repeat' (first | with_reducible assumption | intro _ | with_reducible apply State.Keeps.foldl |
                 with_reducible apply State.onLedger_keeps | with_reducible apply State.ledgerTrigger_keeps |
                 simp only [State.Keeps.mk1] | simp only [State.Keeps.mk2] | simp only [State.Keeps.mk3] | split)

theorem ledgerReport_keeps {s0 : State} (node : Nat) (entries : List (Nat × Nat × Nat × Nat)) (s : State)
     (h : s0.Keeps s) : s0.Keeps (ledgerReport node entries s) := by
  unfold ledgerReport
  try dsimp only
  repeat' (first | with_reducible assumption | intro _ | with_reducible apply State.Keeps.foldl |
                 with_reducible apply State.ledgerTriggers_keeps | simp only [State.Keeps.mk1] | simp only [State.Keeps.mk2] |
                 simp only [State.Keeps.mk3] | split)

end Sys2Proof.Machine
end

