-- ==== Sys2Proof/Laws/Keeps/Beacons.lean ====
section
/-! SUPPORT. What no function of Machine/Beacons.lean undoes (State.Keeps). -/

namespace Sys2Proof.Machine

open Sys2Proof

set_option linter.unreachableTactic false
set_option linter.unusedTactic false

theorem State.ensureKey_keeps {s0 : State} (s : State) (h : s0.Keeps s) : s0.Keeps (State.ensureKey s) := by
  unfold State.ensureKey
  try dsimp only
  repeat' (first | with_reducible assumption | intro _ | with_reducible apply State.Keeps.foldl |
                 with_reducible apply State.drew_keeps | simp only [State.Keeps.mk1] | simp only [State.Keeps.mk2] |
                 simp only [State.Keeps.mk3] | split)

theorem State.sendSet_keeps {s0 : State} (s : State) (a : Nat) (n : Node) (r : Rdv)
     (h : s0.Keeps s) : s0.Keeps (State.sendSet s a n r) := by
  unfold State.sendSet
  try dsimp only
  repeat' (first | with_reducible assumption | intro _ | with_reducible apply State.Keeps.foldl |
                 with_reducible apply State.sendMgmt_keeps | with_reducible apply State.drew_keeps | simp only [State.Keeps.mk1] |
                 simp only [State.Keeps.mk2] | simp only [State.Keeps.mk3] | split)

theorem State.resendSets_keeps {s0 : State} (s : State) (fgs : List Nat) (x2 : List (Nat × Option Node))
     (h : s0.Keeps s) : s0.Keeps (State.resendSets s fgs x2) := by
  induction x2 generalizing s fgs with
  | nil =>
    unfold State.resendSets
    try dsimp only
    repeat' (first | with_reducible assumption | intro _ | with_reducible apply State.Keeps.foldl | with_reducible apply ih |
                   with_reducible apply State.sendSet_keeps | simp only [State.Keeps.mk1] | simp only [State.Keeps.mk2] |
                   simp only [State.Keeps.mk3] | (split <;> try (rename_i hq; injection hq with hq1 hq2; subst hq1; subst hq2)))
  | cons _ _ ih =>
    unfold State.resendSets
    try dsimp only
    repeat' (first | with_reducible assumption | intro _ | with_reducible apply State.Keeps.foldl | with_reducible apply ih |
                   with_reducible apply State.sendSet_keeps | simp only [State.Keeps.mk1] | simp only [State.Keeps.mk2] |
                   simp only [State.Keeps.mk3] | (split <;> try (rename_i hq; injection hq with hq1 hq2; subst hq1; subst hq2)))

theorem macBcncfgWrite_keeps {s0 : State} (fg : Nat) (who : Who) (value : Word) (s : State)
     (h : s0.Keeps s) : s0.Keeps (macBcncfgWrite fg who value s) := by
  unfold macBcncfgWrite
  try dsimp only
  repeat' (first | with_reducible assumption | intro _ | with_reducible apply State.Keeps.foldl |
                 with_reducible apply State.gated_keeps | with_reducible apply State.setReg_keeps |
                 with_reducible apply State.resendSets_keeps | with_reducible apply State.event_keeps | simp only [State.Keeps.mk1] |
                 simp only [State.Keeps.mk2] | simp only [State.Keeps.mk3] | split)

theorem State.setEntries_keeps {s0 : State} (s : State) (fg : Nat) (entries : List Nat) (tpart : Nat × Nat × Nat)
     (h : s0.Keeps s) : s0.Keeps (State.setEntries s fg entries tpart) := by
  unfold State.setEntries
  try dsimp only
  repeat' (first | with_reducible assumption | intro _ | with_reducible apply State.Keeps.foldl | simp only [State.Keeps.mk1] |
                 simp only [State.Keeps.mk2] | simp only [State.Keeps.mk3] | split)

theorem State.sendNow_keeps {s0 : State} (s : State) (f : Frame) (h : s0.Keeps s) : s0.Keeps (State.sendNow s f) := by
  unfold State.sendNow
  try dsimp only
  repeat' (first | with_reducible assumption | intro _ | with_reducible apply State.Keeps.foldl |
                 with_reducible apply State.addFrame_keeps | with_reducible apply State.launch_keeps | simp only [State.Keeps.mk1] |
                 simp only [State.Keeps.mk2] | simp only [State.Keeps.mk3] | split)

theorem State.ckBnum_keeps {s0 : State} (s : State) (fg : Nat) (bnum : Nat) (h : s0.Keeps s) : s0.Keeps (State.ckBnum s fg bnum) := by
  unfold State.ckBnum
  try dsimp only
  repeat' (first | with_reducible assumption | intro _ | with_reducible apply State.Keeps.foldl |
                 with_reducible apply State.checkpoint_keeps | simp only [State.Keeps.mk1] | simp only [State.Keeps.mk2] |
                 simp only [State.Keeps.mk3] | split)

theorem State.countDown_keeps {s0 : State} (s : State) (fg : Nat) (h : s0.Keeps s) : s0.Keeps (State.countDown s fg) := by
  unfold State.countDown
  try dsimp only
  repeat' (first | with_reducible assumption | intro _ | with_reducible apply State.Keeps.foldl | simp only [State.Keeps.mk1] |
                 simp only [State.Keeps.mk2] | simp only [State.Keeps.mk3] | split)

theorem networkBeacon_keeps {s0 : State} (fg : Nat) (entries : List Nat) (tpart : Nat × Nat × Nat) (s : State)
     (h : s0.Keeps s) : s0.Keeps (networkBeacon fg entries tpart s) := by
  unfold networkBeacon
  try dsimp only
  repeat' (first | with_reducible assumption | intro _ | with_reducible apply State.Keeps.foldl |
                 with_reducible apply State.setReg_keeps | with_reducible apply State.takeSeq_keeps |
                 with_reducible apply State.ensureKey_keeps | with_reducible apply State.setEntries_keeps |
                 with_reducible apply State.sendNow_keeps | with_reducible apply State.ledgerTriggers_keeps |
                 with_reducible apply State.ckBnum_keeps | with_reducible apply State.countDown_keeps | simp only [State.Keeps.mk1] |
                 simp only [State.Keeps.mk2] | simp only [State.Keeps.mk3] | split)

theorem discoveryBeacon_keeps {s0 : State} (fg : Nat) (s : State) (h : s0.Keeps s) : s0.Keeps (discoveryBeacon fg s) := by
  unfold discoveryBeacon
  try dsimp only
  repeat' (first | with_reducible assumption | intro _ | with_reducible apply State.Keeps.foldl |
                 with_reducible apply State.sendNow_keeps | with_reducible apply State.event_keeps | simp only [State.Keeps.mk1] |
                 simp only [State.Keeps.mk2] | simp only [State.Keeps.mk3] | split)

end Sys2Proof.Machine
end

