-- ==== Sys2Proof/Laws/Keeps/Maps.lean ====
section
/-! SUPPORT. What no function of Machine/Maps.lean undoes (State.Keeps). -/

namespace Sys2Proof.Machine

open Sys2Proof

set_option linter.unreachableTactic false
set_option linter.unusedTactic false

theorem State.wantSounding_keeps {s0 : State} (s : State) (a : Nat) (h : s0.Keeps s) : s0.Keeps (State.wantSounding s a) := by
  unfold State.wantSounding
  try dsimp only
  repeat' (first | with_reducible assumption | intro _ | with_reducible apply State.Keeps.foldl | simp only [State.Keeps.mk1] |
                 simp only [State.Keeps.mk2] | simp only [State.Keeps.mk3] | split)

theorem State.setRec_keeps {s0 : State} (s : State) (i : Nat) (r : Option ChanRec) (h : s0.Keeps s) : s0.Keeps (State.setRec s i r) := by
  unfold State.setRec
  try dsimp only
  repeat' (first | with_reducible assumption | intro _ | with_reducible apply State.Keeps.foldl | simp only [State.Keeps.mk1] |
                 simp only [State.Keeps.mk2] | simp only [State.Keeps.mk3] | split)

theorem State.newRec_keeps {s0 : State} (s : State) (i : Nat) (a : Nat) (fg : Nat)
     (h : s0.Keeps s) : s0.Keeps (State.newRec s i a fg) := by
  unfold State.newRec
  try dsimp only
  repeat' (first | with_reducible assumption | intro _ | with_reducible apply State.Keeps.foldl |
                 with_reducible apply State.wantSounding_keeps | with_reducible apply State.setRec_keeps |
                 simp only [State.Keeps.mk1] | simp only [State.Keeps.mk2] | simp only [State.Keeps.mk3] | split)

theorem State.setUl_keeps {s0 : State} (s : State) (a : Nat) (l : List ToneMap) (h : s0.Keeps s) : s0.Keeps (State.setUl s a l) := by
  unfold State.setUl
  try dsimp only
  repeat' (first | with_reducible assumption | intro _ | with_reducible apply State.Keeps.foldl | simp only [State.Keeps.mk1] |
                 simp only [State.Keeps.mk2] | simp only [State.Keeps.mk3] | split)

theorem State.withdraw_keeps {s0 : State} (s : State) (a : Nat) (h : s0.Keeps s) : s0.Keeps (State.withdraw s a) := by
  unfold State.withdraw
  try dsimp only
  repeat' (first | with_reducible assumption | intro _ | with_reducible apply State.Keeps.foldl |
                 with_reducible apply State.sendMgmt_keeps | with_reducible apply State.setUl_keeps | simp only [State.Keeps.mk1] |
                 simp only [State.Keeps.mk2] | simp only [State.Keeps.mk3] | split)

theorem State.releaseRec_keeps {s0 : State} (s : State) (i : Nat) (r : ChanRec) (h : s0.Keeps s) : s0.Keeps (State.releaseRec s i r) := by
  unfold State.releaseRec
  try dsimp only
  repeat' (first | with_reducible assumption | intro _ | with_reducible apply State.Keeps.foldl |
                 with_reducible apply State.bumpFld_keeps | with_reducible apply State.withdraw_keeps |
                 with_reducible apply State.setRec_keeps | simp only [State.Keeps.mk1] | simp only [State.Keeps.mk2] |
                 simp only [State.Keeps.mk3] | split)

theorem State.releaseRecOf_keeps {s0 : State} (s : State) (a : Nat) (h : s0.Keeps s) : s0.Keeps (State.releaseRecOf s a) := by
  unfold State.releaseRecOf
  try dsimp only
  repeat' (first | with_reducible assumption | intro _ | with_reducible apply State.Keeps.foldl |
                 with_reducible apply State.releaseRec_keeps | simp only [State.Keeps.mk1] | simp only [State.Keeps.mk2] |
                 simp only [State.Keeps.mk3] | split)

theorem State.assignRec_keeps {s0 : State} (s : State) (a : Nat) (fg : Nat) (h : s0.Keeps s) : s0.Keeps (State.assignRec s a fg) := by
  unfold State.assignRec
  try dsimp only
  repeat' (first | with_reducible assumption | intro _ | with_reducible apply State.Keeps.foldl |
                 with_reducible apply State.newRec_keeps | with_reducible apply State.releaseRec_keeps | simp only [State.Keeps.mk1] |
                 simp only [State.Keeps.mk2] | simp only [State.Keeps.mk3] | split)

theorem State.setDl_keeps {s0 : State} (s : State) (a : Nat) (m : Option ToneMap) (h : s0.Keeps s) : s0.Keeps (State.setDl s a m) := by
  unfold State.setDl
  try dsimp only
  repeat' (first | with_reducible assumption | intro _ | with_reducible apply State.Keeps.foldl | simp only [State.Keeps.mk1] |
                 simp only [State.Keeps.mk2] | simp only [State.Keeps.mk3] | split)

theorem State.restartRec_keeps {s0 : State} (s : State) (i : Nat) (r : ChanRec) (h : s0.Keeps s) : s0.Keeps (State.restartRec s i r) := by
  unfold State.restartRec
  try dsimp only
  repeat' (first | with_reducible assumption | intro _ | with_reducible apply State.Keeps.foldl |
                 with_reducible apply State.beginSet_keeps | with_reducible apply State.wantSounding_keeps |
                 with_reducible apply State.setDl_keeps | with_reducible apply State.withdraw_keeps |
                 with_reducible apply State.setRec_keeps | simp only [State.Keeps.mk1] | simp only [State.Keeps.mk2] |
                 simp only [State.Keeps.mk3] | split)

theorem State.phaseChange_keeps {s0 : State} (s : State) (i : Nat) (r : ChanRec)
     (h : s0.Keeps s) : s0.Keeps (State.phaseChange s i r) := by
  unfold State.phaseChange
  try dsimp only
  repeat' (first | with_reducible assumption | intro _ | with_reducible apply State.Keeps.foldl |
                 with_reducible apply State.finding_keeps | with_reducible apply State.restartRec_keeps | simp only [State.Keeps.mk1] |
                 simp only [State.Keeps.mk2] | simp only [State.Keeps.mk3] | split)

theorem State.feederChange_keeps {s0 : State} (s : State) (i : Nat) (r : ChanRec) (fg : Nat)
     (h : s0.Keeps s) : s0.Keeps (State.feederChange s i r fg) := by
  unfold State.feederChange
  try dsimp only
  repeat' (first | with_reducible assumption | intro _ | with_reducible apply State.Keeps.foldl |
                 with_reducible apply State.setNode_keeps | with_reducible apply State.finding_keeps |
                 with_reducible apply State.restartRec_keeps | simp only [State.Keeps.mk1] | simp only [State.Keeps.mk2] |
                 simp only [State.Keeps.mk3] | split)

theorem State.noteGroup_keeps {s0 : State} (s : State) (a : Nat) (fg : Nat) (h : s0.Keeps s) : s0.Keeps (State.noteGroup s a fg) := by
  unfold State.noteGroup
  try dsimp only
  repeat' (first | with_reducible assumption | intro _ | with_reducible apply State.Keeps.foldl |
                 with_reducible apply State.feederChange_keeps | with_reducible apply State.setRec_keeps |
                 simp only [State.Keeps.mk1] | simp only [State.Keeps.mk2] | simp only [State.Keeps.mk3] | split)

theorem State.setTmids_keeps {s0 : State} (s : State) (a : Nat) (l : List Nat) (h : s0.Keeps s) : s0.Keeps (State.setTmids s a l) := by
  unfold State.setTmids
  try dsimp only
  repeat' (first | with_reducible assumption | intro _ | with_reducible apply State.Keeps.foldl | simp only [State.Keeps.mk1] |
                 simp only [State.Keeps.mk2] | simp only [State.Keeps.mk3] | split)

theorem State.issueMap_keeps {s0 : State} (s : State) (r : ChanRec) (two : Bool) (rate : Nat) (codes : Tab Nat)
     (h : s0.Keeps s) : s0.Keeps (State.issueMap s r two rate codes) := by
  unfold State.issueMap
  try dsimp only
  repeat' (first | with_reducible assumption | intro _ | with_reducible apply State.Keeps.foldl |
                 with_reducible apply State.setTmids_keeps | with_reducible apply State.setUl_keeps |
                 with_reducible apply State.rescan_keeps | with_reducible apply State.sendMgmt_keeps | simp only [State.Keeps.mk1] |
                 simp only [State.Keeps.mk2] | simp only [State.Keeps.mk3] | split)

theorem State.mapCmd_keeps {s0 : State} (s : State) (who : Who) (op : Nat) (f : Nat → ChanRec → State → State × Nat)
     (h_f : ∀ y0 y1 y2, s0.Keeps y2 → s0.Keeps (f y0 y1 y2).1) (h : s0.Keeps s) : s0.Keeps (State.mapCmd s who op f) := by
  unfold State.mapCmd
  try dsimp only
  repeat' (first | with_reducible assumption | intro _ | with_reducible apply State.Keeps.foldl | with_reducible apply h_f |
                 with_reducible apply State.gated_keeps | with_reducible apply State.setFld_keeps | simp only [State.Keeps.mk1] |
                 simp only [State.Keeps.mk2] | simp only [State.Keeps.mk3] | split)

theorem mapPin_keeps {s0 : State} (who : Who) (s : State) (h : s0.Keeps s) : s0.Keeps (mapPin who s) := by
  unfold mapPin
  try dsimp only
  repeat' (first | with_reducible assumption | intro _ | with_reducible apply State.Keeps.foldl |
                 with_reducible apply State.mapCmd_keeps | with_reducible apply State.setRec_keeps | simp only [State.Keeps.mk1] |
                 simp only [State.Keeps.mk2] | simp only [State.Keeps.mk3] | split)

theorem mapUnpin_keeps {s0 : State} (who : Who) (s : State) (h : s0.Keeps s) : s0.Keeps (mapUnpin who s) := by
  unfold mapUnpin
  try dsimp only
  repeat' (first | with_reducible assumption | intro _ | with_reducible apply State.Keeps.foldl |
                 with_reducible apply State.mapCmd_keeps | with_reducible apply State.setRec_keeps | simp only [State.Keeps.mk1] |
                 simp only [State.Keeps.mk2] | simp only [State.Keeps.mk3] | split)

theorem mapRelease_keeps {s0 : State} (who : Who) (s : State) (h : s0.Keeps s) : s0.Keeps (mapRelease who s) := by
  unfold mapRelease
  try dsimp only
  repeat' (first | with_reducible assumption | intro _ | with_reducible apply State.Keeps.foldl |
                 with_reducible apply State.mapCmd_keeps | with_reducible apply State.releaseRec_keeps | simp only [State.Keeps.mk1] |
                 simp only [State.Keeps.mk2] | simp only [State.Keeps.mk3] | split)

theorem mapRequestSounding_keeps {s0 : State} (who : Who) (s : State) (h : s0.Keeps s) : s0.Keeps (mapRequestSounding who s) := by
  unfold mapRequestSounding
  try dsimp only
  repeat' (first | with_reducible assumption | intro _ | with_reducible apply State.Keeps.foldl |
                 with_reducible apply State.mapCmd_keeps | with_reducible apply State.wantSounding_keeps |
                 simp only [State.Keeps.mk1] | simp only [State.Keeps.mk2] | simp only [State.Keeps.mk3] | split)

theorem staleSlotTimeout_keeps {s0 : State} (index : Nat) (slot : Nat) (s : State)
     (h : s0.Keeps s) : s0.Keeps (staleSlotTimeout index slot s) := by
  unfold staleSlotTimeout
  try dsimp only
  repeat' (first | with_reducible assumption | intro _ | with_reducible apply State.Keeps.foldl |
                 with_reducible apply State.wantSounding_keeps | with_reducible apply State.setRec_keeps |
                 simp only [State.Keeps.mk1] | simp only [State.Keeps.mk2] | simp only [State.Keeps.mk3] | split)

theorem State.dropMaps_keeps {s0 : State} (s : State) (a : Nat) (h : s0.Keeps s) : s0.Keeps (State.dropMaps s a) := by
  unfold State.dropMaps
  try dsimp only
  repeat' (first | with_reducible assumption | intro _ | with_reducible apply State.Keeps.foldl |
                 with_reducible apply State.setTmids_keeps | with_reducible apply State.setDl_keeps |
                 with_reducible apply State.setUl_keeps | simp only [State.Keeps.mk1] | simp only [State.Keeps.mk2] |
                 simp only [State.Keeps.mk3] | split)

theorem recordReleaseComplete_keeps {s0 : State} (index : Nat) (acked : Bool) (s : State)
     (h : s0.Keeps s) : s0.Keeps (recordReleaseComplete index acked s) := by
  unfold recordReleaseComplete
  try dsimp only
  repeat' (first | with_reducible assumption | intro _ | with_reducible apply State.Keeps.foldl |
                 with_reducible apply State.dropMaps_keeps | with_reducible apply State.setRec_keeps |
                 with_reducible apply State.newRec_keeps | simp only [State.Keeps.mk1] | simp only [State.Keeps.mk2] |
                 simp only [State.Keeps.mk3] | split)

theorem retiredMapExpire_keeps {s0 : State} (saddr : Nat) (tmid : Nat) (s : State)
     (h : s0.Keeps s) : s0.Keeps (retiredMapExpire saddr tmid s) := by
  unfold retiredMapExpire
  try dsimp only
  repeat' (first | with_reducible assumption | intro _ | with_reducible apply State.Keeps.foldl |
                 with_reducible apply State.setTmids_keeps | with_reducible apply State.setUl_keeps | simp only [State.Keeps.mk1] |
                 simp only [State.Keeps.mk2] | simp only [State.Keeps.mk3] | split)

theorem uplinkSoundingRequest_keeps {s0 : State} (saddr : Nat) (s : State)
     (h : s0.Keeps s) : s0.Keeps (uplinkSoundingRequest saddr s) := by
  unfold uplinkSoundingRequest
  try dsimp only
  repeat' (first | with_reducible assumption | intro _ | with_reducible apply State.Keeps.foldl |
                 with_reducible apply State.sendTo_keeps | simp only [State.Keeps.mk1] | simp only [State.Keeps.mk2] |
                 simp only [State.Keeps.mk3] | split)

theorem toneMap_keeps {s0 : State} (saddr : Nat) (tmid : Nat) (withdraw : Bool) (two : Bool) (rate : Nat) (cgFirst : Nat)
     (cgLast : Nat) (codes : List (Nat × Nat)) (s : State)
     (h : s0.Keeps s) : s0.Keeps (toneMap saddr tmid withdraw two rate cgFirst cgLast codes s) := by
  unfold toneMap
  try dsimp only
  repeat' (first | with_reducible assumption | intro _ | with_reducible apply State.Keeps.foldl |
                 with_reducible apply State.setDl_keeps | with_reducible apply State.rescan_keeps | simp only [State.Keeps.mk1] |
                 simp only [State.Keeps.mk2] | simp only [State.Keeps.mk3] | split)

theorem broadcastSounding_keeps {s0 : State} (fg : Nat) (s : State) (h : s0.Keeps s) : s0.Keeps (broadcastSounding fg s) := by
  unfold broadcastSounding
  try dsimp only
  repeat' (first | with_reducible assumption | intro _ | with_reducible apply State.Keeps.foldl |
                 with_reducible apply State.broadcast_keeps | simp only [State.Keeps.mk1] | simp only [State.Keeps.mk2] |
                 simp only [State.Keeps.mk3] | split)

theorem channelReport_keeps {s0 : State} (saddr : Nat) (cgFirst : Nat) (cgLast : Nat) (pair0 : Nat) (pair1 : Nat) (two : Bool)
     (snr : List Nat) (s : State) (h : s0.Keeps s) : s0.Keeps (channelReport saddr cgFirst cgLast pair0 pair1 two snr s) := by
  unfold channelReport
  try dsimp only
  repeat' (first | with_reducible assumption | intro _ | with_reducible apply State.Keeps.foldl |
                 with_reducible apply State.setRec_keeps | with_reducible apply State.phaseChange_keeps | simp only [State.Keeps.mk1] |
                 simp only [State.Keeps.mk2] | simp only [State.Keeps.mk3] | split)

theorem confidenceHalving_keeps {s0 : State} (index : Nat) (slot : Nat) (s : State)
     (h : s0.Keeps s) : s0.Keeps (confidenceHalving index slot s) := by
  unfold confidenceHalving
  try dsimp only
  repeat' (first | with_reducible assumption | intro _ | with_reducible apply State.Keeps.foldl |
                 with_reducible apply State.setRec_keeps | simp only [State.Keeps.mk1] | simp only [State.Keeps.mk2] |
                 simp only [State.Keeps.mk3] | split)

theorem uplinkMapIssue_keeps {s0 : State} (saddr : Nat) (s : State) (h : s0.Keeps s) : s0.Keeps (uplinkMapIssue saddr s) := by
  unfold uplinkMapIssue
  try dsimp only
  repeat' (first | with_reducible assumption | intro _ | with_reducible apply State.Keeps.foldl |
                 with_reducible apply State.issueMap_keeps | with_reducible apply State.setRec_keeps | simp only [State.Keeps.mk1] |
                 simp only [State.Keeps.mk2] | simp only [State.Keeps.mk3] | split)

end Sys2Proof.Machine
end

