-- ==== Sys2Proof/Laws/Keeps/Assoc.lean ====
section
/-! SUPPORT. What no function of Machine/Assoc.lean undoes (State.Keeps). -/

namespace Sys2Proof.Machine

open Sys2Proof

set_option linter.unreachableTactic false
set_option linter.unusedTactic false

theorem State.endHandOut_keeps {s0 : State} (s : State) (a : Nat) (h : s0.Keeps s) : s0.Keeps (State.endHandOut s a) := by
  unfold State.endHandOut
  try dsimp only
  repeat' (first | with_reducible assumption | intro _ | with_reducible apply State.Keeps.foldl |
                 with_reducible apply State.complete_keeps | simp only [State.Keeps.mk1] | simp only [State.Keeps.mk2] |
                 simp only [State.Keeps.mk3] | split)

theorem State.forget_keeps {s0 : State} (s : State) (a : Nat) (h : s0.Keeps s) : s0.Keeps (State.forget s a) := by
  unfold State.forget
  try dsimp only
  repeat' (first | with_reducible assumption | intro _ | with_reducible apply State.Keeps.foldl | simp only [State.Keeps.mk1] |
                 simp only [State.Keeps.mk2] | simp only [State.Keeps.mk3] | split)

theorem State.releaseAddr_keeps {s0 : State} (s : State) (a : Nat) (quar : Bool)
     (h : s0.Keeps s) : s0.Keeps (State.releaseAddr s a quar) := by
  unfold State.releaseAddr
  try dsimp only
  repeat' (first | with_reducible assumption | intro _ | with_reducible apply State.Keeps.foldl |
                 with_reducible apply State.endHandOut_keeps | with_reducible apply State.releaseRecOf_keeps |
                 with_reducible apply State.endReceps_keeps | with_reducible apply State.setNode_keeps |
                 with_reducible apply State.endFrames_keeps | with_reducible apply State.ledgerTrigger_keeps |
                 with_reducible apply State.forget_keeps | with_reducible apply State.setQuar_keeps | simp only [State.Keeps.mk1] |
                 simp only [State.Keeps.mk2] | simp only [State.Keeps.mk3] | split)

theorem State.nodeCmd_keeps {s0 : State} (s : State) (who : Who) (op : Nat) (f : Nat → State → State × Nat)
     (h_f : ∀ y0 y1, s0.Keeps y1 → s0.Keeps (f y0 y1).1) (h : s0.Keeps s) : s0.Keeps (State.nodeCmd s who op f) := by
  unfold State.nodeCmd
  try dsimp only
  repeat' (first | with_reducible assumption | intro _ | with_reducible apply State.Keeps.foldl | with_reducible apply h_f |
                 with_reducible apply State.gated_keeps | with_reducible apply State.setFld_keeps | simp only [State.Keeps.mk1] |
                 simp only [State.Keeps.mk2] | simp only [State.Keeps.mk3] | split)

theorem onNode_keeps {s0 : State} (f : State → Nat → Node → State × Nat) (a : Nat) (s : State)
     (h_f : ∀ y0 y1 y2, s0.Keeps y0 → s0.Keeps (f y0 y1 y2).1) (h : s0.Keeps s) : s0.Keeps (onNode f a s).1 := by
  unfold onNode
  try dsimp only
  repeat' (first | with_reducible assumption | intro _ | with_reducible apply State.Keeps.foldl | with_reducible apply h_f |
                 simp only [State.Keeps.mk1] | simp only [State.Keeps.mk2] | simp only [State.Keeps.mk3] | split)

theorem nodeRelease_keeps {s0 : State} (who : Who) (s : State) (h : s0.Keeps s) : s0.Keeps (nodeRelease who s) := by
  unfold nodeRelease
  try dsimp only
  repeat' (first | with_reducible assumption | intro _ | with_reducible apply State.Keeps.foldl |
                 with_reducible apply State.nodeCmd_keeps | with_reducible apply Machine.onNode_keeps |
                 with_reducible apply State.releaseAddr_keeps | simp only [State.Keeps.mk1] | simp only [State.Keeps.mk2] |
                 simp only [State.Keeps.mk3] | split)

theorem State.sendLeave_keeps {s0 : State} (s : State) (a : Nat) (n : Node) (reason : Nat)
     (h : s0.Keeps s) : s0.Keeps (State.sendLeave s a n reason) := by
  unfold State.sendLeave
  try dsimp only
  repeat' (first | with_reducible assumption | intro _ | with_reducible apply State.Keeps.foldl |
                 with_reducible apply State.addFrame_keeps | with_reducible apply State.takeSeq_keeps | simp only [State.Keeps.mk1] |
                 simp only [State.Keeps.mk2] | simp only [State.Keeps.mk3] | split)

theorem nodeForceReassoc_keeps {s0 : State} (who : Who) (s : State) (h : s0.Keeps s) : s0.Keeps (nodeForceReassoc who s) := by
  unfold nodeForceReassoc
  try dsimp only
  repeat' (first | with_reducible assumption | intro _ | with_reducible apply State.Keeps.foldl |
                 with_reducible apply State.nodeCmd_keeps | with_reducible apply Machine.onNode_keeps |
                 with_reducible apply State.releaseAddr_keeps | with_reducible apply State.sendLeave_keeps |
                 simp only [State.Keeps.mk1] | simp only [State.Keeps.mk2] | simp only [State.Keeps.mk3] | split)

theorem State.sendGroupKeys_keeps {s0 : State} (s : State) (gkph : Bool) (actb : Tab Nat) (x3 : List Nat)
     (h : s0.Keeps s) : s0.Keeps (State.sendGroupKeys s gkph actb x3) := by
  induction x3 generalizing s gkph actb with
  | nil =>
    unfold State.sendGroupKeys
    try dsimp only
    repeat' (first | with_reducible assumption | intro _ | with_reducible apply State.Keeps.foldl | with_reducible apply ih |
                   with_reducible apply State.sendMgmt_keeps | simp only [State.Keeps.mk1] | simp only [State.Keeps.mk2] |
                   simp only [State.Keeps.mk3] | (split <;> try (rename_i hq; injection hq with hq1 hq2; subst hq1; subst hq2)))
  | cons _ _ ih =>
    unfold State.sendGroupKeys
    try dsimp only
    repeat' (first | with_reducible assumption | intro _ | with_reducible apply State.Keeps.foldl | with_reducible apply ih |
                   with_reducible apply State.sendMgmt_keeps | simp only [State.Keeps.mk1] | simp only [State.Keeps.mk2] |
                   simp only [State.Keeps.mk3] | (split <;> try (rename_i hq; injection hq with hq1 hq2; subst hq1; subst hq2)))

theorem State.rollDone_keeps {s0 : State} (s : State) (h : s0.Keeps s) : s0.Keeps (State.rollDone s) := by
  unfold State.rollDone
  try dsimp only
  repeat' (first | with_reducible assumption | intro _ | with_reducible apply State.Keeps.foldl | simp only [State.Keeps.mk1] |
                 simp only [State.Keeps.mk2] | simp only [State.Keeps.mk3] | split)

theorem State.startRoll_keeps {s0 : State} (s : State) (h : s0.Keeps s) : s0.Keeps (State.startRoll s) := by
  unfold State.startRoll
  try dsimp only
  repeat' (first | with_reducible assumption | intro _ | with_reducible apply State.Keeps.foldl |
                 with_reducible apply State.drew_keeps | with_reducible apply State.sendGroupKeys_keeps |
                 with_reducible apply State.rollDone_keeps | simp only [State.Keeps.mk1] | simp only [State.Keeps.mk2] |
                 simp only [State.Keeps.mk3] | split)

theorem groupKeyChange_keeps {s0 : State} (who : Who) (s : State) (h : s0.Keeps s) : s0.Keeps (groupKeyChange who s) := by
  unfold groupKeyChange
  try dsimp only
  repeat' (first | with_reducible assumption | intro _ | with_reducible apply State.Keeps.foldl |
                 with_reducible apply State.nodeCmd_keeps | with_reducible apply State.startRoll_keeps | simp only [State.Keeps.mk1] |
                 simp only [State.Keeps.mk2] | simp only [State.Keeps.mk3] | split)

theorem State.denyAssoc_keeps {s0 : State} (s : State) (eui : Nat) (h : s0.Keeps s) : s0.Keeps (State.denyAssoc s eui) := by
  unfold State.denyAssoc
  try dsimp only
  repeat' (first | with_reducible assumption | intro _ | with_reducible apply State.Keeps.foldl |
                 with_reducible apply State.setFld_keeps | with_reducible apply State.event_keeps | simp only [State.Keeps.mk1] |
                 simp only [State.Keeps.mk2] | simp only [State.Keeps.mk3] | split)

theorem State.assocResp_keeps {s0 : State} (s : State) (fg : Nat) (eui : Nat) (nm : Nat) (saddr : Nat) (result : Nat)
     (h : s0.Keeps s) : s0.Keeps (State.assocResp s fg eui nm saddr result) := by
  unfold State.assocResp
  try dsimp only
  repeat' (first | with_reducible assumption | intro _ | with_reducible apply State.Keeps.foldl |
                 with_reducible apply State.addFrame_keeps | simp only [State.Keeps.mk1] | simp only [State.Keeps.mk2] |
                 simp only [State.Keeps.mk3] | split)

theorem State.endForward_keeps {s0 : State} (s : State) (a : Nat) (h : s0.Keeps s) : s0.Keeps (State.endForward s a) := by
  unfold State.endForward
  try dsimp only
  repeat' (first | with_reducible assumption | intro _ | with_reducible apply State.Keeps.foldl | simp only [State.Keeps.mk1] |
                 simp only [State.Keeps.mk2] | simp only [State.Keeps.mk3] | split)

theorem State.beginAssoc_keeps {s0 : State} (s : State) (fg : Nat) (eui : Nat) (a : Nat) (nn : Nat) (cap : Nat) (drift : Nat)
     (zcofs : Int) (h : s0.Keeps s) : s0.Keeps (State.beginAssoc s fg eui a nn cap drift zcofs) := by
  unfold State.beginAssoc
  try dsimp only
  repeat' (first | with_reducible assumption | intro _ | with_reducible apply State.Keeps.foldl |
                 with_reducible apply State.assocResp_keeps | with_reducible apply State.endForward_keeps |
                 with_reducible apply State.setQuar_keeps | with_reducible apply State.setNode_keeps |
                 with_reducible apply State.drew_keeps | simp only [State.Keeps.mk1] | simp only [State.Keeps.mk2] |
                 simp only [State.Keeps.mk3] | split)

theorem assocReq_keeps {s0 : State} (fg : Nat) (eui : Nat) (nn : Nat) (cap : Nat) (drift : Nat) (zcofs : Int) (s : State)
     (h : s0.Keeps s) : s0.Keeps (assocReq fg eui nn cap drift zcofs s) := by
  unfold assocReq
  try dsimp only
  repeat' (first | with_reducible assumption | intro _ | with_reducible apply State.Keeps.foldl |
                 with_reducible apply State.denyAssoc_keeps | with_reducible apply State.assocResp_keeps |
                 with_reducible apply State.beginAssoc_keeps | simp only [State.Keeps.mk1] | simp only [State.Keeps.mk2] |
                 simp only [State.Keeps.mk3] | split)

theorem State.endAssoc_keeps {s0 : State} (s : State) (a : Nat) (h : s0.Keeps s) : s0.Keeps (State.endAssoc s a) := by
  unfold State.endAssoc
  try dsimp only
  repeat' (first | with_reducible assumption | intro _ | with_reducible apply State.Keeps.foldl |
                 with_reducible apply State.releaseAddr_keeps | with_reducible apply State.setNode_keeps |
                 simp only [State.Keeps.mk1] | simp only [State.Keeps.mk2] | simp only [State.Keeps.mk3] | split)

theorem assocTimeout_keeps {s0 : State} (saddr : Nat) (s : State) (h : s0.Keeps s) : s0.Keeps (assocTimeout saddr s) := by
  unfold assocTimeout
  try dsimp only
  repeat' (first | with_reducible assumption | intro _ | with_reducible apply State.Keeps.foldl |
                 with_reducible apply State.endAssoc_keeps | simp only [State.Keeps.mk1] | simp only [State.Keeps.mk2] |
                 simp only [State.Keeps.mk3] | split)

theorem leave_keeps {s0 : State} (saddr : Nat) (reason : Nat) (s : State) (h : s0.Keeps s) : s0.Keeps (leave saddr reason s) := by
  unfold leave
  try dsimp only
  repeat' (first | with_reducible assumption | intro _ | with_reducible apply State.Keeps.foldl |
                 with_reducible apply State.releaseAddr_keeps | simp only [State.Keeps.mk1] | simp only [State.Keeps.mk2] |
                 simp only [State.Keeps.mk3] | split)

theorem quarantineExpire_keeps {s0 : State} (saddr : Nat) (s : State) (h : s0.Keeps s) : s0.Keeps (quarantineExpire saddr s) := by
  unfold quarantineExpire
  try dsimp only
  repeat' (first | with_reducible assumption | intro _ | with_reducible apply State.Keeps.foldl |
                 with_reducible apply State.setQuar_keeps | simp only [State.Keeps.mk1] | simp only [State.Keeps.mk2] |
                 simp only [State.Keeps.mk3] | split)

theorem keyConfirm_keeps {s0 : State} (saddr : Nat) (fg : Nat) (nn : Nat) (nm : Nat) (s : State)
     (h : s0.Keeps s) : s0.Keeps (keyConfirm saddr fg nn nm s) := by
  unfold keyConfirm
  try dsimp only
  repeat' (first | with_reducible assumption | intro _ | with_reducible apply State.Keeps.foldl |
                 with_reducible apply State.assignRec_keeps | with_reducible apply State.ensureKey_keeps |
                 with_reducible apply State.setNode_keeps | with_reducible apply State.rescan_keeps |
                 with_reducible apply State.sendMgmt_keeps | simp only [State.Keeps.mk1] | simp only [State.Keeps.mk2] |
                 simp only [State.Keeps.mk3] | split)

theorem mgmtInvalid_keeps {s0 : State} (saddr : Nat) (seq : Nat) (harq : Nat) (txn : Nat) (sec : Bool) (ackReq : Bool) (s : State)
     (h : s0.Keeps s) : s0.Keeps (mgmtInvalid saddr seq harq txn sec ackReq s) := by
  unfold mgmtInvalid
  try dsimp only
  repeat' (first | with_reducible assumption | intro _ | with_reducible apply State.Keeps.foldl |
                 with_reducible apply State.oweAck_keeps | simp only [State.Keeps.mk1] | simp only [State.Keeps.mk2] |
                 simp only [State.Keeps.mk3] | split)

theorem groupKeyActivate_keeps {s0 : State} (fg : Nat) (s : State) (h : s0.Keeps s) : s0.Keeps (groupKeyActivate fg s) := by
  unfold groupKeyActivate
  try dsimp only
  repeat' (first | with_reducible assumption | intro _ | with_reducible apply State.Keeps.foldl |
                 with_reducible apply State.rollDone_keeps | simp only [State.Keeps.mk1] | simp only [State.Keeps.mk2] |
                 simp only [State.Keeps.mk3] | split)

theorem nodeRemove_keeps {s0 : State} (src : Src) (eui : Nat) (s : State) (h : s0.Keeps s) : s0.Keeps (nodeRemove src eui s) := by
  unfold nodeRemove
  try dsimp only
  repeat' (first | with_reducible assumption | intro _ | with_reducible apply State.Keeps.foldl |
                 with_reducible apply State.start_keeps | with_reducible apply State.complete_keeps |
                 with_reducible apply State.releaseAddr_keeps | with_reducible apply State.sendLeave_keeps |
                 simp only [State.Keeps.mk1] | simp only [State.Keeps.mk2] | simp only [State.Keeps.mk3] | split)

end Sys2Proof.Machine
end

