-- ==== Sys2Proof/Laws/Keeps/Bands.lean ====
section
/-! SUPPORT. What no function of Machine/Bands.lean undoes (State.Keeps). -/

namespace Sys2Proof.Machine

open Sys2Proof

set_option linter.unreachableTactic false
set_option linter.unusedTactic false

theorem bandcfgWrite_keeps {s0 : State} (fg : Nat) (who : Who) (value : Word) (s : State)
     (h : s0.Keeps s) : s0.Keeps (bandcfgWrite fg who value s) := by
  unfold bandcfgWrite
  try dsimp only
  repeat' (first | with_reducible assumption | intro _ | with_reducible apply State.Keeps.foldl |
                 with_reducible apply State.gated_keeps | with_reducible apply State.setReg_keeps |
                 with_reducible apply State.event_keeps | with_reducible apply State.setFld_keeps | simp only [State.Keeps.mk1] |
                 simp only [State.Keeps.mk2] | simp only [State.Keeps.mk3] | split)

theorem notchWrite_keeps {s0 : State} (n : Nat) (who : Who) (value : Word) (s : State)
     (h : s0.Keeps s) : s0.Keeps (notchWrite n who value s) := by
  unfold notchWrite
  try dsimp only
  repeat' (first | with_reducible assumption | intro _ | with_reducible apply State.Keeps.foldl |
                 with_reducible apply State.gated_keeps | with_reducible apply State.event_keeps |
                 with_reducible apply State.setFld_keeps | with_reducible apply State.setReg_keeps | simp only [State.Keeps.mk1] |
                 simp only [State.Keeps.mk2] | simp only [State.Keeps.mk3] | split)

theorem notchApply_keeps {s0 : State} (s : State) (h : s0.Keeps s) : s0.Keeps (notchApply s) := by
  unfold notchApply
  try dsimp only
  repeat' (first | with_reducible assumption | intro _ | with_reducible apply State.Keeps.foldl |
                 with_reducible apply State.setFld_keeps | simp only [State.Keeps.mk1] | simp only [State.Keeps.mk2] |
                 simp only [State.Keeps.mk3] | split)

theorem State.withdrawGroup_keeps {s0 : State} (s : State) (fg : Nat) (l : List (Nat × Option ChanRec)) (h : s0.Keeps s) :
    s0.Keeps (State.withdrawGroup s fg l) := by
  induction l generalizing s with
  | nil => exact h
  | cons p l ih =>
    obtain ⟨a, o⟩ := p
    cases o with
    | none => exact ih s h
    | some r =>
      unfold State.withdrawGroup
      split
      · exact ih _ (State.setDl_keeps _ _ _ (State.withdraw_keeps _ _ h))
      · exact ih _ h

theorem bandChangeApply_keeps {s0 : State} (fg : Nat) (s : State) (h : s0.Keeps s) : s0.Keeps (bandChangeApply fg s) := by
  unfold bandChangeApply
  try dsimp only
  repeat' (first | with_reducible assumption | intro _ | with_reducible apply State.Keeps.foldl |
                 with_reducible apply State.setFld_keeps | with_reducible apply State.withdrawGroup_keeps |
                 simp only [State.Keeps.mk1] | simp only [State.Keeps.mk2] | simp only [State.Keeps.mk3] | split)

end Sys2Proof.Machine
end

