-- ==== Sys2Proof/Laws/Keeps/Bedroll.lean ====
section
/-! SUPPORT. What no function of Machine/Bedroll.lean undoes (State.Keeps). -/

namespace Sys2Proof.Machine

open Sys2Proof

set_option linter.unreachableTactic false
set_option linter.unusedTactic false

theorem State.bedSaveBy_keeps {s0 : State} (s : State) (who : Who) (value : Word)
     (h : s0.Keeps s) : s0.Keeps (State.bedSaveBy s who value) := by
  unfold State.bedSaveBy
  try dsimp only
  repeat' (first | with_reducible assumption | intro _ | with_reducible apply State.Keeps.foldl |
                 with_reducible apply State.gated_keeps | with_reducible apply State.setFld_keeps |
                 with_reducible apply State.submit_keeps | simp only [State.Keeps.mk1] | simp only [State.Keeps.mk2] |
                 simp only [State.Keeps.mk3] | split)

theorem bedSave_keeps {s0 : State} (value : Word) (s : State) (h : s0.Keeps s) : s0.Keeps (bedSave value s) := by
  unfold bedSave
  try dsimp only
  repeat' (first | with_reducible assumption | intro _ | with_reducible apply State.Keeps.foldl |
                 with_reducible apply State.bedSaveBy_keeps | simp only [State.Keeps.mk1] | simp only [State.Keeps.mk2] |
                 simp only [State.Keeps.mk3] | split)

theorem State.setSeg_keeps {s0 : State} (s : State) (k : Nat) (x : Seg) (h : s0.Keeps s) : s0.Keeps (State.setSeg s k x) := by
  unfold State.setSeg
  try dsimp only
  repeat' (first | with_reducible assumption | intro _ | with_reducible apply State.Keeps.foldl | simp only [State.Keeps.mk1] |
                 simp only [State.Keeps.mk2] | simp only [State.Keeps.mk3] | split)

theorem State.openFresh_keeps {s0 : State} (s : State) (die : Nat) (h : s0.Keeps s) : s0.Keeps (State.openFresh s die) := by
  unfold State.openFresh
  try dsimp only
  repeat' (first | with_reducible assumption | intro _ | with_reducible apply State.Keeps.foldl |
                 with_reducible apply State.setSeg_keeps | simp only [State.Keeps.mk1] | simp only [State.Keeps.mk2] |
                 simp only [State.Keeps.mk3] | split)

theorem State.roomFor_keeps {s0 : State} (s : State) (die : Nat) (n : Nat) (h : s0.Keeps s) : s0.Keeps (State.roomFor s die n) := by
  unfold State.roomFor
  try dsimp only
  repeat' (first | with_reducible assumption | intro _ | with_reducible apply State.Keeps.foldl |
                 with_reducible apply State.openFresh_keeps | with_reducible apply State.setSeg_keeps | simp only [State.Keeps.mk1] |
                 simp only [State.Keeps.mk2] | simp only [State.Keeps.mk3] | split)

theorem State.takePages_keeps {s0 : State} (s : State) (n : Nat) (x2 : List Nat)
     (h : s0.Keeps s) : s0.Keeps (State.takePages s n x2) := by
  induction x2 generalizing s n with
  | nil =>
    unfold State.takePages
    try dsimp only
    repeat' (first | with_reducible assumption | intro _ | with_reducible apply State.Keeps.foldl | with_reducible apply ih |
                   with_reducible apply State.roomFor_keeps | with_reducible apply State.setSeg_keeps | simp only [State.Keeps.mk1] |
                   simp only [State.Keeps.mk2] | simp only [State.Keeps.mk3] |
                   (split <;> try (rename_i hq; injection hq with hq1 hq2; subst hq1; subst hq2)))
  | cons _ _ ih =>
    unfold State.takePages
    try dsimp only
    repeat' (first | with_reducible assumption | intro _ | with_reducible apply State.Keeps.foldl | with_reducible apply ih |
                   with_reducible apply State.roomFor_keeps | with_reducible apply State.setSeg_keeps | simp only [State.Keeps.mk1] |
                   simp only [State.Keeps.mk2] | simp only [State.Keeps.mk3] |
                   (split <;> try (rename_i hq; injection hq with hq1 hq2; subst hq1; subst hq2)))

theorem State.placeRecord_keeps {s0 : State} (s : State) (n : Nat) (x2 : List Nat)
     (h : s0.Keeps s) : s0.Keeps (State.placeRecord s n x2).1 := by
  induction x2 generalizing s n with
  | nil =>
    unfold State.placeRecord
    try dsimp only
    repeat' (first | with_reducible assumption | intro _ | with_reducible apply State.Keeps.foldl | with_reducible apply ih |
                   with_reducible apply State.roomFor_keeps | with_reducible apply State.takePages_keeps |
                   simp only [State.Keeps.mk1] | simp only [State.Keeps.mk2] | simp only [State.Keeps.mk3] |
                   (split <;> try (rename_i hq; injection hq with hq1 hq2; subst hq1; subst hq2)))
  | cons _ _ ih =>
    unfold State.placeRecord
    try dsimp only
    repeat' (first | with_reducible assumption | intro _ | with_reducible apply State.Keeps.foldl | with_reducible apply ih |
                   with_reducible apply State.roomFor_keeps | with_reducible apply State.takePages_keeps |
                   simp only [State.Keeps.mk1] | simp only [State.Keeps.mk2] | simp only [State.Keeps.mk3] |
                   (split <;> try (rename_i hq; injection hq with hq1 hq2; subst hq1; subst hq2)))

theorem State.markLive_keeps {s0 : State} (s : State) (h : s0.Keeps s) : s0.Keeps (State.markLive s) := by
  unfold State.markLive
  try dsimp only
  repeat' (first | with_reducible assumption | intro _ | with_reducible apply State.Keeps.foldl | simp only [State.Keeps.mk1] |
                 simp only [State.Keeps.mk2] | simp only [State.Keeps.mk3] | split)

theorem State.commit_keeps {s0 : State} (s : State) (w : Waiting) (h : s0.Keeps s) : s0.Keeps (State.commit s w) := by
  unfold State.commit
  try dsimp only
  repeat' (first | with_reducible assumption | intro _ | with_reducible apply State.Keeps.foldl |
                 with_reducible apply State.placeRecord_keeps | with_reducible apply State.markLive_keeps |
                 simp only [State.Keeps.mk1] | simp only [State.Keeps.mk2] | simp only [State.Keeps.mk3] | split)

theorem State.bedResumeBy_keeps {s0 : State} (s : State) (who : Who) (value : Word)
     (h : s0.Keeps s) : s0.Keeps (State.bedResumeBy s who value) := by
  unfold State.bedResumeBy
  try dsimp only
  repeat' (first | with_reducible assumption | intro _ | with_reducible apply State.Keeps.foldl |
                 with_reducible apply State.gated_keeps | with_reducible apply State.setFld_keeps | simp only [State.Keeps.mk1] |
                 simp only [State.Keeps.mk2] | simp only [State.Keeps.mk3] | split)

theorem State.submitCopies_keeps {s0 : State} (s : State) (x1 : List JRec) (h : s0.Keeps s) : s0.Keeps (State.submitCopies s x1) := by
  induction x1 generalizing s with
  | nil =>
    unfold State.submitCopies
    try dsimp only
    repeat' (first | with_reducible assumption | intro _ | with_reducible apply State.Keeps.foldl | with_reducible apply ih |
                   simp only [State.Keeps.mk1] | simp only [State.Keeps.mk2] | simp only [State.Keeps.mk3] |
                   (split <;> try (rename_i hq; injection hq with hq1 hq2; subst hq1; subst hq2)))
  | cons _ _ ih =>
    unfold State.submitCopies
    try dsimp only
    repeat' (first | with_reducible assumption | intro _ | with_reducible apply State.Keeps.foldl | with_reducible apply ih |
                   simp only [State.Keeps.mk1] | simp only [State.Keeps.mk2] | simp only [State.Keeps.mk3] |
                   (split <;> try (rename_i hq; injection hq with hq1 hq2; subst hq1; subst hq2)))

theorem State.compact_keeps {s0 : State} (s : State) (k : Nat) (h : s0.Keeps s) : s0.Keeps (State.compact s k) := by
  unfold State.compact
  try dsimp only
  repeat' (first | with_reducible assumption | intro _ | with_reducible apply State.Keeps.foldl |
                 with_reducible apply State.submitCopies_keeps | simp only [State.Keeps.mk1] | simp only [State.Keeps.mk2] |
                 simp only [State.Keeps.mk3] | split)

theorem refreshTrigger_keeps {s0 : State} (seg : Nat) (age : Nat) (corrected : Nat) (s : State)
     (h : s0.Keeps s) : s0.Keeps (refreshTrigger seg age corrected s) := by
  unfold refreshTrigger
  try dsimp only
  repeat' (first | with_reducible assumption | intro _ | with_reducible apply State.Keeps.foldl |
                 with_reducible apply State.compact_keeps | with_reducible apply State.setSeg_keeps | simp only [State.Keeps.mk1] |
                 simp only [State.Keeps.mk2] | simp only [State.Keeps.mk3] | split)

theorem bedResumeHeld_keeps {s0 : State} (value : Word) (s : State) (h : s0.Keeps s) : s0.Keeps (bedResumeHeld value s) := by
  unfold bedResumeHeld
  try dsimp only
  repeat' (first | with_reducible assumption | intro _ | with_reducible apply State.Keeps.foldl |
                 with_reducible apply State.bedResumeBy_keeps | simp only [State.Keeps.mk1] | simp only [State.Keeps.mk2] |
                 simp only [State.Keeps.mk3] | split)

theorem compactionStart_keeps {s0 : State} (s : State) (h : s0.Keeps s) : s0.Keeps (compactionStart s) := by
  unfold compactionStart
  try dsimp only
  repeat' (first | with_reducible assumption | intro _ | with_reducible apply State.Keeps.foldl |
                 with_reducible apply State.compact_keeps | simp only [State.Keeps.mk1] | simp only [State.Keeps.mk2] |
                 simp only [State.Keeps.mk3] | split)

theorem compactionErase_keeps {s0 : State} (s : State) (h : s0.Keeps s) : s0.Keeps (compactionErase s) := by
  unfold compactionErase
  try dsimp only
  repeat' (first | with_reducible assumption | intro _ | with_reducible apply State.Keeps.foldl |
                 with_reducible apply State.setSeg_keeps | simp only [State.Keeps.mk1] | simp only [State.Keeps.mk2] |
                 simp only [State.Keeps.mk3] | split)

theorem recordSubmit_keeps {s0 : State} (kind : Nat) (key : Nat) (key2 : Nat) (payload : Payload) (pieces : Nat) (s : State)
     (h : s0.Keeps s) : s0.Keeps (recordSubmit kind key key2 payload pieces s) := by
  unfold recordSubmit
  try dsimp only
  repeat' (first | with_reducible assumption | intro _ | with_reducible apply State.Keeps.foldl |
                 with_reducible apply State.submit_keeps | simp only [State.Keeps.mk1] | simp only [State.Keeps.mk2] |
                 simp only [State.Keeps.mk3] | split)

theorem State.wastePages_keeps {s0 : State} (s : State) (w : Waiting) (x2 : List Waiting)
     (h : s0.Keeps s) : s0.Keeps (State.wastePages s w x2) := by
  induction x2 generalizing s w with
  | nil =>
    unfold State.wastePages
    try dsimp only
    repeat' (first | with_reducible assumption | intro _ | with_reducible apply State.Keeps.foldl | with_reducible apply ih |
                   with_reducible apply State.takePages_keeps | simp only [State.Keeps.mk1] | simp only [State.Keeps.mk2] |
                   simp only [State.Keeps.mk3] | (split <;> try (rename_i hq; injection hq with hq1 hq2; subst hq1; subst hq2)))
  | cons _ _ ih =>
    unfold State.wastePages
    try dsimp only
    repeat' (first | with_reducible assumption | intro _ | with_reducible apply State.Keeps.foldl | with_reducible apply ih |
                   with_reducible apply State.takePages_keeps | simp only [State.Keeps.mk1] | simp only [State.Keeps.mk2] |
                   simp only [State.Keeps.mk3] | (split <;> try (rename_i hq; injection hq with hq1 hq2; subst hq1; subst hq2)))

theorem pieceProgrammed_keeps {s0 : State} (s : State) (h : s0.Keeps s) : s0.Keeps (pieceProgrammed s) := by
  unfold pieceProgrammed
  try dsimp only
  repeat' (first | with_reducible assumption | intro _ | with_reducible apply State.Keeps.foldl |
                 with_reducible apply State.wastePages_keeps | simp only [State.Keeps.mk1] | simp only [State.Keeps.mk2] |
                 simp only [State.Keeps.mk3] | split)

theorem pieceFail_keeps {s0 : State} (s : State) (h : s0.Keeps s) : s0.Keeps (pieceFail s) := by
  unfold pieceFail
  try dsimp only
  repeat' (first | with_reducible assumption | intro _ | with_reducible apply State.Keeps.foldl |
                 with_reducible apply State.takePages_keeps | with_reducible apply State.openFresh_keeps |
                 with_reducible apply State.setSeg_keeps | with_reducible apply State.drew_keeps |
                 with_reducible apply State.countDetectionAt_keeps | with_reducible apply State.setFld_keeps |
                 simp only [State.Keeps.mk1] | simp only [State.Keeps.mk2] | simp only [State.Keeps.mk3] | split)

end Sys2Proof.Machine
end

