-- ==== Sys2Proof/Laws/Keeps/Grid.lean ====
section
/-! SUPPORT. What no function of Machine/Grid.lean undoes (State.Keeps). -/

namespace Sys2Proof.Machine

open Sys2Proof

set_option linter.unreachableTactic false
set_option linter.unusedTactic false

theorem State.gsFaults_keeps {s0 : State} (s : State) (faults : Nat) (h : s0.Keeps s) : s0.Keeps (State.gsFaults s faults) := by
  unfold State.gsFaults
  try dsimp only
  repeat' (first | with_reducible assumption | intro _ | with_reducible apply State.Keeps.foldl |
                 with_reducible apply State.setFld_keeps | simp only [State.Keeps.mk1] | simp only [State.Keeps.mk2] |
                 simp only [State.Keeps.mk3] | split)

theorem State.setGsCh_keeps {s0 : State} (s : State) (n : Nat) (c : GsCh) (h : s0.Keeps s) : s0.Keeps (State.setGsCh s n c) := by
  unfold State.setGsCh
  try dsimp only
  repeat' (first | with_reducible assumption | intro _ | with_reducible apply State.Keeps.foldl | simp only [State.Keeps.mk1] |
                 simp only [State.Keeps.mk2] | simp only [State.Keeps.mk3] | split)

theorem State.gsOverload_keeps {s0 : State} (s : State) (n : Nat) (h : s0.Keeps s) : s0.Keeps (State.gsOverload s n) := by
  unfold State.gsOverload
  try dsimp only
  repeat' (first | with_reducible assumption | intro _ | with_reducible apply State.Keeps.foldl |
                 with_reducible apply State.event_keeps | with_reducible apply State.setGsCh_keeps | simp only [State.Keeps.mk1] |
                 simp only [State.Keeps.mk2] | simp only [State.Keeps.mk3] | split)

theorem gsSampleOutput_keeps {s0 : State} (channel : Nat) (t : Stamp) (raw : Nat) (overload : Bool) (faults : Nat) (cjt : Nat)
     (s : State) (h : s0.Keeps s) : s0.Keeps (gsSampleOutput channel t raw overload faults cjt s) := by
  unfold gsSampleOutput
  try dsimp only
  repeat' (first | with_reducible assumption | intro _ | with_reducible apply State.Keeps.foldl |
                 with_reducible apply State.setFld_keeps | with_reducible apply State.gsFaults_keeps |
                 with_reducible apply State.setBytes_keeps | with_reducible apply State.setReg_keeps |
                 with_reducible apply State.gsOverload_keeps | with_reducible apply State.setGsCh_keeps | simp only [State.Keeps.mk1] |
                 simp only [State.Keeps.mk2] | simp only [State.Keeps.mk3] | split)

theorem State.gsStop_keeps {s0 : State} (s : State) (n : Nat) (h : s0.Keeps s) : s0.Keeps (State.gsStop s n) := by
  unfold State.gsStop
  try dsimp only
  repeat' (first | with_reducible assumption | intro _ | with_reducible apply State.Keeps.foldl |
                 with_reducible apply State.setGsCh_keeps | with_reducible apply State.setReg_keeps | simp only [State.Keeps.mk1] |
                 simp only [State.Keeps.mk2] | simp only [State.Keeps.mk3] | split)

theorem State.gsWrite_keeps {s0 : State} (s : State) (who : Who) (r : Reg) (n : Nat) (f : State → State)
     (h_f : ∀ y0, s0.Keeps y0 → s0.Keeps (f y0)) (h : s0.Keeps s) : s0.Keeps (State.gsWrite s who r n f) := by
  unfold State.gsWrite
  try dsimp only
  repeat' (first | with_reducible assumption | intro _ | with_reducible apply State.Keeps.foldl | with_reducible apply h_f |
                 with_reducible apply State.gated_keeps | simp only [State.Keeps.mk1] | simp only [State.Keeps.mk2] |
                 simp only [State.Keeps.mk3] | split)

theorem State.putGsCfg_keeps {s0 : State} (s : State) (n : Nat) (w : Word) (h : s0.Keeps s) : s0.Keeps (State.putGsCfg s n w) := by
  unfold State.putGsCfg
  try dsimp only
  repeat' (first | with_reducible assumption | intro _ | with_reducible apply State.Keeps.foldl |
                 with_reducible apply State.setGsCh_keeps | with_reducible apply State.setReg_keeps | simp only [State.Keeps.mk1] |
                 simp only [State.Keeps.mk2] | simp only [State.Keeps.mk3] | split)

theorem gsCfgWrite_keeps {s0 : State} (channel : Nat) (who : Who) (value : Word) (s : State)
     (h : s0.Keeps s) : s0.Keeps (gsCfgWrite channel who value s) := by
  unfold gsCfgWrite
  try dsimp only
  repeat' (first | with_reducible assumption | intro _ | with_reducible apply State.Keeps.foldl |
                 with_reducible apply State.gsWrite_keeps | with_reducible apply State.putGsCfg_keeps | simp only [State.Keeps.mk1] |
                 simp only [State.Keeps.mk2] | simp only [State.Keeps.mk3] | split)

theorem gsXptWrite_keeps {s0 : State} (channel : Nat) (who : Who) (value : Word) (s : State)
     (h : s0.Keeps s) : s0.Keeps (gsXptWrite channel who value s) := by
  unfold gsXptWrite
  try dsimp only
  repeat' (first | with_reducible assumption | intro _ | with_reducible apply State.Keeps.foldl |
                 with_reducible apply State.gsWrite_keeps | with_reducible apply State.store_keeps | simp only [State.Keeps.mk1] |
                 simp only [State.Keeps.mk2] | simp only [State.Keeps.mk3] | split)

theorem lingo_keeps {s0 : State} (channel : Nat) (who : Who) (s : State) (h : s0.Keeps s) : s0.Keeps (lingo channel who s) := by
  unfold lingo
  try dsimp only
  repeat' (first | with_reducible assumption | intro _ | with_reducible apply State.Keeps.foldl |
                 with_reducible apply State.gsWrite_keeps | with_reducible apply State.setGsCh_keeps | simp only [State.Keeps.mk1] |
                 simp only [State.Keeps.mk2] | simp only [State.Keeps.mk3] | split)

theorem chargeReset_keeps {s0 : State} (channel : Nat) (who : Who) (s : State)
     (h : s0.Keeps s) : s0.Keeps (chargeReset channel who s) := by
  unfold chargeReset
  try dsimp only
  repeat' (first | with_reducible assumption | intro _ | with_reducible apply State.Keeps.foldl |
                 with_reducible apply State.gsWrite_keeps | with_reducible apply State.setGsCh_keeps | simp only [State.Keeps.mk1] |
                 simp only [State.Keeps.mk2] | simp only [State.Keeps.mk3] | split)

theorem State.sourceMoved_keeps {s0 : State} (s : State) (mask : Nat) (h : s0.Keeps s) : s0.Keeps (State.sourceMoved s mask) := by
  unfold State.sourceMoved
  try dsimp only
  repeat' (first | with_reducible assumption | intro _ | with_reducible apply State.Keeps.foldl |
                 with_reducible apply State.setGsCh_keeps | simp only [State.Keeps.mk1] | simp only [State.Keeps.mk2] |
                 simp only [State.Keeps.mk3] | split)

theorem State.writeSource_keeps {s0 : State} (s : State) (role : Nat) (who : Who) (value : Word)
     (h : s0.Keeps s) : s0.Keeps (State.writeSource s role who value) := by
  unfold State.writeSource
  try dsimp only
  repeat' (first | with_reducible assumption | intro _ | with_reducible apply State.Keeps.foldl |
                 with_reducible apply State.gsWrite_keeps | with_reducible apply State.event_keeps |
                 with_reducible apply State.setFld_keeps | with_reducible apply State.setReg_keeps |
                 with_reducible apply State.sourceMoved_keeps | simp only [State.Keeps.mk1] | simp only [State.Keeps.mk2] |
                 simp only [State.Keeps.mk3] | split)

theorem sourceWrite_keeps {s0 : State} (role : Nat) (who : Who) (value : Word) (s : State)
     (h : s0.Keeps s) : s0.Keeps (sourceWrite role who value s) := by
  unfold sourceWrite
  try dsimp only
  repeat' (first | with_reducible assumption | intro _ | with_reducible apply State.Keeps.foldl |
                 with_reducible apply State.writeSource_keeps | simp only [State.Keeps.mk1] | simp only [State.Keeps.mk2] |
                 simp only [State.Keeps.mk3] | split)

theorem gsRetWrite_keeps {s0 : State} (who : Who) (value : Word) (s : State) (h : s0.Keeps s) : s0.Keeps (gsRetWrite who value s) := by
  unfold gsRetWrite
  try dsimp only
  repeat' (first | with_reducible assumption | intro _ | with_reducible apply State.Keeps.foldl |
                 with_reducible apply State.writeSource_keeps | simp only [State.Keeps.mk1] | simp only [State.Keeps.mk2] |
                 simp only [State.Keeps.mk3] | split)

theorem State.openGsRing_keeps {s0 : State} (s : State) (n : Nat) (h : s0.Keeps s) : s0.Keeps (State.openGsRing s n) := by
  unfold State.openGsRing
  try dsimp only
  repeat' (first | with_reducible assumption | intro _ | with_reducible apply State.Keeps.foldl |
                 with_reducible apply State.setReg_keeps | simp only [State.Keeps.mk1] | simp only [State.Keeps.mk2] |
                 simp only [State.Keeps.mk3] | split)

theorem State.gsApply_keeps {s0 : State} (s : State) (n : Nat) (h : s0.Keeps s) : s0.Keeps (State.gsApply s n) := by
  unfold State.gsApply
  try dsimp only
  repeat' (first | with_reducible assumption | intro _ | with_reducible apply State.Keeps.foldl |
                 with_reducible apply State.setFld_keeps | with_reducible apply State.setGsCh_keeps |
                 with_reducible apply State.setReg_keeps | with_reducible apply State.openGsRing_keeps | simp only [State.Keeps.mk1] |
                 simp only [State.Keeps.mk2] | simp only [State.Keeps.mk3] | split)

theorem gsChangeApply_keeps {s0 : State} (channel : Nat) (s : State) (h : s0.Keeps s) : s0.Keeps (gsChangeApply channel s) := by
  unfold gsChangeApply
  try dsimp only
  repeat' (first | with_reducible assumption | intro _ | with_reducible apply State.Keeps.foldl |
                 with_reducible apply State.gsApply_keeps | simp only [State.Keeps.mk1] | simp only [State.Keeps.mk2] |
                 simp only [State.Keeps.mk3] | split)

theorem State.sourcesOff_keeps {s0 : State} (s : State) (h : s0.Keeps s) : s0.Keeps (State.sourcesOff s) := by
  unfold State.sourcesOff
  try dsimp only
  repeat' (first | with_reducible assumption | intro _ | with_reducible apply State.Keeps.foldl |
                 with_reducible apply State.setReg_keeps | with_reducible apply State.setFld_keeps | simp only [State.Keeps.mk1] |
                 simp only [State.Keeps.mk2] | simp only [State.Keeps.mk3] | split)

theorem gsChannelDrain_keeps {s0 : State} (channel : Nat) (s : State) (h : s0.Keeps s) : s0.Keeps (gsChannelDrain channel s) := by
  unfold gsChannelDrain
  try dsimp only
  repeat' (first | with_reducible assumption | intro _ | with_reducible apply State.Keeps.foldl |
                 with_reducible apply State.gsStop_keeps | with_reducible apply State.sourcesOff_keeps | simp only [State.Keeps.mk1] |
                 simp only [State.Keeps.mk2] | simp only [State.Keeps.mk3] | split)

end Sys2Proof.Machine
end

