-- ==== Sys2Proof/Laws/Keeps/Calib.lean ====
section
/-! SUPPORT. What no function of Machine/Calib.lean undoes (State.Keeps). -/

namespace Sys2Proof.Machine

open Sys2Proof

set_option linter.unreachableTactic false
set_option linter.unusedTactic false

theorem State.setInForce_keeps {s0 : State} (s : State) (r : CalRun) (h : s0.Keeps s) : s0.Keeps (State.setInForce s r) := by
  unfold State.setInForce
  try dsimp only
  repeat' (first | with_reducible assumption | intro _ | with_reducible apply State.Keeps.foldl | simp only [State.Keeps.mk1] |
                 simp only [State.Keeps.mk2] | simp only [State.Keeps.mk3] | split)

theorem State.calOutcome_keeps {s0 : State} (s : State) (set : Nat) (target : Nat) (st : Status)
     (h : s0.Keeps s) : s0.Keeps (State.calOutcome s set target st) := by
  unfold State.calOutcome
  try dsimp only
  repeat' (first | with_reducible assumption | intro _ | with_reducible apply State.Keeps.foldl |
                 with_reducible apply State.event_keeps | with_reducible apply State.setFld_keeps | simp only [State.Keeps.mk1] |
                 simp only [State.Keeps.mk2] | simp only [State.Keeps.mk3] | split)

theorem State.calStat_keeps {s0 : State} (s : State) (h : s0.Keeps s) : s0.Keeps (State.calStat s) := by
  unfold State.calStat
  try dsimp only
  repeat' (first | with_reducible assumption | intro _ | with_reducible apply State.Keeps.foldl |
                 with_reducible apply State.setFld_keeps | simp only [State.Keeps.mk1] | simp only [State.Keeps.mk2] |
                 simp only [State.Keeps.mk3] | split)

theorem State.calRelease_keeps {s0 : State} (s : State) (r : CalRun) (h : s0.Keeps s) : s0.Keeps (State.calRelease s r) := by
  unfold State.calRelease
  try dsimp only
  repeat' (first | with_reducible assumption | intro _ | with_reducible apply State.Keeps.foldl |
                 with_reducible apply State.setPort_keeps | with_reducible apply State.setGsCh_keeps |
                 with_reducible apply State.calStat_keeps | with_reducible apply State.setDom_keeps | simp only [State.Keeps.mk1] |
                 simp only [State.Keeps.mk2] | simp only [State.Keeps.mk3] | split)

theorem State.calLanded_keeps {s0 : State} (s : State) (set : Nat) (target : Nat) (refCnt : Nat) (cnt : Nat) (coefs : List Int)
     (h : s0.Keeps s) : s0.Keeps (State.calLanded s set target refCnt cnt coefs) := by
  unfold State.calLanded
  try dsimp only
  repeat' (first | with_reducible assumption | intro _ | with_reducible apply State.Keeps.foldl |
                 with_reducible apply State.setReg_keeps | with_reducible apply State.calOutcome_keeps |
                 with_reducible apply State.calRelease_keeps | with_reducible apply State.setInForce_keeps |
                 simp only [State.Keeps.mk1] | simp only [State.Keeps.mk2] | simp only [State.Keeps.mk3] | split)

theorem calGo_keeps {s0 : State} (who : Who) (value : Word) (s : State) (h : s0.Keeps s) : s0.Keeps (calGo who value s) := by
  unfold calGo
  try dsimp only
  repeat' (first | with_reducible assumption | intro _ | with_reducible apply State.Keeps.foldl |
                 with_reducible apply State.gated_keeps | with_reducible apply State.store_keeps |
                 with_reducible apply State.setFld_keeps | with_reducible apply State.calStat_keeps | simp only [State.Keeps.mk1] |
                 simp only [State.Keeps.mk2] | simp only [State.Keeps.mk3] | split)

theorem calTargetReturn_keeps {s0 : State} (s : State) (h : s0.Keeps s) : s0.Keeps (calTargetReturn s) := by
  unfold calTargetReturn
  try dsimp only
  repeat' (first | with_reducible assumption | intro _ | with_reducible apply State.Keeps.foldl |
                 with_reducible apply State.calRelease_keeps | with_reducible apply State.setInForce_keeps |
                 simp only [State.Keeps.mk1] | simp only [State.Keeps.mk2] | simp only [State.Keeps.mk3] | split)

theorem State.calDropQueue_keeps {s0 : State} (s : State) (x1 : List (Nat × Nat))
     (h : s0.Keeps s) : s0.Keeps (State.calDropQueue s x1) := by
  induction x1 generalizing s with
  | nil =>
    unfold State.calDropQueue
    try dsimp only
    repeat' (first | with_reducible assumption | intro _ | with_reducible apply State.Keeps.foldl | with_reducible apply ih |
                   with_reducible apply State.calOutcome_keeps | simp only [State.Keeps.mk1] | simp only [State.Keeps.mk2] |
                   simp only [State.Keeps.mk3] | (split <;> try (rename_i hq; injection hq with hq1 hq2; subst hq1; subst hq2)))
  | cons _ _ ih =>
    unfold State.calDropQueue
    try dsimp only
    repeat' (first | with_reducible assumption | intro _ | with_reducible apply State.Keeps.foldl | with_reducible apply ih |
                   with_reducible apply State.calOutcome_keeps | simp only [State.Keeps.mk1] | simp only [State.Keeps.mk2] |
                   simp only [State.Keeps.mk3] | (split <;> try (rename_i hq; injection hq with hq1 hq2; subst hq1; subst hq2)))

theorem State.calAbandon_keeps {s0 : State} (s : State) (h : s0.Keeps s) : s0.Keeps (State.calAbandon s) := by
  unfold State.calAbandon
  try dsimp only
  repeat' (first | with_reducible assumption | intro _ | with_reducible apply State.Keeps.foldl |
                 with_reducible apply State.calRelease_keeps | with_reducible apply State.setInForce_keeps |
                 with_reducible apply State.calOutcome_keeps | simp only [State.Keeps.mk1] | simp only [State.Keeps.mk2] |
                 simp only [State.Keeps.mk3] | split)

theorem State.calAbandonAll_keeps {s0 : State} (s : State) (h : s0.Keeps s) : s0.Keeps (State.calAbandonAll s) := by
  unfold State.calAbandonAll
  try dsimp only
  repeat' (first | with_reducible assumption | intro _ | with_reducible apply State.Keeps.foldl |
                 with_reducible apply State.calStat_keeps | with_reducible apply State.calDropQueue_keeps |
                 with_reducible apply State.calAbandon_keeps | simp only [State.Keeps.mk1] | simp only [State.Keeps.mk2] |
                 simp only [State.Keeps.mk3] | split)

theorem calLastSRead_keeps {s0 : State} (set : Nat) (who : Who) (s : State) (h : s0.Keeps s) : s0.Keeps (calLastSRead set who s) := by
  unfold calLastSRead
  try dsimp only
  repeat' (first | with_reducible assumption | intro _ | with_reducible apply State.Keeps.foldl |
                 with_reducible apply State.returns_keeps | with_reducible apply State.setReg_keeps | simp only [State.Keeps.mk1] |
                 simp only [State.Keeps.mk2] | simp only [State.Keeps.mk3] | split)

theorem calibrationStart_keeps {s0 : State} (s : State) (h : s0.Keeps s) : s0.Keeps (calibrationStart s) := by
  unfold calibrationStart
  try dsimp only
  repeat' (first | with_reducible assumption | intro _ | with_reducible apply State.Keeps.foldl |
                 with_reducible apply State.setDom_keeps | with_reducible apply State.setPa_keeps |
                 with_reducible apply State.setPort_keeps | with_reducible apply State.setGsCh_keeps |
                 with_reducible apply State.calStat_keeps | simp only [State.Keeps.mk1] | simp only [State.Keeps.mk2] |
                 simp only [State.Keeps.mk3] | split)

theorem calMeasureDone_keeps {s0 : State} (meas : List (Int × Int)) (s : State) (h : s0.Keeps s) : s0.Keeps (calMeasureDone meas s) := by
  unfold calMeasureDone
  try dsimp only
  repeat' (first | with_reducible assumption | intro _ | with_reducible apply State.Keeps.foldl |
                 with_reducible apply State.submit_keeps | with_reducible apply State.calOutcome_keeps |
                 with_reducible apply State.calRelease_keeps | simp only [State.Keeps.mk1] | simp only [State.Keeps.mk2] |
                 simp only [State.Keeps.mk3] | split)

theorem calAbandon_keeps {s0 : State} (s : State) (h : s0.Keeps s) : s0.Keeps (calAbandon s) := by
  unfold calAbandon
  try dsimp only
  repeat' (first | with_reducible assumption | intro _ | with_reducible apply State.Keeps.foldl |
                 with_reducible apply State.calAbandonAll_keeps | with_reducible apply State.calAbandon_keeps |
                 simp only [State.Keeps.mk1] | simp only [State.Keeps.mk2] | simp only [State.Keeps.mk3] | split)

end Sys2Proof.Machine
end

