-- ==== Sys2Proof/Laws/Keeps/Operands.lean ====
section
/-! SUPPORT. What no function of Machine/Operands.lean undoes (State.Keeps). -/

namespace Sys2Proof.Machine

open Sys2Proof

set_option linter.unreachableTactic false
set_option linter.unusedTactic false

theorem State.setTask_keeps {s0 : State} (s : State) (t : Nat) (x : Task) (h : s0.Keeps s) : s0.Keeps (State.setTask s t x) := by
  unfold State.setTask
  try dsimp only
  repeat' (first | with_reducible assumption | intro _ | with_reducible apply State.Keeps.foldl | simp only [State.Keeps.mk1] |
                 simp only [State.Keeps.mk2] | simp only [State.Keeps.mk3] | split)

theorem State.setCtx_keeps {s0 : State} (s : State) (k : Nat) (c : Ctx) (h : s0.Keeps s) : s0.Keeps (State.setCtx s k c) := by
  unfold State.setCtx
  try dsimp only
  repeat' (first | with_reducible assumption | intro _ | with_reducible apply State.Keeps.foldl | simp only [State.Keeps.mk1] |
                 simp only [State.Keeps.mk2] | simp only [State.Keeps.mk3] | split)

theorem State.setSr_keeps {s0 : State} (s : State) (k : Nat) (n : Nat) (v : DWord) (h : s0.Keeps s) : s0.Keeps (State.setSr s k n v) := by
  unfold State.setSr
  try dsimp only
  repeat' (first | with_reducible assumption | intro _ | with_reducible apply State.Keeps.foldl |
                 with_reducible apply State.setCtx_keeps | simp only [State.Keeps.mk1] | simp only [State.Keeps.mk2] |
                 simp only [State.Keeps.mk3] | split)

theorem State.setVr_keeps {s0 : State} (s : State) (k : Nat) (n : Nat) (v : Vec) (h : s0.Keeps s) : s0.Keeps (State.setVr s k n v) := by
  unfold State.setVr
  try dsimp only
  repeat' (first | with_reducible assumption | intro _ | with_reducible apply State.Keeps.foldl |
                 with_reducible apply State.setCtx_keeps | simp only [State.Keeps.mk1] | simp only [State.Keeps.mk2] |
                 simp only [State.Keeps.mk3] | split)

theorem State.setAr_keeps {s0 : State} (s : State) (k : Nat) (n : Nat) (v : BitVec 1536)
     (h : s0.Keeps s) : s0.Keeps (State.setAr s k n v) := by
  unfold State.setAr
  try dsimp only
  repeat' (first | with_reducible assumption | intro _ | with_reducible apply State.Keeps.foldl |
                 with_reducible apply State.setCtx_keeps | simp only [State.Keeps.mk1] | simp only [State.Keeps.mk2] |
                 simp only [State.Keeps.mk3] | split)

theorem State.setPr_keeps {s0 : State} (s : State) (k : Nat) (n : Nat) (v : DWord) (h : s0.Keeps s) : s0.Keeps (State.setPr s k n v) := by
  unfold State.setPr
  try dsimp only
  repeat' (first | with_reducible assumption | intro _ | with_reducible apply State.Keeps.foldl |
                 with_reducible apply State.setCtx_keeps | simp only [State.Keeps.mk1] | simp only [State.Keeps.mk2] |
                 simp only [State.Keeps.mk3] | split)

end Sys2Proof.Machine
end

