-- ==== Sys2Proof/Laws/Keeps/Fabric.lean ====
section
/-! SUPPORT. What no function of Machine/Fabric.lean undoes (State.Keeps). -/

namespace Sys2Proof.Machine

open Sys2Proof

set_option linter.unreachableTactic false
set_option linter.unusedTactic false

theorem State.freeBufs_keeps {s0 : State} (s : State) (l n : Nat) (h : s0.Keeps s) : s0.Keeps (State.freeBufs s l n) := by
  refine State.Keeps.books _ h id fun hp q => ?_
  have := hp q
  simp only [State.creditsUsed, State.occupied, State.returning, Tab.get_set] at this ⊢
  split
  · rename_i e
    subst e
    omega
  · exact this

theorem State.freeBack_keeps {s0 : State} (s : State) (l : Option Nat) (n : Nat) (h : s0.Keeps s) : s0.Keeps (State.freeBack s l n) := by
  unfold State.freeBack
  try dsimp only
  repeat' (first | with_reducible assumption | intro _ | with_reducible apply State.Keeps.foldl |
                 with_reducible apply State.freeBufs_keeps | simp only [State.Keeps.mk1] | simp only [State.Keeps.mk2] |
                 simp only [State.Keeps.mk3] | split)

theorem State.freeRequest_keeps {s0 : State} (s : State) (x : Txn) (h : s0.Keeps s) : s0.Keeps (State.freeRequest s x) := by
  unfold State.freeRequest
  try dsimp only
  repeat' (first | with_reducible assumption | intro _ | with_reducible apply State.Keeps.foldl |
                 with_reducible apply State.freeBack_keeps | with_reducible apply State.freeBufs_keeps | simp only [State.Keeps.mk1] |
                 simp only [State.Keeps.mk2] | simp only [State.Keeps.mk3] | split)

theorem State.noteLow_keeps {s0 : State} (s : State) (h : s0.Keeps s) : s0.Keeps (State.noteLow s) := by
  unfold State.noteLow
  try dsimp only
  repeat' (first | with_reducible assumption | intro _ | with_reducible apply State.Keeps.foldl |
                 with_reducible apply State.setFld_keeps | simp only [State.Keeps.mk1] | simp only [State.Keeps.mk2] |
                 simp only [State.Keeps.mk3] | split)

theorem State.setTags_keeps {s0 : State} (s : State) (i : Nat) (n : Nat) (h : s0.Keeps s) : s0.Keeps (State.setTags s i n) := by
  unfold State.setTags
  try dsimp only
  repeat' (first | with_reducible assumption | intro _ | with_reducible apply State.Keeps.foldl |
                 with_reducible apply State.noteLow_keeps | simp only [State.Keeps.mk1] | simp only [State.Keeps.mk2] |
                 simp only [State.Keeps.mk3] | split)

theorem State.setPcBusy_keeps {s0 : State} (s : State) (p n : Nat) (hn : (∀ q, s0.pcBusy q ≤ 32) → n ≤ 32) (h : s0.Keeps s) :
    s0.Keeps (State.setPcBusy s p n) :=
  ⟨h.queue, h.canon, h.fuse, h.rollback, h.revoked, fun hp q => by
    have : (s.setPcBusy p n).pcBusy q = if q = p then n else s.pcBusy q := Tab.get_set ..
    rw [this]; split
    · exact hn hp
    · exact h.slots hp q, h.credits⟩

theorem State.land_keeps {s0 : State} (s : State) (x : Txn) (h : s0.Keeps s) : s0.Keeps (State.land s x) := by
  unfold State.land
  extract_lets s1 s2 f
  have h1 : s0.Keeps s1 := State.freeRequest_keeps _ _ (State.setTags_keeps _ _ _ h)
  have h2 : s0.Keeps s2 := by
    unfold s2
    split
    · split
      · exact State.setPcBusy_keeps _ _ _ (fun hp => Nat.le_trans (Nat.sub_le _ _) (h1.slots hp _)) h1
      · exact h1
    · exact h1
  exact State.Keeps.mk3.2 h2

theorem State.takeSlot_keeps {s0 : State} (s : State) (pc : Option Nat) (h : s0.Keeps s) :
    s0.Keeps (State.takeSlot s pc) := by
  unfold State.takeSlot
  split
  · exact h
  · split
    · rename_i p hs
      have hl : (s.pcBusy p < 32 ∧ s.stackOpen (p / 32) = true) ∧ s.oldestWaiting p = none := by simpa [State.slotFree] using hs
      exact State.setPcBusy_keeps _ _ _ (fun _ => hl.1.1) h
    · exact h

theorem State.sendOn_keeps {s0 : State} (s : State) (l n : Nat) (h : s0.Keeps s) : s0.Keeps (State.sendOn s l n) := by
  refine State.Keeps.books _ h id fun hp q => ?_
  have := hp q
  simp only [State.creditsUsed, State.occupied, State.returning, Tab.get_set] at this ⊢
  split
  · rename_i e
    subst e
    simp only [State.creditsHeld, State.occupied, State.returning, linkCredits]
    omega
  · exact this

theorem State.push_keeps {s0 : State} (l : List Nat) (s : State) (x : Txn) (h : s0.Keeps s) : s0.Keeps (State.push s x l).1 := by
  induction l generalizing s x with
  | nil => exact State.takeSlot_keeps _ _ (State.freeBack_keeps _ _ _ h)
  | cons a t ih =>
    have h1 : s0.Keeps ((s.sendOn a (min (s.creditsHeld a) (x.reqN - x.moved))).freeBack x.back (min (s.creditsHeld a) (x.reqN - x.moved))) :=
      State.freeBack_keeps _ _ _ (State.sendOn_keeps _ _ _ h)
    unfold State.push
    dsimp only
    split
    · exact h1
    · exact ih _ _ h1

theorem State.startTxn_keeps {s0 : State} (s : State) (init : Nat) (pc : Option Nat) (a reqN respN : Nat) (kind : TxnKind) (h : s0.Keeps s) :
    s0.Keeps (State.startTxn s init pc a reqN respN kind) :=
  State.Keeps.upd (State.push_keeps _ _ _ (State.setTags_keeps _ _ _ h)) rfl rfl rfl rfl rfl rfl rfl rfl rfl

theorem State.respond_keeps {s0 : State} (s : State) (n : Nat) (x2 : List Nat) (h : s0.Keeps s) : s0.Keeps (State.respond s n x2) := by
  induction x2 generalizing s n with
  | nil =>
    unfold State.respond
    try dsimp only
    repeat' (first | with_reducible assumption | intro _ | with_reducible apply State.Keeps.foldl | with_reducible apply ih |
                   with_reducible apply State.freeBufs_keeps | with_reducible apply State.sendOn_keeps | simp only [State.Keeps.mk1] |
                   simp only [State.Keeps.mk2] | simp only [State.Keeps.mk3] |
                   (split <;> try (rename_i hq; injection hq with hq1 hq2; subst hq1; subst hq2)))
  | cons _ _ ih =>
    unfold State.respond
    try dsimp only
    repeat' (first | with_reducible assumption | intro _ | with_reducible apply State.Keeps.foldl | with_reducible apply ih |
                   with_reducible apply State.freeBufs_keeps | with_reducible apply State.sendOn_keeps | simp only [State.Keeps.mk1] |
                   simp only [State.Keeps.mk2] | simp only [State.Keeps.mk3] |
                   (split <;> try (rename_i hq; injection hq with hq1 hq2; subst hq1; subst hq2)))

theorem State.setTxn_keeps {s0 : State} (s : State) (x : Txn) (h : s0.Keeps s) : s0.Keeps (State.setTxn s x) := by
  unfold State.setTxn
  try dsimp only
  repeat' (first | with_reducible assumption | intro _ | with_reducible apply State.Keeps.foldl | simp only [State.Keeps.mk1] |
                 simp only [State.Keeps.mk2] | simp only [State.Keeps.mk3] | split)

theorem State.recountSlots_keeps {s0 : State} (s : State) (l : List Nat) (h : s0.Keeps s) : s0.Keeps (State.recountSlots s l) := by
  induction l generalizing s with
  | nil => exact h
  | cons a t ih => exact ih _ (State.setPcBusy_keeps _ _ _ (fun _ => Nat.min_le_left _ _) h)

theorem State.recountLinks_keeps {s0 : State} (s : State) (l : List Nat) (h : s0.Keeps s) : s0.Keeps (State.recountLinks s l) := by
  induction l generalizing s with
  | nil => exact h
  | cons a t ih =>
    refine ih _ (State.Keeps.books _ h id fun hp q => ?_)
    have := hp q
    simp only [State.creditsUsed, State.occupied, State.returning, Tab.get_set] at this ⊢
    split
    · exact Nat.min_le_left _ _
    · exact this

theorem State.recountTags_keeps {s0 : State} (s : State) (x1 : List Nat) (h : s0.Keeps s) : s0.Keeps (State.recountTags s x1) := by
  induction x1 generalizing s with
  | nil =>
    unfold State.recountTags
    try dsimp only
    repeat' (first | with_reducible assumption | intro _ | with_reducible apply State.Keeps.foldl | with_reducible apply ih |
                   with_reducible apply State.setTags_keeps | simp only [State.Keeps.mk1] | simp only [State.Keeps.mk2] |
                   simp only [State.Keeps.mk3] | (split <;> try (rename_i hq; injection hq with hq1 hq2; subst hq1; subst hq2)))
  | cons _ _ ih =>
    unfold State.recountTags
    try dsimp only
    repeat' (first | with_reducible assumption | intro _ | with_reducible apply State.Keeps.foldl | with_reducible apply ih |
                   with_reducible apply State.setTags_keeps | simp only [State.Keeps.mk1] | simp only [State.Keeps.mk2] |
                   simp only [State.Keeps.mk3] | (split <;> try (rename_i hq; injection hq with hq1 hq2; subst hq1; subst hq2)))

theorem State.recount_keeps {s0 : State} (s : State) (h : s0.Keeps s) : s0.Keeps (State.recount s) := by
  unfold State.recount
  try dsimp only
  repeat' (first | with_reducible assumption | intro _ | with_reducible apply State.Keeps.foldl |
                 with_reducible apply State.recountSlots_keeps | with_reducible apply State.recountLinks_keeps |
                 with_reducible apply State.recountTags_keeps | simp only [State.Keeps.mk1] | simp only [State.Keeps.mk2] |
                 simp only [State.Keeps.mk3] | split)

theorem State.audit_keeps {s0 : State} (s : State) (i : Nat) (h : s0.Keeps s) : s0.Keeps (State.audit s i) := by
  unfold State.audit
  try dsimp only
  repeat' (first | with_reducible assumption | intro _ | with_reducible apply State.Keeps.foldl |
                 with_reducible apply State.detectTest_keeps | with_reducible apply State.recount_keeps | simp only [State.Keeps.mk1] |
                 simp only [State.Keeps.mk2] | simp only [State.Keeps.mk3] | split)

theorem State.landAll_keeps {s0 : State} (s : State) (i : Nat) (x2 : List Txn) (h : s0.Keeps s) : s0.Keeps (State.landAll s i x2) := by
  induction x2 generalizing s i with
  | nil =>
    unfold State.landAll
    try dsimp only
    repeat' (first | with_reducible assumption | intro _ | with_reducible apply State.Keeps.foldl | with_reducible apply ih |
                   with_reducible apply State.land_keeps | simp only [State.Keeps.mk1] | simp only [State.Keeps.mk2] |
                   simp only [State.Keeps.mk3] | (split <;> try (rename_i hq; injection hq with hq1 hq2; subst hq1; subst hq2)))
  | cons _ _ ih =>
    unfold State.landAll
    try dsimp only
    repeat' (first | with_reducible assumption | intro _ | with_reducible apply State.Keeps.foldl | with_reducible apply ih |
                   with_reducible apply State.land_keeps | simp only [State.Keeps.mk1] | simp only [State.Keeps.mk2] |
                   simp only [State.Keeps.mk3] | (split <;> try (rename_i hq; injection hq with hq1 hq2; subst hq1; subst hq2)))

theorem State.touchTag_keeps {s0 : State} (s : State) (i : Nat) (h : s0.Keeps s) : s0.Keeps (State.touchTag s i) := by
  unfold State.touchTag
  try dsimp only
  repeat' (first | with_reducible assumption | intro _ | with_reducible apply State.Keeps.foldl |
                 with_reducible apply State.setTags_keeps | simp only [State.Keeps.mk1] | simp only [State.Keeps.mk2] |
                 simp only [State.Keeps.mk3] | split)

theorem sysTagFreeRead_keeps {s0 : State} (who : Who) (s : State) (h : s0.Keeps s) : s0.Keeps (sysTagFreeRead who s) := by
  unfold sysTagFreeRead
  try dsimp only
  repeat' (first | with_reducible assumption | intro _ | with_reducible apply State.Keeps.foldl |
                 with_reducible apply State.returns_keeps | with_reducible apply State.setFld_keeps | simp only [State.Keeps.mk1] |
                 simp only [State.Keeps.mk2] | simp only [State.Keeps.mk3] | split)

theorem linkHandshakeTimeout_keeps {s0 : State} (link : Nat) (unit : Option Nat) (s : State)
     (h : s0.Keeps s) : s0.Keeps (linkHandshakeTimeout link unit s) := by
  unfold linkHandshakeTimeout
  try dsimp only
  repeat' (first | with_reducible assumption | intro _ | with_reducible apply State.Keeps.foldl |
                 with_reducible apply State.detectTest_keeps | simp only [State.Keeps.mk1] | simp only [State.Keeps.mk2] |
                 simp only [State.Keeps.mk3] | split)

theorem tagWaitResume_keeps {s0 : State} (init : Nat) (s : State) (h : s0.Keeps s) : s0.Keeps (tagWaitResume init s) := by
  unfold tagWaitResume
  try dsimp only
  repeat' (first | with_reducible assumption | intro _ | with_reducible apply State.Keeps.foldl |
                 with_reducible apply State.setCtx_keeps | simp only [State.Keeps.mk1] | simp only [State.Keeps.mk2] |
                 simp only [State.Keeps.mk3] | split)

theorem State.pushWaiting_keeps {s0 : State} (s : State) (l : Nat) (t : List Txn) (h : s0.Keeps s) : s0.Keeps (State.pushWaiting s l t) := by
  induction t generalizing s with
  | nil => exact h
  | cons x t ih =>
    refine ih _ ?_
    split
    · exact State.setTxn_keeps _ _ (State.push_keeps _ _ _ h)
    · exact h

theorem pseudoChannelAdmit_keeps {s0 : State} (pc : Nat) (s : State) (h : s0.Keeps s) : s0.Keeps (pseudoChannelAdmit pc s) := by
  unfold pseudoChannelAdmit
  split
  · rename_i hp
    split
    · exact h
    · exact State.setPcBusy_keeps _ _ _ (fun _ => hp.1) (State.setTxn_keeps _ _ h)
  · exact h

theorem creditReturn_keeps {s0 : State} (link : Nat) (s : State) (h : s0.Keeps s) : s0.Keeps (creditReturn link s) := by
  unfold creditReturn
  split
  · exact h
  · refine State.pushWaiting_keeps _ _ _ (State.Keeps.books _ h id fun hp q => ?_)
    have := hp q
    simp only [State.creditsUsed, State.occupied, State.returning, Tab.get_set] at this ⊢
    split
    · rename_i e
      subst e
      omega
    · exact this

end Sys2Proof.Machine
end

