-- ==== Sys2Proof/Laws/Keeps/Idnas.lean ====
section
/-! SUPPORT. What no function of Machine/Idnas.lean undoes (State.Keeps). -/

namespace Sys2Proof.Machine

open Sys2Proof

set_option linter.unreachableTactic false
set_option linter.unusedTactic false

theorem State.landQueueOps_keeps {s0 : State} (s : State) (k : Nat) (t : Nat) (x3 : List Txn)
     (h : s0.Keeps s) : s0.Keeps (State.landQueueOps s k t x3) := by
  induction x3 generalizing s k t with
  | nil =>
    unfold State.landQueueOps
    try dsimp only
    repeat' (first | with_reducible assumption | intro _ | with_reducible apply State.Keeps.foldl | with_reducible apply ih |
                   with_reducible apply State.land_keeps | simp only [State.Keeps.mk1] | simp only [State.Keeps.mk2] |
                   simp only [State.Keeps.mk3] | (split <;> try (rename_i hq; injection hq with hq1 hq2; subst hq1; subst hq2)))
  | cons _ _ ih =>
    unfold State.landQueueOps
    try dsimp only
    repeat' (first | with_reducible assumption | intro _ | with_reducible apply State.Keeps.foldl | with_reducible apply ih |
                   with_reducible apply State.land_keeps | simp only [State.Keeps.mk1] | simp only [State.Keeps.mk2] |
                   simp only [State.Keeps.mk3] | (split <;> try (rename_i hq; injection hq with hq1 hq2; subst hq1; subst hq2)))

theorem State.endTask_keeps {s0 : State} (s : State) (k : Nat) (t : Nat) (status : Nat)
     (h : s0.Keeps s) : s0.Keeps (State.endTask s k t status) := by
  unfold State.endTask
  try dsimp only
  repeat' (first | with_reducible assumption | intro _ | with_reducible apply State.Keeps.foldl |
                 with_reducible apply State.landQueueOps_keeps | with_reducible apply State.setTask_keeps |
                 with_reducible apply State.setCtx_keeps | simp only [State.Keeps.mk1] | simp only [State.Keeps.mk2] |
                 simp only [State.Keeps.mk3] | split)

theorem State.taskFault_keeps {s0 : State} (s : State) (k : Nat) (t : Nat) (x : Task) (cause : Nat)
     (h : s0.Keeps s) : s0.Keeps (State.taskFault s k t x cause) := by
  unfold State.taskFault
  try dsimp only
  repeat' (first | with_reducible assumption | intro _ | with_reducible apply State.Keeps.foldl |
                 with_reducible apply State.setFld_keeps | with_reducible apply State.drew_keeps |
                 with_reducible apply State.event_keeps | with_reducible apply State.endTask_keeps | simp only [State.Keeps.mk1] |
                 simp only [State.Keeps.mk2] | simp only [State.Keeps.mk3] | split)

theorem State.issue_keeps {s0 : State} (s : State) (k : Nat) (words : Nat) (regs : List CtxReg) (valid : Bool)
     (body : State → Nat → Task → State) (h_body : ∀ y0 y1 y2, s0.Keeps y0 → s0.Keeps (body y0 y1 y2))
     (h : s0.Keeps s) : s0.Keeps (State.issue s k words regs valid body) := by
  unfold State.issue
  try dsimp only
  repeat' (first | with_reducible assumption | intro _ | with_reducible apply State.Keeps.foldl | with_reducible apply h_body |
                 with_reducible apply State.taskFault_keeps | with_reducible apply State.setCtx_keeps | simp only [State.Keeps.mk1] |
                 simp only [State.Keeps.mk2] | simp only [State.Keeps.mk3] | split)

theorem rr_keeps {s0 : State} (op : DWord → DWord → DWord) (k : Nat) (f : FmtR) (s : State)
     (h : s0.Keeps s) : s0.Keeps (rr op k f s) := by
  unfold rr
  try dsimp only
  repeat' (first | with_reducible assumption | intro _ | with_reducible apply State.Keeps.foldl |
                 with_reducible apply State.issue_keeps | with_reducible apply State.setSr_keeps | simp only [State.Keeps.mk1] |
                 simp only [State.Keeps.mk2] | simp only [State.Keeps.mk3] | split)

theorem idXor_keeps {s0 : State} (k : Nat) (f : FmtR) (s : State) (h : s0.Keeps s) : s0.Keeps (idXor k f s) := by
  unfold idXor
  try dsimp only
  repeat' (first | with_reducible assumption | intro _ | with_reducible apply State.Keeps.foldl |
                 with_reducible apply Machine.rr_keeps | simp only [State.Keeps.mk1] | simp only [State.Keeps.mk2] |
                 simp only [State.Keeps.mk3] | split)

theorem State.ready_keeps {s0 : State} (s : State) (k : Nat) (r : CtxReg) (h : s0.Keeps s) : s0.Keeps (State.ready s k r) := by
  unfold State.ready
  try dsimp only
  repeat' (first | with_reducible assumption | intro _ | with_reducible apply State.Keeps.foldl |
                 with_reducible apply State.setCtx_keeps | simp only [State.Keeps.mk1] | simp only [State.Keeps.mk2] |
                 simp only [State.Keeps.mk3] | split)

theorem State.checkFence_keeps {s0 : State} (s : State) (k : Nat) (h : s0.Keeps s) : s0.Keeps (State.checkFence s k) := by
  unfold State.checkFence
  try dsimp only
  repeat' (first | with_reducible assumption | intro _ | with_reducible apply State.Keeps.foldl |
                 with_reducible apply State.setCtx_keeps | simp only [State.Keeps.mk1] | simp only [State.Keeps.mk2] |
                 simp only [State.Keeps.mk3] | split)

theorem transactionResponse_keeps {s0 : State} (id : Nat) (memError : Bool) (s : State)
     (h : s0.Keeps s) : s0.Keeps (transactionResponse id memError s) := by
  unfold transactionResponse
  try dsimp only
  repeat' (first | with_reducible assumption | intro _ | with_reducible apply State.Keeps.foldl |
                 with_reducible apply State.land_keeps | with_reducible apply State.respond_keeps |
                 with_reducible apply State.taskFault_keeps | with_reducible apply State.setSr_keeps |
                 with_reducible apply State.ready_keeps | with_reducible apply State.setVr_keeps |
                 with_reducible apply State.startTxn_keeps | with_reducible apply State.checkFence_keeps |
                 with_reducible apply State.setCtx_keeps | simp only [State.Keeps.mk1] | simp only [State.Keeps.mk2] |
                 simp only [State.Keeps.mk3] | split)

theorem State.waitTag_keeps {s0 : State} (s : State) (k : Nat) (words : Nat) (h : s0.Keeps s) : s0.Keeps (State.waitTag s k words) := by
  unfold State.waitTag
  try dsimp only
  repeat' (first | with_reducible assumption | intro _ | with_reducible apply State.Keeps.foldl |
                 with_reducible apply State.setCtx_keeps | simp only [State.Keeps.mk1] | simp only [State.Keeps.mk2] |
                 simp only [State.Keeps.mk3] | split)

theorem State.setPack_keeps {s0 : State} (s : State) (slot : Nat) (p : Pack) (h : s0.Keeps s) : s0.Keeps (State.setPack s slot p) := by
  unfold State.setPack
  try dsimp only
  repeat' (first | with_reducible assumption | intro _ | with_reducible apply State.Keeps.foldl | simp only [State.Keeps.mk1] |
                 simp only [State.Keeps.mk2] | simp only [State.Keeps.mk3] | split)

theorem idAdd_keeps {s0 : State} (k : Nat) (f : FmtR) (s : State) (h : s0.Keeps s) : s0.Keeps (idAdd k f s) := by
  unfold idAdd
  try dsimp only
  repeat' (first | with_reducible assumption | intro _ | with_reducible apply State.Keeps.foldl |
                 with_reducible apply Machine.rr_keeps | simp only [State.Keeps.mk1] | simp only [State.Keeps.mk2] |
                 simp only [State.Keeps.mk3] | split)

theorem State.setPc_keeps {s0 : State} (s : State) (k : Nat) (pc : Nat) (h : s0.Keeps s) : s0.Keeps (State.setPc s k pc) := by
  unfold State.setPc
  try dsimp only
  repeat' (first | with_reducible assumption | intro _ | with_reducible apply State.Keeps.foldl |
                 with_reducible apply State.setCtx_keeps | simp only [State.Keeps.mk1] | simp only [State.Keeps.mk2] |
                 simp only [State.Keeps.mk3] | split)

theorem idShr_keeps {s0 : State} (k : Nat) (f : FmtR) (s : State) (h : s0.Keeps s) : s0.Keeps (idShr k f s) := by
  unfold idShr
  try dsimp only
  repeat' (first | with_reducible assumption | intro _ | with_reducible apply State.Keeps.foldl |
                 with_reducible apply Machine.rr_keeps | simp only [State.Keeps.mk1] | simp only [State.Keeps.mk2] |
                 simp only [State.Keeps.mk3] | split)

theorem rs_keeps {s0 : State} (op : DWord → Nat → DWord) (k : Nat) (f : FmtI) (s : State) (h : s0.Keeps s) : s0.Keeps (rs op k f s) := by
  unfold rs
  try dsimp only
  repeat' (first | with_reducible assumption | intro _ | with_reducible apply State.Keeps.foldl |
                 with_reducible apply State.issue_keeps | with_reducible apply State.setSr_keeps | simp only [State.Keeps.mk1] |
                 simp only [State.Keeps.mk2] | simp only [State.Keeps.mk3] | split)

theorem State.branch_keeps {s0 : State} (s : State) (k : Nat) (disp : BitVec 21) (c : Bool)
     (h : s0.Keeps s) : s0.Keeps (State.branch s k disp c) := by
  unfold State.branch
  try dsimp only
  repeat' (first | with_reducible assumption | intro _ | with_reducible apply State.Keeps.foldl |
                 with_reducible apply State.setPc_keeps | simp only [State.Keeps.mk1] | simp only [State.Keeps.mk2] |
                 simp only [State.Keeps.mk3] | split)

theorem idBz_keeps {s0 : State} (k : Nat) (f : FmtB) (s : State) (h : s0.Keeps s) : s0.Keeps (idBz k f s) := by
  unfold idBz
  try dsimp only
  repeat' (first | with_reducible assumption | intro _ | with_reducible apply State.Keeps.foldl |
                 with_reducible apply State.issue_keeps | with_reducible apply State.branch_keeps | simp only [State.Keeps.mk1] |
                 simp only [State.Keeps.mk2] | simp only [State.Keeps.mk3] | split)

theorem idFence_keeps {s0 : State} (k : Nat) (f : FmtR) (s : State) (h : s0.Keeps s) : s0.Keeps (idFence k f s) := by
  unfold idFence
  try dsimp only
  repeat' (first | with_reducible assumption | intro _ | with_reducible apply State.Keeps.foldl |
                 with_reducible apply State.issue_keeps | with_reducible apply State.setCtx_keeps | simp only [State.Keeps.mk1] |
                 simp only [State.Keeps.mk2] | simp only [State.Keeps.mk3] | split)

theorem idOr_keeps {s0 : State} (k : Nat) (f : FmtR) (s : State) (h : s0.Keeps s) : s0.Keeps (idOr k f s) := by
  unfold idOr
  try dsimp only
  repeat' (first | with_reducible assumption | intro _ | with_reducible apply State.Keeps.foldl |
                 with_reducible apply Machine.rr_keeps | simp only [State.Keeps.mk1] | simp only [State.Keeps.mk2] |
                 simp only [State.Keeps.mk3] | split)

theorem idEnd_keeps {s0 : State} (k : Nat) (f : FmtR) (s : State) (h : s0.Keeps s) : s0.Keeps (idEnd k f s) := by
  unfold idEnd
  try dsimp only
  repeat' (first | with_reducible assumption | intro _ | with_reducible apply State.Keeps.foldl |
                 with_reducible apply State.issue_keeps | with_reducible apply State.endTask_keeps | simp only [State.Keeps.mk1] |
                 simp only [State.Keeps.mk2] | simp only [State.Keeps.mk3] | split)

theorem State.memTxn_keeps {s0 : State} (s : State) (k : Nat) (y : Target) (ofs : Nat) (kind : TxnKind)
     (h : s0.Keeps s) : s0.Keeps (State.memTxn s k y ofs kind) := by
  unfold State.memTxn
  try dsimp only
  repeat' (first | with_reducible assumption | intro _ | with_reducible apply State.Keeps.foldl |
                 with_reducible apply State.startTxn_keeps | simp only [State.Keeps.mk1] | simp only [State.Keeps.mk2] |
                 simp only [State.Keeps.mk3] | split)

theorem ru_keeps {s0 : State} (op : DWord → DWord) (k : Nat) (f : FmtR) (s : State) (h : s0.Keeps s) : s0.Keeps (ru op k f s) := by
  unfold ru
  try dsimp only
  repeat' (first | with_reducible assumption | intro _ | with_reducible apply State.Keeps.foldl |
                 with_reducible apply State.issue_keeps | with_reducible apply State.setSr_keeps | simp only [State.Keeps.mk1] |
                 simp only [State.Keeps.mk2] | simp only [State.Keeps.mk3] | split)

theorem idClz_keeps {s0 : State} (k : Nat) (f : FmtR) (s : State) (h : s0.Keeps s) : s0.Keeps (idClz k f s) := by
  unfold idClz
  try dsimp only
  repeat' (first | with_reducible assumption | intro _ | with_reducible apply State.Keeps.foldl |
                 with_reducible apply Machine.ru_keeps | simp only [State.Keeps.mk1] | simp only [State.Keeps.mk2] |
                 simp only [State.Keeps.mk3] | split)

theorem State.storeLanes_keeps {s0 : State} (s : State) (obj : Nat) (ofs : Nat) (ty : Nat) (p : DWord) (v : Vec) (x6 : Nat)
     (h : s0.Keeps s) : s0.Keeps (State.storeLanes s obj ofs ty p v x6) := by
  induction x6 generalizing s obj ofs ty p v with
  | zero =>
    unfold State.storeLanes
    try dsimp only
    repeat' (first | with_reducible assumption | intro _ | with_reducible apply State.Keeps.foldl | with_reducible apply ih |
                   with_reducible apply State.setByte_keeps | simp only [State.Keeps.mk1] | simp only [State.Keeps.mk2] |
                   simp only [State.Keeps.mk3] | split)
  | succ _ ih =>
    unfold State.storeLanes
    try dsimp only
    repeat' (first | with_reducible assumption | intro _ | with_reducible apply State.Keeps.foldl | with_reducible apply ih |
                   with_reducible apply State.setByte_keeps | simp only [State.Keeps.mk1] | simp only [State.Keeps.mk2] |
                   simp only [State.Keeps.mk3] | split)

theorem idLih_keeps {s0 : State} (k : Nat) (f : FmtE) (s : State) (h : s0.Keeps s) : s0.Keeps (idLih k f s) := by
  unfold idLih
  try dsimp only
  repeat' (first | with_reducible assumption | intro _ | with_reducible apply State.Keeps.foldl |
                 with_reducible apply State.issue_keeps | with_reducible apply State.setSr_keeps | simp only [State.Keeps.mk1] |
                 simp only [State.Keeps.mk2] | simp only [State.Keeps.mk3] | split)

theorem idMul_keeps {s0 : State} (k : Nat) (f : FmtR) (s : State) (h : s0.Keeps s) : s0.Keeps (idMul k f s) := by
  unfold idMul
  try dsimp only
  repeat' (first | with_reducible assumption | intro _ | with_reducible apply State.Keeps.foldl |
                 with_reducible apply Machine.rr_keeps | simp only [State.Keeps.mk1] | simp only [State.Keeps.mk2] |
                 simp only [State.Keeps.mk3] | split)

theorem ri_keeps {s0 : State} (op : DWord → BitVec 16 → DWord) (k : Nat) (f : FmtI) (s : State)
     (h : s0.Keeps s) : s0.Keeps (ri op k f s) := by
  unfold ri
  try dsimp only
  repeat' (first | with_reducible assumption | intro _ | with_reducible apply State.Keeps.foldl |
                 with_reducible apply State.issue_keeps | with_reducible apply State.setSr_keeps | simp only [State.Keeps.mk1] |
                 simp only [State.Keeps.mk2] | simp only [State.Keeps.mk3] | split)

theorem idAndi_keeps {s0 : State} (k : Nat) (f : FmtI) (s : State) (h : s0.Keeps s) : s0.Keeps (idAndi k f s) := by
  unfold idAndi
  try dsimp only
  repeat' (first | with_reducible assumption | intro _ | with_reducible apply State.Keeps.foldl |
                 with_reducible apply Machine.ri_keeps | simp only [State.Keeps.mk1] | simp only [State.Keeps.mk2] |
                 simp only [State.Keeps.mk3] | split)

theorem idLi_keeps {s0 : State} (k : Nat) (f : FmtE) (s : State) (h : s0.Keeps s) : s0.Keeps (idLi k f s) := by
  unfold idLi
  try dsimp only
  repeat' (first | with_reducible assumption | intro _ | with_reducible apply State.Keeps.foldl |
                 with_reducible apply State.issue_keeps | with_reducible apply State.setSr_keeps | simp only [State.Keeps.mk1] |
                 simp only [State.Keeps.mk2] | simp only [State.Keeps.mk3] | split)

theorem idMax_keeps {s0 : State} (k : Nat) (f : FmtR) (s : State) (h : s0.Keeps s) : s0.Keeps (idMax k f s) := by
  unfold idMax
  try dsimp only
  repeat' (first | with_reducible assumption | intro _ | with_reducible apply State.Keeps.foldl |
                 with_reducible apply Machine.rr_keeps | simp only [State.Keeps.mk1] | simp only [State.Keeps.mk2] |
                 simp only [State.Keeps.mk3] | split)

theorem idAnd_keeps {s0 : State} (k : Nat) (f : FmtR) (s : State) (h : s0.Keeps s) : s0.Keeps (idAnd k f s) := by
  unfold idAnd
  try dsimp only
  repeat' (first | with_reducible assumption | intro _ | with_reducible apply State.Keeps.foldl |
                 with_reducible apply Machine.rr_keeps | simp only [State.Keeps.mk1] | simp only [State.Keeps.mk2] |
                 simp only [State.Keeps.mk3] | split)

theorem idLdv_keeps {s0 : State} (k : Nat) (f : FmtM) (s : State) (h : s0.Keeps s) : s0.Keeps (idLdv k f s) := by
  unfold idLdv
  try dsimp only
  repeat' (first | with_reducible assumption | intro _ | with_reducible apply State.Keeps.foldl |
                 with_reducible apply State.issue_keeps | with_reducible apply State.taskFault_keeps |
                 with_reducible apply State.setVr_keeps | with_reducible apply State.waitTag_keeps |
                 with_reducible apply State.setCtx_keeps | with_reducible apply State.memTxn_keeps | simp only [State.Keeps.mk1] |
                 simp only [State.Keeps.mk2] | simp only [State.Keeps.mk3] | split)

theorem idRdctx_keeps {s0 : State} (k : Nat) (f : FmtR) (s : State) (h : s0.Keeps s) : s0.Keeps (idRdctx k f s) := by
  unfold idRdctx
  try dsimp only
  repeat' (first | with_reducible assumption | intro _ | with_reducible apply State.Keeps.foldl |
                 with_reducible apply State.issue_keeps | with_reducible apply State.setSr_keeps |
                 with_reducible apply State.setCtx_keeps | simp only [State.Keeps.mk1] | simp only [State.Keeps.mk2] |
                 simp only [State.Keeps.mk3] | split)

theorem idCall_keeps {s0 : State} (k : Nat) (f : FmtB) (s : State) (h : s0.Keeps s) : s0.Keeps (idCall k f s) := by
  unfold idCall
  try dsimp only
  repeat' (first | with_reducible assumption | intro _ | with_reducible apply State.Keeps.foldl |
                 with_reducible apply State.issue_keeps | with_reducible apply State.branch_keeps |
                 with_reducible apply State.setSr_keeps | simp only [State.Keeps.mk1] | simp only [State.Keeps.mk2] |
                 simp only [State.Keeps.mk3] | split)

theorem idYield_keeps {s0 : State} (k : Nat) (f : FmtR) (s : State) (h : s0.Keeps s) : s0.Keeps (idYield k f s) := by
  unfold idYield
  try dsimp only
  repeat' (first | with_reducible assumption | intro _ | with_reducible apply State.Keeps.foldl |
                 with_reducible apply State.issue_keeps | with_reducible apply State.setCtx_keeps | simp only [State.Keeps.mk1] |
                 simp only [State.Keeps.mk2] | simp only [State.Keeps.mk3] | split)

theorem idSlt_keeps {s0 : State} (k : Nat) (f : FmtR) (s : State) (h : s0.Keeps s) : s0.Keeps (idSlt k f s) := by
  unfold idSlt
  try dsimp only
  repeat' (first | with_reducible assumption | intro _ | with_reducible apply State.Keeps.foldl |
                 with_reducible apply Machine.rr_keeps | simp only [State.Keeps.mk1] | simp only [State.Keeps.mk2] |
                 simp only [State.Keeps.mk3] | split)

theorem idShri_keeps {s0 : State} (k : Nat) (f : FmtI) (s : State) (h : s0.Keeps s) : s0.Keeps (idShri k f s) := by
  unfold idShri
  try dsimp only
  repeat' (first | with_reducible assumption | intro _ | with_reducible apply State.Keeps.foldl |
                 with_reducible apply Machine.rs_keeps | simp only [State.Keeps.mk1] | simp only [State.Keeps.mk2] |
                 simp only [State.Keeps.mk3] | split)

theorem idMin_keeps {s0 : State} (k : Nat) (f : FmtR) (s : State) (h : s0.Keeps s) : s0.Keeps (idMin k f s) := by
  unfold idMin
  try dsimp only
  repeat' (first | with_reducible assumption | intro _ | with_reducible apply State.Keeps.foldl |
                 with_reducible apply Machine.rr_keeps | simp only [State.Keeps.mk1] | simp only [State.Keeps.mk2] |
                 simp only [State.Keeps.mk3] | split)

theorem idLds_keeps {s0 : State} (k : Nat) (f : FmtM) (s : State) (h : s0.Keeps s) : s0.Keeps (idLds k f s) := by
  unfold idLds
  try dsimp only
  repeat' (first | with_reducible assumption | intro _ | with_reducible apply State.Keeps.foldl |
                 with_reducible apply State.issue_keeps | with_reducible apply State.taskFault_keeps |
                 with_reducible apply State.setSr_keeps | with_reducible apply State.waitTag_keeps |
                 with_reducible apply State.setCtx_keeps | with_reducible apply State.memTxn_keeps | simp only [State.Keeps.mk1] |
                 simp only [State.Keeps.mk2] | simp only [State.Keeps.mk3] | split)

theorem idHget_keeps {s0 : State} (k : Nat) (f : FmtI) (s : State) (h : s0.Keeps s) : s0.Keeps (idHget k f s) := by
  unfold idHget
  try dsimp only
  repeat' (first | with_reducible assumption | intro _ | with_reducible apply State.Keeps.foldl |
                 with_reducible apply State.issue_keeps | with_reducible apply State.setSr_keeps | simp only [State.Keeps.mk1] |
                 simp only [State.Keeps.mk2] | simp only [State.Keeps.mk3] | split)

theorem idMulhu_keeps {s0 : State} (k : Nat) (f : FmtR) (s : State) (h : s0.Keeps s) : s0.Keeps (idMulhu k f s) := by
  unfold idMulhu
  try dsimp only
  repeat' (first | with_reducible assumption | intro _ | with_reducible apply State.Keeps.foldl |
                 with_reducible apply Machine.rr_keeps | simp only [State.Keeps.mk1] | simp only [State.Keeps.mk2] |
                 simp only [State.Keeps.mk3] | split)

theorem idSrai_keeps {s0 : State} (k : Nat) (f : FmtI) (s : State) (h : s0.Keeps s) : s0.Keeps (idSrai k f s) := by
  unfold idSrai
  try dsimp only
  repeat' (first | with_reducible assumption | intro _ | with_reducible apply State.Keeps.foldl |
                 with_reducible apply Machine.rs_keeps | simp only [State.Keeps.mk1] | simp only [State.Keeps.mk2] |
                 simp only [State.Keeps.mk3] | split)

theorem idNop_keeps {s0 : State} (k : Nat) (f : FmtR) (s : State) (h : s0.Keeps s) : s0.Keeps (idNop k f s) := by
  unfold idNop
  try dsimp only
  repeat' (first | with_reducible assumption | intro _ | with_reducible apply State.Keeps.foldl |
                 with_reducible apply State.issue_keeps | simp only [State.Keeps.mk1] | simp only [State.Keeps.mk2] |
                 simp only [State.Keeps.mk3] | split)

theorem idSub_keeps {s0 : State} (k : Nat) (f : FmtR) (s : State) (h : s0.Keeps s) : s0.Keeps (idSub k f s) := by
  unfold idSub
  try dsimp only
  repeat' (first | with_reducible assumption | intro _ | with_reducible apply State.Keeps.foldl |
                 with_reducible apply Machine.rr_keeps | simp only [State.Keeps.mk1] | simp only [State.Keeps.mk2] |
                 simp only [State.Keeps.mk3] | split)

theorem idXori_keeps {s0 : State} (k : Nat) (f : FmtI) (s : State) (h : s0.Keeps s) : s0.Keeps (idXori k f s) := by
  unfold idXori
  try dsimp only
  repeat' (first | with_reducible assumption | intro _ | with_reducible apply State.Keeps.foldl |
                 with_reducible apply Machine.ri_keeps | simp only [State.Keeps.mk1] | simp only [State.Keeps.mk2] |
                 simp only [State.Keeps.mk3] | split)

theorem idStv_keeps {s0 : State} (k : Nat) (f : FmtM) (s : State) (h : s0.Keeps s) : s0.Keeps (idStv k f s) := by
  unfold idStv
  try dsimp only
  repeat' (first | with_reducible assumption | intro _ | with_reducible apply State.Keeps.foldl |
                 with_reducible apply State.issue_keeps | with_reducible apply State.taskFault_keeps |
                 with_reducible apply State.storeLanes_keeps | with_reducible apply State.waitTag_keeps |
                 with_reducible apply State.setCtx_keeps | with_reducible apply State.memTxn_keeps | simp only [State.Keeps.mk1] |
                 simp only [State.Keeps.mk2] | simp only [State.Keeps.mk3] | split)

theorem idJr_keeps {s0 : State} (k : Nat) (f : FmtR) (s : State) (h : s0.Keeps s) : s0.Keeps (idJr k f s) := by
  unfold idJr
  try dsimp only
  repeat' (first | with_reducible assumption | intro _ | with_reducible apply State.Keeps.foldl |
                 with_reducible apply State.issue_keeps | with_reducible apply State.setPc_keeps | simp only [State.Keeps.mk1] |
                 simp only [State.Keeps.mk2] | simp only [State.Keeps.mk3] | split)

theorem idBr_keeps {s0 : State} (k : Nat) (f : FmtB) (s : State) (h : s0.Keeps s) : s0.Keeps (idBr k f s) := by
  unfold idBr
  try dsimp only
  repeat' (first | with_reducible assumption | intro _ | with_reducible apply State.Keeps.foldl |
                 with_reducible apply State.issue_keeps | with_reducible apply State.branch_keeps | simp only [State.Keeps.mk1] |
                 simp only [State.Keeps.mk2] | simp only [State.Keeps.mk3] | split)

theorem idOri_keeps {s0 : State} (k : Nat) (f : FmtI) (s : State) (h : s0.Keeps s) : s0.Keeps (idOri k f s) := by
  unfold idOri
  try dsimp only
  repeat' (first | with_reducible assumption | intro _ | with_reducible apply State.Keeps.foldl |
                 with_reducible apply Machine.ri_keeps | simp only [State.Keeps.mk1] | simp only [State.Keeps.mk2] |
                 simp only [State.Keeps.mk3] | split)

theorem idShli_keeps {s0 : State} (k : Nat) (f : FmtI) (s : State) (h : s0.Keeps s) : s0.Keeps (idShli k f s) := by
  unfold idShli
  try dsimp only
  repeat' (first | with_reducible assumption | intro _ | with_reducible apply State.Keeps.foldl |
                 with_reducible apply Machine.rs_keeps | simp only [State.Keeps.mk1] | simp only [State.Keeps.mk2] |
                 simp only [State.Keeps.mk3] | split)

theorem idPopc_keeps {s0 : State} (k : Nat) (f : FmtR) (s : State) (h : s0.Keeps s) : s0.Keeps (idPopc k f s) := by
  unfold idPopc
  try dsimp only
  repeat' (first | with_reducible assumption | intro _ | with_reducible apply State.Keeps.foldl |
                 with_reducible apply Machine.ru_keeps | simp only [State.Keeps.mk1] | simp only [State.Keeps.mk2] |
                 simp only [State.Keeps.mk3] | split)

theorem idShl_keeps {s0 : State} (k : Nat) (f : FmtR) (s : State) (h : s0.Keeps s) : s0.Keeps (idShl k f s) := by
  unfold idShl
  try dsimp only
  repeat' (first | with_reducible assumption | intro _ | with_reducible apply State.Keeps.foldl |
                 with_reducible apply Machine.rr_keeps | simp only [State.Keeps.mk1] | simp only [State.Keeps.mk2] |
                 simp only [State.Keeps.mk3] | split)

theorem idAddi_keeps {s0 : State} (k : Nat) (f : FmtI) (s : State) (h : s0.Keeps s) : s0.Keeps (idAddi k f s) := by
  unfold idAddi
  try dsimp only
  repeat' (first | with_reducible assumption | intro _ | with_reducible apply State.Keeps.foldl |
                 with_reducible apply Machine.ri_keeps | simp only [State.Keeps.mk1] | simp only [State.Keeps.mk2] |
                 simp only [State.Keeps.mk3] | split)

theorem idSra_keeps {s0 : State} (k : Nat) (f : FmtR) (s : State) (h : s0.Keeps s) : s0.Keeps (idSra k f s) := by
  unfold idSra
  try dsimp only
  repeat' (first | with_reducible assumption | intro _ | with_reducible apply State.Keeps.foldl |
                 with_reducible apply Machine.rr_keeps | simp only [State.Keeps.mk1] | simp only [State.Keeps.mk2] |
                 simp only [State.Keeps.mk3] | split)

theorem idBnz_keeps {s0 : State} (k : Nat) (f : FmtB) (s : State) (h : s0.Keeps s) : s0.Keeps (idBnz k f s) := by
  unfold idBnz
  try dsimp only
  repeat' (first | with_reducible assumption | intro _ | with_reducible apply State.Keeps.foldl |
                 with_reducible apply State.issue_keeps | with_reducible apply State.branch_keeps | simp only [State.Keeps.mk1] |
                 simp only [State.Keeps.mk2] | simp only [State.Keeps.mk3] | split)

theorem idSltu_keeps {s0 : State} (k : Nat) (f : FmtR) (s : State) (h : s0.Keeps s) : s0.Keeps (idSltu k f s) := by
  unfold idSltu
  try dsimp only
  repeat' (first | with_reducible assumption | intro _ | with_reducible apply State.Keeps.foldl |
                 with_reducible apply Machine.rr_keeps | simp only [State.Keeps.mk1] | simp only [State.Keeps.mk2] |
                 simp only [State.Keeps.mk3] | split)

theorem idSts_keeps {s0 : State} (k : Nat) (f : FmtM) (s : State) (h : s0.Keeps s) : s0.Keeps (idSts k f s) := by
  unfold idSts
  try dsimp only
  repeat' (first | with_reducible assumption | intro _ | with_reducible apply State.Keeps.foldl |
                 with_reducible apply State.issue_keeps | with_reducible apply State.taskFault_keeps |
                 with_reducible apply State.setBytes_keeps | with_reducible apply State.waitTag_keeps |
                 with_reducible apply State.setCtx_keeps | with_reducible apply State.memTxn_keeps | simp only [State.Keeps.mk1] |
                 simp only [State.Keeps.mk2] | simp only [State.Keeps.mk3] | split)

theorem idRet_keeps {s0 : State} (k : Nat) (f : FmtR) (s : State) (h : s0.Keeps s) : s0.Keeps (idRet k f s) := by
  unfold idRet
  try dsimp only
  repeat' (first | with_reducible assumption | intro _ | with_reducible apply State.Keeps.foldl |
                 with_reducible apply State.issue_keeps | with_reducible apply State.setPc_keeps | simp only [State.Keeps.mk1] |
                 simp only [State.Keeps.mk2] | simp only [State.Keeps.mk3] | split)

end Sys2Proof.Machine
end

