-- ==== Sys2Proof/Laws/Keeps/IdnasCall.lean ====
section
/-! SUPPORT. What no function of Machine/IdnasCall.lean undoes (State.Keeps). -/

namespace Sys2Proof.Machine

open Sys2Proof

set_option linter.unreachableTactic false
set_option linter.unusedTactic false

theorem State.setRole_keeps {s0 : State} (s : State) (e : Nat) (r : EngRole) (h : s0.Keeps s) : s0.Keeps (State.setRole s e r) := by
  unfold State.setRole
  try dsimp only
  repeat' (first | with_reducible assumption | intro _ | with_reducible apply State.Keeps.foldl | simp only [State.Keeps.mk1] |
                 simp only [State.Keeps.mk2] | simp only [State.Keeps.mk3] | split)

theorem State.startTask_keeps {s0 : State} (s : State) (slot : Nat) (entry : Nat) (k : Nat) (x : TaskEntry) (s1 : DWord) (s2 : DWord)
     (parent : Nat) (h : s0.Keeps s) : s0.Keeps (State.startTask s slot entry k x s1 s2 parent) := by
  unfold State.startTask
  try dsimp only
  repeat' (first | with_reducible assumption | intro _ | with_reducible apply State.Keeps.foldl |
                 with_reducible apply State.setCtx_keeps | with_reducible apply State.setTask_keeps |
                 with_reducible apply State.drew_keeps | simp only [State.Keeps.mk1] | simp only [State.Keeps.mk2] |
                 simp only [State.Keeps.mk3] | split)

theorem State.setQueue_keeps {s0 : State} (s : State) (x1 : Nat) (q : List Vec) (h : s0.Keeps s) : s0.Keeps (State.setQueue s x1 q) := by
  unfold State.setQueue
  try dsimp only
  repeat' (first | with_reducible assumption | intro _ | with_reducible apply State.Keeps.foldl | simp only [State.Keeps.mk1] |
                 simp only [State.Keeps.mk2] | simp only [State.Keeps.mk3] | split)

theorem State.landCall_keeps {s0 : State} (s : State) (c : Call) (h : s0.Keeps s) : s0.Keeps (State.landCall s c) := by
  unfold State.landCall
  try dsimp only
  repeat' (first | with_reducible assumption | intro _ | with_reducible apply State.Keeps.foldl |
                 with_reducible apply State.land_keeps | with_reducible apply State.respond_keeps | simp only [State.Keeps.mk1] |
                 simp only [State.Keeps.mk2] | simp only [State.Keeps.mk3] | split)

theorem State.takeTicket_keeps {s0 : State} (s : State) (k : Nat) (d : Nat) (n : Nat) (st : Nat)
     (h : s0.Keeps s) : s0.Keeps (State.takeTicket s k d n st) := by
  unfold State.takeTicket
  try dsimp only
  repeat' (first | with_reducible assumption | intro _ | with_reducible apply State.Keeps.foldl |
                 with_reducible apply State.setSr_keeps | with_reducible apply State.setCtx_keeps | simp only [State.Keeps.mk1] |
                 simp only [State.Keeps.mk2] | simp only [State.Keeps.mk3] | split)

theorem State.setTicket_keeps {s0 : State} (s : State) (k : Nat) (n : Nat) (st : Option Nat)
     (h : s0.Keeps s) : s0.Keeps (State.setTicket s k n st) := by
  unfold State.setTicket
  try dsimp only
  repeat' (first | with_reducible assumption | intro _ | with_reducible apply State.Keeps.foldl |
                 with_reducible apply State.setCtx_keeps | simp only [State.Keeps.mk1] | simp only [State.Keeps.mk2] |
                 simp only [State.Keeps.mk3] | split)

theorem State.endCall_keeps {s0 : State} (s : State) (c : Call) (st : Status) (h : s0.Keeps s) : s0.Keeps (State.endCall s c st) := by
  unfold State.endCall
  try dsimp only
  repeat' (first | with_reducible assumption | intro _ | with_reducible apply State.Keeps.foldl |
                 with_reducible apply State.landCall_keeps | with_reducible apply State.takeTicket_keeps |
                 with_reducible apply State.setTicket_keeps | with_reducible apply State.checkFence_keeps |
                 simp only [State.Keeps.mk1] | simp only [State.Keeps.mk2] | simp only [State.Keeps.mk3] | split)

theorem twaitResume_keeps {s0 : State} (k : Nat) (s : State) (h : s0.Keeps s) : s0.Keeps (twaitResume k s) := by
  unfold twaitResume
  try dsimp only
  repeat' (first | with_reducible assumption | intro _ | with_reducible apply State.Keeps.foldl |
                 with_reducible apply State.setSr_keeps | with_reducible apply State.setCtx_keeps | simp only [State.Keeps.mk1] |
                 simp only [State.Keeps.mk2] | simp only [State.Keeps.mk3] | split)

theorem State.onQueue_keeps {s0 : State} (s : State) (k : Nat) (t : Nat) (x : Task) (hreg : Nat) (right : Nat)
     (op : State → Nat → State) (h_op : ∀ y0 y1, s0.Keeps y0 → s0.Keeps (op y0 y1))
     (h : s0.Keeps s) : s0.Keeps (State.onQueue s k t x hreg right op) := by
  unfold State.onQueue
  try dsimp only
  repeat' (first | with_reducible assumption | intro _ | with_reducible apply State.Keeps.foldl | with_reducible apply h_op |
                 with_reducible apply State.taskFault_keeps | with_reducible apply State.waitTag_keeps | simp only [State.Keeps.mk1] |
                 simp only [State.Keeps.mk2] | simp only [State.Keeps.mk3] | split)

theorem idQtpop_keeps {s0 : State} (k : Nat) (f : FmtR) (s : State) (h : s0.Keeps s) : s0.Keeps (idQtpop k f s) := by
  unfold idQtpop
  try dsimp only
  repeat' (first | with_reducible assumption | intro _ | with_reducible apply State.Keeps.foldl |
                 with_reducible apply State.issue_keeps | with_reducible apply State.onQueue_keeps |
                 with_reducible apply State.setSr_keeps | with_reducible apply State.setVr_keeps |
                 with_reducible apply State.setQueue_keeps | with_reducible apply State.touchTag_keeps | simp only [State.Keeps.mk1] |
                 simp only [State.Keeps.mk2] | simp only [State.Keeps.mk3] | split)

theorem State.callTags_keeps {s0 : State} (s : State) (c : Call) (h : s0.Keeps s) : s0.Keeps (State.callTags s c) := by
  unfold State.callTags
  try dsimp only
  repeat' (first | with_reducible assumption | intro _ | with_reducible apply State.Keeps.foldl |
                 with_reducible apply State.touchTag_keeps | simp only [State.Keeps.mk1] | simp only [State.Keeps.mk2] |
                 simp only [State.Keeps.mk3] | split)

theorem State.onCall_keeps {s0 : State} (s : State) (id : Nat) (unit : Nat) (op : Nat) (f : State → Call → State)
     (h_f : ∀ y0 y1, s0.Keeps y0 → s0.Keeps (f y0 y1)) (h : s0.Keeps s) : s0.Keeps (State.onCall s id unit op f) := by
  unfold State.onCall
  try dsimp only
  repeat' (first | with_reducible assumption | intro _ | with_reducible apply State.Keeps.foldl | with_reducible apply h_f |
                 with_reducible apply State.callTags_keeps | simp only [State.Keeps.mk1] | simp only [State.Keeps.mk2] |
                 simp only [State.Keeps.mk3] | split)

theorem State.endCallWith_keeps {s0 : State} (s : State) (c : Call) (st : Status) (out : List Byte)
     (h : s0.Keeps s) : s0.Keeps (State.endCallWith s c st out) := by
  unfold State.endCallWith
  try dsimp only
  repeat' (first | with_reducible assumption | intro _ | with_reducible apply State.Keeps.foldl |
                 with_reducible apply State.endCall_keeps | with_reducible apply State.setBytes_keeps | simp only [State.Keeps.mk1] |
                 simp only [State.Keeps.mk2] | simp only [State.Keeps.mk3] | split)

theorem viterbiDecode_keeps {s0 : State} (call : Nat) (s : State) (h : s0.Keeps s) : s0.Keeps (viterbiDecode call s) := by
  unfold viterbiDecode
  try dsimp only
  repeat' (first | with_reducible assumption | intro _ | with_reducible apply State.Keeps.foldl |
                 with_reducible apply State.onCall_keeps | with_reducible apply State.endCall_keeps |
                 with_reducible apply State.endCallWith_keeps | simp only [State.Keeps.mk1] | simp only [State.Keeps.mk2] |
                 simp only [State.Keeps.mk3] | split)

theorem issueCall_keeps {s0 : State} (unit : Nat) (k : Nat) (f : FmtA) (s : State)
     (h : s0.Keeps s) : s0.Keeps (issueCall unit k f s) := by
  unfold issueCall
  try dsimp only
  repeat' (first | with_reducible assumption | intro _ | with_reducible apply State.Keeps.foldl |
                 with_reducible apply State.issue_keeps | with_reducible apply State.taskFault_keeps |
                 with_reducible apply State.setPc_keeps | with_reducible apply State.waitTag_keeps |
                 with_reducible apply State.setSr_keeps | with_reducible apply State.drew_keeps |
                 with_reducible apply State.setTicket_keeps | with_reducible apply State.touchTag_keeps |
                 with_reducible apply State.startTxn_keeps | simp only [State.Keeps.mk1] | simp only [State.Keeps.mk2] |
                 simp only [State.Keeps.mk3] | split)

theorem idQtpush_keeps {s0 : State} (k : Nat) (f : FmtR) (s : State) (h : s0.Keeps s) : s0.Keeps (idQtpush k f s) := by
  unfold idQtpush
  try dsimp only
  repeat' (first | with_reducible assumption | intro _ | with_reducible apply State.Keeps.foldl |
                 with_reducible apply State.issue_keeps | with_reducible apply State.onQueue_keeps |
                 with_reducible apply State.setSr_keeps | with_reducible apply State.setQueue_keeps |
                 with_reducible apply State.touchTag_keeps | simp only [State.Keeps.mk1] | simp only [State.Keeps.mk2] |
                 simp only [State.Keeps.mk3] | split)

theorem runFft_keeps {s0 : State} (inverse : Bool) (s : State) (c : Call) (h : s0.Keeps s) : s0.Keeps (runFft inverse s c) := by
  unfold runFft
  try dsimp only
  repeat' (first | with_reducible assumption | intro _ | with_reducible apply State.Keeps.foldl |
                 with_reducible apply State.endCall_keeps | with_reducible apply State.endCallWith_keeps |
                 simp only [State.Keeps.mk1] | simp only [State.Keeps.mk2] | simp only [State.Keeps.mk3] | split)

theorem xfIfft_keeps {s0 : State} (call : Nat) (s : State) (h : s0.Keeps s) : s0.Keeps (xfIfft call s) := by
  unfold xfIfft
  try dsimp only
  repeat' (first | with_reducible assumption | intro _ | with_reducible apply State.Keeps.foldl |
                 with_reducible apply State.onCall_keeps | with_reducible apply Machine.runFft_keeps | simp only [State.Keeps.mk1] |
                 simp only [State.Keeps.mk2] | simp only [State.Keeps.mk3] | split)

theorem convolutionalEncode_keeps {s0 : State} (call : Nat) (s : State) (h : s0.Keeps s) : s0.Keeps (convolutionalEncode call s) := by
  unfold convolutionalEncode
  try dsimp only
  repeat' (first | with_reducible assumption | intro _ | with_reducible apply State.Keeps.foldl |
                 with_reducible apply State.onCall_keeps | with_reducible apply State.endCall_keeps |
                 with_reducible apply State.endCallWith_keeps | simp only [State.Keeps.mk1] | simp only [State.Keeps.mk2] |
                 simp only [State.Keeps.mk3] | split)

theorem State.waitQueue_keeps {s0 : State} (s : State) (k : Nat) (t : Nat) (x3 : Nat) (w : Wait)
     (h : s0.Keeps s) : s0.Keeps (State.waitQueue s k t x3 w) := by
  unfold State.waitQueue
  try dsimp only
  repeat' (first | with_reducible assumption | intro _ | with_reducible apply State.Keeps.foldl |
                 with_reducible apply State.startTxn_keeps | with_reducible apply State.setCtx_keeps | simp only [State.Keeps.mk1] |
                 simp only [State.Keeps.mk2] | simp only [State.Keeps.mk3] | split)

theorem idApoll_keeps {s0 : State} (k : Nat) (f : FmtR) (s : State) (h : s0.Keeps s) : s0.Keeps (idApoll k f s) := by
  unfold idApoll
  try dsimp only
  repeat' (first | with_reducible assumption | intro _ | with_reducible apply State.Keeps.foldl |
                 with_reducible apply State.issue_keeps | with_reducible apply State.drew_keeps |
                 with_reducible apply State.setSr_keeps | with_reducible apply State.takeTicket_keeps | simp only [State.Keeps.mk1] |
                 simp only [State.Keeps.mk2] | simp only [State.Keeps.mk3] | split)

theorem idQpop_keeps {s0 : State} (k : Nat) (f : FmtR) (s : State) (h : s0.Keeps s) : s0.Keeps (idQpop k f s) := by
  unfold idQpop
  try dsimp only
  repeat' (first | with_reducible assumption | intro _ | with_reducible apply State.Keeps.foldl |
                 with_reducible apply State.issue_keeps | with_reducible apply State.onQueue_keeps |
                 with_reducible apply State.setVr_keeps | with_reducible apply State.setQueue_keeps |
                 with_reducible apply State.touchTag_keeps | with_reducible apply State.waitQueue_keeps | simp only [State.Keeps.mk1] |
                 simp only [State.Keeps.mk2] | simp only [State.Keeps.mk3] | split)

theorem idQlen_keeps {s0 : State} (k : Nat) (f : FmtR) (s : State) (h : s0.Keeps s) : s0.Keeps (idQlen k f s) := by
  unfold idQlen
  try dsimp only
  repeat' (first | with_reducible assumption | intro _ | with_reducible apply State.Keeps.foldl |
                 with_reducible apply State.issue_keeps | with_reducible apply State.onQueue_keeps |
                 with_reducible apply State.setSr_keeps | with_reducible apply State.touchTag_keeps | simp only [State.Keeps.mk1] |
                 simp only [State.Keeps.mk2] | simp only [State.Keeps.mk3] | split)

theorem State.moveTask_keeps {s0 : State} (s : State) (k : Nat) (j : Nat) (h : s0.Keeps s) : s0.Keeps (State.moveTask s k j) := by
  unfold State.moveTask
  try dsimp only
  repeat' (first | with_reducible assumption | intro _ | with_reducible apply State.Keeps.foldl |
                 with_reducible apply State.setCtx_keeps | with_reducible apply State.setTask_keeps | simp only [State.Keeps.mk1] |
                 simp only [State.Keeps.mk2] | simp only [State.Keeps.mk3] | split)

theorem reedSolomonDecode_keeps {s0 : State} (call : Nat) (s : State) (h : s0.Keeps s) : s0.Keeps (reedSolomonDecode call s) := by
  unfold reedSolomonDecode
  try dsimp only
  repeat' (first | with_reducible assumption | intro _ | with_reducible apply State.Keeps.foldl |
                 with_reducible apply State.onCall_keeps | with_reducible apply State.endCall_keeps |
                 with_reducible apply State.endCallWith_keeps | simp only [State.Keeps.mk1] | simp only [State.Keeps.mk2] |
                 simp only [State.Keeps.mk3] | split)

theorem taskMigrate_keeps {s0 : State} (k : Nat) (target : Nat) (s : State) (h : s0.Keeps s) : s0.Keeps (taskMigrate k target s) := by
  unfold taskMigrate
  try dsimp only
  repeat' (first | with_reducible assumption | intro _ | with_reducible apply State.Keeps.foldl |
                 with_reducible apply State.moveTask_keeps | with_reducible apply State.touchTag_keeps | simp only [State.Keeps.mk1] |
                 simp only [State.Keeps.mk2] | simp only [State.Keeps.mk3] | split)

theorem idTwait_keeps {s0 : State} (k : Nat) (f : FmtR) (s : State) (h : s0.Keeps s) : s0.Keeps (idTwait k f s) := by
  unfold idTwait
  try dsimp only
  repeat' (first | with_reducible assumption | intro _ | with_reducible apply State.Keeps.foldl |
                 with_reducible apply State.issue_keeps | with_reducible apply State.setSr_keeps |
                 with_reducible apply State.setCtx_keeps | simp only [State.Keeps.mk1] | simp only [State.Keeps.mk2] |
                 simp only [State.Keeps.mk3] | split)

theorem idSpawn_keeps {s0 : State} (k : Nat) (f : FmtR) (s : State) (h : s0.Keeps s) : s0.Keeps (idSpawn k f s) := by
  unfold idSpawn
  try dsimp only
  repeat' (first | with_reducible assumption | intro _ | with_reducible apply State.Keeps.foldl |
                 with_reducible apply State.issue_keeps | with_reducible apply State.setSr_keeps |
                 with_reducible apply State.startTask_keeps | simp only [State.Keeps.mk1] | simp only [State.Keeps.mk2] |
                 simp only [State.Keeps.mk3] | split)

theorem xfFft_keeps {s0 : State} (call : Nat) (s : State) (h : s0.Keeps s) : s0.Keeps (xfFft call s) := by
  unfold xfFft
  try dsimp only
  repeat' (first | with_reducible assumption | intro _ | with_reducible apply State.Keeps.foldl |
                 with_reducible apply State.onCall_keeps | with_reducible apply Machine.runFft_keeps | simp only [State.Keeps.mk1] |
                 simp only [State.Keeps.mk2] | simp only [State.Keeps.mk3] | split)

theorem State.leaveQueue_keeps {s0 : State} (s : State) (k : Nat) (h : s0.Keeps s) : s0.Keeps (State.leaveQueue s k) := by
  unfold State.leaveQueue
  try dsimp only
  repeat' (first | with_reducible assumption | intro _ | with_reducible apply State.Keeps.foldl |
                 with_reducible apply State.land_keeps | with_reducible apply State.respond_keeps |
                 with_reducible apply State.setCtx_keeps | simp only [State.Keeps.mk1] | simp only [State.Keeps.mk2] |
                 simp only [State.Keeps.mk3] | split)

theorem ldpcDecode_keeps {s0 : State} (call : Nat) (s : State) (h : s0.Keeps s) : s0.Keeps (ldpcDecode call s) := by
  unfold ldpcDecode
  try dsimp only
  repeat' (first | with_reducible assumption | intro _ | with_reducible apply State.Keeps.foldl |
                 with_reducible apply State.onCall_keeps | with_reducible apply State.endCall_keeps |
                 with_reducible apply State.endCallWith_keeps | simp only [State.Keeps.mk1] | simp only [State.Keeps.mk2] |
                 simp only [State.Keeps.mk3] | split)

theorem idQpush_keeps {s0 : State} (k : Nat) (f : FmtR) (s : State) (h : s0.Keeps s) : s0.Keeps (idQpush k f s) := by
  unfold idQpush
  try dsimp only
  repeat' (first | with_reducible assumption | intro _ | with_reducible apply State.Keeps.foldl |
                 with_reducible apply State.issue_keeps | with_reducible apply State.onQueue_keeps |
                 with_reducible apply State.setQueue_keeps | with_reducible apply State.touchTag_keeps |
                 with_reducible apply State.waitQueue_keeps | simp only [State.Keeps.mk1] | simp only [State.Keeps.mk2] |
                 simp only [State.Keeps.mk3] | split)

theorem idAwait_keeps {s0 : State} (k : Nat) (f : FmtR) (s : State) (h : s0.Keeps s) : s0.Keeps (idAwait k f s) := by
  unfold idAwait
  try dsimp only
  repeat' (first | with_reducible assumption | intro _ | with_reducible apply State.Keeps.foldl |
                 with_reducible apply State.issue_keeps | with_reducible apply State.drew_keeps |
                 with_reducible apply State.setSr_keeps | with_reducible apply State.takeTicket_keeps |
                 with_reducible apply State.setCtx_keeps | simp only [State.Keeps.mk1] | simp only [State.Keeps.mk2] |
                 simp only [State.Keeps.mk3] | split)

theorem queueWaitResume_keeps {s0 : State} (k : Nat) (s : State) (h : s0.Keeps s) : s0.Keeps (queueWaitResume k s) := by
  unfold queueWaitResume
  try dsimp only
  repeat' (first | with_reducible assumption | intro _ | with_reducible apply State.Keeps.foldl |
                 with_reducible apply State.setQueue_keeps | with_reducible apply State.leaveQueue_keeps |
                 with_reducible apply State.setVr_keeps | simp only [State.Keeps.mk1] | simp only [State.Keeps.mk2] |
                 simp only [State.Keeps.mk3] | split)

theorem idXfft_keeps {s0 : State} (k : Nat) (f : FmtA) (s : State) (h : s0.Keeps s) : s0.Keeps (idXfft k f s) := by
  unfold idXfft
  try dsimp only
  repeat' (first | with_reducible assumption | intro _ | with_reducible apply State.Keeps.foldl |
                 with_reducible apply Machine.issueCall_keeps | simp only [State.Keeps.mk1] | simp only [State.Keeps.mk2] |
                 simp only [State.Keeps.mk3] | split)

theorem idXfec_keeps {s0 : State} (k : Nat) (f : FmtA) (s : State) (h : s0.Keeps s) : s0.Keeps (idXfec k f s) := by
  unfold idXfec
  try dsimp only
  repeat' (first | with_reducible assumption | intro _ | with_reducible apply State.Keeps.foldl |
                 with_reducible apply Machine.issueCall_keeps | simp only [State.Keeps.mk1] | simp only [State.Keeps.mk2] |
                 simp only [State.Keeps.mk3] | split)

theorem idXcry_keeps {s0 : State} (k : Nat) (f : FmtA) (s : State) (h : s0.Keeps s) : s0.Keeps (idXcry k f s) := by
  unfold idXcry
  try dsimp only
  repeat' (first | with_reducible assumption | intro _ | with_reducible apply State.Keeps.foldl |
                 with_reducible apply Machine.issueCall_keeps | simp only [State.Keeps.mk1] | simp only [State.Keeps.mk2] |
                 simp only [State.Keeps.mk3] | split)

theorem ldpcEncode_keeps {s0 : State} (call : Nat) (s : State) (h : s0.Keeps s) : s0.Keeps (ldpcEncode call s) := by
  unfold ldpcEncode
  try dsimp only
  repeat' (first | with_reducible assumption | intro _ | with_reducible apply State.Keeps.foldl |
                 with_reducible apply State.onCall_keeps | with_reducible apply State.endCall_keeps |
                 with_reducible apply State.endCallWith_keeps | simp only [State.Keeps.mk1] | simp only [State.Keeps.mk2] |
                 simp only [State.Keeps.mk3] | split)

theorem idXchk_keeps {s0 : State} (k : Nat) (f : FmtA) (s : State) (h : s0.Keeps s) : s0.Keeps (idXchk k f s) := by
  unfold idXchk
  try dsimp only
  repeat' (first | with_reducible assumption | intro _ | with_reducible apply State.Keeps.foldl |
                 with_reducible apply Machine.issueCall_keeps | simp only [State.Keeps.mk1] | simp only [State.Keeps.mk2] |
                 simp only [State.Keeps.mk3] | split)

theorem reedSolomonEncode_keeps {s0 : State} (call : Nat) (s : State) (h : s0.Keeps s) : s0.Keeps (reedSolomonEncode call s) := by
  unfold reedSolomonEncode
  try dsimp only
  repeat' (first | with_reducible assumption | intro _ | with_reducible apply State.Keeps.foldl |
                 with_reducible apply State.onCall_keeps | with_reducible apply State.endCall_keeps |
                 with_reducible apply State.endCallWith_keeps | simp only [State.Keeps.mk1] | simp only [State.Keeps.mk2] |
                 simp only [State.Keeps.mk3] | split)

end Sys2Proof.Machine
end

