-- ==== Sys2Proof/Laws/Keeps/Check.lean ====
section
/-! SUPPORT. What no function of Machine/Check.lean undoes (State.Keeps). -/

namespace Sys2Proof.Machine

open Sys2Proof

set_option linter.unreachableTactic false
set_option linter.unusedTactic false

theorem State.setChkUnit_keeps {s0 : State} (s : State) (n : Nat) (u : ChkUnit) (h : s0.Keeps s) : s0.Keeps (State.setChkUnit s n u) := by
  unfold State.setChkUnit
  try dsimp only
  repeat' (first | with_reducible assumption | intro _ | with_reducible apply State.Keeps.foldl | simp only [State.Keeps.mk1] |
                 simp only [State.Keeps.mk2] | simp only [State.Keeps.mk3] | split)

theorem State.chkMismatch_keeps {s0 : State} (s : State) (n : Nat) (h : s0.Keeps s) : s0.Keeps (State.chkMismatch s n) := by
  unfold State.chkMismatch
  try dsimp only
  repeat' (first | with_reducible assumption | intro _ | with_reducible apply State.Keeps.foldl |
                 with_reducible apply State.detectTest_keeps | with_reducible apply State.setChkUnit_keeps |
                 simp only [State.Keeps.mk1] | simp only [State.Keeps.mk2] | simp only [State.Keeps.mk3] | split)

theorem State.chkWriteData_keeps {s0 : State} (s : State) (n : Nat) (count : Nat) (v : Word) (mismatch : Bool)
     (h : s0.Keeps s) : s0.Keeps (State.chkWriteData s n count v mismatch) := by
  unfold State.chkWriteData
  try dsimp only
  repeat' (first | with_reducible assumption | intro _ | with_reducible apply State.Keeps.foldl |
                 with_reducible apply State.setChkUnit_keeps | with_reducible apply State.chkMismatch_keeps |
                 simp only [State.Keeps.mk1] | simp only [State.Keeps.mk2] | simp only [State.Keeps.mk3] | split)

theorem State.chkApply_keeps {s0 : State} (s : State) (n : Nat) (op : ChkOp) (v : Word) (mismatch : Bool)
     (h : s0.Keeps s) : s0.Keeps (State.chkApply s n op v mismatch) := by
  unfold State.chkApply
  try dsimp only
  repeat' (first | with_reducible assumption | intro _ | with_reducible apply State.Keeps.foldl |
                 with_reducible apply State.chkWriteData_keeps | with_reducible apply State.setChkUnit_keeps |
                 with_reducible apply State.setReg_keeps | simp only [State.Keeps.mk1] | simp only [State.Keeps.mk2] |
                 simp only [State.Keeps.mk3] | split)

theorem State.chkWrite_keeps {s0 : State} (s : State) (n : Nat) (who : Who) (op : ChkOp) (v : Word) (mismatch : Bool)
     (h : s0.Keeps s) : s0.Keeps (State.chkWrite s n who op v mismatch) := by
  unfold State.chkWrite
  try dsimp only
  repeat' (first | with_reducible assumption | intro _ | with_reducible apply State.Keeps.foldl |
                 with_reducible apply State.gated_keeps | with_reducible apply State.setChkUnit_keeps |
                 with_reducible apply State.chkApply_keeps | simp only [State.Keeps.mk1] | simp only [State.Keeps.mk2] |
                 simp only [State.Keeps.mk3] | split)

theorem chkData8_keeps {s0 : State} (unit : Nat) (who : Who) (value : Word) (mismatch : Bool) (s : State)
     (h : s0.Keeps s) : s0.Keeps (chkData8 unit who value mismatch s) := by
  unfold chkData8
  try dsimp only
  repeat' (first | with_reducible assumption | intro _ | with_reducible apply State.Keeps.foldl |
                 with_reducible apply State.chkWrite_keeps | simp only [State.Keeps.mk1] | simp only [State.Keeps.mk2] |
                 simp only [State.Keeps.mk3] | split)

theorem chkHostmaskWrite_keeps {s0 : State} (who : Who) (value : Word) (s : State)
     (h : s0.Keeps s) : s0.Keeps (chkHostmaskWrite who value s) := by
  unfold chkHostmaskWrite
  try dsimp only
  repeat' (first | with_reducible assumption | intro _ | with_reducible apply State.Keeps.foldl |
                 with_reducible apply State.gated_keeps | with_reducible apply State.store_keeps | simp only [State.Keeps.mk1] |
                 simp only [State.Keeps.mk2] | simp only [State.Keeps.mk3] | split)

theorem chkStateLoRead_keeps {s0 : State} (unit : Nat) (who : Who) (s : State)
     (h : s0.Keeps s) : s0.Keeps (chkStateLoRead unit who s) := by
  unfold chkStateLoRead
  try dsimp only
  repeat' (first | with_reducible assumption | intro _ | with_reducible apply State.Keeps.foldl |
                 with_reducible apply State.returns_keeps | with_reducible apply State.setReg_keeps | simp only [State.Keeps.mk1] |
                 simp only [State.Keeps.mk2] | simp only [State.Keeps.mk3] | split)

theorem chkResultLoRead_keeps {s0 : State} (unit : Nat) (who : Who) (s : State)
     (h : s0.Keeps s) : s0.Keeps (chkResultLoRead unit who s) := by
  unfold chkResultLoRead
  try dsimp only
  repeat' (first | with_reducible assumption | intro _ | with_reducible apply State.Keeps.foldl |
                 with_reducible apply State.returns_keeps | with_reducible apply State.setReg_keeps | simp only [State.Keeps.mk1] |
                 simp only [State.Keeps.mk2] | simp only [State.Keeps.mk3] | split)

theorem chkData32_keeps {s0 : State} (unit : Nat) (who : Who) (value : Word) (mismatch : Bool) (s : State)
     (h : s0.Keeps s) : s0.Keeps (chkData32 unit who value mismatch s) := by
  unfold chkData32
  try dsimp only
  repeat' (first | with_reducible assumption | intro _ | with_reducible apply State.Keeps.foldl |
                 with_reducible apply State.chkWrite_keeps | simp only [State.Keeps.mk1] | simp only [State.Keeps.mk2] |
                 simp only [State.Keeps.mk3] | split)

theorem chkCfgWrite_keeps {s0 : State} (unit : Nat) (op : ChkOp) (who : Who) (value : Word) (s : State)
     (h : s0.Keeps s) : s0.Keeps (chkCfgWrite unit op who value s) := by
  unfold chkCfgWrite
  try dsimp only
  repeat' (first | with_reducible assumption | intro _ | with_reducible apply State.Keeps.foldl |
                 with_reducible apply State.chkWrite_keeps | simp only [State.Keeps.mk1] | simp only [State.Keeps.mk2] |
                 simp only [State.Keeps.mk3] | split)

theorem chkHostWriteResume_keeps {s0 : State} (unit : Nat) (mismatch : Bool) (s : State)
     (h : s0.Keeps s) : s0.Keeps (chkHostWriteResume unit mismatch s) := by
  unfold chkHostWriteResume
  try dsimp only
  repeat' (first | with_reducible assumption | intro _ | with_reducible apply State.Keeps.foldl |
                 with_reducible apply State.chkApply_keeps | with_reducible apply State.setChkUnit_keeps |
                 simp only [State.Keeps.mk1] | simp only [State.Keeps.mk2] | simp only [State.Keeps.mk3] | split)

theorem chkData16_keeps {s0 : State} (unit : Nat) (who : Who) (value : Word) (mismatch : Bool) (s : State)
     (h : s0.Keeps s) : s0.Keeps (chkData16 unit who value mismatch s) := by
  unfold chkData16
  try dsimp only
  repeat' (first | with_reducible assumption | intro _ | with_reducible apply State.Keeps.foldl |
                 with_reducible apply State.chkWrite_keeps | simp only [State.Keeps.mk1] | simp only [State.Keeps.mk2] |
                 simp only [State.Keeps.mk3] | split)

theorem chkFeed_keeps {s0 : State} (call : Nat) (mismatch : Option Nat) (s : State)
     (h : s0.Keeps s) : s0.Keeps (chkFeed call mismatch s) := by
  unfold chkFeed
  try dsimp only
  repeat' (first | with_reducible assumption | intro _ | with_reducible apply State.Keeps.foldl |
                 with_reducible apply State.onCall_keeps | with_reducible apply State.setChkUnit_keeps |
                 with_reducible apply State.endCall_keeps | with_reducible apply State.chkMismatch_keeps |
                 with_reducible apply State.endCallWith_keeps | simp only [State.Keeps.mk1] | simp only [State.Keeps.mk2] |
                 simp only [State.Keeps.mk3] | split)

theorem chkStateWrite_keeps {s0 : State} (unit : Nat) (hi : Bool) (who : Who) (value : Word) (s : State)
     (h : s0.Keeps s) : s0.Keeps (chkStateWrite unit hi who value s) := by
  unfold chkStateWrite
  try dsimp only
  repeat' (first | with_reducible assumption | intro _ | with_reducible apply State.Keeps.foldl |
                 with_reducible apply State.chkWrite_keeps | simp only [State.Keeps.mk1] | simp only [State.Keeps.mk2] |
                 simp only [State.Keeps.mk3] | split)

theorem chkInit_keeps {s0 : State} (unit : Nat) (who : Who) (value : Word) (s : State)
     (h : s0.Keeps s) : s0.Keeps (chkInit unit who value s) := by
  unfold chkInit
  try dsimp only
  repeat' (first | with_reducible assumption | intro _ | with_reducible apply State.Keeps.foldl |
                 with_reducible apply State.chkWrite_keeps | simp only [State.Keeps.mk1] | simp only [State.Keeps.mk2] |
                 simp only [State.Keeps.mk3] | split)

end Sys2Proof.Machine
end

