-- ==== Sys2Proof/Laws/Keeps/CompassUnit.lean ====
section
/-! SUPPORT. What no function of Machine/CompassUnit.lean undoes (State.Keeps). -/

namespace Sys2Proof.Machine

open Sys2Proof

set_option linter.unreachableTactic false
set_option linter.unusedTactic false

theorem State.noteSourceChange_keeps {s0 : State} (s : State) (h : s0.Keeps s) : s0.Keeps (State.noteSourceChange s) := by
  unfold State.noteSourceChange
  try dsimp only
  repeat' (first | with_reducible assumption | intro _ | with_reducible apply State.Keeps.foldl |
                 with_reducible apply State.event_keeps | with_reducible apply State.setFld_keeps | simp only [State.Keeps.mk1] |
                 simp only [State.Keeps.mk2] | simp only [State.Keeps.mk3] | split)

theorem State.relaxLimit_keeps {s0 : State} (s : State) (h : s0.Keeps s) : s0.Keeps (State.relaxLimit s) := by
  unfold State.relaxLimit
  try dsimp only
  repeat' (first | with_reducible assumption | intro _ | with_reducible apply State.Keeps.foldl | simp only [State.Keeps.mk1] |
                 simp only [State.Keeps.mk2] | simp only [State.Keeps.mk3] | split)

theorem State.measure_keeps {s0 : State} (s : State) (o : Int) (h : s0.Keeps s) : s0.Keeps (State.measure s o) := by
  unfold State.measure
  try dsimp only
  repeat' (first | with_reducible assumption | intro _ | with_reducible apply State.Keeps.foldl |
                 with_reducible apply State.event_keeps | with_reducible apply State.setFld_keeps |
                 with_reducible apply State.relaxLimit_keeps | simp only [State.Keeps.mk1] | simp only [State.Keeps.mk2] |
                 simp only [State.Keeps.mk3] | split)

theorem State.follow_keeps {s0 : State} (s : State) (o : Int) (h : s0.Keeps s) : s0.Keeps (State.follow s o) := by
  unfold State.follow
  try dsimp only
  repeat' (first | with_reducible assumption | intro _ | with_reducible apply State.Keeps.foldl |
                 with_reducible apply State.noteSourceChange_keeps | with_reducible apply State.measure_keeps |
                 simp only [State.Keeps.mk1] | simp only [State.Keeps.mk2] | simp only [State.Keeps.mk3] | split)

theorem State.setQualified_keeps {s0 : State} (s : State) (src : Nat) (b : Bool)
     (h : s0.Keeps s) : s0.Keeps (State.setQualified s src b) := by
  unfold State.setQualified
  try dsimp only
  repeat' (first | with_reducible assumption | intro _ | with_reducible apply State.Keeps.foldl | simp only [State.Keeps.mk1] |
                 simp only [State.Keeps.mk2] | simp only [State.Keeps.mk3] | split)

theorem sourceLost_keeps {s0 : State} (src : Nat) (offsetNs : Int) (s : State)
     (h : s0.Keeps s) : s0.Keeps (sourceLost src offsetNs s) := by
  unfold sourceLost
  try dsimp only
  repeat' (first | with_reducible assumption | intro _ | with_reducible apply State.Keeps.foldl |
                 with_reducible apply State.follow_keeps | with_reducible apply State.setQualified_keeps |
                 simp only [State.Keeps.mk1] | simp only [State.Keeps.mk2] | simp only [State.Keeps.mk3] | split)

theorem State.setStepBy_keeps {s0 : State} (s : State) (who : Who) (value : Word)
     (h : s0.Keeps s) : s0.Keeps (State.setStepBy s who value) := by
  unfold State.setStepBy
  try dsimp only
  repeat' (first | with_reducible assumption | intro _ | with_reducible apply State.Keeps.foldl |
                 with_reducible apply State.gated_keeps | with_reducible apply State.setFld_keeps |
                 with_reducible apply State.event_keeps | simp only [State.Keeps.mk1] | simp only [State.Keeps.mk2] |
                 simp only [State.Keeps.mk3] | split)

theorem State.setPpsBy_keeps {s0 : State} (s : State) (who : Who) (value : Word)
     (h : s0.Keeps s) : s0.Keeps (State.setPpsBy s who value) := by
  unfold State.setPpsBy
  try dsimp only
  repeat' (first | with_reducible assumption | intro _ | with_reducible apply State.Keeps.foldl |
                 with_reducible apply State.gated_keeps | with_reducible apply State.setFld_keeps | simp only [State.Keeps.mk1] |
                 simp only [State.Keeps.mk2] | simp only [State.Keeps.mk3] | split)

theorem cmpSetPps_keeps {s0 : State} (value : Word) (s : State) (h : s0.Keeps s) : s0.Keeps (cmpSetPps value s) := by
  unfold cmpSetPps
  try dsimp only
  repeat' (first | with_reducible assumption | intro _ | with_reducible apply State.Keeps.foldl |
                 with_reducible apply State.setPpsBy_keeps | simp only [State.Keeps.mk1] | simp only [State.Keeps.mk2] |
                 simp only [State.Keeps.mk3] | split)

theorem State.noteValid_keeps {s0 : State} (s : State) (src : Nat) (h : s0.Keeps s) : s0.Keeps (State.noteValid s src) := by
  unfold State.noteValid
  try dsimp only
  repeat' (first | with_reducible assumption | intro _ | with_reducible apply State.Keeps.foldl | simp only [State.Keeps.mk1] |
                 simp only [State.Keeps.mk2] | simp only [State.Keeps.mk3] | split)

theorem cmpShortSRead_keeps {s0 : State} (s : State) (h : s0.Keeps s) : s0.Keeps (cmpShortSRead s) := by
  unfold cmpShortSRead
  try dsimp only
  repeat' (first | with_reducible assumption | intro _ | with_reducible apply State.Keeps.foldl |
                 with_reducible apply State.returns_keeps | with_reducible apply State.setReg_keeps | simp only [State.Keeps.mk1] |
                 simp only [State.Keeps.mk2] | simp only [State.Keeps.mk3] | split)

theorem ppsSetTimeout_keeps {s0 : State} (s : State) (h : s0.Keeps s) : s0.Keeps (ppsSetTimeout s) := by
  unfold ppsSetTimeout
  try dsimp only
  repeat' (first | with_reducible assumption | intro _ | with_reducible apply State.Keeps.foldl |
                 with_reducible apply State.setFld_keeps | simp only [State.Keeps.mk1] | simp only [State.Keeps.mk2] |
                 simp only [State.Keeps.mk3] | split)

theorem framSecondsWrite_keeps {s0 : State} (s : State) (h : s0.Keeps s) : s0.Keeps (framSecondsWrite s) := by
  unfold framSecondsWrite
  try dsimp only
  repeat' (first | with_reducible assumption | intro _ | with_reducible apply State.Keeps.foldl | simp only [State.Keeps.mk1] |
                 simp only [State.Keeps.mk2] | simp only [State.Keeps.mk3] | split)

theorem ppsInEdge_keeps {s0 : State} (s : State) (h : s0.Keeps s) : s0.Keeps (ppsInEdge s) := by
  unfold ppsInEdge
  try dsimp only
  repeat' (first | with_reducible assumption | intro _ | with_reducible apply State.Keeps.foldl |
                 with_reducible apply State.setFld_keeps | with_reducible apply State.noteValid_keeps |
                 with_reducible apply State.measure_keeps | simp only [State.Keeps.mk1] | simp only [State.Keeps.mk2] |
                 simp only [State.Keeps.mk3] | split)

theorem holdoverLimit_keeps {s0 : State} (s : State) (h : s0.Keeps s) : s0.Keeps (holdoverLimit s) := by
  unfold holdoverLimit
  try dsimp only
  repeat' (first | with_reducible assumption | intro _ | with_reducible apply State.Keeps.foldl |
                 with_reducible apply State.setFld_keeps | with_reducible apply State.bumpDetection_keeps |
                 with_reducible apply State.event_keeps | simp only [State.Keeps.mk1] | simp only [State.Keeps.mk2] |
                 simp only [State.Keeps.mk3] | split)

theorem cmpZctSRead_keeps {s0 : State} (s : State) (h : s0.Keeps s) : s0.Keeps (cmpZctSRead s) := by
  unfold cmpZctSRead
  try dsimp only
  repeat' (first | with_reducible assumption | intro _ | with_reducible apply State.Keeps.foldl |
                 with_reducible apply State.returns_keeps | with_reducible apply State.setReg_keeps | simp only [State.Keeps.mk1] |
                 simp only [State.Keeps.mk2] | simp only [State.Keeps.mk3] | split)

theorem ptpMessage_keeps {s0 : State} (port : Nat) (offsetNs : Int) (taiUtc : Option Nat) (s : State)
     (h : s0.Keeps s) : s0.Keeps (ptpMessage port offsetNs taiUtc s) := by
  unfold ptpMessage
  try dsimp only
  repeat' (first | with_reducible assumption | intro _ | with_reducible apply State.Keeps.foldl |
                 with_reducible apply State.noteValid_keeps | with_reducible apply State.measure_keeps |
                 with_reducible apply State.setFld_keeps | simp only [State.Keeps.mk1] | simp only [State.Keeps.mk2] |
                 simp only [State.Keeps.mk3] | split)

theorem sourceQualify_keeps {s0 : State} (src : Nat) (offsetNs : Int) (tai : Bool) (s : State)
     (h : s0.Keeps s) : s0.Keeps (sourceQualify src offsetNs tai s) := by
  unfold sourceQualify
  try dsimp only
  repeat' (first | with_reducible assumption | intro _ | with_reducible apply State.Keeps.foldl |
                 with_reducible apply State.follow_keeps | with_reducible apply State.setQualified_keeps |
                 simp only [State.Keeps.mk1] | simp only [State.Keeps.mk2] | simp only [State.Keeps.mk3] | split)

theorem State.setCmpNs_keeps {s0 : State} (s : State) (t : Nat) (h : s0.Keeps s) : s0.Keeps (State.setCmpNs s t) := by
  unfold State.setCmpNs
  try dsimp only
  repeat' (first | with_reducible assumption | intro _ | with_reducible apply State.Keeps.foldl | simp only [State.Keeps.mk1] |
                 simp only [State.Keeps.mk2] | simp only [State.Keeps.mk3] | split)

theorem compassStep_keeps {s0 : State} (s : State) (h : s0.Keeps s) : s0.Keeps (compassStep s) := by
  unfold compassStep
  try dsimp only
  repeat' (first | with_reducible assumption | intro _ | with_reducible apply State.Keeps.foldl |
                 with_reducible apply State.setFld_keeps | with_reducible apply State.setCmpNs_keeps |
                 with_reducible apply State.event_keeps | simp only [State.Keeps.mk1] | simp only [State.Keeps.mk2] |
                 simp only [State.Keeps.mk3] | split)

theorem cmpSetStep_keeps {s0 : State} (value : Word) (s : State) (h : s0.Keeps s) : s0.Keeps (cmpSetStep value s) := by
  unfold cmpSetStep
  try dsimp only
  repeat' (first | with_reducible assumption | intro _ | with_reducible apply State.Keeps.foldl |
                 with_reducible apply State.setStepBy_keeps | simp only [State.Keeps.mk1] | simp only [State.Keeps.mk2] |
                 simp only [State.Keeps.mk3] | split)

theorem idle_keeps {s0 : State} (s : State) (h : s0.Keeps s) : s0.Keeps (idle s) := by
  unfold idle
  try dsimp only
  repeat' (first | with_reducible assumption | intro _ | with_reducible apply State.Keeps.foldl |
                 with_reducible apply State.drew_keeps | with_reducible apply State.setCmpNs_keeps | simp only [State.Keeps.mk1] |
                 simp only [State.Keeps.mk2] | simp only [State.Keeps.mk3] | split)

theorem ppsOutPulse_keeps {s0 : State} (level : Bool) (s : State) (h : s0.Keeps s) : s0.Keeps (ppsOutPulse level s) := by
  unfold ppsOutPulse
  try dsimp only
  repeat' (first | with_reducible assumption | intro _ | with_reducible apply State.Keeps.foldl | simp only [State.Keeps.mk1] |
                 simp only [State.Keeps.mk2] | simp only [State.Keeps.mk3] | split)

end Sys2Proof.Machine
end

