-- ==== Sys2Proof/Laws/Keeps/FeederBase.lean ====
section
/-! SUPPORT. What no function of Machine/FeederBase.lean undoes (State.Keeps). -/

namespace Sys2Proof.Machine

open Sys2Proof

set_option linter.unreachableTactic false
set_option linter.unusedTactic false

theorem State.notePort_keeps {s0 : State} (s : State) (a : Nat) (port : Option Nat)
     (h : s0.Keeps s) : s0.Keeps (State.notePort s a port) := by
  unfold State.notePort
  try dsimp only
  repeat' (first | with_reducible assumption | intro _ | with_reducible apply State.Keeps.foldl | simp only [State.Keeps.mk1] |
                 simp only [State.Keeps.mk2] | simp only [State.Keeps.mk3] | split)

theorem State.postVotes_keeps {s0 : State} (s : State) (a : Nat) (votes : List Nat) (always : Bool)
     (h : s0.Keeps s) : s0.Keeps (State.postVotes s a votes always) := by
  unfold State.postVotes
  try dsimp only
  repeat' (first | with_reducible assumption | intro _ | with_reducible apply State.Keeps.foldl |
                 with_reducible apply State.finding_keeps | simp only [State.Keeps.mk1] | simp only [State.Keeps.mk2] |
                 simp only [State.Keeps.mk3] | split)

theorem State.updateVotes_keeps {s0 : State} (s : State) (a : Nat) (h : s0.Keeps s) : s0.Keeps (State.updateVotes s a) := by
  unfold State.updateVotes
  try dsimp only
  repeat' (first | with_reducible assumption | intro _ | with_reducible apply State.Keeps.foldl |
                 with_reducible apply State.postVotes_keeps | with_reducible apply State.setNode_keeps | simp only [State.Keeps.mk1] |
                 simp only [State.Keeps.mk2] | simp only [State.Keeps.mk3] | split)

end Sys2Proof.Machine
end

