-- ==== Sys2Proof/Laws/Keeps/GuyBase.lean ====
section
/-! SUPPORT. What no function of Machine/GuyBase.lean undoes (State.Keeps). -/

namespace Sys2Proof.Machine

open Sys2Proof

set_option linter.unreachableTactic false
set_option linter.unusedTactic false

theorem State.takeMseq_keeps {s0 : State} (s : State) (h : s0.Keeps s) : s0.Keeps (State.takeMseq s) := by
  unfold State.takeMseq
  try dsimp only
  repeat' (first | with_reducible assumption | intro _ | with_reducible apply State.Keeps.foldl | simp only [State.Keeps.mk1] |
                 simp only [State.Keeps.mk2] | simp only [State.Keeps.mk3] | split)

theorem State.ckLinks_keeps {s0 : State} (s : State) (l : Nat) (h : s0.Keeps s) : s0.Keeps (State.ckLinks s l) := by
  unfold State.ckLinks
  try dsimp only
  repeat' (first | with_reducible assumption | intro _ | with_reducible apply State.Keeps.foldl |
                 with_reducible apply State.submit_keeps | simp only [State.Keeps.mk1] | simp only [State.Keeps.mk2] |
                 simp only [State.Keeps.mk3] | split)

theorem State.glSend_keeps {s0 : State} (s : State) (l : Nat) (f : GFrame) (h : s0.Keeps s) : s0.Keeps (State.glSend s l f) := by
  unfold State.glSend
  try dsimp only
  repeat' (first | with_reducible assumption | intro _ | with_reducible apply State.Keeps.foldl |
                 with_reducible apply State.ckLinks_keeps | simp only [State.Keeps.mk1] | simp only [State.Keeps.mk2] |
                 simp only [State.Keeps.mk3] | split)

theorem State.setGlQueue_keeps {s0 : State} (s : State) (l : Nat) (credits : Nat) (q : List GFrame)
     (h : s0.Keeps s) : s0.Keeps (State.setGlQueue s l credits q) := by
  unfold State.setGlQueue
  try dsimp only
  repeat' (first | with_reducible assumption | intro _ | with_reducible apply State.Keeps.foldl | simp only [State.Keeps.mk1] |
                 simp only [State.Keeps.mk2] | simp only [State.Keeps.mk3] | split)

theorem State.glFlush_keeps {s0 : State} (s : State) (l : Nat) (x2 : Nat) (h : s0.Keeps s) : s0.Keeps (State.glFlush s l x2) := by
  induction x2 generalizing s l with
  | zero =>
    unfold State.glFlush
    try dsimp only
    repeat' (first | with_reducible assumption | intro _ | with_reducible apply State.Keeps.foldl | with_reducible apply ih |
                   with_reducible apply State.glSend_keeps | with_reducible apply State.setGlQueue_keeps |
                   simp only [State.Keeps.mk1] | simp only [State.Keeps.mk2] | simp only [State.Keeps.mk3] | split)
  | succ _ ih =>
    unfold State.glFlush
    try dsimp only
    repeat' (first | with_reducible assumption | intro _ | with_reducible apply State.Keeps.foldl | with_reducible apply ih |
                   with_reducible apply State.glSend_keeps | with_reducible apply State.setGlQueue_keeps |
                   simp only [State.Keeps.mk1] | simp only [State.Keeps.mk2] | simp only [State.Keeps.mk3] | split)

theorem State.glEmit_keeps {s0 : State} (s : State) (l : Nat) (f : GFrame) (h : s0.Keeps s) : s0.Keeps (State.glEmit s l f) := by
  unfold State.glEmit
  try dsimp only
  repeat' (first | with_reducible assumption | intro _ | with_reducible apply State.Keeps.foldl |
                 with_reducible apply State.glSend_keeps | with_reducible apply State.glFlush_keeps |
                 with_reducible apply State.setGlQueue_keeps | simp only [State.Keeps.mk1] | simp only [State.Keeps.mk2] |
                 simp only [State.Keeps.mk3] | split)

theorem State.keepMsg_keeps {s0 : State} (s : State) (link : Option Nat) (dst : Nat) (m : GMsg)
     (h : s0.Keeps s) : s0.Keeps (State.keepMsg s link dst m) := by
  unfold State.keepMsg
  try dsimp only
  repeat' (first | with_reducible assumption | intro _ | with_reducible apply State.Keeps.foldl | simp only [State.Keeps.mk1] |
                 simp only [State.Keeps.mk2] | simp only [State.Keeps.mk3] | split)

theorem State.glControlOn_keeps {s0 : State} (s : State) (l : Nat) (dst : Nat) (m : GMsg)
     (h : s0.Keeps s) : s0.Keeps (State.glControlOn s l dst m) := by
  unfold State.glControlOn
  try dsimp only
  repeat' (first | with_reducible assumption | intro _ | with_reducible apply State.Keeps.foldl |
                 with_reducible apply State.takeMseq_keeps | with_reducible apply State.glEmit_keeps |
                 with_reducible apply State.keepMsg_keeps | simp only [State.Keeps.mk1] | simp only [State.Keeps.mk2] |
                 simp only [State.Keeps.mk3] | split)

theorem State.dropPeers_keeps {s0 : State} (s : State) (l : Nat) (h : s0.Keeps s) : s0.Keeps (State.dropPeers s l) := by
  unfold State.dropPeers
  try dsimp only
  repeat' (first | with_reducible assumption | intro _ | with_reducible apply State.Keeps.foldl | simp only [State.Keeps.mk1] |
                 simp only [State.Keeps.mk2] | simp only [State.Keeps.mk3] | split)

theorem State.setLink_keeps {s0 : State} (s : State) (l : Nat) (st : Nat) (h : s0.Keeps s) : s0.Keeps (State.setLink s l st) := by
  unfold State.setLink
  try dsimp only
  repeat' (first | with_reducible assumption | intro _ | with_reducible apply State.Keeps.foldl | simp only [State.Keeps.mk1] |
                 simp only [State.Keeps.mk2] | simp only [State.Keeps.mk3] | split)

theorem State.glEmitAll_keeps {s0 : State} (s : State) (f : GFrame) (x2 : List Nat)
     (h : s0.Keeps s) : s0.Keeps (State.glEmitAll s f x2) := by
  induction x2 generalizing s f with
  | nil =>
    unfold State.glEmitAll
    try dsimp only
    repeat' (first | with_reducible assumption | intro _ | with_reducible apply State.Keeps.foldl | with_reducible apply ih |
                   with_reducible apply State.glEmit_keeps | simp only [State.Keeps.mk1] | simp only [State.Keeps.mk2] |
                   simp only [State.Keeps.mk3] | (split <;> try (rename_i hq; injection hq with hq1 hq2; subst hq1; subst hq2)))
  | cons _ _ ih =>
    unfold State.glEmitAll
    try dsimp only
    repeat' (first | with_reducible assumption | intro _ | with_reducible apply State.Keeps.foldl | with_reducible apply ih |
                   with_reducible apply State.glEmit_keeps | simp only [State.Keeps.mk1] | simp only [State.Keeps.mk2] |
                   simp only [State.Keeps.mk3] | (split <;> try (rename_i hq; injection hq with hq1 hq2; subst hq1; subst hq2)))

theorem State.glRoute_keeps {s0 : State} (s : State) (from_ : Option Nat) (f : GFrame)
     (h : s0.Keeps s) : s0.Keeps (State.glRoute s from_ f) := by
  unfold State.glRoute
  try dsimp only
  repeat' (first | with_reducible assumption | intro _ | with_reducible apply State.Keeps.foldl |
                 with_reducible apply State.glEmitAll_keeps | with_reducible apply State.glEmit_keeps |
                 with_reducible apply State.setFld_keeps | simp only [State.Keeps.mk1] | simp only [State.Keeps.mk2] |
                 simp only [State.Keeps.mk3] | split)

theorem State.glControl_keeps {s0 : State} (s : State) (dst : Nat) (m : GMsg) (h : s0.Keeps s) : s0.Keeps (State.glControl s dst m) := by
  unfold State.glControl
  try dsimp only
  repeat' (first | with_reducible assumption | intro _ | with_reducible apply State.Keeps.foldl |
                 with_reducible apply State.takeMseq_keeps | with_reducible apply State.glRoute_keeps |
                 with_reducible apply State.keepMsg_keeps | simp only [State.Keeps.mk1] | simp only [State.Keeps.mk2] |
                 simp only [State.Keeps.mk3] | split)

theorem State.glTraffic_keeps {s0 : State} (s : State) (dst : Nat) (m : GMsg) (h : s0.Keeps s) : s0.Keeps (State.glTraffic s dst m) := by
  unfold State.glTraffic
  try dsimp only
  repeat' (first | with_reducible assumption | intro _ | with_reducible apply State.Keeps.foldl |
                 with_reducible apply State.glRoute_keeps | simp only [State.Keeps.mk1] | simp only [State.Keeps.mk2] |
                 simp only [State.Keeps.mk3] | split)

theorem State.setPeer_keeps {s0 : State} (s : State) (l : Nat) (p : GPeer) (h : s0.Keeps s) : s0.Keeps (State.setPeer s l p) := by
  unfold State.setPeer
  try dsimp only
  repeat' (first | with_reducible assumption | intro _ | with_reducible apply State.Keeps.foldl | simp only [State.Keeps.mk1] |
                 simp only [State.Keeps.mk2] | simp only [State.Keeps.mk3] | split)

theorem State.glGrant_keeps {s0 : State} (s : State) (l : Nat) (n : Nat) (h : s0.Keeps s) : s0.Keeps (State.glGrant s l n) := by
  unfold State.glGrant
  try dsimp only
  repeat' (first | with_reducible assumption | intro _ | with_reducible apply State.Keeps.foldl |
                 with_reducible apply State.glFlush_keeps | with_reducible apply State.setGlQueue_keeps | simp only [State.Keeps.mk1] |
                 simp only [State.Keeps.mk2] | simp only [State.Keeps.mk3] | split)

theorem State.glDrop_keeps {s0 : State} (s : State) (h : s0.Keeps s) : s0.Keeps (State.glDrop s) := by
  unfold State.glDrop
  try dsimp only
  repeat' (first | with_reducible assumption | intro _ | with_reducible apply State.Keeps.foldl |
                 with_reducible apply State.bumpFld_keeps | simp only [State.Keeps.mk1] | simp only [State.Keeps.mk2] |
                 simp only [State.Keeps.mk3] | split)

theorem State.keyLink_keeps {s0 : State} (s : State) (link : Nat) (p : GPeer) (above : Bool)
     (h : s0.Keeps s) : s0.Keeps (State.keyLink s link p above) := by
  unfold State.keyLink
  try dsimp only
  repeat' (first | with_reducible assumption | intro _ | with_reducible apply State.Keeps.foldl | simp only [State.Keeps.mk1] |
                 simp only [State.Keeps.mk2] | simp only [State.Keeps.mk3] | split)

end Sys2Proof.Machine
end

