-- ==== Sys2Proof/Laws/Keeps/Measure.lean ====
section
/-! SUPPORT. What no function of Machine/Measure.lean undoes (State.Keeps). -/

namespace Sys2Proof.Machine

open Sys2Proof

set_option linter.unreachableTactic false
set_option linter.unusedTactic false

theorem State.updateRec_keeps {s0 : State} (s : State) (x : Recep) (f : RxFrame) (h : s0.Keeps s) :
    s0.Keeps (State.updateRec s x f) := by
  unfold State.updateRec
  split
  · exact h
  · split
    · extract_lets r r1 s1
      clear_value r1
      have h1 : s0.Keeps s1 := State.setRec_keeps _ _ _ (State.drew_keeps _ h)
      split
      · exact State.phaseChange_keeps _ _ _ h1
      · exact h1
    · exact h

end Sys2Proof.Machine
end

