-- ==== Sys2Proof/Laws/Keeps/Receive.lean ====
section
/-! SUPPORT. What no function of Machine/Receive.lean undoes (State.Keeps). -/

namespace Sys2Proof.Machine

open Sys2Proof

set_option linter.unreachableTactic false
set_option linter.unusedTactic false

theorem State.setHarq_keeps {s0 : State} (s : State) (k : Nat) (x2 : Option Harq) (h : s0.Keeps s) : s0.Keeps (State.setHarq s k x2) := by
  unfold State.setHarq
  try dsimp only
  repeat' (first | with_reducible assumption | intro _ | with_reducible apply State.Keeps.foldl | simp only [State.Keeps.mk1] |
                 simp only [State.Keeps.mk2] | simp only [State.Keeps.mk3] | split)

theorem State.fitHarq_keeps {s0 : State} (s : State) (x1 : Nat) (h : s0.Keeps s) : s0.Keeps (State.fitHarq s x1) := by
  induction x1 generalizing s with
  | zero =>
    unfold State.fitHarq
    try dsimp only
    repeat' (first | with_reducible assumption | intro _ | with_reducible apply State.Keeps.foldl | with_reducible apply ih |
                   with_reducible apply State.setHarq_keeps | simp only [State.Keeps.mk1] | simp only [State.Keeps.mk2] |
                   simp only [State.Keeps.mk3] | split)
  | succ _ ih =>
    unfold State.fitHarq
    try dsimp only
    repeat' (first | with_reducible assumption | intro _ | with_reducible apply State.Keeps.foldl | with_reducible apply ih |
                   with_reducible apply State.setHarq_keeps | simp only [State.Keeps.mk1] | simp only [State.Keeps.mk2] |
                   simp only [State.Keeps.mk3] | split)

theorem State.stdAccept_keeps {s0 : State} (s : State) (r : Recep) (f : RxFrame) (h : s0.Keeps s) : s0.Keeps (State.stdAccept s r f) := by
  unfold State.stdAccept
  try dsimp only
  repeat' (first | with_reducible assumption | intro _ | with_reducible apply State.Keeps.foldl |
                 with_reducible apply State.toHost_keeps | with_reducible apply State.joinStandard_keeps |
                 simp only [State.Keeps.mk1] | simp only [State.Keeps.mk2] | simp only [State.Keeps.mk3] | split)

theorem State.harqKeep_keeps {s0 : State} (s : State) (r : Recep) (f : RxFrame) (h : s0.Keeps s) : s0.Keeps (State.harqKeep s r f) := by
  unfold State.harqKeep
  try dsimp only
  repeat' (first | with_reducible assumption | intro _ | with_reducible apply State.Keeps.foldl |
                 with_reducible apply State.setHarq_keeps | with_reducible apply State.fitHarq_keeps | simp only [State.Keeps.mk1] |
                 simp only [State.Keeps.mk2] | simp only [State.Keeps.mk3] | split)

theorem State.harqDrop_keeps {s0 : State} (s : State) (r : Recep) (f : RxFrame) (h : s0.Keeps s) : s0.Keeps (State.harqDrop s r f) := by
  unfold State.harqDrop
  try dsimp only
  repeat' (first | with_reducible assumption | intro _ | with_reducible apply State.Keeps.foldl |
                 with_reducible apply State.setHarq_keeps | simp only [State.Keeps.mk1] | simp only [State.Keeps.mk2] |
                 simp only [State.Keeps.mk3] | split)

theorem State.cover_keeps {s0 : State} (s : State) (r : Recep) (h : s0.Keeps s) : s0.Keeps (State.cover s r) := by
  unfold State.cover
  try dsimp only
  repeat' (first | with_reducible assumption | intro _ | with_reducible apply State.Keeps.foldl | simp only [State.Keeps.mk1] |
                 simp only [State.Keeps.mk2] | simp only [State.Keeps.mk3] | split)

theorem State.countFound_keeps {s0 : State} (s : State) (r : Recep) (h : s0.Keeps s) : s0.Keeps (State.countFound s r) := by
  unfold State.countFound
  try dsimp only
  repeat' (first | with_reducible assumption | intro _ | with_reducible apply State.Keeps.foldl | simp only [State.Keeps.mk1] |
                 simp only [State.Keeps.mk2] | simp only [State.Keeps.mk3] | split)

theorem State.forwardOn_keeps {s0 : State} (s : State) (x1 : HandOut) (f : RxFrame) (line : Stamp)
     (h : s0.Keeps s) : s0.Keeps (State.forwardOn s x1 f line) := by
  unfold State.forwardOn
  try dsimp only
  repeat' (first | with_reducible assumption | intro _ | with_reducible apply State.Keeps.foldl |
                 with_reducible apply State.glTraffic_keeps | simp only [State.Keeps.mk1] | simp only [State.Keeps.mk2] |
                 simp only [State.Keeps.mk3] | split)

theorem State.judgePackets_keeps {s0 : State} (s : State) (r : Recep) (f : RxFrame) (late : Bool) (x4 : List Packet)
     (h : s0.Keeps s) : s0.Keeps (State.judgePackets s r f late x4).1 := by
  induction x4 generalizing s r f late with
  | nil =>
    unfold State.judgePackets
    try dsimp only
    repeat' (first | with_reducible assumption | intro _ | with_reducible apply State.Keeps.foldl | with_reducible apply ih |
                   with_reducible apply State.judgeFrame_keeps | simp only [State.Keeps.mk1] | simp only [State.Keeps.mk2] |
                   simp only [State.Keeps.mk3] | (split <;> try (rename_i hq; injection hq with hq1 hq2; subst hq1; subst hq2)))
  | cons _ _ ih =>
    unfold State.judgePackets
    try dsimp only
    repeat' (first | with_reducible assumption | intro _ | with_reducible apply State.Keeps.foldl | with_reducible apply ih |
                   with_reducible apply State.judgeFrame_keeps | simp only [State.Keeps.mk1] | simp only [State.Keeps.mk2] |
                   simp only [State.Keeps.mk3] | (split <;> try (rename_i hq; injection hq with hq1 hq2; subst hq1; subst hq2)))

theorem State.enterStream_keeps {s0 : State} (s : State) (r : Recep) (f : RxFrame)
     (h : s0.Keeps s) : s0.Keeps (State.enterStream s r f) := by
  unfold State.enterStream
  try dsimp only
  repeat' (first | with_reducible assumption | intro _ | with_reducible apply State.Keeps.foldl | simp only [State.Keeps.mk1] |
                 simp only [State.Keeps.mk2] | simp only [State.Keeps.mk3] | split)

theorem State.judgeLive_keeps {s0 : State} (s : State) (r : Recep) (f : RxFrame) (late : Bool) (ok : Bool)
     (h : s0.Keeps s) : s0.Keeps (State.judgeLive s r f late ok) := by
  unfold State.judgeLive
  try dsimp only
  repeat' (first | with_reducible assumption | intro _ | with_reducible apply State.Keeps.foldl |
                 with_reducible apply State.judgeUp_keeps | simp only [State.Keeps.mk1] | simp only [State.Keeps.mk2] |
                 simp only [State.Keeps.mk3] | split)

theorem State.heardFrame_keeps {s0 : State} (s : State) (r : Recep) (f : RxFrame) (a : Nat)
     (h : s0.Keeps s) : s0.Keeps (State.heardFrame s r f a) := by
  unfold State.heardFrame
  try dsimp only
  repeat' (first | with_reducible assumption | intro _ | with_reducible apply State.Keeps.foldl |
                 with_reducible apply State.heardOk_keeps | with_reducible apply State.updateRec_keeps |
                 with_reducible apply State.noteGroup_keeps | with_reducible apply State.notePort_keeps |
                 with_reducible apply State.updateVotes_keeps | with_reducible apply State.takeDmap_keeps |
                 with_reducible apply State.takeAcks_keeps | with_reducible apply State.noteAnswer_keeps |
                 simp only [State.Keeps.mk1] | simp only [State.Keeps.mk2] | simp only [State.Keeps.mk3] | split)

theorem State.endStream_keeps {s0 : State} (s : State) (r : Recep) (f : RxFrame) (late : Bool)
     (h : s0.Keeps s) : s0.Keeps (State.endStream s r f late) := by
  unfold State.endStream
  try dsimp only
  repeat' (first | with_reducible assumption | intro _ | with_reducible apply State.Keeps.foldl |
                 with_reducible apply State.judgePackets_keeps | with_reducible apply State.enterStream_keeps |
                 with_reducible apply State.judgeLive_keeps | with_reducible apply State.endRecep_keeps |
                 with_reducible apply State.cover_keeps | with_reducible apply State.countFound_keeps |
                 with_reducible apply State.heardFrame_keeps | with_reducible apply State.setRecep_keeps |
                 simp only [State.Keeps.mk1] | simp only [State.Keeps.mk2] | simp only [State.Keeps.mk3] | split)

theorem State.endOpen_keeps {s0 : State} (s : State) (r : Recep) (f : RxFrame) (late : Bool)
     (h : s0.Keeps s) : s0.Keeps (State.endOpen s r f late) := by
  unfold State.endOpen
  try dsimp only
  repeat' (first | with_reducible assumption | intro _ | with_reducible apply State.Keeps.foldl |
                 with_reducible apply State.oweAck_keeps | with_reducible apply State.endRecep_keeps |
                 with_reducible apply State.cover_keeps | with_reducible apply State.countFound_keeps | simp only [State.Keeps.mk1] |
                 simp only [State.Keeps.mk2] | simp only [State.Keeps.mk3] | split)

theorem State.endOk_keeps {s0 : State} (s : State) (r : Recep) (f : RxFrame) (late : Bool)
     (h : s0.Keeps s) : s0.Keeps (State.endOk s r f late) := by
  unfold State.endOk
  try dsimp only
  repeat' (first | with_reducible assumption | intro _ | with_reducible apply State.Keeps.foldl |
                 with_reducible apply State.endRecep_keeps | with_reducible apply State.cover_keeps |
                 with_reducible apply State.countFound_keeps | with_reducible apply State.forwardOn_keeps |
                 with_reducible apply State.endStream_keeps | with_reducible apply State.judgeFrame_keeps |
                 with_reducible apply State.setRecep_keeps | with_reducible apply State.heardFrame_keeps |
                 with_reducible apply State.judgeLive_keeps | with_reducible apply State.endOpen_keeps | simp only [State.Keeps.mk1] |
                 simp only [State.Keeps.mk2] | simp only [State.Keeps.mk3] | split)

theorem State.setLineState_keeps {s0 : State} (s : State) (r : Recep) (f : RxFrame) (q : SeqState)
     (h : s0.Keeps s) : s0.Keeps (State.setLineState s r f q) := by
  unfold State.setLineState
  try dsimp only
  repeat' (first | with_reducible assumption | intro _ | with_reducible apply State.Keeps.foldl | simp only [State.Keeps.mk1] |
                 simp only [State.Keeps.mk2] | simp only [State.Keeps.mk3] | split)

theorem State.lineVerdict_keeps {s0 : State} (s : State) (r : Recep) (f : RxFrame) (late : Bool) (x4 : Verdict)
     (h : s0.Keeps s) : s0.Keeps (State.lineVerdict s r f late x4) := by
  unfold State.lineVerdict
  try dsimp only
  repeat' (first | with_reducible assumption | intro _ | with_reducible apply State.Keeps.foldl |
                 with_reducible apply State.endRecep_keeps | with_reducible apply State.cover_keeps |
                 with_reducible apply State.setLineState_keeps | simp only [State.Keeps.mk1] | simp only [State.Keeps.mk2] |
                 simp only [State.Keeps.mk3] | split)

theorem State.endLine_keeps {s0 : State} (s : State) (r : Recep) (f : RxFrame) (late : Bool)
     (h : s0.Keeps s) : s0.Keeps (State.endLine s r f late) := by
  unfold State.endLine
  try dsimp only
  repeat' (first | with_reducible assumption | intro _ | with_reducible apply State.Keeps.foldl |
                 with_reducible apply State.lineVerdict_keeps | simp only [State.Keeps.mk1] | simp only [State.Keeps.mk2] |
                 simp only [State.Keeps.mk3] | split)

theorem State.endNative_keeps {s0 : State} (s : State) (r : Recep) (f : RxFrame) (o : Status × Option (Option Nat))
     (h : s0.Keeps s) : s0.Keeps (State.endNative s r f o) := by
  unfold State.endNative
  try dsimp only
  repeat' (first | with_reducible assumption | intro _ | with_reducible apply State.Keeps.foldl |
                 with_reducible apply State.defer_keeps | with_reducible apply State.oweAck_keeps |
                 with_reducible apply State.endRecep_keeps | with_reducible apply State.harqKeep_keeps |
                 with_reducible apply State.harqDrop_keeps | with_reducible apply State.endOk_keeps |
                 with_reducible apply State.endLine_keeps | simp only [State.Keeps.mk1] | simp only [State.Keeps.mk2] |
                 simp only [State.Keeps.mk3] | split)

theorem receptionEnd_keeps {s0 : State} (rec : Nat) (f : RxFrame) (s : State) (h : s0.Keeps s) : s0.Keeps (receptionEnd rec f s) := by
  unfold receptionEnd
  try dsimp only
  repeat' (first | with_reducible assumption | intro _ | with_reducible apply State.Keeps.foldl |
                 with_reducible apply State.endRecep_keeps | with_reducible apply State.stdAccept_keeps |
                 with_reducible apply State.setRecep_keeps | with_reducible apply State.endNative_keeps |
                 with_reducible apply State.drew_keeps | simp only [State.Keeps.mk1] | simp only [State.Keeps.mk2] |
                 simp only [State.Keeps.mk3] | split)

theorem checkpointWaitResume_keeps {s0 : State} (rec : Nat) (s : State) (h : s0.Keeps s) : s0.Keeps (checkpointWaitResume rec s) := by
  unfold checkpointWaitResume
  try dsimp only
  repeat' (first | with_reducible assumption | intro _ | with_reducible apply State.Keeps.foldl |
                 with_reducible apply State.endRecep_keeps | with_reducible apply State.endOk_keeps | simp only [State.Keeps.mk1] |
                 simp only [State.Keeps.mk2] | simp only [State.Keeps.mk3] | split)

end Sys2Proof.Machine
end

