-- ==== Sys2Proof/Laws/Keeps/Memory.lean ====
section
/-! SUPPORT. What no function of Machine/Memory.lean undoes (State.Keeps). -/

namespace Sys2Proof.Machine

open Sys2Proof

set_option linter.unreachableTactic false
set_option linter.unusedTactic false

theorem State.setHandle_keeps {s0 : State} (s : State) (x1 : Nat) (x : Handle) (h : s0.Keeps s) : s0.Keeps (State.setHandle s x1 x) := by
  unfold State.setHandle
  try dsimp only
  repeat' (first | with_reducible assumption | intro _ | with_reducible apply State.Keeps.foldl | simp only [State.Keeps.mk1] |
                 simp only [State.Keeps.mk2] | simp only [State.Keeps.mk3] | split)

theorem State.rehome_keeps {s0 : State} (s : State) (x1 : Nat) (x : Handle) (h : s0.Keeps s) : s0.Keeps (State.rehome s x1 x) := by
  unfold State.rehome
  try dsimp only
  repeat' (first | with_reducible assumption | intro _ | with_reducible apply State.Keeps.foldl |
                 with_reducible apply State.setHandle_keeps | with_reducible apply State.drew_keeps |
                 with_reducible apply State.event_keeps | with_reducible apply State.setFld_keeps | simp only [State.Keeps.mk1] |
                 simp only [State.Keeps.mk2] | simp only [State.Keeps.mk3] | split)

theorem State.rehomeFrom_keeps {s0 : State} (s : State) (p : Place) (x2 : List (Nat × Handle))
     (h : s0.Keeps s) : s0.Keeps (State.rehomeFrom s p x2) := by
  induction x2 generalizing s p with
  | nil =>
    unfold State.rehomeFrom
    try dsimp only
    repeat' (first | with_reducible assumption | intro _ | with_reducible apply State.Keeps.foldl | with_reducible apply ih |
                   with_reducible apply State.rehome_keeps | simp only [State.Keeps.mk1] | simp only [State.Keeps.mk2] |
                   simp only [State.Keeps.mk3] | (split <;> try (rename_i hq; injection hq with hq1 hq2; subst hq1; subst hq2)))
  | cons _ _ ih =>
    unfold State.rehomeFrom
    try dsimp only
    repeat' (first | with_reducible assumption | intro _ | with_reducible apply State.Keeps.foldl | with_reducible apply ih |
                   with_reducible apply State.rehome_keeps | simp only [State.Keeps.mk1] | simp only [State.Keeps.mk2] |
                   simp only [State.Keeps.mk3] | (split <;> try (rename_i hq; injection hq with hq1 hq2; subst hq1; subst hq2)))

theorem State.tendEmber_keeps {s0 : State} (s : State) (h : s0.Keeps s) : s0.Keeps (State.tendEmber s) := by
  unfold State.tendEmber
  try dsimp only
  repeat' (first | with_reducible assumption | intro _ | with_reducible apply State.Keeps.foldl | simp only [State.Keeps.mk1] |
                 simp only [State.Keeps.mk2] | simp only [State.Keeps.mk3] | split)

theorem State.nameStack_keeps {s0 : State} (s : State) (h : s0.Keeps s) : s0.Keeps (State.nameStack s) := by
  unfold State.nameStack
  try dsimp only
  repeat' (first | with_reducible assumption | intro _ | with_reducible apply State.Keeps.foldl |
                 with_reducible apply State.tendEmber_keeps | simp only [State.Keeps.mk1] | simp only [State.Keeps.mk2] |
                 simp only [State.Keeps.mk3] | split)

theorem State.setStack_keeps {s0 : State} (s : State) (n : Nat) (x : StackState) (h : s0.Keeps s) : s0.Keeps (State.setStack s n x) := by
  unfold State.setStack
  try dsimp only
  repeat' (first | with_reducible assumption | intro _ | with_reducible apply State.Keeps.foldl | simp only [State.Keeps.mk1] |
                 simp only [State.Keeps.mk2] | simp only [State.Keeps.mk3] | split)

theorem State.setSizes_keeps {s0 : State} (s : State) (x : Sizes) (h : s0.Keeps s) : s0.Keeps (State.setSizes s x) := by
  unfold State.setSizes
  try dsimp only
  repeat' (first | with_reducible assumption | intro _ | with_reducible apply State.Keeps.foldl |
                 with_reducible apply State.fitHarq_keeps | with_reducible apply State.trimRings_keeps | simp only [State.Keeps.mk1] |
                 simp only [State.Keeps.mk2] | simp only [State.Keeps.mk3] | split)

theorem State.refit_keeps {s0 : State} (s : State) (told : Bool) (h : s0.Keeps s) : s0.Keeps (State.refit s told) := by
  unfold State.refit
  try dsimp only
  repeat' (first | with_reducible assumption | intro _ | with_reducible apply State.Keeps.foldl |
                 with_reducible apply State.setSizes_keeps | with_reducible apply State.setFld_keeps |
                 with_reducible apply State.event_keeps | simp only [State.Keeps.mk1] | simp only [State.Keeps.mk2] |
                 simp only [State.Keeps.mk3] | split)

theorem State.endTxns_keeps {s0 : State} (s : State) (n : Nat) (x2 : List Txn) (h : s0.Keeps s) : s0.Keeps (State.endTxns s n x2) := by
  induction x2 generalizing s n with
  | nil =>
    unfold State.endTxns
    try dsimp only
    repeat' (first | with_reducible assumption | intro _ | with_reducible apply State.Keeps.foldl | with_reducible apply ih |
                   with_reducible apply Machine.transactionResponse_keeps | with_reducible apply State.setTxn_keeps |
                   with_reducible apply State.freeRequest_keeps | simp only [State.Keeps.mk1] | simp only [State.Keeps.mk2] |
                   simp only [State.Keeps.mk3] | (split <;> try (rename_i hq; injection hq with hq1 hq2; subst hq1; subst hq2)))
  | cons _ _ ih =>
    unfold State.endTxns
    try dsimp only
    repeat' (first | with_reducible assumption | intro _ | with_reducible apply State.Keeps.foldl | with_reducible apply ih |
                   with_reducible apply Machine.transactionResponse_keeps | with_reducible apply State.setTxn_keeps |
                   with_reducible apply State.freeRequest_keeps | simp only [State.Keeps.mk1] | simp only [State.Keeps.mk2] |
                   simp only [State.Keeps.mk3] | (split <;> try (rename_i hq; injection hq with hq1 hq2; subst hq1; subst hq2)))

theorem State.startEntry_keeps {s0 : State} (s : State) (slot : Nat) (s1 : DWord)
     (h : s0.Keeps s) : s0.Keeps (State.startEntry s slot s1) := by
  unfold State.startEntry
  try dsimp only
  repeat' (first | with_reducible assumption | intro _ | with_reducible apply State.Keeps.foldl |
                 with_reducible apply State.startTask_keeps | simp only [State.Keeps.mk1] | simp only [State.Keeps.mk2] |
                 simp only [State.Keeps.mk3] | split)

theorem State.endTasks_keeps {s0 : State} (s : State) (f : Nat → Bool) (st : Nat) (x3 : List (Nat × Task))
     (h : s0.Keeps s) : s0.Keeps (State.endTasks s f st x3) := by
  induction x3 generalizing s f st with
  | nil =>
    unfold State.endTasks
    try dsimp only
    repeat' (first | with_reducible assumption | intro _ | with_reducible apply State.Keeps.foldl | with_reducible apply ih |
                   with_reducible apply State.endTask_keeps | simp only [State.Keeps.mk1] | simp only [State.Keeps.mk2] |
                   simp only [State.Keeps.mk3] | (split <;> try (rename_i hq; injection hq with hq1 hq2; subst hq1; subst hq2)))
  | cons _ _ ih =>
    unfold State.endTasks
    try dsimp only
    repeat' (first | with_reducible assumption | intro _ | with_reducible apply State.Keeps.foldl | with_reducible apply ih |
                   with_reducible apply State.endTask_keeps | simp only [State.Keeps.mk1] | simp only [State.Keeps.mk2] |
                   simp only [State.Keeps.mk3] | (split <;> try (rename_i hq; injection hq with hq1 hq2; subst hq1; subst hq2)))

theorem State.endPackTasks_keeps {s0 : State} (s : State) (slot : Nat) (h : s0.Keeps s) : s0.Keeps (State.endPackTasks s slot) := by
  unfold State.endPackTasks
  try dsimp only
  repeat' (first | with_reducible assumption | intro _ | with_reducible apply State.Keeps.foldl |
                 with_reducible apply State.endTasks_keeps | simp only [State.Keeps.mk1] | simp only [State.Keeps.mk2] |
                 simp only [State.Keeps.mk3] | split)

theorem State.restartPacks_keeps {s0 : State} (s : State) (x1 : List Nat) (h : s0.Keeps s) : s0.Keeps (State.restartPacks s x1) := by
  induction x1 generalizing s with
  | nil =>
    unfold State.restartPacks
    try dsimp only
    repeat' (first | with_reducible assumption | intro _ | with_reducible apply State.Keeps.foldl | with_reducible apply ih |
                   with_reducible apply State.setFld_keeps | with_reducible apply State.startEntry_keeps |
                   with_reducible apply State.endPackTasks_keeps | with_reducible apply State.event_keeps |
                   simp only [State.Keeps.mk1] | simp only [State.Keeps.mk2] | simp only [State.Keeps.mk3] |
                   (split <;> try (rename_i hq; injection hq with hq1 hq2; subst hq1; subst hq2)))
  | cons _ _ ih =>
    unfold State.restartPacks
    try dsimp only
    repeat' (first | with_reducible assumption | intro _ | with_reducible apply State.Keeps.foldl | with_reducible apply ih |
                   with_reducible apply State.setFld_keeps | with_reducible apply State.startEntry_keeps |
                   with_reducible apply State.endPackTasks_keeps | with_reducible apply State.event_keeps |
                   simp only [State.Keeps.mk1] | simp only [State.Keeps.mk2] | simp only [State.Keeps.mk3] |
                   (split <;> try (rename_i hq; injection hq with hq1 hq2; subst hq1; subst hq2)))

theorem State.loseRings_keeps {s0 : State} (s : State) (h : s0.Keeps s) : s0.Keeps (State.loseRings s) := by
  unfold State.loseRings
  try dsimp only
  repeat' (first | with_reducible assumption | intro _ | with_reducible apply State.Keeps.foldl |
                 with_reducible apply State.pruneAll_keeps | simp only [State.Keeps.mk1] | simp only [State.Keeps.mk2] |
                 simp only [State.Keeps.mk3] | split)

theorem State.refill_keeps {s0 : State} (s : State) (n : Nat) (x : Handle) (h : s0.Keeps s) : s0.Keeps (State.refill s n x) := by
  unfold State.refill
  refine State.Keeps.foldl (fun t p ht => State.setByte_keeps t _ _ _ ht) ?_
  exact State.Keeps.cut h rfl rfl rfl (Tab.wf_filter _ _ _) id

theorem State.recreate_keeps {s0 : State} (s : State) (n : Nat) (x2 : List (Nat × Handle))
     (h : s0.Keeps s) : s0.Keeps (State.recreate s n x2) := by
  induction x2 generalizing s n with
  | nil =>
    unfold State.recreate
    try dsimp only
    repeat' (first | with_reducible assumption | intro _ | with_reducible apply State.Keeps.foldl | with_reducible apply ih |
                   with_reducible apply State.setHandle_keeps | with_reducible apply State.drew_keeps |
                   with_reducible apply State.setQueue_keeps | with_reducible apply State.refill_keeps | simp only [State.Keeps.mk1] |
                   simp only [State.Keeps.mk2] | simp only [State.Keeps.mk3] |
                   (split <;> try (rename_i hq; injection hq with hq1 hq2; subst hq1; subst hq2)))
  | cons _ _ ih =>
    unfold State.recreate
    try dsimp only
    repeat' (first | with_reducible assumption | intro _ | with_reducible apply State.Keeps.foldl | with_reducible apply ih |
                   with_reducible apply State.setHandle_keeps | with_reducible apply State.drew_keeps |
                   with_reducible apply State.setQueue_keeps | with_reducible apply State.refill_keeps | simp only [State.Keeps.mk1] |
                   simp only [State.Keeps.mk2] | simp only [State.Keeps.mk3] |
                   (split <;> try (rename_i hq; injection hq with hq1 hq2; subst hq1; subst hq2)))

theorem State.loseStack_keeps {s0 : State} (s : State) (n : Nat) (h : s0.Keeps s) : s0.Keeps (State.loseStack s n) := by
  unfold State.loseStack
  try dsimp only
  repeat' (first | with_reducible assumption | intro _ | with_reducible apply State.Keeps.foldl |
                 with_reducible apply State.nameStack_keeps | with_reducible apply State.setStack_keeps |
                 with_reducible apply State.endTxns_keeps | with_reducible apply State.restartPacks_keeps |
                 with_reducible apply State.loseRings_keeps | with_reducible apply State.recreate_keeps |
                 with_reducible apply State.refit_keeps | with_reducible apply State.setFld_keeps |
                 with_reducible apply State.tendEmber_keeps | simp only [State.Keeps.mk1] | simp only [State.Keeps.mk2] |
                 simp only [State.Keeps.mk3] | split)

theorem ringDepthChange_keeps {s0 : State} (who : Who) (value : Word) (s : State)
     (h : s0.Keeps s) : s0.Keeps (ringDepthChange who value s) := by
  unfold ringDepthChange
  try dsimp only
  repeat' (first | with_reducible assumption | intro _ | with_reducible apply State.Keeps.foldl |
                 with_reducible apply State.gated_keeps | with_reducible apply State.setReg_keeps |
                 with_reducible apply State.refit_keeps | simp only [State.Keeps.mk1] | simp only [State.Keeps.mk2] |
                 simp only [State.Keeps.mk3] | split)

theorem memoryReserveWrite_keeps {s0 : State} (value : Word) (s : State) (h : s0.Keeps s) : s0.Keeps (memoryReserveWrite value s) := by
  unfold memoryReserveWrite
  try dsimp only
  repeat' (first | with_reducible assumption | intro _ | with_reducible apply State.Keeps.foldl |
                 with_reducible apply State.gated_keeps | with_reducible apply State.setFld_keeps |
                 with_reducible apply State.refit_keeps | simp only [State.Keeps.mk1] | simp only [State.Keeps.mk2] |
                 simp only [State.Keeps.mk3] | split)

theorem memoryEccError_keeps {s0 : State} (unit : TestUnit) (uncorrectable : Bool) (second : Bool) (load : Option Nat) (s : State)
     (h : s0.Keeps s) : s0.Keeps (memoryEccError unit uncorrectable second load s) := by
  unfold memoryEccError
  try dsimp only
  repeat' (first | with_reducible assumption | intro _ | with_reducible apply State.Keeps.foldl |
                 with_reducible apply State.bumpFld_keeps | with_reducible apply State.taskFault_keeps |
                 with_reducible apply State.detectTest_keeps | simp only [State.Keeps.mk1] | simp only [State.Keeps.mk2] |
                 simp only [State.Keeps.mk3] | split)

theorem scrubPass_keeps {s0 : State} (stack : Nat) (s : State) (h : s0.Keeps s) : s0.Keeps (scrubPass stack s) := by
  unfold scrubPass
  try dsimp only
  repeat' (first | with_reducible assumption | intro _ | with_reducible apply State.Keeps.foldl | simp only [State.Keeps.mk1] |
                 simp only [State.Keeps.mk2] | simp only [State.Keeps.mk3] | split)

theorem pageMigrate_keeps {s0 : State} (handle : Nat) (page : Nat) (target : Place) (last : Bool) (s : State)
     (h : s0.Keeps s) : s0.Keeps (pageMigrate handle page target last s) := by
  unfold pageMigrate
  try dsimp only
  repeat' (first | with_reducible assumption | intro _ | with_reducible apply State.Keeps.foldl |
                 with_reducible apply State.touchTag_keeps | with_reducible apply State.setHandle_keeps | simp only [State.Keeps.mk1] |
                 simp only [State.Keeps.mk2] | simp only [State.Keeps.mk3] | split)

theorem hbmStepChange_keeps {s0 : State} (stack : Nat) (step : Nat) (s : State)
     (h : s0.Keeps s) : s0.Keeps (hbmStepChange stack step s) := by
  unfold hbmStepChange
  try dsimp only
  repeat' (first | with_reducible assumption | intro _ | with_reducible apply State.Keeps.foldl |
                 with_reducible apply State.setStack_keeps | simp only [State.Keeps.mk1] | simp only [State.Keeps.mk2] |
                 simp only [State.Keeps.mk3] | split)

theorem hbmTrainingComplete_keeps {s0 : State} (stack : Nat) (s : State) (h : s0.Keeps s) : s0.Keeps (hbmTrainingComplete stack s) := by
  unfold hbmTrainingComplete
  try dsimp only
  repeat' (first | with_reducible assumption | intro _ | with_reducible apply State.Keeps.foldl |
                 with_reducible apply State.refit_keeps | with_reducible apply State.nameStack_keeps |
                 with_reducible apply State.setStack_keeps | simp only [State.Keeps.mk1] | simp only [State.Keeps.mk2] |
                 simp only [State.Keeps.mk3] | split)

end Sys2Proof.Machine
end

