-- ==== Sys2Proof/Laws/Keeps/Trail.lean ====
section
/-! SUPPORT. What no function of Machine/Trail.lean undoes (State.Keeps). -/

namespace Sys2Proof.Machine

open Sys2Proof

set_option linter.unreachableTactic false
set_option linter.unusedTactic false

theorem State.setTport_keeps {s0 : State} (s : State) (n : Nat) (p : TPort) (h : s0.Keeps s) : s0.Keeps (State.setTport s n p) := by
  unfold State.setTport
  try dsimp only
  repeat' (first | with_reducible assumption | intro _ | with_reducible apply State.Keeps.foldl | simp only [State.Keeps.mk1] |
                 simp only [State.Keeps.mk2] | simp only [State.Keeps.mk3] | split)

theorem State.tpNext_keeps {s0 : State} (s : State) (n : Nat) (h : s0.Keeps s) : s0.Keeps (State.tpNext s n) := by
  unfold State.tpNext
  try dsimp only
  repeat' (first | with_reducible assumption | intro _ | with_reducible apply State.Keeps.foldl |
                 with_reducible apply State.setTport_keeps | simp only [State.Keeps.mk1] | simp only [State.Keeps.mk2] |
                 simp only [State.Keeps.mk3] | split)

theorem State.tpCross_keeps {s0 : State} (s : State) (n : Nat) (was : Nat) (h : s0.Keeps s) : s0.Keeps (State.tpCross s n was) := by
  unfold State.tpCross
  try dsimp only
  repeat' (first | with_reducible assumption | intro _ | with_reducible apply State.Keeps.foldl |
                 with_reducible apply State.setTport_keeps | simp only [State.Keeps.mk1] | simp only [State.Keeps.mk2] |
                 simp only [State.Keeps.mk3] | split)

theorem State.tpStore_keeps {s0 : State} (s : State) (n : Nat) (entry : Nat) (h : s0.Keeps s) : s0.Keeps (State.tpStore s n entry) := by
  unfold State.tpStore
  try dsimp only
  repeat' (first | with_reducible assumption | intro _ | with_reducible apply State.Keeps.foldl |
                 with_reducible apply State.tpCross_keeps | with_reducible apply State.setTport_keeps |
                 with_reducible apply State.setFld_keeps | with_reducible apply State.bumpFld_keeps |
                 with_reducible apply State.event_keeps | simp only [State.Keeps.mk1] | simp only [State.Keeps.mk2] |
                 simp only [State.Keeps.mk3] | split)

theorem State.tpTxApply_keeps {s0 : State} (s : State) (n : Nat) (h : s0.Keeps s) : s0.Keeps (State.tpTxApply s n) := by
  unfold State.tpTxApply
  try dsimp only
  repeat' (first | with_reducible assumption | intro _ | with_reducible apply State.Keeps.foldl |
                 with_reducible apply State.setTport_keeps | simp only [State.Keeps.mk1] | simp only [State.Keeps.mk2] |
                 simp only [State.Keeps.mk3] | split)

theorem State.tpClose_keeps {s0 : State} (s : State) (n : Nat) (h : s0.Keeps s) : s0.Keeps (State.tpClose s n) := by
  unfold State.tpClose
  try dsimp only
  repeat' (first | with_reducible assumption | intro _ | with_reducible apply State.Keeps.foldl |
                 with_reducible apply State.startDrain_keeps | with_reducible apply State.setTport_keeps |
                 simp only [State.Keeps.mk1] | simp only [State.Keeps.mk2] | simp only [State.Keeps.mk3] | split)

theorem State.tpOpen_keeps {s0 : State} (s : State) (n : Nat) (h : s0.Keeps s) : s0.Keeps (State.tpOpen s n) := by
  unfold State.tpOpen
  try dsimp only
  repeat' (first | with_reducible assumption | intro _ | with_reducible apply State.Keeps.foldl |
                 with_reducible apply State.setDrain_keeps | with_reducible apply State.tpNext_keeps |
                 with_reducible apply State.setOut_keeps | simp only [State.Keeps.mk1] | simp only [State.Keeps.mk2] |
                 simp only [State.Keeps.mk3] | split)

theorem State.writeTpCfg_keeps {s0 : State} (s : State) (n : Nat) (who : Who) (value : Word)
     (h : s0.Keeps s) : s0.Keeps (State.writeTpCfg s n who value) := by
  unfold State.writeTpCfg
  try dsimp only
  repeat' (first | with_reducible assumption | intro _ | with_reducible apply State.Keeps.foldl |
                 with_reducible apply State.gated_keeps | with_reducible apply State.setReg_keeps |
                 with_reducible apply State.tpTxApply_keeps | with_reducible apply State.tpClose_keeps |
                 with_reducible apply State.tpOpen_keeps | simp only [State.Keeps.mk1] | simp only [State.Keeps.mk2] |
                 simp only [State.Keeps.mk3] | split)

theorem State.writeTpBaud_keeps {s0 : State} (s : State) (n : Nat) (who : Who) (value : Word)
     (h : s0.Keeps s) : s0.Keeps (State.writeTpBaud s n who value) := by
  unfold State.writeTpBaud
  try dsimp only
  repeat' (first | with_reducible assumption | intro _ | with_reducible apply State.Keeps.foldl |
                 with_reducible apply State.gated_keeps | with_reducible apply State.setReg_keeps |
                 with_reducible apply State.tpTxApply_keeps | simp only [State.Keeps.mk1] | simp only [State.Keeps.mk2] |
                 simp only [State.Keeps.mk3] | split)

theorem tpTxdWrite_keeps {s0 : State} (port : Nat) (who : Who) (value : Word) (s : State)
     (h : s0.Keeps s) : s0.Keeps (tpTxdWrite port who value s) := by
  unfold tpTxdWrite
  try dsimp only
  repeat' (first | with_reducible assumption | intro _ | with_reducible apply State.Keeps.foldl |
                 with_reducible apply State.gated_keeps | with_reducible apply State.setFld_keeps |
                 with_reducible apply State.tpNext_keeps | with_reducible apply State.setTport_keeps | simp only [State.Keeps.mk1] |
                 simp only [State.Keeps.mk2] | simp only [State.Keeps.mk3] | split)

theorem tpTxflush_keeps {s0 : State} (port : Nat) (who : Who) (s : State) (h : s0.Keeps s) : s0.Keeps (tpTxflush port who s) := by
  unfold tpTxflush
  try dsimp only
  repeat' (first | with_reducible assumption | intro _ | with_reducible apply State.Keeps.foldl |
                 with_reducible apply State.gated_keeps | with_reducible apply State.setTport_keeps | simp only [State.Keeps.mk1] |
                 simp only [State.Keeps.mk2] | simp only [State.Keeps.mk3] | split)

theorem tpRxflush_keeps {s0 : State} (port : Nat) (who : Who) (s : State) (h : s0.Keeps s) : s0.Keeps (tpRxflush port who s) := by
  unfold tpRxflush
  try dsimp only
  repeat' (first | with_reducible assumption | intro _ | with_reducible apply State.Keeps.foldl |
                 with_reducible apply State.gated_keeps | with_reducible apply State.tpNext_keeps |
                 with_reducible apply State.tpCross_keeps | with_reducible apply State.setTport_keeps | simp only [State.Keeps.mk1] |
                 simp only [State.Keeps.mk2] | simp only [State.Keeps.mk3] | split)

theorem tpBreak_keeps {s0 : State} (port : Nat) (who : Who) (s : State) (h : s0.Keeps s) : s0.Keeps (tpBreak port who s) := by
  unfold tpBreak
  try dsimp only
  repeat' (first | with_reducible assumption | intro _ | with_reducible apply State.Keeps.foldl |
                 with_reducible apply State.gated_keeps | with_reducible apply State.tpNext_keeps |
                 with_reducible apply State.setTport_keeps | simp only [State.Keeps.mk1] | simp only [State.Keeps.mk2] |
                 simp only [State.Keeps.mk3] | split)

theorem tpResume_keeps {s0 : State} (port : Nat) (who : Who) (s : State) (h : s0.Keeps s) : s0.Keeps (tpResume port who s) := by
  unfold tpResume
  try dsimp only
  repeat' (first | with_reducible assumption | intro _ | with_reducible apply State.Keeps.foldl |
                 with_reducible apply State.gated_keeps | with_reducible apply State.tpNext_keeps |
                 with_reducible apply State.setTport_keeps | simp only [State.Keeps.mk1] | simp only [State.Keeps.mk2] |
                 simp only [State.Keeps.mk3] | split)

theorem State.tpRxApply_keeps {s0 : State} (s : State) (n : Nat) (h : s0.Keeps s) : s0.Keeps (State.tpRxApply s n) := by
  unfold State.tpRxApply
  try dsimp only
  repeat' (first | with_reducible assumption | intro _ | with_reducible apply State.Keeps.foldl |
                 with_reducible apply State.setTport_keeps | simp only [State.Keeps.mk1] | simp only [State.Keeps.mk2] |
                 simp only [State.Keeps.mk3] | split)

theorem tpRateChangeApply_keeps {s0 : State} (port : Nat) (tx : Bool) (s : State)
     (h : s0.Keeps s) : s0.Keeps (tpRateChangeApply port tx s) := by
  unfold tpRateChangeApply
  try dsimp only
  repeat' (first | with_reducible assumption | intro _ | with_reducible apply State.Keeps.foldl |
                 with_reducible apply State.tpNext_keeps | with_reducible apply State.tpTxApply_keeps |
                 with_reducible apply State.tpRxApply_keeps | simp only [State.Keeps.mk1] | simp only [State.Keeps.mk2] |
                 simp only [State.Keeps.mk3] | split)

theorem tpRxdRead_keeps {s0 : State} (port : Nat) (who : Who) (s : State) (h : s0.Keeps s) : s0.Keeps (tpRxdRead port who s) := by
  unfold tpRxdRead
  try dsimp only
  repeat' (first | with_reducible assumption | intro _ | with_reducible apply State.Keeps.foldl |
                 with_reducible apply State.returns_keeps | with_reducible apply State.tpNext_keeps |
                 with_reducible apply State.tpCross_keeps | with_reducible apply State.setTport_keeps | simp only [State.Keeps.mk1] |
                 simp only [State.Keeps.mk2] | simp only [State.Keeps.mk3] | split)

theorem tpDisable_keeps {s0 : State} (port : Nat) (who : Who) (value : Word) (s : State)
     (h : s0.Keeps s) : s0.Keeps (tpDisable port who value s) := by
  unfold tpDisable
  try dsimp only
  repeat' (first | with_reducible assumption | intro _ | with_reducible apply State.Keeps.foldl |
                 with_reducible apply State.writeTpCfg_keeps | simp only [State.Keeps.mk1] | simp only [State.Keeps.mk2] |
                 simp only [State.Keeps.mk3] | split)

theorem tpCharSent_keeps {s0 : State} (port : Nat) (s : State) (h : s0.Keeps s) : s0.Keeps (tpCharSent port s) := by
  unfold tpCharSent
  try dsimp only
  repeat' (first | with_reducible assumption | intro _ | with_reducible apply State.Keeps.foldl |
                 with_reducible apply State.tpNext_keeps | with_reducible apply State.tpTxApply_keeps |
                 with_reducible apply State.setTport_keeps | simp only [State.Keeps.mk1] | simp only [State.Keeps.mk2] |
                 simp only [State.Keeps.mk3] | split)

theorem tpBreakHeld_keeps {s0 : State} (port : Nat) (s : State) (h : s0.Keeps s) : s0.Keeps (tpBreakHeld port s) := by
  unfold tpBreakHeld
  try dsimp only
  repeat' (first | with_reducible assumption | intro _ | with_reducible apply State.Keeps.foldl |
                 with_reducible apply State.event_keeps | with_reducible apply State.setFld_keeps |
                 with_reducible apply State.setTport_keeps | simp only [State.Keeps.mk1] | simp only [State.Keeps.mk2] |
                 simp only [State.Keeps.mk3] | split)

theorem State.tpMute_keeps {s0 : State} (s : State) (n : Nat) (d : Nat) (addr : Bool)
     (h : s0.Keeps s) : s0.Keeps (State.tpMute s n d addr).1 := by
  unfold State.tpMute
  try dsimp only
  repeat' (first | with_reducible assumption | intro _ | with_reducible apply State.Keeps.foldl |
                 with_reducible apply State.setFld_keeps | simp only [State.Keeps.mk1] | simp only [State.Keeps.mk2] |
                 simp only [State.Keeps.mk3] | split)

theorem tpBreakHeldExit_keeps {s0 : State} (port : Nat) (s : State) (h : s0.Keeps s) : s0.Keeps (tpBreakHeldExit port s) := by
  unfold tpBreakHeldExit
  try dsimp only
  repeat' (first | with_reducible assumption | intro _ | with_reducible apply State.Keeps.foldl |
                 with_reducible apply State.event_keeps | with_reducible apply State.setTport_keeps | simp only [State.Keeps.mk1] |
                 simp only [State.Keeps.mk2] | simp only [State.Keeps.mk3] | split)

theorem tpSyncChar_keeps {s0 : State} (port : Nat) (data : Nat) (s : State) (h : s0.Keeps s) : s0.Keeps (tpSyncChar port data s) := by
  unfold tpSyncChar
  try dsimp only
  repeat' (first | with_reducible assumption | intro _ | with_reducible apply State.Keeps.foldl |
                 with_reducible apply State.setTport_keeps | with_reducible apply State.tpStore_keeps |
                 with_reducible apply State.tpNext_keeps | with_reducible apply State.tpRxApply_keeps |
                 with_reducible apply State.tpTxApply_keeps | simp only [State.Keeps.mk1] | simp only [State.Keeps.mk2] |
                 simp only [State.Keeps.mk3] | split)

theorem tpCharReceived_keeps {s0 : State} (port : Nat) (data : Nat) (bit : Bool) (stop : Bool) (s : State)
     (h : s0.Keeps s) : s0.Keeps (tpCharReceived port data bit stop s) := by
  unfold tpCharReceived
  try dsimp only
  repeat' (first | with_reducible assumption | intro _ | with_reducible apply State.Keeps.foldl |
                 with_reducible apply State.setTport_keeps | with_reducible apply State.setFld_keeps |
                 with_reducible apply State.tpMute_keeps | with_reducible apply State.tpNext_keeps |
                 with_reducible apply State.tpRxApply_keeps | with_reducible apply State.tpStore_keeps | simp only [State.Keeps.mk1] |
                 simp only [State.Keeps.mk2] | simp only [State.Keeps.mk3] | split)

end Sys2Proof.Machine
end

