-- ==== Sys2Proof/Laws/Keeps/Draining.lean ====
section
/-! SUPPORT. What no function of Machine/Draining.lean undoes (State.Keeps). -/

namespace Sys2Proof.Machine

open Sys2Proof

set_option linter.unreachableTactic false
set_option linter.unusedTactic false

theorem State.dropTasks_keeps {s0 : State} (s : State) (x1 : List Nat) (h : s0.Keeps s) : s0.Keeps (State.dropTasks s x1) := by
  induction x1 generalizing s with
  | nil =>
    unfold State.dropTasks
    try dsimp only
    repeat' (first | with_reducible assumption | intro _ | with_reducible apply State.Keeps.foldl | with_reducible apply ih |
                   with_reducible apply State.endTask_keeps | simp only [State.Keeps.mk1] | simp only [State.Keeps.mk2] |
                   simp only [State.Keeps.mk3] | (split <;> try (rename_i hq; injection hq with hq1 hq2; subst hq1; subst hq2)))
  | cons _ _ ih =>
    unfold State.dropTasks
    try dsimp only
    repeat' (first | with_reducible assumption | intro _ | with_reducible apply State.Keeps.foldl | with_reducible apply ih |
                   with_reducible apply State.endTask_keeps | simp only [State.Keeps.mk1] | simp only [State.Keeps.mk2] |
                   simp only [State.Keeps.mk3] | (split <;> try (rename_i hq; injection hq with hq1 hq2; subst hq1; subst hq2)))

theorem State.wakeEngine_keeps {s0 : State} (s : State) (e : Nat) (h : s0.Keeps s) : s0.Keeps (State.wakeEngine s e) := by
  unfold State.wakeEngine
  try dsimp only
  repeat' (first | with_reducible assumption | intro _ | with_reducible apply State.Keeps.foldl | simp only [State.Keeps.mk1] |
                 simp only [State.Keeps.mk2] | simp only [State.Keeps.mk3] | split)

theorem State.beginDrain_keeps {s0 : State} (s : State) (i : Nat) (why : DrainWhy)
     (h : s0.Keeps s) : s0.Keeps (State.beginDrain s i why) := by
  unfold State.beginDrain
  try dsimp only
  repeat' (first | with_reducible assumption | intro _ | with_reducible apply State.Keeps.foldl |
                 with_reducible apply State.startDrain_keeps | with_reducible apply State.cutPort_keeps |
                 with_reducible apply State.wakeEngine_keeps | simp only [State.Keeps.mk1] | simp only [State.Keeps.mk2] |
                 simp only [State.Keeps.mk3] | split)

theorem State.moveOff_keeps {s0 : State} (s : State) (i : Nat) (h : s0.Keeps s) : s0.Keeps (State.moveOff s i) := by
  unfold State.moveOff
  try dsimp only
  repeat' (first | with_reducible assumption | intro _ | with_reducible apply State.Keeps.foldl |
                 with_reducible apply State.rehomeFrom_keeps | with_reducible apply State.drew_keeps | simp only [State.Keeps.mk1] |
                 simp only [State.Keeps.mk2] | simp only [State.Keeps.mk3] | split)

theorem State.powerOff_keeps {s0 : State} (s : State) (i : Nat) (mode : Bool) (h : s0.Keeps s) : s0.Keeps (State.powerOff s i mode) := by
  unfold State.powerOff
  try dsimp only
  repeat' (first | with_reducible assumption | intro _ | with_reducible apply State.Keeps.foldl |
                 with_reducible apply State.setOut_keeps | with_reducible apply State.setDom_keeps |
                 with_reducible apply State.moveOff_keeps | with_reducible apply State.nameStack_keeps |
                 with_reducible apply State.setStack_keeps | with_reducible apply State.refit_keeps | simp only [State.Keeps.mk1] |
                 simp only [State.Keeps.mk2] | simp only [State.Keeps.mk3] | split)

theorem State.resetChk_keeps {s0 : State} (s : State) (h : s0.Keeps s) : s0.Keeps (State.resetChk s) :=
  State.Keeps.cut h rfl rfl rfl id (Tab.wf_filter _ _ _)

theorem State.powerOn_keeps {s0 : State} (s : State) (i : Nat) (h : s0.Keeps s) : s0.Keeps (State.powerOn s i) := by
  unfold State.powerOn
  try dsimp only
  repeat' (first | with_reducible assumption | intro _ | with_reducible apply State.Keeps.foldl |
                 with_reducible apply State.setOut_keeps | with_reducible apply State.setDom_keeps |
                 with_reducible apply State.setStack_keeps | with_reducible apply State.resetChk_keeps | simp only [State.Keeps.mk1] |
                 simp only [State.Keeps.mk2] | simp only [State.Keeps.mk3] | split)

theorem State.enterService_keeps {s0 : State} (s : State) (x1 : List Nat) (h : s0.Keeps s) : s0.Keeps (State.enterService s x1) := by
  induction x1 generalizing s with
  | nil =>
    unfold State.enterService
    try dsimp only
    repeat' (first | with_reducible assumption | intro _ | with_reducible apply State.Keeps.foldl | with_reducible apply ih |
                   with_reducible apply State.setRole_keeps | with_reducible apply State.powerOn_keeps | simp only [State.Keeps.mk1] |
                   simp only [State.Keeps.mk2] | simp only [State.Keeps.mk3] |
                   (split <;> try (rename_i hq; injection hq with hq1 hq2; subst hq1; subst hq2)))
  | cons _ _ ih =>
    unfold State.enterService
    try dsimp only
    repeat' (first | with_reducible assumption | intro _ | with_reducible apply State.Keeps.foldl | with_reducible apply ih |
                   with_reducible apply State.setRole_keeps | with_reducible apply State.powerOn_keeps | simp only [State.Keeps.mk1] |
                   simp only [State.Keeps.mk2] | simp only [State.Keeps.mk3] |
                   (split <;> try (rename_i hq; injection hq with hq1 hq2; subst hq1; subst hq2)))

theorem State.dropTest_keeps {s0 : State} (s : State) (i : Nat) (h : s0.Keeps s) : s0.Keeps (State.dropTest s i) := by
  unfold State.dropTest
  try dsimp only
  repeat' (first | with_reducible assumption | intro _ | with_reducible apply State.Keeps.foldl |
                 with_reducible apply State.setUnitRel_keeps | simp only [State.Keeps.mk1] | simp only [State.Keeps.mk2] |
                 simp only [State.Keeps.mk3] | split)

theorem State.hostDrained_keeps {s0 : State} (s : State) (i : Nat) (abandoned : Bool)
     (h : s0.Keeps s) : s0.Keeps (State.hostDrained s i abandoned) := by
  unfold State.hostDrained
  try dsimp only
  repeat' (first | with_reducible assumption | intro _ | with_reducible apply State.Keeps.foldl |
                 with_reducible apply State.setFld_keeps | simp only [State.Keeps.mk1] | simp only [State.Keeps.mk2] |
                 simp only [State.Keeps.mk3] | split)

theorem State.drained_keeps {s0 : State} (s : State) (i : Nat) (h : s0.Keeps s) : s0.Keeps (State.drained s i) := by
  unfold State.drained
  try dsimp only
  repeat' (first | with_reducible assumption | intro _ | with_reducible apply State.Keeps.foldl |
                 with_reducible apply State.hostDrained_keeps | with_reducible apply State.unitEvent_keeps |
                 with_reducible apply State.setDrain_keeps | with_reducible apply State.audit_keeps |
                 with_reducible apply State.portBack_keeps | with_reducible apply State.tpNext_keeps |
                 with_reducible apply State.setOut_keeps | with_reducible apply State.powerOff_keeps |
                 with_reducible apply State.setRole_keeps | with_reducible apply State.submit_keeps | simp only [State.Keeps.mk1] |
                 simp only [State.Keeps.mk2] | simp only [State.Keeps.mk3] | split)

theorem State.gsStops_keeps {s0 : State} (s : State) (x1 : List Nat) (h : s0.Keeps s) : s0.Keeps (State.gsStops s x1) := by
  induction x1 generalizing s with
  | nil =>
    unfold State.gsStops
    try dsimp only
    repeat' (first | with_reducible assumption | intro _ | with_reducible apply State.Keeps.foldl | with_reducible apply ih |
                   with_reducible apply State.gsStop_keeps | simp only [State.Keeps.mk1] | simp only [State.Keeps.mk2] |
                   simp only [State.Keeps.mk3] | (split <;> try (rename_i hq; injection hq with hq1 hq2; subst hq1; subst hq2)))
  | cons _ _ ih =>
    unfold State.gsStops
    try dsimp only
    repeat' (first | with_reducible assumption | intro _ | with_reducible apply State.Keeps.foldl | with_reducible apply ih |
                   with_reducible apply State.gsStop_keeps | simp only [State.Keeps.mk1] | simp only [State.Keeps.mk2] |
                   simp only [State.Keeps.mk3] | (split <;> try (rename_i hq; injection hq with hq1 hq2; subst hq1; subst hq2)))

theorem State.dropCalls_keeps {s0 : State} (s : State) (x1 : List Call) (h : s0.Keeps s) : s0.Keeps (State.dropCalls s x1) := by
  induction x1 generalizing s with
  | nil =>
    unfold State.dropCalls
    try dsimp only
    repeat' (first | with_reducible assumption | intro _ | with_reducible apply State.Keeps.foldl | with_reducible apply ih |
                   with_reducible apply State.endCall_keeps | simp only [State.Keeps.mk1] | simp only [State.Keeps.mk2] |
                   simp only [State.Keeps.mk3] | (split <;> try (rename_i hq; injection hq with hq1 hq2; subst hq1; subst hq2)))
  | cons _ _ ih =>
    unfold State.dropCalls
    try dsimp only
    repeat' (first | with_reducible assumption | intro _ | with_reducible apply State.Keeps.foldl | with_reducible apply ih |
                   with_reducible apply State.endCall_keeps | simp only [State.Keeps.mk1] | simp only [State.Keeps.mk2] |
                   simp only [State.Keeps.mk3] | (split <;> try (rename_i hq; injection hq with hq1 hq2; subst hq1; subst hq2)))

theorem State.abandonWork_keeps {s0 : State} (s : State) (i : Nat) (h : s0.Keeps s) : s0.Keeps (State.abandonWork s i) := by
  unfold State.abandonWork
  try dsimp only
  repeat' (first | with_reducible assumption | intro _ | with_reducible apply State.Keeps.foldl |
                 with_reducible apply State.endReceps_keeps | with_reducible apply State.dropTasks_keeps |
                 with_reducible apply State.landAll_keeps | with_reducible apply State.mutePort_keeps |
                 with_reducible apply State.gsStops_keeps | with_reducible apply State.setTport_keeps |
                 with_reducible apply State.dropCalls_keeps | simp only [State.Keeps.mk1] | simp only [State.Keeps.mk2] |
                 simp only [State.Keeps.mk3] | split)

theorem State.forceUnit_keeps {s0 : State} (s : State) (i : Nat) (why : DrainWhy)
     (h : s0.Keeps s) : s0.Keeps (State.forceUnit s i why) := by
  unfold State.forceUnit
  try dsimp only
  repeat' (first | with_reducible assumption | intro _ | with_reducible apply State.Keeps.foldl |
                 with_reducible apply State.dropTest_keeps | with_reducible apply State.drained_keeps |
                 with_reducible apply State.abandonWork_keeps | with_reducible apply State.setDrain_keeps |
                 simp only [State.Keeps.mk1] | simp only [State.Keeps.mk2] | simp only [State.Keeps.mk3] | split)

theorem State.drainForMode_keeps {s0 : State} (s : State) (i : Nat) (h : s0.Keeps s) : s0.Keeps (State.drainForMode s i) := by
  unfold State.drainForMode
  try dsimp only
  repeat' (first | with_reducible assumption | intro _ | with_reducible apply State.Keeps.foldl |
                 with_reducible apply State.beginDrain_keeps | with_reducible apply State.setDrain_keeps |
                 simp only [State.Keeps.mk1] | simp only [State.Keeps.mk2] | simp only [State.Keeps.mk3] | split)

theorem State.drainsForMode_keeps {s0 : State} (s : State) (x1 : List Nat) (h : s0.Keeps s) : s0.Keeps (State.drainsForMode s x1) := by
  induction x1 generalizing s with
  | nil =>
    unfold State.drainsForMode
    try dsimp only
    repeat' (first | with_reducible assumption | intro _ | with_reducible apply State.Keeps.foldl | with_reducible apply ih |
                   with_reducible apply State.drainForMode_keeps | simp only [State.Keeps.mk1] | simp only [State.Keeps.mk2] |
                   simp only [State.Keeps.mk3] | (split <;> try (rename_i hq; injection hq with hq1 hq2; subst hq1; subst hq2)))
  | cons _ _ ih =>
    unfold State.drainsForMode
    try dsimp only
    repeat' (first | with_reducible assumption | intro _ | with_reducible apply State.Keeps.foldl | with_reducible apply ih |
                   with_reducible apply State.drainForMode_keeps | simp only [State.Keeps.mk1] | simp only [State.Keeps.mk2] |
                   simp only [State.Keeps.mk3] | (split <;> try (rename_i hq; injection hq with hq1 hq2; subst hq1; subst hq2)))

theorem State.leaveService_keeps {s0 : State} (s : State) (x1 : List Nat) (h : s0.Keeps s) : s0.Keeps (State.leaveService s x1) := by
  induction x1 generalizing s with
  | nil =>
    unfold State.leaveService
    try dsimp only
    repeat' (first | with_reducible assumption | intro _ | with_reducible apply State.Keeps.foldl | with_reducible apply ih |
                   with_reducible apply State.beginDrain_keeps | with_reducible apply State.setRole_keeps |
                   simp only [State.Keeps.mk1] | simp only [State.Keeps.mk2] | simp only [State.Keeps.mk3] |
                   (split <;> try (rename_i hq; injection hq with hq1 hq2; subst hq1; subst hq2)))
  | cons _ _ ih =>
    unfold State.leaveService
    try dsimp only
    repeat' (first | with_reducible assumption | intro _ | with_reducible apply State.Keeps.foldl | with_reducible apply ih |
                   with_reducible apply State.beginDrain_keeps | with_reducible apply State.setRole_keeps |
                   simp only [State.Keeps.mk1] | simp only [State.Keeps.mk2] | simp only [State.Keeps.mk3] |
                   (split <;> try (rename_i hq; injection hq with hq1 hq2; subst hq1; subst hq2)))

theorem State.sizePool_keeps {s0 : State} (s : State) (h : s0.Keeps s) : s0.Keeps (State.sizePool s) := by
  unfold State.sizePool
  try dsimp only
  repeat' (first | with_reducible assumption | intro _ | with_reducible apply State.Keeps.foldl |
                 with_reducible apply State.enterService_keeps | with_reducible apply State.leaveService_keeps |
                 simp only [State.Keeps.mk1] | simp only [State.Keeps.mk2] | simp only [State.Keeps.mk3] | split)

theorem spareTargetWrite_keeps {s0 : State} (value : Word) (s : State) (h : s0.Keeps s) : s0.Keeps (spareTargetWrite value s) := by
  unfold spareTargetWrite
  try dsimp only
  repeat' (first | with_reducible assumption | intro _ | with_reducible apply State.Keeps.foldl |
                 with_reducible apply State.gated_keeps | with_reducible apply State.sizePool_keeps |
                 with_reducible apply State.setFld_keeps | simp only [State.Keeps.mk1] | simp only [State.Keeps.mk2] |
                 simp only [State.Keeps.mk3] | split)

theorem State.pitRequest_keeps {s0 : State} (s : State) (w : Word) (h : s0.Keeps s) : s0.Keeps (State.pitRequest s w) := by
  unfold State.pitRequest
  try dsimp only
  repeat' (first | with_reducible assumption | intro _ | with_reducible apply State.Keeps.foldl |
                 with_reducible apply State.setFld_keeps | with_reducible apply State.setDrain_keeps |
                 with_reducible apply State.powerOn_keeps | with_reducible apply State.forceUnit_keeps |
                 with_reducible apply State.beginDrain_keeps | simp only [State.Keeps.mk1] | simp only [State.Keeps.mk2] |
                 simp only [State.Keeps.mk3] | split)

theorem pitRestore_keeps {s0 : State} (value : Word) (s : State) (h : s0.Keeps s) : s0.Keeps (pitRestore value s) := by
  unfold pitRestore
  try dsimp only
  repeat' (first | with_reducible assumption | intro _ | with_reducible apply State.Keeps.foldl |
                 with_reducible apply State.gated_keeps | with_reducible apply State.pitRequest_keeps | simp only [State.Keeps.mk1] |
                 simp only [State.Keeps.mk2] | simp only [State.Keeps.mk3] | split)

theorem pitForcedDisable_keeps {s0 : State} (value : Word) (s : State) (h : s0.Keeps s) : s0.Keeps (pitForcedDisable value s) := by
  unfold pitForcedDisable
  try dsimp only
  repeat' (first | with_reducible assumption | intro _ | with_reducible apply State.Keeps.foldl |
                 with_reducible apply State.gated_keeps | with_reducible apply State.pitRequest_keeps | simp only [State.Keeps.mk1] |
                 simp only [State.Keeps.mk2] | simp only [State.Keeps.mk3] | split)

theorem pitDrain_keeps {s0 : State} (value : Word) (s : State) (h : s0.Keeps s) : s0.Keeps (pitDrain value s) := by
  unfold pitDrain
  try dsimp only
  repeat' (first | with_reducible assumption | intro _ | with_reducible apply State.Keeps.foldl |
                 with_reducible apply State.gated_keeps | with_reducible apply State.pitRequest_keeps | simp only [State.Keeps.mk1] |
                 simp only [State.Keeps.mk2] | simp only [State.Keeps.mk3] | split)

theorem State.beginDrains_keeps {s0 : State} (s : State) (why : DrainWhy) (x2 : List Nat)
     (h : s0.Keeps s) : s0.Keeps (State.beginDrains s why x2) := by
  induction x2 generalizing s why with
  | nil =>
    unfold State.beginDrains
    try dsimp only
    repeat' (first | with_reducible assumption | intro _ | with_reducible apply State.Keeps.foldl | with_reducible apply ih |
                   with_reducible apply State.beginDrain_keeps | simp only [State.Keeps.mk1] | simp only [State.Keeps.mk2] |
                   simp only [State.Keeps.mk3] | (split <;> try (rename_i hq; injection hq with hq1 hq2; subst hq1; subst hq2)))
  | cons _ _ ih =>
    unfold State.beginDrains
    try dsimp only
    repeat' (first | with_reducible assumption | intro _ | with_reducible apply State.Keeps.foldl | with_reducible apply ih |
                   with_reducible apply State.beginDrain_keeps | simp only [State.Keeps.mk1] | simp only [State.Keeps.mk2] |
                   simp only [State.Keeps.mk3] | (split <;> try (rename_i hq; injection hq with hq1 hq2; subst hq1; subst hq2)))

theorem State.powerAll_keeps {s0 : State} (s : State) (x1 : List Nat) (h : s0.Keeps s) : s0.Keeps (State.powerAll s x1) := by
  induction x1 generalizing s with
  | nil =>
    unfold State.powerAll
    try dsimp only
    repeat' (first | with_reducible assumption | intro _ | with_reducible apply State.Keeps.foldl | with_reducible apply ih |
                   with_reducible apply State.powerOn_keeps | simp only [State.Keeps.mk1] | simp only [State.Keeps.mk2] |
                   simp only [State.Keeps.mk3] | (split <;> try (rename_i hq; injection hq with hq1 hq2; subst hq1; subst hq2)))
  | cons _ _ ih =>
    unfold State.powerAll
    try dsimp only
    repeat' (first | with_reducible assumption | intro _ | with_reducible apply State.Keeps.foldl | with_reducible apply ih |
                   with_reducible apply State.powerOn_keeps | simp only [State.Keeps.mk1] | simp only [State.Keeps.mk2] |
                   simp only [State.Keeps.mk3] | (split <;> try (rename_i hq; injection hq with hq1 hq2; subst hq1; subst hq2)))

theorem unitDrained_keeps {s0 : State} (unit : Nat) (s : State) (h : s0.Keeps s) : s0.Keeps (unitDrained unit s) := by
  unfold unitDrained
  try dsimp only
  repeat' (first | with_reducible assumption | intro _ | with_reducible apply State.Keeps.foldl |
                 with_reducible apply State.drained_keeps | simp only [State.Keeps.mk1] | simp only [State.Keeps.mk2] |
                 simp only [State.Keeps.mk3] | split)

theorem State.abandonAt_keeps {s0 : State} (s : State) (i : Nat) (h : s0.Keeps s) : s0.Keeps (State.abandonAt s i) := by
  unfold State.abandonAt
  try dsimp only
  repeat' (first | with_reducible assumption | intro _ | with_reducible apply State.Keeps.foldl |
                 with_reducible apply State.abandonWork_keeps | with_reducible apply State.setDrain_keeps |
                 simp only [State.Keeps.mk1] | simp only [State.Keeps.mk2] | simp only [State.Keeps.mk3] | split)

theorem drainBoundExpire_keeps {s0 : State} (unit : Nat) (s : State) (h : s0.Keeps s) : s0.Keeps (drainBoundExpire unit s) := by
  unfold drainBoundExpire
  try dsimp only
  repeat' (first | with_reducible assumption | intro _ | with_reducible apply State.Keeps.foldl |
                 with_reducible apply State.abandonAt_keeps | with_reducible apply State.dropTasks_keeps |
                 simp only [State.Keeps.mk1] | simp only [State.Keeps.mk2] | simp only [State.Keeps.mk3] | split)

end Sys2Proof.Machine
end

