-- ==== Sys2Proof/Laws/Keeps/Feeder.lean ====
section
/-! SUPPORT. What no function of Machine/Feeder.lean undoes (State.Keeps). -/

namespace Sys2Proof.Machine

open Sys2Proof

set_option linter.unreachableTactic false
set_option linter.unusedTactic false

theorem State.balancePoints_keeps {s0 : State} (s : State) (x1 : List (Nat × Int × Int))
     (h : s0.Keeps s) : s0.Keeps (State.balancePoints s x1) := by
  induction x1 generalizing s with
  | nil =>
    unfold State.balancePoints
    try dsimp only
    repeat' (first | with_reducible assumption | intro _ | with_reducible apply State.Keeps.foldl | with_reducible apply ih |
                   with_reducible apply State.finding_keeps | simp only [State.Keeps.mk1] | simp only [State.Keeps.mk2] |
                   simp only [State.Keeps.mk3] | (split <;> try (rename_i hq; injection hq with hq1 hq2; subst hq1; subst hq2)))
  | cons _ _ ih =>
    unfold State.balancePoints
    try dsimp only
    repeat' (first | with_reducible assumption | intro _ | with_reducible apply State.Keeps.foldl | with_reducible apply ih |
                   with_reducible apply State.finding_keeps | simp only [State.Keeps.mk1] | simp only [State.Keeps.mk2] |
                   simp only [State.Keeps.mk3] | (split <;> try (rename_i hq; injection hq with hq1 hq2; subst hq1; subst hq2)))

theorem State.fmCmd_keeps {s0 : State} (s : State) (who : Who) (op : Nat) (f : Nat → State → State × Nat)
     (h_f : ∀ y0 y1, s0.Keeps y1 → s0.Keeps (f y0 y1).1) (h : s0.Keeps s) : s0.Keeps (State.fmCmd s who op f) := by
  unfold State.fmCmd
  try dsimp only
  repeat' (first | with_reducible assumption | intro _ | with_reducible apply State.Keeps.foldl | with_reducible apply h_f |
                 with_reducible apply State.gated_keeps | with_reducible apply State.setFld_keeps | simp only [State.Keeps.mk1] |
                 simp only [State.Keeps.mk2] | simp only [State.Keeps.mk3] | split)

theorem onPort_keeps {s0 : State} (f : State → Nat → State × Nat) (arg : Nat) (s : State)
     (h_f : ∀ y0 y1, s0.Keeps y0 → s0.Keeps (f y0 y1).1) (h : s0.Keeps s) : s0.Keeps (onPort f arg s).1 := by
  unfold onPort
  try dsimp only
  repeat' (first | with_reducible assumption | intro _ | with_reducible apply State.Keeps.foldl | with_reducible apply h_f |
                 simp only [State.Keeps.mk1] | simp only [State.Keeps.mk2] | simp only [State.Keeps.mk3] | split)

theorem State.sentSweep_keeps {s0 : State} (s : State) (p : Nat) (h : s0.Keeps s) : s0.Keeps (State.sentSweep s p) := by
  unfold State.sentSweep
  try dsimp only
  repeat' (first | with_reducible assumption | intro _ | with_reducible apply State.Keeps.foldl | simp only [State.Keeps.mk1] |
                 simp only [State.Keeps.mk2] | simp only [State.Keeps.mk3] | split)

theorem State.postEchoes_keeps {s0 : State} (s : State) (p : Nat) (b : Baseline) (fs : List Feature)
     (h : s0.Keeps s) : s0.Keeps (State.postEchoes s p b fs) := by
  unfold State.postEchoes
  try dsimp only
  repeat' (first | with_reducible assumption | intro _ | with_reducible apply State.Keeps.foldl |
                 with_reducible apply State.finding_keeps | simp only [State.Keeps.mk1] | simp only [State.Keeps.mk2] |
                 simp only [State.Keeps.mk3] | split)

theorem State.processSweep_keeps {s0 : State} (s : State) (p : Nat) (bins : List (Int × Int))
     (h : s0.Keeps s) : s0.Keeps (State.processSweep s p bins) := by
  unfold State.processSweep
  try dsimp only
  repeat' (first | with_reducible assumption | intro _ | with_reducible apply State.Keeps.foldl |
                 with_reducible apply State.postEchoes_keeps | simp only [State.Keeps.mk1] | simp only [State.Keeps.mk2] |
                 simp only [State.Keeps.mk3] | split)

theorem State.takeSweep_keeps {s0 : State} (s : State) (p : Nat) (bins : List (Int × Int))
     (h : s0.Keeps s) : s0.Keeps (State.takeSweep s p bins) := by
  unfold State.takeSweep
  try dsimp only
  repeat' (first | with_reducible assumption | intro _ | with_reducible apply State.Keeps.foldl |
                 with_reducible apply State.processSweep_keeps | with_reducible apply State.submit_keeps |
                 simp only [State.Keeps.mk1] | simp only [State.Keeps.mk2] | simp only [State.Keeps.mk3] | split)

theorem sweepNow_keeps {s0 : State} (who : Who) (bins : List (Int × Int)) (folded : Bool) (s : State)
     (h : s0.Keeps s) : s0.Keeps (sweepNow who bins folded s) := by
  unfold sweepNow
  try dsimp only
  repeat' (first | with_reducible assumption | intro _ | with_reducible apply State.Keeps.foldl |
                 with_reducible apply State.fmCmd_keeps | with_reducible apply Machine.onPort_keeps |
                 with_reducible apply State.bumpFld_keeps | with_reducible apply State.sentSweep_keeps |
                 with_reducible apply State.takeSweep_keeps | simp only [State.Keeps.mk1] | simp only [State.Keeps.mk2] |
                 simp only [State.Keeps.mk3] | split)

theorem baselineTake_keeps {s0 : State} (who : Who) (s : State) (h : s0.Keeps s) : s0.Keeps (baselineTake who s) := by
  unfold baselineTake
  try dsimp only
  repeat' (first | with_reducible assumption | intro _ | with_reducible apply State.Keeps.foldl |
                 with_reducible apply State.fmCmd_keeps | with_reducible apply Machine.onPort_keeps | simp only [State.Keeps.mk1] |
                 simp only [State.Keeps.mk2] | simp only [State.Keeps.mk3] | split)

theorem rangingSet_keeps {s0 : State} (who : Who) (s : State) (h : s0.Keeps s) : s0.Keeps (rangingSet who s) := by
  unfold rangingSet
  try dsimp only
  repeat' (first | with_reducible assumption | intro _ | with_reducible apply State.Keeps.foldl |
                 with_reducible apply State.fmCmd_keeps | with_reducible apply State.beginSet_keeps | simp only [State.Keeps.mk1] |
                 simp only [State.Keeps.mk2] | simp only [State.Keeps.mk3] | split)

theorem evidenceRelease_keeps {s0 : State} (who : Who) (s : State) (h : s0.Keeps s) : s0.Keeps (evidenceRelease who s) := by
  unfold evidenceRelease
  try dsimp only
  repeat' (first | with_reducible assumption | intro _ | with_reducible apply State.Keeps.foldl |
                 with_reducible apply State.fmCmd_keeps | simp only [State.Keeps.mk1] | simp only [State.Keeps.mk2] |
                 simp only [State.Keeps.mk3] | split)

theorem State.setUpChannel_keeps {s0 : State} (s : State) (ch : Nat) (h : s0.Keeps s) : s0.Keeps (State.setUpChannel s ch) := by
  unfold State.setUpChannel
  try dsimp only
  repeat' (first | with_reducible assumption | intro _ | with_reducible apply State.Keeps.foldl |
                 with_reducible apply State.putGsCfg_keeps | simp only [State.Keeps.mk1] | simp only [State.Keeps.mk2] |
                 simp only [State.Keeps.mk3] | split)

theorem State.noteSweep_keeps {s0 : State} (s : State) (p : Nat) (h : s0.Keeps s) : s0.Keeps (State.noteSweep s p) := by
  unfold State.noteSweep
  try dsimp only
  repeat' (first | with_reducible assumption | intro _ | with_reducible apply State.Keeps.foldl | simp only [State.Keeps.mk1] |
                 simp only [State.Keeps.mk2] | simp only [State.Keeps.mk3] | split)

theorem reflectometrySweep_keeps {s0 : State} (port : Nat) (bins : List (Int × Int)) (full : Bool) (folded : Bool) (s : State)
     (h : s0.Keeps s) : s0.Keeps (reflectometrySweep port bins full folded s) := by
  unfold reflectometrySweep
  try dsimp only
  repeat' (first | with_reducible assumption | intro _ | with_reducible apply State.Keeps.foldl |
                 with_reducible apply State.noteSweep_keeps | with_reducible apply State.bumpFld_keeps |
                 with_reducible apply State.sentSweep_keeps | with_reducible apply State.takeSweep_keeps |
                 simp only [State.Keeps.mk1] | simp only [State.Keeps.mk2] | simp only [State.Keeps.mk3] | split)

theorem balanceIntervalEnd_keeps {s0 : State} (energies : List (Nat × Int × Int)) (s : State)
     (h : s0.Keeps s) : s0.Keeps (balanceIntervalEnd energies s) := by
  unfold balanceIntervalEnd
  try dsimp only
  repeat' (first | with_reducible assumption | intro _ | with_reducible apply State.Keeps.foldl |
                 with_reducible apply State.balancePoints_keeps | with_reducible apply State.drew_keeps | simp only [State.Keeps.mk1] |
                 simp only [State.Keeps.mk2] | simp only [State.Keeps.mk3] | split)

theorem State.freshDwell_keeps {s0 : State} (s : State) (pair : Nat) (h : s0.Keeps s) : s0.Keeps (State.freshDwell s pair) := by
  unfold State.freshDwell
  try dsimp only
  repeat' (first | with_reducible assumption | intro _ | with_reducible apply State.Keeps.foldl | simp only [State.Keeps.mk1] |
                 simp only [State.Keeps.mk2] | simp only [State.Keeps.mk3] | split)

theorem balanceDwellEnd_keeps {s0 : State} (pair : Nat) (sum : Int) (n : Nat) (s : State)
     (h : s0.Keeps s) : s0.Keeps (balanceDwellEnd pair sum n s) := by
  unfold balanceDwellEnd
  try dsimp only
  repeat' (first | with_reducible assumption | intro _ | with_reducible apply State.Keeps.foldl |
                 with_reducible apply State.freshDwell_keeps | simp only [State.Keeps.mk1] | simp only [State.Keeps.mk2] |
                 simp only [State.Keeps.mk3] | split)

theorem meterRead_keeps {s0 : State} (saddr : Nat) (regs : List (Nat × Nat × Nat)) (s : State)
     (h : s0.Keeps s) : s0.Keeps (meterRead saddr regs s) := by
  unfold meterRead
  try dsimp only
  repeat' (first | with_reducible assumption | intro _ | with_reducible apply State.Keeps.foldl | simp only [State.Keeps.mk1] |
                 simp only [State.Keeps.mk2] | simp only [State.Keeps.mk3] | split)

theorem rangeResp_keeps {s0 : State} (saddr : Nat) (rid : Nat) (turn : Nat) (req : Stamp) (ack : Stamp) (eps : Int) (s : State)
     (h : s0.Keeps s) : s0.Keeps (rangeResp saddr rid turn req ack eps s) := by
  unfold rangeResp
  try dsimp only
  repeat' (first | with_reducible assumption | intro _ | with_reducible apply State.Keeps.foldl |
                 with_reducible apply State.nextExchange_keeps | simp only [State.Keeps.mk1] | simp only [State.Keeps.mk2] |
                 simp only [State.Keeps.mk3] | split)

theorem balancePointChange_keeps {s0 : State} (pair : Nat) (s : State) (h : s0.Keeps s) : s0.Keeps (balancePointChange pair s) := by
  unfold balancePointChange
  try dsimp only
  repeat' (first | with_reducible assumption | intro _ | with_reducible apply State.Keeps.foldl |
                 with_reducible apply State.setUpChannel_keeps | with_reducible apply State.setReg_keeps |
                 with_reducible apply State.freshDwell_keeps | simp only [State.Keeps.mk1] | simp only [State.Keeps.mk2] |
                 simp only [State.Keeps.mk3] | split)

theorem rangingExchangeTimeout_keeps {s0 : State} (saddr : Nat) (rid : Nat) (s : State)
     (h : s0.Keeps s) : s0.Keeps (rangingExchangeTimeout saddr rid s) := by
  unfold rangingExchangeTimeout
  try dsimp only
  repeat' (first | with_reducible assumption | intro _ | with_reducible apply State.Keeps.foldl |
                 with_reducible apply State.nextExchange_keeps | simp only [State.Keeps.mk1] | simp only [State.Keeps.mk2] |
                 simp only [State.Keeps.mk3] | split)

end Sys2Proof.Machine
end

