-- ==== Sys2Proof/Laws/Keeps/Flags.lean ====
section
/-! SUPPORT. What no function of Machine/Flags.lean undoes (State.Keeps). -/

namespace Sys2Proof.Machine

open Sys2Proof

set_option linter.unreachableTactic false
set_option linter.unusedTactic false

theorem State.orAsat_keeps {s0 : State} (s : State) (k : Nat) (b : Bool) (h : s0.Keeps s) : s0.Keeps (State.orAsat s k b) := by
  unfold State.orAsat
  try dsimp only
  repeat' (first | with_reducible assumption | intro _ | with_reducible apply State.Keeps.foldl |
                 with_reducible apply State.setCtx_keeps | simp only [State.Keeps.mk1] | simp only [State.Keeps.mk2] |
                 simp only [State.Keeps.mk3] | split)

end Sys2Proof.Machine
end

