-- ==== Sys2Proof/Laws/Keeps/Guyline.lean ====
section
/-! SUPPORT. What no function of Machine/Guyline.lean undoes (State.Keeps). -/

namespace Sys2Proof.Machine

open Sys2Proof

set_option linter.unreachableTactic false
set_option linter.unusedTactic false

theorem State.sendLeaves_keeps {s0 : State} (s : State) (x1 : List Nat) (h : s0.Keeps s) : s0.Keeps (State.sendLeaves s x1) := by
  induction x1 generalizing s with
  | nil =>
    unfold State.sendLeaves
    try dsimp only
    repeat' (first | with_reducible assumption | intro _ | with_reducible apply State.Keeps.foldl | with_reducible apply ih |
                   with_reducible apply State.glControlOn_keeps | simp only [State.Keeps.mk1] | simp only [State.Keeps.mk2] |
                   simp only [State.Keeps.mk3] | (split <;> try (rename_i hq; injection hq with hq1 hq2; subst hq1; subst hq2)))
  | cons _ _ ih =>
    unfold State.sendLeaves
    try dsimp only
    repeat' (first | with_reducible assumption | intro _ | with_reducible apply State.Keeps.foldl | with_reducible apply ih |
                   with_reducible apply State.glControlOn_keeps | simp only [State.Keeps.mk1] | simp only [State.Keeps.mk2] |
                   simp only [State.Keeps.mk3] | (split <;> try (rename_i hq; injection hq with hq1 hq2; subst hq1; subst hq2)))

theorem State.closeLinks_keeps {s0 : State} (s : State) (x1 : List Nat) (h : s0.Keeps s) : s0.Keeps (State.closeLinks s x1) := by
  induction x1 generalizing s with
  | nil =>
    unfold State.closeLinks
    try dsimp only
    repeat' (first | with_reducible assumption | intro _ | with_reducible apply State.Keeps.foldl | with_reducible apply ih |
                   with_reducible apply State.setGlQueue_keeps | with_reducible apply State.dropPeers_keeps |
                   with_reducible apply State.setLink_keeps | simp only [State.Keeps.mk1] | simp only [State.Keeps.mk2] |
                   simp only [State.Keeps.mk3] | (split <;> try (rename_i hq; injection hq with hq1 hq2; subst hq1; subst hq2)))
  | cons _ _ ih =>
    unfold State.closeLinks
    try dsimp only
    repeat' (first | with_reducible assumption | intro _ | with_reducible apply State.Keeps.foldl | with_reducible apply ih |
                   with_reducible apply State.setGlQueue_keeps | with_reducible apply State.dropPeers_keeps |
                   with_reducible apply State.setLink_keeps | simp only [State.Keeps.mk1] | simp only [State.Keeps.mk2] |
                   simp only [State.Keeps.mk3] | (split <;> try (rename_i hq; injection hq with hq1 hq2; subst hq1; subst hq2)))

theorem State.setGlState_keeps {s0 : State} (s : State) (n : Nat) (h : s0.Keeps s) : s0.Keeps (State.setGlState s n) := by
  unfold State.setGlState
  try dsimp only
  repeat' (first | with_reducible assumption | intro _ | with_reducible apply State.Keeps.foldl |
                 with_reducible apply State.setFld_keeps | simp only [State.Keeps.mk1] | simp only [State.Keeps.mk2] |
                 simp only [State.Keeps.mk3] | split)

theorem State.leaveNet_keeps {s0 : State} (s : State) (h : s0.Keeps s) : s0.Keeps (State.leaveNet s) := by
  unfold State.leaveNet
  try dsimp only
  repeat' (first | with_reducible assumption | intro _ | with_reducible apply State.Keeps.foldl |
                 with_reducible apply State.sendLeaves_keeps | with_reducible apply State.closeLinks_keeps |
                 with_reducible apply State.setGlState_keeps | with_reducible apply Machine.sourceLost_keeps |
                 with_reducible apply State.drew_keeps | with_reducible apply State.startDrains_keeps |
                 with_reducible apply State.setFld_keeps | simp only [State.Keeps.mk1] | simp only [State.Keeps.mk2] |
                 simp only [State.Keeps.mk3] | split)

theorem State.takeTraffic_keeps {s0 : State} (s : State) (eui : Nat) (svc : Nat) (seq : Nat) (len : Nat) (line : Stamp)
     (h : s0.Keeps s) : s0.Keeps (State.takeTraffic s eui svc seq len line) := by
  unfold State.takeTraffic
  try dsimp only
  repeat' (first | with_reducible assumption | intro _ | with_reducible apply State.Keeps.foldl |
                 with_reducible apply State.judgeFrame_keeps | simp only [State.Keeps.mk1] | simp only [State.Keeps.mk2] |
                 simp only [State.Keeps.mk3] | split)

theorem State.trainLinks_keeps {s0 : State} (s : State) (x1 : List Nat) (h : s0.Keeps s) : s0.Keeps (State.trainLinks s x1) := by
  induction x1 generalizing s with
  | nil =>
    unfold State.trainLinks
    try dsimp only
    repeat' (first | with_reducible assumption | intro _ | with_reducible apply State.Keeps.foldl | with_reducible apply ih |
                   with_reducible apply State.setLink_keeps | simp only [State.Keeps.mk1] | simp only [State.Keeps.mk2] |
                   simp only [State.Keeps.mk3] | (split <;> try (rename_i hq; injection hq with hq1 hq2; subst hq1; subst hq2)))
  | cons _ _ ih =>
    unfold State.trainLinks
    try dsimp only
    repeat' (first | with_reducible assumption | intro _ | with_reducible apply State.Keeps.foldl | with_reducible apply ih |
                   with_reducible apply State.setLink_keeps | simp only [State.Keeps.mk1] | simp only [State.Keeps.mk2] |
                   simp only [State.Keeps.mk3] | (split <;> try (rename_i hq; injection hq with hq1 hq2; subst hq1; subst hq2)))

theorem State.dropQueue_keeps {s0 : State} (s : State) (l : Nat) (h : s0.Keeps s) : s0.Keeps (State.dropQueue s l) := by
  unfold State.dropQueue
  try dsimp only
  repeat' (first | with_reducible assumption | intro _ | with_reducible apply State.Keeps.foldl |
                 with_reducible apply State.glRoute_keeps | with_reducible apply State.setGlQueue_keeps | simp only [State.Keeps.mk1] |
                 simp only [State.Keeps.mk2] | simp only [State.Keeps.mk3] | split)

theorem State.askToJoin_keeps {s0 : State} (s : State) (l : Nat) (p : GPeer) (h : s0.Keeps s) : s0.Keeps (State.askToJoin s l p) := by
  unfold State.askToJoin
  try dsimp only
  repeat' (first | with_reducible assumption | intro _ | with_reducible apply State.Keeps.foldl |
                 with_reducible apply State.glControlOn_keeps | simp only [State.Keeps.mk1] | simp only [State.Keeps.mk2] |
                 simp only [State.Keeps.mk3] | split)

theorem State.search_keeps {s0 : State} (s : State) (n : Nat) (failed : Bool) (x3 : Nat)
     (h : s0.Keeps s) : s0.Keeps (State.search s n failed x3) := by
  induction x3 generalizing s n failed with
  | zero =>
    unfold State.search
    try dsimp only
    repeat' (first | with_reducible assumption | intro _ | with_reducible apply State.Keeps.foldl | with_reducible apply ih |
                   with_reducible apply State.event_keeps | with_reducible apply State.setGlState_keeps |
                   with_reducible apply State.askToJoin_keeps | with_reducible apply State.setFld_keeps | simp only [State.Keeps.mk1] |
                   simp only [State.Keeps.mk2] | simp only [State.Keeps.mk3] | split)
  | succ _ ih =>
    unfold State.search
    try dsimp only
    repeat' (first | with_reducible assumption | intro _ | with_reducible apply State.Keeps.foldl | with_reducible apply ih |
                   with_reducible apply State.event_keeps | with_reducible apply State.setGlState_keeps |
                   with_reducible apply State.askToJoin_keeps | with_reducible apply State.setFld_keeps | simp only [State.Keeps.mk1] |
                   simp only [State.Keeps.mk2] | simp only [State.Keeps.mk3] | split)

theorem State.tryJoin_keeps {s0 : State} (s : State) (h : s0.Keeps s) : s0.Keeps (State.tryJoin s) := by
  unfold State.tryJoin
  try dsimp only
  repeat' (first | with_reducible assumption | intro _ | with_reducible apply State.Keeps.foldl |
                 with_reducible apply State.search_keeps | simp only [State.Keeps.mk1] | simp only [State.Keeps.mk2] |
                 simp only [State.Keeps.mk3] | split)

theorem State.loseParent_keeps {s0 : State} (s : State) (h : s0.Keeps s) : s0.Keeps (State.loseParent s) := by
  unfold State.loseParent
  try dsimp only
  repeat' (first | with_reducible assumption | intro _ | with_reducible apply State.Keeps.foldl |
                 with_reducible apply State.event_keeps | with_reducible apply State.setFld_keeps |
                 with_reducible apply State.setGlState_keeps | with_reducible apply State.tryJoin_keeps |
                 with_reducible apply Machine.sourceLost_keeps | with_reducible apply State.drew_keeps | simp only [State.Keeps.mk1] |
                 simp only [State.Keeps.mk2] | simp only [State.Keeps.mk3] | split)

theorem State.tellParent_keeps {s0 : State} (s : State) (added : List Nat) (removed : List Nat)
     (h : s0.Keeps s) : s0.Keeps (State.tellParent s added removed) := by
  unfold State.tellParent
  try dsimp only
  repeat' (first | with_reducible assumption | intro _ | with_reducible apply State.Keeps.foldl |
                 with_reducible apply State.glControlOn_keeps | simp only [State.Keeps.mk1] | simp only [State.Keeps.mk2] |
                 simp only [State.Keeps.mk3] | split)

theorem State.noteMembers_keeps {s0 : State} (s : State) (added : List Nat) (removed : List Nat)
     (h : s0.Keeps s) : s0.Keeps (State.noteMembers s added removed) := by
  unfold State.noteMembers
  try dsimp only
  repeat' (first | with_reducible assumption | intro _ | with_reducible apply State.Keeps.foldl |
                 with_reducible apply State.setReg_keeps | simp only [State.Keeps.mk1] | simp only [State.Keeps.mk2] |
                 simp only [State.Keeps.mk3] | split)

theorem State.dropRoutes_keeps {s0 : State} (s : State) (x1 : List Nat) (h : s0.Keeps s) : s0.Keeps (State.dropRoutes s x1) := by
  induction x1 generalizing s with
  | nil =>
    unfold State.dropRoutes
    try dsimp only
    repeat' (first | with_reducible assumption | intro _ | with_reducible apply State.Keeps.foldl | with_reducible apply ih |
                   simp only [State.Keeps.mk1] | simp only [State.Keeps.mk2] | simp only [State.Keeps.mk3] |
                   (split <;> try (rename_i hq; injection hq with hq1 hq2; subst hq1; subst hq2)))
  | cons _ _ ih =>
    unfold State.dropRoutes
    try dsimp only
    repeat' (first | with_reducible assumption | intro _ | with_reducible apply State.Keeps.foldl | with_reducible apply ih |
                   simp only [State.Keeps.mk1] | simp only [State.Keeps.mk2] | simp only [State.Keeps.mk3] |
                   (split <;> try (rename_i hq; injection hq with hq1 hq2; subst hq1; subst hq2)))

theorem State.dropChild_keeps {s0 : State} (s : State) (l : Nat) (h : s0.Keeps s) : s0.Keeps (State.dropChild s l) := by
  unfold State.dropChild
  try dsimp only
  repeat' (first | with_reducible assumption | intro _ | with_reducible apply State.Keeps.foldl |
                 with_reducible apply State.tellParent_keeps | with_reducible apply State.noteMembers_keeps |
                 with_reducible apply State.dropRoutes_keeps | simp only [State.Keeps.mk1] | simp only [State.Keeps.mk2] |
                 simp only [State.Keeps.mk3] | split)

theorem State.linkLost_keeps {s0 : State} (s : State) (l : Nat) (h : s0.Keeps s) : s0.Keeps (State.linkLost s l) := by
  unfold State.linkLost
  try dsimp only
  repeat' (first | with_reducible assumption | intro _ | with_reducible apply State.Keeps.foldl |
                 with_reducible apply State.setFld_keeps | with_reducible apply State.setLink_keeps |
                 with_reducible apply State.dropQueue_keeps | with_reducible apply State.dropPeers_keeps |
                 with_reducible apply State.loseParent_keeps | with_reducible apply State.dropChild_keeps |
                 with_reducible apply State.tryJoin_keeps | simp only [State.Keeps.mk1] | simp only [State.Keeps.mk2] |
                 simp only [State.Keeps.mk3] | split)

theorem State.setL_keeps {s0 : State} (s : State) (lNs : Nat) (h : s0.Keeps s) : s0.Keeps (State.setL s lNs) := by
  unfold State.setL
  try dsimp only
  repeat' (first | with_reducible assumption | intro _ | with_reducible apply State.Keeps.foldl |
                 with_reducible apply State.setReg_keeps | with_reducible apply State.drew_keeps | simp only [State.Keeps.mk1] |
                 simp only [State.Keeps.mk2] | simp only [State.Keeps.mk3] | split)

theorem State.beginJoin_keeps {s0 : State} (s : State) (h : s0.Keeps s) : s0.Keeps (State.beginJoin s) := by
  unfold State.beginJoin
  try dsimp only
  repeat' (first | with_reducible assumption | intro _ | with_reducible apply State.Keeps.foldl |
                 with_reducible apply State.trainLinks_keeps | with_reducible apply State.noteMembers_keeps |
                 with_reducible apply State.setFld_keeps | with_reducible apply State.setL_keeps |
                 with_reducible apply State.setGlState_keeps | simp only [State.Keeps.mk1] | simp only [State.Keeps.mk2] |
                 simp only [State.Keeps.mk3] | split)

theorem State.writeGlCfg_keeps {s0 : State} (s : State) (who : Who) (value : Word)
     (h : s0.Keeps s) : s0.Keeps (State.writeGlCfg s who value) := by
  unfold State.writeGlCfg
  try dsimp only
  repeat' (first | with_reducible assumption | intro _ | with_reducible apply State.Keeps.foldl |
                 with_reducible apply State.gated_keeps | with_reducible apply State.setReg_keeps |
                 with_reducible apply State.event_keeps | with_reducible apply State.trainLinks_keeps |
                 with_reducible apply State.dropPeers_keeps | with_reducible apply State.setLink_keeps |
                 with_reducible apply State.linkLost_keeps | with_reducible apply State.beginJoin_keeps |
                 with_reducible apply State.leaveNet_keeps | simp only [State.Keeps.mk1] | simp only [State.Keeps.mk2] |
                 simp only [State.Keeps.mk3] | split)

theorem hello_keeps {s0 : State} (link : Nat) (index : Nat) (gnid : Nat) (l : Nat) (root : Bool) (joined : Bool) (nonce : Nat)
     (credits : Nat) (s : State) (h : s0.Keeps s) : s0.Keeps (hello link index gnid l root joined nonce credits s) := by
  unfold hello
  try dsimp only
  repeat' (first | with_reducible assumption | intro _ | with_reducible apply State.Keeps.foldl |
                 with_reducible apply State.setLink_keeps | with_reducible apply State.setPeer_keeps |
                 with_reducible apply State.event_keeps | with_reducible apply State.tryJoin_keeps |
                 with_reducible apply State.glGrant_keeps | simp only [State.Keeps.mk1] | simp only [State.Keeps.mk2] |
                 simp only [State.Keeps.mk3] | split)

theorem glLeave_keeps {s0 : State} (who : Who) (value : Word) (s : State) (h : s0.Keeps s) : s0.Keeps (glLeave who value s) := by
  unfold glLeave
  try dsimp only
  repeat' (first | with_reducible assumption | intro _ | with_reducible apply State.Keeps.foldl |
                 with_reducible apply State.writeGlCfg_keeps | simp only [State.Keeps.mk1] | simp only [State.Keeps.mk2] |
                 simp only [State.Keeps.mk3] | split)

theorem State.sendHello_keeps {s0 : State} (s : State) (l : Nat) (h : s0.Keeps s) : s0.Keeps (State.sendHello s l) := by
  unfold State.sendHello
  try dsimp only
  repeat' (first | with_reducible assumption | intro _ | with_reducible apply State.Keeps.foldl |
                 with_reducible apply State.drew_keeps | with_reducible apply State.glEmit_keeps | simp only [State.Keeps.mk1] |
                 simp only [State.Keeps.mk2] | simp only [State.Keeps.mk3] | split)

theorem State.glAck_keeps {s0 : State} (s : State) (link : Option Nat) (src : Nat) (mseq : Nat)
     (h : s0.Keeps s) : s0.Keeps (State.glAck s link src mseq) := by
  unfold State.glAck
  try dsimp only
  repeat' (first | with_reducible assumption | intro _ | with_reducible apply State.Keeps.foldl |
                 with_reducible apply State.glEmit_keeps | with_reducible apply State.glRoute_keeps | simp only [State.Keeps.mk1] |
                 simp only [State.Keeps.mk2] | simp only [State.Keeps.mk3] | split)

theorem State.onControl_keeps {s0 : State} (s : State) (link : Option Nat) (src : Nat) (mseq : Nat) (f : State → State)
     (h_f : ∀ y0, s0.Keeps y0 → s0.Keeps (f y0)) (h : s0.Keeps s) : s0.Keeps (State.onControl s link src mseq f) := by
  unfold State.onControl
  try dsimp only
  repeat' (first | with_reducible assumption | intro _ | with_reducible apply State.Keeps.foldl | with_reducible apply h_f |
                 with_reducible apply State.glAck_keeps | simp only [State.Keeps.mk1] | simp only [State.Keeps.mk2] |
                 simp only [State.Keeps.mk3] | split)

theorem State.childTime_keeps {s0 : State} (s : State) (l : Nat) (h : s0.Keeps s) : s0.Keeps (State.childTime s l) := by
  unfold State.childTime
  try dsimp only
  repeat' (first | with_reducible assumption | intro _ | with_reducible apply State.Keeps.foldl |
                 with_reducible apply State.glEmit_keeps | simp only [State.Keeps.mk1] | simp only [State.Keeps.mk2] |
                 simp only [State.Keeps.mk3] | split)

theorem guylineLeave_keeps {s0 : State} (link : Nat) (src : Nat) (mseq : Nat) (s : State)
     (h : s0.Keeps s) : s0.Keeps (guylineLeave link src mseq s) := by
  unfold guylineLeave
  try dsimp only
  repeat' (first | with_reducible assumption | intro _ | with_reducible apply State.Keeps.foldl |
                 with_reducible apply State.onControl_keeps | with_reducible apply State.setPeer_keeps |
                 with_reducible apply State.loseParent_keeps | with_reducible apply State.setLink_keeps |
                 with_reducible apply State.dropChild_keeps | with_reducible apply State.tellParent_keeps |
                 with_reducible apply State.noteMembers_keeps | with_reducible apply State.dropRoutes_keeps |
                 simp only [State.Keeps.mk1] | simp only [State.Keeps.mk2] | simp only [State.Keeps.mk3] | split)

theorem State.refuse_keeps {s0 : State} (s : State) (link : Nat) (src : Nat) (index : Nat) (st : Status) (dup : Bool)
     (h : s0.Keeps s) : s0.Keeps (State.refuse s link src index st dup) := by
  unfold State.refuse
  try dsimp only
  repeat' (first | with_reducible assumption | intro _ | with_reducible apply State.Keeps.foldl |
                 with_reducible apply State.setFld_keeps | with_reducible apply State.glControlOn_keeps | simp only [State.Keeps.mk1] |
                 simp only [State.Keeps.mk2] | simp only [State.Keeps.mk3] | split)

theorem State.glDrops_keeps {s0 : State} (s : State) (x1 : Nat) (h : s0.Keeps s) : s0.Keeps (State.glDrops s x1) := by
  induction x1 generalizing s with
  | zero =>
    unfold State.glDrops
    try dsimp only
    repeat' (first | with_reducible assumption | intro _ | with_reducible apply State.Keeps.foldl | with_reducible apply ih |
                   with_reducible apply State.glDrop_keeps | simp only [State.Keeps.mk1] | simp only [State.Keeps.mk2] |
                   simp only [State.Keeps.mk3] | split)
  | succ _ ih =>
    unfold State.glDrops
    try dsimp only
    repeat' (first | with_reducible assumption | intro _ | with_reducible apply State.Keeps.foldl | with_reducible apply ih |
                   with_reducible apply State.glDrop_keeps | simp only [State.Keeps.mk1] | simp only [State.Keeps.mk2] |
                   simp only [State.Keeps.mk3] | split)

theorem State.sendHellos_keeps {s0 : State} (s : State) (x1 : List Nat) (h : s0.Keeps s) : s0.Keeps (State.sendHellos s x1) := by
  induction x1 generalizing s with
  | nil =>
    unfold State.sendHellos
    try dsimp only
    repeat' (first | with_reducible assumption | intro _ | with_reducible apply State.Keeps.foldl | with_reducible apply ih |
                   with_reducible apply State.sendHello_keeps | simp only [State.Keeps.mk1] | simp only [State.Keeps.mk2] |
                   simp only [State.Keeps.mk3] | (split <;> try (rename_i hq; injection hq with hq1 hq2; subst hq1; subst hq2)))
  | cons _ _ ih =>
    unfold State.sendHellos
    try dsimp only
    repeat' (first | with_reducible assumption | intro _ | with_reducible apply State.Keeps.foldl | with_reducible apply ih |
                   with_reducible apply State.sendHello_keeps | simp only [State.Keeps.mk1] | simp only [State.Keeps.mk2] |
                   simp only [State.Keeps.mk3] | (split <;> try (rename_i hq; injection hq with hq1 hq2; subst hq1; subst hq2)))

theorem helloKeepalive_keeps {s0 : State} (s : State) (h : s0.Keeps s) : s0.Keeps (helloKeepalive s) := by
  unfold helloKeepalive
  try dsimp only
  repeat' (first | with_reducible assumption | intro _ | with_reducible apply State.Keeps.foldl |
                 with_reducible apply State.sendHellos_keeps | simp only [State.Keeps.mk1] | simp only [State.Keeps.mk2] |
                 simp only [State.Keeps.mk3] | split)

theorem State.sendTimes_keeps {s0 : State} (s : State) (x1 : List Nat) (h : s0.Keeps s) : s0.Keeps (State.sendTimes s x1) := by
  induction x1 generalizing s with
  | nil =>
    unfold State.sendTimes
    try dsimp only
    repeat' (first | with_reducible assumption | intro _ | with_reducible apply State.Keeps.foldl | with_reducible apply ih |
                   with_reducible apply State.glEmit_keeps | simp only [State.Keeps.mk1] | simp only [State.Keeps.mk2] |
                   simp only [State.Keeps.mk3] | (split <;> try (rename_i hq; injection hq with hq1 hq2; subst hq1; subst hq2)))
  | cons _ _ ih =>
    unfold State.sendTimes
    try dsimp only
    repeat' (first | with_reducible assumption | intro _ | with_reducible apply State.Keeps.foldl | with_reducible apply ih |
                   with_reducible apply State.glEmit_keeps | simp only [State.Keeps.mk1] | simp only [State.Keeps.mk2] |
                   simp only [State.Keeps.mk3] | (split <;> try (rename_i hq; injection hq with hq1 hq2; subst hq1; subst hq2)))

theorem timeFrameSend_keeps {s0 : State} (s : State) (h : s0.Keeps s) : s0.Keeps (timeFrameSend s) := by
  unfold timeFrameSend
  try dsimp only
  repeat' (first | with_reducible assumption | intro _ | with_reducible apply State.Keeps.foldl |
                 with_reducible apply State.sendTimes_keeps | simp only [State.Keeps.mk1] | simp only [State.Keeps.mk2] |
                 simp only [State.Keeps.mk3] | split)

theorem State.sendHeld_keeps {s0 : State} (s : State) (x1 : List (GFrame × Stamp)) (h : s0.Keeps s) : s0.Keeps (State.sendHeld s x1) := by
  induction x1 generalizing s with
  | nil =>
    unfold State.sendHeld
    try dsimp only
    repeat' (first | with_reducible assumption | intro _ | with_reducible apply State.Keeps.foldl | with_reducible apply ih |
                   with_reducible apply State.glRoute_keeps | simp only [State.Keeps.mk1] | simp only [State.Keeps.mk2] |
                   simp only [State.Keeps.mk3] | (split <;> try (rename_i hq; injection hq with hq1 hq2; subst hq1; subst hq2)))
  | cons _ _ ih =>
    unfold State.sendHeld
    try dsimp only
    repeat' (first | with_reducible assumption | intro _ | with_reducible apply State.Keeps.foldl | with_reducible apply ih |
                   with_reducible apply State.glRoute_keeps | simp only [State.Keeps.mk1] | simp only [State.Keeps.mk2] |
                   simp only [State.Keeps.mk3] | (split <;> try (rename_i hq; injection hq with hq1 hq2; subst hq1; subst hq2)))

theorem guylineAck_keeps {s0 : State} (mseq : Nat) (s : State) (h : s0.Keeps s) : s0.Keeps (guylineAck mseq s) := by
  unfold guylineAck
  try dsimp only
  repeat' (first | with_reducible assumption | intro _ | with_reducible apply State.Keeps.foldl | simp only [State.Keeps.mk1] |
                 simp only [State.Keeps.mk2] | simp only [State.Keeps.mk3] | split)

theorem State.askTime_keeps {s0 : State} (s : State) (l : Nat) (h : s0.Keeps s) : s0.Keeps (State.askTime s l) := by
  unfold State.askTime
  try dsimp only
  repeat' (first | with_reducible assumption | intro _ | with_reducible apply State.Keeps.foldl |
                 with_reducible apply State.glEmit_keeps | simp only [State.Keeps.mk1] | simp only [State.Keeps.mk2] |
                 simp only [State.Keeps.mk3] | split)

theorem joinRefuse_keeps {s0 : State} (link : Nat) (src : Nat) (mseq : Nat) (index : Nat) (st : Status) (dup : Bool) (s : State)
     (h : s0.Keeps s) : s0.Keeps (joinRefuse link src mseq index st dup s) := by
  unfold joinRefuse
  try dsimp only
  repeat' (first | with_reducible assumption | intro _ | with_reducible apply State.Keeps.foldl |
                 with_reducible apply State.onControl_keeps | with_reducible apply State.setFld_keeps |
                 with_reducible apply State.event_keeps | with_reducible apply State.glControlOn_keeps | simp only [State.Keeps.mk1] |
                 simp only [State.Keeps.mk2] | simp only [State.Keeps.mk3] | split)

theorem State.addRoutes_keeps {s0 : State} (s : State) (l : Nat) (x2 : List Nat)
     (h : s0.Keeps s) : s0.Keeps (State.addRoutes s l x2) := by
  induction x2 generalizing s l with
  | nil =>
    unfold State.addRoutes
    try dsimp only
    repeat' (first | with_reducible assumption | intro _ | with_reducible apply State.Keeps.foldl | with_reducible apply ih |
                   simp only [State.Keeps.mk1] | simp only [State.Keeps.mk2] | simp only [State.Keeps.mk3] |
                   (split <;> try (rename_i hq; injection hq with hq1 hq2; subst hq1; subst hq2)))
  | cons _ _ ih =>
    unfold State.addRoutes
    try dsimp only
    repeat' (first | with_reducible assumption | intro _ | with_reducible apply State.Keeps.foldl | with_reducible apply ih |
                   simp only [State.Keeps.mk1] | simp only [State.Keeps.mk2] | simp only [State.Keeps.mk3] |
                   (split <;> try (rename_i hq; injection hq with hq1 hq2; subst hq1; subst hq2)))

theorem State.takeChild_keeps {s0 : State} (s : State) (link : Nat) (index : Nat)
     (h : s0.Keeps s) : s0.Keeps (State.takeChild s link index) := by
  unfold State.takeChild
  try dsimp only
  repeat' (first | with_reducible assumption | intro _ | with_reducible apply State.Keeps.foldl |
                 with_reducible apply State.addRoutes_keeps | with_reducible apply State.setLink_keeps |
                 with_reducible apply State.setPeer_keeps | with_reducible apply State.keyLink_keeps | simp only [State.Keeps.mk1] |
                 simp only [State.Keeps.mk2] | simp only [State.Keeps.mk3] | split)

theorem State.judgeJoin_keeps {s0 : State} (s : State) (link : Nat) (src : Nat) (index : Nat) (parent : Nat)
     (h : s0.Keeps s) : s0.Keeps (State.judgeJoin s link src index parent) := by
  unfold State.judgeJoin
  try dsimp only
  repeat' (first | with_reducible assumption | intro _ | with_reducible apply State.Keeps.foldl |
                 with_reducible apply State.refuse_keeps | with_reducible apply State.noteMembers_keeps |
                 with_reducible apply State.glControlOn_keeps | with_reducible apply State.takeChild_keeps |
                 simp only [State.Keeps.mk1] | simp only [State.Keeps.mk2] | simp only [State.Keeps.mk3] | split)

theorem joinReq_keeps {s0 : State} (link : Nat) (src : Nat) (mseq : Nat) (index : Nat) (parent : Nat) (s : State)
     (h : s0.Keeps s) : s0.Keeps (joinReq link src mseq index parent s) := by
  unfold joinReq
  try dsimp only
  repeat' (first | with_reducible assumption | intro _ | with_reducible apply State.Keeps.foldl |
                 with_reducible apply State.onControl_keeps | with_reducible apply State.refuse_keeps |
                 with_reducible apply State.judgeJoin_keeps | with_reducible apply State.glControlOn_keeps |
                 simp only [State.Keeps.mk1] | simp only [State.Keeps.mk2] | simp only [State.Keeps.mk3] | split)

theorem glJoin_keeps {s0 : State} (who : Who) (value : Word) (s : State) (h : s0.Keeps s) : s0.Keeps (glJoin who value s) := by
  unfold glJoin
  try dsimp only
  repeat' (first | with_reducible assumption | intro _ | with_reducible apply State.Keeps.foldl |
                 with_reducible apply State.writeGlCfg_keeps | simp only [State.Keeps.mk1] | simp only [State.Keeps.mk2] |
                 simp only [State.Keeps.mk3] | split)

theorem State.routesBack_keeps {s0 : State} (s : State) (h : s0.Keeps s) : s0.Keeps (State.routesBack s) := by
  unfold State.routesBack
  try dsimp only
  repeat' (first | with_reducible assumption | intro _ | with_reducible apply State.Keeps.foldl |
                 with_reducible apply State.sendHeld_keeps | simp only [State.Keeps.mk1] | simp only [State.Keeps.mk2] |
                 simp only [State.Keeps.mk3] | split)

theorem State.tellChildren_keeps {s0 : State} (s : State) (x1 : List Nat) (h : s0.Keeps s) : s0.Keeps (State.tellChildren s x1) := by
  induction x1 generalizing s with
  | nil =>
    unfold State.tellChildren
    try dsimp only
    repeat' (first | with_reducible assumption | intro _ | with_reducible apply State.Keeps.foldl | with_reducible apply ih |
                   with_reducible apply State.glControlOn_keeps | simp only [State.Keeps.mk1] | simp only [State.Keeps.mk2] |
                   simp only [State.Keeps.mk3] | (split <;> try (rename_i hq; injection hq with hq1 hq2; subst hq1; subst hq2)))
  | cons _ _ ih =>
    unfold State.tellChildren
    try dsimp only
    repeat' (first | with_reducible assumption | intro _ | with_reducible apply State.Keeps.foldl | with_reducible apply ih |
                   with_reducible apply State.glControlOn_keeps | simp only [State.Keeps.mk1] | simp only [State.Keeps.mk2] |
                   simp only [State.Keeps.mk3] | (split <;> try (rename_i hq; injection hq with hq1 hq2; subst hq1; subst hq2)))

theorem route_keeps {s0 : State} (link : Nat) (src : Nat) (mseq : Nat) (added : List Nat) (removed : List Nat) (l : Nat) (s : State)
     (h : s0.Keeps s) : s0.Keeps (route link src mseq added removed l s) := by
  unfold route
  try dsimp only
  repeat' (first | with_reducible assumption | intro _ | with_reducible apply State.Keeps.foldl |
                 with_reducible apply State.onControl_keeps | with_reducible apply State.tellParent_keeps |
                 with_reducible apply State.noteMembers_keeps | with_reducible apply State.addRoutes_keeps |
                 with_reducible apply State.dropRoutes_keeps | with_reducible apply State.routesBack_keeps |
                 with_reducible apply State.setPeer_keeps | with_reducible apply State.setL_keeps |
                 with_reducible apply State.tellChildren_keeps | with_reducible apply State.loseParent_keeps |
                 with_reducible apply State.setLink_keeps | simp only [State.Keeps.mk1] | simp only [State.Keeps.mk2] |
                 simp only [State.Keeps.mk3] | split)

theorem routeHoldTimeout_keeps {s0 : State} (s : State) (h : s0.Keeps s) : s0.Keeps (routeHoldTimeout s) := by
  unfold routeHoldTimeout
  try dsimp only
  repeat' (first | with_reducible assumption | intro _ | with_reducible apply State.Keeps.foldl |
                 with_reducible apply State.glDrops_keeps | simp only [State.Keeps.mk1] | simp only [State.Keeps.mk2] |
                 simp only [State.Keeps.mk3] | split)

theorem joinRetry_keeps {s0 : State} (s : State) (h : s0.Keeps s) : s0.Keeps (joinRetry s) := by
  unfold joinRetry
  try dsimp only
  repeat' (first | with_reducible assumption | intro _ | with_reducible apply State.Keeps.foldl |
                 with_reducible apply State.tryJoin_keeps | simp only [State.Keeps.mk1] | simp only [State.Keeps.mk2] |
                 simp only [State.Keeps.mk3] | split)

theorem State.resendMsg_keeps {s0 : State} (s : State) (m : GSend) (h : s0.Keeps s) : s0.Keeps (State.resendMsg s m) := by
  unfold State.resendMsg
  try dsimp only
  repeat' (first | with_reducible assumption | intro _ | with_reducible apply State.Keeps.foldl |
                 with_reducible apply State.glEmit_keeps | with_reducible apply State.glRoute_keeps | simp only [State.Keeps.mk1] |
                 simp only [State.Keeps.mk2] | simp only [State.Keeps.mk3] | split)

theorem controlRepeat_keeps {s0 : State} (mseq : Nat) (s : State) (h : s0.Keeps s) : s0.Keeps (controlRepeat mseq s) := by
  unfold controlRepeat
  try dsimp only
  repeat' (first | with_reducible assumption | intro _ | with_reducible apply State.Keeps.foldl |
                 with_reducible apply State.resendMsg_keeps | simp only [State.Keeps.mk1] | simp only [State.Keeps.mk2] |
                 simp only [State.Keeps.mk3] | split)

theorem State.parented_keeps {s0 : State} (s : State) (link : Nat) (p : GPeer) (ancestors : List Nat) (members : Nat)
     (h : s0.Keeps s) : s0.Keeps (State.parented s link p ancestors members) := by
  unfold State.parented
  try dsimp only
  repeat' (first | with_reducible assumption | intro _ | with_reducible apply State.Keeps.foldl |
                 with_reducible apply State.setFld_keeps | with_reducible apply State.setGlState_keeps |
                 with_reducible apply State.setLink_keeps | with_reducible apply State.setL_keeps |
                 with_reducible apply State.setReg_keeps | with_reducible apply State.keyLink_keeps |
                 with_reducible apply State.event_keeps | with_reducible apply State.routesBack_keeps |
                 with_reducible apply State.tellChildren_keeps | with_reducible apply State.tellParent_keeps |
                 simp only [State.Keeps.mk1] | simp only [State.Keeps.mk2] | simp only [State.Keeps.mk3] | split)

theorem joinAck_keeps {s0 : State} (link : Nat) (src : Nat) (mseq : Nat) (index : Nat) (ancestors : List Nat) (members : Nat)
     (s : State) (h : s0.Keeps s) : s0.Keeps (joinAck link src mseq index ancestors members s) := by
  unfold joinAck
  try dsimp only
  repeat' (first | with_reducible assumption | intro _ | with_reducible apply State.Keeps.foldl |
                 with_reducible apply State.onControl_keeps | with_reducible apply State.parented_keeps |
                 with_reducible apply State.glControlOn_keeps | with_reducible apply State.setReg_keeps |
                 with_reducible apply State.takeChild_keeps | simp only [State.Keeps.mk1] | simp only [State.Keeps.mk2] |
                 simp only [State.Keeps.mk3] | split)

theorem State.parentTime_keeps {s0 : State} (s : State) (locked : Bool) (e : Nat) (offset : Int)
     (h : s0.Keeps s) : s0.Keeps (State.parentTime s locked e offset) := by
  unfold State.parentTime
  try dsimp only
  repeat' (first | with_reducible assumption | intro _ | with_reducible apply State.Keeps.foldl |
                 with_reducible apply State.noteValid_keeps | with_reducible apply State.measure_keeps | simp only [State.Keeps.mk1] |
                 simp only [State.Keeps.mk2] | simp only [State.Keeps.mk3] | split)

theorem timeFrame_keeps {s0 : State} (link : Nat) (locked : Bool) (e : Nat) (offset : Int) (s : State)
     (h : s0.Keeps s) : s0.Keeps (timeFrame link locked e offset s) := by
  unfold timeFrame
  try dsimp only
  repeat' (first | with_reducible assumption | intro _ | with_reducible apply State.Keeps.foldl |
                 with_reducible apply State.parentTime_keeps | with_reducible apply State.askTime_keeps |
                 with_reducible apply State.childTime_keeps | simp only [State.Keeps.mk1] | simp only [State.Keeps.mk2] |
                 simp only [State.Keeps.mk3] | split)

theorem parentBeaconMiss_keeps {s0 : State} (s : State) (h : s0.Keeps s) : s0.Keeps (parentBeaconMiss s) := by
  unfold parentBeaconMiss
  try dsimp only
  repeat' (first | with_reducible assumption | intro _ | with_reducible apply State.Keeps.foldl |
                 with_reducible apply State.loseParent_keeps | with_reducible apply State.setLink_keeps |
                 with_reducible apply State.tryJoin_keeps | simp only [State.Keeps.mk1] | simp only [State.Keeps.mk2] |
                 simp only [State.Keeps.mk3] | split)

theorem parentBeacon_keeps {s0 : State} (link : Nat) (index : Nat) (offset : Int) (s : State)
     (h : s0.Keeps s) : s0.Keeps (parentBeacon link index offset s) := by
  unfold parentBeacon
  try dsimp only
  repeat' (first | with_reducible assumption | intro _ | with_reducible apply State.Keeps.foldl |
                 with_reducible apply State.parentTime_keeps | with_reducible apply State.askTime_keeps |
                 with_reducible apply State.tryJoin_keeps | with_reducible apply State.setLink_keeps | simp only [State.Keeps.mk1] |
                 simp only [State.Keeps.mk2] | simp only [State.Keeps.mk3] | split)

theorem serdesLoss_keeps {s0 : State} (link : Nat) (s : State) (h : s0.Keeps s) : s0.Keeps (serdesLoss link s) := by
  unfold serdesLoss
  try dsimp only
  repeat' (first | with_reducible assumption | intro _ | with_reducible apply State.Keeps.foldl |
                 with_reducible apply State.linkLost_keeps | simp only [State.Keeps.mk1] | simp only [State.Keeps.mk2] |
                 simp only [State.Keeps.mk3] | split)

theorem serdesBlockLock_keeps {s0 : State} (link : Nat) (s : State) (h : s0.Keeps s) : s0.Keeps (serdesBlockLock link s) := by
  unfold serdesBlockLock
  try dsimp only
  repeat' (first | with_reducible assumption | intro _ | with_reducible apply State.Keeps.foldl |
                 with_reducible apply State.sendHello_keeps | with_reducible apply State.setLink_keeps | simp only [State.Keeps.mk1] |
                 simp only [State.Keeps.mk2] | simp only [State.Keeps.mk3] | split)

theorem lineLinkBeacon_keeps {s0 : State} (link : Nat) (windows : List (Nat × Nat × Nat)) (s : State)
     (h : s0.Keeps s) : s0.Keeps (lineLinkBeacon link windows s) := by
  unfold lineLinkBeacon
  try dsimp only
  repeat' (first | with_reducible assumption | intro _ | with_reducible apply State.Keeps.foldl |
                 with_reducible apply State.sendHello_keeps | with_reducible apply State.glEmit_keeps | simp only [State.Keeps.mk1] |
                 simp only [State.Keeps.mk2] | simp only [State.Keeps.mk3] | split)

theorem guylineFrameForward_keeps {s0 : State} (link : Nat) (f : GFrame) (tagOk : Bool) (x3 : State)
     (h : s0.Keeps x3) : s0.Keeps (guylineFrameForward link f tagOk x3) := by
  unfold guylineFrameForward
  try dsimp only
  repeat' (first | with_reducible assumption | intro _ | with_reducible apply State.Keeps.foldl |
                 with_reducible apply State.touchTag_keeps | with_reducible apply State.glDrop_keeps |
                 with_reducible apply State.takeTraffic_keeps | with_reducible apply State.glRoute_keeps |
                 simp only [State.Keeps.mk1] | simp only [State.Keeps.mk2] | simp only [State.Keeps.mk3] | split)

end Sys2Proof.Machine
end

