-- ==== Sys2Proof/Laws/Keeps/Nodes.lean ====
section
/-! SUPPORT. What no function of Machine/Nodes.lean undoes (State.Keeps). -/

namespace Sys2Proof.Machine

open Sys2Proof

set_option linter.unreachableTactic false
set_option linter.unusedTactic false

theorem State.routeSets_keeps {s0 : State} (s : State) (rid : Nat) (route : List Nat) (x3 : List Nat)
     (h : s0.Keeps s) : s0.Keeps (State.routeSets s rid route x3) := by
  induction x3 generalizing s rid route with
  | nil =>
    unfold State.routeSets
    try dsimp only
    repeat' (first | with_reducible assumption | intro _ | with_reducible apply State.Keeps.foldl | with_reducible apply ih |
                   with_reducible apply State.sendMgmt_keeps | simp only [State.Keeps.mk1] | simp only [State.Keeps.mk2] |
                   simp only [State.Keeps.mk3] | (split <;> try (rename_i hq; injection hq with hq1 hq2; subst hq1; subst hq2)))
  | cons _ _ ih =>
    unfold State.routeSets
    try dsimp only
    repeat' (first | with_reducible assumption | intro _ | with_reducible apply State.Keeps.foldl | with_reducible apply ih |
                   with_reducible apply State.sendMgmt_keeps | simp only [State.Keeps.mk1] | simp only [State.Keeps.mk2] |
                   simp only [State.Keeps.mk3] | (split <;> try (rename_i hq; injection hq with hq1 hq2; subst hq1; subst hq2)))

theorem State.giveRoute_keeps {s0 : State} (s : State) (a : Nat) (n : Node) (route : List Nat)
     (h : s0.Keeps s) : s0.Keeps (State.giveRoute s a n route) := by
  unfold State.giveRoute
  try dsimp only
  repeat' (first | with_reducible assumption | intro _ | with_reducible apply State.Keeps.foldl |
                 with_reducible apply State.setNode_keeps | with_reducible apply State.drew_keeps |
                 with_reducible apply State.routeSets_keeps | simp only [State.Keeps.mk1] | simp only [State.Keeps.mk2] |
                 simp only [State.Keeps.mk3] | split)

theorem rendezvousReq_keeps {s0 : State} (saddr : Nat) (drift : Nat) (pexp : Nat) (outPexp : Nat) (s : State)
     (h : s0.Keeps s) : s0.Keeps (rendezvousReq saddr drift pexp outPexp s) := by
  unfold rendezvousReq
  try dsimp only
  repeat' (first | with_reducible assumption | intro _ | with_reducible apply State.Keeps.foldl |
                 with_reducible apply State.sendSet_keeps | with_reducible apply State.setNode_keeps | simp only [State.Keeps.mk1] |
                 simp only [State.Keeps.mk2] | simp only [State.Keeps.mk3] | split)

theorem State.sendWake_keeps {s0 : State} (s : State) (a : Nat) (n : Node) (h : s0.Keeps s) : s0.Keeps (State.sendWake s a n) := by
  unfold State.sendWake
  try dsimp only
  repeat' (first | with_reducible assumption | intro _ | with_reducible apply State.Keeps.foldl |
                 with_reducible apply State.sendTo_keeps | with_reducible apply State.addFrame_keeps | simp only [State.Keeps.mk1] |
                 simp only [State.Keeps.mk2] | simp only [State.Keeps.mk3] | split)

theorem nodeWake_keeps {s0 : State} (who : Who) (s : State) (h : s0.Keeps s) : s0.Keeps (nodeWake who s) := by
  unfold nodeWake
  try dsimp only
  repeat' (first | with_reducible assumption | intro _ | with_reducible apply State.Keeps.foldl |
                 with_reducible apply State.nodeCmd_keeps | with_reducible apply Machine.onNode_keeps |
                 with_reducible apply State.sendWake_keeps | simp only [State.Keeps.mk1] | simp only [State.Keeps.mk2] |
                 simp only [State.Keeps.mk3] | split)

theorem State.checkinNoted_keeps {s0 : State} (s : State) (a : Nat) (zcofs : Int) (mains : Bool)
     (h : s0.Keeps s) : s0.Keeps (State.checkinNoted s a zcofs mains) := by
  unfold State.checkinNoted
  try dsimp only
  repeat' (first | with_reducible assumption | intro _ | with_reducible apply State.Keeps.foldl |
                 with_reducible apply State.updateVotes_keeps | with_reducible apply State.setNode_keeps |
                 simp only [State.Keeps.mk1] | simp only [State.Keeps.mk2] | simp only [State.Keeps.mk3] | split)

theorem wakePatternDetect_keeps {s0 : State} (port : Nat) (chips : BitVec 32) (s : State)
     (h : s0.Keeps s) : s0.Keeps (wakePatternDetect port chips s) := by
  unfold wakePatternDetect
  try dsimp only
  repeat' (first | with_reducible assumption | intro _ | with_reducible apply State.Keeps.foldl |
                 with_reducible apply State.portEvent_keeps | simp only [State.Keeps.mk1] | simp only [State.Keeps.mk2] |
                 simp only [State.Keeps.mk3] | split)

theorem allocReq_keeps {s0 : State} (saddr : Nat) (gid : Nat) (kind : Nat) (span : Nat) (cgFirst : Nat) (cgLast : Nat) (slot : Nat)
     (cper : Nat) (cph : Nat) (nsymMax : Nat) (fromB : Nat) (toB : Nat) (s : State)
     (h : s0.Keeps s) : s0.Keeps (allocReq saddr gid kind span cgFirst cgLast slot cper cph nsymMax fromB toB s) := by
  unfold allocReq
  try dsimp only
  repeat' (first | with_reducible assumption | intro _ | with_reducible apply State.Keeps.foldl |
                 with_reducible apply State.sendMgmt_keeps | with_reducible apply State.setNode_keeps | simp only [State.Keeps.mk1] |
                 simp only [State.Keeps.mk2] | simp only [State.Keeps.mk3] | split)

theorem absentWakeRepeat_keeps {s0 : State} (saddr : Nat) (s : State) (h : s0.Keeps s) : s0.Keeps (absentWakeRepeat saddr s) := by
  unfold absentWakeRepeat
  try dsimp only
  repeat' (first | with_reducible assumption | intro _ | with_reducible apply State.Keeps.foldl |
                 with_reducible apply State.sendWake_keeps | with_reducible apply State.setNode_keeps | simp only [State.Keeps.mk1] |
                 simp only [State.Keeps.mk2] | simp only [State.Keeps.mk3] | split)

theorem State.reroute_keeps {s0 : State} (s : State) (x1 : List Nat) (h : s0.Keeps s) : s0.Keeps (State.reroute s x1) := by
  induction x1 generalizing s with
  | nil =>
    unfold State.reroute
    try dsimp only
    repeat' (first | with_reducible assumption | intro _ | with_reducible apply State.Keeps.foldl | with_reducible apply ih |
                   with_reducible apply State.drew_keeps | with_reducible apply State.giveRoute_keeps | simp only [State.Keeps.mk1] |
                   simp only [State.Keeps.mk2] | simp only [State.Keeps.mk3] |
                   (split <;> try (rename_i hq; injection hq with hq1 hq2; subst hq1; subst hq2)))
  | cons _ _ ih =>
    unfold State.reroute
    try dsimp only
    repeat' (first | with_reducible assumption | intro _ | with_reducible apply State.Keeps.foldl | with_reducible apply ih |
                   with_reducible apply State.drew_keeps | with_reducible apply State.giveRoute_keeps | simp only [State.Keeps.mk1] |
                   simp only [State.Keeps.mk2] | simp only [State.Keeps.mk3] |
                   (split <;> try (rename_i hq; injection hq with hq1 hq2; subst hq1; subst hq2)))

theorem neighbourReport_keeps {s0 : State} (saddr : Nat) (heard : List (Nat × Nat)) (s : State)
     (h : s0.Keeps s) : s0.Keeps (neighbourReport saddr heard s) := by
  unfold neighbourReport
  try dsimp only
  repeat' (first | with_reducible assumption | intro _ | with_reducible apply State.Keeps.foldl |
                 with_reducible apply State.setNode_keeps | with_reducible apply State.reroute_keeps | simp only [State.Keeps.mk1] |
                 simp only [State.Keeps.mk2] | simp only [State.Keeps.mk3] | split)

theorem checkin_keeps {s0 : State} (saddr : Nat) (line : Stamp) (zcofs : Int) (mains : Bool) (s : State)
     (h : s0.Keeps s) : s0.Keeps (checkin saddr line zcofs mains s) := by
  unfold checkin
  try dsimp only
  repeat' (first | with_reducible assumption | intro _ | with_reducible apply State.Keeps.foldl |
                 with_reducible apply State.checkinNoted_keeps | with_reducible apply State.heardOk_keeps |
                 simp only [State.Keeps.mk1] | simp only [State.Keeps.mk2] | simp only [State.Keeps.mk3] | split)

theorem wakeAnnounce_keeps {s0 : State} (saddr : Nat) (line : Stamp) (zcofs : Int) (mains : Bool) (s : State)
     (h : s0.Keeps s) : s0.Keeps (wakeAnnounce saddr line zcofs mains s) := by
  unfold wakeAnnounce
  try dsimp only
  repeat' (first | with_reducible assumption | intro _ | with_reducible apply State.Keeps.foldl |
                 with_reducible apply State.sendTo_keeps | with_reducible apply Machine.checkin_keeps | simp only [State.Keeps.mk1] |
                 simp only [State.Keeps.mk2] | simp only [State.Keeps.mk3] | split)

theorem State.makeAbsent_keeps {s0 : State} (s : State) (a : Nat) (n : Node) (h : s0.Keeps s) : s0.Keeps (State.makeAbsent s a n) := by
  unfold State.makeAbsent
  try dsimp only
  repeat' (first | with_reducible assumption | intro _ | with_reducible apply State.Keeps.foldl |
                 with_reducible apply State.event_keeps | with_reducible apply State.setNode_keeps | simp only [State.Keeps.mk1] |
                 simp only [State.Keeps.mk2] | simp only [State.Keeps.mk3] | split)

theorem allocEnd_keeps {s0 : State} (saddr : Nat) (gid : Nat) (own : Bool) (s : State)
     (h : s0.Keeps s) : s0.Keeps (allocEnd saddr gid own s) := by
  unfold allocEnd
  try dsimp only
  repeat' (first | with_reducible assumption | intro _ | with_reducible apply State.Keeps.foldl |
                 with_reducible apply State.setNode_keeps | with_reducible apply State.sendMgmt_keeps | simp only [State.Keeps.mk1] |
                 simp only [State.Keeps.mk2] | simp only [State.Keeps.mk3] | split)

theorem absentRelease_keeps {s0 : State} (saddr : Nat) (s : State) (h : s0.Keeps s) : s0.Keeps (absentRelease saddr s) := by
  unfold absentRelease
  try dsimp only
  repeat' (first | with_reducible assumption | intro _ | with_reducible apply State.Keeps.foldl |
                 with_reducible apply State.releaseAddr_keeps | simp only [State.Keeps.mk1] | simp only [State.Keeps.mk2] |
                 simp only [State.Keeps.mk3] | split)

theorem checkinMissed_keeps {s0 : State} (saddr : Nat) (s : State) (h : s0.Keeps s) : s0.Keeps (checkinMissed saddr s) := by
  unfold checkinMissed
  try dsimp only
  repeat' (first | with_reducible assumption | intro _ | with_reducible apply State.Keeps.foldl |
                 with_reducible apply State.makeAbsent_keeps | with_reducible apply State.setNode_keeps |
                 with_reducible apply State.sendWake_keeps | simp only [State.Keeps.mk1] | simp only [State.Keeps.mk2] |
                 simp only [State.Keeps.mk3] | split)

theorem routeFailure_keeps {s0 : State} (saddr : Nat) (s : State) (h : s0.Keeps s) : s0.Keeps (routeFailure saddr s) := by
  unfold routeFailure
  try dsimp only
  repeat' (first | with_reducible assumption | intro _ | with_reducible apply State.Keeps.foldl |
                 with_reducible apply State.setNode_keeps | with_reducible apply State.giveRoute_keeps |
                 with_reducible apply State.drew_keeps | simp only [State.Keeps.mk1] | simp only [State.Keeps.mk2] |
                 simp only [State.Keeps.mk3] | split)

end Sys2Proof.Machine
end

