-- ==== Sys2Proof/Laws/Keeps/Handover.lean ====
section
/-! SUPPORT. What no function of Machine/Handover.lean undoes (State.Keeps). -/

namespace Sys2Proof.Machine

open Sys2Proof

set_option linter.unreachableTactic false
set_option linter.unusedTactic false

theorem State.dropHandOut_keeps {s0 : State} (s : State) (x1 : HandOut) (h : s0.Keeps s) : s0.Keeps (State.dropHandOut s x1) := by
  unfold State.dropHandOut
  try dsimp only
  repeat' (first | with_reducible assumption | intro _ | with_reducible apply State.Keeps.foldl | simp only [State.Keeps.mk1] |
                 simp only [State.Keeps.mk2] | simp only [State.Keeps.mk3] | split)

theorem State.setHandOut_keeps {s0 : State} (s : State) (x1 : HandOut) (h : s0.Keeps s) : s0.Keeps (State.setHandOut s x1) := by
  unfold State.setHandOut
  try dsimp only
  repeat' (first | with_reducible assumption | intro _ | with_reducible apply State.Keeps.foldl | simp only [State.Keeps.mk1] |
                 simp only [State.Keeps.mk2] | simp only [State.Keeps.mk3] | split)

theorem State.handEntriesOut_keeps {s0 : State} (s : State) (x1 : List (Nat × LEntry))
     (h : s0.Keeps s) : s0.Keeps (State.handEntriesOut s x1) := by
  induction x1 generalizing s with
  | nil =>
    unfold State.handEntriesOut
    try dsimp only
    repeat' (first | with_reducible assumption | intro _ | with_reducible apply State.Keeps.foldl | with_reducible apply ih |
                   with_reducible apply State.setEntry_keeps | with_reducible apply State.eventAs_keeps | simp only [State.Keeps.mk1] |
                   simp only [State.Keeps.mk2] | simp only [State.Keeps.mk3] |
                   (split <;> try (rename_i hq; injection hq with hq1 hq2; subst hq1; subst hq2)))
  | cons _ _ ih =>
    unfold State.handEntriesOut
    try dsimp only
    repeat' (first | with_reducible assumption | intro _ | with_reducible apply State.Keeps.foldl | with_reducible apply ih |
                   with_reducible apply State.setEntry_keeps | with_reducible apply State.eventAs_keeps | simp only [State.Keeps.mk1] |
                   simp only [State.Keeps.mk2] | simp only [State.Keeps.mk3] |
                   (split <;> try (rename_i hq; injection hq with hq1 hq2; subst hq1; subst hq2)))

theorem State.beginHand_keeps {s0 : State} (s : State) (a : Nat) (target : Nat) (src : Src)
     (h : s0.Keeps s) : s0.Keeps (State.beginHand s a target src) := by
  unfold State.beginHand
  try dsimp only
  repeat' (first | with_reducible assumption | intro _ | with_reducible apply State.Keeps.foldl |
                 with_reducible apply State.complete_keeps | with_reducible apply State.setNode_keeps | simp only [State.Keeps.mk1] |
                 simp only [State.Keeps.mk2] | simp only [State.Keeps.mk3] | split)

theorem State.nextHand_keeps {s0 : State} (s : State) (h : s0.Keeps s) : s0.Keeps (State.nextHand s) := by
  unfold State.nextHand
  try dsimp only
  repeat' (first | with_reducible assumption | intro _ | with_reducible apply State.Keeps.foldl |
                 with_reducible apply State.beginHand_keeps | simp only [State.Keeps.mk1] | simp only [State.Keeps.mk2] |
                 simp only [State.Keeps.mk3] | split)

theorem State.releaseLanded_keeps {s0 : State} (s : State) (x1 : HandOut) (h : s0.Keeps s) : s0.Keeps (State.releaseLanded s x1) := by
  unfold State.releaseLanded
  try dsimp only
  repeat' (first | with_reducible assumption | intro _ | with_reducible apply State.Keeps.foldl |
                 with_reducible apply State.dropHandOut_keeps | with_reducible apply State.glControl_keeps |
                 with_reducible apply State.setHandOut_keeps | with_reducible apply State.addFrame_keeps |
                 with_reducible apply State.takeSeq_keeps | with_reducible apply State.drew_keeps |
                 with_reducible apply State.handEntriesOut_keeps | with_reducible apply State.nextHand_keeps |
                 with_reducible apply State.complete_keeps | with_reducible apply State.releaseAddr_keeps |
                 simp only [State.Keeps.mk1] | simp only [State.Keeps.mk2] | simp only [State.Keeps.mk3] | split)

theorem State.setHandIn_keeps {s0 : State} (s : State) (x1 : HandIn) (h : s0.Keeps s) : s0.Keeps (State.setHandIn s x1) := by
  unfold State.setHandIn
  try dsimp only
  repeat' (first | with_reducible assumption | intro _ | with_reducible apply State.Keeps.foldl | simp only [State.Keeps.mk1] |
                 simp only [State.Keeps.mk2] | simp only [State.Keeps.mk3] | split)

theorem State.pendingLanded_keeps {s0 : State} (s : State) (x1 : HandIn) (h : s0.Keeps s) : s0.Keeps (State.pendingLanded s x1) := by
  unfold State.pendingLanded
  try dsimp only
  repeat' (first | with_reducible assumption | intro _ | with_reducible apply State.Keeps.foldl |
                 with_reducible apply State.glControl_keeps | with_reducible apply State.setHandIn_keeps |
                 simp only [State.Keeps.mk1] | simp only [State.Keeps.mk2] | simp only [State.Keeps.mk3] | split)

theorem State.dropHandIn_keeps {s0 : State} (s : State) (eui : Nat) (h : s0.Keeps s) : s0.Keeps (State.dropHandIn s eui) := by
  unfold State.dropHandIn
  try dsimp only
  repeat' (first | with_reducible assumption | intro _ | with_reducible apply State.Keeps.foldl | simp only [State.Keeps.mk1] |
                 simp only [State.Keeps.mk2] | simp only [State.Keeps.mk3] | split)

theorem State.handEntriesIn_keeps {s0 : State} (s : State) (g : Nat) (x2 : List (Nat × LEntry))
     (h : s0.Keeps s) : s0.Keeps (State.handEntriesIn s g x2) := by
  induction x2 generalizing s g with
  | nil =>
    unfold State.handEntriesIn
    try dsimp only
    repeat' (first | with_reducible assumption | intro _ | with_reducible apply State.Keeps.foldl | with_reducible apply ih |
                   with_reducible apply State.setEntry_keeps | with_reducible apply State.eventAs_keeps | simp only [State.Keeps.mk1] |
                   simp only [State.Keeps.mk2] | simp only [State.Keeps.mk3] |
                   (split <;> try (rename_i hq; injection hq with hq1 hq2; subst hq1; subst hq2)))
  | cons _ _ ih =>
    unfold State.handEntriesIn
    try dsimp only
    repeat' (first | with_reducible assumption | intro _ | with_reducible apply State.Keeps.foldl | with_reducible apply ih |
                   with_reducible apply State.setEntry_keeps | with_reducible apply State.eventAs_keeps | simp only [State.Keeps.mk1] |
                   simp only [State.Keeps.mk2] | simp only [State.Keeps.mk3] |
                   (split <;> try (rename_i hq; injection hq with hq1 hq2; subst hq1; subst hq2)))

theorem State.takeTraffics_keeps {s0 : State} (s : State) (eui : Nat) (x2 : List (Nat × Nat × Nat × Stamp))
     (h : s0.Keeps s) : s0.Keeps (State.takeTraffics s eui x2) := by
  induction x2 generalizing s eui with
  | nil =>
    unfold State.takeTraffics
    try dsimp only
    repeat' (first | with_reducible assumption | intro _ | with_reducible apply State.Keeps.foldl | with_reducible apply ih |
                   with_reducible apply State.takeTraffic_keeps | simp only [State.Keeps.mk1] | simp only [State.Keeps.mk2] |
                   simp only [State.Keeps.mk3] | (split <;> try (rename_i hq; injection hq with hq1 hq2; subst hq1; subst hq2)))
  | cons _ _ ih =>
    unfold State.takeTraffics
    try dsimp only
    repeat' (first | with_reducible assumption | intro _ | with_reducible apply State.Keeps.foldl | with_reducible apply ih |
                   with_reducible apply State.takeTraffic_keeps | simp only [State.Keeps.mk1] | simp only [State.Keeps.mk2] |
                   simp only [State.Keeps.mk3] | (split <;> try (rename_i hq; injection hq with hq1 hq2; subst hq1; subst hq2)))

theorem State.ownerLanded_keeps {s0 : State} (s : State) (x1 : HandIn) (h : s0.Keeps s) : s0.Keeps (State.ownerLanded s x1) := by
  unfold State.ownerLanded
  try dsimp only
  repeat' (first | with_reducible assumption | intro _ | with_reducible apply State.Keeps.foldl |
                 with_reducible apply State.setNode_keeps | with_reducible apply State.dropHandIn_keeps |
                 with_reducible apply State.setUl_keeps | with_reducible apply State.assignRec_keeps |
                 with_reducible apply State.handEntriesIn_keeps | with_reducible apply Machine.rendezvousReq_keeps |
                 with_reducible apply State.takeTraffics_keeps | simp only [State.Keeps.mk1] | simp only [State.Keeps.mk2] |
                 simp only [State.Keeps.mk3] | split)

theorem State.ownershipLanded_keeps {s0 : State} (s : State) (g : Nat) (state : Nat)
     (h : s0.Keeps s) : s0.Keeps (State.ownershipLanded s g state) := by
  unfold State.ownershipLanded
  try dsimp only
  repeat' (first | with_reducible assumption | intro _ | with_reducible apply State.Keeps.foldl |
                 with_reducible apply State.releaseLanded_keeps | with_reducible apply State.pendingLanded_keeps |
                 with_reducible apply State.ownerLanded_keeps | simp only [State.Keeps.mk1] | simp only [State.Keeps.mk2] |
                 simp only [State.Keeps.mk3] | split)

theorem pendingRecordTimeout_keeps {s0 : State} (eui : Nat) (answer : Option Bool) (s : State)
     (h : s0.Keeps s) : s0.Keeps (pendingRecordTimeout eui answer s) := by
  unfold pendingRecordTimeout
  try dsimp only
  repeat' (first | with_reducible assumption | intro _ | with_reducible apply State.Keeps.foldl |
                 with_reducible apply State.dropHandIn_keeps | with_reducible apply State.glControl_keeps |
                 with_reducible apply State.setHandIn_keeps | simp only [State.Keeps.mk1] | simp only [State.Keeps.mk2] |
                 simp only [State.Keeps.mk3] | split)

theorem State.takeReports_keeps {s0 : State} (s : State) (m : Nat) (x2 : List (Nat × Int))
     (h : s0.Keeps s) : s0.Keeps (State.takeReports s m x2) := by
  induction x2 generalizing s m with
  | nil =>
    unfold State.takeReports
    try dsimp only
    repeat' (first | with_reducible assumption | intro _ | with_reducible apply State.Keeps.foldl | with_reducible apply ih |
                   with_reducible apply State.beginHand_keeps | simp only [State.Keeps.mk1] | simp only [State.Keeps.mk2] |
                   simp only [State.Keeps.mk3] | (split <;> try (rename_i hq; injection hq with hq1 hq2; subst hq1; subst hq2)))
  | cons _ _ ih =>
    unfold State.takeReports
    try dsimp only
    repeat' (first | with_reducible assumption | intro _ | with_reducible apply State.Keeps.foldl | with_reducible apply ih |
                   with_reducible apply State.beginHand_keeps | simp only [State.Keeps.mk1] | simp only [State.Keeps.mk2] |
                   simp only [State.Keeps.mk3] | (split <;> try (rename_i hq; injection hq with hq1 hq2; subst hq1; subst hq2)))

theorem State.abortHand_keeps {s0 : State} (s : State) (x1 : HandOut) (st : Status)
     (h : s0.Keeps s) : s0.Keeps (State.abortHand s x1 st) := by
  unfold State.abortHand
  try dsimp only
  repeat' (first | with_reducible assumption | intro _ | with_reducible apply State.Keeps.foldl |
                 with_reducible apply State.complete_keeps | with_reducible apply State.dropHandOut_keeps |
                 with_reducible apply State.setNode_keeps | with_reducible apply State.nextHand_keeps | simp only [State.Keeps.mk1] |
                 simp only [State.Keeps.mk2] | simp only [State.Keeps.mk3] | split)

theorem accept_keeps {s0 : State} (src : Nat) (mseq : Nat) (eui : Nat) (saddr : Nat) (s : State)
     (h : s0.Keeps s) : s0.Keeps (accept src mseq eui saddr s) := by
  unfold accept
  try dsimp only
  repeat' (first | with_reducible assumption | intro _ | with_reducible apply State.Keeps.foldl |
                 with_reducible apply State.onControl_keeps | with_reducible apply State.submit_keeps |
                 with_reducible apply State.setHandOut_keeps | simp only [State.Keeps.mk1] | simp only [State.Keeps.mk2] |
                 simp only [State.Keeps.mk3] | split)

theorem State.sendOffer_keeps {s0 : State} (s : State) (a : Nat) (h : s0.Keeps s) : s0.Keeps (State.sendOffer s a) := by
  unfold State.sendOffer
  try dsimp only
  repeat' (first | with_reducible assumption | intro _ | with_reducible apply State.Keeps.foldl |
                 with_reducible apply State.setHandOut_keeps | with_reducible apply State.endFrames_keeps |
                 with_reducible apply State.glControl_keeps | simp only [State.Keeps.mk1] | simp only [State.Keeps.mk2] |
                 simp only [State.Keeps.mk3] | split)

theorem State.takeOffer_keeps {s0 : State} (s : State) (a : Nat) (o : Offer) (h : s0.Keeps s) : s0.Keeps (State.takeOffer s a o) := by
  unfold State.takeOffer
  try dsimp only
  repeat' (first | with_reducible assumption | intro _ | with_reducible apply State.Keeps.foldl |
                 with_reducible apply State.glControl_keeps | with_reducible apply State.submit_keeps | simp only [State.Keeps.mk1] |
                 simp only [State.Keeps.mk2] | simp only [State.Keeps.mk3] | split)

theorem offer_keeps {s0 : State} (saddr : Nat) (incoming : Option Offer) (s : State)
     (h : s0.Keeps s) : s0.Keeps (offer saddr incoming s) := by
  unfold offer
  try dsimp only
  repeat' (first | with_reducible assumption | intro _ | with_reducible apply State.Keeps.foldl |
                 with_reducible apply State.sendOffer_keeps | with_reducible apply State.onControl_keeps |
                 with_reducible apply State.takeOffer_keeps | simp only [State.Keeps.mk1] | simp only [State.Keeps.mk2] |
                 simp only [State.Keeps.mk3] | split)

theorem State.ownerSet_keeps {s0 : State} (s : State) (src : Src) (gaddr : Nat) (module : Nat) (pin : Bool)
     (h : s0.Keeps s) : s0.Keeps (State.ownerSet s src gaddr module pin) := by
  unfold State.ownerSet
  try dsimp only
  repeat' (first | with_reducible assumption | intro _ | with_reducible apply State.Keeps.foldl |
                 with_reducible apply State.complete_keeps | with_reducible apply State.beginHand_keeps | simp only [State.Keeps.mk1] |
                 simp only [State.Keeps.mk2] | simp only [State.Keeps.mk3] | split)

theorem abort_keeps {s0 : State} (src : Nat) (mseq : Nat) (eui : Nat) (s : State) (h : s0.Keeps s) : s0.Keeps (abort src mseq eui s) := by
  unfold abort
  try dsimp only
  repeat' (first | with_reducible assumption | intro _ | with_reducible apply State.Keeps.foldl |
                 with_reducible apply State.onControl_keeps | with_reducible apply State.dropHandIn_keeps |
                 with_reducible apply State.abortHand_keeps | simp only [State.Keeps.mk1] | simp only [State.Keeps.mk2] |
                 simp only [State.Keeps.mk3] | split)

theorem State.sendReports_keeps {s0 : State} (s : State) (reports : List (Nat × Int)) (x2 : List Nat)
     (h : s0.Keeps s) : s0.Keeps (State.sendReports s reports x2) := by
  induction x2 generalizing s reports with
  | nil =>
    unfold State.sendReports
    try dsimp only
    repeat' (first | with_reducible assumption | intro _ | with_reducible apply State.Keeps.foldl | with_reducible apply ih |
                   with_reducible apply State.glControl_keeps | simp only [State.Keeps.mk1] | simp only [State.Keeps.mk2] |
                   simp only [State.Keeps.mk3] | (split <;> try (rename_i hq; injection hq with hq1 hq2; subst hq1; subst hq2)))
  | cons _ _ ih =>
    unfold State.sendReports
    try dsimp only
    repeat' (first | with_reducible assumption | intro _ | with_reducible apply State.Keeps.foldl | with_reducible apply ih |
                   with_reducible apply State.glControl_keeps | simp only [State.Keeps.mk1] | simp only [State.Keeps.mk2] |
                   simp only [State.Keeps.mk3] | (split <;> try (rename_i hq; injection hq with hq1 hq2; subst hq1; subst hq2)))

theorem ownerSet_keeps {s0 : State} (src : Src) (gaddr : Nat) (module : Nat) (pin : Bool) (s : State)
     (h : s0.Keeps s) : s0.Keeps (ownerSet src gaddr module pin s) := by
  unfold ownerSet
  try dsimp only
  repeat' (first | with_reducible assumption | intro _ | with_reducible apply State.Keeps.foldl |
                 with_reducible apply State.ownerSet_keeps | with_reducible apply State.start_keeps | simp only [State.Keeps.mk1] |
                 simp only [State.Keeps.mk2] | simp only [State.Keeps.mk3] | split)

theorem handoverQuery_keeps {s0 : State} (src : Nat) (mseq : Nat) (eui : Nat) (s : State)
     (h : s0.Keeps s) : s0.Keeps (handoverQuery src mseq eui s) := by
  unfold handoverQuery
  try dsimp only
  repeat' (first | with_reducible assumption | intro _ | with_reducible apply State.Keeps.foldl |
                 with_reducible apply State.onControl_keeps | with_reducible apply State.glControl_keeps |
                 simp only [State.Keeps.mk1] | simp only [State.Keeps.mk2] | simp only [State.Keeps.mk3] | split)

theorem commit_keeps {s0 : State} (src : Nat) (mseq : Nat) (eui : Nat) (seq : SeqState) (s : State)
     (h : s0.Keeps s) : s0.Keeps (commit src mseq eui seq s) := by
  unfold commit
  try dsimp only
  repeat' (first | with_reducible assumption | intro _ | with_reducible apply State.Keeps.foldl |
                 with_reducible apply State.onControl_keeps | with_reducible apply State.submit_keeps |
                 with_reducible apply State.setHandIn_keeps | simp only [State.Keeps.mk1] | simp only [State.Keeps.mk2] |
                 simp only [State.Keeps.mk3] | split)

theorem handoverAcceptTimeout_keeps {s0 : State} (saddr : Nat) (s : State)
     (h : s0.Keeps s) : s0.Keeps (handoverAcceptTimeout saddr s) := by
  unfold handoverAcceptTimeout
  try dsimp only
  repeat' (first | with_reducible assumption | intro _ | with_reducible apply State.Keeps.foldl |
                 with_reducible apply State.abortHand_keeps | with_reducible apply State.glControl_keeps |
                 simp only [State.Keeps.mk1] | simp only [State.Keeps.mk2] | simp only [State.Keeps.mk3] | split)

theorem snrReport_keeps {s0 : State} (received : Option (Nat × Nat)) (reports : List (Nat × Int)) (s : State)
     (h : s0.Keeps s) : s0.Keeps (snrReport received reports s) := by
  unfold snrReport
  try dsimp only
  repeat' (first | with_reducible assumption | intro _ | with_reducible apply State.Keeps.foldl |
                 with_reducible apply State.onControl_keeps | with_reducible apply State.takeReports_keeps |
                 with_reducible apply State.sendReports_keeps | simp only [State.Keeps.mk1] | simp only [State.Keeps.mk2] |
                 simp only [State.Keeps.mk3] | split)

theorem handoverDecision_keeps {s0 : State} (saddr : Nat) (target : Nat) (s : State)
     (h : s0.Keeps s) : s0.Keeps (handoverDecision saddr target s) := by
  unfold handoverDecision
  try dsimp only
  repeat' (first | with_reducible assumption | intro _ | with_reducible apply State.Keeps.foldl |
                 with_reducible apply State.beginHand_keeps | simp only [State.Keeps.mk1] | simp only [State.Keeps.mk2] |
                 simp only [State.Keeps.mk3] | split)

end Sys2Proof.Machine
end

