-- ==== Sys2Proof/Laws/Keeps/Rings.lean ====
section
/-! SUPPORT. What no function of Machine/Rings.lean undoes (State.Keeps). -/

namespace Sys2Proof.Machine

open Sys2Proof

set_option linter.unreachableTactic false
set_option linter.unusedTactic false

theorem mdmRescanGo_keeps {s0 : State} (who : Who) (value : Word) (s : State) (h : s0.Keeps s) : s0.Keeps (mdmRescanGo who value s) := by
  unfold mdmRescanGo
  try dsimp only
  repeat' (first | with_reducible assumption | intro _ | with_reducible apply State.Keeps.foldl |
                 with_reducible apply State.gated_keeps | with_reducible apply State.setReg_keeps |
                 with_reducible apply State.rescan_keeps | simp only [State.Keeps.mk1] | simp only [State.Keeps.mk2] |
                 simp only [State.Keeps.mk3] | split)

theorem rescanEnd_keeps {s0 : State} (id : Nat) (short : Bool) (s : State) (h : s0.Keeps s) : s0.Keeps (rescanEnd id short s) := by
  unfold rescanEnd
  try dsimp only
  repeat' (first | with_reducible assumption | intro _ | with_reducible apply State.Keeps.foldl |
                 with_reducible apply State.event_keeps | with_reducible apply State.setFld_keeps | simp only [State.Keeps.mk1] |
                 simp only [State.Keeps.mk2] | simp only [State.Keeps.mk3] | split)

theorem mdmOldestSRead_keeps {s0 : State} (who : Who) (s : State) (h : s0.Keeps s) : s0.Keeps (mdmOldestSRead who s) := by
  unfold mdmOldestSRead
  try dsimp only
  repeat' (first | with_reducible assumption | intro _ | with_reducible apply State.Keeps.foldl |
                 with_reducible apply State.returns_keeps | with_reducible apply State.setReg_keeps | simp only [State.Keeps.mk1] |
                 simp only [State.Keeps.mk2] | simp only [State.Keeps.mk3] | split)

theorem State.openRecep_keeps {s0 : State} (s : State) (d : Detn) (eng : Nat) (overlaps : List Nat)
     (h : s0.Keeps s) : s0.Keeps (State.openRecep s d eng overlaps) := by
  unfold State.openRecep
  try dsimp only
  repeat' (first | with_reducible assumption | intro _ | with_reducible apply State.Keeps.foldl | simp only [State.Keeps.mk1] |
                 simp only [State.Keeps.mk2] | simp only [State.Keeps.mk3] | split)

theorem State.setQueued_keeps {s0 : State} (s : State) (fg : Nat) (l : List Detn)
     (h : s0.Keeps s) : s0.Keeps (State.setQueued s fg l) := by
  unfold State.setQueued
  try dsimp only
  repeat' (first | with_reducible assumption | intro _ | with_reducible apply State.Keeps.foldl | simp only [State.Keeps.mk1] |
                 simp only [State.Keeps.mk2] | simp only [State.Keeps.mk3] | split)

theorem receptionOpen_keeps {s0 : State} (fg : Nat) (found : Found) (eng : Nat) (under : List Nat) (s : State)
     (h : s0.Keeps s) : s0.Keeps (receptionOpen fg found eng under s) := by
  unfold receptionOpen
  try dsimp only
  repeat' (first | with_reducible assumption | intro _ | with_reducible apply State.Keeps.foldl |
                 with_reducible apply State.openRecep_keeps | with_reducible apply State.setQueued_keeps |
                 with_reducible apply State.endRecep_keeps | with_reducible apply State.setDeferred_keeps |
                 simp only [State.Keeps.mk1] | simp only [State.Keeps.mk2] | simp only [State.Keeps.mk3] | split)

theorem ringWaitResume_keeps {s0 : State} (rec : Nat) (again : Bool) (s : State)
     (h : s0.Keeps s) : s0.Keeps (ringWaitResume rec again s) := by
  unfold ringWaitResume
  try dsimp only
  repeat' (first | with_reducible assumption | intro _ | with_reducible apply State.Keeps.foldl |
                 with_reducible apply State.setRecep_keeps | simp only [State.Keeps.mk1] | simp only [State.Keeps.mk2] |
                 simp only [State.Keeps.mk3] | split)

theorem harqBufferExpire_keeps {s0 : State} (src : Nat) (harq : Nat) (s : State)
     (h : s0.Keeps s) : s0.Keeps (harqBufferExpire src harq s) := by
  unfold harqBufferExpire
  try dsimp only
  repeat' (first | with_reducible assumption | intro _ | with_reducible apply State.Keeps.foldl | simp only [State.Keeps.mk1] |
                 simp only [State.Keeps.mk2] | simp only [State.Keeps.mk3] | split)

theorem State.dropDetection_keeps {s0 : State} (s : State) (fg : Nat) (h : s0.Keeps s) : s0.Keeps (State.dropDetection s fg) := by
  unfold State.dropDetection
  try dsimp only
  repeat' (first | with_reducible assumption | intro _ | with_reducible apply State.Keeps.foldl |
                 with_reducible apply State.setFld_keeps | with_reducible apply State.bumpFld_keeps | simp only [State.Keeps.mk1] |
                 simp only [State.Keeps.mk2] | simp only [State.Keeps.mk3] | split)

theorem State.queueDetection_keeps {s0 : State} (s : State) (d : Detn) (h : s0.Keeps s) : s0.Keeps (State.queueDetection s d) := by
  unfold State.queueDetection
  try dsimp only
  repeat' (first | with_reducible assumption | intro _ | with_reducible apply State.Keeps.foldl |
                 with_reducible apply State.setQueued_keeps | with_reducible apply State.dropDetection_keeps |
                 simp only [State.Keeps.mk1] | simp only [State.Keeps.mk2] | simp only [State.Keeps.mk3] | split)

theorem sicResume_keeps {s0 : State} (rec : Nat) (next : Option Nat) (found : List (Stamp × Nat × Nat)) (s : State)
     (h : s0.Keeps s) : s0.Keeps (sicResume rec next found s) := by
  unfold sicResume
  try dsimp only
  repeat' (first | with_reducible assumption | intro _ | with_reducible apply State.Keeps.foldl |
                 with_reducible apply State.queueDetection_keeps | with_reducible apply State.setRecep_keeps |
                 simp only [State.Keeps.mk1] | simp only [State.Keeps.mk2] | simp only [State.Keeps.mk3] | split)

theorem preambleDetection_keeps {s0 : State} (det : Nat) (fg : Nat) (start : Stamp) (metric : Nat) (power : Nat) (std : Bool)
     (s : State) (h : s0.Keeps s) : s0.Keeps (preambleDetection det fg start metric power std s) := by
  unfold preambleDetection
  try dsimp only
  repeat' (first | with_reducible assumption | intro _ | with_reducible apply State.Keeps.foldl |
                 with_reducible apply State.queueDetection_keeps | simp only [State.Keeps.mk1] | simp only [State.Keeps.mk2] |
                 simp only [State.Keeps.mk3] | split)

theorem ringBlockWrite_keeps {s0 : State} (input : Nat) (wide : Bool) (t0 : Stamp) (adc : List (Nat × Int)) (s : State)
     (h : s0.Keeps s) : s0.Keeps (ringBlockWrite input wide t0 adc s) := by
  unfold ringBlockWrite
  try dsimp only
  repeat' (first | with_reducible assumption | intro _ | with_reducible apply State.Keeps.foldl |
                 with_reducible apply State.touchTag_keeps | with_reducible apply State.noteClipped_keeps |
                 with_reducible apply State.setRing_keeps | with_reducible apply State.pruneDeferred_keeps |
                 simp only [State.Keeps.mk1] | simp only [State.Keeps.mk2] | simp only [State.Keeps.mk3] | split)

theorem rescanTrigger_keeps {s0 : State} (fg : Nat) (src : Nat) (t0 : Stamp) (t1 : Stamp) (deferredOnly : Bool) (s : State)
     (h : s0.Keeps s) : s0.Keeps (rescanTrigger fg src t0 t1 deferredOnly s) := by
  unfold rescanTrigger
  try dsimp only
  repeat' (first | with_reducible assumption | intro _ | with_reducible apply State.Keeps.foldl |
                 with_reducible apply State.rescan_keeps | simp only [State.Keeps.mk1] | simp only [State.Keeps.mk2] |
                 simp only [State.Keeps.mk3] | split)

theorem inputLostInReception_keeps {s0 : State} (fg : Nat) (s : State) (h : s0.Keeps s) : s0.Keeps (inputLostInReception fg s) := by
  unfold inputLostInReception
  try dsimp only
  repeat' (first | with_reducible assumption | intro _ | with_reducible apply State.Keeps.foldl |
                 with_reducible apply State.endReceps_keeps | simp only [State.Keeps.mk1] | simp only [State.Keeps.mk2] |
                 simp only [State.Keeps.mk3] | split)

theorem rescanStart_keeps {s0 : State} (id : Nat) (s : State) (h : s0.Keeps s) : s0.Keeps (rescanStart id s) := by
  unfold rescanStart
  try dsimp only
  repeat' (first | with_reducible assumption | intro _ | with_reducible apply State.Keeps.foldl |
                 with_reducible apply State.setFld_keeps | simp only [State.Keeps.mk1] | simp only [State.Keeps.mk2] |
                 simp only [State.Keeps.mk3] | split)

end Sys2Proof.Machine
end

