-- ==== Sys2Proof/Laws/Keeps/Tracker.lean ====
section
/-! SUPPORT. What no function of Machine/Tracker.lean undoes (State.Keeps). -/

namespace Sys2Proof.Machine

open Sys2Proof

set_option linter.unreachableTactic false
set_option linter.unusedTactic false

theorem State.setTracker_keeps {s0 : State} (s : State) (g : Nat) (t : Tracker) (h : s0.Keeps s) : s0.Keeps (State.setTracker s g t) := by
  unfold State.setTracker
  try dsimp only
  repeat' (first | with_reducible assumption | intro _ | with_reducible apply State.Keeps.foldl | simp only [State.Keeps.mk1] |
                 simp only [State.Keeps.mk2] | simp only [State.Keeps.mk3] | split)

theorem zcOfsWrite_keeps {s0 : State} (fg : Nat) (who : Who) (value : Word) (s : State)
     (h : s0.Keeps s) : s0.Keeps (zcOfsWrite fg who value s) := by
  unfold zcOfsWrite
  try dsimp only
  repeat' (first | with_reducible assumption | intro _ | with_reducible apply State.Keeps.foldl |
                 with_reducible apply State.gated_keeps | with_reducible apply State.store_keeps |
                 with_reducible apply State.setTracker_keeps | simp only [State.Keeps.mk1] | simp only [State.Keeps.mk2] |
                 simp only [State.Keeps.mk3] | split)

theorem trackerLock_keeps {s0 : State} (fg : Nat) (valid : List Nat) (mhz : Nat) (phase : Nat) (s : State)
     (h : s0.Keeps s) : s0.Keeps (trackerLock fg valid mhz phase s) := by
  unfold trackerLock
  try dsimp only
  repeat' (first | with_reducible assumption | intro _ | with_reducible apply State.Keeps.foldl |
                 with_reducible apply State.setFld_keeps | with_reducible apply State.setTracker_keeps | simp only [State.Keeps.mk1] |
                 simp only [State.Keeps.mk2] | simp only [State.Keeps.mk3] | split)

theorem State.takeRef_keeps {s0 : State} (s : State) (g : Nat) (r : Nat) (h : s0.Keeps s) : s0.Keeps (State.takeRef s g r) := by
  unfold State.takeRef
  try dsimp only
  repeat' (first | with_reducible assumption | intro _ | with_reducible apply State.Keeps.foldl |
                 with_reducible apply State.setFld_keeps | simp only [State.Keeps.mk1] | simp only [State.Keeps.mk2] |
                 simp only [State.Keeps.mk3] | split)

theorem lpZcphaseRead_keeps {s0 : State} (fg : Nat) (ofs : Nat) (who : Who) (s : State)
     (h : s0.Keeps s) : s0.Keeps (lpZcphaseRead fg ofs who s) := by
  unfold lpZcphaseRead
  try dsimp only
  repeat' (first | with_reducible assumption | intro _ | with_reducible apply State.Keeps.foldl |
                 with_reducible apply State.setReg_keeps | with_reducible apply State.returns_keeps | simp only [State.Keeps.mk1] |
                 simp only [State.Keeps.mk2] | simp only [State.Keeps.mk3] | split)

theorem State.holdover_keeps {s0 : State} (s : State) (g : Nat) (h : s0.Keeps s) : s0.Keeps (State.holdover s g) := by
  unfold State.holdover
  try dsimp only
  repeat' (first | with_reducible assumption | intro _ | with_reducible apply State.Keeps.foldl |
                 with_reducible apply State.setFld_keeps | with_reducible apply State.setTracker_keeps | simp only [State.Keeps.mk1] |
                 simp only [State.Keeps.mk2] | simp only [State.Keeps.mk3] | split)

theorem State.checkError_keeps {s0 : State} (s : State) (g : Nat) (e : Int) (h : s0.Keeps s) : s0.Keeps (State.checkError s g e) := by
  unfold State.checkError
  try dsimp only
  repeat' (first | with_reducible assumption | intro _ | with_reducible apply State.Keeps.foldl |
                 with_reducible apply State.holdover_keeps | with_reducible apply State.setTracker_keeps |
                 simp only [State.Keeps.mk1] | simp only [State.Keeps.mk2] | simp only [State.Keeps.mk3] | split)

theorem slotBoundary_keeps {s0 : State} (fg : Nat) (s : State) (h : s0.Keeps s) : s0.Keeps (slotBoundary fg s) := by
  unfold slotBoundary
  try dsimp only
  repeat' (first | with_reducible assumption | intro _ | with_reducible apply State.Keeps.foldl |
                 with_reducible apply State.setTracker_keeps | simp only [State.Keeps.mk1] | simp only [State.Keeps.mk2] |
                 simp only [State.Keeps.mk3] | split)

theorem trackerHoldover_keeps {s0 : State} (fg : Nat) (s : State) (h : s0.Keeps s) : s0.Keeps (trackerHoldover fg s) := by
  unfold trackerHoldover
  try dsimp only
  repeat' (first | with_reducible assumption | intro _ | with_reducible apply State.Keeps.foldl |
                 with_reducible apply State.holdover_keeps | simp only [State.Keeps.mk1] | simp only [State.Keeps.mk2] |
                 simp only [State.Keeps.mk3] | split)

theorem trackerRelock_keeps {s0 : State} (fg : Nat) (valid : List Nat) (error : Int) (s : State)
     (h : s0.Keeps s) : s0.Keeps (trackerRelock fg valid error s) := by
  unfold trackerRelock
  try dsimp only
  repeat' (first | with_reducible assumption | intro _ | with_reducible apply State.Keeps.foldl |
                 with_reducible apply State.takeRef_keeps | with_reducible apply State.setFld_keeps |
                 with_reducible apply State.setTracker_keeps | with_reducible apply State.rescan_keeps | simp only [State.Keeps.mk1] |
                 simp only [State.Keeps.mk2] | simp only [State.Keeps.mk3] | split)

theorem trackerRefReturn_keeps {s0 : State} (fg : Nat) (role : Nat) (valid : List Nat) (s : State)
     (h : s0.Keeps s) : s0.Keeps (trackerRefReturn fg role valid s) := by
  unfold trackerRefReturn
  try dsimp only
  repeat' (first | with_reducible assumption | intro _ | with_reducible apply State.Keeps.foldl |
                 with_reducible apply State.takeRef_keeps | simp only [State.Keeps.mk1] | simp only [State.Keeps.mk2] |
                 simp only [State.Keeps.mk3] | split)

theorem trackerRefSwitch_keeps {s0 : State} (fg : Nat) (valid : List Nat) (s : State)
     (h : s0.Keeps s) : s0.Keeps (trackerRefSwitch fg valid s) := by
  unfold trackerRefSwitch
  try dsimp only
  repeat' (first | with_reducible assumption | intro _ | with_reducible apply State.Keeps.foldl |
                 with_reducible apply State.holdover_keeps | with_reducible apply State.takeRef_keeps | simp only [State.Keeps.mk1] |
                 simp only [State.Keeps.mk2] | simp only [State.Keeps.mk3] | split)

theorem phaseZero_keeps {s0 : State} (fg : Nat) (error : Option Int) (mhz : Option Nat) (refs : Option (Nat × Nat)) (s : State)
     (h : s0.Keeps s) : s0.Keeps (phaseZero fg error mhz refs s) := by
  unfold phaseZero
  try dsimp only
  repeat' (first | with_reducible assumption | intro _ | with_reducible apply State.Keeps.foldl |
                 with_reducible apply State.setTracker_keeps | with_reducible apply State.setFld_keeps |
                 with_reducible apply State.checkError_keeps | simp only [State.Keeps.mk1] | simp only [State.Keeps.mk2] |
                 simp only [State.Keeps.mk3] | split)

end Sys2Proof.Machine
end

