-- ==== Sys2Proof/Laws/Keeps/RegRead.lean ====
section
/-! SUPPORT. What no function of Machine/RegRead.lean undoes (State.Keeps). -/

namespace Sys2Proof.Machine

open Sys2Proof

set_option linter.unreachableTactic false
set_option linter.unusedTactic false

theorem State.readEffect_keeps {s0 : State} (s : State) (who : Who) (r : Reg) (i : Nat)
     (h : s0.Keeps s) : s0.Keeps (State.readEffect s who r i) := by
  unfold State.readEffect
  try dsimp only
  repeat' (first | with_reducible assumption | intro _ | with_reducible apply State.Keeps.foldl |
                 with_reducible apply Machine.sysTagFreeRead_keeps | with_reducible apply Machine.lpIsenseRead_keeps |
                 with_reducible apply Machine.lpZcphaseRead_keeps | with_reducible apply Machine.mdmOldestSRead_keeps |
                 with_reducible apply Machine.macLdgAccRead_keeps | with_reducible apply Machine.calLastSRead_keeps |
                 with_reducible apply State.setReg_keeps | with_reducible apply Machine.tpRxdRead_keeps |
                 with_reducible apply Machine.chkStateLoRead_keeps | with_reducible apply Machine.chkResultLoRead_keeps |
                 simp only [State.Keeps.mk1] | simp only [State.Keeps.mk2] | simp only [State.Keeps.mk3] | split)

theorem State.readReg_keeps {s0 : State} (s : State) (who : Who) (r : Reg) (i : Nat)
     (h : s0.Keeps s) : s0.Keeps (State.readReg s who r i).1 := by
  unfold State.readReg
  try dsimp only
  repeat' (first | with_reducible assumption | intro _ | with_reducible apply State.Keeps.foldl |
                 with_reducible apply State.readEffect_keeps | with_reducible apply State.drew_keeps | simp only [State.Keeps.mk1] |
                 simp only [State.Keeps.mk2] | simp only [State.Keeps.mk3] | split)

end Sys2Proof.Machine
end

