-- ==== Sys2Proof/Laws/Keeps/SecBase.lean ====
section
/-! SUPPORT. What no function of Machine/SecBase.lean undoes (State.Keeps). -/

namespace Sys2Proof.Machine

open Sys2Proof

set_option linter.unreachableTactic false
set_option linter.unusedTactic false

theorem State.dropPsks_keeps {s0 : State} (s : State) (h : s0.Keeps s) : s0.Keeps (State.dropPsks s) := by
  unfold State.dropPsks
  try dsimp only
  repeat' (first | with_reducible assumption | intro _ | with_reducible apply State.Keeps.foldl | simp only [State.Keeps.mk1] |
                 simp only [State.Keeps.mk2] | simp only [State.Keeps.mk3] | split)

theorem State.disarm_keeps {s0 : State} (s : State) (code : Nat) (h : s0.Keeps s) : s0.Keeps (State.disarm s code) := by
  unfold State.disarm
  try dsimp only
  repeat' (first | with_reducible assumption | intro _ | with_reducible apply State.Keeps.foldl | simp only [State.Keeps.mk1] |
                 simp only [State.Keeps.mk2] | simp only [State.Keeps.mk3] | split)

theorem State.imageFailed_keeps {s0 : State} (s : State) (h : s0.Keeps s) : s0.Keeps (State.imageFailed s) := by
  unfold State.imageFailed
  try dsimp only
  repeat' (first | with_reducible assumption | intro _ | with_reducible apply State.Keeps.foldl |
                 with_reducible apply State.countInjected_keeps | with_reducible apply State.disarm_keeps |
                 with_reducible apply State.countDetectionAt_keeps | simp only [State.Keeps.mk1] | simp only [State.Keeps.mk2] |
                 simp only [State.Keeps.mk3] | split)

theorem State.submitLc_keeps {s0 : State} (s : State) (r : LcRec) (h : s0.Keeps s) : s0.Keeps (State.submitLc s r) := by
  unfold State.submitLc
  try dsimp only
  repeat' (first | with_reducible assumption | intro _ | with_reducible apply State.Keeps.foldl |
                 with_reducible apply State.submit_keeps | simp only [State.Keeps.mk1] | simp only [State.Keeps.mk2] |
                 simp only [State.Keeps.mk3] | split)

theorem State.dropSessions_keeps {s0 : State} (s : State) (h : s0.Keeps s) : s0.Keeps (State.dropSessions s) := by
  unfold State.dropSessions
  try dsimp only
  repeat' (first | with_reducible assumption | intro _ | with_reducible apply State.Keeps.foldl | simp only [State.Keeps.mk1] |
                 simp only [State.Keeps.mk2] | simp only [State.Keeps.mk3] | split)

theorem State.zeroLinkKeys_keeps {s0 : State} (s : State) (h : s0.Keeps s) : s0.Keeps (State.zeroLinkKeys s) := by
  unfold State.zeroLinkKeys
  try dsimp only
  repeat' (first | with_reducible assumption | intro _ | with_reducible apply State.Keeps.foldl |
                 with_reducible apply State.dropSessions_keeps | simp only [State.Keeps.mk1] | simp only [State.Keeps.mk2] |
                 simp only [State.Keeps.mk3] | split)

theorem State.zeroKek_keeps {s0 : State} (s : State) (h : s0.Keeps s) : s0.Keeps (State.zeroKek s) := by
  unfold State.zeroKek
  try dsimp only
  repeat' (first | with_reducible assumption | intro _ | with_reducible apply State.Keeps.foldl |
                 with_reducible apply State.dropPsks_keeps | simp only [State.Keeps.mk1] | simp only [State.Keeps.mk2] |
                 simp only [State.Keeps.mk3] | split)

theorem State.tamperAct_keeps {s0 : State} (s : State) (n : Nat) (inj : Bool) (h : s0.Keeps s) : s0.Keeps (State.tamperAct s n inj) := by
  unfold State.tamperAct
  try dsimp only
  repeat' (first | with_reducible assumption | intro _ | with_reducible apply State.Keeps.foldl |
                 with_reducible apply State.setReg_keeps | with_reducible apply State.noteIrq1_keeps |
                 with_reducible apply State.setFld_keeps | with_reducible apply State.bumpDetection_keeps |
                 with_reducible apply State.eventAs_keeps | with_reducible apply State.zeroLinkKeys_keeps |
                 with_reducible apply State.zeroKek_keeps | with_reducible apply State.submitLc_keeps | simp only [State.Keeps.mk1] |
                 simp only [State.Keeps.mk2] | simp only [State.Keeps.mk3] | split)

theorem State.dropChallenge_keeps {s0 : State} (s : State) (h : s0.Keeps s) : s0.Keeps (State.dropChallenge s) := by
  unfold State.dropChallenge
  try dsimp only
  repeat' (first | with_reducible assumption | intro _ | with_reducible apply State.Keeps.foldl | simp only [State.Keeps.mk1] |
                 simp only [State.Keeps.mk2] | simp only [State.Keeps.mk3] | split)

theorem State.resumeHalted_keeps {s0 : State} (s : State) (h : s0.Keeps s) : s0.Keeps (State.resumeHalted s) := by
  unfold State.resumeHalted
  try dsimp only
  repeat' (first | with_reducible assumption | intro _ | with_reducible apply State.Keeps.foldl | simp only [State.Keeps.mk1] |
                 simp only [State.Keeps.mk2] | simp only [State.Keeps.mk3] | split)

theorem State.setLevel_keeps {s0 : State} (s : State) (n : Nat) (h : s0.Keeps s) : s0.Keeps (State.setLevel s n) := by
  unfold State.setLevel
  try dsimp only
  repeat' (first | with_reducible assumption | intro _ | with_reducible apply State.Keeps.foldl |
                 with_reducible apply State.setFld_keeps | with_reducible apply State.zeroLinkKeys_keeps |
                 with_reducible apply State.resumeHalted_keeps | simp only [State.Keeps.mk1] | simp only [State.Keeps.mk2] |
                 simp only [State.Keeps.mk3] | split)

end Sys2Proof.Machine
end

