-- ==== Sys2Proof/Laws/Keeps/Packs.lean ====
section
/-! SUPPORT. What no function of Machine/Packs.lean undoes (State.Keeps). -/

namespace Sys2Proof.Machine

open Sys2Proof

set_option linter.unreachableTactic false
set_option linter.unusedTactic false

theorem State.holdLedger_keeps {s0 : State} (s : State) (b : Bool) (h : s0.Keeps s) : s0.Keeps (State.holdLedger s b) := by
  unfold State.holdLedger
  try dsimp only
  repeat' (first | with_reducible assumption | intro _ | with_reducible apply State.Keeps.foldl |
                 with_reducible apply State.formBatch_keeps | simp only [State.Keeps.mk1] | simp only [State.Keeps.mk2] |
                 simp only [State.Keeps.mk3] | split)

theorem State.importRights_keeps {s0 : State} (s : State) (slot : Nat) (x2 : List (Nat × Decl))
     (h : s0.Keeps s) : s0.Keeps (State.importRights s slot x2) := by
  induction x2 generalizing s slot with
  | nil =>
    unfold State.importRights
    try dsimp only
    repeat' (first | with_reducible assumption | intro _ | with_reducible apply State.Keeps.foldl | with_reducible apply ih |
                   with_reducible apply State.setHandle_keeps | simp only [State.Keeps.mk1] | simp only [State.Keeps.mk2] |
                   simp only [State.Keeps.mk3] | (split <;> try (rename_i hq; injection hq with hq1 hq2; subst hq1; subst hq2)))
  | cons _ _ ih =>
    unfold State.importRights
    try dsimp only
    repeat' (first | with_reducible assumption | intro _ | with_reducible apply State.Keeps.foldl | with_reducible apply ih |
                   with_reducible apply State.setHandle_keeps | simp only [State.Keeps.mk1] | simp only [State.Keeps.mk2] |
                   simp only [State.Keeps.mk3] | (split <;> try (rename_i hq; injection hq with hq1 hq2; subst hq1; subst hq2)))

theorem State.relink_keeps {s0 : State} (s : State) (x1 : List Nat) (h : s0.Keeps s) : s0.Keeps (State.relink s x1) := by
  induction x1 generalizing s with
  | nil =>
    unfold State.relink
    try dsimp only
    repeat' (first | with_reducible assumption | intro _ | with_reducible apply State.Keeps.foldl | with_reducible apply ih |
                   with_reducible apply State.importRights_keeps | with_reducible apply State.setPack_keeps |
                   simp only [State.Keeps.mk1] | simp only [State.Keeps.mk2] | simp only [State.Keeps.mk3] |
                   (split <;> try (rename_i hq; injection hq with hq1 hq2; subst hq1; subst hq2)))
  | cons _ _ ih =>
    unfold State.relink
    try dsimp only
    repeat' (first | with_reducible assumption | intro _ | with_reducible apply State.Keeps.foldl | with_reducible apply ih |
                   with_reducible apply State.importRights_keeps | with_reducible apply State.setPack_keeps |
                   simp only [State.Keeps.mk1] | simp only [State.Keeps.mk2] | simp only [State.Keeps.mk3] |
                   (split <;> try (rename_i hq; injection hq with hq1 hq2; subst hq1; subst hq2)))

theorem State.tendMaps_keeps {s0 : State} (s : State) (h : s0.Keeps s) : s0.Keeps (State.tendMaps s) := by
  unfold State.tendMaps
  try dsimp only
  repeat' (first | with_reducible assumption | intro _ | with_reducible apply State.Keeps.foldl |
                 with_reducible apply State.setReg_keeps | with_reducible apply State.setHandle_keeps |
                 with_reducible apply State.drew_keeps | simp only [State.Keeps.mk1] | simp only [State.Keeps.mk2] |
                 simp only [State.Keeps.mk3] | split)

theorem State.evict_keeps {s0 : State} (s : State) (slot : Nat) (h : s0.Keeps s) : s0.Keeps (State.evict s slot) := by
  unfold State.evict
  extract_lets p s1 mine x1 x2 s2 s3 x3 s4
  have h1 : s0.Keeps s1 := State.endPackTasks_keeps _ _ h
  have h2 : s0.Keeps s2 := State.Keeps.cut h1 rfl rfl rfl (Tab.wf_filter _ _ _) id
  have h3 : s0.Keeps s3 := State.setPack_keeps _ _ _ (State.returnPages_keeps _ _ h2)
  have h4 : s0.Keeps s4 := by
    unfold s4
    split
    · exact State.setReg_keeps _ _ _ _ (State.setReg_keeps _ _ _ _ (State.Keeps.mk1.2 h3))
    · exact h3
  exact State.relink_keeps _ _ (State.tendMaps_keeps _ h4)

theorem State.reap_keeps {s0 : State} (s : State) (x1 : List Nat) (h : s0.Keeps s) : s0.Keeps (State.reap s x1) := by
  induction x1 generalizing s with
  | nil =>
    unfold State.reap
    try dsimp only
    repeat' (first | with_reducible assumption | intro _ | with_reducible apply State.Keeps.foldl | with_reducible apply ih |
                   with_reducible apply State.evict_keeps | simp only [State.Keeps.mk1] | simp only [State.Keeps.mk2] |
                   simp only [State.Keeps.mk3] | (split <;> try (rename_i hq; injection hq with hq1 hq2; subst hq1; subst hq2)))
  | cons _ _ ih =>
    unfold State.reap
    try dsimp only
    repeat' (first | with_reducible assumption | intro _ | with_reducible apply State.Keeps.foldl | with_reducible apply ih |
                   with_reducible apply State.evict_keeps | simp only [State.Keeps.mk1] | simp only [State.Keeps.mk2] |
                   simp only [State.Keeps.mk3] | (split <;> try (rename_i hq; injection hq with hq1 hq2; subst hq1; subst hq2)))

theorem State.rollback_keeps {s0 : State} (s : State) (h : s0.Keeps s) : s0.Keeps (State.rollback s) := by
  unfold State.rollback
  try dsimp only
  repeat' (first | with_reducible assumption | intro _ | with_reducible apply State.Keeps.foldl |
                 with_reducible apply State.setPack_keeps | with_reducible apply State.complete_keeps |
                 with_reducible apply State.holdLedger_keeps | with_reducible apply State.setFld_keeps |
                 with_reducible apply State.reap_keeps | simp only [State.Keeps.mk1] | simp only [State.Keeps.mk2] |
                 simp only [State.Keeps.mk3] | split)

theorem replAbort_keeps {s0 : State} (value : Word) (s : State) (h : s0.Keeps s) : s0.Keeps (replAbort value s) := by
  unfold replAbort
  try dsimp only
  repeat' (first | with_reducible assumption | intro _ | with_reducible apply State.Keeps.foldl |
                 with_reducible apply State.gated_keeps | with_reducible apply State.rollback_keeps |
                 with_reducible apply State.setReg_keeps | simp only [State.Keeps.mk1] | simp only [State.Keeps.mk2] |
                 simp only [State.Keeps.mk3] | split)

theorem State.evictAll_keeps {s0 : State} (s : State) (x1 : List Nat) (h : s0.Keeps s) : s0.Keeps (State.evictAll s x1) := by
  induction x1 generalizing s with
  | nil =>
    unfold State.evictAll
    try dsimp only
    repeat' (first | with_reducible assumption | intro _ | with_reducible apply State.Keeps.foldl | with_reducible apply ih |
                   with_reducible apply State.evict_keeps | simp only [State.Keeps.mk1] | simp only [State.Keeps.mk2] |
                   simp only [State.Keeps.mk3] | (split <;> try (rename_i hq; injection hq with hq1 hq2; subst hq1; subst hq2)))
  | cons _ _ ih =>
    unfold State.evictAll
    try dsimp only
    repeat' (first | with_reducible assumption | intro _ | with_reducible apply State.Keeps.foldl | with_reducible apply ih |
                   with_reducible apply State.evict_keeps | simp only [State.Keeps.mk1] | simp only [State.Keeps.mk2] |
                   simp only [State.Keeps.mk3] | (split <;> try (rename_i hq; injection hq with hq1 hq2; subst hq1; subst hq2)))

theorem State.swapSpares_keeps {s0 : State} (s : State) (h : s0.Keeps s) : s0.Keeps (State.swapSpares s) := by
  unfold State.swapSpares
  try dsimp only
  repeat' (first | with_reducible assumption | intro _ | with_reducible apply State.Keeps.foldl |
                 with_reducible apply State.leaveService_keeps | with_reducible apply State.enterService_keeps |
                 simp only [State.Keeps.mk1] | simp only [State.Keeps.mk2] | simp only [State.Keeps.mk3] | split)

theorem State.refuseIntent_keeps {s0 : State} (s : State) (src : Src) (h : s0.Keeps s) : s0.Keeps (State.refuseIntent s src) := by
  unfold State.refuseIntent
  try dsimp only
  repeat' (first | with_reducible assumption | intro _ | with_reducible apply State.Keeps.foldl |
                 with_reducible apply State.complete_keeps | with_reducible apply State.setFld_keeps | simp only [State.Keeps.mk1] |
                 simp only [State.Keeps.mk2] | simp only [State.Keeps.mk3] | split)

theorem State.saveClasses_keeps {s0 : State} (s : State) (h : s0.Keeps s) : s0.Keeps (State.saveClasses s) := by
  unfold State.saveClasses
  try dsimp only
  repeat' (first | with_reducible assumption | intro _ | with_reducible apply State.Keeps.foldl |
                 with_reducible apply State.submit_keeps | simp only [State.Keeps.mk1] | simp only [State.Keeps.mk2] |
                 simp only [State.Keeps.mk3] | split)

theorem classSet_keeps {s0 : State} (src : Src) (cls : Nat) (prio : Nat) (persist : Nat) (byte3 : Nat) (latUl : Nat) (latDl : Nat)
     (rate : Nat) (met : Bool) (power : List Nat) (s : State)
     (h : s0.Keeps s) : s0.Keeps (classSet src cls prio persist byte3 latUl latDl rate met power s) := by
  unfold classSet
  try dsimp only
  repeat' (first | with_reducible assumption | intro _ | with_reducible apply State.Keeps.foldl |
                 with_reducible apply State.start_keeps | with_reducible apply State.complete_keeps |
                 with_reducible apply State.refuseIntent_keeps | with_reducible apply State.saveClasses_keeps |
                 with_reducible apply State.powerAll_keeps | simp only [State.Keeps.mk1] | simp only [State.Keeps.mk2] |
                 simp only [State.Keeps.mk3] | split)

theorem State.hostServe_keeps {s0 : State} (s : State) (slot : Nat) (h : s0.Keeps s) : s0.Keeps (State.hostServe s slot) := by
  unfold State.hostServe
  try dsimp only
  repeat' (first | with_reducible assumption | intro _ | with_reducible apply State.Keeps.foldl |
                 with_reducible apply State.setHandle_keeps | with_reducible apply State.drew_keeps |
                 with_reducible apply State.fetchPairs_keeps | with_reducible apply State.setReg_keeps | simp only [State.Keeps.mk1] |
                 simp only [State.Keeps.mk2] | simp only [State.Keeps.mk3] | split)

theorem State.replDone_keeps {s0 : State} (s : State) (r : Repl) (h : s0.Keeps s) : s0.Keeps (State.replDone s r) := by
  unfold State.replDone
  try dsimp only
  repeat' (first | with_reducible assumption | intro _ | with_reducible apply State.Keeps.foldl |
                 with_reducible apply State.evict_keeps | with_reducible apply State.setOwners_keeps |
                 with_reducible apply State.setPack_keeps | with_reducible apply State.hostServe_keeps |
                 with_reducible apply State.complete_keeps | with_reducible apply State.holdLedger_keeps |
                 with_reducible apply State.setFld_keeps | with_reducible apply State.swapSpares_keeps |
                 with_reducible apply State.tendMaps_keeps | simp only [State.Keeps.mk1] | simp only [State.Keeps.mk2] |
                 simp only [State.Keeps.mk3] | split)

theorem replOutgoingEnded_keeps {s0 : State} (s : State) (h : s0.Keeps s) : s0.Keeps (replOutgoingEnded s) := by
  unfold replOutgoingEnded
  try dsimp only
  repeat' (first | with_reducible assumption | intro _ | with_reducible apply State.Keeps.foldl |
                 with_reducible apply State.reap_keeps | with_reducible apply State.holdLedger_keeps |
                 with_reducible apply State.replDone_keeps | simp only [State.Keeps.mk1] | simp only [State.Keeps.mk2] |
                 simp only [State.Keeps.mk3] | split)

theorem State.makeHandles_keeps {s0 : State} (s : State) (slot : Nat) (x2 : List Decl) (x3 : Nat)
     (h : s0.Keeps s) : s0.Keeps (State.makeHandles s slot x2 x3).1 := by
  induction x2 generalizing s slot x3 with
  | nil =>
    unfold State.makeHandles
    try dsimp only
    repeat' (first | with_reducible assumption | intro _ | with_reducible apply State.Keeps.foldl | with_reducible apply ih |
                   with_reducible apply State.setHandle_keeps | with_reducible apply State.drew_keeps |
                   with_reducible apply State.setByte_keeps | simp only [State.Keeps.mk1] | simp only [State.Keeps.mk2] |
                   simp only [State.Keeps.mk3] | (split <;> try (rename_i hq; injection hq with hq1 hq2; subst hq1; subst hq2)))
  | cons _ _ ih =>
    unfold State.makeHandles
    try dsimp only
    repeat' (first | with_reducible assumption | intro _ | with_reducible apply State.Keeps.foldl | with_reducible apply ih |
                   with_reducible apply State.setHandle_keeps | with_reducible apply State.drew_keeps |
                   with_reducible apply State.setByte_keeps | simp only [State.Keeps.mk1] | simp only [State.Keeps.mk2] |
                   simp only [State.Keeps.mk3] | (split <;> try (rename_i hq; injection hq with hq1 hq2; subst hq1; subst hq2)))

theorem State.install_keeps {s0 : State} (s : State) (slot : Nat) (i : PackImage) (st : SlotState) (pages : List Nat) (arg : DWord)
     (h : s0.Keeps s) : s0.Keeps (State.install s slot i st pages arg) := by
  unfold State.install
  try dsimp only
  repeat' (first | with_reducible assumption | intro _ | with_reducible apply State.Keeps.foldl |
                 with_reducible apply State.makeHandles_keeps | with_reducible apply State.setPack_keeps |
                 with_reducible apply State.relink_keeps | with_reducible apply State.setOwners_keeps |
                 with_reducible apply State.hostServe_keeps | with_reducible apply State.startEntry_keeps |
                 with_reducible apply State.refit_keeps | with_reducible apply State.tendEmber_keeps |
                 with_reducible apply State.tendMaps_keeps | simp only [State.Keeps.mk1] | simp only [State.Keeps.mk2] |
                 simp only [State.Keeps.mk3] | split)

theorem State.loadNew_keeps {s0 : State} (s : State) (src : Src) (i : PackImage) (placed : Bool) (power : List Nat)
     (h : s0.Keeps s) : s0.Keeps (State.loadNew s src i placed power) := by
  unfold State.loadNew
  try dsimp only
  repeat' (first | with_reducible assumption | intro _ | with_reducible apply State.Keeps.foldl |
                 with_reducible apply State.complete_keeps | with_reducible apply State.powerAll_keeps |
                 with_reducible apply State.install_keeps | simp only [State.Keeps.mk1] | simp only [State.Keeps.mk2] |
                 simp only [State.Keeps.mk3] | split)

theorem State.loadOver_keeps {s0 : State} (s : State) (src : Src) (i : PackImage) (out : Nat) (placed : Bool) (power : List Nat)
     (h : s0.Keeps s) : s0.Keeps (State.loadOver s src i out placed power) := by
  unfold State.loadOver
  try dsimp only
  repeat' (first | with_reducible assumption | intro _ | with_reducible apply State.Keeps.foldl |
                 with_reducible apply State.complete_keeps | with_reducible apply State.powerAll_keeps |
                 with_reducible apply State.install_keeps | with_reducible apply State.setPack_keeps | simp only [State.Keeps.mk1] |
                 simp only [State.Keeps.mk2] | simp only [State.Keeps.mk3] | split)

theorem packLoad_keeps {s0 : State} (src : Src) (image : PackImage) (repl : Nat) (placed : Bool) (power : List Nat) (s : State)
     (h : s0.Keeps s) : s0.Keeps (packLoad src image repl placed power s) := by
  unfold packLoad
  try dsimp only
  repeat' (first | with_reducible assumption | intro _ | with_reducible apply State.Keeps.foldl |
                 with_reducible apply State.start_keeps | with_reducible apply State.complete_keeps |
                 with_reducible apply State.imageFailed_keeps | with_reducible apply State.loadNew_keeps |
                 with_reducible apply State.loadOver_keeps | simp only [State.Keeps.mk1] | simp only [State.Keeps.mk2] |
                 simp only [State.Keeps.mk3] | split)

theorem placementReport_keeps {s0 : State} (src : Src) (handle : Nat) (ofs : Nat) (len : Nat) (s : State)
     (h : s0.Keeps s) : s0.Keeps (placementReport src handle ofs len s) := by
  unfold placementReport
  try dsimp only
  repeat' (first | with_reducible assumption | intro _ | with_reducible apply State.Keeps.foldl |
                 with_reducible apply State.start_keeps | with_reducible apply State.complete_keeps |
                 with_reducible apply State.setBytes_keeps | with_reducible apply State.drew_keeps | simp only [State.Keeps.mk1] |
                 simp only [State.Keeps.mk2] | simp only [State.Keeps.mk3] | split)

theorem packUnload_keeps {s0 : State} (src : Src) (slot : Nat) (s : State) (h : s0.Keeps s) : s0.Keeps (packUnload src slot s) := by
  unfold packUnload
  try dsimp only
  repeat' (first | with_reducible assumption | intro _ | with_reducible apply State.Keeps.foldl |
                 with_reducible apply State.start_keeps | with_reducible apply State.complete_keeps |
                 with_reducible apply State.evict_keeps | simp only [State.Keeps.mk1] | simp only [State.Keeps.mk2] |
                 simp only [State.Keeps.mk3] | split)

theorem classAssign_keeps {s0 : State} (src : Src) (gaddr : Nat) (group : Option Nat) (svc : Option Nat) (cls : Nat) (met : Bool)
     (power : List Nat) (s : State) (h : s0.Keeps s) : s0.Keeps (classAssign src gaddr group svc cls met power s) := by
  unfold classAssign
  try dsimp only
  repeat' (first | with_reducible assumption | intro _ | with_reducible apply State.Keeps.foldl |
                 with_reducible apply State.start_keeps | with_reducible apply State.complete_keeps |
                 with_reducible apply State.refuseIntent_keeps | with_reducible apply State.saveClasses_keeps |
                 with_reducible apply State.powerAll_keeps | simp only [State.Keeps.mk1] | simp only [State.Keeps.mk2] |
                 simp only [State.Keeps.mk3] | split)

theorem replTimeLimit_keeps {s0 : State} (s : State) (h : s0.Keeps s) : s0.Keeps (replTimeLimit s) := by
  unfold replTimeLimit
  try dsimp only
  repeat' (first | with_reducible assumption | intro _ | with_reducible apply State.Keeps.foldl |
                 with_reducible apply State.replDone_keeps | with_reducible apply State.endPackTasks_keeps |
                 simp only [State.Keeps.mk1] | simp only [State.Keeps.mk2] | simp only [State.Keeps.mk3] | split)

end Sys2Proof.Machine
end

