-- ==== Sys2Proof/Laws/Keeps/Reliability.lean ====
section
/-! SUPPORT. What no function of Machine/Reliability.lean undoes (State.Keeps). -/

namespace Sys2Proof.Machine

open Sys2Proof

set_option linter.unreachableTactic false
set_option linter.unusedTactic false

theorem State.replaceEngine_keeps {s0 : State} (s : State) (h : s0.Keeps s) : s0.Keeps (State.replaceEngine s) := by
  unfold State.replaceEngine
  try dsimp only
  repeat' (first | with_reducible assumption | intro _ | with_reducible apply State.Keeps.foldl |
                 with_reducible apply State.enterService_keeps | with_reducible apply State.drew_keeps |
                 with_reducible apply State.event_keeps | with_reducible apply State.setFld_keeps | simp only [State.Keeps.mk1] |
                 simp only [State.Keeps.mk2] | simp only [State.Keeps.mk3] | split)

theorem State.retireNow_keeps {s0 : State} (s : State) (sel : Nat) (h : s0.Keeps s) : s0.Keeps (State.retireNow s sel) := by
  unfold State.retireNow
  try dsimp only
  repeat' (first | with_reducible assumption | intro _ | with_reducible apply State.Keeps.foldl |
                 with_reducible apply State.loseStack_keeps | with_reducible apply State.forceUnit_keeps |
                 with_reducible apply State.forcePort_keeps | with_reducible apply State.submit_keeps | simp only [State.Keeps.mk1] |
                 simp only [State.Keeps.mk2] | simp only [State.Keeps.mk3] | split)

theorem State.afterRetirement_keeps {s0 : State} (s : State) (sel : Nat) (h : s0.Keeps s) : s0.Keeps (State.afterRetirement s sel) := by
  unfold State.afterRetirement
  try dsimp only
  repeat' (first | with_reducible assumption | intro _ | with_reducible apply State.Keeps.foldl |
                 with_reducible apply State.replaceEngine_keeps | with_reducible apply State.refit_keeps |
                 with_reducible apply State.loseStack_keeps | with_reducible apply State.retireNow_keeps |
                 simp only [State.Keeps.mk1] | simp only [State.Keeps.mk2] | simp only [State.Keeps.mk3] | split)

theorem State.enterMinimal_keeps {s0 : State} (s : State) (h : s0.Keeps s) : s0.Keeps (State.enterMinimal s) := by
  unfold State.enterMinimal
  try dsimp only
  repeat' (first | with_reducible assumption | intro _ | with_reducible apply State.Keeps.foldl |
                 with_reducible apply State.setFld_keeps | with_reducible apply State.leaveNet_keeps | simp only [State.Keeps.mk1] |
                 simp only [State.Keeps.mk2] | simp only [State.Keeps.mk3] | split)

theorem State.retireLanded_keeps {s0 : State} (s : State) (sel : Nat) (h : s0.Keeps s) : s0.Keeps (State.retireLanded s sel) := by
  unfold State.retireLanded
  try dsimp only
  repeat' (first | with_reducible assumption | intro _ | with_reducible apply State.Keeps.foldl |
                 with_reducible apply State.powerOff_keeps | with_reducible apply State.afterRetirement_keeps |
                 with_reducible apply State.unitEvent_keeps | with_reducible apply State.setFld_keeps |
                 with_reducible apply State.noteLow_keeps | with_reducible apply State.enterMinimal_keeps |
                 with_reducible apply State.noteIrq1_keeps | simp only [State.Keeps.mk1] | simp only [State.Keeps.mk2] |
                 simp only [State.Keeps.mk3] | split)

theorem State.inject_keeps {s0 : State} (s : State) (who : Who) (cls : Nat) (value : Word) (f : Nat → Nat → State → State)
     (h_f : ∀ y0 y1 y2, s0.Keeps y2 → s0.Keeps (f y0 y1 y2)) (h : s0.Keeps s) : s0.Keeps (State.inject s who cls value f) := by
  unfold State.inject
  try dsimp only
  repeat' (first | with_reducible assumption | intro _ | with_reducible apply State.Keeps.foldl | with_reducible apply h_f |
                 with_reducible apply State.gated_keeps | with_reducible apply State.store_keeps |
                 with_reducible apply State.setFld_keeps | simp only [State.Keeps.mk1] | simp only [State.Keeps.mk2] |
                 simp only [State.Keeps.mk3] | split)

theorem injectReporting_keeps {s0 : State} (who : Who) (value : Word) (s : State)
     (h : s0.Keeps s) : s0.Keeps (injectReporting who value s) := by
  unfold injectReporting
  try dsimp only
  repeat' (first | with_reducible assumption | intro _ | with_reducible apply State.Keeps.foldl |
                 with_reducible apply State.inject_keeps | with_reducible apply State.countInjected_keeps |
                 simp only [State.Keeps.mk1] | simp only [State.Keeps.mk2] | simp only [State.Keeps.mk3] | split)

theorem State.injectSignal_keeps {s0 : State} (s : State) (code : Nat) (sel : Nat)
     (h : s0.Keeps s) : s0.Keeps (State.injectSignal s code sel) := by
  unfold State.injectSignal
  try dsimp only
  repeat' (first | with_reducible assumption | intro _ | with_reducible apply State.Keeps.foldl |
                 with_reducible apply State.bumpFld_keeps | with_reducible apply State.setPortStat_keeps |
                 with_reducible apply State.setStats_keeps | with_reducible apply State.setPa_keeps |
                 with_reducible apply State.endFrames_keeps | with_reducible apply State.setFld_keeps |
                 with_reducible apply State.setChkUnit_keeps | simp only [State.Keeps.mk1] | simp only [State.Keeps.mk2] |
                 simp only [State.Keeps.mk3] | split)

theorem State.queueTests_keeps {s0 : State} (s : State) (x1 : List SelfTest) (h : s0.Keeps s) : s0.Keeps (State.queueTests s x1) := by
  induction x1 generalizing s with
  | nil =>
    unfold State.queueTests
    try dsimp only
    repeat' (first | with_reducible assumption | intro _ | with_reducible apply State.Keeps.foldl | with_reducible apply ih |
                   with_reducible apply State.queueTest_keeps | simp only [State.Keeps.mk1] | simp only [State.Keeps.mk2] |
                   simp only [State.Keeps.mk3] | (split <;> try (rename_i hq; injection hq with hq1 hq2; subst hq1; subst hq2)))
  | cons _ _ ih =>
    unfold State.queueTests
    try dsimp only
    repeat' (first | with_reducible assumption | intro _ | with_reducible apply State.Keeps.foldl | with_reducible apply ih |
                   with_reducible apply State.queueTest_keeps | simp only [State.Keeps.mk1] | simp only [State.Keeps.mk2] |
                   simp only [State.Keeps.mk3] | (split <;> try (rename_i hq; injection hq with hq1 hq2; subst hq1; subst hq2)))

theorem State.detectorActs_keeps {s0 : State} (s : State) (code : Nat) (t : SelfTest)
     (h : s0.Keeps s) : s0.Keeps (State.detectorActs s code t) := by
  unfold State.detectorActs
  try dsimp only
  repeat' (first | with_reducible assumption | intro _ | with_reducible apply State.Keeps.foldl |
                 with_reducible apply State.recount_keeps | with_reducible apply State.forceUnit_keeps |
                 with_reducible apply State.queueTests_keeps | simp only [State.Keeps.mk1] | simp only [State.Keeps.mk2] |
                 simp only [State.Keeps.mk3] | split)

theorem State.injectFault_keeps {s0 : State} (s : State) (code : Nat) (sel : Nat) (row : Nat) (next : Option Nat) (destructive : Bool)
     (h : s0.Keeps s) : s0.Keeps (State.injectFault s code sel row next destructive) := by
  unfold State.injectFault
  try dsimp only
  repeat' (first | with_reducible assumption | intro _ | with_reducible apply State.Keeps.foldl |
                 with_reducible apply State.tamperAct_keeps | with_reducible apply State.countInjected_keeps |
                 with_reducible apply State.injectSignal_keeps | with_reducible apply State.detectorActs_keeps |
                 simp only [State.Keeps.mk1] | simp only [State.Keeps.mk2] | simp only [State.Keeps.mk3] | split)

theorem injectFunctional_keeps {s0 : State} (who : Who) (value : Word) (row : Nat) (next : Option Nat) (s : State)
     (h : s0.Keeps s) : s0.Keeps (injectFunctional who value row next s) := by
  unfold injectFunctional
  try dsimp only
  repeat' (first | with_reducible assumption | intro _ | with_reducible apply State.Keeps.foldl |
                 with_reducible apply State.inject_keeps | with_reducible apply State.injectFault_keeps | simp only [State.Keeps.mk1] |
                 simp only [State.Keeps.mk2] | simp only [State.Keeps.mk3] | split)

theorem injectDestructive_keeps {s0 : State} (who : Who) (value : Word) (row : Nat) (next : Option Nat) (s : State)
     (h : s0.Keeps s) : s0.Keeps (injectDestructive who value row next s) := by
  unfold injectDestructive
  try dsimp only
  repeat' (first | with_reducible assumption | intro _ | with_reducible apply State.Keeps.foldl |
                 with_reducible apply State.inject_keeps | with_reducible apply State.injectFault_keeps | simp only [State.Keeps.mk1] |
                 simp only [State.Keeps.mk2] | simp only [State.Keeps.mk3] | split)

theorem State.relCmd_keeps {s0 : State} (s : State) (who : Who) (op : Nat) (f : Nat → State → State)
     (h_f : ∀ y0 y1, s0.Keeps y1 → s0.Keeps (f y0 y1)) (h : s0.Keeps s) : s0.Keeps (State.relCmd s who op f) := by
  unfold State.relCmd
  try dsimp only
  repeat' (first | with_reducible assumption | intro _ | with_reducible apply State.Keeps.foldl | with_reducible apply h_f |
                 with_reducible apply State.gated_keeps | with_reducible apply State.setFld_keeps | simp only [State.Keeps.mk1] |
                 simp only [State.Keeps.mk2] | simp only [State.Keeps.mk3] | split)

theorem relSelfTest_keeps {s0 : State} (who : Who) (s : State) (h : s0.Keeps s) : s0.Keeps (relSelfTest who s) := by
  unfold relSelfTest
  try dsimp only
  repeat' (first | with_reducible assumption | intro _ | with_reducible apply State.Keeps.foldl |
                 with_reducible apply State.relCmd_keeps | with_reducible apply State.setFld_keeps |
                 with_reducible apply State.queueTest_keeps | simp only [State.Keeps.mk1] | simp only [State.Keeps.mk2] |
                 simp only [State.Keeps.mk3] | split)

theorem relRetire_keeps {s0 : State} (who : Who) (s : State) (h : s0.Keeps s) : s0.Keeps (relRetire who s) := by
  unfold relRetire
  try dsimp only
  repeat' (first | with_reducible assumption | intro _ | with_reducible apply State.Keeps.foldl |
                 with_reducible apply State.relCmd_keeps | with_reducible apply State.setFld_keeps |
                 with_reducible apply State.setDrain_keeps | with_reducible apply State.beginDrain_keeps |
                 with_reducible apply State.submit_keeps | simp only [State.Keeps.mk1] | simp only [State.Keeps.mk2] |
                 simp only [State.Keeps.mk3] | split)

theorem unitRetire_keeps {s0 : State} (s : State) (h : s0.Keeps s) : s0.Keeps (unitRetire s) := by
  unfold unitRetire
  try dsimp only
  repeat' (first | with_reducible assumption | intro _ | with_reducible apply State.Keeps.foldl |
                 with_reducible apply State.retireLanded_keeps | with_reducible apply State.commit_keeps |
                 simp only [State.Keeps.mk1] | simp only [State.Keeps.mk2] | simp only [State.Keeps.mk3] | split)

theorem State.endTest_keeps {s0 : State} (s : State) (u : TestUnit) (h : s0.Keeps s) : s0.Keeps (State.endTest s u) := by
  unfold State.endTest
  try dsimp only
  repeat' (first | with_reducible assumption | intro _ | with_reducible apply State.Keeps.foldl |
                 with_reducible apply State.setPort_keeps | with_reducible apply State.setOut_keeps |
                 with_reducible apply State.beginDrain_keeps | simp only [State.Keeps.mk1] | simp only [State.Keeps.mk2] |
                 simp only [State.Keeps.mk3] | split)

theorem State.setTestState_keeps {s0 : State} (s : State) (u : TestUnit) (x : UnitState)
     (h : s0.Keeps s) : s0.Keeps (State.setTestState s u x) := by
  unfold State.setTestState
  try dsimp only
  repeat' (first | with_reducible assumption | intro _ | with_reducible apply State.Keeps.foldl |
                 with_reducible apply State.setUnitRel_keeps | simp only [State.Keeps.mk1] | simp only [State.Keeps.mk2] |
                 simp only [State.Keeps.mk3] | split)

theorem State.endTests_keeps {s0 : State} (s : State) (x1 : List SelfTest) (h : s0.Keeps s) : s0.Keeps (State.endTests s x1) := by
  induction x1 generalizing s with
  | nil =>
    unfold State.endTests
    try dsimp only
    repeat' (first | with_reducible assumption | intro _ | with_reducible apply State.Keeps.foldl | with_reducible apply ih |
                   with_reducible apply State.endTest_keeps | with_reducible apply State.setTestState_keeps |
                   simp only [State.Keeps.mk1] | simp only [State.Keeps.mk2] | simp only [State.Keeps.mk3] |
                   (split <;> try (rename_i hq; injection hq with hq1 hq2; subst hq1; subst hq2)))
  | cons _ _ ih =>
    unfold State.endTests
    try dsimp only
    repeat' (first | with_reducible assumption | intro _ | with_reducible apply State.Keeps.foldl | with_reducible apply ih |
                   with_reducible apply State.endTest_keeps | with_reducible apply State.setTestState_keeps |
                   simp only [State.Keeps.mk1] | simp only [State.Keeps.mk2] | simp only [State.Keeps.mk3] |
                   (split <;> try (rename_i hq; injection hq with hq1 hq2; subst hq1; subst hq2)))

theorem excursionStart_keeps {s0 : State} (s : State) (h : s0.Keeps s) : s0.Keeps (excursionStart s) := by
  unfold excursionStart
  try dsimp only
  repeat' (first | with_reducible assumption | intro _ | with_reducible apply State.Keeps.foldl |
                 with_reducible apply State.noteIrq1_keeps | with_reducible apply State.event_keeps |
                 with_reducible apply State.setFld_keeps | simp only [State.Keeps.mk1] | simp only [State.Keeps.mk2] |
                 simp only [State.Keeps.mk3] | split)

theorem State.testFailed_keeps {s0 : State} (s : State) (t : SelfTest) (spareRow : Bool)
     (h : s0.Keeps s) : s0.Keeps (State.testFailed s t spareRow) := by
  unfold State.testFailed
  try dsimp only
  repeat' (first | with_reducible assumption | intro _ | with_reducible apply State.Keeps.foldl |
                 with_reducible apply State.setUnitRel_keeps | with_reducible apply State.unitEvent_keeps |
                 with_reducible apply State.retireNow_keeps | simp only [State.Keeps.mk1] | simp only [State.Keeps.mk2] |
                 simp only [State.Keeps.mk3] | split)

theorem detection_keeps {s0 : State} (code : Nat) (sel : Nat) (target : Option TestUnit) (next : Option Nat) (s : State)
     (h : s0.Keeps s) : s0.Keeps (detection code sel target next s) := by
  unfold detection
  try dsimp only
  repeat' (first | with_reducible assumption | intro _ | with_reducible apply State.Keeps.foldl |
                 with_reducible apply State.countDetection_keeps | with_reducible apply State.detectorActs_keeps |
                 simp only [State.Keeps.mk1] | simp only [State.Keeps.mk2] | simp only [State.Keeps.mk3] | split)

theorem State.testPassed_keeps {s0 : State} (s : State) (t : SelfTest) (h : s0.Keeps s) : s0.Keeps (State.testPassed s t) := by
  unfold State.testPassed
  try dsimp only
  repeat' (first | with_reducible assumption | intro _ | with_reducible apply State.Keeps.foldl |
                 with_reducible apply State.unitEvent_keeps | with_reducible apply State.setUnitRel_keeps |
                 with_reducible apply State.noteIrq1_keeps | with_reducible apply State.setFld_keeps |
                 with_reducible apply State.endTest_keeps | with_reducible apply State.queueTest_keeps | simp only [State.Keeps.mk1] |
                 simp only [State.Keeps.mk2] | simp only [State.Keeps.mk3] | split)

theorem selfTestDone_keeps {s0 : State} (target : TestUnit) (lasting : Bool) (spareRow : Bool) (s : State)
     (h : s0.Keeps s) : s0.Keeps (selfTestDone target lasting spareRow s) := by
  unfold selfTestDone
  try dsimp only
  repeat' (first | with_reducible assumption | intro _ | with_reducible apply State.Keeps.foldl |
                 with_reducible apply State.testPassed_keeps | with_reducible apply State.setTestState_keeps |
                 with_reducible apply State.testFailed_keeps | simp only [State.Keeps.mk1] | simp only [State.Keeps.mk2] |
                 simp only [State.Keeps.mk3] | split)

theorem State.prepareTest_keeps {s0 : State} (s : State) (u : TestUnit) (h : s0.Keeps s) : s0.Keeps (State.prepareTest s u) := by
  unfold State.prepareTest
  try dsimp only
  repeat' (first | with_reducible assumption | intro _ | with_reducible apply State.Keeps.foldl |
                 with_reducible apply State.setPa_keeps | with_reducible apply State.setPort_keeps |
                 with_reducible apply State.beginDrain_keeps | simp only [State.Keeps.mk1] | simp only [State.Keeps.mk2] |
                 simp only [State.Keeps.mk3] | split)

theorem excursionEnd_keeps {s0 : State} (s : State) (h : s0.Keeps s) : s0.Keeps (excursionEnd s) := by
  unfold excursionEnd
  try dsimp only
  repeat' (first | with_reducible assumption | intro _ | with_reducible apply State.Keeps.foldl |
                 with_reducible apply State.setFld_keeps | simp only [State.Keeps.mk1] | simp only [State.Keeps.mk2] |
                 simp only [State.Keeps.mk3] | split)

theorem excursionRetest_keeps {s0 : State} (target : TestUnit) (s : State) (h : s0.Keeps s) : s0.Keeps (excursionRetest target s) := by
  unfold excursionRetest
  try dsimp only
  repeat' (first | with_reducible assumption | intro _ | with_reducible apply State.Keeps.foldl |
                 with_reducible apply State.setTestState_keeps | simp only [State.Keeps.mk1] | simp only [State.Keeps.mk2] |
                 simp only [State.Keeps.mk3] | split)

theorem selfTestStart_keeps {s0 : State} (s : State) (h : s0.Keeps s) : s0.Keeps (selfTestStart s) := by
  unfold selfTestStart
  try dsimp only
  repeat' (first | with_reducible assumption | intro _ | with_reducible apply State.Keeps.foldl |
                 with_reducible apply State.prepareTest_keeps | with_reducible apply State.setTestState_keeps |
                 simp only [State.Keeps.mk1] | simp only [State.Keeps.mk2] | simp only [State.Keeps.mk3] | split)

end Sys2Proof.Machine
end

