-- ==== Sys2Proof/Laws/Keeps/Landing.lean ====
section
/-! SUPPORT. What no function of Machine/Landing.lean undoes (State.Keeps). -/

namespace Sys2Proof.Machine

open Sys2Proof

set_option linter.unreachableTactic false
set_option linter.unusedTactic false

theorem State.ckNodes_keeps {s0 : State} (s : State) (x1 : List (Nat × Nat × Nat)) (h : s0.Keeps s) : s0.Keeps (State.ckNodes s x1) := by
  induction x1 generalizing s with
  | nil =>
    unfold State.ckNodes
    try dsimp only
    repeat' (first | with_reducible assumption | intro _ | with_reducible apply State.Keeps.foldl | with_reducible apply ih |
                   with_reducible apply State.ckTx_keeps | simp only [State.Keeps.mk1] | simp only [State.Keeps.mk2] |
                   simp only [State.Keeps.mk3] | (split <;> try (rename_i hq; injection hq with hq1 hq2; subst hq1; subst hq2)))
  | cons _ _ ih =>
    unfold State.ckNodes
    try dsimp only
    repeat' (first | with_reducible assumption | intro _ | with_reducible apply State.Keeps.foldl | with_reducible apply ih |
                   with_reducible apply State.ckTx_keeps | simp only [State.Keeps.mk1] | simp only [State.Keeps.mk2] |
                   simp only [State.Keeps.mk3] | (split <;> try (rename_i hq; injection hq with hq1 hq2; subst hq1; subst hq2)))

theorem State.raiseNodes_keeps {s0 : State} (s : State) (x1 : List (Nat × Nat × Nat))
     (h : s0.Keeps s) : s0.Keeps (State.raiseNodes s x1) := by
  induction x1 generalizing s with
  | nil =>
    unfold State.raiseNodes
    try dsimp only
    repeat' (first | with_reducible assumption | intro _ | with_reducible apply State.Keeps.foldl | with_reducible apply ih |
                   with_reducible apply State.setNode_keeps | simp only [State.Keeps.mk1] | simp only [State.Keeps.mk2] |
                   simp only [State.Keeps.mk3] | (split <;> try (rename_i hq; injection hq with hq1 hq2; subst hq1; subst hq2)))
  | cons _ _ ih =>
    unfold State.raiseNodes
    try dsimp only
    repeat' (first | with_reducible assumption | intro _ | with_reducible apply State.Keeps.foldl | with_reducible apply ih |
                   with_reducible apply State.setNode_keeps | simp only [State.Keeps.mk1] | simp only [State.Keeps.mk2] |
                   simp only [State.Keeps.mk3] | (split <;> try (rename_i hq; injection hq with hq1 hq2; subst hq1; subst hq2)))

theorem State.checkpointLanded_keeps {s0 : State} (s : State) (epoch : Nat) (bcast : Nat) (bnum : List Nat) (guyline : List Nat)
     (nodes : List (Nat × Nat × Nat)) (h : s0.Keeps s) : s0.Keeps (State.checkpointLanded s epoch bcast bnum guyline nodes) := by
  unfold State.checkpointLanded
  try dsimp only
  repeat' (first | with_reducible assumption | intro _ | with_reducible apply State.Keeps.foldl |
                 with_reducible apply State.ckNodes_keeps | with_reducible apply State.ckBcast_keeps |
                 with_reducible apply State.raiseNodes_keeps | simp only [State.Keeps.mk1] | simp only [State.Keeps.mk2] |
                 simp only [State.Keeps.mk3] | split)

theorem State.payOwed_keeps {s0 : State} (s : State) (x1 : List (Nat × Src)) (h : s0.Keeps s) : s0.Keeps (State.payOwed s x1) := by
  induction x1 generalizing s with
  | nil =>
    unfold State.payOwed
    try dsimp only
    repeat' (first | with_reducible assumption | intro _ | with_reducible apply State.Keeps.foldl | with_reducible apply ih |
                   with_reducible apply State.complete_keeps | simp only [State.Keeps.mk1] | simp only [State.Keeps.mk2] |
                   simp only [State.Keeps.mk3] | (split <;> try (rename_i hq; injection hq with hq1 hq2; subst hq1; subst hq2)))
  | cons _ _ ih =>
    unfold State.payOwed
    try dsimp only
    repeat' (first | with_reducible assumption | intro _ | with_reducible apply State.Keeps.foldl | with_reducible apply ih |
                   with_reducible apply State.complete_keeps | simp only [State.Keeps.mk1] | simp only [State.Keeps.mk2] |
                   simp only [State.Keeps.mk3] | (split <;> try (rename_i hq; injection hq with hq1 hq2; subst hq1; subst hq2)))

theorem State.lifecycleLanded_keeps {s0 : State} (s : State) (rseq : Nat) (r : LcRec)
     (h : s0.Keeps s) : s0.Keeps (State.lifecycleLanded s rseq r) := by
  unfold State.lifecycleLanded
  try dsimp only
  repeat' (first | with_reducible assumption | intro _ | with_reducible apply State.Keeps.foldl |
                 with_reducible apply State.dropPsks_keeps | with_reducible apply State.setFld_keeps |
                 with_reducible apply State.payOwed_keeps | simp only [State.Keeps.mk1] | simp only [State.Keeps.mk2] |
                 simp only [State.Keeps.mk3] | split)

theorem State.landed_keeps {s0 : State} (s : State) (r : JRec) (h : s0.Keeps s) : s0.Keeps (State.landed s r) := by
  unfold State.landed
  try dsimp only
  repeat' (first | with_reducible assumption | intro _ | with_reducible apply State.Keeps.foldl |
                 with_reducible apply State.setFld_keeps | with_reducible apply State.calLanded_keeps |
                 with_reducible apply State.checkpointLanded_keeps | with_reducible apply State.ledgerLanded_keeps |
                 with_reducible apply State.retireLanded_keeps | with_reducible apply State.lifecycleLanded_keeps |
                 with_reducible apply State.ownershipLanded_keeps | simp only [State.Keeps.mk1] | simp only [State.Keeps.mk2] |
                 simp only [State.Keeps.mk3] | split)

theorem commitLanded_keeps {s0 : State} (s : State) (h : s0.Keeps s) : s0.Keeps (commitLanded s) := by
  unfold commitLanded
  try dsimp only
  repeat' (first | with_reducible assumption | intro _ | with_reducible apply State.Keeps.foldl |
                 with_reducible apply State.landed_keeps | with_reducible apply State.commit_keeps | simp only [State.Keeps.mk1] |
                 simp only [State.Keeps.mk2] | simp only [State.Keeps.mk3] | split)

theorem ledgerBatchLanded_keeps {s0 : State} (s : State) (h : s0.Keeps s) : s0.Keeps (ledgerBatchLanded s) := by
  unfold ledgerBatchLanded
  try dsimp only
  repeat' (first | with_reducible assumption | intro _ | with_reducible apply State.Keeps.foldl |
                 with_reducible apply State.landed_keeps | with_reducible apply State.commit_keeps | simp only [State.Keeps.mk1] |
                 simp only [State.Keeps.mk2] | simp only [State.Keeps.mk3] | split)

theorem State.loseNodes_keeps {s0 : State} (s : State) (x1 : List (Nat × Nat × Nat))
     (h : s0.Keeps s) : s0.Keeps (State.loseNodes s x1) := by
  induction x1 generalizing s with
  | nil =>
    unfold State.loseNodes
    try dsimp only
    repeat' (first | with_reducible assumption | intro _ | with_reducible apply State.Keeps.foldl | with_reducible apply ih |
                   with_reducible apply State.checkpoint_keeps | with_reducible apply State.setNode_keeps |
                   simp only [State.Keeps.mk1] | simp only [State.Keeps.mk2] | simp only [State.Keeps.mk3] |
                   (split <;> try (rename_i hq; injection hq with hq1 hq2; subst hq1; subst hq2)))
  | cons _ _ ih =>
    unfold State.loseNodes
    try dsimp only
    repeat' (first | with_reducible assumption | intro _ | with_reducible apply State.Keeps.foldl | with_reducible apply ih |
                   with_reducible apply State.checkpoint_keeps | with_reducible apply State.setNode_keeps |
                   simp only [State.Keeps.mk1] | simp only [State.Keeps.mk2] | simp only [State.Keeps.mk3] |
                   (split <;> try (rename_i hq; injection hq with hq1 hq2; subst hq1; subst hq2)))

theorem State.loseCheckpoint_keeps {s0 : State} (s : State) (bnum : List Nat) (guyline : List Nat) (nodes : List (Nat × Nat × Nat))
     (h : s0.Keeps s) : s0.Keeps (State.loseCheckpoint s bnum guyline nodes) := by
  unfold State.loseCheckpoint
  try dsimp only
  repeat' (first | with_reducible assumption | intro _ | with_reducible apply State.Keeps.foldl |
                 with_reducible apply State.loseNodes_keeps | with_reducible apply State.checkpoint_keeps |
                 simp only [State.Keeps.mk1] | simp only [State.Keeps.mk2] | simp only [State.Keeps.mk3] | split)

theorem State.revertLc_keeps {s0 : State} (s : State) (h : s0.Keeps s) : s0.Keeps (State.revertLc s) := by
  unfold State.revertLc
  try dsimp only
  repeat' (first | with_reducible assumption | intro _ | with_reducible apply State.Keeps.foldl | simp only [State.Keeps.mk1] |
                 simp only [State.Keeps.mk2] | simp only [State.Keeps.mk3] | split)

theorem State.revertOwn_keeps {s0 : State} (s : State) (g : Nat) (h : s0.Keeps s) : s0.Keeps (State.revertOwn s g) := by
  unfold State.revertOwn
  try dsimp only
  repeat' (first | with_reducible assumption | intro _ | with_reducible apply State.Keeps.foldl | simp only [State.Keeps.mk1] |
                 simp only [State.Keeps.mk2] | simp only [State.Keeps.mk3] | split)

theorem State.revertCal_keeps {s0 : State} (s : State) (set : Nat) (target : Nat)
     (h : s0.Keeps s) : s0.Keeps (State.revertCal s set target) := by
  unfold State.revertCal
  try dsimp only
  repeat' (first | with_reducible assumption | intro _ | with_reducible apply State.Keeps.foldl | simp only [State.Keeps.mk1] |
                 simp only [State.Keeps.mk2] | simp only [State.Keeps.mk3] | split)

theorem recordCheckFail_keeps {s0 : State} (rseq : Nat) (s : State) (h : s0.Keeps s) : s0.Keeps (recordCheckFail rseq s) := by
  unfold recordCheckFail
  try dsimp only
  repeat' (first | with_reducible assumption | intro _ | with_reducible apply State.Keeps.foldl |
                 with_reducible apply State.countInjected_keeps | with_reducible apply State.disarm_keeps |
                 with_reducible apply State.countDetectionAt_keeps | with_reducible apply State.setFld_keeps |
                 with_reducible apply State.markLive_keeps | with_reducible apply State.revertOwn_keeps |
                 with_reducible apply State.revertCal_keeps | with_reducible apply State.loseCheckpoint_keeps |
                 with_reducible apply State.event_keeps | with_reducible apply State.revertLc_keeps | simp only [State.Keeps.mk1] |
                 simp only [State.Keeps.mk2] | simp only [State.Keeps.mk3] | split)

theorem calCommitLanded_keeps {s0 : State} (s : State) (h : s0.Keeps s) : s0.Keeps (calCommitLanded s) := by
  unfold calCommitLanded
  try dsimp only
  repeat' (first | with_reducible assumption | intro _ | with_reducible apply State.Keeps.foldl |
                 with_reducible apply State.landed_keeps | with_reducible apply State.commit_keeps | simp only [State.Keeps.mk1] |
                 simp only [State.Keeps.mk2] | simp only [State.Keeps.mk3] | split)

end Sys2Proof.Machine
end

