-- ==== Sys2Proof/Laws/Keeps/Power.lean ====
section
/-! SUPPORT. What no function of Machine/Power.lean undoes (State.Keeps). -/

namespace Sys2Proof.Machine

open Sys2Proof

set_option linter.unreachableTactic false
set_option linter.unusedTactic false

theorem State.seeSupply_keeps {s0 : State} (s : State) (vin : Nat) (pfHigh : Bool)
     (h : s0.Keeps s) : s0.Keeps (State.seeSupply s vin pfHigh) := by
  unfold State.seeSupply
  try dsimp only
  repeat' (first | with_reducible assumption | intro _ | with_reducible apply State.Keeps.foldl | simp only [State.Keeps.mk1] |
                 simp only [State.Keeps.mk2] | simp only [State.Keeps.mk3] | split)

theorem State.stripped_keeps {s0 : State} (s : State) (ground : Bool) (h : s0.Keeps s) : s0.Keeps (State.stripped s ground) :=
  ⟨h.queue, fun hc => ⟨Tab.wf_nil _, Tab.wf_filter _ _ _ (h.canon hc).2⟩, h.fuse, h.rollback, h.revoked, fun _ _ => Nat.zero_le _, fun _ _ => Nat.zero_le _⟩

theorem State.finishCommit_keeps {s0 : State} (s : State) (started : Bool)
     (h : s0.Keeps s) : s0.Keeps (State.finishCommit s started) := by
  unfold State.finishCommit
  try dsimp only
  repeat' (first | with_reducible assumption | intro _ | with_reducible apply State.Keeps.foldl |
                 with_reducible apply Machine.commitLanded_keeps | simp only [State.Keeps.mk1] | simp only [State.Keeps.mk2] |
                 simp only [State.Keeps.mk3] | split)

theorem lowSupplyTrip_keeps {s0 : State} (vin : Nat) (started : Bool) (s : State)
     (h : s0.Keeps s) : s0.Keeps (lowSupplyTrip vin started s) := by
  unfold lowSupplyTrip
  try dsimp only
  repeat' (first | with_reducible assumption | intro _ | with_reducible apply State.Keeps.foldl |
                 with_reducible apply State.seeSupply_keeps | with_reducible apply State.stripped_keeps |
                 with_reducible apply State.finishCommit_keeps | simp only [State.Keeps.mk1] | simp only [State.Keeps.mk2] |
                 simp only [State.Keeps.mk3] | split)

theorem State.dropEvidence_keeps {s0 : State} (s : State) (h : s0.Keeps s) : s0.Keeps (State.dropEvidence s) := by
  unfold State.dropEvidence
  try dsimp only
  repeat' (first | with_reducible assumption | intro _ | with_reducible apply State.Keeps.foldl | simp only [State.Keeps.mk1] |
                 simp only [State.Keeps.mk2] | simp only [State.Keeps.mk3] | split)

theorem State.chooseBank_keeps {s0 : State} (s : State) (sigA : Bool) (sigB : Bool)
     (h : s0.Keeps s) : s0.Keeps (State.chooseBank s sigA sigB).1 := by
  unfold State.chooseBank
  try dsimp only
  repeat' (first | with_reducible assumption | intro _ | with_reducible apply State.Keeps.foldl |
                 with_reducible apply State.imageFailed_keeps | with_reducible apply State.setFld_keeps | simp only [State.Keeps.mk1] |
                 simp only [State.Keeps.mk2] | simp only [State.Keeps.mk3] | split)

theorem State.switchOn_keeps {s0 : State} (s : State) (x1 : List Nat) (h : s0.Keeps s) : s0.Keeps (State.switchOn s x1) := by
  induction x1 generalizing s with
  | nil =>
    unfold State.switchOn
    try dsimp only
    repeat' (first | with_reducible assumption | intro _ | with_reducible apply State.Keeps.foldl | with_reducible apply ih |
                   with_reducible apply State.setDom_keeps | simp only [State.Keeps.mk1] | simp only [State.Keeps.mk2] |
                   simp only [State.Keeps.mk3] | (split <;> try (rename_i hq; injection hq with hq1 hq2; subst hq1; subst hq2)))
  | cons _ _ ih =>
    unfold State.switchOn
    try dsimp only
    repeat' (first | with_reducible assumption | intro _ | with_reducible apply State.Keeps.foldl | with_reducible apply ih |
                   with_reducible apply State.setDom_keeps | simp only [State.Keeps.mk1] | simp only [State.Keeps.mk2] |
                   simp only [State.Keeps.mk3] | (split <;> try (rename_i hq; injection hq with hq1 hq2; subst hq1; subst hq2)))

theorem State.beginMode_keeps {s0 : State} (s : State) (m : Mode) (cause : Nat)
     (h : s0.Keeps s) : s0.Keeps (State.beginMode s m cause) := by
  unfold State.beginMode
  try dsimp only
  repeat' (first | with_reducible assumption | intro _ | with_reducible apply State.Keeps.foldl | simp only [State.Keeps.mk1] |
                 simp only [State.Keeps.mk2] | simp only [State.Keeps.mk3] | split)

theorem State.beginUp_keeps {s0 : State} (s : State) (m : Mode) (cause : Nat) (h : s0.Keeps s) : s0.Keeps (State.beginUp s m cause) := by
  unfold State.beginUp
  try dsimp only
  repeat' (first | with_reducible assumption | intro _ | with_reducible apply State.Keeps.foldl |
                 with_reducible apply State.switchOn_keeps | with_reducible apply State.beginMode_keeps | simp only [State.Keeps.mk1] |
                 simp only [State.Keeps.mk2] | simp only [State.Keeps.mk3] | split)

theorem State.noteWatch_keeps {s0 : State} (s : State) (h : s0.Keeps s) : s0.Keeps (State.noteWatch s) := by
  unfold State.noteWatch
  try dsimp only
  repeat' (first | with_reducible assumption | intro _ | with_reducible apply State.Keeps.foldl | simp only [State.Keeps.mk1] |
                 simp only [State.Keeps.mk2] | simp only [State.Keeps.mk3] | split)

theorem State.perstUp_keeps {s0 : State} (s : State) (h : s0.Keeps s) : s0.Keeps (State.perstUp s) := by
  unfold State.perstUp
  try dsimp only
  repeat' (first | with_reducible assumption | intro _ | with_reducible apply State.Keeps.foldl |
                 with_reducible apply State.beginUp_keeps | with_reducible apply State.noteWatch_keeps |
                 with_reducible apply State.setFld_keeps | simp only [State.Keeps.mk1] | simp only [State.Keeps.mk2] |
                 simp only [State.Keeps.mk3] | split)

theorem State.reachRest_keeps {s0 : State} (s : State) (cause : Nat) (h : s0.Keeps s) : s0.Keeps (State.reachRest s cause) := by
  unfold State.reachRest
  try dsimp only
  repeat' (first | with_reducible assumption | intro _ | with_reducible apply State.Keeps.foldl |
                 with_reducible apply State.setFld_keeps | with_reducible apply State.noteIrq1_keeps |
                 with_reducible apply State.perstUp_keeps | simp only [State.Keeps.mk1] | simp only [State.Keeps.mk2] |
                 simp only [State.Keeps.mk3] | split)

theorem State.completeLc_keeps {s0 : State} (s : State) (h : s0.Keeps s) : s0.Keeps (State.completeLc s) := by
  unfold State.completeLc
  try dsimp only
  repeat' (first | with_reducible assumption | intro _ | with_reducible apply State.Keeps.foldl |
                 with_reducible apply State.submitLc_keeps | simp only [State.Keeps.mk1] | simp only [State.Keeps.mk2] |
                 simp only [State.Keeps.mk3] | split)

theorem State.startRoles_keeps {s0 : State} (s : State) (h : s0.Keeps s) : s0.Keeps (State.startRoles s) := by
  unfold State.startRoles
  try dsimp only
  repeat' (first | with_reducible assumption | intro _ | with_reducible apply State.Keeps.foldl |
                 with_reducible apply State.setRole_keeps | simp only [State.Keeps.mk1] | simp only [State.Keeps.mk2] |
                 simp only [State.Keeps.mk3] | split)

theorem State.countPcs_keeps {s0 : State} (s : State) (h : s0.Keeps s) : s0.Keeps (State.countPcs s) := by
  unfold State.countPcs
  try dsimp only
  repeat' (first | with_reducible assumption | intro _ | with_reducible apply State.Keeps.foldl | simp only [State.Keeps.mk1] |
                 simp only [State.Keeps.mk2] | simp only [State.Keeps.mk3] | split)

theorem State.tamperAtStart_keeps {s0 : State} (s : State) (x1 : List Nat) (h : s0.Keeps s) : s0.Keeps (State.tamperAtStart s x1) := by
  induction x1 generalizing s with
  | nil =>
    unfold State.tamperAtStart
    try dsimp only
    repeat' (first | with_reducible assumption | intro _ | with_reducible apply State.Keeps.foldl | with_reducible apply ih |
                   with_reducible apply State.tamperAct_keeps | simp only [State.Keeps.mk1] | simp only [State.Keeps.mk2] |
                   simp only [State.Keeps.mk3] | (split <;> try (rename_i hq; injection hq with hq1 hq2; subst hq1; subst hq2)))
  | cons _ _ ih =>
    unfold State.tamperAtStart
    try dsimp only
    repeat' (first | with_reducible assumption | intro _ | with_reducible apply State.Keeps.foldl | with_reducible apply ih |
                   with_reducible apply State.tamperAct_keeps | simp only [State.Keeps.mk1] | simp only [State.Keeps.mk2] |
                   simp only [State.Keeps.mk3] | (split <;> try (rename_i hq; injection hq with hq1 hq2; subst hq1; subst hq2)))

theorem State.restoreRegs_keeps {s0 : State} (s : State) (pairs : List (Nat × Word)) (x2 : List (Reg × Nat))
     (h : s0.Keeps s) : s0.Keeps (State.restoreRegs s pairs x2) := by
  induction x2 generalizing s pairs with
  | nil =>
    unfold State.restoreRegs
    try dsimp only
    repeat' (first | with_reducible assumption | intro _ | with_reducible apply State.Keeps.foldl | with_reducible apply ih |
                   with_reducible apply State.setReg_keeps | simp only [State.Keeps.mk1] | simp only [State.Keeps.mk2] |
                   simp only [State.Keeps.mk3] | (split <;> try (rename_i hq; injection hq with hq1 hq2; subst hq1; subst hq2)))
  | cons _ _ ih =>
    unfold State.restoreRegs
    try dsimp only
    repeat' (first | with_reducible assumption | intro _ | with_reducible apply State.Keeps.foldl | with_reducible apply ih |
                   with_reducible apply State.setReg_keeps | simp only [State.Keeps.mk1] | simp only [State.Keeps.mk2] |
                   simp only [State.Keeps.mk3] | (split <;> try (rename_i hq; injection hq with hq1 hq2; subst hq1; subst hq2)))

theorem State.abortAtStart_keeps {s0 : State} (s : State) (x1 : List HandOut) (h : s0.Keeps s) : s0.Keeps (State.abortAtStart s x1) := by
  induction x1 generalizing s with
  | nil =>
    unfold State.abortAtStart
    try dsimp only
    repeat' (first | with_reducible assumption | intro _ | with_reducible apply State.Keeps.foldl | with_reducible apply ih |
                   with_reducible apply State.glControl_keeps | with_reducible apply State.dropHandOut_keeps |
                   simp only [State.Keeps.mk1] | simp only [State.Keeps.mk2] | simp only [State.Keeps.mk3] |
                   (split <;> try (rename_i hq; injection hq with hq1 hq2; subst hq1; subst hq2)))
  | cons _ _ ih =>
    unfold State.abortAtStart
    try dsimp only
    repeat' (first | with_reducible assumption | intro _ | with_reducible apply State.Keeps.foldl | with_reducible apply ih |
                   with_reducible apply State.glControl_keeps | with_reducible apply State.dropHandOut_keeps |
                   simp only [State.Keeps.mk1] | simp only [State.Keeps.mk2] | simp only [State.Keeps.mk3] |
                   (split <;> try (rename_i hq; injection hq with hq1 hq2; subst hq1; subst hq2)))

theorem State.recover_keeps {s0 : State} (s : State) (h : s0.Keeps s) : s0.Keeps (State.recover s) := by
  unfold State.recover
  try dsimp only
  repeat' (first | with_reducible assumption | intro _ | with_reducible apply State.Keeps.foldl |
                 with_reducible apply State.completeLc_keeps | with_reducible apply State.startRoles_keeps |
                 with_reducible apply State.countPcs_keeps | with_reducible apply State.tamperAtStart_keeps |
                 with_reducible apply State.restoreRegs_keeps | with_reducible apply State.setFld_keeps |
                 with_reducible apply State.abortAtStart_keeps | with_reducible apply State.enterMinimal_keeps |
                 simp only [State.Keeps.mk1] | simp only [State.Keeps.mk2] | simp only [State.Keeps.mk3] | split)

theorem State.unshelve_keeps {s0 : State} (s : State) (h : s0.Keeps s) : s0.Keeps (State.unshelve s) := by
  unfold State.unshelve
  split
  · exact h
  · exact State.Keeps.regs h rfl rfl rfl rfl rfl rfl (Tab.wf_foldl _ _ _)

theorem State.shelveAll_keeps {s0 : State} (s : State) (h : s0.Keeps s) : s0.Keeps (State.shelveAll s) := by
  unfold State.shelveAll
  split
  · exact h
  · exact State.Keeps.regs h rfl rfl rfl rfl rfl rfl (Tab.wf_filter _ _ _)

theorem State.startUp_keeps {s0 : State} (s : State) (sigA : Bool) (sigB : Bool) (cause : Nat)
     (h : s0.Keeps s) : s0.Keeps (State.startUp s sigA sigB cause) := by
  unfold State.startUp
  try dsimp only
  repeat' (first | with_reducible assumption | intro _ | with_reducible apply State.Keeps.foldl |
                 with_reducible apply State.chooseBank_keeps | with_reducible apply State.reachRest_keeps |
                 with_reducible apply State.recover_keeps | with_reducible apply State.unshelve_keeps |
                 with_reducible apply State.shelveAll_keeps | simp only [State.Keeps.mk1] | simp only [State.Keeps.mk2] |
                 simp only [State.Keeps.mk3] | split)

theorem State.resumePacks_keeps {s0 : State} (s : State) (x1 : List Nat) (h : s0.Keeps s) : s0.Keeps (State.resumePacks s x1) := by
  induction x1 generalizing s with
  | nil =>
    unfold State.resumePacks
    try dsimp only
    repeat' (first | with_reducible assumption | intro _ | with_reducible apply State.Keeps.foldl | with_reducible apply ih |
                   with_reducible apply State.startEntry_keeps | simp only [State.Keeps.mk1] | simp only [State.Keeps.mk2] |
                   simp only [State.Keeps.mk3] | (split <;> try (rename_i hq; injection hq with hq1 hq2; subst hq1; subst hq2)))
  | cons _ _ ih =>
    unfold State.resumePacks
    try dsimp only
    repeat' (first | with_reducible assumption | intro _ | with_reducible apply State.Keeps.foldl | with_reducible apply ih |
                   with_reducible apply State.startEntry_keeps | simp only [State.Keeps.mk1] | simp only [State.Keeps.mk2] |
                   simp only [State.Keeps.mk3] | (split <;> try (rename_i hq; injection hq with hq1 hq2; subst hq1; subst hq2)))

theorem State.beginDown_keeps {s0 : State} (s : State) (m : Mode) (cause : Nat)
     (h : s0.Keeps s) : s0.Keeps (State.beginDown s m cause) := by
  unfold State.beginDown
  try dsimp only
  repeat' (first | with_reducible assumption | intro _ | with_reducible apply State.Keeps.foldl |
                 with_reducible apply State.drainsForMode_keeps | with_reducible apply State.beginMode_keeps |
                 simp only [State.Keeps.mk1] | simp only [State.Keeps.mk2] | simp only [State.Keeps.mk3] | split)

theorem State.judgeMode_keeps {s0 : State} (s : State) (m : Mode) (h : s0.Keeps s) : s0.Keeps (State.judgeMode s m) := by
  unfold State.judgeMode
  try dsimp only
  repeat' (first | with_reducible assumption | intro _ | with_reducible apply State.Keeps.foldl |
                 with_reducible apply State.setFld_keeps | with_reducible apply State.beginDown_keeps |
                 with_reducible apply State.beginMode_keeps | simp only [State.Keeps.mk1] | simp only [State.Keeps.mk2] |
                 simp only [State.Keeps.mk3] | split)

theorem State.requestMode_keeps {s0 : State} (s : State) (who : Who) (m : Mode)
     (h : s0.Keeps s) : s0.Keeps (State.requestMode s who m) := by
  unfold State.requestMode
  try dsimp only
  repeat' (first | with_reducible assumption | intro _ | with_reducible apply State.Keeps.foldl |
                 with_reducible apply State.gated_keeps | with_reducible apply State.noteIrq1_keeps |
                 with_reducible apply State.judgeMode_keeps | simp only [State.Keeps.mk1] | simp only [State.Keeps.mk2] |
                 simp only [State.Keeps.mk3] | split)

theorem modeReqRest_keeps {s0 : State} (who : Who) (s : State) (h : s0.Keeps s) : s0.Keeps (modeReqRest who s) := by
  unfold modeReqRest
  try dsimp only
  repeat' (first | with_reducible assumption | intro _ | with_reducible apply State.Keeps.foldl |
                 with_reducible apply State.requestMode_keeps | simp only [State.Keeps.mk1] | simp only [State.Keeps.mk2] |
                 simp only [State.Keeps.mk3] | split)

theorem modeReqWatch_keeps {s0 : State} (who : Who) (s : State) (h : s0.Keeps s) : s0.Keeps (modeReqWatch who s) := by
  unfold modeReqWatch
  try dsimp only
  repeat' (first | with_reducible assumption | intro _ | with_reducible apply State.Keeps.foldl |
                 with_reducible apply State.requestMode_keeps | simp only [State.Keeps.mk1] | simp only [State.Keeps.mk2] |
                 simp only [State.Keeps.mk3] | split)

theorem modeReqServe_keeps {s0 : State} (who : Who) (s : State) (h : s0.Keeps s) : s0.Keeps (modeReqServe who s) := by
  unfold modeReqServe
  try dsimp only
  repeat' (first | with_reducible assumption | intro _ | with_reducible apply State.Keeps.foldl |
                 with_reducible apply State.requestMode_keeps | simp only [State.Keeps.mk1] | simp only [State.Keeps.mk2] |
                 simp only [State.Keeps.mk3] | split)

theorem modeReqSurge_keeps {s0 : State} (who : Who) (s : State) (h : s0.Keeps s) : s0.Keeps (modeReqSurge who s) := by
  unfold modeReqSurge
  try dsimp only
  repeat' (first | with_reducible assumption | intro _ | with_reducible apply State.Keeps.foldl |
                 with_reducible apply State.requestMode_keeps | simp only [State.Keeps.mk1] | simp only [State.Keeps.mk2] |
                 simp only [State.Keeps.mk3] | split)

theorem pwrCapWrite_keeps {s0 : State} (who : Who) (value : Word) (s : State) (h : s0.Keeps s) : s0.Keeps (pwrCapWrite who value s) := by
  unfold pwrCapWrite
  try dsimp only
  repeat' (first | with_reducible assumption | intro _ | with_reducible apply State.Keeps.foldl |
                 with_reducible apply State.gated_keeps | with_reducible apply State.setReg_keeps |
                 with_reducible apply State.beginMode_keeps | simp only [State.Keeps.mk1] | simp only [State.Keeps.mk2] |
                 simp only [State.Keeps.mk3] | split)

theorem pwrStatClear_keeps {s0 : State} (who : Who) (value : Word) (s : State)
     (h : s0.Keeps s) : s0.Keeps (pwrStatClear who value s) := by
  unfold pwrStatClear
  try dsimp only
  repeat' (first | with_reducible assumption | intro _ | with_reducible apply State.Keeps.foldl |
                 with_reducible apply State.gated_keeps | with_reducible apply State.store_keeps |
                 with_reducible apply State.noteIrq1_keeps | simp only [State.Keeps.mk1] | simp only [State.Keeps.mk2] |
                 simp only [State.Keeps.mk3] | split)

theorem State.loseSources_keeps {s0 : State} (s : State) (x1 : List Nat) (h : s0.Keeps s) : s0.Keeps (State.loseSources s x1) := by
  induction x1 generalizing s with
  | nil =>
    unfold State.loseSources
    try dsimp only
    repeat' (first | with_reducible assumption | intro _ | with_reducible apply State.Keeps.foldl | with_reducible apply ih |
                   with_reducible apply Machine.sourceLost_keeps | with_reducible apply State.drew_keeps |
                   simp only [State.Keeps.mk1] | simp only [State.Keeps.mk2] | simp only [State.Keeps.mk3] |
                   (split <;> try (rename_i hq; injection hq with hq1 hq2; subst hq1; subst hq2)))
  | cons _ _ ih =>
    unfold State.loseSources
    try dsimp only
    repeat' (first | with_reducible assumption | intro _ | with_reducible apply State.Keeps.foldl | with_reducible apply ih |
                   with_reducible apply Machine.sourceLost_keeps | with_reducible apply State.drew_keeps |
                   simp only [State.Keeps.mk1] | simp only [State.Keeps.mk2] | simp only [State.Keeps.mk3] |
                   (split <;> try (rename_i hq; injection hq with hq1 hq2; subst hq1; subst hq2)))

theorem rstNAssert_keeps {s0 : State} (started : Bool) (s : State) (h : s0.Keeps s) : s0.Keeps (rstNAssert started s) := by
  unfold rstNAssert
  try dsimp only
  repeat' (first | with_reducible assumption | intro _ | with_reducible apply State.Keeps.foldl |
                 with_reducible apply State.stripped_keeps | with_reducible apply State.loseSources_keeps |
                 with_reducible apply State.finishCommit_keeps | simp only [State.Keeps.mk1] | simp only [State.Keeps.mk2] |
                 simp only [State.Keeps.mk3] | split)

theorem State.emberMemory_keeps {s0 : State} (s : State) (set : List Nat) (h : s0.Keeps s) : s0.Keeps (State.emberMemory s set) := by
  unfold State.emberMemory
  try dsimp only
  repeat' (first | with_reducible assumption | intro _ | with_reducible apply State.Keeps.foldl |
                 with_reducible apply State.dropEvidence_keeps | with_reducible apply State.emptyRings_keeps |
                 with_reducible apply State.drew_keeps | simp only [State.Keeps.mk1] | simp only [State.Keeps.mk2] |
                 simp only [State.Keeps.mk3] | split)

theorem State.emberDrains_keeps {s0 : State} (s : State) (set : List Nat) (x2 : List Nat)
     (h : s0.Keeps s) : s0.Keeps (State.emberDrains s set x2) := by
  induction x2 generalizing s set with
  | nil =>
    unfold State.emberDrains
    try dsimp only
    repeat' (first | with_reducible assumption | intro _ | with_reducible apply State.Keeps.foldl | with_reducible apply ih |
                   with_reducible apply State.setDom_keeps | with_reducible apply State.setDrain_keeps |
                   with_reducible apply State.beginDrain_keeps | simp only [State.Keeps.mk1] | simp only [State.Keeps.mk2] |
                   simp only [State.Keeps.mk3] | (split <;> try (rename_i hq; injection hq with hq1 hq2; subst hq1; subst hq2)))
  | cons _ _ ih =>
    unfold State.emberDrains
    try dsimp only
    repeat' (first | with_reducible assumption | intro _ | with_reducible apply State.Keeps.foldl | with_reducible apply ih |
                   with_reducible apply State.setDom_keeps | with_reducible apply State.setDrain_keeps |
                   with_reducible apply State.beginDrain_keeps | simp only [State.Keeps.mk1] | simp only [State.Keeps.mk2] |
                   simp only [State.Keeps.mk3] | (split <;> try (rename_i hq; injection hq with hq1 hq2; subst hq1; subst hq2)))

theorem State.emberLinks_keeps {s0 : State} (s : State) (x1 : List Nat) (h : s0.Keeps s) : s0.Keeps (State.emberLinks s x1) := by
  induction x1 generalizing s with
  | nil =>
    unfold State.emberLinks
    try dsimp only
    repeat' (first | with_reducible assumption | intro _ | with_reducible apply State.Keeps.foldl | with_reducible apply ih |
                   with_reducible apply State.linkLost_keeps | simp only [State.Keeps.mk1] | simp only [State.Keeps.mk2] |
                   simp only [State.Keeps.mk3] | (split <;> try (rename_i hq; injection hq with hq1 hq2; subst hq1; subst hq2)))
  | cons _ _ ih =>
    unfold State.emberLinks
    try dsimp only
    repeat' (first | with_reducible assumption | intro _ | with_reducible apply State.Keeps.foldl | with_reducible apply ih |
                   with_reducible apply State.linkLost_keeps | simp only [State.Keeps.mk1] | simp only [State.Keeps.mk2] |
                   simp only [State.Keeps.mk3] | (split <;> try (rename_i hq; injection hq with hq1 hq2; subst hq1; subst hq2)))

theorem State.endAssocs_keeps {s0 : State} (s : State) (x1 : List Nat) (h : s0.Keeps s) : s0.Keeps (State.endAssocs s x1) := by
  induction x1 generalizing s with
  | nil =>
    unfold State.endAssocs
    try dsimp only
    repeat' (first | with_reducible assumption | intro _ | with_reducible apply State.Keeps.foldl | with_reducible apply ih |
                   with_reducible apply State.endAssoc_keeps | simp only [State.Keeps.mk1] | simp only [State.Keeps.mk2] |
                   simp only [State.Keeps.mk3] | (split <;> try (rename_i hq; injection hq with hq1 hq2; subst hq1; subst hq2)))
  | cons _ _ ih =>
    unfold State.endAssocs
    try dsimp only
    repeat' (first | with_reducible assumption | intro _ | with_reducible apply State.Keeps.foldl | with_reducible apply ih |
                   with_reducible apply State.endAssoc_keeps | simp only [State.Keeps.mk1] | simp only [State.Keeps.mk2] |
                   simp only [State.Keeps.mk3] | (split <;> try (rename_i hq; injection hq with hq1 hq2; subst hq1; subst hq2)))

theorem State.abortHands_keeps {s0 : State} (s : State) (x1 : List HandOut) (h : s0.Keeps s) : s0.Keeps (State.abortHands s x1) := by
  induction x1 generalizing s with
  | nil =>
    unfold State.abortHands
    try dsimp only
    repeat' (first | with_reducible assumption | intro _ | with_reducible apply State.Keeps.foldl | with_reducible apply ih |
                   with_reducible apply State.abortHand_keeps | with_reducible apply State.glControl_keeps |
                   simp only [State.Keeps.mk1] | simp only [State.Keeps.mk2] | simp only [State.Keeps.mk3] |
                   (split <;> try (rename_i hq; injection hq with hq1 hq2; subst hq1; subst hq2)))
  | cons _ _ ih =>
    unfold State.abortHands
    try dsimp only
    repeat' (first | with_reducible assumption | intro _ | with_reducible apply State.Keeps.foldl | with_reducible apply ih |
                   with_reducible apply State.abortHand_keeps | with_reducible apply State.glControl_keeps |
                   simp only [State.Keeps.mk1] | simp only [State.Keeps.mk2] | simp only [State.Keeps.mk3] |
                   (split <;> try (rename_i hq; injection hq with hq1 hq2; subst hq1; subst hq2)))

theorem State.emberUnits_keeps {s0 : State} (s : State) (set : List Nat) (h : s0.Keeps s) : s0.Keeps (State.emberUnits s set) := by
  unfold State.emberUnits
  try dsimp only
  repeat' (first | with_reducible assumption | intro _ | with_reducible apply State.Keeps.foldl |
                 with_reducible apply State.endReceps_keeps | with_reducible apply State.emberDrains_keeps |
                 with_reducible apply State.endTests_keeps | with_reducible apply State.calAbandonAll_keeps |
                 with_reducible apply State.rollback_keeps | with_reducible apply State.reap_keeps |
                 with_reducible apply State.endTasks_keeps | with_reducible apply State.setLevel_keeps |
                 with_reducible apply State.emberLinks_keeps | with_reducible apply State.endAssocs_keeps |
                 with_reducible apply State.abortHands_keeps | simp only [State.Keeps.mk1] | simp only [State.Keeps.mk2] |
                 simp only [State.Keeps.mk3] | split)

theorem State.outageReport_keeps {s0 : State} (s : State) (cause : Nat) (h : s0.Keeps s) : s0.Keeps (State.outageReport s cause) := by
  unfold State.outageReport
  try dsimp only
  repeat' (first | with_reducible assumption | intro _ | with_reducible apply State.Keeps.foldl |
                 with_reducible apply State.eventAs_keeps | simp only [State.Keeps.mk1] | simp only [State.Keeps.mk2] |
                 simp only [State.Keeps.mk3] | split)

theorem State.enterEmber_keeps {s0 : State} (s : State) (cause : Nat) (keep : List Nat)
     (h : s0.Keeps s) : s0.Keeps (State.enterEmber s cause keep) := by
  unfold State.enterEmber
  try dsimp only
  repeat' (first | with_reducible assumption | intro _ | with_reducible apply State.Keeps.foldl |
                 with_reducible apply State.dropChallenge_keeps | with_reducible apply State.setFld_keeps |
                 with_reducible apply State.emberMemory_keeps | with_reducible apply State.emberUnits_keeps |
                 with_reducible apply State.noteIrq1_keeps | with_reducible apply State.outageReport_keeps |
                 with_reducible apply State.checkpointAll_keeps | with_reducible apply State.refit_keeps |
                 with_reducible apply State.loseSources_keeps | simp only [State.Keeps.mk1] | simp only [State.Keeps.mk2] |
                 simp only [State.Keeps.mk3] | split)

theorem State.trigger_keeps {s0 : State} (s : State) (cause : Nat) (keep : List Nat)
     (h : s0.Keeps s) : s0.Keeps (State.trigger s cause keep) := by
  unfold State.trigger
  try dsimp only
  repeat' (first | with_reducible assumption | intro _ | with_reducible apply State.Keeps.foldl |
                 with_reducible apply State.enterEmber_keeps | with_reducible apply State.event_keeps |
                 with_reducible apply State.noteIrq1_keeps | with_reducible apply State.setFld_keeps | simp only [State.Keeps.mk1] |
                 simp only [State.Keeps.mk2] | simp only [State.Keeps.mk3] | split)

theorem State.resetMaps_keeps {s0 : State} (s : State) (h : s0.Keeps s) : s0.Keeps (State.resetMaps s) := by
  unfold State.resetMaps
  try dsimp only
  repeat' (first | with_reducible assumption | intro _ | with_reducible apply State.Keeps.foldl | simp only [State.Keeps.mk1] |
                 simp only [State.Keeps.mk2] | simp only [State.Keeps.mk3] | split)

theorem State.leaveEmber_keeps {s0 : State} (s : State) (m : Mode) (power : List Nat)
     (h : s0.Keeps s) : s0.Keeps (State.leaveEmber s m power) := by
  unfold State.leaveEmber
  try dsimp only
  repeat' (first | with_reducible assumption | intro _ | with_reducible apply State.Keeps.foldl |
                 with_reducible apply State.powerAll_keeps | with_reducible apply State.setFld_keeps |
                 with_reducible apply State.noteIrq1_keeps | with_reducible apply State.resumePacks_keeps |
                 with_reducible apply State.refit_keeps | with_reducible apply State.resetMaps_keeps | simp only [State.Keeps.mk1] |
                 simp only [State.Keeps.mk2] | simp only [State.Keeps.mk3] | split)

theorem modeDrainForcedDisable_keeps {s0 : State} (unit : Nat) (s : State)
     (h : s0.Keeps s) : s0.Keeps (modeDrainForcedDisable unit s) := by
  unfold modeDrainForcedDisable
  try dsimp only
  repeat' (first | with_reducible assumption | intro _ | with_reducible apply State.Keeps.foldl |
                 with_reducible apply State.forceUnit_keeps | simp only [State.Keeps.mk1] | simp only [State.Keeps.mk2] |
                 simp only [State.Keeps.mk3] | split)

theorem State.wakeMove_keeps {s0 : State} (s : State) (c : Nat) (h : s0.Keeps s) : s0.Keeps (State.wakeMove s c) := by
  unfold State.wakeMove
  try dsimp only
  repeat' (first | with_reducible assumption | intro _ | with_reducible apply State.Keeps.foldl |
                 with_reducible apply State.beginUp_keeps | simp only [State.Keeps.mk1] | simp only [State.Keeps.mk2] |
                 simp only [State.Keeps.mk3] | split)

theorem State.afterMode_keeps {s0 : State} (s : State) (keep : List Nat) (h : s0.Keeps s) : s0.Keeps (State.afterMode s keep) := by
  unfold State.afterMode
  try dsimp only
  repeat' (first | with_reducible assumption | intro _ | with_reducible apply State.Keeps.foldl |
                 with_reducible apply State.enterEmber_keeps | with_reducible apply State.judgeMode_keeps |
                 with_reducible apply State.perstUp_keeps | with_reducible apply State.wakeMove_keeps | simp only [State.Keeps.mk1] |
                 simp only [State.Keeps.mk2] | simp only [State.Keeps.mk3] | split)

theorem emberExit_keeps {s0 : State} (vin : Nat) (pfHigh : Bool) (s : State) (h : s0.Keeps s) : s0.Keeps (emberExit vin pfHigh s) := by
  unfold emberExit
  try dsimp only
  repeat' (first | with_reducible assumption | intro _ | with_reducible apply State.Keeps.foldl |
                 with_reducible apply State.seeSupply_keeps | with_reducible apply State.beginMode_keeps |
                 with_reducible apply State.noteIrq1_keeps | simp only [State.Keeps.mk1] | simp only [State.Keeps.mk2] |
                 simp only [State.Keeps.mk3] | split)

theorem State.restartBnum_keeps {s0 : State} (s : State) (x1 : List Nat) (h : s0.Keeps s) : s0.Keeps (State.restartBnum s x1) := by
  induction x1 generalizing s with
  | nil =>
    unfold State.restartBnum
    try dsimp only
    repeat' (first | with_reducible assumption | intro _ | with_reducible apply State.Keeps.foldl | with_reducible apply ih |
                   with_reducible apply State.setReg_keeps | simp only [State.Keeps.mk1] | simp only [State.Keeps.mk2] |
                   simp only [State.Keeps.mk3] | (split <;> try (rename_i hq; injection hq with hq1 hq2; subst hq1; subst hq2)))
  | cons _ _ ih =>
    unfold State.restartBnum
    try dsimp only
    repeat' (first | with_reducible assumption | intro _ | with_reducible apply State.Keeps.foldl | with_reducible apply ih |
                   with_reducible apply State.setReg_keeps | simp only [State.Keeps.mk1] | simp only [State.Keeps.mk2] |
                   simp only [State.Keeps.mk3] | (split <;> try (rename_i hq; injection hq with hq1 hq2; subst hq1; subst hq2)))

theorem State.restartRule_keeps {s0 : State} (s : State) (h : s0.Keeps s) : s0.Keeps (State.restartRule s) := by
  unfold State.restartRule
  try dsimp only
  repeat' (first | with_reducible assumption | intro _ | with_reducible apply State.Keeps.foldl |
                 with_reducible apply State.checkpointAll_keeps | with_reducible apply State.restartBnum_keeps |
                 with_reducible apply State.setFld_keeps | simp only [State.Keeps.mk1] | simp only [State.Keeps.mk2] |
                 simp only [State.Keeps.mk3] | split)

theorem rstNRelease_keeps {s0 : State} (sigA : Bool) (sigB : Bool) (s : State) (h : s0.Keeps s) : s0.Keeps (rstNRelease sigA sigB s) := by
  unfold rstNRelease
  try dsimp only
  repeat' (first | with_reducible assumption | intro _ | with_reducible apply State.Keeps.foldl |
                 with_reducible apply State.startUp_keeps | with_reducible apply State.setFld_keeps | simp only [State.Keeps.mk1] |
                 simp only [State.Keeps.mk2] | simp only [State.Keeps.mk3] | split)

theorem State.muteWake_keeps {s0 : State} (s : State) (x1 : List Nat) (h : s0.Keeps s) : s0.Keeps (State.muteWake s x1) := by
  induction x1 generalizing s with
  | nil =>
    unfold State.muteWake
    try dsimp only
    repeat' (first | with_reducible assumption | intro _ | with_reducible apply State.Keeps.foldl | with_reducible apply ih |
                   with_reducible apply State.setFld_keeps | simp only [State.Keeps.mk1] | simp only [State.Keeps.mk2] |
                   simp only [State.Keeps.mk3] | (split <;> try (rename_i hq; injection hq with hq1 hq2; subst hq1; subst hq2)))
  | cons _ _ ih =>
    unfold State.muteWake
    try dsimp only
    repeat' (first | with_reducible assumption | intro _ | with_reducible apply State.Keeps.foldl | with_reducible apply ih |
                   with_reducible apply State.setFld_keeps | simp only [State.Keeps.mk1] | simp only [State.Keeps.mk2] |
                   simp only [State.Keeps.mk3] | (split <;> try (rename_i hq; injection hq with hq1 hq2; subst hq1; subst hq2)))

theorem vinStart_keeps {s0 : State} (vin : Nat) (pfHigh : Bool) (sigA : Bool) (sigB : Bool) (s : State)
     (h : s0.Keeps s) : s0.Keeps (vinStart vin pfHigh sigA sigB s) := by
  unfold vinStart
  try dsimp only
  repeat' (first | with_reducible assumption | intro _ | with_reducible apply State.Keeps.foldl |
                 with_reducible apply State.seeSupply_keeps | with_reducible apply State.startUp_keeps | simp only [State.Keeps.mk1] |
                 simp only [State.Keeps.mk2] | simp only [State.Keeps.mk3] | split)

theorem wake_keeps {s0 : State} (source : Nat) (s : State) (h : s0.Keeps s) : s0.Keeps (wake source s) := by
  unfold wake
  try dsimp only
  repeat' (first | with_reducible assumption | intro _ | with_reducible apply State.Keeps.foldl |
                 with_reducible apply State.noteIrq1_keeps | with_reducible apply State.noteWatch_keeps |
                 with_reducible apply State.setFld_keeps | with_reducible apply State.wakeMove_keeps | simp only [State.Keeps.mk1] |
                 simp only [State.Keeps.mk2] | simp only [State.Keeps.mk3] | split)

theorem perstNRise_keeps {s0 : State} (s : State) (h : s0.Keeps s) : s0.Keeps (perstNRise s) := by
  unfold perstNRise
  try dsimp only
  repeat' (first | with_reducible assumption | intro _ | with_reducible apply State.Keeps.foldl |
                 with_reducible apply State.perstUp_keeps | simp only [State.Keeps.mk1] | simp only [State.Keeps.mk2] |
                 simp only [State.Keeps.mk3] | split)

theorem emberMaxSExpire_keeps {s0 : State} (s : State) (h : s0.Keeps s) : s0.Keeps (emberMaxSExpire s) := by
  unfold emberMaxSExpire
  try dsimp only
  repeat' (first | with_reducible assumption | intro _ | with_reducible apply State.Keeps.foldl |
                 with_reducible apply State.beginDown_keeps | simp only [State.Keeps.mk1] | simp only [State.Keeps.mk2] |
                 simp only [State.Keeps.mk3] | split)

theorem State.enterServe_keeps {s0 : State} (s : State) (h : s0.Keeps s) : s0.Keeps (State.enterServe s) := by
  unfold State.enterServe
  extract_lets x1 a b x2 x3 x4 c d x5 x6 e
  have ha : s0.Keeps a := State.Keeps.upd h rfl rfl rfl rfl rfl rfl rfl rfl rfl
  have hb : s0.Keeps b := State.powerAll_keeps _ _ ha
  have hc : s0.Keeps c := State.Keeps.upd hb rfl rfl rfl rfl rfl rfl rfl rfl rfl
  have hd : s0.Keeps d := State.restartRule_keeps _ (State.resetMaps_keeps _ (State.emptyRings_keeps _ _ hc))
  have he : s0.Keeps e := by
    unfold e
    split
    · exact State.Keeps.mk1.2 (State.setFld_keeps _ _ _ _ hd)
    · exact hd
  split
  · exact State.beginJoin_keeps _ he
  · exact he

theorem State.enterLow_keeps {s0 : State} (s : State) (m : Mode) (h : s0.Keeps s) : s0.Keeps (State.enterLow s m) := by
  unfold State.enterLow
  extract_lets s1 s2 s3 x1 x2 x3 x4 x5 s4 s5 x6
  have h1 : s0.Keeps s1 := State.rollback_keeps _ (State.endTests_keeps _ _ (State.calAbandonAll_keeps _ (State.checkpointAll_keeps _ h)))
  have h3 : s0.Keeps s3 := State.dropPsks_keeps _ (State.dropSessions_keeps _ (State.setLevel_keeps _ _ (State.evictAll_keeps _ _ h1)))
  clear_value s3
  have h4 : s0.Keeps s4 := State.Keeps.clear h3 rfl rfl rfl rfl rfl rfl rfl
  have h5 : s0.Keeps s5 := State.muteWake_keeps _ _ (State.loseSources_keeps _ _ (State.dropEvidence_keeps _ (State.resetMaps_keeps _
    (State.emptyRings_keeps _ _ h4))))
  clear_value s5
  exact State.setGlState_keeps _ _ (State.Keeps.upd h5 rfl rfl rfl rfl rfl rfl rfl rfl rfl)

theorem vinEmberCross_keeps {s0 : State} (vin : Nat) (keep : List Nat) (s : State)
     (h : s0.Keeps s) : s0.Keeps (vinEmberCross vin keep s) := by
  unfold vinEmberCross
  try dsimp only
  repeat' (first | with_reducible assumption | intro _ | with_reducible apply State.Keeps.foldl |
                 with_reducible apply State.noteIrq1_keeps | with_reducible apply State.trigger_keeps | simp only [State.Keeps.mk1] |
                 simp only [State.Keeps.mk2] | simp only [State.Keeps.mk3] | split)

theorem State.setMode_keeps {s0 : State} (s : State) (m : Mode) (h : s0.Keeps s) : s0.Keeps (State.setMode s m) := by
  unfold State.setMode
  try dsimp only
  repeat' (first | with_reducible assumption | intro _ | with_reducible apply State.Keeps.foldl | simp only [State.Keeps.mk1] |
                 simp only [State.Keeps.mk2] | simp only [State.Keeps.mk3] | split)

theorem modeTransitionComplete_keeps {s0 : State} (vin : Nat) (pfHigh : Bool) (power : List Nat) (keep : List Nat) (s : State)
     (h : s0.Keeps s) : s0.Keeps (modeTransitionComplete vin pfHigh power keep s) := by
  unfold modeTransitionComplete
  try dsimp only
  repeat' (first | with_reducible assumption | intro _ | with_reducible apply State.Keeps.foldl |
                 with_reducible apply State.dropChallenge_keeps | with_reducible apply State.setFld_keeps |
                 with_reducible apply State.seeSupply_keeps | with_reducible apply State.noteWatch_keeps |
                 with_reducible apply State.powerAll_keeps | with_reducible apply State.enterServe_keeps |
                 with_reducible apply State.enterLow_keeps | with_reducible apply State.leaveEmber_keeps |
                 with_reducible apply State.setMode_keeps | with_reducible apply State.noteIrq1_keeps |
                 with_reducible apply State.afterMode_keeps | simp only [State.Keeps.mk1] | simp only [State.Keeps.mk2] |
                 simp only [State.Keeps.mk3] | split)

theorem watchTimeout_keeps {s0 : State} (s : State) (h : s0.Keeps s) : s0.Keeps (watchTimeout s) := by
  unfold watchTimeout
  try dsimp only
  repeat' (first | with_reducible assumption | intro _ | with_reducible apply State.Keeps.foldl |
                 with_reducible apply State.beginDown_keeps | simp only [State.Keeps.mk1] | simp only [State.Keeps.mk2] |
                 simp only [State.Keeps.mk3] | split)

theorem powerCapControl_keeps {s0 : State} (demand : Nat) (vcore : Nat) (idle : List Nat) (s : State)
     (h : s0.Keeps s) : s0.Keeps (powerCapControl demand vcore idle s) := by
  unfold powerCapControl
  try dsimp only
  repeat' (first | with_reducible assumption | intro _ | with_reducible apply State.Keeps.foldl |
                 with_reducible apply Machine.hbmStepChange_keeps | with_reducible apply State.beginDrains_keeps |
                 with_reducible apply State.noteIrq1_keeps | with_reducible apply State.event_keeps |
                 with_reducible apply State.setFld_keeps | simp only [State.Keeps.mk1] | simp only [State.Keeps.mk2] |
                 simp only [State.Keeps.mk3] | split)

theorem pwrFailAssert_keeps {s0 : State} (keep : List Nat) (s : State) (h : s0.Keeps s) : s0.Keeps (pwrFailAssert keep s) := by
  unfold pwrFailAssert
  try dsimp only
  repeat' (first | with_reducible assumption | intro _ | with_reducible apply State.Keeps.foldl |
                 with_reducible apply State.noteIrq1_keeps | with_reducible apply State.trigger_keeps | simp only [State.Keeps.mk1] |
                 simp only [State.Keeps.mk2] | simp only [State.Keeps.mk3] | split)

end Sys2Proof.Machine
end

