-- ==== Sys2Proof/Laws/Keeps/Security.lean ====
section
/-! SUPPORT. What no function of Machine/Security.lean undoes (State.Keeps). -/

namespace Sys2Proof.Machine

open Sys2Proof

set_option linter.unreachableTactic false
set_option linter.unusedTactic false

theorem State.secResult_keeps {s0 : State} (s : State) (st : Status) (h : s0.Keeps s) : s0.Keeps (State.secResult s st) := by
  unfold State.secResult
  try dsimp only
  repeat' (first | with_reducible assumption | intro _ | with_reducible apply State.Keeps.foldl |
                 with_reducible apply State.setFld_keeps | simp only [State.Keeps.mk1] | simp only [State.Keeps.mk2] |
                 simp only [State.Keeps.mk3] | split)

theorem State.secGo_keeps {s0 : State} (s : State) (op : Nat) (f : State → State) (h_f : ∀ y0, s0.Keeps y0 → s0.Keeps (f y0))
     (h : s0.Keeps s) : s0.Keeps (State.secGo s op f) := by
  unfold State.secGo
  try dsimp only
  repeat' (first | with_reducible assumption | intro _ | with_reducible apply State.Keeps.foldl | with_reducible apply h_f |
                 with_reducible apply State.gated_keeps | with_reducible apply State.setFld_keeps |
                 with_reducible apply State.secResult_keeps | simp only [State.Keeps.mk1] | simp only [State.Keeps.mk2] |
                 simp only [State.Keeps.mk3] | split)

theorem State.signed_keeps {s0 : State} (s : State) (op : Nat) (permits : List Byte → Nat → Bool) (allowed : List Byte → Nat → Bool)
     (f : List Byte → Nat → State → State) (h_f : ∀ y0 y1 y2, s0.Keeps y2 → s0.Keeps (f y0 y1 y2))
     (h : s0.Keeps s) : s0.Keeps (State.signed s op permits allowed f) := by
  unfold State.signed
  try dsimp only
  repeat' (first | with_reducible assumption | intro _ | with_reducible apply State.Keeps.foldl | with_reducible apply h_f |
                 with_reducible apply State.dropChallenge_keeps | with_reducible apply State.secResult_keeps |
                 simp only [State.Keeps.mk1] | simp only [State.Keeps.mk2] | simp only [State.Keeps.mk3] | split)

theorem State.secRecord_keeps {s0 : State} (s : State) (r : LcRec) (h : s0.Keeps s) : s0.Keeps (State.secRecord s r) :=
  State.Keeps.upd (State.submitLc_keeps s r h) rfl rfl rfl rfl rfl rfl rfl rfl rfl

theorem rollback_keeps {s0 : State} (s : State) (h : s0.Keeps s) : s0.Keeps (rollback s) := by
  unfold rollback
  refine State.secGo_keeps _ _ _ (fun t ht => ?_) h
  refine State.signed_keeps _ _ _ _ _ (fun p n u hu => ?_) ht
  dsimp only
  split
  · exact State.secResult_keeps _ _ hu
  · rename_i hn
    refine State.secRecord_keeps _ _ ⟨hu.queue, hu.canon, hu.fuse, fun c => ?_, hu.revoked, hu.slots, hu.credits⟩
    refine Nat.le_trans (hu.rollback c) ?_
    dsimp only
    rw [Tab.get_set]
    split
    · rename_i hc
      subst hc
      simp only [State.rollbackOf] at hn
      omega
    · exact Nat.le_refl _

theorem State.putXfer_keeps {s0 : State} (s : State) (ofs : Nat) (x2 : List Byte)
     (h : s0.Keeps s) : s0.Keeps (State.putXfer s ofs x2) := by
  induction x2 generalizing s ofs with
  | nil =>
    unfold State.putXfer
    try dsimp only
    repeat' (first | with_reducible assumption | intro _ | with_reducible apply State.Keeps.foldl | with_reducible apply ih |
                   simp only [State.Keeps.mk1] | simp only [State.Keeps.mk2] | simp only [State.Keeps.mk3] |
                   (split <;> try (rename_i hq; injection hq with hq1 hq2; subst hq1; subst hq2)))
  | cons _ _ ih =>
    unfold State.putXfer
    try dsimp only
    repeat' (first | with_reducible assumption | intro _ | with_reducible apply State.Keeps.foldl | with_reducible apply ih |
                   simp only [State.Keeps.mk1] | simp only [State.Keeps.mk2] | simp only [State.Keeps.mk3] |
                   (split <;> try (rename_i hq; injection hq with hq1 hq2; subst hq1; subst hq2)))

theorem State.burn_keeps {s0 : State} (s : State) (n : Nat) (h : s0.Keeps s) : s0.Keeps (State.burn s n) :=
  ⟨h.queue, h.canon, Nat.le_trans h.fuse (Nat.le_max_left _ _), h.rollback, h.revoked, h.slots, h.credits⟩

theorem provision_keeps {s0 : State} (s : State) (h : s0.Keeps s) : s0.Keeps (provision s) := by
  unfold provision
  try dsimp only
  repeat' (first | with_reducible assumption | intro _ | with_reducible apply State.Keeps.foldl |
                 with_reducible apply State.secGo_keeps | with_reducible apply State.secResult_keeps |
                 with_reducible apply State.setLevel_keeps | with_reducible apply State.burn_keeps |
                 with_reducible apply State.secRecord_keeps | simp only [State.Keeps.mk1] | simp only [State.Keeps.mk2] |
                 simp only [State.Keeps.mk3] | split)

theorem keyImport_keeps {s0 : State} (s : State) (h : s0.Keeps s) : s0.Keeps (keyImport s) := by
  unfold keyImport
  try dsimp only
  repeat' (first | with_reducible assumption | intro _ | with_reducible apply State.Keeps.foldl |
                 with_reducible apply State.secGo_keeps | with_reducible apply State.signed_keeps |
                 with_reducible apply State.secResult_keeps | with_reducible apply State.secRecord_keeps |
                 simp only [State.Keeps.mk1] | simp only [State.Keeps.mk2] | simp only [State.Keeps.mk3] | split)

theorem State.moveLc_keeps {s0 : State} (s : State) (goal : Nat) (h : s0.Keeps s) : s0.Keeps (State.moveLc s goal) := by
  unfold State.moveLc
  try dsimp only
  repeat' (first | with_reducible assumption | intro _ | with_reducible apply State.Keeps.foldl |
                 with_reducible apply State.setLevel_keeps | with_reducible apply State.burn_keeps |
                 with_reducible apply State.secRecord_keeps | with_reducible apply State.rollback_keeps |
                 with_reducible apply State.zeroKek_keeps | with_reducible apply State.zeroLinkKeys_keeps |
                 with_reducible apply State.evictAll_keeps | with_reducible apply State.beginDrains_keeps |
                 simp only [State.Keeps.mk1] | simp only [State.Keeps.mk2] | simp only [State.Keeps.mk3] | split)

theorem lifecycle_keeps {s0 : State} (s : State) (h : s0.Keeps s) : s0.Keeps (lifecycle s) := by
  unfold lifecycle
  try dsimp only
  repeat' (first | with_reducible assumption | intro _ | with_reducible apply State.Keeps.foldl |
                 with_reducible apply State.secGo_keeps | with_reducible apply State.signed_keeps |
                 with_reducible apply State.moveLc_keeps | simp only [State.Keeps.mk1] | simp only [State.Keeps.mk2] |
                 simp only [State.Keeps.mk3] | split)

theorem unlock_keeps {s0 : State} (s : State) (h : s0.Keeps s) : s0.Keeps (unlock s) := by
  unfold unlock
  try dsimp only
  repeat' (first | with_reducible assumption | intro _ | with_reducible apply State.Keeps.foldl |
                 with_reducible apply State.secGo_keeps | with_reducible apply State.signed_keeps |
                 with_reducible apply State.setLevel_keeps | with_reducible apply State.secResult_keeps |
                 with_reducible apply State.setFld_keeps | simp only [State.Keeps.mk1] | simp only [State.Keeps.mk2] |
                 simp only [State.Keeps.mk3] | split)

theorem State.answer_keeps {s0 : State} (s : State) (b : List Byte) (h : s0.Keeps s) : s0.Keeps (State.answer s b) := by
  unfold State.answer
  try dsimp only
  repeat' (first | with_reducible assumption | intro _ | with_reducible apply State.Keeps.foldl |
                 with_reducible apply State.setFld_keeps | with_reducible apply State.putXfer_keeps | simp only [State.Keeps.mk1] |
                 simp only [State.Keeps.mk2] | simp only [State.Keeps.mk3] | split)

theorem attest_keeps {s0 : State} (s : State) (h : s0.Keeps s) : s0.Keeps (attest s) := by
  unfold attest
  try dsimp only
  repeat' (first | with_reducible assumption | intro _ | with_reducible apply State.Keeps.foldl |
                 with_reducible apply State.secGo_keeps | with_reducible apply State.secResult_keeps |
                 with_reducible apply State.answer_keeps | simp only [State.Keeps.mk1] | simp only [State.Keeps.mk2] |
                 simp only [State.Keeps.mk3] | split)

theorem revoke_keeps {s0 : State} (s : State) (h : s0.Keeps s) : s0.Keeps (revoke s) := by
  unfold revoke
  refine State.secGo_keeps _ _ _ (fun t ht => ?_) h
  refine State.signed_keeps _ _ _ _ _ (fun p n u hu => ?_) ht
  dsimp only
  split
  · exact State.secResult_keeps _ _ hu
  · refine State.secRecord_keeps _ _ ⟨hu.queue, hu.canon, hu.fuse, hu.rollback, fun c hc => ?_, hu.slots, hu.credits⟩
    have := hu.revoked c hc
    dsimp only
    rw [Tab.get_set]
    split
    · rfl
    · exact this

theorem State.setBank_keeps {s0 : State} (s : State) (b : Bank) (ok : Bool) (h : s0.Keeps s) : s0.Keeps (State.setBank s b ok) := by
  unfold State.setBank
  try dsimp only
  repeat' (first | with_reducible assumption | intro _ | with_reducible apply State.Keeps.foldl | simp only [State.Keeps.mk1] |
                 simp only [State.Keeps.mk2] | simp only [State.Keeps.mk3] | split)

theorem stage_keeps {s0 : State} (image : PackImage) (s : State) (h : s0.Keeps s) : s0.Keeps (stage image s) := by
  unfold stage
  try dsimp only
  repeat' (first | with_reducible assumption | intro _ | with_reducible apply State.Keeps.foldl |
                 with_reducible apply State.secGo_keeps | with_reducible apply State.secResult_keeps |
                 with_reducible apply State.setBank_keeps | with_reducible apply State.imageFailed_keeps |
                 simp only [State.Keeps.mk1] | simp only [State.Keeps.mk2] | simp only [State.Keeps.mk3] | split)

theorem State.switched_keeps {s0 : State} (s : State) (h : s0.Keeps s) : s0.Keeps (State.switched s) := by
  unfold State.switched
  try dsimp only
  repeat' (first | with_reducible assumption | intro _ | with_reducible apply State.Keeps.foldl |
                 with_reducible apply State.secResult_keeps | with_reducible apply State.dropChallenge_keeps |
                 with_reducible apply State.recover_keeps | with_reducible apply State.unshelve_keeps |
                 with_reducible apply State.setFld_keeps | with_reducible apply State.reachRest_keeps | simp only [State.Keeps.mk1] |
                 simp only [State.Keeps.mk2] | simp only [State.Keeps.mk3] | split)

theorem switch_keeps {s0 : State} (ready : Bool) (s : State) (h : s0.Keeps s) : s0.Keeps (switch ready s) := by
  unfold switch
  try dsimp only
  repeat' (first | with_reducible assumption | intro _ | with_reducible apply State.Keeps.foldl |
                 with_reducible apply State.secGo_keeps | with_reducible apply State.secResult_keeps |
                 with_reducible apply State.switched_keeps | simp only [State.Keeps.mk1] | simp only [State.Keeps.mk2] |
                 simp only [State.Keeps.mk3] | split)

theorem challenge_keeps {s0 : State} (s : State) (h : s0.Keeps s) : s0.Keeps (challenge s) := by
  unfold challenge
  refine State.secGo_keeps _ _ _ (fun t ht => ?_) h
  exact State.secResult_keeps _ _ (State.Keeps.upd ht rfl rfl rfl rfl rfl rfl rfl rfl rfl)

theorem certs_keeps {s0 : State} (s : State) (h : s0.Keeps s) : s0.Keeps (certs s) := by
  unfold certs
  try dsimp only
  repeat' (first | with_reducible assumption | intro _ | with_reducible apply State.Keeps.foldl |
                 with_reducible apply State.secGo_keeps | with_reducible apply State.secResult_keeps |
                 with_reducible apply State.answer_keeps | simp only [State.Keeps.mk1] | simp only [State.Keeps.mk2] |
                 simp only [State.Keeps.mk3] | split)

theorem dbgLevelWrite_keeps {s0 : State} (value : Word) (s : State) (h : s0.Keeps s) : s0.Keeps (dbgLevelWrite value s) := by
  unfold dbgLevelWrite
  try dsimp only
  repeat' (first | with_reducible assumption | intro _ | with_reducible apply State.Keeps.foldl |
                 with_reducible apply State.gated_keeps | with_reducible apply State.store_keeps |
                 with_reducible apply State.event_keeps | with_reducible apply State.setFld_keeps |
                 with_reducible apply State.setLevel_keeps | simp only [State.Keeps.mk1] | simp only [State.Keeps.mk2] |
                 simp only [State.Keeps.mk3] | split)

theorem State.engCtl_keeps {s0 : State} (s : State) (who : Who) (op : Nat) (f : State → Ctx → Ctx)
     (h : s0.Keeps s) : s0.Keeps (State.engCtl s who op f) := by
  unfold State.engCtl
  try dsimp only
  repeat' (first | with_reducible assumption | intro _ | with_reducible apply State.Keeps.foldl | with_reducible apply h_f |
                 with_reducible apply State.gated_keeps | with_reducible apply State.setFld_keeps |
                 with_reducible apply State.setCtx_keeps | simp only [State.Keeps.mk1] | simp only [State.Keeps.mk2] |
                 simp only [State.Keeps.mk3] | split)

theorem dbgHalt_keeps {s0 : State} (who : Who) (s : State) (h : s0.Keeps s) : s0.Keeps (dbgHalt who s) := by
  unfold dbgHalt
  try dsimp only
  repeat' (first | with_reducible assumption | intro _ | with_reducible apply State.Keeps.foldl |
                 with_reducible apply State.engCtl_keeps | simp only [State.Keeps.mk1] | simp only [State.Keeps.mk2] |
                 simp only [State.Keeps.mk3] | split)

theorem dbgStep_keeps {s0 : State} (who : Who) (s : State) (h : s0.Keeps s) : s0.Keeps (dbgStep who s) := by
  unfold dbgStep
  try dsimp only
  repeat' (first | with_reducible assumption | intro _ | with_reducible apply State.Keeps.foldl |
                 with_reducible apply State.engCtl_keeps | simp only [State.Keeps.mk1] | simp only [State.Keeps.mk2] |
                 simp only [State.Keeps.mk3] | split)

theorem dbgResume_keeps {s0 : State} (who : Who) (s : State) (h : s0.Keeps s) : s0.Keeps (dbgResume who s) := by
  unfold dbgResume
  try dsimp only
  repeat' (first | with_reducible assumption | intro _ | with_reducible apply State.Keeps.foldl |
                 with_reducible apply State.engCtl_keeps | simp only [State.Keeps.mk1] | simp only [State.Keeps.mk2] |
                 simp only [State.Keeps.mk3] | split)

theorem switchReadyTimeout_keeps {s0 : State} (s : State) (h : s0.Keeps s) : s0.Keeps (switchReadyTimeout s) := by
  unfold switchReadyTimeout
  try dsimp only
  repeat' (first | with_reducible assumption | intro _ | with_reducible apply State.Keeps.foldl |
                 with_reducible apply State.secResult_keeps | with_reducible apply State.dropChallenge_keeps |
                 with_reducible apply State.setBank_keeps | simp only [State.Keeps.mk1] | simp only [State.Keeps.mk2] |
                 simp only [State.Keeps.mk3] | split)

theorem nodeProvision_keeps {s0 : State} (src : Src) (eui : Nat) (wrapped : List Byte) (s : State)
     (h : s0.Keeps s) : s0.Keeps (nodeProvision src eui wrapped s) := by
  unfold nodeProvision
  try dsimp only
  repeat' (first | with_reducible assumption | intro _ | with_reducible apply State.Keeps.foldl |
                 with_reducible apply State.start_keeps | with_reducible apply State.complete_keeps | simp only [State.Keeps.mk1] |
                 simp only [State.Keeps.mk2] | simp only [State.Keeps.mk3] | split)

theorem unlockExpire_keeps {s0 : State} (s : State) (h : s0.Keeps s) : s0.Keeps (unlockExpire s) := by
  unfold unlockExpire
  try dsimp only
  repeat' (first | with_reducible assumption | intro _ | with_reducible apply State.Keeps.foldl |
                 with_reducible apply State.setLevel_keeps | simp only [State.Keeps.mk1] | simp only [State.Keeps.mk2] |
                 simp only [State.Keeps.mk3] | split)

theorem netkeySet_keeps {s0 : State} (src : Src) (wrapped : List Byte) (s : State) (h : s0.Keeps s) : s0.Keeps (netkeySet src wrapped s) := by
  unfold netkeySet
  split
  · dsimp only
    split
    · exact State.complete_keeps _ _ _ _ (State.start_keeps _ _ h)
    · exact State.Keeps.upd (State.submitLc_keeps (s.start src) { (s.start src).lcNext with net := wrapped } (State.start_keeps _ _ h)) rfl rfl rfl rfl rfl rfl rfl rfl rfl
  · exact h

theorem tamperActivation_keeps {s0 : State} (input : Nat) (levels : Nat) (s : State)
     (h : s0.Keeps s) : s0.Keeps (tamperActivation input levels s) := by
  unfold tamperActivation
  try dsimp only
  repeat' (first | with_reducible assumption | intro _ | with_reducible apply State.Keeps.foldl |
                 with_reducible apply State.tamperAct_keeps | simp only [State.Keeps.mk1] | simp only [State.Keeps.mk2] |
                 simp only [State.Keeps.mk3] | split)

end Sys2Proof.Machine
end

