-- ==== Sys2Proof/Laws/Keeps/RegWrite.lean ====
section
/-! SUPPORT. What no function of Machine/RegWrite.lean undoes (State.Keeps). -/

namespace Sys2Proof.Machine

open Sys2Proof

set_option linter.unreachableTactic false
set_option linter.unusedTactic false

theorem State.writeBb_keeps {s0 : State} (s : State) (p : Nat) (v : Word) (h : s0.Keeps s) : s0.Keeps (State.writeBb s p v) := by
  unfold State.writeBb
  try dsimp only
  repeat' (first | with_reducible assumption | intro _ | with_reducible apply State.Keeps.foldl |
                 with_reducible apply State.portEvent_keeps | with_reducible apply State.setReg_keeps | simp only [State.Keeps.mk1] |
                 simp only [State.Keeps.mk2] | simp only [State.Keeps.mk3] | split)

theorem State.writeXfer_keeps {s0 : State} (s : State) (a : Nat) (v : Word) (h : s0.Keeps s) : s0.Keeps (State.writeXfer s a v) := by
  unfold State.writeXfer
  try dsimp only
  repeat' (first | with_reducible assumption | intro _ | with_reducible apply State.Keeps.foldl |
                 with_reducible apply State.putXfer_keeps | simp only [State.Keeps.mk1] | simp only [State.Keeps.mk2] |
                 simp only [State.Keeps.mk3] | split)

theorem State.writeMsix_keeps {s0 : State} (s : State) (a : Nat) (v : Word) (h : s0.Keeps s) : s0.Keeps (State.writeMsix s a v) := by
  unfold State.writeMsix
  try dsimp only
  repeat' (first | with_reducible assumption | intro _ | with_reducible apply State.Keeps.foldl | simp only [State.Keeps.mk1] |
                 simp only [State.Keeps.mk2] | simp only [State.Keeps.mk3] | split)

theorem State.writeMode_keeps {s0 : State} (s : State) (who : Who) (v : Word) (h : s0.Keeps s) : s0.Keeps (State.writeMode s who v) := by
  unfold State.writeMode
  try dsimp only
  repeat' (first | with_reducible assumption | intro _ | with_reducible apply State.Keeps.foldl |
                 with_reducible apply Machine.modeReqRest_keeps | with_reducible apply Machine.modeReqWatch_keeps |
                 with_reducible apply Machine.modeReqServe_keeps | with_reducible apply Machine.modeReqSurge_keeps |
                 with_reducible apply State.noteIrq1_keeps | with_reducible apply State.setFld_keeps | simp only [State.Keeps.mk1] |
                 simp only [State.Keeps.mk2] | simp only [State.Keeps.mk3] | split)

theorem State.writeRx_keeps {s0 : State} (s : State) (p : Nat) (v : Word) (h : s0.Keeps s) : s0.Keeps (State.writeRx s p v) := by
  unfold State.writeRx
  try dsimp only
  repeat' (first | with_reducible assumption | intro _ | with_reducible apply State.Keeps.foldl |
                 with_reducible apply State.portEvent_keeps | with_reducible apply State.setReg_keeps |
                 with_reducible apply State.setGain_keeps | simp only [State.Keeps.mk1] | simp only [State.Keeps.mk2] |
                 simp only [State.Keeps.mk3] | split)

theorem State.storeForm_keeps {s0 : State} (s : State) (r : Reg) (i : Nat) (v : Word)
     (h : s0.Keeps s) : s0.Keeps (State.storeForm s r i v) := by
  unfold State.storeForm
  try dsimp only
  repeat' (first | with_reducible assumption | intro _ | with_reducible apply State.Keeps.foldl |
                 with_reducible apply State.setReg_keeps | simp only [State.Keeps.mk1] | simp only [State.Keeps.mk2] |
                 simp only [State.Keeps.mk3] | split)

theorem State.writeMapcmd_keeps {s0 : State} (s : State) (who : Who) (v : Word)
     (h : s0.Keeps s) : s0.Keeps (State.writeMapcmd s who v) := by
  unfold State.writeMapcmd
  try dsimp only
  repeat' (first | with_reducible assumption | intro _ | with_reducible apply State.Keeps.foldl |
                 with_reducible apply State.setFld_keeps | with_reducible apply Machine.mapPin_keeps |
                 with_reducible apply Machine.mapUnpin_keeps | with_reducible apply Machine.mapRelease_keeps |
                 with_reducible apply Machine.mapRequestSounding_keeps | simp only [State.Keeps.mk1] | simp only [State.Keeps.mk2] |
                 simp only [State.Keeps.mk3] | split)

theorem State.writeSleep_keeps {s0 : State} (s : State) (v : Word) (h : s0.Keeps s) : s0.Keeps (State.writeSleep s v) := by
  unfold State.writeSleep
  try dsimp only
  repeat' (first | with_reducible assumption | intro _ | with_reducible apply State.Keeps.foldl |
                 with_reducible apply State.storeForm_keeps | with_reducible apply State.resendSets_keeps |
                 simp only [State.Keeps.mk1] | simp only [State.Keeps.mk2] | simp only [State.Keeps.mk3] | split)

theorem State.writeWake_keeps {s0 : State} (s : State) (v : Word) (h : s0.Keeps s) : s0.Keeps (State.writeWake s v) := by
  unfold State.writeWake
  try dsimp only
  repeat' (first | with_reducible assumption | intro _ | with_reducible apply State.Keeps.foldl |
                 with_reducible apply State.setReg_keeps | with_reducible apply State.event_keeps | simp only [State.Keeps.mk1] |
                 simp only [State.Keeps.mk2] | simp only [State.Keeps.mk3] | split)

theorem State.writeNodecmd_keeps {s0 : State} (s : State) (who : Who) (v : Word)
     (h : s0.Keeps s) : s0.Keeps (State.writeNodecmd s who v) := by
  unfold State.writeNodecmd
  try dsimp only
  repeat' (first | with_reducible assumption | intro _ | with_reducible apply State.Keeps.foldl |
                 with_reducible apply State.setFld_keeps | with_reducible apply Machine.nodeRelease_keeps |
                 with_reducible apply Machine.nodeWake_keeps | with_reducible apply Machine.nodeForceReassoc_keeps |
                 with_reducible apply Machine.groupKeyChange_keeps | simp only [State.Keeps.mk1] | simp only [State.Keeps.mk2] |
                 simp only [State.Keeps.mk3] | split)

theorem State.actLines_keeps {s0 : State} (s : State) (who : Who) (r : Reg) (i : Nat) (v : Word) (t : State)
     (e : State.actLines s who r i v = some t) (h : s0.Keeps s) : s0.Keeps t := by
  unfold State.actLines at e
  split at e <;> first | (cases e; done) | (cases e; repeat' (first | with_reducible assumption |
                                                                    with_reducible apply State.writeMode_keeps |
                                                                    with_reducible apply pwrCapWrite_keeps |
                                                                    with_reducible apply pwrStatClear_keeps |
                                                                    with_reducible apply State.writePortCfg_keeps |
                                                                    with_reducible apply State.writeRx_keeps |
                                                                    with_reducible apply zcOfsWrite_keeps |
                                                                    with_reducible apply ringDepthChange_keeps |
                                                                    with_reducible apply mdmRescanGo_keeps |
                                                                    with_reducible apply State.storeForm_keeps |
                                                                    with_reducible apply State.writeMapcmd_keeps |
                                                                    with_reducible apply bandcfgWrite_keeps |
                                                                    with_reducible apply State.writeBb_keeps |
                                                                    with_reducible apply notchWrite_keeps |
                                                                    with_reducible apply State.writeSleep_keeps |
                                                                    with_reducible apply State.writeWake_keeps |
                                                                    with_reducible apply State.writeNodecmd_keeps |
                                                                    with_reducible apply macBcncfgWrite_keeps |
                                                                    simp only [State.Keeps.mk1] | simp only [State.Keeps.mk2] |
                                                                    simp only [State.Keeps.mk3] | split))

theorem State.writeFmcmd_keeps {s0 : State} (s : State) (who : Who) (v : Word) (e : WriteEnv)
     (h : s0.Keeps s) : s0.Keeps (State.writeFmcmd s who v e) := by
  unfold State.writeFmcmd
  try dsimp only
  repeat' (first | with_reducible assumption | intro _ | with_reducible apply State.Keeps.foldl |
                 with_reducible apply State.setFld_keeps | with_reducible apply Machine.sweepNow_keeps |
                 with_reducible apply Machine.baselineTake_keeps | with_reducible apply Machine.rangingSet_keeps |
                 with_reducible apply Machine.evidenceRelease_keeps | simp only [State.Keeps.mk1] | simp only [State.Keeps.mk2] |
                 simp only [State.Keeps.mk3] | split)

theorem State.writeBalpt_keeps {s0 : State} (s : State) (n : Nat) (v : Word) (h : s0.Keeps s) : s0.Keeps (State.writeBalpt s n v) := by
  unfold State.writeBalpt
  try dsimp only
  repeat' (first | with_reducible assumption | intro _ | with_reducible apply State.Keeps.foldl |
                 with_reducible apply State.event_keeps | with_reducible apply State.setReg_keeps | simp only [State.Keeps.mk1] |
                 simp only [State.Keeps.mk2] | simp only [State.Keeps.mk3] | split)

theorem State.writeGscmd_keeps {s0 : State} (s : State) (n : Nat) (who : Who) (v : Word)
     (h : s0.Keeps s) : s0.Keeps (State.writeGscmd s n who v) := by
  unfold State.writeGscmd
  try dsimp only
  repeat' (first | with_reducible assumption | intro _ | with_reducible apply State.Keeps.foldl |
                 with_reducible apply Machine.lingo_keeps | with_reducible apply Machine.chargeReset_keeps |
                 simp only [State.Keeps.mk1] | simp only [State.Keeps.mk2] | simp only [State.Keeps.mk3] | split)

theorem State.writeCal_keeps {s0 : State} (s : State) (who : Who) (v : Word) (h : s0.Keeps s) : s0.Keeps (State.writeCal s who v) := by
  unfold State.writeCal
  try dsimp only
  repeat' (first | with_reducible assumption | intro _ | with_reducible apply State.Keeps.foldl |
                 with_reducible apply Machine.calGo_keeps | with_reducible apply State.store_keeps | simp only [State.Keeps.mk1] |
                 simp only [State.Keeps.mk2] | simp only [State.Keeps.mk3] | split)

theorem State.writeDrain_keeps {s0 : State} (s : State) (v : Word) (h : s0.Keeps s) : s0.Keeps (State.writeDrain s v) := by
  unfold State.writeDrain
  try dsimp only
  repeat' (first | with_reducible assumption | intro _ | with_reducible apply State.Keeps.foldl |
                 with_reducible apply State.store_keeps | with_reducible apply Machine.pitRestore_keeps |
                 with_reducible apply Machine.pitForcedDisable_keeps | with_reducible apply Machine.pitDrain_keeps |
                 simp only [State.Keeps.mk1] | simp only [State.Keeps.mk2] | simp only [State.Keeps.mk3] | split)

theorem State.writeGlEvt_keeps {s0 : State} (s : State) (v : Word) (h : s0.Keeps s) : s0.Keeps (State.writeGlEvt s v) := by
  unfold State.writeGlEvt
  try dsimp only
  repeat' (first | with_reducible assumption | intro _ | with_reducible apply State.Keeps.foldl |
                 with_reducible apply State.store_keeps | with_reducible apply State.setFld_keeps | simp only [State.Keeps.mk1] |
                 simp only [State.Keeps.mk2] | simp only [State.Keeps.mk3] | split)

theorem State.writeSethi_keeps {s0 : State} (s : State) (who : Who) (v : Word)
     (h : s0.Keeps s) : s0.Keeps (State.writeSethi s who v) := by
  unfold State.writeSethi
  try dsimp only
  repeat' (first | with_reducible assumption | intro _ | with_reducible apply State.Keeps.foldl |
                 with_reducible apply State.setStepBy_keeps | with_reducible apply State.setFld_keeps |
                 with_reducible apply State.setPpsBy_keeps | simp only [State.Keeps.mk1] | simp only [State.Keeps.mk2] |
                 simp only [State.Keeps.mk3] | split)

theorem State.writePpsout_keeps {s0 : State} (s : State) (v : Word) (h : s0.Keeps s) : s0.Keeps (State.writePpsout s v) := by
  unfold State.writePpsout
  try dsimp only
  repeat' (first | with_reducible assumption | intro _ | with_reducible apply State.Keeps.foldl |
                 with_reducible apply State.storeForm_keeps | simp only [State.Keeps.mk1] | simp only [State.Keeps.mk2] |
                 simp only [State.Keeps.mk3] | split)

theorem State.actGrid_keeps {s0 : State} (s : State) (who : Who) (r : Reg) (i : Nat) (v : Word) (e : WriteEnv) (t : State)
     (e : State.actGrid s who r i v e = some t) (h : s0.Keeps s) : s0.Keeps t := by
  unfold State.actGrid at e
  split at e <;> first | (cases e; done) | (cases e; repeat' (first | with_reducible assumption |
                                                                    with_reducible apply State.writeFmcmd_keeps |
                                                                    with_reducible apply State.writeBalpt_keeps |
                                                                    with_reducible apply gsCfgWrite_keeps |
                                                                    with_reducible apply gsXptWrite_keeps |
                                                                    with_reducible apply State.writeGscmd_keeps |
                                                                    with_reducible apply sourceWrite_keeps |
                                                                    with_reducible apply gsRetWrite_keeps |
                                                                    with_reducible apply State.writeCal_keeps |
                                                                    with_reducible apply spareTargetWrite_keeps |
                                                                    with_reducible apply memoryReserveWrite_keeps |
                                                                    with_reducible apply State.writeDrain_keeps |
                                                                    with_reducible apply replAbort_keeps |
                                                                    with_reducible apply State.storeForm_keeps |
                                                                    with_reducible apply State.writeGlCfg_keeps |
                                                                    with_reducible apply State.writeGlEvt_keeps |
                                                                    with_reducible apply State.follow_keeps |
                                                                    with_reducible apply State.writeSethi_keeps |
                                                                    with_reducible apply State.writePpsout_keeps |
                                                                    simp only [State.Keeps.mk1] | simp only [State.Keeps.mk2] |
                                                                    simp only [State.Keeps.mk3] | split))

theorem State.writeSec_keeps {s0 : State} (s : State) (v : Word) (e : WriteEnv) (h : s0.Keeps s) : s0.Keeps (State.writeSec s v e) := by
  unfold State.writeSec
  try dsimp only
  repeat' (first | with_reducible assumption | intro _ | with_reducible apply State.Keeps.foldl |
                 with_reducible apply State.store_keeps | with_reducible apply Machine.provision_keeps |
                 with_reducible apply Machine.keyImport_keeps | with_reducible apply Machine.lifecycle_keeps |
                 with_reducible apply Machine.unlock_keeps | with_reducible apply Machine.attest_keeps |
                 with_reducible apply Machine.rollback_keeps | with_reducible apply Machine.revoke_keeps |
                 with_reducible apply Machine.stage_keeps | with_reducible apply Machine.switch_keeps |
                 with_reducible apply Machine.challenge_keeps | with_reducible apply Machine.certs_keeps |
                 with_reducible apply State.secGo_keeps | with_reducible apply State.secResult_keeps | simp only [State.Keeps.mk1] |
                 simp only [State.Keeps.mk2] | simp only [State.Keeps.mk3] | split)

theorem State.writeEngctl_keeps {s0 : State} (s : State) (who : Who) (v : Word)
     (h : s0.Keeps s) : s0.Keeps (State.writeEngctl s who v) := by
  unfold State.writeEngctl
  try dsimp only
  repeat' (first | with_reducible assumption | intro _ | with_reducible apply State.Keeps.foldl |
                 with_reducible apply State.setFld_keeps | with_reducible apply Machine.dbgHalt_keeps |
                 with_reducible apply Machine.dbgStep_keeps | with_reducible apply Machine.dbgResume_keeps |
                 simp only [State.Keeps.mk1] | simp only [State.Keeps.mk2] | simp only [State.Keeps.mk3] | split)

theorem State.writeTrace_keeps {s0 : State} (s : State) (v : Word) (h : s0.Keeps s) : s0.Keeps (State.writeTrace s v) := by
  unfold State.writeTrace
  try dsimp only
  repeat' (first | with_reducible assumption | intro _ | with_reducible apply State.Keeps.foldl |
                 with_reducible apply State.store_keeps | with_reducible apply State.setReg_keeps |
                 with_reducible apply State.drew_keeps | simp only [State.Keeps.mk1] | simp only [State.Keeps.mk2] |
                 simp only [State.Keeps.mk3] | split)

theorem State.writeInj_keeps {s0 : State} (s : State) (who : Who) (v : Word) (e : WriteEnv)
     (h : s0.Keeps s) : s0.Keeps (State.writeInj s who v e) := by
  unfold State.writeInj
  try dsimp only
  repeat' (first | with_reducible assumption | intro _ | with_reducible apply State.Keeps.foldl |
                 with_reducible apply State.store_keeps | with_reducible apply Machine.injectReporting_keeps |
                 with_reducible apply Machine.injectFunctional_keeps | with_reducible apply Machine.injectDestructive_keeps |
                 simp only [State.Keeps.mk1] | simp only [State.Keeps.mk2] | simp only [State.Keeps.mk3] | split)

theorem State.writeRel_keeps {s0 : State} (s : State) (who : Who) (v : Word) (h : s0.Keeps s) : s0.Keeps (State.writeRel s who v) := by
  unfold State.writeRel
  try dsimp only
  repeat' (first | with_reducible assumption | intro _ | with_reducible apply State.Keeps.foldl |
                 with_reducible apply State.setFld_keeps | with_reducible apply Machine.relSelfTest_keeps |
                 with_reducible apply Machine.relRetire_keeps | simp only [State.Keeps.mk1] | simp only [State.Keeps.mk2] |
                 simp only [State.Keeps.mk3] | split)

theorem State.writeBed_keeps {s0 : State} (s : State) (who : Who) (v : Word) (h : s0.Keeps s) : s0.Keeps (State.writeBed s who v) := by
  unfold State.writeBed
  try dsimp only
  repeat' (first | with_reducible assumption | intro _ | with_reducible apply State.Keeps.foldl |
                 with_reducible apply State.setFld_keeps | with_reducible apply State.bedSaveBy_keeps |
                 with_reducible apply State.bedResumeBy_keeps | simp only [State.Keeps.mk1] | simp only [State.Keeps.mk2] |
                 simp only [State.Keeps.mk3] | split)

theorem State.writeQcfg_keeps {s0 : State} (s : State) (q : Nat) (v : Word) (h : s0.Keeps s) : s0.Keeps (State.writeQcfg s q v) := by
  unfold State.writeQcfg
  try dsimp only
  repeat' (first | with_reducible assumption | intro _ | with_reducible apply State.Keeps.foldl |
                 with_reducible apply Machine.queueEnable_keeps | with_reducible apply Machine.queueDisable_keeps |
                 simp only [State.Keeps.mk1] | simp only [State.Keeps.mk2] | simp only [State.Keeps.mk3] | split)

theorem State.writeTpcmd_keeps {s0 : State} (s : State) (n : Nat) (who : Who) (v : Word)
     (h : s0.Keeps s) : s0.Keeps (State.writeTpcmd s n who v) := by
  unfold State.writeTpcmd
  try dsimp only
  repeat' (first | with_reducible assumption | intro _ | with_reducible apply State.Keeps.foldl |
                 with_reducible apply Machine.tpTxflush_keeps | with_reducible apply Machine.tpRxflush_keeps |
                 with_reducible apply Machine.tpBreak_keeps | with_reducible apply Machine.tpResume_keeps |
                 simp only [State.Keeps.mk1] | simp only [State.Keeps.mk2] | simp only [State.Keeps.mk3] | split)

theorem State.actRest_keeps {s0 : State} (s : State) (who : Who) (r : Reg) (i : Nat) (v : Word) (e : WriteEnv) (t : State)
     (e : State.actRest s who r i v e = some t) (h : s0.Keeps s) : s0.Keeps t := by
  unfold State.actRest at e
  split at e <;> first | (cases e; done) | (cases e; repeat' (first | with_reducible assumption |
                                                                    with_reducible apply State.writeSec_keeps |
                                                                    with_reducible apply dbgLevelWrite_keeps |
                                                                    with_reducible apply State.writeEngctl_keeps |
                                                                    with_reducible apply State.writeTrace_keeps |
                                                                    with_reducible apply State.writeInj_keeps |
                                                                    with_reducible apply State.writeRel_keeps |
                                                                    with_reducible apply State.writeBed_keeps |
                                                                    with_reducible apply State.writeQcfg_keeps |
                                                                    with_reducible apply sqDoorbell_keeps |
                                                                    with_reducible apply cqHeadWrite_keeps |
                                                                    with_reducible apply fbdretWrite_keeps |
                                                                    with_reducible apply ethPortDisable_keeps |
                                                                    with_reducible apply State.writeTpCfg_keeps |
                                                                    with_reducible apply State.writeTpBaud_keeps |
                                                                    with_reducible apply tpTxdWrite_keeps |
                                                                    with_reducible apply State.writeTpcmd_keeps |
                                                                    with_reducible apply State.chkWrite_keeps |
                                                                    with_reducible apply chkHostmaskWrite_keeps |
                                                                    simp only [State.Keeps.mk1] | simp only [State.Keeps.mk2] |
                                                                    simp only [State.Keeps.mk3] | split))

theorem State.applyWrite_keeps {s0 : State} (s : State) (who : Who) (r : Reg) (i : Nat) (v : Word) (e : WriteEnv)
     (h : s0.Keeps s) : s0.Keeps (State.applyWrite s who r i v e) := by
  unfold State.applyWrite
  try dsimp only
  repeat' (first | with_reducible assumption | intro _ | with_reducible apply State.Keeps.foldl |
                 (with_reducible refine State.actLines_keeps _ _ _ _ _ _ (by assumption) ?_) |
                 (with_reducible refine State.actGrid_keeps _ _ _ _ _ _ _ (by assumption) ?_) |
                 (with_reducible refine State.actRest_keeps _ _ _ _ _ _ _ (by assumption) ?_) |
                 with_reducible apply State.storeForm_keeps | simp only [State.Keeps.mk1] | simp only [State.Keeps.mk2] |
                 simp only [State.Keeps.mk3] | split)

theorem State.writeReg_keeps {s0 : State} (s : State) (who : Who) (r : Reg) (i : Nat) (v : Word) (e : WriteEnv)
     (h : s0.Keeps s) : s0.Keeps (State.writeReg s who r i v e) := by
  unfold State.writeReg
  try dsimp only
  repeat' (first | with_reducible assumption | intro _ | with_reducible apply State.Keeps.foldl |
                 with_reducible apply State.noteIrq1_keeps | with_reducible apply State.gated_keeps |
                 with_reducible apply State.applyWrite_keeps | simp only [State.Keeps.mk1] | simp only [State.Keeps.mk2] |
                 simp only [State.Keeps.mk3] | split)

theorem registerWrite_keeps {s0 : State} (who : Who) (ofs : Nat) (value : Word) (env : WriteEnv) (s : State)
     (h : s0.Keeps s) : s0.Keeps (registerWrite who ofs value env s) := by
  unfold registerWrite
  try dsimp only
  repeat' (first | with_reducible assumption | intro _ | with_reducible apply State.Keeps.foldl |
                 with_reducible apply State.gated_keeps | with_reducible apply State.writeXfer_keeps |
                 with_reducible apply State.writeMsix_keeps | with_reducible apply State.writeReg_keeps | simp only [State.Keeps.mk1] |
                 simp only [State.Keeps.mk2] | simp only [State.Keeps.mk3] | split)

theorem headendDatagram_keeps {s0 : State} (port : Nat) (home : Bool) (typ : Nat) (gaddr : Nat) (svc : Nat) (dclass : Nat) (ref : Nat)
     (len : Nat) (s : State) (h : s0.Keeps s) : s0.Keeps (headendDatagram port home typ gaddr svc dclass ref len s) := by
  unfold headendDatagram
  try dsimp only
  repeat' (first | with_reducible assumption | intro _ | with_reducible apply State.Keeps.foldl |
                 with_reducible apply State.bumpFld_keeps | with_reducible apply State.drew_keeps |
                 with_reducible apply Machine.frameSend_keeps | simp only [State.Keeps.mk1] | simp only [State.Keeps.mk2] |
                 simp only [State.Keeps.mk3] | split)

end Sys2Proof.Machine
end

