-- ==== Sys2Proof/Laws/Keeps/IdnasTime.lean ====
section
/-! SUPPORT. What no function of Machine/IdnasTime.lean undoes (State.Keeps). -/

namespace Sys2Proof.Machine

open Sys2Proof

set_option linter.unreachableTactic false
set_option linter.unusedTactic false

theorem idUput_keeps {s0 : State} (k : Nat) (f : FmtR) (env : WriteEnv) (s : State) (h : s0.Keeps s) : s0.Keeps (idUput k f env s) := by
  unfold idUput
  try dsimp only
  repeat' (first | with_reducible assumption | intro _ | with_reducible apply State.Keeps.foldl |
                 with_reducible apply State.issue_keeps | with_reducible apply State.taskFault_keeps |
                 with_reducible apply State.waitTag_keeps | with_reducible apply State.touchTag_keeps |
                 with_reducible apply Machine.registerWrite_keeps | with_reducible apply State.setSr_keeps |
                 simp only [State.Keeps.mk1] | simp only [State.Keeps.mk2] | simp only [State.Keeps.mk3] | split)

theorem State.cacheKey_keeps {s0 : State} (s : State) (u : Nat) (key : List Byte)
     (h : s0.Keeps s) : s0.Keeps (State.cacheKey s u key) := by
  unfold State.cacheKey
  try dsimp only
  repeat' (first | with_reducible assumption | intro _ | with_reducible apply State.Keeps.foldl | simp only [State.Keeps.mk1] |
                 simp only [State.Keeps.mk2] | simp only [State.Keeps.mk3] | split)

theorem State.runCry_keeps {s0 : State} (s : State) (c : Call) (keyLen : Nat) (aadLen : Nat) (tagLen : Nat) (decrypt : Bool)
     (f : List Byte → List Byte → List Byte → List Byte → Option (List Byte))
     (h : s0.Keeps s) : s0.Keeps (State.runCry s c keyLen aadLen tagLen decrypt f) := by
  unfold State.runCry
  try dsimp only
  repeat' (first | with_reducible assumption | intro _ | with_reducible apply State.Keeps.foldl |
                 with_reducible apply State.endCall_keeps | with_reducible apply State.endCallWith_keeps |
                 with_reducible apply State.cacheKey_keeps | simp only [State.Keeps.mk1] | simp only [State.Keeps.mk2] |
                 simp only [State.Keeps.mk3] | split)

theorem gcmEncrypt_keeps {s0 : State} (call : Nat) (s : State) (h : s0.Keeps s) : s0.Keeps (gcmEncrypt call s) := by
  unfold gcmEncrypt
  try dsimp only
  repeat' (first | with_reducible assumption | intro _ | with_reducible apply State.Keeps.foldl |
                 with_reducible apply State.onCall_keeps | with_reducible apply State.runCry_keeps | simp only [State.Keeps.mk1] |
                 simp only [State.Keeps.mk2] | simp only [State.Keeps.mk3] | split)

theorem idZcrd_keeps {s0 : State} (k : Nat) (f : FmtR) (s : State) (h : s0.Keeps s) : s0.Keeps (idZcrd k f s) := by
  unfold idZcrd
  try dsimp only
  repeat' (first | with_reducible assumption | intro _ | with_reducible apply State.Keeps.foldl |
                 with_reducible apply State.issue_keeps | with_reducible apply State.setSr_keeps |
                 with_reducible apply State.drew_keeps | simp only [State.Keeps.mk1] | simp only [State.Keeps.mk2] |
                 simp only [State.Keeps.mk3] | split)

theorem idVdemap_keeps {s0 : State} (k : Nat) (f : FmtR) (s : State) (h : s0.Keeps s) : s0.Keeps (idVdemap k f s) := by
  unfold idVdemap
  try dsimp only
  repeat' (first | with_reducible assumption | intro _ | with_reducible apply State.Keeps.foldl |
                 with_reducible apply State.issue_keeps | with_reducible apply State.setVr_keeps | simp only [State.Keeps.mk1] |
                 simp only [State.Keeps.mk2] | simp only [State.Keeps.mk3] | split)

theorem ccmEncrypt_keeps {s0 : State} (call : Nat) (s : State) (h : s0.Keeps s) : s0.Keeps (ccmEncrypt call s) := by
  unfold ccmEncrypt
  try dsimp only
  repeat' (first | with_reducible assumption | intro _ | with_reducible apply State.Keeps.foldl |
                 with_reducible apply State.onCall_keeps | with_reducible apply State.runCry_keeps | simp only [State.Keeps.mk1] |
                 simp only [State.Keeps.mk2] | simp only [State.Keeps.mk3] | split)

theorem wslotReturn_keeps {s0 : State} (k : Nat) (s : State) (h : s0.Keeps s) : s0.Keeps (wslotReturn k s) := by
  unfold wslotReturn
  try dsimp only
  repeat' (first | with_reducible assumption | intro _ | with_reducible apply State.Keeps.foldl |
                 with_reducible apply State.setSr_keeps | with_reducible apply State.setCtx_keeps | simp only [State.Keeps.mk1] |
                 simp only [State.Keeps.mk2] | simp only [State.Keeps.mk3] | split)

theorem idTnow_keeps {s0 : State} (k : Nat) (f : FmtR) (s : State) (h : s0.Keeps s) : s0.Keeps (idTnow k f s) := by
  unfold idTnow
  try dsimp only
  repeat' (first | with_reducible assumption | intro _ | with_reducible apply State.Keeps.foldl |
                 with_reducible apply State.issue_keeps | with_reducible apply State.setSr_keeps | simp only [State.Keeps.mk1] |
                 simp only [State.Keeps.mk2] | simp only [State.Keeps.mk3] | split)

theorem State.unitRead_keeps {s0 : State} (s : State) (slot : Nat) (a : Nat) (h : s0.Keeps s) : s0.Keeps (State.unitRead s slot a).1 := by
  unfold State.unitRead
  try dsimp only
  repeat' (first | with_reducible assumption | intro _ | with_reducible apply State.Keeps.foldl |
                 with_reducible apply State.readReg_keeps | simp only [State.Keeps.mk1] | simp only [State.Keeps.mk2] |
                 simp only [State.Keeps.mk3] | split)

theorem idWslot_keeps {s0 : State} (k : Nat) (f : FmtR) (s : State) (h : s0.Keeps s) : s0.Keeps (idWslot k f s) := by
  unfold idWslot
  try dsimp only
  repeat' (first | with_reducible assumption | intro _ | with_reducible apply State.Keeps.foldl |
                 with_reducible apply State.issue_keeps | with_reducible apply State.taskFault_keeps |
                 with_reducible apply State.setSr_keeps | with_reducible apply State.setCtx_keeps | simp only [State.Keeps.mk1] |
                 simp only [State.Keeps.mk2] | simp only [State.Keeps.mk3] | split)

theorem twaittExpire_keeps {s0 : State} (k : Nat) (s : State) (h : s0.Keeps s) : s0.Keeps (twaittExpire k s) := by
  unfold twaittExpire
  try dsimp only
  repeat' (first | with_reducible assumption | intro _ | with_reducible apply State.Keeps.foldl |
                 with_reducible apply State.setCtx_keeps | simp only [State.Keeps.mk1] | simp only [State.Keeps.mk2] |
                 simp only [State.Keeps.mk3] | split)

theorem idUget_keeps {s0 : State} (k : Nat) (f : FmtI) (s : State) (h : s0.Keeps s) : s0.Keeps (idUget k f s) := by
  unfold idUget
  try dsimp only
  repeat' (first | with_reducible assumption | intro _ | with_reducible apply State.Keeps.foldl |
                 with_reducible apply State.issue_keeps | with_reducible apply State.taskFault_keeps |
                 with_reducible apply State.waitTag_keeps | with_reducible apply State.unitRead_keeps |
                 with_reducible apply State.touchTag_keeps | with_reducible apply State.setSr_keeps | simp only [State.Keeps.mk1] |
                 simp only [State.Keeps.mk2] | simp only [State.Keeps.mk3] | split)

theorem ccmDecrypt_keeps {s0 : State} (call : Nat) (s : State) (h : s0.Keeps s) : s0.Keeps (ccmDecrypt call s) := by
  unfold ccmDecrypt
  try dsimp only
  repeat' (first | with_reducible assumption | intro _ | with_reducible apply State.Keeps.foldl |
                 with_reducible apply State.onCall_keeps | with_reducible apply State.runCry_keeps | simp only [State.Keeps.mk1] |
                 simp only [State.Keeps.mk2] | simp only [State.Keeps.mk3] | split)

theorem gcmDecrypt_keeps {s0 : State} (call : Nat) (s : State) (h : s0.Keeps s) : s0.Keeps (gcmDecrypt call s) := by
  unfold gcmDecrypt
  try dsimp only
  repeat' (first | with_reducible assumption | intro _ | with_reducible apply State.Keeps.foldl |
                 with_reducible apply State.onCall_keeps | with_reducible apply State.runCry_keeps | simp only [State.Keeps.mk1] |
                 simp only [State.Keeps.mk2] | simp only [State.Keeps.mk3] | split)

theorem idTwaitt_keeps {s0 : State} (k : Nat) (f : FmtR) (s : State) (h : s0.Keeps s) : s0.Keeps (idTwaitt k f s) := by
  unfold idTwaitt
  try dsimp only
  repeat' (first | with_reducible assumption | intro _ | with_reducible apply State.Keeps.foldl |
                 with_reducible apply State.issue_keeps | with_reducible apply State.setCtx_keeps | simp only [State.Keeps.mk1] |
                 simp only [State.Keeps.mk2] | simp only [State.Keeps.mk3] | split)

end Sys2Proof.Machine
end

