-- ==== Sys2Proof/Laws/Keeps/IdnasVec.lean ====
section
/-! SUPPORT. What no function of Machine/IdnasVec.lean undoes (State.Keeps). -/

namespace Sys2Proof.Machine

open Sys2Proof

set_option linter.unreachableTactic false
set_option linter.unusedTactic false

theorem State.putAcc_keeps {s0 : State} (s : State) (k : Nat) (n : Nat) (f : Nat → Int)
     (h : s0.Keeps s) : s0.Keeps (State.putAcc s k n f) := by
  unfold State.putAcc
  try dsimp only
  repeat' (first | with_reducible assumption | intro _ | with_reducible apply State.Keeps.foldl |
                 with_reducible apply State.orAsat_keeps | with_reducible apply State.setAr_keeps | simp only [State.Keeps.mk1] |
                 simp only [State.Keeps.mk2] | simp only [State.Keeps.mk3] | split)

theorem idCmac_keeps {s0 : State} (k : Nat) (f : FmtR) (s : State) (h : s0.Keeps s) : s0.Keeps (idCmac k f s) := by
  unfold idCmac
  try dsimp only
  repeat' (first | with_reducible assumption | intro _ | with_reducible apply State.Keeps.foldl |
                 with_reducible apply State.issue_keeps | with_reducible apply State.putAcc_keeps | simp only [State.Keeps.mk1] |
                 simp only [State.Keeps.mk2] | simp only [State.Keeps.mk3] | split)

theorem idPset_keeps {s0 : State} (k : Nat) (f : FmtR) (s : State) (h : s0.Keeps s) : s0.Keeps (idPset k f s) := by
  unfold idPset
  try dsimp only
  repeat' (first | with_reducible assumption | intro _ | with_reducible apply State.Keeps.foldl |
                 with_reducible apply State.issue_keeps | with_reducible apply State.setPr_keeps | simp only [State.Keeps.mk1] |
                 simp only [State.Keeps.mk2] | simp only [State.Keeps.mk3] | split)

theorem idVshri_keeps {s0 : State} (k : Nat) (f : FmtR) (s : State) (h : s0.Keeps s) : s0.Keeps (idVshri k f s) := by
  unfold idVshri
  try dsimp only
  repeat' (first | with_reducible assumption | intro _ | with_reducible apply State.Keeps.foldl |
                 with_reducible apply State.issue_keeps | with_reducible apply State.setVr_keeps | simp only [State.Keeps.mk1] |
                 simp only [State.Keeps.mk2] | simp only [State.Keeps.mk3] | split)

theorem vecCmp_keeps {s0 : State} (c : Int → Int → Bool) (k : Nat) (f : FmtR) (s : State)
     (h : s0.Keeps s) : s0.Keeps (vecCmp c k f s) := by
  unfold vecCmp
  try dsimp only
  repeat' (first | with_reducible assumption | intro _ | with_reducible apply State.Keeps.foldl |
                 with_reducible apply State.issue_keeps | with_reducible apply State.setPr_keeps | simp only [State.Keeps.mk1] |
                 simp only [State.Keeps.mk2] | simp only [State.Keeps.mk3] | split)

theorem idVcmpgt_keeps {s0 : State} (k : Nat) (f : FmtR) (s : State) (h : s0.Keeps s) : s0.Keeps (idVcmpgt k f s) := by
  unfold idVcmpgt
  try dsimp only
  repeat' (first | with_reducible assumption | intro _ | with_reducible apply State.Keeps.foldl |
                 with_reducible apply Machine.vecCmp_keeps | simp only [State.Keeps.mk1] | simp only [State.Keeps.mk2] |
                 simp only [State.Keeps.mk3] | split)

theorem idCmacc_keeps {s0 : State} (k : Nat) (f : FmtR) (s : State) (h : s0.Keeps s) : s0.Keeps (idCmacc k f s) := by
  unfold idCmacc
  try dsimp only
  repeat' (first | with_reducible assumption | intro _ | with_reducible apply State.Keeps.foldl |
                 with_reducible apply State.issue_keeps | with_reducible apply State.putAcc_keeps | simp only [State.Keeps.mk1] |
                 simp only [State.Keeps.mk2] | simp only [State.Keeps.mk3] | split)

theorem vecOp_keeps {s0 : State} (useB : Bool) (types : List Nat) (op : Nat → Vec → Vec → Vec) (k : Nat) (f : FmtR) (s : State)
     (h : s0.Keeps s) : s0.Keeps (vecOp useB types op k f s) := by
  unfold vecOp
  try dsimp only
  repeat' (first | with_reducible assumption | intro _ | with_reducible apply State.Keeps.foldl |
                 with_reducible apply State.issue_keeps | with_reducible apply State.setVr_keeps | simp only [State.Keeps.mk1] |
                 simp only [State.Keeps.mk2] | simp only [State.Keeps.mk3] | split)

theorem idVxor_keeps {s0 : State} (k : Nat) (f : FmtR) (s : State) (h : s0.Keeps s) : s0.Keeps (idVxor k f s) := by
  unfold idVxor
  try dsimp only
  repeat' (first | with_reducible assumption | intro _ | with_reducible apply State.Keeps.foldl |
                 with_reducible apply Machine.vecOp_keeps | simp only [State.Keeps.mk1] | simp only [State.Keeps.mk2] |
                 simp only [State.Keeps.mk3] | split)

theorem idVmag2_keeps {s0 : State} (k : Nat) (f : FmtR) (s : State) (h : s0.Keeps s) : s0.Keeps (idVmag2 k f s) := by
  unfold idVmag2
  try dsimp only
  repeat' (first | with_reducible assumption | intro _ | with_reducible apply State.Keeps.foldl |
                 with_reducible apply State.issue_keeps | with_reducible apply State.setVr_keeps | simp only [State.Keeps.mk1] |
                 simp only [State.Keeps.mk2] | simp only [State.Keeps.mk3] | split)

theorem idVperm_keeps {s0 : State} (k : Nat) (f : FmtR) (s : State) (h : s0.Keeps s) : s0.Keeps (idVperm k f s) := by
  unfold idVperm
  try dsimp only
  repeat' (first | with_reducible assumption | intro _ | with_reducible apply State.Keeps.foldl |
                 with_reducible apply Machine.vecOp_keeps | simp only [State.Keeps.mk1] | simp only [State.Keeps.mk2] |
                 simp only [State.Keeps.mk3] | split)

theorem idPnot_keeps {s0 : State} (k : Nat) (f : FmtR) (s : State) (h : s0.Keeps s) : s0.Keeps (idPnot k f s) := by
  unfold idPnot
  try dsimp only
  repeat' (first | with_reducible assumption | intro _ | with_reducible apply State.Keeps.foldl |
                 with_reducible apply State.issue_keeps | with_reducible apply State.setPr_keeps | simp only [State.Keeps.mk1] |
                 simp only [State.Keeps.mk2] | simp only [State.Keeps.mk3] | split)

theorem idVadd_keeps {s0 : State} (k : Nat) (f : FmtR) (s : State) (h : s0.Keeps s) : s0.Keeps (idVadd k f s) := by
  unfold idVadd
  try dsimp only
  repeat' (first | with_reducible assumption | intro _ | with_reducible apply State.Keeps.foldl |
                 with_reducible apply Machine.vecOp_keeps | simp only [State.Keeps.mk1] | simp only [State.Keeps.mk2] |
                 simp only [State.Keeps.mk3] | split)

theorem idVext_keeps {s0 : State} (k : Nat) (f : FmtR) (s : State) (h : s0.Keeps s) : s0.Keeps (idVext k f s) := by
  unfold idVext
  try dsimp only
  repeat' (first | with_reducible assumption | intro _ | with_reducible apply State.Keeps.foldl |
                 with_reducible apply State.issue_keeps | with_reducible apply State.setSr_keeps | simp only [State.Keeps.mk1] |
                 simp only [State.Keeps.mk2] | simp only [State.Keeps.mk3] | split)

theorem idVcmpeq_keeps {s0 : State} (k : Nat) (f : FmtR) (s : State) (h : s0.Keeps s) : s0.Keeps (idVcmpeq k f s) := by
  unfold idVcmpeq
  try dsimp only
  repeat' (first | with_reducible assumption | intro _ | with_reducible apply State.Keeps.foldl |
                 with_reducible apply Machine.vecCmp_keeps | simp only [State.Keeps.mk1] | simp only [State.Keeps.mk2] |
                 simp only [State.Keeps.mk3] | split)

theorem idPget_keeps {s0 : State} (k : Nat) (f : FmtR) (s : State) (h : s0.Keeps s) : s0.Keeps (idPget k f s) := by
  unfold idPget
  try dsimp only
  repeat' (first | with_reducible assumption | intro _ | with_reducible apply State.Keeps.foldl |
                 with_reducible apply State.issue_keeps | with_reducible apply State.setSr_keeps | simp only [State.Keeps.mk1] |
                 simp only [State.Keeps.mk2] | simp only [State.Keeps.mk3] | split)

theorem predOp_keeps {s0 : State} (op : DWord → DWord → DWord) (k : Nat) (f : FmtR) (s : State)
     (h : s0.Keeps s) : s0.Keeps (predOp op k f s) := by
  unfold predOp
  try dsimp only
  repeat' (first | with_reducible assumption | intro _ | with_reducible apply State.Keeps.foldl |
                 with_reducible apply State.issue_keeps | with_reducible apply State.setPr_keeps | simp only [State.Keeps.mk1] |
                 simp only [State.Keeps.mk2] | simp only [State.Keeps.mk3] | split)

theorem idVsplat_keeps {s0 : State} (k : Nat) (f : FmtR) (s : State) (h : s0.Keeps s) : s0.Keeps (idVsplat k f s) := by
  unfold idVsplat
  try dsimp only
  repeat' (first | with_reducible assumption | intro _ | with_reducible apply State.Keeps.foldl |
                 with_reducible apply State.issue_keeps | with_reducible apply State.setVr_keeps | simp only [State.Keeps.mk1] |
                 simp only [State.Keeps.mk2] | simp only [State.Keeps.mk3] | split)

theorem idVmax_keeps {s0 : State} (k : Nat) (f : FmtR) (s : State) (h : s0.Keeps s) : s0.Keeps (idVmax k f s) := by
  unfold idVmax
  try dsimp only
  repeat' (first | with_reducible assumption | intro _ | with_reducible apply State.Keeps.foldl |
                 with_reducible apply Machine.vecOp_keeps | simp only [State.Keeps.mk1] | simp only [State.Keeps.mk2] |
                 simp only [State.Keeps.mk3] | split)

theorem idVsel_keeps {s0 : State} (k : Nat) (f : FmtR) (s : State) (h : s0.Keeps s) : s0.Keeps (idVsel k f s) := by
  unfold idVsel
  try dsimp only
  repeat' (first | with_reducible assumption | intro _ | with_reducible apply State.Keeps.foldl |
                 with_reducible apply State.issue_keeps | with_reducible apply State.setVr_keeps | simp only [State.Keeps.mk1] |
                 simp only [State.Keeps.mk2] | simp only [State.Keeps.mk3] | split)

theorem idVand_keeps {s0 : State} (k : Nat) (f : FmtR) (s : State) (h : s0.Keeps s) : s0.Keeps (idVand k f s) := by
  unfold idVand
  try dsimp only
  repeat' (first | with_reducible assumption | intro _ | with_reducible apply State.Keeps.foldl |
                 with_reducible apply Machine.vecOp_keeps | simp only [State.Keeps.mk1] | simp only [State.Keeps.mk2] |
                 simp only [State.Keeps.mk3] | split)

theorem idAreduce_keeps {s0 : State} (k : Nat) (f : FmtR) (s : State) (h : s0.Keeps s) : s0.Keeps (idAreduce k f s) := by
  unfold idAreduce
  try dsimp only
  repeat' (first | with_reducible assumption | intro _ | with_reducible apply State.Keeps.foldl |
                 with_reducible apply State.issue_keeps | with_reducible apply State.putAcc_keeps | simp only [State.Keeps.mk1] |
                 simp only [State.Keeps.mk2] | simp only [State.Keeps.mk3] | split)

theorem idPxor_keeps {s0 : State} (k : Nat) (f : FmtR) (s : State) (h : s0.Keeps s) : s0.Keeps (idPxor k f s) := by
  unfold idPxor
  try dsimp only
  repeat' (first | with_reducible assumption | intro _ | with_reducible apply State.Keeps.foldl |
                 with_reducible apply Machine.predOp_keeps | simp only [State.Keeps.mk1] | simp only [State.Keeps.mk2] |
                 simp only [State.Keeps.mk3] | split)

theorem idVsub_keeps {s0 : State} (k : Nat) (f : FmtR) (s : State) (h : s0.Keeps s) : s0.Keeps (idVsub k f s) := by
  unfold idVsub
  try dsimp only
  repeat' (first | with_reducible assumption | intro _ | with_reducible apply State.Keeps.foldl |
                 with_reducible apply Machine.vecOp_keeps | simp only [State.Keeps.mk1] | simp only [State.Keeps.mk2] |
                 simp only [State.Keeps.mk3] | split)

theorem idVmin_keeps {s0 : State} (k : Nat) (f : FmtR) (s : State) (h : s0.Keeps s) : s0.Keeps (idVmin k f s) := by
  unfold idVmin
  try dsimp only
  repeat' (first | with_reducible assumption | intro _ | with_reducible apply State.Keeps.foldl |
                 with_reducible apply Machine.vecOp_keeps | simp only [State.Keeps.mk1] | simp only [State.Keeps.mk2] |
                 simp only [State.Keeps.mk3] | split)

theorem idArnd_keeps {s0 : State} (k : Nat) (f : FmtR) (s : State) (h : s0.Keeps s) : s0.Keeps (idArnd k f s) := by
  unfold idArnd
  try dsimp only
  repeat' (first | with_reducible assumption | intro _ | with_reducible apply State.Keeps.foldl |
                 with_reducible apply State.issue_keeps | with_reducible apply State.setVr_keeps | simp only [State.Keeps.mk1] |
                 simp only [State.Keeps.mk2] | simp only [State.Keeps.mk3] | split)

theorem idAclr_keeps {s0 : State} (k : Nat) (f : FmtR) (s : State) (h : s0.Keeps s) : s0.Keeps (idAclr k f s) := by
  unfold idAclr
  try dsimp only
  repeat' (first | with_reducible assumption | intro _ | with_reducible apply State.Keeps.foldl |
                 with_reducible apply State.issue_keeps | with_reducible apply State.setAr_keeps | simp only [State.Keeps.mk1] |
                 simp only [State.Keeps.mk2] | simp only [State.Keeps.mk3] | split)

theorem idCmul_keeps {s0 : State} (k : Nat) (f : FmtR) (s : State) (h : s0.Keeps s) : s0.Keeps (idCmul k f s) := by
  unfold idCmul
  try dsimp only
  repeat' (first | with_reducible assumption | intro _ | with_reducible apply State.Keeps.foldl |
                 with_reducible apply State.issue_keeps | with_reducible apply State.putAcc_keeps | simp only [State.Keeps.mk1] |
                 simp only [State.Keeps.mk2] | simp only [State.Keeps.mk3] | split)

theorem idVmul_keeps {s0 : State} (k : Nat) (f : FmtR) (s : State) (h : s0.Keeps s) : s0.Keeps (idVmul k f s) := by
  unfold idVmul
  try dsimp only
  repeat' (first | with_reducible assumption | intro _ | with_reducible apply State.Keeps.foldl |
                 with_reducible apply Machine.vecOp_keeps | simp only [State.Keeps.mk1] | simp only [State.Keeps.mk2] |
                 simp only [State.Keeps.mk3] | split)

theorem idVconj_keeps {s0 : State} (k : Nat) (f : FmtR) (s : State) (h : s0.Keeps s) : s0.Keeps (idVconj k f s) := by
  unfold idVconj
  try dsimp only
  repeat' (first | with_reducible assumption | intro _ | with_reducible apply State.Keeps.foldl |
                 with_reducible apply Machine.vecOp_keeps | simp only [State.Keeps.mk1] | simp only [State.Keeps.mk2] |
                 simp only [State.Keeps.mk3] | split)

theorem idVabs_keeps {s0 : State} (k : Nat) (f : FmtR) (s : State) (h : s0.Keeps s) : s0.Keeps (idVabs k f s) := by
  unfold idVabs
  try dsimp only
  repeat' (first | with_reducible assumption | intro _ | with_reducible apply State.Keeps.foldl |
                 with_reducible apply Machine.vecOp_keeps | simp only [State.Keeps.mk1] | simp only [State.Keeps.mk2] |
                 simp only [State.Keeps.mk3] | split)

theorem idPand_keeps {s0 : State} (k : Nat) (f : FmtR) (s : State) (h : s0.Keeps s) : s0.Keeps (idPand k f s) := by
  unfold idPand
  try dsimp only
  repeat' (first | with_reducible assumption | intro _ | with_reducible apply State.Keeps.foldl |
                 with_reducible apply Machine.predOp_keeps | simp only [State.Keeps.mk1] | simp only [State.Keeps.mk2] |
                 simp only [State.Keeps.mk3] | split)

theorem idPor_keeps {s0 : State} (k : Nat) (f : FmtR) (s : State) (h : s0.Keeps s) : s0.Keeps (idPor k f s) := by
  unfold idPor
  try dsimp only
  repeat' (first | with_reducible assumption | intro _ | with_reducible apply State.Keeps.foldl |
                 with_reducible apply Machine.predOp_keeps | simp only [State.Keeps.mk1] | simp only [State.Keeps.mk2] |
                 simp only [State.Keeps.mk3] | split)

end Sys2Proof.Machine
end

