-- ==== Sys2Proof/Laws/Keeps/Windows.lean ====
section
/-! SUPPORT. What no function of Machine/Windows.lean undoes (State.Keeps). -/

namespace Sys2Proof.Machine

open Sys2Proof

set_option linter.unreachableTactic false
set_option linter.unusedTactic false

theorem bar2Access_keeps {s0 : State} (ofs : Nat) (bytes : Nat) (data : Option DWord) (s : State)
     (h : s0.Keeps s) : s0.Keeps (bar2Access ofs bytes data s) := by
  unfold bar2Access
  try dsimp only
  repeat' (first | with_reducible assumption | intro _ | with_reducible apply State.Keeps.foldl |
                 with_reducible apply State.returns_keeps | with_reducible apply State.drew_keeps |
                 with_reducible apply State.touchTag_keeps | with_reducible apply State.setBytes_keeps | simp only [State.Keeps.mk1] |
                 simp only [State.Keeps.mk2] | simp only [State.Keeps.mk3] | split)

end Sys2Proof.Machine
end

