-- ==== Sys2Proof/Machine/Connectors.lean ====
section
/-! DEFINITION. The connectors of the module (chapter 23): which signal each pin of J1 to J4 carries and what pulls it on the module. -/

namespace Sys2Proof.Machine

open Sys2Proof

/-- The signals of the connectors (R536 to R539), with their port, lane or pair. -/
inductive Signal where
  | vin | gnd | vinSense | agnd | vio
  | txP (port : Nat) | txN (port : Nat) | shield (port : Nat) | rxP (port : Nat) | rxN (port : Nat) | isense (port : Nat) | paEn (port : Nat)
  | nrxP (np : Nat) | nrxN (np : Nat) | nShield (np : Nat)
  | pcieTx (lane : Nat) (pos : Bool) | pcieRx (lane : Nat) (pos : Bool) | refClk (pos : Bool) | perstN
  | ethTx (port : Nat) (pos : Bool) | ethRx (port : Nat) (pos : Bool) | glTx (lane : Nat) (pos : Bool) | glRx (lane : Nat) (pos : Bool)
  | txd (tp : Nat) | rxd (tp : Nat) | clk (tp : Nat) | gs (pin : Nat) | calP | calN | ppsIn | ppsOut | rstN | pwrFailN | tamper (n : Nat)
  | wakeOut | irq (n : Nat) | tck | tms | tdi | tdo | trstN
  deriving DecidableEq, Repr

/-- J1 (R536, *J1 pins*). -/
def j1Pin (n : Nat) : Option Signal :=
  if 1 ≤ n ∧ n ≤ 4 then some .vin
  else if 5 ≤ n ∧ n ≤ 8 then some .gnd
  else if n = 9 then some .vinSense
  else if n = 10 then some .gnd
  else none

/-- J2 (R537): seven pins a line port, then three a neutral port. -/
def j2Pin (n : Nat) : Option Signal :=
  if 1 ≤ n ∧ n ≤ 168 then
    let p := (n - 1) / 7
    [Signal.txP p, .txN p, .shield p, .rxP p, .rxN p, .isense p, .paEn p][(n - 1) % 7]?
  else if 169 ≤ n ∧ n ≤ 192 then
    let p := (n - 169) / 3
    [Signal.nrxP p, .nrxN p, .nShield p][(n - 169) % 3]?
  else none

/-- Pair `k` of J3 (*J3 pairs*). -/
def j3Pair (k : Nat) (pos : Bool) : Signal :=
  if k < 4 then .pcieTx k pos
  else if k < 8 then .pcieRx (k - 4) pos
  else if k = 8 then .refClk pos
  else if k < 13 then (if k % 2 = 1 then .ethTx ((k - 9) / 2) pos else .ethRx ((k - 9) / 2) pos)
  else if k < 17 then .glTx (k - 13) pos
  else .glRx (k - 17) pos

/-- J3 (R538): 21 pairs, each with a ground after it, then PERST_n and grounds. -/
def j3Pin (n : Nat) : Option Signal :=
  if 1 ≤ n ∧ n ≤ 63 then
    let k := (n - 1) / 3
    [j3Pair k true, j3Pair k false, .gnd][(n - 1) % 3]?
  else if n = 64 then some .perstN
  else if 65 ≤ n ∧ n ≤ 72 then some .gnd
  else none

/-- J4 (R539, *J4 pins*). -/
def j4Pin (n : Nat) : Option Signal :=
  if n = 0 ∨ 120 < n then none
  else if n ≤ 24 then
    let p := (n - 1) / 3
    [Signal.txd p, .rxd p, .clk p][(n - 1) % 3]?
  else if n ≤ 56 then some (.gs (n - 25))
  else if n ≤ 63 then [Signal.calP, .calN, .agnd, .ppsIn, .ppsOut, .rstN, .pwrFailN][n - 57]?
  else if n ≤ 67 then some (.tamper (n - 64))
  else if n = 68 then some .wakeOut
  else if n ≤ 70 then some (.irq (n - 69))
  else if n ≤ 76 then [Signal.tck, .tms, .tdi, .tdo, .trstN, .vio][n - 71]?
  else if n ≤ 98 then some .gnd
  else some .agnd

/-- The 100 kΩ pull of a signal on the module: up, down or none (R538, R539). A pulled-up input reads high with no connection. -/
def pull : Signal → Option Bool
  | .txd _ => some true
  | .rxd _ => some true
  | .clk _ => some false
  | .ppsIn => some false
  | .rstN => some true
  | .pwrFailN => some true
  | .tamper _ => some true
  | .tck => some false
  | .trstN => some false
  | .tms => some true
  | .tdi => some true
  | .perstN => some false
  | _ => none

end Sys2Proof.Machine
end

