-- ==== Sys2Proof/Tests/Base.lean ====
section
/-! SUPPORT. Small states the tests start from. -/

set_option linter.unusedVariables false

namespace Sys2Proof.Tests

open Sys2Proof Sys2Proof.Machine

/-- Every switched domain on. -/
def allOn : Tab DomState := (List.range 198).map fun i => (i, .on)

/-- SERVE with every domain on. -/
def up : State := { State.reset with
  pwr := { mode := .serve, coreOn := true, doms := allOn, vcoreMv := 800 }
  pins := { perstN := true } }

/-- The same in another mode. -/
def inMode (m : Mode) : State := { up with pwr := { up.pwr with mode := m } }

/-- A command `op` at the head of queue pair 0. -/
def asked (s : State) (op : Nat) : State := s.setPair 0 { fetched := [{ op := op, cid := 7 }] }

/-- Line port 0 as L1 of group 1, a node at address 5 there, the group's band open. -/
def node5 : Node := { eui := 9, state := .active, fg := 1, sess := some (1, 2), waddr := 77 }

def net : State :=
  let s1 := ((((((up.setReg .LP_CFG 0 0x20111).setFld F.MDM_BANDSTAT_FLPA 1 1).setReg .MAC_SEED_LO 0 1).setFld F.MDM_BANDSTAT_TX_OFF 1 0).setFld F.LP_ZCSTAT_LOCK 1 1).setFld F.MDM_BANDSTAT_MASK_LO 1 13).setFld
    F.MDM_BANDSTAT_MASK_HI 1 60
  { s1 with
    mac := { s1.mac with nodes := [(5, some node5)] }
    plc := { s1.plc with narrowDs := 100, wideDs := 50, hbm := [(0, .serving), (1, .serving)] }
    lin := { s1.lin with ports := [(0, { path := 2 })], trackers := [(1, { everLocked := true })] } }

/-- `net` with one frame. -/
def frame1 (x : FrameState) : Frame := { id := 1, fg := 1, dst := 5, body := .data 1 100, seq := some 3, ports := [0], path := 2, state := x }

def netFrame (x : FrameState) : State := { net with lin := { net.lin with frames := [frame1 x] } }

/-- An open reception, a rescan of the host's group, a frame that ends well. -/
def recep0 (w : RxWait) : Recep := { id := 0, fg := 1, start := {}, metric := 1, power := 1, origin := .live, std := false, wait := w }

def rescan3 (running : Bool) : Rescan := { id := 3, fg := 1, src := 5, t0 := {}, t1 := {}, running := running }

def rxFrame : RxFrame := { src := 5, dst := 0, len := 100 }

/-- A frame whose header passes and names a tone map that is not held. -/
def rxUnmapped : RxFrame := { rxFrame with mcs := 24, tmid := 3, word := syncWord 1 0 false, hcrc := 14889 }

/-- `net` with a channel record of node 5. -/
def rec5 : ChanRec := { saddr := 5, fg := 1 }

def netRec (r : ChanRec) : State := { net with maps := { net.maps with recs := [(0, some r)] } }

/-- A tone map. -/
def map0 (retired : Option Stamp) : ToneMap := { tmid := 0, two := false, rate := 0, cgFirst := 13, cgLast := 60, codes := [], issued := {}, retired := retired }

/-- `net` with another record of node 5. -/
def netNode (n : Node) : State := { net with mac := { net.mac with nodes := [(5, some n)] } }

/-- Node 5 with streams, its channel record, an uplink map in force, the group's band one carrier group wide. -/
def nodeStrm : Node := { node5 with cap := 8 }

def mapStrm : ToneMap :=
  { tmid := 0, two := false, rate := 0, cgFirst := 13, cgLast := 13, issued := {}
    codes := (List.range 12).flatMap fun k => (List.range 15).map fun c => (k * 1024 + 216 + c, 6) }

def netStrm : State :=
  let s := (netNode nodeStrm).setFld F.MDM_BANDSTAT_MASK_HI 1 13
  { s with maps := { s.maps with recs := [(0, some rec5)], ul := [(5, [mapStrm])] } }

/-- An association in progress. -/
def join5 : Joining := { nn := 1, nm := 2, bnum := 0, fg := 1, cap := 0, drift := 0, zcofs := 0 }

/-- `net` with the Guyline on, and an offered or incoming handover. -/
def guy : State := net.setFld F.GL_CFG_EN 0 1

def handOut5 (o : Option Stamp) : HandOut := { saddr := 5, eui := 9, target := 3, offered := o }

def handIn5 (pending queried : Bool) : HandIn := { eui := 8, giver := 3, saddr := 6, node := { node5 with eui := 8 }, pending := pending, queried := queried }

def guyOut (o : Option Stamp) : State := { guy with mac := { guy.mac with handOut := [handOut5 o] }, cmp := { sec := 20 } }

def guyIn (pending queried : Bool) : State := { guy with mac := { guy.mac with handIn := [handIn5 pending queried] }, cmp := { sec := 20 } }

/-- A ledger entry of node 5. -/
def entry5 (x : LState) : LEntry := { lseq := 1, gaddr := 5, token := 0, href := 0, deadline := 10, want := true, state := x }

def ledger (x : LState) : State := { net with ldg := { entries := [(4, some (entry5 x))] }, cmp := { sec := 700 } }

/-- A journal record that has been programmed. -/
def landed (kind : Nat) (p : Payload) : State :=
  { net with bed := { net.bed with waiting := [{ record := { kind := kind, payload := p }, prio := 0, done := 1 }] } }

def wakeChips : BitVec 32 := 0xB1FFFF00 ||| (wakeCheck 0xFFFF).setWidth 32

def offer8 : Offer := { giver := 3, mseq := 1, node := { node5 with eui := 8 }, maps := [], entries := [], lseq := 1, fg := 1, admitted := true }

/-- `net` open for associations with provisioned nodes, and with 64 associations in progress. -/
def assocNet (prov : Tab (Option Bool)) : State :=
  { net.setFld F.MAC_BCNCFG_ASSOC_OPEN 1 1 with mac := { net.mac with prov := prov } }

def assocFull : State :=
  { net.setFld F.MAC_BCNCFG_ASSOC_OPEN 1 1 with
    mac := { prov := [(4000, some true)], nodes := (List.range 64).map fun i => (i, some { node5 with eui := 100 + i, assoc := some join5 }) } }

def provNet : State := { net with mac := { net.mac with prov := [(44, some true)] } }

/-- 4 096 pinned channel records, that of node 5 not among them. -/
def pinnedAll : State := { net.setFld F.MDM_MAPSEL_SADDR 0 5 with
  maps := { recs := (0, some rec5) :: (List.range 4096).map fun i => (i + 1, some { rec5 with saddr := i + 1000, pinned := true }) } }

/-- `net` with its port on path 1 and a profile in force, so that the network beacons. -/
def netB : State := { net with
  lin := { net.lin with ports := [(0, { path := 1 })] }
  maps := { net.maps with bands := [(1, 0)] } }

/-- `net` with the sweeps of its port and the balance of pair 0 enabled. -/
def netW : State := ((netB.setFld F.MDM_FMCFG_SW_IVL 0 1).setFld F.MDM_FMPORT_SWEEP_EN 0 1).setReg .LP_RXCFG 0 0x1000

def ex5 : Exchange := { rid := 1, begun := 0, req := some {} }

def set5 : RangeSet := { saddr := 5, open_ := [ex5] }

def balNet : State :=
  { net.setFld F.MDM_BALPT_EN 3 1 with
    units := { net.units with owners := [(pageGs, 1)] }
    gs := [(0, { on := true }), (1, { on := true })] }

/-- A calibration in progress. -/
def calRun (p : CalPhase) : CalRun := { set := 0, target := 0, phase := p }

def calNet (p : CalPhase) : State := { up with cal := { run := some (calRun p) } }

/-- A record that waits for its commit. -/
def wait1 : Waiting := { record := { kind := 3, payload := .baseline 0 0, rseq := 6 }, prio := 0 }

/-- A transaction in flight. -/
def txn0 (adm arrived : Bool) : Txn :=
  { id := 0, init := 0, pc := some 0, admitted := adm, reqN := 2, respN := 1, left := if arrived then [] else [1], moved := 0, back := none, resp := [],
    kind := .other }

/-- A running self-test of a memory row. -/
def test0 (inj : Bool) : SelfTest := { target := .hbmRow 0 4, det := 1, injected := inj }

def testing (inj : Bool) : State := { up with rel := { running := [test0 inj] } }

def injUp : State := up.setFld F.DBG_LEVEL_INFORCE 0 3

/-- `net` joined to a Guyline, with the states of its links and a peer on lane 0. -/
def peer3 : GPeer := { index := 3, gnid := 0, l := 0 }

def ring (states : Tab Nat) (asked : Option Nat) : State :=
  let s := (((guy.setFld F.GL_STAT_STATE 0 2).setFld F.GL_CFG_LANES 0 1).setFld F.GL_CFG_LLINKS 0 1).setReg .GL_SEED_LO 0 1
  { s with gl := { states := states, peers := [(0, peer3), (4, peer3)], asked := asked, netKey := true } }

/-- A control message not acknowledged. -/
def send1 : GSend := { mseq := 1, link := none, dst := 3, msg := .ack 1, since := {}, last := {} }

def sends (ns : Nat) : State := { guy with gl := { unacked := [send1] }, cmp := { sec := ns / 1000000000, ns := ns % 1000000000 } }

/-- A check-unit call on unit 0. -/
def desc0 : CallDesc := { inH := 0, outH := 0, inOfs := 0, outOfs := 0, inLen := 4, outLen := 0, op := 0, flags := 0, param := [] }

def chkCall0 : Call := { id := 1, unit := 3, inst := 0, place := 0, ticket := 0, slot := 0, desc := desc0 }

def calling : State := { up with prog := { calls := [chkCall0] } }

/-- `up` with the bytes of a command's body in the window. -/
def bodied (s : State) (l : List Byte) : State :=
  { s.setFld F.SEC_XFER_LEN_BYTES 0 l.length with
    sec := { s.sec with xfer := (List.range l.length).map fun i => (i, l.getD i 0) } }

/-- `up` in lifecycle `lc` with two owner keys and a signed body. -/
def owned (lc : Nat) : State := { up with sec := { lcRec := { lc := lc, keys := [(0, some 5), (1, some 6)] } } }

def signedBody (op : Nat) (p : List Byte) : List Byte :=
  natLe 2 op ++ natLe 2 p.length ++ [1] ++ List.replicate 83 0 ++ p ++ List.replicate 96 0

def task0 : Task := { slot := 0, prio := 0, entry := 0, parent := 0, place := 0, code := 0, scratch := 0 }

def dbgUp : State := { up.setFld F.DBG_LEVEL_INFORCE 0 2 with prog := { ctxs := [(0, { task := some 1 })], tasks := [(1, task0)] } }

def tamperUp : State := up.setReg .SEC_TAMPCFG 0 3

def winUp (r w : Bool) : State :=
  { (up.setReg .HST_WINH 0 70).setReg .HST_WINC 0 0x80000000 with
    prog := { handles := [(70, { size := 4096, hostRead := r, hostWrite := w })] } }

def heUp : State := (up.setFld F.ETH_CFG_EN 1 1).setFld F.ETH_CFG_HE 1 1

def tpUp : State := up.setFld F.TP_CFG_EN 7 1


/-- Engine 0, context 0 running task 1 of pack 0; its code handle 1, local data 70, data in a stack 71, a queue 72, data of the canteen
lent read-only 73. -/
def idnHandles : Tab Handle :=
  [(1, { size := 4096, kind := .code }), (70, { size := 4096, place := .store 0, holders := [(0, 3)] }), (71, { size := 4096, holders := [(0, 3)] }),
   (72, { size := 128, kind := .queue, holders := [(0, 3)] })]

def idnTask : Task := { slot := 0, prio := 0, entry := 0, parent := 0, place := 0, code := 1, scratch := 4096 }

def idnCtx : Ctx := { task := some 1, pc := 8, s := [(1, 3), (2, 5), (3, 70), (4, 71), (5, 72), (6, 1), (7, 64)] }

def idnWith (c : Ctx) : State :=
  { up with prog := { ctxs := [(0, c)], tasks := [(1, idnTask), (2, { idnTask with live := false }), (3, { idnTask with slot := 5 })], handles := idnHandles } }

def idn : State := idnWith idnCtx

def idnWait (w : Wait) : State := idnWith { idnCtx with wait := w }

/-- All tags of engine 0 in use. -/
def idnNoTag (s : State) : State := { s with fab := { held := [(0, 24)] } }

theorem issues {s : State} {k n : Nat} {regs : List CtxReg} {t : Nat} {x : Task}
    (h : (s.ctx k).task = some t ∧ s.task t = some x ∧ s.mayIssue k x = true ∧ s.fetchOk k x (4 * n) = true ∧
      regs.any (fun r => (s.ctx k).busy.contains r) = false) : s.Issues k n regs t x := h

/-- Context 0 with a call descriptor at offset 0 of its local data, one ticket free. -/
def descBytes (unitOp inLen : Nat) : List Byte :=
  natLe 4 70 ++ natLe 4 70 ++ natLe 8 1024 ++ natLe 8 2048 ++ natLe 4 inLen ++ natLe 4 256 ++ natLe 2 unitOp ++ natLe 2 0 ++
    [64, 0, 1, 0] ++ List.replicate 24 0

def idnCall (op : Nat) : State :=
  (idnWith { idnCtx with tickets := [1, 2, 3, 4, 5, 6, 7].map fun n => (n, none) }).setBytes 70 0 (descBytes op 256)

/-- A call in progress for context 0. -/
def inCall (unit op inLen outLen : Nat) (param : List Byte) : Call :=
  { id := 1, unit := unit, inst := 0, place := 0, ticket := 1, slot := 0
    desc := { inH := 70, outH := 70, inOfs := 0, outOfs := 1024, inLen := inLen, outLen := outLen, op := op, flags := 0, param := param } }

def withCall (c : Call) : State := { idn with prog := { idn.prog with calls := [c] } }

end Sys2Proof.Tests
end

