-- ==== Sys2Proof/Tests/Slice0.lean ====
section
/-! SUPPORT. Tests: an ill-formed command for each check of WellFormed, and single steps with results taken from the manual. -/

set_option maxRecDepth 20000

namespace Sys2Proof.Tests

open Sys2Proof Sys2Proof.Machine

/-- The state after a command. -/
def after (c : Instr) (s : State) : State :=
  match exec c s with
  | .next t => t
  | _ => s

/-! ## Each check refuses an ill-formed command and takes the last good instance -/

theorem test_wf_group : (Instr.trackerHoldover 8).wf = false ∧ (Instr.trackerHoldover 7).wf = true := by decide
theorem test_wf_lineGroup : (Instr.inputLostInReception 12).wf = false ∧ (Instr.inputLostInReception 11).wf = true := by decide
theorem test_wf_port : (Instr.paEnRelease 24).wf = false ∧ (Instr.paEnRelease 23).wf = true := by decide
theorem test_wf_input : (Instr.agcLower 32).wf = false ∧ (Instr.agcLower 31).wf = true := by decide
theorem test_wf_trail : (Instr.tpCharSent 8).wf = false ∧ (Instr.tpCharSent 7).wf = true := by decide
theorem test_wf_eth : (Instr.ethPortDisable 2 .host 0).wf = false ∧ (Instr.ethPortDisable 1 .host 0).wf = true := by decide
theorem test_wf_check : (Instr.chkInit 16 .host 1).wf = false ∧ (Instr.chkInit 15 .host 1).wf = true := by decide
theorem test_wf_domain : (Instr.unitDrained 198).wf = false ∧ (Instr.unitDrained 197).wf = true := by decide
theorem test_wf_link : (Instr.serdesLoss 8).wf = false ∧ (Instr.serdesLoss 7).wf = true := by decide
theorem test_wf_balance : (Instr.balancePointChange 2).wf = false ∧ (Instr.balancePointChange 1).wf = true := by decide
theorem test_wf_pair : (Instr.completionPost 64).wf = false ∧ (Instr.completionPost 63).wf = true := by decide
theorem test_wf_cycleSlot : (Instr.confidenceHalving 0 12).wf = false ∧ (Instr.confidenceHalving 0 11).wf = true := by decide
theorem test_wf_slot : (Instr.packUnload (.queue 0 7) 16).wf = false ∧ (Instr.packUnload (.queue 0 7) 15).wf = true := by decide
theorem test_wf_tamper : (Instr.tamperActivation 4 0).wf = false ∧ (Instr.tamperActivation 3 0).wf = true := by decide
theorem test_wf_channel : (Instr.gsChannelDrain 4).wf = false ∧ (Instr.gsChannelDrain 3).wf = true := by decide
theorem test_wf_notch : (Instr.notchWrite 16 .host 0).wf = false ∧ (Instr.notchWrite 15 .host 0).wf = true := by decide
theorem test_wf_point : (Instr.balanceDwellEnd 0 0 24).wf = false ∧ (Instr.balanceDwellEnd 0 0 23).wf = true := by decide
theorem test_wf_stack : (Instr.scrubPass 4).wf = false ∧ (Instr.scrubPass 3).wf = true := by decide
theorem test_wf_short : (Instr.ackTimeout 0).wf = true ∧ (Instr.leave 65536 0).wf = false := by decide
theorem test_wf_ctx : (Instr.twaitResume 512).wf = false ∧ (Instr.twaitResume 511).wf = true := by decide
theorem test_wf_offset : (Instr.registerWrite .host 2 0 {}).wf = false ∧ (Instr.registerWrite .host 0x4000000 0 {}).wf = false ∧
    (Instr.registerWrite .host 0x3FFFFFC 0 {}).wf = true := by decide
theorem test_wf_pc : (Instr.pseudoChannelAdmit 128).wf = false ∧ (Instr.pseudoChannelAdmit 127).wf = true := by decide

/-! ## The queue and the table's words -/

theorem test_step_takes_the_front : (match step { up with pending := [.creditReturn 1, .scrubPass 0] } with
    | .next t => t.pending == [.scrubPass 0]
    | _ => false) = true := by decide
theorem test_no_word_spells_a_command : decodeTableWord 32 0x01020304 = none ∧ State.withFetchWord up 32 0 = up := by decide

/-! ## Results the manual gives -/

/-- The worked example of chapter 22: the nine bytes "123456789" with the reset settings give 0xE306_9283. -/
theorem test_check_value :
    (State.reset.chkResult 14 (State.reset.chkFed 14 0xFFFFFFFF [0x31, 0x32, 0x33, 0x34, 0x35, 0x36, 0x37, 0x38, 0x39])).setWidth 32 = 0xE3069283#32 := by
  decide
/-- The frame check of R121 is the CRC of the worked example of chapter 22. -/
theorem test_frame_check : crc32c [0x31, 0x32, 0x33, 0x34, 0x35, 0x36, 0x37, 0x38, 0x39] = 0xE3069283 := by decide
/-- R107: any two of the ten sync words differ in at least 32 bits. -/
theorem test_sync_words : (net.air 1).sentBits.length = 64 ∧
    (((net.air 1).expected 0).all fun a => ((net.air 1).expected 0).all fun b =>
      (a.1 == b.1 && a.2.1 == b.2.1) || decide (32 ≤ (net.air 1).distance a.2.2 b.2.2)) = true := by decide
/-- R97: over 8 consecutive symbols a carrier of a group is a pilot once. -/
theorem test_pilots : ((List.range 16).all fun j => ((List.range 8).filter fun s => (net.air 1).pilot (s + 5) (7 + 16 * 20 + j)).length == 1) = true := by
  decide
/-- R537: LP_23 ends at J2-168 and NP_7 at J2-192. -/
theorem test_j2_ends : j2Pin 168 = some (.paEn 23) ∧ j2Pin 192 = some (.nShield 7) ∧ j2Pin 169 = some (.nrxP 0) := by decide
/-- Chapter 21: TP_BAUD resets to DIV 34 and FRAC 185. -/
theorem test_baud : State.reset.fld F.TP_BAUD_DIV 0 = 34 ∧ State.reset.fld F.TP_BAUD_FRAC 0 = 185 := by decide
/-- R365: s0 reads as zero and takes no write. -/
theorem test_s0 : (after (.iAdd 0 ⟨0, 1, 2, 0, 0⟩) idn).sr 0 0 = 0 := by decide
theorem test_add : (after (.iAdd 0 ⟨9, 1, 2, 0, 0⟩) idn).sr 0 9 = 8 ∧ ((after (.iAdd 0 ⟨9, 1, 2, 0, 0⟩) idn).ctx 0).pc = 12 := by decide
theorem test_sub_wraps : (after (.iSub 0 ⟨9, 1, 2, 0, 0⟩) idn).sr 0 9 = 0xFFFFFFFFFFFFFFFE := by decide
theorem test_slt_signed : (after (.iSlt 0 ⟨9, 1, 2, 0, 0⟩) (idnWith { idnCtx with s := [(1, 0xFFFFFFFFFFFFFFFF), (2, 5)] })).sr 0 9 = 1 ∧
    (after (.iSltu 0 ⟨9, 1, 2, 0, 0⟩) (idnWith { idnCtx with s := [(1, 0xFFFFFFFFFFFFFFFF), (2, 5)] })).sr 0 9 = 0 := by decide
theorem test_mulhu : (after (.iMulhu 0 ⟨9, 1, 2, 0, 0⟩) (idnWith { idnCtx with s := [(1, 0xFFFFFFFFFFFFFFFF), (2, 5)] })).sr 0 9 = 4 := by decide
theorem test_clz : (after (.iClz 0 ⟨9, 2, 0, 0, 0⟩) idn).sr 0 9 = 61 := by decide
theorem test_addi_sign : (after (.iAddi 0 ⟨9, 1, 0xFFFF⟩) idn).sr 0 9 = 2 := by decide
theorem test_lih_keeps_low : (after (.iLih 0 ⟨1, 0, 0, 7⟩) idn).sr 0 1 = 0x700000003 := by decide
theorem test_branch_back : ((after (.iBr 0 ⟨0, 0x1FFFFF⟩) idn).ctx 0).pc = 4 := by decide
theorem test_bnz_taken : ((after (.iBnz 0 ⟨1, 3⟩) idn).ctx 0).pc = 20 ∧ ((after (.iBz 0 ⟨1, 3⟩) idn).ctx 0).pc = 12 := by decide
theorem test_call_links : (after (.iCall 0 ⟨0, 3⟩) idn).sr 0 31 = 12 ∧ ((after (.iCall 0 ⟨0, 3⟩) idn).ctx 0).pc = 20 := by decide
/-- A store and a load of one word in local store, little-endian. -/
theorem test_store_load : (after (.iLds 0 ⟨9, 3, 10, 0, 0, 1⟩) (after (.iSts 0 ⟨5, 3, 10, 0, 2, 0⟩)
    (idnWith { idnCtx with s := [(3, 70), (5, 0x44332211)] }))).sr 0 9 = 0x22 := by decide
/-- R373: a load through a handle the pack does not hold ends the task with cause 2. -/
theorem test_cause_2 : (after (.iLds 0 ⟨9, 1, 7, 0, 2, 0⟩) idn).fld F.ENG_FAULT_CAUSE 0 = 2 ∧
    ((after (.iLds 0 ⟨9, 1, 7, 0, 2, 0⟩) idn).ctx 0).task = none := by decide

end Sys2Proof.Tests
end

