-- ==== Sys2Proof/Tests/Witness1.lean ====
section
/-! SUPPORT. States and operands that meet the hypotheses of the statements 1 to 10. -/

set_option linter.unusedVariables false
set_option maxRecDepth 20000

namespace Sys2Proof.Tests

open Sys2Proof Sys2Proof.Machine

/-- States and operands that meet the hypotheses of `StartUpAndLossOfSupply`, clause by clause. -/
theorem witness_StartUpAndLossOfSupply :
    (∃ (vin : Nat) (pf : Bool) (a : Bool) (b : Bool) (s : State), s.pwr.mode = .off ∧ 2800 ≤ vin ∧ s.pins.rstN = true) ∧
    (∃ (vin : Nat) (pf : Bool) (a : Bool) (b : Bool) (s : State), s.pwr.mode = .off ∧ 2800 ≤ vin ∧ s.pins.rstN = false) ∧
    (∃ (vin : Nat) (pf : Bool) (a : Bool) (b : Bool) (s : State), (s.pwr.mode ≠ .off ∨ vin < 2800)) ∧
    (∃ (vin : Nat) (started : Bool) (s : State), (s.pwr.mode = .off ∨ 2680 < vin)) ∧
    (∃ (a : Bool) (b : Bool) (s : State), s.pwr.mode ≠ .off ∧ s.pins.rstN = false) ∧
    (∃ (vin : Nat) (started : Bool) (s : State), s.pwr.mode ≠ .off ∧ vin ≤ 2680) ∧
    (∃ (started : Bool) (s : State), s.pwr.mode ≠ .off) :=
  ⟨⟨5000, true, true, true, inMode .off, by decide⟩,
   ⟨5000, true, true, true, { inMode .off with pins := { rstN := false } }, by decide⟩,
   ⟨5000, true, true, true, up, by decide⟩,
   ⟨4000, true, up, by decide⟩,
   ⟨true, true, { inMode .rest with pins := { rstN := false } }, by decide⟩,
   ⟨2600, true, up, by decide⟩,
   ⟨true, up, by decide⟩⟩

/-- States and operands that meet the hypotheses of `ModeRequestsAreJudged`, clause by clause. -/
theorem witness_ModeRequestsAreJudged :
    (∃ (who : Who) (s : State), s.gate who .PWR_MODE 0 = .pass ∧ s.pwr.trans = none ∧ s.triggered = false ∧ s.pwr.mode = .serve) ∧
    (∃ (who : Who) (s : State), s.gate who .PWR_MODE 0 = .pass ∧ s.pwr.trans = none ∧ s.triggered = false ∧ s.pwr.mode = .surge) ∧
    (∃ (who : Who) (s : State), s.gate who .PWR_MODE 0 = .pass ∧ s.pwr.trans.isSome = true) ∧
    (∃ (who : Who) (s : State), s.gate who .PWR_MODE 0 = .pass ∧ s.pwr.trans = none ∧ s.triggered = false ∧
      (s.pwr.mode = .rest ∨ s.pwr.mode = .watch)) :=
  ⟨⟨.host, up, by decide⟩,
   ⟨.host, inMode .surge, by decide⟩,
   ⟨.host, { inMode .serve with pwr := { (inMode .serve).pwr with trans := some ⟨.surge, 1⟩ } }, by decide⟩,
   ⟨.host, inMode .rest, by decide⟩⟩

/-- States and operands that meet the hypotheses of `TransitionsCompleteOrWait`, clause by clause. -/
theorem witness_TransitionsCompleteOrWait :
    (∃ (vin : Nat) (pf : Bool) (power : List Nat) (keep : List Nat) (s : State) (c : Nat), s.pwr.mode = .serve ∧
      s.pwr.trans = some ⟨.surge, c⟩ ∧ (s.seeSupply vin pf).triggered = false ∧ s.pwr.heldReq = none) ∧
    (∃ (vin : Nat) (pf : Bool) (power : List Nat) (keep : List Nat) (s : State) (c : Nat), s.pwr.mode = .surge ∧
      s.pwr.trans = some ⟨.serve, c⟩ ∧ (s.seeSupply vin pf).triggered = false ∧ s.pwr.heldReq = none) ∧
    (∃ (vin : Nat) (pf : Bool) (power : List Nat) (keep : List Nat) (s : State) (c : Nat) (i : Nat), s.pwr.trans = some ⟨.rest, c⟩ ∧
      i < domCount ∧ s.dom i = .on) ∧
    (∃ (i : Nat) (s : State) (t : Transition) (d : Drain), s.pwr.trans = some t ∧ (t.target = .rest ∨ t.target = .watch) ∧
      s.drain i = some d ∧ (offIn t.target).contains i = true) ∧
    (∃ (s : State), s.pwr.mode = .watch ∧ s.pwr.trans = none ∧ s.fld F.PWR_WAKECFG_WATCH_S 0 ≠ 0 ∧
      s.pwr.watchSince + s.fld F.PWR_WAKECFG_WATCH_S 0 ≤ s.cmp.sec) ∧
    (∃ (s : State), s.pwr.mode = .ember ∧ s.pwr.trans = none ∧ s.flag F.PWR_EMBER_AFTER 0 = true ∧ s.fld F.PWR_EMBER_MAX_S 0 ≠ 0 ∧
      s.pwr.ember.entry.s + s.fld F.PWR_EMBER_MAX_S 0 ≤ s.cmp.sec % 2 ^ 32) ∧
    (∃ (vin : Nat) (pf : Bool) (s : State), s.pwr.mode = .ember ∧ s.pwr.trans = none ∧ (s.seeSupply vin pf).triggersClear = true) :=
  ⟨⟨5000, true, [], [], { inMode .serve with pwr := { (inMode .serve).pwr with trans := some ⟨.surge, 1⟩ } }, 1, by decide⟩,
   ⟨5000, true, [], [], { inMode .surge with pwr := { (inMode .surge).pwr with trans := some ⟨.serve, 1⟩ } }, 1, by decide⟩,
   ⟨5000, true, [], [], { inMode .serve with pwr := { (inMode .serve).pwr with trans := some ⟨.rest, 1⟩ } }, 1, 197, by decide⟩,
   ⟨0, { inMode .serve with pwr := { up.pwr with trans := some ⟨.rest, 1⟩ }, units := { drains := [(0, some { why := .mode })] } },
     ⟨.rest, 1⟩, { why := .mode }, by decide⟩,
   ⟨{ (inMode .watch).setFld F.PWR_WAKECFG_WATCH_S 0 1 with cmp := { sec := 1 } }, by decide⟩,
   ⟨{ ((inMode .ember).setFld F.PWR_EMBER_AFTER 0 1).setFld F.PWR_EMBER_MAX_S 0 1 with cmp := { sec := 1 } }, by decide⟩,
   ⟨5000, true, inMode .ember, by decide⟩⟩

/-- States and operands that meet the hypotheses of `EmberTriggersActByMode`, clause by clause. -/
theorem witness_EmberTriggersActByMode :
    (∃ (keep : List Nat) (s : State), s.flag F.PWR_EMBER_PF_EN 0 = true ∧ (s.pwr.mode = .serve ∨ s.pwr.mode = .surge)) ∧
    (∃ (keep : List Nat) (s : State), s.flag F.PWR_EMBER_PF_EN 0 = true ∧ (s.pwr.mode = .rest ∨ s.pwr.mode = .watch) ∧
      s.pwr.trans = none) ∧
    (∃ (keep : List Nat) (s : State), s.flag F.PWR_EMBER_PF_EN 0 = false) ∧
    (∃ (vin : Nat) (keep : List Nat) (s : State), s.flag F.PWR_EMBER_VE_EN 0 = true ∧ vin < 100 * s.fld F.PWR_EMBER_VIN_EMBER 0 ∧
      (s.pwr.mode = .serve ∨ s.pwr.mode = .surge)) ∧
    (∃ (vin : Nat) (keep : List Nat) (s : State), s.flag F.PWR_EMBER_VE_EN 0 = false) :=
  ⟨⟨[], (inMode .surge).setFld F.PWR_EMBER_PF_EN 0 1, by decide⟩,
   ⟨[], (inMode .watch).setFld F.PWR_EMBER_PF_EN 0 1, by decide⟩,
   ⟨[], (inMode .serve).setFld F.PWR_EMBER_PF_EN 0 0, by decide⟩,
   ⟨3999, [], ((inMode .serve).setFld F.PWR_EMBER_VE_EN 0 1).setFld F.PWR_EMBER_VIN_EMBER 0 40, by decide⟩,
   ⟨3999, [], (inMode .serve).setFld F.PWR_EMBER_VE_EN 0 0, by decide⟩⟩

/-- States and operands that meet the hypotheses of `WakesAndPowerRegisters`, clause by clause. -/
theorem witness_WakesAndPowerRegisters :
    (∃ (s : State), s.pins.perstN = false ∧ s.pwr.mode = .rest ∧ s.pins.rstN = true ∧ s.pwr.trans = none ∧
      s.flag F.PWR_WAKECFG_PERST_EN 0 = true ∧ s.flag F.PWR_STAT_BOOT_FAIL 0 = false) ∧
    (∃ (s : State) (t : Transition), s.pins.perstN = false ∧ s.pwr.mode ≠ .off ∧ s.pwr.trans = some t) ∧
    (∃ (src : Nat) (s : State), (s.pwr.mode = .rest ∨ s.pwr.mode = .watch) ∧ s.pins.rstN = true ∧ s.wakeEnabled src = true ∧
      s.pwr.trans.isSome = true) ∧
    (∃ (src : Nat) (s : State), (s.pwr.mode = .rest ∨ s.pwr.mode = .watch) ∧ s.pins.rstN = true ∧ s.wakeEnabled src = true) ∧
    (∃ (who : Who) (v : Word) (s : State), s.gate who .PWR_CAP 0 = .pass ∧ s.pwr.mode ≠ .surge) ∧
    (∃ (who : Who) (v : Word) (s : State), s.gate who .PWR_STAT 0 = .pass ∧
      getBits (plainWrite .PWR_STAT (s.reg .PWR_STAT 0) v) 0 3 ≠ 0) ∧
    (∃ (who : Who) (v : Word) (s : State), s.gate who .PWR_STAT 0 = .pass ∧
      getBits (plainWrite .PWR_STAT (s.reg .PWR_STAT 0) v) 0 3 = 0) ∧
    (∃ (demand : Nat) (vcore : Nat) (idle : List Nat) (s : State), (s.pwr.mode = .serve ∨ s.pwr.mode = .surge) ∧
      demand ≤ 10 * s.capInForce) ∧
    (∃ (demand : Nat) (vcore : Nat) (idle : List Nat) (s : State), (s.pwr.mode = .serve ∨ s.pwr.mode = .surge) ∧
      10 * s.capInForce < demand ∧ 700 < s.pwr.vcoreMv) :=
  ⟨⟨(State.reset.setFld F.PWR_WAKECFG_PERST_EN 0 1), by decide⟩,
   ⟨{ State.reset with pwr := { trans := some ⟨.serve, 1⟩ } }, ⟨.serve, 1⟩, by decide⟩,
   ⟨8, { (inMode .watch).setFld F.PWR_WAKECFG_LAN_EN 0 1 with pwr := { (inMode .watch).pwr with trans := some ⟨.rest, 1⟩ } },
     by decide⟩,
   ⟨8, (inMode .watch).setFld F.PWR_WAKECFG_LAN_EN 0 1, by decide⟩,
   ⟨.host, 5, up, by decide⟩,
   ⟨.host, 1, up.setFld F.PWR_STAT_WAKE_LAN 0 1, by decide⟩,
   ⟨.host, 0, up, by decide⟩,
   ⟨480, 805, [], up, by decide⟩,
   ⟨481, 805, [], up, by decide⟩⟩

/-- States and operands that meet the hypotheses of `PortsAreConfiguredAndDisabled`, clause by clause. -/
theorem witness_PortsAreConfiguredAndDisabled :
    (∃ (p : Nat) (who : Who) (v : Word) (s : State), s.gate who (cfgReg p).1 (cfgReg p).2 = .pass) ∧
    (∃ (p : Nat) (v : Word) (s : State), p < 24 ∧
      roleMoved (s.portCfg p) (portCfgForm p (plainWrite .LP_CFG (s.portCfg p) v)) = true ∧ s.portEn p = true) ∧
    (∃ (p : Nat) (s : State), p < 24 ∧ (s.mutePort p).dom (domLps p) = .on) ∧
    (∃ (p : Nat) (s : State), 24 ≤ p) ∧
    (∃ (p : Nat) (s : State), p < 24 ∧ s.onAir p = false) :=
  ⟨⟨31, .host, 1, up, by decide⟩,
   ⟨0, 0x121, net, by decide⟩,
   ⟨0, up, by decide⟩,
   ⟨24, up, by decide⟩,
   ⟨23, up, by decide⟩⟩

/-- States and operands that meet the hypotheses of `GainAndOverload`, clause by clause. -/
theorem witness_GainAndOverload :
    (∃ (p : Nat) (s : State), s.agcActs p = true ∧ s.gain p ≠ 0) ∧
    (∃ (p : Nat) (s : State), s.agcActs p = true ∧ s.gain p < 6) ∧
    (∃ (p : Nat) (s : State), s.gain p = 0) ∧
    (∃ (p : Nat) (s : State), 6 ≤ s.gain p) ∧
    (∃ (g : Nat) (s : State), (s.groupPorts g).any s.onAir = false) ∧
    (∃ (p : Nat) (sec : Nat) (s : State), p < 32 ∧ sec < s.now.s ∧ Tab.get (fun _ => 0) (s.port p).runs sec ≠ 0 ∧
      2 * Tab.get (fun _ => 0) (s.port p).runs sec ≤ runsPerWindow ∧
      (∀ b, (s.ring p).blocks.getLast? = some b → (sec + 1) * 10 ^ 9 ≤ stampNs b.t0 + 2048000)) ∧
    (∃ (p : Nat) (sec : Nat) (s : State), p < 32 ∧ sec < s.now.s ∧ runsPerWindow < 2 * Tab.get (fun _ => 0) (s.port p).runs sec ∧
      (∀ b, (s.ring p).blocks.getLast? = some b → (sec + 1) * 10 ^ 9 ≤ stampNs b.t0 + 2048000)) ∧
    (∃ (p : Nat) (mv : Nat) (who : Who) (s : State), s.readable who .LP_ISENSE p = true) ∧
    (∃ (p : Nat) (mv : Nat) (who : Who) (s : State), s.readable who .LP_ISENSE p = false) :=
  ⟨⟨0, (net.setReg .LP_RXCFG 0 1).setPortStat 0 4 3 1, by decide⟩,
   ⟨0, (net.setReg .LP_RXCFG 0 1).setPortStat 0 4 3 5, by decide⟩,
   ⟨0, (net.setReg .LP_RXCFG 0 1).setPortStat 0 4 3 0, by decide⟩,
   ⟨0, (net.setReg .LP_RXCFG 0 1).setPortStat 0 4 3 6, by decide⟩,
   ⟨1, net, by decide⟩,
   ⟨0, 0, { net with lin := { net.lin with ports := [(0, { path := 2, runs := [(0, 1)] })] }, cmp := { sec := 1 } }, by decide⟩,
   ⟨0, 0, { net with lin := { net.lin with ports := [(0, { path := 2, runs := [(0, 1000001)] })] }, cmp := { sec := 1 } }, by decide⟩,
   ⟨0, 10, .host, up, by decide⟩,
   ⟨0, 10, .host, State.reset, by decide⟩⟩

/-- States and operands that meet the hypotheses of `FoldbackAndMuting`, clause by clause. -/
theorem witness_FoldbackAndMuting :
    (∃ (p : Nat) (mv : Nat) (s : State), p < 24 ∧ s.onAir p = true ∧ s.fld F.LP_FBCFG_LIM p < mv) ∧
    (∃ (p : Nat) (mv : Nat) (s : State), p < 24 ∧ s.onAir p = true ∧ s.fld F.LP_FBCFG_LIM p < mv ∧ s.foldDb p ≠ 0) ∧
    (∃ (p : Nat) (mv : Nat) (s : State), p < 24 ∧ mv ≤ s.fld F.LP_FBCFG_LIM p) ∧
    (∃ (p : Nat) (mv : Nat) (s : State), p < 24 ∧ s.onAir p = true ∧ s.fld F.LP_FBCFG_ABS p < mv) ∧
    (∃ (p : Nat) (s : State), s.onAir p = true) ∧
    (∃ (p : Nat) (s : State), s.onAir p = false ∧ s.gapHeld p = false) ∧
    (∃ (p : Nat) (s : State), (s.onAir p = true ∨ s.gapHeld p = true)) :=
  ⟨⟨0, 1000, netFrame .running, by decide⟩,
   ⟨0, 1000, (netFrame .running).setPortStat 0 8 8 3, by decide⟩,
   ⟨0, 0, net, by decide⟩,
   ⟨0, 2001, netFrame .running, by decide⟩,
   ⟨0, netFrame .running, by decide⟩,
   ⟨0, net, by decide⟩,
   ⟨0, netFrame .running, by decide⟩⟩

/-- States and operands that meet the hypotheses of `FramesAreScheduledSentAndAcknowledged`, clause by clause. -/
theorem witness_FramesAreScheduledSentAndAcknowledged :
    (∃ (src : Src) (gaddr : Nat) (svc : Nat) (dclass : Nat) (len : Nat) (s : State), s.starts src 0x10 = true) ∧
    (∃ (src : Src) (gaddr : Nat) (svc : Nat) (dclass : Nat) (len : Nat) (a : Nat) (s : State), s.starts src 0x10 = true ∧
      (s.start src).localAddr gaddr = some a ∧ dclass < 2 ∧ len ≠ 0 ∧ (s.start src).associated a = true ∧ 8192 < (s.start src).fbdFree) ∧
    (∃ (id : Nat) (ports : List Nat) (path : Nat) (cycle : Nat) (slot : Nat) (mcs : Nat) (c0 : Nat) (c1 : Nat) (cp : Bool) (s : State) (f : Frame),
      s.frame id = some f ∧ f.state = .waiting ∧ ports ≠ [] ∧
      (s.flag F.MDM_BANDSTAT_TX_OFF f.fg = true ∨ ports.all (s.portTakes path) = false)) ∧
    (∃ (id : Nat) (ports : List Nat) (path : Nat) (cycle : Nat) (slot : Nat) (mcs : Nat) (c0 : Nat) (c1 : Nat) (n : Nat) (cp : Bool) (s : State) (f : Frame) (x : State × Frame),
      s.frame id = some f ∧ f.state = .waiting ∧ ports ≠ [] ∧ s.flag F.MDM_BANDSTAT_TX_OFF f.fg = false ∧
      ports.all (s.portTakes path) = true ∧ isWake f.body = false ∧ s.frameHeld f = false ∧ s.mcsUsable f (s.mcsFor f mcs) = true ∧
      s.shapeOk (s.shaped f ports path cycle slot (s.mcsFor f mcs) c0 c1 cp) = true ∧
      s.giveSeq (s.shaped f ports path cycle slot (s.mcsFor f mcs) c0 c1 cp) = some x ∧ x.1.txNsym x.2 = some n ∧
      x.1.mayPlace (x.1.sized x.2 n) = true) ∧
    (∃ (id : Nat) (ports : List Nat) (path : Nat) (cycle : Nat) (slot : Nat) (mcs : Nat) (form : FrameForm) (s : State) (f : Frame),
      s.frame id = some f ∧ f.state = .waiting ∧ ports ≠ [] ∧ s.flag F.MDM_BANDSTAT_TX_OFF f.fg = false ∧
      ports.all (s.portTakes path) = true ∧ isWake f.body = true ∧ s.frameHeld f = false) ∧
    (∃ (id : Nat) (s : State) (f : Frame), s.frame id = some f ∧ f.state = .scheduled ∧
      (f.dst = 0xFFFF ∨ (s.node f.dst).isSome = true) ∧ f.seq ≠ some 0) ∧
    (∃ (id : Nat) (s : State) (f : Frame), s.frame id = some f ∧ f.state = .scheduled ∧ (s.tracker f.fg).everLocked = true ∧
      (s.tracker f.fg).cyc = f.cycle ∧ (s.tracker f.fg).slot = f.slot ∧ (∀ p ∈ f.ports, s.portOn p = true ∧ (s.port p).path = f.path)) ∧
    (∃ (id : Nat) (s : State) (f : Frame), s.frame id = some f ∧ f.state = .running) ∧
    (∃ (id : Nat) (s : State) (f : Frame), s.frame id = some f ∧ f.state = .sent) ∧
    (∃ (a : Nat) (s : State), Tab.get (fun _ => []) s.mac.acks a ≠ []) :=
  ⟨⟨.queue 0 7, 5, 1, 0, 100, asked net 0x10, by decide⟩,
   ⟨.queue 0 7, 5, 1, 1, 100, 5, asked net 0x10, by decide⟩,
   ⟨1, [0], 2, 0, 0, 5, 13, 60, false, (netFrame .waiting).setFld F.MDM_BANDSTAT_TX_OFF 1 1, frame1 .waiting, by decide⟩,
   ⟨1, [0], 2, 0, 0, 5, 13, 60, _, false, netFrame .waiting, frame1 .waiting, _, by decide, rfl, by decide, by decide, by decide,
     by decide, by decide, by decide, by decide, rfl, rfl, rfl⟩,
   ⟨1, [0], 2, 0, 0, 5, ⟨13, 60, false⟩,
     { net with lin := { net.lin with frames := [{ frame1 .waiting with body := .wakePattern 0xFFFF }] } },
     { frame1 .waiting with body := .wakePattern 0xFFFF }, by decide⟩,
   ⟨1, netFrame .scheduled, frame1 .scheduled, by decide⟩,
   ⟨1, netFrame .scheduled, frame1 .scheduled, by decide⟩,
   ⟨1, netFrame .running, frame1 .running, by decide⟩,
   ⟨1, netFrame .sent, frame1 .sent, by decide⟩,
   ⟨5, { net with mac := { net.mac with acks := [(5, [⟨1, 0, 1, 0⟩])] } }, by decide⟩⟩

/-- States and operands that meet the hypotheses of `TrackersLockCountAndHold`, clause by clause. -/
theorem witness_TrackersLockCountAndHold :
    (∃ (g : Nat) (mhz : Nat) (phase : Nat) (r : Nat) (valid : List Nat) (l : List Nat) (s : State), s.zcUsable g valid = r :: l ∧
      s.zcRuns g = false) ∧
    (∃ (g : Nat) (e : Option Int) (f : Option Nat) (l : Option (Nat × Nat)) (s : State), s.zcRuns g = true) ∧
    (∃ (g : Nat) (s : State), s.zcRuns g = true ∧ s.zcLock g = false) ∧
    (∃ (g : Nat) (s : State), s.zcRuns g = true ∧ (s.tracker g).slot < 11) ∧
    (∃ (g : Nat) (s : State), s.zcLock g = true) ∧
    (∃ (g : Nat) (r : Nat) (valid : List Nat) (l : List Nat) (e : Int) (s : State), s.zcUsable g valid = r :: l ∧ s.zcHold g = true) ∧
    (∃ (g : Nat) (r : Nat) (valid : List Nat) (l : List Nat) (s : State), s.zcLock g = true ∧ s.zcUsable g valid = r :: l ∧
      s.zcRef g ∉ r :: l) ∧
    (∃ (g : Nat) (valid : List Nat) (s : State), s.zcLock g = true ∧ s.zcUsable g valid = []) ∧
    (∃ (g : Nat) (r : Nat) (valid : List Nat) (s : State), s.zcLock g = true ∧ 1 ≤ r ∧ r < s.zcRef g ∧ r ∈ s.zcUsable g valid ∧
      (r = 1 ∨ 1 ∉ s.zcUsable g valid)) ∧
    (∃ (g : Nat) (ofs : Nat) (who : Who) (s : State), s.readable who .LP_ZCPHASE g = true) ∧
    (∃ (g : Nat) (who : Who) (v : Word) (s : State), s.gate who .LP_ZCCFG g = .pass ∧ s.zcLock g = false) ∧
    (∃ (g : Nat) (who : Who) (v : Word) (s : State), s.gate who .LP_ZCCFG g = .pass ∧ s.zcLock g = true ∧
      phaseDiff ((s.store .LP_ZCCFG g v).fld F.LP_ZCCFG_OFS g) (s.fld F.LP_ZCCFG_OFS g) ≠ 0) :=
  ⟨⟨1, 50000, 0, 1, [1], [], net.setFld F.LP_ZCSTAT_LOCK 1 0, by decide⟩,
   ⟨1, none, none, none, net, by decide⟩,
   ⟨1, (net.setFld F.LP_ZCSTAT_LOCK 1 0).setFld F.LP_ZCSTAT_HOLD 1 1, by decide⟩,
   ⟨1, { net with lin := { net.lin with trackers := [(1, { slot := 10 })] } }, by decide⟩,
   ⟨1, net, by decide⟩,
   ⟨1, 1, [1], [], 0, net.setFld F.LP_ZCSTAT_HOLD 1 1, by decide⟩,
   ⟨1, 1, [1], [], net.setFld F.LP_ZCSTAT_REF 1 2, by decide⟩,
   ⟨1, [], net, by decide⟩,
   ⟨1, 1, [1], net.setFld F.LP_ZCSTAT_REF 1 2, by decide⟩,
   ⟨1, 0, .host, up, by decide⟩,
   ⟨1, .host, 0, up, by decide⟩,
   ⟨1, .host, 0x100, net, by decide⟩⟩

end Sys2Proof.Tests
end

