-- ==== Sys2Proof/Tests/Witness2.lean ====
section
/-! SUPPORT. States and operands that meet the hypotheses of the statements 11 to 20. -/

set_option linter.unusedVariables false
set_option maxRecDepth 20000

namespace Sys2Proof.Tests

open Sys2Proof Sys2Proof.Machine

/-- States and operands that meet the hypotheses of `RingsDetectionsAndOpenings`, clause by clause. -/
theorem witness_RingsDetectionsAndOpenings :
    (∃ (p : Nat) (t0 : Stamp) (adc : List (Nat × Int)) (s : State), s.portOn p = true ∧ s.calibrating p = false ∧ p < 32 ∧
      s.blockDue p t0 = true) ∧
    (∃ (p : Nat) (t0 : Stamp) (adc : List (Nat × Int)) (s : State), s.calibrating p = true ∧ p < 32 ∧ s.blockDue p t0 = true) ∧
    (∃ (p : Nat) (t0 : Stamp) (adc : List (Nat × Int)) (s : State), s.wideOn p = true ∧ s.calibrating p = false ∧ p < 32 ∧
      s.blockDue (p + 32) t0 = true) ∧
    (∃ (p : Nat) (t0 : Stamp) (runs : List (Nat × Nat)) (s : State), unitsBefore 4096 runs ≠ 0) ∧
    (∃ (det : Nat) (fg : Nat) (metric : Nat) (power : Nat) (start : Stamp) (std : Bool) (s : State),
      s.detectorRuns det fg std = true ∧ s.detThreshold fg ≤ metric ∧
      (∀ h ∈ s.rx.holdoff, stampNs s.now ≤ h.2.2 → ¬(h.1 = (if std then det + 1024 else det) ∧ near h.2.1 start (mergeNs fg) = true))) ∧
    (∃ (fg : Nat) (eng : Nat) (under : List Nat) (d : Detn) (s : State), s.takesRecep eng = true ∧
      oldestDetn ((s.queuedIn fg).filter fun x => s.flpaOpens fg x.std) = some d ∧ s.openIn fg < slotsOf fg ∧
      s.retained fg d.start = true) ∧
    (∃ (fg : Nat) (eng : Nat) (under : List Nat) (d : Detn) (s : State), s.takesRecep eng = true ∧
      oldestDetn ((s.queuedIn fg).filter fun x => s.flpaOpens fg x.std) = some d ∧ s.openIn fg < slotsOf fg ∧
      s.retained fg d.start = false) ∧
    (∃ (fg : Nat) (eng : Nat) (under : List Nat) (s : State), (s.takesRecep eng = false ∨ slotsOf fg ≤ s.openIn fg)) ∧
    (∃ (id : Nat) (again : Bool) (r : Recep) (s : State), s.recep id = some r ∧ r.wait = .ring ∧ r.need ≤ s.written r.fg) ∧
    (∃ (id : Nat) (again : Bool) (r : Recep) (s : State), s.recep id = some r ∧ s.written r.fg < r.need) ∧
    (∃ (id : Nat) (d : Nat) (r : Recep) (s : State), s.recep id = some r ∧ r.wait = .held d ∧ s.recep d = none) ∧
    (∃ (fg : Nat) (s : State), fg < 8 ∧ s.groupInputs fg = []) :=
  ⟨⟨0, {}, [], { net with cmp := { sec := 1 } }, by decide⟩,
   ⟨0, {}, [], { net with cal := { run := some { set := 1, target := 0 } }, cmp := { sec := 1 } }, by decide⟩,
   ⟨0, {}, [], { net.setReg .LP_RXCFG 0 0x1000 with cmp := { sec := 1 } }, by decide⟩,
   ⟨0, {}, [(0, 0)], net, by decide⟩,
   ⟨0, 1, 65535, 10, {}, false, net, by decide⟩,
   ⟨1, 0, [], { fg := 1, start := {}, metric := 1, power := 1 }, net.setQueued 1 [{ fg := 1, start := {}, metric := 1, power := 1 }],
     by decide⟩,
   ⟨1, 0, [], { fg := 1, start := {}, metric := 1, power := 1 },
     ([0, 3, 4, 5, 25].foldl (fun s r => s.setRing r { since := 1 }) net).setQueued 1 [{ fg := 1, start := {}, metric := 1, power := 1 }],
     by decide⟩,
   ⟨1, 128, [], net, by decide⟩,
   ⟨0, true, recep0 .ring, { net with rx := { open_ := [recep0 .ring] } }, by decide⟩,
   ⟨0, true, { recep0 .ring with need := 1 }, { net with rx := { open_ := [{ recep0 .ring with need := 1 }] } }, by decide⟩,
   ⟨0, 9, recep0 (.held 9), { net with rx := { open_ := [recep0 (.held 9)] } }, by decide⟩,
   ⟨1, up, by decide⟩⟩

/-- States and operands that meet the hypotheses of `RescansRunAndReport`, clause by clause. -/
theorem witness_RescansRunAndReport :
    (∃ (fg : Nat) (src : Nat) (t0 : Stamp) (t1 : Stamp) (b : Bool) (s : State), fg < 8) ∧
    (∃ (who : Who) (v : Word) (s : State), s.gate who .MDM_RESCAN 0 = .pass) ∧
    (∃ (id : Nat) (r : Rescan) (s : State), s.rx.rescans.find? (fun x => x.id == id) = some r ∧ s.rescansRunning r.fg < 4 ∧
      (s.rx.rescans.find? fun x => x.fg == r.fg && !x.running).map Rescan.id = some id ∧ s.rx.hostRescan ≠ some id) ∧
    (∃ (id : Nat) (short : Bool) (r : Rescan) (s : State), s.rx.rescans.find? (fun x => x.id == id) = some r ∧ r.running = true ∧
      s.rx.hostRescan ≠ some id) ∧
    (∃ (id : Nat) (short : Bool) (r : Rescan) (s : State), s.rx.rescans.find? (fun x => x.id == id) = some r ∧ r.running = true ∧
      s.rx.hostRescan = some id) ∧
    (∃ (src : Nat) (harq : Nat) (h : Harq) (s : State), Tab.get (fun _ => none) s.rx.harq (src * 16 + harq) = some h ∧
      stampNs h.first + 30000000000 ≤ stampNs s.now) ∧
    (∃ (who : Who) (s : State), s.readable who .MDM_OLDEST_S 0 = true) :=
  ⟨⟨7, 5, {}, {}, true, up, by decide⟩,
   ⟨.host, 0, up, by decide⟩,
   ⟨3, rescan3 false, { net with rx := { rescans := [rescan3 false] } }, by decide⟩,
   ⟨3, true, rescan3 true, { net with rx := { rescans := [rescan3 true] } }, by decide⟩,
   ⟨3, true, rescan3 true, { net with rx := { rescans := [rescan3 true], hostRescan := some 3 } }, by decide⟩,
   ⟨5, 2, { seq := 1, rate := 0, first := {}, last := {}, parts := 1 },
     { net with rx := { harq := [(82, some { seq := 1, rate := 0, first := {}, last := {}, parts := 1 })] }, cmp := { sec := 30 } },
     by decide⟩,
   ⟨.host, up, by decide⟩⟩

/-- States and operands that meet the hypotheses of `ReceptionsEndWithTheirOutcome`, clause by clause. -/
theorem witness_ReceptionsEndWithTheirOutcome :
    (∃ (id : Nat) (f : RxFrame) (r : Recep) (s : State), s.recep id = some r ∧ r.wait = .none ∧ r.std = false) ∧
    (∃ (r : Recep) (x : RxFrame × Option Int) (s : State), s.retained r.fg r.start = false) ∧
    (∃ (r : Recep) (f : RxFrame) (s : State), s.retained r.fg r.start = true ∧ s.header r f = .fails) ∧
    (∃ (r : Recep) (f : RxFrame) (m : Nat) (s : State), s.retained r.fg r.start = true ∧ s.header r f = .lacks m) ∧
    (∃ (id : Nat) (f : RxFrame) (r : Recep) (s : State), s.recep id = some r ∧ r.wait = .none ∧ r.std = true ∧ s.stdOutcome r f = .ok) ∧
    (∃ (id : Nat) (f : RxFrame) (r : Recep) (s : State), s.recep id = some r ∧ r.wait = .none ∧ r.std = true ∧ s.stdOutcome r f ≠ .ok) ∧
    (∃ (id : Nat) (f : RxFrame) (r : Recep) (s : State), s.recep id = some r ∧ r.wait = .checkpoint f ∧ s.node (sourceOf f) = none) ∧
    (∃ (id : Nat) (f : RxFrame) (r : Recep) (n : Node) (s : State), s.recep id = some r ∧ r.wait = .checkpoint f ∧
      s.node (sourceOf f) = some n ∧ n.seq.ckRx = false) :=
  ⟨⟨0, rxFrame, recep0 .none, { net with rx := { open_ := [recep0 .none] } }, by decide⟩,
   ⟨recep0 .none, (rxFrame, none), ([0, 3, 4, 5, 25].foldl (fun s r => s.setRing r { since := 1 }) net), by decide⟩,
   ⟨recep0 .none, rxFrame, net, by decide⟩,
   ⟨recep0 .none, rxUnmapped, 3, net, by decide⟩,
   ⟨0, rxFrame, { recep0 .none with std := true }, { net with rx := { open_ := [{ recep0 .none with std := true }] } }, by decide⟩,
   ⟨0, { rxFrame with stdCrc := false }, { recep0 .none with std := true },
     { net with rx := { open_ := [{ recep0 .none with std := true }] } }, by decide⟩,
   ⟨0, { rxFrame with src := 6 }, recep0 (.checkpoint { rxFrame with src := 6 }),
     { net with rx := { open_ := [recep0 (.checkpoint { rxFrame with src := 6 })] } }, by decide⟩,
   ⟨0, rxFrame, recep0 (.checkpoint rxFrame), node5, { net with rx := { open_ := [recep0 (.checkpoint rxFrame)] } }, by decide⟩⟩

/-- States and operands that meet the hypotheses of `ChannelRecordsAndToneMaps`, clause by clause. -/
theorem witness_ChannelRecordsAndToneMaps :
    (∃ (i : Nat) (slot : Nat) (r : ChanRec) (s : State), s.chanRec i = some r ∧ slot < 12 ∧
      Tab.get (fun _ => 0) r.aged slot + 2 ^ s.fld F.MDM_MAPCFG_HALF 0 ≤ s.now.s) ∧
    (∃ (g : Nat) (s : State), s.fld F.MDM_SNDCFG_BCAST_IVL 0 ≠ 0 ∧ (s.reg .MAC_BNUM g).toNat % s.fld F.MDM_SNDCFG_BCAST_IVL 0 = 0 ∧
      s.runsFlpa g = true) ∧
    (∃ (a : Nat) (s : State), a ∈ s.maps.soundings) ∧
    (∃ (i : Nat) (slot : Nat) (r : ChanRec) (s : State), s.chanRec i = some r ∧ slot < 12 ∧ recConf r slot < s.confMin ∧
      Tab.get (fun _ => 0) r.weakSince slot + s.fld F.MDM_SNDCFG_STALE_S 0 ≤ s.now.s) ∧
    (∃ (a : Nat) (i : Nat) (r : ChanRec) (s : State), s.recOf a = some (i, r) ∧ s.maps.suspended = false ∧ r.releasing = none ∧
      s.confident r ≠ [] ∧ s.ulForce a = none) ∧
    (∃ (a : Nat) (id : Nat) (m : ToneMap) (t : Stamp) (s : State), (s.ulMaps a).find? (fun m => m.tmid == id) = some m ∧
      m.retired = some t ∧ stampNs t + s.plc.narrowDs * 100000000 ≤ stampNs s.now) ∧
    (∃ (a : Nat) (id : Nat) (rate : Nat) (lo : Nat) (hi : Nat) (two : Bool) (codes : List (Nat × Nat)) (n : Node) (s : State),
      s.associated a = true ∧ (s.recOf a).isSome = true ∧ s.maps.suspended = false ∧ (∀ p ∈ codes, p.2 ≠ 7) ∧ s.node a = some n) ∧
    (∃ (a : Nat) (id : Nat) (rate : Nat) (lo : Nat) (hi : Nat) (two : Bool) (codes : List (Nat × Nat)) (s : State),
      (∃ p ∈ codes, p.2 = 7)) ∧
    (∃ (a : Nat) (lo : Nat) (hi : Nat) (p0 : Nat) (p1 : Nat) (i : Nat) (two : Bool) (snr : List Nat) (r : ChanRec) (s : State),
      s.recOf a = some (i, r) ∧ s.associated a = true ∧ r.txp0 = p0 ∧ r.txp1 = p1) ∧
    (∃ (i : Nat) (acked : Bool) (r : ChanRec) (s : State), s.chanRec i = some r ∧ r.releasing = some 0 ∧
      ((s.setRec i none).dropMaps r.saddr).maps.wanting = []) :=
  ⟨⟨0, 11, rec5, { netRec rec5 with cmp := { sec := 100000 } }, by decide⟩,
   ⟨1, (net.setFld F.MDM_SNDCFG_BCAST_IVL 0 4).setReg .MAC_BNUM 1 8, by decide⟩,
   ⟨5, { net with maps := { soundings := [5] } }, by decide⟩,
   ⟨0, 11, rec5, { netRec rec5 with cmp := { sec := 100000 } }, by decide⟩,
   ⟨5, 0, { rec5 with conf := [(3, 4096)] }, netRec { rec5 with conf := [(3, 4096)] }, by decide⟩,
   ⟨5, 0, map0 (some {}), {}, { net with maps := { ul := [(5, [map0 (some {})])] }, cmp := { sec := 100 } }, by decide⟩,
   ⟨5, 0, 0, 13, 60, false, [], node5, netRec rec5, by decide⟩,
   ⟨5, 0, 0, 13, 60, false, [(0, 7)], up, by decide⟩,
   ⟨5, 13, 60, 0, 0, 0, false, [], rec5, netRec rec5, by decide⟩,
   ⟨0, true, { rec5 with releasing := some 0 }, netRec { rec5 with releasing := some 0 }, by decide⟩⟩

/-- States and operands that meet the hypotheses of `MapCommandsAndBands`, clause by clause. -/
theorem witness_MapCommandsAndBands :
    (∃ (who : Who) (s : State), s.gate who .MDM_MAPCMD 0 = .pass ∧
      (∀ op, (s.setFld F.MDM_MAPCMD_OP 0 op).recOf ((s.setFld F.MDM_MAPCMD_OP 0 op).fld F.MDM_MAPSEL_SADDR 0) = none)) ∧
    (∃ (who : Who) (i : Nat) (r : ChanRec) (s : State) (s1 : State), s.gate who .MDM_MAPCMD 0 = .pass ∧
      s1 = s.setFld F.MDM_MAPCMD_OP 0 1 ∧ s1.recOf (s1.fld F.MDM_MAPSEL_SADDR 0) = some (i, r) ∧ r.pinned = false ∧ s1.pinned < 4096) ∧
    (∃ (who : Who) (i : Nat) (r : ChanRec) (s : State) (s1 : State), s.gate who .MDM_MAPCMD 0 = .pass ∧
      s1 = s.setFld F.MDM_MAPCMD_OP 0 1 ∧ s1.recOf (s1.fld F.MDM_MAPSEL_SADDR 0) = some (i, r) ∧ r.pinned = false ∧ 4096 ≤ s1.pinned) ∧
    (∃ (who : Who) (i : Nat) (r : ChanRec) (s : State) (s1 : State), s.gate who .MDM_MAPCMD 0 = .pass ∧
      s1 = s.setFld F.MDM_MAPCMD_OP 0 2 ∧ s1.recOf (s1.fld F.MDM_MAPSEL_SADDR 0) = some (i, r)) ∧
    (∃ (who : Who) (i : Nat) (r : ChanRec) (s : State) (s1 : State), s.gate who .MDM_MAPCMD 0 = .pass ∧
      s1 = s.setFld F.MDM_MAPCMD_OP 0 3 ∧ s1.recOf (s1.fld F.MDM_MAPSEL_SADDR 0) = some (i, r)) ∧
    (∃ (who : Who) (i : Nat) (r : ChanRec) (s : State) (s1 : State), s.gate who .MDM_MAPCMD 0 = .pass ∧
      s1 = s.setFld F.MDM_MAPCMD_OP 0 4 ∧ s1.recOf (s1.fld F.MDM_MAPSEL_SADDR 0) = some (i, r)) ∧
    (∃ (g : Nat) (who : Who) (v : Word) (w : Word) (s : State), s.gate who .MDM_BANDCFG g = .pass ∧
      w = bandForm (plainWrite .MDM_BANDCFG (s.reg .MDM_BANDCFG g) v)) ∧
    (∃ (g : Nat) (s : State), s.bandInForce g ≠ s.reg .MDM_BANDCFG g) ∧
    (∃ (g : Nat) (s : State), s.bandInForce g = s.reg .MDM_BANDCFG g) ∧
    (∃ (n : Nat) (who : Who) (v : Word) (w : Word) (s : State), s.gate who .MDM_BBNOTCH n = .pass ∧
      w = notchForm (plainWrite .MDM_BBNOTCH (s.reg .MDM_BBNOTCH n) v) ∧ getBits w 31 1 = 0) ∧
    (∃ (n : Nat) (who : Who) (v : Word) (w : Word) (s : State), s.gate who .MDM_BBNOTCH n = .pass ∧
      w = notchForm (plainWrite .MDM_BBNOTCH (s.reg .MDM_BBNOTCH n) v) ∧ getBits w 31 1 = 1 ∧ getBits w 16 9 < getBits w 0 9) ∧
    (∃ (s : State), s.notchesInForce ≠ (List.range 16).map (fun i => s.reg .MDM_BBNOTCH i)) :=
  ⟨⟨.host, net, by decide, fun op => rfl⟩,
   ⟨.host, 0, rec5, (netRec rec5).setFld F.MDM_MAPSEL_SADDR 0 5,
     ((netRec rec5).setFld F.MDM_MAPSEL_SADDR 0 5).setFld F.MDM_MAPCMD_OP 0 1, by decide⟩,
   ⟨.host, 0, rec5, pinnedAll, pinnedAll.setFld F.MDM_MAPCMD_OP 0 1, by decide, rfl, by decide, rfl, by decide⟩,
   ⟨.host, 0, rec5, (netRec rec5).setFld F.MDM_MAPSEL_SADDR 0 5,
     ((netRec rec5).setFld F.MDM_MAPSEL_SADDR 0 5).setFld F.MDM_MAPCMD_OP 0 2, by decide⟩,
   ⟨.host, 0, rec5, (netRec rec5).setFld F.MDM_MAPSEL_SADDR 0 5,
     ((netRec rec5).setFld F.MDM_MAPSEL_SADDR 0 5).setFld F.MDM_MAPCMD_OP 0 3, by decide⟩,
   ⟨.host, 0, rec5, (netRec rec5).setFld F.MDM_MAPSEL_SADDR 0 5,
     ((netRec rec5).setFld F.MDM_MAPSEL_SADDR 0 5).setFld F.MDM_MAPCMD_OP 0 4, by decide⟩,
   ⟨7, .host, 0, 0, up, by decide⟩,
   ⟨1, { net with maps := { bands := [(1, 0x5)] } }, by decide⟩,
   ⟨1, { net with maps := { bands := [(1, net.reg .MDM_BANDCFG 1)] } }, by decide⟩,
   ⟨15, .host, 0, 0, up, by decide⟩,
   ⟨15, .host, 0x80000001, 0x80000001, up, by decide⟩,
   ⟨{ up with maps := { notches := [(0, 0x80000000)] } }, by decide⟩⟩

/-- States and operands that meet the hypotheses of `MemoryStacksAndRingDepths`, clause by clause. -/
theorem witness_MemoryStacksAndRingDepths :
    (∃ (who : Who) (v : Word) (s : State), s.gate who .MDM_RINGCFG 0 = .pass) ∧
    (∃ (v : Word) (s : State), s.gate .host .PIT_MEMRES 0 = .pass) ∧
    (∃ (h : Nat) (page : Nat) (n : Nat) (x : Handle) (s : State), s.handle h = some x ∧ s.stackServes n = true ∧ x.mirror = false ∧
      4096 * page < x.size ∧ s.keepEmber x.slot (.stack n) = .stack n) ∧
    (∃ (n : Nat) (step : Nat) (s : State), n < 4 ∧ s.stackServes n = true ∧ s.stack n = .serving ∧ step ≠ s.step3 n ∧
      s.stepFloor n ≤ step ∧ step ≤ s.stepCeil n ∧ (∀ m, m < 4 → s.stack m ≠ .changing)) ∧
    (∃ (n : Nat) (s : State), s.stack n = .changing) ∧
    (∃ (n : Nat) (s : State), s.stack n = .training) ∧
    (∃ (n : Nat) (s : State), s.stackServes n = true) :=
  ⟨⟨.host, 0, up, by decide⟩,
   ⟨0, up, by decide⟩,
   ⟨70, 0, 1, { size := 4096 }, { net with prog := { handles := [(70, { size := 4096 })] } }, by decide⟩,
   ⟨0, 1, net.setFld F.MEM_CFG_MAXSTEP 0 1, by decide, by decide, by decide, by decide, by decide, by decide,
     fun m h => by interval_cases m <;> decide⟩,
   ⟨3, { net with plc := { hbm := [(3, .changing)] } }, by decide⟩,
   ⟨3, { net with plc := { hbm := [(3, .training)] } }, by decide⟩,
   ⟨0, net, by decide⟩⟩

/-- States and operands that meet the hypotheses of `BeaconsAreSent`, clause by clause. -/
theorem witness_BeaconsAreSent :
    (∃ (g : Nat) (seq : Nat) (es : List Nat) (tp : Nat × Nat × Nat) (s : State), s.netRuns g = true ∧ (s.tracker g).slot = 0 ∧
      beaconDue (Tab.get (fun _ => none) s.mac.beaconAt g) (s.tracker g).cyc = true ∧
      (s.reg .MAC_BNUM g).toNat + 1 < Tab.get (fun _ => 0) s.mac.bnumC g + seqSpan ∧ s.usable 0xFFFF = some seq) ∧
    (∃ (g : Nat) (es : List Nat) (tp : Nat × Nat × Nat) (s : State), s.netRuns g = false) ∧
    (∃ (g : Nat) (es : List Nat) (tp : Nat × Nat × Nat) (s : State), s.usable 0xFFFF = none) ∧
    (∃ (g : Nat) (s : State), s.netRuns g = true ∧ (s.tracker g).slot = 0 ∧ discovers (s.reg .MAC_BCNCFG g) = true ∧
      s.pwr.mode ≠ .ember ∧ (s.reg .MAC_BNUM g).toNat % max 1 (getBits (s.reg .MAC_BCNCFG g) 8 8) = 0 ∧
      (s.reg .MAC_BNUM g).toNat ≠ 0 ∧ Tab.get (fun _ => 0) s.mac.disc g ≠ (s.reg .MAC_BNUM g).toNat ∧
      (s.lin.frames.any fun f => f.fg == g && f.state == FrameState.running) = false ∧
      nbOf (s.mains g) (s.reg .MAC_BCNCFG g) true ≤ ivlOf (s.reg .MAC_BCNCFG g)) ∧
    (∃ (g : Nat) (who : Who) (v : Word) (w : Word) (s : State), s.gate who .MAC_BCNCFG g = .pass ∧
      w = bcnForm (plainWrite .MAC_BCNCFG (s.reg .MAC_BCNCFG g) v) ∧ s.bcnAccepted g w = true ∧ ivlOf w = ivlOf (s.reg .MAC_BCNCFG g)) ∧
    (∃ (g : Nat) (who : Who) (v : Word) (w : Word) (s : State), s.gate who .MAC_BCNCFG g = .pass ∧
      w = bcnForm (plainWrite .MAC_BCNCFG (s.reg .MAC_BCNCFG g) v) ∧ s.bcnAccepted g w = false) :=
  ⟨⟨1, 1, [], (0, 0, 0), netB, by decide⟩,
   ⟨1, [], (0, 0, 0), up, by decide⟩,
   ⟨1, [], (0, 0, 0), { up with mac := { bctr := 65536 } }, by decide⟩,
   ⟨1, netB.setReg .MAC_BNUM 1 80, by decide⟩,
   ⟨1, .host, 0xBC0D1040, 0xBC0D1040, netB, by decide⟩,
   ⟨1, .host, 0, 0, netB, by decide⟩⟩

/-- States and operands that meet the hypotheses of `AssociationsBeginConfirmAndEnd`, clause by clause. -/
theorem witness_AssociationsBeginConfirmAndEnd :
    (∃ (g : Nat) (eui : Nat) (nn : Nat) (cap : Nat) (drift : Nat) (a : Nat) (zc : Int) (s : State),
      s.flag F.MAC_BCNCFG_ASSOC_OPEN g = true ∧ s.pwr.mode ≠ .ember ∧ s.runsFlpa g = true ∧
      Tab.get (fun _ => none) s.mac.prov eui = some true ∧ s.pendingIn g < 64 ∧ s.addrFor eui = some a) ∧
    (∃ (g : Nat) (eui : Nat) (nn : Nat) (cap : Nat) (drift : Nat) (zc : Int) (s : State), s.flag F.MAC_BCNCFG_ASSOC_OPEN g = true ∧
      s.pwr.mode ≠ .ember ∧ s.runsFlpa g = true ∧ Tab.get (fun _ => none) s.mac.prov eui ≠ some true) ∧
    (∃ (g : Nat) (eui : Nat) (nn : Nat) (cap : Nat) (drift : Nat) (zc : Int) (s : State), s.flag F.MAC_BCNCFG_ASSOC_OPEN g = true ∧
      s.pwr.mode ≠ .ember ∧ s.runsFlpa g = true ∧ Tab.get (fun _ => none) s.mac.prov eui = some true ∧ 64 ≤ s.pendingIn g ∧
      s.addrOf eui = none) ∧
    (∃ (g : Nat) (eui : Nat) (nn : Nat) (cap : Nat) (drift : Nat) (zc : Int) (s : State), s.flag F.MAC_BCNCFG_ASSOC_OPEN g = false) ∧
    (∃ (a : Nat) (n : Node) (j : Joining) (s : State), s.node a = some n ∧ n.assoc = some j ∧
      j.bnum + 8 ≤ (s.reg .MAC_BNUM j.fg).toNat) ∧
    (∃ (a : Nat) (g : Nat) (nn : Nat) (nm : Nat) (n : Node) (j : Joining) (s : State), s.node a = some n ∧ n.assoc = some j ∧
      j.nn = nn ∧ j.nm = nm ∧ s.pwr.mode ≠ .ember) ∧
    (∃ (n : Node) (j : Joining) (s : State), s.node 5 = some n ∧ n.assoc = some j ∧ j.nn = 1 ∧ s.pwr.mode ≠ .ember ∧ s.rollAt 1 = none) ∧
    (∃ (a : Nat) (q : Nat × Nat × Nat) (s : State), s.quarantine a = some q ∧ q.2.2 = 0) ∧
    (∃ (a : Nat) (r : Nat) (s : State), r ≤ 3 ∧ s.associated a = true) ∧
    (∃ (a : Nat) (r : Nat) (s : State), (3 < r ∨ s.associated a = false)) ∧
    (∃ (a : Nat) (seq : Nat) (harq : Nat) (txn : Nat) (ack : Bool) (s : State), s.associated a = true) :=
  ⟨⟨1, 9, 1, 0, 0, 5, 0, assocNet [(9, some true)], by decide⟩,
   ⟨1, 9, 1, 0, 0, 0, assocNet [], by decide⟩,
   ⟨1, 4000, 1, 0, 0, 0, assocFull, by decide⟩,
   ⟨1, 9, 1, 0, 0, 0, up.setFld F.MAC_BCNCFG_ASSOC_OPEN 1 0, by decide⟩,
   ⟨5, { node5 with assoc := some join5 }, join5, (netNode { node5 with assoc := some join5 }).setReg .MAC_BNUM 1 8, by decide⟩,
   ⟨5, 1, 1, 2, { node5 with assoc := some join5 }, join5, netNode { node5 with assoc := some join5 }, by decide⟩,
   ⟨{ node5 with assoc := some join5 }, join5, netNode { node5 with assoc := some join5 }, by decide⟩,
   ⟨5, (9, 1, 0), { net with mac := { net.mac with quar := [(5, some (9, 1, 0))] } }, by decide⟩,
   ⟨5, 3, net, by decide⟩,
   ⟨5, 4, net, by decide⟩,
   ⟨5, 1, 0, 0, true, net, by decide⟩⟩

/-- States and operands that meet the hypotheses of `NodeCommandsAnswerTheirResult`, clause by clause. -/
theorem witness_NodeCommandsAnswerTheirResult :
    (∃ (who : Who) (s : State), s.gate who .MAC_NODECMD 0 = .pass ∧ s.pwr.mode = .ember) ∧
    (∃ (who : Who) (s : State) (a : Nat), s.gate who .MAC_NODECMD 0 = .pass ∧ s.pwr.mode ≠ .ember ∧ s.fld F.MAC_NODESEL_SADDR 0 = a ∧
      s.node a = none) ∧
    (∃ (who : Who) (s : State) (a : Nat) (n : Node), s.gate who .MAC_NODECMD 0 = .pass ∧ s.pwr.mode ≠ .ember ∧
      s.fld F.MAC_NODESEL_SADDR 0 = a ∧ s.node a = some n) ∧
    (∃ (who : Who) (s : State) (a : Nat) (n : Node), s.gate who .MAC_NODECMD 0 = .pass ∧ s.pwr.mode ≠ .ember ∧
      s.fld F.MAC_NODESEL_SADDR 0 = a ∧ s.node a = some n ∧ n.rdv.isSome = true) ∧
    (∃ (who : Who) (s : State) (a : Nat) (n : Node), s.gate who .MAC_NODECMD 0 = .pass ∧ s.pwr.mode ≠ .ember ∧
      s.fld F.MAC_NODESEL_SADDR 0 = a ∧ s.node a = some n ∧ n.rdv = none) ∧
    (∃ (who : Who) (s : State), s.gate who .MAC_NODECMD 0 = .pass ∧ s.pwr.mode ≠ .ember) ∧
    (∃ (g : Nat) (b : Nat) (l : Tab Nat) (s : State), s.mac.roll = some l ∧ s.rollAt g = some b ∧ b ≠ 1 ∧
      b ≤ (s.reg .MAC_BNUM g).toNat + 1) ∧
    (∃ (src : Src) (eui : Nat) (s : State), s.starts src 0x21 = true ∧ Tab.get (fun _ => none) (s.start src).mac.prov eui = none) ∧
    (∃ (src : Src) (eui : Nat) (b : Bool) (s : State) (s2 : State), s.starts src 0x21 = true ∧
      Tab.get (fun _ => none) (s.start src).mac.prov eui = some b ∧
      s2 = { s.start src with mac := { (s.start src).mac with prov := Tab.set (fun _ => none) (s.start src).mac.prov eui none } } ∧
      s2.addrOf eui = none) :=
  ⟨⟨.host, inMode .ember, by decide⟩,
   ⟨.host, net.setFld F.MAC_NODESEL_SADDR 0 6, 6, by decide⟩,
   ⟨.host, net.setFld F.MAC_NODESEL_SADDR 0 5, 5, node5, by decide⟩,
   ⟨.host, (netNode { node5 with rdv := some ⟨0, 0, 0, 0, 0, 0⟩ }).setFld F.MAC_NODESEL_SADDR 0 5, 5,
     { node5 with rdv := some ⟨0, 0, 0, 0, 0, 0⟩ }, by decide⟩,
   ⟨.host, net.setFld F.MAC_NODESEL_SADDR 0 5, 5, node5, by decide⟩,
   ⟨.host, net, by decide⟩,
   ⟨1, 5, [(1, 5)], { net.setReg .MAC_BNUM 1 4 with mac := { net.mac with roll := some [(1, 5)] } }, by decide⟩,
   ⟨.queue 0 7, 44, asked net 0x21, by decide⟩,
   ⟨.queue 0 7, 44, true, asked provNet 0x21,
     { (asked provNet 0x21).start (.queue 0 7) with mac := { ((asked provNet 0x21).start (.queue 0 7)).mac with prov := Tab.set (fun _ => none) ((asked provNet 0x21).start (.queue 0 7)).mac.prov 44 none } },
     by decide, by decide, rfl, by decide⟩⟩

/-- States and operands that meet the hypotheses of `NodesSleepWakeAndAreRouted`, clause by clause. -/
theorem witness_NodesSleepWakeAndAreRouted :
    (∃ (a : Nat) (drift : Nat) (px : Nat) (qx : Nat) (n : Node) (x : Nat × Nat × Nat) (y : Nat × Nat × Nat) (s : State),
      s.node a = some n ∧ isAssociated n = true ∧
      pickSched (s.schedsTaken n.fg a) (min px 8) (Config.freeNat s.free) (Config.freeNat (s.free + 1)) (2 ^ min px 8) = some x ∧
      pickSched (s.schedsTaken n.fg a) (min qx 8) (Config.freeNat (s.free + 2)) (Config.freeNat (s.free + 3)) (2 ^ min qx 8) = some y ∧
      n.waddr ≠ 0) ∧
    (∃ (a : Nat) (line : Stamp) (zc : Int) (mains : Bool) (n : Node) (s : State), s.node a = some n ∧ isAssociated n = true) ∧
    (∃ (a : Nat) (line : Stamp) (zc : Int) (mains : Bool) (s : State) (t : State), s.associated a = true ∧
      exec (.checkin a line zc mains) s = .next t) ∧
    (∃ (a : Nat) (n : Node) (s : State), s.node a = some n ∧ n.owed = true ∧ n.state = .active ∧ 2 ≤ n.miss) ∧
    (∃ (a : Nat) (n : Node) (s : State), s.node a = some n ∧ n.owed = true ∧ n.state = .active ∧ n.miss < 2 ∧ nodeSleepy n = false) ∧
    (∃ (a : Nat) (n : Node) (s : State), s.node a = some n ∧ n.state = .absent ∧ n.absentFor % 16 = 0 ∧ n.absentFor ≠ n.woken) ∧
    (∃ (a : Nat) (n : Node) (s : State), s.node a = some n ∧ n.state = .absent ∧ s.fld F.MAC_CHKCFG_ABSENT_REL 0 ≠ 0 ∧
      s.fld F.MAC_CHKCFG_ABSENT_REL 0 ≤ n.absentFor) ∧
    (∃ (p : Nat) (chips : BitVec 32) (w : BitVec 16) (s : State), s.pwr.mode = .serve ∧ p < 24 ∧ s.portOn p = true ∧
      1 ≤ s.portRole p ∧ s.portRole p ≤ 3 ∧ wakeAddrOf chips = some w ∧ (w.toNat = 0xFFFF ∨ w.toNat = s.fld F.MAC_WAKEADDR_ADDR 0)) ∧
    (∃ (a : Nat) (gid : Nat) (own : Bool) (n : Node) (s : State), s.node a = some n ∧ (n.grants.any fun g => g.gid == gid) = true) ∧
    (∃ (a : Nat) (gid : Nat) (k : Nat) (span : Nat) (lo : Nat) (hi : Nat) (slot : Nat) (cper : Nat) (cph : Nat) (nmax : Nat) (fromB : Nat) (toB : Nat) (n : Node) (g : Grant) (s : State),
      s.node a = some n ∧ isAssociated n = true ∧ span < 256 ∧ (k = 0 ∨ k = 2) ∧
      g = { gid := gid, kind := k, cgFirst := lo, cgLast := hi, slot := slot, cper := cper, cph := cph, nsymMax := nmax, fromB := fromB, toB := toB, strm := 0 } ∧
      s.grantFits n.fg n g = true ∧ s.bestRated n.fg a n g = true ∧ gid < 256 ∧ (n.grants.any fun h => h.gid == gid) = false) ∧
    (∃ (a : Nat) (gid : Nat) (span : Nat) (lo : Nat) (hi : Nat) (slot : Nat) (cper : Nat) (cph : Nat) (nmax : Nat) (fromB : Nat) (toB : Nat) (cap : Nat) (n : Node) (m : ToneMap) (g0 : Grant) (g : Grant) (s : State),
      s.node a = some n ∧ isAssociated n = true ∧ nodeStreams n = true ∧ (s.recOf a).isSome = true ∧ s.ulForce a = some m ∧
      span < 256 ∧
      g0 = { gid := gid, kind := 1, cgFirst := lo, cgLast := hi, slot := slot, cper := cper, cph := cph, nsymMax := nmax, fromB := fromB, toB := toB, strm := 0 } ∧
      cap = s.streamCap n.fg m g0 ∧ cap ≠ 0 ∧
      g = { g0 with strm := streamN (span + 1) cap (streamG (span + 1) cap) * 8 + streamG (span + 1) cap, span := realisedSpan (streamN (span + 1) cap (streamG (span + 1) cap)) (streamG (span + 1) cap) cap } ∧
      s.grantFits n.fg n g = true ∧ s.bestRated n.fg a n g = true ∧ gid < 256 ∧ (n.grants.any fun h => h.gid == gid) = false) ∧
    (∃ (a : Nat) (heard : List (Nat × Nat)) (n : Node) (s : State), s.node a = some n ∧ isAssociated n = true ∧ nodeRelay n = true ∧
      heard.length ≤ 32) ∧
    (∃ (a : Nat) (n : Node) (s : State), s.node a = some n ∧ 3 ≤ n.fails ∧
      (s.setNode a (some { n with fails := 0, tried := n.tried ++ [n.route] })).bestRoute a (n.tried ++ [n.route]) = none) :=
  ⟨⟨5, 0, 0, 0, node5, _, _, net, rfl, by decide, rfl, rfl, by decide⟩,
   ⟨5, {}, 0, true, node5, net, by decide⟩,
   ⟨5, {}, 0, true, net, _, by decide, rfl⟩,
   ⟨5, { node5 with owed := true, miss := 2 }, netNode { node5 with owed := true, miss := 2 }, by decide⟩,
   ⟨5, { node5 with owed := true, miss := 1 }, netNode { node5 with owed := true, miss := 1 }, by decide⟩,
   ⟨5, { node5 with state := .absent, absentFor := 16 }, netNode { node5 with state := .absent, absentFor := 16 }, by decide⟩,
   ⟨5, { node5 with state := .absent, absentFor := 1 },
     (netNode { node5 with state := .absent, absentFor := 1 }).setFld F.MAC_CHKCFG_ABSENT_REL 0 1, by decide⟩,
   ⟨0, wakeChips, 0xFFFF, net, by decide⟩,
   ⟨5, 3, true,
     { node5 with grants := [{ gid := 3, kind := 0, cgFirst := 13, cgLast := 14, slot := 0, cper := 0, cph := 0, nsymMax := 1, fromB := 0, toB := 0, strm := 0 }] },
     netNode { node5 with grants := [{ gid := 3, kind := 0, cgFirst := 13, cgLast := 14, slot := 0, cper := 0, cph := 0, nsymMax := 1, fromB := 0, toB := 0, strm := 0 }] },
     by decide⟩,
   ⟨5, 0, 0, 1, 13, 14, 11, 8, 63, 512, 0, 0, node5, _, net.setFld F.MAC_BCNCFG_IVL 1 255, by decide, by decide, by decide, by decide,
     rfl, by decide, by decide, by decide, by decide⟩,
   ⟨5, 0, 47, 13, 13, 0, 8, 63, 30, 0, 0, _, nodeStrm, mapStrm, _, _, netStrm.setFld F.MAC_BCNCFG_IVL 1 255, by decide, by decide,
     by decide, by decide, rfl, by decide, rfl, rfl, by decide +kernel, rfl, by decide +kernel, by decide +kernel, by decide,
     by decide⟩,
   ⟨5, [(6, 1)], { node5 with cap := 1 }, netNode { node5 with cap := 1 }, by decide⟩,
   ⟨5, { node5 with fails := 3 }, netNode { node5 with fails := 3 }, by decide⟩⟩

end Sys2Proof.Tests
end

