-- ==== Sys2Proof/Tests/Witness3.lean ====
section
/-! SUPPORT. States and operands that meet the hypotheses of the statements 21 to 30. -/

set_option linter.unusedVariables false
set_option maxRecDepth 20000

namespace Sys2Proof.Tests

open Sys2Proof Sys2Proof.Machine

/-- States and operands that meet the hypotheses of `HandoversFollowTheirMessages`, clause by clause. -/
theorem witness_HandoversFollowTheirMessages :
    (∃ (src : Nat) (mseq : Nat) (eui : Nat) (a : Nat) (seq : SeqState) (o : Offer) (reports : List (Nat × Int)) (s : State),
      s.glOn = true ∧ s.gl.seen.contains (src, mseq) = true ∧ o.giver = src ∧ o.mseq = mseq) ∧
    (∃ (a : Nat) (target : Nat) (n : Node) (s : State), (s.mac.handWait.find? fun w => w.1 == a) = none ∧ s.node a = some n ∧
      n.state = .active ∧ target ≠ s.moduleIndex ∧ Tab.get (fun _ => none) s.plc.pins (s.globalAddr a) = none ∧ s.handsNow < 16 ∧
      s.pwr.mode ≠ .ember ∧ s.glOn = true) ∧
    (∃ (a : Nat) (s : State), s.glOn = true) ∧
    (∃ (a : Nat) (o : Offer) (s : State) (u : State), s.glOn = true ∧ s.gl.seen.contains (o.giver, o.mseq) = false ∧
      u = { s.glAck none o.giver o.mseq with gl := { (s.glAck none o.giver o.mseq).gl with seen := (s.glAck none o.giver o.mseq).gl.seen ++ [(o.giver, o.mseq)] } }) ∧
    (∃ (src : Nat) (mseq : Nat) (eui : Nat) (a : Nat) (h : HandOut) (s : State) (u : State), s.glOn = true ∧
      s.gl.seen.contains (src, mseq) = false ∧
      u = { s.glAck none src mseq with gl := { (s.glAck none src mseq).gl with seen := (s.glAck none src mseq).gl.seen ++ [(src, mseq)] } } ∧
      u.handOutOf eui = some h ∧ h.target = src ∧ h.offered.isSome = true ∧ h.committed = none) ∧
    (∃ (src : Nat) (mseq : Nat) (eui : Nat) (seq : SeqState) (h : HandIn) (s : State) (u : State), s.glOn = true ∧
      s.gl.seen.contains (src, mseq) = false ∧
      u = { s.glAck none src mseq with gl := { (s.glAck none src mseq).gl with seen := (s.glAck none src mseq).gl.seen ++ [(src, mseq)] } } ∧
      u.handInOf eui = some h ∧ h.giver = src ∧ h.pending = true ∧ h.owner = false) ∧
    (∃ (src : Nat) (mseq : Nat) (eui : Nat) (h : HandIn) (s : State) (u : State), s.glOn = true ∧
      s.gl.seen.contains (src, mseq) = false ∧
      u = { s.glAck none src mseq with gl := { (s.glAck none src mseq).gl with seen := (s.glAck none src mseq).gl.seen ++ [(src, mseq)] } } ∧
      u.handInOf eui = some h ∧ h.giver = src ∧ h.owner = false ∧ (u.dropHandIn eui).handOutOf eui = none) ∧
    (∃ (a : Nat) (h : HandOut) (t : Stamp) (s : State), (s.mac.handOut.find? fun h => h.saddr == a && !h.landed) = some h ∧
      h.offered = some t ∧ h.committed = none ∧ stampNs t + 1000000000 ≤ stampNs s.now) ∧
    (∃ (eui : Nat) (h : HandIn) (s : State), s.handInOf eui = some h ∧ h.owner = false ∧ stampNs h.since + 10000000000 ≤ stampNs s.now) ∧
    (∃ (eui : Nat) (h : HandIn) (s : State), s.handInOf eui = some h ∧ h.owner = false ∧ h.queried = true) ∧
    (∃ (src : Nat) (mseq : Nat) (eui : Nat) (s : State) (u : State), s.glOn = true ∧ s.gl.seen.contains (src, mseq) = false ∧
      u = { s.glAck none src mseq with gl := { (s.glAck none src mseq).gl with seen := (s.glAck none src mseq).gl.seen ++ [(src, mseq)] } }) ∧
    (∃ (src : Src) (g : Nat) (m : Nat) (pin : Bool) (s : State), s.starts src 0x53 = true ∧
      (s.start src).localAddr (g % 2 ^ 26) = none) ∧
    (∃ (src : Src) (g : Nat) (a : Nat) (pin : Bool) (s : State) (s1 : State), s.starts src 0x53 = true ∧ s1 = s.start src ∧
      s1.localAddr (g % 2 ^ 26) = some a ∧ s1.associated a = true) ∧
    (∃ (src : Nat) (mseq : Nat) (reports : List (Nat × Int)) (s : State) (u : State), s.glOn = true ∧
      s.gl.seen.contains (src, mseq) = false ∧
      u = { s.glAck none src mseq with gl := { (s.glAck none src mseq).gl with seen := (s.glAck none src mseq).gl.seen ++ [(src, mseq)] } }) :=
  ⟨⟨3, 1, 9, 5, {}, offer8, [], { guy with gl := { seen := [(3, 1)] } }, by decide⟩,
   ⟨5, 3, node5, guy, by decide⟩,
   ⟨5, guy, by decide⟩,
   ⟨5, offer8, guy,
     { (guy).glAck none 3 1 with gl := { ((guy).glAck none 3 1).gl with seen := ((guy).glAck none 3 1).gl.seen ++ [(3, 1)] } },
     by decide, by decide, rfl⟩,
   ⟨3, 1, 9, 6, handOut5 (some {}), guyOut (some {}),
     { (guyOut (some {})).glAck none 3 1 with gl := { ((guyOut (some {})).glAck none 3 1).gl with seen := ((guyOut (some {})).glAck none 3 1).gl.seen ++ [(3, 1)] } },
     by decide, by decide, rfl, by decide⟩,
   ⟨3, 1, 8, {}, handIn5 true false, guyIn true false,
     { (guyIn true false).glAck none 3 1 with gl := { ((guyIn true false).glAck none 3 1).gl with seen := ((guyIn true false).glAck none 3 1).gl.seen ++ [(3, 1)] } },
     by decide, by decide, rfl, by decide⟩,
   ⟨3, 1, 8, handIn5 true false, guyIn true false,
     { (guyIn true false).glAck none 3 1 with gl := { ((guyIn true false).glAck none 3 1).gl with seen := ((guyIn true false).glAck none 3 1).gl.seen ++ [(3, 1)] } },
     by decide, by decide, rfl, by decide⟩,
   ⟨5, handOut5 (some {}), {}, guyOut (some {}), by decide⟩,
   ⟨8, handIn5 true false, guyIn true false, by decide⟩,
   ⟨8, handIn5 true true, guyIn true true, by decide⟩,
   ⟨3, 1, 8, guy,
     { (guy).glAck none 3 1 with gl := { ((guy).glAck none 3 1).gl with seen := ((guy).glAck none 3 1).gl.seen ++ [(3, 1)] } },
     by decide, by decide, rfl⟩,
   ⟨.queue 0 7, 0x10005, 3, true, asked net 0x53, by decide⟩,
   ⟨.queue 0 7, 5, 5, true, asked net 0x53, (asked net 0x53).start (.queue 0 7), by decide, rfl, by decide⟩,
   ⟨3, 1, [], guy,
     { (guy).glAck none 3 1 with gl := { ((guy).glAck none 3 1).gl with seen := ((guy).glAck none 3 1).gl.seen ++ [(3, 1)] } },
     by decide, by decide, rfl⟩⟩

/-- States and operands that meet the hypotheses of `LedgerCommandsAndTimers`, clause by clause. -/
theorem witness_LedgerCommandsAndTimers :
    (∃ (src : Src) (g : Nat) (token : Nat) (href : Nat) (deadline : Nat) (want : Bool) (s : State), s.starts src 0x40 = true ∧
      s.minimal = false) ∧
    (∃ (src : Src) (lid : Nat) (s : State), s.starts src 0x41 = true ∧ s.minimal = false) ∧
    (∃ (src : Src) (lid : Nat) (g : Nat) (token : Nat) (href : Nat) (deadline : Nat) (want : Bool) (s : State), s.minimal = true ∧
      s.starts src 0x40 = true) ∧
    (∃ (src : Src) (lid : Nat) (g : Nat) (token : Nat) (href : Nat) (deadline : Nat) (want : Bool) (s : State), s.minimal = true ∧
      s.starts src 0x41 = true) ∧
    (∃ (src : Src) (lid : Nat) (s : State), s.starts src 0x43 = true) ∧
    (∃ (src : Src) (lid : Nat) (e : LEntry) (s : State), s.starts src 0x42 = true ∧ (s.start src).entry lid = some e) ∧
    (∃ (src : Src) (lid : Nat) (s : State), s.starts src 0x42 = true ∧ (s.start src).entry lid = none) ∧
    (∃ (src : Src) (lid : Nat) (s : State), s.starts src 0x44 = true) ∧
    (∃ (w : Waiting) (s : State), s.programmed = some w ∧ w.record.kind = 4) ∧
    (∃ (lid : Nat) (a : Nat) (due : Bool) (e : LEntry) (n : Node) (s : State), s.entry lid = some e ∧ s.localAddr e.gaddr = some a ∧
      s.node a = some n ∧ e.state = .sent ∧ e.sentAt + s.fld F.MAC_LDGCFG_RETRY 0 ≤ s.bnumOf e.gaddr ∧
      tokenNode n (due && s.dueAt n (s.bnumOf e.gaddr)) = true ∧ s.withinWindow e = true ∧ s.lidHeld lid = false) ∧
    (∃ (a : Nat) (lid : Nat) (e : Nat × Nat × Nat × Nat) (s : State), s.associated a = true ∧
      s.lidOfSeq (s.globalAddr a) e.1 = some lid) ∧
    (∃ (lid : Nat) (e : LEntry) (s : State), s.entry lid = some e ∧ e.deadline ≠ 0 ∧ e.deadline ≤ s.now.s ∧
      (e.state = .queued ∨ e.state = .sent)) ∧
    (∃ (lid : Nat) (e : LEntry) (s : State), s.entry lid = some e ∧ e.state = .acked ∧
      e.ackedAt + s.fld F.MAC_LDGCFG_CONF_S 0 ≤ s.now.s) ∧
    (∃ (who : Who) (s : State), s.readable who .MAC_LDG_ACC 0 = true) :=
  ⟨⟨.queue 0 7, 5, 1, 2, 0, true, asked net 0x40, by decide⟩,
   ⟨.queue 0 7, 4, asked net 0x41, by decide⟩,
   ⟨.queue 0 7, 0, 5, 1, 2, 0, true, (asked net 0x40).setFld F.REL_STAT_MINSET 0 1, by decide⟩,
   ⟨.queue 0 7, 0, 5, 1, 2, 0, true, (asked net 0x41).setFld F.REL_STAT_MINSET 0 1, by decide⟩,
   ⟨.queue 0 7, 4, asked net 0x43, by decide⟩,
   ⟨.queue 0 7, 4, entry5 .queued, asked (ledger .queued) 0x42, by decide⟩,
   ⟨.queue 0 7, 4, asked net 0x42, by decide⟩,
   ⟨.queue 0 7, 4, asked net 0x44, by decide⟩,
   ⟨{ record := { kind := 4, payload := .ledger [] }, prio := 0, done := 1 }, landed 4 (.ledger []), by decide⟩,
   ⟨4, 5, true, entry5 .sent, node5, (ledger .sent).setReg .MAC_BNUM 1 255, by decide⟩,
   ⟨5, 4, (1, 0, 0, 0), ledger .sent, by decide⟩,
   ⟨4, entry5 .queued, ledger .queued, by decide⟩,
   ⟨4, entry5 .acked, { ledger .acked with cmp := { sec := 900 } }, by decide⟩,
   ⟨.host, up, by decide⟩⟩

/-- States and operands that meet the hypotheses of `DescriptorsWaitAndReturn`, clause by clause. -/
theorem witness_DescriptorsWaitAndReturn :
    (∃ (src : Nat) (seq : Nat) (w : FbdWait) (s : State) (s2 : State),
      (s.mac.fbdWait.find? fun w => w.src == src && w.seq == seq) = some w ∧
      s2 = (({ s with mac := { s.mac with fbdWait := s.mac.fbdWait.erase w } }).oweAck w.src w.ackReq false { seq := w.seq, harq := w.harq, result := 1, txn := w.txn }).setFld F.MAC_FBD_DROP 0 1 ∧
      stampNs w.since + 50000000 ≤ stampNs s.now) ∧
    (∃ (i : Nat) (l : List Nat) (s : State) (s2 : State), s.hst.retRing = i :: l ∧ i ∈ s.mac.hostFbds ∧
      s2 = { s with hst := { s.hst with retRing := l }, mac := { s.mac with hostFbds := s.mac.hostFbds.filter fun x => x != i } }) ∧
    (∃ (i : Nat) (l : List Nat) (s : State), s.hst.retRing = i :: l ∧ i ∉ s.mac.hostFbds) ∧
    (∃ (s : State), s.hst.retRing = []) :=
  ⟨⟨5, 1, _, { net with mac := { net.mac with fbdWait := [⟨5, {}, 1, 100, 1, 1, true, 0, 0, {}⟩] }, cmp := { sec := 1 } }, _, rfl,
     rfl, by decide⟩,
   ⟨9, [], { net with hst := { retRing := [9] }, mac := { hostFbds := [9] } }, _, by decide, by decide, rfl⟩,
   ⟨9, [], { net with hst := { retRing := [9] } }, by decide⟩,
   ⟨up, by decide⟩⟩

/-- States and operands that meet the hypotheses of `SweepsAndBaselinesAreTaken`, clause by clause. -/
theorem witness_SweepsAndBaselinesAreTaken :
    (∃ (p : Nat) (bins : List (Int × Int)) (full : Bool) (folded : Bool) (s : State), p < 24 ∧ s.sweepTurn (s.portFg p) = some p ∧
      (s.lvPort p = true → profileSweeps (bandOf (s.bandInForce (s.portFg p))).profile = true)) ∧
    (∃ (p : Nat) (bins : List (Int × Int)) (full : Bool) (folded : Bool) (s : State), s.sweepTurn (s.portFg p) ≠ some p) ∧
    (∃ (who : Who) (bins : List (Int × Int)) (folded : Bool) (s : State), s.gate who .MDM_FMCMD 0 = .pass ∧ s.pwr.mode = .ember) ∧
    (∃ (who : Who) (bins : List (Int × Int)) (folded : Bool) (p : Nat) (s : State) (s1 : State), s.gate who .MDM_FMCMD 0 = .pass ∧
      s.pwr.mode ≠ .ember ∧ s1 = s.setFld F.MDM_FMCMD_OP 0 1 ∧ p = (s.reg .MDM_FMARG 0).toNat % 32 ∧ p < 24 ∧
      s1.sweepRefused p = false ∧ s1.portOn p = true ∧ s1.calHolds p = false ∧ s1.onAir p = false) ∧
    (∃ (who : Who) (p : Nat) (s : State) (s1 : State), s.gate who .MDM_FMCMD 0 = .pass ∧ s.pwr.mode ≠ .ember ∧
      s1 = s.setFld F.MDM_FMCMD_OP 0 2 ∧ p = (s.reg .MDM_FMARG 0).toNat % 32 ∧ p < 24 ∧ s1.sweepRefused p = false ∧
      s1.portOn p = true ∧ s1.calHolds p = false) ∧
    (∃ (who : Who) (p : Nat) (s : State) (s1 : State), s.gate who .MDM_FMCMD 0 = .pass ∧ s.pwr.mode ≠ .ember ∧
      s1 = s.setFld F.MDM_FMCMD_OP 0 2 ∧ p = (s.reg .MDM_FMARG 0).toNat % 32 ∧ 24 ≤ p) ∧
    (∃ (who : Who) (p : Nat) (s : State) (s1 : State), s.gate who .MDM_FMCMD 0 = .pass ∧ s.pwr.mode ≠ .ember ∧
      s1 = s.setFld F.MDM_FMCMD_OP 0 2 ∧ p = (s.reg .MDM_FMARG 0).toNat % 32 ∧ p < 24 ∧ s1.sweepRefused p = true) ∧
    (∃ (who : Who) (s : State) (s1 : State), s.gate who .MDM_FMCMD 0 = .pass ∧ s.pwr.mode ≠ .ember ∧ s1 = s.setFld F.MDM_FMCMD_OP 0 3) ∧
    (∃ (who : Who) (h : Nat) (s : State) (s1 : State), s.gate who .MDM_FMCMD 0 = .pass ∧ s.pwr.mode ≠ .ember ∧
      s1 = s.setFld F.MDM_FMCMD_OP 0 4 ∧ h = (s.reg .MDM_FMARG 0).toNat) :=
  ⟨⟨0, [], true, false, netW, by decide⟩,
   ⟨0, [], true, false, net, by decide⟩,
   ⟨.host, [], false, inMode .ember, by decide⟩,
   ⟨.host, [], false, 0, netW, _, by decide, by decide, rfl, by decide⟩,
   ⟨.host, 0, netW, _, by decide, by decide, rfl, by decide⟩,
   ⟨.host, 24, up.setReg .MDM_FMARG 0 24, _, by decide, by decide, rfl, by decide⟩,
   ⟨.host, 0, up, _, by decide, by decide, rfl, by decide⟩,
   ⟨.host, up, _, by decide, by decide, rfl⟩,
   ⟨.host, 0, up, _, by decide, by decide, rfl, rfl⟩⟩

/-- States and operands that meet the hypotheses of `RangingAndBalanceProceed`, clause by clause. -/
theorem witness_RangingAndBalanceProceed :
    (∃ (a : Nat) (rid : Nat) (turn : Nat) (req : Stamp) (ack : Stamp) (eps : Int) (x : RangeSet) (e : Exchange) (s : State),
      s.ranging a = some x ∧ x.open_.find? (fun e => e.rid == rid) = some e ∧ e.req = some req ∧ e.ack = some (ack, eps)) ∧
    (∃ (a : Nat) (rid : Nat) (x : RangeSet) (n : Node) (e : Exchange) (s : State), s.ranging a = some x ∧ s.node a = some n ∧
      x.open_.find? (fun e => e.rid == rid) = some e) ∧
    (∃ (pair : Nat) (n : Nat) (s : State), s.balances = true ∧ pair < 2 ∧ s.pointsOf pair = [n] ∧
      Tab.get (fun _ => none) s.fm.point pair = none) ∧
    (∃ (pair : Nat) (p : Nat) (n : Nat) (sum : Int) (s : State), Tab.get (fun _ => none) s.fm.point pair = some p ∧
      s.balances = true ∧ n ≠ 0 ∧ s.gsClean (2 * pair) = true ∧ s.gsClean (2 * pair + 1) = true ∧ pair ∉ s.fm.spoiled) ∧
    (∃ (a : Nat) (l : List (Nat × Nat × Nat)) (s : State), s.associated a = true ∧ 1 ≤ l.length ∧ l.length ≤ 4 ∧ (∀ r ∈ l, r.1 ≤ 1)) ∧
    (∃ (l : List (Nat × Int × Int)) (s : State) (s1 : State), s.balances = true ∧
      s.fm.began.s + 60 * s.fld F.MDM_BALCFG_MINUTES 0 ≤ s.now.s ∧ s1 = s.drew.balancePoints l) :=
  ⟨⟨5, 1, 7, {}, {}, 0, _, { ex5 with ack := some ({}, 0) },
     { net with fm := { sets := [{ saddr := 5, open_ := [{ ex5 with ack := some ({}, 0) }] }] } }, rfl, by decide, by decide,
     by decide⟩,
   ⟨5, 1, set5, node5, ex5, { net with fm := { sets := [set5] } }, by decide⟩,
   ⟨0, 3, balNet, by decide⟩,
   ⟨0, 3, 1, 0, { balNet with fm := { point := [(0, some 3)] } }, by decide⟩,
   ⟨5, [(1, 2, 3)], net, by decide⟩,
   ⟨[], { balNet with cmp := { sec := 7200 } }, _, by decide, by decide, rfl⟩⟩

/-- States and operands that meet the hypotheses of `GridSenseFollowsItsRegisters`, clause by clause. -/
theorem witness_GridSenseFollowsItsRegisters :
    (∃ (c : Nat) (who : Who) (w : Word) (s : State), s.gate who .GS_CFG c = .pass) ∧
    (∃ (c : Nat) (who : Who) (w : Word) (s : State), s.gate who .GS_XPT c = .pass) ∧
    (∃ (c : Nat) (who : Who) (s : State), s.gate who .GS_CMD c = .pass) ∧
    (∃ (role : Nat) (who : Who) (w : Word) (r : Reg × Nat) (s : State), role ≤ 3 ∧ r = sourceReg role ∧ s.gate who r.1 r.2 = .pass ∧
      sourceMask role (sourceForm role (plainWrite r.1 (s.reg r.1 r.2) w)) &&& s.drivenElse role ≠ 0) ∧
    (∃ (role : Nat) (who : Who) (w : Word) (x : Word) (r : Reg × Nat) (s : State), role ≤ 3 ∧ r = sourceReg role ∧
      s.gate who r.1 r.2 = .pass ∧ x = sourceForm role (plainWrite r.1 (s.reg r.1 r.2) w) ∧
      sourceMask role x &&& s.drivenElse role = 0 ∧ x ≠ s.reg r.1 r.2) ∧
    (∃ (who : Who) (w : Word) (x : Word) (s : State), s.gate who .GS_RET 0 = .pass ∧ x = plainWrite .GS_RET (s.reg .GS_RET 0) w ∧
      x.toNat &&& s.drivenElse 4 = 0 ∧ x ≠ s.reg .GS_RET 0) ∧
    (∃ (c : Nat) (s : State), c < 4 ∧ s.flag F.GS_CFG_EN c = true ∧ s.dom domGs = .on ∧ s.draining domGs = false ∧
      (s.gsCh c).cal = false ∧ s.gsWaits c = true) ∧
    (∃ (c : Nat) (t : Stamp) (raw : Nat) (cjt : Nat) (v : Word × Bool) (s : State) (s1 : State), s1 = s.setFld F.GS_CJT_TEMP 0 cjt ∧
      v = s1.gsValue c raw ∧ c < 4 ∧ (s.gsCh c).on = true ∧ s.dom domGs = .on ∧ (s.gsCh c).cal = false) ∧
    (∃ (c : Nat) (s : State), (s.gsCh c).on = true ∧ (s.flag F.GS_CFG_EN c = false ∨ s.draining domGs = true)) :=
  ⟨⟨31, .host, 0, up, by decide⟩,
   ⟨31, .host, 0, up, by decide⟩,
   ⟨31, .host, up, by decide⟩,
   ⟨0, .host, 0x80000001, _, up.setReg .GS_RET 0 1, by decide, rfl, by decide⟩,
   ⟨0, .host, 0x80000001, _, _, up, by decide, rfl, by decide, rfl, by decide⟩,
   ⟨.host, 2, _, up, by decide, rfl, by decide⟩,
   ⟨3, up.setFld F.GS_CFG_EN 3 1, by decide⟩,
   ⟨3, {}, 5, 0, _, { up with gs := [(3, { on := true })] }, _, rfl, rfl, by decide⟩,
   ⟨3, { up with gs := [(3, { on := true })] }, by decide⟩⟩

/-- States and operands that meet the hypotheses of `CalibrationsRunAndLand`, clause by clause. -/
theorem witness_CalibrationsRunAndLand :
    (∃ (who : Who) (w : Word) (set : Nat) (target : Nat) (s : State) (s1 : State) (s2 : State) (st : _),
      s.gate who .CAL_CMD 0 = .pass ∧ s1 = s.store .CAL_CMD 0 w ∧ set = s1.fld F.CAL_CMD_SET 0 ∧ target = s1.fld F.CAL_CMD_TARGET 0 ∧
      s2 = (s1.setFld F.CAL_STAT_SET 0 set).setFld F.CAL_STAT_TARGET 0 target ∧ s2.calRefusal set target = some st) ∧
    (∃ (who : Who) (w : Word) (set : Nat) (target : Nat) (s : State) (s1 : State) (s2 : State), s.gate who .CAL_CMD 0 = .pass ∧
      s1 = s.store .CAL_CMD 0 w ∧ set = s1.fld F.CAL_CMD_SET 0 ∧ target = s1.fld F.CAL_CMD_TARGET 0 ∧
      s2 = (s1.setFld F.CAL_STAT_SET 0 set).setFld F.CAL_STAT_TARGET 0 target ∧ s2.calRefusal set target = none) ∧
    (∃ (set : Nat) (target : Nat) (l : List (Nat × Nat)) (s : State), s.cal.run = none ∧ s.cal.queue = (set, target) :: l ∧ set = 1 ∧
      s.onAir target = true) ∧
    (∃ (target : Nat) (l : List (Nat × Nat)) (s : State), s.cal.run = none ∧ s.cal.queue = (0, target) :: l ∧ s.dom domGs ≠ .off) ∧
    (∃ (target : Nat) (l : List (Nat × Nat)) (s : State), s.cal.run = none ∧ s.cal.queue = (2, target) :: l ∧ s.dom domGs ≠ .off) ∧
    (∃ (target : Nat) (l : List (Nat × Nat)) (s : State), s.cal.run = none ∧ s.cal.queue = (1, target) :: l ∧
      s.onlyPort target = true ∧ s.spanRoom (s.portFg target) = false) ∧
    (∃ (m : List (Int × Int)) (r : CalRun) (s : State), s.cal.run = some r ∧ r.phase = .measuring ∧
      m.length = (calKinds r.set r.target).length ∧ s.calVerdict (calKinds r.set r.target) m = .ok) ∧
    (∃ (m : List (Int × Int)) (r : CalRun) (s : State) (s1 : State), s.cal.run = some r ∧ r.phase = .measuring ∧
      m.length = (calKinds r.set r.target).length ∧ s.calVerdict (calKinds r.set r.target) m = .calDisagree ∧
      s1 = s.calOutcome r.set r.target .calDisagree) ∧
    (∃ (r : CalRun) (s : State), s.cal.run = some r ∧ r.phase = .returning) ∧
    (∃ (s : State), s.pwr.mode = .ember) ∧
    (∃ (r : CalRun) (s : State), s.pwr.mode ≠ .ember ∧ s.cal.run = some r ∧ s.draining domGs = true ∧ r.phase ≠ .returning) ∧
    (∃ (set : Nat) (who : Who) (s : State), s.readable who .CAL_LAST_S set = true) ∧
    (∃ (w : Waiting) (s : State), s.programmed = some w ∧ w.record.kind = 2) :=
  ⟨⟨.host, 0x300, _, _, up, _, _, .denied, by decide, rfl, rfl, rfl, rfl, by decide⟩,
   ⟨.host, 0, _, _, up, _, _, by decide, rfl, rfl, rfl, rfl, rfl⟩,
   ⟨1, 0, [], { netFrame .running with cal := { queue := [(1, 0)] } }, by decide⟩,
   ⟨0, [], { up with cal := { queue := [(0, 0)] } }, by decide⟩,
   ⟨0, [], { up with cal := { queue := [(2, 0)] } }, by decide⟩,
   ⟨0, [], { netW with cal := { queue := [(1, 0)] }, mac := { netW.mac with beaconAt := [(1, some 100)], ivl := [(1, 100)] } },
     by decide⟩,
   ⟨[(2500000000, 2500000000), (500000000, 500000000)], calRun .measuring, calNet .measuring, by decide⟩,
   ⟨(calKinds 0 0).map fun _ => (0, 100000000), calRun .measuring, calNet .measuring, _, by decide, by decide, by decide, by decide,
     rfl⟩,
   ⟨calRun .returning, calNet .returning, by decide⟩,
   ⟨inMode .ember, by decide⟩,
   ⟨calRun .measuring, { calNet .measuring with units := { drains := [(domGs, some { why := .host })] } }, by decide⟩,
   ⟨2, .host, up, by decide⟩,
   ⟨{ record := { kind := 2, payload := .baseline 0 0 }, prio := 0, done := 1 }, landed 2 (.baseline 0 0), by decide⟩⟩

/-- States and operands that meet the hypotheses of `BedrollRecordsAreWritten`, clause by clause. -/
theorem witness_BedrollRecordsAreWritten :
    (∃ (kind : Nat) (key : Nat) (key2 : Nat) (pieces : Nat) (p : Payload) (s : State), 1 ≤ kind ∧ kind ≤ 8 ∧ 1 ≤ pieces ∧ pieces ≤ 5) ∧
    (∃ (w : Waiting) (s : State), s.programmed = none ∧ bestWaiting s.bed.waiting = some w) ∧
    (∃ (w : Waiting) (s : State), s.programmed = some w) ∧
    (∃ (w : Waiting) (k : Nat) (s : State) (s1 : State), s.programmed = none ∧ bestWaiting s.bed.waiting = some w ∧
      diesOf w.record.kind = [0] ∧ k = s.openSeg 0 ∧ s1 = (s.drew.setSeg k { s.seg k with state := .bad }).openFresh 0) ∧
    (∃ (k : Nat) (s : State), s.mayCompact = true ∧ s.compactionDue = true ∧ s.bestVictim s.bed.segs = some k) ∧
    (∃ (k : Nat) (s : State), s.bed.victim = some k ∧ s.bed.copies = 0 ∧ s.pwr.mode = .serve) ∧
    (∃ (k : Nat) (s : State), s.bed.victim = some k ∧ s.bed.copies ≠ 0) ∧
    (∃ (seg : Nat) (age : Nat) (corrected : Nat) (s : State), (s.seg seg).state = .closed ∧
      (s.fld F.BED_CFG_REFRESH_D 0 ≤ age ∨ 24 < corrected) ∧ s.mayCompact = true) ∧
    (∃ (rseq : Nat) (r : JRec) (a : Nat) (b : Nat) (s : State) (s1 : State), s.bed.records.find? (fun r => r.rseq == rseq) = some r ∧
      s.injected 9 = false ∧ r.payload = .baseline a b ∧ s1 = s.countDetectionAt 9 pageBed rseq) ∧
    (∃ (w : Word) (s : State) (s1 : State), s.gate .host .BED_CMD 0 = .pass ∧ s1 = s.setFld F.BED_CMD_OP 0 (getBits w 0 3) ∧
      s.pwr.mode = .ember) ∧
    (∃ (w : Word) (s : State) (s1 : State) (t : _), s.gate .host .BED_CMD 0 = .pass ∧ s1 = s.setFld F.BED_CMD_OP 0 (getBits w 0 3) ∧
      s.pwr.mode ≠ .ember ∧ s.bed.lastSave = some t ∧ s.cmp.sec < t + 60) ∧
    (∃ (w : Word) (s : State) (s1 : State) (s2 : _), s.gate .host .BED_CMD 0 = .pass ∧ s1 = s.setFld F.BED_CMD_OP 0 (getBits w 0 3) ∧
      s.pwr.mode ≠ .ember ∧ s.bed.lastSave = none ∧ s2 = (s1.setFld F.BED_CMD_RESULT 0 1).submit 1 0 0 (.registers s.regImage) 1) ∧
    (∃ (w : Word) (s : State) (s1 : State), s.gate .host .BED_CMD 0 = .pass ∧ s1 = s.setFld F.BED_CMD_OP 0 (getBits w 0 3) ∧
      s.pwr.mode ≠ .ember) :=
  ⟨⟨8, 0, 0, 5, .baseline 0 0, up, by decide⟩,
   ⟨wait1, { up with bed := { waiting := [wait1] } }, by decide⟩,
   ⟨{ record := { kind := 2, payload := .baseline 0 0 }, prio := 0, done := 1 }, landed 2 (.baseline 0 0), by decide⟩,
   ⟨{ record := { kind := 1, payload := .registers [], rseq := 6 }, prio := 0 }, _,
     { up with bed := { waiting := [{ record := { kind := 1, payload := .registers [], rseq := 6 }, prio := 0 }] } }, _, by decide,
     rfl, by decide, rfl, rfl⟩,
   ⟨2,
     { up.setFld F.BED_CFG_FREE_MIN 0 0 with bed := { segs := (List.range 1537).map fun k => (k + 2, { state := if k = 0 then .closed else .opened, live := true }) } },
     by decide⟩,
   ⟨2, { up with bed := { victim := some 2 } }, by decide⟩,
   ⟨2, { up with bed := { victim := some 2, copies := 1 } }, by decide⟩,
   ⟨2, 0, 25, { up with bed := { segs := [(2, { state := .closed })] } }, by decide⟩,
   ⟨6, wait1.record, 0, 0, { up with bed := { records := [wait1.record] } }, _, by decide, by decide, by decide, rfl⟩,
   ⟨1, inMode .ember, _, by decide, rfl, by decide⟩,
   ⟨1, { up with bed := { lastSave := some 0 } }, _, 0, by decide, rfl, by decide⟩,
   ⟨1, up, _, _, by decide, rfl, by decide, by decide, rfl⟩,
   ⟨2, up, _, by decide, rfl, by decide⟩⟩

/-- States and operands that meet the hypotheses of `FabricTagsCreditsAndFaults`, clause by clause. -/
theorem witness_FabricTagsCreditsAndFaults :
    (∃ (init : Nat) (k : Nat) (s : State) (s1 : State), s.hasTag init = true ∧
      s.fab.waiting.find? (fun p => p.1 == init) = some (init, k) ∧
      s1 = { s with fab := { s.fab with waiting := s.fab.waiting.erase (init, k) } }) ∧
    (∃ (init : Nat) (s : State), s.hasTag init = false) ∧
    (∃ (pc : Nat) (x : Txn) (s : State), s.pcBusy pc < 32 ∧ s.stackOpen (pc / 32) = true ∧ s.oldestWaiting pc = some x) ∧
    (∃ (pc : Nat) (s : State), 32 ≤ s.pcBusy pc) ∧
    (∃ (link : Nat) (s : State), s.returning link = 0) ∧
    (∃ (link : Nat) (s : State), 0 < s.returning link) ∧
    (∃ (link : Nat) (x : Txn) (t : List Txn) (u : State), x.left.head? = some link) ∧
    (∃ (link : Nat) (x : Txn) (t : List Txn) (u : State), x.left.head? ≠ some link) ∧
    (∃ (link : Nat) (x : Txn) (u : State), x.reqN - x.moved ≤ u.creditsHeld link) ∧
    (∃ (link : Nat) (x : Txn) (u : State), u.creditsHeld link < x.reqN - x.moved) ∧
    (∃ (who : Who) (s : State), s.readable who .SYS_TAG_FREE 0 = true) :=
  ⟨⟨3, 12, { up with fab := { waiting := [(3, 12)] } }, _, by decide, by decide, rfl⟩,
   ⟨148, up, by decide⟩,
   ⟨0, txn0 false true, { net with fab := { flight := [txn0 false true] } }, by decide⟩,
   ⟨127, { up with fab := { pcBusy := [(127, 32)] } }, by decide⟩,
   ⟨1, up, by decide⟩,
   ⟨1, { up with fab := { returning := [(1, 1)] } }, by decide⟩,
   ⟨1, txn0 false false, [], up, by decide⟩,
   ⟨2, txn0 false false, [], up, by decide⟩,
   ⟨1, txn0 false false, up, by decide⟩,
   ⟨1, txn0 false false, { up with fab := { occupied := [(1, 8)] } }, by decide⟩,
   ⟨.host, up, by decide⟩⟩

/-- States and operands that meet the hypotheses of `CompassFollowsAndSetsTime`, clause by clause. -/
theorem witness_CompassFollowsAndSetsTime :
    (∃ (s : State), s.cmp.running = true) ∧
    (∃ (src : Nat) (o : Int) (tai : Bool) (s : State), s.mayQualify src tai = true ∧ s.longValid src = true) ∧
    (∃ (src : Nat) (o : Int) (tai : Bool) (s : State), s.mayQualify src tai = false) ∧
    (∃ (src : Nat) (o : Int) (tai : Bool) (s : State), s.longValid src = false) ∧
    (∃ (s : State), s.cmp.stepBy = none ∧ s.cmp.stepTo = none) ∧
    (∃ (d : Nat) (s : State), s.cmp.stepBy = some d) ∧
    (∃ (w : Word) (s : State) (s1 : State), s.gate .host .CMP_SETHI 0 = .pass ∧ s1 = s.setFld F.CMP_SETHI_SEC_HI 0 (getBits w 0 16) ∧
      s.setSeconds w * 1000000000 < s.cmpNs ∧ s.cmp.timeSet = true) ∧
    (∃ (w : Word) (s : State) (s1 : State), s.gate .host .CMP_SETHI 0 = .pass ∧ s1 = s.setFld F.CMP_SETHI_SEC_HI 0 (getBits w 0 16) ∧
      s.cmpNs + 1000 < s.setSeconds w * 1000000000) ∧
    (∃ (w : Word) (s : State) (s1 : State), s.gate .host .CMP_SETHI 0 = .pass ∧ s1 = s.setFld F.CMP_SETHI_SEC_HI 0 (getBits w 0 16)) ∧
    (∃ (t : Nat) (s : State), s.cmp.running = true ∧ s.cmp.ppsSet = some t ∧ s.cmp.src = 3) ∧
    (∃ (s : State), s.cmp.running = true ∧ s.cmp.ppsSet = none ∧ s.cmp.src ≠ 3) ∧
    (∃ (t : Nat) (s : State), s.cmp.ppsSet = some t) ∧
    (∃ (p : Nat) (u : Nat) (o : Int) (s : State), s.serves (domEth p) = true ∧ s.flag F.ETH_CFG_EN p = true ∧
      s.flag F.ETH_CFG_PTP p = true ∧ s.cmp.src = p + 1) ∧
    (∃ (p : Nat) (u : Nat) (o : Int) (s : State), s.serves (domEth p) = true ∧ s.flag F.ETH_CFG_EN p = true ∧
      s.flag F.ETH_CFG_PTP p = true ∧ s.cmp.src ≠ p + 1) ∧
    (∃ (e : Nat) (s : State) (s1 : State), s.errorBound = some e ∧ 1000 * s.fld F.CMP_HOLD_LIMIT_US 0 < e ∧ s.cmp.overLimit = false ∧
      s1 = s.setFld F.CMP_STAT_HOLDLIM 0 1) ∧
    (∃ (e : Nat) (s : State), s.errorBound = some e ∧ e ≤ 1000 * s.fld F.CMP_HOLD_LIMIT_US 0) ∧
    (∃ (b : Bool) (s : State), s.flag F.CMP_PPSOUT_EN 0 = true ∧ s.pwr.mode ≠ .off ∧ s.pins.clamped = false ∧
      s.nearNs (if b then 0 else 1000000 * s.fld F.CMP_PPSOUT_WIDTH 0) = true) ∧
    (∃ (s : State), s.hostPath = true) :=
  ⟨⟨up, by decide⟩,
   ⟨4, 0, false, { up with cmp := { sec := 100, hasParent := true, valid := [(4, some 0)] } }, by decide⟩,
   ⟨1, 0, false, up, by decide⟩,
   ⟨1, 0, false, up, by decide⟩,
   ⟨up, by decide⟩,
   ⟨5, { up with cmp := { stepBy := some 5 } }, by decide⟩,
   ⟨0, { up with cmp := { sec := 1, timeSet := true } }, _, by decide, rfl, by decide⟩,
   ⟨0, up.setReg .CMP_SETLO 0 1, _, by decide, rfl, by decide⟩,
   ⟨0, up, _, by decide, rfl⟩,
   ⟨5, { up with cmp := { ppsSet := some 5, src := 3 } }, by decide⟩,
   ⟨up, by decide⟩,
   ⟨5, { up with cmp := { ppsSet := some 5 } }, by decide⟩,
   ⟨0, 0, 0, { (up.setFld F.ETH_CFG_EN 0 1).setFld F.ETH_CFG_PTP 0 1 with cmp := { src := 1 } }, by decide⟩,
   ⟨0, 0, 0, { (up.setFld F.ETH_CFG_EN 0 1).setFld F.ETH_CFG_PTP 0 1 with cmp := { src := 2 } }, by decide⟩,
   ⟨1000000001, { up with cmp := { timeSet := true, state := .holdover, e0 := 1000000001 } }, _, by decide, by decide, by decide, rfl⟩,
   ⟨0, { up with cmp := { timeSet := true, state := .holdover } }, by decide⟩,
   ⟨true, up.setFld F.CMP_PPSOUT_EN 0 1, by decide⟩,
   ⟨up, by decide⟩⟩

end Sys2Proof.Tests
end

