-- ==== Sys2Proof/Tests/Witness4.lean ====
section
/-! SUPPORT. States and operands that meet the hypotheses of the statements 31 to 40. -/

set_option linter.unusedVariables false
set_option maxRecDepth 20000

namespace Sys2Proof.Tests

open Sys2Proof Sys2Proof.Machine

/-- States and operands that meet the hypotheses of `DetectorsInjectionsAndRetirement`, clause by clause. -/
theorem witness_DetectorsInjectionsAndRetirement :
    (∃ (code : Nat) (sel : Nat) (u : TestUnit) (next : Option Nat) (s : State), code ∈ [1, 2, 3, 4, 5, 6, 7, 8, 13, 14]) ∧
    (∃ (code : Nat) (sel : Nat) (u : Option TestUnit) (next : Option Nat) (s : State), code ∈ [9, 10, 11, 12, 15]) ∧
    (∃ (who : Who) (w : Word) (row : Nat) (next : Option Nat) (s : State) (s1 : _) (s2 : _), s.gate who .REL_INJ 0 = .pass ∧
      s1 = s.store .REL_INJ 0 (putBits w 24 2 1) ∧
      s1.injectResult 1 (getBits (putBits w 24 2 1) 16 5) (getBits (putBits w 24 2 1) 0 11) = 0 ∧ s2 = s1.setFld F.REL_INJ_RESULT 0 0) ∧
    (∃ (who : Who) (w : Word) (row : Nat) (next : Option Nat) (s : State) (s1 : _) (s2 : _), s.gate who .REL_INJ 0 = .pass ∧
      s1 = s.store .REL_INJ 0 (putBits w 24 2 2) ∧
      s1.injectResult 2 (getBits (putBits w 24 2 2) 16 5) (getBits (putBits w 24 2 2) 0 11) = 0 ∧ s2 = s1.setFld F.REL_INJ_RESULT 0 0) ∧
    (∃ (who : Who) (w : Word) (row : Nat) (next : Option Nat) (s : State) (s1 : _) (s2 : _), s.gate who .REL_INJ 0 = .pass ∧
      s1 = s.store .REL_INJ 0 (putBits w 24 2 3) ∧
      s1.injectResult 3 (getBits (putBits w 24 2 3) 16 5) (getBits (putBits w 24 2 3) 0 11) = 0 ∧ s2 = s1.setFld F.REL_INJ_RESULT 0 0) ∧
    (∃ (t : SelfTest) (s : State) (s1 : State), s.rel.running.length < 8 ∧ s.rel.queue.find? s.testReady = some t ∧
      s1 = { s with rel := { s.rel with queue := s.rel.queue.erase t, running := s.rel.running ++ [t] } }) ∧
    (∃ (row : Nat) (t : SelfTest) (lasting : Bool) (spare : Bool) (s : State) (s1 : State),
      s.rel.running.find? (fun t => t.target == .hbmRow 0 row) = some t ∧ t.destructive = false ∧
      s1 = { s with rel := { s.rel with running := s.rel.running.erase t } } ∧ (t.injected = true ∨ lasting = false)) ∧
    (∃ (row : Nat) (t : SelfTest) (lasting : Bool) (spare : Bool) (s : State) (s1 : State),
      s.rel.running.find? (fun t => t.target == .hbmRow 0 row) = some t ∧ t.destructive = false ∧
      s1 = { s with rel := { s.rel with running := s.rel.running.erase t } } ∧ t.injected = false ∧ lasting = true ∧
      s1.envHolds = false) ∧
    (∃ (w : Waiting) (sel : Nat) (a : Nat) (b : Stamp) (s : State), s.programmed = some w ∧ w.record.payload = .retirement sel a b) ∧
    (∃ (who : Who) (sel : Nat) (s : State) (s1 : State), s.gate who .REL_CMD 0 = .pass ∧ s1 = s.setFld F.REL_CMD_OP 0 1 ∧
      sel = s1.fld F.REL_UNITSEL_KIND 0 * 256 + s1.fld F.REL_UNITSEL_INSTANCE 0 ∧ unitExists sel = false) ∧
    (∃ (who : Who) (sel : Nat) (s : State) (s1 : State), s.gate who .REL_CMD 0 = .pass ∧ s1 = s.setFld F.REL_CMD_OP 0 1 ∧
      sel = s1.fld F.REL_UNITSEL_KIND 0 * 256 + s1.fld F.REL_UNITSEL_INSTANCE 0 ∧ unitExists sel = true ∧ s1.isRetired sel = true) ∧
    (∃ (who : Who) (sel : Nat) (s : State) (s1 : State), s.gate who .REL_CMD 0 = .pass ∧ s1 = s.setFld F.REL_CMD_OP 0 1 ∧
      sel = s1.fld F.REL_UNITSEL_KIND 0 * 256 + s1.fld F.REL_UNITSEL_INSTANCE 0 ∧ unitExists sel = true ∧ s1.isRetired sel = false) ∧
    (∃ (who : Who) (sel : Nat) (s : State) (s1 : State), s.gate who .REL_CMD 0 = .pass ∧ s1 = s.setFld F.REL_CMD_OP 0 2 ∧
      sel = s1.fld F.REL_UNITSEL_KIND 0 * 256 + s1.fld F.REL_UNITSEL_INSTANCE 0 ∧ unitExists sel = true ∧ s1.isRetired sel = true) ∧
    (∃ (who : Who) (sel : Nat) (s : State) (s1 : State) (s2 : _), s.gate who .REL_CMD 0 = .pass ∧ s1 = s.setFld F.REL_CMD_OP 0 2 ∧
      sel = s1.fld F.REL_UNITSEL_KIND 0 * 256 + s1.fld F.REL_UNITSEL_INSTANCE 0 ∧ unitExists sel = true ∧ s1.isRetired sel = false ∧
      domCount ≤ sel ∧ s2 = s1.setFld F.REL_CMD_RESULT 0 3 ∧ s2.retiring sel = false) ∧
    (∃ (s : State), s.rel.excursion = false) ∧
    (∃ (s : State), s.rel.excursion = true) ∧
    (∃ (u : TestUnit) (t : SelfTest) (s : State), s.rel.held.find? (fun t => t.target == u) = some t ∧ s.envHolds = false ∧
      s.rel.running.length < 8 ∧ s.testReady t = true) :=
  ⟨⟨14, 0, .unit 0, none, up, by decide⟩,
   ⟨15, 0, none, none, up, by decide⟩,
   ⟨.host, 0x90000, 0, none, injUp, _, _, by decide, rfl, by decide, rfl⟩,
   ⟨.host, 0x90000, 0, none, injUp, _, _, by decide, rfl, by decide, rfl⟩,
   ⟨.host, 0x90000, 0, none, injUp, _, _, by decide, rfl, by decide, rfl⟩,
   ⟨test0 false, { up with rel := { queue := [test0 false] } }, _, by decide, by decide, rfl⟩,
   ⟨4, test0 true, true, false, testing true, _, by decide, by decide, rfl, by decide⟩,
   ⟨4, test0 false, true, false, testing false, _, by decide, by decide, rfl, by decide⟩,
   ⟨{ record := { kind := 5, payload := .retirement 3 0 {} }, prio := 0, done := 1 }, 3, 0, {}, landed 5 (.retirement 3 0 {}),
     by decide⟩,
   ⟨.host, _, (up.setFld F.REL_UNITSEL_KIND 0 7).setFld F.REL_UNITSEL_INSTANCE 0 255, _, by decide, rfl, rfl, by decide⟩,
   ⟨.host, _, { up with rel := { retired := [0] } }, _, by decide, rfl, rfl, by decide⟩,
   ⟨.host, _, up, _, by decide, rfl, rfl, by decide⟩,
   ⟨.host, _, { up with rel := { retired := [0] } }, _, by decide, rfl, rfl, by decide⟩,
   ⟨.host, _, (up.setFld F.REL_UNITSEL_KIND 0 4).setFld F.REL_UNITSEL_INSTANCE 0 0, _, _, by decide, rfl, rfl, by decide, by decide,
     by decide, rfl, by decide⟩,
   ⟨up, by decide⟩,
   ⟨{ up with rel := { excursion := true } }, by decide⟩,
   ⟨.hbmRow 0 4, test0 false, { up with rel := { held := [test0 false] } }, by decide⟩⟩

/-- States and operands that meet the hypotheses of `GuylineMembersJoinAndLeave`, clause by clause. -/
theorem witness_GuylineMembersJoinAndLeave :
    (∃ (who : Who) (w : Word) (x : Word) (s : State), s.gate who .GL_CFG 0 = .pass ∧ s.glOn = true ∧
      x = plainWrite .GL_CFG (s.reg .GL_CFG 0) (putBits w 31 1 0) ∧ getBits x 0 10 = getBits (s.reg .GL_CFG 0) 0 10 ∧
      getBits x 30 1 = getBits (s.reg .GL_CFG 0) 30 1 ∧ (s.setReg .GL_CFG 0 x).glOn = false) ∧
    (∃ (who : Who) (w : Word) (s : State), s.gate who .GL_CFG 0 = .pass ∧ s.glOn = false ∧
      (s.setReg .GL_CFG 0 (plainWrite .GL_CFG (s.reg .GL_CFG 0) (putBits w 31 1 0))).glOn = false) ∧
    (∃ (who : Who) (w : Word) (s : State) (s1 : State), s.gate who .GL_CFG 0 = .pass ∧ s.glOn = false ∧
      s1 = s.setReg .GL_CFG 0 (plainWrite .GL_CFG (s.reg .GL_CFG 0) (putBits w 31 1 1)) ∧ s1.glOn = true) ∧
    (∃ (link : Nat) (index : Nat) (gnid : Nat) (l : Nat) (nonce : Nat) (cr : Nat) (joined : Bool) (s : State), s.glOn = true ∧
      s.linkUsed link = true ∧ s.linkUp link = true ∧ s.peer link index = none) ∧
    (∃ (link : Nat) (src : Nat) (mseq : Nat) (index : Nat) (parent : Nat) (s : State) (u : State), s.glOn = true ∧
      s.linkUp link = true ∧ s.gl.seen.contains (src, mseq) = false ∧
      u = { s.glAck (some link) src mseq with gl := { (s.glAck (some link) src mseq).gl with seen := (s.glAck (some link) src mseq).gl.seen ++ [(src, mseq)] } } ∧
      (u.pwr.mode = .ember ∨ u.glJoined = false)) ∧
    (∃ (link : Nat) (src : Nat) (mseq : Nat) (index : Nat) (parent : Nat) (s : State) (u : State), s.glOn = true ∧
      s.linkUp link = true ∧ s.gl.seen.contains (src, mseq) = false ∧
      u = { s.glAck (some link) src mseq with gl := { (s.glAck (some link) src mseq).gl with seen := (s.glAck (some link) src mseq).gl.seen ++ [(src, mseq)] } } ∧
      u.pwr.mode ≠ .ember ∧ u.glJoined = true ∧ u.isRoot = true) ∧
    (∃ (link : Nat) (src : Nat) (mseq : Nat) (index : Nat) (parent : Nat) (s : State) (u : State) (l : _), s.glOn = true ∧
      s.linkUp link = true ∧ s.gl.seen.contains (src, mseq) = false ∧
      u = { s.glAck (some link) src mseq with gl := { (s.glAck (some link) src mseq).gl with seen := (s.glAck (some link) src mseq).gl.seen ++ [(src, mseq)] } } ∧
      u.pwr.mode ≠ .ember ∧ u.glJoined = true ∧ u.isRoot = false ∧ u.parentLink = some l) ∧
    (∃ (link : Nat) (src : Nat) (mseq : Nat) (index : Nat) (members : Nat) (anc : List Nat) (p : GPeer) (s : State) (u : State),
      s.glOn = true ∧ s.linkUp link = true ∧ s.gl.seen.contains (src, mseq) = false ∧
      u = { s.glAck (some link) src mseq with gl := { (s.glAck (some link) src mseq).gl with seen := (s.glAck (some link) src mseq).gl.seen ++ [(src, mseq)] } } ∧
      index = u.moduleIndex ∧ u.peer link src = some p ∧ u.gl.asked = some link ∧ u.gl.netKey = true) ∧
    (∃ (link : Nat) (src : Nat) (mseq : Nat) (index : Nat) (st : Status) (s : State) (u : State) (s2 : State), s.glOn = true ∧
      s.linkUp link = true ∧ s.gl.seen.contains (src, mseq) = false ∧
      u = { s.glAck (some link) src mseq with gl := { (s.glAck (some link) src mseq).gl with seen := (s.glAck (some link) src mseq).gl.seen ++ [(src, mseq)] } } ∧
      index = u.moduleIndex ∧ u.gl.asked = some link ∧ s2 = (u.setFld F.GL_EVT_REFUSED 0 1).event st pageGl []) ∧
    (∃ (t : Stamp) (s : State), s.gl.retryAt = some t ∧ Stamp.le t s.now = true) ∧
    (∃ (link : Nat) (src : Nat) (mseq : Nat) (index : Nat) (parent : Nat) (l : Nat) (added : List Nat) (removed : List Nat) (s : State),
      s.glOn = true ∧ s.linkUp link = true ∧ s.gl.seen.contains (src, mseq) = true) ∧
    (∃ (link : Nat) (src : Nat) (mseq : Nat) (s : State) (u : State) (s1 : State), s.glOn = true ∧ s.linkUp link = true ∧
      s.gl.seen.contains (src, mseq) = false ∧
      u = { s.glAck (some link) src mseq with gl := { (s.glAck (some link) src mseq).gl with seen := (s.glAck (some link) src mseq).gl.seen ++ [(src, mseq)] } } ∧
      s1 = { u with gl := { u.gl with heard := u.gl.heard.filter fun h => h.1 != src } } ∧ s1.peer link src = none ∧ s1.link link = 2) ∧
    (∃ (link : Nat) (src : Nat) (mseq : Nat) (l : Nat) (added : List Nat) (removed : List Nat) (s : State) (u : State),
      s.glOn = true ∧ s.linkUp link = true ∧ s.gl.seen.contains (src, mseq) = false ∧
      u = { s.glAck (some link) src mseq with gl := { (s.glAck (some link) src mseq).gl with seen := (s.glAck (some link) src mseq).gl.seen ++ [(src, mseq)] } } ∧
      u.link link = 3) ∧
    (∃ (link : Nat) (s : State), link < 4 ∧ s.glOn = true ∧ 1 ≤ s.link link ∧ s.link link ≤ 4) ∧
    (∃ (link : Nat) (s : State), link < 4 ∧ s.glOn = true ∧ s.linkUsed link = true ∧ s.serves (domGl link) = true ∧
      s.linkUp link = false) :=
  ⟨⟨.host, 0, _, guy, by decide, by decide, rfl, by decide⟩,
   ⟨.host, 0, up, by decide⟩,
   ⟨.host, 0x80000000, up, _, by decide, by decide, rfl, by decide⟩,
   ⟨0, 4, 0, 0, 9, 256, true, ring [(0, 3)] none, by decide⟩,
   ⟨4, 3, 1, 7, 7, (ring [(4, 3)] none).setFld F.GL_STAT_STATE 0 0, _, by decide, by decide, by decide, rfl, by decide⟩,
   ⟨4, 3, 1, 7, 7, (ring [(4, 3)] none).setFld F.GL_CFG_ROOT 0 1, _, by decide, by decide, by decide, rfl, by decide⟩,
   ⟨4, 3, 1, 7, 7, ring [(4, 3), (0, 2)] none, _, 0, by decide, by decide, by decide, rfl, by decide⟩,
   ⟨4, 3, 1, 0, 0, [], peer3, ring [(4, 3)] (some 4), _, by decide, by decide, by decide, rfl, by decide⟩,
   ⟨4, 3, 1, 0, .denied, ring [(4, 3)] (some 4), _, _, by decide, by decide, by decide, rfl, by decide, by decide, rfl⟩,
   ⟨{}, { guy with gl := { retryAt := some {} } }, by decide⟩,
   ⟨0, 3, 1, 0, 0, 0, [], [], { ring [(0, 3)] none with gl := { (ring [(0, 3)] none).gl with seen := [(3, 1)] } }, by decide⟩,
   ⟨4, 4, 1, ring [(4, 2)] none, _, _, by decide, by decide, by decide, rfl, rfl, by decide⟩,
   ⟨4, 3, 1, 0, [], [], ring [(4, 3)] none, _, by decide, by decide, by decide, rfl, by decide⟩,
   ⟨3, ring [(3, 4)] none, by decide⟩,
   ⟨0, ring [] none, by decide⟩⟩

/-- States and operands that meet the hypotheses of `GuylineFramesAndTime`, clause by clause. -/
theorem witness_GuylineFramesAndTime :
    (∃ (link : Nat) (f : GFrame) (tag : Bool) (s : State), s.glOn = true ∧ s.linkActive link = true ∧ link < 4 ∧
      (tag = false ∨ s.keysOn link = [])) ∧
    (∃ (link : Nat) (f : GFrame) (tag : Bool) (s : State), s.glOn = true ∧ s.linkActive link = true ∧
      (link < 4 → tag = true ∧ s.keysOn link ≠ []) ∧ f.typ ≤ 3 ∧ f.dst ≠ s.moduleIndex ∧ f.dst ≠ 0xFFFF ∧ f.hops < 254) ∧
    (∃ (mseq : Nat) (m : GSend) (s : State), s.gl.unacked.find? (fun m => m.mseq == mseq) = some m ∧
      stampNs m.since + 1000000000 ≤ stampNs s.now) ∧
    (∃ (mseq : Nat) (m : GSend) (s : State), s.gl.unacked.find? (fun m => m.mseq == mseq) = some m ∧
      stampNs s.now < stampNs m.since + 1000000000 ∧ stampNs m.last + 10000000 ≤ stampNs s.now) ∧
    (∃ (mseq : Nat) (m : GSend) (s : State), s.gl.unacked.find? (fun m => m.mseq == mseq) = some m ∧
      stampNs s.now < stampNs m.since + 1000000000 ∧ stampNs s.now < stampNs m.last + 10000000) ∧
    (∃ (link : Nat) (s : State), 4 ≤ link ∧ link < 8 ∧ s.glOn = true ∧ s.linkUsed link = true ∧ s.glJoined = true ∧ s.link link ≠ 2 ∧
      s.cmp.ns % (s.glPeriod * 1000000) = 0 ∧ (s.peersOn link).filter GPeer.child = []) ∧
    (∃ (s : State), s.glOn = true) ∧
    (∃ (link : Nat) (e : Nat) (locked : Bool) (o : Int) (s : State), s.glOn = true ∧ s.link link = 2) ∧
    (∃ (link : Nat) (index : Nat) (o : Int) (s : State) (s1 : State), 4 ≤ link ∧ s.glOn = true ∧ s.linkUsed link = true ∧
      s.link link = 2 ∧ s.fld F.GL_STAT_PARENT 0 = index ∧
      s1 = { s with mac := { s.mac with misses := 0, window := 50 }, gl := { s.gl with beacons := (s.gl.beacons + 1) % 16 } }) ∧
    (∃ (l : Nat) (s : State), s.glOn = true ∧ s.parentLink = some l ∧ 4 ≤ l ∧ s.mac.misses < 2) ∧
    (∃ (l : Nat) (s : State), s.glOn = true ∧ s.parentLink = some l ∧ 4 ≤ l ∧ 2 ≤ s.mac.misses) :=
  ⟨⟨3, { typ := 3, src := 1, dst := 2, msg := .leave }, false, ring [(3, 3)] none, by decide⟩,
   ⟨4, { typ := 3, src := 1, dst := 2, msg := .leave }, true, ring [(4, 3)] none, by decide⟩,
   ⟨1, send1, sends 1000000000, by decide⟩,
   ⟨1, send1, sends 999999999, by decide⟩,
   ⟨1, send1, sends 9999999, by decide⟩,
   ⟨4, ring [(4, 3)] none, by decide⟩,
   ⟨guy, by decide⟩,
   ⟨0, 5, true, 0, ring [(0, 2)] none, by decide⟩,
   ⟨4, 0, 0, ring [(4, 2)] none, _, by decide, by decide, by decide, by decide, by decide, rfl⟩,
   ⟨4, ring [(4, 2)] none, by decide⟩,
   ⟨4, { ring [(4, 2)] none with mac := { misses := 2 } }, by decide⟩⟩

/-- States and operands that meet the hypotheses of `CheckUnitsRunAndHold`, clause by clause. -/
theorem witness_CheckUnitsRunAndHold :
    (∃ (n : Nat) (who : Who) (v : Word) (s : State), s.gate who .CHK_DATA8 n = .pass ∧ s.chkBusy n = false ∧ (s.chkUnit n).writes = []) ∧
    (∃ (n : Nat) (who : Who) (v : Word) (s : State), s.gate who .CHK_DATA16 n = .pass ∧ s.chkBusy n = false ∧
      (s.chkUnit n).writes = []) ∧
    (∃ (n : Nat) (who : Who) (v : Word) (s : State), s.gate who .CHK_DATA32 n = .pass ∧ s.chkBusy n = false ∧
      (s.chkUnit n).writes = []) ∧
    (∃ (n : Nat) (who : Who) (v : Word) (b : Bool) (s : State), s.gate who .CHK_DATA8 n = .pass ∧ s.chkBusy n = true) ∧
    (∃ (n : Nat) (who : Who) (v : Word) (s : State), s.gate who .CHK_CMD n = .pass ∧ s.chkBusy n = false ∧ (s.chkUnit n).writes = [] ∧
      v.getLsbD 0 = true) ∧
    (∃ (n : Nat) (who : Who) (v : Word) (s : State), s.chkBusy n = false ∧ (s.chkUnit n).writes = [] ∧
      s.gate who .CHK_STATE_LO n = .pass) ∧
    (∃ (n : Nat) (who : Who) (v : Word) (s : State), s.chkBusy n = false ∧ (s.chkUnit n).writes = [] ∧
      s.gate who .CHK_STATE_HI n = .pass) ∧
    (∃ (n : Nat) (who : Who) (v : Word) (s : State), s.chkBusy n = false ∧ (s.chkUnit n).writes = [] ∧
      s.gate who .CHK_POLY_LO n = .pass) ∧
    (∃ (n : Nat) (who : Who) (v : Word) (s : State), s.chkBusy n = false ∧ (s.chkUnit n).writes = [] ∧
      s.gate who .CHK_XOR_HI n = .pass) ∧
    (∃ (n : Nat) (who : Who) (v : Word) (s : State) (s1 : _), s.chkBusy n = false ∧ (s.chkUnit n).writes = [] ∧
      s.gate who .CHK_CFG n = .pass ∧ s1 = s.setReg .CHK_CFG n (chkCfgForm (plainWrite .CHK_CFG (s.reg .CHK_CFG n) v))) ∧
    (∃ (n : Nat) (who : Who) (s : State), s.readable who .CHK_STATE_LO n = true) ∧
    (∃ (n : Nat) (who : Who) (v : DWord) (s : State), s.readable who .CHK_RESULT_LO n = true ∧ v = s.chkResult n (s.chkUnit n).run) ∧
    (∃ (n : Nat) (op : ChkOp) (v : Word) (l : List (ChkOp × Word)) (b : Bool) (s : State), s.chkBusy n = false ∧
      (s.chkUnit n).writes = (op, v) :: l) ∧
    (∃ (who : Who) (v : Word) (s : State), s.gate who .CHK_HOSTMASK 0 = .pass) ∧
    (∃ (id : Nat) (c : Call) (s : State) (u : State) (s1 : State), s.callFor id 3 0 = some c ∧ u = s.callTags c ∧
      u.chkCall c.inst = some c ∧ (u.chkUnit c.inst).yielding = false ∧ c.desc.flags % 2 = 0 ∧ c.desc.outLen < 16 ∧
      (u.chkUnit c.inst).writes = [] ∧
      s1 = u.setChkUnit c.inst { u.chkUnit c.inst with run := u.chkFed c.inst (u.chkUnit c.inst).run (u.callInput c) }) :=
  ⟨⟨15, .host, 0, up, by decide⟩,
   ⟨15, .host, 0, up, by decide⟩,
   ⟨15, .host, 0, up, by decide⟩,
   ⟨0, .host, 0, true, calling, by decide⟩,
   ⟨0, .host, 1, up, by decide⟩,
   ⟨0, .host, 0, up, by decide⟩,
   ⟨0, .host, 0, up, by decide⟩,
   ⟨0, .host, 0, up, by decide⟩,
   ⟨0, .host, 0, up, by decide⟩,
   ⟨0, .host, 0, up, _, by decide, by decide, by decide, rfl⟩,
   ⟨15, .host, up, by decide⟩,
   ⟨15, .host, _, up, by decide, rfl⟩,
   ⟨0, .data8, 5, [], true, { up with chk := [(0, { writes := [(.data8, 5)] })] }, by decide⟩,
   ⟨.host, 0, up, by decide⟩,
   ⟨1, chkCall0, calling, _, _, by decide, rfl, by decide, by decide, by decide, by decide, by decide, rfl⟩⟩

/-- States and operands that meet the hypotheses of `UnitsDrainAndReturn`, clause by clause. -/
theorem witness_UnitsDrainAndReturn :
    (∃ (w : Word) (i : Nat) (s : State) (s1 : State), s.gate .host .PIT_DRAIN 0 = .pass ∧ i = getBits (putBits w 29 2 0) 0 8 ∧
      s1 = (((s.setFld F.PIT_DRAIN_INDEX 0 i).setFld F.PIT_DRAIN_FORCE 0 (getBits (putBits w 29 2 0) 30 1)).setFld F.PIT_DRAIN_RESTORE 0 (getBits (putBits w 29 2 0) 29 1)) ∧
      getBits (putBits w 29 2 0) 30 1 = 0 ∧ getBits (putBits w 29 2 0) 29 1 = 0 ∧ s1.drainRefused i = true) ∧
    (∃ (w : Word) (i : Nat) (s : State) (s1 : State), s.gate .host .PIT_DRAIN 0 = .pass ∧ i = getBits (putBits w 29 2 0) 0 8 ∧
      s1 = (((s.setFld F.PIT_DRAIN_INDEX 0 i).setFld F.PIT_DRAIN_FORCE 0 (getBits (putBits w 29 2 0) 30 1)).setFld F.PIT_DRAIN_RESTORE 0 (getBits (putBits w 29 2 0) 29 1)) ∧
      getBits (putBits w 29 2 0) 30 1 = 0 ∧ getBits (putBits w 29 2 0) 29 1 = 0 ∧ s1.drainRefused i = false ∧ s1.draining i = false ∧
      s1.dom i = .on ∧ s1.rel.running = []) ∧
    (∃ (w : Word) (i : Nat) (s : State) (s1 : State), s.gate .host .PIT_DRAIN 0 = .pass ∧ i = getBits (putBits w 29 2 2) 0 8 ∧
      s1 = (((s.setFld F.PIT_DRAIN_INDEX 0 i).setFld F.PIT_DRAIN_FORCE 0 (getBits (putBits w 29 2 2) 30 1)).setFld F.PIT_DRAIN_RESTORE 0 (getBits (putBits w 29 2 2) 29 1)) ∧
      getBits (putBits w 29 2 2) 30 1 = 1 ∧ getBits (putBits w 29 2 2) 29 1 = 0 ∧ s1.drainRefused i = false ∧ s1.dom i = .on) ∧
    (∃ (w : Word) (i : Nat) (s : State) (s1 : State), s.gate .host .PIT_DRAIN 0 = .pass ∧ i = getBits (putBits w 29 2 1) 0 8 ∧
      s1 = (((s.setFld F.PIT_DRAIN_INDEX 0 i).setFld F.PIT_DRAIN_FORCE 0 (getBits (putBits w 29 2 1) 30 1)).setFld F.PIT_DRAIN_RESTORE 0 (getBits (putBits w 29 2 1) 29 1)) ∧
      getBits (putBits w 29 2 1) 29 1 = 1 ∧ i < domCount ∧ s1.isRetired i = false ∧ s1.pwr.mode ≠ .ember ∧ s1.drain i = none) ∧
    (∃ (w : Word) (i : Nat) (s : State) (s1 : State) (d : _), s.gate .host .PIT_DRAIN 0 = .pass ∧ i = getBits (putBits w 29 2 1) 0 8 ∧
      s1 = (((s.setFld F.PIT_DRAIN_INDEX 0 i).setFld F.PIT_DRAIN_FORCE 0 (getBits (putBits w 29 2 1) 30 1)).setFld F.PIT_DRAIN_RESTORE 0 (getBits (putBits w 29 2 1) 29 1)) ∧
      getBits (putBits w 29 2 1) 29 1 = 1 ∧ i < domCount ∧ s1.isRetired i = false ∧ s1.pwr.mode ≠ .ember ∧ s1.drain i = some d) ∧
    (∃ (i : Nat) (s : State), s.draining i = true ∧ s.workLeft i = false) ∧
    (∃ (i : Nat) (d : Drain) (s : State), s.drain i = some d ∧ s.workLeft i = true) ∧
    (∃ (w : Word) (s : State), s.gate .host .PIT_SPARECFG 0 = .pass) ∧
    (∃ (r : Repl) (s : State), s.plc.repl = some r ∧ s.liveTasks r.outgoing = 0) ∧
    (∃ (r : Repl) (s : State), s.plc.repl = some r ∧ s.liveTasks r.outgoing ≠ 0) ∧
    (∃ (r : Repl) (s : State), s.plc.repl = some r ∧ r.since + s.fld F.PIT_REPLCFG_LIMIT_S 0 ≤ s.cmp.sec) ∧
    (∃ (w : Word) (s : State), s.gate .host .PIT_REPLCFG 0 = .pass) :=
  ⟨⟨198, _, up, _, by decide, rfl, rfl, by decide⟩,
   ⟨5, _, up, _, by decide, rfl, rfl, by decide⟩,
   ⟨5, _, up, _, by decide, rfl, rfl, by decide⟩,
   ⟨197, _, up, _, by decide, rfl, rfl, by decide⟩,
   ⟨5, _, { up with units := { drains := [(5, some { why := .host })] } }, _, { why := .host }, by decide, rfl, rfl, by decide⟩,
   ⟨5, { up with units := { drains := [(5, some { why := .host })] } }, by decide⟩,
   ⟨152, { why := .host }, { netFrame .running with units := { drains := [(152, some { why := .host })] } }, by decide⟩,
   ⟨5, up, by decide⟩,
   ⟨⟨0, 1, .none, 0⟩, { up with plc := { repl := some ⟨0, 1, .none, 0⟩ } }, by decide⟩,
   ⟨⟨0, 1, .none, 0⟩,
     { up with plc := { repl := some ⟨0, 1, .none, 0⟩ }, prog := { tasks := [(1, ⟨0, 0, 0, 0, 0, 0, 0, true, 0⟩)] } }, by decide⟩,
   ⟨⟨0, 1, .none, 0⟩, { up with plc := { repl := some ⟨0, 1, .none, 0⟩ }, cmp := { sec := 60000 } }, by decide⟩,
   ⟨5, up, by decide⟩⟩

/-- States and operands that meet the hypotheses of `PacksAndClassesAreJudged`, clause by clause. -/
theorem witness_PacksAndClassesAreJudged :
    (∃ (src : Src) (i : PackImage) (repl : Nat) (placed : Bool) (power : List Nat) (s : State), s.starts src 0x30 = true ∧
      i.formatOk = false) ∧
    (∃ (src : Src) (i : PackImage) (repl : Nat) (placed : Bool) (power : List Nat) (s : State) (st : _), s.starts src 0x30 = true ∧
      i.formatOk = true ∧ (s.start src).verifyImage i = some st) ∧
    (∃ (src : Src) (i : PackImage) (repl : Nat) (placed : Bool) (power : List Nat) (s : State), s.starts src 0x30 = true ∧
      i.formatOk = true ∧ (s.start src).verifyImage i = none ∧ ownsSealed (rangePages i.pages) = true) ∧
    (∃ (src : Src) (i : PackImage) (repl : Nat) (placed : Bool) (power : List Nat) (s : State) (k : _) (s1 : _),
      s.starts src 0x30 = true ∧ s1 = s.start src ∧ i.formatOk = true ∧ s1.verifyImage i = none ∧
      ownsSealed (rangePages i.pages) = false ∧ (rangePages i.pages).any (s1.pageTaken none) = false ∧ s1.freeSlot = some k ∧
      s1.pwr.admits = true ∧ s1.memAdmits i.memMib = true ∧ declsFit i.decls = true ∧ s1.needsMet i = true ∧
      (s1.powerAll (power.filter fun d => !(decide (d < 128) && s1.role d == .spare))).classesMet k i.decls = true) ∧
    (∃ (src : Src) (slot : Nat) (s : State), s.starts src 0x31 = true ∧ slot < 16 ∧ (s.start src).inRepl slot = false ∧
      ((s.start src).pack slot).state = .free) ∧
    (∃ (src : Src) (slot : Nat) (s : State), s.starts src 0x31 = true ∧ slot < 16 ∧ (s.start src).inRepl slot = false ∧
      ((s.start src).pack slot).state ≠ .free) ∧
    (∃ (src : Src) (cls : Nat) (prio : Nat) (persist : Nat) (latUl : Nat) (latDl : Nat) (rate : Nat) (met : Bool) (power : List Nat) (c : SvcClass) (s : State) (s1 : State),
      s.starts src 0x50 = true ∧ s1 = s.start src ∧
      c = { prio := prio, persist := persist, latUl := latUl, latDl := latDl, rate := rate } ∧ cls ≤ 63 ∧ prio ≤ 3 ∧ persist ≤ 2 ∧
      s1.admitsIntent met (SvcClass.asksMore c (s1.svcClass cls)) = true) ∧
    (∃ (src : Src) (cls : Nat) (prio : Nat) (persist : Nat) (latUl : Nat) (latDl : Nat) (rate : Nat) (met : Bool) (power : List Nat) (c : SvcClass) (s : State) (s1 : State),
      s.starts src 0x50 = true ∧ s1 = s.start src ∧
      c = { prio := prio, persist := persist, latUl := latUl, latDl := latDl, rate := rate } ∧ (63 < cls ∨ 3 < prio ∨ 2 < persist)) ∧
    (∃ (src : Src) (cls : Nat) (prio : Nat) (persist : Nat) (latUl : Nat) (latDl : Nat) (rate : Nat) (met : Bool) (power : List Nat) (c : SvcClass) (s : State) (s1 : State),
      s.starts src 0x50 = true ∧ s1 = s.start src ∧
      c = { prio := prio, persist := persist, latUl := latUl, latDl := latDl, rate := rate } ∧ cls ≤ 63 ∧ prio ≤ 3 ∧ persist ≤ 2 ∧
      s1.admitsIntent met (SvcClass.asksMore c (s1.svcClass cls)) = false) ∧
    (∃ (src : Src) (g : Nat) (cls : Nat) (svc : Option Nat) (met : Bool) (power : List Nat) (f : FlowSel) (s : State) (s1 : State),
      s.starts src 0x51 = true ∧ s1 = s.start src ∧ cls ≤ 63 ∧ f = { gaddr := g % 2 ^ 26, group := none, svc := svc } ∧
      s1.admitsIntent met (SvcClass.asksMore (s1.svcClass cls) (s1.svcClass (((s1.plc.assigns.find? fun p => p.1 == f).map Prod.snd).getD 0))) = true) ∧
    (∃ (src : Src) (g : Nat) (cls : Nat) (fg : Nat) (svc : Option Nat) (met : Bool) (power : List Nat) (s : State),
      s.starts src 0x51 = true ∧ 7 < fg) ∧
    (∃ (src : Src) (h : Nat) (ofs : Nat) (len : Nat) (x : Handle) (s : State) (s1 : State) (s2 : State), s.starts src 0x52 = true ∧
      s1 = s.start src ∧ s1.handle h = some x ∧ 64 + 16 * s1.classesUsed.length ≤ len ∧ s1.hostMayWrite x = true ∧
      ofs + 64 + 16 * s1.classesUsed.length ≤ x.size ∧ s2 = s1.drew.setBytes h ofs (s1.report (Config.freeNat s1.free))) :=
  ⟨⟨.queue 0 7, { formatOk := false }, 0, true, [], asked up 0x30, by decide⟩,
   ⟨.queue 0 7, { sigOk := false }, 0, true, [], asked up 0x30, .authFail, by decide⟩,
   ⟨.queue 0 7, { pages := [(0x200, 0x200)] }, 0, true, [], asked up 0x30, by decide⟩,
   ⟨.queue 0 7, {}, 0, true, [], asked up 0x30, 0, _, by decide, rfl, by decide⟩,
   ⟨.queue 0 7, 15, asked up 0x31, by decide⟩,
   ⟨.queue 0 7, 0, asked { up with prog := { packs := [(0, { state := .resident })] } } 0x31, by decide⟩,
   ⟨.queue 0 7, 63, 3, 2, 0, 0, 0, true, [], _, asked up 0x50, _, by decide, rfl, rfl, by decide⟩,
   ⟨.queue 0 7, 64, 0, 0, 0, 0, 0, true, [], _, asked up 0x50, _, by decide, rfl, rfl, by decide⟩,
   ⟨.queue 0 7, 0, 0, 0, 0, 0, 0, false, [], _, asked up 0x50, _, by decide, rfl, rfl, by decide⟩,
   ⟨.queue 0 7, 5, 63, none, true, [], _, asked up 0x51, _, by decide, rfl, by decide, rfl, by decide⟩,
   ⟨.queue 0 7, 5, 0, 8, none, true, [], asked up 0x51, by decide⟩,
   ⟨.queue 0 7, 70, 0, 64, { size := 4096, hostWrite := true },
     asked { up with prog := { handles := [(70, { size := 4096, hostWrite := true })] } } 0x52, _, _, by decide, rfl, by decide,
     by decide, by decide, by decide, rfl⟩⟩

/-- States and operands that meet the hypotheses of `SecurityCommandsAreJudged`, clause by clause. -/
theorem witness_SecurityCommandsAreJudged :
    (∃ (i : PackImage) (b : Bool) (s : State), s.gate .host .SEC_CMD 0 = .pass ∧ s.sec.job.isSome = true) ∧
    (∃ (s : State), s.gate .host .SEC_CMD 0 = .pass ∧ s.sec.job = none ∧ s.pwr.mode = .ember) ∧
    (∃ (n : Nat) (s : State) (s1 : State) (s2 : State), s.gate .host .SEC_CMD 0 = .pass ∧ s.sec.job = none ∧ s.pwr.mode ≠ .ember ∧
      s1 = s.setFld F.SEC_CMD_OP 0 1 ∧ s1.flag F.PWR_STAT_BOOT_FAIL 0 = false ∧ s1.lifecycle = 0 ∧ n = leNat (s1.body.take 1) ∧
      1 ≤ n ∧ n ≤ 4 ∧ s1.body.length = 1 + 97 * n ∧ s2 = (s1.burn 1).setLevel 0) ∧
    (∃ (s : State) (s1 : _), s.gate .host .SEC_CMD 0 = .pass ∧ s.sec.job = none ∧ s.pwr.mode ≠ .ember ∧
      s1 = s.setFld F.SEC_CMD_OP 0 10 ∧ s1.flag F.PWR_STAT_BOOT_FAIL 0 = false) ∧
    (∃ (s : State) (s1 : _), s.gate .host .SEC_CMD 0 = .pass ∧ s.sec.job = none ∧ s.pwr.mode ≠ .ember ∧
      s1 = s.setFld F.SEC_CMD_OP 0 11 ∧ s1.flag F.PWR_STAT_BOOT_FAIL 0 = false ∧ s1.lifecycle ≠ 4) ∧
    (∃ (s : State) (s1 : _), s.gate .host .SEC_CMD 0 = .pass ∧ s.sec.job = none ∧ s.pwr.mode ≠ .ember ∧
      s1 = s.setFld F.SEC_CMD_OP 0 5 ∧ s1.flag F.PWR_STAT_BOOT_FAIL 0 = false ∧ s1.lifecycle ≠ 4 ∧ s1.body.length = 32) ∧
    (∃ (s : State) (s1 : _) (i : PackImage), s.gate .host .SEC_CMD 0 = .pass ∧ s.sec.job = none ∧ s.pwr.mode ≠ .ember ∧
      s1 = s.setFld F.SEC_CMD_OP 0 8 ∧ s1.lifecycle ≠ 4 ∧ 16 ≤ s1.body.length ∧ leNat ((s1.body.drop 8).take 8) ≤ 2 ^ 25 ∧
      leNat (s1.body.take 8) + (s1.body.length - 16) < leNat ((s1.body.drop 8).take 8)) ∧
    (∃ (s : State) (s1 : _) (b : Bool), s.gate .host .SEC_CMD 0 = .pass ∧ s.sec.job = none ∧ s.pwr.mode ≠ .ember ∧
      s1 = s.setFld F.SEC_CMD_OP 0 9 ∧ s1.sec.staged = false) ∧
    (∃ (s : State) (s1 : _), s.gate .host .SEC_CMD 0 = .pass ∧ s.sec.job = none ∧ s.pwr.mode ≠ .ember ∧
      s1 = s.setFld F.SEC_CMD_OP 0 9 ∧ s1.lifecycle ≠ 4 ∧ s1.sec.staged = true) ∧
    (∃ (s : State) (s1 : _), s.gate .host .SEC_CMD 0 = .pass ∧ s.sec.job = none ∧ s.pwr.mode ≠ .ember ∧ s.sec.challenge = none ∧
      s1 = s.setFld F.SEC_CMD_OP 0 2 ∧ s1.flag F.PWR_STAT_BOOT_FAIL 0 = false) ∧
    (∃ (s : State) (s1 : _), s.gate .host .SEC_CMD 0 = .pass ∧ s.sec.job = none ∧ s.pwr.mode ≠ .ember ∧ s.sec.challenge = none ∧
      s1 = s.setFld F.SEC_CMD_OP 0 3 ∧ s1.flag F.PWR_STAT_BOOT_FAIL 0 = false) ∧
    (∃ (s : State) (s1 : _), s.gate .host .SEC_CMD 0 = .pass ∧ s.sec.job = none ∧ s.pwr.mode ≠ .ember ∧ s.sec.challenge = none ∧
      s1 = s.setFld F.SEC_CMD_OP 0 4 ∧ s1.flag F.PWR_STAT_BOOT_FAIL 0 = false) ∧
    (∃ (s : State) (s1 : _), s.gate .host .SEC_CMD 0 = .pass ∧ s.sec.job = none ∧ s.pwr.mode ≠ .ember ∧ s.sec.challenge = none ∧
      s1 = s.setFld F.SEC_CMD_OP 0 6 ∧ s1.flag F.PWR_STAT_BOOT_FAIL 0 = false) ∧
    (∃ (s : State) (s1 : _), s.gate .host .SEC_CMD 0 = .pass ∧ s.sec.job = none ∧ s.pwr.mode ≠ .ember ∧ s.sec.challenge = none ∧
      s1 = s.setFld F.SEC_CMD_OP 0 7 ∧ s1.flag F.PWR_STAT_BOOT_FAIL 0 = false) ∧
    (∃ (k : Nat) (cls : Nat) (v : Nat) (p : List Byte) (s : State) (s1 : State) (s2 : State), s.gate .host .SEC_CMD 0 = .pass ∧
      s.sec.job = none ∧ s.pwr.mode = .serve ∧ s1 = s.setFld F.SEC_CMD_OP 0 k ∧ s2 = s1.dropChallenge ∧ p = s1.param ∧
      s1.flag F.PWR_STAT_BOOT_FAIL 0 = false ∧ 1 ≤ s1.signer ∧ s1.signer ≤ 4 ∧ s1.signerActive s1.signer = true ∧ k = 2 ∧
      s1.lifecycle = 1 ∧ p.length = 145) ∧
    (∃ (k : Nat) (cls : Nat) (v : Nat) (p : List Byte) (s : State) (s1 : State) (s2 : State), s.gate .host .SEC_CMD 0 = .pass ∧
      s.sec.job = none ∧ s.pwr.mode = .serve ∧ s1 = s.setFld F.SEC_CMD_OP 0 k ∧ s2 = s1.dropChallenge ∧ p = s1.param ∧
      s1.flag F.PWR_STAT_BOOT_FAIL 0 = false ∧ 1 ≤ s1.signer ∧ s1.signer ≤ 4 ∧ s1.signerActive s1.signer = true ∧ k = 3 ∧
      s1.lifecycle = 1 ∧ p.length = 1 ∧ leNat p = 2) ∧
    (∃ (k : Nat) (cls : Nat) (v : Nat) (p : List Byte) (s : State) (s1 : State) (s2 : State), s.gate .host .SEC_CMD 0 = .pass ∧
      s.sec.job = none ∧ s.pwr.mode = .serve ∧ s1 = s.setFld F.SEC_CMD_OP 0 k ∧ s2 = s1.dropChallenge ∧ p = s1.param ∧
      s1.flag F.PWR_STAT_BOOT_FAIL 0 = false ∧ 1 ≤ s1.signer ∧ s1.signer ≤ 4 ∧ s1.signerActive s1.signer = true ∧ k = 4 ∧
      s1.lifecycle = 2 ∧ p.length = 4) ∧
    (∃ (k : Nat) (cls : Nat) (v : Nat) (p : List Byte) (s : State) (s1 : State) (s2 : State), s.gate .host .SEC_CMD 0 = .pass ∧
      s.sec.job = none ∧ s.pwr.mode = .serve ∧ s1 = s.setFld F.SEC_CMD_OP 0 k ∧ s2 = s1.dropChallenge ∧ p = s1.param ∧
      s1.flag F.PWR_STAT_BOOT_FAIL 0 = false ∧ 1 ≤ s1.signer ∧ s1.signer ≤ 4 ∧ s1.signerActive s1.signer = true ∧ k = 6 ∧
      s1.lifecycle ≠ 4 ∧ p.length = 2 ∧ cls = leNat (p.take 1) ∧ v = leNat (p.drop 1) ∧ 8 ≤ cls ∧ cls < 16 ∧ s2.rollbackOf cls < v ∧
      v ≤ s2.topRollback cls) ∧
    (∃ (k : Nat) (cls : Nat) (v : Nat) (p : List Byte) (s : State) (s1 : State) (s2 : State), s.gate .host .SEC_CMD 0 = .pass ∧
      s.sec.job = none ∧ s.pwr.mode = .serve ∧ s1 = s.setFld F.SEC_CMD_OP 0 k ∧ s2 = s1.dropChallenge ∧ p = s1.param ∧
      s1.flag F.PWR_STAT_BOOT_FAIL 0 = false ∧ 1 ≤ s1.signer ∧ s1.signer ≤ 4 ∧ s1.signerActive s1.signer = true ∧ k = 7 ∧
      s1.lifecycle = 1 ∧ p.length = 1 ∧ leNat p < 4 ∧ leNat p + 1 ≠ s1.signer ∧
      ((List.range 4).any fun m => m != leNat p && s2.slotActive m) = true) ∧
    (∃ (s : State), s.sec.job = some .restart) ∧
    (∃ (s : State), s.sec.job = none) :=
  ⟨⟨{}, true, { up with sec := { job := some .restart } }, by decide⟩,
   ⟨inMode .ember, by decide⟩,
   ⟨_, bodied up (1 :: List.replicate 97 0), _, _, by decide, by decide, by decide, rfl, by decide, by decide, rfl, by decide,
     by decide, by decide, rfl⟩,
   ⟨up, _, by decide, by decide, by decide, rfl, by decide⟩,
   ⟨up, _, by decide, by decide, by decide, rfl, by decide⟩,
   ⟨bodied up (List.replicate 32 0), _, by decide, by decide, by decide, rfl, by decide⟩,
   ⟨bodied up (List.replicate 8 0 ++ [1] ++ List.replicate 7 0), _, {}, by decide, by decide, by decide, rfl, by decide⟩,
   ⟨up, _, true, by decide, by decide, by decide, rfl, by decide⟩,
   ⟨{ up with sec := { staged := true } }, _, by decide, by decide, by decide, rfl, by decide⟩,
   ⟨up, _, by decide, by decide, by decide, by decide, rfl, by decide⟩,
   ⟨up, _, by decide, by decide, by decide, by decide, rfl, by decide⟩,
   ⟨up, _, by decide, by decide, by decide, by decide, rfl, by decide⟩,
   ⟨up, _, by decide, by decide, by decide, by decide, rfl, by decide⟩,
   ⟨up, _, by decide, by decide, by decide, by decide, rfl, by decide⟩,
   ⟨2, 0, 0, _, bodied (owned 1) (signedBody 2 (List.replicate 145 0)), _, _, by decide, by decide, by decide, rfl, rfl, rfl,
     by decide⟩,
   ⟨3, 0, 0, _, bodied (owned 1) (signedBody 3 [2]), _, _, by decide, by decide, by decide, rfl, rfl, rfl, by decide⟩,
   ⟨4, 0, 0, _, bodied (owned 2) (signedBody 4 [0, 0, 0, 0]), _, _, by decide, by decide, by decide, rfl, rfl, rfl, by decide⟩,
   ⟨6, 8, 1, _,
     { bodied (owned 1) (signedBody 6 [8, 1]) with prog := { packs := [(0, { state := .resident, image := { cls := 8, rollback := 1 } })] } },
     _, _, by decide, by decide, by decide, rfl, rfl, rfl, by decide⟩,
   ⟨7, 0, 0, _, bodied (owned 1) (signedBody 7 [1]), _, _, by decide, by decide, by decide, rfl, rfl, rfl, by decide⟩,
   ⟨{ up with sec := { job := some .restart } }, by decide⟩,
   ⟨up, by decide⟩⟩

/-- States and operands that meet the hypotheses of `DebugTamperAndKeysAct`, clause by clause. -/
theorem witness_DebugTamperAndKeysAct :
    (∃ (u : Nat) (s : State), s.sec.unlock = some u) ∧
    (∃ (w : Word) (s : State) (s1 : State), s.gate .host .DBG_LEVEL 0 = .pass ∧ s1 = s.store .DBG_LEVEL 0 w ∧
      s1.fld F.DBG_LEVEL_REQ 0 ≤ s1.levelCap) ∧
    (∃ (w : Word) (s : State) (s1 : State), s.gate .host .DBG_LEVEL 0 = .pass ∧ s1 = s.store .DBG_LEVEL 0 w ∧
      s1.levelCap < s1.fld F.DBG_LEVEL_REQ 0 ∧ s.sec.unlock = none) ∧
    (∃ (n : Nat) (levels : Nat) (s : State) (s1 : State), s.pwr.mode ≠ .off ∧ n < 4 ∧
      s1 = { s with pins := { s.pins with tamper := levels % 16 } } ∧ s1.tamperLive n = true ∧ s.tamperLive n = false) ∧
    (∃ (n : Nat) (levels : Nat) (s : State) (s1 : State), s.pwr.mode ≠ .off ∧ n < 4 ∧
      s1 = { s with pins := { s.pins with tamper := levels % 16 } } ∧ (s1.tamperLive n = false ∨ s.tamperLive n = true)) ∧
    (∃ (who : Who) (k : Nat) (t : Task) (s : State) (s1 : State), s.gate who .DBG_ENGCTL 0 = .pass ∧
      s1 = s.setFld F.DBG_ENGCTL_OP 0 1 ∧ k = 4 * s1.fld F.DBG_ENGSEL_ENG 0 + s1.fld F.DBG_ENGSEL_CTX 0 ∧ s1.level < 2) ∧
    (∃ (who : Who) (k : Nat) (t : Task) (s : State) (s1 : State), s.gate who .DBG_ENGCTL 0 = .pass ∧
      s1 = s.setFld F.DBG_ENGCTL_OP 0 1 ∧ k = 4 * s1.fld F.DBG_ENGSEL_ENG 0 + s1.fld F.DBG_ENGSEL_CTX 0 ∧ 2 ≤ s1.level ∧
      (s1.ctx k).task.bind s1.task = some t ∧ (s1.pack t.slot).image.sealedImg = false) ∧
    (∃ (who : Who) (k : Nat) (t : Task) (s : State) (s1 : State), s.gate who .DBG_ENGCTL 0 = .pass ∧
      s1 = s.setFld F.DBG_ENGCTL_OP 0 2 ∧ k = 4 * s1.fld F.DBG_ENGSEL_ENG 0 + s1.fld F.DBG_ENGSEL_CTX 0 ∧ 2 ≤ s1.level ∧
      (s1.ctx k).task.bind s1.task = some t ∧ (s1.pack t.slot).image.sealedImg = false) ∧
    (∃ (who : Who) (k : Nat) (t : Task) (s : State) (s1 : State), s.gate who .DBG_ENGCTL 0 = .pass ∧
      s1 = s.setFld F.DBG_ENGCTL_OP 0 3 ∧ k = 4 * s1.fld F.DBG_ENGSEL_ENG 0 + s1.fld F.DBG_ENGSEL_CTX 0 ∧ 2 ≤ s1.level ∧
      (s1.ctx k).task.bind s1.task = some t ∧ (s1.pack t.slot).image.sealedImg = false) ∧
    (∃ (src : Src) (eui : Nat) (key : List Byte) (s : State) (s1 : State), s.starts src 0x20 = true ∧ s1 = s.start src ∧
      s1.mac.prov.length < 65536) ∧
    (∃ (src : Src) (key : List Byte) (s : State) (s1 : State), s.starts src 0x22 = true ∧ s1 = s.start src) ∧
    (∃ (key : List Byte) (s : State), s.sec.kek = none) :=
  ⟨⟨0, { up with sec := { unlock := some 0 } }, by decide⟩,
   ⟨1, up, _, by decide, rfl, by decide⟩,
   ⟨3, { up with sec := { lcRec := { lc := 2 } } }, _, by decide, rfl, by decide⟩,
   ⟨0, 15, { tamperUp with pins := { tamperUp.pins with tamper := 14 } }, _, by decide, by decide, rfl, by decide⟩,
   ⟨3, 15, up, _, by decide, by decide, rfl, by decide⟩,
   ⟨.host, 0, ⟨0, 0, 0, 0, 0, 0, 0, true, 0⟩, up, _, by decide, rfl, by decide⟩,
   ⟨.host, 0, ⟨0, 0, 0, 0, 0, 0, 0, true, 0⟩, dbgUp, _, by decide, rfl, by decide⟩,
   ⟨.host, 0, ⟨0, 0, 0, 0, 0, 0, 0, true, 0⟩, dbgUp, _, by decide, rfl, by decide⟩,
   ⟨.host, 0, ⟨0, 0, 0, 0, 0, 0, 0, true, 0⟩, dbgUp, _, by decide, rfl, by decide⟩,
   ⟨.queue 0 7, 5, [], asked up 0x20, _, by decide, rfl, by decide⟩,
   ⟨.queue 0 7, [], asked up 0x22, _, by decide, rfl⟩,
   ⟨[], up, by decide⟩⟩

/-- States and operands that meet the hypotheses of `HostQueuesWindowsAndWrites`, clause by clause. -/
theorem witness_HostQueuesWindowsAndWrites :
    (∃ (q : Nat) (v : Word) (s : State) (s2 : State), s.gate .host .HST_QCFG q = .pass ∧ s.flag F.HST_QCFG_EN q = false ∧
      getBits (plainWrite .HST_QCFG (s.reg .HST_QCFG q) v) 16 8 ≠ 255 ∧
      s2 = (s.setReg .HST_QCFG q (plainWrite .HST_QCFG (s.reg .HST_QCFG q) v)).setFld F.HST_QCFG_EN q 1) ∧
    (∃ (q : Nat) (v : Word) (s : State), s.gate .host .HST_QCFG q = .pass ∧
      getBits (plainWrite .HST_QCFG (s.reg .HST_QCFG q) v) 16 8 ≠ 255) ∧
    (∃ (q : Nat) (tail : Nat) (l : List Sqe) (s : State) (s1 : State), s.gate .host .HST_SQT q = .pass ∧
      s1 = s.setReg .HST_SQT q (BitVec.ofNat 32 tail) ∧ s.flag F.HST_QCFG_EN q = true) ∧
    (∃ (q : Nat) (tail : Nat) (l : List Sqe) (s : State) (s1 : State), s.gate .host .HST_SQT q = .pass ∧
      s1 = s.setReg .HST_SQT q (BitVec.ofNat 32 tail) ∧ s.flag F.HST_QCFG_EN q = false) ∧
    (∃ (q : Nat) (head : Nat) (s : State), s.gate .host .HST_CQH q = .pass) ∧
    (∃ (src : Src) (s : State), s.starts src 0 = true) ∧
    (∃ (q : Nat) (r : Rec) (s : State), firstComp q s.hst.comps = some r ∧ s.flag F.HST_QCFG_EN q = true ∧ s.cqFull q = false) ∧
    (∃ (q : Nat) (r : Rec) (s : State), firstComp q s.hst.comps = some r ∧ s.flag F.HST_QCFG_EN q = true ∧ s.cqFull q = true) ∧
    (∃ (r : Rec) (l : List Rec) (s : State), s.canPost = true ∧ s.cqFull (s.fld F.HST_EVTQ_PAIR 0) = false ∧ s.hst.held = [] ∧
      s.hst.raised = r :: l) ∧
    (∃ (r : Rec) (l : List Rec) (s : State) (s1 : State), s.canPost = false ∧ s.hst.raised = r :: l ∧
      s1 = ({ s with hst := { s.hst with raised := l } }).mirrorEvent r ∧ s1.hst.held.length < 64) ∧
    (∃ (r : Rec) (l : List Rec) (s : State), s.canPost = true ∧ s.cqFull (s.fld F.HST_EVTQ_PAIR 0) = true ∧ s.hst.held = r :: l) ∧
    (∃ (i : Nat) (s : State), s.gate .host .HST_FBDRET 0 = .pass ∧ s.hst.retRing.length < 4096) ∧
    (∃ (i : Nat) (s : State), s.gate .host .HST_FBDRET 0 = .pass ∧ 4096 ≤ s.hst.retRing.length) ∧
    (∃ (q : Nat) (s : State), Tab.get (fun _ => false) s.hst.coalescing q = true) ∧
    (∃ (p : Nat) (who : Who) (v : Word) (s : State) (s1 : State), s.gate who .ETH_CFG p = .pass ∧ s.flag F.ETH_CFG_EN p = true ∧
      s1 = s.setReg .ETH_CFG p (ethCfgForm (plainWrite .ETH_CFG (s.reg .ETH_CFG p) v)) ∧ s1.flag F.ETH_CFG_EN p = false) ∧
    (∃ (ofs : Nat) (n : Nat) (h : Nat) (o : Nat) (x : Handle) (v : DWord) (s : State), s.hostPath = true ∧
      s.window ofs = some (h, o) ∧ s.handle h = some x ∧ o + n ≤ x.size ∧ s.hostMayRead x = true) ∧
    (∃ (ofs : Nat) (n : Nat) (h : Nat) (o : Nat) (x : Handle) (v : DWord) (s : State), s.hostPath = true ∧
      s.window ofs = some (h, o) ∧ s.handle h = some x ∧ o + n ≤ x.size ∧ s.hostMayRead x = false) ∧
    (∃ (ofs : Nat) (n : Nat) (h : Nat) (o : Nat) (x : Handle) (v : DWord) (s : State), s.hostPath = true ∧
      s.window ofs = some (h, o) ∧ s.handle h = some x ∧ o + n ≤ x.size ∧ s.hostMayWrite x = true) ∧
    (∃ (ofs : Nat) (n : Nat) (h : Nat) (o : Nat) (x : Handle) (v : DWord) (s : State), s.hostPath = true ∧
      s.window ofs = some (h, o) ∧ s.handle h = some x ∧ o + n ≤ x.size ∧ s.hostMayWrite x = false) ∧
    (∃ (who : Who) (ofs : Nat) (i : Nat) (r : Reg) (v : Word) (e : WriteEnv) (s : State), windowAt ofs = false ∧
      regAt ofs = some (r, i) ∧ s.gate who r i = .pass) ∧
    (∃ (who : Who) (ofs : Nat) (i : Nat) (r : Reg) (v : Word) (e : WriteEnv) (s : State), windowAt ofs = false ∧
      regAt ofs = some (r, i) ∧ s.gate who r i = .deny) ∧
    (∃ (who : Who) (ofs : Nat) (i : Nat) (r : Reg) (v : Word) (e : WriteEnv) (s : State), windowAt ofs = false ∧
      regAt ofs = some (r, i) ∧ (s.gate who r i = .refuse ∨ s.gate who r i = .lost)) ∧
    (∃ (ofs : Nat) (v : Word) (e : WriteEnv) (s : State), 0x1480000 ≤ ofs ∧ ofs < 0x1481000 ∧ ofs % 4 = 0 ∧ s.hostPath = true ∧
      s.homeOn .core = true ∧ s.bootReach ofs = true) ∧
    (∃ (p : Nat) (g : Nat) (svc : Nat) (dclass : Nat) (ref : Nat) (len : Nat) (s : State), p < 2 ∧ s.serves (domEth p) = true ∧
      s.flag F.ETH_CFG_EN p = true ∧ s.flag F.ETH_CFG_HE p = true ∧ dclass ≠ 2 ∧ len ≤ 9200) ∧
    (∃ (p : Nat) (g : Nat) (svc : Nat) (dclass : Nat) (ref : Nat) (len : Nat) (s : State), p < 2 ∧ s.serves (domEth p) = true ∧
      s.flag F.ETH_CFG_EN p = true ∧ s.flag F.ETH_CFG_HE p = true ∧ dclass ≠ 2) :=
  ⟨⟨63, 0, up, _, by decide, by decide, by decide, rfl⟩,
   ⟨63, 0, up, by decide⟩,
   ⟨0, 1, [], up.setFld F.HST_QCFG_EN 0 1, _, by decide, rfl, by decide⟩,
   ⟨0, 1, [], up, _, by decide, rfl, by decide⟩,
   ⟨0, 1, up, by decide⟩,
   ⟨.queue 0 7, asked up 0, by decide⟩,
   ⟨0, { event := true, status := .ok, id := 0, page := 0 },
     { up.setFld F.HST_QCFG_EN 0 1 with hst := { comps := [(0, { event := true, status := .ok, id := 0, page := 0 })] } }, by decide⟩,
   ⟨0, { event := true, status := .ok, id := 0, page := 0 },
     { (up.setFld F.HST_QCFG_EN 0 1).setReg .HST_CQH 0 1 with hst := { comps := [(0, { event := true, status := .ok, id := 0, page := 0 })] } },
     by decide⟩,
   ⟨{ event := true, status := .ok, id := 0, page := 0 }, [],
     { up.setFld F.HST_QCFG_EN 0 1 with hst := { raised := [{ event := true, status := .ok, id := 0, page := 0 }] } }, by decide⟩,
   ⟨{ event := true, status := .ok, id := 0, page := 0 }, [],
     { up with hst := { raised := [{ event := true, status := .ok, id := 0, page := 0 }] } }, _, by decide, by decide, rfl, by decide⟩,
   ⟨{ event := true, status := .ok, id := 0, page := 0 }, [],
     { (up.setFld F.HST_QCFG_EN 0 1).setReg .HST_CQH 0 1 with hst := { held := [{ event := true, status := .ok, id := 0, page := 0 }] } },
     by decide⟩,
   ⟨5, up, by decide⟩,
   ⟨5, { up with hst := { retRing := List.replicate 4096 0 } }, by decide⟩,
   ⟨5, { up with hst := { coalescing := [(5, true)] } }, by decide⟩,
   ⟨1, .host, 0, up.setFld F.ETH_CFG_EN 1 1, _, by decide, by decide, rfl, by decide⟩,
   ⟨0, 4, 70, 0, { size := 4096, hostRead := true }, 0, winUp true false, by decide⟩,
   ⟨0, 4, 70, 0, { size := 4096, hostRead := false }, 0, winUp false false, by decide⟩,
   ⟨0, 4, 70, 0, { size := 4096, hostWrite := true }, 0, winUp false true, by decide⟩,
   ⟨0, 4, 70, 0, { size := 4096 }, 0, winUp false false, by decide⟩,
   ⟨.host, 0, 0, _, 5, {}, up, by decide, rfl, by decide⟩,
   ⟨.host, 0x400000, 0, _, 5, {}, { up with pwr := { up.pwr with doms := [(178, .on)] } }, by decide, rfl, by decide⟩,
   ⟨.pack 3, 0x200000, 0, _, 5, {}, up, by decide, rfl, by decide⟩,
   ⟨0x1480FFC, 5, {}, up, by decide⟩,
   ⟨1, 5, 1, 0, 0, 9200, heUp, by decide⟩,
   ⟨1, 5, 1, 0, 0, 9200, heUp, by decide⟩⟩

/-- States and operands that meet the hypotheses of `TrailPortsSendAndReceive`, clause by clause. -/
theorem witness_TrailPortsSendAndReceive :
    (∃ (p : Nat) (data : Nat) (s : State) (s0 : State), p < 8 ∧ s.tpListens p = true ∧ (s.tport p).held = false ∧
      tpMode (s.tport p).rxCfg = 0 ∧ getBits (s.tport p).rxCfg 8 3 = 0 ∧ s.flag F.TP_CFG_FLOW p = false ∧
      data % 2 ^ tpBits (s.tport p).rxCfg ≠ 0 ∧ s0 = s.setTport p { s.tport p with line := true, fell := none }) ∧
    (∃ (p : Nat) (data : Nat) (bit : Bool) (stop : Bool) (s : State), (s.tport p).held = true ∨ s.tpListens p = false) ∧
    (∃ (p : Nat) (who : Who) (s : State), s.readable who .TP_RXD p = true ∧ (s.tport p).rx = []) ∧
    (∃ (p : Nat) (who : Who) (s : State) (e : _) (l : _), s.readable who .TP_RXD p = true ∧ (s.tport p).rx = e :: l) ∧
    (∃ (p : Nat) (who : Who) (v : Word) (s : State), s.gate who .TP_TXD p = .pass ∧ (s.tport p).tx.length < 64) ∧
    (∃ (p : Nat) (who : Who) (v : Word) (s : State), s.gate who .TP_TXD p = .pass ∧ 64 ≤ (s.tport p).tx.length) ∧
    (∃ (p : Nat) (s : State), (s.tport p).shifter.isSome = true ∧ tpMode (s.tport p).txCfg ≠ 2) ∧
    (∃ (p : Nat) (who : Who) (s : State), s.gate who .TP_CMD p = .pass) ∧
    (∃ (p : Nat) (s : State), p < 8 ∧ (s.tport p).shifter = none) ∧
    (∃ (p : Nat) (s : State), p < 8 ∧ (s.tport p).shifter ≠ none) ∧
    (∃ (p : Nat) (s : State), p < 8) ∧
    (∃ (p : Nat) (s : State), p < 8 ∧ s.tpListens p = true ∧ (s.tport p).held = false ∧ tpMode (s.tport p).rxCfg ≠ 2 ∧
      (∀ t, (s.tport p).fell = some t → t + s.breakNs p ≤ stampNs s.now)) ∧
    (∃ (p : Nat) (s : State), (s.tport p).held = true) ∧
    (∃ (p : Nat) (data : Nat) (s : State) (s1 : State), (s.tport p).shifter.isSome = true ∧ tpMode (s.tport p).txCfg = 2 ∧
      s.draining (domTp p) = false ∧
      s1 = (s.setTport p { s.tport p with shifter := none }).tpStore p (data % 2 ^ tpBits (s.tport p).txCfg)) ∧
    (∃ (p : Nat) (who : Who) (v : Word) (s : State) (s1 : State) (s2 : State), s.gate who .TP_CFG p = .pass ∧
      s.flag F.TP_CFG_EN p = true ∧ (s.tport p).shifter ≠ none ∧
      s1 = s.setReg .TP_CFG p (tpCfgForm (plainWrite .TP_CFG (s.reg .TP_CFG p) (putBits v 0 1 0))) ∧
      s2 = s1.setReg .TP_BAUD p (tpBaudForm (s1.reg .TP_CFG p) (s1.reg .TP_BAUD p)) ∧ s2.flag F.TP_CFG_EN p = false) :=
  ⟨⟨7, 1, tpUp, _, by decide, by decide, by decide, by decide, by decide, by decide, by decide, rfl⟩,
   ⟨7, 0, true, true, up, by decide⟩,
   ⟨7, .host, up, by decide⟩,
   ⟨7, .host, { up with tp := [(7, { rx := [5] })] }, 5, [], by decide⟩,
   ⟨7, .host, 0, { up with tp := [(7, { tx := List.replicate 63 0 })] }, by decide⟩,
   ⟨7, .host, 0, { up with tp := [(7, { tx := List.replicate 64 0 })] }, by decide⟩,
   ⟨7, { up with tp := [(7, { shifter := some .brk })] }, by decide⟩,
   ⟨7, .host, up, by decide⟩,
   ⟨7, up, by decide⟩,
   ⟨7, { up with tp := [(7, { shifter := some .brk })] }, by decide⟩,
   ⟨7, up, by decide⟩,
   ⟨7, tpUp, by decide⟩,
   ⟨7, { up with tp := [(7, { held := true })] }, by decide⟩,
   ⟨7, 0, { up with tp := [(7, { shifter := some .brk, txCfg := 0x00100060 })] }, _, by decide, by decide, by decide, rfl⟩,
   ⟨7, .host, 0, { up.setFld F.TP_CFG_EN 7 1 with tp := [(7, { shifter := some .brk })] }, _, _, by decide, by decide, by decide, rfl,
     rfl, by decide⟩⟩

end Sys2Proof.Tests
end

