-- ==== Sys2Proof/Tests/Witness5.lean ====
section
/-! SUPPORT. States and operands that meet the hypotheses of the statements 41 to 50. -/

set_option linter.unusedVariables false
set_option maxRecDepth 20000

namespace Sys2Proof.Tests

open Sys2Proof Sys2Proof.Machine

/-- States and operands that meet the hypotheses of `ScalarInstructionsCompute`, clause by clause. -/
theorem witness_ScalarInstructionsCompute :
    (∃ (k : Nat) (t : Nat) (f : FmtR) (x : Task) (s : State), s.Issues k 1 [.s f.a.toNat, .s f.b.toNat, .s f.d.toNat] t x ∧ f.pg = 0 ∧
      f.ty = 0) ∧
    (∃ (k : Nat) (t : Nat) (f : FmtR) (x : Task) (s : State), s.Issues k 1 [.s f.a.toNat, .s f.d.toNat] t x ∧ f.b = 0 ∧ f.pg = 0 ∧
      f.ty = 0) ∧
    (∃ (k : Nat) (t : Nat) (f : FmtI) (x : Task) (s : State), s.Issues k 1 [.s f.a.toNat, .s f.d.toNat] t x) ∧
    (∃ (k : Nat) (t : Nat) (f : FmtE) (x : Task) (s : State), s.Issues k 2 [.s f.d.toNat] t x ∧ f.a = 0 ∧ f.imm = 0) ∧
    (∃ (k : Nat) (t : Nat) (f : FmtI) (x : Task) (s : State), s.Issues k 1 [.s f.d.toNat] t x ∧ f.a = 0) ∧
    (∃ (k : Nat) (d : Nat) (j : Nat) (n : Nat) (v : DWord) (s : State), d ≠ 0) ∧
    (∃ (k : Nat) (d : Nat) (j : Nat) (n : Nat) (v : DWord) (s : State), j ≠ d) :=
  ⟨⟨0, 1, ⟨9, 1, 2, 0, 0⟩, idnTask, idn, issues (by decide), by decide, by decide⟩,
   ⟨0, 1, ⟨9, 1, 0, 0, 0⟩, idnTask, idn, issues (by decide), by decide, by decide, by decide⟩,
   ⟨0, 1, ⟨9, 1, 7⟩, idnTask, idn, issues (by decide)⟩,
   ⟨0, 1, ⟨9, 0, 0, 0x80000000⟩, idnTask, idn, issues (by decide), by decide, by decide⟩,
   ⟨0, 1, ⟨9, 0, 1⟩, idnTask, idn, issues (by decide), by decide⟩,
   ⟨0, 5, 6, 1, 7, idn, by decide⟩,
   ⟨0, 5, 6, 1, 7, idn, by decide⟩⟩

/-- States and operands that meet the hypotheses of `ControlInstructionsMoveTheProgramCounter`, clause by clause. -/
theorem witness_ControlInstructionsMoveTheProgramCounter :
    (∃ (k : Nat) (t : Nat) (f : FmtR) (x : Task) (s : State), s.Issues k 1 [] t x ∧ f.d = 0 ∧ f.a = 0 ∧ f.b = 0 ∧ f.pg = 0 ∧ f.ty = 0) ∧
    (∃ (k : Nat) (t : Nat) (f : FmtR) (x : Task) (s : State), s.Issues k 1 [.s f.a.toNat] t x ∧ f.d = 0 ∧ f.b = 0 ∧ f.pg = 0 ∧
      f.ty = 0) ∧
    (∃ (k : Nat) (t : Nat) (f : FmtR) (x : Task) (s : State), s.Issues k 1 [] t x ∧ f.d = 0 ∧ f.a = 0 ∧ f.b.toNat ≤ 2 ∧ f.pg = 0 ∧
      f.ty = 0) ∧
    (∃ (k : Nat) (t : Nat) (f : FmtR) (x : Task) (s : State), s.Issues k 1 [.s 31] t x ∧ f.d = 0 ∧ f.a = 0 ∧ f.b = 0 ∧ f.pg = 0 ∧
      f.ty = 0) ∧
    (∃ (k : Nat) (t : Nat) (f : FmtR) (x : Task) (s : State), s.Issues k 1 [.s f.d.toNat] t x ∧ f.a = 0 ∧ f.b = 0 ∧ f.pg = 0 ∧
      f.ty = 0) ∧
    (∃ (k : Nat) (t : Nat) (f : FmtB) (x : Task) (s : State), s.Issues k 1 [] t x ∧ f.a = 0) ∧
    (∃ (k : Nat) (t : Nat) (f : FmtB) (x : Task) (s : State), s.Issues k 1 [.s f.a.toNat] t x) ∧
    (∃ (k : Nat) (t : Nat) (f : FmtB) (x : Task) (s : State), s.Issues k 1 [.s 31] t x ∧ f.a = 0) ∧
    (∃ (k : Nat) (t : Nat) (f : FmtR) (x : Task) (s : State), (s.ctx k).task = some t ∧ s.task t = some x ∧ s.mayIssue k x = false) ∧
    (∃ (k : Nat) (t : Nat) (f : FmtR) (x : Task) (s : State), (s.ctx k).task = some t ∧ s.task t = some x ∧ s.mayIssue k x = true ∧
      s.fetchOk k x 4 = false) ∧
    (∃ (k : Nat) (t : Nat) (f : FmtR) (x : Task) (s : State), (s.ctx k).task = some t ∧ s.task t = some x ∧ s.mayIssue k x = true ∧
      s.fetchOk k x 4 = true ∧ f.pg ≠ 0) ∧
    (∃ (k : Nat) (t : Nat) (f : FmtR) (x : Task) (s : State), (s.ctx k).task = some t ∧ s.task t = some x ∧ s.mayIssue k x = true ∧
      s.fetchOk k x 4 = true ∧ f.pg = 0 ∧ f.ty = 0 ∧ (s.ctx k).busy.contains (.s f.b.toNat) = true) :=
  ⟨⟨0, 1, ⟨0, 0, 0, 0, 0⟩, idnTask, idn, issues (by decide), by decide, by decide, by decide, by decide, by decide⟩,
   ⟨0, 1, ⟨0, 1, 0, 0, 0⟩, idnTask, idn, issues (by decide), by decide, by decide, by decide, by decide⟩,
   ⟨0, 1, ⟨0, 0, 2, 0, 0⟩, idnTask, idn, issues (by decide), by decide, by decide, by decide, by decide, by decide⟩,
   ⟨0, 1, ⟨0, 0, 0, 0, 0⟩, idnTask, idn, issues (by decide), by decide, by decide, by decide, by decide, by decide⟩,
   ⟨0, 1, ⟨9, 0, 0, 0, 0⟩, idnTask, idn, issues (by decide), by decide, by decide, by decide, by decide⟩,
   ⟨0, 1, ⟨0, 0x1FFFFF⟩, idnTask, idn, issues (by decide), by decide⟩,
   ⟨0, 1, ⟨1, 0x1FFFFF⟩, idnTask, idn, issues (by decide)⟩,
   ⟨0, 1, ⟨0, 5⟩, idnTask, idn, issues (by decide), by decide⟩,
   ⟨0, 1, ⟨9, 1, 2, 0, 0⟩, idnTask, idnWait .tag, by decide⟩,
   ⟨0, 1, ⟨9, 1, 2, 0, 0⟩, idnTask, idnWith { idnCtx with pc := 4096 }, by decide⟩,
   ⟨0, 1, ⟨9, 1, 2, 1, 0⟩, idnTask, idn, by decide⟩,
   ⟨0, 1, ⟨9, 1, 2, 0, 0⟩, idnTask, idnWith { idnCtx with busy := [.s 2] }, by decide⟩⟩

/-- States and operands that meet the hypotheses of `LoadsAndStoresReachTheirBytes`, clause by clause. -/
theorem witness_LoadsAndStoresReachTheirBytes :
    (∃ (k : Nat) (t : Nat) (ofs : Nat) (size : Nat) (f : FmtM) (x : Task) (y : Target) (s : State),
      s.Issues k 1 [.s f.h.toNat, .s f.o.toNat, .s f.d.toNat] t x ∧ f.pg.toNat < 2 ∧ size = 2 ^ f.w.toNat ∧
      ofs = effOffset (s.sr k f.o.toNat) f.disp.toNat size ∧ (s.past k 1).target k t x ((s.sr k f.h.toNat).toNat % 2 ^ 32) = some y ∧
      y.kind ≠ .queue ∧ y.rights % 2 = 1 ∧ ofs + size ≤ y.size ∧ ofs % size = 0 ∧ y.isLocal = true) ∧
    (∃ (k : Nat) (t : Nat) (ofs : Nat) (size : Nat) (f : FmtM) (x : Task) (y : Target) (s : State) (s1 : _),
      s.Issues k 1 [.s f.h.toNat, .s f.o.toNat, .s f.d.toNat] t x ∧ f.pg.toNat < 2 ∧ size = 2 ^ f.w.toNat ∧
      ofs = effOffset (s.sr k f.o.toNat) f.disp.toNat size ∧ (s.past k 1).target k t x ((s.sr k f.h.toNat).toNat % 2 ^ 32) = some y ∧
      y.kind ≠ .queue ∧ y.rights % 2 = 1 ∧ ofs + size ≤ y.size ∧ ofs % size = 0 ∧ y.isLocal = false ∧
      (s.past k 1).hasTag (k / 4) = true ∧
      s1 = (s.past k 1).setCtx k { (s.past k 1).ctx k with busy := .s f.d.toNat :: ((s.past k 1).ctx k).busy }) ∧
    (∃ (k : Nat) (t : Nat) (ofs : Nat) (size : Nat) (f : FmtM) (x : Task) (y : Target) (s : State),
      s.Issues k 1 [.s f.h.toNat, .s f.o.toNat, .s f.d.toNat] t x ∧ f.pg.toNat < 2 ∧ size = 2 ^ f.w.toNat ∧
      ofs = effOffset (s.sr k f.o.toNat) f.disp.toNat size ∧ (s.past k 1).target k t x ((s.sr k f.h.toNat).toNat % 2 ^ 32) = some y ∧
      y.kind ≠ .queue ∧ y.rights % 2 = 1 ∧ ofs + size ≤ y.size ∧ ofs % size = 0 ∧ y.isLocal = false ∧
      (s.past k 1).hasTag (k / 4) = false) ∧
    (∃ (k : Nat) (t : Nat) (ofs : Nat) (size : Nat) (f : FmtM) (x : Task) (y : Target) (s : State),
      s.Issues k 1 [.s f.h.toNat, .s f.o.toNat, .s f.d.toNat] t x ∧ f.pg = 0 ∧ size = 2 ^ f.w.toNat ∧
      ofs = effOffset (s.sr k f.o.toNat) f.disp.toNat size ∧ (s.past k 1).target k t x ((s.sr k f.h.toNat).toNat % 2 ^ 32) = some y ∧
      y.kind ≠ .queue ∧ y.rights / 2 % 2 = 1 ∧ ofs + size ≤ y.size ∧ ofs % size = 0 ∧ y.isLocal = true) ∧
    (∃ (k : Nat) (t : Nat) (ofs : Nat) (size : Nat) (f : FmtM) (x : Task) (y : Target) (s : State) (s1 : _),
      s.Issues k 1 [.s f.h.toNat, .s f.o.toNat, .s f.d.toNat] t x ∧ f.pg = 0 ∧ size = 2 ^ f.w.toNat ∧
      ofs = effOffset (s.sr k f.o.toNat) f.disp.toNat size ∧ (s.past k 1).target k t x ((s.sr k f.h.toNat).toNat % 2 ^ 32) = some y ∧
      y.kind ≠ .queue ∧ y.rights / 2 % 2 = 1 ∧ ofs + size ≤ y.size ∧ ofs % size = 0 ∧ y.isLocal = false ∧
      (s.past k 1).hasTag (k / 4) = true ∧ s1 = (s.past k 1).setBytes y.obj ofs (natLe size (s.sr k f.d.toNat).toNat)) ∧
    (∃ (k : Nat) (t : Nat) (ofs : Nat) (f : FmtM) (x : Task) (y : Target) (s : State),
      s.Issues k 1 [.s f.h.toNat, .s f.o.toNat, .v f.d.toNat] t x ∧ f.d.toNat < 16 ∧ f.pg = 0 ∧ f.w = 0 ∧
      ofs = effOffset (s.sr k f.o.toNat) f.disp.toNat 64 ∧ (s.past k 1).target k t x ((s.sr k f.h.toNat).toNat % 2 ^ 32) = some y ∧
      y.kind ≠ .queue ∧ y.rights % 2 = 1 ∧ ofs + 64 ≤ y.size ∧ ofs % 64 = 0 ∧ y.isLocal = true) ∧
    (∃ (k : Nat) (t : Nat) (ofs : Nat) (f : FmtM) (x : Task) (y : Target) (s : State),
      s.Issues k 1 [.s f.h.toNat, .s f.o.toNat, .v f.d.toNat, .p f.pg.toNat] t x ∧ f.d.toNat < 16 ∧ f.w.toNat < 3 ∧
      ofs = effOffset (s.sr k f.o.toNat) f.disp.toNat 64 ∧ (s.past k 1).target k t x ((s.sr k f.h.toNat).toNat % 2 ^ 32) = some y ∧
      y.kind ≠ .queue ∧ y.rights / 2 % 2 = 1 ∧ ofs + 64 ≤ y.size ∧ ofs % 64 = 0 ∧ y.isLocal = true) ∧
    (∃ (k : Nat) (t : Nat) (size : Nat) (f : FmtM) (x : Task) (s : State),
      s.Issues k 1 [.s f.h.toNat, .s f.o.toNat, .s f.d.toNat] t x ∧ f.pg = 0 ∧ size = 2 ^ f.w.toNat ∧
      (s.past k 1).target k t x ((s.sr k f.h.toNat).toNat % 2 ^ 32) = none) ∧
    (∃ (id : Nat) (k : Nat) (t : Nat) (d : Nat) (h : Nat) (v : DWord) (e : Txn) (s : State) (u : State),
      s.fab.flight.find? (fun x => x.id == id && Txn.arrived x && x.admitted && s.mayAnswer x) = some e ∧ (s.ctx k).task = some t ∧
      u = (s.respond e.respN e.resp).land e ∧ e.kind = .loadScalar k t d v h) ∧
    (∃ (id : Nat) (k : Nat) (t : Nat) (d : Nat) (h : Nat) (v : DWord) (e : Txn) (s : State) (u : State) (c : _),
      s.fab.flight.find? (fun x => x.id == id && Txn.arrived x && x.admitted && s.mayAnswer x) = some e ∧ (s.ctx k).task = some t ∧
      u = (s.respond e.respN e.resp).land e ∧ e.kind = .store k t c ∧ s.copyLeft c = none) ∧
    (∃ (id : Nat) (k : Nat) (t : Nat) (d : Nat) (h : Nat) (v : DWord) (e : Txn) (s : State) (u : State) (c : _) (p : _),
      s.fab.flight.find? (fun x => x.id == id && Txn.arrived x && x.admitted && s.mayAnswer x) = some e ∧ (s.ctx k).task = some t ∧
      u = (s.respond e.respN e.resp).land e ∧ e.kind = .store k t c ∧ s.copyLeft c = some p) :=
  ⟨⟨0, 1, _, _, ⟨9, 3, 7, 1, 2, 1⟩, idnTask, ⟨70, 4096, .data, 3, true, false, [.store 0]⟩, idn, issues (by decide), by decide, rfl,
     rfl, by decide, by decide, by decide, by decide, by decide, by decide⟩,
   ⟨0, 1, _, _, ⟨9, 4, 7, 1, 2, 1⟩, idnTask, ⟨71, 4096, .data, 3, false, false, [.stack 0]⟩, idn, _, issues (by decide), by decide,
     rfl, rfl, by decide, by decide, by decide, by decide, by decide, by decide, by decide, rfl⟩,
   ⟨0, 1, _, _, ⟨9, 4, 7, 0, 3, 1⟩, idnTask, ⟨71, 4096, .data, 3, false, false, [.stack 0]⟩, idnNoTag idn, issues (by decide),
     by decide, rfl, rfl, by decide, by decide, by decide, by decide, by decide, by decide, by decide⟩,
   ⟨0, 1, _, _, ⟨9, 3, 7, 0, 0, 1⟩, idnTask, ⟨70, 4096, .data, 3, true, false, [.store 0]⟩, idn, issues (by decide), by decide, rfl,
     rfl, by decide, by decide, by decide, by decide, by decide, by decide⟩,
   ⟨0, 1, _, _, ⟨9, 4, 7, 0, 3, 1⟩, idnTask, ⟨71, 4096, .data, 3, false, false, [.stack 0]⟩, idn, _, issues (by decide), by decide,
     rfl, rfl, by decide, by decide, by decide, by decide, by decide, by decide, by decide, rfl⟩,
   ⟨0, 1, _, ⟨9, 3, 7, 0, 0, 1⟩, idnTask, ⟨70, 4096, .data, 3, true, false, [.store 0]⟩, idn, issues (by decide), by decide,
     by decide, by decide, rfl, by decide, by decide, by decide, by decide, by decide, by decide⟩,
   ⟨0, 1, _, ⟨9, 3, 7, 7, 2, 62⟩, idnTask, ⟨70, 4096, .data, 3, true, false, [.store 0]⟩, idn, issues (by decide), by decide,
     by decide, rfl, by decide, by decide, by decide, by decide, by decide, by decide⟩,
   ⟨0, 1, _, ⟨9, 1, 7, 0, 2, 1⟩, idnTask, idn, issues (by decide), by decide, rfl, by decide⟩,
   ⟨0, 0, 1, 9, 70, 7, { txn0 true true with kind := .loadScalar 0 1 9 7 70 },
     { idn with fab := { flight := [{ txn0 true true with kind := .loadScalar 0 1 9 7 70 }] } }, _, by decide, by decide, rfl,
     by decide⟩,
   ⟨0, 0, 1, 9, 70, 7, { txn0 true true with kind := .store 0 1 (none) },
     { idn with fab := { flight := [{ txn0 true true with kind := .store 0 1 (none) }] }, plc := { idn.plc with hbm := [(1, .serving)] } },
     _, none, by decide, by decide, rfl, by decide, by decide⟩,
   ⟨0, 0, 1, 9, 70, 7, { txn0 true true with kind := .store 0 1 (some 40) },
     { idn with fab := { flight := [{ txn0 true true with kind := .store 0 1 (some 40) }] }, plc := { idn.plc with hbm := [(1, .serving)] } },
     _, some 40, 40, by decide, by decide, rfl, by decide, by decide⟩⟩

/-- States and operands that meet the hypotheses of `VectorInstructionsWorkLaneByLane`, clause by clause. -/
theorem witness_VectorInstructionsWorkLaneByLane :
    (∃ (k : Nat) (t : Nat) (ty : Nat) (f : FmtR) (x : Task) (a : Vec) (b : Vec) (s : State),
      s.Issues k 1 [.v f.a.toNat, .v f.b.toNat, .v f.d.toNat, .p f.pg.toNat] t x ∧ f.d.toNat < 16 ∧ f.a.toNat < 16 ∧ f.b.toNat < 16 ∧
      ty = f.ty.toNat ∧ a = s.vr k f.a.toNat ∧ b = s.vr k f.b.toNat ∧ ty < 3) ∧
    (∃ (k : Nat) (t : Nat) (ty : Nat) (f : FmtR) (x : Task) (a : Vec) (b : Vec) (s : State),
      s.Issues k 1 [.v f.a.toNat, .v f.b.toNat, .v f.d.toNat, .p f.pg.toNat] t x ∧ f.d.toNat < 16 ∧ f.a.toNat < 16 ∧ f.b.toNat < 16 ∧
      ty = f.ty.toNat ∧ a = s.vr k f.a.toNat ∧ b = s.vr k f.b.toNat ∧ ty = 0) ∧
    (∃ (k : Nat) (t : Nat) (ty : Nat) (f : FmtR) (x : Task) (a : Vec) (b : Vec) (s : State),
      s.Issues k 1 [.v f.a.toNat, .v f.b.toNat, .v f.d.toNat, .p f.pg.toNat] t x ∧ f.d.toNat < 16 ∧ f.a.toNat < 16 ∧ f.b.toNat < 16 ∧
      ty = f.ty.toNat ∧ a = s.vr k f.a.toNat ∧ b = s.vr k f.b.toNat ∧ ty = 1) ∧
    (∃ (k : Nat) (t : Nat) (ty : Nat) (f : FmtR) (x : Task) (a : Vec) (b : Vec) (s : State),
      s.Issues k 1 [.v f.a.toNat, .v f.b.toNat, .v f.d.toNat, .p f.pg.toNat] t x ∧ f.d.toNat < 16 ∧ f.a.toNat < 16 ∧ f.b.toNat < 16 ∧
      ty = f.ty.toNat ∧ a = s.vr k f.a.toNat ∧ b = s.vr k f.b.toNat ∧ (ty = 1 ∨ ty = 2)) ∧
    (∃ (k : Nat) (t : Nat) (ty : Nat) (f : FmtR) (x : Task) (a : Vec) (s : State),
      s.Issues k 1 [.v f.a.toNat, .v f.a.toNat, .v f.d.toNat, .p f.pg.toNat] t x ∧ f.d.toNat < 16 ∧ f.a.toNat < 16 ∧ f.b = 0 ∧
      ty = f.ty.toNat ∧ a = s.vr k f.a.toNat ∧ ty = 0) ∧
    (∃ (k : Nat) (t : Nat) (ty : Nat) (f : FmtR) (x : Task) (a : Vec) (s : State),
      s.Issues k 1 [.v f.a.toNat, .v f.a.toNat, .v f.d.toNat, .p f.pg.toNat] t x ∧ f.d.toNat < 16 ∧ f.a.toNat < 16 ∧ f.b = 0 ∧
      ty = f.ty.toNat ∧ a = s.vr k f.a.toNat ∧ (ty = 1 ∨ ty = 2)) ∧
    (∃ (k : Nat) (t : Nat) (f : FmtR) (x : Task) (a : Vec) (s : State), s.Issues k 1 [.v f.a.toNat, .v f.d.toNat, .p f.pg.toNat] t x ∧
      f.d.toNat < 16 ∧ f.a.toNat < 16 ∧ a = s.vr k f.a.toNat ∧ f.b = 0 ∧ f.ty = 0) ∧
    (∃ (k : Nat) (t : Nat) (f : FmtR) (x : Task) (a : Vec) (s : State), s.Issues k 1 [.v f.a.toNat, .v f.d.toNat, .p f.pg.toNat] t x ∧
      f.d.toNat < 16 ∧ f.a.toNat < 16 ∧ a = s.vr k f.a.toNat ∧ f.b.toNat < 16 ∧ f.ty.toNat < 3) ∧
    (∃ (k : Nat) (t : Nat) (ty : Nat) (f : FmtR) (x : Task) (a : Vec) (b : Vec) (s : State),
      s.Issues k 1 [.v f.a.toNat, .v f.b.toNat, .p f.d.toNat, .p f.pg.toNat] t x ∧ f.d.toNat < 8 ∧ f.a.toNat < 16 ∧ f.b.toNat < 16 ∧
      ty = f.ty.toNat ∧ (ty = 1 ∨ ty = 2) ∧ a = s.vr k f.a.toNat ∧ b = s.vr k f.b.toNat) ∧
    (∃ (k : Nat) (t : Nat) (f : FmtR) (x : Task) (s : State), s.Issues k 1 [.s f.a.toNat, .v f.d.toNat, .p f.pg.toNat] t x ∧
      f.d.toNat < 16 ∧ f.b = 0 ∧ f.ty.toNat < 3) ∧
    (∃ (k : Nat) (t : Nat) (f : FmtR) (x : Task) (s : State), s.Issues k 1 [.v f.a.toNat, .s f.d.toNat] t x ∧ f.a.toNat < 16 ∧
      f.pg = 0 ∧ f.ty.toNat < 3 ∧ f.b.toNat < laneCount f.ty.toNat) ∧
    (∃ (k : Nat) (t : Nat) (f : FmtR) (x : Task) (s : State), s.Issues k 1 [.v f.a.toNat, .s f.d.toNat] t x ∧ f.a.toNat < 16 ∧
      f.pg = 1 ∧ f.ty = 2) ∧
    (∃ (k : Nat) (t : Nat) (f : FmtR) (x : Task) (s : State), s.Issues k 1 [.v f.a.toNat, .v f.b.toNat, .v f.d.toNat] t x ∧
      f.d.toNat < 16 ∧ f.a.toNat < 16 ∧ f.b.toNat < 16 ∧ f.ty = 0 ∧ f.pg.toNat ≤ 4) ∧
    (∃ (k : Nat) (d : Nat) (j : Nat) (v : Vec) (s : State), j ≠ d) :=
  ⟨⟨0, 1, _, ⟨9, 1, 2, 7, 2⟩, idnTask, _, _, idn, issues (by decide), by decide, by decide, by decide, rfl, rfl, rfl, by decide⟩,
   ⟨0, 1, _, ⟨9, 1, 2, 7, 0⟩, idnTask, _, _, idn, issues (by decide), by decide, by decide, by decide, rfl, rfl, rfl, rfl⟩,
   ⟨0, 1, _, ⟨9, 1, 2, 7, 1⟩, idnTask, _, _, idn, issues (by decide), by decide, by decide, by decide, rfl, rfl, rfl, rfl⟩,
   ⟨0, 1, _, ⟨9, 1, 2, 7, 2⟩, idnTask, _, _, idn, issues (by decide), by decide, by decide, by decide, rfl, rfl, rfl, by decide⟩,
   ⟨0, 1, _, ⟨9, 1, 0, 7, 0⟩, idnTask, _, idn, issues (by decide), by decide, by decide, by decide, rfl, rfl, rfl⟩,
   ⟨0, 1, _, ⟨9, 1, 0, 7, 1⟩, idnTask, _, idn, issues (by decide), by decide, by decide, by decide, rfl, rfl, by decide⟩,
   ⟨0, 1, ⟨9, 1, 0, 7, 0⟩, idnTask, _, idn, issues (by decide), by decide, by decide, rfl, by decide, by decide⟩,
   ⟨0, 1, ⟨9, 1, 15, 7, 2⟩, idnTask, _, idn, issues (by decide), by decide, by decide, rfl, by decide, by decide⟩,
   ⟨0, 1, _, ⟨7, 1, 2, 7, 2⟩, idnTask, _, _, idn, issues (by decide), by decide, by decide, by decide, rfl, by decide, rfl, rfl⟩,
   ⟨0, 1, ⟨15, 1, 0, 7, 2⟩, idnTask, idn, issues (by decide), by decide, by decide, by decide⟩,
   ⟨0, 1, ⟨9, 1, 31, 0, 1⟩, idnTask, idn, issues (by decide), by decide, by decide, by decide, by decide⟩,
   ⟨0, 1, ⟨9, 1, 31, 1, 2⟩, idnTask, idn, issues (by decide), by decide, by decide, by decide⟩,
   ⟨0, 1, ⟨15, 1, 2, 4, 0⟩, idnTask, idn, issues (by decide), by decide, by decide, by decide, by decide, by decide⟩,
   ⟨0, 5, 6, 7, idn, by decide⟩⟩

/-- States and operands that meet the hypotheses of `AccumulatorsAndPredicatesAreWritten`, clause by clause. -/
theorem witness_AccumulatorsAndPredicatesAreWritten :
    (∃ (k : Nat) (t : Nat) (f : FmtR) (x : Task) (a : Vec) (b : Vec) (c : BitVec 1536) (s : State),
      s.Issues k 1 [.v f.a.toNat, .v f.b.toNat, .a f.d.toNat] t x ∧ f.d.toNat < 4 ∧ f.a.toNat < 16 ∧ f.b.toNat < 16 ∧ f.pg = 0 ∧
      f.ty = 0 ∧ a = s.vr k f.a.toNat ∧ b = s.vr k f.b.toNat ∧ c = s.ar k f.d.toNat) ∧
    (∃ (k : Nat) (t : Nat) (f : FmtR) (x : Task) (c : BitVec 1536) (s : State), s.Issues k 1 [.a f.d.toNat] t x ∧ f.d.toNat < 4 ∧
      f.a = 0 ∧ f.b = 0 ∧ f.pg = 0 ∧ f.ty = 0 ∧ c = s.ar k f.d.toNat) ∧
    (∃ (k : Nat) (t : Nat) (f : FmtR) (x : Task) (s : State), s.Issues k 1 [.a f.a.toNat, .v f.d.toNat] t x ∧ f.d.toNat < 16 ∧
      f.a.toNat < 4 ∧ f.pg = 0 ∧ f.ty = 0) ∧
    (∃ (k : Nat) (t : Nat) (f : FmtR) (x : Task) (s : State), s.Issues k 1 [.p f.a.toNat, .p f.b.toNat, .p f.d.toNat] t x ∧
      f.d.toNat < 8 ∧ f.a.toNat < 8 ∧ f.b.toNat < 8 ∧ f.pg = 0 ∧ f.ty = 0) ∧
    (∃ (k : Nat) (t : Nat) (f : FmtR) (x : Task) (s : State), s.Issues k 1 [.p f.a.toNat, .p f.d.toNat] t x ∧ f.d.toNat < 8 ∧
      f.a.toNat < 8 ∧ f.b = 0 ∧ f.pg = 0 ∧ f.ty = 0) ∧
    (∃ (k : Nat) (t : Nat) (f : FmtR) (x : Task) (s : State), f.b = 0 ∧ f.pg = 0 ∧ f.ty = 0 ∧
      s.Issues k 1 [.s f.a.toNat, .p f.d.toNat] t x ∧ f.d.toNat < 8) ∧
    (∃ (k : Nat) (t : Nat) (f : FmtR) (x : Task) (s : State), f.b = 0 ∧ f.pg = 0 ∧ f.ty = 0 ∧
      s.Issues k 1 [.p f.a.toNat, .s f.d.toNat] t x ∧ f.a.toNat < 8) ∧
    (∃ (k : Nat) (d : Nat) (j : Nat) (c : Nat → Int) (s : State), j ≠ d) ∧
    (∃ (k : Nat) (d : Nat) (j : Nat) (v : DWord) (s : State), d ≠ 0) ∧
    (∃ (k : Nat) (d : Nat) (j : Nat) (v : DWord) (s : State), j ≠ d) :=
  ⟨⟨0, 1, ⟨3, 1, 2, 0, 0⟩, idnTask, _, _, _, idn, issues (by decide), by decide, by decide, by decide, by decide, by decide, rfl, rfl,
     rfl⟩,
   ⟨0, 1, ⟨3, 0, 0, 0, 0⟩, idnTask, _, idn, issues (by decide), by decide, by decide, by decide, by decide, by decide, rfl⟩,
   ⟨0, 1, ⟨15, 3, 31, 0, 0⟩, idnTask, idn, issues (by decide), by decide, by decide, by decide, by decide⟩,
   ⟨0, 1, ⟨7, 1, 2, 0, 0⟩, idnTask, idn, issues (by decide), by decide, by decide, by decide, by decide, by decide⟩,
   ⟨0, 1, ⟨7, 1, 0, 0, 0⟩, idnTask, idn, issues (by decide), by decide, by decide, by decide, by decide, by decide⟩,
   ⟨0, 1, ⟨7, 1, 0, 0, 0⟩, idnTask, idn, by decide, by decide, by decide, issues (by decide), by decide⟩,
   ⟨0, 1, ⟨9, 7, 0, 0, 0⟩, idnTask, idn, by decide, by decide, by decide, issues (by decide), by decide⟩,
   ⟨0, 3, 2, fun _ => 0, idn, by decide⟩,
   ⟨0, 7, 6, 5, idn, by decide⟩,
   ⟨0, 7, 6, 5, idn, by decide⟩⟩

/-- States and operands that meet the hypotheses of `QueueInstructionsPassMessages`, clause by clause. -/
theorem witness_QueueInstructionsPassMessages :
    (∃ (k : Nat) (t : Nat) (h : Nat) (f : FmtR) (x : Task) (s : State), f.pg = 0 ∧ f.ty = 0 ∧ h = (s.sr k f.a.toNat).toNat % 2 ^ 32 ∧
      queueOk (s.target k t x h) 2 = true ∧ s.hasTag (k / 4) = true ∧ f.b.toNat < 16 ∧ s.Issues k 1 [.s f.a.toNat, .v f.b.toNat] t x ∧
      f.d = 0) ∧
    (∃ (k : Nat) (t : Nat) (h : Nat) (f : FmtR) (x : Task) (s : State), f.pg = 0 ∧ f.ty = 0 ∧ h = (s.sr k f.a.toNat).toNat % 2 ^ 32 ∧
      queueOk (s.target k t x h) 2 = true ∧ s.hasTag (k / 4) = true ∧ f.b.toNat < 16 ∧
      s.Issues k 1 [.s f.a.toNat, .v f.b.toNat, .s f.d.toNat] t x) ∧
    (∃ (k : Nat) (t : Nat) (h : Nat) (f : FmtR) (x : Task) (s : State), f.pg = 0 ∧ f.ty = 0 ∧ h = (s.sr k f.a.toNat).toNat % 2 ^ 32 ∧
      queueOk (s.target k t x h) 1 = true ∧ s.hasTag (k / 4) = true ∧ s.Issues k 1 [.s f.a.toNat, .v f.d.toNat] t x ∧ f.d.toNat < 16 ∧
      f.b = 0) ∧
    (∃ (k : Nat) (t : Nat) (h : Nat) (f : FmtR) (x : Task) (s : State), f.pg = 0 ∧ f.ty = 0 ∧ h = (s.sr k f.a.toNat).toNat % 2 ^ 32 ∧
      queueOk (s.target k t x h) 1 = true ∧ s.hasTag (k / 4) = true ∧ s.Issues k 1 [.s f.a.toNat, .s f.b.toNat, .v f.d.toNat] t x ∧
      f.d.toNat < 16) ∧
    (∃ (k : Nat) (t : Nat) (h : Nat) (f : FmtR) (x : Task) (s : State), f.pg = 0 ∧ f.ty = 0 ∧ h = (s.sr k f.a.toNat).toNat % 2 ^ 32 ∧
      queueOk (s.target k t x h) 1 = true ∧ s.hasTag (k / 4) = true ∧ s.Issues k 1 [.s f.a.toNat, .s f.d.toNat] t x ∧ f.b = 0) ∧
    (∃ (k : Nat) (t : Nat) (h : Nat) (f : FmtR) (x : Task) (s : State), s.Issues k 1 [.s f.a.toNat, .s f.d.toNat] t x ∧ f.b = 0 ∧
      f.pg = 0 ∧ f.ty = 0 ∧ h = (s.sr k f.a.toNat).toNat % 2 ^ 32 ∧ queueOk (s.target k t x h) 1 = false) ∧
    (∃ (k : Nat) (t : Nat) (h : Nat) (f : FmtR) (x : Task) (s : State), s.Issues k 1 [.s f.a.toNat, .s f.d.toNat] t x ∧ f.b = 0 ∧
      f.pg = 0 ∧ f.ty = 0 ∧ h = (s.sr k f.a.toNat).toNat % 2 ^ 32 ∧ queueOk (s.target k t x h) 1 = true ∧ s.hasTag (k / 4) = false) ∧
    (∃ (k : Nat) (h : Nat) (d : Nat) (m : Vec) (r : List Vec) (s : State), (s.ctx k).wait = .push h m ∧
      (s.queue h).length < s.queueCap h) ∧
    (∃ (k : Nat) (h : Nat) (d : Nat) (m : Vec) (r : List Vec) (s : State), (s.ctx k).wait = .push h m ∧
      ¬ (s.queue h).length < s.queueCap h) ∧
    (∃ (k : Nat) (h : Nat) (d : Nat) (m : Vec) (r : List Vec) (s : State), (s.ctx k).wait = .pop h d ∧ s.queue h = m :: r) ∧
    (∃ (k : Nat) (h : Nat) (d : Nat) (m : Vec) (r : List Vec) (s : State), (s.ctx k).wait = .pop h d ∧ s.queue h = []) ∧
    (∃ (k : Nat) (h : Nat) (d : Nat) (m : Vec) (r : List Vec) (s : State), (s.ctx k).wait = .running) ∧
    (∃ (h : Nat) (j : Nat) (q : List Vec) (s : State), j ≠ h) :=
  ⟨⟨0, 1, _, ⟨0, 5, 15, 0, 0⟩, idnTask, idn, by decide, by decide, rfl, by decide, by decide, by decide, issues (by decide), by decide⟩,
   ⟨0, 1, _, ⟨9, 5, 15, 0, 0⟩, idnTask, idn, by decide, by decide, rfl, by decide, by decide, by decide, issues (by decide)⟩,
   ⟨0, 1, _, ⟨15, 5, 0, 0, 0⟩, idnTask, idn, by decide, by decide, rfl, by decide, by decide, issues (by decide), by decide, by decide⟩,
   ⟨0, 1, _, ⟨15, 5, 2, 0, 0⟩, idnTask, idn, by decide, by decide, rfl, by decide, by decide, issues (by decide), by decide⟩,
   ⟨0, 1, _, ⟨9, 5, 0, 0, 0⟩, idnTask, idn, by decide, by decide, rfl, by decide, by decide, issues (by decide), by decide⟩,
   ⟨0, 1, _, ⟨9, 3, 0, 0, 0⟩, idnTask, idn, issues (by decide), by decide, by decide, by decide, rfl, by decide⟩,
   ⟨0, 1, _, ⟨9, 5, 0, 0, 0⟩, idnTask, idnNoTag idn, issues (by decide), by decide, by decide, by decide, rfl, by decide, by decide⟩,
   ⟨0, 72, 0, 7, [], { idnWait (.push 72 7) with prog := { (idnWait (.push 72 7)).prog with queues := [(72, [1])] } }, by decide⟩,
   ⟨0, 72, 0, 7, [], { idnWait (.push 72 7) with prog := { (idnWait (.push 72 7)).prog with queues := [(72, [1, 2])] } }, by decide⟩,
   ⟨0, 72, 3, 1, [2], { idnWait (.pop 72 3) with prog := { (idnWait (.pop 72 3)).prog with queues := [(72, [1, 2])] } }, by decide⟩,
   ⟨0, 72, 3, 1, [], idnWait (.pop 72 3), by decide⟩,
   ⟨0, 0, 0, 0, [], idn, by decide⟩,
   ⟨3, 4, [], idn, by decide⟩⟩

/-- States and operands that meet the hypotheses of `TasksStartEndAndMove`, clause by clause. -/
theorem witness_TasksStartEndAndMove :
    (∃ (k : Nat) (t : Nat) (f : FmtR) (x : Task) (s : State), s.Issues k 1 [.s f.a.toNat, .s f.b.toNat, .s f.d.toNat] t x ∧ f.pg = 0 ∧
      f.ty = 0) ∧
    (∃ (k : Nat) (t : Nat) (id : Nat) (f : FmtR) (x : Task) (s : State), s.Issues k 1 [.s f.a.toNat, .s f.d.toNat] t x ∧ f.b = 0 ∧
      f.pg = 0 ∧ f.ty = 0 ∧ id = (s.sr k f.a.toNat).toNat ∧ s.task id = none) ∧
    (∃ (k : Nat) (t : Nat) (id : Nat) (f : FmtR) (x : Task) (s : State) (y : _), s.Issues k 1 [.s f.a.toNat, .s f.d.toNat] t x ∧
      f.b = 0 ∧ f.pg = 0 ∧ f.ty = 0 ∧ id = (s.sr k f.a.toNat).toNat ∧ s.task id = some y ∧ y.slot ≠ x.slot) ∧
    (∃ (k : Nat) (t : Nat) (id : Nat) (f : FmtR) (x : Task) (s : State) (y : _), s.Issues k 1 [.s f.a.toNat, .s f.d.toNat] t x ∧
      f.b = 0 ∧ f.pg = 0 ∧ f.ty = 0 ∧ id = (s.sr k f.a.toNat).toNat ∧ s.task id = some y ∧ y.slot = x.slot ∧ y.live = false) ∧
    (∃ (k : Nat) (t : Nat) (id : Nat) (f : FmtR) (x : Task) (s : State) (y : _), s.Issues k 1 [.s f.a.toNat, .s f.d.toNat] t x ∧
      f.b = 0 ∧ f.pg = 0 ∧ f.ty = 0 ∧ id = (s.sr k f.a.toNat).toNat ∧ s.task id = some y ∧ y.slot = x.slot ∧ y.live = true) ∧
    (∃ (k : Nat) (d : Nat) (id : Nat) (y : Task) (s : State), (s.ctx k).wait = .task d id ∧ s.task id = some y ∧ y.live = false) ∧
    (∃ (k : Nat) (d : Nat) (id : Nat) (y : Task) (s : State), (s.ctx k).wait = .task d id ∧ s.task id = some y ∧ y.live = true) ∧
    (∃ (k : Nat) (d : Nat) (id : Nat) (y : Task) (s : State), (s.ctx k).wait = .running) ∧
    (∃ (slot : Nat) (entry : Nat) (j : Nat) (parent : Nat) (e : TaskEntry) (a : DWord) (b : DWord) (s : State) (u : State),
      u = s.startTask slot entry j e a b parent) ∧
    (∃ (slot : Nat) (entry : Nat) (j : Nat) (parent : Nat) (e : TaskEntry) (a : DWord) (b : DWord) (s : State) (u : State) (n : _),
      u = s.startTask slot entry j e a b parent ∧ n ≠ 1 ∧ n ≠ 2) ∧
    (∃ (slot : Nat) (entry : Nat) (j : Nat) (parent : Nat) (e : TaskEntry) (a : DWord) (b : DWord) (s : State) (u : State) (i : _),
      u = s.startTask slot entry j e a b parent ∧ i ≠ j) ∧
    (∃ (k : Nat) (j : Nat) (t : Nat) (x : Task) (s : State), (s.ctx k).task = some t ∧ s.task t = some x ∧
      migratable (s.ctx k) = true ∧ (s.ctx j).task = none ∧ s.serves (j / 4) = true ∧ j / 4 ≠ k / 4 ∧ j < 512) ∧
    (∃ (k : Nat) (j : Nat) (t : Nat) (x : Task) (s : State) (i : _), (s.ctx k).task = some t ∧ s.task t = some x ∧
      migratable (s.ctx k) = true ∧ (s.ctx j).task = none ∧ s.serves (j / 4) = true ∧ j / 4 ≠ k / 4 ∧ j < 512 ∧ i ≠ k ∧ i ≠ j) ∧
    (∃ (k : Nat) (j : Nat) (t : Nat) (x : Task) (s : State), (s.ctx k).task = some t ∧ s.task t = some x ∧
      (migratable (s.ctx k) = false ∨ (s.ctx j).task ≠ none ∨ s.serves (j / 4) = false ∨ j / 4 = k / 4)) :=
  ⟨⟨0, 1, ⟨9, 1, 2, 0, 0⟩, idnTask, idn, issues (by decide), by decide, by decide⟩,
   ⟨0, 1, _, ⟨9, 2, 0, 0, 0⟩, idnTask, idn, issues (by decide), by decide, by decide, by decide, rfl, by decide⟩,
   ⟨0, 1, _, ⟨9, 1, 0, 0, 0⟩, idnTask, idn, { idnTask with slot := 5 }, issues (by decide), by decide, by decide, by decide, rfl,
     by decide, by decide⟩,
   ⟨0, 1, _, ⟨9, 8, 0, 0, 0⟩, idnTask, idnWith { idnCtx with s := [(8, 2)] }, { idnTask with live := false }, issues (by decide),
     by decide, by decide, by decide, rfl, by decide, by decide, by decide⟩,
   ⟨0, 1, _, ⟨9, 6, 0, 0, 0⟩, idnTask, idn, idnTask, issues (by decide), by decide, by decide, by decide, rfl, by decide, by decide,
     by decide⟩,
   ⟨0, 9, 2, { idnTask with live := false }, idnWait (.task 9 2), by decide⟩,
   ⟨0, 9, 3, { idnTask with slot := 5 }, idnWait (.task 9 3), by decide⟩,
   ⟨0, 0, 0, idnTask, idn, by decide⟩,
   ⟨0, 1, 4, 0, ⟨0, 0, 1, 0, 64⟩, 1, 2, idn, _, rfl⟩,
   ⟨0, 1, 4, 0, ⟨0, 0, 1, 0, 64⟩, 1, 2, idn, _, 3, rfl, by decide, by decide⟩,
   ⟨0, 1, 4, 0, ⟨0, 0, 1, 0, 64⟩, 1, 2, idn, _, 5, rfl, by decide⟩,
   ⟨0, 4, 1, idnTask, idnWait (.task 9 2), by decide⟩,
   ⟨0, 4, 1, idnTask, idnWait (.task 9 2), 5, by decide⟩,
   ⟨0, 4, 1, idnTask, idn, by decide⟩⟩

/-- States and operands that meet the hypotheses of `CallsAreIssuedAndAwaited`, clause by clause. -/
theorem witness_CallsAreIssuedAndAwaited :
    (∃ (k : Nat) (t : Nat) (unit : Nat) (h : Nat) (ofs : Nat) (n : Nat) (f : FmtA) (x : Task) (d : CallDesc) (s : State) (u : State) (c : Instr),
      s.Issues k 1 [.s f.h.toNat, .s f.o.toNat, .s f.d.toNat] t x ∧ f.unit.toNat = unit ∧ f.fn = 0 ∧
      (c = .iXfft k f ∧ unit = 0 ∨ c = .iXfec k f ∧ unit = 1 ∨ c = .iXcry k f ∧ unit = 2 ∨ c = .iXchk k f ∧ unit = 3) ∧
      h = (s.sr k f.h.toNat).toNat % 2 ^ 32 ∧ ofs = (s.sr k f.o.toNat).toNat % 2 ^ 40 ∧ d = parseDesc (s.peek (s.objOf k h) ofs 64) ∧
      u = (s.past k 1).drew.setSr k f.d.toNat (BitVec.ofNat 64 n) ∧ s.target k t x h = none) ∧
    (∃ (k : Nat) (t : Nat) (unit : Nat) (h : Nat) (ofs : Nat) (n : Nat) (f : FmtA) (x : Task) (d : CallDesc) (s : State) (u : State) (c : Instr),
      s.Issues k 1 [.s f.h.toNat, .s f.o.toNat, .s f.d.toNat] t x ∧ f.unit.toNat = unit ∧ f.fn = 0 ∧
      (c = .iXfft k f ∧ unit = 0 ∨ c = .iXfec k f ∧ unit = 1 ∨ c = .iXcry k f ∧ unit = 2 ∨ c = .iXchk k f ∧ unit = 3) ∧
      h = (s.sr k f.h.toNat).toNat % 2 ^ 32 ∧ ofs = (s.sr k f.o.toNat).toNat % 2 ^ 40 ∧ d = parseDesc (s.peek (s.objOf k h) ofs 64) ∧
      u = (s.past k 1).drew.setSr k f.d.toNat (BitVec.ofNat 64 n) ∧
      accessFault (s.target k t x h) ofs 64 1 1 (Config.freeNat s.free) = none ∧
      freeTicket (s.ctx k) (Config.freeNat s.free) = some n ∧ s.hasTag (k / 4) = true ∧
      (descValid unit d = false ∨ s.rangeOk k t x d.inH d.inOfs d.inLen 1 = false ∨ s.rangeOk k t x d.outH d.outOfs d.outLen 2 = false ∨ (unit = 3 ∧ s.chkCallable x.slot d = false))) ∧
    (∃ (k : Nat) (t : Nat) (unit : Nat) (h : Nat) (ofs : Nat) (n : Nat) (f : FmtA) (x : Task) (d : CallDesc) (s : State) (u : State) (c : Instr),
      s.Issues k 1 [.s f.h.toNat, .s f.o.toNat, .s f.d.toNat] t x ∧ f.unit.toNat = unit ∧ f.fn = 0 ∧
      (c = .iXfft k f ∧ unit = 0 ∨ c = .iXfec k f ∧ unit = 1 ∨ c = .iXcry k f ∧ unit = 2 ∨ c = .iXchk k f ∧ unit = 3) ∧
      h = (s.sr k f.h.toNat).toNat % 2 ^ 32 ∧ ofs = (s.sr k f.o.toNat).toNat % 2 ^ 40 ∧ d = parseDesc (s.peek (s.objOf k h) ofs 64) ∧
      u = (s.past k 1).drew.setSr k f.d.toNat (BitVec.ofNat 64 n) ∧
      accessFault (s.target k t x h) ofs 64 1 1 (Config.freeNat s.free) = none ∧
      freeTicket (s.ctx k) (Config.freeNat s.free) = some n ∧ s.hasTag (k / 4) = true ∧ descValid unit d = true ∧
      s.rangeOk k t x d.inH d.inOfs d.inLen 1 = true ∧ s.rangeOk k t x d.outH d.outOfs d.outLen 2 = true ∧
      (unit = 3 → s.chkCallable x.slot d = true) ∧ (callDomains unit).find? (fun i => s.serves i) = none) ∧
    (∃ (k : Nat) (t : Nat) (unit : Nat) (h : Nat) (ofs : Nat) (n : Nat) (f : FmtA) (x : Task) (d : CallDesc) (s : State) (u : State) (c : Instr) (i : _),
      s.Issues k 1 [.s f.h.toNat, .s f.o.toNat, .s f.d.toNat] t x ∧ f.unit.toNat = unit ∧ f.fn = 0 ∧
      (c = .iXfft k f ∧ unit = 0 ∨ c = .iXfec k f ∧ unit = 1 ∨ c = .iXcry k f ∧ unit = 2 ∨ c = .iXchk k f ∧ unit = 3) ∧
      h = (s.sr k f.h.toNat).toNat % 2 ^ 32 ∧ ofs = (s.sr k f.o.toNat).toNat % 2 ^ 40 ∧ d = parseDesc (s.peek (s.objOf k h) ofs 64) ∧
      u = (s.past k 1).drew.setSr k f.d.toNat (BitVec.ofNat 64 n) ∧
      accessFault (s.target k t x h) ofs 64 1 1 (Config.freeNat s.free) = none ∧
      freeTicket (s.ctx k) (Config.freeNat s.free) = some n ∧ s.hasTag (k / 4) = true ∧ descValid unit d = true ∧
      s.rangeOk k t x d.inH d.inOfs d.inLen 1 = true ∧ s.rangeOk k t x d.outH d.outOfs d.outLen 2 = true ∧
      (unit = 3 → s.chkCallable x.slot d = true) ∧ (callDomains unit).find? (fun i => s.serves i) = some i) ∧
    (∃ (k : Nat) (t : Nat) (n : Nat) (f : FmtR) (x : Task) (s : State) (m : _) (st : _),
      s.Issues k 1 [.s f.a.toNat, .s f.d.toNat] t x ∧ f.b = 0 ∧ f.pg = 0 ∧ f.ty = 0 ∧ n = (s.sr k f.a.toNat).toNat ∧
      (s.ctx k).tickets.find? (fun p => p.1 == n) = some (m, some st)) ∧
    (∃ (k : Nat) (t : Nat) (n : Nat) (f : FmtR) (x : Task) (s : State) (m : _), s.Issues k 1 [.s f.a.toNat, .s f.d.toNat] t x ∧
      f.b = 0 ∧ f.pg = 0 ∧ f.ty = 0 ∧ n = (s.sr k f.a.toNat).toNat ∧ (s.ctx k).tickets.find? (fun p => p.1 == n) = some (m, none)) ∧
    (∃ (k : Nat) (t : Nat) (n : Nat) (f : FmtR) (x : Task) (s : State), s.Issues k 1 [.s f.a.toNat, .s f.d.toNat] t x ∧ f.b = 0 ∧
      f.pg = 0 ∧ f.ty = 0 ∧ n = (s.sr k f.a.toNat).toNat ∧ (s.ctx k).tickets.find? (fun p => p.1 == n) = none) ∧
    (∃ (k : Nat) (d : Nat) (n : Nat) (st : Nat) (s : State), d ≠ 0) :=
  ⟨⟨0, 1, 0, _, _, 0, ⟨9, 1, 10, 0, 0⟩, idnTask, _, idn, _, .iXfft 0 ⟨9, 1, 10, 0, 0⟩, issues (by decide), rfl, rfl, Or.inl ⟨rfl,
     rfl⟩, rfl, rfl, rfl, rfl, by decide⟩,
   ⟨0, 1, 0, _, _, 8, ⟨9, 3, 10, 0, 0⟩, idnTask, _, idnCall 9, _, .iXfft 0 ⟨9, 3, 10, 0, 0⟩, issues (by decide), rfl, rfl,
     Or.inl ⟨rfl, rfl⟩, rfl, rfl, rfl, rfl, by decide, by show ([8] : List Nat)[_ % 1]? = some 8; rw [Nat.mod_one]; rfl, by decide,
     by decide⟩,
   ⟨0, 1, 0, _, _, 8, ⟨9, 3, 10, 0, 0⟩, idnTask, _, { idnCall 0 with pwr := { up.pwr with doms := [(0, .on)] } }, _, .iXfft 0 ⟨9, 3,
     10, 0, 0⟩, issues (by decide), rfl, rfl, Or.inl ⟨rfl, rfl⟩, rfl, rfl, rfl, rfl, by decide,
     by show ([8] : List Nat)[_ % 1]? = some 8; rw [Nat.mod_one]; rfl, by decide, by decide, by decide, by decide, by decide,
     by decide⟩,
   ⟨0, 1, 0, _, _, 8, ⟨9, 3, 10, 0, 0⟩, idnTask, _, idnCall 0, _, .iXfft 0 ⟨9, 3, 10, 0, 0⟩, 136, issues (by decide), rfl, rfl,
     Or.inl ⟨rfl, rfl⟩, rfl, rfl, rfl, rfl, by decide, by show ([8] : List Nat)[_ % 1]? = some 8; rw [Nat.mod_one]; rfl, by decide,
     by decide, by decide, by decide, by decide, by decide⟩,
   ⟨0, 1, _, ⟨9, 1, 0, 0, 0⟩, idnTask, idnWith { idnCtx with tickets := [(3, some 0)] }, 3, 0, issues (by decide), by decide,
     by decide, by decide, rfl, by decide⟩,
   ⟨0, 1, _, ⟨9, 1, 0, 0, 0⟩, idnTask, idnWith { idnCtx with tickets := [(3, none)] }, 3, issues (by decide), by decide, by decide,
     by decide, rfl, by decide⟩,
   ⟨0, 1, _, ⟨9, 1, 0, 0, 0⟩, idnTask, idn, issues (by decide), by decide, by decide, by decide, rfl, by decide⟩,
   ⟨0, 9, 1, 0, idn, by decide⟩⟩

/-- States and operands that meet the hypotheses of `CallsEndWithTheirOutput`, clause by clause. -/
theorem witness_CallsEndWithTheirOutput :
    (∃ (id : Nat) (n : Nat) (cnt : Nat) (inv : Bool) (c : Call) (s : State) (u : State) (i : Instr),
      i = (if inv then .xfIfft id else .xfFft id) ∧ s.callFor id 0 (if inv then 1 else 0) = some c ∧ u = s.callTags c ∧
      n = CallDesc.par c.desc 0 2 ∧ cnt = CallDesc.par c.desc 2 2 ∧ (c.desc.inLen < 4 * n * cnt ∨ c.desc.outLen < 4 * n * cnt)) ∧
    (∃ (id : Nat) (n : Nat) (cnt : Nat) (inv : Bool) (c : Call) (s : State) (u : State) (i : Instr),
      i = (if inv then .xfIfft id else .xfFft id) ∧ s.callFor id 0 (if inv then 1 else 0) = some c ∧ u = s.callTags c ∧
      n = CallDesc.par c.desc 0 2 ∧ cnt = CallDesc.par c.desc 2 2 ∧ 4 * n * cnt ≤ c.desc.inLen ∧ 4 * n * cnt ≤ c.desc.outLen) ∧
    (∃ (id : Nat) (rate : Nat) (ncw : Nat) (c : Call) (s : State) (u : State), u = s.callTags c ∧ rate = CallDesc.par c.desc 0 1 ∧
      ncw = CallDesc.par c.desc 1 2 ∧ s.callFor id 1 0 = some c ∧
      (c.desc.inLen < 1944 * ncw ∨ c.desc.outLen < (ncw * ldpcK rate + 7) / 8 + ncw)) ∧
    (∃ (id : Nat) (rate : Nat) (ncw : Nat) (c : Call) (s : State) (u : State) (r : _), u = s.callTags c ∧
      rate = CallDesc.par c.desc 0 1 ∧ ncw = CallDesc.par c.desc 1 2 ∧ s.callFor id 1 0 = some c ∧ 1944 * ncw ≤ c.desc.inLen ∧
      (ncw * ldpcK rate + 7) / 8 + ncw ≤ c.desc.outLen ∧
      r = Config.ldpcDecode rate ncw (if CallDesc.par c.desc 3 1 = 0 then 12 else CallDesc.par c.desc 3 1) (u.callInput c)) ∧
    (∃ (id : Nat) (rate : Nat) (ncw : Nat) (c : Call) (s : State) (u : State), u = s.callTags c ∧ rate = CallDesc.par c.desc 0 1 ∧
      ncw = CallDesc.par c.desc 1 2 ∧ s.callFor id 1 1 = some c ∧ (ncw * ldpcK rate + 7) / 8 ≤ c.desc.inLen ∧
      (1944 * ncw + 7) / 8 ≤ c.desc.outLen) ∧
    (∃ (id : Nat) (len : Nat) (c : Call) (s : State) (u : State), u = s.callTags c ∧ len = CallDesc.par c.desc 1 4 ∧
      s.callFor id 1 2 = some c ∧ len ≤ c.desc.inLen) ∧
    (∃ (id : Nat) (len : Nat) (c : Call) (s : State) (u : State), u = s.callTags c ∧ len = CallDesc.par c.desc 1 4 ∧
      s.callFor id 1 3 = some c ∧ (len + 7) / 8 ≤ c.desc.inLen ∧ CallDesc.par c.desc 0 1 = 0) ∧
    (∃ (id : Nat) (len : Nat) (c : Call) (s : State) (u : State), u = s.callTags c ∧ len = CallDesc.par c.desc 1 4 ∧
      s.callFor id 1 3 = some c ∧ c.desc.inLen < (len + 7) / 8) ∧
    (∃ (id : Nat) (n : Nat) (m : Nat) (b : Nat) (c : Call) (s : State) (u : State), u = s.callTags c ∧ n = CallDesc.par c.desc 0 1 ∧
      m = CallDesc.par c.desc 1 1 ∧ b = CallDesc.par c.desc 2 2 ∧ s.callFor id 1 4 = some c ∧ n * b ≤ c.desc.inLen ∧
      m * b ≤ c.desc.outLen) ∧
    (∃ (id : Nat) (n : Nat) (m : Nat) (b : Nat) (c : Call) (s : State) (u : State), u = s.callTags c ∧ n = CallDesc.par c.desc 0 1 ∧
      m = CallDesc.par c.desc 1 1 ∧ b = CallDesc.par c.desc 2 2 ∧ s.callFor id 1 5 = some c ∧ m * b ≤ c.desc.inLen ∧
      n * b ≤ c.desc.outLen) ∧
    (∃ (id : Nat) (aad : Nat) (n : Nat) (tail : Nat) (len : Nat) (keyLen : Nat) (dec : Bool) (c : Call) (s : State) (u : State) (i : Instr) (all : List Byte) (g : List Byte → List Byte → List Byte → List Byte → Option (List Byte)),
      (i = .gcmEncrypt id ∧ c.desc.op = 0 ∧ dec = false ∧ keyLen = 40 ∧ aad = CallDesc.par c.desc 24 2 ∧ n = 16 ∧ (g = fun key a text _ => some (Config.gcmSeal key (callNonce c 12) a text 16)) ∨ i = .gcmDecrypt id ∧ c.desc.op = 1 ∧ dec = true ∧ keyLen = 40 ∧ aad = CallDesc.par c.desc 24 2 ∧ n = 16 ∧ (g = fun key a text tag => Config.gcmOpen key (callNonce c 12) a (text ++ tag) 16) ∨ i = .ccmEncrypt id ∧ c.desc.op = 2 ∧ dec = false ∧ keyLen = 24 ∧ aad = CallDesc.par c.desc 25 2 ∧ n = CallDesc.par c.desc 27 1 ∧ (g = fun key a text _ => some (Config.ccmSeal key (callNonce c 13) a text n)) ∨ i = .ccmDecrypt id ∧ c.desc.op = 3 ∧ dec = true ∧ keyLen = 24 ∧ aad = CallDesc.par c.desc 25 2 ∧ n = CallDesc.par c.desc 27 1 ∧ (g = fun key a text tag => Config.ccmOpen key (callNonce c 13) a (text ++ tag) n)) ∧
      s.callFor id 2 c.desc.op = some c ∧ u = s.callTags c ∧ c.discard = false ∧ all = u.callInput c ∧ tail = (if dec then n else 0) ∧
      len = all.length - aad - tail ∧ all.length < aad + tail) ∧
    (∃ (id : Nat) (aad : Nat) (n : Nat) (tail : Nat) (len : Nat) (keyLen : Nat) (dec : Bool) (c : Call) (s : State) (u : State) (i : Instr) (all : List Byte) (g : List Byte → List Byte → List Byte → List Byte → Option (List Byte)),
      (i = .gcmEncrypt id ∧ c.desc.op = 0 ∧ dec = false ∧ keyLen = 40 ∧ aad = CallDesc.par c.desc 24 2 ∧ n = 16 ∧ (g = fun key a text _ => some (Config.gcmSeal key (callNonce c 12) a text 16)) ∨ i = .gcmDecrypt id ∧ c.desc.op = 1 ∧ dec = true ∧ keyLen = 40 ∧ aad = CallDesc.par c.desc 24 2 ∧ n = 16 ∧ (g = fun key a text tag => Config.gcmOpen key (callNonce c 12) a (text ++ tag) 16) ∨ i = .ccmEncrypt id ∧ c.desc.op = 2 ∧ dec = false ∧ keyLen = 24 ∧ aad = CallDesc.par c.desc 25 2 ∧ n = CallDesc.par c.desc 27 1 ∧ (g = fun key a text _ => some (Config.ccmSeal key (callNonce c 13) a text n)) ∨ i = .ccmDecrypt id ∧ c.desc.op = 3 ∧ dec = true ∧ keyLen = 24 ∧ aad = CallDesc.par c.desc 25 2 ∧ n = CallDesc.par c.desc 27 1 ∧ (g = fun key a text tag => Config.ccmOpen key (callNonce c 13) a (text ++ tag) n)) ∧
      s.callFor id 2 c.desc.op = some c ∧ u = s.callTags c ∧ c.discard = false ∧ all = u.callInput c ∧ tail = (if dec then n else 0) ∧
      len = all.length - aad - tail ∧ aad + tail ≤ all.length ∧ u.callKey c keyLen = none) ∧
    (∃ (id : Nat) (aad : Nat) (n : Nat) (tail : Nat) (len : Nat) (keyLen : Nat) (dec : Bool) (c : Call) (s : State) (u : State) (i : Instr) (all : List Byte) (g : List Byte → List Byte → List Byte → List Byte → Option (List Byte)) (k : _),
      (i = .gcmEncrypt id ∧ c.desc.op = 0 ∧ dec = false ∧ keyLen = 40 ∧ aad = CallDesc.par c.desc 24 2 ∧ n = 16 ∧ (g = fun key a text _ => some (Config.gcmSeal key (callNonce c 12) a text 16)) ∨ i = .gcmDecrypt id ∧ c.desc.op = 1 ∧ dec = true ∧ keyLen = 40 ∧ aad = CallDesc.par c.desc 24 2 ∧ n = 16 ∧ (g = fun key a text tag => Config.gcmOpen key (callNonce c 12) a (text ++ tag) 16) ∨ i = .ccmEncrypt id ∧ c.desc.op = 2 ∧ dec = false ∧ keyLen = 24 ∧ aad = CallDesc.par c.desc 25 2 ∧ n = CallDesc.par c.desc 27 1 ∧ (g = fun key a text _ => some (Config.ccmSeal key (callNonce c 13) a text n)) ∨ i = .ccmDecrypt id ∧ c.desc.op = 3 ∧ dec = true ∧ keyLen = 24 ∧ aad = CallDesc.par c.desc 25 2 ∧ n = CallDesc.par c.desc 27 1 ∧ (g = fun key a text tag => Config.ccmOpen key (callNonce c 13) a (text ++ tag) n)) ∧
      s.callFor id 2 c.desc.op = some c ∧ u = s.callTags c ∧ c.discard = false ∧ all = u.callInput c ∧ tail = (if dec then n else 0) ∧
      len = all.length - aad - tail ∧ aad + tail ≤ all.length ∧ u.callKey c keyLen = some k ∧ u.missWaits c.inst k = true) ∧
    (∃ (id : Nat) (aad : Nat) (n : Nat) (tail : Nat) (len : Nat) (keyLen : Nat) (dec : Bool) (c : Call) (s : State) (u : State) (i : Instr) (all : List Byte) (g : List Byte → List Byte → List Byte → List Byte → Option (List Byte)),
      (i = .gcmEncrypt id ∧ c.desc.op = 0 ∧ dec = false ∧ keyLen = 40 ∧ aad = CallDesc.par c.desc 24 2 ∧ n = 16 ∧ (g = fun key a text _ => some (Config.gcmSeal key (callNonce c 12) a text 16)) ∨ i = .gcmDecrypt id ∧ c.desc.op = 1 ∧ dec = true ∧ keyLen = 40 ∧ aad = CallDesc.par c.desc 24 2 ∧ n = 16 ∧ (g = fun key a text tag => Config.gcmOpen key (callNonce c 12) a (text ++ tag) 16) ∨ i = .ccmEncrypt id ∧ c.desc.op = 2 ∧ dec = false ∧ keyLen = 24 ∧ aad = CallDesc.par c.desc 25 2 ∧ n = CallDesc.par c.desc 27 1 ∧ (g = fun key a text _ => some (Config.ccmSeal key (callNonce c 13) a text n)) ∨ i = .ccmDecrypt id ∧ c.desc.op = 3 ∧ dec = true ∧ keyLen = 24 ∧ aad = CallDesc.par c.desc 25 2 ∧ n = CallDesc.par c.desc 27 1 ∧ (g = fun key a text tag => Config.ccmOpen key (callNonce c 13) a (text ++ tag) n)) ∧
      s.callFor id 2 c.desc.op = some c ∧ u = s.callTags c ∧ c.discard = false ∧ all = u.callInput c ∧ tail = (if dec then n else 0) ∧
      len = all.length - aad - tail ∧ aad + tail ≤ all.length ∧ u.callKey c keyLen = some none ∧ u.missWaits c.inst none = false) ∧
    (∀ key,
      Config.unwrap 5 ((idn.bytes (scratchObj 1) 0 40)) = some key → ({ withCall (inCall 2 0 16 64 (List.replicate 24 0 ++ [8, 0, 16, 0])) with sec := { swk := some 5 } } : State).callKey (inCall 2 0 16 64 (List.replicate 24 0 ++ [8, 0, 16, 0])) 40 = some (some key)) ∧
    (∃ (id : Nat) (s : State), s.prog.calls.find? (fun c => c.id == id) = none) ∧
    (∃ (c : Call) (st : Status) (out : List Byte) (s : State), c.discard = true) ∧
    (∃ (c : Call) (st : Status) (out : List Byte) (s : State), c.discard = false ∧ c.desc.outLen < out.length) ∧
    (∃ (c : Call) (st : Status) (out : List Byte) (s : State), c.discard = false ∧ out.length ≤ c.desc.outLen) :=
  ⟨⟨1, _, _, false, inCall 0 0 255 256 [64, 0, 1, 0], withCall (inCall 0 0 255 256 [64, 0, 1, 0]), _, _, rfl, by decide, rfl, rfl,
     rfl, by decide⟩,
   ⟨1, _, _, true, inCall 0 1 256 256 [64, 0, 1, 0], withCall (inCall 0 1 256 256 [64, 0, 1, 0]), _, _, rfl, by decide, rfl, rfl, rfl,
     by decide, by decide⟩,
   ⟨1, _, _, inCall 1 0 1943 256 [3, 1, 0, 0], withCall (inCall 1 0 1943 256 [3, 1, 0, 0]), _, rfl, rfl, rfl, by decide, by decide⟩,
   ⟨1, _, _, inCall 1 0 1944 1944 [3, 1, 0, 0], withCall (inCall 1 0 1944 1944 [3, 1, 0, 0]), _, _, rfl, rfl, rfl, by decide,
     by decide, by decide, rfl⟩,
   ⟨1, _, _, inCall 1 1 1944 243 [3, 1, 0, 0], withCall (inCall 1 1 1944 243 [3, 1, 0, 0]), _, rfl, rfl, rfl, by decide, by decide,
     by decide⟩,
   ⟨1, _, inCall 1 2 8 8 [0, 8, 0, 0, 0], withCall (inCall 1 2 8 8 [0, 8, 0, 0, 0]), _, rfl, rfl, by decide, by decide⟩,
   ⟨1, _, inCall 1 3 1 8 [0, 8, 0, 0, 0], withCall (inCall 1 3 1 8 [0, 8, 0, 0, 0]), _, rfl, rfl, by decide, by decide, by decide⟩,
   ⟨1, _, inCall 1 3 0 8 [0, 8, 0, 0, 0], withCall (inCall 1 3 0 8 [0, 8, 0, 0, 0]), _, rfl, rfl, by decide, by decide⟩,
   ⟨1, _, _, _, inCall 1 4 40 20 [4, 2, 10, 0], withCall (inCall 1 4 40 20 [4, 2, 10, 0]), _, rfl, rfl, rfl, rfl, by decide,
     by decide, by decide⟩,
   ⟨1, _, _, _, inCall 1 5 20 40 [4, 2, 10, 0], withCall (inCall 1 5 20 40 [4, 2, 10, 0]), _, rfl, rfl, rfl, rfl, by decide,
     by decide, by decide⟩,
   ⟨1, _, _, _, _, _, _, inCall 2 0 16 64 (List.replicate 24 0 ++ [17, 0, 16, 0]),
     withCall (inCall 2 0 16 64 (List.replicate 24 0 ++ [17, 0, 16, 0])), _, _, _, _, Or.inl ⟨rfl, rfl, rfl, rfl, rfl, rfl, rfl⟩,
     by decide, rfl, by decide, rfl, rfl, rfl, by decide⟩,
   ⟨1, _, _, _, _, _, _, inCall 2 0 16 64 ([255, 0, 0, 0] ++ List.replicate 20 0 ++ [8, 0, 16, 0]),
     withCall (inCall 2 0 16 64 ([255, 0, 0, 0] ++ List.replicate 20 0 ++ [8, 0, 16, 0])), _, _, _, _, Or.inl ⟨rfl, rfl, rfl, rfl,
     rfl, rfl, rfl⟩, by decide, rfl, by decide, rfl, rfl, rfl, by decide, by decide⟩,
   ⟨1, _, _, _, _, _, _, inCall 2 0 16 64 (List.replicate 24 0 ++ [8, 0, 16, 0]),
     { withCall (inCall 2 0 16 64 (List.replicate 24 0 ++ [8, 0, 16, 0])) with sec := { job := some .restart } }, _, _, _, _, none,
     Or.inl ⟨rfl, rfl, rfl, rfl, rfl, rfl, rfl⟩, by decide, rfl, by decide, rfl, rfl, rfl, by decide, by decide, rfl⟩,
   ⟨1, _, _, _, _, _, _, inCall 2 0 16 64 (List.replicate 24 0 ++ [8, 0, 16, 0]),
     withCall (inCall 2 0 16 64 (List.replicate 24 0 ++ [8, 0, 16, 0])), _, _, _, _, Or.inl ⟨rfl, rfl, rfl, rfl, rfl, rfl, rfl⟩,
     by decide, rfl, by decide, rfl, rfl, rfl, by decide, by decide, rfl⟩,
   fun key h => congrArg some h,
   ⟨1, idn, by decide⟩,
   ⟨{ chkCall0 with discard := true }, .ok, [], idn, by decide⟩,
   ⟨chkCall0, .ok, [1], idn, by decide⟩,
   ⟨chkCall0, .ok, [], idn, by decide⟩⟩

/-- States and operands that meet the hypotheses of `UnitRegistersTimeAndCycleSlots`, clause by clause. -/
theorem witness_UnitRegistersTimeAndCycleSlots :
    (∃ (k : Nat) (t : Nat) (a : Nat) (f : FmtI) (x : Task) (s : State), s.Issues k 1 [.s f.a.toNat, .s f.d.toNat] t x ∧
      a = (s.sr k f.a.toNat + f.imm.signExtend 64).toNat ∧ (a % 4 ≠ 0 ∨ 0x4000000 ≤ a)) ∧
    (∃ (k : Nat) (t : Nat) (a : Nat) (f : FmtI) (x : Task) (s : State), s.Issues k 1 [.s f.a.toNat, .s f.d.toNat] t x ∧
      a = (s.sr k f.a.toNat + f.imm.signExtend 64).toNat ∧ a % 4 = 0 ∧ a < 0x4000000 ∧ s.hasTag (k / 4) = false) ∧
    (∃ (k : Nat) (t : Nat) (a : Nat) (f : FmtI) (x : Task) (s : State) (u : _), s.Issues k 1 [.s f.a.toNat, .s f.d.toNat] t x ∧
      a = (s.sr k f.a.toNat + f.imm.signExtend 64).toNat ∧ a % 4 = 0 ∧ a < 0x4000000 ∧ s.hasTag (k / 4) = true ∧
      u = (s.past k 1).touchTag (k / 4)) ∧
    (∃ (k : Nat) (t : Nat) (a : Nat) (f : FmtR) (env : WriteEnv) (x : Task) (s : State),
      s.Issues k 1 [.s f.a.toNat, .s f.b.toNat, .s f.d.toNat] t x ∧ f.pg = 0 ∧ f.ty = 0 ∧ a = (s.sr k f.a.toNat).toNat ∧
      (a % 4 ≠ 0 ∨ 0x4000000 ≤ a)) ∧
    (∃ (k : Nat) (t : Nat) (a : Nat) (f : FmtR) (env : WriteEnv) (x : Task) (s : State) (u : _),
      s.Issues k 1 [.s f.a.toNat, .s f.b.toNat, .s f.d.toNat] t x ∧ f.pg = 0 ∧ f.ty = 0 ∧ a = (s.sr k f.a.toNat).toNat ∧ a % 4 = 0 ∧
      a < 0x4000000 ∧ s.hasTag (k / 4) = true ∧ u = (s.past k 1).touchTag (k / 4)) ∧
    (∃ (k : Nat) (t : Nat) (f : FmtR) (x : Task) (s : State), s.Issues k 1 [.s f.d.toNat] t x ∧ f.a = 0 ∧ f.b = 0 ∧ f.pg = 0 ∧
      f.ty = 0) ∧
    (∃ (k : Nat) (t : Nat) (f : FmtR) (x : Task) (g : Stamp) (s : State), s.Issues k 1 [.s f.a.toNat] t x ∧ f.d = 0 ∧ f.b = 0 ∧
      f.pg = 0 ∧ f.ty = 0 ∧ g = ⟨(s.sr k f.a.toNat).toNat / 2 ^ 32, (s.sr k f.a.toNat).toNat % 2 ^ 32⟩ ∧ g.le s.now = true) ∧
    (∃ (k : Nat) (t : Nat) (f : FmtR) (x : Task) (g : Stamp) (s : State), s.Issues k 1 [.s f.a.toNat] t x ∧ f.d = 0 ∧ f.b = 0 ∧
      f.pg = 0 ∧ f.ty = 0 ∧ g = ⟨(s.sr k f.a.toNat).toNat / 2 ^ 32, (s.sr k f.a.toNat).toNat % 2 ^ 32⟩ ∧ g.le s.now = false) ∧
    (∃ (k : Nat) (g : Stamp) (s : State), (s.ctx k).wait = .time g ∧ g.le s.now = true) ∧
    (∃ (k : Nat) (g : Stamp) (s : State), (s.ctx k).wait = .time g ∧ g.le s.now = false) ∧
    (∃ (k : Nat) (t : Nat) (g : Nat) (f : FmtR) (x : Task) (s : State), s.Issues k 1 [.s f.a.toNat, .s f.d.toNat] t x ∧ f.b = 0 ∧
      f.pg = 0 ∧ f.ty = 0 ∧ g = (s.sr k f.a.toNat).toNat % 8) ∧
    (∃ (k : Nat) (t : Nat) (g : Nat) (goal : Nat) (f : FmtR) (x : Task) (s : State),
      s.Issues k 1 [.s f.a.toNat, .s f.b.toNat, .s f.d.toNat] t x ∧ f.pg = 0 ∧ f.ty = 0 ∧ g = (s.sr k f.b.toNat).toNat % 8 ∧
      goal = (s.sr k f.a.toNat).toNat % 2 ^ 44 ∧ 12 ≤ goal % 16) ∧
    (∃ (k : Nat) (t : Nat) (g : Nat) (goal : Nat) (f : FmtR) (x : Task) (s : State),
      s.Issues k 1 [.s f.a.toNat, .s f.b.toNat, .s f.d.toNat] t x ∧ f.pg = 0 ∧ f.ty = 0 ∧ g = (s.sr k f.b.toNat).toNat % 8 ∧
      goal = (s.sr k f.a.toNat).toNat % 2 ^ 44 ∧ goal % 16 < 12 ∧ (s.tracker g).everLocked = false) ∧
    (∃ (k : Nat) (t : Nat) (g : Nat) (goal : Nat) (f : FmtR) (x : Task) (s : State),
      s.Issues k 1 [.s f.a.toNat, .s f.b.toNat, .s f.d.toNat] t x ∧ f.pg = 0 ∧ f.ty = 0 ∧ g = (s.sr k f.b.toNat).toNat % 8 ∧
      goal = (s.sr k f.a.toNat).toNat % 2 ^ 44 ∧ goal % 16 < 12 ∧ (s.tracker g).everLocked = true ∧ goal ≤ s.cycleSlot g) ∧
    (∃ (k : Nat) (t : Nat) (g : Nat) (goal : Nat) (f : FmtR) (x : Task) (s : State),
      s.Issues k 1 [.s f.a.toNat, .s f.b.toNat, .s f.d.toNat] t x ∧ f.pg = 0 ∧ f.ty = 0 ∧ g = (s.sr k f.b.toNat).toNat % 8 ∧
      goal = (s.sr k f.a.toNat).toNat % 2 ^ 44 ∧ goal % 16 < 12 ∧ (s.tracker g).everLocked = true ∧ s.cycleSlot g < goal) ∧
    (∃ (k : Nat) (d : Nat) (g : Nat) (cyc : Nat) (slot : Nat) (s : State), (s.ctx k).wait = .slot d g cyc slot ∧
      s.cycleSlot g < cyc * 16 + slot) ∧
    (∃ (k : Nat) (d : Nat) (g : Nat) (cyc : Nat) (slot : Nat) (s : State), (s.ctx k).wait = .slot d g cyc slot ∧
      s.cycleSlot g = cyc * 16 + slot) ∧
    (∃ (k : Nat) (d : Nat) (g : Nat) (cyc : Nat) (slot : Nat) (s : State), (s.ctx k).wait = .slot d g cyc slot ∧
      cyc * 16 + slot < s.cycleSlot g) :=
  ⟨⟨0, 1, _, ⟨9, 8, 2⟩, idnTask, idnWith { idnCtx with s := [(8, 0x3FFFFF0), (9, 0x100000001), (11, 25)] }, issues (by decide), rfl,
     by decide⟩,
   ⟨0, 1, _, ⟨9, 8, 4⟩, idnTask, idnNoTag (idnWith { idnCtx with s := [(8, 0x3FFFFF0), (9, 0x100000001), (11, 25)] }),
     issues (by decide), rfl, by decide, by decide, by decide⟩,
   ⟨0, 1, _, ⟨9, 8, 12⟩, idnTask, idnWith { idnCtx with s := [(8, 0x3FFFFF0), (9, 0x100000001), (11, 25)] }, _, issues (by decide),
     rfl, by decide, by decide, by decide, rfl⟩,
   ⟨0, 1, _, ⟨9, 1, 2, 0, 0⟩, {}, idnTask, idn, issues (by decide), by decide, by decide, rfl, by decide⟩,
   ⟨0, 1, _, ⟨9, 8, 2, 0, 0⟩, {}, idnTask, idnWith { idnCtx with s := [(8, 0x3FFFFF0), (9, 0x100000001), (11, 25)] }, _,
     issues (by decide), by decide, by decide, rfl, by decide, by decide, by decide, rfl⟩,
   ⟨0, 1, ⟨9, 0, 0, 0, 0⟩, idnTask, idn, issues (by decide), by decide, by decide, by decide, by decide⟩,
   ⟨0, 1, ⟨0, 9, 0, 0, 0⟩, idnTask, _,
     { idnWith { idnCtx with s := [(8, 0x3FFFFF0), (9, 0x100000001), (11, 25)] } with cmp := { sec := 1, ns := 1 } },
     issues (by decide), by decide, by decide, by decide, by decide, rfl, by decide⟩,
   ⟨0, 1, ⟨0, 9, 0, 0, 0⟩, idnTask, _,
     { idnWith { idnCtx with s := [(8, 0x3FFFFF0), (9, 0x100000001), (11, 25)] } with cmp := { sec := 1, ns := 0 } },
     issues (by decide), by decide, by decide, by decide, by decide, rfl, by decide⟩,
   ⟨0, { s := 1, ns := 1 }, { idnWait (.time { s := 1, ns := 1 }) with cmp := { sec := 1, ns := 1 } }, by decide⟩,
   ⟨0, { s := 1, ns := 1 }, { idnWait (.time { s := 1, ns := 1 }) with cmp := { sec := 1, ns := 0 } }, by decide⟩,
   ⟨0, 1, _, ⟨9, 1, 0, 0, 0⟩, idnTask, idn, issues (by decide), by decide, by decide, by decide, rfl⟩,
   ⟨0, 1, _, _, ⟨9, 11, 0, 0, 0⟩, idnTask, idnWith { idnCtx with s := [(11, 12)] }, issues (by decide), by decide, by decide, rfl,
     rfl, by decide⟩,
   ⟨0, 1, _, _, ⟨9, 11, 0, 0, 0⟩, idnTask,
     { idnWith { idnCtx with s := [(8, 0x3FFFFF0), (9, 0x100000001), (11, 25)] } with lin := { trackers := [(0, { everLocked := false, cyc := 0, slot := 9 })] } },
     issues (by decide), by decide, by decide, rfl, rfl, by decide, by decide⟩,
   ⟨0, 1, _, _, ⟨9, 11, 0, 0, 0⟩, idnTask,
     { idnWith { idnCtx with s := [(8, 0x3FFFFF0), (9, 0x100000001), (11, 25)] } with lin := { trackers := [(0, { everLocked := true, cyc := 1, slot := 9 })] } },
     issues (by decide), by decide, by decide, rfl, rfl, by decide, by decide, by decide⟩,
   ⟨0, 1, _, _, ⟨9, 11, 0, 0, 0⟩, idnTask,
     { idnWith { idnCtx with s := [(8, 0x3FFFFF0), (9, 0x100000001), (11, 25)] } with lin := { trackers := [(0, { everLocked := true, cyc := 0, slot := 9 })] } },
     issues (by decide), by decide, by decide, rfl, rfl, by decide, by decide, by decide⟩,
   ⟨0, 9, 0, 2, 9, { idnWait (.slot 9 0 2 9) with lin := { trackers := [(0, { cyc := 2, slot := 8 })] } }, by decide⟩,
   ⟨0, 9, 0, 2, 9, { idnWait (.slot 9 0 2 9) with lin := { trackers := [(0, { cyc := 2, slot := 9 })] } }, by decide⟩,
   ⟨0, 9, 0, 2, 9, { idnWait (.slot 9 0 2 9) with lin := { trackers := [(0, { cyc := 2, slot := 10 })] } }, by decide⟩⟩

end Sys2Proof.Tests
end

