-- ==== Sys2Proof/Tests/Witness6.lean ====
section
/-! SUPPORT. States and operands that meet the hypotheses of the statements 51 to 60. -/

set_option linter.unusedVariables false
set_option maxRecDepth 20000

namespace Sys2Proof.Tests

open Sys2Proof Sys2Proof.Machine

/-- States and operands that meet the hypotheses of `StepRunsTheFrontCommand`, clause by clause. -/
theorem witness_StepRunsTheFrontCommand :
    (∃ (c : Instr) (rest : List Instr) (s : State), s.pending = c :: rest) ∧
    (∃ (s : State), s.pending = []) ∧
    (∃ (s : State), s.cmp.running = true) ∧
    (∃ (s : State), s.cmp.running = false) :=
  ⟨⟨.registerWrite .host 0 0 {}, [], { up with pending := [.registerWrite .host 0 0 {}] }, rfl⟩,
   ⟨up, by decide⟩,
   ⟨{ up with cmp := { running := true } }, by decide⟩,
   ⟨{ up with cmp := { running := false } }, by decide⟩⟩

/-- States and operands that meet the hypotheses of `WaitingCommandsAreServedInTurn`, clause by clause. -/
theorem witness_WaitingCommandsAreServedInTurn :
    (∃ (s : State) (t : State), step s = .next t) ∧
    (∃ (s : State) (t : State), step s = .next t ∧ s.QueueWf) ∧
    (∃ (s : State) (n : Nat) (c : Instr), s.pending[n]? = some c) :=
  ⟨⟨up, _, rfl⟩,
   ⟨up, _, rfl, fun _ h => nomatch h⟩,
   ⟨{ up with pending := [.creditReturn 0, .creditReturn 1] }, 1, .creditReturn 1, rfl⟩⟩

/-- States and operands that meet the hypotheses of `MemoryAndRegistersStayCanonical`, clause by clause. -/
theorem witness_MemoryAndRegistersStayCanonical :
    (∃ (s : State) (t : State), s.Canonical ∧ step s = .next t) :=
  ⟨up, _, by unfold State.Canonical; decide, rfl⟩

/-- States and operands that meet the hypotheses of `FusesNeverGoBack`, clause by clause. -/
theorem witness_FusesNeverGoBack :
    (∃ (s : State) (t : State), step s = .next t) ∧
    (∃ (s : State) (t : State) (c : Nat), step s = .next t) ∧
    (∃ (s : State) (t : State) (n : _), step s = .next t ∧ Tab.get (fun _ => false) s.sec.revoked n = true) :=
  ⟨⟨up, _, rfl⟩,
   ⟨up, _, 0, rfl⟩,
   ⟨{ up with sec := { revoked := [(3, true)] } }, _, 3, rfl, by decide⟩⟩

/-- States and operands that meet the hypotheses of `PseudoChannelsTakeThirtyTwoOldestFirst`, clause by clause. -/
theorem witness_PseudoChannelsTakeThirtyTwoOldestFirst :
    (∃ (s : State) (t : State) (p : Nat), (∀ p, s.pcBusy p ≤ 32) ∧ step s = .next t) ∧
    (∃ (init : Nat) (p : Nat) (a : Nat) (reqN : Nat) (respN : Nat) (kind : TxnKind) (s : State) (t : State),
      t = s.startTxn init (some p) a reqN respN kind) ∧
    (∃ (a : Nat) (s : State) (x : Txn), (s.startTxn 0 (some 0) a 1 1 .other).fab.flight = s.fab.flight ++ [x] ∧ x.left ≠ []) ∧
    (∃ (a : Nat) (s : State) (x : Txn), (s.startTxn 0 (some 0) a 1 1 .other).fab.flight = s.fab.flight ++ [x] ∧ x.left = []) ∧
    (∃ (id : Nat) (err : Bool) (s : State), (∀ x ∈ s.fab.flight, x.id = id → x.admitted = false)) ∧
    (∃ (p : Nat) (l1 : List Txn) (l2 : List Txn) (x : Txn) (s : State), s.fab.flight = l1 ++ x :: l2 ∧ x.pc = some p ∧ x.left = [] ∧
      x.admitted = false ∧ (∀ y ∈ l1, ¬(y.pc = some p ∧ y.left = [] ∧ y.admitted = false)) ∧ (∀ y ∈ l1 ++ l2, y.id ≠ x.id) ∧
      s.pcBusy p < 32 ∧ s.stackOpen (p / 32) = true) ∧
    (∃ (p : Nat) (s : State), (32 ≤ s.pcBusy p ∨ (∀ y ∈ s.fab.flight, ¬(y.pc = some p ∧ y.left = [] ∧ y.admitted = false)))) :=
  ⟨⟨up, _, 3, fun _ => Nat.zero_le _, rfl⟩,
   ⟨0, 3, 1, 1, 1, .other, up, _, rfl⟩,
   ⟨1, { up with fab := { occupied := (List.range 512).map fun l => (l, 8) } }, _, rfl, by decide⟩,
   ⟨1, up, _, rfl, by decide⟩,
   ⟨0, false, up, by decide⟩,
   ⟨0, [], [], txn0 false true, { net with fab := { flight := [txn0 false true] } }, by decide⟩,
   ⟨3, up, by decide⟩⟩

/-- States and operands that meet the hypotheses of `EightCreditsForEachChannel`, clause by clause. -/
theorem witness_EightCreditsForEachChannel :
    (∃ (s : State) (t : State) (l : Nat), (∀ l, s.creditsUsed l ≤ 8) ∧ step s = .next t) ∧
    (∃ (x : Txn) (l : Nat) (r : List Nat) (s : State), s.creditsHeld l = 0 ∧ x.moved < x.reqN) ∧
    (∃ (id : Nat) (err : Bool) (s : State), (∀ x ∈ s.fab.flight, x.id = id → x.left ≠ [] ∨ ∃ l ∈ x.resp, s.creditsHeld l < x.respN)) ∧
    (∃ (l : Nat) (s : State), s.returning l = 0) ∧
    (∃ (l : Nat) (s : State), 0 < s.returning l ∧ (∀ y ∈ s.fab.flight, y.left.head? ≠ some l)) ∧
    (∃ (l : Nat) (r : List Nat) (l1 : List Txn) (l2 : List Txn) (x : Txn) (s : State), 0 < s.returning l ∧ s.creditsUsed l = 8 ∧
      s.fab.flight = l1 ++ x :: l2 ∧ (s.fab.flight.map Txn.id).Nodup ∧ x.left = l :: r ∧ x.moved + 1 < x.reqN ∧
      (∀ y ∈ l1, y.left.head? ≠ some l) ∧ (∀ y ∈ l2, y.left.head? = some l → y.moved < y.reqN)) :=
  ⟨⟨up, _, 3, fun _ => Nat.zero_le _, rfl⟩,
   ⟨txn0 false false, 1, [], { up with fab := { occupied := [(1, 8)] } }, by decide⟩,
   ⟨0, false, up, by decide⟩,
   ⟨1, up, by decide⟩,
   ⟨1, { up with fab := { returning := [(1, 1)] } }, by decide⟩,
   ⟨1, [], [], [], txn0 false false, { up with fab := { flight := [txn0 false false], occupied := [(1, 7)], returning := [(1, 1)] } },
     by decide⟩⟩

/-- States and operands that meet the hypotheses of `ReservedSpaceReadsZeroAndDiscardsWrites`, clause by clause. -/
theorem witness_ReservedSpaceReadsZeroAndDiscardsWrites :
    (∃ (who : Who) (a : Nat) (v : Word) (env : WriteEnv) (s : State), regAt a = none ∧ windowAt a = false) ∧
    (∃ (k : Nat) (t : Nat) (a : Nat) (f : FmtI) (x : Task) (s : State), s.Issues k 1 [.s f.a.toNat, .s f.d.toNat] t x ∧
      a = (s.sr k f.a.toNat + f.imm.signExtend 64).toNat ∧ a % 4 = 0 ∧ a < 0x4000000 ∧ regAt a = none ∧ windowAt a = false ∧
      s.hasTag (k / 4) = true) ∧
    (∃ (k : Nat) (t : Nat) (a : Nat) (f : FmtR) (env : WriteEnv) (x : Task) (s : State),
      s.Issues k 1 [.s f.a.toNat, .s f.b.toNat, .s f.d.toNat] t x ∧ f.pg = 0 ∧ f.ty = 0 ∧ a = (s.sr k f.a.toNat).toNat ∧ a % 4 = 0 ∧
      a < 0x4000000 ∧ regAt a = none ∧ windowAt a = false ∧ s.hasTag (k / 4) = true) :=
  ⟨⟨.host, 0x3FFFFFC, 0, {}, up, by decide⟩,
   ⟨0, 1, _, ⟨9, 8, 12⟩, idnTask, idnWith { idnCtx with s := [(8, 0x3FFFFF0), (9, 0x100000001), (11, 25)] }, issues (by decide), rfl,
     by decide, by decide, by decide, by decide, by decide⟩,
   ⟨0, 1, _, ⟨9, 8, 2, 0, 0⟩, {}, idnTask, idnWith { idnCtx with s := [(8, 0x3FFFFF0), (9, 0x100000001), (11, 25)] },
     issues (by decide), by decide, by decide, rfl, by decide, by decide, by decide, by decide, by decide⟩⟩

/-- States and operands that meet the hypotheses of `FieldsAndBytesAreWrittenAlone`, clause by clause. -/
theorem witness_FieldsAndBytesAreWrittenAlone :
    (∃ (f : Fld) (i : Nat) (v : Nat) (s : State), f.lo + f.width ≤ 32) ∧
    (∃ (o : Nat) (a : Nat) (l : List Byte) (s : State), a + l.length ≤ 2 ^ 40) ∧
    (∃ (o : Nat) (a : Nat) (l : List Byte) (s : State) (o' : _) (a' : _), a + l.length ≤ 2 ^ 40 ∧ a' < 2 ^ 40 ∧
      ¬(o' = o ∧ a ≤ a' ∧ a' < a + l.length)) :=
  ⟨⟨F.MDM_BANDSTAT_FLPA, 0, 5, up, by decide⟩,
   ⟨0, 1099511627775, [1], up, by decide⟩,
   ⟨0, 1099511627775, [1], up, 0, 1099511627774, by decide⟩⟩

/-- States and operands that meet the hypotheses of `EveryCommandCompletes`, clause by clause. -/
theorem witness_EveryCommandCompletes :
    (∃ (c : Instr) (s : State), s.Canonical) :=
  ⟨.creditReturn 0, State.reset, by unfold State.Canonical; decide⟩

end Sys2Proof.Tests
end

section
/-! O59: a register, a field and a run of bytes read back as written, and everything else reads as before. -/

namespace Sys2Proof.Machine

open Sys2Proof

/-! ## Frames of a register write and of a field write -/

/-- The register file is the one part a register write touches. -/
theorem State.setReg_onlyIn (s : State) (r : Reg) (i : Nat) (w : Word) : s.OnlyIn [.regs] (s.setReg r i w) := by
  intro p hp
  cases p with
  | regs => exact absurd (List.mem_singleton_self _) hp
  | _ => rfl

theorem State.setReg_regsOnly (s : State) (r : Reg) (i : Nat) (w : Word) : s.RegsOnly [(r, i)] (s.setReg r i w) := by
  intro q j h
  exact s.reg_setReg_ne w (by simpa using h)

/-- Replacing a field keeps every bit of the word outside it; past bit 31 both words read 0. -/
theorem getLsbD_putBits_outside (w : Word) (lo width v : Nat) {n : Nat} (h : n < lo ∨ lo + width ≤ n) :
    (putBits w lo width v).getLsbD n = w.getLsbD n := by
  by_cases hn : n < 32
  · rw [getLsbD_putBits _ _ _ _ _ hn, if_neg (by omega)]
  · rw [BitVec.getLsbD_of_ge _ _ (by omega), BitVec.getLsbD_of_ge _ _ (by omega)]

theorem State.setFld_fieldOnly (s : State) (f : Fld) (i v : Nat) : s.FieldOnly f i (s.setFld f i v) := by
  refine ⟨s.setReg_regsOnly _ _ _, fun n hn => ?_⟩
  rw [State.reg_setFld, if_pos ⟨rfl, rfl⟩, getLsbD_putBits_outside _ _ _ _ hn]

/-! ## Runs of bytes -/

/-- Memory is the one part a byte write touches. -/
theorem State.setByte_onlyIn (s : State) (o a : Nat) (b : Byte) : s.OnlyIn [.mem] (s.setByte o a b) := by
  intro p hp
  cases p with
  | mem => exact absurd (List.mem_singleton_self _) hp
  | _ => rfl

@[simp] theorem State.byte_setByte_same (s : State) (o a : Nat) (b : Byte) : (s.setByte o a b).byte o a = b := by
  simp [State.byte_setByte]

/-- Below 2 ^ 40, where offsets do not wrap, no two bytes of objects share a key (`memKey_inj`). -/
theorem State.byte_setByte_ne (s : State) {o a o' a' : Nat} (b : Byte) (ha : a < 2 ^ 40) (ha' : a' < 2 ^ 40)
    (h : ¬(o' = o ∧ a' = a)) : (s.setByte o a b).byte o' a' = s.byte o' a' := by
  rw [State.byte_setByte, if_neg (mt (memKey_inj ha ha').1 h)]

theorem State.setBytes_onlyIn (s : State) (o a : Nat) (l : List Byte) : s.OnlyIn [.mem] (s.setBytes o a l) := by
  induction l generalizing s a with
  | nil => exact s.onlyIn_refl _
  | cons b t ih => exact (s.setByte_onlyIn o a b).trans (ih _ _)

/-- A byte outside the run written reads as before. -/
theorem State.byte_setBytes_outside (s : State) {o a o' a' : Nat} (l : List Byte) (hl : a + l.length ≤ 2 ^ 40)
    (ha' : a' < 2 ^ 40) (h : ¬(o' = o ∧ a ≤ a' ∧ a' < a + l.length)) :
    (s.setBytes o a l).byte o' a' = s.byte o' a' := by
  induction l generalizing s a with
  | nil => rfl
  | cons b t ih =>
    rw [List.length_cons] at hl h
    calc ((s.setByte o a b).setBytes o (a + 1) t).byte o' a'
        = (s.setByte o a b).byte o' a' := ih _ (by omega) (by omega)
      _ = s.byte o' a' := s.byte_setByte_ne b (by omega) ha' (by omega)

/-- The bytes after the first are written outside it, so the first still reads as written. -/
theorem State.bytes_setBytes (s : State) (o a : Nat) (l : List Byte) (hl : a + l.length ≤ 2 ^ 40) :
    (s.setBytes o a l).bytes o a l.length = l := by
  induction l generalizing s a with
  | nil => rfl
  | cons b t ih =>
    rw [List.length_cons] at hl
    have hhead : ((s.setByte o a b).setBytes o (a + 1) t).byte o a = b := by
      rw [State.byte_setBytes_outside _ t (by omega) (by omega) (by omega), State.byte_setByte_same]
    exact congrArg₂ List.cons hhead (ih _ _ (by omega))

/-! ## Little-endian bytes -/

theorem length_natLe (n v : Nat) : (natLe n v).length = n := by
  induction n generalizing v with
  | zero => rfl
  | succ n ih => rw [natLe, List.length_cons, ih]

/-- The lowest byte and the rest: `v % 256 ^ (n + 1) = v % 256 + 256 * (v / 256 % 256 ^ n)`. -/
theorem leNat_natLe (n v : Nat) : leNat (natLe n v) = v % 256 ^ n := by
  induction n generalizing v with
  | zero => simp [natLe, leNat, Nat.mod_one]
  | succ n ih => rw [natLe, leNat, ih, BitVec.toNat_ofNat, Nat.pow_succ' (m := 256), Nat.mod_mul]

/-- Settles O59: each write is read back by its own law, and its frame is one part of the state and, inside it, the
register, the bits or the bytes written. -/
theorem fieldsAndBytesAreWrittenAlone : Obligations.FieldsAndBytesAreWrittenAlone := by
  refine ⟨fun r i w s => ?register, fun f i v s hf => ?field, fun o a l s hl => ?run, fun n v => ?littleEndian⟩
  case register => exact ⟨s.reg_setReg_same r i w, s.setReg_regsOnly r i w, s.setReg_onlyIn r i w⟩
  case field => exact ⟨s.fld_setFld_same f i v hf, s.setFld_fieldOnly f i v, s.setReg_onlyIn _ _ _⟩
  case run =>
    exact ⟨s.bytes_setBytes o a l hl, fun _ _ ha' h => s.byte_setBytes_outside l hl ha' h, s.setBytes_onlyIn o a l⟩
  case littleEndian => exact ⟨leNat_natLe n v, length_natLe n v⟩

end Sys2Proof.Machine
end

section
/-! O60: every command answers a next state, the waiting commands and the canonical form kept. -/

namespace Sys2Proof.Machine

open Sys2Proof

/-- Two outcomes agree where the next states do. -/
theorem next_congr {s t : State} (h : s = t) : (.next s : Host.Outcome State Fault Refusal) = .next t := congrArg _ h

/-- Every command answers its meaning as the next state, and undoes nothing that the files under Laws/Keeps say its meaning keeps. -/
theorem exec_keeps (c : Instr) (s : State) : ∃ t, exec c s = .next t ∧ s.Keeps t := by
  cases c with
  | vinStart => exact ⟨_, rfl, vinStart_keeps (h := .refl s) ..⟩
  | lowSupplyTrip => exact ⟨_, rfl, lowSupplyTrip_keeps (h := .refl s) ..⟩
  | rstNAssert => exact ⟨_, rfl, rstNAssert_keeps (h := .refl s) ..⟩
  | rstNRelease => exact ⟨_, rfl, rstNRelease_keeps (h := .refl s) ..⟩
  | perstNRise => exact ⟨_, rfl, perstNRise_keeps (h := .refl s) ..⟩
  | perstNAssert => exact ⟨_, rfl, perstNAssert_keeps (h := .refl s) ..⟩
  | wake => exact ⟨_, rfl, wake_keeps (h := .refl s) ..⟩
  | watchTimeout => exact ⟨_, rfl, watchTimeout_keeps (h := .refl s) ..⟩
  | modeReqServe => exact ⟨_, rfl, modeReqServe_keeps (h := .refl s) ..⟩
  | modeReqSurge => exact ⟨_, rfl, modeReqSurge_keeps (h := .refl s) ..⟩
  | modeReqRest => exact ⟨_, rfl, modeReqRest_keeps (h := .refl s) ..⟩
  | modeReqWatch => exact ⟨_, rfl, modeReqWatch_keeps (h := .refl s) ..⟩
  | modeTransitionComplete => exact ⟨_, rfl, modeTransitionComplete_keeps (h := .refl s) ..⟩
  | modeDrainForcedDisable => exact ⟨_, rfl, modeDrainForcedDisable_keeps (h := .refl s) ..⟩
  | pwrCapWrite => exact ⟨_, rfl, pwrCapWrite_keeps (h := .refl s) ..⟩
  | powerCapControl => exact ⟨_, rfl, powerCapControl_keeps (h := .refl s) ..⟩
  | pwrStatClear => exact ⟨_, rfl, pwrStatClear_keeps (h := .refl s) ..⟩
  | pwrFailAssert => exact ⟨_, rfl, pwrFailAssert_keeps (h := .refl s) ..⟩
  | vinEmberCross => exact ⟨_, rfl, vinEmberCross_keeps (h := .refl s) ..⟩
  | emberExit => exact ⟨_, rfl, emberExit_keeps (h := .refl s) ..⟩
  | emberMaxSExpire => exact ⟨_, rfl, emberMaxSExpire_keeps (h := .refl s) ..⟩
  | portCfgWrite => exact ⟨_, rfl, portCfgWrite_keeps (h := .refl s) ..⟩
  | portDisable => exact ⟨_, rfl, portDisable_keeps (h := .refl s) ..⟩
  | portForcedDisable => exact ⟨_, rfl, portForcedDisable_keeps (h := .refl s) ..⟩
  | txpathChangeApply => exact ⟨_, rfl, txpathChangeApply_keeps (h := .refl s) ..⟩
  | frameSchedule => exact ⟨_, rfl, frameSchedule_keeps (h := .refl s) ..⟩
  | frameNotStaged => exact ⟨_, rfl, frameNotStaged_keeps (h := .refl s) ..⟩
  | txFrameStart => exact ⟨_, rfl, txFrameStart_keeps (h := .refl s) ..⟩
  | txFrameEnd => exact ⟨_, rfl, txFrameEnd_keeps (h := .refl s) ..⟩
  | paEnRelease => exact ⟨_, rfl, paEnRelease_keeps (h := .refl s) ..⟩
  | stagingUnderrun => exact ⟨_, rfl, stagingUnderrun_keeps (h := .refl s) ..⟩
  | foldbackTrigger => exact ⟨_, rfl, foldbackTrigger_keeps (h := .refl s) ..⟩
  | foldbackFurtherStep => exact ⟨_, rfl, foldbackFurtherStep_keeps (h := .refl s) ..⟩
  | overcurrentMute => exact ⟨_, rfl, overcurrentMute_keeps (h := .refl s) ..⟩
  | agcLower => exact ⟨_, rfl, agcLower_keeps (h := .refl s) ..⟩
  | agcRaise => exact ⟨_, rfl, agcRaise_keeps (h := .refl s) ..⟩
  | ownTxSuppressEnd => exact ⟨_, rfl, ownTxSuppressEnd_keeps (h := .refl s) ..⟩
  | overloadWindowEnd => exact ⟨_, rfl, overloadWindowEnd_keeps (h := .refl s) ..⟩
  | ringBlockWrite => exact ⟨_, rfl, ringBlockWrite_keeps (h := .refl s) ..⟩
  | trackerLock => exact ⟨_, rfl, trackerLock_keeps (h := .refl s) ..⟩
  | phaseZero => exact ⟨_, rfl, phaseZero_keeps (h := .refl s) ..⟩
  | trackerHoldover => exact ⟨_, rfl, trackerHoldover_keeps (h := .refl s) ..⟩
  | trackerRelock => exact ⟨_, rfl, trackerRelock_keeps (h := .refl s) ..⟩
  | zcOfsWrite => exact ⟨_, rfl, zcOfsWrite_keeps (h := .refl s) ..⟩
  | trackerRefSwitch => exact ⟨_, rfl, trackerRefSwitch_keeps (h := .refl s) ..⟩
  | trackerRefReturn => exact ⟨_, rfl, trackerRefReturn_keeps (h := .refl s) ..⟩
  | slotBoundary => exact ⟨_, rfl, slotBoundary_keeps (h := .refl s) ..⟩
  | lpZcphaseRead => exact ⟨_, rfl, lpZcphaseRead_keeps (h := .refl s) ..⟩
  | lpIsenseRead => exact ⟨_, rfl, lpIsenseRead_keeps (h := .refl s) ..⟩
  | preambleDetection => exact ⟨_, rfl, preambleDetection_keeps (h := .refl s) ..⟩
  | receptionOpen => exact ⟨_, rfl, receptionOpen_keeps (h := .refl s) ..⟩
  | ringWaitResume => exact ⟨_, rfl, ringWaitResume_keeps (h := .refl s) ..⟩
  | receptionEnd => exact ⟨_, rfl, receptionEnd_keeps (h := .refl s) ..⟩
  | checkpointWaitResume => exact ⟨_, rfl, checkpointWaitResume_keeps (h := .refl s) ..⟩
  | sicResume => exact ⟨_, rfl, sicResume_keeps (h := .refl s) ..⟩
  | inputLostInReception => exact ⟨_, rfl, inputLostInReception_keeps (h := .refl s) ..⟩
  | harqBufferExpire => exact ⟨_, rfl, harqBufferExpire_keeps (h := .refl s) ..⟩
  | rescanTrigger => exact ⟨_, rfl, rescanTrigger_keeps (h := .refl s) ..⟩
  | mdmRescanGo => exact ⟨_, rfl, mdmRescanGo_keeps (h := .refl s) ..⟩
  | rescanStart => exact ⟨_, rfl, rescanStart_keeps (h := .refl s) ..⟩
  | rescanEnd => exact ⟨_, rfl, rescanEnd_keeps (h := .refl s) ..⟩
  | ringDepthChange => exact ⟨_, rfl, ringDepthChange_keeps (h := .refl s) ..⟩
  | confidenceHalving => exact ⟨_, rfl, confidenceHalving_keeps (h := .refl s) ..⟩
  | broadcastSounding => exact ⟨_, rfl, broadcastSounding_keeps (h := .refl s) ..⟩
  | uplinkSoundingRequest => exact ⟨_, rfl, uplinkSoundingRequest_keeps (h := .refl s) ..⟩
  | staleSlotTimeout => exact ⟨_, rfl, staleSlotTimeout_keeps (h := .refl s) ..⟩
  | uplinkMapIssue => exact ⟨_, rfl, uplinkMapIssue_keeps (h := .refl s) ..⟩
  | retiredMapExpire => exact ⟨_, rfl, retiredMapExpire_keeps (h := .refl s) ..⟩
  | toneMap => exact ⟨_, rfl, toneMap_keeps (h := .refl s) ..⟩
  | channelReport => exact ⟨_, rfl, channelReport_keeps (h := .refl s) ..⟩
  | recordReleaseComplete => exact ⟨_, rfl, recordReleaseComplete_keeps (h := .refl s) ..⟩
  | mapPin => exact ⟨_, rfl, mapPin_keeps (h := .refl s) ..⟩
  | mapUnpin => exact ⟨_, rfl, mapUnpin_keeps (h := .refl s) ..⟩
  | mapRelease => exact ⟨_, rfl, mapRelease_keeps (h := .refl s) ..⟩
  | mapRequestSounding => exact ⟨_, rfl, mapRequestSounding_keeps (h := .refl s) ..⟩
  | notchWrite => exact ⟨_, rfl, notchWrite_keeps (h := .refl s) ..⟩
  | notchApply => exact ⟨_, rfl, notchApply_keeps (h := .refl s) ..⟩
  | bandcfgWrite => exact ⟨_, rfl, bandcfgWrite_keeps (h := .refl s) ..⟩
  | bandChangeApply => exact ⟨_, rfl, bandChangeApply_keeps (h := .refl s) ..⟩
  | reflectometrySweep => exact ⟨_, rfl, reflectometrySweep_keeps (h := .refl s) ..⟩
  | networkBeacon => exact ⟨_, rfl, networkBeacon_keeps (h := .refl s) ..⟩
  | discoveryBeacon => exact ⟨_, rfl, discoveryBeacon_keeps (h := .refl s) ..⟩
  | macBcncfgWrite => exact ⟨_, rfl, macBcncfgWrite_keeps (h := .refl s) ..⟩
  | assocReq => exact ⟨_, rfl, assocReq_keeps (h := .refl s) ..⟩
  | assocTimeout => exact ⟨_, rfl, assocTimeout_keeps (h := .refl s) ..⟩
  | keyConfirm => exact ⟨_, rfl, keyConfirm_keeps (h := .refl s) ..⟩
  | quarantineExpire => exact ⟨_, rfl, quarantineExpire_keeps (h := .refl s) ..⟩
  | uplinkAckSend => exact ⟨_, rfl, uplinkAckSend_keeps (h := .refl s) ..⟩
  | ackTimeout => exact ⟨_, rfl, ackTimeout_keeps (h := .refl s) ..⟩
  | groupKeyChange => exact ⟨_, rfl, groupKeyChange_keeps (h := .refl s) ..⟩
  | groupKeyActivate => exact ⟨_, rfl, groupKeyActivate_keeps (h := .refl s) ..⟩
  | nodeRelease => exact ⟨_, rfl, nodeRelease_keeps (h := .refl s) ..⟩
  | nodeWake => exact ⟨_, rfl, nodeWake_keeps (h := .refl s) ..⟩
  | nodeForceReassoc => exact ⟨_, rfl, nodeForceReassoc_keeps (h := .refl s) ..⟩
  | rendezvousReq => exact ⟨_, rfl, rendezvousReq_keeps (h := .refl s) ..⟩
  | checkin => exact ⟨_, rfl, checkin_keeps (h := .refl s) ..⟩
  | checkinMissed => exact ⟨_, rfl, checkinMissed_keeps (h := .refl s) ..⟩
  | absentWakeRepeat => exact ⟨_, rfl, absentWakeRepeat_keeps (h := .refl s) ..⟩
  | absentRelease => exact ⟨_, rfl, absentRelease_keeps (h := .refl s) ..⟩
  | wakePatternDetect => exact ⟨_, rfl, wakePatternDetect_keeps (h := .refl s) ..⟩
  | wakeAnnounce => exact ⟨_, rfl, wakeAnnounce_keeps (h := .refl s) ..⟩
  | allocReq => exact ⟨_, rfl, allocReq_keeps (h := .refl s) ..⟩
  | allocEnd => exact ⟨_, rfl, allocEnd_keeps (h := .refl s) ..⟩
  | leave => exact ⟨_, rfl, leave_keeps (h := .refl s) ..⟩
  | mgmtInvalid => exact ⟨_, rfl, mgmtInvalid_keeps (h := .refl s) ..⟩
  | neighbourReport => exact ⟨_, rfl, neighbourReport_keeps (h := .refl s) ..⟩
  | routeFailure => exact ⟨_, rfl, routeFailure_keeps (h := .refl s) ..⟩
  | parentBeacon => exact ⟨_, rfl, parentBeacon_keeps (h := .refl s) ..⟩
  | parentBeaconMiss => exact ⟨_, rfl, parentBeaconMiss_keeps (h := .refl s) ..⟩
  | handoverDecision => exact ⟨_, rfl, handoverDecision_keeps (h := .refl s) ..⟩
  | offer => exact ⟨_, rfl, offer_keeps (h := .refl s) ..⟩
  | accept => exact ⟨_, rfl, accept_keeps (h := .refl s) ..⟩
  | commit => exact ⟨_, rfl, commit_keeps (h := .refl s) ..⟩
  | abort => exact ⟨_, rfl, abort_keeps (h := .refl s) ..⟩
  | handoverAcceptTimeout => exact ⟨_, rfl, handoverAcceptTimeout_keeps (h := .refl s) ..⟩
  | pendingRecordTimeout => exact ⟨_, rfl, pendingRecordTimeout_keeps (h := .refl s) ..⟩
  | ledgerSubmit => exact ⟨_, rfl, ledgerSubmit_keeps (h := .refl s) ..⟩
  | ledgerCancel => exact ⟨_, rfl, ledgerCancel_keeps (h := .refl s) ..⟩
  | ledgerQuery => exact ⟨_, rfl, ledgerQuery_keeps (h := .refl s) ..⟩
  | ledgerRelease => exact ⟨_, rfl, ledgerRelease_keeps (h := .refl s) ..⟩
  | ledgerNext => exact ⟨_, rfl, ledgerNext_keeps (h := .refl s) ..⟩
  | ledgerBatchLanded => exact ⟨_, rfl, ledgerBatchLanded_keeps (h := .refl s) ..⟩
  | ledgerResend => exact ⟨_, rfl, ledgerResend_keeps (h := .refl s) ..⟩
  | ledgerReport => exact ⟨_, rfl, ledgerReport_keeps (h := .refl s) ..⟩
  | ledgerDeadline => exact ⟨_, rfl, ledgerDeadline_keeps (h := .refl s) ..⟩
  | ledgerConfirmTimeout => exact ⟨_, rfl, ledgerConfirmTimeout_keeps (h := .refl s) ..⟩
  | macLdgAccRead => exact ⟨_, rfl, macLdgAccRead_keeps (h := .refl s) ..⟩
  | fbdWaitTimeout => exact ⟨_, rfl, fbdWaitTimeout_keeps (h := .refl s) ..⟩
  | fbdReturnTake => exact ⟨_, rfl, fbdReturnTake_keeps (h := .refl s) ..⟩
  | sweepNow => exact ⟨_, rfl, sweepNow_keeps (h := .refl s) ..⟩
  | baselineTake => exact ⟨_, rfl, baselineTake_keeps (h := .refl s) ..⟩
  | rangingSet => exact ⟨_, rfl, rangingSet_keeps (h := .refl s) ..⟩
  | evidenceRelease => exact ⟨_, rfl, evidenceRelease_keeps (h := .refl s) ..⟩
  | rangeResp => exact ⟨_, rfl, rangeResp_keeps (h := .refl s) ..⟩
  | balancePointChange => exact ⟨_, rfl, balancePointChange_keeps (h := .refl s) ..⟩
  | balanceDwellEnd => exact ⟨_, rfl, balanceDwellEnd_keeps (h := .refl s) ..⟩
  | meterRead => exact ⟨_, rfl, meterRead_keeps (h := .refl s) ..⟩
  | balanceIntervalEnd => exact ⟨_, rfl, balanceIntervalEnd_keeps (h := .refl s) ..⟩
  | gsCfgWrite => exact ⟨_, rfl, gsCfgWrite_keeps (h := .refl s) ..⟩
  | gsXptWrite => exact ⟨_, rfl, gsXptWrite_keeps (h := .refl s) ..⟩
  | sourceWrite => exact ⟨_, rfl, sourceWrite_keeps (h := .refl s) ..⟩
  | gsRetWrite => exact ⟨_, rfl, gsRetWrite_keeps (h := .refl s) ..⟩
  | gsChangeApply => exact ⟨_, rfl, gsChangeApply_keeps (h := .refl s) ..⟩
  | lingo => exact ⟨_, rfl, lingo_keeps (h := .refl s) ..⟩
  | chargeReset => exact ⟨_, rfl, chargeReset_keeps (h := .refl s) ..⟩
  | gsSampleOutput => exact ⟨_, rfl, gsSampleOutput_keeps (h := .refl s) ..⟩
  | gsChannelDrain => exact ⟨_, rfl, gsChannelDrain_keeps (h := .refl s) ..⟩
  | calGo => exact ⟨_, rfl, calGo_keeps (h := .refl s) ..⟩
  | calibrationStart => exact ⟨_, rfl, calibrationStart_keeps (h := .refl s) ..⟩
  | calMeasureDone => exact ⟨_, rfl, calMeasureDone_keeps (h := .refl s) ..⟩
  | calCommitLanded => exact ⟨_, rfl, calCommitLanded_keeps (h := .refl s) ..⟩
  | calTargetReturn => exact ⟨_, rfl, calTargetReturn_keeps (h := .refl s) ..⟩
  | calAbandon => exact ⟨_, rfl, calAbandon_keeps (h := .refl s) ..⟩
  | calLastSRead => exact ⟨_, rfl, calLastSRead_keeps (h := .refl s) ..⟩
  | iNop => exact ⟨_, rfl, idNop_keeps (h := .refl s) ..⟩
  | iYield => exact ⟨_, rfl, idYield_keeps (h := .refl s) ..⟩
  | iEnd => exact ⟨_, rfl, idEnd_keeps (h := .refl s) ..⟩
  | iFence => exact ⟨_, rfl, idFence_keeps (h := .refl s) ..⟩
  | iRet => exact ⟨_, rfl, idRet_keeps (h := .refl s) ..⟩
  | iJr => exact ⟨_, rfl, idJr_keeps (h := .refl s) ..⟩
  | iRdctx => exact ⟨_, rfl, idRdctx_keeps (h := .refl s) ..⟩
  | iBr => exact ⟨_, rfl, idBr_keeps (h := .refl s) ..⟩
  | iBz => exact ⟨_, rfl, idBz_keeps (h := .refl s) ..⟩
  | iBnz => exact ⟨_, rfl, idBnz_keeps (h := .refl s) ..⟩
  | iCall => exact ⟨_, rfl, idCall_keeps (h := .refl s) ..⟩
  | iAdd => exact ⟨_, rfl, idAdd_keeps (h := .refl s) ..⟩
  | iSub => exact ⟨_, rfl, idSub_keeps (h := .refl s) ..⟩
  | iAnd => exact ⟨_, rfl, idAnd_keeps (h := .refl s) ..⟩
  | iOr => exact ⟨_, rfl, idOr_keeps (h := .refl s) ..⟩
  | iXor => exact ⟨_, rfl, idXor_keeps (h := .refl s) ..⟩
  | iShl => exact ⟨_, rfl, idShl_keeps (h := .refl s) ..⟩
  | iShr => exact ⟨_, rfl, idShr_keeps (h := .refl s) ..⟩
  | iSra => exact ⟨_, rfl, idSra_keeps (h := .refl s) ..⟩
  | iMul => exact ⟨_, rfl, idMul_keeps (h := .refl s) ..⟩
  | iMulhu => exact ⟨_, rfl, idMulhu_keeps (h := .refl s) ..⟩
  | iMin => exact ⟨_, rfl, idMin_keeps (h := .refl s) ..⟩
  | iMax => exact ⟨_, rfl, idMax_keeps (h := .refl s) ..⟩
  | iSlt => exact ⟨_, rfl, idSlt_keeps (h := .refl s) ..⟩
  | iSltu => exact ⟨_, rfl, idSltu_keeps (h := .refl s) ..⟩
  | iPopc => exact ⟨_, rfl, idPopc_keeps (h := .refl s) ..⟩
  | iClz => exact ⟨_, rfl, idClz_keeps (h := .refl s) ..⟩
  | iAddi => exact ⟨_, rfl, idAddi_keeps (h := .refl s) ..⟩
  | iAndi => exact ⟨_, rfl, idAndi_keeps (h := .refl s) ..⟩
  | iOri => exact ⟨_, rfl, idOri_keeps (h := .refl s) ..⟩
  | iXori => exact ⟨_, rfl, idXori_keeps (h := .refl s) ..⟩
  | iShli => exact ⟨_, rfl, idShli_keeps (h := .refl s) ..⟩
  | iShri => exact ⟨_, rfl, idShri_keeps (h := .refl s) ..⟩
  | iSrai => exact ⟨_, rfl, idSrai_keeps (h := .refl s) ..⟩
  | iLi => exact ⟨_, rfl, idLi_keeps (h := .refl s) ..⟩
  | iLih => exact ⟨_, rfl, idLih_keeps (h := .refl s) ..⟩
  | iHget => exact ⟨_, rfl, idHget_keeps (h := .refl s) ..⟩
  | iLds => exact ⟨_, rfl, idLds_keeps (h := .refl s) ..⟩
  | iSts => exact ⟨_, rfl, idSts_keeps (h := .refl s) ..⟩
  | iLdv => exact ⟨_, rfl, idLdv_keeps (h := .refl s) ..⟩
  | iStv => exact ⟨_, rfl, idStv_keeps (h := .refl s) ..⟩
  | iVadd => exact ⟨_, rfl, idVadd_keeps (h := .refl s) ..⟩
  | iVsub => exact ⟨_, rfl, idVsub_keeps (h := .refl s) ..⟩
  | iVmul => exact ⟨_, rfl, idVmul_keeps (h := .refl s) ..⟩
  | iVconj => exact ⟨_, rfl, idVconj_keeps (h := .refl s) ..⟩
  | iVmag2 => exact ⟨_, rfl, idVmag2_keeps (h := .refl s) ..⟩
  | iVmin => exact ⟨_, rfl, idVmin_keeps (h := .refl s) ..⟩
  | iVmax => exact ⟨_, rfl, idVmax_keeps (h := .refl s) ..⟩
  | iVabs => exact ⟨_, rfl, idVabs_keeps (h := .refl s) ..⟩
  | iVsel => exact ⟨_, rfl, idVsel_keeps (h := .refl s) ..⟩
  | iVshri => exact ⟨_, rfl, idVshri_keeps (h := .refl s) ..⟩
  | iVperm => exact ⟨_, rfl, idVperm_keeps (h := .refl s) ..⟩
  | iVcmpgt => exact ⟨_, rfl, idVcmpgt_keeps (h := .refl s) ..⟩
  | iVcmpeq => exact ⟨_, rfl, idVcmpeq_keeps (h := .refl s) ..⟩
  | iVand => exact ⟨_, rfl, idVand_keeps (h := .refl s) ..⟩
  | iVxor => exact ⟨_, rfl, idVxor_keeps (h := .refl s) ..⟩
  | iVsplat => exact ⟨_, rfl, idVsplat_keeps (h := .refl s) ..⟩
  | iVext => exact ⟨_, rfl, idVext_keeps (h := .refl s) ..⟩
  | iVdemap => exact ⟨_, rfl, idVdemap_keeps (h := .refl s) ..⟩
  | iCmac => exact ⟨_, rfl, idCmac_keeps (h := .refl s) ..⟩
  | iCmacc => exact ⟨_, rfl, idCmacc_keeps (h := .refl s) ..⟩
  | iCmul => exact ⟨_, rfl, idCmul_keeps (h := .refl s) ..⟩
  | iAclr => exact ⟨_, rfl, idAclr_keeps (h := .refl s) ..⟩
  | iArnd => exact ⟨_, rfl, idArnd_keeps (h := .refl s) ..⟩
  | iAreduce => exact ⟨_, rfl, idAreduce_keeps (h := .refl s) ..⟩
  | iPand => exact ⟨_, rfl, idPand_keeps (h := .refl s) ..⟩
  | iPor => exact ⟨_, rfl, idPor_keeps (h := .refl s) ..⟩
  | iPxor => exact ⟨_, rfl, idPxor_keeps (h := .refl s) ..⟩
  | iPnot => exact ⟨_, rfl, idPnot_keeps (h := .refl s) ..⟩
  | iPset => exact ⟨_, rfl, idPset_keeps (h := .refl s) ..⟩
  | iPget => exact ⟨_, rfl, idPget_keeps (h := .refl s) ..⟩
  | iQpush => exact ⟨_, rfl, idQpush_keeps (h := .refl s) ..⟩
  | iQpop => exact ⟨_, rfl, idQpop_keeps (h := .refl s) ..⟩
  | iQtpush => exact ⟨_, rfl, idQtpush_keeps (h := .refl s) ..⟩
  | iQtpop => exact ⟨_, rfl, idQtpop_keeps (h := .refl s) ..⟩
  | iQlen => exact ⟨_, rfl, idQlen_keeps (h := .refl s) ..⟩
  | queueWaitResume => exact ⟨_, rfl, queueWaitResume_keeps (h := .refl s) ..⟩
  | iSpawn => exact ⟨_, rfl, idSpawn_keeps (h := .refl s) ..⟩
  | iTwait => exact ⟨_, rfl, idTwait_keeps (h := .refl s) ..⟩
  | twaitResume => exact ⟨_, rfl, twaitResume_keeps (h := .refl s) ..⟩
  | iXfft => exact ⟨_, rfl, idXfft_keeps (h := .refl s) ..⟩
  | iXfec => exact ⟨_, rfl, idXfec_keeps (h := .refl s) ..⟩
  | iXcry => exact ⟨_, rfl, idXcry_keeps (h := .refl s) ..⟩
  | iXchk => exact ⟨_, rfl, idXchk_keeps (h := .refl s) ..⟩
  | iAwait => exact ⟨_, rfl, idAwait_keeps (h := .refl s) ..⟩
  | iApoll => exact ⟨_, rfl, idApoll_keeps (h := .refl s) ..⟩
  | xfFft => exact ⟨_, rfl, xfFft_keeps (h := .refl s) ..⟩
  | xfIfft => exact ⟨_, rfl, xfIfft_keeps (h := .refl s) ..⟩
  | ldpcDecode => exact ⟨_, rfl, ldpcDecode_keeps (h := .refl s) ..⟩
  | ldpcEncode => exact ⟨_, rfl, ldpcEncode_keeps (h := .refl s) ..⟩
  | viterbiDecode => exact ⟨_, rfl, viterbiDecode_keeps (h := .refl s) ..⟩
  | convolutionalEncode => exact ⟨_, rfl, convolutionalEncode_keeps (h := .refl s) ..⟩
  | reedSolomonDecode => exact ⟨_, rfl, reedSolomonDecode_keeps (h := .refl s) ..⟩
  | reedSolomonEncode => exact ⟨_, rfl, reedSolomonEncode_keeps (h := .refl s) ..⟩
  | gcmEncrypt => exact ⟨_, rfl, gcmEncrypt_keeps (h := .refl s) ..⟩
  | gcmDecrypt => exact ⟨_, rfl, gcmDecrypt_keeps (h := .refl s) ..⟩
  | ccmEncrypt => exact ⟨_, rfl, ccmEncrypt_keeps (h := .refl s) ..⟩
  | ccmDecrypt => exact ⟨_, rfl, ccmDecrypt_keeps (h := .refl s) ..⟩
  | chkFeed => exact ⟨_, rfl, chkFeed_keeps (h := .refl s) ..⟩
  | iUget => exact ⟨_, rfl, idUget_keeps (h := .refl s) ..⟩
  | iUput => exact ⟨_, rfl, idUput_keeps (h := .refl s) ..⟩
  | iTnow => exact ⟨_, rfl, idTnow_keeps (h := .refl s) ..⟩
  | iZcrd => exact ⟨_, rfl, idZcrd_keeps (h := .refl s) ..⟩
  | iTwaitt => exact ⟨_, rfl, idTwaitt_keeps (h := .refl s) ..⟩
  | twaittExpire => exact ⟨_, rfl, twaittExpire_keeps (h := .refl s) ..⟩
  | iWslot => exact ⟨_, rfl, idWslot_keeps (h := .refl s) ..⟩
  | wslotReturn => exact ⟨_, rfl, wslotReturn_keeps (h := .refl s) ..⟩
  | taskMigrate => exact ⟨_, rfl, taskMigrate_keeps (h := .refl s) ..⟩
  | tagWaitResume => exact ⟨_, rfl, tagWaitResume_keeps (h := .refl s) ..⟩
  | pseudoChannelAdmit => exact ⟨_, rfl, pseudoChannelAdmit_keeps (h := .refl s) ..⟩
  | creditReturn => exact ⟨_, rfl, creditReturn_keeps (h := .refl s) ..⟩
  | linkHandshakeTimeout => exact ⟨_, rfl, linkHandshakeTimeout_keeps (h := .refl s) ..⟩
  | packLoad => exact ⟨_, rfl, packLoad_keeps (h := .refl s) ..⟩
  | packUnload => exact ⟨_, rfl, packUnload_keeps (h := .refl s) ..⟩
  | replOutgoingEnded => exact ⟨_, rfl, replOutgoingEnded_keeps (h := .refl s) ..⟩
  | replTimeLimit => exact ⟨_, rfl, replTimeLimit_keeps (h := .refl s) ..⟩
  | replAbort => exact ⟨_, rfl, replAbort_keeps (h := .refl s) ..⟩
  | classSet => exact ⟨_, rfl, classSet_keeps (h := .refl s) ..⟩
  | classAssign => exact ⟨_, rfl, classAssign_keeps (h := .refl s) ..⟩
  | placementReport => exact ⟨_, rfl, placementReport_keeps (h := .refl s) ..⟩
  | ownerSet => exact ⟨_, rfl, ownerSet_keeps (h := .refl s) ..⟩
  | pitDrain => exact ⟨_, rfl, pitDrain_keeps (h := .refl s) ..⟩
  | pitForcedDisable => exact ⟨_, rfl, pitForcedDisable_keeps (h := .refl s) ..⟩
  | pitRestore => exact ⟨_, rfl, pitRestore_keeps (h := .refl s) ..⟩
  | unitDrained => exact ⟨_, rfl, unitDrained_keeps (h := .refl s) ..⟩
  | drainBoundExpire => exact ⟨_, rfl, drainBoundExpire_keeps (h := .refl s) ..⟩
  | spareTargetWrite => exact ⟨_, rfl, spareTargetWrite_keeps (h := .refl s) ..⟩
  | pageMigrate => exact ⟨_, rfl, pageMigrate_keeps (h := .refl s) ..⟩
  | hbmStepChange => exact ⟨_, rfl, hbmStepChange_keeps (h := .refl s) ..⟩
  | scrubPass => exact ⟨_, rfl, scrubPass_keeps (h := .refl s) ..⟩
  | memoryEccError => exact ⟨_, rfl, memoryEccError_keeps (h := .refl s) ..⟩
  | snrReport => exact ⟨_, rfl, snrReport_keeps (h := .refl s) ..⟩
  | glJoin => exact ⟨_, rfl, glJoin_keeps (h := .refl s) ..⟩
  | glLeave => exact ⟨_, rfl, glLeave_keeps (h := .refl s) ..⟩
  | hello => exact ⟨_, rfl, hello_keeps (h := .refl s) ..⟩
  | joinReq => exact ⟨_, rfl, joinReq_keeps (h := .refl s) ..⟩
  | joinAck => exact ⟨_, rfl, joinAck_keeps (h := .refl s) ..⟩
  | joinRefuse => exact ⟨_, rfl, joinRefuse_keeps (h := .refl s) ..⟩
  | joinRetry => exact ⟨_, rfl, joinRetry_keeps (h := .refl s) ..⟩
  | guylineLeave => exact ⟨_, rfl, guylineLeave_keeps (h := .refl s) ..⟩
  | route => exact ⟨_, rfl, route_keeps (h := .refl s) ..⟩
  | guylineFrameForward => exact ⟨_, rfl, guylineFrameForward_keeps (h := .refl s) ..⟩
  | routeHoldTimeout => exact ⟨_, rfl, routeHoldTimeout_keeps (h := .refl s) ..⟩
  | controlRepeat => exact ⟨_, rfl, controlRepeat_keeps (h := .refl s) ..⟩
  | guylineAck => exact ⟨_, rfl, guylineAck_keeps (h := .refl s) ..⟩
  | lineLinkBeacon => exact ⟨_, rfl, lineLinkBeacon_keeps (h := .refl s) ..⟩
  | timeFrameSend => exact ⟨_, rfl, timeFrameSend_keeps (h := .refl s) ..⟩
  | timeFrame => exact ⟨_, rfl, timeFrame_keeps (h := .refl s) ..⟩
  | serdesLoss => exact ⟨_, rfl, serdesLoss_keeps (h := .refl s) ..⟩
  | framSecondsWrite => exact ⟨_, rfl, framSecondsWrite_keeps (h := .refl s) ..⟩
  | sourceQualify => exact ⟨_, rfl, sourceQualify_keeps (h := .refl s) ..⟩
  | sourceLost => exact ⟨_, rfl, sourceLost_keeps (h := .refl s) ..⟩
  | compassStep => exact ⟨_, rfl, compassStep_keeps (h := .refl s) ..⟩
  | cmpSetStep => exact ⟨_, rfl, cmpSetStep_keeps (h := .refl s) ..⟩
  | cmpSetPps => exact ⟨_, rfl, cmpSetPps_keeps (h := .refl s) ..⟩
  | ppsInEdge => exact ⟨_, rfl, ppsInEdge_keeps (h := .refl s) ..⟩
  | ppsSetTimeout => exact ⟨_, rfl, ppsSetTimeout_keeps (h := .refl s) ..⟩
  | ptpMessage => exact ⟨_, rfl, ptpMessage_keeps (h := .refl s) ..⟩
  | holdoverLimit => exact ⟨_, rfl, holdoverLimit_keeps (h := .refl s) ..⟩
  | ppsOutPulse => exact ⟨_, rfl, ppsOutPulse_keeps (h := .refl s) ..⟩
  | cmpShortSRead => exact ⟨_, rfl, cmpShortSRead_keeps (h := .refl s) ..⟩
  | cmpZctSRead => exact ⟨_, rfl, cmpZctSRead_keeps (h := .refl s) ..⟩
  | mdmOldestSRead => exact ⟨_, rfl, mdmOldestSRead_keeps (h := .refl s) ..⟩
  | sysTagFreeRead => exact ⟨_, rfl, sysTagFreeRead_keeps (h := .refl s) ..⟩
  | provision => exact ⟨_, rfl, provision_keeps (h := .refl s) ..⟩
  | keyImport => exact ⟨_, rfl, keyImport_keeps (h := .refl s) ..⟩
  | lifecycle => exact ⟨_, rfl, lifecycle_keeps (h := .refl s) ..⟩
  | unlock => exact ⟨_, rfl, unlock_keeps (h := .refl s) ..⟩
  | attest => exact ⟨_, rfl, attest_keeps (h := .refl s) ..⟩
  | rollback => exact ⟨_, rfl, rollback_keeps (h := .refl s) ..⟩
  | revoke => exact ⟨_, rfl, revoke_keeps (h := .refl s) ..⟩
  | stage => exact ⟨_, rfl, stage_keeps (h := .refl s) ..⟩
  | switch => exact ⟨_, rfl, switch_keeps (h := .refl s) ..⟩
  | switchReadyTimeout => exact ⟨_, rfl, switchReadyTimeout_keeps (h := .refl s) ..⟩
  | challenge => exact ⟨_, rfl, challenge_keeps (h := .refl s) ..⟩
  | certs => exact ⟨_, rfl, certs_keeps (h := .refl s) ..⟩
  | unlockExpire => exact ⟨_, rfl, unlockExpire_keeps (h := .refl s) ..⟩
  | dbgLevelWrite => exact ⟨_, rfl, dbgLevelWrite_keeps (h := .refl s) ..⟩
  | tamperActivation => exact ⟨_, rfl, tamperActivation_keeps (h := .refl s) ..⟩
  | dbgHalt => exact ⟨_, rfl, dbgHalt_keeps (h := .refl s) ..⟩
  | dbgStep => exact ⟨_, rfl, dbgStep_keeps (h := .refl s) ..⟩
  | dbgResume => exact ⟨_, rfl, dbgResume_keeps (h := .refl s) ..⟩
  | detection => exact ⟨_, rfl, detection_keeps (h := .refl s) ..⟩
  | injectReporting => exact ⟨_, rfl, injectReporting_keeps (h := .refl s) ..⟩
  | injectFunctional => exact ⟨_, rfl, injectFunctional_keeps (h := .refl s) ..⟩
  | injectDestructive => exact ⟨_, rfl, injectDestructive_keeps (h := .refl s) ..⟩
  | selfTestStart => exact ⟨_, rfl, selfTestStart_keeps (h := .refl s) ..⟩
  | selfTestDone => exact ⟨_, rfl, selfTestDone_keeps (h := .refl s) ..⟩
  | unitRetire => exact ⟨_, rfl, unitRetire_keeps (h := .refl s) ..⟩
  | relSelfTest => exact ⟨_, rfl, relSelfTest_keeps (h := .refl s) ..⟩
  | relRetire => exact ⟨_, rfl, relRetire_keeps (h := .refl s) ..⟩
  | excursionStart => exact ⟨_, rfl, excursionStart_keeps (h := .refl s) ..⟩
  | excursionEnd => exact ⟨_, rfl, excursionEnd_keeps (h := .refl s) ..⟩
  | excursionRetest => exact ⟨_, rfl, excursionRetest_keeps (h := .refl s) ..⟩
  | recordSubmit => exact ⟨_, rfl, recordSubmit_keeps (h := .refl s) ..⟩
  | pieceProgrammed => exact ⟨_, rfl, pieceProgrammed_keeps (h := .refl s) ..⟩
  | commitLanded => exact ⟨_, rfl, commitLanded_keeps (h := .refl s) ..⟩
  | pieceFail => exact ⟨_, rfl, pieceFail_keeps (h := .refl s) ..⟩
  | compactionStart => exact ⟨_, rfl, compactionStart_keeps (h := .refl s) ..⟩
  | compactionErase => exact ⟨_, rfl, compactionErase_keeps (h := .refl s) ..⟩
  | refreshTrigger => exact ⟨_, rfl, refreshTrigger_keeps (h := .refl s) ..⟩
  | recordCheckFail => exact ⟨_, rfl, recordCheckFail_keeps (h := .refl s) ..⟩
  | bedSave => exact ⟨_, rfl, bedSave_keeps (h := .refl s) ..⟩
  | bedResumeHeld => exact ⟨_, rfl, bedResumeHeld_keeps (h := .refl s) ..⟩
  | queueEnable => exact ⟨_, rfl, queueEnable_keeps (h := .refl s) ..⟩
  | queueDisable => exact ⟨_, rfl, queueDisable_keeps (h := .refl s) ..⟩
  | sqDoorbell => exact ⟨_, rfl, sqDoorbell_keeps (h := .refl s) ..⟩
  | cqHeadWrite => exact ⟨_, rfl, cqHeadWrite_keeps (h := .refl s) ..⟩
  | nopCommand => exact ⟨_, rfl, nopCommand_keeps (h := .refl s) ..⟩
  | frameSend => exact ⟨_, rfl, frameSend_keeps (h := .refl s) ..⟩
  | nodeProvision => exact ⟨_, rfl, nodeProvision_keeps (h := .refl s) ..⟩
  | nodeRemove => exact ⟨_, rfl, nodeRemove_keeps (h := .refl s) ..⟩
  | netkeySet => exact ⟨_, rfl, netkeySet_keeps (h := .refl s) ..⟩
  | completionPost => exact ⟨_, rfl, completionPost_keeps (h := .refl s) ..⟩
  | eventPost => exact ⟨_, rfl, eventPost_keeps (h := .refl s) ..⟩
  | eventDropTimeout => exact ⟨_, rfl, eventDropTimeout_keeps (h := .refl s) ..⟩
  | fbdretWrite => exact ⟨_, rfl, fbdretWrite_keeps (h := .refl s) ..⟩
  | bar2Access => exact ⟨_, rfl, bar2Access_keeps (h := .refl s) ..⟩
  | headendDatagram => exact ⟨_, rfl, headendDatagram_keeps (h := .refl s) ..⟩
  | tpCharReceived => exact ⟨_, rfl, tpCharReceived_keeps (h := .refl s) ..⟩
  | tpRxdRead => exact ⟨_, rfl, tpRxdRead_keeps (h := .refl s) ..⟩
  | tpTxdWrite => exact ⟨_, rfl, tpTxdWrite_keeps (h := .refl s) ..⟩
  | tpCharSent => exact ⟨_, rfl, tpCharSent_keeps (h := .refl s) ..⟩
  | tpRxflush => exact ⟨_, rfl, tpRxflush_keeps (h := .refl s) ..⟩
  | tpTxflush => exact ⟨_, rfl, tpTxflush_keeps (h := .refl s) ..⟩
  | tpBreak => exact ⟨_, rfl, tpBreak_keeps (h := .refl s) ..⟩
  | tpResume => exact ⟨_, rfl, tpResume_keeps (h := .refl s) ..⟩
  | tpRateChangeApply => exact ⟨_, rfl, tpRateChangeApply_keeps (h := .refl s) ..⟩
  | tpBreakHeld => exact ⟨_, rfl, tpBreakHeld_keeps (h := .refl s) ..⟩
  | tpBreakHeldExit => exact ⟨_, rfl, tpBreakHeldExit_keeps (h := .refl s) ..⟩
  | tpSyncChar => exact ⟨_, rfl, tpSyncChar_keeps (h := .refl s) ..⟩
  | tpDisable => exact ⟨_, rfl, tpDisable_keeps (h := .refl s) ..⟩
  | chkInit => exact ⟨_, rfl, chkInit_keeps (h := .refl s) ..⟩
  | chkData8 => exact ⟨_, rfl, chkData8_keeps (h := .refl s) ..⟩
  | chkData16 => exact ⟨_, rfl, chkData16_keeps (h := .refl s) ..⟩
  | chkData32 => exact ⟨_, rfl, chkData32_keeps (h := .refl s) ..⟩
  | chkStateWrite => exact ⟨_, rfl, chkStateWrite_keeps (h := .refl s) ..⟩
  | chkCfgWrite => exact ⟨_, rfl, chkCfgWrite_keeps (h := .refl s) ..⟩
  | chkStateLoRead => exact ⟨_, rfl, chkStateLoRead_keeps (h := .refl s) ..⟩
  | chkResultLoRead => exact ⟨_, rfl, chkResultLoRead_keeps (h := .refl s) ..⟩
  | chkHostWriteResume => exact ⟨_, rfl, chkHostWriteResume_keeps (h := .refl s) ..⟩
  | chkHostmaskWrite => exact ⟨_, rfl, chkHostmaskWrite_keeps (h := .refl s) ..⟩
  | registerWrite => exact ⟨_, rfl, registerWrite_keeps (h := .refl s) ..⟩
  | handoverQuery => exact ⟨_, rfl, handoverQuery_keeps (h := .refl s) ..⟩
  | helloKeepalive => exact ⟨_, rfl, helloKeepalive_keeps (h := .refl s) ..⟩
  | serdesBlockLock => exact ⟨_, rfl, serdesBlockLock_keeps (h := .refl s) ..⟩
  | transactionResponse => exact ⟨_, rfl, transactionResponse_keeps (h := .refl s) ..⟩
  | hbmTrainingComplete => exact ⟨_, rfl, hbmTrainingComplete_keeps (h := .refl s) ..⟩
  | coalescingTimeout => exact ⟨_, rfl, coalescingTimeout_keeps (h := .refl s) ..⟩
  | rangingExchangeTimeout => exact ⟨_, rfl, rangingExchangeTimeout_keeps (h := .refl s) ..⟩
  | ethPortDisable => exact ⟨_, rfl, ethPortDisable_keeps (h := .refl s) ..⟩
  | memoryReserveWrite => exact ⟨_, rfl, memoryReserveWrite_keeps (h := .refl s) ..⟩

/-- Settles O60: `exec_keeps`, of which the queue and the canonical form are two parts. -/
theorem everyCommandCompletes : Obligations.EveryCommandCompletes := by
  intro c s
  obtain ⟨t, h, hk⟩ := exec_keeps c s
  exact ⟨t, h, hk.queue, hk.canon⟩

end Sys2Proof.Machine
end

section
/-! O51, O52, O53: one step, reset, and the run that serves the waiting commands in order. -/

namespace Sys2Proof.Machine

open Sys2Proof

/-! ## A step -/

/-- A step with a command at the front of the queue is that command on the queue's rest. -/
theorem step_eq_exec {s : State} {c : Instr} {rest : List Instr} (h : s.pending = c :: rest) :
    step s = exec c { s with pending := rest } := by
  rw [step, h]

/-- A step on an empty queue lets time pass. -/
theorem step_eq_idle {s : State} (h : s.pending = []) : step s = .next (idle s) := by
  rw [step, h]

/-- Every step answers, and undoes nothing that commands keep, measured from the state whose front command is taken off. -/
theorem step_keeps (s : State) : ∃ t, step s = .next t ∧ ({ s with pending := s.pending.tail } : State).Keeps t := by
  cases h : s.pending with
  | nil =>
    have hs : ({ s with pending := [] } : State) = s := by rw [← h]
    exact ⟨idle s, step_eq_idle h, by rw [List.tail_nil, hs]; exact idle_keeps s (.refl s)⟩
  | cons c rest =>
    obtain ⟨t, he, hk⟩ := exec_keeps c { s with pending := rest }
    exact ⟨t, (step_eq_exec h).trans he, hk⟩

/-- What a step that answered `t` keeps. -/
theorem keeps_of_step {s t : State} (h : step s = .next t) : ({ s with pending := s.pending.tail } : State).Keeps t := by
  obtain ⟨u, hu, hk⟩ := step_keeps s
  obtain rfl : u = t := by simpa [h] using hu.symm
  exact hk

/-! ## Time passing on an empty queue -/

theorem State.setCmpNs_onlyIn (s : State) (n : Nat) : s.OnlyIn [.cmp, .free] (s.setCmpNs n) := by
  intro p hp
  cases p with
  | cmp => exact absurd (by decide) hp
  | _ => rfl

theorem State.setCmpNs_free (s : State) (n : Nat) : (s.setCmpNs n).free = s.free := rfl

theorem State.drew_free (s : State) : s.drew.free = s.free + 1 := rfl

theorem State.drew_onlyIn (s : State) : s.OnlyIn [.cmp, .free] s.drew := by
  intro p hp
  cases p with
  | free => exact absurd (by decide) hp
  | _ => rfl

theorem idle_of_running {s : State} (h : s.cmp.running = true) :
    idle s = (s.setCmpNs (s.cmpNs + Config.elapsedNs s.free)).drew := if_pos h

theorem idle_of_stopped {s : State} (h : s.cmp.running = false) : idle s = s := if_neg (by simp [h])

theorem idle_onlyIn (s : State) : s.OnlyIn [.cmp, .free] (idle s) := by
  cases h : s.cmp.running with
  | true => rw [idle_of_running h]; exact (s.setCmpNs_onlyIn _).trans (State.drew_onlyIn _)
  | false => rw [idle_of_stopped h]; exact s.onlyIn_refl _

/-- Settles O51: the two equations of a step and of time passing. -/
theorem stepRunsTheFrontCommand : Obligations.StepRunsTheFrontCommand :=
  ⟨fun _ _ _ h => step_eq_exec h, fun _ h => step_eq_idle h, idle_onlyIn,
    fun s h => by rw [idle_of_running h, State.drew_free, State.setCmpNs_free], fun _ h => idle_of_stopped h⟩

/-! ## Reset -/

/-- At reset the register file lists nothing, so a register reads its reset value. -/
theorem State.reg_reset (r : Reg) (i : Nat) : State.reset.reg r i = r.reset i := by
  rw [State.reg, show State.reset.regs = [] from rfl, Tab.get, regDefault_key]

/-- Settles O52: at reset every table is empty, and what a table does not list reads its default. -/
theorem resetState : Obligations.ResetState :=
  ⟨rfl, rfl, State.reg_reset, State.canonical_reset, fun _ h => absurd h List.not_mem_nil, rfl, rfl, fun _ => rfl, fun _ => rfl,
    fun _ => rfl⟩

/-! ## The run of the queue -/

/-- The state a step leads to; every step leads to one (`step_eq_next`). -/
def State.stepped (s : State) : State :=
  match step s with
  | .next t => t
  | _ => s

theorem step_eq_next (s : State) : step s = .next s.stepped := by
  obtain ⟨t, h, _⟩ := step_keeps s
  rw [State.stepped, h]

theorem State.stepped_pending (s : State) : s.stepped.pending = s.pending.tail :=
  (keeps_of_step (step_eq_next s)).queue

/-- After `n` steps the first `n` waiting commands have been served. -/
theorem State.iterate_stepped_pending (s : State) (n : Nat) : (State.stepped^[n] s).pending = s.pending.drop n := by
  induction n with
  | zero => rfl
  | succ n ih => rw [Function.iterate_succ_apply', State.stepped_pending, ih, List.tail_drop]

theorem step_iterate_stepped (s : State) (n : Nat) : step (State.stepped^[n] s) = .next (State.stepped^[n + 1] s) := by
  rw [Function.iterate_succ_apply', step_eq_next]

/-- Settles O53: a step takes the front command off and answers, so the run is `State.stepped` iterated. -/
theorem waitingCommandsAreServedInTurn : Obligations.WaitingCommandsAreServedInTurn := by
  refine ⟨fun s => ⟨_, step_eq_next s⟩, fun s t h => ?queue, fun s => ⟨fun n => State.stepped^[n] s, rfl, ?emptied, fun n c hc => ?turn⟩⟩
  case queue =>
    have hq : t.pending = s.pending.tail := (keeps_of_step h).queue
    exact ⟨hq, fun hs c hc => hs c (List.mem_of_mem_tail (hq ▸ hc))⟩
  case emptied => exact (s.iterate_stepped_pending _).trans List.drop_length
  case turn =>
    have hd : (State.stepped^[n] s).pending = s.pending.drop n := s.iterate_stepped_pending n
    obtain ⟨hn, rfl⟩ := List.getElem?_eq_some_iff.1 hc
    have hfront : (State.stepped^[n] s).pending = s.pending[n] :: s.pending.drop (n + 1) := hd.trans (List.drop_eq_getElem_cons hn)
    exact ⟨hd, step_iterate_stepped s n, (step_eq_exec hfront).symm.trans (step_iterate_stepped s n)⟩

end Sys2Proof.Machine
end

section
/-! O56: slots of the pseudo-channels. -/

namespace Sys2Proof.Machine

open Sys2Proof

/-! ## What a transaction draws -/

/-- Of the fabric, the tags of an initiator are the one book that changes. -/
theorem State.setTags_fab (s : State) (i n : Nat) :
    (s.setTags i n).fab = { s.fab with held := Tab.set (fun _ => 0) s.fab.held i n } := by
  unfold State.setTags State.noteLow
  split <;> rfl

theorem State.setTags_plc (s : State) (i n : Nat) : (s.setTags i n).plc = s.plc := by
  obtain ⟨_, _, e, _⟩ := s.setTags_eq i n
  rw [e]

theorem State.tagsHeld_setTags (s : State) (i n : Nat) : (s.setTags i n).tagsHeld i = n := by
  rw [State.tagsHeld, State.setTags_fab, Tab.get_set_same]

theorem State.pcBusy_setTags (s : State) (i n p : Nat) : (s.setTags i n).pcBusy p = s.pcBusy p := by
  rw [State.pcBusy, State.setTags_fab, State.pcBusy]

/-- Tags are no slots. -/
theorem State.slotFree_setTags (s : State) (i n : Nat) (pc : Option Nat) : (s.setTags i n).slotFree pc = s.slotFree pc :=
  State.slotFree_congr (s.pcBusy_setTags i n) (s.setTags_plc i n) (by rw [State.setTags_fab]) pc

theorem State.freeBack_held (s : State) (l : Option Nat) (n : Nat) : (s.freeBack l n).fab.held = s.fab.held := by
  cases l <;> rfl

theorem State.takeSlot_held (s : State) (pc : Option Nat) : (s.takeSlot pc).fab.held = s.fab.held := by
  unfold State.takeSlot
  split
  · rfl
  · split <;> rfl

/-- A request that moves on draws no tag. -/
theorem State.push_held (l : List Nat) (s : State) (x : Txn) : (s.push x l).1.fab.held = s.fab.held := by
  induction l generalizing s x with
  | nil => rw [State.push, State.takeSlot_held, State.freeBack_held]
  | cons a t ih =>
    rw [State.push]
    split
    · exact State.freeBack_held _ _ _
    · exact (ih _ _).trans (State.freeBack_held _ _ _)

/-- A request that moves on stays the transaction it is. -/
theorem State.push_same (l : List Nat) (s : State) (x : Txn) :
    (s.push x l).2.id = x.id ∧ (s.push x l).2.init = x.init ∧ (s.push x l).2.pc = x.pc := by
  induction l generalizing s x with
  | nil => exact ⟨rfl, rfl, rfl⟩
  | cons a t ih =>
    rw [State.push]
    split
    · exact ⟨rfl, rfl, rfl⟩
    · exact ih _ _

theorem State.slotFree_iff (s : State) (p : Nat) :
    s.slotFree (some p) = true ↔ s.pcBusy p < 32 ∧ s.stackOpen (p / 32) = true ∧ s.oldestWaiting p = none := by
  simp [State.slotFree, and_assoc]

/-- The transaction that `startTxn` puts in flight, before its request moves on. -/
def State.newTxn (s : State) (init : Nat) (pc : Option Nat) (a reqN respN : Nat) (kind : TxnKind) : Txn :=
  { id := s.fab.nextId, init := init, pc := pc, admitted := false, reqN := reqN, respN := respN, left := s.links (initStop init) a 0,
    moved := 0, back := none, resp := s.links a (initStop init) 1, kind := kind }

/-- The new transaction's request moved on, its initiator's tag drawn. -/
def State.firstPush (s : State) (init : Nat) (pc : Option Nat) (a reqN respN : Nat) (kind : TxnKind) : State × Txn :=
  (s.setTags init (s.tagsHeld init + 1)).push (s.newTxn init pc a reqN respN kind) (s.links (initStop init) a 0)

theorem State.startTxn_fab (s : State) (init : Nat) (pc : Option Nat) (a reqN respN : Nat) (kind : TxnKind) :
    (s.startTxn init pc a reqN respN kind).fab =
      { (s.firstPush init pc a reqN respN kind).1.fab with
        nextId := s.fab.nextId + 1
        flight := (s.firstPush init pc a reqN respN kind).1.fab.flight ++ [(s.firstPush init pc a reqN respN kind).2] } := rfl

theorem State.firstPush_flight (s : State) (init : Nat) (pc : Option Nat) (a reqN respN : Nat) (kind : TxnKind) :
    (s.firstPush init pc a reqN respN kind).1.fab.flight = s.fab.flight := by
  obtain ⟨f, e, hf⟩ := State.push_eq (s.links (initStop init) a 0) (s.setTags init (s.tagsHeld init + 1)) (s.newTxn init pc a reqN respN kind)
  rw [State.firstPush, e]
  exact hf.trans (by rw [State.setTags_fab])

/-- What a transaction to a pseudo-channel is as it starts, and what it takes: a tag always, a slot where it arrives at a free one (R27, R29). -/
theorem State.startTxn_toPc (s : State) (init p a reqN respN : Nat) (kind : TxnKind) :
    ∃ x : Txn, (s.startTxn init (some p) a reqN respN kind).fab.flight = s.fab.flight ++ [x] ∧ x.id = s.fab.nextId ∧ x.init = init ∧
      x.pc = some p ∧ (s.startTxn init (some p) a reqN respN kind).tagsHeld init = s.tagsHeld init + 1 ∧
      (x.left = [] ∧ x.admitted = s.slotFree (some p) ∧
          (s.startTxn init (some p) a reqN respN kind).pcBusy p = s.pcBusy p + (if s.slotFree (some p) = true then 1 else 0) ∨
        x.left ≠ [] ∧ x.admitted = false ∧ (s.startTxn init (some p) a reqN respN kind).pcBusy p = s.pcBusy p) := by
  have hslot := State.push_slot p (s.links (initStop init) a 0) (s.setTags init (s.tagsHeld init + 1))
    (s.newTxn init (some p) a reqN respN kind) rfl rfl
  rw [State.slotFree_setTags, State.pcBusy_setTags] at hslot
  have htag : (s.startTxn init (some p) a reqN respN kind).tagsHeld init = s.tagsHeld init + 1 := by
    rw [State.tagsHeld, State.startTxn_fab, State.firstPush, State.push_held]
    exact s.tagsHeld_setTags init _
  obtain ⟨hid, hinit, hpc⟩ := State.push_same (s.links (initStop init) a 0) (s.setTags init (s.tagsHeld init + 1))
    (s.newTxn init (some p) a reqN respN kind)
  exact ⟨(s.firstPush init (some p) a reqN respN kind).2, congrArg (· ++ [_]) (s.firstPush_flight ..), hid, hinit, hpc, htag, hslot⟩

/-! ## Admission -/

/-- A transaction ends only where it has been admitted, has arrived, and its response finds its credits. -/
theorem transactionResponse_of_none (id : Nat) (err : Bool) (s : State)
    (h : ∀ x ∈ s.fab.flight, x.id = id → ¬(x.left = [] ∧ x.admitted = true ∧ s.mayAnswer x = true)) :
    transactionResponse id err s = s := by
  have hnone : s.fab.flight.find? (fun x => x.id == id && Txn.arrived x && x.admitted && s.mayAnswer x) = none := by
    refine List.find?_eq_none.2 fun x hx hp => ?_
    simp only [Bool.and_eq_true, beq_iff_eq, Txn.arrived, List.isEmpty_iff] at hp
    obtain ⟨⟨⟨hid, hleft⟩, hadm⟩, hans⟩ := hp
    exact h x hx hid ⟨hleft, hadm, hans⟩
  rw [transactionResponse, hnone]

/-- The first transaction in flight that has arrived and waits for a pseudo-channel is the oldest there. -/
theorem State.oldestWaiting_eq_some {s : State} {p : Nat} {l1 l2 : List Txn} {x : Txn} (hf : s.fab.flight = l1 ++ x :: l2)
    (hpc : x.pc = some p) (hleft : x.left = []) (hadm : x.admitted = false)
    (h1 : ∀ y ∈ l1, ¬(y.pc = some p ∧ y.left = [] ∧ y.admitted = false)) : s.oldestWaiting p = some x := by
  have hl1 : l1.find? (fun x => x.pc == some p && Txn.arrived x && !x.admitted) = none :=
    List.find?_eq_none.2 fun y hy => by simpa [Txn.arrived, and_assoc] using h1 y hy
  rw [State.oldestWaiting, hf, List.find?_append, hl1]
  simp [hpc, hleft, hadm, Txn.arrived]

theorem State.oldestWaiting_eq_none {s : State} {p : Nat}
    (h : ∀ y ∈ s.fab.flight, ¬(y.pc = some p ∧ y.left = [] ∧ y.admitted = false)) : s.oldestWaiting p = none :=
  List.find?_eq_none.2 fun y hy => by simpa [Txn.arrived, and_assoc] using h y hy

theorem pseudoChannelAdmit_open {s : State} {p : Nat} {x : Txn} (hb : s.pcBusy p < 32) (ho : s.stackOpen (p / 32) = true)
    (hx : s.oldestWaiting p = some x) :
    pseudoChannelAdmit p s = (s.setTxn { x with admitted := true }).setPcBusy p (s.pcBusy p + 1) := by
  rw [pseudoChannelAdmit, if_pos ⟨hb, ho⟩, hx]

theorem pseudoChannelAdmit_full {s : State} {p : Nat} (h : 32 ≤ s.pcBusy p) : pseudoChannelAdmit p s = s :=
  if_neg fun hb => absurd hb.1 (by omega)

theorem pseudoChannelAdmit_nobody {s : State} {p : Nat} (h : s.oldestWaiting p = none) : pseudoChannelAdmit p s = s := by
  rw [pseudoChannelAdmit, h]
  split <;> rfl

/-- One transaction of those in flight replaced, the others having other numbers. -/
theorem State.setTxn_flight_split {s : State} {l1 l2 : List Txn} {x y : Txn} (hf : s.fab.flight = l1 ++ x :: l2) (hid : y.id = x.id)
    (hn : ∀ z ∈ l1 ++ l2, z.id ≠ x.id) : (s.setTxn y).fab.flight = l1 ++ y :: l2 := by
  have hkeep : ∀ l : List Txn, (∀ z ∈ l, z.id ≠ x.id) → (l.map fun z => if z.id = y.id then y else z) = l := fun l hl =>
    (List.map_congr_left fun z hz => if_neg (hid ▸ hl z hz)).trans (List.map_id l)
  show (s.fab.flight.map fun z => if z.id = y.id then y else z) = l1 ++ y :: l2
  rw [hf, List.map_append, List.map_cons, hkeep l1 fun z hz => hn z (List.mem_append_left _ hz),
    hkeep l2 fun z hz => hn z (List.mem_append_right _ hz), if_pos hid.symm]

/-- Settles O56: the bound is part of what every step keeps; the rest is what a starting transaction takes and whom an admission takes. -/
theorem pseudoChannelsTakeThirtyTwoOldestFirst : Obligations.PseudoChannelsTakeThirtyTwoOldestFirst := by
  refine ⟨fun s t hs h => (keeps_of_step h).slots hs, fun init p a reqN respN kind s t ht => ?starts, fun id err s h => ?waits,
    fun p l1 l2 x s hf hpc hleft hadm h1 hid hb ho => ?admits, fun p s h => ?nothing⟩
  case starts =>
    subst ht
    obtain ⟨x, hf, hid, hinit, hpc, htag, ⟨hl, hadm, hbusy⟩ | ⟨hl, hadm, hbusy⟩⟩ := s.startTxn_toPc init p a reqN respN kind
    · exact ⟨x, hf, hid, hinit, hpc, htag, fun h => absurd hl h, fun _ => ⟨by rw [hadm, s.slotFree_iff], by rw [hadm]; exact hbusy⟩⟩
    · exact ⟨x, hf, hid, hinit, hpc, htag, fun _ => ⟨hadm, hbusy⟩, fun h => absurd h hl⟩
  case waits =>
    exact next_congr (transactionResponse_of_none id err s fun x hx hi ⟨_, hadm, _⟩ => by simp [h x hx hi] at hadm)
  case admits =>
    have hflight := State.setTxn_flight_split (y := { x with admitted := true }) hf rfl hid
    refine next_congr ((pseudoChannelAdmit_open hb ho (State.oldestWaiting_eq_some hf hpc hleft hadm h1)).trans ?_)
    rw [← hflight]
    rfl
  case nothing =>
    rcases h with hfull | hnone
    · exact next_congr (pseudoChannelAdmit_full hfull)
    · exact next_congr (pseudoChannelAdmit_nobody (State.oldestWaiting_eq_none hnone))

end Sys2Proof.Machine
end

section
/-! O57: credits of the link channels. -/

namespace Sys2Proof.Machine

open Sys2Proof

/-! ## Credits -/

theorem State.freeBufs_occupied (s : State) (l n : Nat) : (s.freeBufs l n).occupied l = s.occupied l - min n (s.occupied l) :=
  Tab.get_set_same ..

/-- A response crosses its channels only with the credits it needs on each. -/
theorem State.mayAnswer_eq_false {s : State} {x : Txn} {l : Nat} (hl : l ∈ x.resp) (h : s.creditsHeld l < x.respN) :
    s.mayAnswer x = false := by
  refine Bool.eq_false_iff.2 fun ha => ?_
  have := of_decide_eq_true (List.all_eq_true.1 ha l hl)
  omega

/-- A returned credit leaves its way and waits with the sender. -/
def State.credited (s : State) (l : Nat) : State :=
  { s with fab := { s.fab with returning := Tab.set (fun _ => 0) s.fab.returning l (s.returning l - 1) } }

theorem creditReturn_none {s : State} {l : Nat} (h : s.returning l = 0) : creditReturn l s = s := if_pos h

theorem creditReturn_some {s : State} {l : Nat} (h : 0 < s.returning l) : creditReturn l s = (s.credited l).pushWaiting l s.fab.flight :=
  if_neg (by omega)

theorem State.credited_used {s : State} {l : Nat} (h : 0 < s.returning l) : (s.credited l).creditsUsed l + 1 = s.creditsUsed l := by
  have hr : (s.credited l).returning l = s.returning l - 1 := Tab.get_set_same ..
  have ho : (s.credited l).occupied l = s.occupied l := rfl
  rw [State.creditsUsed, State.creditsUsed, hr, ho]
  omega

/-- A request that finds one credit and has more than one transfer left sends one with it. -/
theorem State.push_one (s : State) (x : Txn) (l : Nat) (r : List Nat) (h : s.creditsHeld l = 1) (hm : x.moved + 1 < x.reqN) :
    (s.push x (l :: r)).2 = { x with left := l :: r, moved := x.moved + 1 } ∧ (s.push x (l :: r)).1.creditsUsed l = s.creditsUsed l + 1 := by
  have hn : min (s.creditsHeld l) (x.reqN - x.moved) = 1 := by omega
  rw [State.push, hn, if_pos hm]
  refine ⟨rfl, ?_⟩
  rw [State.freeBack_used, State.sendOn_used, if_pos rfl, h, Nat.min_self]

theorem ids_ne_of_nodup {l1 l2 : List Txn} {x : Txn} (h : ((l1 ++ x :: l2).map Txn.id).Nodup) : ∀ z ∈ l1 ++ l2, z.id ≠ x.id := by
  rw [List.map_append, List.map_cons, List.nodup_middle] at h
  intro z hz e
  refine (List.nodup_cons.1 h).1 ?_
  rw [← List.map_append]
  exact e ▸ List.mem_map_of_mem hz

/-- Settles O57: the bound is part of what every step keeps; a returned credit goes to the first request that waits, and then none is held. -/
theorem eightCreditsForEachChannel : Obligations.EightCreditsForEachChannel := by
  refine ⟨fun s t hs h => (keeps_of_step h).credits hs,
    fun l n q s => ⟨s.creditsHeld_eq l, s.sendOn_used l n q, s.freeBufs_used l n q, s.freeBufs_occupied l n⟩,
    fun x l r s h0 hm => ?stuck, fun id err s h => ?waits, fun l s h => next_congr (creditReturn_none h),
    fun l s hr h => ?nobody, fun l r l1 l2 x s hr hu hf hn hx hm h1 h2 => ?first⟩
  case stuck =>
    obtain ⟨hx, hu, _⟩ := s.push_stuck x l r h0 hm
    exact ⟨hx, hu⟩
  case waits =>
    refine next_congr (transactionResponse_of_none id err s fun x hx hi ⟨hleft, _, hans⟩ => ?_)
    rcases h x hx hi with hl | ⟨l, hl, hlt⟩
    · exact hl hleft
    · simp [State.mayAnswer_eq_false hl hlt] at hans
  case nobody =>
    have hskip := State.pushWaiting_skip l s.fab.flight [] (s.credited l) h
    rw [List.append_nil] at hskip
    exact next_congr ((creditReturn_some hr).trans hskip)
  case first =>
    have hone : (s.credited l).creditsHeld l = 1 := by
      have := State.credited_used hr
      rw [State.creditsHeld_eq]
      omega
    obtain ⟨hsent, hused⟩ := (s.credited l).push_one x l r hone hm
    rw [← hx] at hsent hused
    generalize hp : (s.credited l).push x x.left = p at hsent hused
    have hpf : p.1.fab.flight = l1 ++ x :: l2 := by
      obtain ⟨f, e, hfl⟩ := (s.credited l).push_eq x.left x
      rw [← hp, e]
      exact hfl.trans hf
    have hids : ∀ z ∈ l1 ++ l2, z.id ≠ x.id := ids_ne_of_nodup (hf ▸ hn)
    have huf : (p.1.setTxn p.2).fab.flight = l1 ++ { x with moved := x.moved + 1 } :: l2 := by
      rw [hsent]
      exact State.setTxn_flight_split hpf rfl hids
    have huu : (p.1.setTxn p.2).creditsUsed l = 8 := by
      have := State.credited_used hr
      exact hused.trans (by omega)
    have hun : ((p.1.setTxn p.2).fab.flight.map Txn.id).Nodup := by
      rw [huf]
      simpa [hf] using hn
    obtain ⟨hrest, hrestu⟩ := State.pushWaiting_stuck l l2 (p.1.setTxn p.2) (by rw [State.creditsHeld_eq, huu])
      (fun y hy => by rw [huf]; simp [hy]) hun h2
    have hrun : creditReturn l s = (p.1.setTxn p.2).pushWaiting l l2 := by
      rw [creditReturn_some hr, hf, State.pushWaiting_skip l l1 _ _ h1, State.pushWaiting, if_pos (by rw [hx]; rfl)]
      exact congrArg (fun q : State × Txn => (q.1.setTxn q.2).pushWaiting l l2) hp
    exact ⟨_, next_congr hrun, hrest.trans huf, hrestu.trans huu⟩

end Sys2Proof.Machine
end

section
/-! O29: the commands of the fabric. -/

namespace Sys2Proof.Machine

open Sys2Proof

/-- A request with one channel left arrives where the sender's credits suffice for what it has still to send. -/
theorem State.push_last_arrives (s : State) (x : Txn) (l : Nat) (h : x.reqN - x.moved ≤ s.creditsHeld l) :
    Txn.arrived (s.push x [l]).2 = true := by
  have hn : min (s.creditsHeld l) (x.reqN - x.moved) = x.reqN - x.moved := Nat.min_eq_right h
  rw [State.push, hn, if_neg (by omega)]
  rfl

/-- With fewer credits it sends as many transfers as there are credits and waits. -/
theorem State.push_last_waits (s : State) (x : Txn) (l : Nat) (h : s.creditsHeld l < x.reqN - x.moved) :
    (s.push x [l]).2 = { x with left := [l], moved := x.moved + s.creditsHeld l } := by
  have hn : min (s.creditsHeld l) (x.reqN - x.moved) = s.creditsHeld l := Nat.min_eq_left (by omega)
  rw [State.push, hn, if_pos (by omega)]

theorem tagWaitResume_resumes {init k : Nat} {s : State} (ht : s.hasTag init = true)
    (hw : s.fab.waiting.find? (fun p => p.1 == init) = some (init, k)) :
    tagWaitResume init s =
      ({ s with fab := { s.fab with waiting := s.fab.waiting.erase (init, k) } } : State).setCtx k { s.ctx k with wait := .running } := by
  rw [tagWaitResume, if_neg (by simp [ht]), hw]
  rfl

theorem sysTagFreeRead_of_readable {who : Who} {s : State} (h : s.readable who .SYS_TAG_FREE 0 = true) :
    sysTagFreeRead who s = (s.setFld F.SYS_TAG_FREE_LOW 0 s.tagsFree).returns
      (BitVec.ofNat 64 (s.fld F.SYS_TAG_FREE_LOW 0 * 2 ^ 16 + s.tagsFree)) := by
  rw [sysTagFreeRead, if_neg (by simp [h])]

/-- Settles O29: an equation for each fabric command, and what `push` does on a request's last channel. -/
theorem fabricTagsCreditsAndFaults : Obligations.FabricTagsCreditsAndFaults := by
  refine ⟨fun init k s s1 ht hw h1 => ?resumes, fun init s h => next_congr (if_pos h),
    fun pc x s hb ho hx => next_congr (pseudoChannelAdmit_open hb ho hx),
    fun pc s h => next_congr (pseudoChannelAdmit_full h),
    fun link s h => next_congr (creditReturn_none h), fun link s h => next_congr (creditReturn_some h),
    fun link x t u h => ?moves, fun link x t u h => ?stays, fun link x u h => u.push_last_arrives x link h,
    fun link x u h => u.push_last_waits x link h, fun _ _ _ => rfl,
    fun who s h => next_congr (sysTagFreeRead_of_readable h)⟩
  case resumes =>
    subst h1
    exact next_congr (tagWaitResume_resumes ht hw)
  case moves => rw [State.pushWaiting, if_pos h]
  case stays => rw [State.pushWaiting, if_neg h]

end Sys2Proof.Machine
end

section
/-! O8: fold-back, overcurrent, underrun and release of the amplifier. -/

namespace Sys2Proof.Machine

open Sys2Proof

/-! ## What a reading of ISENSE leaves as it was -/

theorem State.sense_lin (s : State) (p mv : Nat) : (s.sense p mv).lin = s.lin := by
  rw [State.sense, State.setFld_lin, State.setFld_lin]

/-- A reading writes LP_ISENSE only, so a field of any other register stays. -/
theorem State.sense_fld (s : State) (p mv : Nat) {f : Fld} (h : f.reg ≠ .LP_ISENSE) (i : Nat) : (s.sense p mv).fld f i = s.fld f i := by
  have hne : ∀ g : Fld, g.reg = .LP_ISENSE → ¬(f.reg = g.reg ∧ i = p) := fun g hg hc => h (hc.1.trans hg)
  unfold State.fld State.sense
  rw [State.reg_setFld, if_neg (hne _ rfl), State.reg_setFld, if_neg (hne _ rfl)]

theorem State.sense_onAir (s : State) (p mv q : Nat) : (s.sense p mv).onAir q = s.onAir q := by
  rw [State.onAir, State.sense_lin, State.onAir]

theorem State.sense_runningOn (s : State) (p mv : Nat) (ps : List Nat) : (s.sense p mv).runningOn ps = s.runningOn ps := by
  rw [State.runningOn, State.sense_lin, State.runningOn]

theorem State.sense_foldSet (s : State) (p mv : Nat) (ps : List Nat) (n : Nat) : (s.sense p mv).foldSet ps n = s.foldSet ps n := by
  induction n generalizing ps with
  | zero => rw [State.foldSet, State.foldSet]
  | succ n ih => simp only [State.foldSet, State.sense_lin, ih]

theorem State.sense_setDb (s : State) (p mv : Nat) (ps : List Nat) : (s.sense p mv).setDb ps = s.setDb ps := by
  simp only [State.setDb, State.foldDb, s.sense_fld p mv (f := F.LP_STAT_FB_DB) (by decide)]

theorem State.sense_foldStep (s : State) (p mv : Nat) (ps : List Nat) : (s.sense p mv).foldStep ps = s.foldStep ps := by
  simp only [State.foldStep, s.sense_fld p mv (f := F.LP_FBCFG_STEP) (by decide)]

theorem State.sense_foldFloor (s : State) (p mv : Nat) (ps : List Nat) : (s.sense p mv).foldFloor ps = s.foldFloor ps := by
  simp only [State.foldFloor, s.sense_fld p mv (f := F.LP_FBCFG_FLOOR) (by decide)]

/-! ## One fold-back step -/

/-- The set of a port on the line that reads above LIM goes one step deeper, no deeper than its floor (R84). -/
theorem State.foldBack_above (s : State) {p mv : Nat} (ha : s.onAir p = true) (hl : s.fld F.LP_FBCFG_LIM p < mv) :
    s.foldBack p mv = (s.sense p mv).setStats 8 8 (min (s.setDb (s.foldSet [p] 3) + s.foldStep (s.foldSet [p] 3))
      (max (s.setDb (s.foldSet [p] 3)) (s.foldFloor (s.foldSet [p] 3)))) (s.foldSet [p] 3) := by
  have hlim : (s.sense p mv).fld F.LP_FBCFG_LIM p = s.fld F.LP_FBCFG_LIM p := s.sense_fld p mv (by decide) p
  unfold State.foldBack
  rw [if_pos (by simp [State.sense_onAir, ha, hlim, hl])]
  simp only [State.sense_foldSet, State.sense_setDb, State.sense_foldStep, State.sense_foldFloor]

/-- With a reading not above LIM it is stored, no more. -/
theorem State.foldBack_below (s : State) {p mv : Nat} (hl : mv ≤ s.fld F.LP_FBCFG_LIM p) : s.foldBack p mv = s.sense p mv := by
  have hlim : (s.sense p mv).fld F.LP_FBCFG_LIM p = s.fld F.LP_FBCFG_LIM p := s.sense_fld p mv (by decide) p
  exact if_neg (by simp [hlim, hl])

theorem foldbackTrigger_of_lt {p : Nat} (hp : p < 24) (mv : Nat) (s : State) : foldbackTrigger p mv s = s.foldBack p mv := if_pos hp

theorem foldbackFurtherStep_of_folded {p : Nat} {s : State} (hp : p < 24) (hd : s.foldDb p ≠ 0) (mv : Nat) :
    foldbackFurtherStep p mv s = s.foldBack p mv := if_pos (by simp [hp, hd])

/-! ## Overcurrent, underrun, release -/

theorem overcurrentMute_above {p mv : Nat} {s : State} (hp : p < 24) (ha : s.onAir p = true) (hl : s.fld F.LP_FBCFG_ABS p < mv) :
    overcurrentMute p mv s =
      ((((s.sense p mv).endFrames .abandoned (s.runningOn (s.foldSet [p] 3))).setPa false (s.foldSet [p] 3)).setStats 18 1 1
        (s.foldSet [p] 3)).detectTest 6 (domLps p) (.unit (domLps p)) none := by
  have habs : (s.sense p mv).fld F.LP_FBCFG_ABS p = s.fld F.LP_FBCFG_ABS p := s.sense_fld p mv (by decide) p
  unfold overcurrentMute
  rw [if_pos (by simp [State.sense_onAir, hp, ha, habs, hl])]
  simp only [State.sense_foldSet, State.sense_runningOn]

theorem paEnRelease_idle {p : Nat} {s : State} (ha : s.onAir p = false) (hg : s.gapHeld p = false) :
    paEnRelease p s = s.setPortStat p 2 1 0 := if_neg (by simp [ha, hg])

theorem paEnRelease_held {p : Nat} {s : State} (h : s.onAir p = true ∨ s.gapHeld p = true) : paEnRelease p s = s :=
  if_pos (by simpa using h)

/-- Settles O8: an equation for each of the five commands, LIM and ABS being read past the reading just stored. -/
theorem foldbackAndMuting : Obligations.FoldbackAndMuting :=
  ⟨fun _ mv s hp ha hl => next_congr ((foldbackTrigger_of_lt hp mv s).trans (s.foldBack_above ha hl)),
   fun _ mv s hp ha hl hd => next_congr ((foldbackFurtherStep_of_folded hp hd mv).trans (s.foldBack_above ha hl)),
   fun _ mv s hp hl => next_congr ((foldbackTrigger_of_lt hp mv s).trans (s.foldBack_below hl)),
   fun _ _ _ hp ha hl => next_congr (overcurrentMute_above hp ha hl),
   fun _ _ ha => next_congr (if_pos ha),
   fun _ _ ha hg => next_congr (paEnRelease_idle ha hg),
   fun _ _ h => next_congr (paEnRelease_held h)⟩

end Sys2Proof.Machine
end

section
/-! O50, O58: unit registers, reserved space, time and cycle slots. -/

namespace Sys2Proof.Machine

open Sys2Proof

/-! ## Past an instruction -/

theorem State.ctx_setCtx (s : State) (k j : Nat) (c : Ctx) : (s.setCtx k c).ctx j = if j = k then c else s.ctx j :=
  Tab.get_set ..

@[simp] theorem State.sr_past (s : State) (k n m : Nat) : (s.past k n).sr k m = s.sr k m := by
  rw [State.sr, State.past, State.ctx_setCtx, if_pos rfl, State.sr]

@[simp] theorem State.hasTag_past (s : State) (k n i : Nat) : (s.past k n).hasTag i = s.hasTag i := rfl
@[simp] theorem State.now_past (s : State) (k n : Nat) : (s.past k n).now = s.now := rfl
@[simp] theorem State.tracker_past (s : State) (k n g : Nat) : (s.past k n).tracker g = s.tracker g := rfl
@[simp] theorem State.cycleSlot_past (s : State) (k n g : Nat) : (s.past k n).cycleSlot g = s.cycleSlot g := rfl
@[simp] theorem State.zcLock_past (s : State) (k n g : Nat) : (s.past k n).zcLock g = s.zcLock g := rfl
@[simp] theorem State.zcHold_past (s : State) (k n g : Nat) : (s.past k n).zcHold g = s.zcHold g := rfl
@[simp] theorem State.zcRuns_past (s : State) (k n g : Nat) : (s.past k n).zcRuns g = s.zcRuns g := rfl
@[simp] theorem State.pickNat_past (s : State) (k n m : Nat) : (s.past k n).pickNat m = s.pickNat m := rfl

@[simp] theorem State.phaseNow_past (s : State) (k n g : Nat) : (s.past k n).phaseNow g = s.phaseNow g := rfl

/-- An instruction that issues runs its body past itself (R350). -/
theorem State.issue_of_issues {s : State} {k n t : Nat} {regs : List CtxReg} {x : Task} (h : s.Issues k n regs t x)
    (body : State → Nat → Task → State) : s.issue k n regs true body = body (s.past k n) t x := by
  obtain ⟨htask, hrec, hmay, hfetch, hbusy⟩ := h
  rw [State.issue, htask]
  dsimp only
  rw [hrec]
  dsimp only
  rw [if_neg (by simp [hmay]), if_neg (by simp [hfetch]), if_neg (by decide), if_neg (Bool.eq_false_iff.1 hbusy)]
  rfl

/-! ## UGET and UPUT -/

theorem unitOfsOk_iff (a : Nat) : unitOfsOk a = true ↔ a % 4 = 0 ∧ a < 0x4000000 := by simp [unitOfsOk]

section
variable {k t a : Nat} {f : FmtI} {x : Task} {s : State} (hi : s.Issues k 1 [.s f.a.toNat, .s f.d.toNat] t x)
  (ha : a = (s.sr k f.a.toNat + f.imm.signExtend 64).toNat)
include hi ha

theorem idUget_badOffset (h : a % 4 ≠ 0 ∨ 0x4000000 ≤ a) : idUget k f s = (s.past k 1).taskFault k t x 4 := by
  subst ha
  have hbad : unitOfsOk (s.sr k f.a.toNat + f.imm.signExtend 64).toNat = false := by
    rw [Bool.eq_false_iff, ne_eq, unitOfsOk_iff]
    omega
  rw [idUget, State.issue_of_issues hi]
  simp only [State.sr_past, hbad, if_true]

theorem idUget_waits (h4 : a % 4 = 0) (hlt : a < 0x4000000) (ht : s.hasTag (k / 4) = false) :
    idUget k f s = (s.past k 1).waitTag k 1 := by
  subst ha
  rw [idUget, State.issue_of_issues hi]
  simp only [State.sr_past, State.hasTag_past, (unitOfsOk_iff _).2 ⟨h4, hlt⟩, ht, Bool.true_eq_false, if_false, if_true]

theorem idUget_reads (h4 : a % 4 = 0) (hlt : a < 0x4000000) (ht : s.hasTag (k / 4) = true) :
    idUget k f s = (((s.past k 1).touchTag (k / 4)).unitRead x.slot a).1.setSr k f.d.toNat
      (((s.past k 1).touchTag (k / 4)).unitRead x.slot a).2 := by
  subst ha
  rw [idUget, State.issue_of_issues hi]
  simp only [State.sr_past, State.hasTag_past, (unitOfsOk_iff _).2 ⟨h4, hlt⟩, ht, Bool.true_eq_false, if_false]

end

section
variable {k t a : Nat} {f : FmtR} {x : Task} {s : State} {env : WriteEnv}
  (hi : s.Issues k 1 [.s f.a.toNat, .s f.b.toNat, .s f.d.toNat] t x) (hpg : f.pg = 0) (hty : f.ty = 0) (ha : a = (s.sr k f.a.toNat).toNat)
include hi hpg hty ha

theorem idUput_badOffset (h : a % 4 ≠ 0 ∨ 0x4000000 ≤ a) : idUput k f env s = (s.past k 1).taskFault k t x 4 := by
  subst ha
  have hbad : unitOfsOk (s.sr k f.a.toNat).toNat = false := by
    rw [Bool.eq_false_iff, ne_eq, unitOfsOk_iff]
    omega
  rw [idUput, show (f.pg == 0 && f.ty == 0) = true by simp [hpg, hty], State.issue_of_issues hi]
  simp only [State.sr_past, hbad, if_true]

theorem idUput_writes (h4 : a % 4 = 0) (hlt : a < 0x4000000) (ht : s.hasTag (k / 4) = true) :
    idUput k f env s = registerWrite (.pack x.slot) a ((s.sr k f.b.toNat).setWidth 32) env
      (((s.past k 1).touchTag (k / 4)).setSr k f.d.toNat
        (BitVec.ofNat 64 (Status.code (((s.past k 1).touchTag (k / 4)).unitStatus x.slot a)))) := by
  subst ha
  rw [idUput, show (f.pg == 0 && f.ty == 0) = true by simp [hpg, hty], State.issue_of_issues hi]
  simp only [State.sr_past, State.hasTag_past, (unitOfsOk_iff _).2 ⟨h4, hlt⟩, ht, Bool.true_eq_false, if_false]

end

/-! ## Reserved space and registers (R33) -/

theorem windowAt_eq_false_iff (a : Nat) :
    windowAt a = false ↔ ¬(0x210000 ≤ a ∧ a < 0x220000) ∧ ¬(0x1480000 ≤ a ∧ a < 0x1482000) := by
  simp [windowAt]

theorem registerWrite_reserved {a : Nat} (hr : regAt a = none) (hw : windowAt a = false) (who : Who) (v : Word) (env : WriteEnv) (s : State) :
    registerWrite who a v env s = s := by
  obtain ⟨hxfer, hmsix⟩ := (windowAt_eq_false_iff a).1 hw
  rw [registerWrite, if_neg hxfer, if_neg (by omega), hr]

theorem registerWrite_register {a i : Nat} {r : Reg} (hr : regAt a = some (r, i)) (hw : windowAt a = false) (who : Who) (v : Word)
    (env : WriteEnv) (s : State) : registerWrite who a v env s = s.writeReg who r i v env := by
  obtain ⟨hxfer, hmsix⟩ := (windowAt_eq_false_iff a).1 hw
  rw [registerWrite, if_neg hxfer, if_neg (by omega), hr]

theorem State.unitRead_unlisted {a : Nat} (hr : regAt a = none) (s : State) (slot : Nat) :
    s.unitRead slot a = (s, if windowAt a then BitVec.ofNat 64 (Status.code .denied * 2 ^ 32) else 0) := by
  rw [State.unitRead, hr]
  dsimp only
  split <;> rfl

theorem State.unitRead_listed {a i : Nat} {r : Reg} (hr : regAt a = some (r, i)) (s : State) (slot : Nat) :
    s.unitRead slot a = if s.readable (.pack slot) r i then ((s.readReg (.pack slot) r i).1, (s.readReg (.pack slot) r i).2.setWidth 64)
      else (s, BitVec.ofNat 64 (Status.code .denied * 2 ^ 32)) := by
  rw [State.unitRead, hr]

theorem State.unitStatus_reserved {a : Nat} (hr : regAt a = none) (hw : windowAt a = false) (s : State) (slot : Nat) :
    s.unitStatus slot a = .ok := by
  rw [State.unitStatus, hr]
  exact if_neg (Bool.eq_false_iff.1 hw)

/-- Settles O58: at an offset without register or window a write finds nothing to change, and the answer of a UGET is 0. -/
theorem reservedSpaceReadsZeroAndDiscardsWrites : Obligations.ReservedSpaceReadsZeroAndDiscardsWrites := by
  refine ⟨fun who a v env s hr hw => next_congr (registerWrite_reserved hr hw who v env s),
    fun k t a f x s hi ha h4 hlt hr hw ht => next_congr ?read,
    fun k t a f env x s hi hpg hty ha h4 hlt hr hw ht => next_congr ?write⟩
  case read => rw [idUget_reads hi ha h4 hlt ht, State.unitRead_unlisted hr, if_neg (Bool.eq_false_iff.1 hw)]
  case write => rw [idUput_writes hi hpg hty ha h4 hlt ht, registerWrite_reserved hr hw, State.unitStatus_reserved hr hw]

/-! ## Time and cycle slots -/

theorem idTnow_gives {k t : Nat} {f : FmtR} {x : Task} {s : State} (hi : s.Issues k 1 [.s f.d.toNat] t x) (ha : f.a = 0) (hb : f.b = 0)
    (hpg : f.pg = 0) (hty : f.ty = 0) : idTnow k f s = (s.past k 1).setSr k f.d.toNat (BitVec.ofNat 64 (s.now.s * 2 ^ 32 + s.now.ns)) := by
  rw [idTnow, show (f.a == 0 && f.b == 0 && f.pg == 0 && f.ty == 0) = true by simp [ha, hb, hpg, hty], State.issue_of_issues hi]
  rfl

/-- TWAITT goes on where its time has come, and waits for it otherwise. -/
theorem idTwaitt_issued {k t : Nat} {f : FmtR} {x : Task} {s : State} (hi : s.Issues k 1 [.s f.a.toNat] t x) (hd : f.d = 0) (hb : f.b = 0)
    (hpg : f.pg = 0) (hty : f.ty = 0) :
    idTwaitt k f s = if (wordStamp (s.sr k f.a.toNat)).le s.now then s.past k 1
      else (s.past k 1).setCtx k { (s.past k 1).ctx k with wait := .time (wordStamp (s.sr k f.a.toNat)) } := by
  rw [idTwaitt, show (f.d == 0 && f.b == 0 && f.pg == 0 && f.ty == 0) = true by simp [hd, hb, hpg, hty], State.issue_of_issues hi]
  simp only [State.sr_past, State.now_past]

theorem twaittExpire_waiting {k : Nat} {g : Stamp} {s : State} (h : (s.ctx k).wait = .time g) :
    twaittExpire k s = if g.le s.now then s.setCtx k { s.ctx k with wait := .running } else s := by
  rw [twaittExpire, h]

theorem idZcrd_gives {k t : Nat} {f : FmtR} {x : Task} {s : State} (hi : s.Issues k 1 [.s f.a.toNat, .s f.d.toNat] t x) (hb : f.b = 0)
    (hpg : f.pg = 0) (hty : f.ty = 0) {g : Nat} (hg : g = (s.sr k f.a.toNat).toNat % 8) :
    idZcrd k f s = (s.past k 1).drew.setSr k f.d.toNat (BitVec.ofNat 64
      (s.phaseNow g + (s.tracker g).cyc % 2 ^ 40 * 2 ^ 16 + bit (s.zcLock g) * 2 ^ 62 + bit (s.zcHold g) * 2 ^ 63)) := by
  subst hg
  rw [idZcrd, show (f.b == 0 && f.pg == 0 && f.ty == 0) = true by simp [hb, hpg, hty], State.issue_of_issues hi]
  simp only [State.sr_past, State.phaseNow_past, State.tracker_past, State.zcLock_past, State.zcHold_past]

/-- What WSLOT does, by the slot it names, the tracker and the position it has reached. -/
theorem idWslot_issued {k t : Nat} {f : FmtR} {x : Task} {s : State} (hi : s.Issues k 1 [.s f.a.toNat, .s f.b.toNat, .s f.d.toNat] t x)
    (hpg : f.pg = 0) (hty : f.ty = 0) {g goal : Nat} (hg : g = (s.sr k f.b.toNat).toNat % 8)
    (hgoal : goal = (s.sr k f.a.toNat).toNat % 2 ^ 44) :
    idWslot k f s = if 12 ≤ goal % 16 then (s.past k 1).taskFault k t x 1
      else if (s.tracker g).everLocked = false then (s.past k 1).setSr k f.d.toNat (slotWord64 (s.cycleSlot g) 63)
      else if goal ≤ s.cycleSlot g then (s.past k 1).setSr k f.d.toNat (slotWord64 (s.cycleSlot g) 62)
      else (s.past k 1).setCtx k { (s.past k 1).ctx k with wait := .slot f.d.toNat g (goal / 16) (goal % 16) } := by
  subst hg hgoal
  rw [idWslot, show (f.pg == 0 && f.ty == 0) = true by simp [hpg, hty], State.issue_of_issues hi]
  simp only [State.sr_past, State.tracker_past, State.cycleSlot_past]

theorem wslotReturn_waiting {k d g cyc slot : Nat} {s : State} (h : (s.ctx k).wait = .slot d g cyc slot) :
    wslotReturn k s = if s.cycleSlot g < cyc * 16 + slot then s
      else (s.setCtx k { s.ctx k with wait := .running }).setSr k d
        (if s.cycleSlot g = cyc * 16 + slot then BitVec.ofNat 64 (s.cycleSlot g % 2 ^ 44) else slotWord64 (s.cycleSlot g) 61) := by
  rw [wslotReturn, h]

/-- Settles O50: an equation for each instruction that issues and for what ends its wait, read off branch by branch. -/
theorem unitRegistersTimeAndCycleSlots : Obligations.UnitRegistersTimeAndCycleSlots := by
  refine ⟨fun k t a f x s hi ha => ?uget, fun k t a f env x s hi hpg hty ha => ?uput,
    fun k t f x s hi ha hb hpg hty => next_congr (idTnow_gives hi ha hb hpg hty), fun k t f x g s hi hd hb hpg hty hg => ?twaitt,
    fun k g s h => ?expire, fun k t g f x s hi hb hpg hty hg => next_congr (idZcrd_gives hi hb hpg hty hg),
    fun k t g goal f x s hi hpg hty hg hgoal => ?wslot, fun k d g cyc slot s h => ?slotEnd⟩
  case uget =>
    refine ⟨fun h => next_congr (idUget_badOffset hi ha h), fun h4 hlt =>
      ⟨fun ht => next_congr (idUget_waits hi ha h4 hlt ht), fun ht u hu => next_congr ?_⟩⟩
    subst hu
    rw [idUget_reads hi ha h4 hlt ht]
    cases hr : regAt a with
    | none => rw [State.unitRead_unlisted hr]
    | some q =>
      obtain ⟨r, i⟩ := q
      rw [State.unitRead_listed hr]
      dsimp only
      split <;> rfl
  case uput =>
    refine ⟨fun h => next_congr (idUput_badOffset hi hpg hty ha h), fun h4 hlt ht u hu => next_congr ?_⟩
    subst hu
    exact idUput_writes hi hpg hty ha h4 hlt ht
  case twaitt =>
    subst hg
    have hrun := idTwaitt_issued hi hd hb hpg hty
    exact ⟨fun h => next_congr (hrun.trans (if_pos h)),
      fun h => next_congr (hrun.trans (if_neg (Bool.eq_false_iff.1 h)))⟩
  case expire =>
    exact ⟨fun h' => next_congr ((twaittExpire_waiting h).trans (if_pos h')),
      fun h' => next_congr ((twaittExpire_waiting h).trans (if_neg (Bool.eq_false_iff.1 h')))⟩
  case wslot =>
    have hrun := idWslot_issued hi hpg hty hg hgoal
    refine ⟨fun h => ?_, fun h hl => ?_, fun h hl hp => ?_, fun h hl hp => ?_⟩ <;> refine next_congr (hrun.trans ?_)
    · exact if_pos h
    · rw [if_neg (by omega), if_pos hl, slotWord64]
    · rw [if_neg (by omega), if_neg (by simp [hl]), if_pos hp, slotWord64]
    · rw [if_neg (by omega), if_neg (by simp [hl]), if_neg (by omega)]
  case slotEnd =>
    have hrun := wslotReturn_waiting h
    refine ⟨fun hp => ?_, fun hp => ?_, fun hp => ?_⟩ <;> refine next_congr (hrun.trans ?_)
    · exact if_pos hp
    · rw [if_neg (by omega), if_pos hp]
    · rw [if_neg (by omega), if_neg (by omega), slotWord64]

end Sys2Proof.Machine
end

section
/-! O9: the life of a frame from FRAME_SEND to its acknowledgement. -/

namespace Sys2Proof.Machine

open Sys2Proof

/-! ## FRAME_SEND -/

theorem frameSend_starts {src : Src} {gaddr svc dclass len : Nat} {s : State} (h : s.starts src 0x10 = true) :
    frameSend src gaddr svc dclass len s = (s.start src).sendData src gaddr svc dclass len := if_pos h

/-- A send of data to an associated node with descriptors to spare becomes a frame. -/
theorem State.sendData_sends {src : Src} {gaddr svc dclass len a : Nat} {s : State} (ha : s.localAddr gaddr = some a) (hd : dclass < 2)
    (hl : len ≠ 0) (hn : s.associated a = true) (hf : 8192 < s.fbdFree) :
    s.sendData src gaddr svc dclass len = s.sendTo a (.data svc len) (dclass == 1) src := by
  rw [State.sendData, ha]
  dsimp only
  rw [if_neg (by simp [hn, hl, hd]), if_neg (by omega)]

/-! ## FRAME_SCHEDULE -/

theorem frameSchedule_denied {id path cycle slot mcs c0 c1 : Nat} {ports : List Nat} {cp : Bool} {s : State} {f : Frame}
    (hf : s.frame id = some f) (hw : f.state = .waiting) (hp : ports ≠ [])
    (hd : s.flag F.MDM_BANDSTAT_TX_OFF f.fg = true ∨ ports.all (s.portTakes path) = false) :
    frameSchedule id ports path cycle slot mcs c0 c1 cp s = s.endFrame f .denied := by
  rw [frameSchedule, hf]
  dsimp only
  rw [if_neg (by simp [hw, hp]), if_pos (by rcases hd with h | h <;> simp only [h, Bool.not_false, Bool.true_or, Bool.or_true])]

theorem frameSchedule_wake {id path cycle slot mcs c0 c1 : Nat} {ports : List Nat} {cp : Bool} {s : State} {f : Frame}
    (hf : s.frame id = some f) (hw : f.state = .waiting) (hp : ports ≠ []) (ht : s.flag F.MDM_BANDSTAT_TX_OFF f.fg = false)
    (ha : ports.all (s.portTakes path) = true) (hwake : isWake f.body = true) (hh : s.frameHeld f = false) :
    frameSchedule id ports path cycle slot mcs c0 c1 cp s = s.setFrame (s.wakeShaped f cycle slot) := by
  rw [frameSchedule, hf]
  dsimp only
  rw [if_neg (by simp [hw, hp]), if_neg (by simp only [ht, ha]; decide), if_pos hwake, if_neg (Bool.eq_false_iff.1 hh)]

theorem frameSchedule_placed {id path cycle slot mcs c0 c1 n : Nat} {ports : List Nat} {cp : Bool} {s : State} {f : Frame} {x : State × Frame}
    (hf : s.frame id = some f) (hw : f.state = .waiting) (hp : ports ≠ []) (ht : s.flag F.MDM_BANDSTAT_TX_OFF f.fg = false)
    (ha : ports.all (s.portTakes path) = true) (hwake : isWake f.body = false) (hh : s.frameHeld f = false)
    (hm : s.mcsUsable f (s.mcsFor f mcs) = true) (hs : s.shapeOk (s.shaped f ports path cycle slot (s.mcsFor f mcs) c0 c1 cp) = true)
    (hx : s.giveSeq (s.shaped f ports path cycle slot (s.mcsFor f mcs) c0 c1 cp) = some x) (hn : x.1.txNsym x.2 = some n)
    (hplace : x.1.mayPlace (x.1.sized x.2 n) = true) :
    frameSchedule id ports path cycle slot mcs c0 c1 cp s = x.1.setFrame { x.1.sized x.2 n with state := .scheduled } := by
  have hmcs : (s.shaped f ports path cycle slot (s.mcsFor f mcs) c0 c1 cp).mcs = s.mcsFor f mcs := rfl
  rw [frameSchedule, hf]
  dsimp only
  rw [if_neg (by simp [hw, hp]), if_neg (by simp only [ht, ha]; decide), if_neg (Bool.eq_false_iff.1 hwake),
    if_neg (by rw [hh, hmcs, hm, hs]; decide), hx]
  dsimp only
  rw [hn]
  dsimp only
  rw [if_pos hplace]

/-! ## On the line and after it -/

theorem frameNotStaged_again {id : Nat} {s : State} {f : Frame} (hf : s.frame id = some f) (hst : f.state = .scheduled)
    (hdst : f.dst = 0xFFFF ∨ (s.node f.dst).isSome = true) (hseq : f.seq ≠ some 0) :
    frameNotStaged id s = (s.setStats 20 1 1 f.ports).setFrame
      { f with
        state := .waiting
        ports := []
        txn := 0
        harq := 0
        seq := none
        firstSeq := if f.resent = 0 ∧ f.txn = 0 then none else f.firstSeq } := by
  have hfresh : (f.seq != some 0) = true := by simpa using hseq
  have hnode : ¬(f.seq != some 0 && f.dst != 0xFFFF && (s.node f.dst).isNone) = true := by
    rcases hdst with h | h
    · simp [h]
    · simp [Option.isNone_eq_false_iff.2 h]
  rw [frameNotStaged, hf]
  dsimp only
  rw [if_pos hst, if_neg hnode]
  simp only [hfresh, if_true, true_and]

theorem txFrameStart_due {id : Nat} {s : State} {f : Frame} (hf : s.frame id = some f) (hst : f.state = .scheduled)
    (hl : (s.tracker f.fg).everLocked = true) (hc : (s.tracker f.fg).cyc = f.cycle) (hk : (s.tracker f.fg).slot = f.slot)
    (hp : ∀ p ∈ f.ports, s.portOn p = true ∧ (s.port p).path = f.path) :
    txFrameStart id s = ((s.launch f).noteRequest f).judgeDown f := by
  have hports : f.ports.all (fun p => s.portOn p && (s.port p).path == f.path) = true := by simpa using hp
  rw [txFrameStart, hf]
  exact if_pos ⟨hst, hl, hc, hk, hports⟩

theorem txFrameEnd_running {id : Nat} {s : State} {f : Frame} (hf : s.frame id = some f) (hst : f.state = .running) :
    txFrameEnd id s = if f.ackReq then (s.leaveLine f).setFrame { f with state := .sent } else ((s.leaveLine f).endFrame f .ok).tellEmpty f := by
  rw [txFrameEnd, hf]
  exact if_pos hst

theorem ackTimeout_sent {id : Nat} {s : State} {f : Frame} (hf : s.frame id = some f) (hst : f.state = .sent) :
    ackTimeout id s = if 4 < s.sinceSent f then s.nackFrame f else s := by
  rw [ackTimeout, hf]
  simp only [hst, true_and]

theorem uplinkAckSend_some {a : Nat} {s : State} {e : AckEntry} {l : List AckEntry} (h : Tab.get (fun _ => []) s.mac.acks a = e :: l) :
    uplinkAckSend a s = ({ s with mac := { s.mac with acks := Tab.set (fun _ => []) s.mac.acks a ((e :: l).drop 8) } } : State).sendTo a
      (.ack ((s.node a).elim ({} : SeqState) Node.seq).h (((s.node a).elim ({} : SeqState) Node.seq).win.extractLsb' 0 32)
        ((e :: l).take 8)) false .none := by
  rw [uplinkAckSend, h]

/-- Settles O9: an equation for each command of a frame's life. -/
theorem framesAreScheduledSentAndAcknowledged : Obligations.FramesAreScheduledSentAndAcknowledged := by
  refine ⟨fun src gaddr svc dclass len s h => next_congr (frameSend_starts h),
    fun src gaddr svc dclass len a s h ha hd hl hn hf => next_congr ((frameSend_starts h).trans (State.sendData_sends ha hd hl hn hf)),
    fun id ports path cycle slot mcs c0 c1 cp s f hf hw hp hd => next_congr (frameSchedule_denied hf hw hp hd),
    fun id ports path cycle slot mcs c0 c1 n cp s f x hf hw hp ht ha hwake hh hm hs hx hn hplace =>
      next_congr (frameSchedule_placed hf hw hp ht ha hwake hh hm hs hx hn hplace),
    fun id ports path cycle slot mcs form s f hf hw hp ht ha hwake hh => next_congr (frameSchedule_wake hf hw hp ht ha hwake hh),
    fun id s f hf hst hdst hseq => next_congr (frameNotStaged_again hf hst hdst hseq),
    fun id s f hf hst hl hc hk hp => next_congr (txFrameStart_due hf hst hl hc hk hp),
    fun id s f hf hst => next_congr (txFrameEnd_running hf hst),
    fun id s f hf hst => next_congr (ackTimeout_sent hf hst), fun a s h => ?acks⟩
  case acks =>
    obtain ⟨e, l, hl⟩ := List.exists_cons_of_ne_nil h
    rw [hl]
    exact next_congr (uplinkAckSend_some hl)

end Sys2Proof.Machine
end

section
/-! O36: packs, service classes and the placement report. -/

namespace Sys2Proof.Machine

open Sys2Proof

/-! ## PACK_LOAD -/

section
variable {src : Src} {i : PackImage} {repl : Nat} {placed : Bool} {power : List Nat} {s : State} (hs : s.starts src 0x30 = true)
include hs

theorem packLoad_badFormat (hf : i.formatOk = false) : packLoad src i repl placed power s = (s.start src).complete src .denied [] := by
  rw [packLoad, if_pos hs]
  exact if_pos hf

theorem packLoad_unverified {st : Status} (hf : i.formatOk = true) (hv : (s.start src).verifyImage i = some st) :
    packLoad src i repl placed power s = (s.start src).imageFailed.complete src st [] := by
  rw [packLoad, if_pos hs]
  dsimp only
  rw [if_neg (by simp [hf]), hv]

/-- An image of a good format that verifies is refused for a sealed page, else loaded beside the others or over one. -/
theorem packLoad_verified (hf : i.formatOk = true) (hv : (s.start src).verifyImage i = none) :
    packLoad src i repl placed power s = if ownsSealed (rangePages i.pages) then (s.start src).complete src .denied []
      else if repl = 0xFF then (s.start src).loadNew src i placed power else (s.start src).loadOver src i repl placed power := by
  rw [packLoad, if_pos hs]
  dsimp only
  rw [if_neg (by simp [hf]), hv]

end

/-- A new pack whose pages nobody has, whose slot is free and whose needs are met is installed (R374, R376, R387). -/
theorem State.loadNew_fits {src : Src} {i : PackImage} {power : List Nat} {s : State} {k : Nat}
    (hp : (rangePages i.pages).any (s.pageTaken none) = false) (hk : s.freeSlot = some k) (ha : s.pwr.admits = true)
    (hm : s.memAdmits i.memMib = true) (hd : declsFit i.decls = true) (hn : s.needsMet i = true)
    (hc : (s.powerAll (power.filter fun d => !(decide (d < 128) && s.role d == .spare))).classesMet k i.decls = true) :
    s.loadNew src i true power =
      ((s.powerAll (power.filter fun d => !(decide (d < 128) && s.role d == .spare))).install k i .resident (rangePages i.pages) 0).complete
        src .ok [(1, k)] := by
  rw [State.loadNew]
  dsimp only
  rw [if_neg (Bool.eq_false_iff.1 hp), hk]
  dsimp only
  rw [hd, hn, hc, ha, hm, if_neg (by decide)]

/-! ## PACK_UNLOAD -/

theorem packUnload_starts {src : Src} {slot : Nat} {s : State} (hs : s.starts src 0x31 = true) (hl : slot < 16)
    (hr : (s.start src).inRepl slot = false) :
    packUnload src slot s = if ((s.start src).pack slot).state = .free then (s.start src).complete src .denied []
      else ((s.start src).evict slot).complete src .ok [] := by
  have hiff : ((s.start src).pack slot).state = .free ∨ (s.start src).inRepl slot = true ∨ 16 ≤ slot ↔
      ((s.start src).pack slot).state = .free := by
    rw [hr]
    exact ⟨fun h => h.elim id fun h => h.elim (fun h => absurd h (by decide)) fun h => absurd h (by omega), .inl⟩
  rw [packUnload, if_pos hs]
  exact if_congr hiff rfl rfl

/-! ## Service classes -/

section
variable {src : Src} {cls prio persist latUl latDl rate : Nat} {met : Bool} {power : List Nat} {s : State} (hs : s.starts src 0x50 = true)
include hs

theorem classSet_badRange (h : 63 < cls ∨ 3 < prio ∨ 2 < persist) :
    classSet src cls prio persist 0 latUl latDl rate met power s = (s.start src).complete src .denied [] := by
  rw [classSet, if_pos hs]
  exact if_pos (by omega)

/-- A class within its ranges is stored where Pitch admits it, refused otherwise. -/
theorem classSet_inRange (hc : cls ≤ 63) (hp : prio ≤ 3) (hq : persist ≤ 2) {c : SvcClass}
    (h : c = { prio := prio, persist := persist, latUl := latUl, latDl := latDl, rate := rate }) :
    classSet src cls prio persist 0 latUl latDl rate met power s =
      if (s.start src).admitsIntent met (SvcClass.asksMore c ((s.start src).svcClass cls)) = false then (s.start src).refuseIntent src
      else (({ s.start src with plc := { (s.start src).plc with
        classes := Tab.set (fun _ => {}) (s.start src).plc.classes cls c } } : State).powerAll power).saveClasses.complete src .ok [] := by
  subst h
  rw [classSet, if_pos hs]
  exact if_neg (by omega)

end

theorem classAssign_badGroup {src : Src} {g cls fg : Nat} {svc : Option Nat} {met : Bool} {power : List Nat} {s : State}
    (hs : s.starts src 0x51 = true) (h : 7 < fg) :
    classAssign src g (some fg) svc cls met power s = (s.start src).complete src .denied [] := by
  rw [classAssign, if_pos hs]
  exact if_pos (.inl (decide_eq_true h))

theorem classAssign_admitted {src : Src} {g cls : Nat} {svc : Option Nat} {met : Bool} {power : List Nat} {s s1 : State} {f : FlowSel}
    (hs : s.starts src 0x51 = true) (h1 : s1 = s.start src) (hc : cls ≤ 63) (hf : f = { gaddr := g % 2 ^ 26, group := none, svc := svc })
    (ha : s1.admitsIntent met (SvcClass.asksMore (s1.svcClass cls)
      (s1.svcClass (((s1.plc.assigns.find? fun p => p.1 == f).map Prod.snd).getD 0))) = true) :
    classAssign src g none svc cls met power s =
      (({ s1 with plc := { s1.plc with assigns := (f, cls) :: (s1.plc.assigns.filter fun p => p.1 != f) } } : State).powerAll
        power).saveClasses.complete src .ok [] := by
  subst h1 hf
  rw [classAssign, if_pos hs]
  dsimp only
  rw [if_neg (by simpa using hc)]
  exact if_neg (by rw [Bool.not_eq_false]; exact ha)

/-! ## PLACEMENT_REPORT -/

theorem placementReport_written {src : Src} {h ofs len : Nat} {x : Handle} {s s1 s2 : State} (hs : s.starts src 0x52 = true)
    (h1 : s1 = s.start src) (hx : s1.handle h = some x) (hl : 64 + 16 * s1.classesUsed.length ≤ len) (hw : s1.hostMayWrite x = true)
    (ho : ofs + 64 + 16 * s1.classesUsed.length ≤ x.size) (h2 : s2 = s1.drew.setBytes h ofs (s1.report (Config.freeNat s1.free))) :
    placementReport src h ofs len s = ({ s2 with plc := { s2.plc with late := [] } } : State).complete src .ok [] := by
  have hfits : ¬(len < 64 + 16 * s1.classesUsed.length ∨ s1.hostMayWrite x = false ∨ x.size < ofs + 64 + 16 * s1.classesUsed.length) := by
    rintro (h | h | h)
    · omega
    · simp [hw] at h
    · omega
  rw [placementReport, if_pos hs, ← h1]
  dsimp only
  rw [hx]
  dsimp only
  rw [if_neg hfits, ← h2]

/-- Settles O36: an equation for each judgement a command passes or fails. -/
theorem packsAndClassesAreJudged : Obligations.PacksAndClassesAreJudged := by
  refine ⟨fun src i repl placed power s hs => ?load, fun src slot s hs hl hr => ?unload,
    fun src cls prio persist latUl latDl rate met power c s s1 hs h1 hc => ?classSet,
    fun src g cls svc met power f s s1 hs h1 hc hf ha => next_congr (classAssign_admitted hs h1 hc hf ha),
    fun src g cls fg svc met power s hs h => next_congr (classAssign_badGroup hs h),
    fun src h ofs len x s s1 s2 hs h1 hx hl hw ho h2 => next_congr (placementReport_written hs h1 hx hl hw ho h2)⟩
  case load =>
    refine ⟨fun hf => next_congr (packLoad_badFormat hs hf),
      fun st hf hv => next_congr (packLoad_unverified hs hf hv),
      fun hf hv ho => next_congr ((packLoad_verified hs hf hv).trans (if_pos ho)),
      fun k s1 h1 hf hv ho hp hk ha hm hd hn hc => next_congr ?_⟩
    subst h1
    rw [packLoad_verified hs hf hv, if_neg (Bool.eq_false_iff.1 ho), if_pos rfl]
    exact State.loadNew_fits hp hk ha hm hd hn hc
  case unload =>
    exact ⟨fun hfree => next_congr ((packUnload_starts hs hl hr).trans (if_pos hfree)),
      fun hused => next_congr ((packUnload_starts hs hl hr).trans (if_neg hused))⟩
  case classSet =>
    subst h1
    refine ⟨fun hcls hp hq ha => ?_, fun h => next_congr (classSet_badRange hs h), fun hcls hp hq ha => ?_⟩
    · exact next_congr ((classSet_inRange hs hcls hp hq hc).trans (if_neg (by rw [ha]; decide)))
    · exact next_congr ((classSet_inRange hs hcls hp hq hc).trans (if_pos ha))

end Sys2Proof.Machine
end

section
/-! O39: host queues, events, windows, Ethernet ports and register writes. -/

namespace Sys2Proof.Machine

open Sys2Proof

/-! ## A write under its judgement -/

theorem State.gated_pass {s : State} {who : Who} {r : Reg} {i : Nat} (h : s.gate who r i = .pass) (f : State → State) :
    s.gated who r i f = f s := by rw [State.gated, h]

theorem State.gated_deny {s : State} {who : Who} {r : Reg} {i : Nat} (h : s.gate who r i = .deny) (f : State → State) :
    s.gated who r i f = s.event .denied (unitPage (r.addr i)) [] := by rw [State.gated, h]

theorem State.gated_away {s : State} {who : Who} {r : Reg} {i : Nat} (h : s.gate who r i = .refuse ∨ s.gate who r i = .lost)
    (f : State → State) : s.gated who r i f = s := by
  rcases h with h | h <;> rw [State.gated, h]

/-! ## Queue pairs -/

theorem queueEnable_newly {q : Nat} {v : Word} {s : State} (hg : s.gate .host .HST_QCFG q = .pass) (he : s.flag F.HST_QCFG_EN q = false)
    (hv : getBits (plainWrite .HST_QCFG (s.reg .HST_QCFG q) v) 16 8 ≠ 255) :
    queueEnable q v s = (((s.setReg .HST_QCFG q (plainWrite .HST_QCFG (s.reg .HST_QCFG q) v)).setFld F.HST_QCFG_EN q 1).setPair q
      { running := (s.pair q).running, fetched := (s.pair q).fetched }).noteIrq1 := by
  rw [queueEnable, State.gated_pass hg]
  dsimp only
  rw [if_neg hv, if_neg (Bool.eq_false_iff.1 he)]

theorem queueDisable_pass {q : Nat} {v : Word} {s : State} (hg : s.gate .host .HST_QCFG q = .pass)
    (hv : getBits (plainWrite .HST_QCFG (s.reg .HST_QCFG q) v) 16 8 ≠ 255) :
    queueDisable q v s = ((s.setReg .HST_QCFG q (plainWrite .HST_QCFG (s.reg .HST_QCFG q) v)).disablePair q).noteIrq1 := by
  rw [queueDisable, State.gated_pass hg]
  dsimp only
  rw [if_neg hv]

theorem sqDoorbell_pass {q tail : Nat} {l : List Sqe} {s : State} (hg : s.gate .host .HST_SQT q = .pass) :
    sqDoorbell q tail l s = if s.flag F.HST_QCFG_EN q then
      ((s.setReg .HST_SQT q (BitVec.ofNat 32 tail)).setPair q { (s.setReg .HST_SQT q (BitVec.ofNat 32 tail)).pair q with
        submitted := ((s.setReg .HST_SQT q (BitVec.ofNat 32 tail)).pair q).submitted ++
          l.take ((s.setReg .HST_SQT q (BitVec.ofNat 32 tail)).sqAdded q tail)
        sqTail := tail }).fetchPair q
      else s.setReg .HST_SQT q (BitVec.ofNat 32 tail) := State.gated_pass hg _

/-! ## Records -/

theorem completionPost_enabled {q : Nat} {r : Rec} {s : State} (hc : firstComp q s.hst.comps = some r) (he : s.flag F.HST_QCFG_EN q = true) :
    completionPost q s = if s.cqFull q then s
      else ({ s with hst := { s.hst with comps := dropFirstComp q s.hst.comps } } : State).post q r := by
  rw [completionPost, hc]
  dsimp only
  rw [if_neg (by simp [he])]

theorem eventPost_raised {r : Rec} {l : List Rec} {s : State} (hp : s.canPost = true) (hf : s.cqFull (s.fld F.HST_EVTQ_PAIR 0) = false)
    (hh : s.hst.held = []) (hr : s.hst.raised = r :: l) :
    eventPost s = ((({ s with hst := { s.hst with raised := l } } : State).mirrorEvent r).post (s.fld F.HST_EVTQ_PAIR 0) r) := by
  rw [eventPost, if_pos hp]
  dsimp only
  rw [if_neg (Bool.eq_false_iff.1 hf), hh, hr]

theorem eventPost_stored {r : Rec} {l : List Rec} {s : State} (hp : s.canPost = false) (hr : s.hst.raised = r :: l)
    (hl : s.hst.held.length < 64) :
    eventPost s = { ({ s with hst := { s.hst with raised := l } } : State).mirrorEvent r with
      hst := { (({ s with hst := { s.hst with raised := l } } : State).mirrorEvent r).hst with held := s.hst.held ++ [r] } } := by
  rw [eventPost, if_neg (Bool.eq_false_iff.1 hp), hr]
  dsimp only
  rw [if_pos hl]
  rfl

theorem eventDropTimeout_held {r : Rec} {l : List Rec} {s : State} (hp : s.canPost = true)
    (hf : s.cqFull (s.fld F.HST_EVTQ_PAIR 0) = true) (hh : s.hst.held = r :: l) :
    eventDropTimeout s = ({ s with hst := { s.hst with held := l } } : State).eventLost := by
  rw [eventDropTimeout, if_pos (by simp [hp, hf]), hh]

theorem fbdretWrite_pass {i : Nat} {s : State} (hg : s.gate .host .HST_FBDRET 0 = .pass) :
    fbdretWrite i s = if s.hst.retRing.length < 4096 then { s with hst := { s.hst with retRing := s.hst.retRing ++ [i] } }
      else s.setFld F.HST_STAT_RETFULL 0 1 := State.gated_pass hg _

/-! ## Ethernet ports -/

theorem ethPortDisable_drains {p : Nat} {who : Who} {v : Word} {s s1 : State} (hg : s.gate who .ETH_CFG p = .pass)
    (he : s.flag F.ETH_CFG_EN p = true) (h1 : s1 = s.setReg .ETH_CFG p (ethCfgForm (plainWrite .ETH_CFG (s.reg .ETH_CFG p) v)))
    (he1 : s1.flag F.ETH_CFG_EN p = false) : ethPortDisable p who v s = s1.startDrain (domEth p) .config := by
  rw [ethPortDisable, State.gated_pass hg, ← h1]
  dsimp only
  rw [if_neg (Bool.eq_false_iff.1 he1), if_pos he]

theorem headendDatagram_served {p : Nat} {s : State} (hp : p < 2) (hs : s.serves (domEth p) = true) (he : s.flag F.ETH_CFG_EN p = true)
    (hh : s.flag F.ETH_CFG_HE p = true) {dclass : Nat} (hd : dclass ≠ 2) (g svc ref len : Nat) :
    (len ≤ 9200 → headendDatagram p true 1 g svc dclass ref len s = frameSend (.headend p ref) g svc dclass len s) ∧
    headendDatagram p false 1 g svc dclass ref len s = s.bumpFld F.ETH_DROP_VALUE p 1 := by
  have hserved : ¬(!(decide (p < 2) && s.serves (domEth p) && s.flag F.ETH_CFG_EN p && s.flag F.ETH_CFG_HE p)) = true := by
    simp [hp, hs, he, hh]
  constructor
  · intro hl
    rw [headendDatagram]
    dsimp only
    rw [if_neg hserved, if_neg (by simp [hd]), if_neg (by omega)]
  · rw [headendDatagram]
    dsimp only
    rw [if_neg hserved, if_pos (.inl rfl)]

/-! ## Windows -/

section
variable {ofs n h o : Nat} {x : Handle} {s : State} (hpath : s.hostPath = true) (hw : s.window ofs = some (h, o)) (hh : s.handle h = some x)
include hpath hw hh

theorem bar2Access_read : bar2Access ofs n none s = if s.hostMayRead x && (o + n ≤ x.size) then
      (if s.openContents h then (s.touchTag 144).drew else s.touchTag 144).returns (BitVec.ofNat 64 (leNat (s.peek h o n)))
    else s.returns 0 := by
  rw [bar2Access, if_neg (by simp [hpath]), hw]
  dsimp only
  rw [hh]

theorem bar2Access_write (v : DWord) : bar2Access ofs n (some v) s =
    if s.hostMayWrite x && (o + n ≤ x.size) then (s.touchTag 144).setBytes h o (natLe n v.toNat) else s := by
  rw [bar2Access, if_neg (by simp [hpath]), hw]
  dsimp only
  rw [hh]

end

/-! ## Register writes -/

theorem registerWrite_msix {ofs : Nat} (h1 : 0x1480000 ≤ ofs) (h2 : ofs < 0x1481000) (h4 : ofs % 4 = 0) {s : State} (hp : s.hostPath = true)
    (hc : s.homeOn .core = true) (hb : s.bootReach ofs = true) (v : Word) (e : WriteEnv) :
    registerWrite .host ofs v e s = s.writeMsix ofs v := by
  rw [registerWrite, if_neg (by omega), if_pos ⟨h1, h2⟩, if_pos ⟨rfl, h4, hp, hc, hb⟩]

theorem State.writeMsix_onlyIn (s : State) (a : Nat) (v : Word) : s.OnlyIn [.hst] (s.writeMsix a v) := by
  intro p hp
  cases p with
  | hst => exact absurd (by decide) hp
  | _ => rfl

/-- Settles O39: an equation for each command, its judgement passed or not. -/
theorem hostQueuesWindowsAndWrites : Obligations.HostQueuesWindowsAndWrites := by
  refine ⟨fun q v s s2 hg he hv h2 => ?enable, fun q v s hg hv => next_congr (queueDisable_pass hg hv),
    fun q tail l s s1 hg h1 => ?doorbell, fun q head s hg => next_congr (State.gated_pass hg _),
    fun src s h => next_congr (if_pos h), fun q r s hc he => ?completion,
    fun r l s hp hf hh hr => next_congr (eventPost_raised hp hf hh hr), fun r l s s1 hp hr h1 hl => ?stored,
    fun r l s hp hf hh => next_congr (eventDropTimeout_held hp hf hh), fun i s hg => ?fbdret,
    fun q s h => next_congr (if_pos h), fun p who v s s1 hg he h1 he1 => next_congr (ethPortDisable_drains hg he h1 he1),
    fun ofs n h o x v s hpath hw hh hsz => ?window, fun who ofs i r v e s hw hr => ?register,
    fun ofs v e s h1 h2 h4 hp hc hb => ?msix, fun p g svc dclass ref len s hp hs he hh hd => ?datagram⟩
  case enable =>
    subst h2
    exact next_congr (queueEnable_newly hg he hv)
  case doorbell =>
    subst h1
    exact ⟨fun he => next_congr ((sqDoorbell_pass hg).trans (if_pos he)),
      fun he => next_congr ((sqDoorbell_pass hg).trans (if_neg (Bool.eq_false_iff.1 he)))⟩
  case completion =>
    exact ⟨fun hf => next_congr ((completionPost_enabled hc he).trans (if_neg (Bool.eq_false_iff.1 hf))),
      fun hf => next_congr ((completionPost_enabled hc he).trans (if_pos hf))⟩
  case stored =>
    subst h1
    exact next_congr (eventPost_stored hp hr hl)
  case fbdret =>
    exact ⟨fun hl => next_congr ((fbdretWrite_pass hg).trans (if_pos hl)),
      fun hl => next_congr ((fbdretWrite_pass hg).trans (if_neg (by omega)))⟩
  case window =>
    refine ⟨fun hm => ?_, fun hm => ?_, fun hm => ?_, fun hm => ?_⟩
    · exact next_congr ((bar2Access_read hpath hw hh).trans (if_pos (by simp [hm, hsz])))
    · exact next_congr ((bar2Access_read hpath hw hh).trans (if_neg (by simp [hm])))
    · exact next_congr ((bar2Access_write hpath hw hh v).trans (if_pos (by simp [hm, hsz])))
    · exact next_congr ((bar2Access_write hpath hw hh v).trans (if_neg (by simp [hm])))
  case register =>
    have hrun := registerWrite_register hr hw who v e s
    exact ⟨fun hg => next_congr (hrun.trans (congrArg State.noteIrq1 (State.gated_pass hg _))),
      fun hg => next_congr (hrun.trans (congrArg State.noteIrq1 (State.gated_deny hg _))),
      fun hg => next_congr (hrun.trans (congrArg State.noteIrq1 (State.gated_away hg _)))⟩
  case msix =>
    exact ⟨s.writeMsix ofs v, next_congr (registerWrite_msix h1 h2 h4 hp hc hb v e), Tab.get_set_same .., s.writeMsix_onlyIn ofs v⟩
  case datagram =>
    obtain ⟨hsent, hdropped⟩ := headendDatagram_served hp hs he hh hd g svc ref len
    exact ⟨fun hl => next_congr (hsent hl), next_congr hdropped⟩

end Sys2Proof.Machine
end

section
/-! O2, O3: mode requests, and transitions that complete, wait or begin on a timer. -/

namespace Sys2Proof.Machine

open Sys2Proof

/-! ## Requests -/

theorem State.requestMode_running {s : State} {who : Who} (hg : s.gate who .PWR_MODE 0 = .pass) (ht : s.pwr.trans.isSome = true) (m : Mode) :
    s.requestMode who m = ({ s with pwr := { s.pwr with heldReq := some m } } : State).noteIrq1 := by
  rw [State.requestMode, State.gated_pass hg, if_pos ht]

theorem State.requestMode_idle {s : State} {who : Who} (hg : s.gate who .PWR_MODE 0 = .pass) (ht : s.pwr.trans = none) (m : Mode) :
    s.requestMode who m = (s.judgeMode m).noteIrq1 := by
  rw [State.requestMode, State.gated_pass hg, if_neg (by simp [ht])]

/-- Without a trigger a request for another mode is refused where that mode cannot be reached, else it begins (R46). -/
theorem State.judgeMode_untriggered {s : State} {m : Mode} (ht : s.triggered = false) (hm : s.pwr.mode ≠ m) :
    s.judgeMode m = if s.reachable m = false then s.setFld F.PWR_STAT_REFUSED 0 1
      else if m = .rest ∨ m = .watch then s.beginDown m 1 else s.beginMode m 1 := by
  rw [State.judgeMode, if_neg (by simp [ht]), if_neg hm]

section
variable {s : State} {who : Who} {m : Mode} (hg : s.gate who .PWR_MODE 0 = .pass) (ht : s.pwr.trans = none) (hq : s.triggered = false)
  (hm : s.pwr.mode ≠ m)
include hg ht hq hm

theorem State.requestMode_up (hr : s.reachable m = true) (hup : ¬(m = .rest ∨ m = .watch)) :
    s.requestMode who m = (s.beginMode m 1).noteIrq1 := by
  rw [State.requestMode_idle hg ht, State.judgeMode_untriggered hq hm, if_neg (by simp [hr]), if_neg hup]

theorem State.requestMode_down (hr : s.reachable m = true) (hdown : m = .rest ∨ m = .watch) :
    s.requestMode who m = (s.beginDown m 1).noteIrq1 := by
  rw [State.requestMode_idle hg ht, State.judgeMode_untriggered hq hm, if_neg (by simp [hr]), if_pos hdown]

theorem State.requestMode_refused (hr : s.reachable m = false) :
    s.requestMode who m = (s.setFld F.PWR_STAT_REFUSED 0 1).noteIrq1 := by
  rw [State.requestMode_idle hg ht, State.judgeMode_untriggered hq hm, if_pos hr]

end

/-! ## What can be reached -/

theorem State.reachable_of_serve {s : State} (h : s.pwr.mode = .serve) (m : Mode) :
    s.reachable m = (m == .surge || m == .rest || m == .watch) := by
  unfold State.reachable
  rw [h]
  cases m <;> rfl

theorem State.reachable_serve_of_surge {s : State} (h : s.pwr.mode = .surge) : s.reachable .serve = true := by
  unfold State.reachable
  rw [h]

theorem State.reachable_of_low {s : State} (h : s.pwr.mode = .rest ∨ s.pwr.mode = .watch) (m : Mode) : s.reachable m = false := by
  unfold State.reachable
  rcases h with h | h <;> rw [h]

/-- Settles O2: a request is held while a transition runs, else judged by what the mode in force reaches. -/
theorem modeRequestsAreJudged : Obligations.ModeRequestsAreJudged := by
  refine ⟨fun who s hg ht hq hm => ⟨?surge, ?rest, ?watch⟩, fun who s hg ht hq hm => ?serve,
    fun who s hg ht => ?held, fun who s hg ht hq hm => ?low⟩
  case surge => exact next_congr (State.requestMode_up hg ht hq (by simp [hm]) (State.reachable_of_serve hm _) (by decide))
  case rest => exact next_congr (State.requestMode_down hg ht hq (by simp [hm]) (State.reachable_of_serve hm _) (by decide))
  case watch => exact next_congr (State.requestMode_down hg ht hq (by simp [hm]) (State.reachable_of_serve hm _) (by decide))
  case serve => exact next_congr (State.requestMode_up hg ht hq (by simp [hm]) (State.reachable_serve_of_surge hm) (by decide))
  case held =>
    have hheld := fun m => next_congr (State.requestMode_running hg ht m)
    exact ⟨hheld .serve, hheld .surge, hheld .rest, hheld .watch⟩
  case low =>
    have hother : s.pwr.mode ≠ .surge := by rcases hm with hm | hm <;> simp [hm]
    exact next_congr (State.requestMode_refused hg ht hq hother (State.reachable_of_low hm _))

/-! ## Completion -/

/-- Whether a trigger is present rests on PWR_EMBER and the pins alone (R57). -/
theorem State.triggered_congr {s t : State} (hr : t.reg .PWR_EMBER 0 = s.reg .PWR_EMBER 0) (hp : t.pins = s.pins) :
    t.triggered = s.triggered := by
  unfold State.triggered State.pfPresent State.vePresent State.flag State.fld
  rw [hr, hp]

/-- In SERVE and SURGE, with no trigger and no request held, nothing follows a transition but the end of what it held. -/
theorem State.afterMode_quiet {s : State} (hm : s.pwr.mode = .serve ∨ s.pwr.mode = .surge) (hq : s.triggered = false)
    (hr : s.pwr.heldReq = none) (keep : List Nat) :
    s.afterMode keep =
      { s with pwr := { s.pwr with perst := false, heldWake := none, ember := { s.pwr.ember with held := none } } } := by
  rw [State.afterMode]
  dsimp only
  rw [if_pos hm, if_neg (by simp [hq]), hr]

/-- A transition between SERVE and SURGE whose end finds no trigger and no request held enters its target (R46). -/
theorem modeTransitionComplete_working {vin c : Nat} {pf : Bool} {s s1 : State} {m : Mode}
    (hm : s.pwr.mode = .serve ∧ m = .surge ∨ s.pwr.mode = .surge ∧ m = .serve) (ht : s.pwr.trans = some ⟨m, c⟩)
    (hq : (s.seeSupply vin pf).triggered = false) (hr : s.pwr.heldReq = none) (power keep : List Nat)
    (h1 : s1 = (({ s with pwr := { s.pwr with trans := none } }.seeSupply vin pf).setFld F.PWR_MODE_CAUSE 0 c).dropChallenge) :
    modeTransitionComplete vin pf power keep s =
      ({ s1.setMode m with pwr := { (s1.setMode m).pwr with
        perst := false, heldWake := none, ember := { s1.pwr.ember with held := none } } } : State).noteIrq1 := by
  have hworking : (s1.setMode m).pwr.mode = .serve ∨ (s1.setMode m).pwr.mode = .surge := hm.elim (fun h => .inr h.2) fun h => .inl h.2
  have hquiet : (s1.setMode m).triggered = false := by
    rw [← hq, h1]
    exact State.triggered_congr (State.reg_setReg_ne _ _ (by decide)) rfl
  have hnone : (s1.setMode m).pwr.heldReq = none := by rw [h1]; exact hr
  have hember : (s1.setMode m).pwr.mode ≠ .ember := by rcases hworking with h | h <;> simp [h]
  have hafter := State.afterMode_quiet hworking hquiet hnone keep
  rw [modeTransitionComplete, ht]
  dsimp only at h1 ⊢
  rw [if_neg (by rcases hm with ⟨-, rfl⟩ | ⟨-, rfl⟩ <;> simp), ← h1]
  rcases hm with ⟨hs, rfl⟩ | ⟨hs, rfl⟩ <;> rw [hs] <;> exact congrArg State.noteIrq1 ((if_neg hember).trans hafter)

theorem mem_offIn_rest {i : Nat} : i ∈ offIn .rest ↔ i < domCount := by
  simp [offIn]

/-- A transition to REST waits for every unit that is on (R46). -/
theorem modeTransitionComplete_waits {c i : Nat} {s : State} (ht : s.pwr.trans = some ⟨.rest, c⟩) (hi : i < domCount) (hon : s.dom i = .on)
    (vin : Nat) (pf : Bool) (power keep : List Nat) : modeTransitionComplete vin pf power keep s = s := by
  have hany : s.anyOn ((offIn .rest).filter fun i => s.dom i != .switchingOn) = true :=
    List.any_eq_true.2 ⟨i, List.mem_filter.2 ⟨mem_offIn_rest.2 hi, by simp [hon]⟩, by simp [hon]⟩
  rw [modeTransitionComplete, ht]
  exact if_pos (by simp [hany])

theorem modeDrainForcedDisable_drains {i : Nat} {s : State} {t : Transition} {d : Drain} (ht : s.pwr.trans = some t)
    (hdown : t.target = .rest ∨ t.target = .watch) (hd : s.drain i = some d) (hi : (offIn t.target).contains i = true) :
    modeDrainForcedDisable i s = s.forceUnit i .mode := by
  rw [modeDrainForcedDisable, ht, hd]
  exact if_pos ⟨hdown, hi⟩

/-- Settles O3: completions judged by what the transition leaves, the timers by their guards. -/
theorem transitionsCompleteOrWait : Obligations.TransitionsCompleteOrWait := by
  refine ⟨fun vin pf power keep s c hm ht hq hr => ?surge, fun vin pf power keep s c hm ht hq hr => ?serve,
    fun vin pf power keep _ _ _ ht hi hon => next_congr (modeTransitionComplete_waits ht hi hon vin pf power keep),
    fun _ _ _ _ ht hdown hd hi => next_congr (modeDrainForcedDisable_drains ht hdown hd hi),
    fun _ hm ht hn hs => next_congr (if_pos ⟨hm, ht, hn, hs⟩),
    fun _ hm ht ha hn hs => next_congr (if_pos ⟨hm, ht, ha, hn, hs⟩),
    fun _ _ _ hm ht hc => next_congr (if_pos ⟨hm, ht, hc⟩)⟩
  case surge =>
    have hends := modeTransitionComplete_working (.inl ⟨hm, rfl⟩) ht hq hr power keep rfl
    exact next_congr (hends.trans (congrArg State.noteIrq1 rfl))
  case serve =>
    have hends := modeTransitionComplete_working (.inr ⟨hm, rfl⟩) ht hq hr power keep rfl
    exact next_congr (hends.trans (congrArg State.noteIrq1 rfl))

end Sys2Proof.Machine
end

section
/-! O4, O5: EMBER triggers by mode, PERST_n, wakes, the power registers and the power cap. -/

namespace Sys2Proof.Machine

open Sys2Proof

/-! ## Triggers -/

theorem State.trigger_working {s : State} {cause : Nat} {keep : List Nat} (hm : s.pwr.mode = .serve ∨ s.pwr.mode = .surge) :
    s.trigger cause keep = s.enterEmber cause keep := by
  rcases hm with hm | hm <;> rw [State.trigger, hm]

/-- In REST and WATCH without a transition a trigger is only noted (R63). -/
theorem State.trigger_low {s : State} {cause : Nat} {keep : List Nat} (hm : s.pwr.mode = .rest ∨ s.pwr.mode = .watch)
    (ht : s.pwr.trans = none) : s.trigger cause keep = (s.setFld F.PWR_STAT_PF 0 1).noteIrq1.event .ok pagePwr [(1, cause)] := by
  rcases hm with hm | hm <;> rw [State.trigger, hm, ht]

/-- With PWR_FAIL_n low its trigger is present exactly where it is enabled (R57). -/
theorem State.pfPresent_low (s : State) :
    ({ s with pins := { s.pins with pwrFailN := false } } : State).pfPresent = s.flag F.PWR_EMBER_PF_EN 0 := Bool.and_true _

theorem pwrFailAssert_eq (keep : List Nat) (s : State) :
    pwrFailAssert keep s = (if s.flag F.PWR_EMBER_PF_EN 0 then
      ({ s with pins := { s.pins with pwrFailN := false } } : State).trigger 5 keep
      else { s with pins := { s.pins with pwrFailN := false } }).noteIrq1 := by
  rw [pwrFailAssert]
  dsimp only
  rw [State.pfPresent_low]

theorem pwrFailAssert_enabled {s : State} (h : s.flag F.PWR_EMBER_PF_EN 0 = true) (keep : List Nat) :
    pwrFailAssert keep s = (({ s with pins := { s.pins with pwrFailN := false } } : State).trigger 5 keep).noteIrq1 := by
  rw [pwrFailAssert_eq, if_pos h]

theorem pwrFailAssert_disabled {s : State} (h : s.flag F.PWR_EMBER_PF_EN 0 = false) (keep : List Nat) :
    pwrFailAssert keep s = ({ s with pins := { s.pins with pwrFailN := false } } : State).noteIrq1 := by
  rw [pwrFailAssert_eq, if_neg (Bool.eq_false_iff.1 h)]

theorem vinEmberCross_enabled {vin : Nat} {s : State} (h : s.flag F.PWR_EMBER_VE_EN 0 = true)
    (hv : vin < 100 * s.fld F.PWR_EMBER_VIN_EMBER 0) (keep : List Nat) :
    vinEmberCross vin keep s = (({ s with pins := { s.pins with vinMv := vin } } : State).trigger 6 keep).noteIrq1 := by
  have hp : ({ s with pins := { s.pins with vinMv := vin } } : State).vePresent = true := Bool.and_eq_true_iff.2 ⟨h, decide_eq_true hv⟩
  exact congrArg State.noteIrq1 (if_pos hp)

theorem vinEmberCross_disabled {s : State} (h : s.flag F.PWR_EMBER_VE_EN 0 = false) (vin : Nat) (keep : List Nat) :
    vinEmberCross vin keep s = ({ s with pins := { s.pins with vinMv := vin } } : State).noteIrq1 := by
  have hp : ({ s with pins := { s.pins with vinMv := vin } } : State).vePresent = false := Bool.and_eq_false_iff.2 (.inl h)
  exact congrArg State.noteIrq1 (if_neg (Bool.eq_false_iff.1 hp))

/-- Settles O4: the enable bit decides whether a trigger acts, the mode what it does. -/
theorem emberTriggersActByMode : Obligations.EmberTriggersActByMode := by
  refine ⟨fun keep s he hm => next_congr ((pwrFailAssert_enabled he keep).trans ?failEnters),
    fun keep s he hm ht => next_congr ((pwrFailAssert_enabled he keep).trans ?failNoted),
    fun keep s he => next_congr (pwrFailAssert_disabled he keep),
    fun vin keep s he hv hm => next_congr ((vinEmberCross_enabled he hv keep).trans ?supplyEnters),
    fun vin keep s he => next_congr (vinEmberCross_disabled he vin keep)⟩
  case failEnters => exact congrArg State.noteIrq1 (State.trigger_working hm)
  case failNoted => exact congrArg State.noteIrq1 (State.trigger_low hm ht)
  case supplyEnters => exact congrArg State.noteIrq1 (State.trigger_working hm)

/-! ## PERST_n -/

theorem State.perstUp_enabled {s : State} (hb : s.flag F.PWR_STAT_BOOT_FAIL 0 = false) (he : s.flag F.PWR_WAKECFG_PERST_EN 0 = true) :
    s.perstUp = (({ s with pins := { s.pins with wakeOut := true } }.setFld F.PWR_STAT_WAKE_PERST 0 1).noteWatch).beginUp .serve 2 := by
  rw [State.perstUp, if_neg (Bool.eq_false_iff.1 hb), if_pos he]

/-- A rise of PERST_n in REST, RST_n high and no transition running, acts at once (R50). -/
theorem perstNRise_rest {s : State} (hp : s.pins.perstN = false) (hm : s.pwr.mode = .rest) (hr : s.pins.rstN = true)
    (ht : s.pwr.trans = none) : perstNRise s = ({ s with pins := { s.pins with perstN := true } } : State).perstUp := by
  rw [perstNRise, if_neg (Bool.eq_false_iff.1 hp)]
  dsimp only
  rw [hm, ht]
  exact if_pos (.inl ⟨rfl, hr⟩)

/-- A rise of PERST_n during a transition is held where the transition leads to REST or WATCH (R51). -/
theorem perstNRise_transition {s : State} {t : Transition} (hp : s.pins.perstN = false) (hm : s.pwr.mode ≠ .off)
    (ht : s.pwr.trans = some t) :
    perstNRise s = { s with
      pins := { s.pins with perstN := true }, pwr := { s.pwr with perst := t.target == .rest || t.target == .watch } } := by
  rw [perstNRise, if_neg (Bool.eq_false_iff.1 hp)]
  dsimp only
  split
  · contradiction
  · rw [ht]

/-! ## Wakes -/

theorem State.switchOn_pins (s : State) (l : List Nat) : (s.switchOn l).pins = s.pins := by
  induction l generalizing s with
  | nil => rfl
  | cons i t ih =>
    rw [State.switchOn, ih]
    split <;> rfl

theorem State.wakeMove_pins (s : State) (c : Nat) : (s.wakeMove c).pins = s.pins := by
  unfold State.wakeMove
  split
  · exact State.switchOn_pins ..
  · exact State.switchOn_pins ..
  · rfl

/-- What an enabled wake does before its move: WAKE_OUT, the bit of its source, the second of R52 (R49). -/
def State.woken (s : State) (source : Nat) : State :=
  (({ s with pins := { s.pins with wakeOut := true } }.setFld
    (if source < 8 then F.PWR_STAT_WAKE_TP else F.PWR_STAT_WAKE_LAN) 0 1).noteWatch).noteIrq1

theorem State.woken_pwr (s : State) (source : Nat) : (s.woken source).pwr = { s.pwr with watchSince := s.cmp.sec } :=
  State.noteIrq1_pwr _

theorem State.woken_wakeOut (s : State) (source : Nat) : (s.woken source).pins.wakeOut = true :=
  congrArg Pins.wakeOut (State.noteIrq1_pins _)

section
variable {source : Nat} {s : State} (hm : s.pwr.mode = .rest ∨ s.pwr.mode = .watch) (hr : s.pins.rstN = true)
  (he : s.wakeEnabled source = true)
include hm hr he

theorem wake_enabled : wake source s = if (s.woken source).pwr.trans.isSome then
      { s.woken source with pwr := { (s.woken source).pwr with heldWake := some (if source < 8 then 3 else 4) } }
    else (s.woken source).wakeMove (if source < 8 then 3 else 4) := if_pos ⟨hm, hr, he⟩

theorem wake_transition (ht : s.pwr.trans.isSome = true) : wake source s =
    { s.woken source with pwr := { s.pwr with watchSince := s.cmp.sec, heldWake := some (if source < 8 then 3 else 4) } } := by
  rw [wake_enabled hm hr he, State.woken_pwr, if_pos ht]

theorem wake_wakeOut : (wake source s).pins.wakeOut = true := by
  rw [wake_enabled hm hr he]
  split
  · exact s.woken_wakeOut source
  · rw [State.wakeMove_pins]
    exact s.woken_wakeOut source

end

/-! ## The power registers -/

theorem pwrCapWrite_pass {who : Who} {v : Word} {s : State} (hg : s.gate who .PWR_CAP 0 = .pass) (hm : s.pwr.mode ≠ .surge) :
    pwrCapWrite who v s = s.setReg .PWR_CAP 0 (pwrCapForm (plainWrite .PWR_CAP (s.reg .PWR_CAP 0) v)) := by
  rw [pwrCapWrite, State.gated_pass hg]
  exact if_neg fun h => hm h.1

theorem clampNat_bounds {lo hi : Nat} (h : lo ≤ hi) (v : Nat) : lo ≤ clampNat lo hi v ∧ clampNat lo hi v ≤ hi := by
  unfold clampNat
  split_ifs <;> omega

theorem pwrCapForm_watts (w : Word) : getBits (pwrCapForm w) 0 7 = clampNat 10 112 (getBits w 0 7) := by
  have hle := (clampNat_bounds (show 10 ≤ 112 by decide) (getBits w 0 7)).2
  rw [pwrCapForm, getBits_putBits _ _ _ _ (by decide), Nat.mod_eq_of_lt (by omega)]

theorem pwrStatClear_pass {who : Who} {v : Word} {s s1 : State} (hg : s.gate who .PWR_STAT 0 = .pass)
    (h1 : s1 = s.setReg .PWR_STAT 0 (plainWrite .PWR_STAT (s.reg .PWR_STAT 0) v)) :
    pwrStatClear who v s = (if getBits (plainWrite .PWR_STAT (s.reg .PWR_STAT 0) v) 0 3 = 0 then
      { s1 with pins := { s.pins with wakeOut := false } } else s1).noteIrq1 := by
  subst h1
  rw [pwrStatClear, State.gated_pass hg, State.store]
  dsimp only
  rw [State.reg_setReg_same]
  rfl

/-! ## The power cap -/

section
variable {demand vcore : Nat} {idle : List Nat} {s : State} (hm : s.pwr.mode = .serve ∨ s.pwr.mode = .surge)
include hm

theorem powerCapControl_within (hd : demand ≤ 10 * s.capInForce) : powerCapControl demand vcore idle s =
    { s with plc := { s.plc with capSteps := [] },
             pwr := { s.pwr with admits := true, vcoreMv := clampNat 700 (vcoreTop s.pwr.mode) (vcore / 10 * 10) } } := by
  rw [powerCapControl, if_neg (by tauto), if_pos hd]

theorem powerCapControl_above (hd : 10 * s.capInForce < demand) (hv : 700 < s.pwr.vcoreMv) :
    powerCapControl demand vcore idle s = { s with pwr := { s.pwr with vcoreMv := s.pwr.vcoreMv - 10 } } := by
  rw [powerCapControl, if_neg (by tauto), if_neg (Nat.not_le.2 hd), if_pos hv]

end

/-- Settles O5: an equation for each command, its guards met (what is held in a transition: log entry 165; the cap's one step: log entry 125). -/
theorem wakesAndPowerRegisters : Obligations.WakesAndPowerRegisters := by
  refine ⟨fun s hp hm hr ht he hb => next_congr ((perstNRise_rest hp hm hr ht).trans (State.perstUp_enabled hb he)),
    fun s t hp hm ht => next_congr (perstNRise_transition hp hm ht),
    fun src s hm hr he ht => next_congr (wake_transition hm hr he ht),
    fun src s hm hr he => ⟨_, rfl, wake_wakeOut hm hr he⟩,
    fun who v s hg hm => next_congr (pwrCapWrite_pass hg hm), fun w => ?watts,
    fun who v s hg hb => next_congr ((pwrStatClear_pass hg rfl).trans (congrArg State.noteIrq1 (if_neg hb))),
    fun who v s hg hb => next_congr ((pwrStatClear_pass hg rfl).trans (congrArg State.noteIrq1 (if_pos hb))),
    fun demand vcore idle s hm hd => next_congr (powerCapControl_within hm hd),
    fun demand vcore idle s hm hd hv => next_congr (powerCapControl_above hm hd hv), fun s => rfl⟩
  case watts =>
    rw [pwrCapForm_watts]
    exact clampNat_bounds (by decide) _

end Sys2Proof.Machine
end

section
/-! O6: configuration and disabling of line and neutral ports. -/

namespace Sys2Proof.Machine

open Sys2Proof

/-! ## What a configuration write stores -/

theorem cfgReg_line {p : Nat} (hp : p < 24) : cfgReg p = (.LP_CFG, p) := if_pos hp

theorem portDom_line {p : Nat} (hp : p < 24) : portDom p = domLps p := if_pos hp

theorem getBits_lt (w : Word) (lo width : Nat) : getBits w lo width < 2 ^ width := Nat.mod_lt _ (Nat.two_pow_pos _)

/-- The ROLE that a refused move puts back, FG put back after it. -/
theorem getBits_role_putBack (old w : Word) (fg : Nat) :
    getBits (putBits (putBits w 4 3 (getBits old 4 3)) 8 3 fg) 4 3 = getBits old 4 3 := by
  rw [getBits_putBits_ne _ _ _ _ _ _ (by decide) (by decide), getBits_putBits _ _ _ _ (by decide), Nat.mod_eq_of_lt (getBits_lt ..)]

/-- The FG that a refused move puts back. -/
theorem getBits_fg_putBack (old w : Word) : getBits (putBits w 8 3 (getBits old 8 3)) 8 3 = getBits old 8 3 := by
  rw [getBits_putBits _ _ _ _ (by decide), Nat.mod_eq_of_lt (getBits_lt ..)]

/-- Clearing EN or not, a field above it stays. -/
theorem getBits_clearEn (c : Bool) (w : Word) {lo width : Nat} (hlo : 1 ≤ lo) (hw : lo + width ≤ 32) :
    getBits (if c then putBits w 0 1 0 else w) lo width = getBits w lo width := by
  split
  · exact getBits_putBits_ne _ _ _ _ _ _ hw (.inr hlo)
  · rfl

/-- A refused move of ROLE and FG keeps both and counts at least one refusal; a refused EN leaves them alone (R68, R69; log entry 171). -/
theorem State.portCfgStored_refused {s : State} {p : Nat} {v : Word}
    (hm : roleMoved (s.portCfg p) (portCfgForm p (plainWrite (cfgReg p).1 (s.portCfg p) v)) = true)
    (hb : s.portEn p = true ∨ s.roleClash p (portCfgForm p (plainWrite (cfgReg p).1 (s.portCfg p) v)) = true) :
    getBits (s.portCfgStored p v).1 4 3 = s.portRole p ∧ getBits (s.portCfgStored p v).1 8 3 = s.portFg p ∧
      1 ≤ (s.portCfgStored p v).2 := by
  have hbad : (roleMoved (s.portCfg p) (portCfgForm p (plainWrite (cfgReg p).1 (s.portCfg p) v)) &&
      (getBits (s.portCfg p) 0 1 == 1 || s.roleClash p (portCfgForm p (plainWrite (cfgReg p).1 (s.portCfg p) v)))) = true := by
    rw [hm, Bool.true_and, Bool.or_eq_true]
    exact hb
  unfold State.portCfgStored State.portRole State.portFg
  dsimp only
  rw [if_pos hbad, if_pos hbad]
  exact ⟨(getBits_clearEn _ _ (by decide) (by decide)).trans (getBits_role_putBack ..),
    (getBits_clearEn _ _ (by decide) (by decide)).trans (getBits_fg_putBack ..), Nat.le_add_right ..⟩

theorem portCfgWrite_pass {p : Nat} {who : Who} {v : Word} {s : State} (hg : s.gate who (cfgReg p).1 (cfgReg p).2 = .pass) :
    portCfgWrite p who v s =
      (let s1 := (s.setReg (cfgReg p).1 (cfgReg p).2 (s.portCfgStored p v).1).portDenied p (s.portCfgStored p v).2
       (if decide (p < 24) && (!s.portEn p || !s1.onAir p) then s1.setPort p { s1.port p with path := s1.fld F.LP_CFG_TXPATH p }
        else s1).portEnabled p (s.portEn p)) := by
  rw [portCfgWrite, State.writePortCfg, State.gated_pass hg]

/-! ## Forced disable -/

/-- A powered line port that is forced off is muted and left draining with abandoned work (R94). -/
theorem portForcedDisable_line {p : Nat} {s : State} (hp : p < 24) (hd : (s.mutePort p).dom (domLps p) = .on) :
    portForcedDisable p s = (s.mutePort p).setDrain (portUnit p)
      (some { why := (((s.mutePort p).drain (portUnit p)).map Drain.why).getD .host, abandoned := true,
              restore := (((s.mutePort p).drain (portUnit p)).map Drain.restore).getD false }) := by
  rw [portForcedDisable, State.forcePort]
  simp only [if_pos hp, portDom_line hp, hd, if_true]

theorem State.port_setPort_same (s : State) (p : Nat) (x : Port) : (s.setPort p x).port p = x := Tab.get_set_same ..

theorem State.port_setDrain (s : State) (i : Nat) (d : Option Drain) (p : Nat) : (s.setDrain i d).port p = s.port p := by
  rw [State.port, State.setDrain_lin, State.port]

theorem portForcedDisable_neutral_stops {p : Nat} (hp : 24 ≤ p) (s : State) : ((portForcedDisable p s).port p).stopped = true := by
  rw [portForcedDisable, State.forcePort]
  dsimp only
  rw [if_neg (Nat.not_lt.2 hp)]
  split
  · rw [State.port_setDrain, State.port_setPort_same]
  · rw [State.port_setPort_same]

/-- A port stopped by force does not record. -/
theorem State.portOn_stopped {s : State} {p : Nat} (h : (s.port p).stopped = true) : s.portOn p = false := by
  simp [State.portOn, h]

/-! ## The path -/

theorem txpathChangeApply_quiet {p : Nat} {s : State} (hp : p < 24) (ha : s.onAir p = false) :
    txpathChangeApply p s = s.setPort p { s.port p with path := s.fld F.LP_CFG_TXPATH p } := if_pos (by simp [hp, ha])

/-- Settles O6: an equation for each command, and what the judgement of a write keeps (log entry 171). -/
theorem portsAreConfiguredAndDisabled : Obligations.PortsAreConfiguredAndDisabled := by
  refine ⟨fun p who v s hg => next_congr (portCfgWrite_pass hg), fun p who v s => rfl, fun p v s hp hm he => ?refused,
    fun p s hp hd => next_congr (portForcedDisable_line hp hd), fun p s hp => ?neutral,
    fun p s hp ha => next_congr (txpathChangeApply_quiet hp ha)⟩
  case refused => exact State.portCfgStored_refused (by rw [cfgReg_line hp]; exact hm) (.inl he)
  case neutral =>
    have hstop := portForcedDisable_neutral_stops hp s
    exact ⟨portForcedDisable p s, rfl, hstop, State.portOn_stopped hstop⟩

end Sys2Proof.Machine
end

section
/-! O7: receive gain, own transmission, overload and current sensing. -/

namespace Sys2Proof.Machine

open Sys2Proof

/-! ## Gain -/

/-- A gain change is the field and one entry of the gain log (R79; log entry 146). -/
theorem State.setGain_eq (s : State) (p code : Nat) : s.setGain p code = (s.setPortStat p 4 3 code).setRing p
    { s.ring p with gains := (s.ring p).gains ++ [(sampleAfter s.now, code)] } := rfl

theorem agcLower_acts {p : Nat} {s : State} (ha : s.agcActs p = true) (hg : s.gain p ≠ 0) :
    agcLower p s = s.setGain p (s.gain p - 1) := if_pos (by simp [ha, hg])

theorem agcRaise_acts {p : Nat} {s : State} (ha : s.agcActs p = true) (hg : s.gain p < 6) :
    agcRaise p s = s.setGain p (s.gain p + 1) := if_pos (by simp [ha, hg])

theorem agcLower_least {p : Nat} {s : State} (hg : s.gain p = 0) : agcLower p s = s := if_neg (by simp [hg])

theorem agcRaise_greatest {p : Nat} {s : State} (hg : 6 ≤ s.gain p) : agcRaise p s = s := if_neg (by simp [hg])

/-! ## Overload -/

section
variable {p sec : Nat} {s : State} (hp : p < 32) (hsec : sec < s.now.s)
  (hrec : ∀ b, (s.ring p).blocks.getLast? = some b → (sec + 1) * 10 ^ 9 ≤ stampNs b.t0 + 2048000)
include hp hsec hrec

/-- A second that is over and recorded with clipped runs is judged: they go, and more than half a window of them is an overload (R82). -/
theorem overloadWindowEnd_judged (hn : Tab.get (fun _ => 0) (s.port p).runs sec ≠ 0) {s1 : State}
    (h1 : s1 = s.setPort p { s.port p with runs := Tab.set (fun _ => 0) (s.port p).runs sec 0 }) :
    overloadWindowEnd p sec s =
      if runsPerWindow < 2 * Tab.get (fun _ => 0) (s.port p).runs sec then
        ((s1.portEvent .limit p []).countDetectionAt 5 (pagePort p) (portNo p)).queueTest { target := portTarget p, det := 5 }
      else s1 := by
  subst h1
  refine if_pos ?_
  have hguard : (decide (p < 32) && decide (Tab.get (fun _ => 0) (s.port p).runs sec ≠ 0) && decide (sec < s.now.s)) = true := by
    simp [hp, hn, hsec]
  rw [hguard, Bool.true_and]
  split
  · rfl
  · next b hb => rw [decide_eq_true (hrec b hb), Bool.or_true]

theorem overloadWindowEnd_tolerated (hn : Tab.get (fun _ => 0) (s.port p).runs sec ≠ 0)
    (hle : 2 * Tab.get (fun _ => 0) (s.port p).runs sec ≤ runsPerWindow) :
    overloadWindowEnd p sec s = s.setPort p { s.port p with runs := Tab.set (fun _ => 0) (s.port p).runs sec 0 } :=
  (overloadWindowEnd_judged hp hsec hrec hn rfl).trans (if_neg (Nat.not_lt.2 hle))

theorem overloadWindowEnd_overload (hlt : runsPerWindow < 2 * Tab.get (fun _ => 0) (s.port p).runs sec) :
    overloadWindowEnd p sec s =
      (((s.setPort p { s.port p with runs := Tab.set (fun _ => 0) (s.port p).runs sec 0 }).portEvent .limit p []).countDetectionAt 5
        (pagePort p) (portNo p)).queueTest { target := portTarget p, det := 5 } :=
  (overloadWindowEnd_judged hp hsec hrec (by omega) rfl).trans (if_pos hlt)

end

/-! ## Own transmission and current sensing -/

theorem ownTxSuppressEnd_quiet {g : Nat} {s : State} (h : (s.groupPorts g).any s.onAir = false) :
    ownTxSuppressEnd g s = { s with lin := { s.lin with
      ownTx := s.lin.ownTx.filter fun x => x != g
      ownSpans := s.lin.ownSpans.map fun (o : OwnSpan) =>
        if o.fg = g ∧ o.until_ = none then { o with until_ := some (stampNs s.now) } else o } } :=
  if_neg (Bool.eq_false_iff.1 h)

theorem lpIsenseRead_readable {p : Nat} {who : Who} {s : State} (h : s.readable who .LP_ISENSE p = true) (mv : Nat) :
    lpIsenseRead p mv who s =
      ((s.sense p mv).setFld F.LP_ISENSE_PEAK p 0).returns (((s.sense p mv).reg .LP_ISENSE p).setWidth 64) := if_pos h

theorem lpIsenseRead_unreadable {p : Nat} {who : Who} {s : State} (h : s.readable who .LP_ISENSE p = false) (mv : Nat) :
    lpIsenseRead p mv who s = s.returns 0 := if_neg (Bool.eq_false_iff.1 h)

/-- Settles O7: an equation for each command, its guard met or, at the ends of the gain range and for a read refused, not met. -/
theorem gainAndOverload : Obligations.GainAndOverload :=
  ⟨fun p s ha hg => next_congr ((agcLower_acts ha hg).trans (s.setGain_eq p _)),
   fun p s ha hg => next_congr ((agcRaise_acts ha hg).trans (s.setGain_eq p _)),
   fun _ _ hg => next_congr (agcLower_least hg),
   fun _ _ hg => next_congr (agcRaise_greatest hg),
   fun _ _ h => next_congr (ownTxSuppressEnd_quiet h),
   fun _ _ _ hp hsec hn hle hrec => next_congr (overloadWindowEnd_tolerated hp hsec hrec hn hle),
   fun _ _ _ hp hsec hlt hrec => next_congr (overloadWindowEnd_overload hp hsec hrec hlt),
   fun _ mv _ _ h => next_congr (lpIsenseRead_readable h mv),
   fun _ mv _ _ h => next_congr (lpIsenseRead_unreadable h mv)⟩

end Sys2Proof.Machine
end

section
/-! O10: zero-crossing trackers. -/

namespace Sys2Proof.Machine

open Sys2Proof

/-! ## Trackers and their fields -/

theorem State.tracker_setTracker_same (s : State) (g : Nat) (t : Tracker) : (s.setTracker g t).tracker g = t := Tab.get_set_same ..

theorem State.tracker_setFld (s : State) (f : Fld) (i v g : Nat) : (s.setFld f i v).tracker g = s.tracker g := by
  rw [State.tracker, State.setFld_lin, State.tracker]

theorem State.takeRef_of_same {s : State} {g r : Nat} (h : s.zcRef g = r ∨ s.zcRef g = 0) :
    s.takeRef g r = s.setFld F.LP_ZCSTAT_REF g r := if_pos h

theorem State.takeRef_of_other {s : State} {g r : Nat} (h : ¬(s.zcRef g = r ∨ s.zcRef g = 0)) :
    s.takeRef g r = (s.setFld F.LP_ZCSTAT_REF g r).setFld F.LP_ZCSTAT_SWITCHED g 1 := if_neg h

/-- Which reference is in use is in LP_ZCSTAT, not in the tracker. -/
theorem State.tracker_takeRef (s : State) (g r : Nat) : (s.takeRef g r).tracker g = s.tracker g := by
  by_cases h : s.zcRef g = r ∨ s.zcRef g = 0
  · rw [State.takeRef_of_same h, State.tracker_setFld]
  · rw [State.takeRef_of_other h, State.tracker_setFld, State.tracker_setFld]

theorem State.holdover_eq (s : State) (g : Nat) :
    s.holdover g = (((s.setFld F.LP_ZCSTAT_HOLD g 1).setFld F.LP_ZCSTAT_LOST g 1).setFld F.LP_ZCSTAT_LOCK g 0).setTracker g
      { s.tracker g with large := 0, holdSince := s.now } := rfl

/-! ## Lock, holdover and relock -/

theorem trackerLock_first {g mhz phase r : Nat} {valid l : List Nat} {s : State} (hu : s.zcUsable g valid = r :: l)
    (hr : s.zcRuns g = false) :
    trackerLock g valid mhz phase s =
      (((s.setFld F.LP_ZCSTAT_LOCK g 1).setFld F.LP_ZCSTAT_REF g r).setFld F.LP_ZCFREQ_MHZ g mhz).setTracker g
        { noteZero (s.tracker g) (stampNs s.now) (phase % 65536) with everLocked := true, large := 0, slot := slotOf phase } := by
  rw [trackerLock, hu]
  exact if_neg (Bool.eq_false_iff.1 hr)

theorem trackerHoldover_locked {g : Nat} {s : State} (h : s.zcLock g = true) : trackerHoldover g s = s.holdover g := if_pos h

theorem trackerRelock_held {g r : Nat} {valid l : List Nat} {e : Int} {s : State} (hu : s.zcUsable g valid = r :: l)
    (hh : s.zcHold g = true) :
    trackerRelock g valid e s = ((((s.setFld F.LP_ZCSTAT_HOLD g 0).setFld F.LP_ZCSTAT_LOCK g 1).takeRef g r).setTracker g
      (addError (s.tracker g) e)).rescan g 0xFFFF (s.tracker g).holdSince s.now false false := by
  rw [trackerRelock, hu]
  dsimp only
  rw [if_pos hh, State.tracker_takeRef, State.tracker_setFld, State.tracker_setFld]

/-! ## References -/

theorem trackerRefSwitch_other {g r : Nat} {valid l : List Nat} {s : State} (hk : s.zcLock g = true)
    (hu : s.zcUsable g valid = r :: l) (hn : s.zcRef g ∉ r :: l) : trackerRefSwitch g valid s = s.takeRef g r := by
  rw [trackerRefSwitch, hu, if_pos (by simpa [hk] using hn)]

theorem trackerRefSwitch_nobody {g : Nat} {valid : List Nat} {s : State} (hk : s.zcLock g = true) (hu : s.zcUsable g valid = []) :
    trackerRefSwitch g valid s = s.holdover g := by
  rw [trackerRefSwitch, hu, if_pos (by simp [hk])]

/-- A better reference taken again is another one than that in use, so SWITCHED is set (R92). -/
theorem trackerRefReturn_better {g r : Nat} {valid : List Nat} {s : State} (hk : s.zcLock g = true) (h1 : 1 ≤ r) (hr : r < s.zcRef g)
    (hu : r ∈ s.zcUsable g valid) (hbest : r = 1 ∨ 1 ∉ s.zcUsable g valid) :
    trackerRefReturn g r valid s = (s.setFld F.LP_ZCSTAT_REF g r).setFld F.LP_ZCSTAT_SWITCHED g 1 := by
  have hguard : (s.zcLock g && decide (1 ≤ r ∧ r < s.zcRef g) && (s.zcUsable g valid).contains r &&
      (r == 1 || !(s.zcUsable g valid).contains 1)) = true := by
    simpa [hk, h1, hr, hu] using hbest
  exact (if_pos hguard).trans (State.takeRef_of_other (by omega))

/-! ## Slots, phase and offset -/

theorem slotBoundary_next {g : Nat} {s : State} (hr : s.zcRuns g = true) (hs : (s.tracker g).slot < 11) :
    slotBoundary g s = s.setTracker g { s.tracker g with slot := (s.tracker g).slot + 1 } := if_pos (by simp [hr, hs])

theorem zcOfsWrite_unlocked {g : Nat} {who : Who} {v : Word} {s : State} (hg : s.gate who .LP_ZCCFG g = .pass) (hk : s.zcLock g = false) :
    zcOfsWrite g who v s = s.store .LP_ZCCFG g v :=
  (State.gated_pass hg _).trans (if_neg (by simp [hk]))

theorem zcOfsWrite_locked {g : Nat} {who : Who} {v : Word} {s : State} (hg : s.gate who .LP_ZCCFG g = .pass) (hk : s.zcLock g = true)
    (hd : phaseDiff ((s.store .LP_ZCCFG g v).fld F.LP_ZCCFG_OFS g) (s.fld F.LP_ZCCFG_OFS g) ≠ 0) :
    zcOfsWrite g who v s = (s.store .LP_ZCCFG g v).setTracker g
      (addError (s.tracker g) (phaseDiff ((s.store .LP_ZCCFG g v).fld F.LP_ZCCFG_OFS g) (s.fld F.LP_ZCCFG_OFS g))) :=
  (State.gated_pass hg _).trans (if_pos (by simp [hk, hd]))

/-! ## Phase 0 -/

/-- The tracker after a phase-0 instant at time `now` (R89, R91, R99). -/
def countCycle (t : Tracker) (now : Nat) : Tracker :=
  { noteZero t now (startPhase t.step) with
    cyc := (t.cyc + 1) % 2 ^ 40, slot := slotOf (startPhase t.step), slew := slewed t.slew, step := none }

/-- The tracker counted on, a step shown in STEPPED. -/
def State.cycleBegun (s : State) (g : Nat) : State :=
  let s1 := s.setTracker g (countCycle (s.tracker g) (stampNs s.now))
  if (s.tracker g).step.isSome then s1.setFld F.LP_ZCSTAT_STEPPED g 1 else s1

/-- The instant stamped by Compass as well (R446). -/
def State.cycleStamped (s : State) (g : Nat) : State :=
  { s.cycleBegun g with cmp := { s.cmp with zct := Tab.set (fun _ => {}) s.cmp.zct g s.now } }

/-- The measured frequency and reference phases stored. -/
def State.noteMains (s : State) (g : Nat) (mhz : Option Nat) (refs : Option (Nat × Nat)) : State :=
  let s1 := match mhz with
    | none => s
    | some f => s.setFld F.LP_ZCFREQ_MHZ g f
  match refs with
  | none => s1
  | some r => (s1.setFld F.LP_ZCREF_L2 g r.1).setFld F.LP_ZCREF_L3 g r.2

/-- A measured phase error checked, where there is one. -/
def State.checkErrorOf (s : State) (g : Nat) : Option Int → State
  | none => s
  | some e => s.checkError g e

theorem State.cycleBegun_cmp (s : State) (g : Nat) : (s.cycleBegun g).cmp = s.cmp := by
  unfold State.cycleBegun
  split
  · rfl
  · rfl

theorem phaseZero_runs {g : Nat} {s : State} (hr : s.zcRuns g = true) (e : Option Int) (f : Option Nat) (l : Option (Nat × Nat)) :
    phaseZero g e f l s =
      if (s.cycleStamped g).zcLock g then ((s.cycleStamped g).noteMains g f l).checkErrorOf g e else s.cycleStamped g := by
  have hstamp : s.cycleStamped g = { s.cycleBegun g with
      cmp := { (s.cycleBegun g).cmp with zct := Tab.set (fun _ => {}) (s.cycleBegun g).cmp.zct g (s.cycleBegun g).now } } := by
    rw [State.now, State.cycleBegun_cmp]
    rfl
  rw [hstamp]
  exact if_pos hr

theorem State.cycleStamped_tracker (s : State) (g : Nat) :
    (s.cycleStamped g).tracker g = countCycle (s.tracker g) (stampNs s.now) := by
  have hbegun : (s.cycleBegun g).tracker g = countCycle (s.tracker g) (stampNs s.now) := by
    unfold State.cycleBegun
    split
    · rw [State.tracker_setFld, State.tracker_setTracker_same]
    · rw [State.tracker_setTracker_same]
  exact hbegun

/-- STEPPED is another bit than LOCK. -/
theorem State.cycleStamped_zcLock (s : State) (g : Nat) : (s.cycleStamped g).zcLock g = s.zcLock g := by
  have hbegun : (s.cycleBegun g).fld F.LP_ZCSTAT_LOCK g = s.fld F.LP_ZCSTAT_LOCK g := by
    unfold State.cycleBegun
    split
    · exact State.fld_setFld_ne _ _ _ _ _ _ (by decide) (.inr (by decide))
    · rfl
  exact congrArg (· != 0) hbegun

/-- In `u` Compass and the count, slot and step of a tracker are those of `s`. -/
structure State.SameCycle (s : State) (g : Nat) (u : State) : Prop where
  cmp : u.cmp = s.cmp
  cyc : (u.tracker g).cyc = (s.tracker g).cyc
  slot : (u.tracker g).slot = (s.tracker g).slot
  step : (u.tracker g).step = (s.tracker g).step

theorem State.SameCycle.refl (s : State) (g : Nat) : s.SameCycle g s := ⟨rfl, rfl, rfl, rfl⟩

theorem State.SameCycle.trans {s u v : State} {g : Nat} (h : s.SameCycle g u) (k : u.SameCycle g v) : s.SameCycle g v :=
  ⟨k.cmp.trans h.cmp, k.cyc.trans h.cyc, k.slot.trans h.slot, k.step.trans h.step⟩

theorem State.SameCycle.setFld {s u : State} {g : Nat} (h : s.SameCycle g u) (f : Fld) (i v : Nat) : s.SameCycle g (u.setFld f i v) :=
  ⟨h.cmp, h.cyc, h.slot, h.step⟩

theorem State.SameCycle.setTracker {s u : State} {g : Nat} {t : Tracker} (h : s.SameCycle g u) (hcyc : t.cyc = (s.tracker g).cyc)
    (hslot : t.slot = (s.tracker g).slot) (hstep : t.step = (s.tracker g).step) : s.SameCycle g (u.setTracker g t) := by
  refine ⟨h.cmp, ?_, ?_, ?_⟩ <;> rw [State.tracker_setTracker_same] <;> assumption

theorem State.holdover_sameCycle (s : State) (g : Nat) : s.SameCycle g (s.holdover g) := by
  rw [State.holdover_eq]
  exact ((((State.SameCycle.refl s g).setFld ..).setFld ..).setFld ..).setTracker rfl rfl rfl

theorem State.noteMains_sameCycle (s : State) (g : Nat) (f : Option Nat) (l : Option (Nat × Nat)) : s.SameCycle g (s.noteMains g f l) := by
  have hf : s.SameCycle g (s.noteMains g f none) := by
    cases f with
    | none => exact .refl s g
    | some n => exact (State.SameCycle.refl s g).setFld ..
  cases l with
  | none => exact hf
  | some r => exact (hf.setFld ..).setFld ..

/-- A check of the phase error sets what is to be slewed out, the count of large errors or holdover; it neither counts nor steps (R555). -/
theorem State.checkErrorOf_sameCycle (s : State) (g : Nat) (e : Option Int) : s.SameCycle g (s.checkErrorOf g e) := by
  cases e with
  | none => exact .refl s g
  | some e =>
    rw [State.checkErrorOf, State.checkError]
    split
    · split
      · exact s.holdover_sameCycle g
      · exact (State.SameCycle.refl s g).setTracker rfl rfl rfl
    · exact (State.SameCycle.refl s g).setTracker rfl rfl rfl

/-- Whatever a phase-0 instant carries, its cycle is the one begun and stamped. -/
theorem phaseZero_sameCycle {g : Nat} {s : State} (hr : s.zcRuns g = true) (e : Option Int) (f : Option Nat) (l : Option (Nat × Nat)) :
    (s.cycleStamped g).SameCycle g (phaseZero g e f l s) := by
  rw [phaseZero_runs hr]
  split
  · exact (State.noteMains_sameCycle ..).trans (State.checkErrorOf_sameCycle ..)
  · exact .refl _ g

theorem phaseZero_unlocked {g : Nat} {s : State} (hr : s.zcRuns g = true) (hk : s.zcLock g = false) (e : Option Int) (f : Option Nat)
    (l : Option (Nat × Nat)) : phaseZero g e f l s = s.cycleStamped g := by
  rw [phaseZero_runs hr, State.cycleStamped_zcLock, hk]
  exact if_neg Bool.false_ne_true

/-- Settles O10: an equation for each command, and what a phase-0 instant does whatever it carries (LOCK cleared in holdover: log entry 36;
the slot a step leads into: log entry 174; OFS out of lock: log entry 175). -/
theorem trackersLockCountAndHold : Obligations.TrackersLockCountAndHold := by
  refine ⟨fun g mhz phase r valid l s hu hr => next_congr (trackerLock_first hu hr), fun g e f l s hr => ?counts,
    fun g s hr hk => next_congr (phaseZero_unlocked hr hk none none none),
    fun g s hr hs => next_congr (slotBoundary_next hr hs),
    fun g s hk => next_congr ((trackerHoldover_locked hk).trans (s.holdover_eq g)),
    fun g r valid l e s hu hh => next_congr (trackerRelock_held hu hh),
    fun g r valid l s hk hu hn => next_congr (trackerRefSwitch_other hk hu hn), fun _ _ _ => rfl,
    fun g valid s hk hu => next_congr ((trackerRefSwitch_nobody hk hu).trans (trackerHoldover_locked hk).symm),
    fun g r valid s hk h1 hr hu hbest => next_congr (trackerRefReturn_better hk h1 hr hu hbest),
    fun g ofs who s h => next_congr (if_pos h),
    fun g who v s hg hk => next_congr (zcOfsWrite_unlocked hg hk),
    fun g who v s hg hk hd => next_congr (zcOfsWrite_locked hg hk hd)⟩
  case counts =>
    have h := phaseZero_sameCycle hr e f l
    have hzct : Tab.get (fun _ => {}) (s.cycleStamped g).cmp.zct g = s.now := Tab.get_set_same ..
    exact ⟨phaseZero g e f l s, rfl, h.cyc.trans (by rw [s.cycleStamped_tracker]; rfl), h.slot.trans (by rw [s.cycleStamped_tracker]; rfl),
      h.step.trans (by rw [s.cycleStamped_tracker]; rfl), by rw [h.cmp, hzct], by rw [h.cmp, State.cycleStamped],
      by rw [h.cmp, State.cycleStamped]⟩

end Sys2Proof.Machine
end

section
/-! O13: the outcome and the end of a reception. -/

namespace Sys2Proof.Machine

open Sys2Proof

/-! ## The outcome of a frame as read -/

theorem State.outcome_gone {s : State} {r : Recep} (h : s.retained r.fg r.start = false) (x : RxFrame × Option Int) :
    s.outcome r x = (.lookbackExpired, none) := if_pos h

/-- Samples still retained, a frame without predicted header is judged by its header first (R137). -/
theorem State.outcome_read {s : State} {r : Recep} (h : s.retained r.fg r.start = true) (f : RxFrame) :
    s.outcome r (f, none) = match s.header r f with
      | .fails => (.headerFail, none)
      | .lacks id => (.headerFail, some (some id))
      | .passes => if f.stream then (.ok, none) else s.bodyOutcome r f :=
  (if_neg (by simp [h])).trans (if_neg Bool.false_ne_true)

theorem State.outcome_headerFails {s : State} {r : Recep} {f : RxFrame} (h : s.retained r.fg r.start = true) (hf : s.header r f = .fails) :
    s.outcome r (f, none) = (.headerFail, none) := by rw [State.outcome_read h, hf]

theorem State.outcome_headerLacks {s : State} {r : Recep} {f : RxFrame} {m : Nat} (h : s.retained r.fg r.start = true)
    (hf : s.header r f = .lacks m) : s.outcome r (f, none) = (.headerFail, some (some m)) := by rw [State.outcome_read h, hf]

/-! ## RECEPTION_END -/

section
variable {id : Nat} {f : RxFrame} {r : Recep} {s : State} (hr : s.recep id = some r) (hw : r.wait = .none)
include hr hw

theorem receptionEnd_native (hstd : r.std = false) : receptionEnd id f s = (
    let x := s.readFrame r f
    let o := s.outcome r x
    let fin := if o.1 = .headerFail ∨ o.1 = .lookbackExpired then stampNs r.start + headerNs r.fg else rxEnd r x.1
    if o.1 ≠ .lookbackExpired ∧ s.written r.fg < fin then s.setRecep { r with wait := .ring, need := fin }
    else s.drew.endNative { r with need := fin, eps := x.2.getD ((s.acquire r.fg f.ppm f.snr).elim 0 Prod.fst) } x.1 o) := by
  rw [receptionEnd, hr]
  dsimp only
  rw [if_neg (not_not_intro hw), if_neg (by simp [hstd])]

theorem receptionEnd_std (hstd : r.std = true) : receptionEnd id f s =
    (if s.stdOutcome r f = .ok then s.stdAccept r f else s).endRecep r (s.stdOutcome r f) (s.lateFound r (stampNs f.fin)) f.src f.seq := by
  rw [receptionEnd, hr]
  dsimp only
  rw [if_neg (not_not_intro hw), if_pos hstd]

theorem receptionEnd_stdAccepted (hstd : r.std = true) (ho : s.stdOutcome r f = .ok) :
    receptionEnd id f s = (s.stdAccept r f).endRecep r .ok (s.lateFound r (stampNs f.fin)) f.src f.seq := by
  rw [receptionEnd_std hr hw hstd, if_pos ho, ho]

theorem receptionEnd_stdFailed (hstd : r.std = true) (ho : s.stdOutcome r f ≠ .ok) :
    receptionEnd id f s = s.endRecep r (s.stdOutcome r f) (s.lateFound r (stampNs f.fin)) f.src f.seq := by
  rw [receptionEnd_std hr hw hstd, if_neg ho]

end

/-! ## CHECKPOINT_WAIT_RESUME -/

section
variable {id : Nat} {f : RxFrame} {r : Recep} {s : State} (hr : s.recep id = some r) (hw : r.wait = .checkpoint f)
include hr hw

theorem checkpointWaitResume_nodeGone (hn : s.node (sourceOf f) = none) :
    checkpointWaitResume id s = s.endRecep r .abandoned false (sourceOf f) f.seq := by
  rw [checkpointWaitResume, hr]
  dsimp only
  rw [hw]
  dsimp only
  rw [hn]

theorem checkpointWaitResume_landed {n : Node} (hn : s.node (sourceOf f) = some n) (hck : n.seq.ckRx = false) :
    checkpointWaitResume id s = s.endOk { r with wait := .none } f (s.lateFound r r.need) := by
  rw [checkpointWaitResume, hr]
  dsimp only
  rw [hw]
  dsimp only
  rw [hn]
  exact if_neg (Bool.eq_false_iff.1 hck)

end

/-- Settles O13: an equation for each outcome and each end; what an outcome does at the end of a native reception is read off
`State.endNative`, branch by branch (line links: log entry 189; standard modes: log entry 49). -/
theorem receptionsEndWithTheirOutcome : Obligations.ReceptionsEndWithTheirOutcome := by
  refine ⟨fun id f r s hr hw hstd => next_congr (receptionEnd_native hr hw hstd),
    fun r x s h => State.outcome_gone h x,
    fun r f s h hf => State.outcome_headerFails h hf,
    fun r f m s h hf => State.outcome_headerLacks h hf,
    fun _ _ _ => rfl, fun _ _ _ => rfl, fun _ _ _ _ => rfl, fun _ _ _ => rfl, fun _ _ _ => rfl, fun _ _ _ => rfl,
    fun id f r s hr hw hstd ho => next_congr (receptionEnd_stdAccepted hr hw hstd ho),
    fun id f r s hr hw hstd ho => next_congr (receptionEnd_stdFailed hr hw hstd ho),
    fun id f r s hr hw hn => next_congr (checkpointWaitResume_nodeGone hr hw hn),
    fun id f r n s hr hw hn hck => next_congr (checkpointWaitResume_landed hr hw hn hck)⟩

end Sys2Proof.Machine
end

section
/-! O49: the calls of the transform, coding and cipher units and the output they end with. -/

namespace Sys2Proof.Machine

open Sys2Proof

/-! ## Serving a call -/

theorem State.onCall_found {s : State} {id unit op : Nat} {c : Call} (h : s.callFor id unit op = some c) (f : State → Call → State) :
    s.onCall id unit op f = f (s.callTags c) c := by rw [State.onCall, h]

theorem State.callFor_unknown {s : State} {id : Nat} (h : s.prog.calls.find? (fun c => c.id == id) = none) (unit op : Nat) :
    s.callFor id unit op = none := by
  rw [List.find?_eq_none] at h
  refine List.find?_eq_none.2 fun c hc => ?_
  simp [Bool.eq_false_iff.2 (h c hc)]

theorem State.onCall_unknown {s : State} {id : Nat} (h : s.prog.calls.find? (fun c => c.id == id) = none) (unit op : Nat)
    (f : State → Call → State) : s.onCall id unit op f = s := by rw [State.onCall, State.callFor_unknown h]

/-! ## The end of a call -/

theorem State.calls_setSr (s : State) (k n : Nat) (v : DWord) : (s.setSr k n v).prog.calls = s.prog.calls := by
  unfold State.setSr
  split <;> rfl

theorem State.calls_takeTicket (s : State) (k d n st : Nat) : (s.takeTicket k d n st).prog.calls = s.prog.calls := State.calls_setSr ..

theorem State.calls_checkFence (s : State) (k : Nat) : (s.checkFence k).prog.calls = s.prog.calls := by
  unfold State.checkFence
  split
  · split <;> rfl
  · rfl

/-- Of the calls, the end of one takes away those of its number. -/
theorem State.calls_endCall (s : State) (c : Call) (st : Status) :
    (s.endCall c st).prog.calls = (s.landCall c).prog.calls.filter fun d => d.id != c.id := by
  unfold State.endCall
  dsimp only
  split
  · rfl
  · split
    · split
      · exact State.calls_takeTicket ..
      · rfl
    · exact State.calls_checkFence ..

theorem State.ne_id_of_mem_endCall {s : State} {c : Call} {st : Status} {x : Call} (h : x ∈ (s.endCall c st).prog.calls) : x.id ≠ c.id := by
  rw [State.calls_endCall] at h
  simpa using (List.mem_filter.1 h).2

theorem State.endCallWith_kept {s : State} {c : Call} (hd : c.discard = false) (st : Status) (out : List Byte) :
    s.endCallWith c st out = if c.desc.outLen < out.length then s.endCall c .denied
      else (s.setBytes (s.objOf c.place c.desc.outH) c.desc.outOfs out).endCall c st := if_neg (Bool.eq_false_iff.1 hd)

/-! ## Cipher calls -/

section
variable {s : State} {c : Call} {keyLen aad n tail len : Nat} {dec : Bool} {all : List Byte}
  {g : List Byte → List Byte → List Byte → List Byte → Option (List Byte)}
  (hd : c.discard = false) (hall : all = s.callInput c) (htail : tail = if dec then n else 0)
include hd hall htail

theorem State.runCry_short (h : all.length < aad + tail) : s.runCry c keyLen aad n dec g = s.endCall c .denied := by
  subst hall htail
  exact (if_neg (Bool.eq_false_iff.1 hd)).trans (if_pos h)

variable (hlen : len = all.length - aad - tail) (h : aad + tail ≤ all.length)
include hlen h

/-- Where the input holds AAD and tag, the key decides: unreadable, not unwrapped, or there (R369; log entry 149). -/
theorem State.runCry_long : s.runCry c keyLen aad n dec g = match s.callKey c keyLen with
    | none => s.endCall c .denied
    | some none => if s.missWaits c.inst none then s
      else s.endCallWith c .authFail (List.replicate (if dec then len else len + n) 0)
    | some (some key) => if s.missWaits c.inst (some key) then s
      else match g key (all.take aad) ((all.drop aad).take len) ((all.drop aad).drop len) with
        | some out => (s.cacheKey c.inst key).endCallWith c .ok (out.take (if dec then len else len + n) ++
            (List.replicate (if dec then len else len + n) (0 : Byte)).drop out.length)
        | none => (s.cacheKey c.inst key).endCallWith c .authFail (List.replicate (if dec then len else len + n) 0) := by
  subst hall htail hlen
  exact (if_neg (Bool.eq_false_iff.1 hd)).trans (if_neg (Nat.not_lt.2 h))

theorem State.runCry_keyDenied (hk : s.callKey c keyLen = none) : s.runCry c keyLen aad n dec g = s.endCall c .denied := by
  rw [State.runCry_long hd hall htail hlen h, hk]

theorem State.runCry_waits {k : Option (List Byte)} (hk : s.callKey c keyLen = some k) (hm : s.missWaits c.inst k = true) :
    s.runCry c keyLen aad n dec g = s := by
  rw [State.runCry_long hd hall htail hlen h, hk]
  cases k with
  | none => exact if_pos hm
  | some key => exact if_pos hm

theorem State.runCry_keyFails (hk : s.callKey c keyLen = some none) (hm : s.missWaits c.inst none = false) :
    s.runCry c keyLen aad n dec g = s.endCallWith c .authFail (List.replicate (if dec then len else len + n) 0) := by
  rw [State.runCry_long hd hall htail hlen h, hk]
  exact if_neg (Bool.eq_false_iff.1 hm)

theorem State.runCry_keyed {key : List Byte} (hk : s.callKey c keyLen = some (some key)) (hm : s.missWaits c.inst (some key) = false) :
    s.runCry c keyLen aad n dec g = match g key (all.take aad) ((all.drop aad).take len) ((all.drop aad).drop len) with
      | some out => (s.cacheKey c.inst key).endCallWith c .ok (out.take (if dec then len else len + n) ++
          (List.replicate (if dec then len else len + n) (0 : Byte)).drop out.length)
      | none => (s.cacheKey c.inst key).endCallWith c .authFail (List.replicate (if dec then len else len + n) 0) := by
  rw [State.runCry_long hd hall htail hlen h, hk]
  exact if_neg (Bool.eq_false_iff.1 hm)

end

/-- Settles O49: a call served is its operation on the state with its tags drawn; each judgement of the lengths and of the key is then
one branch (the unwrapping key and too short an input: log entry 149; the wrapped key of 24 bytes: log entry 139). -/
theorem callsEndWithTheirOutput : Obligations.CallsEndWithTheirOutput := by
  refine ⟨fun id n cnt inv c s u i hi hc hu hn hcnt => ?transform, fun id rate ncw c s u hu hrate hncw => ?ldpc,
    fun id len c s u hu hlen => ?convolutional, fun id n m b c s u hu hn hm hb => ?reedSolomon,
    fun id aad n tail len keyLen dec c s u i all g hi hc hu hd hall htail hlen => ?cipher, fun id s h => ?unknown,
    fun c st out s => ?output⟩
  case transform =>
    have hrun : exec i s = .next (runFft inv u c) := by
      subst hi hu
      cases inv with
      | false => exact next_congr (State.onCall_found hc _)
      | true => exact next_congr (State.onCall_found hc _)
    subst hn hcnt
    exact ⟨fun h => hrun.trans (next_congr (if_pos h)), fun hin hout => hrun.trans (next_congr (if_neg (by omega)))⟩
  case ldpc =>
    subst hu hrate hncw
    refine ⟨fun hc => ⟨fun h => ?_, fun r hin hout hr => ?_⟩, fun hc hin hout => ?_⟩
    · exact next_congr ((State.onCall_found hc _).trans (if_pos h))
    · subst hr
      exact next_congr ((State.onCall_found hc _).trans (if_neg (by omega)))
    · exact next_congr ((State.onCall_found hc _).trans (if_neg (by omega)))
  case convolutional =>
    subst hu hlen
    refine ⟨fun hc hin => ?_, fun hc hin hp => ?_, fun hc hin => ?_⟩
    · exact next_congr ((State.onCall_found hc _).trans (if_neg (by omega)))
    · refine next_congr ((State.onCall_found hc _).trans ((if_neg (by omega)).trans ?_))
      dsimp only
      rw [if_pos hp]
    · exact next_congr ((State.onCall_found hc _).trans (if_pos hin))
  case reedSolomon =>
    subst hu hn hm hb
    exact ⟨fun hc hin hout => next_congr ((State.onCall_found hc _).trans (if_neg (by omega))),
      fun hc hin hout => next_congr ((State.onCall_found hc _).trans (if_neg (by omega)))⟩
  case cipher =>
    have hrun : exec i s = .next (u.runCry c keyLen aad n dec g) := by
      subst hu
      rcases hi with ⟨rfl, hop, rfl, rfl, rfl, rfl, rfl⟩ | ⟨rfl, hop, rfl, rfl, rfl, rfl, rfl⟩ | ⟨rfl, hop, rfl, rfl, rfl, rfl, rfl⟩ |
        ⟨rfl, hop, rfl, rfl, rfl, rfl, rfl⟩ <;> exact next_congr (State.onCall_found (hop ▸ hc) _)
    rw [hrun]
    exact ⟨fun h => next_congr (State.runCry_short hd hall htail h), fun h =>
      ⟨fun hk => next_congr (State.runCry_keyDenied hd hall htail hlen h hk),
        fun k hk hm => next_congr (State.runCry_waits hd hall htail hlen h hk hm),
        fun hk hm => next_congr (State.runCry_keyFails hd hall htail hlen h hk hm),
        fun key hk hm => next_congr (State.runCry_keyed hd hall htail hlen h hk hm)⟩⟩
  case unknown =>
    exact ⟨next_congr (State.onCall_unknown h ..), next_congr (State.onCall_unknown h ..), next_congr (State.onCall_unknown h ..),
      next_congr (State.onCall_unknown h ..), next_congr (State.onCall_unknown h ..), next_congr (State.onCall_unknown h ..)⟩
  case output =>
    exact ⟨fun hd => if_pos hd, fun hd hlong => (State.endCallWith_kept hd st out).trans (if_pos hlong),
      fun hd hfits => (State.endCallWith_kept hd st out).trans (if_neg (Nat.not_lt.2 hfits)), fun _ => State.ne_id_of_mem_endCall⟩

end Sys2Proof.Machine
end

section
/-! O12: rescans, the expiry of HARQ buffers and the oldest sample. -/

namespace Sys2Proof.Machine

open Sys2Proof

/-! ## The stored form of MDM_RESCAN -/

/-- BACK_S as it is stored: 0 counts as 1, what is above 60 as 60 (R163). -/
theorem rescanForm_backS (w : Word) :
    getBits (rescanForm w) 16 6 = if getBits w 16 6 = 0 then 1 else if 60 < getBits w 16 6 then 60 else getBits w 16 6 := by
  rw [rescanForm, getBits_putBits _ _ _ _ (by decide)]
  split_ifs
  · rfl
  · rfl
  · exact Nat.mod_eq_of_lt (getBits_lt ..)

theorem rescanForm_go (w : Word) : getBits (rescanForm w) 31 1 = 0 := by
  rw [rescanForm, getBits_putBits_ne _ _ _ _ _ _ (by decide) (by decide), getBits_putBits _ _ _ _ (by decide), Nat.zero_mod]

theorem rescanForm_backS_bounds (w : Word) : 1 ≤ getBits (rescanForm w) 16 6 ∧ getBits (rescanForm w) 16 6 ≤ 60 := by
  rw [rescanForm_backS]
  split_ifs <;> omega

/-! ## Rescans -/

theorem State.now_setReg (s : State) (r : Reg) (i : Nat) (w : Word) : (s.setReg r i w).now = s.now := rfl

/-- A write that is let pass stores the judged word and starts the host's rescan up to now (R163). -/
theorem mdmRescanGo_pass {who : Who} {v : Word} {s s1 : State} (hg : s.gate who .MDM_RESCAN 0 = .pass)
    (h1 : s1 = s.setReg .MDM_RESCAN 0 (rescanForm (plainWrite .MDM_RESCAN (s.reg .MDM_RESCAN 0) v))) :
    mdmRescanGo who v s =
      s1.rescan (s1.fld F.MDM_RESCAN_FG 0) (s1.fld F.MDM_RESCAN_SRC 0) (stampBack s.now (s1.fld F.MDM_RESCAN_BACK_S 0)) s.now false true := by
  have hnow : s1.now = s.now := by rw [h1, State.now_setReg]
  rw [mdmRescanGo, State.gated_pass hg, ← hnow, h1]

section
variable {id : Nat} {r : Rescan} {s : State} (hr : s.rx.rescans.find? (fun x => x.id == id) = some r)
include hr

theorem rescanStart_oldest (hfew : s.rescansRunning r.fg < 4)
    (hfirst : (s.rx.rescans.find? fun x => x.fg == r.fg && !x.running).map Rescan.id = some id) (hh : s.rx.hostRescan ≠ some id) :
    rescanStart id s =
      { s with rx := { s.rx with rescans := s.rx.rescans.map fun x => if x.id = id then { x with running := true } else x } } := by
  rw [rescanStart, hr]
  dsimp only
  rw [if_pos ⟨hfew, hfirst⟩, if_neg hh]

/-- A running rescan that ends: taken away and its record posted (R166). -/
theorem rescanEnd_running (hrun : r.running = true) (short : Bool) : rescanEnd id short s = (
    let expired := short && !s.retained r.fg r.t0
    let t := ({ s with rx := { s.rx with rescans := s.rx.rescans.filter fun x => x.id != id } } : State).event
      (if expired then .lookbackExpired else .ok) pageRing
      [(4, r.fg), (4, r.found), (4, (if expired then s.oldestSample else r.t0).s), (4, r.t1.s)]
    if s.rx.hostRescan = some id then
      ((t.setFld F.MDM_RESCAN_STAT_STATE 0 3).setFld F.MDM_RESCAN_STAT_FOUND 0 (min r.found 65535)).setFld
        F.MDM_RESCAN_STAT_EXPIRED 0 (if expired then 1 else 0)
    else t) := by
  rw [rescanEnd, hr]
  exact if_pos hrun

theorem rescanEnd_internal (hrun : r.running = true) (short : Bool) (hh : s.rx.hostRescan ≠ some id) :
    rescanEnd id short s = ({ s with rx := { s.rx with rescans := s.rx.rescans.filter fun x => x.id != id } } : State).event
      (if short && !s.retained r.fg r.t0 then .lookbackExpired else .ok) pageRing
      [(4, r.fg), (4, r.found), (4, (if short && !s.retained r.fg r.t0 then s.oldestSample else r.t0).s), (4, r.t1.s)] :=
  (rescanEnd_running hr hrun short).trans (if_neg hh)

end

/-- The three fields of MDM_RESCAN_STAT written one after another each read back: none shares a bit with another. -/
theorem State.rescanStat_written (s : State) (v n e : Nat) {t : State}
    (ht : t = ((s.setFld F.MDM_RESCAN_STAT_STATE 0 v).setFld F.MDM_RESCAN_STAT_FOUND 0 n).setFld F.MDM_RESCAN_STAT_EXPIRED 0 e) :
    t.fld F.MDM_RESCAN_STAT_STATE 0 = v % 4 ∧ t.fld F.MDM_RESCAN_STAT_FOUND 0 = n % 65536 ∧ t.fld F.MDM_RESCAN_STAT_EXPIRED 0 = e % 2 := by
  subst ht
  refine ⟨?state, ?found, State.fld_setFld_same _ _ _ _ (by decide)⟩
  case state =>
    exact (State.fld_setFld_ne _ _ _ _ _ _ (by decide) (by decide)).trans
      ((State.fld_setFld_ne _ _ _ _ _ _ (by decide) (by decide)).trans (State.fld_setFld_same _ _ _ _ (by decide)))
  case found =>
    exact (State.fld_setFld_ne _ _ _ _ _ _ (by decide) (by decide)).trans (State.fld_setFld_same _ _ _ _ (by decide))

/-! ## HARQ buffers and the oldest sample -/

theorem harqBufferExpire_due {src harq : Nat} {h : Harq} {s : State} (hh : Tab.get (fun _ => none) s.rx.harq (src * 16 + harq) = some h)
    (hdue : stampNs h.first + 30000000000 ≤ stampNs s.now) :
    harqBufferExpire src harq s =
      { s with rx := { s.rx with harq := Tab.set (fun _ => none) s.rx.harq (src * 16 + harq) none } } := by
  rw [harqBufferExpire, hh]
  exact if_pos hdue

/-- Settles O12: an equation for each command, its guard met; the three status fields of the host's rescan lie apart (order and
widths of the record's DATA: log entry 47). -/
theorem rescansRunAndReport : Obligations.RescansRunAndReport := by
  refine ⟨fun fg src t0 t1 b s h => next_congr (if_pos h), fun who v s hg => next_congr (mdmRescanGo_pass hg rfl),
    fun v => ⟨(rescanForm_backS_bounds v).1, (rescanForm_backS_bounds v).2, rescanForm_go v⟩,
    fun id r s hr hfew hfirst hh => next_congr (rescanStart_oldest hr hfew hfirst hh),
    fun id short r s hr hrun hh => next_congr (rescanEnd_internal hr hrun short hh), fun id short r s hr hrun hh => ?host,
    fun src harq h s hh hdue => next_congr (harqBufferExpire_due hh hdue), fun who s h => next_congr (if_pos h)⟩
  case host =>
    refine ⟨_, next_congr ((rescanEnd_running hr hrun short).trans (if_pos hh)), ?_⟩
    obtain ⟨hstate, hfound, hexpired⟩ := State.rescanStat_written _ _ _ _ rfl
    refine ⟨hstate, hfound.trans (Nat.mod_eq_of_lt (by omega)), hexpired.trans ?_, fun x hx => ?_⟩
    · split <;> rfl
    · simpa using (List.mem_filter.1 hx).2

end Sys2Proof.Machine
end

section
/-! O20: nodes that sleep, check in, are woken, hold grants and are routed. -/

namespace Sys2Proof.Machine

open Sys2Proof

/-! ## Rendezvous -/

/-- A node with a wake address keeps it (R265, R266). -/
theorem rendezvousReq_scheduled {a drift px qx : Nat} {n : Node} {x y : Sched} {s : State} (hn : s.node a = some n) (ha : isAssociated n = true)
    (hx : pickSched (s.schedsTaken n.fg a) (min px 8) (Config.freeNat s.free) (Config.freeNat (s.free + 1)) (2 ^ min px 8) = some x)
    (hy : pickSched (s.schedsTaken n.fg a) (min qx 8) (Config.freeNat (s.free + 2)) (Config.freeNat (s.free + 3)) (2 ^ min qx 8) = some y)
    (hw : n.waddr ≠ 0) {r : Rdv}
    (hr : r = { pexp := min px 8, phase := x.2.1, sidx := x.2.2, outPexp := min qx 8, outPhase := y.2.1, outSidx := y.2.2 }) :
    rendezvousReq a drift px qx s = (({ s with free := s.free + 5 } : State).setNode a (some { n with drift := drift, rdv := some r })).sendSet a
      { n with drift := drift, rdv := some r } r := by
  subst hr
  rw [rendezvousReq, hn]
  dsimp only
  rw [if_pos ha, hx]
  dsimp only
  rw [hy]
  dsimp only
  rw [if_neg hw]

/-! ## Check-ins -/

theorem checkin_associated {a : Nat} {line : Stamp} {zc : Int} {mains : Bool} {n : Node} {s : State} (hn : s.node a = some n)
    (ha : isAssociated n = true) : checkin a line zc mains s = (s.heardOk a n.fg line none).checkinNoted a zc mains := by
  rw [checkin, hn]
  exact if_pos ha

/-- WAKE_ANNOUNCE is a check-in, answered with the timing (R271; log entry 67). -/
theorem wakeAnnounce_associated {a : Nat} {s : State} (ha : s.associated a = true) (line : Stamp) (zc : Int) (mains : Bool) :
    wakeAnnounce a line zc mains s = (checkin a line zc mains s).sendTo a .wakeTiming false .none := if_pos ha

section
variable {a : Nat} {n : Node} {s : State} (hn : s.node a = some n) (ho : n.owed = true) (ha : n.state = .active)
include hn ho ha

/-- A scheduled check-in of an active node that passes unmet (R272). -/
theorem checkinMissed_owed : checkinMissed a s = if 2 ≤ n.miss then s.makeAbsent a n else (
    let n1 := { n with miss := n.miss + 1, owed := false }
    if nodeSleepy n then (s.setNode a (some n1)).sendWake a n1 else s.setNode a (some n1)) := by
  rw [checkinMissed, hn]
  dsimp only
  rw [if_neg (by simp [ho]), if_pos ha]

theorem checkinMissed_third (hm : 2 ≤ n.miss) : checkinMissed a s = s.makeAbsent a n :=
  (checkinMissed_owed hn ho ha).trans (if_pos hm)

theorem checkinMissed_counted (hm : n.miss < 2) (hs : nodeSleepy n = false) :
    checkinMissed a s = s.setNode a (some { n with miss := n.miss + 1, owed := false }) :=
  (checkinMissed_owed hn ho ha).trans ((if_neg (by omega)).trans (if_neg (Bool.eq_false_iff.1 hs)))

end

/-! ## Absence -/

theorem absentWakeRepeat_due {a : Nat} {n : Node} {s : State} (hn : s.node a = some n) (ha : n.state = .absent) (h16 : n.absentFor % 16 = 0)
    (hw : n.absentFor ≠ n.woken) : absentWakeRepeat a s = (s.setNode a (some { n with woken := n.absentFor })).sendWake a n := by
  rw [absentWakeRepeat, hn]
  exact if_pos ⟨ha, h16, hw⟩

theorem absentRelease_due {a : Nat} {n : Node} {s : State} (hn : s.node a = some n) (ha : n.state = .absent)
    (hr : s.fld F.MAC_CHKCFG_ABSENT_REL 0 ≠ 0) (hd : s.fld F.MAC_CHKCFG_ABSENT_REL 0 ≤ n.absentFor) :
    absentRelease a s = s.releaseAddr a true := by
  rw [absentRelease, hn]
  exact if_pos ⟨ha, hr, hd⟩

/-! ## Wake patterns -/

theorem wakePatternDetect_addressed {p : Nat} {chips : BitVec 32} {w : BitVec 16} {s : State} (hm : s.pwr.mode = .serve) (hp : p < 24)
    (hon : s.portOn p = true) (h1 : 1 ≤ s.portRole p) (h3 : s.portRole p ≤ 3) (hw : wakeAddrOf chips = some w)
    (ha : w.toNat = 0xFFFF ∨ w.toNat = s.fld F.MAC_WAKEADDR_ADDR 0) :
    wakePatternDetect p chips s = s.event .ok (pagePort p) [(4, portNo p)] := by
  have hlistens : ((s.pwr.mode == .serve || s.pwr.mode == .surge || s.pwr.mode == .ember) && decide (p < 24) && s.portOn p &&
      decide (1 ≤ s.portRole p ∧ s.portRole p ≤ 3)) = true := by simp [hm, hp, hon, h1, h3]
  rw [wakePatternDetect, if_pos hlistens, hw]
  exact if_pos ha

/-! ## Grants -/

theorem allocEnd_held {a gid : Nat} {n : Node} {s : State} (hn : s.node a = some n) (hg : (n.grants.any fun g => g.gid == gid) = true)
    (own : Bool) : allocEnd a gid own s = (
      let s1 := s.setNode a (some { n with grants := n.grants.filter fun g => g.gid != gid })
      if own then s1.sendMgmt a (.allocEnd gid) else s1) := by
  rw [allocEnd, hn]
  exact if_pos hg

section
variable {a gid span lo hi slot cper cph nmax fromB toB : Nat} {n : Node} {g0 g : Grant} {s : State} (hn : s.node a = some n)
  (ha : isAssociated n = true) (hspan : span < 256) (hfits : s.grantFits n.fg n g = true) (hbest : s.bestRated n.fg a n g = true)
  (hgid : gid < 256) (hnew : (n.grants.any fun h => h.gid == gid) = false)
include hn ha hspan hfits hbest hgid hnew

/-- A request that is no stream asks for the very grant it is given (R248). -/
theorem allocReq_granted {k : Nat} (hk : k = 0 ∨ k = 2)
    (hg : g = { gid := gid, kind := k, cgFirst := lo, cgLast := hi, slot := slot, cper := cper, cph := cph, nsymMax := nmax, fromB := fromB,
                toB := toB, strm := 0 }) :
    allocReq a gid k span lo hi slot cper cph nmax fromB toB s =
      (s.setNode a (some { n with grants := n.grants ++ [g] })).sendMgmt a (.allocGrant gid) := by
  have hstream : ¬(k == 1) = true := by rcases hk with rfl | rfl <;> decide
  rw [allocReq, hn]
  dsimp only
  rw [if_neg hstream, ← hg]
  refine if_pos ?_
  have hkind : k ≤ 2 := by omega
  simp [ha, hkind, hspan, hfits, hbest, hgid, hnew, hstream]

/-- A stream's grant carries the depth and the realised span that the capacity of its cells gives (R128). -/
theorem allocReq_streamGranted {cap : Nat} {m : ToneMap} (hs : nodeStreams n = true) (hrec : (s.recOf a).isSome = true)
    (hm : s.ulForce a = some m)
    (hg0 : g0 = { gid := gid, kind := 1, cgFirst := lo, cgLast := hi, slot := slot, cper := cper, cph := cph, nsymMax := nmax,
                  fromB := fromB, toB := toB, strm := 0 })
    (hcap : cap = s.streamCap n.fg m g0) (hpos : cap ≠ 0)
    (hg : g = { g0 with strm := streamN (span + 1) cap (streamG (span + 1) cap) * 8 + streamG (span + 1) cap,
                        span := realisedSpan (streamN (span + 1) cap (streamG (span + 1) cap)) (streamG (span + 1) cap) cap }) :
    allocReq a gid 1 span lo hi slot cper cph nmax fromB toB s =
      (s.setNode a (some { n with grants := n.grants ++ [g] })).sendMgmt a (.allocGrant gid) := by
  have hgranted : (isAssociated n && decide (1 ≤ 2 ∧ span < 256) && s.grantFits n.fg n g && s.bestRated n.fg a n g && decide (gid < 256) &&
      !(n.grants.any fun h => h.gid == gid) && (!(1 == 1) || (nodeStreams n && (s.recOf a).isSome && cap != 0))) = true := by
    simp [ha, hspan, hfits, hbest, hgid, hnew, hs, hrec, hpos]
  subst hg hcap hg0
  rw [allocReq, hn]
  dsimp only
  rw [hm]
  exact if_pos hgranted

end

/-! ## Routes -/

theorem neighbourReport_taken {a : Nat} {heard : List (Nat × Nat)} {n : Node} {s s1 : State} (hn : s.node a = some n)
    (ha : isAssociated n = true) (hr : nodeRelay n = true) (hl : heard.length ≤ 32) (h1 : s1 = s.setNode a (some { n with heard := heard })) :
    neighbourReport a heard s = s1.reroute (s1.nodeAddrs.filter fun x => match s1.node x with
      | none => false
      | some m => m.fg == n.fg) := by
  subst h1
  rw [neighbourReport, hn]
  exact if_pos (by simp [ha, hr, hl])

/-- With no route left the node is sent to at MCS 0 (R277). -/
theorem routeFailure_robust {a : Nat} {n n1 : Node} {s : State} (hn : s.node a = some n) (hf : 3 ≤ n.fails)
    (h1 : n1 = { n with fails := 0, tried := n.tried ++ [n.route] }) (hb : (s.setNode a (some n1)).bestRoute a (n.tried ++ [n.route]) = none) :
    routeFailure a s = (s.setNode a (some n1)).setNode a (some { n1 with robust := true, route := [] }) := by
  subst h1
  rw [routeFailure, hn]
  dsimp only
  rw [if_pos hf, hb]

/-- Settles O20: an equation for each command, its guards met; WAKE_ANNOUNCE by way of the check-in it makes. -/
theorem nodesSleepWakeAndAreRouted : Obligations.NodesSleepWakeAndAreRouted := by
  refine ⟨fun a drift px qx n x y s hn ha hx hy hw => next_congr (rendezvousReq_scheduled hn ha hx hy hw rfl),
    fun a line zc mains n s hn ha => next_congr (checkin_associated hn ha), fun a line zc mains s t ha hc => ?announce,
    fun a n s hn ho ha hm => next_congr (checkinMissed_third hn ho ha hm),
    fun a n s hn ho ha hm hs => next_congr (checkinMissed_counted hn ho ha hm hs),
    fun a n s hn ha h16 hw => next_congr (absentWakeRepeat_due hn ha h16 hw),
    fun a n s hn ha hr hd => next_congr (absentRelease_due hn ha hr hd),
    fun p chips w s hm hp hon h1 h3 hw ha => next_congr (wakePatternDetect_addressed hm hp hon h1 h3 hw ha),
    fun a gid own n s hn hg => next_congr (allocEnd_held hn hg own),
    fun a gid k span lo hi slot cper cph nmax fromB toB n g s hn ha hspan hk hg hfits hbest hgid hnew =>
      next_congr (allocReq_granted hn ha hspan hfits hbest hgid hnew hk hg),
    fun a gid span lo hi slot cper cph nmax fromB toB cap n m g0 g s hn ha hs hrec hm hspan hg0 hcap hpos hg hfits hbest hgid hnew =>
      next_congr (allocReq_streamGranted hn ha hspan hfits hbest hgid hnew hs hrec hm hg0 hcap hpos hg),
    fun a heard n s hn ha hr hl => ⟨_, next_congr (neighbourReport_taken hn ha hr hl rfl), _, rfl, rfl⟩,
    fun a n s hn hf hb => next_congr (routeFailure_robust hn hf rfl hb)⟩
  case announce =>
    obtain rfl : checkin a line zc mains s = t := Host.Outcome.next.inj hc
    exact next_congr (wakeAnnounce_associated ha line zc mains)

end Sys2Proof.Machine
end

section
/-! O11: rings, detections and the opening of receptions. -/

namespace Sys2Proof.Machine

open Sys2Proof

/-! ## Ring blocks -/

/-- A block that may be written to the ring of an input that records: what it holds while the input calibrates is zeros under the
own-transmission mark (R139, R345), else its codes with the marks that follow from them and from the group's spans (R80, R81). -/
theorem ringBlockWrite_due {p : Nat} {wide : Bool} {t0 : Stamp} {adc : List (Nat × Int)} {s s1 : State} {r : Nat}
    {ovl own : List (Nat × Nat)} {codes : List (Nat × Int)} (hrec : (if wide then s.wideOn p else s.portOn p || s.calibrating p) = true)
    (hp : p < 32) (hr : r = if wide then p + 32 else p) (hdue : s.blockDue r t0 = true)
    (hovl : ovl = if s.calibrating p then [] else clippedUnits 0 adc)
    (hown : own = if s.calibrating p then [(0, 4095)] else if s.inGroup (s.portFg p) p then s.ownRuns (s.portFg p) (stampNs t0) else [])
    (hcodes : codes = if s.calibrating p then [] else adc)
    (h1 : s1 = if wide then s.touchTag 146 else (s.touchTag 146).noteClipped p t0 ovl) :
    ringBlockWrite p wide t0 adc s = (
      let s2 := s1.setRing r (pushBlock (s1.ring r) wide t0 ovl own codes (s1.ringDepth r))
      if s1.ringDepth r = 0 then s1 else if wide then s2 else s2.pruneDeferred (s2.portFg p)) := by
  subst hr hovl hown hcodes h1
  exact if_pos (by rw [hrec, hdue, decide_eq_true hp]; rfl)

theorem State.noteClipped_none (s : State) (p : Nat) (t0 : Stamp) : s.noteClipped p t0 [] = s := by
  rw [State.noteClipped]
  exact if_pos rfl

section
variable {p : Nat} {t0 : Stamp} {s : State} (hp : p < 32)
include hp

theorem ringBlockWrite_narrow (hon : s.portOn p = true) (hcal : s.calibrating p = false) (hdue : s.blockDue p t0 = true)
    (adc : List (Nat × Int)) : ringBlockWrite p false t0 adc s = (
      let own := if s.inGroup (s.portFg p) p then s.ownRuns (s.portFg p) (stampNs t0) else []
      let s1 := (s.touchTag 146).noteClipped p t0 (clippedUnits 0 adc)
      let s2 := s1.setRing p (pushBlock (s1.ring p) false t0 (clippedUnits 0 adc) own adc (s1.ringDepth p))
      if s1.ringDepth p = 0 then s1 else s2.pruneDeferred (s2.portFg p)) :=
  ringBlockWrite_due (wide := false) (by simp [hon]) hp rfl hdue (by rw [hcal]; rfl) (by rw [hcal]; rfl) (by rw [hcal]; rfl) rfl

/-- Zeros clip nowhere, so a block of a calibrating input counts no run (R345). -/
theorem ringBlockWrite_calibrating (hcal : s.calibrating p = true) (hdue : s.blockDue p t0 = true) (adc : List (Nat × Int)) :
    ringBlockWrite p false t0 adc s = (
      let s1 := s.touchTag 146
      let s2 := s1.setRing p (pushBlock (s1.ring p) false t0 [] [(0, 4095)] [] (s1.ringDepth p))
      if s1.ringDepth p = 0 then s1 else s2.pruneDeferred (s2.portFg p)) :=
  ringBlockWrite_due (wide := false) (by simp [hcal]) hp rfl hdue (by rw [hcal]; rfl) (by rw [hcal]; rfl) (by rw [hcal]; rfl)
    ((s.touchTag 146).noteClipped_none p t0).symm

theorem ringBlockWrite_wide (hon : s.wideOn p = true) (hcal : s.calibrating p = false) (hdue : s.blockDue (p + 32) t0 = true)
    (adc : List (Nat × Int)) : ringBlockWrite p true t0 adc s = (
      let own := if s.inGroup (s.portFg p) p then s.ownRuns (s.portFg p) (stampNs t0) else []
      let s1 := s.touchTag 146
      if s1.ringDepth (p + 32) = 0 then s1
      else s1.setRing (p + 32) (pushBlock (s1.ring (p + 32)) true t0 (clippedUnits 0 adc) own adc (s1.ringDepth (p + 32)))) :=
  ringBlockWrite_due (wide := true) hon hp rfl hdue (by rw [hcal]; rfl) (by rw [hcal]; rfl) (by rw [hcal]; rfl) rfl

end

/-- Of the registers, the clipped runs of a block change the overload count and the status of their input (R82). -/
theorem State.noteClipped_regs {runs : List (Nat × Nat)} (s : State) (p : Nat) (t0 : Stamp) (h : unitsBefore 4096 runs ≠ 0) :
    (s.noteClipped p t0 runs).regs = ((s.setReg (ovlReg p).1 (ovlReg p).2
      (BitVec.ofNat 32 (min ((s.reg (ovlReg p).1 (ovlReg p).2).toNat + unitsBefore 4096 runs) 0xFFFFFFFF))).setPortStat p 16 1 1).regs := by
  rw [State.noteClipped, if_neg h]
  rfl

theorem ovlReg_ne_statReg (p : Nat) : (ovlReg p).1 ≠ (statReg p).1 := by
  unfold ovlReg statReg
  split <;> exact nofun

/-! ## Detections and receptions -/

/-- A detection outside the hold-off of its detector (R146, R148; at the threshold or above: log entry 177). -/
theorem preambleDetection_taken {det fg metric power : Nat} {start : Stamp} {std : Bool} {s : State} (hrun : s.detectorRuns det fg std = true)
    (hthr : s.detThreshold fg ≤ metric)
    (hfree : ∀ h ∈ s.rx.holdoff, stampNs s.now ≤ h.2.2 → ¬(h.1 = (if std then det + 1024 else det) ∧ near h.2.1 start (mergeNs fg) = true)) :
    preambleDetection det fg start metric power std s = ({ s with rx := { s.rx with holdoff :=
      (s.rx.holdoff.filter fun (h : Nat × Stamp × Nat) => decide (stampNs s.now ≤ h.2.2)) ++
        [(if std then det + 1024 else det, start, stampNs s.now + 4096000)] } } : State).queueDetection
      { fg := fg, start := start, metric := metric, power := power, det := det, std := std } := by
  have hnone : ((s.rx.holdoff.filter fun (h : Nat × Stamp × Nat) => decide (stampNs s.now ≤ h.2.2)).any
      fun h => h.1 == (if std then det + 1024 else det) && near h.2.1 start (mergeNs fg)) = false := by
    rw [List.any_eq_false]
    intro h hh
    obtain ⟨hmem, hnow⟩ := List.mem_filter.1 hh
    rw [Bool.and_eq_true, beq_iff_eq]
    exact hfree h hmem (of_decide_eq_true hnow)
  exact if_pos (by rw [hrun, decide_eq_true hthr, hnone]; rfl)

section
variable {fg eng : Nat} {d : Detn} {s s1 : State} {under : List Nat} (he : s.takesRecep eng = true)
  (hd : oldestDetn ((s.queuedIn fg).filter fun x => s.flpaOpens fg x.std) = some d) (hroom : s.openIn fg < slotsOf fg)
  (h1 : s1 = (s.setQueued fg ((s.queuedIn fg).erase d)).openRecep d eng under)
include he hd hroom h1

/-- The oldest queued detection opens; a start no longer retained ends its reception at once (R141, R151; log entry 178). -/
theorem receptionOpen_oldest : receptionOpen fg .queued eng under s =
    if s.retained fg d.start then s1
    else match s1.recep s.rx.nextId with
      | none => s1
      | some r => s1.endRecep r .lookbackExpired (d.origin != .live) 0 0 := by
  subst h1
  rw [receptionOpen, if_neg (by rw [he]; decide), hd]
  exact if_pos hroom

theorem receptionOpen_retained (hr : s.retained fg d.start = true) : receptionOpen fg .queued eng under s = s1 :=
  (receptionOpen_oldest he hd hroom h1).trans (if_pos hr)

theorem receptionOpen_expired (hr : s.retained fg d.start = false) : receptionOpen fg .queued eng under s =
    match s1.recep s.rx.nextId with
    | none => s1
    | some r => s1.endRecep r .lookbackExpired (d.origin != .live) 0 0 :=
  (receptionOpen_oldest he hd hroom h1).trans (if_neg (Bool.eq_false_iff.1 hr))

end

/-- Without an engine that takes the task or a free slot nothing opens (R151). -/
theorem receptionOpen_noRoom {fg eng : Nat} {s : State} (h : s.takesRecep eng = false ∨ slotsOf fg ≤ s.openIn fg) (under : List Nat) :
    receptionOpen fg .queued eng under s = s := by
  rw [receptionOpen]
  split
  · rfl
  · next he =>
    dsimp only
    split
    · rfl
    · exact if_neg (Nat.not_lt.2 (h.resolve_left he))

theorem ringWaitResume_written {id : Nat} {r : Recep} {s : State} (hr : s.recep id = some r) (hw : r.wait = .ring)
    (hn : r.need ≤ s.written r.fg) (again : Bool) : ringWaitResume id again s =
      s.setRecep (if again then { r with need := s.written r.fg + blockNs } else { r with wait := .none }) := by
  rw [ringWaitResume, hr]
  exact if_pos ⟨hw, hn⟩

theorem ringWaitResume_unwritten {id : Nat} {r : Recep} {s : State} (hr : s.recep id = some r) (hn : s.written r.fg < r.need)
    (again : Bool) : ringWaitResume id again s = s := by
  rw [ringWaitResume, hr]
  exact if_neg fun h => Nat.not_le.2 hn h.2

/-- With the dominant reception gone and no other to hold for, the weaker one goes on (R157). -/
theorem sicResume_freed {id d : Nat} {r : Recep} {s : State} (hr : s.recep id = some r) (hw : r.wait = .held d) (hd : s.recep d = none) :
    sicResume id none [] s = s.setRecep { r with wait := .none } := by
  rw [sicResume, hr]
  dsimp only
  rw [hw]
  dsimp only
  rw [hd, ite_self]
  rfl

theorem inputLostInReception_none {fg : Nat} {s : State} (h8 : fg < 8) (hg : s.groupInputs fg = []) :
    inputLostInReception fg s =
      s.endReceps .abandoned (s.rx.open_.filter fun r => r.fg == fg && decide (s.written fg < r.need)) := by
  rw [inputLostInReception, if_pos h8, hg]
  rfl

/-- Settles O11: an equation for each command, its guard met or not; of the clipped runs of a block, the two registers of its input read
back, which are different ones. -/
theorem ringsDetectionsAndOpenings : Obligations.RingsDetectionsAndOpenings := by
  refine ⟨fun p t0 adc s hon hcal hp hdue => next_congr (ringBlockWrite_narrow hp hon hcal hdue adc),
    fun p t0 adc s hcal hp hdue => next_congr (ringBlockWrite_calibrating hp hcal hdue adc),
    fun p t0 adc s hon hcal hp hdue => next_congr (ringBlockWrite_wide hp hon hcal hdue adc), fun p t0 runs s hn => ?clipped,
    fun det fg metric power start std s hrun hthr hfree => next_congr (preambleDetection_taken hrun hthr hfree),
    fun fg eng under d s he hd hroom hr => next_congr (receptionOpen_retained he hd hroom rfl hr),
    fun fg eng under d s he hd hroom hr => next_congr (receptionOpen_expired he hd hroom rfl hr),
    fun fg eng under s h => next_congr (receptionOpen_noRoom h under),
    fun id again r s hr hw hn => next_congr (ringWaitResume_written hr hw hn again),
    fun id again r s hr hn => next_congr (ringWaitResume_unwritten hr hn again),
    fun id d r s hr hw hd => next_congr (sicResume_freed hr hw hd), fun fg s h8 hg => next_congr (inputLostInReception_none h8 hg)⟩
  case clipped =>
    have hregs := s.noteClipped_regs p t0 hn
    constructor
    · rw [State.reg_congr hregs, State.setPortStat, State.reg_setReg_ne _ _ fun h => ovlReg_ne_statReg p h.1, State.reg_setReg_same]
    · rw [State.portStat, State.reg_congr hregs, State.setPortStat, State.reg_setReg_same, getBits_putBits _ _ _ _ (by decide)]
      rfl

end Sys2Proof.Machine
end

section
/-! O16: ring depths, page migration, stacks, scrubbing and memory errors. -/

namespace Sys2Proof.Machine

open Sys2Proof

/-! ## Sizes -/

/-- A register written and the placement replaced: nothing else is another. -/
theorem State.setReg_plc_onlyIn (s : State) (r : Reg) (i : Nat) (w : Word) (x : Places) :
    s.OnlyIn [.regs, .plc] { s.setReg r i w with plc := x } := by
  intro p hp
  cases p with
  | regs => exact absurd (by decide) hp
  | plc => exact absurd (by decide) hp
  | _ => rfl

/-- Letting what had shrunk grow back touches the placement alone (R408). -/
theorem State.refit_unshrunk (s : State) (c : Prop) [Decidable c] (told : Bool) :
    ∃ x, (if c then { s with plc := { s.plc with shrunk := false } } else s).refit told = ({ s with plc := x } : State).refit told := by
  split
  · exact ⟨_, rfl⟩
  · exact ⟨s.plc, rfl⟩

/-- A write that is let pass stores the judged word and refits; where a depth is raised, what had shrunk may grow back (R143, R408; log
entry 91). -/
theorem ringDepthChange_pass {who : Who} {s : State} (hg : s.gate who .MDM_RINGCFG 0 = .pass) (v : Word) :
    ∃ raised x, ringDepthChange who v s =
      ({ s.setReg .MDM_RINGCFG 0 (ringCfgForm (plainWrite .MDM_RINGCFG (s.reg .MDM_RINGCFG 0) v)) with plc := x } : State).refit raised := by
  rw [ringDepthChange, State.gated_pass hg]
  exact ⟨_, State.refit_unshrunk _ _ _⟩

theorem memoryReserveWrite_pass {s : State} (hg : s.gate .host .PIT_MEMRES 0 = .pass) (v : Word) :
    ∃ x, memoryReserveWrite v s = ({ s.setFld F.PIT_MEMRES_MIB 0 (min 32768 (getBits v 0 16)) with plc := x } : State).refit true := by
  rw [memoryReserveWrite, State.gated_pass hg]
  exact State.refit_unshrunk _ _ true

/-! ## Pages -/

/-- A page moved towards a stack draws a tag and counts; the last page of an extent takes the extent along (R388 to R390; log entry 95). -/
theorem pageMigrate_stack {h page n : Nat} {x : Handle} {s t : State} (hx : s.handle h = some x) (hn : s.stackServes n = true)
    (hm : x.mirror = false) (hp : 4096 * page < x.size) (hk : s.keepEmber x.slot (.stack n) = .stack n)
    (ht : t = { s.touchTag 145 with plc := { s.plc with migrations := s.plc.migrations + 1 } }) (last : Bool) :
    pageMigrate h page (.stack n) last s =
      if last then t.setHandle h
        { Handle.rePlace x (fun i p => if i = page / 262144 then .stack n else p) with demoted := decide (0 < x.latency) }
      else t := by
  subst ht
  rw [← s.touchTag_plc 145]
  unfold pageMigrate
  rw [hx]
  refine if_neg ?_
  rintro (hserve | htwo | hend | hember | hroom)
  · exact Bool.noConfusion (hn.symm.trans hserve)
  · exact htwo hm.symm
  · exact Nat.not_le.2 hp hend
  · exact hember hk
  · exact Bool.noConfusion hroom

/-! ## Stacks -/

/-- A step within the range, with no other stack changing (R401, R402). -/
theorem hbmStepChange_allowed {n step : Nat} {s : State} (h4 : n < 4) (hserves : s.stackServes n = true) (hs : s.stack n = .serving)
    (hne : step ≠ s.step3 n) (hlo : s.stepFloor n ≤ step) (hhi : step ≤ s.stepCeil n) (hc : ∀ m, m < 4 → s.stack m ≠ .changing) :
    hbmStepChange n step s = { s with plc := { s.plc with
      hbm := Tab.set (fun _ => .off) s.plc.hbm n .changing,
      steps := Tab.set (fun _ => 0) s.plc.steps n step } } := by
  have hnone : ((List.range 4).any fun m => s.stack m == .changing) = false := by
    rw [List.any_eq_false]
    exact fun m hm h => hc m (List.mem_range.1 hm) (beq_iff_eq.1 h)
  exact if_pos ⟨h4, hserves, hs, hne, hlo, hhi, hnone⟩

theorem State.plc_onlyIn (s : State) (x : Places) : s.OnlyIn [.plc] { s with plc := x } := by
  intro p hp
  cases p with
  | plc => exact absurd (by decide) hp
  | _ => rfl

theorem hbmTrainingComplete_changing {n : Nat} {s : State} (h : s.stack n = .changing) :
    hbmTrainingComplete n s = s.setStack n .serving := by
  rw [hbmTrainingComplete, h]

theorem hbmTrainingComplete_training {n : Nat} {s : State} (h : s.stack n = .training) :
    hbmTrainingComplete n s = ((s.setStack n .serving).nameStack).refit false := by
  rw [hbmTrainingComplete, h]

/-! ## Memory errors -/

theorem memoryEccError_uncorrectable (pc row : Nat) (second : Bool) (s : State) :
    memoryEccError (.hbmRow pc row) true second none s =
      (s.bumpFld F.MEM_UE_COUNT (pc / 32) 1).detectTest 1 (testSel (.hbmRow pc row)) (.hbmRow pc row) none := by
  unfold memoryEccError
  exact if_pos rfl

/-- A corrected error that is the first of its row within CE_WIN counts and is noted (R403). -/
theorem memoryEccError_firstCorrected (pc row : Nat) (load : Option Nat) {s s1 : State} (h1 : s1 = s.bumpFld F.MEM_CE_COUNT (pc / 32) 1) :
    memoryEccError (.hbmRow pc row) false false load s =
      { s1 with rel := { s.rel with ceRows := .hbmRow pc row :: s.rel.ceRows.filter fun u => u != .hbmRow pc row } } := by
  subst h1
  rw [← s.bumpFld_rel F.MEM_CE_COUNT (pc / 32) 1]
  cases load <;> rfl

/-- Settles O16: an equation for each command; what a step change and the two writes touch is read off theirs (an extent moves with its last
page: log entry 95; refitting: log entry 91). -/
theorem memoryStacksAndRingDepths : Obligations.MemoryStacksAndRingDepths := by
  refine ⟨fun who v s hg => ?depth, fun v s hg => ?reserve, fun h page n x s hx hn hm hp hk => ?migrate,
    fun n step s h4 hserves hs hne hlo hhi hc => ?step, fun n s h => next_congr (hbmTrainingComplete_changing h),
    fun n s h => next_congr (hbmTrainingComplete_training h), fun n s h => next_congr (if_pos h),
    fun pc row s => ⟨next_congr (memoryEccError_uncorrectable pc row false s), next_congr (memoryEccError_firstCorrected pc row none rfl)⟩⟩
  case depth =>
    obtain ⟨raised, x, e⟩ := ringDepthChange_pass hg v
    exact ⟨_, next_congr e, _, raised, rfl, s.setReg_plc_onlyIn _ _ _ x, rfl⟩
  case reserve =>
    obtain ⟨x, e⟩ := memoryReserveWrite_pass hg v
    exact ⟨_, next_congr e, _, rfl, s.setReg_plc_onlyIn _ _ _ x, rfl⟩
  case migrate =>
    have e := pageMigrate_stack hx hn hm hp hk rfl
    exact ⟨next_congr (e false), next_congr (e true)⟩
  case step =>
    refine ⟨_, next_congr (hbmStepChange_allowed h4 hserves hs hne hlo hhi hc), ?_, ?_, s.plc_onlyIn _⟩
    · exact Tab.get_set_same (fun _ => StackState.off) s.plc.hbm n .changing
    · exact Tab.get_set_same (fun _ => 0) s.plc.steps n step

end Sys2Proof.Machine
end

section
/-! O14: ageing of channel records, soundings, tone maps and the release of a record. -/

namespace Sys2Proof.Machine

open Sys2Proof

/-! ## Ageing and soundings -/

/-- A due slot is halved and stamped; where that takes it below CONF_MIN it is weak from now on (R178; stamps in whole seconds: log
entry 41). -/
theorem confidenceHalving_due {i slot : Nat} {r : ChanRec} {s : State} (hr : s.chanRec i = some r) (hslot : slot < 12)
    (hdue : Tab.get (fun _ => 0) r.aged slot + 2 ^ s.fld F.MDM_MAPCFG_HALF 0 ≤ s.now.s) :
    confidenceHalving i slot s = s.setRec i (some { r with
      aged := Tab.set (fun _ => 0) r.aged slot s.now.s
      weakSince := if s.confMin ≤ recConf r slot ∧ recConf r slot / 2 < s.confMin then Tab.set (fun _ => 0) r.weakSince slot s.now.s
        else r.weakSince
      conf := Tab.set (fun _ => 0) r.conf slot (recConf r slot / 2) }) := by
  rw [confidenceHalving, hr]
  refine (if_pos ⟨hslot.le, hdue⟩).trans ?_
  simp only [if_neg hslot.ne]

theorem broadcastSounding_due {g : Nat} {s : State} (hivl : s.fld F.MDM_SNDCFG_BCAST_IVL 0 ≠ 0)
    (hdue : (s.reg .MAC_BNUM g).toNat % s.fld F.MDM_SNDCFG_BCAST_IVL 0 = 0) (hruns : s.runsFlpa g = true) :
    broadcastSounding g s = s.broadcast g (.sounding 0 0) :=
  if_pos ⟨hivl, hdue, hruns⟩

/-- The request is sent and no longer wanted, so it is sent once (R183). -/
theorem uplinkSoundingRequest_wanted {a : Nat} {s : State} (h : a ∈ s.maps.soundings) :
    uplinkSoundingRequest a s =
      ({ s with maps := { s.maps with soundings := s.maps.soundings.filter fun x => x != a } }).sendTo a (.sounding 2 0) false .none :=
  if_pos (List.contains_iff_mem.2 h)

theorem staleSlotTimeout_stale {i slot : Nat} {r : ChanRec} {s : State} (hr : s.chanRec i = some r) (hslot : slot < 12)
    (hweak : recConf r slot < s.confMin) (hdue : Tab.get (fun _ => 0) r.weakSince slot + s.fld F.MDM_SNDCFG_STALE_S 0 ≤ s.now.s) :
    staleSlotTimeout i slot s =
      (s.setRec i (some { r with weakSince := Tab.set (fun _ => 0) r.weakSince slot s.now.s })).wantSounding r.saddr := by
  rw [staleSlotTimeout, hr]
  exact if_pos ⟨hslot, hweak, hdue⟩

/-! ## Uplink maps -/

/-- Without a map in force a first one is due at once (R189). -/
theorem uplinkMapIssue_first {a i : Nat} {r : ChanRec} {s : State} (hr : s.recOf a = some (i, r)) (hrun : s.maps.suspended = false)
    (hkept : r.releasing = none) (hconf : s.confident r ≠ []) (hnone : s.ulForce a = none) :
    uplinkMapIssue a s =
      (s.setRec i (some { r with asked := false })).issueMap r (s.computeMap r).1 (s.computeMap r).2.1 (s.computeMap r).2.2 := by
  have hgo : ¬(s.maps.suspended || r.releasing.isSome || (s.confident r).isEmpty) = true := by simp [hrun, hkept, hconf]
  rw [uplinkMapIssue, hr]
  refine (if_neg hgo).trans ?_
  dsimp only
  rw [hnone]
  exact if_pos rfl

theorem retiredMapExpire_past {a id : Nat} {m : ToneMap} {t : Stamp} {s : State}
    (hm : (s.ulMaps a).find? (fun m => m.tmid == id) = some m) (ht : m.retired = some t)
    (hpast : stampNs t + s.plc.narrowDs * 100000000 ≤ stampNs s.now) :
    retiredMapExpire a id s = (s.setUl a ((s.ulMaps a).filter fun x => x.tmid != id)).setTmids a (s.freeTmids a ++ [id]) := by
  rw [retiredMapExpire, hm]
  dsimp only
  rw [ht]
  exact if_pos hpast

/-! ## Messages of nodes -/

section
variable {a id rate lo hi : Nat} {two : Bool} {codes : List (Nat × Nat)} {s : State}

/-- A map without a code of 7 is in force from now on, and deferred receptions of the node are tried again (R163, R188, R191). -/
theorem toneMap_stored {n : Node} (ha : s.associated a = true) (hr : (s.recOf a).isSome = true) (hrun : s.maps.suspended = false)
    (hcodes : ∀ p ∈ codes, p.2 ≠ 7) (hn : s.node a = some n) :
    toneMap a id false two rate lo hi codes s = (s.setDl a
      (some { tmid := id, two := two, rate := rate, cgFirst := lo, cgLast := hi,
              codes := codes.foldl (fun t p => Tab.set (fun _ => 0) t p.1 p.2) [], issued := s.now })).rescan
        n.fg a ⟨0, 0⟩ s.now true false := by
  have htaken : (s.associated a && (s.recOf a).isSome && !s.maps.suspended) = true := by simp [ha, hr, hrun]
  have hgood : ¬(codes.any fun p => p.2 == 7) = true := fun h =>
    let ⟨p, hp, h7⟩ := List.any_eq_true.1 h
    hcodes p hp (beq_iff_eq.1 h7)
  have hn' (m : Option ToneMap) : (s.setDl a m).node a = some n := hn
  refine (if_pos htaken).trans (((if_neg Bool.false_ne_true).trans (if_neg hgood)).trans ?_)
  dsimp only
  rw [hn']

/-- A map with a code of 7 changes nothing, whether or not its sender is heard (R188). -/
theorem toneMap_malformed (h : ∃ p ∈ codes, p.2 = 7) : toneMap a id false two rate lo hi codes s = s := by
  obtain ⟨p, hp, h7⟩ := h
  have hbad : (codes.any fun p => p.2 == 7) = true := List.any_eq_true.2 ⟨p, hp, beq_iff_eq.2 h7⟩
  exact (if_congr Iff.rfl ((if_neg Bool.false_ne_true).trans (if_pos hbad)) rfl).trans (ite_self s)

end

/-- A report for the phase pairs the record already has moves no row of its estimate: only the sums, their stamp and PAIRS follow (R192). -/
theorem channelReport_samePairs {a i : Nat} {r : ChanRec} {s : State} (hr : s.recOf a = some (i, r)) (ha : s.associated a = true)
    (lo hi : Nat) (two : Bool) (snr : List Nat) :
    channelReport a lo hi r.txp0 r.txp1 two snr s = s.setRec i (some { r with
      dlsum := snr.zipIdx.foldl (fun t e => Tab.set (fun _ => 255) t (e.2 / (hi + 1 - lo) * 62 + lo + e.2 % (hi + 1 - lo)) e.1) r.dlsum
      dstamp := s.now.s
      two := two }) := by
  have hmoved : ((if r.txp0 = r.txp0 then [] else [r.txp0, r.txp0]) ++ if r.txp1 = r.txp1 then [] else [r.txp1, r.txp1]) = [] := by simp
  rw [channelReport, hr]
  exact (if_pos ha).trans (if_pos hmoved)

/-! ## Release -/

/-- With no node waiting for a record, one whose release is over is free, and the maps of its node are gone (R197). -/
theorem recordReleaseComplete_unwanted {i : Nat} {r : ChanRec} {s : State} (hr : s.chanRec i = some r) (hover : r.releasing = some 0)
    (hnone : ((s.setRec i none).dropMaps r.saddr).maps.wanting = []) (acked : Bool) :
    recordReleaseComplete i acked s = (s.setRec i none).dropMaps r.saddr := by
  rw [recordReleaseComplete, hr]
  refine (if_pos (.inl hover)).trans ?_
  dsimp only
  rw [hnone]

/-- Settles O14: an equation for each command, its guard met, and that of a TONE_MAP with a code of 7 (halving: R178; stamps in whole
seconds: log entry 41). -/
theorem channelRecordsAndToneMaps : Obligations.ChannelRecordsAndToneMaps := by
  refine ⟨fun i slot r s hr hslot hdue => ⟨_, next_congr (confidenceHalving_due hr hslot hdue), _, rfl, rfl, rfl, rfl⟩,
    fun g s hivl hdue hruns => next_congr (broadcastSounding_due hivl hdue hruns),
    fun a s h => next_congr (uplinkSoundingRequest_wanted h),
    fun i slot r s hr hslot hweak hdue => next_congr (staleSlotTimeout_stale hr hslot hweak hdue),
    fun a i r s hr hrun hkept hconf hnone => next_congr (uplinkMapIssue_first hr hrun hkept hconf hnone),
    fun a id m t s hm ht hpast => next_congr (retiredMapExpire_past hm ht hpast),
    fun a id rate lo hi two codes n s ha hr hrun hcodes hn => next_congr (toneMap_stored ha hr hrun hcodes hn),
    fun a id rate lo hi two codes s h => next_congr (toneMap_malformed h), fun a lo hi p0 p1 i two snr r s hr ha h0 h1 => ?report,
    fun i acked r s hr hover hnone => next_congr (recordReleaseComplete_unwanted hr hover hnone acked)⟩
  case report =>
    subst h0 h1
    exact next_congr (channelReport_samePairs hr ha lo hi two snr)

end Sys2Proof.Machine
end

section
/-! O19: MAC_NODECMD, the change of the group key and NODE_REMOVE. -/

namespace Sys2Proof.Machine

open Sys2Proof

/-! ## A command let pass -/

section
variable {who : Who} {op : Nat} {s : State} (hg : s.gate who .MAC_NODECMD 0 = .pass)
include hg

theorem State.nodeCmd_ember (hm : s.pwr.mode = .ember) (f : Nat → State → State × Nat) :
    s.nodeCmd who op f = (s.setFld F.MAC_NODECMD_OP 0 op).setFld F.MAC_NODECMD_RESULT 0 2 :=
  (State.gated_pass hg _).trans (if_pos hm)

variable (hm : s.pwr.mode ≠ .ember)
include hm

/-- The operation runs on the state with OP stored, for the address selected before: the two fields lie in registers of their own. -/
theorem State.nodeCmd_runs (f : Nat → State → State × Nat) :
    s.nodeCmd who op f = (
      let x := f (s.fld F.MAC_NODESEL_SADDR 0) (s.setFld F.MAC_NODECMD_OP 0 op)
      x.1.setFld F.MAC_NODECMD_RESULT 0 x.2) := by
  have hsel : (s.setFld F.MAC_NODECMD_OP 0 op).fld F.MAC_NODESEL_SADDR 0 = s.fld F.MAC_NODESEL_SADDR 0 :=
    State.fld_setFld_ne s _ _ 0 0 op (by decide) (.inl (by decide))
  rw [State.nodeCmd, State.gated_pass hg]
  refine (if_neg hm).trans ?_
  rw [hsel]

variable {a : Nat} (ha : s.fld F.MAC_NODESEL_SADDR 0 = a)
include ha

theorem State.nodeCmd_noNode (hn : s.node a = none) (f : State → Nat → Node → State × Nat) :
    s.nodeCmd who op (onNode f) = (s.setFld F.MAC_NODECMD_OP 0 op).setFld F.MAC_NODECMD_RESULT 0 1 := by
  have hn1 : (s.setFld F.MAC_NODECMD_OP 0 op).node a = none := hn
  rw [State.nodeCmd_runs hg hm, ha, onNode, hn1]

theorem State.nodeCmd_onNode {n : Node} (hn : s.node a = some n) (f : State → Nat → Node → State × Nat) :
    s.nodeCmd who op (onNode f) = (
      let x := f (s.setFld F.MAC_NODECMD_OP 0 op) a n
      x.1.setFld F.MAC_NODECMD_RESULT 0 x.2) := by
  have hn1 : (s.setFld F.MAC_NODECMD_OP 0 op).node a = some n := hn
  rw [State.nodeCmd_runs hg hm, ha, onNode, hn1]

/-- A node has a wake address with its rendezvous (log entry 65). -/
theorem nodeWake_rendezvous {n : Node} (hn : s.node a = some n) (hr : n.rdv.isSome = true) :
    nodeWake who s = ((s.setFld F.MAC_NODECMD_OP 0 2).sendWake a n).setFld F.MAC_NODECMD_RESULT 0 0 := by
  rw [nodeWake, State.nodeCmd_onNode hg hm ha hn, if_pos hr]

theorem nodeWake_refused {n : Node} (hn : s.node a = some n) (hr : n.rdv = none) :
    nodeWake who s = (s.setFld F.MAC_NODECMD_OP 0 2).setFld F.MAC_NODECMD_RESULT 0 3 := by
  rw [nodeWake, State.nodeCmd_onNode hg hm ha hn, if_neg (by simp [hr])]

omit ha

/-- A change under way refuses another (log entry 63). -/
theorem groupKeyChange_answered :
    groupKeyChange who s = if s.mac.roll.isSome then (s.setFld F.MAC_NODECMD_OP 0 4).setFld F.MAC_NODECMD_RESULT 0 3
      else (s.setFld F.MAC_NODECMD_OP 0 4).startRoll.setFld F.MAC_NODECMD_RESULT 0 0 := by
  rw [groupKeyChange, State.nodeCmd_runs hg hm, State.setFld_mac]
  by_cases hr : s.mac.roll.isSome = true
  · rw [if_pos hr, if_pos hr]
  · rw [if_neg hr, if_neg hr]

end

/-! ## The activation beacon (R245) -/

theorem groupKeyActivate_due {g b : Nat} {l : Tab Nat} {s : State} (hl : s.mac.roll = some l) (hb : s.rollAt g = some b) (h1 : b ≠ 1)
    (hdue : b ≤ (s.reg .MAC_BNUM g).toNat + 1) :
    groupKeyActivate g s = (
      let s1 := { s with mac := { s.mac with roll := some (Tab.set (fun _ => 0) l g 1) } }
      if (Tab.set (fun _ => 0) l g 1).all (fun p => p.2 == 1) then s1.rollDone else s1) := by
  rw [groupKeyActivate, hl, hb]
  exact if_pos ⟨h1, hdue⟩

/-! ## NODE_REMOVE (R235, R252) -/

section
variable {src : Src} {eui : Nat} {s : State} (hs : s.starts src 0x21 = true)
include hs

theorem nodeRemove_unknown (hp : Tab.get (fun _ => none) (s.start src).mac.prov eui = none) :
    nodeRemove src eui s = (s.start src).complete src .denied [] :=
  (if_pos hs).trans (if_pos (by rw [hp]; rfl))

theorem nodeRemove_noNode {b : Bool} {s2 : State} (hp : Tab.get (fun _ => none) (s.start src).mac.prov eui = some b)
    (h2 : s2 = { s.start src with mac := { (s.start src).mac with prov := Tab.set (fun _ => none) (s.start src).mac.prov eui none } })
    (ha : s2.addrOf eui = none) : nodeRemove src eui s = s2.complete src .ok [] := by
  refine (if_pos hs).trans ((if_neg (by simp [hp])).trans ?_)
  dsimp only
  rw [← h2, ha]

end

/-- Settles O19: what a command let pass answers in EMBER, without a node and for a node; the rest are guards met (logs 63 and 65). -/
theorem nodeCommandsAnswerTheirResult : Obligations.NodeCommandsAnswerTheirResult := by
  refine ⟨fun who s hg hm => ?ember, fun who s a hg hm ha hn => ?noNode, fun who s a n hg hm ha hn => ?node,
    fun who s hg hm => next_congr (groupKeyChange_answered hg hm), fun g b l s hl hb h1 hdue => next_congr (groupKeyActivate_due hl hb h1 hdue),
    fun src eui s hs hp => next_congr (nodeRemove_unknown hs hp),
    fun src eui b s s2 hs hp h2 ha => next_congr (nodeRemove_noNode hs hp h2 ha)⟩
  case ember => exact ⟨next_congr (State.nodeCmd_ember hg hm _), next_congr (State.nodeCmd_ember hg hm _),
    next_congr (State.nodeCmd_ember hg hm _), next_congr (State.nodeCmd_ember hg hm _)⟩
  case noNode => exact ⟨next_congr (State.nodeCmd_noNode hg hm ha hn _), next_congr (State.nodeCmd_noNode hg hm ha hn _),
    next_congr (State.nodeCmd_noNode hg hm ha hn _)⟩
  case node => exact ⟨next_congr (State.nodeCmd_onNode hg hm ha hn _), next_congr (State.nodeCmd_onNode hg hm ha hn _),
    fun hr => next_congr (nodeWake_rendezvous hg hm ha hn hr), fun hr => next_congr (nodeWake_refused hg hm ha hn hr)⟩

end Sys2Proof.Machine
end

section
/-! O18: associations, from the request to the release of the address. -/

namespace Sys2Proof.Machine

open Sys2Proof

/-! ## ASSOC_REQ (R252) -/

theorem assocReq_closed {g : Nat} {s : State} (h : s.flag F.MAC_BCNCFG_ASSOC_OPEN g = false) (eui nn cap drift : Nat) (zc : Int) :
    assocReq g eui nn cap drift zc s = s := if_pos (by simp [h])

section
variable {g eui : Nat} {s : State} (hopen : s.flag F.MAC_BCNCFG_ASSOC_OPEN g = true) (hm : s.pwr.mode ≠ .ember) (hrun : s.runsFlpa g = true)
include hopen hm hrun

theorem assocReq_unprovisioned (hp : Tab.get (fun _ => none) s.mac.prov eui ≠ some true) (nn cap drift : Nat) (zc : Int) :
    assocReq g eui nn cap drift zc s = s.denyAssoc eui :=
  (if_neg (by simp [hopen, hm, hrun])).trans (if_pos hp)

variable (hp : Tab.get (fun _ => none) s.mac.prov eui = some true)
include hp

theorem assocReq_begins {a : Nat} (hroom : s.pendingIn g < 64) (ha : s.addrFor eui = some a) (nn cap drift : Nat) (zc : Int) :
    assocReq g eui nn cap drift zc s = s.beginAssoc g eui a nn cap drift zc := by
  refine (if_neg (by simp [hopen, hm, hrun])).trans ((if_neg (by simp [hp])).trans ((if_neg (by omega)).trans ?_))
  rw [ha]

/-- A module that does not know the EUI-64 has no association of it pending to repeat. -/
theorem assocReq_full (hfull : 64 ≤ s.pendingIn g) (ha : s.addrOf eui = none) (nn cap drift : Nat) (zc : Int) :
    assocReq g eui nn cap drift zc s = s.assocResp g eui 0 0xFFFE 2 :=
  (if_neg (by simp [hopen, hm, hrun])).trans ((if_neg (by simp [hp])).trans (if_pos ⟨hfull, by rw [ha]⟩))

end

/-! ## KEY_CONFIRM (R253, R254) -/

/-- The node of an association whose key confirmation has completed in group `g` at second `sec`; its sequence state starts anew (log
entry 62). -/
def joinedNode (n : Node) (j : Joining) (g sec : Nat) : Node :=
  { n with fg := g, cap := j.cap, drift := j.drift, zcofs := j.zcofs, zcSet := true, sess := some (j.nn, j.nm), assoc := none, seq := {},
           miss := 0, met := true, absentFor := 0, since := sec, state := if n.state = .handing then .handing else .active }

/-- A joined node in the table with its record, its group scanned again for it, and answered. -/
def State.keyConfirmed (s : State) (a g : Nat) (n1 : Node) : State :=
  let u := ((s.setNode a (some n1)).ensureKey).assignRec a g
  let v := u.rescan g a (stampBack u.now (u.fld F.MDM_RESCAN_BACK_S 0)) u.now false false
  v.sendMgmt a (.keyConfirmAck v.epoch v.mac.bctr v.mac.gkph)

/-- While the group key rolls, a node is given the next one (R245). -/
def State.sendNextKey (s : State) (a g : Nat) : State :=
  match s.rollAt g with
  | none => s
  | some b => s.sendMgmt a (.groupKey (!s.mac.gkph) b)

theorem State.sendNextKey_idle {s : State} {g : Nat} (h : s.rollAt g = none) (a : Nat) : s.sendNextKey a g = s := by
  rw [State.sendNextKey, h]

theorem State.sendNextKey_rolling {s : State} {g b : Nat} (h : s.rollAt g = some b) (a : Nat) :
    s.sendNextKey a g = s.sendMgmt a (.groupKey (!s.mac.gkph) b) := by
  rw [State.sendNextKey, h]

theorem keyConfirm_matched {a : Nat} {n : Node} {j : Joining} {s : State} (hn : s.node a = some n) (hj : n.assoc = some j)
    (hm : s.pwr.mode ≠ .ember) (g : Nat) :
    keyConfirm a g j.nn j.nm s = (s.keyConfirmed a g (joinedNode n j g s.cmp.sec)).sendNextKey a g := by
  rw [keyConfirm, hn]
  dsimp only
  rw [hj]
  exact if_pos ⟨rfl, rfl, hm⟩

/-! ## The end of an association -/

theorem assocTimeout_over {a : Nat} {n : Node} {j : Joining} {s : State} (hn : s.node a = some n) (hj : n.assoc = some j)
    (hover : j.bnum + 8 ≤ (s.reg .MAC_BNUM j.fg).toNat) : assocTimeout a s = s.endAssoc a := by
  rw [assocTimeout, hn]
  dsimp only
  rw [hj]
  exact if_pos hover

theorem quarantineExpire_over {a : Nat} {q : Nat × Nat × Nat} {s : State} (hq : s.quarantine a = some q) (h0 : q.2.2 = 0) :
    quarantineExpire a s = s.setQuar a none := by
  rw [quarantineExpire, hq]
  exact if_pos h0

theorem leave_listed {a r : Nat} {s : State} (hr : r ≤ 3) (ha : s.associated a = true) : leave a r s = s.releaseAddr a true :=
  if_pos ⟨hr, ha⟩

theorem leave_ignored {a r : Nat} {s : State} (h : 3 < r ∨ s.associated a = false) : leave a r s = s :=
  if_neg fun hl => h.elim (Nat.not_lt.2 hl.1) (Bool.eq_false_iff.1 · hl.2)

/-- A refusal is an acknowledgement with RESULT 3 (R279). -/
theorem mgmtInvalid_associated {a : Nat} {s : State} (ha : s.associated a = true) (seq harq txn : Nat) (ack : Bool) :
    mgmtInvalid a seq harq txn true ack s = s.oweAck a ack false { seq := seq, harq := harq, result := 3, txn := txn } := if_pos ha

/-- Settles O18: an equation for each command, its guards met or not; KEY_CONFIRM (R253, R254) by what it makes of the node, whose
checkpoint starts from 0 (log entry 62), with the next group key where the group rolls. -/
theorem associationsBeginConfirmAndEnd : Obligations.AssociationsBeginConfirmAndEnd := by
  refine ⟨fun g eui nn cap drift a zc s hopen hm hrun hp hroom ha =>
      next_congr (assocReq_begins hopen hm hrun hp hroom ha nn cap drift zc),
    fun g eui nn cap drift zc s hopen hm hrun hp => next_congr (assocReq_unprovisioned hopen hm hrun hp nn cap drift zc),
    fun g eui nn cap drift zc s hopen hm hrun hp hfull ha => next_congr (assocReq_full hopen hm hrun hp hfull ha nn cap drift zc),
    fun g eui nn cap drift zc s h => next_congr (assocReq_closed h eui nn cap drift zc),
    fun a n j s hn hj hover => next_congr (assocTimeout_over hn hj hover), fun a g nn nm n j s hn hj hnn hnm hm => ?confirm,
    fun a q s hq h0 => next_congr (quarantineExpire_over hq h0), fun a r s hr ha => next_congr (leave_listed hr ha),
    fun a r s h => next_congr (leave_ignored h), fun a seq harq txn ack s ha => next_congr (mgmtInvalid_associated ha seq harq txn ack)⟩
  case confirm =>
    subst hnn hnm
    exact ⟨_, next_congr (keyConfirm_matched hn hj hm g), _, joinedNode n j g s.cmp.sec, rfl, rfl, rfl, rfl, rfl, rfl,
      fun hr => State.sendNextKey_idle hr a, fun b hr => State.sendNextKey_rolling hr a⟩

end Sys2Proof.Machine
end

section
/-! Guyline's control messages on arrival, as O21 and O32 speak of them. -/

namespace Sys2Proof.Machine

open Sys2Proof

/-- Whether control messages are taken (R425): from anywhere while the module takes part, from a link while it is up. -/
def State.takesControl (s : State) (link : Option Nat) : Bool := s.glOn && (match link with
  | none => true
  | some l => s.linkUp l)

theorem State.takesControl_routed {s : State} (hon : s.glOn = true) : s.takesControl none = true := by
  rw [State.takesControl, hon]
  rfl

theorem State.takesControl_link {s : State} {l : Nat} (hon : s.glOn = true) (hup : s.linkUp l = true) : s.takesControl (some l) = true := by
  rw [State.takesControl, hon, hup]
  rfl

/-- A control message acknowledged and noted as seen. -/
def State.acknowledged (s : State) (link : Option Nat) (src mseq : Nat) : State :=
  { s.glAck link src mseq with gl := { (s.glAck link src mseq).gl with seen := (s.glAck link src mseq).gl.seen ++ [(src, mseq)] } }

section
variable {s : State} {link : Option Nat} {src mseq : Nat} (ht : s.takesControl link = true)
include ht

theorem State.onControl_repeat (h : s.gl.seen.contains (src, mseq) = true) (f : State → State) :
    s.onControl link src mseq f = s.glAck link src mseq := (if_pos ht).trans (if_pos h)

theorem State.onControl_new (h : s.gl.seen.contains (src, mseq) = false) (f : State → State) :
    s.onControl link src mseq f = f (s.acknowledged link src mseq) := (if_pos ht).trans (if_neg (Bool.eq_false_iff.1 h))

end

end Sys2Proof.Machine
end

section
/-! O21: handovers, message by message. -/

namespace Sys2Proof.Machine

open Sys2Proof

/-! ## The giver's decision and its timer (R278, R410) -/

theorem handoverDecision_begins {a target : Nat} {n : Node} {s : State} (hw : (s.mac.handWait.find? fun w => w.1 == a) = none)
    (hn : s.node a = some n) (ha : n.state = .active) (ht : target ≠ s.moduleIndex)
    (hp : Tab.get (fun _ => none) s.plc.pins (s.globalAddr a) = none) (hfew : s.handsNow < 16) (hm : s.pwr.mode ≠ .ember)
    (hon : s.glOn = true) : handoverDecision a target s = (
      let s1 := s.setNode a (some { n with state := .handing })
      { s1 with mac := { s1.mac with handOut := s1.mac.handOut ++
        [({ saddr := a, eui := n.eui, target := target, begun := s.now, src := .none, sess := n.sess.getD (0, 0) } : HandOut)] } }) := by
  rw [handoverDecision, hw, hn]
  refine (if_pos ⟨ha, ht, hp⟩).trans ?_
  rw [State.beginHand, hn]
  exact if_pos ⟨ha, hfew, hm, hon⟩

/-- Without ACCEPT the command completes ABANDONED (log entry 74). -/
theorem handoverAcceptTimeout_due {a : Nat} {h : HandOut} {t : Stamp} {s : State}
    (hh : (s.mac.handOut.find? fun h => h.saddr == a && !h.landed) = some h) (ho : h.offered = some t) (hc : h.committed = none)
    (hdue : stampNs t + 1000000000 ≤ stampNs s.now) :
    handoverAcceptTimeout a s = (s.glControl h.target (.abort h.eui)).abortHand h .abandoned := by
  rw [handoverAcceptTimeout, hh]
  dsimp only
  rw [ho]
  exact if_pos ⟨by rw [hc]; rfl, hdue⟩

/-! ## Messages of the other module -/

theorem offer_some (a : Nat) (o : Offer) (s : State) : offer a (some o) s = s.onControl none o.giver o.mseq fun u => u.takeOffer a o := rfl

theorem snrReport_some (src mseq : Nat) (reports : List (Nat × Int)) (s : State) :
    snrReport (some (src, mseq)) reports s = s.onControl none src mseq fun u => u.takeReports src reports := rfl

section
variable {src mseq eui : Nat} {s u : State} (hon : s.glOn = true) (hnew : s.gl.seen.contains (src, mseq) = false)
  (hu : u = s.acknowledged none src mseq)
include hon hnew hu

/-- The release record takes effect when it lands (log entry 73). -/
theorem accept_offered {h : HandOut} (hh : u.handOutOf eui = some h) (ht : h.target = src) (ho : h.offered.isSome = true)
    (hc : h.committed = none) (a : Nat) : accept src mseq eui a s =
      (u.setHandOut { h with committed := some a }).submit 7 (u.globalAddr h.saddr) 0 (.ownership 3 src) 1 := by
  rw [accept, State.onControl_new (State.takesControl_routed hon) hnew, ← hu, hh]
  exact if_pos ⟨ht, ho, by rw [hc]; rfl⟩

theorem commit_pending {h : HandIn} (hh : u.handInOf eui = some h) (hg : h.giver = src) (hp : h.pending = true) (ho : h.owner = false)
    (seq : SeqState) : commit src mseq eui seq s =
      (u.setHandIn { h with owner := true, node := { h.node with seq := seq } }).submit 7 (u.globalAddr h.saddr) 0 (.ownership 2 src) 1 := by
  rw [commit, State.onControl_new (State.takesControl_routed hon) hnew, ← hu, hh]
  exact if_pos ⟨hg, hp, ho⟩

/-- A module that takes the node in, and does not hand it out, drops what is pending. -/
theorem abort_pending {h : HandIn} (hh : u.handInOf eui = some h) (hg : h.giver = src) (ho : h.owner = false)
    (hnone : (u.dropHandIn eui).handOutOf eui = none) : abort src mseq eui s = u.dropHandIn eui := by
  rw [abort, State.onControl_new (State.takesControl_routed hon) hnew, ← hu, hh]
  dsimp only
  rw [if_pos ⟨hg, ho⟩, hnone]

theorem handoverQuery_answered : handoverQuery src mseq eui s =
    u.glControl src (.answer eui (u.mac.handOut.any fun h => h.eui == eui && h.landed)) := by
  rw [handoverQuery, State.onControl_new (State.takesControl_routed hon) hnew, ← hu]

theorem snrReport_received (reports : List (Nat × Int)) : snrReport (some (src, mseq)) reports s = u.takeReports src reports := by
  rw [snrReport_some, State.onControl_new (State.takesControl_routed hon) hnew, ← hu]

end

theorem offer_received {o : Offer} {s u : State} (hon : s.glOn = true) (hnew : s.gl.seen.contains (o.giver, o.mseq) = false)
    (hu : u = s.acknowledged none o.giver o.mseq) (a : Nat) : offer a (some o) s = u.takeOffer a o := by
  rw [offer_some, State.onControl_new (State.takesControl_routed hon) hnew, ← hu]

/-! ## The pending record (R278) -/

section
variable {eui : Nat} {h : HandIn} {s : State} (hh : s.handInOf eui = some h) (ho : h.owner = false)
include hh ho

theorem pendingRecordTimeout_asks (hdue : stampNs h.since + 10000000000 ≤ stampNs s.now) :
    pendingRecordTimeout eui none s = (s.setHandIn { h with queried := true }).glControl h.giver (.query eui) := by
  rw [pendingRecordTimeout, hh]
  exact (if_neg (Bool.eq_false_iff.1 ho)).trans (if_pos hdue)

theorem pendingRecordTimeout_unreleased (hq : h.queried = true) : pendingRecordTimeout eui (some false) s = s.dropHandIn eui := by
  rw [pendingRecordTimeout, hh]
  exact (if_neg (Bool.eq_false_iff.1 ho)).trans (if_pos (by rw [hq]; rfl))

end

/-! ## OWNER_SET (R412) -/

section
variable {src : Src} {g : Nat} {s : State} (hs : s.starts src 0x53 = true)
include hs

theorem ownerSet_foreign (hl : (s.start src).localAddr (g % 2 ^ 26) = none) (m : Nat) (pin : Bool) :
    ownerSet src g m pin s = (s.start src).complete src .denied [] := by
  refine (if_pos hs).trans ?_
  rw [State.ownerSet, hl]

/-- 0xFFFF names no module and takes the pin away. -/
theorem ownerSet_unpinned {a : Nat} {s1 : State} (h1 : s1 = s.start src) (hl : s1.localAddr (g % 2 ^ 26) = some a)
    (ha : s1.associated a = true) (pin : Bool) : ownerSet src g 0xFFFF pin s =
      ({ s1 with plc := { s1.plc with pins := Tab.set (fun _ => none) s1.plc.pins (g % 2 ^ 26) none } } : State).complete src .ok [] := by
  refine (if_pos hs).trans ?_
  rw [← h1, State.ownerSet, hl]
  exact (if_neg (by simp [ha])).trans (if_pos rfl)

end

/-- Settles O21: an equation for each command, its guards met, and a message seen before, which is only acknowledged (log entries 73 and
74). -/
theorem handoversFollowTheirMessages : Obligations.HandoversFollowTheirMessages := by
  refine ⟨fun src mseq eui a seq o reports s hon hseen hsrc hmseq => ?seen,
    fun a target n s hw hn ha ht hp hfew hm hon => next_congr (handoverDecision_begins hw hn ha ht hp hfew hm hon),
    fun a s hon => next_congr (if_pos hon), fun a o s u hon hnew hu => next_congr (offer_received hon hnew hu a),
    fun src mseq eui a h s u hon hnew hu hh ht ho hc => next_congr (accept_offered hon hnew hu hh ht ho hc a),
    fun src mseq eui seq h s u hon hnew hu hh hg hp ho => next_congr (commit_pending hon hnew hu hh hg hp ho seq),
    fun src mseq eui h s u hon hnew hu hh hg ho hnone => next_congr (abort_pending hon hnew hu hh hg ho hnone),
    fun a h t s hh ho hc hdue => next_congr (handoverAcceptTimeout_due hh ho hc hdue),
    fun eui h s hh ho hdue => next_congr (pendingRecordTimeout_asks hh ho hdue),
    fun eui h s hh ho hq => next_congr (pendingRecordTimeout_unreleased hh ho hq),
    fun src mseq eui s u hon hnew hu => next_congr (handoverQuery_answered hon hnew hu),
    fun src g m pin s hs hl => next_congr (ownerSet_foreign hs hl m pin),
    fun src g a pin s s1 hs h1 hl ha => next_congr (ownerSet_unpinned hs h1 hl ha pin),
    fun src mseq reports s u hon hnew hu => next_congr (snrReport_received hon hnew hu reports)⟩
  case seen =>
    subst hsrc hmseq
    have hack (f : State → State) := State.onControl_repeat (State.takesControl_routed hon) hseen f
    exact ⟨next_congr (hack _), next_congr (hack _), next_congr (hack _), next_congr (hack _),
      next_congr ((offer_some a o s).trans (hack _)), next_congr ((snrReport_some ..).trans (hack _))⟩

end Sys2Proof.Machine
end

section
/-! O32: joining and leaving Guyline, its routes and its links. -/

namespace Sys2Proof.Machine

open Sys2Proof

/-! ## GL_CFG (R419, R422, R423) -/

section
variable {who : Who} {v x : Word} {s s1 : State} (hg : s.gate who .GL_CFG 0 = .pass) (hx : x = plainWrite .GL_CFG (s.reg .GL_CFG 0) v)
  (h1 : s1 = s.setReg .GL_CFG 0 x)
include hg hx h1

/-- A module that took part keeps INDEX and ROOT and leaves; another stores its word and joins if EN is now set. -/
theorem State.writeGlCfg_moved (hkept : s.glOn = true → s1.glOn = false ∧ getBits x 0 10 = getBits (s.reg .GL_CFG 0) 0 10 ∧
      getBits x 30 1 = getBits (s.reg .GL_CFG 0) 30 1) :
    s.writeGlCfg who v = if s1.glOn = true then s1.beginJoin else if s.glOn = true then s1.leaveNet else s1 := by
  have hgood : (s.glOn && (getBits x 0 10 != getBits (s.reg .GL_CFG 0) 0 10 || getBits x 30 1 != getBits (s.reg .GL_CFG 0) 30 1)) = false := by
    cases hon : s.glOn with
    | false => rfl
    | true =>
      obtain ⟨_, hindex, hroot⟩ := hkept hon
      simp [hindex, hroot]
  rw [State.writeGlCfg, State.gated_pass hg]
  dsimp only
  rw [← hx, hgood, if_neg Bool.false_ne_true, if_neg Bool.false_ne_true, ← h1]
  cases hon : s.glOn with
  | false => rfl
  | true => rw [(hkept hon).1]; rfl

theorem State.writeGlCfg_leaves (hon : s.glOn = true) (hindex : getBits x 0 10 = getBits (s.reg .GL_CFG 0) 0 10)
    (hroot : getBits x 30 1 = getBits (s.reg .GL_CFG 0) 30 1) (hoff : s1.glOn = false) : s.writeGlCfg who v = s1.leaveNet := by
  rw [State.writeGlCfg_moved hg hx h1 fun _ => ⟨hoff, hindex, hroot⟩, if_neg (by simp [hoff]), if_pos hon]

theorem State.writeGlCfg_stays (hout : s.glOn = false) (hoff : s1.glOn = false) : s.writeGlCfg who v = s1 := by
  rw [State.writeGlCfg_moved hg hx h1 (by simp [hout]), if_neg (by simp [hoff]), if_neg (by simp [hout])]

theorem State.writeGlCfg_joins (hout : s.glOn = false) (hon : s1.glOn = true) : s.writeGlCfg who v = s1.beginJoin := by
  rw [State.writeGlCfg_moved hg hx h1 (by simp [hout]), if_pos hon]

end

/-! ## HELLO (R419) -/

/-- The far end of a link heard for the first time, no root (its credits: log entry 193). -/
theorem hello_first {link index : Nat} {s : State} (hon : s.glOn = true) (hused : s.linkUsed link = true) (hup : s.linkUp link = true)
    (hp : s.peer link index = none) (gnid l nonce cr : Nat) (joined : Bool) : hello link index gnid l false joined nonce cr s =
      ((s.setPeer link { index := index, gnid := gnid, l := l, root := false, joined := joined, child := false, nonce := nonce }).glGrant
        link cr).tryJoin := by
  refine (if_pos (by simp [hon, hused, hup])).trans ?_
  dsimp only
  rw [if_pos hup, hp]
  rfl

/-! ## Messages on a link (R419 to R425) -/

section
variable {link src mseq : Nat} {s u : State} (hon : s.glOn = true) (hup : s.linkUp link = true)
  (hnew : s.gl.seen.contains (src, mseq) = false) (hu : u = s.acknowledged (some link) src mseq)
include hon hup hnew hu

/-- A module without a parent refuses (log entry 69). -/
theorem joinReq_refused (h : u.pwr.mode = .ember ∨ u.glJoined = false) (index parent : Nat) :
    joinReq link src mseq index parent s = u.refuse link src index .denied false := by
  rw [joinReq, State.onControl_new (State.takesControl_link hon hup) hnew, ← hu]
  exact if_pos (by rcases h with h | h <;> simp [h])

section
variable (hm : u.pwr.mode ≠ .ember) (hj : u.glJoined = true)
include hm hj

theorem joinReq_judged (hr : u.isRoot = true) (index parent : Nat) :
    joinReq link src mseq index parent s = u.judgeJoin link src index parent := by
  rw [joinReq, State.onControl_new (State.takesControl_link hon hup) hnew, ← hu]
  exact (if_neg (by simp [hm, hj])).trans (if_pos hr)

theorem joinReq_passedOn {l : Nat} (hr : u.isRoot = false) (hl : u.parentLink = some l) (index parent : Nat) :
    joinReq link src mseq index parent s = ({ u with gl := { u.gl with
      reqs := (u.gl.reqs.filter fun (r : Nat × Nat) => r.1 != index) ++ [(index, link)] } } : State).glControlOn l (u.fld F.GL_STAT_PARENT 0)
        (.joinReq index parent) := by
  rw [joinReq, State.onControl_new (State.takesControl_link hon hup) hnew, ← hu]
  refine (if_neg (by simp [hm, hj])).trans ((if_neg (Bool.eq_false_iff.1 hr)).trans ?_)
  rw [hl]

end

theorem joinAck_own {p : GPeer} (hp : u.peer link src = some p) (ha : u.gl.asked = some link) (hk : u.gl.netKey = true) (anc : List Nat)
    (members : Nat) : joinAck link src mseq u.moduleIndex anc members s = u.parented link p anc members := by
  rw [joinAck, State.onControl_new (State.takesControl_link hon hup) hnew, ← hu]
  refine (if_pos rfl).trans ?_
  rw [hp]
  exact if_pos ⟨ha, hk⟩

theorem joinRefuse_own {st : Status} {s2 : State} (ha : u.gl.asked = some link) (h2 : s2 = (u.setFld F.GL_EVT_REFUSED 0 1).event st pageGl []) :
    joinRefuse link src mseq u.moduleIndex st false s =
      { s2 with gl := { s2.gl with asked := none, retryAt := some (nsStamp (stampNs s2.now + 10000000000)) } } := by
  subst h2
  rw [joinRefuse, State.onControl_new (State.takesControl_link hon hup) hnew, ← hu]
  exact (if_pos rfl).trans (if_pos ha)

theorem guylineLeave_parent {s1 : State} (h1 : s1 = { u with gl := { u.gl with heard := u.gl.heard.filter fun h => h.1 != src } })
    (hp : s1.peer link src = none) (hl : s1.link link = 2) : guylineLeave link src mseq s = (s1.setLink link 4).loseParent := by
  rw [guylineLeave, State.onControl_new (State.takesControl_link hon hup) hnew, ← hu]
  dsimp only
  rw [← h1, hp]
  exact if_pos hl

theorem route_child (hl : u.link link = 3) (added removed : List Nat) (l : Nat) : route link src mseq added removed l s =
    ((((u.dropRoutes removed).addRoutes link added).noteMembers added removed).tellParent added removed).routesBack := by
  rw [route, State.onControl_new (State.takesControl_link hon hup) hnew, ← hu]
  exact if_pos hl

end

theorem joinRetry_due {t : Stamp} {s : State} (ht : s.gl.retryAt = some t) (hdue : Stamp.le t s.now = true) :
    joinRetry s = ({ s with gl := { s.gl with retryAt := none } } : State).tryJoin := by
  rw [joinRetry, ht]
  exact if_pos hdue

/-! ## Lanes (R427) -/

theorem serdesLoss_active {link : Nat} {s : State} (h4 : link < 4) (hon : s.glOn = true) (h1 : 1 ≤ s.link link) (hl : s.link link ≤ 4) :
    serdesLoss link s = s.linkLost link := if_pos (by simp [h4, hon, h1, hl])

theorem serdesBlockLock_down {link : Nat} {s : State} (h4 : link < 4) (hon : s.glOn = true) (hused : s.linkUsed link = true)
    (hserves : s.serves (domGl link) = true) (hup : s.linkUp link = false) :
    serdesBlockLock link s = (s.setLink link 4).sendHello link := if_pos (by simp [h4, hon, hused, hserves, hup])

/-- Settles O32: an equation for each command, its guards met; a message seen before is only acknowledged (refusal without a parent: log
entry 69; credits in HELLO: log entry 193). -/
theorem guylineMembersJoinAndLeave : Obligations.GuylineMembersJoinAndLeave := by
  refine ⟨fun who w x s hg hon hx hindex hroot hoff => next_congr (State.writeGlCfg_leaves hg hx rfl hon hindex hroot hoff),
    fun who w s hg hout hoff => next_congr (State.writeGlCfg_stays hg rfl rfl hout hoff),
    fun who w s s1 hg hout h1 hon => next_congr (State.writeGlCfg_joins hg rfl h1 hout hon),
    fun link index gnid l nonce cr joined s hon hused hup hp => next_congr (hello_first hon hused hup hp gnid l nonce cr joined),
    fun link src mseq index parent s u hon hup hnew hu => ?joinReq,
    fun link src mseq index members anc p s u hon hup hnew hu hindex hp ha hk => ?joinAck,
    fun link src mseq index st s u s2 hon hup hnew hu hindex ha h2 => ?joinRefuse, fun t s ht hdue => next_congr (joinRetry_due ht hdue),
    fun link src mseq index parent l added removed s hon hup hseen => ?seen,
    fun link src mseq s u s1 hon hup hnew hu h1 hp hl => next_congr (guylineLeave_parent hon hup hnew hu h1 hp hl),
    fun link src mseq l added removed s u hon hup hnew hu hl => next_congr (route_child hon hup hnew hu hl added removed l),
    fun link s h4 hon h1 hl => next_congr (serdesLoss_active h4 hon h1 hl),
    fun link s h4 hon hused hserves hup => next_congr (serdesBlockLock_down h4 hon hused hserves hup)⟩
  case joinReq =>
    exact ⟨fun h => next_congr (joinReq_refused hon hup hnew hu h index parent),
      fun hm hj hr => next_congr (joinReq_judged hon hup hnew hu hm hj hr index parent),
      fun l hm hj hr hl => next_congr (joinReq_passedOn hon hup hnew hu hm hj hr hl index parent)⟩
  case joinAck =>
    subst hindex
    exact next_congr (joinAck_own hon hup hnew hu hp ha hk anc members)
  case joinRefuse =>
    subst hindex
    exact next_congr (joinRefuse_own hon hup hnew hu ha h2)
  case seen =>
    have hack (f : State → State) := next_congr (State.onControl_repeat (State.takesControl_link hon hup) hseen f)
    exact ⟨hack _, hack _, hack _⟩

end Sys2Proof.Machine
end

section
/-! O33: frames, repeats, beacons and time on Guyline. -/

namespace Sys2Proof.Machine

open Sys2Proof

/-! ## Past a tag drawn and returned (R27; log entry 162) -/

theorem State.touchTag_fld (s : State) (i : Nat) {f : Fld} (h : f.reg ≠ .SYS_TAG_FREE) (j : Nat) : (s.touchTag i).fld f j = s.fld f j := by
  rw [State.fld, State.touchTag_reg s i fun hr => h hr.1, State.fld]

theorem State.touchTag_glOn (s : State) (i : Nat) : (s.touchTag i).glOn = s.glOn := by
  rw [State.glOn, State.flag, s.touchTag_fld i (by decide), State.glOn, State.flag]

theorem State.touchTag_moduleIndex (s : State) (i : Nat) : (s.touchTag i).moduleIndex = s.moduleIndex := s.touchTag_fld i (by decide) 0

theorem State.touchTag_linkActive (s : State) (i l : Nat) : (s.touchTag i).linkActive l = s.linkActive l := by
  obtain ⟨_, _, e⟩ := s.touchTag_eq i
  rw [e]
  rfl

theorem State.touchTag_keysOn (s : State) (i l : Nat) : (s.touchTag i).keysOn l = s.keysOn l := by
  obtain ⟨_, _, e⟩ := s.touchTag_eq i
  rw [e]
  rfl

/-! ## Frames (R417, R424) -/

section
variable {link : Nat} {f : GFrame} {tag : Bool} {s : State} (hon : s.glOn = true) (hl : s.linkActive link = true)
include hon hl

/-- What no key of the link opens is dropped (log entry 103). -/
theorem guylineFrameForward_unopened (h4 : link < 4) (h : tag = false ∨ s.keysOn link = []) :
    guylineFrameForward link f tag s = (s.touchTag 147).glDrop := by
  refine (if_neg (by simp [State.touchTag_glOn, State.touchTag_linkActive, hon, hl])).trans (if_pos ?_)
  rcases h with h | h <;> simp [State.touchTag_keysOn, h4, h]

theorem guylineFrameForward_onward (hopen : link < 4 → tag = true ∧ s.keysOn link ≠ []) (ht : f.typ ≤ 3) (hd : f.dst ≠ s.moduleIndex)
    (ha : f.dst ≠ 0xFFFF) (hh : f.hops < 254) :
    guylineFrameForward link f tag s = (s.touchTag 147).glRoute (some link) { f with hops := f.hops + 1 } := by
  have hd1 : f.dst ≠ (s.touchTag 147).moduleIndex := by rwa [State.touchTag_moduleIndex]
  have hopened : ¬(decide (link < 4) && (!tag || ((s.touchTag 147).keysOn link).isEmpty)) = true := by
    by_cases h4 : link < 4
    · obtain ⟨htag, hkeys⟩ := hopen h4
      simp [State.touchTag_keysOn, htag, hkeys]
    · simp [h4]
  refine (if_neg (by simp [State.touchTag_glOn, State.touchTag_linkActive, hon, hl])).trans
    ((if_neg hopened).trans ((if_neg (by omega)).trans ((if_neg (by omega)).trans ?_)))
  rw [if_neg (by simp [hd1, ha])]

end

/-! ## Control messages sent again (R425) -/

section
variable {mseq : Nat} {m : GSend} {s : State} (hm : s.gl.unacked.find? (fun m => m.mseq == mseq) = some m)
include hm

theorem controlRepeat_over (hover : stampNs m.since + 1000000000 ≤ stampNs s.now) :
    controlRepeat mseq s = { s with gl := { s.gl with unacked := s.gl.unacked.erase m } } := by
  rw [controlRepeat, hm]
  exact if_pos hover

variable (hkept : stampNs s.now < stampNs m.since + 1000000000)
include hkept

theorem controlRepeat_due (hdue : stampNs m.last + 10000000 ≤ stampNs s.now) :
    controlRepeat mseq s = ({ s with gl := { s.gl with
      unacked := s.gl.unacked.map fun (x : GSend) => if x.mseq = mseq then { x with last := s.now } else x } } : State).resendMsg m := by
  rw [controlRepeat, hm]
  exact (if_neg (Nat.not_le.2 hkept)).trans (if_pos hdue)

theorem controlRepeat_early (hearly : stampNs s.now < stampNs m.last + 10000000) : controlRepeat mseq s = s := by
  rw [controlRepeat, hm]
  exact (if_neg (Nat.not_le.2 hkept)).trans (if_neg (Nat.not_le.2 hearly))

end

/-! ## Line links and time (R275, R415, R426, R436) -/

/-- With no child on the link there is no window to give. -/
theorem lineLinkBeacon_noChild {link : Nat} {s : State} (h4 : 4 ≤ link) (h8 : link < 8) (hon : s.glOn = true) (hused : s.linkUsed link = true)
    (hj : s.glJoined = true) (hl : s.link link ≠ 2) (hdue : s.cmp.ns % (s.glPeriod * 1000000) = 0)
    (hkids : (s.peersOn link).filter GPeer.child = []) : lineLinkBeacon link [] s =
      (s.glEmit link { typ := 1, src := s.moduleIndex, dst := 0xFFFF, msg := .lineBeacon [] }).sendHello link :=
  if_pos (by simp [h4, h8, hon, hused, hj, hl, hdue, hkids])

/-- A SerDes child answers its parent's time (log entry 206). -/
theorem timeFrame_parent {link : Nat} {s : State} (hon : s.glOn = true) (hl : s.link link = 2) (locked : Bool) (e : Nat) (o : Int) :
    timeFrame link locked e o s = if link < 4 then (s.parentTime locked e o).askTime link else s.parentTime locked e o :=
  if_pos (by simp [hon, hl])

/-- Each sixteenth beacon opens a two-way exchange (log entry 206). -/
theorem parentBeacon_parent {link index : Nat} {s s1 : State} (h4 : 4 ≤ link) (hon : s.glOn = true) (hused : s.linkUsed link = true)
    (hl : s.link link = 2) (hi : s.fld F.GL_STAT_PARENT 0 = index)
    (h1 : s1 = { s with mac := { s.mac with misses := 0, window := 50 }, gl := { s.gl with beacons := (s.gl.beacons + 1) % 16 } }) (o : Int) :
    parentBeacon link index o s = if (s.gl.beacons + 1) % 16 = 0
      then (s1.parentTime (!s1.cmp.parentHold) s1.cmp.parentE o).askTime link else s1.parentTime (!s1.cmp.parentHold) s1.cmp.parentE o := by
  subst h1
  exact (if_neg (by simp [h4, hon, hused])).trans (if_pos ⟨hl, hi⟩)

section
variable {l : Nat} {s : State} (hon : s.glOn = true) (hp : s.parentLink = some l) (h4 : 4 ≤ l)
include hon hp h4

theorem parentBeaconMiss_counted (hm : s.mac.misses < 2) :
    parentBeaconMiss s = { s with mac := { s.mac with misses := s.mac.misses + 1 } } := by
  rw [parentBeaconMiss, if_neg (by simp [hon]), hp]
  exact (if_neg (by omega)).trans (if_neg (by omega))

theorem parentBeaconMiss_third (hm : 2 ≤ s.mac.misses) : parentBeaconMiss s = (s.setLink l 4).loseParent := by
  rw [parentBeaconMiss, if_neg (by simp [hon]), hp]
  exact (if_neg (by omega)).trans (if_pos hm)

end

/-- Settles O33: an equation for each command, its guards met; those without a guard are their own equations (the exchange the child opens:
log entry 206; a link without its key: log entry 103). -/
theorem guylineFramesAndTime : Obligations.GuylineFramesAndTime := by
  refine ⟨fun link f tag s hon hl => ⟨fun h4 h => next_congr (guylineFrameForward_unopened hon hl h4 h),
      fun hopen ht hd ha hh => next_congr (guylineFrameForward_onward hon hl hopen ht hd ha hh)⟩,
    fun s => rfl,
    fun mseq m s hm => ⟨fun hover => next_congr (controlRepeat_over hm hover), fun hkept hdue => next_congr (controlRepeat_due hm hkept hdue),
      fun hkept hearly => next_congr (controlRepeat_early hm hkept hearly)⟩,
    fun mseq s => rfl,
    fun link s h4 h8 hon hused hj hl hdue hkids => next_congr (lineLinkBeacon_noChild h4 h8 hon hused hj hl hdue hkids),
    fun s hon => ⟨next_congr (if_pos hon), next_congr (if_pos hon)⟩,
    fun link e locked o s hon hl => next_congr (timeFrame_parent hon hl locked e o),
    fun link index o s s1 h4 hon hused hl hi h1 => next_congr (parentBeacon_parent h4 hon hused hl hi h1 o),
    fun l s hon hp h4 => ⟨fun hm => next_congr (parentBeaconMiss_counted hon hp h4 hm),
      fun hm => next_congr (parentBeaconMiss_third hon hp h4 hm)⟩⟩

end Sys2Proof.Machine
end

section
/-! O22: the commands, reports and timers of the token ledger. -/

namespace Sys2Proof.Machine

open Sys2Proof

/-! ## Commands -/

section
variable {src : Src} {op : Nat} {s : State} (hs : s.starts src op = true)
include hs

/-- A command that minimal service leaves alone. -/
theorem State.onLedger_always (f : State → State) : s.onLedger src op false f = f (s.start src) := if_pos hs

theorem State.onLedger_serving (h : s.minimal = false) (f : State → State) : s.onLedger src op true f = f (s.start src) :=
  (if_pos hs).trans (if_neg (by simp [h]))

/-- Minimal service takes no submit and no cancel (R477). -/
theorem State.onLedger_minimal (h : s.minimal = true) (f : State → State) :
    s.onLedger src op true f = (s.start src).complete src .denied [] :=
  (if_pos hs).trans (if_pos (by simp [h]))

end

section
variable {src : Src} {lid : Nat} {s : State} (hs : s.starts src 0x42 = true)
include hs

theorem ledgerQuery_held {e : LEntry} (he : (s.start src).entry lid = some e) :
    ledgerQuery src lid s = (s.start src).complete src .ok
      [(1, lineState (some e)), (1, e.reason), (1, e.delivery), (1, 0), (2, e.mcode), (2, 0), (4, e.lseq)] := by
  rw [ledgerQuery, State.onLedger_always hs, he]

theorem ledgerQuery_unknown (he : (s.start src).entry lid = none) :
    ledgerQuery src lid s = (s.start src).complete src .denied [] := by
  rw [ledgerQuery, State.onLedger_always hs, he]

end

/-! ## Batches, reports and timers -/

theorem ledgerBatchLanded_programmed {w : Waiting} {s : State} (hw : s.programmed = some w) (hk : w.record.kind = 4) :
    ledgerBatchLanded s = (s.commit w).landed w.record := by
  rw [ledgerBatchLanded, hw]
  exact if_pos hk

/-- A report with one entry the module knows is one trigger (R285). -/
theorem ledgerReport_one {a lid : Nat} {e : Nat × Nat × Nat × Nat} {s : State} (ha : s.associated a = true)
    (hl : s.lidOfSeq (s.globalAddr a) e.1 = some lid) :
    ledgerReport a [e] s = s.ledgerTrigger (.report lid e.2.1 e.2.2.1 e.2.2.2) := by
  rw [ledgerReport, if_pos ha, List.filterMap_cons, hl]
  rfl

section
variable {lid : Nat} {e : LEntry} {s : State} (he : s.entry lid = some e)
include he

/-- Every guard of R286 and R291 met: the token frame goes again. -/
theorem ledgerResend_due {a : Nat} {due : Bool} {n : Node} (ha : s.localAddr e.gaddr = some a) (hn : s.node a = some n)
    (hst : e.state = .sent) (hretry : e.sentAt + s.fld F.MAC_LDGCFG_RETRY 0 ≤ s.bnumOf e.gaddr)
    (hnode : tokenNode n (due && s.dueAt n (s.bnumOf e.gaddr)) = true) (hw : s.withinWindow e = true) (hfree : s.lidHeld lid = false) :
    ledgerResend lid due s = (s.tokenFrames [(e.gaddr, lid)] [e.gaddr]).noteSent [(e.gaddr, lid)] := by
  rw [ledgerResend, he]
  dsimp only
  rw [ha, Option.bind_some, hn]
  exact if_pos ⟨hst, hretry, hnode, hw, hfree⟩

theorem ledgerDeadline_passed (h0 : e.deadline ≠ 0) (hpast : e.deadline ≤ s.now.s) (hst : e.state = .queued ∨ e.state = .sent) :
    ledgerDeadline lid s = s.ledgerTrigger (.deadline lid) := by
  rw [ledgerDeadline, he]
  exact if_pos ⟨h0, hpast, hst⟩

theorem ledgerConfirmTimeout_over (hst : e.state = .acked) (hover : e.ackedAt + s.fld F.MAC_LDGCFG_CONF_S 0 ≤ s.now.s) :
    ledgerConfirmTimeout lid s = s.ledgerTrigger (.confirmTimeout lid) := by
  rw [ledgerConfirmTimeout, he]
  exact if_pos ⟨hst, hover⟩

end

/-! ## The counters (R289) -/

/-- A further register written: it joins those that may have changed. -/
theorem State.RegsOnly.setReg {s t : State} {l : List (Reg × Nat)} (h : s.RegsOnly l t) (r : Reg) (i : Nat) (w : Word) :
    s.RegsOnly (l ++ [(r, i)]) (t.setReg r i w) := by
  intro q j hq
  obtain ⟨hl, hne⟩ := not_or.1 (mt List.mem_append.2 hq)
  exact (t.setReg_regsOnly r i w q j hne).trans (h q j hl)

/-- The five counters beside MAC_LDG_ACC in their registers. -/
def State.ldgLatched (s : State) : State :=
  ((((s.setReg .MAC_LDG_Q 0 (BitVec.ofNat 32 (s.countState .queued))).setReg .MAC_LDG_S 0 (BitVec.ofNat 32 (s.countState .sent))).setReg
    .MAC_LDG_A 0 (BitVec.ofNat 32 (s.countState .acked))).setReg .MAC_LDG_C 0 (BitVec.ofNat 32 s.ldg.confirmed)).setReg
    .MAC_LDG_R 0 (BitVec.ofNat 32 s.ldg.returned)

theorem State.ldgLatched_regsOnly (s : State) :
    s.RegsOnly [(.MAC_LDG_Q, 0), (.MAC_LDG_S, 0), (.MAC_LDG_A, 0), (.MAC_LDG_C, 0), (.MAC_LDG_R, 0)] s.ldgLatched :=
  (((((s.setReg_regsOnly .MAC_LDG_Q 0 _).setReg .MAC_LDG_S 0 _).setReg .MAC_LDG_A 0 _).setReg .MAC_LDG_C 0 _).setReg .MAC_LDG_R 0 _)

theorem State.ldgLatched_reg (s : State) :
    s.ldgLatched.reg .MAC_LDG_Q 0 = BitVec.ofNat 32 (s.countState .queued) ∧
    s.ldgLatched.reg .MAC_LDG_S 0 = BitVec.ofNat 32 (s.countState .sent) ∧
    s.ldgLatched.reg .MAC_LDG_A 0 = BitVec.ofNat 32 (s.countState .acked) ∧
    s.ldgLatched.reg .MAC_LDG_C 0 = BitVec.ofNat 32 s.ldg.confirmed ∧
    s.ldgLatched.reg .MAC_LDG_R 0 = BitVec.ofNat 32 s.ldg.returned := by
  simp [State.ldgLatched, State.reg_setReg]

theorem State.ldgLatched_onlyIn (s : State) : s.OnlyIn [.regs] s.ldgLatched :=
  ((((s.setReg_onlyIn .MAC_LDG_Q 0 _).trans (State.setReg_onlyIn _ .MAC_LDG_S 0 _)).trans (State.setReg_onlyIn _ .MAC_LDG_A 0 _)).trans
    (State.setReg_onlyIn _ .MAC_LDG_C 0 _)).trans (State.setReg_onlyIn _ .MAC_LDG_R 0 _)

/-- A read answered changes the host's side beside what it had changed. -/
theorem State.OnlyIn.returns {s t : State} {l : List Part} (h : s.OnlyIn l t) (v : BitVec 64) : s.OnlyIn (l ++ [.hst]) (t.returns v) := by
  intro p hp
  obtain ⟨hl, hne⟩ := not_or.1 (mt List.mem_append.2 hp)
  have ht := h p hl
  cases p with
  | hst => exact absurd (by decide) hne
  | _ => exact ht

theorem macLdgAccRead_readable {who : Who} {s : State} (h : s.readable who .MAC_LDG_ACC 0 = true) :
    macLdgAccRead who s = s.ldgLatched.returns (BitVec.ofNat 64 s.ldg.acc) := if_pos h

/-- Settles O22: an equation for each command, its guards met; a release or a query takes no notice of minimal service (a release joins a
batch: log entry 34). -/
theorem ledgerCommandsAndTimers : Obligations.LedgerCommandsAndTimers := by
  refine ⟨fun src g token href deadline want s hs hm => next_congr (State.onLedger_serving hs hm _),
    fun src lid s hs hm => next_congr (State.onLedger_serving hs hm _),
    fun src lid g token href deadline want s hm =>
      ⟨fun hs => next_congr (State.onLedger_minimal hs hm _), fun hs => next_congr (State.onLedger_minimal hs hm _)⟩,
    fun src lid s hs => next_congr (State.onLedger_always hs _),
    fun src lid e s hs he => next_congr (ledgerQuery_held hs he), fun src lid s hs he => next_congr (ledgerQuery_unknown hs he),
    fun src lid s hs => next_congr (State.onLedger_always hs _),
    fun w s hw hk => next_congr (ledgerBatchLanded_programmed hw hk),
    fun lid a due e n s he ha hn hst hretry hnode hw hfree => next_congr (ledgerResend_due he ha hn hst hretry hnode hw hfree),
    fun a lid e s ha hl => next_congr (ledgerReport_one ha hl),
    fun lid e s he h0 hpast hst => next_congr (ledgerDeadline_passed he h0 hpast hst),
    fun lid e s he hst hover => next_congr (ledgerConfirmTimeout_over he hst hover), fun who s h => ?counters⟩
  case counters =>
    obtain ⟨hq, hs, ha, hc, hr⟩ := s.ldgLatched_reg
    exact ⟨_, next_congr (macLdgAccRead_readable h), rfl, hq, hs, ha, hc, hr, s.ldgLatched_onlyIn.returns _, s.ldgLatched_regsOnly⟩

end Sys2Proof.Machine
end

section
/-! O23: frames that wait for a descriptor, and the return ring. -/

namespace Sys2Proof.Machine

open Sys2Proof

/-- 50 ms have passed: the frame goes, its NACK is owed, OVERRUN is posted once in a second (R297; log entry 51). -/
theorem fbdWaitTimeout_due {src seq : Nat} {w : FbdWait} {s s2 : State}
    (hw : (s.mac.fbdWait.find? fun w => w.src == src && w.seq == seq) = some w)
    (h2 : s2 = (({ s with mac := { s.mac with fbdWait := s.mac.fbdWait.erase w } } : State).oweAck w.src w.ackReq false
      { seq := w.seq, harq := w.harq, result := 1, txn := w.txn }).setFld F.MAC_FBD_DROP 0 1)
    (hdue : stampNs w.since + 50000000 ≤ stampNs s.now) :
    fbdWaitTimeout src seq s = if s2.mac.fbdEvtSec = some s2.cmp.sec then s2
      else ({ s2 with mac := { s2.mac with fbdEvtSec := some s2.cmp.sec } } : State).event .overrun pageMac [] := by
  subst h2
  rw [fbdWaitTimeout, hw]
  exact if_neg (Nat.not_lt.2 hdue)

section
variable {i : Nat} {l : List Nat} {s : State} (hring : s.hst.retRing = i :: l)
include hring

/-- A descriptor the host holds is free again and serves what waits (R296). -/
theorem fbdReturnTake_held {s2 : State} (hi : i ∈ s.mac.hostFbds)
    (h2 : s2 = { s with hst := { s.hst with retRing := l }, mac := { s.mac with hostFbds := s.mac.hostFbds.filter fun x => x != i } }) :
    fbdReturnTake s = s2.serveFbdWait s2.mac.fbdWait.length := by
  subst h2
  rw [fbdReturnTake, hring]
  exact if_pos (List.contains_iff_mem.2 hi)

theorem fbdReturnTake_foreign (hi : i ∉ s.mac.hostFbds) :
    fbdReturnTake s = ({ s with hst := { s.hst with retRing := l } } : State).setFld F.HST_STAT_RETBAD 0 1 := by
  rw [fbdReturnTake, hring]
  exact if_neg (mt List.contains_iff_mem.1 hi)

end

theorem fbdReturnTake_empty {s : State} (h : s.hst.retRing = []) : fbdReturnTake s = s := by
  rw [fbdReturnTake, h]

/-- Settles O23: the timeout come, and the return ring by its first entry. -/
theorem descriptorsWaitAndReturn : Obligations.DescriptorsWaitAndReturn :=
  ⟨fun _ _ _ _ _ hw h2 hdue => next_congr (fbdWaitTimeout_due hw h2 hdue),
   fun _ _ _ _ hring hi h2 => next_congr (fbdReturnTake_held hring hi h2),
   fun _ _ _ hring hi => next_congr (fbdReturnTake_foreign hring hi),
   fun _ h => next_congr (fbdReturnTake_empty h)⟩

end Sys2Proof.Machine
end

section
/-! O24: reflectometry sweeps and the operations of MDM_FMCMD. -/

namespace Sys2Proof.Machine

open Sys2Proof

/-! ## Due sweeps (R306, R307) -/

/-- A due sweep is skipped, waits for its place, is spoiled by a fold-back step or is taken. -/
theorem reflectometrySweep_due {p : Nat} {s : State} (hp : p < 24) (ht : s.sweepTurn (s.portFg p) = some p)
    (hpr : s.lvPort p = true → profileSweeps (bandOf (s.bandInForce (s.portFg p))).profile = true) (bins : List (Int × Int))
    (full folded : Bool) :
    reflectometrySweep p bins full folded s =
      if (s.noteSweep p).sweepSkipped p full then (s.noteSweep p).bumpFld F.MDM_FMSKIP_COUNT 0 1
      else if s.sweepNowMay p = false then s
      else if folded then ((s.noteSweep p).sentSweep p).bumpFld F.MDM_FMSKIP_COUNT 0 1
      else ((s.noteSweep p).sentSweep p).takeSweep p bins := by
  have hpermitted : (!(s.lvPort p && !profileSweeps (bandOf (s.bandInForce (s.portFg p))).profile)) = true := by
    cases hlv : s.lvPort p with
    | false => rfl
    | true => rw [hpr hlv]; rfl
  exact if_pos (by rw [hpermitted, ht, decide_eq_true hp, beq_self_eq_true]; rfl)

theorem reflectometrySweep_notItsTurn {p : Nat} {s : State} (ht : s.sweepTurn (s.portFg p) ≠ some p) (bins : List (Int × Int))
    (full folded : Bool) : reflectometrySweep p bins full folded s = s := if_neg (by simp [ht])

/-! ## MDM_FMCMD -/

section
variable {f : State → Nat → State × Nat} {arg p : Nat} {s : State} (ha : p = arg % 32)
include ha

theorem onPort_noPort (hp : 24 ≤ p) : onPort f arg s = (s, 1) := by
  subst ha
  exact if_pos hp

variable (hp : p < 24)
include hp

theorem onPort_refused (h : s.sweepRefused p = true) : onPort f arg s = (s, 3) := by
  subst ha
  exact (if_neg (Nat.not_le.2 hp)).trans (if_pos (by rw [h]; rfl))

theorem onPort_free (h : s.sweepRefused p = false) (hon : s.portOn p = true) (hcal : s.calHolds p = false) : onPort f arg s = f s p := by
  subst ha
  exact (if_neg (Nat.not_le.2 hp)).trans (if_neg (by rw [h, hon, hcal]; decide))

end

section
variable {who : Who} {op : Nat} {s : State} (hg : s.gate who .MDM_FMCMD 0 = .pass)
include hg

theorem State.fmCmd_ember (hm : s.pwr.mode = .ember) (f : Nat → State → State × Nat) :
    s.fmCmd who op f = (s.setFld F.MDM_FMCMD_OP 0 op).setFld F.MDM_FMCMD_RESULT 0 2 :=
  (State.gated_pass hg _).trans (if_pos hm)

variable (hm : s.pwr.mode ≠ .ember)
include hm

/-- The operation runs on the state with OP stored; MDM_FMARG is a register of its own, so its argument is the one written before. -/
theorem State.fmCmd_answers {f : Nat → State → State × Nat} {t : State} {r : Nat}
    (hf : f (s.reg .MDM_FMARG 0).toNat (s.setFld F.MDM_FMCMD_OP 0 op) = (t, r)) :
    s.fmCmd who op f = t.setFld F.MDM_FMCMD_RESULT 0 r := by
  have harg : (s.setFld F.MDM_FMCMD_OP 0 op).reg .MDM_FMARG 0 = s.reg .MDM_FMARG 0 := by
    rw [State.reg_setFld, if_neg (by decide)]
  refine (State.gated_pass hg _).trans ((if_neg hm).trans ?_)
  dsimp only
  rw [harg, hf]

section
variable {p : Nat} {s1 : State} (h1 : s1 = s.setFld F.MDM_FMCMD_OP 0 2) (ha : p = (s.reg .MDM_FMARG 0).toNat % 32)
include h1 ha

theorem baselineTake_noPort (hp : 24 ≤ p) : baselineTake who s = s1.setFld F.MDM_FMCMD_RESULT 0 1 := by
  subst h1
  exact State.fmCmd_answers hg hm (onPort_noPort ha hp)

variable (hp : p < 24)
include hp

theorem baselineTake_refused (h : s1.sweepRefused p = true) : baselineTake who s = s1.setFld F.MDM_FMCMD_RESULT 0 3 := by
  subst h1
  exact State.fmCmd_answers hg hm (onPort_refused ha hp h)

theorem baselineTake_free (h : s1.sweepRefused p = false) (hon : s1.portOn p = true) (hcal : s1.calHolds p = false) :
    baselineTake who s =
      ({ s1 with fm := { s1.fm with taking := Tab.set (fun _ => none) s1.fm.taking p (some []) } } : State).setFld F.MDM_FMCMD_RESULT 0 0 := by
  subst h1
  exact State.fmCmd_answers hg hm (onPort_free ha hp h hon hcal)

end

theorem sweepNow_free {p : Nat} {s1 : State} (h1 : s1 = s.setFld F.MDM_FMCMD_OP 0 1) (ha : p = (s.reg .MDM_FMARG 0).toNat % 32) (hp : p < 24)
    (h : s1.sweepRefused p = false) (hon : s1.portOn p = true) (hcal : s1.calHolds p = false) (hair : s1.onAir p = false)
    (bins : List (Int × Int)) (folded : Bool) :
    sweepNow who bins folded s =
      (if folded then (s1.sentSweep p).bumpFld F.MDM_FMSKIP_COUNT 0 1 else (s1.sentSweep p).takeSweep p bins).setFld F.MDM_FMCMD_RESULT 0 0 := by
  subst h1
  exact State.fmCmd_answers hg hm ((onPort_free ha hp h hon hcal).trans (if_neg (Bool.eq_false_iff.1 hair)))

theorem rangingSet_answered {s1 : State} (h1 : s1 = s.setFld F.MDM_FMCMD_OP 0 3) :
    rangingSet who s = if s1.associated ((s.reg .MDM_FMARG 0).toNat % 65536) then
      (s1.beginSet ((s.reg .MDM_FMARG 0).toNat % 65536)).setFld F.MDM_FMCMD_RESULT 0 0 else s1.setFld F.MDM_FMCMD_RESULT 0 1 := by
  subst h1
  split
  case isTrue ha => exact State.fmCmd_answers hg hm (if_pos ha)
  case isFalse ha => exact State.fmCmd_answers hg hm (if_neg ha)

/-- Storing OP moves neither the evidence nor the handles. -/
theorem evidenceRelease_answered {h : Nat} {s1 : State} (h1 : s1 = s.setFld F.MDM_FMCMD_OP 0 4) (ha : h = (s.reg .MDM_FMARG 0).toNat) :
    evidenceRelease who s = if s.fm.evid.any (fun e => e.handle == h) then
      ({ s1 with fm := { s1.fm with evid := s.fm.evid.filter fun e => e.handle != h }
                 prog := { s1.prog with handles := Tab.del s.prog.handles h } } : State).setFld F.MDM_FMCMD_RESULT 0 0
      else s1.setFld F.MDM_FMCMD_RESULT 0 1 := by
  subst h1 ha
  split
  case isTrue hheld => exact State.fmCmd_answers hg hm (if_pos hheld)
  case isFalse hunknown => exact State.fmCmd_answers hg hm (if_neg hunknown)

end

/-- Settles O24: the sweep by its turn, and each operation of MDM_FMCMD by what it answers on its argument (a line port: log entry 85;
SWEEP_NOW on an idle port: log entry 202). -/
theorem sweepsAndBaselinesAreTaken : Obligations.SweepsAndBaselinesAreTaken := by
  refine ⟨fun p bins full folded s hp ht hpr => next_congr (reflectometrySweep_due hp ht hpr bins full folded),
    fun p bins full folded s ht => next_congr (reflectometrySweep_notItsTurn ht bins full folded),
    fun who bins folded s hg hm => ?ember,
    fun who bins folded p s s1 hg hm h1 ha hp h hon hcal hair => next_congr (sweepNow_free hg hm h1 ha hp h hon hcal hair bins folded),
    fun who p s s1 hg hm h1 ha hp h hon hcal => next_congr (baselineTake_free hg hm h1 ha hp h hon hcal),
    fun who p s s1 hg hm h1 ha =>
      ⟨fun hp => next_congr (baselineTake_noPort hg hm h1 ha hp), fun hp h => next_congr (baselineTake_refused hg hm h1 ha hp h)⟩,
    fun who s s1 hg hm h1 => next_congr (rangingSet_answered hg hm h1),
    fun who h s s1 hg hm h1 ha => next_congr (evidenceRelease_answered hg hm h1 ha)⟩
  case ember => exact ⟨next_congr (State.fmCmd_ember hg hm _), next_congr (State.fmCmd_ember hg hm _),
    next_congr (State.fmCmd_ember hg hm _), next_congr (State.fmCmd_ember hg hm _)⟩

end Sys2Proof.Machine
end

section
/-! O25: ranging exchanges and the energy balance. -/

namespace Sys2Proof.Machine

open Sys2Proof

/-! ## Ranging exchanges (R309, R310) -/

section
variable {a rid : Nat} {x : RangeSet} {e : Exchange} {s : State} (hx : s.ranging a = some x)
  (he : (x.open_.find? fun e => e.rid == rid) = some e)
include hx he

/-- The stamps of the message are those the module has noted for the exchange. -/
theorem rangeResp_noted {req ack : Stamp} {eps : Int} (hreq : e.req = some req) (hack : e.ack = some (ack, eps)) (turn : Nat) :
    rangeResp a rid turn req ack eps s = s.nextExchange { x with
      open_ := []
      done := x.done ++ [({ e with req := some req, ack := some (ack, eps), turn := some turn }, roundTrip req ack turn eps)] } := by
  rw [rangeResp, hx]
  dsimp only
  rw [he]
  exact if_neg (by simp [hreq, hack])

theorem rangingExchangeTimeout_open {n : Node} (hn : s.node a = some n) :
    rangingExchangeTimeout a rid s =
      if e.begun + 8 ≤ (s.reg .MAC_BNUM n.fg).toNat then s.nextExchange { x with open_ := [] } else s := by
  rw [rangingExchangeTimeout, hx, hn]
  dsimp only
  rw [he]

end

/-! ## The points of a pair (R311) -/

/-- A frame weakens to any list that holds its parts. -/
theorem State.OnlyIn.mono {s t : State} {l m : List Part} (h : s.OnlyIn l t) (hlm : l ⊆ m) : s.OnlyIn m t :=
  fun p hp => h p fun hl => hp (hlm hl)

theorem State.gs_onlyIn (s : State) (x : Tab GsCh) : s.OnlyIn [.gs] { s with gs := x } := by
  intro p hp
  cases p with
  | gs => exact absurd (by decide) hp
  | _ => rfl

theorem State.fm_onlyIn (s : State) (x : Fm) : s.OnlyIn [.fm] { s with fm := x } := by
  intro p hp
  cases p with
  | fm => exact absurd (by decide) hp
  | _ => rfl

theorem State.setUpChannel_onlyIn (s : State) (ch : Nat) : s.OnlyIn [.regs, .gs] (s.setUpChannel ch) := by
  rw [State.setUpChannel]
  split
  · exact s.onlyIn_refl _
  · exact ((s.setReg_onlyIn .GS_CFG ch _).mono (by decide)).trans ((State.gs_onlyIn _ _).mono (by decide))

/-- A dwell begun anew touches the list of spoiled pairs alone (R346). -/
theorem State.freshDwell_eq (s : State) (pair : Nat) : ∃ l, s.freshDwell pair = { s with fm := { s.fm with spoiled := l } } := by
  rw [State.freshDwell]
  split
  · exact ⟨s.fm.spoiled, rfl⟩
  · exact ⟨_, rfl⟩

/-- Point `n` of a pair staged: both channels set up, its pins in their crosspoint words, the point the pair's current one. -/
def State.stagePoint (s : State) (pair n : Nat) : State :=
  let s1 := (((s.setUpChannel (2 * pair)).setUpChannel (2 * pair + 1)).setReg .GS_XPT (2 * pair)
    (xptWord (s.fld F.MDM_BALPT_VP n) (s.fld F.MDM_BALPT_VN n) (s.flag F.MDM_BALPT_VN_AG n))).setReg .GS_XPT (2 * pair + 1)
    (xptWord (s.fld F.MDM_BALPT_IP n) (s.fld F.MDM_BALPT_IN n) (s.flag F.MDM_BALPT_IN_AG n))
  { s1 with fm := { s1.fm with point := Tab.set (fun _ => none) s1.fm.point pair (some n) } }

theorem State.stagePoint_point (s : State) (pair n : Nat) : Tab.get (fun _ => none) (s.stagePoint pair n).fm.point pair = some n :=
  Tab.get_set_same (fun _ => none) _ pair (some n)

/-- The two channels of a pair have a word each, so the second write leaves the first. -/
theorem State.stagePoint_xpt (s : State) (pair n : Nat) :
    (s.stagePoint pair n).reg .GS_XPT (2 * pair) =
      xptWord (s.fld F.MDM_BALPT_VP n) (s.fld F.MDM_BALPT_VN n) (s.flag F.MDM_BALPT_VN_AG n) ∧
    (s.stagePoint pair n).reg .GS_XPT (2 * pair + 1) =
      xptWord (s.fld F.MDM_BALPT_IP n) (s.fld F.MDM_BALPT_IN n) (s.flag F.MDM_BALPT_IN_AG n) :=
  ⟨(State.reg_setReg_ne _ _ (by omega)).trans (State.reg_setReg_same _ _ _ _), State.reg_setReg_same _ _ _ _⟩

theorem State.stagePoint_onlyIn (s : State) (pair n : Nat) : s.OnlyIn [.regs, .gs, .fm] (s.stagePoint pair n) :=
  (((s.setUpChannel_onlyIn _).trans (State.setUpChannel_onlyIn _ _)).mono (by decide)).trans
    ((((State.setReg_onlyIn _ _ _ _).trans (State.setReg_onlyIn _ _ _ _)).mono (by decide)).trans ((State.fm_onlyIn _ _).mono (by decide)))

/-- With no current point the first enabled one of the pair is next. -/
theorem balancePointChange_first {pair n : Nat} {s : State} (hb : s.balances = true) (hp : pair < 2) (hl : s.pointsOf pair = [n])
    (hnone : Tab.get (fun _ => none) s.fm.point pair = none) : balancePointChange pair s = (s.stagePoint pair n).freshDwell pair := by
  rw [balancePointChange, hl, hb, hnone]
  exact if_pos (by rw [decide_eq_true hp]; rfl)

/-! ## Dwells, readings and the interval (R311 to R313) -/

theorem balanceDwellEnd_clean {pair p n : Nat} {s : State} (hp : Tab.get (fun _ => none) s.fm.point pair = some p) (hb : s.balances = true)
    (hn : n ≠ 0) (hv : s.gsClean (2 * pair) = true) (hi : s.gsClean (2 * pair + 1) = true) (hs : pair ∉ s.fm.spoiled) (sum : Int) :
    balanceDwellEnd pair sum n s = { s with fm := { s.fm with
      dwells := Tab.set (fun _ => []) s.fm.dwells p (Tab.get (fun _ => []) s.fm.dwells p ++ [({ sum := sum, n := n } : Dwell)]) } } := by
  rw [balanceDwellEnd, hp]
  exact (if_neg (mt List.contains_iff_mem.1 hs)).trans (if_pos (by simp [hb, hn, hv, hi]))

theorem meterRead_kept {a : Nat} {l : List (Nat × Nat × Nat)} {s : State} (ha : s.associated a = true) (h1 : 1 ≤ l.length) (h4 : l.length ≤ 4)
    (hch : ∀ r ∈ l, r.1 ≤ 1) :
    meterRead a l s = { s with fm := { s.fm with
      readings := Tab.set (fun _ => []) s.fm.readings a (Tab.get (fun _ => []) s.fm.readings a ++ l) } } :=
  if_pos ⟨ha, h1, h4, List.all_eq_true.2 fun r hr => decide_eq_true (hch r hr)⟩

theorem balanceIntervalEnd_due {s s1 : State} {l : List (Nat × Int × Int)} (hb : s.balances = true)
    (hdue : s.fm.began.s + 60 * s.fld F.MDM_BALCFG_MINUTES 0 ≤ s.now.s) (h1 : s1 = s.drew.balancePoints l) :
    balanceIntervalEnd l s = { s1 with fm := { s1.fm with dwells := [], began := s1.now } } := by
  subst h1
  exact if_pos (by rw [hb]; exact decide_eq_true hdue)

/-- Settles O25: an equation for each command, its guards met; what a change of point touches is read off the point staged. -/
theorem rangingAndBalanceProceed : Obligations.RangingAndBalanceProceed := by
  refine ⟨fun a rid turn req ack eps x e s hx he hreq hack => next_congr (rangeResp_noted hx he hreq hack turn), fun req ack turn eps => rfl,
    fun a rid x n e s hx hn he => next_congr (rangingExchangeTimeout_open hx he hn),
    fun pair n s hb hp hl hnone => ?change,
    fun pair p n sum s hp hb hn hv hi hs => next_congr (balanceDwellEnd_clean hp hb hn hv hi hs sum),
    fun a l s ha h1 h4 hch => next_congr (meterRead_kept ha h1 h4 hch),
    fun l s s1 hb hdue h1 => next_congr (balanceIntervalEnd_due hb hdue h1)⟩
  case change =>
    obtain ⟨hv, hi⟩ := s.stagePoint_xpt pair n
    obtain ⟨l, e⟩ := (s.stagePoint pair n).freshDwell_eq pair
    exact ⟨_, next_congr ((balancePointChange_first hb hp hl hnone).trans e), s.stagePoint_point pair n, hv, hi,
      (s.stagePoint_onlyIn pair n).trans ((State.fm_onlyIn _ _).mono (by decide))⟩

end Sys2Proof.Machine
end

section
/-! O26: the registers of the grid sense, its boundaries, its samples and the channels that stop. -/

namespace Sys2Proof.Machine

open Sys2Proof

/-! ## Channels -/

theorem State.gsCh_setGsCh_same (s : State) (n : Nat) (c : GsCh) : (s.setGsCh n c).gsCh n = c :=
  Tab.get_set_same (fun _ => ({} : GsCh)) s.gs n c

theorem State.setGsCh_onlyIn (s : State) (n : Nat) (c : GsCh) : s.OnlyIn [.gs] (s.setGsCh n c) := s.gs_onlyIn _

theorem State.gsWrite_pass {s : State} {who : Who} {r : Reg} {n : Nat} (h : s.gate who r n = .pass) (f : State → State) :
    s.gsWrite who r n f = f s := State.gated_pass h f

/-! ## Configurations (R317, R325, R327) -/

theorem gsCfgWrite_pass {c : Nat} {who : Who} {s : State} (hg : s.gate who .GS_CFG c = .pass) (w : Word) :
    gsCfgWrite c who w s = s.putGsCfg c (plainWrite .GS_CFG (s.reg .GS_CFG c) w) := State.gsWrite_pass hg _

theorem State.putGsCfg_reg (s : State) (n : Nat) (w : Word) : (s.putGsCfg n w).reg .GS_CFG n = gsCfgForm w :=
  s.reg_setReg_same .GS_CFG n _

theorem State.putGsCfg_rangeTo (s : State) (n : Nat) (w : Word) :
    ((s.putGsCfg n w).gsCh n).rangeTo = some (getBits (gsCfgForm w) 4 3) :=
  congrArg GsCh.rangeTo (State.gsCh_setGsCh_same _ n _)

theorem State.putGsCfg_onlyIn (s : State) (n : Nat) (w : Word) : s.OnlyIn [.regs, .gs] (s.putGsCfg n w) :=
  ((s.setReg_onlyIn .GS_CFG n _).mono (by decide)).trans ((State.setGsCh_onlyIn _ n _).mono (by decide))

theorem State.putGsCfg_regsOnly (s : State) (n : Nat) (w : Word) : s.RegsOnly [(.GS_CFG, n)] (s.putGsCfg n w) :=
  s.setReg_regsOnly .GS_CFG n _

/-! ## Sources and returns (R314, R315, R318, R320) -/

section
variable {role : Nat} {who : Who} {w x : Word} {s : State} (hg : s.gate who (sourceReg role).1 (sourceReg role).2 = .pass)
include hg

/-- A pin would hold a second driving role: the write is refused as a whole. -/
theorem State.writeSource_clash {clash : Nat}
    (hc : sourceMask role (sourceForm role (plainWrite (sourceReg role).1 (s.reg (sourceReg role).1 (sourceReg role).2) w)) &&&
      s.drivenElse role = clash) (h0 : clash ≠ 0) :
    s.writeSource role who w = (s.setFld F.GS_XSTAT_REFUSED 0 1).event .denied pageGs [(4, lowestPin clash)] := by
  subst hc
  rw [State.writeSource, State.gsWrite_pass hg]
  exact if_pos h0

/-- A new form is in force at once, and the channels that list the source have a change. -/
theorem State.writeSource_moves
    (hx : x = sourceForm role (plainWrite (sourceReg role).1 (s.reg (sourceReg role).1 (sourceReg role).2) w))
    (hfree : sourceMask role x &&& s.drivenElse role = 0) (hne : x ≠ s.reg (sourceReg role).1 (sourceReg role).2) :
    s.writeSource role who w = (s.setReg (sourceReg role).1 (sourceReg role).2 x).sourceMoved
      (if role = 4 then 7 else if role < 3 then 2 ^ role else 0) := by
  subst hx
  rw [State.writeSource, State.gsWrite_pass hg]
  exact (if_neg (not_not.2 hfree)).trans (if_neg hne)

end

/-- SOURCE_WRITE writes the role it names, of the four that are sources. -/
theorem sourceWrite_eq {role : Nat} (h : role ≤ 3) (who : Who) (w : Word) (s : State) :
    sourceWrite role who w s = s.writeSource role who w := by
  rw [sourceWrite, Nat.min_eq_left h]

/-! ## Boundaries (R316, R325) -/

theorem gsChangeApply_due {c : Nat} {s : State} (hc : c < 4) (hen : s.flag F.GS_CFG_EN c = true) (hon : s.dom domGs = .on)
    (hd : s.draining domGs = false) (hcal : (s.gsCh c).cal = false) (hw : s.gsWaits c = true) :
    gsChangeApply c s = s.gsApply c :=
  if_pos (by simp [hc, hen, hon, hd, hcal, hw])

/-! ## Samples (R326, R327, R329, R330) -/

/-- The bytes go where they go whatever the rest of the state is. -/
theorem State.setBytes_mem_congr {s t : State} (h : t.mem = s.mem) (o a : Nat) (l : List Byte) :
    (t.setBytes o a l).mem = (s.setBytes o a l).mem := by
  induction l generalizing s t a with
  | nil => exact h
  | cons b l ih => exact ih (congrArg (fun m => Tab.set memDefault m (memKey o a) b) h) (a + 1)

theorem State.gsFaults_zero (s : State) : s.gsFaults 0 = s := by simp [State.gsFaults]

theorem rangeStep_idx (c : GsCh) (r : Option Nat) : (rangeStep c r).idx = c.idx := by cases r <;> rfl

/-- Auto-ranging counts no sample. -/
theorem autoRange_idx (c : GsCh) (hold raw : Nat) (overload clean : Bool) : (autoRange c hold raw overload clean).idx = c.idx := by
  simp only [autoRange, apply_ite GsCh.idx, rangeStep_idx, ite_self]

theorem autoReset_idx (c : GsCh) (raw : Nat) : (autoReset c raw).idx = c.idx := by
  unfold autoReset
  split <;> rfl

/-- The record of a sample without overload and without a source out of compliance. -/
def State.gsPlainRecord (s : State) (n : Nat) (t : Stamp) (raw : Nat) : List Byte :=
  gsRecord t (s.gsValue n raw).1 raw (s.gsCh n).range (getBits (s.gsCh n).cfg 1 1)
    (gsFlags ((s.gsCh n).settle != 0) ((s.gsCh n).ranging != 0) false (s.gsValue n raw).2 false (s.gsTemp n).2) (s.gsCh n).idx

/-- Such a sample stored: its record at its place in the ring, the write index advanced, the channel's status noted. -/
def State.gsStored (s : State) (n : Nat) (t : Stamp) (raw : Nat) : State :=
  ((s.setBytes (s.reg .GS_RINGH n).toNat (24 * s.fld F.GS_WIDX_VALUE n) (s.gsPlainRecord n t raw)).setReg .GS_WIDX n
    (BitVec.ofNat 32 ((s.fld F.GS_WIDX_VALUE n + 1) % 65536))).setFld F.GS_STAT_STATUS n
    (if (s.gsCh n).settle != 0 then 7 else if (s.gsCh n).ranging != 0 then 8 else 0)

theorem State.gsStored_mem (s : State) (n : Nat) (t : Stamp) (raw : Nat) :
    (s.gsStored n t raw).mem =
      (s.setBytes (s.reg .GS_RINGH n).toNat (24 * s.fld F.GS_WIDX_VALUE n) (s.gsPlainRecord n t raw)).mem := rfl

theorem State.gsStored_widx (s : State) (n : Nat) (t : Stamp) (raw : Nat) :
    (s.gsStored n t raw).reg .GS_WIDX n = BitVec.ofNat 32 ((s.fld F.GS_WIDX_VALUE n + 1) % 65536) := by
  rw [State.gsStored, State.reg_setFld, if_neg fun h => absurd h.1 (by decide), State.reg_setReg_same]

theorem State.gsStored_onlyIn (s : State) (n : Nat) (t : Stamp) (raw : Nat) : s.OnlyIn [.regs, .mem] (s.gsStored n t raw) :=
  ((s.setBytes_onlyIn _ _ _).mono (by decide)).trans
    (((State.setReg_onlyIn _ .GS_WIDX n _).trans (State.setReg_onlyIn _ .GS_STAT n _)).mono (by decide))

/-- The channel `d` after a sample without overload: what it counts down and up is read from `c`, the channel as the sample met it, as in
GS_SAMPLE_OUTPUT. -/
def gsSampled (d c : GsCh) (value : Word) (hold raw : Nat) : GsCh :=
  let clean := c.settle == 0 && c.ranging == 0
  autoReset (autoRange { d with
    settle := c.settle - 1
    ranging := c.ranging - 1
    idx := (c.idx + 1) % 2 ^ 32
    lastValue := if clean then some value else c.lastValue
    lastClean := clean } hold raw false clean) raw

theorem gsSampled_idx (d c : GsCh) (value : Word) (hold raw : Nat) : (gsSampled d c value hold raw).idx = (c.idx + 1) % 2 ^ 32 := by
  rw [gsSampled, autoReset_idx, autoRange_idx]

/-- The sample counted in its channel, and the range it leads to noted. -/
def State.gsCounted (s : State) (n : Nat) (c : GsCh) (value : Word) (raw : Nat) : State :=
  let c1 := gsSampled (s.gsCh n) c value (s.fld F.GS_ARCFG_HOLD 0) raw
  (s.setGsCh n c1).setFld F.GS_STAT_RANGE n c1.range

section
variable (s : State) (n : Nat) (c : GsCh) (value : Word) (raw : Nat)

theorem State.gsCounted_idx : ((s.gsCounted n c value raw).gsCh n).idx = (c.idx + 1) % 2 ^ 32 :=
  (congrArg GsCh.idx (s.gsCh_setGsCh_same n _)).trans (gsSampled_idx _ c value _ raw)

theorem State.gsCounted_mem : (s.gsCounted n c value raw).mem = s.mem := rfl

theorem State.gsCounted_widx : (s.gsCounted n c value raw).reg .GS_WIDX n = s.reg .GS_WIDX n :=
  State.reg_setReg_ne _ _ fun h => absurd h.1 (by decide)

theorem State.gsCounted_onlyIn : s.OnlyIn [.regs, .gs] (s.gsCounted n c value raw) :=
  ((s.setGsCh_onlyIn n _).mono (by decide)).trans ((State.setReg_onlyIn _ .GS_STAT n _).mono (by decide))

end

/-- A converting channel's sample with neither overload nor fault is stored and counted. -/
theorem gsSampleOutput_plain {n cjt : Nat} {s s1 : State} (h1 : s1 = s.setFld F.GS_CJT_TEMP 0 cjt) (hn : n < 4)
    (hon : (s.gsCh n).on = true) (hdom : s.dom domGs = .on) (hcal : (s.gsCh n).cal = false) (t : Stamp) (raw : Nat) :
    gsSampleOutput n t raw false 0 cjt s = (s1.gsStored n t raw).gsCounted n (s.gsCh n) (s1.gsValue n raw).1 raw := by
  subst h1
  have hconverts : ¬(!(decide (n < 4) && (s.gsCh n).on && s.dom domGs == .on && !(s.gsCh n).cal)) = true := by
    simp [hn, hon, hdom, hcal]
  refine (if_neg hconverts).trans ?_
  dsimp only
  rw [Nat.zero_and, State.gsFaults_zero, Nat.and_zero]
  rfl

/-! ## Draining (R335) -/

theorem gsChannelDrain_stops {c : Nat} {s : State} (hon : (s.gsCh c).on = true)
    (hd : s.flag F.GS_CFG_EN c = false ∨ s.draining domGs = true) :
    gsChannelDrain c s = if (List.range 4).any (fun n => ((s.gsStop c).gsCh n).on) ∨ s.draining domGs = true then s.gsStop c
      else (s.gsStop c).sourcesOff := by
  have hstops : ((s.gsCh c).on && (!s.flag F.GS_CFG_EN c || s.draining domGs)) = true := by
    rcases hd with h | h <;> simp [hon, h]
  exact (if_pos hstops).trans (if_congr Bool.or_eq_true_iff rfl rfl)

/-- Settles O26: an equation for each command, its guards met; RANGE waits with every write of GS_CFG (log entry 78), and the sources
turn off with the last converting channel (log entry 79). -/
theorem gridSenseFollowsItsRegisters : Obligations.GridSenseFollowsItsRegisters := by
  refine ⟨fun c who w s hg => ⟨_, next_congr (gsCfgWrite_pass hg w), s.putGsCfg_reg c _, s.putGsCfg_rangeTo c _, s.putGsCfg_onlyIn c _,
      s.putGsCfg_regsOnly c _⟩,
    fun c who w s hg => next_congr (State.gsWrite_pass hg _),
    fun c who s hg => ⟨next_congr (State.gsWrite_pass hg _), next_congr (State.gsWrite_pass hg _)⟩,
    fun role who w r s hrole hr hg hclash => ?refused, fun role who w x r s hrole hr hg hx hfree hne => ?moved,
    fun who w x s hg hx hfree hne => next_congr (State.writeSource_moves (role := 4) hg hx hfree hne),
    fun c s hc hen hon hd hcal hw => next_congr (gsChangeApply_due hc hen hon hd hcal hw),
    fun c t raw cjt v s s1 h1 hv hc hon hdom hcal => ?sample,
    fun c s hon hd => next_congr (gsChannelDrain_stops hon hd)⟩
  case refused =>
    subst hr
    exact next_congr ((sourceWrite_eq hrole who w s).trans (State.writeSource_clash hg rfl hclash))
  case moved =>
    subst hr
    have hmoves := State.writeSource_moves hg hx hfree hne
    rw [if_neg (by omega : role ≠ 4)] at hmoves
    exact next_congr ((sourceWrite_eq hrole who w s).trans hmoves)
  case sample =>
    have hcjt : s.OnlyIn [.regs] s1 := h1 ▸ s.setReg_onlyIn .GS_CJT 0 _
    have hwidx : s1.fld F.GS_WIDX_VALUE c = s.fld F.GS_WIDX_VALUE c := by
      rw [h1]
      exact s.fld_setFld_ne _ _ _ _ _ (by decide) (.inl fun h => absurd h.1 (by decide))
    have hring : s1.reg .GS_RINGH c = s.reg .GS_RINGH c := by
      rw [h1]
      exact s.reg_setReg_ne _ fun h => absurd h.1 (by decide)
    refine ⟨_, next_congr (gsSampleOutput_plain h1 hc hon hdom hcal t raw), State.gsCounted_idx _ c _ _ raw, ?_, ?_, ?_⟩
    · rw [State.gsCounted_widx, State.gsStored_widx, hwidx]
    · rw [State.gsCounted_mem, State.gsStored_mem, hring, hwidx, State.setBytes_mem_congr (hcjt .mem (by decide)), hv]
      subst h1
      rfl
    · exact (hcjt.mono (by decide)).trans (((s1.gsStored_onlyIn c t raw).mono (by decide)).trans
        ((State.gsCounted_onlyIn _ c _ _ raw).mono (by decide)))

end Sys2Proof.Machine
end

section
/-! O54, O55: what every step keeps. -/

namespace Sys2Proof.Machine

open Sys2Proof

/-- Settles O54: the canonical form is part of what every step keeps, and the queue has no part in it. -/
theorem memoryAndRegistersStayCanonical : Obligations.MemoryAndRegistersStayCanonical := fun _ _ hs h => (keeps_of_step h).canon hs

/-- Settles O55: the three marks of the security controller are parts of what every step keeps (R453, R455, R458). -/
theorem fusesNeverGoBack : Obligations.FusesNeverGoBack := fun _ _ h =>
  have hk := keeps_of_step h
  ⟨hk.fuse, hk.rollback, hk.revoked⟩

end Sys2Proof.Machine
end

section
/-! O41: the scalar instructions of Idnas. First the registers of a context: what a read gives after a write and past an instruction. -/

namespace Sys2Proof.Machine

open Sys2Proof

/-! ## The registers of a context -/

theorem State.prog_onlyIn (s : State) (x : Programs) : s.OnlyIn [.prog] { s with prog := x } := by
  intro p hp
  cases p with
  | prog => exact absurd (by decide) hp
  | _ => rfl

theorem State.setCtx_onlyIn (s : State) (k : Nat) (c : Ctx) : s.OnlyIn [.prog] (s.setCtx k c) := s.prog_onlyIn _

@[simp] theorem State.ctx_setCtx_same (s : State) (k : Nat) (c : Ctx) : (s.setCtx k c).ctx k = c := Tab.get_set_same ..

theorem State.past_onlyIn (s : State) (k n : Nat) : s.OnlyIn [.prog] (s.past k n) := s.setCtx_onlyIn k _

@[simp] theorem State.ctx_past (s : State) (k n : Nat) :
    (s.past k n).ctx k = { s.ctx k with pc := (s.ctx k).pc + 4 * n, stepOne := false, yielded := false } := s.ctx_setCtx_same k _

@[simp] theorem State.vr_past (s : State) (k n m : Nat) : (s.past k n).vr k m = s.vr k m := by
  rw [State.vr, State.ctx_past, State.vr]

@[simp] theorem State.pr_past (s : State) (k n m : Nat) : (s.past k n).pr k m = s.pr k m := by
  rw [State.pr, State.ctx_past, State.pr]

@[simp] theorem State.ar_past (s : State) (k n m : Nat) : (s.past k n).ar k m = s.ar k m := by
  rw [State.ar, State.ctx_past, State.ar]

@[simp] theorem State.pack_past (s : State) (k n m : Nat) : (s.past k n).pack m = s.pack m := rfl

section
variable (s : State) (k : Nat)

theorem State.sr_zero : s.sr k 0 = 0 := rfl

theorem State.setSr_zero (v : DWord) : s.setSr k 0 v = s := rfl

theorem State.setSr_onlyIn (d : Nat) (v : DWord) : s.OnlyIn [.prog] (s.setSr k d v) := by
  unfold State.setSr
  split
  · exact s.onlyIn_refl _
  · exact s.setCtx_onlyIn k _

theorem State.sr_setSr_same {d : Nat} (hd : d ≠ 0) (v : DWord) : (s.setSr k d v).sr k d = v := by
  rw [State.setSr, if_neg hd, State.sr, if_neg hd, State.ctx_setCtx_same, Tab.get_set_same]

theorem State.sr_setSr_ne {d j : Nat} (hj : j ≠ d) (v : DWord) : (s.setSr k d v).sr k j = s.sr k j := by
  unfold State.setSr
  split
  · rfl
  · rw [State.sr, State.ctx_setCtx_same, Tab.get_set_ne _ _ _ hj, State.sr]

end

/-! ## Instructions of the scalar formats -/

section
variable {k t : Nat} {x : Task} {s : State}

theorem rr_issued {f : FmtR} (hi : s.Issues k 1 [.s f.a.toNat, .s f.b.toNat, .s f.d.toNat] t x) (hpg : f.pg = 0) (hty : f.ty = 0)
    (op : DWord → DWord → DWord) :
    rr op k f s = (s.past k 1).setSr k f.d.toNat (op (s.sr k f.a.toNat) (s.sr k f.b.toNat)) := by
  rw [rr, show (f.pg == 0 && f.ty == 0) = true by simp [hpg, hty], State.issue_of_issues hi, State.sr_past, State.sr_past]

theorem ru_issued {f : FmtR} (hi : s.Issues k 1 [.s f.a.toNat, .s f.d.toNat] t x) (hb : f.b = 0) (hpg : f.pg = 0) (hty : f.ty = 0)
    (op : DWord → DWord) : ru op k f s = (s.past k 1).setSr k f.d.toNat (op (s.sr k f.a.toNat)) := by
  rw [ru, show (f.b == 0 && f.pg == 0 && f.ty == 0) = true by simp [hb, hpg, hty], State.issue_of_issues hi, State.sr_past]

theorem ri_issued {f : FmtI} (hi : s.Issues k 1 [.s f.a.toNat, .s f.d.toNat] t x) (op : DWord → BitVec 16 → DWord) :
    ri op k f s = (s.past k 1).setSr k f.d.toNat (op (s.sr k f.a.toNat) f.imm) := by
  rw [ri, State.issue_of_issues hi, State.sr_past]

theorem rs_issued {f : FmtI} (hi : s.Issues k 1 [.s f.a.toNat, .s f.d.toNat] t x) (op : DWord → Nat → DWord) :
    rs op k f s = (s.past k 1).setSr k f.d.toNat (op (s.sr k f.a.toNat) (f.imm.toNat % 64)) := by
  rw [rs, State.issue_of_issues hi, State.sr_past]

theorem idLi_issued {f : FmtE} (hi : s.Issues k 2 [.s f.d.toNat] t x) (ha : f.a = 0) (himm : f.imm = 0) :
    idLi k f s = (s.past k 2).setSr k f.d.toNat (f.ext.signExtend 64) := by
  rw [idLi, show (f.a == 0 && f.imm == 0) = true by simp [ha, himm], State.issue_of_issues hi]

theorem idLih_issued {f : FmtE} (hi : s.Issues k 2 [.s f.d.toNat] t x) (ha : f.a = 0) (himm : f.imm = 0) :
    idLih k f s = (s.past k 2).setSr k f.d.toNat (f.ext ++ (s.sr k f.d.toNat).truncate 32) := by
  rw [idLih, show (f.a == 0 && f.imm == 0) = true by simp [ha, himm], State.issue_of_issues hi, State.sr_past]

theorem idHget_issued {f : FmtI} (hi : s.Issues k 1 [.s f.d.toNat] t x) (ha : f.a = 0) :
    idHget k f s = (s.past k 1).setSr k f.d.toNat (BitVec.ofNat 64 (((s.pack x.slot).decls[f.imm.toNat]?).getD 0xFFFFFFFF)) := by
  rw [idHget, show (f.a == 0) = true by simp [ha], State.issue_of_issues hi, State.pack_past]

end

theorem ite_slt64 (a b c d : DWord) : (if slt64 a b then c else d) = if a.toInt < b.toInt then c else d :=
  if_congr decide_eq_true_iff rfl rfl

/-- Settles O41: an equation for each format, of which each instruction is one operation (the amount of a shift immediate: log entry 10;
the operations: R359); the comparisons of two scalars are read as those of their integers. -/
theorem scalarInstructionsCompute : Obligations.ScalarInstructionsCompute := by
  refine ⟨fun k t f x s hi hpg hty => ?two, fun k t f x s hi hb hpg hty => ?one, fun k t f x s hi => ?immediate,
    fun k t f x s hi ha himm => ⟨next_congr (idLi_issued hi ha himm), next_congr (idLih_issued hi ha himm)⟩,
    fun k t f x s hi ha => next_congr (idHget_issued hi ha), fun k d j n v s => ?file⟩
  case two =>
    have h := rr_issued hi hpg hty
    exact ⟨next_congr (h _), next_congr (h _), next_congr (h _), next_congr (h _), next_congr (h _), next_congr (h _), next_congr (h _),
      next_congr (h _), next_congr (h _), next_congr (h _), next_congr ((h _).trans (congrArg _ (ite_slt64 ..))),
      next_congr ((h _).trans (congrArg _ (ite_slt64 ..))), next_congr ((h _).trans (congrArg _ (ite_slt64 ..))), next_congr (h _)⟩
  case one => exact ⟨next_congr (ru_issued hi hb hpg hty _), next_congr (ru_issued hi hb hpg hty _)⟩
  case immediate =>
    have h := ri_issued hi
    have hshift := rs_issued hi
    exact ⟨next_congr (h _), next_congr (h _), next_congr (h _), next_congr (h _), next_congr (hshift _), next_congr (hshift _),
      next_congr (hshift _)⟩
  case file =>
    exact ⟨State.setSr_zero .., s.sr_zero k, (s.past_onlyIn k n).trans (State.setSr_onlyIn _ k d v), fun hd => State.sr_setSr_same _ k hd v,
      fun hj => (State.sr_setSr_ne _ k hj v).trans (s.sr_past k n j), by rw [State.ctx_past]⟩

end Sys2Proof.Machine
end

section
/-! O42: the control instructions of Idnas, and what an instruction that does not issue does. -/

namespace Sys2Proof.Machine

open Sys2Proof

/-! ## Instructions that do not issue (R350, R358, R373) -/

section
variable {k n t : Nat} {regs : List CtxReg} {valid : Bool} {body : State → Nat → Task → State} {x : Task} {s : State}
  (htask : (s.ctx k).task = some t) (hrec : s.task t = some x)
include htask hrec

theorem State.issue_task :
    s.issue k n regs valid body = if s.mayIssue k x = false then s else if s.fetchOk k x (4 * n) = false then s.taskFault k t x 6
      else if valid = false then s.taskFault k t x 1 else if regs.any (fun r => (s.ctx k).busy.contains r) then s
      else body (s.past k n) t x := by
  rw [State.issue, htask]
  dsimp only
  rw [hrec]
  rfl

theorem State.issue_held (hmay : s.mayIssue k x = false) : s.issue k n regs valid body = s :=
  (State.issue_task htask hrec).trans (if_pos hmay)

variable (hmay : s.mayIssue k x = true)
include hmay

theorem State.issue_outside (hfetch : s.fetchOk k x (4 * n) = false) : s.issue k n regs valid body = s.taskFault k t x 6 := by
  rw [State.issue_task htask hrec, if_neg (by simp [hmay]), if_pos hfetch]

variable (hfetch : s.fetchOk k x (4 * n) = true)
include hfetch

theorem State.issue_invalid (hvalid : valid = false) : s.issue k n regs valid body = s.taskFault k t x 1 := by
  rw [State.issue_task htask hrec, if_neg (by simp [hmay]), if_neg (by simp [hfetch]), if_pos hvalid]

theorem State.issue_busy (hvalid : valid = true) (hbusy : regs.any (fun r => (s.ctx k).busy.contains r) = true) :
    s.issue k n regs valid body = s := by
  rw [State.issue_task htask hrec, if_neg (by simp [hmay]), if_neg (by simp [hfetch]), if_neg (by simp [hvalid]), if_pos hbusy]

end

/-! ## Instructions that only move on -/

theorem FmtR.blank_of_zero {f : FmtR} (hd : f.d = 0) (ha : f.a = 0) (hb : f.b = 0) (hpg : f.pg = 0) (hty : f.ty = 0) : FmtR.blank f = true := by
  simp [FmtR.blank, hd, ha, hb, hpg, hty]

/-- A branch counts from the offset of its own word, which the program counter has left. -/
theorem State.branch_past (s : State) (k : Nat) (disp : BitVec 21) (c : Bool) :
    (s.past k 1).branch k disp c = if c then (s.past k 1).setPc k (branchTo (s.ctx k).pc disp) else s.past k 1 := by
  rw [State.branch, State.ctx_past, Nat.mul_one, Nat.add_sub_cancel]

section
variable {k t : Nat} {x : Task} {s : State}

theorem idNop_issued {f : FmtR} (hi : s.Issues k 1 [] t x) (hf : FmtR.blank f = true) : idNop k f s = s.past k 1 := by
  rw [idNop, hf, State.issue_of_issues hi]

theorem idYield_issued {f : FmtR} (hi : s.Issues k 1 [] t x) (hf : FmtR.blank f = true) :
    idYield k f s = (s.past k 1).setCtx k { (s.past k 1).ctx k with yielded := true } := by
  rw [idYield, hf, State.issue_of_issues hi]

theorem idEnd_issued {f : FmtR} (hi : s.Issues k 1 [.s f.a.toNat] t x) (hf : (f.d == 0 && f.b == 0 && f.pg == 0 && f.ty == 0) = true) :
    idEnd k f s = (s.past k 1).endTask k t ((s.sr k f.a.toNat).toNat % 256) := by
  rw [idEnd, hf, State.issue_of_issues hi, State.sr_past]

theorem idJr_issued {f : FmtR} (hi : s.Issues k 1 [.s f.a.toNat] t x) (hf : (f.d == 0 && f.b == 0 && f.pg == 0 && f.ty == 0) = true) :
    idJr k f s = (s.past k 1).setPc k (s.sr k f.a.toNat).toNat := by
  rw [idJr, hf, State.issue_of_issues hi, State.sr_past]

theorem idFence_issued {f : FmtR} (hi : s.Issues k 1 [] t x) (hd : f.d = 0) (ha : f.a = 0) (hb : f.b.toNat ≤ 2) (hpg : f.pg = 0)
    (hty : f.ty = 0) :
    idFence k f s = if fenceDone (s.ctx k) (f.b.toNat != 1) (f.b.toNat != 0) then s.past k 1
      else (s.past k 1).setCtx k { (s.past k 1).ctx k with wait := .fence (f.b.toNat != 1) (f.b.toNat != 0) } := by
  rw [idFence, show (f.d == 0 && f.a == 0 && decide (f.b.toNat ≤ 2) && f.pg == 0 && f.ty == 0) = true by simp [hd, ha, hb, hpg, hty],
    State.issue_of_issues hi]
  dsimp only
  rw [State.ctx_past]
  rfl

theorem idRet_issued {f : FmtR} (hi : s.Issues k 1 [.s 31] t x) (hf : FmtR.blank f = true) :
    idRet k f s = (s.past k 1).setPc k (s.sr k 31).toNat := by
  rw [idRet, hf, State.issue_of_issues hi, State.sr_past]

theorem idRdctx_issued {f : FmtR} (hi : s.Issues k 1 [.s f.d.toNat] t x) (ha : f.a = 0) (hb : f.b = 0) (hpg : f.pg = 0) (hty : f.ty = 0) :
    idRdctx k f s = ((s.past k 1).setCtx k { (s.past k 1).ctx k with asat := false }).setSr k f.d.toNat
      (BitVec.ofNat 64 (t % 2 ^ 32 + x.slot % 16 * 2 ^ 32 + x.prio % 4 * 2 ^ 36 + (if (s.ctx k).asat then 2 ^ 63 else 0))) := by
  rw [idRdctx, show (f.a == 0 && f.b == 0 && f.pg == 0 && f.ty == 0) = true by simp [ha, hb, hpg, hty], State.issue_of_issues hi]
  dsimp only
  rw [State.ctx_past]

theorem idBr_issued {f : FmtB} (hi : s.Issues k 1 [] t x) (ha : f.a = 0) :
    idBr k f s = (s.past k 1).setPc k (branchTo (s.ctx k).pc f.disp) := by
  rw [idBr, show (f.a == 0) = true by simp [ha], State.issue_of_issues hi, State.branch_past, if_pos rfl]

theorem idBz_issued {f : FmtB} (hi : s.Issues k 1 [.s f.a.toNat] t x) :
    idBz k f s = if s.sr k f.a.toNat = 0 then (s.past k 1).setPc k (branchTo (s.ctx k).pc f.disp) else s.past k 1 := by
  rw [idBz, State.issue_of_issues hi, State.branch_past, State.sr_past]
  exact if_congr beq_iff_eq rfl rfl

theorem idBnz_issued {f : FmtB} (hi : s.Issues k 1 [.s f.a.toNat] t x) :
    idBnz k f s = if s.sr k f.a.toNat = 0 then s.past k 1 else (s.past k 1).setPc k (branchTo (s.ctx k).pc f.disp) := by
  rw [idBnz, State.issue_of_issues hi, State.branch_past, State.sr_past, ← ite_not (s.sr k f.a.toNat = 0)]
  exact if_congr bne_iff_ne rfl rfl

theorem State.setSr_pc (s : State) (k d : Nat) (v : DWord) : ((s.setSr k d v).ctx k).pc = (s.ctx k).pc := by
  unfold State.setSr
  split
  · rfl
  · rw [State.ctx_setCtx_same]

theorem idCall_issued {f : FmtB} (hi : s.Issues k 1 [.s 31] t x) (ha : f.a = 0) :
    idCall k f s = ((s.past k 1).setSr k 31 (BitVec.ofNat 64 ((s.ctx k).pc + 4))).setPc k (branchTo (s.ctx k).pc f.disp) := by
  rw [idCall, show (f.a == 0) = true by simp [ha], State.issue_of_issues hi, State.branch, if_pos rfl, State.setSr_pc, State.ctx_past,
    Nat.mul_one, Nat.add_sub_cancel]

end

/-- Settles O42: an equation for each instruction that issues (R359), and for ADD what stops it at issue (R358, R373). -/
theorem controlInstructionsMoveTheProgramCounter : Obligations.ControlInstructionsMoveTheProgramCounter := by
  refine ⟨fun k t f x s hi hd ha hb hpg hty => ?moves, fun k t f x s hi hd hb hpg hty => ?leaves,
    fun k t f x s hi hd ha hb hpg hty => next_congr (idFence_issued hi hd ha hb hpg hty),
    fun k t f x s hi hd ha hb hpg hty => next_congr (idRet_issued hi (FmtR.blank_of_zero hd ha hb hpg hty)),
    fun k t f x s hi ha hb hpg hty => next_congr (idRdctx_issued hi ha hb hpg hty),
    fun k t f x s hi ha => next_congr (idBr_issued hi ha), fun k t f x s hi => ⟨next_congr (idBz_issued hi), next_congr (idBnz_issued hi)⟩,
    fun k t f x s hi ha => next_congr (idCall_issued hi ha), fun k t f x s htask hrec => ?stopped⟩
  case moves =>
    have hf := FmtR.blank_of_zero hd ha hb hpg hty
    exact ⟨next_congr (idNop_issued hi hf), next_congr (idYield_issued hi hf)⟩
  case leaves =>
    have hf : (f.d == 0 && f.b == 0 && f.pg == 0 && f.ty == 0) = true := by simp [hd, hb, hpg, hty]
    exact ⟨next_congr (idEnd_issued hi hf), next_congr (idJr_issued hi hf)⟩
  case stopped =>
    refine ⟨fun hmay => next_congr ?_, fun hmay hfetch => next_congr ?_, fun hmay hfetch hpg => next_congr ?_,
      fun hmay hfetch hpg hty hbusy => next_congr ?_⟩ <;> rw [idAdd, rr]
    · exact State.issue_held htask hrec hmay
    · exact State.issue_outside htask hrec hmay hfetch
    · exact State.issue_invalid htask hrec hmay hfetch (by rw [beq_eq_false_iff_ne.2 hpg, Bool.false_and])
    · exact State.issue_busy htask hrec hmay hfetch (by simp [hpg, hty]) (List.any_eq_true.2 ⟨_, by simp, hbusy⟩)

end Sys2Proof.Machine
end

section
/-! O43: loads and stores of Idnas, and the responses that end them. -/

namespace Sys2Proof.Machine

open Sys2Proof

/-! ## Accesses that are allowed (R352, R373) -/

/-- An access to bytes that lie in a data handle, aligned and with the right, is no fault. -/
theorem accessFault_none {y : Target} {ofs size align right : Nat} (hkind : y.kind ≠ .queue) (hright : y.rights / right % 2 = 1)
    (hfits : ofs + size ≤ y.size) (halign : ofs % align = 0) (pick : Nat) : accessFault (some y) ofs size align right pick = none := by
  simp [accessFault, pickFrom, hkind, hright, halign, Nat.not_lt.2 hfits]

section
variable (s : State) (x : Programs)

theorem State.regionBytes_prog (n o : Nat) : ({ s with prog := x } : State).regionBytes o n = s.regionBytes o n := by
  induction n generalizing o with
  | zero => rfl
  | succ n ih => exact congrArg (_ :: ·) (ih _)

theorem State.openBytes_prog (h n o : Nat) : ({ s with prog := x } : State).openBytes h o n = s.openBytes h o n := by
  induction n generalizing o with
  | zero => rfl
  | succ n ih => exact congrArg (_ :: ·) (ih _)

theorem State.bytes_prog (h n o : Nat) : ({ s with prog := x } : State).bytes h o n = s.bytes h o n := by
  induction n generalizing o with
  | zero => rfl
  | succ n ih => exact congrArg (_ :: ·) (ih _)

/-- What lies behind a handle is no part of the programs. -/
theorem State.peek_prog (h o n : Nat) : ({ s with prog := x } : State).peek h o n = s.peek h o n :=
  if_congr Iff.rfl (s.regionBytes_prog x n o) (if_congr Iff.rfl (s.openBytes_prog x h n o) (s.bytes_prog x h n o))

end

@[simp] theorem State.peek_past (s : State) (k n o a m : Nat) : (s.past k n).peek o a m = s.peek o a m := s.peek_prog _ o a m

/-! ## Scalars (R355, R358) -/

section
variable {k t ofs size : Nat} {f : FmtM} {x : Task} {y : Target} {s : State} (hi : s.Issues k 1 [.s f.h.toNat, .s f.o.toNat, .s f.d.toNat] t x)
  (hsize : size = 2 ^ f.w.toNat) (hofs : ofs = effOffset (s.sr k f.o.toNat) f.disp.toNat size)
  (hy : (s.past k 1).target k t x ((s.sr k f.h.toNat).toNat % 2 ^ 32) = some y) (hkind : y.kind ≠ .queue)
  (hfits : ofs + size ≤ y.size) (halign : ofs % size = 0)
include hi hsize hofs hy hkind hfits halign

theorem idLds_allowed (hpg : f.pg.toNat < 2) (hright : y.rights % 2 = 1) {v : DWord}
    (hv : v = widen size (f.pg == 1) (leNat (s.peek y.obj ofs size))) :
    idLds k f s = if y.isLocal then (s.past k 1).setSr k f.d.toNat v
      else if (s.past k 1).hasTag (k / 4) = false then (s.past k 1).waitTag k 1
      else ((s.past k 1).setCtx k { (s.past k 1).ctx k with busy := .s f.d.toNat :: ((s.past k 1).ctx k).busy }).memTxn k y ofs
        (.loadScalar k t f.d.toNat v ((s.sr k f.h.toNat).toNat % 2 ^ 32)) := by
  rw [idLds, decide_eq_true hpg, State.issue_of_issues hi]
  dsimp only
  rw [State.sr_past, State.sr_past, ← hsize, ← hofs, hy, accessFault_none hkind (by rwa [Nat.div_one]) hfits halign]
  dsimp only
  rw [State.peek_past, hv]

theorem idSts_allowed (hpg : f.pg = 0) (hright : y.rights / 2 % 2 = 1) {s1 : State}
    (h1 : s1 = (s.past k 1).setBytes y.obj ofs (natLe size (s.sr k f.d.toNat).toNat)) :
    idSts k f s = if y.isLocal then s1 else if (s.past k 1).hasTag (k / 4) = false then (s.past k 1).waitTag k 1
      else (s1.setCtx k { s1.ctx k with stores := (s1.ctx k).stores + 1 }).memTxn k y ofs (.store k t (Place.copy ofs (y.spot ofs))) := by
  rw [idSts, show (f.pg == 0) = true by simp [hpg], State.issue_of_issues hi]
  dsimp only
  rw [State.sr_past, State.sr_past, State.sr_past, ← hsize, ← hofs, hy, accessFault_none hkind hright hfits halign, h1]

end

theorem idSts_notHeld {k t : Nat} {f : FmtM} {x : Task} {s : State} (hi : s.Issues k 1 [.s f.h.toNat, .s f.o.toNat, .s f.d.toNat] t x)
    (hpg : f.pg = 0) (hy : (s.past k 1).target k t x ((s.sr k f.h.toNat).toNat % 2 ^ 32) = none) :
    idSts k f s = (s.past k 1).taskFault k t x 2 := by
  rw [idSts, show (f.pg == 0) = true by simp [hpg], State.issue_of_issues hi]
  dsimp only
  rw [State.sr_past, State.sr_past, hy]
  rfl

/-! ## Vectors in local store (R357) -/

section
variable {k t ofs : Nat} {f : FmtM} {x : Task} {y : Target} {s : State} (hd : f.d.toNat < 16)
  (hofs : ofs = effOffset (s.sr k f.o.toNat) f.disp.toNat 64)
  (hy : (s.past k 1).target k t x ((s.sr k f.h.toNat).toNat % 2 ^ 32) = some y) (hkind : y.kind ≠ .queue)
  (hfits : ofs + 64 ≤ y.size) (halign : ofs % 64 = 0) (hlocal : y.isLocal = true)
include hd hofs hy hkind hfits halign hlocal

theorem idLdv_local (hi : s.Issues k 1 [.s f.h.toNat, .s f.o.toNat, .v f.d.toNat] t x) (hpg : f.pg = 0) (hw : f.w = 0)
    (hright : y.rights % 2 = 1) :
    idLdv k f s = (s.past k 1).setVr k f.d.toNat (BitVec.ofNat 512 (leNat (s.peek y.obj ofs 64))) := by
  rw [idLdv, show (decide (f.d.toNat < 16) && f.pg == 0 && f.w == 0) = true by simp [hd, hpg, hw], State.issue_of_issues hi]
  dsimp only
  rw [State.sr_past, State.sr_past, ← hofs, hy, accessFault_none hkind (by rwa [Nat.div_one]) hfits halign]
  dsimp only
  rw [State.peek_past]
  exact if_pos hlocal

theorem idStv_local (hi : s.Issues k 1 [.s f.h.toNat, .s f.o.toNat, .v f.d.toNat, .p f.pg.toNat] t x) (hw : f.w.toNat < 3)
    (hright : y.rights / 2 % 2 = 1) :
    idStv k f s = (s.past k 1).storeLanes y.obj ofs f.w.toNat (s.pr k f.pg.toNat) (s.vr k f.d.toNat) 64 := by
  rw [idStv, show (decide (f.d.toNat < 16) && decide (f.w.toNat < 3)) = true by simp [hd, hw], State.issue_of_issues hi]
  dsimp only
  rw [State.sr_past, State.sr_past, ← hofs, hy, accessFault_none hkind hright hfits halign, State.pr_past, State.vr_past]
  exact if_pos hlocal

end

/-! ## Responses (R354; log entry 204) -/

section
variable {id k t : Nat} {e : Txn} {s u : State}
  (he : s.fab.flight.find? (fun x => x.id == id && Txn.arrived x && x.admitted && s.mayAnswer x) = some e)
  (htask : (s.ctx k).task = some t) (hu : u = (s.respond e.respN e.resp).land e)
include he htask hu

theorem transactionResponse_loadScalar {d h : Nat} {v : DWord} (hk : e.kind = .loadScalar k t d v h) :
    transactionResponse id false s = (u.ready k (.s d)).setSr k d v := by
  subst hu
  rw [transactionResponse, he]
  dsimp only
  rw [hk]
  dsimp only
  rw [if_pos htask, Bool.false_and]

theorem transactionResponse_store {c : Option Nat} (hk : e.kind = .store k t c) :
    transactionResponse id false s = match s.copyLeft c with
      | some p => u.startTxn e.init (some p) (8 + p / 32) 1 1 (.store k t none)
      | none => (u.setCtx k { u.ctx k with stores := (u.ctx k).stores - 1 }).checkFence k := by
  subst hu
  rw [transactionResponse, he]
  dsimp only
  rw [hk]
  exact if_pos htask

end

/-- Settles O43: an equation for each access allowed or refused and for each response (a store visible and a load valued at issue: log entry
25; a handle as its low 32 bits: log entry 27; an unsigned displacement: log entry 28). -/
theorem loadsAndStoresReachTheirBytes : Obligations.LoadsAndStoresReachTheirBytes := by
  refine ⟨fun k t ofs size f x y s hi hpg hsize hofs hy hkind hright hfits halign => ?load,
    fun k t ofs size f x y s hi hpg hsize hofs hy hkind hright hfits halign => ?store,
    fun k t ofs f x y s hi hd hpg hw hofs hy hkind hright hfits halign hlocal =>
      next_congr (idLdv_local hd hofs hy hkind hfits halign hlocal hi hpg hw hright),
    fun k t ofs f x y s hi hd hw hofs hy hkind hright hfits halign hlocal =>
      next_congr (idStv_local hd hofs hy hkind hfits halign hlocal hi hw hright),
    fun k t size f x s hi hpg _ hy => next_congr (idSts_notHeld hi hpg hy), fun id k t d h v e s u he htask hu => ?response⟩
  case load =>
    have h := idLds_allowed hi hsize hofs hy hkind hfits halign hpg hright rfl
    refine ⟨fun hl => next_congr (h.trans (if_pos hl)), fun s1 hl ht h1 => next_congr ?_, fun hl ht => next_congr ?_⟩
    · rw [h, if_neg (by simp [hl]), if_neg (by simp [ht]), h1]
    · rw [h, if_neg (by simp [hl]), if_pos ht]
  case store =>
    have h := idSts_allowed hi hsize hofs hy hkind hfits halign hpg hright rfl
    refine ⟨fun hl => next_congr (h.trans (if_pos hl)), fun s1 hl ht h1 => next_congr ?_⟩
    rw [h, if_neg (by simp [hl]), if_neg (by simp [ht]), h1]
  case response =>
    refine ⟨fun hk => next_congr (transactionResponse_loadScalar he htask hu hk), fun c hk => ?_⟩
    have h := transactionResponse_store he htask hu hk
    exact ⟨fun hc => next_congr (by rw [h, hc]), fun p hc => next_congr (by rw [h, hc])⟩

end Sys2Proof.Machine
end

section
/-! O44: the vector instructions of Idnas. -/

namespace Sys2Proof.Machine

open Sys2Proof

/-! ## Vector and predicate registers -/

section
variable (s : State) (k : Nat)

theorem State.setVr_onlyIn (d : Nat) (v : Vec) : s.OnlyIn [.prog] (s.setVr k d v) := s.setCtx_onlyIn k _

theorem State.vr_setVr_same (d : Nat) (v : Vec) : (s.setVr k d v).vr k d = v := by
  rw [State.setVr, State.vr, State.ctx_setCtx_same, Tab.get_set_same]

theorem State.vr_setVr_ne {d j : Nat} (hj : j ≠ d) (v : Vec) : (s.setVr k d v).vr k j = s.vr k j := by
  rw [State.setVr, State.vr, State.ctx_setCtx_same, Tab.get_set_ne _ _ _ hj, State.vr]

end

/-! ## Field checks (R358; log entry 13) -/

theorem vecOk_two {f : FmtR} {types : List Nat} (hd : f.d.toNat < 16) (ha : f.a.toNat < 16) (hb : f.b.toNat < 16)
    (hty : f.ty.toNat ∈ types) : vecOk f true types = true := by
  simp [vecOk, hd, ha, hb, hty]

theorem vecOk_one {f : FmtR} {types : List Nat} (hd : f.d.toNat < 16) (ha : f.a.toNat < 16) (hb : f.b = 0)
    (hty : f.ty.toNat ∈ types) : vecOk f false types = true := by
  simp [vecOk, hd, ha, hb, hty]

theorem mem_allTypes {ty : Nat} (h : ty < 3) : ty ∈ [0, 1, 2] := by
  simp only [List.mem_cons, List.not_mem_nil, or_false]
  omega

theorem mem_realTypes {ty : Nat} (h : ty = 1 ∨ ty = 2) : ty ∈ [1, 2] := by simpa using h

/-! ## Merged results (R359) -/

section
variable {k t : Nat} {f : FmtR} {x : Task} {s : State}

theorem vecOp_two {types : List Nat} (hi : s.Issues k 1 [.v f.a.toNat, .v f.b.toNat, .v f.d.toNat, .p f.pg.toNat] t x)
    (hok : vecOk f true types = true) (op : Nat → Vec → Vec → Vec) :
    vecOp true types op k f s = s.merged k f f.ty.toNat (fixSoft f.ty.toNat (op f.ty.toNat (s.vr k f.a.toNat) (s.vr k f.b.toNat))) := by
  rw [vecOp, if_pos rfl, hok, State.issue_of_issues hi]
  dsimp only
  rw [if_pos rfl, State.vr_past, State.vr_past, State.vr_past, State.pr_past]
  rfl

theorem vecOp_one {types : List Nat} (hi : s.Issues k 1 [.v f.a.toNat, .v f.a.toNat, .v f.d.toNat, .p f.pg.toNat] t x)
    (hok : vecOk f false types = true) (op : Nat → Vec → Vec → Vec) :
    vecOp false types op k f s = s.merged k f f.ty.toNat (fixSoft f.ty.toNat (op f.ty.toNat (s.vr k f.a.toNat) (s.vr k 0))) := by
  rw [vecOp, if_neg Bool.false_ne_true, hok, State.issue_of_issues hi]
  dsimp only
  rw [if_neg Bool.false_ne_true, State.vr_past, State.vr_past, State.vr_past, State.pr_past]
  rfl

theorem idVsel_issued {ty : Nat} (hi : s.Issues k 1 [.v f.a.toNat, .v f.b.toNat, .v f.d.toNat, .p f.pg.toNat] t x)
    (hok : vecOk f true [0, 1, 2] = true) (hty : ty = f.ty.toNat) :
    idVsel k f s = (s.past k 1).setVr k f.d.toNat
      (fixSoft ty (mergeLanes ty (s.pr k f.pg.toNat) (s.vr k f.b.toNat) (s.vr k f.a.toNat))) := by
  subst hty
  rw [idVsel, hok, State.issue_of_issues hi]
  dsimp only
  rw [State.vr_past, State.vr_past, State.pr_past]

section
variable (hi : s.Issues k 1 [.v f.a.toNat, .v f.d.toNat, .p f.pg.toNat] t x) (hd : f.d.toNat < 16) (ha : f.a.toNat < 16)
include hi hd ha

theorem idVmag2_issued {a : Vec} (h : a = s.vr k f.a.toNat) (hb : f.b = 0) (hty : f.ty = 0) :
    idVmag2 k f s = s.merged k f 1 (mapComps 1 fun i =>
      if i < 16 then sat16 ((re16 a i * re16 a i + im16 a i * im16 a i) / 2 ^ 15) else 0) := by
  subst h
  rw [idVmag2, vecOk_one hd ha hb (by simp [hty]), State.issue_of_issues hi]
  dsimp only
  rw [State.vr_past, State.vr_past, State.pr_past]
  rfl

theorem idVshri_issued {a : Vec} (h : a = s.vr k f.a.toNat) (hb : f.b.toNat < 16) (hty : f.ty.toNat < 3) :
    idVshri k f s = s.merged k f f.ty.toNat (mapComps f.ty.toNat fun i =>
      satLane f.ty.toNat (roundShift f.b.toNat (laneInt a (compBits f.ty.toNat) i))) := by
  subst h
  rw [idVshri, vecOk_one (f := { f with b := 0 }) hd ha rfl (mem_allTypes hty), decide_eq_true hb, Bool.and_self, State.issue_of_issues hi]
  dsimp only
  rw [State.vr_past, State.vr_past, State.pr_past]
  rfl

end

/-! ## Comparisons, splats, extracts, demapping -/

theorem vecCmp_issued {ty : Nat} {a b : Vec} (hi : s.Issues k 1 [.v f.a.toNat, .v f.b.toNat, .p f.d.toNat, .p f.pg.toNat] t x)
    (hd : f.d.toNat < 8) (ha : f.a.toNat < 16) (hb : f.b.toNat < 16) (hty : ty = f.ty.toNat) (h12 : ty = 1 ∨ ty = 2)
    (hva : a = s.vr k f.a.toNat) (hvb : b = s.vr k f.b.toNat) (c : Int → Int → Bool) :
    vecCmp c k f s = (s.past k 1).setPr k f.d.toNat (cmpBits ty (s.pr k f.pg.toNat) (s.pr k f.d.toNat)
      fun i => c (laneInt a (laneBits ty) i) (laneInt b (laneBits ty) i)) := by
  subst hty hva hvb
  rw [vecCmp, vecOk_two (f := { f with d := 0 }) (Nat.zero_lt_succ _) ha hb (mem_realTypes h12), decide_eq_true hd, Bool.and_self,
    State.issue_of_issues hi]
  dsimp only
  rw [State.vr_past, State.vr_past, State.pr_past, State.pr_past]

theorem idVsplat_issued (hi : s.Issues k 1 [.s f.a.toNat, .v f.d.toNat, .p f.pg.toNat] t x) (hd : f.d.toNat < 16) (hb : f.b = 0)
    (hty : f.ty.toNat < 3) :
    idVsplat k f s = s.merged k f f.ty.toNat (fixSoft f.ty.toNat
      (buildVec (laneBits f.ty.toNat) (laneCount f.ty.toNat) fun _ => (s.sr k f.a.toNat).toNat)) := by
  rw [idVsplat, show (decide (f.d.toNat < 16) && f.b == 0 && decide (f.ty.toNat < 3)) = true by simp [hd, hb, hty], State.issue_of_issues hi]
  dsimp only
  rw [State.vr_past, State.pr_past, State.sr_past]
  rfl

theorem idVext_issued {n : Nat} (hi : s.Issues k 1 [.v f.a.toNat, .s f.d.toNat] t x) (ha : f.a.toNat < 16)
    (hpg : f.pg = 0 ∨ f.pg = 1 ∧ f.ty = 2) (hty : f.ty.toNat < 3) (hn : n = extLane f) (hlane : n < laneCount f.ty.toNat) :
    idVext k f s = (s.past k 1).setSr k f.d.toNat (BitVec.ofInt 64 (laneInt (s.vr k f.a.toNat) (laneBits f.ty.toNat) n)) := by
  subst hn
  have hok : (decide (f.a.toNat < 16) && decide (f.ty.toNat < 3) && decide (f.pg.toNat < 2) && (f.pg == 0 || f.ty == 2) &&
      decide (extLane f < laneCount f.ty.toNat)) = true := by
    rcases hpg with h | ⟨h, hs⟩
    · simp [ha, hty, hlane, h]
    · simpa [ha, h, hs] using hlane
  rw [idVext, hok, State.issue_of_issues hi, State.vr_past]

theorem idVdemap_issued (hi : s.Issues k 1 [.v f.a.toNat, .v f.b.toNat, .v f.d.toNat] t x) (hd : f.d.toNat < 16) (ha : f.a.toNat < 16)
    (hb : f.b.toNat < 16) (hty : f.ty = 0) (hpg : f.pg.toNat ≤ 4) :
    idVdemap k f s = (s.past k 1).setVr k f.d.toNat (buildVec 8 64 fun i =>
      intBits 8 (demapLane f.pg.toNat (s.vr k f.a.toNat) (s.vr k f.b.toNat) i)) := by
  rw [idVdemap, vecOk_two hd ha hb (by simp [hty]), decide_eq_true hpg, Bool.and_self, State.issue_of_issues hi]
  dsimp only
  rw [State.vr_past, State.vr_past]

end

/-- Settles O44: an equation for each form (fields: R358; minus 128 replaced also where lanes are only moved: log entry 29; the reading of
v[b] by VDEMAP: log entry 138), of which each instruction is one operation. -/
theorem vectorInstructionsWorkLaneByLane : Obligations.VectorInstructionsWorkLaneByLane := by
  refine ⟨fun k t ty f x a b s hi hd ha hb hty hva hvb => ?two, fun k t ty f x a s hi hd ha hb hty hva => ?one,
    fun k t f x a s hi hd ha hva => ⟨fun hb hty => next_congr (idVmag2_issued hi hd ha hva hb hty),
      fun hb hty => next_congr (idVshri_issued hi hd ha hva hb hty)⟩,
    fun k t ty f x a b s hi hd ha hb hty h12 hva hvb => ?compare,
    fun k t f x s hi hd hb hty => next_congr (idVsplat_issued hi hd hb hty),
    fun k t f x s hi ha hpg hty hlane => next_congr (idVext_issued hi ha (.inl hpg) hty (by simp [extLane, hpg]) hlane),
    fun k t f x s hi ha hpg hty => ?upperHalf,
    fun k t f x s hi hd ha hb hty hpg => next_congr (idVdemap_issued hi hd ha hb hty hpg), fun k d j v s => ?file⟩
  case two =>
    subst hty hva hvb
    have h {types : List Nat} (hm : f.ty.toNat ∈ types) := vecOp_two hi (vecOk_two hd ha hb hm)
    refine ⟨fun h3 => ?all, fun h0 => next_congr ?complex, fun h1 => next_congr ?real, fun h12 => ?extrema⟩
    case all =>
      have hm := mem_allTypes h3
      exact ⟨next_congr (h hm _), next_congr (h hm _), next_congr (h hm _), next_congr (h hm _), next_congr (h hm _),
        next_congr (idVsel_issued hi (vecOk_two hd ha hb hm) rfl)⟩
    case complex =>
      rw [idVmul, h (by simp [h0]), h0]
      rfl
    case real =>
      rw [idVmul, h (by simp [h1]), h1]
      rfl
    case extrema =>
      have hm := mem_realTypes h12
      exact ⟨next_congr (h hm _), next_congr (h hm _)⟩
  case one =>
    subst hty hva
    have h {types : List Nat} (hm : f.ty.toNat ∈ types) := vecOp_one hi (vecOk_one hd ha hb hm)
    refine ⟨fun h0 => next_congr ?conj, fun h12 => next_congr (h (mem_realTypes h12) _)⟩
    case conj =>
      rw [idVconj, h (by simp [h0]), h0]
      rfl
  case compare =>
    have h := vecCmp_issued hi hd ha hb hty h12 hva hvb
    exact ⟨next_congr (h _), next_congr (h _)⟩
  case upperHalf =>
    have hlane : 32 + f.b.toNat < laneCount f.ty.toNat := by
      rw [hty]
      exact Nat.add_lt_add_left f.b.isLt 32
    have h := idVext_issued hi ha (.inr ⟨hpg, hty⟩) (by simp [hty]) (by simp [extLane, hpg]) hlane
    rw [hty] at h
    exact next_congr h
  case file =>
    exact ⟨(s.past_onlyIn k 1).trans (State.setVr_onlyIn _ k d v), State.vr_setVr_same _ k d v,
      fun hj => (State.vr_setVr_ne _ k hj v).trans (s.vr_past k 1 j)⟩

end Sys2Proof.Machine
end

section
/-! O45: the accumulator and predicate instructions of Idnas. -/

namespace Sys2Proof.Machine

open Sys2Proof

/-! ## Predicate registers and accumulators -/

section
variable (s : State) (k : Nat)

theorem State.setPr_zero (v : DWord) : s.setPr k 0 v = s := rfl

theorem State.pr_zero : s.pr k 0 = BitVec.allOnes 64 := rfl

theorem State.setPr_onlyIn (d : Nat) (v : DWord) : s.OnlyIn [.prog] (s.setPr k d v) := by
  unfold State.setPr
  split
  · exact s.onlyIn_refl _
  · exact s.setCtx_onlyIn k _

theorem State.pr_setPr_same {d : Nat} (hd : d ≠ 0) (v : DWord) : (s.setPr k d v).pr k d = v := by
  rw [State.setPr, if_neg hd, State.pr, if_neg hd, State.ctx_setCtx_same, Tab.get_set_same]

theorem State.pr_setPr_ne {d j : Nat} (hj : j ≠ d) (v : DWord) : (s.setPr k d v).pr k j = s.pr k j := by
  unfold State.setPr
  split
  · rfl
  · rw [State.pr, State.ctx_setCtx_same, Tab.get_set_ne _ _ _ hj, State.pr]

theorem State.setAr_onlyIn (d : Nat) (v : BitVec 1536) : s.OnlyIn [.prog] (s.setAr k d v) := s.setCtx_onlyIn k _

theorem State.setAr_ctx (d : Nat) (v : BitVec 1536) :
    (s.setAr k d v).ctx k = { s.ctx k with a := Tab.set (fun _ => 0) (s.ctx k).a d v } := s.ctx_setCtx_same k _

theorem State.orAsat_ctx (b : Bool) : (s.orAsat k b).ctx k = { s.ctx k with asat := (s.ctx k).asat || b } := s.ctx_setCtx_same k _

end

/-! ## A saturating write (R362) -/

theorem satInt_ne_iff (lo hi x : Int) : satInt lo hi x ≠ x ↔ x < lo ∨ hi < x := by
  unfold satInt
  split
  · omega
  · split <;> omega

/-- A component saturates where it lies beyond plus or minus 2^47 - 1. -/
theorem over48_eq (x : Int) : over48 x = (decide (x < -(2 ^ 47 - 1)) || decide (2 ^ 47 - 1 < x)) := by
  rw [Bool.eq_iff_iff, over48, bne_iff_ne, Bool.or_eq_true, decide_eq_true_iff, decide_eq_true_iff]
  exact satInt_ne_iff _ _ x

section
variable (s : State) (k d : Nat) (c : Nat → Int)

theorem State.putAcc_ctx : (s.putAcc k d c).ctx k = { s.ctx k with
    a := Tab.set (fun _ => 0) (s.ctx k).a d (buildAcc fun i => sat48 (c i))
    asat := (s.ctx k).asat || anyOver c } := by
  rw [State.putAcc, State.orAsat_ctx, State.setAr_ctx]

theorem State.putAcc_onlyIn : s.OnlyIn [.prog] (s.putAcc k d c) := (s.setAr_onlyIn k d _).trans (State.setCtx_onlyIn _ k _)

theorem State.ar_putAcc_same : (s.putAcc k d c).ar k d = buildAcc fun i => sat48 (c i) := by
  rw [State.ar, State.putAcc_ctx, Tab.get_set_same]

theorem State.ar_putAcc_ne {j : Nat} (hj : j ≠ d) : (s.putAcc k d c).ar k j = s.ar k j := by
  rw [State.ar, State.putAcc_ctx, Tab.get_set_ne _ _ _ hj, State.ar]

theorem State.putAcc_asat : ((s.putAcc k d c).ctx k).asat =
    ((s.ctx k).asat || (List.range 32).any fun i => decide (c i < -(2 ^ 47 - 1)) || decide (2 ^ 47 - 1 < c i)) := by
  rw [State.putAcc_ctx, anyOver]
  simp only [over48_eq]

end

/-! ## Accumulator instructions (R359, R360) -/

section
variable {k t : Nat} {f : FmtR} {x : Task} {s : State}

section
variable {a b : Vec} {c : BitVec 1536} (hi : s.Issues k 1 [.v f.a.toNat, .v f.b.toNat, .a f.d.toNat] t x) (hok : accOk f = true)
  (hva : a = s.vr k f.a.toNat) (hvb : b = s.vr k f.b.toNat)
include hi hok hva hvb

theorem idCmac_issued (hc : c = s.ar k f.d.toNat) : idCmac k f s = (s.past k 1).putAcc k f.d.toNat fun i =>
    accComp c i + (if i % 2 = 0 then mulRe a b (i / 2) else mulIm a b (i / 2)) := by
  subst hva hvb hc
  rw [idCmac, hok, State.issue_of_issues hi]
  dsimp only
  rw [State.vr_past, State.vr_past, State.ar_past]

theorem idCmacc_issued (hc : c = s.ar k f.d.toNat) : idCmacc k f s = (s.past k 1).putAcc k f.d.toNat fun i =>
    accComp c i + (if i % 2 = 0 then mulcRe a b (i / 2) else mulcIm a b (i / 2)) := by
  subst hva hvb hc
  rw [idCmacc, hok, State.issue_of_issues hi]
  dsimp only
  rw [State.vr_past, State.vr_past, State.ar_past]

theorem idCmul_issued : idCmul k f s = (s.past k 1).putAcc k f.d.toNat fun i =>
    if i % 2 = 0 then mulRe a b (i / 2) else mulIm a b (i / 2) := by
  subst hva hvb
  rw [idCmul, hok, State.issue_of_issues hi]
  dsimp only
  rw [State.vr_past, State.vr_past]

end

section
variable (hi : s.Issues k 1 [.a f.d.toNat] t x)
  (hok : (decide (f.d.toNat < 4) && f.a == 0 && f.b == 0 && f.pg == 0 && f.ty == 0) = true)
include hi hok

theorem idAclr_issued : idAclr k f s = (s.past k 1).setAr k f.d.toNat 0 := by
  rw [idAclr, hok, State.issue_of_issues hi]

theorem idAreduce_issued {c : BitVec 1536} (hc : c = s.ar k f.d.toNat) : idAreduce k f s = (s.past k 1).putAcc k f.d.toNat fun i =>
    if i = 0 then accSum c 0 16 else if i = 1 then accSum c 1 16 else 0 := by
  subst hc
  rw [idAreduce, hok, State.issue_of_issues hi, State.ar_past]

end

theorem idArnd_issued (hi : s.Issues k 1 [.a f.a.toNat, .v f.d.toNat] t x) (hd : f.d.toNat < 16) (ha : f.a.toNat < 4) (hpg : f.pg = 0)
    (hty : f.ty = 0) : idArnd k f s = (s.past k 1).setVr k f.d.toNat (mapComps 0 fun i =>
      sat16 (roundShift f.b.toNat (accComp (s.ar k f.a.toNat) i))) := by
  rw [idArnd, show (decide (f.d.toNat < 16) && decide (f.a.toNat < 4) && f.pg == 0 && f.ty == 0) = true by simp [hd, ha, hpg, hty],
    State.issue_of_issues hi, State.ar_past]

/-! ## Predicate instructions (R359) -/

theorem predOp_issued (hi : s.Issues k 1 [.p f.a.toNat, .p f.b.toNat, .p f.d.toNat] t x) (hok : predOk f true = true)
    (op : DWord → DWord → DWord) :
    predOp op k f s = (s.past k 1).setPr k f.d.toNat (op (s.pr k f.a.toNat) (s.pr k f.b.toNat)) := by
  rw [predOp, hok, State.issue_of_issues hi, State.pr_past, State.pr_past]

theorem idPnot_issued (hi : s.Issues k 1 [.p f.a.toNat, .p f.d.toNat] t x) (hok : predOk f false = true) :
    idPnot k f s = (s.past k 1).setPr k f.d.toNat (~~~(s.pr k f.a.toNat)) := by
  rw [idPnot, hok, State.issue_of_issues hi, State.pr_past]

section
variable (hb : f.b = 0) (hpg : f.pg = 0) (hty : f.ty = 0)
include hb hpg hty

theorem idPset_issued (hi : s.Issues k 1 [.s f.a.toNat, .p f.d.toNat] t x) (hd : f.d.toNat < 8) :
    idPset k f s = (s.past k 1).setPr k f.d.toNat (s.sr k f.a.toNat) := by
  rw [idPset, show (decide (f.d.toNat < 8) && f.b == 0 && f.pg == 0 && f.ty == 0) = true by simp [hd, hb, hpg, hty],
    State.issue_of_issues hi, State.sr_past]

theorem idPget_issued (hi : s.Issues k 1 [.p f.a.toNat, .s f.d.toNat] t x) (ha : f.a.toNat < 8) :
    idPget k f s = (s.past k 1).setSr k f.d.toNat (s.pr k f.a.toNat) := by
  rw [idPget, show (decide (f.a.toNat < 8) && f.b == 0 && f.pg == 0 && f.ty == 0) = true by simp [ha, hb, hpg, hty],
    State.issue_of_issues hi, State.pr_past]

end

end

/-- Settles O45: an equation for each instruction that issues (fields: R358), what a saturating write leaves in the context, and the laws of
the predicate registers. -/
theorem accumulatorsAndPredicatesAreWritten : Obligations.AccumulatorsAndPredicatesAreWritten := by
  refine ⟨fun k t f x a b c s hi hd ha hb hpg hty hva hvb hc => ?products, fun k t f x c s hi hd ha hb hpg hty hc => ?whole,
    fun k t f x s hi hd ha hpg hty => next_congr (idArnd_issued hi hd ha hpg hty), fun k t f x s hi hd ha hb hpg hty => ?logic,
    fun k t f x s hi hd ha hb hpg hty => next_congr (idPnot_issued hi (by simp [predOk, hd, ha, hb, hpg, hty])),
    fun k t f x s hb hpg hty => ⟨fun hi hd => next_congr (idPset_issued hb hpg hty hi hd),
      fun hi ha => next_congr (idPget_issued hb hpg hty hi ha)⟩,
    fun k d j c s => ⟨s.putAcc_onlyIn k d c, s.ar_putAcc_same k d c, fun hj => s.ar_putAcc_ne k d c hj, s.putAcc_asat k d c⟩,
    fun k d j v s => ⟨s.setPr_zero k v, s.pr_zero k, s.setPr_onlyIn k d v, fun hd => s.pr_setPr_same k hd v,
      fun hj => s.pr_setPr_ne k hj v⟩⟩
  case products =>
    have hok : accOk f = true := by simp [accOk, hd, ha, hb, hpg, hty]
    exact ⟨next_congr (idCmac_issued hi hok hva hvb hc), next_congr (idCmacc_issued hi hok hva hvb hc),
      next_congr (idCmul_issued hi hok hva hvb)⟩
  case whole =>
    have hok : (decide (f.d.toNat < 4) && f.a == 0 && f.b == 0 && f.pg == 0 && f.ty == 0) = true := by simp [hd, ha, hb, hpg, hty]
    exact ⟨next_congr (idAclr_issued hi hok), next_congr (idAreduce_issued hi hok hc)⟩
  case logic =>
    have h := predOp_issued hi (by simp [predOk, hd, ha, hb, hpg, hty])
    exact ⟨next_congr (h _), next_congr (h _), next_congr (h _)⟩

end Sys2Proof.Machine
end

section
/-! O46: the queue instructions of Idnas. -/

namespace Sys2Proof.Machine

open Sys2Proof

/-! ## Queues past an instruction -/

@[simp] theorem State.queue_past (s : State) (k n h : Nat) : (s.past k n).queue h = s.queue h := rfl

@[simp] theorem State.target_past (s : State) (k n j t : Nat) (x : Task) (h : Nat) : (s.past k n).target j t x h = s.target j t x h := rfl

theorem State.queueRoom_past_iff (s : State) (k n h : Nat) : (s.past k n).queueRoom h = true ↔ (s.queue h).length < s.queueCap h :=
  decide_eq_true_iff

theorem State.setQueue_onlyIn (s : State) (h : Nat) (q : List Vec) : s.OnlyIn [.prog] (s.setQueue h q) := s.prog_onlyIn _

theorem State.queue_setQueue (s : State) (h j : Nat) (q : List Vec) : (s.setQueue h q).queue j = if j = h then q else s.queue j :=
  Tab.get_set ..

section
variable {k t h right : Nat} {x : Task} {s : State} {hreg : Nat} (hh : h = (s.sr k hreg).toNat % 2 ^ 32)
include hh

/-- What a queue instruction does past its word: its operation, a fault of cause 2 or a wait for a tag (R352, R354, R373; log entry 27). -/
theorem State.onQueue_past (op : State → Nat → State) :
    (s.past k 1).onQueue k t x hreg right op = if queueOk (s.target k t x h) right = false then (s.past k 1).taskFault k t x 2
      else if s.hasTag (k / 4) = false then (s.past k 1).waitTag k 1 else op (s.past k 1) h := by
  subst hh
  rw [State.onQueue, State.sr_past]
  rfl

theorem State.onQueue_goes (hok : queueOk (s.target k t x h) right = true) (ht : s.hasTag (k / 4) = true) (op : State → Nat → State) :
    (s.past k 1).onQueue k t x hreg right op = op (s.past k 1) h := by
  rw [State.onQueue_past hh, if_neg (by simp [hok]), if_neg (by simp [ht])]

end

/-! ## The instructions (R364) -/

section
variable {k t h : Nat} {f : FmtR} {x : Task} {s : State} (hpg : f.pg = 0) (hty : f.ty = 0) (hh : h = (s.sr k f.a.toNat).toNat % 2 ^ 32)
include hpg hty hh

section
variable (hok : queueOk (s.target k t x h) 2 = true) (ht : s.hasTag (k / 4) = true) (hb : f.b.toNat < 16)
include hok ht hb

theorem idQpush_issued (hi : s.Issues k 1 [.s f.a.toNat, .v f.b.toNat] t x) (hd : f.d = 0) :
    idQpush k f s = if (s.queue h).length < s.queueCap h then ((s.past k 1).touchTag (k / 4)).setQueue h (s.queue h ++ [s.vr k f.b.toNat])
      else (s.past k 1).waitQueue k t h (.push h (s.vr k f.b.toNat)) := by
  rw [idQpush, show (f.d == 0 && decide (f.b.toNat < 16) && f.pg == 0 && f.ty == 0) = true by simp [hd, hb, hpg, hty],
    State.issue_of_issues hi, State.onQueue_goes hh hok ht, State.vr_past]
  exact if_congr (s.queueRoom_past_iff k 1 h) rfl rfl

theorem idQtpush_issued (hi : s.Issues k 1 [.s f.a.toNat, .v f.b.toNat, .s f.d.toNat] t x) :
    idQtpush k f s = if (s.queue h).length < s.queueCap h then
        (((s.past k 1).touchTag (k / 4)).setQueue h (s.queue h ++ [s.vr k f.b.toNat])).setSr k f.d.toNat 1
      else ((s.past k 1).touchTag (k / 4)).setSr k f.d.toNat 0 := by
  rw [idQtpush, show (decide (f.b.toNat < 16) && f.pg == 0 && f.ty == 0) = true by simp [hb, hpg, hty],
    State.issue_of_issues hi, State.onQueue_goes hh hok ht, State.vr_past]
  exact if_congr (s.queueRoom_past_iff k 1 h) rfl rfl

end

section
variable (hok : queueOk (s.target k t x h) 1 = true) (ht : s.hasTag (k / 4) = true)
include hok ht

theorem idQpop_issued (hi : s.Issues k 1 [.s f.a.toNat, .v f.d.toNat] t x) (hd : f.d.toNat < 16) (hb : f.b = 0) :
    idQpop k f s = match s.queue h with
      | m :: r => (((s.past k 1).touchTag (k / 4)).setQueue h r).setVr k f.d.toNat m
      | [] => (s.past k 1).waitQueue k t h (.pop h f.d.toNat) := by
  rw [idQpop, show (decide (f.d.toNat < 16) && f.b == 0 && f.pg == 0 && f.ty == 0) = true by simp [hd, hb, hpg, hty],
    State.issue_of_issues hi, State.onQueue_goes hh hok ht]
  rfl

theorem idQtpop_issued (hi : s.Issues k 1 [.s f.a.toNat, .s f.b.toNat, .v f.d.toNat] t x) (hd : f.d.toNat < 16) :
    idQtpop k f s = match s.queue h with
      | m :: r => ((((s.past k 1).touchTag (k / 4)).setQueue h r).setVr k f.d.toNat m).setSr k f.b.toNat 1
      | [] => ((s.past k 1).touchTag (k / 4)).setSr k f.b.toNat 0 := by
  rw [idQtpop, show (decide (f.d.toNat < 16) && f.pg == 0 && f.ty == 0) = true by simp [hd, hpg, hty], State.issue_of_issues hi,
    State.onQueue_goes hh hok ht]
  rfl

end

theorem idQlen_issued (hi : s.Issues k 1 [.s f.a.toNat, .s f.d.toNat] t x) (hb : f.b = 0) :
    idQlen k f s = if queueOk (s.target k t x h) 1 = false then (s.past k 1).taskFault k t x 2
      else if s.hasTag (k / 4) = false then (s.past k 1).waitTag k 1
      else ((s.past k 1).touchTag (k / 4)).setSr k f.d.toNat (BitVec.ofNat 64 (s.queue h).length) := by
  rw [idQlen, show (f.b == 0 && f.pg == 0 && f.ty == 0) = true by simp [hb, hpg, hty], State.issue_of_issues hi, State.onQueue_past hh]
  rfl

end

/-! ## The end of a wait (R364) -/

section
variable {k h d : Nat} {m : Vec} {s : State}

theorem queueWaitResume_push (hw : (s.ctx k).wait = .push h m) :
    queueWaitResume k s = if (s.queue h).length < s.queueCap h then (s.leaveQueue k).setQueue h (s.queue h ++ [m]) else s := by
  rw [queueWaitResume, hw]
  exact if_congr decide_eq_true_iff rfl rfl

theorem queueWaitResume_pop (hw : (s.ctx k).wait = .pop h d) :
    queueWaitResume k s = match s.queue h with
      | m :: r => ((s.leaveQueue k).setQueue h r).setVr k d m
      | [] => s := by
  rw [queueWaitResume, hw] <;> rfl

theorem queueWaitResume_running (hw : (s.ctx k).wait = .running) : queueWaitResume k s = s := by
  rw [queueWaitResume, hw]

end

/-- Settles O46: an equation for each instruction that issues and for the end of each wait (a handle as the low 32 bits of its register: log
entry 27; a tag drawn and returned within the command: log entry 162). -/
theorem queueInstructionsPassMessages : Obligations.QueueInstructionsPassMessages := by
  refine ⟨fun k t h f x s hpg hty hh hok ht hb => ⟨fun hi hd => next_congr (idQpush_issued hpg hty hh hok ht hb hi hd),
      fun hi => next_congr (idQtpush_issued hpg hty hh hok ht hb hi)⟩,
    fun k t h f x s hpg hty hh hok ht => ⟨fun hi hd hb => next_congr (idQpop_issued hpg hty hh hok ht hi hd hb),
      fun hi hd => next_congr (idQtpop_issued hpg hty hh hok ht hi hd), fun hi hb => next_congr ?len⟩,
    fun k t h f x s hi hb hpg hty hh => ?refused, fun k h d m r s => ?resume, fun h j q s => ?laws⟩
  case len => rw [idQlen_issued hpg hty hh hi hb, if_neg (by simp [hok]), if_neg (by simp [ht])]
  case refused =>
    have hlen := idQlen_issued hpg hty hh hi hb
    exact ⟨fun hok => next_congr (hlen.trans (if_pos hok)),
      fun hok ht => next_congr (by rw [hlen, if_neg (by simp [hok]), if_pos ht])⟩
  case resume =>
    exact ⟨fun hw hroom => next_congr ((queueWaitResume_push hw).trans (if_pos hroom)),
      fun hw hfull => next_congr ((queueWaitResume_push hw).trans (if_neg hfull)),
      fun hw hq => next_congr (by rw [queueWaitResume_pop hw, hq]), fun hw hq => next_congr (by rw [queueWaitResume_pop hw, hq]),
      fun hw => next_congr (queueWaitResume_running hw)⟩
  case laws =>
    exact ⟨(s.queue_setQueue h h q).trans (if_pos rfl), fun hj => (s.queue_setQueue h j q).trans (if_neg hj), s.setQueue_onlyIn h q⟩

end Sys2Proof.Machine
end

section
/-! O27: calibration requests, runs and their ends. -/

namespace Sys2Proof.Machine

open Sys2Proof

/-! ## Requests (R338) -/

section
variable {who : Who} {w : Word} {set target : Nat} {s s1 s2 : State} (hg : s.gate who .CAL_CMD 0 = .pass) (h1 : s1 = s.store .CAL_CMD 0 w)
  (hset : set = s1.fld F.CAL_CMD_SET 0) (htarget : target = s1.fld F.CAL_CMD_TARGET 0)
  (h2 : s2 = (s1.setFld F.CAL_STAT_SET 0 set).setFld F.CAL_STAT_TARGET 0 target)
include hg h1 hset htarget h2

theorem calGo_pass : calGo who w s = match s2.calRefusal set target with
    | some st => s2.setFld F.CAL_STAT_RESULT 0 st.code
    | none => ({ s2 with cal := { s2.cal with queue := s2.cal.queue ++ [(set, target)] } }).calStat := by
  subst h2 htarget hset h1
  exact State.gated_pass hg _

theorem calGo_refused {st : Status} (hr : s2.calRefusal set target = some st) :
    calGo who w s = s2.setFld F.CAL_STAT_RESULT 0 st.code := by
  rw [calGo_pass hg h1 hset htarget h2, hr]

theorem calGo_queued (hr : s2.calRefusal set target = none) :
    calGo who w s = ({ s2 with cal := { s2.cal with queue := s2.cal.queue ++ [(set, target)] } }).calStat := by
  rw [calGo_pass hg h1 hset htarget h2, hr]

end

/-! ## The start of a run (R344, R346) -/

section
variable {set target : Nat} {l : List (Nat × Nat)} {s : State} (hrun : s.cal.run = none) (hq : s.cal.queue = (set, target) :: l)
include hrun hq

theorem calibrationStart_waits (hset : set = 1)
    (h : s.onAir target = true ∨ s.onlyPort target = true ∧ s.spanRoom (s.portFg target) = false) : calibrationStart s = s := by
  rw [calibrationStart, hrun, hq]
  exact if_pos ⟨hset, h⟩

/-- A set that is not of a port starts at once; with the GS domain powered nothing has to be powered for it. -/
theorem calibrationStart_powered {s1 : State} (hset : set ≠ 1) (hdom : s.dom domGs ≠ .off)
    (h1 : s1 = { s with cal := { s.cal with
      queue := l
      run := some ({ set := set, target := target, refCnt := (s.reg .CAL_CNT 0).toNat, powered := false } : CalRun) } }) :
    calibrationStart s = (if set = 2 then { s1.setGsCh target { s1.gsCh target with cal := true } with
      fm := { s1.fm with spoiled := target / 2 :: s1.fm.spoiled.filter fun p => p != target / 2 } } else s1).calStat := by
  subst h1
  rw [calibrationStart, hrun, hq]
  dsimp only
  rw [if_neg fun h => hset h.1, beq_eq_false_iff_ne.2 hdom, if_neg Bool.false_ne_true, if_neg hset]

end

/-! ## The end of the measurements and of the run (R339 to R341, R347) -/

section
variable {r : CalRun} {s : State} (hrun : s.cal.run = some r)
include hrun

section
variable {m : List (Int × Int)} (hphase : r.phase = .measuring) (hlen : m.length = (calKinds r.set r.target).length)
include hphase hlen

theorem calMeasureDone_accepted (hv : s.calVerdict (calKinds r.set r.target) m = .ok) :
    calMeasureDone m s = ({ s with cal := { s.cal with run := some { r with
        phase := .committing
        coefs := m.map fun (x : Int × Int) => x.1 + x.2 } } }).submit 2 (r.set * 256 + r.target) 0
      (.calibration r.set r.target r.refCnt (min ((s.reg .CAL_CNT r.set).toNat + 1) 0xFFFFFFFF) (m.map fun (x : Int × Int) => x.1 + x.2)) 1 := by
  rw [calMeasureDone, hrun]
  dsimp only
  rw [if_neg (by simp [hphase, hlen]), hv]

theorem calMeasureDone_disagree {s1 : State} (hv : s.calVerdict (calKinds r.set r.target) m = .calDisagree)
    (h1 : s1 = s.calOutcome r.set r.target .calDisagree) :
    calMeasureDone m s = if r.set = 0 then s1.calRelease r else
      { s1 with cal := { s1.cal with run := some { r with phase := .returning } } } := by
  subst h1
  rw [calMeasureDone, hrun]
  dsimp only
  rw [if_neg (by simp [hphase, hlen]), hv]

end

theorem calTargetReturn_returning (hphase : r.phase = .returning) :
    calTargetReturn s = (if r.accepted then s.setInForce r else s).calRelease r := by
  rw [calTargetReturn, hrun]
  exact if_pos hphase

theorem calAbandon_drained (hmode : s.pwr.mode ≠ .ember) (hdrain : s.draining domGs = true) (hphase : r.phase ≠ .returning) :
    calAbandon s = (s.calOutcome r.set r.target .abandoned).calRelease r := by
  have hstopped : s.calStopped r = true := by simp [State.calStopped, hdrain]
  rw [calAbandon, if_neg hmode, hrun]
  dsimp only
  rw [if_pos hstopped, State.calAbandon, hrun]
  exact if_neg hphase

end

theorem calCommitLanded_programmed {w : Waiting} {s : State} (hw : s.programmed = some w) (hk : w.record.kind = 2) :
    calCommitLanded s = (s.commit w).landed w.record := by
  rw [calCommitLanded, hw]
  exact if_pos hk

/-- Settles O27: an equation for each command, its guards met or, for a request refused and a start that waits, not met. -/
theorem calibrationsRunAndLand : Obligations.CalibrationsRunAndLand :=
  ⟨fun _ _ _ _ _ _ _ hg h1 hset htarget h2 =>
    ⟨fun _ hr => next_congr (calGo_refused hg h1 hset htarget h2 hr), fun hr => next_congr (calGo_queued hg h1 hset htarget h2 hr)⟩,
    fun _ _ _ _ hrun hq hset hair => next_congr (calibrationStart_waits hrun hq hset (.inl hair)),
    fun _ _ _ hrun hq hdom => next_congr (calibrationStart_powered hrun hq (by decide) hdom rfl),
    fun _ _ _ hrun hq hdom => next_congr (calibrationStart_powered hrun hq (by decide) hdom rfl),
    fun _ _ _ hrun hq honly hroom => next_congr (calibrationStart_waits hrun hq rfl (.inr ⟨honly, hroom⟩)),
    fun _ _ _ hrun hphase hlen hv => next_congr (calMeasureDone_accepted hrun hphase hlen hv),
    fun _ _ _ _ hrun hphase hlen hv h1 => next_congr (calMeasureDone_disagree hrun hphase hlen hv h1),
    fun _ _ hrun hphase => next_congr (calTargetReturn_returning hrun hphase), fun _ hmode => next_congr (if_pos hmode),
    fun _ _ hmode hrun hdrain hphase => next_congr (calAbandon_drained hrun hmode hdrain hphase),
    fun _ _ _ hread => next_congr (if_pos hread), fun _ _ hw hk => next_congr (calCommitLanded_programmed hw hk)⟩

end Sys2Proof.Machine
end

section
/-! O28: the Bedroll's submission, programming, landing, failure, compaction and commands. -/

namespace Sys2Proof.Machine

open Sys2Proof

/-! ## What finding room on the dies leaves as it was (R482) -/

theorem State.bed_onlyIn (s : State) (x : Bed) : s.OnlyIn [.bed] { s with bed := x } := by
  intro p hp
  cases p with
  | bed => exact absurd (by decide) hp
  | _ => rfl

/-- From `s` to `t` only the segments and the open ones among them may have changed. -/
def State.SegsOnly (s t : State) : Prop :=
  ∃ g o, t = { s with bed := { s.bed with
    segs := g
    openSegs := o } }

namespace State.SegsOnly

theorem refl (s : State) : s.SegsOnly s := ⟨_, _, rfl⟩

theorem trans {s t u : State} (h : s.SegsOnly t) (k : t.SegsOnly u) : s.SegsOnly u := by
  obtain ⟨g, o, rfl⟩ := h
  obtain ⟨g', o', rfl⟩ := k
  exact ⟨g', o', rfl⟩

theorem setSeg (s : State) (k : Nat) (x : Seg) : s.SegsOnly (s.setSeg k x) := ⟨_, _, rfl⟩

theorem openFresh (s : State) (die : Nat) : s.SegsOnly (s.openFresh die) := ⟨_, _, rfl⟩

theorem roomFor (s : State) (die n : Nat) : s.SegsOnly (s.roomFor die n) := by
  unfold State.roomFor
  dsimp only
  split
  · exact refl s
  · split
    · exact (setSeg s _ _).trans (openFresh _ die)
    · exact openFresh s die

theorem takePages (s : State) (n : Nat) (l : List Nat) : s.SegsOnly (s.takePages n l) := by
  induction l generalizing s with
  | nil => exact refl s
  | cons d l ih => exact (roomFor s d n).trans ((setSeg _ _ _).trans (ih _))

theorem wastePages (s : State) (w : Waiting) (l : List Waiting) : s.SegsOnly (s.wastePages w l) := by
  induction l generalizing s with
  | nil => exact refl s
  | cons x l ih =>
    unfold State.wastePages
    split
    · exact (takePages s _ _).trans (ih _)
    · exact ih s

end State.SegsOnly

/-! ## Submission and programming (R480 to R484, R487) -/

theorem recordSubmit_valid {kind pieces : Nat} (h1 : 1 ≤ kind) (h8 : kind ≤ 8) (hp : 1 ≤ pieces) (h5 : pieces ≤ 5) (key key2 : Nat) (p : Payload)
    (s : State) : recordSubmit kind key key2 p pieces s = s.submit kind key key2 p pieces := if_pos ⟨h1, h8, hp, h5⟩

section
variable {w : Waiting} {s : State} (hp : s.programmed = none) (hw : bestWaiting s.bed.waiting = some w)
include hp hw

theorem pieceProgrammed_best : ∃ t, pieceProgrammed s = t ∧ s.OnlyIn [.bed] t ∧ t.bed.records = s.bed.records ∧
    t.bed.waiting = replaceWaiting { w with done := w.done + 1 } (setBack w s.bed.waiting) ∧
    t.bed.rateLog = if w.record.copy then s.bed.rateLog
      else (s.cmp.sec, 4 * min 4 (recPages w.record - 4 * w.done) * (diesOf w.record.kind).length) :: s.bed.rateLog := by
  obtain ⟨g, o, h⟩ := State.SegsOnly.wastePages s w s.bed.waiting
  refine ⟨_, rfl, ?_⟩
  rw [pieceProgrammed, hp, if_neg (by decide), hw]
  dsimp only
  rw [h]
  exact ⟨s.bed_onlyIn _, rfl, rfl, rfl⟩

/-- What a failed piece does on the die `d` a free choice picks: log entry 207. -/
theorem pieceFail_on {d : Nat} (hd : (pickFrom (diesOf w.record.kind) (Config.freeNat s.free)).getD 0 = d) {s1 : State}
    (h1 : s1 = ((s.drew.setSeg (s.openSeg d) { s.seg (s.openSeg d) with state := .bad }).openFresh d).takePages (4 * w.done)
      ((diesOf w.record.kind).filter fun x => x != d)) :
    pieceFail s = (({ s1 with bed := { s1.bed with waiting := replaceWaiting { w with done := 0 } s1.bed.waiting } }).setFld
      F.BED_STAT_BADSEG 0 1).countDetectionAt 9 pageBed (s.openSeg d) := by
  subst hd h1
  rw [pieceFail, hp, Option.orElse_none, hw]

theorem pieceFail_single {k : Nat} {s1 : State} (hdies : diesOf w.record.kind = [0]) (hk : k = s.openSeg 0)
    (h1 : s1 = (s.drew.setSeg k { s.seg k with state := .bad }).openFresh 0) :
    pieceFail s = (({ s1 with bed := { s1.bed with waiting := replaceWaiting { w with done := 0 } s1.bed.waiting } }).setFld
      F.BED_STAT_BADSEG 0 1).countDetectionAt 9 pageBed k := by
  subst hk
  exact pieceFail_on hp hw (by simp [hdies, pickFrom, Nat.mod_one]) (by rw [h1, hdies]; rfl)

end

theorem diesOf_ne_nil (kind : Nat) : diesOf kind ≠ [] := by
  unfold diesOf
  split <;> simp

theorem pickFrom_getD_mem {l : List Nat} (h : l ≠ []) (n d : Nat) : (pickFrom l n).getD d ∈ l := by
  have hn : n % l.length < l.length := Nat.mod_lt n (List.length_pos_of_ne_nil h)
  rw [pickFrom, List.getElem?_eq_getElem hn]
  exact List.getElem_mem hn

theorem commitLanded_programmed {w : Waiting} {s : State} (hw : s.programmed = some w) : commitLanded s = (s.commit w).landed w.record := by
  rw [commitLanded, hw]

/-! ## Compaction and refresh (R488 to R490) -/

section
variable {k : Nat} {s : State}

theorem compactionStart_due (hm : s.mayCompact = true) (hd : s.compactionDue = true) (hv : s.bestVictim s.bed.segs = some k) :
    compactionStart s = s.compact k := by
  rw [compactionStart, hm, hd, Bool.and_self, if_pos rfl, hv]

section
variable (hv : s.bed.victim = some k)
include hv

theorem compactionErase_landed {s1 : State} (hc : s.bed.copies = 0) (hm : s.pwr.mode = .serve ∨ s.pwr.mode = .surge)
    (h1 : s1 = s.setSeg k { erases := (s.seg k).erases + 1 }) :
    compactionErase s = { s1 with bed := { s1.bed with
      victim := none
      records := s1.bed.records.filterMap (JRec.without k) } } := by
  subst h1
  rw [compactionErase, hv]
  exact if_pos ⟨hc, hm⟩

theorem compactionErase_copiesLeft (hc : s.bed.copies ≠ 0) : compactionErase s = s := by
  rw [compactionErase, hv]
  exact if_neg fun h => hc h.1

end

end

theorem State.seg_setSeg_same (s : State) (k : Nat) (x : Seg) : (s.setSeg k x).seg k = x := Tab.get_set_same ..

theorem refreshTrigger_due {seg age corrected : Nat} {s : State} (hclosed : (s.seg seg).state = .closed)
    (hdue : s.fld F.BED_CFG_REFRESH_D 0 ≤ age ∨ 24 < corrected) (hm : s.mayCompact = true) :
    refreshTrigger seg age corrected s = (s.setSeg seg { s.seg seg with age := age }).compact seg := if_pos ⟨hclosed, hdue, hm⟩

/-! ## A baseline record that fails its checks (R492) -/

theorem recordCheckFail_baseline {rseq a b : Nat} {r : JRec} {s s1 : State} (hr : s.bed.records.find? (fun r => r.rseq == rseq) = some r)
    (hinj : s.injected 9 = false) (hp : r.payload = .baseline a b) (h1 : s1 = s.countDetectionAt 9 pageBed rseq) :
    recordCheckFail rseq s =
      ({ s1 with bed := { s1.bed with records := s1.bed.records.filter fun x => x.rseq != rseq } }).markLive.setFld F.BED_STAT_LOST 0 1 := by
  subst h1
  rw [recordCheckFail, hr]
  dsimp only
  rw [hinj, if_neg Bool.false_ne_true, hp]

/-! ## BED_CMD (R487, R492, R554) -/

section
variable {w : Word} {s s1 : State} (hg : s.gate .host .BED_CMD 0 = .pass) (h1 : s1 = s.setFld F.BED_CMD_OP 0 (getBits w 0 3))
include hg h1

theorem bedSave_ember (hm : s.pwr.mode = .ember) : bedSave w s = s1.setFld F.BED_CMD_RESULT 0 2 := by
  subst h1
  rw [bedSave, State.bedSaveBy, State.gated_pass hg]
  exact if_pos hm

theorem bedResumeHeld_ember (hm : s.pwr.mode = .ember) : bedResumeHeld w s = s1.setFld F.BED_CMD_RESULT 0 2 := by
  subst h1
  rw [bedResumeHeld, State.bedResumeBy, State.gated_pass hg]
  exact if_pos hm

variable (hm : s.pwr.mode ≠ .ember)
include hm

theorem bedSave_early {t : Nat} (hl : s.bed.lastSave = some t) (ht : s.cmp.sec < t + 60) :
    bedSave w s = (s1.setFld F.BED_CMD_RESULT 0 3).setFld F.BED_STAT_REFUSED 0 1 := by
  subst h1
  rw [bedSave, State.bedSaveBy, State.gated_pass hg]
  dsimp only
  rw [if_neg hm, hl]
  exact if_pos (decide_eq_true ht)

theorem bedSave_first {s2 : State} (hl : s.bed.lastSave = none)
    (h2 : s2 = (s1.setFld F.BED_CMD_RESULT 0 1).submit 1 0 0 (.registers s.regImage) 1) :
    bedSave w s = { s2 with bed := { s2.bed with lastSave := some s.cmp.sec } } := by
  subst h2 h1
  rw [bedSave, State.bedSaveBy, State.gated_pass hg]
  dsimp only
  rw [if_neg hm, hl]
  exact if_neg Bool.false_ne_true

theorem bedResumeHeld_resumes :
    bedResumeHeld w s = { s1.setFld F.BED_CMD_RESULT 0 0 with bed := { s.bed with heldRanges := [] } } := by
  subst h1
  rw [bedResumeHeld, State.bedResumeBy, State.gated_pass hg]
  exact if_neg hm

end

/-- Settles O28: an equation for each command, its guards met (one record programmed at a time: log entry 24); what a programmed piece leaves
as it was is read off the segments, which are all that finding room changes, and of a failed piece the die it is on (log entry 207). -/
theorem bedrollRecordsAreWritten : Obligations.BedrollRecordsAreWritten := by
  refine ⟨fun _ _ _ _ _ _ h1 h8 hp h5 => next_congr (recordSubmit_valid h1 h8 hp h5 ..),
    fun w s hp hw => ?piece, fun _ _ hw => next_congr (commitLanded_programmed hw),
    fun _ _ _ _ hp hw hdies hk h1 => next_congr (pieceFail_single hp hw hdies hk h1),
    fun w s hp hw => ⟨_, next_congr (pieceFail_on hp hw rfl rfl), _, pickFrom_getD_mem (diesOf_ne_nil _) _ _, _, rfl⟩,
    fun _ _ hm hd hv => next_congr (compactionStart_due hm hd hv),
    fun k s hv hc hm => ⟨_, next_congr (compactionErase_landed hv hc (.inl hm) rfl), rfl, ?erased, rfl, s.bed_onlyIn _⟩,
    fun _ _ hv hc => next_congr (compactionErase_copiesLeft hv hc),
    fun _ _ _ _ hclosed hdue hm => next_congr (refreshTrigger_due hclosed hdue hm),
    fun _ _ _ _ _ _ hr hinj hp h1 => next_congr (recordCheckFail_baseline hr hinj hp h1),
    fun w s s1 hg h1 => ⟨fun hm => ⟨next_congr (bedSave_ember hg h1 hm), next_congr (bedResumeHeld_ember hg h1 hm)⟩,
      fun _ hm hl ht => next_congr (bedSave_early hg h1 hm hl ht), fun _ hm hl h2 => next_congr (bedSave_first hg h1 hm hl h2),
      fun hm => next_congr (bedResumeHeld_resumes hg h1 hm)⟩⟩
  case piece =>
    obtain ⟨t, ht, h⟩ := pieceProgrammed_best hp hw
    exact ⟨t, next_congr ht, h⟩
  case erased => exact congrArg Seg.erases (s.seg_setSeg_same k { erases := (s.seg k).erases + 1 })

end Sys2Proof.Machine
end

section
/-! O31: detections, injections, self-tests, retirement and excursions. -/

namespace Sys2Proof.Machine

open Sys2Proof

/-! ## Detections (R466) -/

theorem detection_tests {code sel : Nat} (h : code ∈ [1, 2, 3, 4, 5, 6, 7, 8, 13, 14]) (u : TestUnit) (next : Option Nat) (s : State) :
    detection code sel (some u) next s =
      (s.countDetection code sel).detectorActs code { target := u, det := code, thenUnit := next } := by
  simp only [List.mem_cons, List.not_mem_nil, or_false] at h
  rw [detection, if_neg (by omega)]
  exact if_neg (by omega)

theorem detection_testsNothing {code sel : Nat} (h : code ∈ [9, 10, 11, 12, 15]) (u : Option TestUnit) (next : Option Nat) (s : State) :
    detection code sel u next s = s.countDetection code sel := by
  simp only [List.mem_cons, List.not_mem_nil, or_false] at h
  rw [detection, if_neg (by omega)]
  cases u with
  | none => rfl
  | some u => exact if_pos (by omega)

/-! ## Injections (R467, R468) -/

/-- An injection that is granted writes RESULT 0 and acts on the detector and the unit that its word names. -/
theorem State.inject_granted {who : Who} {cls : Nat} {value w : Word} {s s1 s2 : State} (hg : s.gate who .REL_INJ 0 = .pass)
    (hw : w = putBits value 24 2 cls) (h1 : s1 = s.store .REL_INJ 0 w) (hr : s1.injectResult cls (getBits w 16 5) (getBits w 0 11) = 0)
    (h2 : s2 = s1.setFld F.REL_INJ_RESULT 0 0) (f : Nat → Nat → State → State) :
    s.inject who cls value f = f (getBits w 16 5) (getBits w 0 11) s2 := by
  subst h2 h1 hw
  rw [State.inject, State.gated_pass hg]
  dsimp only
  rw [hr, if_pos rfl]

/-! ## Self-tests (R469, R470, R476, R479) -/

theorem selfTestStart_ready {t : SelfTest} {s s1 : State} (hroom : s.rel.running.length < 8) (ht : s.rel.queue.find? s.testReady = some t)
    (h1 : s1 = { s with rel := { s.rel with
      queue := s.rel.queue.erase t
      running := s.rel.running ++ [t] } }) :
    selfTestStart s = (s1.setTestState t.target .underTest).prepareTest t.target := by
  subst h1
  rw [selfTestStart, if_neg (Nat.not_le.2 hroom), ht]

/-- A memory row's test that is not destructive passes where it was injected or the fault has gone, fails else, or is held in an excursion. -/
theorem selfTestDone_row {row : Nat} {t : SelfTest} {lasting spare : Bool} {s s1 : State}
    (ht : s.rel.running.find? (fun t => t.target == .hbmRow 0 row) = some t) (hd : t.destructive = false)
    (h1 : s1 = { s with rel := { s.rel with running := s.rel.running.erase t } }) :
    selfTestDone (.hbmRow 0 row) lasting spare s = if (if t.injected then false else lasting) = false then s1.testPassed t
      else if s1.envHolds then { s1 with rel := { s1.rel with held := s1.rel.held ++ [t] } }.setTestState (.hbmRow 0 row) .held
      else s1.testFailed t spare := by
  subst h1
  unfold selfTestDone
  rw [ht]
  refine (if_neg Bool.false_ne_true).trans ?_
  rw [hd, if_neg Bool.false_ne_true]

theorem excursionRetest_free {u : TestUnit} {t : SelfTest} {s : State} (ht : s.rel.held.find? (fun t => t.target == u) = some t)
    (henv : s.envHolds = false) (hroom : s.rel.running.length < 8) (hready : s.testReady t = true) :
    excursionRetest u s = ({ s with rel := { s.rel with
      held := s.rel.held.erase t
      running := s.rel.running ++ [t] } }).setTestState u .underTest := by
  rw [excursionRetest, ht]
  exact if_neg (by simp [henv, hroom, hready])

/-! ## Retirement and REL_CMD (R472, R475) -/

theorem unitRetire_programmed {w : Waiting} {sel a : Nat} {b : Stamp} {s : State} (hw : s.programmed = some w)
    (hp : w.record.payload = .retirement sel a b) : unitRetire s = (s.commit w).retireLanded sel := by
  rw [unitRetire, hw]
  dsimp only
  rw [hp]

section
variable {who : Who} {op sel : Nat} {s s1 : State} (hg : s.gate who .REL_CMD 0 = .pass) (h1 : s1 = s.setFld F.REL_CMD_OP 0 op)
  (hsel : sel = s1.fld F.REL_UNITSEL_KIND 0 * 256 + s1.fld F.REL_UNITSEL_INSTANCE 0)
include hg h1 hsel

theorem State.relCmd_pass (f : Nat → State → State) :
    s.relCmd who op f = if unitExists sel = false then s1.setFld F.REL_CMD_RESULT 0 1 else f sel s1 := by
  subst hsel h1
  rw [State.relCmd, State.gated_pass hg]

theorem State.relCmd_exists (he : unitExists sel = true) (f : Nat → State → State) : s.relCmd who op f = f sel s1 := by
  rw [State.relCmd_pass hg h1 hsel, if_neg (by simp [he])]

end

section
variable {who : Who} {sel : Nat} {s s1 : State} (hg : s.gate who .REL_CMD 0 = .pass)
  (hsel : sel = s1.fld F.REL_UNITSEL_KIND 0 * 256 + s1.fld F.REL_UNITSEL_INSTANCE 0)
include hg hsel

theorem relSelfTest_noUnit (h1 : s1 = s.setFld F.REL_CMD_OP 0 1) (he : unitExists sel = false) :
    relSelfTest who s = s1.setFld F.REL_CMD_RESULT 0 1 := by
  rw [relSelfTest, State.relCmd_pass hg h1 hsel, if_pos he]

variable (he : unitExists sel = true)
include he

theorem relSelfTest_unit (h1 : s1 = s.setFld F.REL_CMD_OP 0 1) :
    relSelfTest who s = if s1.isRetired sel then s1.setFld F.REL_CMD_RESULT 0 2
      else (s1.queueTest { target := .unit sel, det := 0 }).setFld F.REL_CMD_RESULT 0 0 := by
  rw [relSelfTest, State.relCmd_exists hg h1 hsel he]

theorem relRetire_retired (h1 : s1 = s.setFld F.REL_CMD_OP 0 2) (hr : s1.isRetired sel = true) :
    relRetire who s = s1.setFld F.REL_CMD_RESULT 0 2 := by
  rw [relRetire, State.relCmd_exists hg h1 hsel he]
  exact if_pos (.inl hr)

/-- A unit without a domain has no drain to wait for: its record is submitted at once. -/
theorem relRetire_noDomain {s2 : State} (h1 : s1 = s.setFld F.REL_CMD_OP 0 2) (hr : s1.isRetired sel = false) (hdom : domCount ≤ sel)
    (h2 : s2 = s1.setFld F.REL_CMD_RESULT 0 3) (hn : s2.retiring sel = false) :
    relRetire who s = s2.submit 5 sel 0 (.retirement sel 0 s2.now) 1 := by
  subst h2
  have hlt : ¬sel < domCount := Nat.not_lt.2 hdom
  rw [relRetire, State.relCmd_exists hg h1 hsel he]
  dsimp only
  rw [if_neg (by simp [hr, hlt]), hn, if_neg Bool.false_ne_true, if_neg fun h => hlt h.1]

end

/-! ## Excursions (R478, R479) -/

theorem excursionStart_first {s : State} (h : s.rel.excursion = false) :
    excursionStart s = ((({ s with rel := { s.rel with excursion := true } }.setFld F.REL_STAT_ENV 0 1).setFld
      F.REL_STAT_ENV_EV 0 1).event .limit pageRel []).noteIrq1 := if_neg (by simp [h])

/-- Settles O31: an equation for each command, its guards met; an injection granted by what its class does with the fault (RESULT 2 for a
retired unit and detector code 0: log entry 113). -/
theorem detectorsInjectionsAndRetirement : Obligations.DetectorsInjectionsAndRetirement := by
  refine ⟨fun _ _ _ _ _ h => next_congr (detection_tests h ..), fun _ _ _ _ _ h => next_congr (detection_testsNothing h ..),
    fun who w row next s hg => ⟨fun s1 s2 h1 hr h2 => next_congr (State.inject_granted hg rfl h1 hr h2 _),
      fun s1 s2 h1 hr h2 => next_congr (State.inject_granted hg rfl h1 hr h2 _),
      fun s1 s2 h1 hr h2 => next_congr (State.inject_granted hg rfl h1 hr h2 _)⟩,
    fun _ _ _ hroom ht h1 => next_congr (selfTestStart_ready hroom ht h1), fun row t lasting spare s s1 ht hd h1 => ?row,
    fun _ _ _ _ _ hw hp => next_congr (unitRetire_programmed hw hp), fun who sel s s1 hg h1 hsel => ?selfTest,
    fun who sel s s1 hg h1 hsel => ⟨fun he hr => next_congr (relRetire_retired hg hsel he h1 hr),
      fun s2 he hr hdom h2 hn => next_congr (relRetire_noDomain hg hsel he h1 hr hdom h2 hn)⟩,
    fun _ h => next_congr (excursionStart_first h), fun _ h => next_congr (if_pos h),
    fun _ _ _ ht henv hroom hready => next_congr (excursionRetest_free ht henv hroom hready)⟩
  case row =>
    have hdone := selfTestDone_row (lasting := lasting) (spare := spare) ht hd h1
    refine ⟨fun h => next_congr (hdone.trans (if_pos ?_)), fun hi hl henv => next_congr ?_⟩
    · rcases h with h | h <;> simp [h]
    · rw [hdone, if_neg (by simp [hi, hl]), henv, if_neg Bool.false_ne_true]
  case selfTest =>
    refine ⟨fun he => next_congr (relSelfTest_noUnit hg hsel h1 he), fun he hr => next_congr ?_, fun he hr => next_congr ?_⟩
    · rw [relSelfTest_unit hg hsel he h1, if_pos hr]
    · rw [relSelfTest_unit hg hsel he h1, if_neg (by simp [hr])]

end Sys2Proof.Machine
end

section
/-! O34: the check units: writes that take effect or wait, reads, and a call. -/

namespace Sys2Proof.Machine

open Sys2Proof

/-! ## Writes (R526, R527, R529) -/

section
variable {n : Nat} {who : Who} {op : ChkOp} {s : State} (hg : s.gate who (ChkOp.reg op) n = .pass)
include hg

/-- A write to a unit that no call holds and no earlier write waits for takes effect. -/
theorem State.chkWrite_idle (hb : s.chkBusy n = false) (hw : (s.chkUnit n).writes = []) (v : Word) (b : Bool) :
    s.chkWrite n who op v b = s.chkApply n op v b := by
  rw [State.chkWrite, State.gated_pass hg]
  exact if_neg (by simp [hb, hw])

theorem State.chkWrite_busy (hb : s.chkBusy n = true) (v : Word) (b : Bool) :
    s.chkWrite n who op v b = s.setChkUnit n { s.chkUnit n with writes := (s.chkUnit n).writes ++ [(op, v)] } := by
  rw [State.chkWrite, State.gated_pass hg]
  exact if_pos (by simp [hb])

end

theorem State.chkApply_init {v : Word} (hv : v.getLsbD 0 = true) (s : State) (n : Nat) (b : Bool) :
    s.chkApply n .init v b = s.setChkUnit n { s.chkUnit n with
      run := s.pairReg .CHK_INIT_LO .CHK_INIT_HI n &&& chkMask (s.chkW n)
      scerr := false } := if_pos hv

theorem chkHostWriteResume_oldest {n : Nat} {op : ChkOp} {v : Word} {l : List (ChkOp × Word)} {s : State} (hb : s.chkBusy n = false)
    (hw : (s.chkUnit n).writes = (op, v) :: l) (b : Bool) :
    chkHostWriteResume n b s = (s.setChkUnit n { s.chkUnit n with
      writes := l
      yielding := !l.isEmpty }).chkApply n op v b := by
  rw [chkHostWriteResume, if_neg (by simp [hb]), hw]

/-! ## Reads (R525) -/

theorem chkResultLoRead_readable {n : Nat} {who : Who} {v : DWord} {s : State} (hr : s.readable who .CHK_RESULT_LO n = true)
    (hv : v = s.chkResult n (s.chkUnit n).run) :
    chkResultLoRead n who s = (s.setReg .CHK_RESULT_HI n ((v >>> 32).setWidth 32)).returns ((v.setWidth 32).setWidth 64) := by
  subst hv
  exact if_pos hr

/-! ## A call (R528, R529) -/

/-- Where no write waits, a unit that did not yield does not yield after a call either. -/
theorem ChkUnit.run_unyielding {v : ChkUnit} (hy : v.yielding = false) (hw : v.writes = []) (r : DWord) :
    ({ v with run := r, yielding := !v.writes.isEmpty } : ChkUnit) = { v with run := r } := by
  rw [hw, hy]
  rfl

theorem chkFeed_first {id : Nat} {c : Call} {s u s1 : State} {r : DWord} (hc : s.callFor id 3 0 = some c) (hu : u = s.callTags c)
    (hfirst : u.chkCall c.inst = some c) (hy : (u.chkUnit c.inst).yielding = false) (hflags : c.desc.flags % 2 = 0)
    (hout : c.desc.outLen < 16) (hw : (u.chkUnit c.inst).writes = []) (hr : r = u.chkFed c.inst (u.chkUnit c.inst).run (u.callInput c))
    (h1 : s1 = u.setChkUnit c.inst { u.chkUnit c.inst with run := r }) :
    chkFeed id none s = s1.endCallWith c .ok (natLe 8 r.toNat) := by
  subst h1 hr hu
  rw [chkFeed, State.onCall, hc]
  dsimp only
  rw [if_neg (by simp [hfirst, hy]), if_neg (by omega), if_neg (by omega), List.append_nil, ChkUnit.run_unyielding hy hw]

/-- Settles O34: an equation for each command, a write by whether it takes effect or waits. -/
theorem checkUnitsRunAndHold : Obligations.CheckUnitsRunAndHold := by
  refine ⟨fun n who v s hg hb hw => next_congr (State.chkWrite_idle (op := .data8) hg hb hw v false),
    fun n who v s hg hb hw => next_congr (State.chkWrite_idle (op := .data16) hg hb hw v false),
    fun n who v s hg hb hw => ⟨next_congr (State.chkWrite_idle (op := .data32) hg hb hw v false),
      next_congr (State.chkWrite_idle (op := .data32) hg hb hw v true)⟩,
    fun n who v b s hg hb => next_congr (State.chkWrite_busy (op := .data8) hg hb v b),
    fun n who v s hg hb hw hv => next_congr ((State.chkWrite_idle (op := .init) hg hb hw v false).trans (State.chkApply_init hv s n false)),
    fun n who v s hb hw => ⟨fun hg => next_congr (State.chkWrite_idle (op := .stateLo) hg hb hw v false),
      fun hg => next_congr (State.chkWrite_idle (op := .stateHi) hg hb hw v false)⟩,
    fun n who v s hb hw => ⟨fun hg => next_congr (State.chkWrite_idle (op := .polyLo) hg hb hw v false),
      fun hg => next_congr (State.chkWrite_idle (op := .xorHi) hg hb hw v false), fun s1 hg h1 => ?cfg⟩,
    fun n who s hr => next_congr (if_pos hr), fun n who v s hr hv => next_congr (chkResultLoRead_readable hr hv),
    fun n op v l b s hb hw => next_congr (chkHostWriteResume_oldest hb hw b), fun who v s hg => next_congr (State.gated_pass hg _),
    fun id c s u s1 hc hu hfirst hy hflags hout hw h1 => next_congr (chkFeed_first hc hu hfirst hy hflags hout hw rfl h1)⟩
  case cfg =>
    subst h1
    exact next_congr (State.chkWrite_idle (op := .cfg) hg hb hw v false)

end Sys2Proof.Machine
end

section
/-! O35: drains, forced disables, returns, the spare pool and live replacement. -/

namespace Sys2Proof.Machine

open Sys2Proof

/-! ## PIT_DRAIN (R396, R398, R399) -/

section
variable {w : Word} {i : Nat} {s s1 : State} (hi : i = getBits w 0 8)
  (h1 : s1 = ((s.setFld F.PIT_DRAIN_INDEX 0 i).setFld F.PIT_DRAIN_FORCE 0 (getBits w 30 1)).setFld F.PIT_DRAIN_RESTORE 0 (getBits w 29 1))
include hi h1

section
variable (hrestore : getBits w 29 1 = 0)
include hrestore

/-- What a drain or a forced disable comes to, by whether it is refused, is forced, or has anything left to do. -/
theorem State.pitRequest_drain : s.pitRequest w = if s1.drainRefused i then s1.setFld F.PIT_DRAIN_RESULT 0 2
    else if getBits w 30 1 = 1 then
      if s1.dom i = .on then (({ s1 with units := { s1.units with hostDrain := some i } }).setFld F.PIT_DRAIN_RESULT 0 3).forceUnit i .host
      else s1.setFld F.PIT_DRAIN_RESULT 0 0
    else if s1.draining i then s1
    else if s1.dom i ≠ .on then s1.setFld F.PIT_DRAIN_RESULT 0 0
    else if s1.rel.running.any fun t => t.target == TestUnit.unit i then
      ({ s1 with units := { s1.units with hostDrain := some i } }).setFld F.PIT_DRAIN_RESULT 0 3
    else (({ s1 with units := { s1.units with hostDrain := some i } }).setFld F.PIT_DRAIN_RESULT 0 3).beginDrain i .host := by
  subst h1 hi
  rw [State.pitRequest, if_neg (by omega)]

theorem State.pitRequest_refused (hr : s1.drainRefused i = true) : s.pitRequest w = s1.setFld F.PIT_DRAIN_RESULT 0 2 := by
  rw [State.pitRequest_drain hi h1 hrestore, if_pos hr]

theorem State.pitRequest_drains (hforce : getBits w 30 1 = 0) (hr : s1.drainRefused i = false) (hd : s1.draining i = false)
    (hon : s1.dom i = .on) (ht : s1.rel.running = []) :
    s.pitRequest w = (({ s1 with units := { s1.units with hostDrain := some i } }).setFld F.PIT_DRAIN_RESULT 0 3).beginDrain i .host := by
  rw [State.pitRequest_drain hi h1 hrestore, hr, if_neg Bool.false_ne_true, if_neg (by omega), hd, if_neg Bool.false_ne_true,
    if_neg (not_not_intro hon), ht]
  rfl

theorem State.pitRequest_forced (hforce : getBits w 30 1 = 1) (hr : s1.drainRefused i = false) (hon : s1.dom i = .on) :
    s.pitRequest w = (({ s1 with units := { s1.units with hostDrain := some i } }).setFld F.PIT_DRAIN_RESULT 0 3).forceUnit i .host := by
  rw [State.pitRequest_drain hi h1 hrestore, hr, if_neg Bool.false_ne_true, if_pos hforce, if_pos hon]

end

theorem State.pitRequest_restore (hrestore : getBits w 29 1 = 1) (hdom : i < domCount) (hr : s1.isRetired i = false)
    (hm : s1.pwr.mode ≠ .ember) :
    s.pitRequest w = match s1.drain i with
      | some d => ({ s1.setDrain i (some { d with restore := true }) with
          units := { (s1.setDrain i (some { d with restore := true })).units with hostDrain := some i } }).setFld F.PIT_DRAIN_RESULT 0 3
      | none => (s1.powerOn i).setFld F.PIT_DRAIN_RESULT 0 0 := by
  subst h1 hi
  rw [State.pitRequest, if_pos hrestore]
  exact if_neg (not_or.2 ⟨Nat.not_le.2 hdom, not_or.2 ⟨Bool.eq_false_iff.1 hr, fun h => hm h.1⟩⟩)

end

/-! ## The end of a drain (R396) -/

theorem unitDrained_over {i : Nat} {s : State} (hd : s.draining i = true) (hw : s.workLeft i = false) : unitDrained i s = s.drained i :=
  if_pos (by simp [hd, hw])

theorem State.abandonAt_workLeft {i : Nat} {d : Drain} {s : State} (hd : s.drain i = some d) (hw : s.workLeft i = true) :
    s.abandonAt i = (s.setDrain i (some { d with abandoned := true })).abandonWork i := by
  rw [State.abandonAt, hd]
  exact if_pos hw

theorem drainBoundExpire_workLeft {i : Nat} {d : Drain} {s t : State} (hd : s.drain i = some d) (hw : s.workLeft i = true)
    (ht : t = (s.setDrain i (some { d with abandoned := true })).abandonWork i) :
    drainBoundExpire i s = if i < 128 then t.dropTasks (t.leavingOn i) else t := by
  rw [drainBoundExpire, State.abandonAt_workLeft hd hw, ht]

/-! ## Live replacement (R394, R395) -/

section
variable {r : Repl} {s : State} (hr : s.plc.repl = some r)
include hr

theorem replOutgoingEnded_running : replOutgoingEnded s =
    if s.liveTasks r.outgoing = 0 then (if s.keepsLedger r.outgoing then s.holdLedger true else s.replDone r) else s := by
  rw [replOutgoingEnded, hr]

theorem replTimeLimit_over (h : r.since + s.fld F.PIT_REPLCFG_LIMIT_S 0 ≤ s.cmp.sec) :
    replTimeLimit s = (s.endPackTasks r.outgoing).replDone r := by
  rw [replTimeLimit, hr]
  exact if_pos h

end

/-- Settles O35: an equation for each command, its guards met; the three requests of PIT_DRAIN by what the request judges on the state with
its fields stored. -/
theorem unitsDrainAndReturn : Obligations.UnitsDrainAndReturn := by
  refine ⟨fun w i s s1 hg hi h1 hforce hrestore => ?drain, fun w i s s1 hg hi h1 hforce hrestore hr hon => next_congr
      ((State.gated_pass hg _).trans (State.pitRequest_forced hi h1 hrestore hforce hr hon)),
    fun w i s s1 hg hi h1 hrestore hdom hr hm => ?restore, fun _ _ hd hw => next_congr (unitDrained_over hd hw),
    fun _ _ _ hd hw => next_congr (drainBoundExpire_workLeft hd hw rfl), fun _ _ hg => next_congr (State.gated_pass hg _),
    fun _ _ hr hl => next_congr ((replOutgoingEnded_running hr).trans (if_pos hl)),
    fun _ _ hr hl => next_congr ((replOutgoingEnded_running hr).trans (if_neg hl)),
    fun _ _ hr ht => next_congr (replTimeLimit_over hr ht), fun _ _ hg => next_congr (State.gated_pass hg _)⟩
  case drain =>
    exact ⟨fun hr => next_congr ((State.gated_pass hg _).trans (State.pitRequest_refused hi h1 hrestore hr)),
      fun hr hd hon ht => next_congr ((State.gated_pass hg _).trans (State.pitRequest_drains hi h1 hrestore hforce hr hd hon ht))⟩
  case restore =>
    have h := State.pitRequest_restore hi h1 hrestore hdom hr hm
    exact ⟨fun hd => next_congr ((State.gated_pass hg _).trans (by rw [h, hd])),
      fun d hd => next_congr ((State.gated_pass hg _).trans (by rw [h, hd]))⟩

end Sys2Proof.Machine
end

section
/-! O37: the commands of the security controller. -/

namespace Sys2Proof.Machine

open Sys2Proof

/-! ## How SEC_CMD is judged (R451, R464) -/

section
variable {op : Nat} {s s1 : State} (hg : s.gate .host .SEC_CMD 0 = .pass) (h1 : s1 = s.setFld F.SEC_CMD_OP 0 op)
include hg h1

theorem State.secGo_busy (hjob : s.sec.job.isSome = true) (f : State → State) : s.secGo op f = s1.secResult .limit := by
  subst h1
  rw [State.secGo, State.gated_pass hg]
  exact if_pos hjob

theorem State.secGo_ember (hjob : s.sec.job = none) (hm : s.pwr.mode = .ember) (f : State → State) : s.secGo op f = s1.secResult .denied := by
  subst h1
  rw [State.secGo, State.gated_pass hg]
  exact (if_neg (by simp [hjob])).trans (if_pos hm)

theorem State.secGo_served (hjob : s.sec.job = none) (hm : s.pwr.mode ≠ .ember)
    (hboot : s1.flag F.PWR_STAT_BOOT_FAIL 0 = false ∨ op = 8 ∨ op = 9) (f : State → State) : s.secGo op f = f s1 := by
  subst h1
  rw [State.secGo, State.gated_pass hg]
  refine (if_neg (by simp [hjob])).trans ((if_neg hm).trans (if_neg ?_))
  rintro ⟨hfail, h8, h9⟩
  rcases hboot with h | h | h
  · exact absurd (h.symm.trans hfail) (by decide)
  · exact h8 h
  · exact h9 h

end

/-! ## Signed commands (R450) -/

/-- Whether the delivered body names this device and answers the challenge. -/
def State.answersChallenge (s : State) : Bool :=
  match s.sec.challenge with
  | none => false
  | some c => (s.body.drop 8).take 48 == Config.devId && (s.body.drop 56).take 32 == natLe 32 c.toNat

/-- Whether the delivered body is a block of opcode `op` of the right length under a good signature. -/
def State.wellSigned (s : State) (op : Nat) : Bool :=
  decide (leNat (s.body.take 2) = op ∧ s.body.length = 88 + leNat ((s.body.drop 2).take 2) + 96) &&
  Config.verify (if s.signer = 0 then none else s.ownerKey (s.signer - 1)) (s.body.take (88 + leNat ((s.body.drop 2).take 2)))
    (s.body.drop (88 + leNat ((s.body.drop 2).take 2)))

theorem State.authentic_eq (s : State) (op : Nat) : s.authentic op = (s.answersChallenge && s.wellSigned op) := Bool.and_assoc ..

theorem State.wellSigned_eq_false_iff (s : State) (op : Nat) : s.wellSigned op = false ↔
    leNat (s.body.take 2) ≠ op ∨ s.body.length ≠ 88 + leNat ((s.body.drop 2).take 2) + 96 ∨
      Config.verify (if s.signer = 0 then none else s.ownerKey (s.signer - 1)) (s.body.take (88 + leNat ((s.body.drop 2).take 2)))
        (s.body.drop (88 + leNat ((s.body.drop 2).take 2))) = false := by
  rw [State.wellSigned, Bool.and_eq_false_iff, decide_eq_false_iff_not, not_and_or, or_assoc]

section
variable {op : Nat} {s : State} (permits allowed : List Byte → Nat → Bool) (f : List Byte → Nat → State → State)

theorem State.signed_eq : s.signed op permits allowed f =
    if s.answersChallenge = false then s.dropChallenge.secResult .authFail
    else if permits s.param s.signer = false ∨ s.signerActive s.signer = false then s.dropChallenge.secResult .denied
    else if s.wellSigned op = false then s.dropChallenge.secResult .authFail
    else if allowed s.param s.signer = false then s.dropChallenge.secResult .denied
    else f s.param s.signer s.dropChallenge := by
  rw [if_congr (s.wellSigned_eq_false_iff op) rfl rfl]
  rfl

theorem State.signed_unasked (hc : s.sec.challenge = none) : s.signed op permits allowed f = s.dropChallenge.secResult .authFail := by
  rw [State.signed_eq, if_pos (by rw [State.answersChallenge, hc])]

/-- Where the signer may ask and the state allows it, only the challenge and the signature are left to judge. -/
theorem State.signed_permitted (hp : permits s.param s.signer = true) (hs : s.signerActive s.signer = true)
    (ha : allowed s.param s.signer = true) :
    s.signed op permits allowed f = if s.authentic op then f s.param s.signer s.dropChallenge else s.dropChallenge.secResult .authFail := by
  rw [State.signed_eq, if_neg (by simp [hp, hs] : ¬(permits s.param s.signer = false ∨ _)), ha, State.authentic_eq]
  cases s.answersChallenge <;> cases s.wellSigned op <;> rfl

end

theorem isOwner_of_slot {signer : Nat} (h1 : 1 ≤ signer) (h4 : signer ≤ 4) : isOwner signer = true := decide_eq_true ⟨h1, h4⟩

/-! ## The commands, served (R449, R452, R455, R457 to R459, R463) -/

section
variable {s s1 : State} (hg : s.gate .host .SEC_CMD 0 = .pass) (hjob : s.sec.job = none) (hm : s.pwr.mode ≠ .ember)
include hg hjob hm

theorem provision_blank {n : Nat} {s2 : State} (h1 : s1 = s.setFld F.SEC_CMD_OP 0 1) (hboot : s1.flag F.PWR_STAT_BOOT_FAIL 0 = false)
    (hlc : s1.lifecycle = 0) (hn : n = leNat (s1.body.take 1)) (hn1 : 1 ≤ n) (hn4 : n ≤ 4) (hlen : s1.body.length = 1 + 97 * n)
    (h2 : s2 = (s1.burn 1).setLevel 0) :
    provision s = s2.secRecord { s2.lcNext with
      lc := 1
      keys := (List.range n).map fun i => (i, some (leNat ((s1.body.drop (1 + 97 * i)).take 97))) } := by
  subst h2 hn
  rw [provision, State.secGo_served hg h1 hjob hm (.inl hboot)]
  exact if_neg (by omega)

theorem challenge_served (h1 : s1 = s.setFld F.SEC_CMD_OP 0 10) (hboot : s1.flag F.PWR_STAT_BOOT_FAIL 0 = false) :
    challenge s = ({ s1.drew with sec := { s1.sec with challenge := some (Config.freeBits 256 s1.free) } }).secResult .ok := by
  rw [challenge, State.secGo_served hg h1 hjob hm (.inl hboot)]

theorem certs_served (h1 : s1 = s.setFld F.SEC_CMD_OP 0 11) (hboot : s1.flag F.PWR_STAT_BOOT_FAIL 0 = false) (hlc : s1.lifecycle ≠ 4) :
    certs s = (s1.answer Config.certs).secResult .ok := by
  rw [certs, State.secGo_served hg h1 hjob hm (.inl hboot), if_neg hlc]

theorem attest_served (h1 : s1 = s.setFld F.SEC_CMD_OP 0 5) (hboot : s1.flag F.PWR_STAT_BOOT_FAIL 0 = false) (hlc : s1.lifecycle ≠ 4)
    (hlen : s1.body.length = 32) :
    attest s = (s1.answer (s1.attestReport s1.body ++ Config.sign (s1.attestReport s1.body))).secResult .ok := by
  rw [attest, State.secGo_served hg h1 hjob hm (.inl hboot)]
  dsimp only
  rw [if_neg (not_not_intro hlen), if_neg hlc]

theorem stage_part {i : PackImage} (h1 : s1 = s.setFld F.SEC_CMD_OP 0 8) (hlc : s1.lifecycle ≠ 4) (h16 : 16 ≤ s1.body.length)
    (htotal : leNat ((s1.body.drop 8).take 8) ≤ 2 ^ 25)
    (hpart : leNat (s1.body.take 8) + (s1.body.length - 16) < leNat ((s1.body.drop 8).take 8)) :
    stage i s = (s1.setBank .empty false).secResult .ok := by
  rw [stage, State.secGo_served hg h1 hjob hm (.inr (.inl rfl))]
  dsimp only
  rw [if_neg (by omega), if_pos hpart]

section
variable {b : Bool} (h1 : s1 = s.setFld F.SEC_CMD_OP 0 9)
include h1

theorem switch_eq : switch b s = if s1.lifecycle = 4 ∨ s1.sec.staged = false then s1.secResult .denied
    else if b then s1.switched else { s1 with sec := { s1.sec with job := some .restart } } := by
  rw [switch, State.secGo_served hg h1 hjob hm (.inr (.inr rfl))]

theorem switch_unstaged (hs : s1.sec.staged = false) : switch b s = s1.secResult .denied := by
  rw [switch_eq hg hjob hm h1, if_pos (.inr hs)]

theorem switch_staged (hlc : s1.lifecycle ≠ 4) (hs : s1.sec.staged = true) :
    switch b s = if b then s1.switched else { s1 with sec := { s1.sec with job := some .restart } } := by
  rw [switch_eq hg hjob hm h1, if_neg (by simp [hlc, hs])]

end

/-! ## The signed commands, permitted to their signer -/

section
variable {k : Nat} {s2 : State} {p : List Byte} (h1 : s1 = s.setFld F.SEC_CMD_OP 0 k) (h2 : s2 = s1.dropChallenge) (hp : p = s1.param)
  (hboot : s1.flag F.PWR_STAT_BOOT_FAIL 0 = false) (hs1 : 1 ≤ s1.signer) (hs4 : s1.signer ≤ 4) (hactive : s1.signerActive s1.signer = true)
include h1 h2 hp hboot hs1 hs4 hactive

theorem keyImport_permitted (hk : k = 2) (hlc : s1.lifecycle = 1) (hlen : p.length = 145) :
    keyImport s = if s1.authentic 2 then
      (match Config.importKek (s1.sec.challenge.getD 0) p with
       | none => s2.secResult .authFail
       | some c => s2.secRecord { s2.lcNext with
           kek := some c
           net := [] }) else s2.secResult .authFail := by
  subst hk hp h2
  rw [keyImport, State.secGo_served hg h1 hjob hm (.inl hboot),
    State.signed_permitted _ _ _ (isOwner_of_slot hs1 hs4) hactive (by rw [hlc]; rfl)]
  refine if_congr Iff.rfl ?_ rfl
  exact if_neg (not_not_intro hlen)

theorem lifecycle_permitted (hk : k = 3) (hlc : s1.lifecycle = 1) (hlen : p.length = 1) (hgoal : leNat p = 2) :
    lifecycle s = if s1.authentic 3 then s2.moveLc 2 else s2.secResult .authFail := by
  subst hk hp h2
  rw [lifecycle, State.secGo_served hg h1 hjob hm (.inl hboot),
    State.signed_permitted _ _ _ (by rw [hlc, hgoal]; exact isOwner_of_slot hs1 hs4) hactive (by rw [hlen, hlc, hgoal]; rfl), hgoal]

theorem unlock_permitted (hk : k = 4) (hserve : s.pwr.mode = .serve) (hlc : s1.lifecycle = 2) (hlen : p.length = 4) :
    unlock s = if s1.authentic 4 then
      (({ s2.setLevel 3 with sec := { (s2.setLevel 3).sec with unlock := some (leNat p) } }).setFld F.DBG_LEVEL_UNLOCKED 0 1).secResult .ok
      else s2.secResult .authFail := by
  subst hk hp h2
  have hmode : s1.pwr.mode = .serve := h1 ▸ hserve
  rw [unlock, State.secGo_served hg h1 hjob hm (.inl hboot),
    State.signed_permitted _ _ _ (by rw [if_pos hlc]; exact isOwner_of_slot hs1 hs4) hactive (by rw [hlen, hlc, hmode]; rfl)]

theorem rollback_permitted {cls v : Nat} (hk : k = 6) (hlc : s1.lifecycle ≠ 4) (hlen : p.length = 2) (hcls : cls = leNat (p.take 1))
    (hv : v = leNat (p.drop 1)) (h8 : 8 ≤ cls) (h16 : cls < 16) (hup : s2.rollbackOf cls < v) (htop : v ≤ s2.topRollback cls) :
    rollback s = if s1.authentic 6 then
        ({ s2 with sec := { s2.sec with rb := Tab.set (fun _ => 0) s2.sec.rb cls v } }).secRecord s2.lcNext
      else s2.secResult .authFail := by
  subst hk hp h2 hcls hv
  rw [rollback, State.secGo_served hg h1 hjob hm (.inl hboot),
    State.signed_permitted _ _ _ (by rw [if_neg (Nat.not_lt.2 h8)]; exact isOwner_of_slot hs1 hs4) hactive (by simp [hlen, hlc])]
  refine if_congr Iff.rfl ?_ rfl
  exact if_neg (by omega)

theorem revoke_permitted (hk : k = 7) (hlc : s1.lifecycle = 1) (hlen : p.length = 1) (h4 : leNat p < 4) (hself : leNat p + 1 ≠ s1.signer)
    (hother : ((List.range 4).any fun m => m != leNat p && s2.slotActive m) = true) :
    revoke s = if s1.authentic 7 then
      (let s3 := { s2 with sec := { s2.sec with revoked := Tab.set (fun _ => false) s2.sec.revoked (leNat p) true } }
       s3.secRecord { s3.lcNext with keys := Tab.set (fun _ => none) s3.lcNext.keys (leNat p) none })
      else s2.secResult .authFail := by
  subst hk hp h2
  rw [revoke, State.secGo_served hg h1 hjob hm (.inl hboot),
    State.signed_permitted _ _ _ (by rw [isOwner_of_slot hs1 hs4, bne_iff_ne.2 hself]; rfl) hactive (by rw [hlen, hlc]; rfl)]
  refine if_congr Iff.rfl ?_ rfl
  exact if_neg (not_or.2 ⟨Nat.not_le.2 h4, by simp [hother]⟩)

end

end

theorem switchReadyTimeout_idle {s : State} (h : s.sec.job = none) : switchReadyTimeout s = s := if_neg (by simp [h])

/-- Settles O37: every command is one use of how SEC_CMD is judged; a signed one, permitted to its signer, is left to its challenge and its
signature (a STAGE part empties the bank: log entry 130; the end of a SWITCH that waits: log entry 131). -/
theorem securityCommandsAreJudged : Obligations.SecurityCommandsAreJudged := by
  refine ⟨fun i b s hg hjob => ?busy, fun s hg hjob hm => ?ember, fun n s s1 s2 hg hjob hm h1 hboot hlc hn hn1 hn4 hlen h2 =>
      next_congr (provision_blank hg hjob hm h1 hboot hlc hn hn1 hn4 hlen h2),
    fun s hg hjob hm => ?served, fun s hg hjob hm hc => ?unasked,
    fun k cls v p s s1 s2 hg hjob hserve h1 h2 hp hboot hs1 hs4 hactive => ?signed,
    fun s h => next_congr (if_pos h), fun s h => next_congr (switchReadyTimeout_idle h)⟩
  case busy =>
    have h {op : Nat} (f : State → State) := State.secGo_busy (op := op) hg rfl hjob f
    exact ⟨next_congr (h _), next_congr (h _), next_congr (h _), next_congr (h _), next_congr (h _), next_congr (h _), next_congr (h _),
      next_congr (h _), next_congr (h _), next_congr (h _), next_congr (h _)⟩
  case ember => exact ⟨next_congr (State.secGo_ember hg rfl hjob hm _), next_congr (State.secGo_ember hg rfl hjob hm _)⟩
  case served =>
    exact ⟨fun s1 h1 hboot => next_congr (challenge_served hg hjob hm h1 hboot),
      fun s1 h1 hboot hlc => next_congr (certs_served hg hjob hm h1 hboot hlc),
      fun s1 h1 hboot hlc hlen => next_congr (attest_served hg hjob hm h1 hboot hlc hlen),
      fun s1 i h1 hlc h16 htotal hpart => next_congr (stage_part hg hjob hm h1 hlc h16 htotal hpart),
      fun s1 b h1 hs => next_congr (switch_unstaged hg hjob hm h1 hs),
      fun s1 h1 hlc hs => ⟨next_congr ((switch_staged hg hjob hm h1 hlc hs).trans (if_pos rfl)),
        next_congr ((switch_staged hg hjob hm h1 hlc hs).trans (if_neg Bool.false_ne_true))⟩⟩
  case unasked =>
    have h {op : Nat} {s1 : State} (h1 : s1 = s.setFld F.SEC_CMD_OP 0 op) (hboot : s1.flag F.PWR_STAT_BOOT_FAIL 0 = false)
        (permits allowed : State → List Byte → Nat → Bool) (f : State → List Byte → Nat → State → State) :
        s.secGo op (fun s => s.signed op (permits s) (allowed s) (f s)) = s1.dropChallenge.secResult .authFail :=
      (State.secGo_served hg h1 hjob hm (.inl hboot) _).trans (State.signed_unasked _ _ _ (h1 ▸ hc))
    exact ⟨fun s1 h1 hboot => next_congr (h h1 hboot _ _ _), fun s1 h1 hboot => next_congr (h h1 hboot _ _ _),
      fun s1 h1 hboot => next_congr (h h1 hboot _ _ _), fun s1 h1 hboot => next_congr (h h1 hboot _ _ _),
      fun s1 h1 hboot => next_congr (h h1 hboot _ _ _)⟩
  case signed =>
    have hm : s.pwr.mode ≠ .ember := by simp [hserve]
    exact ⟨fun hk hlc hlen => next_congr (keyImport_permitted hg hjob hm h1 h2 hp hboot hs1 hs4 hactive hk hlc hlen),
      fun hk hlc hlen hgoal => next_congr (lifecycle_permitted hg hjob hm h1 h2 hp hboot hs1 hs4 hactive hk hlc hlen hgoal),
      fun hk hlc hlen => next_congr (unlock_permitted hg hjob hm h1 h2 hp hboot hs1 hs4 hactive hk hserve hlc hlen),
      fun hk hlc hlen hcls hv h8 h16 hup htop => next_congr
        (rollback_permitted hg hjob hm h1 h2 hp hboot hs1 hs4 hactive hk hlc hlen hcls hv h8 h16 hup htop),
      fun hk hlc hlen h4 hself hother => next_congr
        (revoke_permitted hg hjob hm h1 h2 hp hboot hs1 hs4 hactive hk hlc hlen h4 hself hother)⟩

end Sys2Proof.Machine
end

section
/-! O38: the debug level and its unlock (R459, R460), the debug controls of an engine context (R456, R461), tamper inputs (R462), and the keys
the host wraps for the module (R252, R448). -/

namespace Sys2Proof.Machine

open Sys2Proof

/-! ## The debug level -/

theorem unlockExpire_unlocked {s : State} {u : Nat} (h : s.sec.unlock = some u) :
    unlockExpire s = if u ≤ s.now.s then s.setLevel (min (min 2 (s.fld F.DBG_LEVEL_REQ 0)) s.levelCap) else s := by
  unfold unlockExpire
  rw [h]

section
variable {w : Word} {s s1 : State} (hg : s.gate .host .DBG_LEVEL 0 = .pass) (h1 : s1 = s.store .DBG_LEVEL 0 w)
include hg h1

theorem dbgLevelWrite_within (hcap : s1.fld F.DBG_LEVEL_REQ 0 ≤ s1.levelCap) : dbgLevelWrite w s = s1.setLevel (s1.fld F.DBG_LEVEL_REQ 0) := by
  subst h1
  exact (State.gated_pass hg _).trans (if_neg (Nat.not_lt.2 hcap))

theorem dbgLevelWrite_above (hcap : s1.levelCap < s1.fld F.DBG_LEVEL_REQ 0) (hlocked : s.sec.unlock = none) :
    dbgLevelWrite w s = (s1.setFld F.DBG_LEVEL_REFUSED 0 1).event .denied pageDbg [] := by
  subst h1
  refine (State.gated_pass hg _).trans ((if_pos hcap).trans (if_neg ?_))
  simp [hlocked]

end

/-! ## DBG_ENGCTL -/

section
variable {who : Who} {op k : Nat} {s s1 : State} (f : State → Ctx → Ctx) (hg : s.gate who .DBG_ENGCTL 0 = .pass)
  (h1 : s1 = s.setFld F.DBG_ENGCTL_OP 0 op)
include hg h1

/-- Below D2 a write of DBG_ENGCTL answers RESULT 2 and reaches no context. -/
theorem State.engCtl_below (hlevel : s1.level < 2) : s.engCtl who op f = s1.setFld F.DBG_ENGCTL_RESULT 0 2 := by
  subst h1
  exact (State.gated_pass hg _).trans (if_pos hlevel)

/-- From D2 on the selected context, with a task of an unsealed pack, takes the control. -/
theorem State.engCtl_reached {t : Task} (hk : k = 4 * s1.fld F.DBG_ENGSEL_ENG 0 + s1.fld F.DBG_ENGSEL_CTX 0) (hlevel : 2 ≤ s1.level)
    (ht : (s1.ctx k).task.bind s1.task = some t) (hopen : (s1.pack t.slot).image.sealedImg = false) :
    s.engCtl who op f = (s1.setCtx k (f s1 (s1.ctx k))).setFld F.DBG_ENGCTL_RESULT 0 0 := by
  subst h1 hk
  refine (State.gated_pass hg _).trans ((if_neg (Nat.not_lt.2 hlevel)).trans ?_)
  rw [ht]
  exact if_neg (by simp [hopen])

end

/-! ## Tamper inputs -/

/-- An input of a powered module acts where it has gone to its active level while enabled, and else its level is only noted. -/
theorem tamperActivation_eq {n levels : Nat} {s s1 : State} (hpower : s.pwr.mode ≠ .off) (hn : n < 4)
    (h1 : s1 = { s with pins := { s.pins with tamper := levels % 16 } }) :
    tamperActivation n levels s = if s1.tamperLive n && !s.tamperLive n then s1.tamperAct n false else s1 := by
  subst h1
  exact if_neg (not_or.2 ⟨hpower, Nat.not_le.2 hn⟩)

/-! ## Keys of the host -/

theorem State.hostKey_no_kek (key : List Byte) {s : State} (h : s.sec.kek = none) : s.hostKey key = some .denied := by
  unfold State.hostKey
  rw [h]

/-- With room for one more node, NODE_PROVISION is decided by the wrapped key alone. -/
theorem nodeProvision_eq {src : Src} {eui : Nat} {key : List Byte} {s s1 : State} (hs : s.starts src 0x20 = true) (h1 : s1 = s.start src)
    (hroom : s1.mac.prov.length < 65536) :
    nodeProvision src eui key s = match s1.hostKey key with
      | some st => s1.complete src st []
      | none => ({ s1 with mac := { s1.mac with prov := Tab.set (fun _ => none) s1.mac.prov eui (some true) } }).complete src .ok [] := by
  subst h1
  refine (if_pos hs).trans ?_
  dsimp only
  cases (s.start src).hostKey key with
  | some st => rfl
  | none => exact if_neg fun hfull => Nat.not_le.2 hroom hfull.1

/-- Settles O38, form by form: a level request and an unlock (a write consumes one: log entry 128; its end: log entry 105), the three debug
controls by what DBG_ENGCTL does to a context, an activation, and the two keys of the host. -/
theorem debugTamperAndKeysAct : Obligations.DebugTamperAndKeysAct := by
  refine ⟨fun u s h => next_congr (unlockExpire_unlocked h), fun w s s1 hg h1 => ?level, fun n levels s s1 hpower hn h1 => ?tamper,
    fun who k t s s1 hg h1 hk => ?halt,
    fun who k t s s1 hg h1 hk hlevel ht hopen => next_congr (State.engCtl_reached _ hg h1 hk hlevel ht hopen),
    fun who k t s s1 hg h1 hk hlevel ht hopen => next_congr (State.engCtl_reached _ hg h1 hk hlevel ht hopen),
    fun src eui key s s1 hs h1 hroom => next_congr (nodeProvision_eq hs h1 hroom),
    fun src key s s1 hs h1 => ?netkey, fun key s h => State.hostKey_no_kek key h⟩
  case level => exact ⟨fun hcap => next_congr (dbgLevelWrite_within hg h1 hcap), fun hcap h => next_congr (dbgLevelWrite_above hg h1 hcap h)⟩
  case tamper =>
    exact ⟨fun hnow hwas => next_congr ((tamperActivation_eq hpower hn h1).trans (if_pos (by simp [hnow, hwas]))),
      fun h => next_congr ((tamperActivation_eq hpower hn h1).trans (if_neg (by rcases h with h | h <;> simp [h])))⟩
  case halt =>
    exact ⟨fun hlevel => next_congr (State.engCtl_below _ hg h1 hlevel),
      fun hlevel ht hopen => next_congr (State.engCtl_reached _ hg h1 hk hlevel ht hopen)⟩
  case netkey =>
    subst h1
    exact next_congr (if_pos hs)

end Sys2Proof.Machine
end

section
/-! O40: Trail ports (R510 to R524): what a port's receiver, transmitter, break detector and configuration do. -/

namespace Sys2Proof.Machine

open Sys2Proof

@[simp] theorem State.tport_setTport_same (s : State) (p : Nat) (x : TPort) : (s.setTport p x).tport p = x := Tab.get_set_same _ _ _ _

/-! ## Receiving -/

section
variable {p data : Nat} {s : State}

theorem tpCharReceived_held {bit stop : Bool} (h : (s.tport p).held = true ∨ s.tpListens p = false) : tpCharReceived p data bit stop s = s :=
  if_pos (h.elim (fun h => .inr (.inl h)) .inl)

/-- Every character is stored where the port is not in ninth-bit mode (R513). -/
theorem State.tpMute_asynchronous {d : Nat} {addr : Bool} (h : tpMode (s.tport p).rxCfg = 0) : s.tpMute p d addr = (s, true) :=
  if_pos (.inl (by rw [h]; decide))

/-- A character with its stop bit, without parity and flow control, is stored without a mark. -/
theorem tpCharReceived_plain {s0 : State} (hp : p < 8) (hlisten : s.tpListens p = true) (hheld : (s.tport p).held = false)
    (hmode : tpMode (s.tport p).rxCfg = 0) (hparity : getBits (s.tport p).rxCfg 8 3 = 0) (hflow : s.flag F.TP_CFG_FLOW p = false)
    (h0 : s0 = s.setTport p { s.tport p with line := true, fell := none }) :
    tpCharReceived p data false true s = ((s0.tpStore p (data % 2 ^ tpBits (s.tport p).rxCfg)).tpRxApply p).tpNext p := by
  have hmute (d : Nat) (addr : Bool) : s0.tpMute p d addr = (s0, true) :=
    State.tpMute_asynchronous (by rw [h0, State.tport_setTport_same]; exact hmode)
  have hopen : ¬ (s.tpListens p = false ∨ (s.tport p).held = true ∨ tpMode (s.tport p).rxCfg = 2 ∨ 8 ≤ p) := by
    simp [hlisten, hheld, hmode, hp]
  refine (if_neg hopen).trans ?_
  simp [hmode, hparity, hflow, parityWrong, ← h0, hmute]

end

section
variable {p : Nat} {who : Who} {s : State} (h : s.readable who .TP_RXD p = true)
include h

theorem tpRxdRead_empty (hrx : (s.tport p).rx = []) : tpRxdRead p who s = s.returns 0 := by
  rw [tpRxdRead, if_neg (by simp [h])]
  dsimp only
  rw [hrx]

theorem tpRxdRead_oldest {e : Nat} {l : List Nat} (hrx : (s.tport p).rx = e :: l) :
    tpRxdRead p who s =
      (((s.setTport p { s.tport p with rx := l }).tpCross p (l.length + 1)).tpNext p).returns (BitVec.ofNat 64 (2 ^ 31 + e)) := by
  rw [tpRxdRead, if_neg (by simp [h])]
  dsimp only
  rw [hrx]
  rfl

end

/-! ## Configuration -/

/-- A write that clears EN while a character is in the shifter: rate and format wait, the port closes. -/
theorem State.writeTpCfg_closes {p : Nat} {who : Who} {v : Word} {s s1 s2 : State} (hg : s.gate who .TP_CFG p = .pass)
    (hwas : s.flag F.TP_CFG_EN p = true) (hshift : (s.tport p).shifter ≠ none)
    (h1 : s1 = s.setReg .TP_CFG p (tpCfgForm (plainWrite .TP_CFG (s.reg .TP_CFG p) v)))
    (h2 : s2 = s1.setReg .TP_BAUD p (tpBaudForm (s1.reg .TP_CFG p) (s1.reg .TP_BAUD p))) (hnow : s2.flag F.TP_CFG_EN p = false) :
    s.writeTpCfg p who v = s2.tpClose p := by
  have hsending : (s2.tport p).shifter.isNone = false := by
    subst h2 h1
    exact Option.isNone_eq_false_iff.2 (Option.isSome_iff_ne_none.2 hshift)
  refine (State.gated_pass hg _).trans ?_
  dsimp only
  rw [← h1, ← h2, hsending, if_neg Bool.false_ne_true, hwas, hnow]

/-- Settles O40, form by form: what the receiver, the transmitter and the break detector do, the commands and writes at their gate, and the
closing of a port (log entry 97 has the registers a boundary takes). -/
theorem trailPortsSendAndReceive : Obligations.TrailPortsSendAndReceive := by
  refine ⟨fun p data s s0 hp hlisten hheld hmode hparity hflow _ h0 =>
      next_congr (tpCharReceived_plain hp hlisten hheld hmode hparity hflow h0),
    fun p data bit stop s h => next_congr (tpCharReceived_held h),
    fun p who s h => ⟨fun hrx => next_congr (tpRxdRead_empty h hrx), fun e l hrx => next_congr (tpRxdRead_oldest h hrx)⟩,
    fun p who v s hg => ?txd, fun p s hshift hmode => next_congr (if_pos ⟨hshift, hmode⟩), fun p who s hg => ?commands, fun p s hp => ?rate,
    fun p s hp hlisten hheld hmode hdue => next_congr (if_pos ⟨hlisten, hheld, hmode, hp, ?due⟩), fun p s h => next_congr (if_pos h),
    fun p data s s1 hshift hmode hdrain h1 => ?sync, fun p who v s s1 s2 hg hwas hshift h1 h2 hnow =>
      next_congr (State.writeTpCfg_closes hg hwas hshift h1 h2 hnow)⟩
  case txd =>
    exact ⟨fun hroom => next_congr ((State.gated_pass hg _).trans (if_neg (Nat.not_le.2 hroom))),
      fun hfull => next_congr ((State.gated_pass hg _).trans (if_pos hfull))⟩
  case commands =>
    exact ⟨next_congr (State.gated_pass hg _), next_congr (State.gated_pass hg _), next_congr (State.gated_pass hg _),
      next_congr (State.gated_pass hg _)⟩
  case rate =>
    have hport (tx : Bool) : tpRateChangeApply p tx s =
        if tx then (if (s.tport p).shifter.isSome then s else (s.tpTxApply p).tpNext p) else s.tpRxApply p := if_neg (Nat.not_le.2 hp)
    exact ⟨fun hidle => next_congr ((hport true).trans ((if_pos rfl).trans (if_neg (by simp [hidle])))),
      fun hbusy => next_congr ((hport true).trans ((if_pos rfl).trans (if_pos (Option.isSome_iff_ne_none.2 hbusy)))),
      next_congr ((hport false).trans (if_neg Bool.false_ne_true))⟩
  case due =>
    cases hfell : (s.tport p).fell with
    | none => rfl
    | some t => exact decide_eq_true (hdue t hfell)
  case sync =>
    subst h1
    have hrun : tpSyncChar p data s = _ := if_pos ⟨hshift, hmode⟩
    refine next_congr (hrun.trans ?_)
    rw [hdrain, if_neg Bool.false_ne_true]

end Sys2Proof.Machine
end
